-- ==== Sys2Proof/Word.lean ====
section
/-!
DEFINITION. The machine words of the TV-32M and the sparse maps every indexed store of the model uses.
-/

namespace Sys2Proof

/-- A data word of a lane, of a memory, of an item or of an output port: 24 bits (R6, 00_scope). -/
abbrev Word24 := BitVec 24

/-- An accumulator of a lane: 56 bits (R6, 00_scope). -/
abbrev Word56 := BitVec 56

/-- An instruction word of the Cybinth engine: 48 bits (R100, 04_cybinth_engine). -/
abbrev Word48 := BitVec 48

/-- One byte of host memory, of an image or of a frame. -/
abbrev Byte := BitVec 8

/-- A sparse map from numbers: keys strictly rising, no entry equal to the default of the map. -/
abbrev SMap (α : Type) := List (Nat × α)

/-- The value at `k`, `d` where the map lists nothing. -/
def SMap.get {α : Type} (m : SMap α) (k : Nat) (d : α) : α :=
  match m with
  | [] => d
  | (j, v) :: r => if j = k then v else SMap.get r k d

/-- Remove the entry at `k`. -/
def SMap.erase {α : Type} (m : SMap α) (k : Nat) : SMap α :=
  match m with
  | [] => []
  | (j, v) :: r => if j = k then SMap.erase r k else (j, v) :: SMap.erase r k

/-- Put `v` at `k`, keeping the keys rising. -/
def SMap.put {α : Type} (m : SMap α) (k : Nat) (v : α) : SMap α :=
  match m with
  | [] => [(k, v)]
  | (j, w) :: r =>
    if j = k then (k, v) :: r else if k < j then (k, v) :: (j, w) :: r else (j, w) :: SMap.put r k v

/-- Write `v` at `k` in a map whose default is `d`: writing the default removes the entry, so that equal maps are
equal data. -/
def SMap.set {α : Type} [DecidableEq α] (m : SMap α) (k : Nat) (v d : α) : SMap α :=
  if v = d then SMap.erase m k else SMap.put m k v

/-- Keys strictly rising above `lo`, no entry equal to `d`. -/
def SMap.wfFrom {α : Type} [DecidableEq α] (d : α) : Option Nat → SMap α → Bool
  | _, [] => true
  | none, (j, v) :: r => decide (v ≠ d) && SMap.wfFrom d (some j) r
  | some lo, (j, v) :: r => decide (lo < j) && decide (v ≠ d) && SMap.wfFrom d (some j) r

/-- The canonical form of a sparse map with default `d`. -/
def SMap.wf {α : Type} [DecidableEq α] (d : α) (m : SMap α) : Bool := SMap.wfFrom d none m

end Sys2Proof
end

