-- ==== Sys2Proof/Syntax.lean ====
section
/-!
DEFINITION. The commands the TV-32M takes, one constructor for each row of the command table, with their operands.
-/

namespace Sys2Proof

/-- A copy of a lane: unit (0 A, 1 B), lane pair 0 to 11, copy (0 windward, 1 leeward) (R100). -/
structure CopyId where
  unit : Fin 2
  lane : Fin 12
  copy : Fin 2
  deriving DecidableEq, Repr

/-- Update of a pointer after an access (Table 04.5, UPD). -/
inductive Upd where
  | none | inc | dec | step
  deriving DecidableEq, Repr

/-- A register of a move or a POST: CLS and REG (Table 04.5). -/
inductive RegRef where
  | d (n : Fin 8)
  | a (n : Fin 8)
  deriving DecidableEq, Repr

/-- A parallel move (R108, R109, Table 04.5). -/
inductive Move where
  | none
  | load (r : RegRef) (ptr : Fin 8) (upd : Upd)
  | store (r : RegRef) (ptr : Fin 8) (upd : Upd) (delta : Bool)
  | coef (r : RegRef) (ptr : Fin 8) (upd : Upd)
  deriving DecidableEq, Repr

/-- The fields of a Format A instruction beside its OP (Table 04.4). -/
structure FmtA where
  dst : Fin 8
  s1 : Fin 8
  s2 : Fin 8
  xm : Move
  ym : Move
  deriving DecidableEq, Repr

/-- The register class of LDI (Table 04.7). -/
inductive LdiCls where
  | d | p | m | a
  deriving DecidableEq, Repr

/-- Condition codes of BRA, CALL and RET (Table 04.8). -/
inductive Cond where
  | al | eq | ne | mi | pl | gt | le | gs | gc | ws | wc | ss | sc
  deriving DecidableEq, Repr

/-- Operations of Format A (Table 04.6). -/
inductive AOp where
  | nop | prod | padd | psub | prnd | addd | subd | adda | suba | copy | widen | neg | abs | zero | max | min
  | round | clip | cmp | tst | and | or | xor | quot | root | trig | padr | pack | high
  deriving DecidableEq, Repr

/-- One instruction of a lane (R108, R110). -/
inductive LaneOp where
  /-- Format A. -/
  | fmtA (op : AOp) (f : FmtA)
  | end_
  | ldi (cls : LdiCls) (reg : Fin 8) (imm : Word24)
  | shl (acc : Fin 8) (n : Nat)
  | shr (acc : Fin 8) (n : Nat)
  | bra (cond : Cond) (target : Nat)
  | call (cond : Cond) (target : Nat)
  | ret (cond : Cond)
  /-- LOOP with an immediate count or a d register (SRC), and the last address of its body. -/
  | loop (count : Nat ⊕ Fin 8) (last : Nat)
  | post (r : RegRef) (port : Nat)
  /-- `y` selects the memory, `delta` is the D bit. -/
  | lst (acc ptr : Fin 8) (y delta : Bool)
  | lld (acc ptr : Fin 8) (y : Bool)
  /-- `toD` is DIR: false pointer from d, true d from pointer. -/
  | xfr (toD : Bool) (dreg ptr : Fin 8)
  | addp (ptr : Fin 8) (offset : Nat)
  deriving DecidableEq, Repr

/-- A descriptor, 64 bytes in host memory (R77). -/
structure Desc where
  opcode : Nat
  applyAtEn : Bool := false
  irqNow : Bool := false
  chain : Bool := false
  indirect : Bool := false
  last : Bool := false
  /-- Bits [15:13], reserved. -/
  spare : Nat := 0
  objId : Nat := 0
  tag : Nat := 0
  applyAt : Nat := 0
  hostAddr : Nat := 0
  offset : Nat := 0
  length : Nat := 0
  param : Nat := 0
  /-- The inline area, 256 bits. -/
  inline : Nat := 0
  deriving DecidableEq, Repr


/-- What an Announce message says of a clock: the data set that the best master clock algorithm compares (IEEE 1588-2019). -/
structure PtpClock where
  prio1 : Nat := 0
  cls : Nat := 0
  acc : Nat := 0
  var : Nat := 0
  prio2 : Nat := 0
  /-- grandmasterIdentity and stepsRemoved. -/
  id : Nat := 0
  steps : Nat := 0
  deriving DecidableEq, Repr

/-- What a PTP message carries beside its type, domain, sequenceId and ports (R312, R313; IEEE 1588-2019). -/
structure PtpBody where
  twoStep : Bool := false
  /-- correctionField, in 2^-16 ns. -/
  corr : Int := 0
  /-- The timestamp in the message's body, in ns since the PTP epoch. -/
  time : Nat := 0
  clock : PtpClock := {}
  deriving DecidableEq, Repr

/-- A PTP message (R312, R313; IEEE 1588-2019). -/
structure PtpMsg extends PtpBody where
  mtype : Nat
  domain : Nat := 0
  seqId : Nat := 0
  /-- sourcePortIdentity and requestingPortIdentity: clockIdentity × 2^16 + portNumber. -/
  src : Nat := 0
  req : Nat := 0
  deriving DecidableEq, Repr

/-- A message that is complete at the present tick, `sub` sixteenths into it (R314). -/
structure PtpRx where
  msg : PtpMsg
  sub : Fin 16
  deriving DecidableEq, Repr

/-- The sequenceId of a transmitted message, and when in the tick its stamp is taken, in sixteenths (R314, R315). -/
structure SeqAt where
  seqId : Fin 65536
  sub : Fin 16
  deriving DecidableEq, Repr

/-- Input `n` of `k`, whose lines have held their new levels for `held` samples beyond the first (R230, R271). -/
structure HeldOn (k : Nat) where
  n : Fin k
  held : Fin 256
  deriving DecidableEq, Repr

/-- Line Z of channel `n` at level `z`, held for `held` samples beyond the first (R271, R275). -/
structure ZLevel where
  n : Fin 32
  z : Bool
  held : Fin 256
  deriving DecidableEq, Repr

/-- The latest data bits of sigma-delta input `n`, the newest in bit 0 (R300). -/
structure SdLine where
  n : Fin 96
  line : Nat
  deriving DecidableEq, Repr

/-- One cyclic frame, sent or received (Table 10.4). -/
structure CycFrame where
  channel : Nat
  producer : Nat
  stale : Bool
  hold : Bool
  seq : Nat
  mark : Nat
  srcSeq : Nat
  words : List Word24
  deriving DecidableEq, Repr

/-- A CAN frame (Table 10.5). -/
structure CanFrame where
  /-- [28:0] identifier, [29] IDE, [30] RTR. -/
  id : Nat
  /-- 0 classic, 1 FD, 2 XL. -/
  format : Nat
  /-- [0] BRS, [1] ESI, [2] ONE_SHOT, [3] SEC. -/
  flags : Nat
  len : Nat
  sdt : Nat := 0
  vcid : Nat := 0
  af : Nat := 0
  /-- The data bytes, little-endian. -/
  data : Nat := 0
  deriving DecidableEq, Repr

/-- A block whose fence is raised until its reset ends (R57 to R62). -/
inductive FenceId where
  | fb (n : Nat)
  | pwm (g : Nat)
  | can (c : Nat)
  | eth (p : Nat)
  | lane (unit l : Nat)
  | unit (u : Nat)
  | host
  deriving DecidableEq, Repr

/-- A ring by its kind and number (R72). -/
inductive RingId where
  | cr (n : Fin 16)
  | cq (m : Fin 16)
  | eq
  | bq (b : Fin 2)
  deriving DecidableEq, Repr

/-- Where a host write goes: BAR0, BAR2, or a register of the function's capabilities: MSI-X Message Control, Command, Device Control,
Link Control, power state (R67, R68). -/
inductive RegSpace where
  | bar0 | bar2 | msixControl | command | deviceControl | linkControl | powerState
  deriving DecidableEq, Repr

/-- The ring place of a descriptor, with the fields every opcode has: TAG and IRQ_NOW (R77). -/
structure Src where
  ring : Fin 16
  index : Fin 4096
  phase : Bool
  tag : Fin (2 ^ 32) := 0
  irqNow : Bool := false
  deriving DecidableEq, Repr

/-- The ring place of a bulk descriptor. -/
structure BulkSrc where
  index : Fin 4096
  phase : Bool
  tag : Fin (2 ^ 32) := 0
  irqNow : Bool := false
  deriving DecidableEq, Repr

/-- A message of a memory, of the PCI Express endpoint's error reporting or of a hub check, which no other command describes (R361). -/
structure ExtEvent where
  kind : Nat
  inst : Nat
  /-- KIND within the source, ADDRESS, and the data words. -/
  sub : Fin 256 := 0
  addr : Fin (2 ^ 32) := 0
  data : Fin (2 ^ 128) := 0
  dlen : Fin 3 := 0
  deriving DecidableEq, Repr

/-- The commands of the block: one constructor for each row of the command table, with the operands of the row's text. A
value that the world outside the block decides (an answer of a device, a time, a level) is an operand. -/
inductive Instr where
  /-- RESET_N_LOW (R45). -/
  | resetNLow
  /-- RESET_N_RISE (R48). -/
  | resetNRise (lowNs : Nat) (selfTest readA readB : Bool) (lands : Fin (2 ^ 32))
  /-- DRAM_INIT_DONE (R48). -/
  | dramInitDone (lands : Fin (2 ^ 128))
  /-- PCIE_LINK_UP (R48). -/
  | pcieLinkUp (speed : Fin 4) (w : Fin 3)
  /-- PE_PERST_N (R444). -/
  | pePerstN (b0 b1 : Nat)
  /-- FUNCTION_LEVEL_RESET (R99). -/
  | functionLevelReset (b0 b1 : Nat)
  /-- REF_CLK_LOSS (R440). -/
  | refClkLoss
  /-- TIME_BASE_STOP (R267). -/
  | timeBaseStop
  /-- SUPPLY_BELOW_RANGE (R55). -/
  | supplyBelowRange
  /-- HIF_MTIME_LO_READ (R71). -/
  | hifMtimeLoRead
  /-- CR_DOORBELL (R76). -/
  | crDoorbell (n : Fin 16) (index : Fin 4096) (phase : Bool)
  /-- CQ_DOORBELL (R72). -/
  | cqDoorbell (m : Fin 16) (index : Fin 4096) (phase : Bool)
  /-- EQ_DOORBELL (R87). -/
  | eqDoorbell (index : Fin 4096) (phase : Bool)
  /-- BQ_DOORBELL (R83). -/
  | bqDoorbell (b : Fin 2) (index : Fin 4096) (phase : Bool)
  /-- RING_ENABLE (R72). -/
  | ringEnable (r : RingId) (v : Fin (2 ^ 32))
  /-- RING_DISABLE (R96). -/
  | ringDisable (r : RingId) (v : Fin (2 ^ 32))
  /-- REARM (R95). -/
  | rearm (r : Fin 18) (index : Fin 4096) (phase go : Bool)
  /-- REGISTER_WRITE (R70). -/
  | registerWrite (sp : RegSpace) (o : Fin 16384) (size : Fin 9) (v : Fin (2 ^ 32))
  /-- DESCRIPTOR_FETCH (R75). -/
  | descriptorFetch (r : Fin 18) (d : Desc)
  /-- DESCRIPTOR_VALIDATED (R81). -/
  | descriptorValidated (r : Fin 18) (host : Nat) (descErr dataErr : Option (Fin 8))
  /-- CONFIGURE_APPLY (R91). -/
  | configureApply (r : Fin 16) (lands : Nat)
  /-- MSIX_MOD_TIMER (R88). -/
  | msixModTimer (m : Fin 17)
  /-- MSIX_HELD_MESSAGE (R88). -/
  | msixHeldMessage (v : Fin 64)
  /-- NOP (R79). -/
  | nop (src : Src ⊕ (Fin 2 × BulkSrc))
  /-- OBJ_WRITE (R80). -/
  | objWrite (src : Src) (id off len : Fin 65536) (data : Nat) (lands : Nat)
  /-- OBJ_READ (R80). -/
  | objRead (src : Src) (id off len : Fin 65536) (hostAddr : Fin (2 ^ 64))
  /-- ABORT (R97). -/
  | abort (src : Src) (ring : Fin 16) (index : Fin 4096) (phase : Bool)
  /-- SWAP (R350). -/
  | swap (src : Src)
  /-- FAULT_ACK (R374). -/
  | faultAck (src : Src) (source : Fin 65536) (allInst all : Bool)
  /-- MOVE_POS (R177). -/
  | movePos (src : Src) (a : Fin 40) (target : Fin (2 ^ 48)) (speed : Fin (2 ^ 24)) (mode : Fin 8)
  /-- MOVE_VEL (R176). -/
  | moveVel (src : Src) (a : Fin 40) (speed : Fin (2 ^ 24))
  /-- STOP (R189). -/
  | stop (src : Src) (a : Fin 40)
  /-- QUICK_STOP (R190). -/
  | quickStop (src : Src) (a : Fin 40)
  /-- RESUME (R193). -/
  | resume (src : Src) (a : Fin 40)
  /-- GEAR_ENGAGE (R209). -/
  | gearEngage (src : Src) (a : Fin 40) (num den ramp : Fin (2 ^ 32)) (startEn : Bool) (startDir : Fin 4) (startPos : Fin (2 ^ 48))
  /-- CAM_ENGAGE (R218). -/
  | camEngage (src : Src) (a : Fin 40) (profile : Fin 64) (ymode xmode : Bool) (offset xOrg : Fin (2 ^ 48)) (blend : Fin (2 ^ 16))
  /-- DISENGAGE (R212). -/
  | disengage (src : Src) (a : Fin 40) (stop : Bool)
  /-- CARAVAN_SEG (R220). -/
  | caravanSeg (src : Src) (g : Fin 4) (len : Fin 153) (data : Fin (2 ^ 1216))
  /-- LATCH_ARM (R230). -/
  | latchArm (src : Src) (n : Fin 8)
  /-- COMPARE_ARM (R234). -/
  | compareArm (src : Src) (u : Fin 16) (pos step : Fin (2 ^ 32)) (count : Fin (2 ^ 16)) (dir : Fin 4)
  /-- CAN_TX (R326). -/
  | canTx (src : Src) (c : Fin 4) (len : Fin 2065) (data : Nat)
  /-- SURVEY_FREEZE (R407). -/
  | surveyFreeze (src : Src) (noCopy : Bool)
  /-- ATTEST (R423). -/
  | attest (src : Src) (nonce : Fin (2 ^ 256)) (hostAddr : Fin (2 ^ 64))
  /-- IMAGE_WRITE (R82). -/
  | imageWrite (src : BulkSrc) (slot : Fin 2) (block : Fin (2 ^ 24)) (len : Fin 4097) (last : Bool) (data : Nat)
  /-- TABLE_WRITE (R213). -/
  | tableWrite (src : BulkSrc) (upload : Bool) (first : Fin (2 ^ 32)) (len : Fin 4097) (last : Bool) (data : Nat)
  /-- SURVEY_READ (R412). -/
  | surveyRead (src : BulkSrc) (block : Fin (2 ^ 32)) (len : Fin 4097) (hostAddr : Fin (2 ^ 64))
  /-- LOG_READ (R377). -/
  | logRead (src : BulkSrc) (first : Fin 16384) (len : Fin 4097) (hostAddr : Fin (2 ^ 64))
  /-- MODE_REQUEST (R41). -/
  | modeRequest (src : Src) (mode : Fin 8)
  /-- RESET_FB_CHANNEL (R57). -/
  | resetFbChannel (src : Src) (n : Fin 32)
  /-- RESET_PWM_GROUP (R57). -/
  | resetPwmGroup (src : Src) (g : Fin 32)
  /-- RESET_CAN_CHANNEL (R57). -/
  | resetCanChannel (src : Src) (c : Fin 4)
  /-- RESET_ETH_PORT (R57). -/
  | resetEthPort (src : Src) (p : Fin 3)
  /-- RESET_LANE_PAIR (R57). -/
  | resetLanePair (src : Src) (u : Fin 2) (l : Fin 12)
  /-- RESET_UNIT (R63). -/
  | resetUnit (src : Src) (u : Fin 2) (pending : Bool)
  /-- RESET_MODULE (R57). -/
  | resetModule (src : Src) (selfTest readA readB : Bool) (lands : Fin (2 ^ 32))
  /-- FENCE_LOWERED (R62). -/
  | fenceLowered (b : FenceId) (readOk : Bool) (lands : Fin 8)
  /-- SLACK_CLR (R32). -/
  | slackClr (src : Src) (e : Fin 24)
  /-- BANK_SWAP (R137). -/
  | bankSwap (src : Src)
  /-- COEF_WRITE (R136). -/
  | coefWrite (src : Src) (bankB : Bool) (first : Fin 4096) (words : List Word24)
  /-- LANE_CLR (R139). -/
  | laneClr (src : Src) (e : Fin 24)
  /-- PWM_EN (R266). -/
  | pwmEn (src : Src) (g : Fin 32) (en : Bool)
  /-- TRIP_CLR (R263). -/
  | tripClr (src : Src) (g : Fin 32) (en : Bool)
  /-- PWM_CNT_CLR (R457). -/
  | pwmCntClr (src : Src) (g : Fin 32) (en : Bool)
  /-- PWM_AUX_WRITE (R258). -/
  | pwmAuxWrite (src : Src) (g : Fin 32) (v : Fin (2 ^ 112))
  /-- TRIPIN_WRITE (R260). -/
  | tripinWrite (src : Src) (actHigh : Fin (2 ^ 32)) (filter : Fin 256) (lands : Fin (2 ^ 32))
  /-- FB_CFG_WRITE (R270). -/
  | fbCfgWrite (src : Src) (n : Fin 32) (serial : Bool) (v : Fin (2 ^ 256)) (a b z : Bool)
  /-- PRESET (R289). -/
  | preset (src : Src) (n : Fin 32) (cmd : Fin 8) (arg : Fin 256) (val : Fin (2 ^ 32))
  /-- ARM_HOME (R276). -/
  | armHome (src : Src) (n : Fin 32) (cmd : Fin 8)
  /-- FB_CNT_CLR (R457). -/
  | fbCntClr (src : Src) (n : Fin 32) (cmd : Fin 8)
  /-- SER_GO (R289). -/
  | serGo (src : Src) (n : Fin 32) (cmd : Fin 8) (arg : Fin 256)
  /-- EMU_CFG_WRITE (R292). -/
  | emuCfgWrite (src : Src) (e : Fin 8) (v : Fin (2 ^ 64))
  /-- CS_STATUS_CLR (R457). -/
  | csStatusClr (src : Src) (i : Fin 96)
  /-- TIME_STATUS_CLR (R457). -/
  | timeStatusClr (src : Src)
  /-- ETH_STATUS_CLR (R457). -/
  | ethStatusClr (src : Src) (p : Fin 3)
  /-- CYC_RX_CLR (R457). -/
  | cycRxClr (src : Src) (r : Fin 16)
  /-- CAN_STATUS_CLR (R457). -/
  | canStatusClr (src : Src) (c : Fin 4)
  /-- FIO_STATUS_CLR (R457). -/
  | fioStatusClr (src : Src)
  /-- SURV_CLR (R457). -/
  | survClr (src : Src)
  /-- TAKEOVERS_CLR (R457). -/
  | takeoversClr (src : Src)
  /-- CAN_RXQ_RELEASE (R331). -/
  | canRxqRelease (src : Src) (c : Fin 4) (cons : Fin 256) (phase : Bool)
  /-- CAM_COMMIT (R214). -/
  | camCommit (src : Src) (first count : Fin (2 ^ 16))
  /-- MIGRATE (R354). -/
  | migrate (src : Src) (l : Fin 16)
  /-- UNRETIRE (R355). -/
  | unretire (src : Src) (u : Fin 2) (l : Fin 16)
  /-- FORCE (R371). -/
  | force (src : Src) (k inst : Fin 128) (on : Bool)
  /-- FIRST_CLR (R372). -/
  | firstClr (src : Src) (hi : Fin 128)
  /-- FIO_DI_CFG_WRITE (R383). -/
  | fioDiCfgWrite (src : Src) (i : Fin 32) (deb : Fin (2 ^ 16)) (pulsed inv : Bool)
  /-- UNFREEZE (R408). -/
  | unfreeze (src : Src)
  /-- EXPORT_SETUP (R412). -/
  | exportSetup (src : Src) (kind : Fin 4) (sign : Bool) (epoch first last : Fin (2 ^ 32))
  /-- REPLAY_LOAD (R414). -/
  | replayLoad (src : Src) (upload : Bool) (epoch first last : Fin (2 ^ 32))
  /-- GEN_ID (R426). -/
  | genId (src : Src) (code : Fin (2 ^ 16))
  /-- KEY_GEN_DONE (R426). -/
  | keyGenDone
  /-- OPEN (R427). -/
  | open_ (src : Src) (code : Fin (2 ^ 16))
  /-- ERASE_DONE (R427). -/
  | eraseDone
  /-- LOG_ERASE (R429). -/
  | logErase (src : Src) (code : Fin (2 ^ 16))
  /-- CFGKEY_WRITE (R425). -/
  | cfgkeyWrite (src : Src) (key : Fin (2 ^ 512)) (keyId : Fin (2 ^ 32))
  /-- HALT (R430). -/
  | halt (src : Src) (l : Fin 16) (brk : Bool)
  /-- STEP (R430). -/
  | step (src : Src) (l : Fin 16) (brk : Bool)
  /-- DEBUG_RESUME (R430). -/
  | debugResume (src : Src) (l : Fin 16) (brk : Bool)
  /-- LANEMEM_READ (R431). -/
  | lanememRead (src : Src) (space : Fin 4) (first : Fin 16384) (lee : Bool) (off len : Fin 4097) (hostAddr : Fin (2 ^ 64))
  /-- LANEMEM_WRITE (R431). -/
  | lanememWrite (src : Src) (space : Fin 4) (first : Fin 16384) (off len : Fin 4097) (data : Nat)
  /-- BOUNDARY (R20). -/
  | boundary (bits : List (Fin 96 × Nat)) (reach : Bool)
  /-- DEADLINE (R27). -/
  | deadline
  /-- MID_PERIOD_TRANSFER (R256). -/
  | midPeriodTransfer
  /-- MEASUREMENT_INSTANT (R277). -/
  | measurementInstant
  /-- OUTPUT_WORD (R22). -/
  | outputWord (u : Fin 2) (l : Fin 12)
  /-- DELTA_WORD (R337). -/
  | deltaWord (u : Fin 2) (l : Fin 12)
  /-- END_MARKER (R132). -/
  | endMarker (u : Fin 2) (l : Fin 12)
  /-- CAIRN_SEAL (R338). -/
  | cairnSeal
  /-- BB_COPY_DONE (R410). -/
  | bbCopyDone
  /-- MIRROR_APPLY (R339). -/
  | mirrorApply
  /-- FULL_CAIRN_READ (R404). -/
  | fullCairnRead (pos : Fin 10)
  /-- RESTORATION_DONE (R342). -/
  | restorationDone
  /-- EVAL_WINDOW_END (R352). -/
  | evalWindowEnd
  /-- DRAM_SCRUB (R357). -/
  | dramScrub (rows : List (Fin 32 × Fin 65536))
  /-- FAULT_EVENT (R368). -/
  | faultEvent (e : Option ExtEvent)
  /-- ALIVE_TOGGLE (R378). -/
  | aliveToggle
  /-- TRIP_INPUT (R261). -/
  | tripInput (n : Fin 32)
  /-- TRIP_AFTER_BLANKING (R262). -/
  | tripAfterBlanking (g n : Fin 32)
  /-- OVERCURRENT_COMPARATOR (R299). -/
  | overcurrentComparator (i : Fin 96) (line : Nat)
  /-- TRIGGER_FIRE (R259). -/
  | triggerFire (g : Fin 32) (b : Bool)
  /-- PWM_EDGE (R242). -/
  | pwmEdge (g : Fin 32) (l : Fin 3)
  /-- DEAD_TIME_EXPIRY (R247). -/
  | deadTimeExpiry (g : Fin 32) (k : Fin 6)
  /-- MIN_PULSE_EXPIRY (R249). -/
  | minPulseExpiry (g : Fin 32) (k : Fin 6)
  /-- QUAD_CHANGE (R273). -/
  | quadChange (n : HeldOn 32) (a b : Bool)
  /-- COMPARE_PULSE_END (R236). -/
  | comparePulseEnd (u : Fin 16)
  /-- HALL_CHANGE (R274). -/
  | hallChange (n : HeldOn 32) (a b z : Bool)
  /-- INDEX_EDGE (R276). -/
  | indexEdge (n : ZLevel)
  /-- SERIAL_FRAME_START (R282). -/
  | serialFrameStart (n : Fin 32)
  /-- SERIAL_FRAME_COMPLETE (R283). -/
  | serialFrameComplete (n : Fin 32) (head : Bool) (delay : Fin 65536) (bits : Nat)
  /-- KARSEL_TIMEOUT (R286). -/
  | karselTimeout (n : Fin 32)
  /-- EMU_STEP (R292). -/
  | emuStep (e : Fin 8)
  /-- SD_STUCK (R300). -/
  | sdStuck (i : Fin 96) (line : Nat)
  /-- LATCH_EDGE (R230). -/
  | latchEdge (n : HeldOn 8) (rising : Bool)
  /-- SYNC_RECEIVED (R309). -/
  | syncReceived (p : Fin 3) (m : PtpRx)
  /-- PTP_MESSAGE_RX (R313). -/
  | ptpMessageRx (p : Fin 3) (mtype domain seqId src req : Nat) (body : PtpBody) (sub : Fin 16)
  /-- PTP_MESSAGE_TX (R313). -/
  | ptpMessageTx (p : Fin 3) (mtype : Fin 16) (seqId : Fin 65536)
  /-- ANNOUNCE_RECEIPT_TIMEOUT (R309). Its port decides all: the three further operands carry nothing. -/
  | announceReceiptTimeout (p : Fin 3) (u v w : Unit)
  /-- TX_TIMESTAMP (R315). -/
  | txTimestamp (p : Fin 3) (mtype : Fin 4) (seqId : SeqAt)
  /-- ETH_LINK_CHANGE (R332). -/
  | ethLinkChange (p : Fin 3) (up : Bool) (speed : Fin 5)
  /-- ETH_FRAME_RX (R317). -/
  | ethFrameRx (p : Fin 3) (fcs : Bool)
  /-- CYC_FRAME_SEND (R319). -/
  | cycFrameSend (t : Fin 8)
  /-- CYC_FRAME_RX (R320). -/
  | cycFrameRx (p : Fin 3) (fcs : Bool) (version subtype : BitVec 8) (rest : List (BitVec 8))
  /-- CAN_START_OF_FRAME (R98). -/
  | canStartOfFrame (c : Fin 4)
  /-- CAN_FRAME_END (R327). -/
  | canFrameEnd (c : Fin 4) (ok err : Bool) (tec recErr : Fin 512)
  /-- CAN_FRAME_RX (R329). -/
  | canFrameRx (c : Fin 4) (f : CanFrame) (dur : Nat) (recErr : Fin 512)
  /-- CAN_BUS_OFF (R327). -/
  | canBusOff (c : Fin 4)
  /-- ISO_DOWN_FRAME (R393). -/
  | isoDownFrame
  /-- ISO_UP_FRAME (R393). -/
  | isoUpFrame (e0 e1 : Option (List (BitVec 8))) (di : Nat) (rb limit : Fin 65536) (supply : Fin 256)
  /-- ISO_UP_SLOT_TIMEOUT (R395). -/
  | isoUpSlotTimeout
  /-- ISLAND_DOWN_FRAME (R394). -/
  | islandDownFrame (e0 e1 : Option (List (BitVec 8)))
  /-- ISLAND_SLOT_TIMEOUT (R395). -/
  | islandSlotTimeout
  /-- ISLAND_SWITCH (R388). -/
  | islandSwitch (c : Fin 16)
  /-- DO_SHUTDOWN (R390). -/
  | doShutdown (c : Fin 16)
  /-- DO_RETRY (R390). -/
  | doRetry (c : Fin 16)
  /-- FIELD_SUPPLY_LOSS (R380). -/
  | fieldSupplyLoss
  /-- LANE_NOP (R113). -/
  | laneNop (c : CopyId) (f : FmtA)
  /-- PROD (R113). -/
  | prod (c : CopyId) (f : FmtA)
  /-- PADD (R113). -/
  | padd (c : CopyId) (f : FmtA)
  /-- PSUB (R113). -/
  | psub (c : CopyId) (f : FmtA)
  /-- PRND (R113). -/
  | prnd (c : CopyId) (f : FmtA)
  /-- ADDD (R113). -/
  | addd (c : CopyId) (f : FmtA)
  /-- SUBD (R113). -/
  | subd (c : CopyId) (f : FmtA)
  /-- ADDA (R113). -/
  | adda (c : CopyId) (f : FmtA)
  /-- SUBA (R113). -/
  | suba (c : CopyId) (f : FmtA)
  /-- COPY (R113). -/
  | copy (c : CopyId) (f : FmtA)
  /-- WIDEN (R113). -/
  | widen (c : CopyId) (f : FmtA)
  /-- NEG (R113). -/
  | neg (c : CopyId) (f : FmtA)
  /-- ABS (R113). -/
  | abs (c : CopyId) (f : FmtA)
  /-- ZERO (R113). -/
  | zero (c : CopyId) (f : FmtA)
  /-- MAX (R113). -/
  | max (c : CopyId) (f : FmtA)
  /-- MIN (R113). -/
  | min (c : CopyId) (f : FmtA)
  /-- ROUND (R113). -/
  | round (c : CopyId) (f : FmtA)
  /-- CLIP (R113). -/
  | clip (c : CopyId) (f : FmtA)
  /-- CMP (R113). -/
  | cmp (c : CopyId) (f : FmtA)
  /-- TST (R113). -/
  | tst (c : CopyId) (f : FmtA)
  /-- AND (R113). -/
  | and (c : CopyId) (f : FmtA)
  /-- OR (R113). -/
  | or (c : CopyId) (f : FmtA)
  /-- XOR (R113). -/
  | xor (c : CopyId) (f : FmtA)
  /-- QUOT (R113). -/
  | quot (c : CopyId) (f : FmtA)
  /-- ROOT (R113). -/
  | root (c : CopyId) (f : FmtA)
  /-- TRIG (R121). -/
  | trig (c : CopyId) (f : FmtA)
  /-- PADR (R113). -/
  | padr (c : CopyId) (f : FmtA)
  /-- PACK (R118). -/
  | pack (c : CopyId) (f : FmtA)
  /-- HIGH (R113). -/
  | high (c : CopyId) (f : FmtA)
  /-- END (R130). -/
  | end_ (c : CopyId)
  /-- LDI (R114). -/
  | ldi (c : CopyId) (cls : LdiCls) (reg : Fin 8) (imm : Word24)
  /-- SHL (R114). -/
  | shl (c : CopyId) (acc : Fin 8) (n : Fin 64)
  /-- SHR (R114). -/
  | shr (c : CopyId) (acc : Fin 8) (n : Fin 64)
  /-- BRA (R116). -/
  | bra (c : CopyId) (cond : Cond) (target : Fin 8192)
  /-- CALL (R122). -/
  | call (c : CopyId) (cond : Cond) (target : Fin 8192)
  /-- RET (R122). -/
  | ret (c : CopyId) (cond : Cond)
  /-- LOOP (R123). -/
  | loop (c : CopyId) (count : Fin 65536 ⊕ Fin 8) (last : Fin 8192)
  /-- POST (R133). -/
  | post (c : CopyId) (r : RegRef) (port : Fin 65536)
  /-- LST (R119). -/
  | lst (c : CopyId) (acc ptr : Fin 8) (y delta : Bool)
  /-- LLD (R119). -/
  | lld (c : CopyId) (acc ptr : Fin 8) (y : Bool)
  /-- XFR (R114). -/
  | xfr (c : CopyId) (toD : Bool) (dreg ptr : Fin 8)
  /-- ADDP (R114). -/
  | addp (c : CopyId) (ptr : Fin 8) (offset : Fin 16384)
  /-- PCIE_LINK_DOWN (R48). -/
  | pcieLinkDown
  /-- PE_PERST_N_RELEASE (R444). -/
  | pePerstNRelease
  /-- BUS_MASTER_ENABLE (R69). -/
  | busMasterEnable
  /-- FIELD_SUPPLY_RETURN (R380). -/
  | fieldSupplyReturn
  /-- TRIP_INPUT_INACTIVE (R260). -/
  | tripInputInactive (n : Fin 32)
  /-- COMPARATOR_INACTIVE (R299). -/
  | comparatorInactive (i : Fin 96) (line : Nat)
  /-- SD_STUCK_END (R300). -/
  | sdStuckEnd (n : SdLine)
  /-- CAN_BUS_INTEGRATION (R57). -/
  | canBusIntegration (c : Fin 4)
  /-- BULK_TRANSFER_DONE (R83). -/
  | bulkTransferDone (b : Fin 2)
  /-- VCORE_SAG (R52). -/
  | vcoreSag (u : Fin 2)
  /-- SVC_TCK_EDGE (R447). -/
  | svcTckEdge (level tms tdi trstN : Bool) (lands : Fin (2 ^ 500))
  deriving DecidableEq, Repr

end Sys2Proof
end

