-- ==== Sys2Proof/Decode.lean ====
section
/-!
DEFINITION. The instruction words of the Cybinth lanes (Tables 04.4 to 04.8): decoding, with every reserved encoding refused, and
encoding. The command table gives its rows no bits, so that no word spells a command.
-/

namespace Sys2Proof

/-- The command a word of the command table's bits spells: none, since the table gives no row any bits. -/
def decodeTableWord (_nbits _w : Nat) : Option Instr := none

/-- Bits [lo + n − 1 : lo] of an instruction word. -/
def bitsAt (w lo n : Nat) : Nat := w / 2 ^ lo % 2 ^ n

/-- OP of a Format A operation (Table 04.6). -/
def AOp.code : AOp → Nat
  | .nop => 0x00
  | .prod => 0x01
  | .padd => 0x02
  | .psub => 0x03
  | .prnd => 0x04
  | .addd => 0x05
  | .subd => 0x06
  | .adda => 0x07
  | .suba => 0x08
  | .copy => 0x09
  | .widen => 0x0A
  | .neg => 0x0B
  | .abs => 0x0C
  | .zero => 0x0D
  | .max => 0x0E
  | .min => 0x0F
  | .round => 0x10
  | .clip => 0x11
  | .cmp => 0x12
  | .tst => 0x13
  | .and => 0x14
  | .or => 0x15
  | .xor => 0x16
  | .quot => 0x17
  | .root => 0x18
  | .trig => 0x19
  | .padr => 0x1A
  | .pack => 0x1B
  | .high => 0x1C

/-- The Format A operation of an OP value; none for a reserved one. -/
def AOp.ofCode : Nat → Option AOp
  | 0x00 => some .nop
  | 0x01 => some .prod
  | 0x02 => some .padd
  | 0x03 => some .psub
  | 0x04 => some .prnd
  | 0x05 => some .addd
  | 0x06 => some .subd
  | 0x07 => some .adda
  | 0x08 => some .suba
  | 0x09 => some .copy
  | 0x0A => some .widen
  | 0x0B => some .neg
  | 0x0C => some .abs
  | 0x0D => some .zero
  | 0x0E => some .max
  | 0x0F => some .min
  | 0x10 => some .round
  | 0x11 => some .clip
  | 0x12 => some .cmp
  | 0x13 => some .tst
  | 0x14 => some .and
  | 0x15 => some .or
  | 0x16 => some .xor
  | 0x17 => some .quot
  | 0x18 => some .root
  | 0x19 => some .trig
  | 0x1A => some .padr
  | 0x1B => some .pack
  | 0x1C => some .high
  | _ => none

/-- COND of a condition (Table 04.8). -/
def Cond.code : Cond → Nat
  | .al => 0x0
  | .eq => 0x1
  | .ne => 0x2
  | .mi => 0x3
  | .pl => 0x4
  | .gt => 0x5
  | .le => 0x6
  | .gs => 0x7
  | .gc => 0x8
  | .ws => 0x9
  | .wc => 0xA
  | .ss => 0xB
  | .sc => 0xC

/-- The condition of a COND value; none for a reserved one (R116). -/
def Cond.ofCode : Nat → Option Cond
  | 0x0 => some .al
  | 0x1 => some .eq
  | 0x2 => some .ne
  | 0x3 => some .mi
  | 0x4 => some .pl
  | 0x5 => some .gt
  | 0x6 => some .le
  | 0x7 => some .gs
  | 0x8 => some .gc
  | 0x9 => some .ws
  | 0xA => some .wc
  | 0xB => some .ss
  | 0xC => some .sc
  | _ => none

/-- UPD of a pointer update (Table 04.5). -/
def Upd.code : Upd → Nat
  | .none => 0
  | .inc => 1
  | .dec => 2
  | .step => 3

def Upd.ofCode : Nat → Upd
  | 0 => .none
  | 1 => .inc
  | 2 => .dec
  | _ => .step

/-- CLS and REG of a register, four bits. -/
def RegRef.code : RegRef → Nat
  | .d n => n.val
  | .a n => 8 + n.val

/-- A register number of three bits. -/
def reg3 (n : Nat) : Fin 8 := Fin.ofNat 8 n

def RegRef.ofCode (n : Nat) : RegRef := if n < 8 then .d (reg3 n) else .a (reg3 n)

/-- A move field (Table 04.5). -/
def Move.code : Move → Nat
  | .none => 0
  | .load r p u => 0x4000 + r.code * 2 ^ 10 + p.val * 2 ^ 7 + u.code * 2 ^ 5
  | .store r p u d => 0x8000 + r.code * 2 ^ 10 + p.val * 2 ^ 7 + u.code * 2 ^ 5 + d.toNat * 2 ^ 4
  | .coef r p u => 0xC000 + r.code * 2 ^ 10 + p.val * 2 ^ 7 + u.code * 2 ^ 5

/-- The move of a field; none where D is 1 on a kind other than store or a reserved bit is 1 (R111). -/
def Move.ofCode (w : Nat) : Option Move :=
  let r := RegRef.ofCode (bitsAt w 10 4)
  let p := reg3 (bitsAt w 7 3)
  let u := Upd.ofCode (bitsAt w 5 2)
  let d := bitsAt w 4 1
  if bitsAt w 0 4 ≠ 0 then Option.none
  else
    match bitsAt w 14 2 with
    | 0 => if d = 0 then some .none else Option.none
    | 1 => if d = 0 then some (.load r p u) else Option.none
    | 2 => some (.store r p u (d == 1))
    | _ => if d = 0 then some (.coef r p u) else Option.none

/-- CLS of LDI (Table 04.7). -/
def LdiCls.code : LdiCls → Nat
  | .d => 0
  | .p => 1
  | .m => 2
  | .a => 3

def LdiCls.ofCode : Nat → LdiCls
  | 0 => .d
  | 1 => .p
  | 2 => .m
  | _ => .a

/-! ### Words -/

/-- Bit 47 and OP of Format B. -/
def formatB (op : Nat) : Nat := 2 ^ 47 + op * 2 ^ 41

/-- The word of an instruction (Tables 04.4 and 04.7). -/
def encodeLane : LaneOp → Nat
  | .fmtA op f =>
    op.code * 2 ^ 41 + f.dst.val * 2 ^ 38 + f.s1.val * 2 ^ 35 + f.s2.val * 2 ^ 32 + f.xm.code * 2 ^ 16 + f.ym.code
  | .end_ => formatB 0x00
  | .ldi c r imm => formatB 0x01 + r.val * 2 ^ 38 + c.code * 2 ^ 36 + imm.toNat
  | .shl a n => formatB 0x02 + a.val * 2 ^ 38 + n * 2 ^ 32
  | .shr a n => formatB 0x03 + a.val * 2 ^ 38 + n * 2 ^ 32
  | .bra c t => formatB 0x04 + c.code * 2 ^ 37 + t
  | .call c t => formatB 0x05 + c.code * 2 ^ 37 + t
  | .ret c => formatB 0x06 + c.code * 2 ^ 37
  | .loop (.inl n) e => formatB 0x07 + n * 2 ^ 21 + e
  | .loop (.inr r) e => formatB 0x07 + 2 ^ 40 + r.val * 2 ^ 37 + e
  | .post r p => formatB 0x08 + r.code * 2 ^ 37 + p
  | .lst a p y d => formatB 0x09 + a.val * 2 ^ 38 + p.val * 2 ^ 35 + y.toNat * 2 ^ 34 + d.toNat * 2 ^ 33
  | .lld a p y => formatB 0x0A + a.val * 2 ^ 38 + p.val * 2 ^ 35 + y.toNat * 2 ^ 34
  | .xfr t d p => formatB 0x0B + t.toNat * 2 ^ 40 + d.val * 2 ^ 37 + p.val * 2 ^ 34
  | .addp p o => formatB 0x0C + p.val * 2 ^ 38 + o

/-- A word of Format A. -/
def decodeA (w : Nat) : Option LaneOp :=
  match AOp.ofCode (bitsAt w 41 6), Move.ofCode (bitsAt w 16 16), Move.ofCode (bitsAt w 0 16) with
  | some op, some x, some y =>
    some (.fmtA op { dst := reg3 (bitsAt w 38 3), s1 := reg3 (bitsAt w 35 3), s2 := reg3 (bitsAt w 32 3), xm := x, ym := y })
  | _, _, _ => none

/-- An instruction whose reserved bits are all 0. -/
def ifClear (reserved : Nat) (op : LaneOp) : Option LaneOp := if reserved = 0 then some op else none

/-- A condition and what it makes of an instruction whose reserved bits are all 0. -/
def withCond (w reserved : Nat) (f : Cond → LaneOp) : Option LaneOp :=
  match Cond.ofCode (bitsAt w 37 4) with
  | some c => ifClear reserved (f c)
  | none => none

/-- A word of Format B. LOOP's COUNT is unused with SRC = 1, and its DREG with SRC = 0. -/
def decodeB (w : Nat) : Option LaneOp :=
  let r := reg3 (bitsAt w 38 3)
  match bitsAt w 41 6 with
  | 0x00 => ifClear (bitsAt w 0 41) .end_
  | 0x01 => ifClear (bitsAt w 24 12) (.ldi (LdiCls.ofCode (bitsAt w 36 2)) r (BitVec.ofNat 24 (bitsAt w 0 24)))
  | 0x02 => ifClear (bitsAt w 0 32) (.shl r (bitsAt w 32 6))
  | 0x03 => ifClear (bitsAt w 0 32) (.shr r (bitsAt w 32 6))
  | 0x04 => withCond w (bitsAt w 13 24) fun c => .bra c (bitsAt w 0 13)
  | 0x05 => withCond w (bitsAt w 13 24) fun c => .call c (bitsAt w 0 13)
  | 0x06 => withCond w (bitsAt w 0 37) fun c => .ret c
  | 0x07 =>
    ifClear (bitsAt w 13 8) (.loop (if bitsAt w 40 1 = 0 then .inl (bitsAt w 21 16) else .inr (reg3 (bitsAt w 37 3))) (bitsAt w 0 13))
  | 0x08 => ifClear (bitsAt w 16 21) (.post (RegRef.ofCode (bitsAt w 37 4)) (bitsAt w 0 16))
  | 0x09 => ifClear (bitsAt w 0 33) (.lst r (reg3 (bitsAt w 35 3)) (bitsAt w 34 1 == 1) (bitsAt w 33 1 == 1))
  | 0x0A => ifClear (bitsAt w 0 34) (.lld r (reg3 (bitsAt w 35 3)) (bitsAt w 34 1 == 1))
  | 0x0B => ifClear (bitsAt w 0 34) (.xfr (bitsAt w 40 1 == 1) (reg3 (bitsAt w 37 3)) (reg3 (bitsAt w 34 3)))
  | 0x0C => ifClear (bitsAt w 14 24) (.addp r (bitsAt w 0 14))
  | _ => none

/-- The instruction a word spells; none for a reserved encoding or a reserved bit set to 1 (R111). -/
def decodeLane (w : Nat) : Option LaneOp := if bitsAt w 47 1 = 0 then decodeA w else decodeB w

end Sys2Proof
end

