-- ==== Sys2Proof/Config.lean ====
section
/-!
DEFINITION. What the spec leaves to nobody it states: functions of other standards and values the spec does not fix. None of
them has a body, so no proof rests on a value of one.
-/

namespace Sys2Proof

/-- Whether motion time's 32-bit fraction takes the upper neighbour when r_mt is not a multiple of 2^-32, by oscillator
cycle (R303 states the exact rate, not its rounding). -/
opaque Config.mtRoundUp : Nat → Bool

/-- The readback bits of the FIO item when no sample of that instant was received (Table 13.3 gives none), by boundary. -/
opaque Config.missedReadback : Nat → Nat

/-- The code of a direction in ISO_FRAME's data (Table 13.9 names it and gives no code): `true` for up. -/
opaque Config.isoDirection : Bool → Nat

/-- The cause in ISO_FRAME's data for a bad copy the island reports (Table 13.8 carries none), by oscillator cycle. -/
opaque Config.isoDownCause : Nat → Nat

/-- META's age of a receive channel that has delivered nothing yet (R322 counts from a delivery), by channel and boundary. -/
opaque Config.cycNoDelivery : Nat → Nat → Nat

/-- Whether a square root of the axis program that is not a whole step of 2^-47 takes the upper step (R156, R183 give the exact
root; its rounding belongs to the image), by the radicand in steps of 2^-94. -/
opaque Config.rootUp : Nat → Bool

/-- The quotient the axis program forms when its divisor is 0 (a DC link of 0, R158 and R161; an inductance of 0), by the
dividend: the spec states none. -/
opaque Config.zeroDivide : Rat → Rat

/-- The cause code in SWAP_ABANDONED's data (R351 names the causes and gives no codes), by the event: 0 a difference, 1 not
complete by the deadline, 2 a fault of severity SWAP. -/
opaque Config.swapCause : Nat → Nat

/-- The cause code in MIGRATE_FAIL's data (R354 names the causes and gives no codes), by the event: 0 the words differ, 1 the
spare's copies mismatch, 2 the limit of 64 periods. -/
opaque Config.migrateCause : Nat → Nat

/-- The code of a memory in LANE_PARITY's data (Table 11.1 names the memory and gives no code): 0 program, 1 X, 2 Y, 3 bank A,
4 bank B. -/
opaque Config.memoryCode : Nat → Nat

/-- The bits the random bit generator gives at a call (R419: seeded from an entropy source). -/
opaque Config.randomBits : Nat → Nat

/-- The module's Device Serial Number, set at manufacture (R419). -/
opaque Config.dsn : Nat

/-- Whether the bit timing of a CAN channel lies within the ranges of ISO 11898-1:2024, by the contents of its CAN.CFG (R324
refers to the standard's ranges without giving them). -/
opaque Config.canTimingOk : Nat → Bool

/-- The instruction code of SAMPLE/PRELOAD at the test access port (R447 names the instruction and gives no code). -/
opaque Config.sampleCode : BitVec 4

/-- Bits [3:2] that the test access port's instruction register captures (IEEE 1149.1 fixes bits [1:0] only). -/
opaque Config.irCapture : BitVec 2

/-- DETAIL of a completion for whose status and opcode no chapter gives one (Table 03.4 refers to the owning chapter). -/
opaque Config.unstatedDetail : Nat

/-- What a write of BAR2 that is no aligned 32-bit access leaves in a word of the MSI-X table it touches (R70 defines the accesses of the
set-up registers only): by offset and size, written value, and word. -/
opaque Config.msixWord : Nat → Nat → Nat → BitVec 32

/-- The kind of SERIAL_FRAME of a Karsel frame in which A does not read 0 at the end of the request (R286 says it must, and R287 gives no
kind). -/
opaque Config.karselHighKind : Nat

/-- offsetScaledLogVariance of the module's own clock, which its Announce messages carry (IEEE 1588-2019; no field of TIME.CFG gives it). -/
opaque Config.ptpVariance : Nat

/-- RESULT of a completion for whose opcode no chapter gives one (R84). -/
opaque Config.unstatedResult : Nat

end Sys2Proof
end

