-- ==== Sys2Proof/Machine/Sources.lean ====
section
/-!
DEFINITION. The fault sources of the collector: Table 12.1 of 12_fault_collection (R363), written out as data.
-/

namespace Sys2Proof.Machine

/-- The reaction scopes of Table 12.4 (R365), coded as FLT.SRC.SCOPE. -/
inductive Scope where
  | none | axis | channel | input | trip | lane | unit | cfg
  deriving DecidableEq, Repr

/-- The code of a scope in FLT.SRC.SCOPE. -/
def Scope.code : Scope → Nat
  | .none => 0 | .axis => 1 | .channel => 2 | .input => 3 | .trip => 4 | .lane => 5 | .unit => 6 | .cfg => 7

/-- One row of Table 12.1: instances, class, scope, live, default severity (BASE and SEVERE), N, ESC, LOG, FIXED. -/
structure KindRow where
  instances : Nat
  cls : Nat
  scope : Scope
  live : Bool
  base : Nat
  severe : Nat
  n : Nat
  esc : Bool
  log : Bool
  fixed : Bool
  deriving DecidableEq, Repr

/-- The source kinds by name: kind K of SOURCE = 128 K + I (R360). -/
abbrev Kind := Nat

namespace K

/-- Source kind 0, Collector (LOST) (Table 12.1). -/
abbrev LOST : Kind := 0
/-- Source kind 1, TRIP_INPUT (Table 12.1). -/
abbrev TRIP_INPUT : Kind := 1
/-- Source kind 2, OVERCURRENT (Table 12.1). -/
abbrev OVERCURRENT : Kind := 2
/-- Source kind 3, SD_STUCK (Table 12.1). -/
abbrev SD_STUCK : Kind := 3
/-- Source kind 4, QUAD_ERROR (Table 12.1). -/
abbrev QUAD_ERROR : Kind := 4
/-- Source kind 5, HALL_INVALID (Table 12.1). -/
abbrev HALL_INVALID : Kind := 5
/-- Source kind 6, HALL_SKIP (Table 12.1). -/
abbrev HALL_SKIP : Kind := 6
/-- Source kind 7, INDEX_SLIP (Table 12.1). -/
abbrev INDEX_SLIP : Kind := 7
/-- Source kind 8, DIR_CHANGE (Table 12.1). -/
abbrev DIR_CHANGE : Kind := 8
/-- Source kind 9, SERIAL_FRAME (Table 12.1). -/
abbrev SERIAL_FRAME : Kind := 9
/-- Source kind 10, SERIAL_LOST (Table 12.1). -/
abbrev SERIAL_LOST : Kind := 10
/-- Source kind 11, SENSOR_ALARM (Table 12.1). -/
abbrev SENSOR_ALARM : Kind := 11
/-- Source kind 12, LATE_PERIOD (Table 12.1). -/
abbrev LATE_PERIOD : Kind := 12
/-- Source kind 13, LANE_BEHIND (Table 12.1). -/
abbrev LANE_BEHIND : Kind := 13
/-- Source kind 14, LANE_MISMATCH (Table 12.1). -/
abbrev LANE_MISMATCH : Kind := 14
/-- Source kind 15, LANE_PARITY (Table 12.1). -/
abbrev LANE_PARITY : Kind := 15
/-- Source kind 16, TASK_OVERRUN (Table 12.1). -/
abbrev TASK_OVERRUN : Kind := 16
/-- Source kind 17, DELTA_OVERFLOW (Table 12.1). -/
abbrev DELTA_OVERFLOW : Kind := 17
/-- Source kind 18, MAILBOX_CLASH (Table 12.1). -/
abbrev MAILBOX_CLASH : Kind := 18
/-- Source kind 19, UNIT_READBACK (Table 12.1). -/
abbrev UNIT_READBACK : Kind := 19
/-- Source kind 20, FOLLOWING_ERROR (Table 12.1). -/
abbrev FOLLOWING_ERROR : Kind := 20
/-- Source kind 21, OVERSPEED (Table 12.1). -/
abbrev OVERSPEED : Kind := 21
/-- Source kind 22, LOAD_ANGLE (Table 12.1). -/
abbrev LOAD_ANGLE : Kind := 22
/-- Source kind 23, FEEDBACK_LOST (Table 12.1). -/
abbrev FEEDBACK_LOST : Kind := 23
/-- Source kind 24, BRIDGE_FENCED (Table 12.1). -/
abbrev BRIDGE_FENCED : Kind := 24
/-- Source kind 25, START_FAIL (Table 12.1). -/
abbrev START_FAIL : Kind := 25
/-- Source kind 26, ADAPT_LIMIT (Table 12.1). -/
abbrev ADAPT_LIMIT : Kind := 26
/-- Source kind 27, SHARE_LIMIT (Table 12.1). -/
abbrev SHARE_LIMIT : Kind := 27
/-- Source kind 28, INT_WRAP (Table 12.1). -/
abbrev INT_WRAP : Kind := 28
/-- Source kind 29, MASTER_LOST (Table 12.1). -/
abbrev MASTER_LOST : Kind := 29
/-- Source kind 30, CARAVAN_BROKEN (Table 12.1). -/
abbrev CARAVAN_BROKEN : Kind := 30
/-- Source kind 31, LATCH_CAPTURE (Table 12.1). -/
abbrev LATCH_CAPTURE : Kind := 31
/-- Source kind 32, COMPARE_FIRE (Table 12.1). -/
abbrev COMPARE_FIRE : Kind := 32
/-- Source kind 33, TAKEOVER (Table 12.1). -/
abbrev TAKEOVER : Kind := 33
/-- Source kind 34, TAKEOVER_FAIL (Table 12.1). -/
abbrev TAKEOVER_FAIL : Kind := 34
/-- Source kind 35, REDUNDANCY_LOST (Table 12.1). -/
abbrev REDUNDANCY_LOST : Kind := 35
/-- Source kind 36, SWAP_ABANDONED (Table 12.1). -/
abbrev SWAP_ABANDONED : Kind := 36
/-- Source kind 37, LANE_AGEING (Table 12.1). -/
abbrev LANE_AGEING : Kind := 37
/-- Source kind 38, MIGRATE_DONE (Table 12.1). -/
abbrev MIGRATE_DONE : Kind := 38
/-- Source kind 39, MIGRATE_FAIL (Table 12.1). -/
abbrev MIGRATE_FAIL : Kind := 39
/-- Source kind 40, SPARE_LOW (Table 12.1). -/
abbrev SPARE_LOW : Kind := 40
/-- Source kind 41, TIME_STEP (Table 12.1). -/
abbrev TIME_STEP : Kind := 41
/-- Source kind 42, MT_ALIGN (Table 12.1). -/
abbrev MT_ALIGN : Kind := 42
/-- Source kind 43, HOLDOVER (Table 12.1). -/
abbrev HOLDOVER : Kind := 43
/-- Source kind 44, GM_CHANGE (Table 12.1). -/
abbrev GM_CHANGE : Kind := 44
/-- Source kind 45, TXQ_OVERFLOW (Table 12.1). -/
abbrev TXQ_OVERFLOW : Kind := 45
/-- Source kind 46, LINK_DOWN (Table 12.1). -/
abbrev LINK_DOWN : Kind := 46
/-- Source kind 47, CYC_LATE (Table 12.1). -/
abbrev CYC_LATE : Kind := 47
/-- Source kind 48, CYC_LOST (Table 12.1). -/
abbrev CYC_LOST : Kind := 48
/-- Source kind 49, CAN_ERR_PASSIVE (Table 12.1). -/
abbrev CAN_ERR_PASSIVE : Kind := 49
/-- Source kind 50, CAN_BUS_OFF (Table 12.1). -/
abbrev CAN_BUS_OFF : Kind := 50
/-- Source kind 51, CAN_RX_LOST (Table 12.1). -/
abbrev CAN_RX_LOST : Kind := 51
/-- Source kind 52, SRAM_CORR (Table 12.1). -/
abbrev SRAM_CORR : Kind := 52
/-- Source kind 53, SRAM_UNCORR (Table 12.1). -/
abbrev SRAM_UNCORR : Kind := 53
/-- Source kind 54, DRAM_CORR (Table 12.1). -/
abbrev DRAM_CORR : Kind := 54
/-- Source kind 55, DRAM_UNCORR (Table 12.1). -/
abbrev DRAM_UNCORR : Kind := 55
/-- Source kind 56, TRACE_UNCORR (Table 12.1). -/
abbrev TRACE_UNCORR : Kind := 56
/-- Source kind 57, HOST_LINK_DOWN (Table 12.1). -/
abbrev HOST_LINK_DOWN : Kind := 57
/-- Source kind 58, HOST_AER (Table 12.1). -/
abbrev HOST_AER : Kind := 58
/-- Source kind 59, HOST_FLR (Table 12.1). -/
abbrev HOST_FLR : Kind := 59
/-- Source kind 60, NVM_CORR (Table 12.1). -/
abbrev NVM_CORR : Kind := 60
/-- Source kind 61, NVM_WRITE_FAIL (Table 12.1). -/
abbrev NVM_WRITE_FAIL : Kind := 61
/-- Source kind 62, NVM_UNCORR (Table 12.1). -/
abbrev NVM_UNCORR : Kind := 62
/-- Source kind 63, EXT_DRIVE (Table 12.1). -/
abbrev EXT_DRIVE : Kind := 63
/-- Source kind 64, DO_OVERLOAD (Table 12.1). -/
abbrev DO_OVERLOAD : Kind := 64
/-- Source kind 65, ISO_FRAME (Table 12.1). -/
abbrev ISO_FRAME : Kind := 65
/-- Source kind 66, ISO_LOST (Table 12.1). -/
abbrev ISO_LOST : Kind := 66
/-- Source kind 67, ISO_SPARE (Table 12.1). -/
abbrev ISO_SPARE : Kind := 67
/-- Source kind 68, FIELD_SUPPLY (Table 12.1). -/
abbrev FIELD_SUPPLY : Kind := 68
/-- Source kind 69, SURVEY_FROZEN (Table 12.1). -/
abbrev SURVEY_FROZEN : Kind := 69
/-- Source kind 70, BB_CUT (Table 12.1). -/
abbrev BB_CUT : Kind := 70
/-- Source kind 71, REPLAY_MISMATCH (Table 12.1). -/
abbrev REPLAY_MISMATCH : Kind := 71
/-- Source kind 72, SERVICE_OPEN (Table 12.1). -/
abbrev SERVICE_OPEN : Kind := 72
/-- Source kind 73, UNATTESTED (Table 12.1). -/
abbrev UNATTESTED : Kind := 73
/-- Source kind 74, HUB_CHECK (Table 12.1). -/
abbrev HUB_CHECK : Kind := 74
end K

/-- Rows 0 to 14 of Table 12.1. -/
def kindRows0 : List KindRow := [
  ⟨1, 0, .none, false, 0, 0, 0, false, true, false⟩,
  ⟨32, 1, .trip, true, 3, 3, 0, false, true, false⟩,
  ⟨96, 1, .trip, true, 3, 3, 0, false, true, false⟩,
  ⟨96, 3, .input, true, 3, 3, 0, true, true, false⟩,
  ⟨32, 2, .channel, false, 1, 1, 0, true, true, false⟩,
  ⟨32, 2, .channel, true, 3, 3, 0, true, true, false⟩,
  ⟨32, 2, .channel, false, 1, 1, 0, true, true, false⟩,
  ⟨32, 2, .channel, false, 1, 1, 0, true, true, false⟩,
  ⟨32, 2, .none, false, 0, 0, 0, false, false, false⟩,
  ⟨32, 2, .channel, false, 0, 0, 0, false, true, false⟩,
  ⟨32, 2, .channel, true, 3, 3, 0, true, true, false⟩,
  ⟨32, 2, .channel, true, 2, 2, 0, true, true, false⟩,
  ⟨24, 4, .lane, false, 0, 3, 4, true, true, false⟩,
  ⟨24, 4, .unit, true, 4, 4, 0, true, true, false⟩,
  ⟨24, 4, .unit, false, 4, 4, 0, true, true, false⟩]

/-- Rows 15 to 29 of Table 12.1. -/
def kindRows1 : List KindRow := [
  ⟨24, 4, .unit, false, 4, 4, 0, true, true, false⟩,
  ⟨24, 4, .lane, false, 1, 1, 0, true, true, false⟩,
  ⟨24, 4, .lane, false, 3, 3, 0, true, true, false⟩,
  ⟨64, 4, .none, false, 0, 0, 0, false, true, false⟩,
  ⟨2, 4, .unit, false, 1, 1, 0, false, true, false⟩,
  ⟨40, 5, .axis, true, 2, 2, 0, true, true, false⟩,
  ⟨40, 5, .axis, true, 3, 3, 0, true, true, false⟩,
  ⟨40, 5, .axis, true, 3, 3, 0, true, true, false⟩,
  ⟨40, 5, .axis, true, 3, 3, 0, true, true, false⟩,
  ⟨40, 5, .axis, true, 3, 3, 0, true, true, false⟩,
  ⟨40, 5, .axis, true, 3, 3, 0, true, true, false⟩,
  ⟨40, 5, .axis, true, 1, 1, 0, true, true, false⟩,
  ⟨40, 5, .axis, true, 1, 1, 0, true, true, false⟩,
  ⟨40, 5, .axis, true, 0, 0, 0, false, true, false⟩,
  ⟨40, 5, .axis, true, 2, 2, 0, true, true, false⟩]

/-- Rows 30 to 44 of Table 12.1. -/
def kindRows2 : List KindRow := [
  ⟨40, 5, .axis, true, 1, 1, 0, false, true, false⟩,
  ⟨8, 5, .none, false, 0, 0, 0, false, false, false⟩,
  ⟨16, 5, .none, false, 0, 0, 0, false, false, false⟩,
  ⟨2, 6, .unit, false, 0, 0, 0, false, true, false⟩,
  ⟨1, 6, .unit, false, 5, 5, 0, false, true, true⟩,
  ⟨1, 6, .cfg, true, 1, 1, 0, false, true, false⟩,
  ⟨1, 6, .cfg, false, 1, 1, 0, false, true, false⟩,
  ⟨24, 6, .cfg, false, 1, 1, 0, false, true, false⟩,
  ⟨24, 6, .none, false, 0, 0, 0, false, true, false⟩,
  ⟨24, 6, .cfg, false, 1, 1, 0, false, true, false⟩,
  ⟨4, 6, .cfg, false, 1, 1, 0, false, true, false⟩,
  ⟨1, 7, .cfg, false, 0, 0, 0, false, true, false⟩,
  ⟨1, 7, .none, false, 0, 0, 0, false, true, false⟩,
  ⟨1, 7, .cfg, true, 1, 1, 0, false, true, false⟩,
  ⟨1, 7, .cfg, false, 0, 0, 0, false, true, false⟩]

/-- Rows 45 to 59 of Table 12.1. -/
def kindRows3 : List KindRow := [
  ⟨3, 8, .cfg, false, 1, 1, 0, false, true, false⟩,
  ⟨3, 8, .cfg, true, 1, 1, 0, false, true, false⟩,
  ⟨16, 8, .cfg, false, 0, 0, 0, false, true, false⟩,
  ⟨16, 8, .cfg, true, 1, 1, 0, false, true, false⟩,
  ⟨4, 9, .cfg, true, 1, 1, 0, false, true, false⟩,
  ⟨4, 9, .cfg, true, 1, 1, 0, false, true, false⟩,
  ⟨4, 9, .cfg, false, 0, 0, 0, false, true, false⟩,
  ⟨32, 10, .none, false, 0, 0, 0, false, true, false⟩,
  ⟨32, 10, .cfg, false, 5, 5, 0, true, true, false⟩,
  ⟨32, 10, .none, false, 0, 0, 0, false, true, false⟩,
  ⟨32, 10, .cfg, false, 5, 5, 0, true, true, false⟩,
  ⟨32, 10, .none, false, 1, 1, 0, false, true, false⟩,
  ⟨1, 11, .cfg, true, 1, 1, 0, false, true, false⟩,
  ⟨1, 11, .cfg, false, 1, 1, 0, false, true, false⟩,
  ⟨1, 11, .none, false, 0, 0, 0, false, true, false⟩]

/-- Rows 60 to 74 of Table 12.1. -/
def kindRows4 : List KindRow := [
  ⟨1, 12, .none, false, 0, 0, 0, false, true, false⟩,
  ⟨1, 12, .cfg, false, 1, 1, 0, false, true, false⟩,
  ⟨1, 12, .cfg, false, 1, 1, 0, false, true, false⟩,
  ⟨16, 13, .cfg, true, 1, 1, 0, false, true, false⟩,
  ⟨16, 13, .cfg, true, 1, 1, 0, false, true, false⟩,
  ⟨2, 13, .none, false, 0, 0, 0, false, true, false⟩,
  ⟨1, 13, .cfg, true, 2, 2, 0, false, true, false⟩,
  ⟨1, 13, .none, false, 0, 0, 0, false, true, false⟩,
  ⟨1, 13, .cfg, true, 1, 1, 0, false, true, false⟩,
  ⟨1, 14, .none, false, 0, 0, 0, false, true, false⟩,
  ⟨1, 14, .none, false, 0, 0, 0, false, true, false⟩,
  ⟨1, 14, .none, false, 0, 0, 0, false, true, false⟩,
  ⟨1, 14, .none, false, 1, 1, 0, false, true, false⟩,
  ⟨1, 14, .none, true, 1, 1, 0, false, true, false⟩,
  ⟨32, 15, .unit, false, 5, 5, 0, false, true, true⟩]

/-- Table 12.1 (R363): the row of kind K at position K. -/
def kindRows : List KindRow := kindRows0 ++ kindRows1 ++ kindRows2 ++ kindRows3 ++ kindRows4

/-- The row of a kind: none for a reserved kind. -/
def kindRow (k : Kind) : Option KindRow := kindRows[k]?

/-- The reset contents of FLT.SRC entry K (object 0xB001): Table 12.1 for a listed kind, 0 for a reserved one. -/
def fltSrcReset (k : Kind) : Nat :=
  match kindRow k with
  | .none => 0
  | some r =>
    r.base + r.severe * 2 ^ 3 + r.n * 2 ^ 6 + r.esc.toNat * 2 ^ 10 + r.log.toNat * 2 ^ 11 + 64 * 2 ^ 16
      + (2 ^ 40 - 1) * 2 ^ 32 + r.cls * 2 ^ 96 + r.scope.code * 2 ^ 100 + r.live.toNat * 2 ^ 103
      + r.fixed.toNat * 2 ^ 104

end Sys2Proof.Machine
end

