-- ==== Sys2Proof/Machine/Layout.lean ====
section
/-!
DEFINITION. The configuration objects and the set-up registers of the TV-32M, with every field of every layout table of
the spec: the object's constructor, its identifier (R8), its size, and each field's place, access code (R10) and reset value.
-/

namespace Sys2Proof.Machine

/-- Access codes of Table 00.5 (R10). -/
inductive Acc where
  | ro | rw | w1c | wo
  deriving DecidableEq, Repr

/-- The objects: configuration objects by chapter, and the set-up registers of BAR0 (Table 03.2). -/
inductive Obj where
  /-- SYS.PERIOD (R19, 01_module_and_the_servo_period). -/
  | sysPeriod
  /-- SYS.SLACK (R32, 01_module_and_the_servo_period). -/
  | sysSlack
  /-- SYS.PLACE (R38, 01_module_and_the_servo_period). -/
  | sysPlace
  /-- SYS.MODE (R40, 02_modes_startup_and_part_resets). -/
  | sysMode
  /-- SYS.COMMISSION (R43, 02_modes_startup_and_part_resets). -/
  | sysCommission
  /-- SYS.BOOT (R50, 02_modes_startup_and_part_resets). -/
  | sysBoot
  /-- SYS.RESET (R56, 02_modes_startup_and_part_resets). -/
  | sysReset
  /-- SYS.FENCE (R62, 02_modes_startup_and_part_resets). -/
  | sysFence
  /-- HIF.ID (R70, 03_host_rings_and_ordering). -/
  | hifId
  /-- HIF.STATUS (R70, 03_host_rings_and_ordering). -/
  | hifStatus
  /-- HIF.LINK (R70, 03_host_rings_and_ordering). -/
  | hifLink
  /-- HIF.CR[n].CTRL (R71, 03_host_rings_and_ordering). -/
  | hifRingCtrl
  /-- HIF.CR[n].STATE (R71, 03_host_rings_and_ordering). -/
  | hifRingState
  /-- HIF.CR[n].APPLIED (R71, 03_host_rings_and_ordering). -/
  | hifRingApplied
  /-- HIF.CQ[m].CTRL (R71, 03_host_rings_and_ordering). -/
  | hifCqCtrl
  /-- HIF.CQ[m].MOD (R71, 03_host_rings_and_ordering). -/
  | hifCqMod
  /-- HIF.EQ.LOST (R71, 03_host_rings_and_ordering). -/
  | hifEqLost
  /-- HIF.*.DB (R71, 03_host_rings_and_ordering). -/
  | hifDb
  /-- HIF.CR[n].REARM (R71, 03_host_rings_and_ordering). -/
  | hifRearm
  /-- ENG.IDENT (R139, 04_cybinth_engine). -/
  | engIdent
  /-- ENG.BANK (R139, 04_cybinth_engine). -/
  | engBank
  /-- ENG.COEF_A (R139, 04_cybinth_engine). -/
  | engCoefA
  /-- ENG.COEF_B (R139, 04_cybinth_engine). -/
  | engCoefB
  /-- ENG.LANE (R139, 04_cybinth_engine). -/
  | engLane
  /-- ENG.TASK (R139, 04_cybinth_engine). -/
  | engTask
  /-- AXIS.CFG (R143, 05_axis_loops). -/
  | axisCfg
  /-- AXIS.LIMITS (R145, 05_axis_loops). -/
  | axisLimits
  /-- AXIS.COMP (R145, 05_axis_loops). -/
  | axisComp
  /-- AXIS.STATUS (R146, 05_axis_loops). -/
  | axisStatus
  /-- PROF.LIMITS (R173, 06_motion_profiles). -/
  | profLimits
  /-- PROF.STATUS (R174, 06_motion_profiles). -/
  | profStatus
  /-- GEAR.MASTER (R202, 07_gearing_cam_caravans_latch_compare). -/
  | gearMaster
  /-- CAM.COMMIT (R214, 07_gearing_cam_caravans_latch_compare). -/
  | camCommit
  /-- CAM.PROF (R215, 07_gearing_cam_caravans_latch_compare). -/
  | camProf
  /-- CARAVAN.CFG (R218, 07_gearing_cam_caravans_latch_compare). -/
  | caravanCfg
  /-- LATCH.CFG (R229, 07_gearing_cam_caravans_latch_compare). -/
  | latchCfg
  /-- LATCH.RESULT (R229, 07_gearing_cam_caravans_latch_compare). -/
  | latchResult
  /-- CMP.CFG (R233, 07_gearing_cam_caravans_latch_compare). -/
  | cmpCfg
  /-- CMP.STATUS (R233, 07_gearing_cam_caravans_latch_compare). -/
  | cmpStatus
  /-- PWMG.CFG (R244, 08_pwm_generator). -/
  | pwmgCfg
  /-- PWMG.AUX (R257, 08_pwm_generator). -/
  | pwmgAux
  /-- PWM.TRIPIN (R259, 08_pwm_generator). -/
  | pwmTripin
  /-- PWMG.CTRL (R266, 08_pwm_generator). -/
  | pwmgCtrl
  /-- PWMG.STATUS (R266, 08_pwm_generator). -/
  | pwmgStatus
  /-- FB.CFG (R270, 09_feedback_and_current_sensing). -/
  | fbCfg
  /-- FB.SERIAL (R281, 09_feedback_and_current_sensing). -/
  | fbSerial
  /-- FB.CTRL (R288, 09_feedback_and_current_sensing). -/
  | fbCtrl
  /-- FB.STATUS (R289, 09_feedback_and_current_sensing). -/
  | fbStatus
  /-- EMU.CFG (R291, 09_feedback_and_current_sensing). -/
  | emuCfg
  /-- EMU.STATUS (R291, 09_feedback_and_current_sensing). -/
  | emuStatus
  /-- CS.CLK (R294, 09_feedback_and_current_sensing). -/
  | csClk
  /-- CS.CFG (R295, 09_feedback_and_current_sensing). -/
  | csCfg
  /-- CS.OC (R298, 09_feedback_and_current_sensing). -/
  | csOc
  /-- CS.STATUS (R300, 09_feedback_and_current_sensing). -/
  | csStatus
  /-- TIME.CFG (R307, 10_time_and_networks). -/
  | timeCfg
  /-- TIME.STATUS (R311, 10_time_and_networks). -/
  | timeStatus
  /-- ETH.CFG (R317, 10_time_and_networks). -/
  | ethCfg
  /-- ETH.STATUS (R317, 10_time_and_networks). -/
  | ethStatus
  /-- CYC.TX (R318, 10_time_and_networks). -/
  | cycTx
  /-- CYC.RX (R319, 10_time_and_networks). -/
  | cycRx
  /-- NET.MASTER (R323, 10_time_and_networks). -/
  | netMaster
  /-- CAN.CFG (R324, 10_time_and_networks). -/
  | canCfg
  /-- CAN.TXSLOT (R328, 10_time_and_networks). -/
  | canTxslot
  /-- CAN.FILTER (R329, 10_time_and_networks). -/
  | canFilter
  /-- CAN.RXCTL (R331, 10_time_and_networks). -/
  | canRxctl
  /-- CAN.STATUS (R331, 10_time_and_networks). -/
  | canStatus
  /-- RED.CFG (R462, 11_takeover_and_spares). -/
  | redCfg
  /-- RED.CTRL (R355, 11_takeover_and_spares). -/
  | redCtrl
  /-- RED.STATUS (R356, 11_takeover_and_spares). -/
  | redStatus
  /-- RED.SPARES (R358, 11_takeover_and_spares). -/
  | redSpares
  /-- FLT.REC (R370, 12_fault_collection). -/
  | fltRec
  /-- FLT.PIN (R370, 12_fault_collection). -/
  | fltPin
  /-- FLT.FORCE (R371, 12_fault_collection). -/
  | fltForce
  /-- FLT.FIRST (R372, 12_fault_collection). -/
  | fltFirst
  /-- FLT.LOG (R377, 12_fault_collection). -/
  | fltLog
  /-- FLT.CFG (R378, 12_fault_collection). -/
  | fltCfg
  /-- FLT.SRC (R378, 12_fault_collection). -/
  | fltSrc
  /-- FIO.DI_CFG (R382, 13_field_io). -/
  | fioDiCfg
  /-- FIO.DI_TIME (R385, 13_field_io). -/
  | fioDiTime
  /-- FIO.DO_CFG (R386, 13_field_io). -/
  | fioDoCfg
  /-- FIO.DO_CMD (R386, 13_field_io). -/
  | fioDoCmd
  /-- FIO.STATUS (R396, 13_field_io). -/
  | fioStatus
  /-- SURV.CFG (R417, 14_survey_and_replay). -/
  | survCfg
  /-- SURV.STATUS (R417, 14_survey_and_replay). -/
  | survStatus
  /-- SURV.CTRL (R417, 14_survey_and_replay). -/
  | survCtrl
  /-- SURV.EXPORT (R417, 14_survey_and_replay). -/
  | survExport
  /-- SURV.REPLAY (R417, 14_survey_and_replay). -/
  | survReplay
  /-- SEC.ID (R419, 15_security_and_service_access). -/
  | secId
  /-- SEC.CFGKEY (R419, 15_security_and_service_access). -/
  | secCfgkey
  /-- SEC.CTRL (R425, 15_security_and_service_access). -/
  | secCtrl
  /-- SEC.STATUS (R429, 15_security_and_service_access). -/
  | secStatus
  /-- SEC.DEBUG (R430, 15_security_and_service_access). -/
  | secDebug
  /-- HIF.*.BASE of command and bulk rings (R70, 03_host_rings_and_ordering). -/
  | hifRingBase
  /-- HIF.CQ[m].BASE and HIF.EQ.BASE (R70, 03_host_rings_and_ordering). -/
  | hifCqBase
  /-- HIF.CQ[m].TAIL and HIF.EQ.TAIL (R71, 03_host_rings_and_ordering). -/
  | hifCqTail
  /-- SYS.PLACE phase table, bytes 192 to 231 (R38, 01_module_and_the_servo_period). -/
  | sysPhase
  /-- CAN.RXQ, object 0x9003 + 64c: 256 entries of 96 bytes (R331). -/
  | canRxq
  /-- CAM.STAGE, object 0x6002: the staging area of cam points (R213). -/
  | camStage
  /-- CARAVAN.SEGBUF, object 0x6005 + 64g (R220). -/
  | caravanSegbuf
  /-- SURV.UPLOAD, object 0xC005: the target of a Bamgon upload (R414). -/
  | survUpload
  /-- SURV.BB, object 0xC006: the black-box area (R411). -/
  | survBb
  /-- SEC.LANEMEM, object 0xE005: lane registers and memories under debug (R431). -/
  | secLanemem
  deriving DecidableEq, Repr

/-- A field of a layout: its object, its lowest bit, its width, its access code and its reset value. -/
structure Fld where
  obj : Obj
  lo : Nat
  width : Nat
  acc : Acc
  reset : Nat
  deriving DecidableEq, Repr

/-- The number of an object in the object store. -/
def Obj.code : Obj → Nat
  | .sysPeriod => 1
  | .sysSlack => 2
  | .sysPlace => 3
  | .sysMode => 4
  | .sysCommission => 5
  | .sysBoot => 6
  | .sysReset => 7
  | .sysFence => 8
  | .hifId => 9
  | .hifStatus => 10
  | .hifLink => 11
  | .hifRingCtrl => 12
  | .hifRingState => 13
  | .hifRingApplied => 14
  | .hifCqCtrl => 15
  | .hifCqMod => 16
  | .hifEqLost => 17
  | .hifDb => 18
  | .hifRearm => 19
  | .engIdent => 20
  | .engBank => 21
  | .engCoefA => 22
  | .engCoefB => 23
  | .engLane => 24
  | .engTask => 25
  | .axisCfg => 26
  | .axisLimits => 27
  | .axisComp => 28
  | .axisStatus => 29
  | .profLimits => 30
  | .profStatus => 31
  | .gearMaster => 32
  | .camCommit => 33
  | .camProf => 34
  | .caravanCfg => 35
  | .latchCfg => 36
  | .latchResult => 37
  | .cmpCfg => 38
  | .cmpStatus => 39
  | .pwmgCfg => 40
  | .pwmgAux => 41
  | .pwmTripin => 42
  | .pwmgCtrl => 43
  | .pwmgStatus => 44
  | .fbCfg => 45
  | .fbSerial => 46
  | .fbCtrl => 47
  | .fbStatus => 48
  | .emuCfg => 49
  | .emuStatus => 50
  | .csClk => 51
  | .csCfg => 52
  | .csOc => 53
  | .csStatus => 54
  | .timeCfg => 55
  | .timeStatus => 56
  | .ethCfg => 57
  | .ethStatus => 58
  | .cycTx => 59
  | .cycRx => 60
  | .netMaster => 61
  | .canCfg => 62
  | .canTxslot => 63
  | .canFilter => 64
  | .canRxctl => 65
  | .canStatus => 66
  | .redCfg => 67
  | .redCtrl => 68
  | .redStatus => 69
  | .redSpares => 70
  | .fltRec => 71
  | .fltPin => 72
  | .fltForce => 73
  | .fltFirst => 74
  | .fltLog => 75
  | .fltCfg => 76
  | .fltSrc => 77
  | .fioDiCfg => 78
  | .fioDiTime => 79
  | .fioDoCfg => 80
  | .fioDoCmd => 81
  | .fioStatus => 82
  | .survCfg => 83
  | .survStatus => 84
  | .survCtrl => 85
  | .survExport => 86
  | .survReplay => 87
  | .secId => 88
  | .secCfgkey => 89
  | .secCtrl => 90
  | .secStatus => 91
  | .secDebug => 92
  | .hifRingBase => 93
  | .hifCqBase => 94
  | .hifCqTail => 95
  | .sysPhase => 96
  | .canRxq => 97
  | .camStage => 98
  | .caravanSegbuf => 99
  | .survUpload => 100
  | .survBb => 101
  | .secLanemem => 102

/-- Bits of one entry of the object. -/
def Obj.entryBits : Obj → Nat
  | .sysPeriod => 64
  | .sysSlack => 128
  | .sysPlace => 128
  | .sysMode => 64
  | .sysCommission => 128
  | .sysBoot => 128
  | .sysReset => 64
  | .sysFence => 128
  | .hifId => 32
  | .hifStatus => 32
  | .hifLink => 32
  | .hifRingCtrl => 32
  | .hifRingState => 32
  | .hifRingApplied => 32
  | .hifCqCtrl => 32
  | .hifCqMod => 32
  | .hifEqLost => 32
  | .hifDb => 32
  | .hifRearm => 32
  | .engIdent => 128
  | .engBank => 64
  | .engCoefA => 32
  | .engCoefB => 32
  | .engLane => 64
  | .engTask => 128
  | .axisCfg => 160
  | .axisLimits => 224
  | .axisComp => 64
  | .axisStatus => 384
  | .profLimits => 256
  | .profStatus => 352
  | .gearMaster => 64
  | .camCommit => 64
  | .camProf => 128
  | .caravanCfg => 216
  | .latchCfg => 32
  | .latchResult => 128
  | .cmpCfg => 32
  | .cmpStatus => 128
  | .pwmgCfg => 192
  | .pwmgAux => 128
  | .pwmTripin => 96
  | .pwmgCtrl => 32
  | .pwmgStatus => 192
  | .fbCfg => 256
  | .fbSerial => 128
  | .fbCtrl => 64
  | .fbStatus => 256
  | .emuCfg => 64
  | .emuStatus => 64
  | .csClk => 64
  | .csCfg => 96
  | .csOc => 96
  | .csStatus => 128
  | .timeCfg => 288
  | .timeStatus => 320
  | .ethCfg => 192
  | .ethStatus => 128
  | .cycTx => 144
  | .cycRx => 128
  | .netMaster => 16
  | .canCfg => 96
  | .canTxslot => 64
  | .canFilter => 128
  | .canRxctl => 32
  | .canStatus => 128
  | .redCfg => 64
  | .redCtrl => 32
  | .redStatus => 384
  | .redSpares => 64
  | .fltRec => 512
  | .fltPin => 256
  | .fltForce => 32
  | .fltFirst => 128
  | .fltLog => 128
  | .fltCfg => 32
  | .fltSrc => 128
  | .fioDiCfg => 32
  | .fioDiTime => 128
  | .fioDoCfg => 64
  | .fioDoCmd => 32
  | .fioStatus => 192
  | .survCfg => 64
  | .survStatus => 192
  | .survCtrl => 32
  | .survExport => 192
  | .survReplay => 224
  | .secId => 1152
  | .secCfgkey => 576
  | .secCtrl => 32
  | .secStatus => 64
  | .secDebug => 32
  | .hifRingBase => 64
  | .hifCqBase => 64
  | .hifCqTail => 32
  | .sysPhase => 8
  | .canRxq => 8
  | .camStage => 8
  | .caravanSegbuf => 8
  | .survUpload => 8
  | .survBb => 8
  | .secLanemem => 8

/-- Entries of one instance of the object. -/
def Obj.entries : Obj → Nat
  | .sysPeriod => 1
  | .sysSlack => 24
  | .sysPlace => 12
  | .sysMode => 1
  | .sysCommission => 1
  | .sysBoot => 1
  | .sysReset => 1
  | .sysFence => 1
  | .hifId => 1
  | .hifStatus => 1
  | .hifLink => 1
  | .hifRingCtrl => 1
  | .hifRingState => 1
  | .hifRingApplied => 1
  | .hifCqCtrl => 1
  | .hifCqMod => 1
  | .hifEqLost => 1
  | .hifDb => 1
  | .hifRearm => 1
  | .engIdent => 1
  | .engBank => 1
  | .engCoefA => 4096
  | .engCoefB => 4096
  | .engLane => 1
  | .engTask => 8
  | .axisCfg => 1
  | .axisLimits => 1
  | .axisComp => 1
  | .axisStatus => 1
  | .profLimits => 1
  | .profStatus => 1
  | .gearMaster => 1
  | .camCommit => 1
  | .camProf => 1
  | .caravanCfg => 1
  | .latchCfg => 1
  | .latchResult => 1
  | .cmpCfg => 1
  | .cmpStatus => 1
  | .pwmgCfg => 1
  | .pwmgAux => 1
  | .pwmTripin => 1
  | .pwmgCtrl => 1
  | .pwmgStatus => 1
  | .fbCfg => 1
  | .fbSerial => 1
  | .fbCtrl => 1
  | .fbStatus => 1
  | .emuCfg => 1
  | .emuStatus => 1
  | .csClk => 1
  | .csCfg => 1
  | .csOc => 1
  | .csStatus => 1
  | .timeCfg => 1
  | .timeStatus => 1
  | .ethCfg => 1
  | .ethStatus => 1
  | .cycTx => 1
  | .cycRx => 1
  | .netMaster => 16
  | .canCfg => 1
  | .canTxslot => 8
  | .canFilter => 16
  | .canRxctl => 1
  | .canStatus => 1
  | .redCfg => 1
  | .redCtrl => 1
  | .redStatus => 1
  | .redSpares => 1
  | .fltRec => 128
  | .fltPin => 1
  | .fltForce => 128
  | .fltFirst => 1
  | .fltLog => 1
  | .fltCfg => 1
  | .fltSrc => 128
  | .fioDiCfg => 32
  | .fioDiTime => 32
  | .fioDoCfg => 1
  | .fioDoCmd => 1
  | .fioStatus => 1
  | .survCfg => 1
  | .survStatus => 1
  | .survCtrl => 1
  | .survExport => 1
  | .survReplay => 1
  | .secId => 1
  | .secCfgkey => 1
  | .secCtrl => 1
  | .secStatus => 1
  | .secDebug => 1
  | .hifRingBase => 1
  | .hifCqBase => 1
  | .hifCqTail => 1
  | .sysPhase => 40
  | .canRxq => 24576
  | .camStage => 0
  | .caravanSegbuf => 152
  | .survUpload => 0
  | .survBb => 0
  | .secLanemem => 0

namespace F

/-- SYS.PERIOD [19:0] TC (R19). -/
def SYS_PERIOD_TC : Fld := ⟨.sysPeriod, 0, 20, .rw, 6250⟩
/-- SYS.PERIOD [23:20] K (R19). -/
def SYS_PERIOD_K : Fld := ⟨.sysPeriod, 20, 4, .rw, 7⟩
/-- SYS.PERIOD [43:32] GUARD (R19). -/
def SYS_PERIOD_GUARD : Fld := ⟨.sysPeriod, 32, 12, .rw, 200⟩
/-- SYS.PERIOD [63:44] MID (R19). -/
def SYS_PERIOD_MID : Fld := ⟨.sysPeriod, 44, 20, .rw, 3000⟩
/-- SYS.SLACK [19:0] BUSY (R32). -/
def SYS_SLACK_BUSY : Fld := ⟨.sysSlack, 0, 20, .ro, 0⟩
/-- SYS.SLACK [39:20] SLACK (R32). -/
def SYS_SLACK_SLACK : Fld := ⟨.sysSlack, 20, 20, .ro, 0⟩
/-- SYS.SLACK [59:40] MINSLACK (R32). -/
def SYS_SLACK_MINSLACK : Fld := ⟨.sysSlack, 40, 20, .ro, 524287⟩
/-- SYS.SLACK [79:64] LATE (R32). -/
def SYS_SLACK_LATE : Fld := ⟨.sysSlack, 64, 16, .ro, 0⟩
/-- SYS.SLACK [80:80] LATE_SAT (R32). -/
def SYS_SLACK_LATE_SAT : Fld := ⟨.sysSlack, 80, 1, .ro, 0⟩
/-- SYS.SLACK [81:81] CLR (R32). -/
def SYS_SLACK_CLR : Fld := ⟨.sysSlack, 81, 1, .wo, 0⟩
/-- SYS.SLACK [127:96] INSTR (R32). -/
def SYS_SLACK_INSTR : Fld := ⟨.sysSlack, 96, 32, .ro, 0⟩
/-- SYS.PLACE [31:0] CUR (R38). -/
def SYS_PLACE_CUR : Fld := ⟨.sysPlace, 0, 32, .ro, 0⟩
/-- SYS.PLACE [63:32] OUT (R38). -/
def SYS_PLACE_OUT : Fld := ⟨.sysPlace, 32, 32, .ro, 0⟩
/-- SYS.PLACE [71:64] OUTV (R38). -/
def SYS_PLACE_OUTV : Fld := ⟨.sysPlace, 64, 8, .ro, 0⟩
/-- SYS.PLACE [79:72] PEAK (R38). -/
def SYS_PLACE_PEAK : Fld := ⟨.sysPlace, 72, 8, .ro, 0⟩
/-- SYS.PLACE [81:80] STATE (R38). -/
def SYS_PLACE_STATE : Fld := ⟨.sysPlace, 80, 2, .ro, 0⟩
/-- SYS.MODE [2:0] MODE (R40). -/
def SYS_MODE_MODE : Fld := ⟨.sysMode, 0, 3, .ro, 0⟩
/-- SYS.MODE [6:4] REQ (R40). -/
def SYS_MODE_REQ : Fld := ⟨.sysMode, 4, 3, .wo, 0⟩
/-- SYS.MODE [10:8] PREV (R40). -/
def SYS_MODE_PREV : Fld := ⟨.sysMode, 8, 3, .ro, 0⟩
/-- SYS.MODE [11:11] REDUNDANT (R40). -/
def SYS_MODE_REDUNDANT : Fld := ⟨.sysMode, 11, 1, .ro, 0⟩
/-- SYS.MODE [12:12] ACTIVE_UNIT (R40). -/
def SYS_MODE_ACTIVE_UNIT : Fld := ⟨.sysMode, 12, 1, .ro, 0⟩
/-- SYS.MODE [13:13] UNATTESTED (R40). -/
def SYS_MODE_UNATTESTED : Fld := ⟨.sysMode, 13, 1, .ro, 0⟩
/-- SYS.MODE [23:16] REFUSAL (R40). -/
def SYS_MODE_REFUSAL : Fld := ⟨.sysMode, 16, 8, .ro, 0⟩
/-- SYS.MODE [63:32] ENTRY_SEQ (R40). -/
def SYS_MODE_ENTRY_SEQ : Fld := ⟨.sysMode, 32, 32, .ro, 0⟩
/-- SYS.COMMISSION [23:0] I_LIM (R43). -/
def SYS_COMMISSION_I_LIM : Fld := ⟨.sysCommission, 0, 24, .rw, 838861⟩
/-- SYS.COMMISSION [47:24] V_LIM (R43). -/
def SYS_COMMISSION_V_LIM : Fld := ⟨.sysCommission, 24, 24, .rw, 838861⟩
/-- SYS.COMMISSION [71:48] F_LIM (R43). -/
def SYS_COMMISSION_F_LIM : Fld := ⟨.sysCommission, 48, 24, .rw, 838861⟩
/-- SYS.COMMISSION [72:72] VALID (R43). -/
def SYS_COMMISSION_VALID : Fld := ⟨.sysCommission, 72, 1, .rw, 0⟩
/-- SYS.COMMISSION [127:96] AXES (R43). -/
def SYS_COMMISSION_AXES : Fld := ⟨.sysCommission, 96, 32, .rw, 0⟩
/-- SYS.BOOT [3:0] STAGE (R50). -/
def SYS_BOOT_STAGE : Fld := ⟨.sysBoot, 0, 4, .ro, 0⟩
/-- SYS.BOOT [4:4] SLOT (R50). -/
def SYS_BOOT_SLOT : Fld := ⟨.sysBoot, 4, 1, .ro, 0⟩
/-- SYS.BOOT [9:8] SLOT0_STATE (R50). -/
def SYS_BOOT_SLOT0_STATE : Fld := ⟨.sysBoot, 8, 2, .ro, 0⟩
/-- SYS.BOOT [11:10] SLOT1_STATE (R50). -/
def SYS_BOOT_SLOT1_STATE : Fld := ⟨.sysBoot, 10, 2, .ro, 0⟩
/-- SYS.BOOT [13:12] UNITS (R50). -/
def SYS_BOOT_UNITS : Fld := ⟨.sysBoot, 12, 2, .ro, 0⟩
/-- SYS.BOOT [14:14] BB_CUT (R50). -/
def SYS_BOOT_BB_CUT : Fld := ⟨.sysBoot, 14, 1, .ro, 0⟩
/-- SYS.BOOT [19:16] CAUSE (R50). -/
def SYS_BOOT_CAUSE : Fld := ⟨.sysBoot, 16, 4, .ro, 1⟩
/-- SYS.BOOT [63:32] SLOT0_GEN (R50). -/
def SYS_BOOT_SLOT0_GEN : Fld := ⟨.sysBoot, 32, 32, .ro, 0⟩
/-- SYS.BOOT [95:64] SLOT1_GEN (R50). -/
def SYS_BOOT_SLOT1_GEN : Fld := ⟨.sysBoot, 64, 32, .ro, 0⟩
/-- SYS.BOOT [111:96] BOOT_MS (R50). -/
def SYS_BOOT_BOOT_MS : Fld := ⟨.sysBoot, 96, 16, .ro, 0⟩
/-- SYS.RESET [3:0] KIND (R56). -/
def SYS_RESET_KIND : Fld := ⟨.sysReset, 0, 4, .wo, 0⟩
/-- SYS.RESET [9:4] INDEX (R56). -/
def SYS_RESET_INDEX : Fld := ⟨.sysReset, 4, 6, .wo, 0⟩
/-- SYS.RESET [10:10] UNIT (R56). -/
def SYS_RESET_UNIT : Fld := ⟨.sysReset, 10, 1, .wo, 0⟩
/-- SYS.RESET [11:11] SRC (R56). -/
def SYS_RESET_SRC : Fld := ⟨.sysReset, 11, 1, .wo, 0⟩
/-- SYS.FENCE [31:0] FB (R62). -/
def SYS_FENCE_FB : Fld := ⟨.sysFence, 0, 32, .ro, 0⟩
/-- SYS.FENCE [63:32] PWM (R62). -/
def SYS_FENCE_PWM : Fld := ⟨.sysFence, 32, 32, .ro, 0⟩
/-- SYS.FENCE [67:64] CAN (R62). -/
def SYS_FENCE_CAN : Fld := ⟨.sysFence, 64, 4, .ro, 0⟩
/-- SYS.FENCE [70:68] ETH (R62). -/
def SYS_FENCE_ETH : Fld := ⟨.sysFence, 68, 3, .ro, 0⟩
/-- SYS.FENCE [82:71] LANE_A (R62). -/
def SYS_FENCE_LANE_A : Fld := ⟨.sysFence, 71, 12, .ro, 0⟩
/-- SYS.FENCE [94:83] LANE_B (R62). -/
def SYS_FENCE_LANE_B : Fld := ⟨.sysFence, 83, 12, .ro, 0⟩
/-- SYS.FENCE [95:95] UNIT_A (R62). -/
def SYS_FENCE_UNIT_A : Fld := ⟨.sysFence, 95, 1, .ro, 0⟩
/-- SYS.FENCE [96:96] UNIT_B (R62). -/
def SYS_FENCE_UNIT_B : Fld := ⟨.sysFence, 96, 1, .ro, 0⟩
/-- SYS.FENCE [97:97] HOST (R62). -/
def SYS_FENCE_HOST : Fld := ⟨.sysFence, 97, 1, .ro, 0⟩
/-- HIF.ID [7:0] SILICON_REV (R70). -/
def HIF_ID_SILICON_REV : Fld := ⟨.hifId, 0, 8, .ro, 1⟩
/-- HIF.ID [15:8] IF_MINOR (R70). -/
def HIF_ID_IF_MINOR : Fld := ⟨.hifId, 8, 8, .ro, 0⟩
/-- HIF.ID [23:16] IF_MAJOR (R70). -/
def HIF_ID_IF_MAJOR : Fld := ⟨.hifId, 16, 8, .ro, 1⟩
/-- HIF.ID [31:24] PRODUCT (R70). -/
def HIF_ID_PRODUCT : Fld := ⟨.hifId, 24, 8, .ro, 50⟩
/-- HIF.STATUS [3:0] STAGE (R70). -/
def HIF_STATUS_STAGE : Fld := ⟨.hifStatus, 0, 4, .ro, 0⟩
/-- HIF.STATUS [4:4] RINGS_READY (R70). -/
def HIF_STATUS_RINGS_READY : Fld := ⟨.hifStatus, 4, 1, .ro, 0⟩
/-- HIF.STATUS [7:5] MODE (R70). -/
def HIF_STATUS_MODE : Fld := ⟨.hifStatus, 5, 3, .ro, 0⟩
/-- HIF.STATUS [8:8] EQ_FULL (R70). -/
def HIF_STATUS_EQ_FULL : Fld := ⟨.hifStatus, 8, 1, .ro, 0⟩
/-- HIF.STATUS [9:9] FLR_SEEN (R70). -/
def HIF_STATUS_FLR_SEEN : Fld := ⟨.hifStatus, 9, 1, .w1c, 0⟩
/-- HIF.LINK [3:0] SPEED (R70). -/
def HIF_LINK_SPEED : Fld := ⟨.hifLink, 0, 4, .ro, 0⟩
/-- HIF.LINK [8:4] WIDTH (R70). -/
def HIF_LINK_WIDTH : Fld := ⟨.hifLink, 4, 5, .ro, 0⟩
/-- HIF.LINK [9:9] DL_ACTIVE (R70). -/
def HIF_LINK_DL_ACTIVE : Fld := ⟨.hifLink, 9, 1, .ro, 0⟩
/-- HIF.CR[n].CTRL [3:0] SIZE_LOG2 (R71). -/
def HIF_RING_CTRL_SIZE_LOG2 : Fld := ⟨.hifRingCtrl, 0, 4, .rw, 0⟩
/-- HIF.CR[n].CTRL [4:4] ENABLE (R71). -/
def HIF_RING_CTRL_ENABLE : Fld := ⟨.hifRingCtrl, 4, 1, .rw, 0⟩
/-- HIF.CR[n].CTRL [11:8] CQ (R71). -/
def HIF_RING_CTRL_CQ : Fld := ⟨.hifRingCtrl, 8, 4, .rw, 0⟩
/-- HIF.CR[n].STATE [11:0] HEAD (R71). -/
def HIF_RING_STATE_HEAD : Fld := ⟨.hifRingState, 0, 12, .ro, 0⟩
/-- HIF.CR[n].STATE [12:12] HEAD_PHASE (R71). -/
def HIF_RING_STATE_HEAD_PHASE : Fld := ⟨.hifRingState, 12, 1, .ro, 0⟩
/-- HIF.CR[n].STATE [13:13] HALTED (R71). -/
def HIF_RING_STATE_HALTED : Fld := ⟨.hifRingState, 13, 1, .ro, 0⟩
/-- HIF.CR[n].STATE [27:16] HALT_INDEX (R71). -/
def HIF_RING_STATE_HALT_INDEX : Fld := ⟨.hifRingState, 16, 12, .ro, 0⟩
/-- HIF.CR[n].STATE [28:28] HALT_PHASE (R71). -/
def HIF_RING_STATE_HALT_PHASE : Fld := ⟨.hifRingState, 28, 1, .ro, 0⟩
/-- HIF.CR[n].APPLIED [11:0] NEXT (R71). -/
def HIF_RING_APPLIED_NEXT : Fld := ⟨.hifRingApplied, 0, 12, .ro, 0⟩
/-- HIF.CR[n].APPLIED [12:12] NEXT_PHASE (R71). -/
def HIF_RING_APPLIED_NEXT_PHASE : Fld := ⟨.hifRingApplied, 12, 1, .ro, 0⟩
/-- HIF.CR[n].APPLIED [13:13] VALID (R71). -/
def HIF_RING_APPLIED_VALID : Fld := ⟨.hifRingApplied, 13, 1, .ro, 0⟩
/-- HIF.CQ[m].CTRL [3:0] SIZE_LOG2 (R71). -/
def HIF_CQ_CTRL_SIZE_LOG2 : Fld := ⟨.hifCqCtrl, 0, 4, .rw, 0⟩
/-- HIF.CQ[m].CTRL [4:4] ENABLE (R71). -/
def HIF_CQ_CTRL_ENABLE : Fld := ⟨.hifCqCtrl, 4, 1, .rw, 0⟩
/-- HIF.CQ[m].CTRL [13:8] VECTOR (R71). -/
def HIF_CQ_CTRL_VECTOR : Fld := ⟨.hifCqCtrl, 8, 6, .rw, 0⟩
/-- HIF.CQ[m].MOD [7:0] COUNT (R71). -/
def HIF_CQ_MOD_COUNT : Fld := ⟨.hifCqMod, 0, 8, .rw, 1⟩
/-- HIF.CQ[m].MOD [31:16] TIME (R71). -/
def HIF_CQ_MOD_TIME : Fld := ⟨.hifCqMod, 16, 16, .rw, 0⟩
/-- HIF.EQ.LOST [7:0] COUNT (R71). -/
def HIF_EQ_LOST_COUNT : Fld := ⟨.hifEqLost, 0, 8, .ro, 0⟩
/-- HIF.EQ.LOST [8:8] SAT (R71). -/
def HIF_EQ_LOST_SAT : Fld := ⟨.hifEqLost, 8, 1, .ro, 0⟩
/-- HIF.*.DB [11:0] INDEX (R71). -/
def HIF_DB_INDEX : Fld := ⟨.hifDb, 0, 12, .wo, 0⟩
/-- HIF.*.DB [12:12] PHASE (R71). -/
def HIF_DB_PHASE : Fld := ⟨.hifDb, 12, 1, .wo, 0⟩
/-- HIF.CR[n].REARM [11:0] RESUME (R71). -/
def HIF_REARM_RESUME : Fld := ⟨.hifRearm, 0, 12, .wo, 0⟩
/-- HIF.CR[n].REARM [12:12] RESUME_PHASE (R71). -/
def HIF_REARM_RESUME_PHASE : Fld := ⟨.hifRearm, 12, 1, .wo, 0⟩
/-- HIF.CR[n].REARM [13:13] GO (R71). -/
def HIF_REARM_GO : Fld := ⟨.hifRearm, 13, 1, .wo, 0⟩
/-- ENG.IDENT [31:0] PROG_A (R139). -/
def ENG_IDENT_PROG_A : Fld := ⟨.engIdent, 0, 32, .ro, 0⟩
/-- ENG.IDENT [63:32] PROG_B (R139). -/
def ENG_IDENT_PROG_B : Fld := ⟨.engIdent, 32, 32, .ro, 0⟩
/-- ENG.IDENT [71:64] CFMT_A (R139). -/
def ENG_IDENT_CFMT_A : Fld := ⟨.engIdent, 64, 8, .ro, 0⟩
/-- ENG.IDENT [79:72] CFMT_B (R139). -/
def ENG_IDENT_CFMT_B : Fld := ⟨.engIdent, 72, 8, .ro, 0⟩
/-- ENG.IDENT [80:80] DIFFER (R139). -/
def ENG_IDENT_DIFFER : Fld := ⟨.engIdent, 80, 1, .ro, 0⟩
/-- ENG.BANK [0:0] IN_FORCE (R139). -/
def ENG_BANK_IN_FORCE : Fld := ⟨.engBank, 0, 1, .ro, 0⟩
/-- ENG.BANK [1:1] SWAP (R139). -/
def ENG_BANK_SWAP : Fld := ⟨.engBank, 1, 1, .wo, 0⟩
/-- ENG.BANK [39:8] SWAP_SEQ (R139). -/
def ENG_BANK_SWAP_SEQ : Fld := ⟨.engBank, 8, 32, .ro, 0⟩
/-- ENG.COEF_A [23:0] WORD (R139). Reset: image. -/
def ENG_COEF_A_WORD : Fld := ⟨.engCoefA, 0, 24, .rw, 0⟩
/-- ENG.COEF_B [23:0] WORD (R139). Reset: image. -/
def ENG_COEF_B_WORD : Fld := ⟨.engCoefB, 0, 24, .rw, 0⟩
/-- ENG.LANE [9:0] DELTAS (R139). -/
def ENG_LANE_DELTAS : Fld := ⟨.engLane, 0, 10, .ro, 0⟩
/-- ENG.LANE [10:10] SFLAG (R139). -/
def ENG_LANE_SFLAG : Fld := ⟨.engLane, 10, 1, .ro, 0⟩
/-- ENG.LANE [11:11] OVR (R139). -/
def ENG_LANE_OVR : Fld := ⟨.engLane, 11, 1, .ro, 0⟩
/-- ENG.LANE [31:16] PARITY (R139). -/
def ENG_LANE_PARITY : Fld := ⟨.engLane, 16, 16, .ro, 0⟩
/-- ENG.LANE [32:32] PARITY_SAT (R139). -/
def ENG_LANE_PARITY_SAT : Fld := ⟨.engLane, 32, 1, .ro, 0⟩
/-- ENG.LANE [33:33] CLR (R139). -/
def ENG_LANE_CLR : Fld := ⟨.engLane, 33, 1, .wo, 0⟩
/-- ENG.TASK [12:0] ENTRY (R139). Reset: image. -/
def ENG_TASK_ENTRY : Fld := ⟨.engTask, 0, 13, .ro, 0⟩
/-- ENG.TASK [31:16] PATH (R139). Reset: image. -/
def ENG_TASK_PATH : Fld := ⟨.engTask, 16, 16, .ro, 0⟩
/-- ENG.TASK [40:32] DELTA (R139). Reset: image. -/
def ENG_TASK_DELTA : Fld := ⟨.engTask, 32, 9, .ro, 0⟩
/-- ENG.TASK [61:48] XS (R139). Reset: image. -/
def ENG_TASK_XS : Fld := ⟨.engTask, 48, 14, .ro, 0⟩
/-- ENG.TASK [77:64] YS (R139). Reset: image. -/
def ENG_TASK_YS : Fld := ⟨.engTask, 64, 14, .ro, 0⟩
/-- ENG.TASK [89:80] INW (R139). Reset: image. -/
def ENG_TASK_INW : Fld := ⟨.engTask, 80, 10, .ro, 0⟩
/-- ENG.TASK [102:96] CSTRIDE (R139). Reset: image. -/
def ENG_TASK_CSTRIDE : Fld := ⟨.engTask, 96, 7, .ro, 0⟩
/-- ENG.TASK [123:112] CBASE (R139). Reset: image. -/
def ENG_TASK_CBASE : Fld := ⟨.engTask, 112, 12, .ro, 0⟩
/-- AXIS.CFG [1:0] TYPE (R143). -/
def AXIS_CFG_TYPE : Fld := ⟨.axisCfg, 0, 2, .rw, 0⟩
/-- AXIS.CFG [2:2] OUTER (R143). -/
def AXIS_CFG_OUTER : Fld := ⟨.axisCfg, 2, 1, .rw, 0⟩
/-- AXIS.CFG [3:3] POSLOOP (R143). -/
def AXIS_CFG_POSLOOP : Fld := ⟨.axisCfg, 3, 1, .rw, 0⟩
/-- AXIS.CFG [5:4] CURCTL (R143). -/
def AXIS_CFG_CURCTL : Fld := ⟨.axisCfg, 4, 2, .rw, 0⟩
/-- AXIS.CFG [7:6] BRIDGE (R143). -/
def AXIS_CFG_BRIDGE : Fld := ⟨.axisCfg, 6, 2, .rw, 0⟩
/-- AXIS.CFG [9:8] NBR (R143). -/
def AXIS_CFG_NBR : Fld := ⟨.axisCfg, 8, 2, .rw, 0⟩
/-- AXIS.CFG [14:10] PWM0 (R143). -/
def AXIS_CFG_PWM0 : Fld := ⟨.axisCfg, 10, 5, .rw, 0⟩
/-- AXIS.CFG [20:15] FB (R143). -/
def AXIS_CFG_FB : Fld := ⟨.axisCfg, 15, 6, .rw, 0⟩
/-- AXIS.CFG [27:21] IS0 (R143). -/
def AXIS_CFG_IS0 : Fld := ⟨.axisCfg, 21, 7, .rw, 0⟩
/-- AXIS.CFG [34:28] VDC (R143). -/
def AXIS_CFG_VDC : Fld := ⟨.axisCfg, 28, 7, .rw, 0⟩
/-- AXIS.CFG [41:35] VDC_N (R143). -/
def AXIS_CFG_VDC_N : Fld := ⟨.axisCfg, 35, 7, .rw, 0⟩
/-- AXIS.CFG [42:42] SENSORLESS (R143). -/
def AXIS_CFG_SENSORLESS : Fld := ⟨.axisCfg, 42, 1, .rw, 0⟩
/-- AXIS.CFG [43:43] FW (R143). -/
def AXIS_CFG_FW : Fld := ⟨.axisCfg, 43, 1, .rw, 0⟩
/-- AXIS.CFG [44:44] CLAMP_V (R143). -/
def AXIS_CFG_CLAMP_V : Fld := ⟨.axisCfg, 44, 1, .rw, 0⟩
/-- AXIS.CFG [45:45] CLAMP_I (R143). -/
def AXIS_CFG_CLAMP_I : Fld := ⟨.axisCfg, 45, 1, .rw, 0⟩
/-- AXIS.CFG [46:46] CLAMP_SH (R143). -/
def AXIS_CFG_CLAMP_SH : Fld := ⟨.axisCfg, 46, 1, .rw, 0⟩
/-- AXIS.CFG [47:47] REVERSE (R143). -/
def AXIS_CFG_REVERSE : Fld := ⟨.axisCfg, 47, 1, .rw, 0⟩
/-- AXIS.CFG [51:48] SPD_EXP (R143). -/
def AXIS_CFG_SPD_EXP : Fld := ⟨.axisCfg, 48, 4, .rw, 0⟩
/-- AXIS.CFG [53:52] UPDPT (R143). -/
def AXIS_CFG_UPDPT : Fld := ⟨.axisCfg, 52, 2, .rw, 0⟩
/-- AXIS.CFG [95:64] APC (R143). -/
def AXIS_CFG_APC : Fld := ⟨.axisCfg, 64, 32, .rw, 0⟩
/-- AXIS.CFG [127:96] CPR (R143). -/
def AXIS_CFG_CPR : Fld := ⟨.axisCfg, 96, 32, .rw, 0⟩
/-- AXIS.CFG [151:128] ANG_OFFSET (R143). -/
def AXIS_CFG_ANG_OFFSET : Fld := ⟨.axisCfg, 128, 24, .rw, 0⟩
/-- AXIS.LIMITS [23:0] I_LIM (R145). -/
def AXIS_LIMITS_I_LIM : Fld := ⟨.axisLimits, 0, 24, .rw, 0⟩
/-- AXIS.LIMITS [55:32] SPD_LIM (R145). -/
def AXIS_LIMITS_SPD_LIM : Fld := ⟨.axisLimits, 32, 24, .rw, 0⟩
/-- AXIS.LIMITS [87:64] T_LIM (R145). -/
def AXIS_LIMITS_T_LIM : Fld := ⟨.axisLimits, 64, 24, .rw, 0⟩
/-- AXIS.LIMITS [119:96] FE_LIM (R145). -/
def AXIS_LIMITS_FE_LIM : Fld := ⟨.axisLimits, 96, 24, .rw, 16777215⟩
/-- AXIS.LIMITS [143:128] FE_TIME (R145). -/
def AXIS_LIMITS_FE_TIME : Fld := ⟨.axisLimits, 128, 16, .rw, 0⟩
/-- AXIS.LIMITS [175:160] LA_TIME (R145). -/
def AXIS_LIMITS_LA_TIME : Fld := ⟨.axisLimits, 160, 16, .rw, 0⟩
/-- AXIS.LIMITS [207:192] BOOST_TIME (R145). -/
def AXIS_LIMITS_BOOST_TIME : Fld := ⟨.axisLimits, 192, 16, .rw, 65535⟩
/-- AXIS.COMP [23:0] DT_V (R145). -/
def AXIS_COMP_DT_V : Fld := ⟨.axisComp, 0, 24, .rw, 0⟩
/-- AXIS.COMP [55:32] DT_ZONE (R145). -/
def AXIS_COMP_DT_ZONE : Fld := ⟨.axisComp, 32, 24, .rw, 0⟩
/-- AXIS.STATUS [23:0] POS_L (R146). -/
def AXIS_STATUS_POS_L : Fld := ⟨.axisStatus, 0, 24, .ro, 0⟩
/-- AXIS.STATUS [55:32] POS_H (R146). -/
def AXIS_STATUS_POS_H : Fld := ⟨.axisStatus, 32, 24, .ro, 0⟩
/-- AXIS.STATUS [87:64] SPEED (R146). -/
def AXIS_STATUS_SPEED : Fld := ⟨.axisStatus, 64, 24, .ro, 0⟩
/-- AXIS.STATUS [119:96] ID (R146). -/
def AXIS_STATUS_ID : Fld := ⟨.axisStatus, 96, 24, .ro, 0⟩
/-- AXIS.STATUS [151:128] IQ (R146). -/
def AXIS_STATUS_IQ : Fld := ⟨.axisStatus, 128, 24, .ro, 0⟩
/-- AXIS.STATUS [183:160] VD (R146). -/
def AXIS_STATUS_VD : Fld := ⟨.axisStatus, 160, 24, .ro, 0⟩
/-- AXIS.STATUS [215:192] VQ (R146). -/
def AXIS_STATUS_VQ : Fld := ⟨.axisStatus, 192, 24, .ro, 0⟩
/-- AXIS.STATUS [247:224] LN_D (R146). -/
def AXIS_STATUS_LN_D : Fld := ⟨.axisStatus, 224, 24, .ro, 0⟩
/-- AXIS.STATUS [279:256] LN_Q (R146). -/
def AXIS_STATUS_LN_Q : Fld := ⟨.axisStatus, 256, 24, .ro, 0⟩
/-- AXIS.STATUS [311:288] THETA (R146). -/
def AXIS_STATUS_THETA : Fld := ⟨.axisStatus, 288, 24, .ro, 0⟩
/-- AXIS.STATUS [320:320] TRACK (R146). -/
def AXIS_STATUS_TRACK : Fld := ⟨.axisStatus, 320, 1, .ro, 0⟩
/-- AXIS.STATUS [321:321] POS_CONT (R146). -/
def AXIS_STATUS_POS_CONT : Fld := ⟨.axisStatus, 321, 1, .ro, 0⟩
/-- AXIS.STATUS [322:322] FW_ACT (R146). -/
def AXIS_STATUS_FW_ACT : Fld := ⟨.axisStatus, 322, 1, .ro, 0⟩
/-- AXIS.STATUS [323:323] ISAT (R146). -/
def AXIS_STATUS_ISAT : Fld := ⟨.axisStatus, 323, 1, .ro, 0⟩
/-- AXIS.STATUS [324:324] VSAT (R146). -/
def AXIS_STATUS_VSAT : Fld := ⟨.axisStatus, 324, 1, .ro, 0⟩
/-- AXIS.STATUS [325:325] OBS_VALID (R146). -/
def AXIS_STATUS_OBS_VALID : Fld := ⟨.axisStatus, 325, 1, .ro, 0⟩
/-- AXIS.STATUS [326:326] BOOST (R146). -/
def AXIS_STATUS_BOOST : Fld := ⟨.axisStatus, 326, 1, .ro, 0⟩
/-- AXIS.STATUS [327:327] ADAPT_LIM (R146). -/
def AXIS_STATUS_ADAPT_LIM : Fld := ⟨.axisStatus, 327, 1, .ro, 0⟩
/-- AXIS.STATUS [328:328] LATE_SEEN (R146). -/
def AXIS_STATUS_LATE_SEEN : Fld := ⟨.axisStatus, 328, 1, .ro, 0⟩
/-- AXIS.STATUS [367:352] FE_CNT (R146). -/
def AXIS_STATUS_FE_CNT : Fld := ⟨.axisStatus, 352, 16, .ro, 0⟩
/-- PROF.LIMITS [23:0] VMAX (R173). -/
def PROF_LIMITS_VMAX : Fld := ⟨.profLimits, 0, 24, .rw, 0⟩
/-- PROF.LIMITS [55:32] ACC (R173). -/
def PROF_LIMITS_ACC : Fld := ⟨.profLimits, 32, 24, .rw, 0⟩
/-- PROF.LIMITS [87:64] DEC (R173). -/
def PROF_LIMITS_DEC : Fld := ⟨.profLimits, 64, 24, .rw, 0⟩
/-- PROF.LIMITS [119:96] JERK (R173). -/
def PROF_LIMITS_JERK : Fld := ⟨.profLimits, 96, 24, .rw, 0⟩
/-- PROF.LIMITS [151:128] STOP_DEC (R173). -/
def PROF_LIMITS_STOP_DEC : Fld := ⟨.profLimits, 128, 24, .rw, 0⟩
/-- PROF.LIMITS [183:160] QSTOP_DEC (R173). -/
def PROF_LIMITS_QSTOP_DEC : Fld := ⟨.profLimits, 160, 24, .rw, 0⟩
/-- PROF.LIMITS [215:192] MODULUS_L (R173). -/
def PROF_LIMITS_MODULUS_L : Fld := ⟨.profLimits, 192, 24, .rw, 0⟩
/-- PROF.LIMITS [231:224] MODULUS_H (R173). -/
def PROF_LIMITS_MODULUS_H : Fld := ⟨.profLimits, 224, 8, .rw, 0⟩
/-- PROF.STATUS [2:0] SEG (R174). -/
def PROF_STATUS_SEG : Fld := ⟨.profStatus, 0, 3, .ro, 0⟩
/-- PROF.STATUS [3:3] KEPT (R174). -/
def PROF_STATUS_KEPT : Fld := ⟨.profStatus, 3, 1, .ro, 0⟩
/-- PROF.STATUS [4:4] REVERSED (R174). -/
def PROF_STATUS_REVERSED : Fld := ⟨.profStatus, 4, 1, .ro, 0⟩
/-- PROF.STATUS [6:5] KIND (R174). -/
def PROF_STATUS_KIND : Fld := ⟨.profStatus, 5, 2, .ro, 0⟩
/-- PROF.STATUS [7:7] VCLAMP (R174). -/
def PROF_STATUS_VCLAMP : Fld := ⟨.profStatus, 7, 1, .ro, 0⟩
/-- PROF.STATUS [55:32] TARGET_L (R174). -/
def PROF_STATUS_TARGET_L : Fld := ⟨.profStatus, 32, 24, .ro, 0⟩
/-- PROF.STATUS [87:64] TARGET_H (R174). -/
def PROF_STATUS_TARGET_H : Fld := ⟨.profStatus, 64, 24, .ro, 0⟩
/-- PROF.STATUS [119:96] REMAIN_L (R174). -/
def PROF_STATUS_REMAIN_L : Fld := ⟨.profStatus, 96, 24, .ro, 0⟩
/-- PROF.STATUS [151:128] REMAIN_H (R174). -/
def PROF_STATUS_REMAIN_H : Fld := ⟨.profStatus, 128, 24, .ro, 0⟩
/-- PROF.STATUS [183:160] OVER_L (R174). -/
def PROF_STATUS_OVER_L : Fld := ⟨.profStatus, 160, 24, .ro, 0⟩
/-- PROF.STATUS [215:192] OVER_H (R174). -/
def PROF_STATUS_OVER_H : Fld := ⟨.profStatus, 192, 24, .ro, 0⟩
/-- PROF.STATUS [247:224] V_P (R174). -/
def PROF_STATUS_V_P : Fld := ⟨.profStatus, 224, 24, .ro, 0⟩
/-- PROF.STATUS [279:256] A_P (R174). -/
def PROF_STATUS_A_P : Fld := ⟨.profStatus, 256, 24, .ro, 0⟩
/-- PROF.STATUS [311:288] D_COMMIT (R174). -/
def PROF_STATUS_D_COMMIT : Fld := ⟨.profStatus, 288, 24, .ro, 0⟩
/-- PROF.STATUS [343:320] LAND (R174). -/
def PROF_STATUS_LAND : Fld := ⟨.profStatus, 320, 24, .ro, 0⟩
/-- GEAR.MASTER [2:0] KIND (R202). -/
def GEAR_MASTER_KIND : Fld := ⟨.gearMaster, 0, 3, .rw, 0⟩
/-- GEAR.MASTER [3:3] COMP (R202). -/
def GEAR_MASTER_COMP : Fld := ⟨.gearMaster, 3, 1, .rw, 0⟩
/-- GEAR.MASTER [9:4] INDEX (R202). -/
def GEAR_MASTER_INDEX : Fld := ⟨.gearMaster, 4, 6, .rw, 0⟩
/-- GEAR.MASTER [31:16] STALE_MAX (R202). -/
def GEAR_MASTER_STALE_MAX : Fld := ⟨.gearMaster, 16, 16, .rw, 4⟩
/-- GEAR.MASTER [34:32] STATE (R202). -/
def GEAR_MASTER_STATE : Fld := ⟨.gearMaster, 32, 3, .ro, 0⟩
/-- GEAR.MASTER [35:35] STALE (R202). -/
def GEAR_MASTER_STALE : Fld := ⟨.gearMaster, 35, 1, .ro, 0⟩
/-- GEAR.MASTER [36:36] OUT_RANGE (R202). -/
def GEAR_MASTER_OUT_RANGE : Fld := ⟨.gearMaster, 36, 1, .ro, 0⟩
/-- GEAR.MASTER [37:37] BLENDING (R202). -/
def GEAR_MASTER_BLENDING : Fld := ⟨.gearMaster, 37, 1, .ro, 0⟩
/-- CAM.COMMIT [15:0] FIRST (R214). -/
def CAM_COMMIT_FIRST : Fld := ⟨.camCommit, 0, 16, .rw, 0⟩
/-- CAM.COMMIT [31:16] COUNT (R214). -/
def CAM_COMMIT_COUNT : Fld := ⟨.camCommit, 16, 16, .rw, 1⟩
/-- CAM.COMMIT [32:32] GO (R214). -/
def CAM_COMMIT_GO : Fld := ⟨.camCommit, 32, 1, .wo, 0⟩
/-- CAM.PROF [14:0] FIRST (R215). -/
def CAM_PROF_FIRST : Fld := ⟨.camProf, 0, 15, .rw, 0⟩
/-- CAM.PROF [15:15] CYCLIC (R215). -/
def CAM_PROF_CYCLIC : Fld := ⟨.camProf, 15, 1, .rw, 0⟩
/-- CAM.PROF [31:16] N (R215). -/
def CAM_PROF_N : Fld := ⟨.camProf, 16, 16, .rw, 0⟩
/-- CAM.PROF [63:32] SPAN (R215). -/
def CAM_PROF_SPAN : Fld := ⟨.camProf, 32, 32, .rw, 0⟩
/-- CAM.PROF [87:64] RISE (R215). -/
def CAM_PROF_RISE : Fld := ⟨.camProf, 64, 24, .rw, 0⟩
/-- CAM.PROF [127:96] YSCALE (R215). -/
def CAM_PROF_YSCALE : Fld := ⟨.camProf, 96, 32, .rw, 0⟩
/-- CARAVAN.CFG [47:0] MEMBER (R218). Reset: all 1. -/
def CARAVAN_CFG_MEMBER : Fld := ⟨.caravanCfg, 0, 48, .rw, 281474976710655⟩
/-- CARAVAN.CFG [51:48] PSPD_EXP (R218). -/
def CARAVAN_CFG_PSPD_EXP : Fld := ⟨.caravanCfg, 48, 4, .rw, 0⟩
/-- CARAVAN.CFG [52:52] PAUSE (R218). -/
def CARAVAN_CFG_PAUSE : Fld := ⟨.caravanCfg, 52, 1, .rw, 0⟩
/-- CARAVAN.CFG [87:64] VMAX (R218). -/
def CARAVAN_CFG_VMAX : Fld := ⟨.caravanCfg, 64, 24, .rw, 0⟩
/-- CARAVAN.CFG [111:88] ACC (R218). -/
def CARAVAN_CFG_ACC : Fld := ⟨.caravanCfg, 88, 24, .rw, 0⟩
/-- CARAVAN.CFG [135:112] DEC (R218). -/
def CARAVAN_CFG_DEC : Fld := ⟨.caravanCfg, 112, 24, .rw, 0⟩
/-- CARAVAN.CFG [159:136] JERK (R218). -/
def CARAVAN_CFG_JERK : Fld := ⟨.caravanCfg, 136, 24, .rw, 0⟩
/-- CARAVAN.CFG [183:160] PSTOP_DEC (R218). -/
def CARAVAN_CFG_PSTOP_DEC : Fld := ⟨.caravanCfg, 160, 24, .rw, 0⟩
/-- CARAVAN.CFG [199:192] HEAD (R218). -/
def CARAVAN_CFG_HEAD : Fld := ⟨.caravanCfg, 192, 8, .ro, 0⟩
/-- CARAVAN.CFG [208:200] COUNT (R218). -/
def CARAVAN_CFG_COUNT : Fld := ⟨.caravanCfg, 200, 9, .ro, 0⟩
/-- CARAVAN.CFG [209:209] MOVING (R218). -/
def CARAVAN_CFG_MOVING : Fld := ⟨.caravanCfg, 209, 1, .ro, 0⟩
/-- CARAVAN.CFG [210:210] BROKEN (R218). -/
def CARAVAN_CFG_BROKEN : Fld := ⟨.caravanCfg, 210, 1, .ro, 0⟩
/-- LATCH.CFG [4:0] FB (R229). -/
def LATCH_CFG_FB : Fld := ⟨.latchCfg, 0, 5, .rw, 0⟩
/-- LATCH.CFG [9:8] EDGE (R229). -/
def LATCH_CFG_EDGE : Fld := ⟨.latchCfg, 8, 2, .rw, 1⟩
/-- LATCH.CFG [23:16] FILTER (R229). -/
def LATCH_CFG_FILTER : Fld := ⟨.latchCfg, 16, 8, .rw, 0⟩
/-- LATCH.RESULT [63:0] TIME (R229). -/
def LATCH_RESULT_TIME : Fld := ⟨.latchResult, 0, 64, .ro, 0⟩
/-- LATCH.RESULT [95:64] COUNT (R229). -/
def LATCH_RESULT_COUNT : Fld := ⟨.latchResult, 64, 32, .ro, 0⟩
/-- LATCH.RESULT [103:96] FRAC (R229). -/
def LATCH_RESULT_FRAC : Fld := ⟨.latchResult, 96, 8, .ro, 0⟩
/-- LATCH.RESULT [104:104] VALID (R229). -/
def LATCH_RESULT_VALID : Fld := ⟨.latchResult, 104, 1, .ro, 0⟩
/-- LATCH.RESULT [105:105] RISING (R229). -/
def LATCH_RESULT_RISING : Fld := ⟨.latchResult, 105, 1, .ro, 0⟩
/-- LATCH.RESULT [127:112] EXTRA (R229). -/
def LATCH_RESULT_EXTRA : Fld := ⟨.latchResult, 112, 16, .ro, 0⟩
/-- CMP.CFG [4:0] FB (R233). -/
def CMP_CFG_FB : Fld := ⟨.cmpCfg, 0, 5, .rw, 0⟩
/-- CMP.CFG [11:8] DO (R233). -/
def CMP_CFG_DO : Fld := ⟨.cmpCfg, 8, 4, .rw, 0⟩
/-- CMP.CFG [12:12] DO_EN (R233). -/
def CMP_CFG_DO_EN : Fld := ⟨.cmpCfg, 12, 1, .rw, 0⟩
/-- CMP.CFG [31:16] PULSE (R233). -/
def CMP_CFG_PULSE : Fld := ⟨.cmpCfg, 16, 16, .rw, 1⟩
/-- CMP.STATUS [0:0] ARMED (R233). -/
def CMP_STATUS_ARMED : Fld := ⟨.cmpStatus, 0, 1, .ro, 0⟩
/-- CMP.STATUS [1:1] COMPARE_BEHIND (R233). -/
def CMP_STATUS_COMPARE_BEHIND : Fld := ⟨.cmpStatus, 1, 1, .ro, 0⟩
/-- CMP.STATUS [31:16] REMAIN (R233). -/
def CMP_STATUS_REMAIN : Fld := ⟨.cmpStatus, 16, 16, .ro, 0⟩
/-- CMP.STATUS [63:32] POS (R233). -/
def CMP_STATUS_POS : Fld := ⟨.cmpStatus, 32, 32, .ro, 0⟩
/-- CMP.STATUS [127:64] LAST (R233). -/
def CMP_STATUS_LAST : Fld := ⟨.cmpStatus, 64, 64, .ro, 0⟩
/-- PWMG.CFG [1:0] KIND (R244). -/
def PWMG_CFG_KIND : Fld := ⟨.pwmgCfg, 0, 2, .rw, 0⟩
/-- PWMG.CFG [2:2] CARRIER (R244). -/
def PWMG_CFG_CARRIER : Fld := ⟨.pwmgCfg, 2, 1, .rw, 1⟩
/-- PWMG.CFG [5:4] UPDPT (R244). -/
def PWMG_CFG_UPDPT : Fld := ⟨.pwmgCfg, 4, 2, .rw, 0⟩
/-- PWMG.CFG [6:6] GANG_EN (R244). -/
def PWMG_CFG_GANG_EN : Fld := ⟨.pwmgCfg, 6, 1, .rw, 0⟩
/-- PWMG.CFG [7:7] IDLE3 (R244). -/
def PWMG_CFG_IDLE3 : Fld := ⟨.pwmgCfg, 7, 1, .rw, 0⟩
/-- PWMG.CFG [12:8] LEAD (R244). -/
def PWMG_CFG_LEAD : Fld := ⟨.pwmgCfg, 8, 5, .rw, 0⟩
/-- PWMG.CFG [21:16] IDLE (R244). -/
def PWMG_CFG_IDLE : Fld := ⟨.pwmgCfg, 16, 6, .rw, 0⟩
/-- PWMG.CFG [51:32] PER (R244). -/
def PWMG_CFG_PER : Fld := ⟨.pwmgCfg, 32, 20, .rw, 6250⟩
/-- PWMG.CFG [87:64] PHASE (R244). -/
def PWMG_CFG_PHASE : Fld := ⟨.pwmgCfg, 64, 24, .rw, 0⟩
/-- PWMG.CFG [108:96] DT (R244). -/
def PWMG_CFG_DT : Fld := ⟨.pwmgCfg, 96, 13, .rw, 400⟩
/-- PWMG.CFG [123:112] MINP (R244). -/
def PWMG_CFG_MINP : Fld := ⟨.pwmgCfg, 112, 12, .rw, 0⟩
/-- PWMG.CFG [159:128] TRIP_MASK (R244). -/
def PWMG_CFG_TRIP_MASK : Fld := ⟨.pwmgCfg, 128, 32, .rw, 0⟩
/-- PWMG.CFG [160:160] BLANK_EN (R244). -/
def PWMG_CFG_BLANK_EN : Fld := ⟨.pwmgCfg, 160, 1, .rw, 0⟩
/-- PWMG.CFG [161:161] BLANK_SEL (R244). -/
def PWMG_CFG_BLANK_SEL : Fld := ⟨.pwmgCfg, 161, 1, .rw, 0⟩
/-- PWMG.CFG [166:162] BLANK_GRP (R244). -/
def PWMG_CFG_BLANK_GRP : Fld := ⟨.pwmgCfg, 162, 5, .rw, 0⟩
/-- PWMG.AUX [23:0] X0_START (R257). -/
def PWMG_AUX_X0_START : Fld := ⟨.pwmgAux, 0, 24, .rw, 0⟩
/-- PWMG.AUX [47:24] X0_END (R257). -/
def PWMG_AUX_X0_END : Fld := ⟨.pwmgAux, 24, 24, .rw, 0⟩
/-- PWMG.AUX [71:48] X1_START (R257). -/
def PWMG_AUX_X1_START : Fld := ⟨.pwmgAux, 48, 24, .rw, 0⟩
/-- PWMG.AUX [95:72] X1_END (R257). -/
def PWMG_AUX_X1_END : Fld := ⟨.pwmgAux, 72, 24, .rw, 0⟩
/-- PWMG.AUX [99:96] TA_SRC (R257). -/
def PWMG_AUX_TA_SRC : Fld := ⟨.pwmgAux, 96, 4, .rw, 0⟩
/-- PWMG.AUX [103:100] TA_PRE (R257). -/
def PWMG_AUX_TA_PRE : Fld := ⟨.pwmgAux, 100, 4, .rw, 0⟩
/-- PWMG.AUX [107:104] TB_SRC (R257). -/
def PWMG_AUX_TB_SRC : Fld := ⟨.pwmgAux, 104, 4, .rw, 0⟩
/-- PWMG.AUX [111:108] TB_PRE (R257). -/
def PWMG_AUX_TB_PRE : Fld := ⟨.pwmgAux, 108, 4, .rw, 0⟩
/-- PWM.TRIPIN [31:0] ACT_HIGH (R259). -/
def PWM_TRIPIN_ACT_HIGH : Fld := ⟨.pwmTripin, 0, 32, .rw, 0⟩
/-- PWM.TRIPIN [39:32] FILTER (R259). -/
def PWM_TRIPIN_FILTER : Fld := ⟨.pwmTripin, 32, 8, .rw, 4⟩
/-- PWM.TRIPIN [95:64] LIVE (R259). -/
def PWM_TRIPIN_LIVE : Fld := ⟨.pwmTripin, 64, 32, .ro, 0⟩
/-- PWMG.CTRL [0:0] EN (R266). -/
def PWMG_CTRL_EN : Fld := ⟨.pwmgCtrl, 0, 1, .rw, 0⟩
/-- PWMG.CTRL [1:1] TRIP_CLR (R266). -/
def PWMG_CTRL_TRIP_CLR : Fld := ⟨.pwmgCtrl, 1, 1, .wo, 0⟩
/-- PWMG.CTRL [2:2] CNT_CLR (R266). -/
def PWMG_CTRL_CNT_CLR : Fld := ⟨.pwmgCtrl, 2, 1, .wo, 0⟩
/-- PWMG.STATUS [2:0] STATE (R266). -/
def PWMG_STATUS_STATE : Fld := ⟨.pwmgStatus, 0, 3, .ro, 0⟩
/-- PWMG.STATUS [3:3] TRIPPED (R266). -/
def PWMG_STATUS_TRIPPED : Fld := ⟨.pwmgStatus, 3, 1, .ro, 0⟩
/-- PWMG.STATUS [4:4] LATE (R266). -/
def PWMG_STATUS_LATE : Fld := ⟨.pwmgStatus, 4, 1, .ro, 0⟩
/-- PWMG.STATUS [5:5] FENCED (R266). -/
def PWMG_STATUS_FENCED : Fld := ⟨.pwmgStatus, 5, 1, .ro, 0⟩
/-- PWMG.STATUS [6:6] BADCMD (R266). -/
def PWMG_STATUS_BADCMD : Fld := ⟨.pwmgStatus, 6, 1, .ro, 0⟩
/-- PWMG.STATUS [7:7] WAITING (R266). -/
def PWMG_STATUS_WAITING : Fld := ⟨.pwmgStatus, 7, 1, .ro, 0⟩
/-- PWMG.STATUS [15:8] TRIP_SRC (R266). -/
def PWMG_STATUS_TRIP_SRC : Fld := ⟨.pwmgStatus, 8, 8, .ro, 255⟩
/-- PWMG.STATUS [47:16] APPLIED_SEQ (R266). -/
def PWMG_STATUS_APPLIED_SEQ : Fld := ⟨.pwmgStatus, 16, 32, .ro, 0⟩
/-- PWMG.STATUS [63:48] PULSE_EATEN (R266). -/
def PWMG_STATUS_PULSE_EATEN : Fld := ⟨.pwmgStatus, 48, 16, .ro, 0⟩
/-- PWMG.STATUS [79:64] PULSE_HELD (R266). -/
def PWMG_STATUS_PULSE_HELD : Fld := ⟨.pwmgStatus, 64, 16, .ro, 0⟩
/-- PWMG.STATUS [95:80] LATE_CNT (R266). -/
def PWMG_STATUS_LATE_CNT : Fld := ⟨.pwmgStatus, 80, 16, .ro, 0⟩
/-- PWMG.STATUS [111:96] DISCARDED (R266). -/
def PWMG_STATUS_DISCARDED : Fld := ⟨.pwmgStatus, 96, 16, .ro, 0⟩
/-- PWMG.STATUS [112:112] EATEN_SAT (R266). -/
def PWMG_STATUS_EATEN_SAT : Fld := ⟨.pwmgStatus, 112, 1, .ro, 0⟩
/-- PWMG.STATUS [113:113] HELD_SAT (R266). -/
def PWMG_STATUS_HELD_SAT : Fld := ⟨.pwmgStatus, 113, 1, .ro, 0⟩
/-- PWMG.STATUS [114:114] LATE_SAT (R266). -/
def PWMG_STATUS_LATE_SAT : Fld := ⟨.pwmgStatus, 114, 1, .ro, 0⟩
/-- PWMG.STATUS [115:115] DISC_SAT (R266). -/
def PWMG_STATUS_DISC_SAT : Fld := ⟨.pwmgStatus, 115, 1, .ro, 0⟩
/-- PWMG.STATUS [191:128] TRIP_TIME (R266). -/
def PWMG_STATUS_TRIP_TIME : Fld := ⟨.pwmgStatus, 128, 64, .ro, 0⟩
/-- FB.CFG [2:0] MODE (R270). -/
def FB_CFG_MODE : Fld := ⟨.fbCfg, 0, 3, .rw, 0⟩
/-- FB.CFG [3:3] INV_DIR (R270). -/
def FB_CFG_INV_DIR : Fld := ⟨.fbCfg, 3, 1, .rw, 0⟩
/-- FB.CFG [4:4] Z_EN (R270). -/
def FB_CFG_Z_EN : Fld := ⟨.fbCfg, 4, 1, .rw, 0⟩
/-- FB.CFG [5:5] Z_HIGH (R270). -/
def FB_CFG_Z_HIGH : Fld := ⟨.fbCfg, 5, 1, .rw, 1⟩
/-- FB.CFG [8:6] Z_GATE (R270). -/
def FB_CFG_Z_GATE : Fld := ⟨.fbCfg, 6, 3, .rw, 0⟩
/-- FB.CFG [23:16] FILTER (R270). -/
def FB_CFG_FILTER : Fld := ⟨.fbCfg, 16, 8, .rw, 4⟩
/-- FB.CFG [27:24] SPD_EXP (R270). -/
def FB_CFG_SPD_EXP : Fld := ⟨.fbCfg, 24, 4, .rw, 0⟩
/-- FB.CFG [31:28] SPD_WIN (R270). -/
def FB_CFG_SPD_WIN : Fld := ⟨.fbCfg, 28, 4, .rw, 7⟩
/-- FB.CFG [33:32] REREF (R270). -/
def FB_CFG_REREF : Fld := ⟨.fbCfg, 32, 2, .rw, 0⟩
/-- FB.CFG [63:48] ZERO_T (R270). -/
def FB_CFG_ZERO_T : Fld := ⟨.fbCfg, 48, 16, .rw, 64⟩
/-- FB.CFG [95:64] CPR_CH (R270). -/
def FB_CFG_CPR_CH : Fld := ⟨.fbCfg, 64, 32, .rw, 0⟩
/-- FB.CFG [111:96] INDEX_TOL (R270). -/
def FB_CFG_INDEX_TOL : Fld := ⟨.fbCfg, 96, 16, .rw, 2⟩
/-- FB.CFG [159:128] SPD_FULL (R270). -/
def FB_CFG_SPD_FULL : Fld := ⟨.fbCfg, 128, 32, .rw, 0⟩
/-- FB.CFG [183:160] V_UP (R270). -/
def FB_CFG_V_UP : Fld := ⟨.fbCfg, 160, 24, .rw, 8388607⟩
/-- FB.CFG [207:184] V_DOWN (R270). -/
def FB_CFG_V_DOWN : Fld := ⟨.fbCfg, 184, 24, .rw, 8388607⟩
/-- FB.CFG [255:224] INDEX_VAL (R270). -/
def FB_CFG_INDEX_VAL : Fld := ⟨.fbCfg, 224, 32, .rw, 0⟩
/-- FB.SERIAL [5:0] POSBITS (R281). -/
def FB_SERIAL_POSBITS : Fld := ⟨.fbSerial, 0, 6, .rw, 24⟩
/-- FB.SERIAL [8:6] LEADBITS (R281). -/
def FB_SERIAL_LEADBITS : Fld := ⟨.fbSerial, 6, 3, .rw, 0⟩
/-- FB.SERIAL [12:9] STBITS (R281). -/
def FB_SERIAL_STBITS : Fld := ⟨.fbSerial, 9, 4, .rw, 0⟩
/-- FB.SERIAL [13:13] GRAY (R281). -/
def FB_SERIAL_GRAY : Fld := ⟨.fbSerial, 13, 1, .rw, 0⟩
/-- FB.SERIAL [15:14] PARITY (R281). -/
def FB_SERIAL_PARITY : Fld := ⟨.fbSerial, 14, 2, .rw, 0⟩
/-- FB.SERIAL [19:16] TIMEOUT (R281). -/
def FB_SERIAL_TIMEOUT : Fld := ⟨.fbSerial, 16, 4, .rw, 8⟩
/-- FB.SERIAL [35:24] SER_DIV (R281). -/
def FB_SERIAL_SER_DIV : Fld := ⟨.fbSerial, 24, 12, .rw, 40⟩
/-- FB.SERIAL [37:36] REQ (R281). -/
def FB_SERIAL_REQ : Fld := ⟨.fbSerial, 36, 2, .rw, 0⟩
/-- FB.SERIAL [42:38] REQ_GRP (R281). -/
def FB_SERIAL_REQ_GRP : Fld := ⟨.fbSerial, 38, 5, .rw, 0⟩
/-- FB.SERIAL [67:48] LEAD (R281). -/
def FB_SERIAL_LEAD : Fld := ⟨.fbSerial, 48, 20, .rw, 3000⟩
/-- FB.SERIAL [83:68] SAMPLE_DLY (R281). -/
def FB_SERIAL_SAMPLE_DLY : Fld := ⟨.fbSerial, 68, 16, .rw, 0⟩
/-- FB.SERIAL [99:84] SSI_DLY (R281). -/
def FB_SERIAL_SSI_DLY : Fld := ⟨.fbSerial, 84, 16, .rw, 0⟩
/-- FB.SERIAL [115:100] RECOV (R281). -/
def FB_SERIAL_RECOV : Fld := ⟨.fbSerial, 100, 16, .rw, 8000⟩
/-- FB.SERIAL [123:116] LOSS_N (R281). -/
def FB_SERIAL_LOSS_N : Fld := ⟨.fbSerial, 116, 8, .rw, 4⟩
/-- FB.CTRL [0:0] PRESET (R288). -/
def FB_CTRL_PRESET : Fld := ⟨.fbCtrl, 0, 1, .wo, 0⟩
/-- FB.CTRL [1:1] ARM_HOME (R288). -/
def FB_CTRL_ARM_HOME : Fld := ⟨.fbCtrl, 1, 1, .wo, 0⟩
/-- FB.CTRL [2:2] CNT_CLR (R288). -/
def FB_CTRL_CNT_CLR : Fld := ⟨.fbCtrl, 2, 1, .wo, 0⟩
/-- FB.CTRL [3:3] SER_GO (R288). -/
def FB_CTRL_SER_GO : Fld := ⟨.fbCtrl, 3, 1, .wo, 0⟩
/-- FB.CTRL [6:4] SER_CMD (R288). -/
def FB_CTRL_SER_CMD : Fld := ⟨.fbCtrl, 4, 3, .rw, 2⟩
/-- FB.CTRL [15:8] SER_ARG (R288). -/
def FB_CTRL_SER_ARG : Fld := ⟨.fbCtrl, 8, 8, .rw, 0⟩
/-- FB.CTRL [63:32] PRESET_VAL (R288). -/
def FB_CTRL_PRESET_VAL : Fld := ⟨.fbCtrl, 32, 32, .rw, 0⟩
/-- FB.STATUS [31:0] COUNT (R289). -/
def FB_STATUS_COUNT : Fld := ⟨.fbStatus, 0, 32, .ro, 0⟩
/-- FB.STATUS [55:32] SPEED (R289). -/
def FB_STATUS_SPEED : Fld := ⟨.fbStatus, 32, 24, .ro, 0⟩
/-- FB.STATUS [56:56] DIR (R289). -/
def FB_STATUS_DIR : Fld := ⟨.fbStatus, 56, 1, .ro, 0⟩
/-- FB.STATUS [57:57] SPD_MODE (R289). -/
def FB_STATUS_SPD_MODE : Fld := ⟨.fbStatus, 57, 1, .ro, 0⟩
/-- FB.STATUS [58:58] REFERENCED (R289). -/
def FB_STATUS_REFERENCED : Fld := ⟨.fbStatus, 58, 1, .ro, 0⟩
/-- FB.STATUS [59:59] VALID (R289). -/
def FB_STATUS_VALID : Fld := ⟨.fbStatus, 59, 1, .ro, 0⟩
/-- FB.STATUS [62:60] HALL (R289). -/
def FB_STATUS_HALL : Fld := ⟨.fbStatus, 60, 3, .ro, 0⟩
/-- FB.STATUS [63:63] REG_VALID (R289). -/
def FB_STATUS_REG_VALID : Fld := ⟨.fbStatus, 63, 1, .ro, 0⟩
/-- FB.STATUS [95:64] INDEX_COUNT (R289). -/
def FB_STATUS_INDEX_COUNT : Fld := ⟨.fbStatus, 64, 32, .ro, 0⟩
/-- FB.STATUS [119:96] INDEX_OFF (R289). -/
def FB_STATUS_INDEX_OFF : Fld := ⟨.fbStatus, 96, 24, .ro, 0⟩
/-- FB.STATUS [127:120] SER_STATUS (R289). -/
def FB_STATUS_SER_STATUS : Fld := ⟨.fbStatus, 120, 8, .ro, 0⟩
/-- FB.STATUS [143:128] QUAD_ERR (R289). -/
def FB_STATUS_QUAD_ERR : Fld := ⟨.fbStatus, 128, 16, .ro, 0⟩
/-- FB.STATUS [159:144] BAD_FRAMES (R289). -/
def FB_STATUS_BAD_FRAMES : Fld := ⟨.fbStatus, 144, 16, .ro, 0⟩
/-- FB.STATUS [175:160] SLIPS (R289). -/
def FB_STATUS_SLIPS : Fld := ⟨.fbStatus, 160, 16, .ro, 0⟩
/-- FB.STATUS [191:176] SKIPPED (R289). -/
def FB_STATUS_SKIPPED : Fld := ⟨.fbStatus, 176, 16, .ro, 0⟩
/-- FB.STATUS [195:192] SAT (R289). -/
def FB_STATUS_SAT : Fld := ⟨.fbStatus, 192, 4, .ro, 0⟩
/-- FB.STATUS [196:196] HOMED (R289). -/
def FB_STATUS_HOMED : Fld := ⟨.fbStatus, 196, 1, .ro, 0⟩
/-- FB.STATUS [223:208] DELAY (R289). -/
def FB_STATUS_DELAY : Fld := ⟨.fbStatus, 208, 16, .ro, 0⟩
/-- FB.STATUS [239:224] REG (R289). -/
def FB_STATUS_REG : Fld := ⟨.fbStatus, 224, 16, .ro, 0⟩
/-- EMU.CFG [1:0] MODE (R291). -/
def EMU_CFG_MODE : Fld := ⟨.emuCfg, 0, 2, .rw, 0⟩
/-- EMU.CFG [6:2] SRC (R291). -/
def EMU_CFG_SRC : Fld := ⟨.emuCfg, 2, 5, .rw, 0⟩
/-- EMU.CFG [15:8] DIV (R291). -/
def EMU_CFG_DIV : Fld := ⟨.emuCfg, 8, 8, .rw, 0⟩
/-- EMU.CFG [31:16] MINSEP (R291). -/
def EMU_CFG_MINSEP : Fld := ⟨.emuCfg, 16, 16, .rw, 40⟩
/-- EMU.CFG [63:32] ZPER (R291). -/
def EMU_CFG_ZPER : Fld := ⟨.emuCfg, 32, 32, .rw, 0⟩
/-- EMU.STATUS [31:0] COUNTER (R291). -/
def EMU_STATUS_COUNTER : Fld := ⟨.emuStatus, 0, 32, .ro, 0⟩
/-- EMU.STATUS [55:32] LAG (R291). -/
def EMU_STATUS_LAG : Fld := ⟨.emuStatus, 32, 24, .ro, 0⟩
/-- CS.CLK [7:0] DIV_0 (R294). -/
def CS_CLK_DIV_0 : Fld := ⟨.csClk, 0, 8, .rw, 0⟩
/-- CS.CLK [15:8] DIV_1 (R294). -/
def CS_CLK_DIV_1 : Fld := ⟨.csClk, 8, 8, .rw, 0⟩
/-- CS.CLK [23:16] DIV_2 (R294). -/
def CS_CLK_DIV_2 : Fld := ⟨.csClk, 16, 8, .rw, 0⟩
/-- CS.CLK [31:24] DIV_3 (R294). -/
def CS_CLK_DIV_3 : Fld := ⟨.csClk, 24, 8, .rw, 0⟩
/-- CS.CLK [39:32] DIV_4 (R294). -/
def CS_CLK_DIV_4 : Fld := ⟨.csClk, 32, 8, .rw, 0⟩
/-- CS.CLK [47:40] DIV_5 (R294). -/
def CS_CLK_DIV_5 : Fld := ⟨.csClk, 40, 8, .rw, 0⟩
/-- CS.CLK [55:48] DIV_6 (R294). -/
def CS_CLK_DIV_6 : Fld := ⟨.csClk, 48, 8, .rw, 0⟩
/-- CS.CLK [63:56] DIV_7 (R294). -/
def CS_CLK_DIV_7 : Fld := ⟨.csClk, 56, 8, .rw, 0⟩
/-- CS.CFG [2:0] CLKSEL (R295). -/
def CS_CFG_CLKSEL : Fld := ⟨.csCfg, 0, 3, .rw, 0⟩
/-- CS.CFG [3:3] EDGE (R295). -/
def CS_CFG_EDGE : Fld := ⟨.csCfg, 3, 1, .rw, 0⟩
/-- CS.CFG [7:4] DLY (R295). -/
def CS_CFG_DLY : Fld := ⟨.csCfg, 4, 4, .rw, 0⟩
/-- CS.CFG [10:8] OSR (R295). -/
def CS_CFG_OSR : Fld := ⟨.csCfg, 8, 3, .rw, 2⟩
/-- CS.CFG [11:11] INV (R295). -/
def CS_CFG_INV : Fld := ⟨.csCfg, 11, 1, .rw, 0⟩
/-- CS.CFG [13:12] SAMP (R295). -/
def CS_CFG_SAMP : Fld := ⟨.csCfg, 12, 2, .rw, 0⟩
/-- CS.CFG [18:14] SGRP (R295). -/
def CS_CFG_SGRP : Fld := ⟨.csCfg, 14, 5, .rw, 0⟩
/-- CS.CFG [19:19] EN (R295). -/
def CS_CFG_EN : Fld := ⟨.csCfg, 19, 1, .rw, 0⟩
/-- CS.CFG [43:32] STUCK (R295). -/
def CS_CFG_STUCK : Fld := ⟨.csCfg, 32, 12, .rw, 0⟩
/-- CS.CFG [87:64] OFFSET (R295). -/
def CS_CFG_OFFSET : Fld := ⟨.csCfg, 64, 24, .rw, 0⟩
/-- CS.OC [1:0] ORD (R298). -/
def CS_OC_ORD : Fld := ⟨.csOc, 0, 2, .rw, 0⟩
/-- CS.OC [6:2] ROC (R298). -/
def CS_OC_ROC : Fld := ⟨.csOc, 2, 5, .rw, 8⟩
/-- CS.OC [15:8] FILT (R298). -/
def CS_OC_FILT : Fld := ⟨.csOc, 8, 8, .rw, 0⟩
/-- CS.OC [39:16] HI (R298). -/
def CS_OC_HI : Fld := ⟨.csOc, 16, 24, .rw, 8388607⟩
/-- CS.OC [63:40] LO (R298). -/
def CS_OC_LO : Fld := ⟨.csOc, 40, 24, .rw, 8388608⟩
/-- CS.OC [95:64] TRIP_MASK (R298). -/
def CS_OC_TRIP_MASK : Fld := ⟨.csOc, 64, 32, .rw, 0⟩
/-- CS.STATUS [23:0] SAMPLE (R300). -/
def CS_STATUS_SAMPLE : Fld := ⟨.csStatus, 0, 24, .ro, 0⟩
/-- CS.STATUS [24:24] OC_LIVE (R300). -/
def CS_STATUS_OC_LIVE : Fld := ⟨.csStatus, 24, 1, .ro, 0⟩
/-- CS.STATUS [25:25] STUCK_LIVE (R300). -/
def CS_STATUS_STUCK_LIVE : Fld := ⟨.csStatus, 25, 1, .ro, 0⟩
/-- CS.STATUS [47:32] OC_CNT (R300). -/
def CS_STATUS_OC_CNT : Fld := ⟨.csStatus, 32, 16, .ro, 0⟩
/-- CS.STATUS [63:48] STALE_CNT (R300). -/
def CS_STATUS_STALE_CNT : Fld := ⟨.csStatus, 48, 16, .ro, 0⟩
/-- CS.STATUS [64:64] OC_SAT (R300). -/
def CS_STATUS_OC_SAT : Fld := ⟨.csStatus, 64, 1, .ro, 0⟩
/-- CS.STATUS [65:65] STALE_SAT (R300). -/
def CS_STATUS_STALE_SAT : Fld := ⟨.csStatus, 65, 1, .ro, 0⟩
/-- CS.STATUS [66:66] CLR (R300). -/
def CS_STATUS_CLR : Fld := ⟨.csStatus, 66, 1, .wo, 0⟩
/-- TIME.CFG [0:0] MT_SRC (R307). -/
def TIME_CFG_MT_SRC : Fld := ⟨.timeCfg, 0, 1, .rw, 0⟩
/-- TIME.CFG [1:1] STEP_EN (R307). -/
def TIME_CFG_STEP_EN : Fld := ⟨.timeCfg, 1, 1, .rw, 1⟩
/-- TIME.CFG [2:2] ALIGN_FWD (R307). -/
def TIME_CFG_ALIGN_FWD : Fld := ⟨.timeCfg, 2, 1, .rw, 1⟩
/-- TIME.CFG [3:3] PROFILE (R307). -/
def TIME_CFG_PROFILE : Fld := ⟨.timeCfg, 3, 1, .rw, 0⟩
/-- TIME.CFG [4:4] SLAVE_ONLY (R307). -/
def TIME_CFG_SLAVE_ONLY : Fld := ⟨.timeCfg, 4, 1, .rw, 0⟩
/-- TIME.CFG [15:8] DOMAIN (R307). -/
def TIME_CFG_DOMAIN : Fld := ⟨.timeCfg, 8, 8, .rw, 0⟩
/-- TIME.CFG [23:16] PRIO1 (R307). -/
def TIME_CFG_PRIO1 : Fld := ⟨.timeCfg, 16, 8, .rw, 128⟩
/-- TIME.CFG [31:24] PRIO2 (R307). -/
def TIME_CFG_PRIO2 : Fld := ⟨.timeCfg, 24, 8, .rw, 128⟩
/-- TIME.CFG [39:32] CLASS (R307). -/
def TIME_CFG_CLASS : Fld := ⟨.timeCfg, 32, 8, .rw, 248⟩
/-- TIME.CFG [47:40] ACCURACY (R307). -/
def TIME_CFG_ACCURACY : Fld := ⟨.timeCfg, 40, 8, .rw, 254⟩
/-- TIME.CFG [63:48] NODE (R307). -/
def TIME_CFG_NODE : Fld := ⟨.timeCfg, 48, 16, .rw, 0⟩
/-- TIME.CFG [127:64] EPOCH (R307). -/
def TIME_CFG_EPOCH : Fld := ⟨.timeCfg, 64, 64, .rw, 0⟩
/-- TIME.CFG [143:128] SLEW (R307). -/
def TIME_CFG_SLEW : Fld := ⟨.timeCfg, 128, 16, .rw, 1000⟩
/-- TIME.CFG [159:144] MT_TAU (R307). -/
def TIME_CFG_MT_TAU : Fld := ⟨.timeCfg, 144, 16, .rw, 100⟩
/-- TIME.CFG [191:160] STEP_THR (R307). -/
def TIME_CFG_STEP_THR : Fld := ⟨.timeCfg, 160, 32, .rw, 20000⟩
/-- TIME.CFG [207:192] ADJ_MAX (R307). -/
def TIME_CFG_ADJ_MAX : Fld := ⟨.timeCfg, 192, 16, .rw, 500⟩
/-- TIME.CFG [223:208] LOCK_NS (R307). -/
def TIME_CFG_LOCK_NS : Fld := ⟨.timeCfg, 208, 16, .rw, 100⟩
/-- TIME.CFG [247:224] KP (R307). -/
def TIME_CFG_KP : Fld := ⟨.timeCfg, 224, 24, .rw, 2097152⟩
/-- TIME.CFG [279:256] KI (R307). -/
def TIME_CFG_KI : Fld := ⟨.timeCfg, 256, 24, .rw, 524288⟩
/-- TIME.STATUS [1:0] SERVO (R311). -/
def TIME_STATUS_SERVO : Fld := ⟨.timeStatus, 0, 2, .ro, 0⟩
/-- TIME.STATUS [2:2] ALIGNED (R311). -/
def TIME_STATUS_ALIGNED : Fld := ⟨.timeStatus, 2, 1, .ro, 0⟩
/-- TIME.STATUS [3:3] SLEWING (R311). -/
def TIME_STATUS_SLEWING : Fld := ⟨.timeStatus, 3, 1, .ro, 0⟩
/-- TIME.STATUS [5:4] SLAVE_PORT (R311). -/
def TIME_STATUS_SLAVE_PORT : Fld := ⟨.timeStatus, 4, 2, .ro, 3⟩
/-- TIME.STATUS [15:8] STEPS (R311). -/
def TIME_STATUS_STEPS : Fld := ⟨.timeStatus, 8, 8, .ro, 0⟩
/-- TIME.STATUS [16:16] STEPS_SAT (R311). -/
def TIME_STATUS_STEPS_SAT : Fld := ⟨.timeStatus, 16, 1, .ro, 0⟩
/-- TIME.STATUS [17:17] CLR (R311). -/
def TIME_STATUS_CLR : Fld := ⟨.timeStatus, 17, 1, .wo, 0⟩
/-- TIME.STATUS [63:32] OFFSET (R311). -/
def TIME_STATUS_OFFSET : Fld := ⟨.timeStatus, 32, 32, .ro, 0⟩
/-- TIME.STATUS [95:64] FREQ (R311). -/
def TIME_STATUS_FREQ : Fld := ⟨.timeStatus, 64, 32, .ro, 0⟩
/-- TIME.STATUS [159:96] D (R311). -/
def TIME_STATUS_D : Fld := ⟨.timeStatus, 96, 64, .ro, 0⟩
/-- TIME.STATUS [223:160] GM_ID (R311). -/
def TIME_STATUS_GM_ID : Fld := ⟨.timeStatus, 160, 64, .ro, 0⟩
/-- TIME.STATUS [271:224] PTP_S (R311). -/
def TIME_STATUS_PTP_S : Fld := ⟨.timeStatus, 224, 48, .ro, 0⟩
/-- TIME.STATUS [303:272] PTP_NS (R311). -/
def TIME_STATUS_PTP_NS : Fld := ⟨.timeStatus, 272, 32, .ro, 0⟩
/-- TIME.STATUS [319:304] PTP_FRAC (R311). -/
def TIME_STATUS_PTP_FRAC : Fld := ⟨.timeStatus, 304, 16, .ro, 0⟩
/-- ETH.CFG [2:0] SPEED (R317). -/
def ETH_CFG_SPEED : Fld := ⟨.ethCfg, 0, 3, .rw, 1⟩
/-- ETH.CFG [3:3] PTP_EN (R317). -/
def ETH_CFG_PTP_EN : Fld := ⟨.ethCfg, 3, 1, .rw, 0⟩
/-- ETH.CFG [4:4] DELAY (R317). -/
def ETH_CFG_DELAY : Fld := ⟨.ethCfg, 4, 1, .rw, 0⟩
/-- ETH.CFG [5:5] ONE_STEP (R317). -/
def ETH_CFG_ONE_STEP : Fld := ⟨.ethCfg, 5, 1, .rw, 0⟩
/-- ETH.CFG [6:6] VLAN_EN (R317). -/
def ETH_CFG_VLAN_EN : Fld := ⟨.ethCfg, 6, 1, .rw, 0⟩
/-- ETH.CFG [63:16] MAC (R317). Reset: factory. -/
def ETH_CFG_MAC : Fld := ⟨.ethCfg, 16, 48, .rw, 0⟩
/-- ETH.CFG [75:64] VID (R317). -/
def ETH_CFG_VID : Fld := ⟨.ethCfg, 64, 12, .rw, 0⟩
/-- ETH.CFG [78:76] PCP (R317). -/
def ETH_CFG_PCP : Fld := ⟨.ethCfg, 76, 3, .rw, 7⟩
/-- ETH.CFG [83:80] LOG_SYNC (R317). -/
def ETH_CFG_LOG_SYNC : Fld := ⟨.ethCfg, 80, 4, .rw, 13⟩
/-- ETH.CFG [87:84] LOG_DREQ (R317). -/
def ETH_CFG_LOG_DREQ : Fld := ⟨.ethCfg, 84, 4, .rw, 0⟩
/-- ETH.CFG [91:88] LOG_ANN (R317). -/
def ETH_CFG_LOG_ANN : Fld := ⟨.ethCfg, 88, 4, .rw, 1⟩
/-- ETH.CFG [95:92] ANN_TO (R317). -/
def ETH_CFG_ANN_TO : Fld := ⟨.ethCfg, 92, 4, .rw, 3⟩
/-- ETH.CFG [127:96] ASYM (R317). -/
def ETH_CFG_ASYM : Fld := ⟨.ethCfg, 96, 32, .rw, 0⟩
/-- ETH.CFG [159:128] TX_LAT (R317). -/
def ETH_CFG_TX_LAT : Fld := ⟨.ethCfg, 128, 32, .rw, 0⟩
/-- ETH.CFG [191:160] RX_LAT (R317). -/
def ETH_CFG_RX_LAT : Fld := ⟨.ethCfg, 160, 32, .rw, 0⟩
/-- ETH.STATUS [0:0] LINK (R317). -/
def ETH_STATUS_LINK : Fld := ⟨.ethStatus, 0, 1, .ro, 0⟩
/-- ETH.STATUS [3:1] SPEED (R317). -/
def ETH_STATUS_SPEED : Fld := ⟨.ethStatus, 1, 3, .ro, 0⟩
/-- ETH.STATUS [7:4] PORT_STATE (R317). -/
def ETH_STATUS_PORT_STATE : Fld := ⟨.ethStatus, 4, 4, .ro, 1⟩
/-- ETH.STATUS [8:8] TXQ_OVF (R317). -/
def ETH_STATUS_TXQ_OVF : Fld := ⟨.ethStatus, 8, 1, .ro, 0⟩
/-- ETH.STATUS [13:9] TXQ_DEPTH (R317). -/
def ETH_STATUS_TXQ_DEPTH : Fld := ⟨.ethStatus, 9, 5, .ro, 0⟩
/-- ETH.STATUS [14:14] CLR (R317). -/
def ETH_STATUS_CLR : Fld := ⟨.ethStatus, 14, 1, .wo, 0⟩
/-- ETH.STATUS [63:32] MPD (R317). -/
def ETH_STATUS_MPD : Fld := ⟨.ethStatus, 32, 32, .ro, 0⟩
/-- ETH.STATUS [79:64] DROPPED (R317). -/
def ETH_STATUS_DROPPED : Fld := ⟨.ethStatus, 64, 16, .ro, 0⟩
/-- ETH.STATUS [95:80] FCS_ERR (R317). -/
def ETH_STATUS_FCS_ERR : Fld := ⟨.ethStatus, 80, 16, .ro, 0⟩
/-- ETH.STATUS [96:96] DROP_SAT (R317). -/
def ETH_STATUS_DROP_SAT : Fld := ⟨.ethStatus, 96, 1, .ro, 0⟩
/-- ETH.STATUS [97:97] FCS_SAT (R317). -/
def ETH_STATUS_FCS_SAT : Fld := ⟨.ethStatus, 97, 1, .ro, 0⟩
/-- CYC.TX [0:0] EN (R318). -/
def CYC_TX_EN : Fld := ⟨.cycTx, 0, 1, .rw, 0⟩
/-- CYC.TX [3:1] PORTS (R318). -/
def CYC_TX_PORTS : Fld := ⟨.cycTx, 1, 3, .rw, 0⟩
/-- CYC.TX [15:8] CHANNEL (R318). -/
def CYC_TX_CHANNEL : Fld := ⟨.cycTx, 8, 8, .rw, 0⟩
/-- CYC.TX [21:16] NWORDS (R318). -/
def CYC_TX_NWORDS : Fld := ⟨.cycTx, 16, 6, .rw, 0⟩
/-- CYC.TX [79:32] DST (R318). -/
def CYC_TX_DST : Fld := ⟨.cycTx, 32, 48, .rw, 0⟩
/-- CYC.TX [99:80] TX_OFFS (R318). -/
def CYC_TX_TX_OFFS : Fld := ⟨.cycTx, 80, 20, .rw, 0⟩
/-- CYC.TX [135:104] LAT (R318). -/
def CYC_TX_LAT : Fld := ⟨.cycTx, 104, 32, .rw, 0⟩
/-- CYC.RX [0:0] EN (R319). -/
def CYC_RX_EN : Fld := ⟨.cycRx, 0, 1, .rw, 0⟩
/-- CYC.RX [3:1] PORTS (R319). -/
def CYC_RX_PORTS : Fld := ⟨.cycRx, 1, 3, .rw, 0⟩
/-- CYC.RX [15:8] CHANNEL (R319). -/
def CYC_RX_CHANNEL : Fld := ⟨.cycRx, 8, 8, .rw, 0⟩
/-- CYC.RX [21:16] NWORDS (R319). -/
def CYC_RX_NWORDS : Fld := ⟨.cycRx, 16, 6, .rw, 0⟩
/-- CYC.RX [47:32] PRODUCER (R319). -/
def CYC_RX_PRODUCER : Fld := ⟨.cycRx, 32, 16, .rw, 0⟩
/-- CYC.RX [63:48] LOST_N (R319). -/
def CYC_RX_LOST_N : Fld := ⟨.cycRx, 48, 16, .rw, 0⟩
/-- CYC.RX [79:64] LATE_CNT (R319). -/
def CYC_RX_LATE_CNT : Fld := ⟨.cycRx, 64, 16, .ro, 0⟩
/-- CYC.RX [95:80] DUP_CNT (R319). -/
def CYC_RX_DUP_CNT : Fld := ⟨.cycRx, 80, 16, .ro, 0⟩
/-- CYC.RX [111:96] DIFF_CNT (R319). -/
def CYC_RX_DIFF_CNT : Fld := ⟨.cycRx, 96, 16, .ro, 0⟩
/-- CYC.RX [114:112] SAT (R319). -/
def CYC_RX_SAT : Fld := ⟨.cycRx, 112, 3, .ro, 0⟩
/-- CYC.RX [115:115] CLR (R319). -/
def CYC_RX_CLR : Fld := ⟨.cycRx, 115, 1, .wo, 0⟩
/-- NET.MASTER [3:0] RXCH (R323). -/
def NET_MASTER_RXCH : Fld := ⟨.netMaster, 0, 4, .rw, 0⟩
/-- NET.MASTER [9:4] WOFF (R323). -/
def NET_MASTER_WOFF : Fld := ⟨.netMaster, 4, 6, .rw, 0⟩
/-- CAN.CFG [0:0] EN (R324). -/
def CAN_CFG_EN : Fld := ⟨.canCfg, 0, 1, .rw, 0⟩
/-- CAN.CFG [1:1] FD_EN (R324). -/
def CAN_CFG_FD_EN : Fld := ⟨.canCfg, 1, 1, .rw, 0⟩
/-- CAN.CFG [2:2] XL_EN (R324). -/
def CAN_CFG_XL_EN : Fld := ⟨.canCfg, 2, 1, .rw, 0⟩
/-- CAN.CFG [3:3] LISTEN (R324). -/
def CAN_CFG_LISTEN : Fld := ⟨.canCfg, 3, 1, .rw, 0⟩
/-- CAN.CFG [4:4] LOOPBACK (R324). -/
def CAN_CFG_LOOPBACK : Fld := ⟨.canCfg, 4, 1, .rw, 0⟩
/-- CAN.CFG [5:5] AUTO_REC (R324). -/
def CAN_CFG_AUTO_REC : Fld := ⟨.canCfg, 5, 1, .rw, 1⟩
/-- CAN.CFG [6:6] TDC_EN (R324). -/
def CAN_CFG_TDC_EN : Fld := ⟨.canCfg, 6, 1, .rw, 0⟩
/-- CAN.CFG [7:7] XL_TMS (R324). -/
def CAN_CFG_XL_TMS : Fld := ⟨.canCfg, 7, 1, .rw, 0⟩
/-- CAN.CFG [15:8] NBRP (R324). -/
def CAN_CFG_NBRP : Fld := ⟨.canCfg, 8, 8, .rw, 0⟩
/-- CAN.CFG [23:16] NTSEG1 (R324). -/
def CAN_CFG_NTSEG1 : Fld := ⟨.canCfg, 16, 8, .rw, 126⟩
/-- CAN.CFG [30:24] NTSEG2 (R324). -/
def CAN_CFG_NTSEG2 : Fld := ⟨.canCfg, 24, 7, .rw, 31⟩
/-- CAN.CFG [37:31] NSJW (R324). -/
def CAN_CFG_NSJW : Fld := ⟨.canCfg, 31, 7, .rw, 31⟩
/-- CAN.CFG [44:40] DBRP (R324). -/
def CAN_CFG_DBRP : Fld := ⟨.canCfg, 40, 5, .rw, 0⟩
/-- CAN.CFG [49:45] DTSEG1 (R324). -/
def CAN_CFG_DTSEG1 : Fld := ⟨.canCfg, 45, 5, .rw, 30⟩
/-- CAN.CFG [53:50] DTSEG2 (R324). -/
def CAN_CFG_DTSEG2 : Fld := ⟨.canCfg, 50, 4, .rw, 7⟩
/-- CAN.CFG [57:54] DSJW (R324). -/
def CAN_CFG_DSJW : Fld := ⟨.canCfg, 54, 4, .rw, 7⟩
/-- CAN.CFG [62:58] XBRP (R324). -/
def CAN_CFG_XBRP : Fld := ⟨.canCfg, 58, 5, .rw, 0⟩
/-- CAN.CFG [67:63] XTSEG1 (R324). -/
def CAN_CFG_XTSEG1 : Fld := ⟨.canCfg, 63, 5, .rw, 14⟩
/-- CAN.CFG [71:68] XTSEG2 (R324). -/
def CAN_CFG_XTSEG2 : Fld := ⟨.canCfg, 68, 4, .rw, 3⟩
/-- CAN.CFG [75:72] XSJW (R324). -/
def CAN_CFG_XSJW : Fld := ⟨.canCfg, 72, 4, .rw, 3⟩
/-- CAN.CFG [82:76] TDCO (R324). -/
def CAN_CFG_TDCO : Fld := ⟨.canCfg, 76, 7, .rw, 0⟩
/-- CAN.CFG [88:83] PWMS (R324). -/
def CAN_CFG_PWMS : Fld := ⟨.canCfg, 83, 6, .rw, 0⟩
/-- CAN.CFG [94:89] PWML (R324). -/
def CAN_CFG_PWML : Fld := ⟨.canCfg, 89, 6, .rw, 0⟩
/-- CAN.TXSLOT [31:0] ID (R328). -/
def CAN_TXSLOT_ID : Fld := ⟨.canTxslot, 0, 32, .rw, 0⟩
/-- CAN.TXSLOT [39:32] FORMAT (R328). -/
def CAN_TXSLOT_FORMAT : Fld := ⟨.canTxslot, 32, 8, .rw, 0⟩
/-- CAN.TXSLOT [47:40] FLAGS (R328). -/
def CAN_TXSLOT_FLAGS : Fld := ⟨.canTxslot, 40, 8, .rw, 0⟩
/-- CAN.TXSLOT [52:48] LEN (R328). -/
def CAN_TXSLOT_LEN : Fld := ⟨.canTxslot, 48, 5, .rw, 0⟩
/-- CAN.TXSLOT [53:53] EN (R328). -/
def CAN_TXSLOT_EN : Fld := ⟨.canTxslot, 53, 1, .rw, 0⟩
/-- CAN.FILTER [31:0] ID (R329). -/
def CAN_FILTER_ID : Fld := ⟨.canFilter, 0, 32, .rw, 0⟩
/-- CAN.FILTER [63:32] MASK (R329). -/
def CAN_FILTER_MASK : Fld := ⟨.canFilter, 32, 32, .rw, 0⟩
/-- CAN.FILTER [64:64] EN (R329). -/
def CAN_FILTER_EN : Fld := ⟨.canFilter, 64, 1, .rw, 0⟩
/-- CAN.FILTER [65:65] HOST (R329). -/
def CAN_FILTER_HOST : Fld := ⟨.canFilter, 65, 1, .rw, 0⟩
/-- CAN.FILTER [66:66] LANE (R329). -/
def CAN_FILTER_LANE : Fld := ⟨.canFilter, 66, 1, .rw, 0⟩
/-- CAN.FILTER [69:67] SLOT (R329). -/
def CAN_FILTER_SLOT : Fld := ⟨.canFilter, 67, 3, .rw, 0⟩
/-- CAN.RXCTL [7:0] PROD (R331). -/
def CAN_RXCTL_PROD : Fld := ⟨.canRxctl, 0, 8, .ro, 0⟩
/-- CAN.RXCTL [8:8] PROD_PHASE (R331). -/
def CAN_RXCTL_PROD_PHASE : Fld := ⟨.canRxctl, 8, 1, .ro, 0⟩
/-- CAN.RXCTL [23:16] CONS (R331). -/
def CAN_RXCTL_CONS : Fld := ⟨.canRxctl, 16, 8, .rw, 0⟩
/-- CAN.RXCTL [24:24] CONS_PHASE (R331). -/
def CAN_RXCTL_CONS_PHASE : Fld := ⟨.canRxctl, 24, 1, .rw, 0⟩
/-- CAN.STATUS [1:0] STATE (R331). -/
def CAN_STATUS_STATE : Fld := ⟨.canStatus, 0, 2, .ro, 3⟩
/-- CAN.STATUS [15:8] TEC (R331). -/
def CAN_STATUS_TEC : Fld := ⟨.canStatus, 8, 8, .ro, 0⟩
/-- CAN.STATUS [23:16] REC (R331). -/
def CAN_STATUS_REC : Fld := ⟨.canStatus, 16, 8, .ro, 0⟩
/-- CAN.STATUS [47:32] ERR_FRAMES (R331). -/
def CAN_STATUS_ERR_FRAMES : Fld := ⟨.canStatus, 32, 16, .ro, 0⟩
/-- CAN.STATUS [63:48] RX_LOST (R331). -/
def CAN_STATUS_RX_LOST : Fld := ⟨.canStatus, 48, 16, .ro, 0⟩
/-- CAN.STATUS [64:64] ERR_SAT (R331). -/
def CAN_STATUS_ERR_SAT : Fld := ⟨.canStatus, 64, 1, .ro, 0⟩
/-- CAN.STATUS [65:65] LOST_SAT (R331). -/
def CAN_STATUS_LOST_SAT : Fld := ⟨.canStatus, 65, 1, .ro, 0⟩
/-- CAN.STATUS [66:66] CLR (R331). -/
def CAN_STATUS_CLR : Fld := ⟨.canStatus, 66, 1, .wo, 0⟩
/-- RED.CFG [0:0] ARM (R462). -/
def RED_CFG_ARM : Fld := ⟨.redCfg, 0, 1, .rw, 0⟩
/-- RED.CFG [1:1] AUTO_RELOAD (R462). -/
def RED_CFG_AUTO_RELOAD : Fld := ⟨.redCfg, 1, 1, .rw, 0⟩
/-- RED.CFG [2:2] MIG_EN (R462). -/
def RED_CFG_MIG_EN : Fld := ⟨.redCfg, 2, 1, .rw, 0⟩
/-- RED.CFG [15:8] MIG_RATIO (R462). -/
def RED_CFG_MIG_RATIO : Fld := ⟨.redCfg, 8, 8, .rw, 117⟩
/-- RED.CFG [23:16] MIG_SLACK (R462). -/
def RED_CFG_MIG_SLACK : Fld := ⟨.redCfg, 16, 8, .rw, 13⟩
/-- RED.CFG [27:24] EVAL_LOG2 (R462). -/
def RED_CFG_EVAL_LOG2 : Fld := ⟨.redCfg, 24, 4, .rw, 8⟩
/-- RED.CFG [31:28] MIG_WINDOWS (R462). -/
def RED_CFG_MIG_WINDOWS : Fld := ⟨.redCfg, 28, 4, .rw, 2⟩
/-- RED.CTRL [0:0] MIGRATE (R355). -/
def RED_CTRL_MIGRATE : Fld := ⟨.redCtrl, 0, 1, .wo, 0⟩
/-- RED.CTRL [4:1] LANE (R355). -/
def RED_CTRL_LANE : Fld := ⟨.redCtrl, 1, 4, .wo, 0⟩
/-- RED.CTRL [5:5] UNRETIRE (R355). -/
def RED_CTRL_UNRETIRE : Fld := ⟨.redCtrl, 5, 1, .wo, 0⟩
/-- RED.CTRL [6:6] UNIT (R355). -/
def RED_CTRL_UNIT : Fld := ⟨.redCtrl, 6, 1, .wo, 0⟩
/-- RED.CTRL [7:7] CLR (R355). -/
def RED_CTRL_CLR : Fld := ⟨.redCtrl, 7, 1, .wo, 0⟩
/-- RED.STATUS [0:0] AVAILABLE (R356). -/
def RED_STATUS_AVAILABLE : Fld := ⟨.redStatus, 0, 1, .ro, 0⟩
/-- RED.STATUS [1:1] ACTIVE_UNIT (R356). -/
def RED_STATUS_ACTIVE_UNIT : Fld := ⟨.redStatus, 1, 1, .ro, 0⟩
/-- RED.STATUS [3:2] STATE (R356). -/
def RED_STATUS_STATE : Fld := ⟨.redStatus, 2, 2, .ro, 0⟩
/-- RED.STATUS [4:4] MIRROR_OK (R356). -/
def RED_STATUS_MIRROR_OK : Fld := ⟨.redStatus, 4, 1, .ro, 0⟩
/-- RED.STATUS [6:5] FAILED (R356). -/
def RED_STATUS_FAILED : Fld := ⟨.redStatus, 5, 2, .ro, 0⟩
/-- RED.STATUS [19:8] RETIRED_A (R356). -/
def RED_STATUS_RETIRED_A : Fld := ⟨.redStatus, 8, 12, .ro, 0⟩
/-- RED.STATUS [31:20] RETIRED_B (R356). -/
def RED_STATUS_RETIRED_B : Fld := ⟨.redStatus, 20, 12, .ro, 0⟩
/-- RED.STATUS [39:32] TAKEOVERS (R356). -/
def RED_STATUS_TAKEOVERS : Fld := ⟨.redStatus, 32, 8, .ro, 0⟩
/-- RED.STATUS [40:40] TAKEOVERS_SAT (R356). -/
def RED_STATUS_TAKEOVERS_SAT : Fld := ⟨.redStatus, 40, 1, .ro, 0⟩
/-- RED.STATUS [55:48] MAPGEN (R356). -/
def RED_STATUS_MAPGEN : Fld := ⟨.redStatus, 48, 8, .ro, 0⟩
/-- RED.STATUS [95:64] SEALED_SEQ (R356). -/
def RED_STATUS_SEALED_SEQ : Fld := ⟨.redStatus, 64, 32, .ro, 0⟩
/-- RED.STATUS [127:96] MIRROR_SEQ (R356). -/
def RED_STATUS_MIRROR_SEQ : Fld := ⟨.redStatus, 96, 32, .ro, 0⟩
/-- RED.STATUS [159:128] LAST_SEQ (R356). -/
def RED_STATUS_LAST_SEQ : Fld := ⟨.redStatus, 128, 32, .ro, 0⟩
/-- RED.STATUS [191:160] LAST_GAP (R356). -/
def RED_STATUS_LAST_GAP : Fld := ⟨.redStatus, 160, 32, .ro, 0⟩
/-- RED.STATUS [383:192] RATIO (R356). Reset: all 0xFF. -/
def RED_STATUS_RATIO : Fld := ⟨.redStatus, 192, 192, .ro, 6277101735386680763835789423207666416102355444464034512895⟩
/-- RED.SPARES [8:0] MRAM_FREE (R358). -/
def RED_SPARES_MRAM_FREE : Fld := ⟨.redSpares, 0, 9, .ro, 256⟩
/-- RED.SPARES [27:16] DRAM_FREE (R358). -/
def RED_SPARES_DRAM_FREE : Fld := ⟨.redSpares, 16, 12, .ro, 2048⟩
/-- RED.SPARES [37:32] SRAM_FREE (R358). -/
def RED_SPARES_SRAM_FREE : Fld := ⟨.redSpares, 32, 6, .ro, 32⟩
/-- RED.SPARES [40:40] ISO_SPARE (R358). -/
def RED_SPARES_ISO_SPARE : Fld := ⟨.redSpares, 40, 1, .ro, 0⟩
/-- RED.SPARES [45:44] LANES_A (R358). -/
def RED_SPARES_LANES_A : Fld := ⟨.redSpares, 44, 2, .ro, 2⟩
/-- RED.SPARES [47:46] LANES_B (R358). -/
def RED_SPARES_LANES_B : Fld := ⟨.redSpares, 46, 2, .ro, 2⟩
/-- FLT.REC [63:0] FIRST (R370). -/
def FLT_REC_FIRST : Fld := ⟨.fltRec, 0, 64, .ro, 0⟩
/-- FLT.REC [127:64] LAST (R370). -/
def FLT_REC_LAST : Fld := ⟨.fltRec, 64, 64, .ro, 0⟩
/-- FLT.REC [135:128] COUNT (R370). -/
def FLT_REC_COUNT : Fld := ⟨.fltRec, 128, 8, .ro, 0⟩
/-- FLT.REC [136:136] COUNT_SAT (R370). -/
def FLT_REC_COUNT_SAT : Fld := ⟨.fltRec, 136, 1, .ro, 0⟩
/-- FLT.REC [137:137] LATCHED (R370). -/
def FLT_REC_LATCHED : Fld := ⟨.fltRec, 137, 1, .ro, 0⟩
/-- FLT.REC [138:138] LIVE (R370). -/
def FLT_REC_LIVE : Fld := ⟨.fltRec, 138, 1, .ro, 0⟩
/-- FLT.REC [139:139] PROMOTED (R370). -/
def FLT_REC_PROMOTED : Fld := ⟨.fltRec, 139, 1, .ro, 0⟩
/-- FLT.REC [140:140] ESCALATED (R370). -/
def FLT_REC_ESCALATED : Fld := ⟨.fltRec, 140, 1, .ro, 0⟩
/-- FLT.REC [141:141] FORCED (R370). -/
def FLT_REC_FORCED : Fld := ⟨.fltRec, 141, 1, .ro, 0⟩
/-- FLT.REC [142:142] REPLACED (R370). -/
def FLT_REC_REPLACED : Fld := ⟨.fltRec, 142, 1, .ro, 0⟩
/-- FLT.REC [146:144] EFF (R370). -/
def FLT_REC_EFF : Fld := ⟨.fltRec, 144, 3, .ro, 0⟩
/-- FLT.REC [158:152] FIRST_INST (R370). -/
def FLT_REC_FIRST_INST : Fld := ⟨.fltRec, 152, 7, .ro, 0⟩
/-- FLT.REC [166:160] LAST_INST (R370). -/
def FLT_REC_LAST_INST : Fld := ⟨.fltRec, 160, 7, .ro, 0⟩
/-- FLT.REC [223:192] LAST_ADDR (R370). -/
def FLT_REC_LAST_ADDR : Fld := ⟨.fltRec, 192, 32, .ro, 0⟩
/-- FLT.REC [383:256] INST_LATCH (R370). -/
def FLT_REC_INST_LATCH : Fld := ⟨.fltRec, 256, 128, .ro, 0⟩
/-- FLT.REC [511:384] INST_LIVE (R370). -/
def FLT_REC_INST_LIVE : Fld := ⟨.fltRec, 384, 128, .ro, 0⟩
/-- FLT.PIN [127:0] LATCH (R370). -/
def FLT_PIN_LATCH : Fld := ⟨.fltPin, 0, 128, .ro, 0⟩
/-- FLT.PIN [255:128] LIVE (R370). -/
def FLT_PIN_LIVE : Fld := ⟨.fltPin, 128, 128, .ro, 0⟩
/-- FLT.FORCE [0:0] FORCE (R371). -/
def FLT_FORCE_FORCE : Fld := ⟨.fltForce, 0, 1, .rw, 0⟩
/-- FLT.FORCE [14:8] INST (R371). -/
def FLT_FORCE_INST : Fld := ⟨.fltForce, 8, 7, .rw, 0⟩
/-- FLT.FIRST [15:0] SOURCE (R372). -/
def FLT_FIRST_SOURCE : Fld := ⟨.fltFirst, 0, 16, .ro, 0⟩
/-- FLT.FIRST [23:16] KIND (R372). -/
def FLT_FIRST_KIND : Fld := ⟨.fltFirst, 16, 8, .ro, 0⟩
/-- FLT.FIRST [26:24] SEV (R372). -/
def FLT_FIRST_SEV : Fld := ⟨.fltFirst, 24, 3, .ro, 0⟩
/-- FLT.FIRST [27:27] SIMUL (R372). -/
def FLT_FIRST_SIMUL : Fld := ⟨.fltFirst, 27, 1, .ro, 0⟩
/-- FLT.FIRST [28:28] VALID (R372). -/
def FLT_FIRST_VALID : Fld := ⟨.fltFirst, 28, 1, .ro, 0⟩
/-- FLT.FIRST [95:32] TIME (R372). -/
def FLT_FIRST_TIME : Fld := ⟨.fltFirst, 32, 64, .ro, 0⟩
/-- FLT.FIRST [127:96] SEQ (R372). -/
def FLT_FIRST_SEQ : Fld := ⟨.fltFirst, 96, 32, .ro, 0⟩
/-- FLT.LOG [13:0] NEXT (R377). Reset: kept. -/
def FLT_LOG_NEXT : Fld := ⟨.fltLog, 0, 14, .ro, 0⟩
/-- FLT.LOG [14:14] WRAPPED (R377). Reset: kept. -/
def FLT_LOG_WRAPPED : Fld := ⟨.fltLog, 14, 1, .ro, 0⟩
/-- FLT.LOG [63:32] TOTAL (R377). Reset: kept. -/
def FLT_LOG_TOTAL : Fld := ⟨.fltLog, 32, 32, .ro, 0⟩
/-- FLT.LOG [79:64] BOOT (R377). Reset: kept. -/
def FLT_LOG_BOOT : Fld := ⟨.fltLog, 64, 16, .ro, 0⟩
/-- FLT.CFG [21:0] ALIVE_HALF (R378). -/
def FLT_CFG_ALIVE_HALF : Fld := ⟨.fltCfg, 0, 22, .rw, 200000⟩
/-- FLT.CFG [22:22] ALIVE_EN (R378). -/
def FLT_CFG_ALIVE_EN : Fld := ⟨.fltCfg, 22, 1, .rw, 1⟩
/-- FLT.CFG [23:23] FIRST_CLR (R378). -/
def FLT_CFG_FIRST_CLR : Fld := ⟨.fltCfg, 23, 1, .wo, 0⟩
/-- FLT.SRC [2:0] BASE (R378). Reset: table. -/
def FLT_SRC_BASE : Fld := ⟨.fltSrc, 0, 3, .rw, 0⟩
/-- FLT.SRC [5:3] SEVERE (R378). Reset: table. -/
def FLT_SRC_SEVERE : Fld := ⟨.fltSrc, 3, 3, .rw, 0⟩
/-- FLT.SRC [9:6] N (R378). Reset: table. -/
def FLT_SRC_N : Fld := ⟨.fltSrc, 6, 4, .rw, 0⟩
/-- FLT.SRC [10:10] ESC (R378). Reset: table. -/
def FLT_SRC_ESC : Fld := ⟨.fltSrc, 10, 1, .rw, 0⟩
/-- FLT.SRC [11:11] LOG (R378). Reset: table. -/
def FLT_SRC_LOG : Fld := ⟨.fltSrc, 11, 1, .rw, 0⟩
/-- FLT.SRC [31:16] WINDOW (R378). -/
def FLT_SRC_WINDOW : Fld := ⟨.fltSrc, 16, 16, .rw, 64⟩
/-- FLT.SRC [71:32] AXES (R378). Reset: all 1. -/
def FLT_SRC_AXES : Fld := ⟨.fltSrc, 32, 40, .rw, 1099511627775⟩
/-- FLT.SRC [99:96] CLASS (R378). Reset: table. -/
def FLT_SRC_CLASS : Fld := ⟨.fltSrc, 96, 4, .ro, 0⟩
/-- FLT.SRC [102:100] SCOPE (R378). Reset: table. -/
def FLT_SRC_SCOPE : Fld := ⟨.fltSrc, 100, 3, .ro, 0⟩
/-- FLT.SRC [103:103] LIVE_KIND (R378). Reset: table. -/
def FLT_SRC_LIVE_KIND : Fld := ⟨.fltSrc, 103, 1, .ro, 0⟩
/-- FLT.SRC [104:104] FIXED (R378). Reset: table. -/
def FLT_SRC_FIXED : Fld := ⟨.fltSrc, 104, 1, .ro, 0⟩
/-- FIO.DI_CFG [15:0] DEB (R382). -/
def FIO_DI_CFG_DEB : Fld := ⟨.fioDiCfg, 0, 16, .rw, 3⟩
/-- FIO.DI_CFG [16:16] PULSED (R382). -/
def FIO_DI_CFG_PULSED : Fld := ⟨.fioDiCfg, 16, 1, .rw, 1⟩
/-- FIO.DI_CFG [17:17] INV (R382). -/
def FIO_DI_CFG_INV : Fld := ⟨.fioDiCfg, 17, 1, .rw, 0⟩
/-- FIO.DI_TIME [63:0] RISE (R385). -/
def FIO_DI_TIME_RISE : Fld := ⟨.fioDiTime, 0, 64, .ro, 0⟩
/-- FIO.DI_TIME [127:64] FALL (R385). -/
def FIO_DI_TIME_FALL : Fld := ⟨.fioDiTime, 64, 64, .ro, 0⟩
/-- FIO.DO_CFG [15:0] SRC (R386). -/
def FIO_DO_CFG_SRC : Fld := ⟨.fioDoCfg, 0, 16, .rw, 0⟩
/-- FIO.DO_CFG [31:16] HOLD (R386). -/
def FIO_DO_CFG_HOLD : Fld := ⟨.fioDoCfg, 16, 16, .rw, 0⟩
/-- FIO.DO_CFG [47:32] RB_BLANK (R386). -/
def FIO_DO_CFG_RB_BLANK : Fld := ⟨.fioDoCfg, 32, 16, .rw, 200⟩
/-- FIO.DO_CMD [15:0] CMD (R386). -/
def FIO_DO_CMD_CMD : Fld := ⟨.fioDoCmd, 0, 16, .rw, 0⟩
/-- FIO.STATUS [31:0] DI (R396). -/
def FIO_STATUS_DI : Fld := ⟨.fioStatus, 0, 32, .ro, 0⟩
/-- FIO.STATUS [47:32] OUT (R396). -/
def FIO_STATUS_OUT : Fld := ⟨.fioStatus, 32, 16, .ro, 0⟩
/-- FIO.STATUS [63:48] RB (R396). -/
def FIO_STATUS_RB : Fld := ⟨.fioStatus, 48, 16, .ro, 0⟩
/-- FIO.STATUS [79:64] EXT (R396). -/
def FIO_STATUS_EXT : Fld := ⟨.fioStatus, 64, 16, .ro, 0⟩
/-- FIO.STATUS [95:80] OVL (R396). -/
def FIO_STATUS_OVL : Fld := ⟨.fioStatus, 80, 16, .ro, 0⟩
/-- FIO.STATUS [103:96] SUPPLY (R396). -/
def FIO_STATUS_SUPPLY : Fld := ⟨.fioStatus, 96, 8, .ro, 0⟩
/-- FIO.STATUS [104:104] LINK_OK (R396). -/
def FIO_STATUS_LINK_OK : Fld := ⟨.fioStatus, 104, 1, .ro, 0⟩
/-- FIO.STATUS [105:105] ENABLE (R396). -/
def FIO_STATUS_ENABLE : Fld := ⟨.fioStatus, 105, 1, .ro, 0⟩
/-- FIO.STATUS [106:106] ACTIVE_LANE (R396). -/
def FIO_STATUS_ACTIVE_LANE : Fld := ⟨.fioStatus, 106, 1, .ro, 0⟩
/-- FIO.STATUS [107:107] CLR (R396). -/
def FIO_STATUS_CLR : Fld := ⟨.fioStatus, 107, 1, .wo, 0⟩
/-- FIO.STATUS [127:112] BAD0 (R396). -/
def FIO_STATUS_BAD0 : Fld := ⟨.fioStatus, 112, 16, .ro, 0⟩
/-- FIO.STATUS [143:128] BAD1 (R396). -/
def FIO_STATUS_BAD1 : Fld := ⟨.fioStatus, 128, 16, .ro, 0⟩
/-- FIO.STATUS [159:144] RETRIES (R396). -/
def FIO_STATUS_RETRIES : Fld := ⟨.fioStatus, 144, 16, .ro, 0⟩
/-- FIO.STATUS [162:160] SAT (R396). -/
def FIO_STATUS_SAT : Fld := ⟨.fioStatus, 160, 3, .ro, 0⟩
/-- SURV.CFG [2:0] FREEZE_SEV (R417). -/
def SURV_CFG_FREEZE_SEV : Fld := ⟨.survCfg, 0, 3, .rw, 3⟩
/-- SURV.CFG [3:3] FREEZE_EN (R417). -/
def SURV_CFG_FREEZE_EN : Fld := ⟨.survCfg, 3, 1, .rw, 1⟩
/-- SURV.CFG [4:4] BB_EN (R417). -/
def SURV_CFG_BB_EN : Fld := ⟨.survCfg, 4, 1, .rw, 1⟩
/-- SURV.CFG [31:16] POST (R417). -/
def SURV_CFG_POST : Fld := ⟨.survCfg, 16, 16, .rw, 2000⟩
/-- SURV.CFG [47:32] FC_INT (R417). -/
def SURV_CFG_FC_INT : Fld := ⟨.survCfg, 32, 16, .rw, 20⟩
/-- SURV.CFG [63:48] BB_SPAN (R417). -/
def SURV_CFG_BB_SPAN : Fld := ⟨.survCfg, 48, 16, .rw, 180⟩
/-- SURV.STATUS [1:0] STATE (R417). -/
def SURV_STATUS_STATE : Fld := ⟨.survStatus, 0, 2, .ro, 0⟩
/-- SURV.STATUS [2:2] BB_BUSY (R417). -/
def SURV_STATUS_BB_BUSY : Fld := ⟨.survStatus, 2, 1, .ro, 0⟩
/-- SURV.STATUS [3:3] BB_SKIP (R417). -/
def SURV_STATUS_BB_SKIP : Fld := ⟨.survStatus, 3, 1, .ro, 0⟩
/-- SURV.STATUS [11:4] FC_ABANDONED (R417). -/
def SURV_STATUS_FC_ABANDONED : Fld := ⟨.survStatus, 4, 8, .ro, 0⟩
/-- SURV.STATUS [12:12] FC_SAT (R417). -/
def SURV_STATUS_FC_SAT : Fld := ⟨.survStatus, 12, 1, .ro, 0⟩
/-- SURV.STATUS [63:32] EPOCH (R417). Reset: kept. -/
def SURV_STATUS_EPOCH : Fld := ⟨.survStatus, 32, 32, .ro, 0⟩
/-- SURV.STATUS [95:64] SEQ (R417). -/
def SURV_STATUS_SEQ : Fld := ⟨.survStatus, 64, 32, .ro, 0⟩
/-- SURV.STATUS [127:96] OLDEST (R417). -/
def SURV_STATUS_OLDEST : Fld := ⟨.survStatus, 96, 32, .ro, 0⟩
/-- SURV.STATUS [159:128] TRIG_SEQ (R417). -/
def SURV_STATUS_TRIG_SEQ : Fld := ⟨.survStatus, 128, 32, .ro, 0⟩
/-- SURV.STATUS [191:160] FC_SEQ (R417). -/
def SURV_STATUS_FC_SEQ : Fld := ⟨.survStatus, 160, 32, .ro, 0⟩
/-- SURV.CTRL [0:0] UNFREEZE (R417). -/
def SURV_CTRL_UNFREEZE : Fld := ⟨.survCtrl, 0, 1, .wo, 0⟩
/-- SURV.CTRL [1:1] CLR (R417). -/
def SURV_CTRL_CLR : Fld := ⟨.survCtrl, 1, 1, .wo, 0⟩
/-- SURV.EXPORT [1:0] KIND (R417). -/
def SURV_EXPORT_KIND : Fld := ⟨.survExport, 0, 2, .rw, 0⟩
/-- SURV.EXPORT [2:2] SETUP (R417). -/
def SURV_EXPORT_SETUP : Fld := ⟨.survExport, 2, 1, .wo, 0⟩
/-- SURV.EXPORT [3:3] READY (R417). -/
def SURV_EXPORT_READY : Fld := ⟨.survExport, 3, 1, .ro, 0⟩
/-- SURV.EXPORT [4:4] SIGN (R417). -/
def SURV_EXPORT_SIGN : Fld := ⟨.survExport, 4, 1, .rw, 0⟩
/-- SURV.EXPORT [63:32] EPOCH (R417). -/
def SURV_EXPORT_EPOCH : Fld := ⟨.survExport, 32, 32, .rw, 0⟩
/-- SURV.EXPORT [95:64] FIRST (R417). -/
def SURV_EXPORT_FIRST : Fld := ⟨.survExport, 64, 32, .rw, 0⟩
/-- SURV.EXPORT [127:96] LAST (R417). -/
def SURV_EXPORT_LAST : Fld := ⟨.survExport, 96, 32, .rw, 0⟩
/-- SURV.EXPORT [191:128] SIZE (R417). -/
def SURV_EXPORT_SIZE : Fld := ⟨.survExport, 128, 64, .ro, 0⟩
/-- SURV.REPLAY [0:0] SRC (R417). -/
def SURV_REPLAY_SRC : Fld := ⟨.survReplay, 0, 1, .rw, 0⟩
/-- SURV.REPLAY [1:1] LOADED (R417). -/
def SURV_REPLAY_LOADED : Fld := ⟨.survReplay, 1, 1, .ro, 0⟩
/-- SURV.REPLAY [3:2] STATE (R417). -/
def SURV_REPLAY_STATE : Fld := ⟨.survReplay, 2, 2, .ro, 0⟩
/-- SURV.REPLAY [7:4] STOP (R417). -/
def SURV_REPLAY_STOP : Fld := ⟨.survReplay, 4, 4, .ro, 0⟩
/-- SURV.REPLAY [63:32] EPOCH (R417). -/
def SURV_REPLAY_EPOCH : Fld := ⟨.survReplay, 32, 32, .rw, 0⟩
/-- SURV.REPLAY [95:64] FIRST (R417). -/
def SURV_REPLAY_FIRST : Fld := ⟨.survReplay, 64, 32, .rw, 0⟩
/-- SURV.REPLAY [127:96] LAST (R417). -/
def SURV_REPLAY_LAST : Fld := ⟨.survReplay, 96, 32, .rw, 0⟩
/-- SURV.REPLAY [159:128] AT (R417). -/
def SURV_REPLAY_AT : Fld := ⟨.survReplay, 128, 32, .ro, 0⟩
/-- SURV.REPLAY [175:160] MISMATCH (R417). -/
def SURV_REPLAY_MISMATCH : Fld := ⟨.survReplay, 160, 16, .ro, 0⟩
/-- SURV.REPLAY [176:176] MIS_SAT (R417). -/
def SURV_REPLAY_MIS_SAT : Fld := ⟨.survReplay, 176, 1, .ro, 0⟩
/-- SURV.REPLAY [183:180] FIRST_POS (R417). -/
def SURV_REPLAY_FIRST_POS : Fld := ⟨.survReplay, 180, 4, .ro, 0⟩
/-- SURV.REPLAY [223:192] FIRST_SEQ (R417). -/
def SURV_REPLAY_FIRST_SEQ : Fld := ⟨.survReplay, 192, 32, .ro, 0⟩
/-- SEC.ID [63:0] DSN (R419). Reset: factory. -/
def SEC_ID_DSN : Fld := ⟨.secId, 0, 64, .ro, 0⟩
/-- SEC.ID [575:64] PUBKEY (R419). Reset: kept. -/
def SEC_ID_PUBKEY : Fld := ⟨.secId, 64, 512, .ro, 0⟩
/-- SEC.ID [1087:576] ENDORSE (R419). Reset: kept. -/
def SEC_ID_ENDORSE : Fld := ⟨.secId, 576, 512, .ro, 0⟩
/-- SEC.ID [1088:1088] PRESENT (R419). Reset: kept. -/
def SEC_ID_PRESENT : Fld := ⟨.secId, 1088, 1, .ro, 0⟩
/-- SEC.ID [1089:1089] ORIGIN (R419). Reset: kept. -/
def SEC_ID_ORIGIN : Fld := ⟨.secId, 1089, 1, .ro, 0⟩
/-- SEC.CFGKEY [511:0] KEY (R419). Reset: kept. -/
def SEC_CFGKEY_KEY : Fld := ⟨.secCfgkey, 0, 512, .rw, 0⟩
/-- SEC.CFGKEY [543:512] KEY_ID (R419). Reset: kept. -/
def SEC_CFGKEY_KEY_ID : Fld := ⟨.secCfgkey, 512, 32, .rw, 0⟩
/-- SEC.CFGKEY [544:544] PRESENT (R419). Reset: kept. -/
def SEC_CFGKEY_PRESENT : Fld := ⟨.secCfgkey, 544, 1, .ro, 0⟩
/-- SEC.CTRL [0:0] GEN_ID (R425). -/
def SEC_CTRL_GEN_ID : Fld := ⟨.secCtrl, 0, 1, .wo, 0⟩
/-- SEC.CTRL [1:1] OPEN (R425). -/
def SEC_CTRL_OPEN : Fld := ⟨.secCtrl, 1, 1, .wo, 0⟩
/-- SEC.CTRL [2:2] LOG_ERASE (R425). -/
def SEC_CTRL_LOG_ERASE : Fld := ⟨.secCtrl, 2, 1, .wo, 0⟩
/-- SEC.CTRL [31:16] CODE (R425). -/
def SEC_CTRL_CODE : Fld := ⟨.secCtrl, 16, 16, .wo, 0⟩
/-- SEC.STATUS [0:0] ID_PRESENT (R429). Reset: kept. -/
def SEC_STATUS_ID_PRESENT : Fld := ⟨.secStatus, 0, 1, .ro, 0⟩
/-- SEC.STATUS [1:1] KEY_PRESENT (R429). Reset: kept. -/
def SEC_STATUS_KEY_PRESENT : Fld := ⟨.secStatus, 1, 1, .ro, 0⟩
/-- SEC.STATUS [2:2] OPENED (R429). -/
def SEC_STATUS_OPENED : Fld := ⟨.secStatus, 2, 1, .ro, 0⟩
/-- SEC.STATUS [3:3] ERASED (R429). -/
def SEC_STATUS_ERASED : Fld := ⟨.secStatus, 3, 1, .ro, 0⟩
/-- SEC.STATUS [4:4] UNATTESTED (R429). Reset: per boot. -/
def SEC_STATUS_UNATTESTED : Fld := ⟨.secStatus, 4, 1, .ro, 0⟩
/-- SEC.STATUS [23:16] CFG_SKIPPED (R429). -/
def SEC_STATUS_CFG_SKIPPED : Fld := ⟨.secStatus, 16, 8, .ro, 0⟩
/-- SEC.STATUS [24:24] SKIP_SAT (R429). -/
def SEC_STATUS_SKIP_SAT : Fld := ⟨.secStatus, 24, 1, .ro, 0⟩
/-- SEC.DEBUG [3:0] LANE (R430). -/
def SEC_DEBUG_LANE : Fld := ⟨.secDebug, 0, 4, .rw, 0⟩
/-- SEC.DEBUG [4:4] HALT (R430). -/
def SEC_DEBUG_HALT : Fld := ⟨.secDebug, 4, 1, .wo, 0⟩
/-- SEC.DEBUG [5:5] STEP (R430). -/
def SEC_DEBUG_STEP : Fld := ⟨.secDebug, 5, 1, .wo, 0⟩
/-- SEC.DEBUG [6:6] RESUME (R430). -/
def SEC_DEBUG_RESUME : Fld := ⟨.secDebug, 6, 1, .wo, 0⟩
/-- SEC.DEBUG [7:7] BREAK_EN (R430). -/
def SEC_DEBUG_BREAK_EN : Fld := ⟨.secDebug, 7, 1, .rw, 0⟩
/-- SEC.DEBUG [20:8] BREAK_ADDR (R430). -/
def SEC_DEBUG_BREAK_ADDR : Fld := ⟨.secDebug, 8, 13, .rw, 0⟩
/-- SEC.DEBUG [21:21] HALTED (R430). -/
def SEC_DEBUG_HALTED : Fld := ⟨.secDebug, 21, 1, .ro, 0⟩
/-- HIF.*.BASE of command and bulk rings [63:0] ADDR (R70). -/
def HIF_RING_BASE_ADDR : Fld := ⟨.hifRingBase, 0, 64, .rw, 0⟩
/-- HIF.CQ[m].BASE and HIF.EQ.BASE [63:0] ADDR (R70). -/
def HIF_CQ_BASE_ADDR : Fld := ⟨.hifCqBase, 0, 64, .rw, 0⟩
/-- HIF.CQ[m].TAIL and HIF.EQ.TAIL [11:0] INDEX (R71). -/
def HIF_CQ_TAIL_INDEX : Fld := ⟨.hifCqTail, 0, 12, .ro, 0⟩
/-- HIF.CQ[m].TAIL and HIF.EQ.TAIL [12:12] PHASE (R71). -/
def HIF_CQ_TAIL_PHASE : Fld := ⟨.hifCqTail, 12, 1, .ro, 0⟩
/-- SYS.PLACE phase table, bytes 192 to 231 [7:0] PHASE (R38). -/
def SYS_PHASE_PHASE : Fld := ⟨.sysPhase, 0, 8, .ro, 255⟩

end F

/-- The fields of an object, lowest first. -/
def Obj.fields : Obj → List Fld
  | .sysPeriod => [F.SYS_PERIOD_TC, F.SYS_PERIOD_K, F.SYS_PERIOD_GUARD, F.SYS_PERIOD_MID]
  | .sysSlack => [F.SYS_SLACK_BUSY, F.SYS_SLACK_SLACK, F.SYS_SLACK_MINSLACK, F.SYS_SLACK_LATE, F.SYS_SLACK_LATE_SAT, F.SYS_SLACK_CLR, F.SYS_SLACK_INSTR]
  | .sysPlace => [F.SYS_PLACE_CUR, F.SYS_PLACE_OUT, F.SYS_PLACE_OUTV, F.SYS_PLACE_PEAK, F.SYS_PLACE_STATE]
  | .sysMode => [F.SYS_MODE_MODE, F.SYS_MODE_REQ, F.SYS_MODE_PREV, F.SYS_MODE_REDUNDANT, F.SYS_MODE_ACTIVE_UNIT, F.SYS_MODE_UNATTESTED, F.SYS_MODE_REFUSAL, F.SYS_MODE_ENTRY_SEQ]
  | .sysCommission => [F.SYS_COMMISSION_I_LIM, F.SYS_COMMISSION_V_LIM, F.SYS_COMMISSION_F_LIM, F.SYS_COMMISSION_VALID, F.SYS_COMMISSION_AXES]
  | .sysBoot => [F.SYS_BOOT_STAGE, F.SYS_BOOT_SLOT, F.SYS_BOOT_SLOT0_STATE, F.SYS_BOOT_SLOT1_STATE, F.SYS_BOOT_UNITS, F.SYS_BOOT_BB_CUT, F.SYS_BOOT_CAUSE, F.SYS_BOOT_SLOT0_GEN, F.SYS_BOOT_SLOT1_GEN, F.SYS_BOOT_BOOT_MS]
  | .sysReset => [F.SYS_RESET_KIND, F.SYS_RESET_INDEX, F.SYS_RESET_UNIT, F.SYS_RESET_SRC]
  | .sysFence => [F.SYS_FENCE_FB, F.SYS_FENCE_PWM, F.SYS_FENCE_CAN, F.SYS_FENCE_ETH, F.SYS_FENCE_LANE_A, F.SYS_FENCE_LANE_B, F.SYS_FENCE_UNIT_A, F.SYS_FENCE_UNIT_B, F.SYS_FENCE_HOST]
  | .hifId => [F.HIF_ID_SILICON_REV, F.HIF_ID_IF_MINOR, F.HIF_ID_IF_MAJOR, F.HIF_ID_PRODUCT]
  | .hifStatus => [F.HIF_STATUS_STAGE, F.HIF_STATUS_RINGS_READY, F.HIF_STATUS_MODE, F.HIF_STATUS_EQ_FULL, F.HIF_STATUS_FLR_SEEN]
  | .hifLink => [F.HIF_LINK_SPEED, F.HIF_LINK_WIDTH, F.HIF_LINK_DL_ACTIVE]
  | .hifRingCtrl => [F.HIF_RING_CTRL_SIZE_LOG2, F.HIF_RING_CTRL_ENABLE, F.HIF_RING_CTRL_CQ]
  | .hifRingState => [F.HIF_RING_STATE_HEAD, F.HIF_RING_STATE_HEAD_PHASE, F.HIF_RING_STATE_HALTED, F.HIF_RING_STATE_HALT_INDEX, F.HIF_RING_STATE_HALT_PHASE]
  | .hifRingApplied => [F.HIF_RING_APPLIED_NEXT, F.HIF_RING_APPLIED_NEXT_PHASE, F.HIF_RING_APPLIED_VALID]
  | .hifCqCtrl => [F.HIF_CQ_CTRL_SIZE_LOG2, F.HIF_CQ_CTRL_ENABLE, F.HIF_CQ_CTRL_VECTOR]
  | .hifCqMod => [F.HIF_CQ_MOD_COUNT, F.HIF_CQ_MOD_TIME]
  | .hifEqLost => [F.HIF_EQ_LOST_COUNT, F.HIF_EQ_LOST_SAT]
  | .hifDb => [F.HIF_DB_INDEX, F.HIF_DB_PHASE]
  | .hifRearm => [F.HIF_REARM_RESUME, F.HIF_REARM_RESUME_PHASE, F.HIF_REARM_GO]
  | .engIdent => [F.ENG_IDENT_PROG_A, F.ENG_IDENT_PROG_B, F.ENG_IDENT_CFMT_A, F.ENG_IDENT_CFMT_B, F.ENG_IDENT_DIFFER]
  | .engBank => [F.ENG_BANK_IN_FORCE, F.ENG_BANK_SWAP, F.ENG_BANK_SWAP_SEQ]
  | .engCoefA => [F.ENG_COEF_A_WORD]
  | .engCoefB => [F.ENG_COEF_B_WORD]
  | .engLane => [F.ENG_LANE_DELTAS, F.ENG_LANE_SFLAG, F.ENG_LANE_OVR, F.ENG_LANE_PARITY, F.ENG_LANE_PARITY_SAT, F.ENG_LANE_CLR]
  | .engTask => [F.ENG_TASK_ENTRY, F.ENG_TASK_PATH, F.ENG_TASK_DELTA, F.ENG_TASK_XS, F.ENG_TASK_YS, F.ENG_TASK_INW, F.ENG_TASK_CSTRIDE, F.ENG_TASK_CBASE]
  | .axisCfg => [F.AXIS_CFG_TYPE, F.AXIS_CFG_OUTER, F.AXIS_CFG_POSLOOP, F.AXIS_CFG_CURCTL, F.AXIS_CFG_BRIDGE, F.AXIS_CFG_NBR, F.AXIS_CFG_PWM0, F.AXIS_CFG_FB, F.AXIS_CFG_IS0, F.AXIS_CFG_VDC, F.AXIS_CFG_VDC_N, F.AXIS_CFG_SENSORLESS, F.AXIS_CFG_FW, F.AXIS_CFG_CLAMP_V, F.AXIS_CFG_CLAMP_I, F.AXIS_CFG_CLAMP_SH, F.AXIS_CFG_REVERSE, F.AXIS_CFG_SPD_EXP, F.AXIS_CFG_UPDPT, F.AXIS_CFG_APC, F.AXIS_CFG_CPR, F.AXIS_CFG_ANG_OFFSET]
  | .axisLimits => [F.AXIS_LIMITS_I_LIM, F.AXIS_LIMITS_SPD_LIM, F.AXIS_LIMITS_T_LIM, F.AXIS_LIMITS_FE_LIM, F.AXIS_LIMITS_FE_TIME, F.AXIS_LIMITS_LA_TIME, F.AXIS_LIMITS_BOOST_TIME]
  | .axisComp => [F.AXIS_COMP_DT_V, F.AXIS_COMP_DT_ZONE]
  | .axisStatus => [F.AXIS_STATUS_POS_L, F.AXIS_STATUS_POS_H, F.AXIS_STATUS_SPEED, F.AXIS_STATUS_ID, F.AXIS_STATUS_IQ, F.AXIS_STATUS_VD, F.AXIS_STATUS_VQ, F.AXIS_STATUS_LN_D, F.AXIS_STATUS_LN_Q, F.AXIS_STATUS_THETA, F.AXIS_STATUS_TRACK, F.AXIS_STATUS_POS_CONT, F.AXIS_STATUS_FW_ACT, F.AXIS_STATUS_ISAT, F.AXIS_STATUS_VSAT, F.AXIS_STATUS_OBS_VALID, F.AXIS_STATUS_BOOST, F.AXIS_STATUS_ADAPT_LIM, F.AXIS_STATUS_LATE_SEEN, F.AXIS_STATUS_FE_CNT]
  | .profLimits => [F.PROF_LIMITS_VMAX, F.PROF_LIMITS_ACC, F.PROF_LIMITS_DEC, F.PROF_LIMITS_JERK, F.PROF_LIMITS_STOP_DEC, F.PROF_LIMITS_QSTOP_DEC, F.PROF_LIMITS_MODULUS_L, F.PROF_LIMITS_MODULUS_H]
  | .profStatus => [F.PROF_STATUS_SEG, F.PROF_STATUS_KEPT, F.PROF_STATUS_REVERSED, F.PROF_STATUS_KIND, F.PROF_STATUS_VCLAMP, F.PROF_STATUS_TARGET_L, F.PROF_STATUS_TARGET_H, F.PROF_STATUS_REMAIN_L, F.PROF_STATUS_REMAIN_H, F.PROF_STATUS_OVER_L, F.PROF_STATUS_OVER_H, F.PROF_STATUS_V_P, F.PROF_STATUS_A_P, F.PROF_STATUS_D_COMMIT, F.PROF_STATUS_LAND]
  | .gearMaster => [F.GEAR_MASTER_KIND, F.GEAR_MASTER_COMP, F.GEAR_MASTER_INDEX, F.GEAR_MASTER_STALE_MAX, F.GEAR_MASTER_STATE, F.GEAR_MASTER_STALE, F.GEAR_MASTER_OUT_RANGE, F.GEAR_MASTER_BLENDING]
  | .camCommit => [F.CAM_COMMIT_FIRST, F.CAM_COMMIT_COUNT, F.CAM_COMMIT_GO]
  | .camProf => [F.CAM_PROF_FIRST, F.CAM_PROF_CYCLIC, F.CAM_PROF_N, F.CAM_PROF_SPAN, F.CAM_PROF_RISE, F.CAM_PROF_YSCALE]
  | .caravanCfg => [F.CARAVAN_CFG_MEMBER, F.CARAVAN_CFG_PSPD_EXP, F.CARAVAN_CFG_PAUSE, F.CARAVAN_CFG_VMAX, F.CARAVAN_CFG_ACC, F.CARAVAN_CFG_DEC, F.CARAVAN_CFG_JERK, F.CARAVAN_CFG_PSTOP_DEC, F.CARAVAN_CFG_HEAD, F.CARAVAN_CFG_COUNT, F.CARAVAN_CFG_MOVING, F.CARAVAN_CFG_BROKEN]
  | .latchCfg => [F.LATCH_CFG_FB, F.LATCH_CFG_EDGE, F.LATCH_CFG_FILTER]
  | .latchResult => [F.LATCH_RESULT_TIME, F.LATCH_RESULT_COUNT, F.LATCH_RESULT_FRAC, F.LATCH_RESULT_VALID, F.LATCH_RESULT_RISING, F.LATCH_RESULT_EXTRA]
  | .cmpCfg => [F.CMP_CFG_FB, F.CMP_CFG_DO, F.CMP_CFG_DO_EN, F.CMP_CFG_PULSE]
  | .cmpStatus => [F.CMP_STATUS_ARMED, F.CMP_STATUS_COMPARE_BEHIND, F.CMP_STATUS_REMAIN, F.CMP_STATUS_POS, F.CMP_STATUS_LAST]
  | .pwmgCfg => [F.PWMG_CFG_KIND, F.PWMG_CFG_CARRIER, F.PWMG_CFG_UPDPT, F.PWMG_CFG_GANG_EN, F.PWMG_CFG_IDLE3, F.PWMG_CFG_LEAD, F.PWMG_CFG_IDLE, F.PWMG_CFG_PER, F.PWMG_CFG_PHASE, F.PWMG_CFG_DT, F.PWMG_CFG_MINP, F.PWMG_CFG_TRIP_MASK, F.PWMG_CFG_BLANK_EN, F.PWMG_CFG_BLANK_SEL, F.PWMG_CFG_BLANK_GRP]
  | .pwmgAux => [F.PWMG_AUX_X0_START, F.PWMG_AUX_X0_END, F.PWMG_AUX_X1_START, F.PWMG_AUX_X1_END, F.PWMG_AUX_TA_SRC, F.PWMG_AUX_TA_PRE, F.PWMG_AUX_TB_SRC, F.PWMG_AUX_TB_PRE]
  | .pwmTripin => [F.PWM_TRIPIN_ACT_HIGH, F.PWM_TRIPIN_FILTER, F.PWM_TRIPIN_LIVE]
  | .pwmgCtrl => [F.PWMG_CTRL_EN, F.PWMG_CTRL_TRIP_CLR, F.PWMG_CTRL_CNT_CLR]
  | .pwmgStatus => [F.PWMG_STATUS_STATE, F.PWMG_STATUS_TRIPPED, F.PWMG_STATUS_LATE, F.PWMG_STATUS_FENCED, F.PWMG_STATUS_BADCMD, F.PWMG_STATUS_WAITING, F.PWMG_STATUS_TRIP_SRC, F.PWMG_STATUS_APPLIED_SEQ, F.PWMG_STATUS_PULSE_EATEN, F.PWMG_STATUS_PULSE_HELD, F.PWMG_STATUS_LATE_CNT, F.PWMG_STATUS_DISCARDED, F.PWMG_STATUS_EATEN_SAT, F.PWMG_STATUS_HELD_SAT, F.PWMG_STATUS_LATE_SAT, F.PWMG_STATUS_DISC_SAT, F.PWMG_STATUS_TRIP_TIME]
  | .fbCfg => [F.FB_CFG_MODE, F.FB_CFG_INV_DIR, F.FB_CFG_Z_EN, F.FB_CFG_Z_HIGH, F.FB_CFG_Z_GATE, F.FB_CFG_FILTER, F.FB_CFG_SPD_EXP, F.FB_CFG_SPD_WIN, F.FB_CFG_REREF, F.FB_CFG_ZERO_T, F.FB_CFG_CPR_CH, F.FB_CFG_INDEX_TOL, F.FB_CFG_SPD_FULL, F.FB_CFG_V_UP, F.FB_CFG_V_DOWN, F.FB_CFG_INDEX_VAL]
  | .fbSerial => [F.FB_SERIAL_POSBITS, F.FB_SERIAL_LEADBITS, F.FB_SERIAL_STBITS, F.FB_SERIAL_GRAY, F.FB_SERIAL_PARITY, F.FB_SERIAL_TIMEOUT, F.FB_SERIAL_SER_DIV, F.FB_SERIAL_REQ, F.FB_SERIAL_REQ_GRP, F.FB_SERIAL_LEAD, F.FB_SERIAL_SAMPLE_DLY, F.FB_SERIAL_SSI_DLY, F.FB_SERIAL_RECOV, F.FB_SERIAL_LOSS_N]
  | .fbCtrl => [F.FB_CTRL_PRESET, F.FB_CTRL_ARM_HOME, F.FB_CTRL_CNT_CLR, F.FB_CTRL_SER_GO, F.FB_CTRL_SER_CMD, F.FB_CTRL_SER_ARG, F.FB_CTRL_PRESET_VAL]
  | .fbStatus => [F.FB_STATUS_COUNT, F.FB_STATUS_SPEED, F.FB_STATUS_DIR, F.FB_STATUS_SPD_MODE, F.FB_STATUS_REFERENCED, F.FB_STATUS_VALID, F.FB_STATUS_HALL, F.FB_STATUS_REG_VALID, F.FB_STATUS_INDEX_COUNT, F.FB_STATUS_INDEX_OFF, F.FB_STATUS_SER_STATUS, F.FB_STATUS_QUAD_ERR, F.FB_STATUS_BAD_FRAMES, F.FB_STATUS_SLIPS, F.FB_STATUS_SKIPPED, F.FB_STATUS_SAT, F.FB_STATUS_HOMED, F.FB_STATUS_DELAY, F.FB_STATUS_REG]
  | .emuCfg => [F.EMU_CFG_MODE, F.EMU_CFG_SRC, F.EMU_CFG_DIV, F.EMU_CFG_MINSEP, F.EMU_CFG_ZPER]
  | .emuStatus => [F.EMU_STATUS_COUNTER, F.EMU_STATUS_LAG]
  | .csClk => [F.CS_CLK_DIV_0, F.CS_CLK_DIV_1, F.CS_CLK_DIV_2, F.CS_CLK_DIV_3, F.CS_CLK_DIV_4, F.CS_CLK_DIV_5, F.CS_CLK_DIV_6, F.CS_CLK_DIV_7]
  | .csCfg => [F.CS_CFG_CLKSEL, F.CS_CFG_EDGE, F.CS_CFG_DLY, F.CS_CFG_OSR, F.CS_CFG_INV, F.CS_CFG_SAMP, F.CS_CFG_SGRP, F.CS_CFG_EN, F.CS_CFG_STUCK, F.CS_CFG_OFFSET]
  | .csOc => [F.CS_OC_ORD, F.CS_OC_ROC, F.CS_OC_FILT, F.CS_OC_HI, F.CS_OC_LO, F.CS_OC_TRIP_MASK]
  | .csStatus => [F.CS_STATUS_SAMPLE, F.CS_STATUS_OC_LIVE, F.CS_STATUS_STUCK_LIVE, F.CS_STATUS_OC_CNT, F.CS_STATUS_STALE_CNT, F.CS_STATUS_OC_SAT, F.CS_STATUS_STALE_SAT, F.CS_STATUS_CLR]
  | .timeCfg => [F.TIME_CFG_MT_SRC, F.TIME_CFG_STEP_EN, F.TIME_CFG_ALIGN_FWD, F.TIME_CFG_PROFILE, F.TIME_CFG_SLAVE_ONLY, F.TIME_CFG_DOMAIN, F.TIME_CFG_PRIO1, F.TIME_CFG_PRIO2, F.TIME_CFG_CLASS, F.TIME_CFG_ACCURACY, F.TIME_CFG_NODE, F.TIME_CFG_EPOCH, F.TIME_CFG_SLEW, F.TIME_CFG_MT_TAU, F.TIME_CFG_STEP_THR, F.TIME_CFG_ADJ_MAX, F.TIME_CFG_LOCK_NS, F.TIME_CFG_KP, F.TIME_CFG_KI]
  | .timeStatus => [F.TIME_STATUS_SERVO, F.TIME_STATUS_ALIGNED, F.TIME_STATUS_SLEWING, F.TIME_STATUS_SLAVE_PORT, F.TIME_STATUS_STEPS, F.TIME_STATUS_STEPS_SAT, F.TIME_STATUS_CLR, F.TIME_STATUS_OFFSET, F.TIME_STATUS_FREQ, F.TIME_STATUS_D, F.TIME_STATUS_GM_ID, F.TIME_STATUS_PTP_S, F.TIME_STATUS_PTP_NS, F.TIME_STATUS_PTP_FRAC]
  | .ethCfg => [F.ETH_CFG_SPEED, F.ETH_CFG_PTP_EN, F.ETH_CFG_DELAY, F.ETH_CFG_ONE_STEP, F.ETH_CFG_VLAN_EN, F.ETH_CFG_MAC, F.ETH_CFG_VID, F.ETH_CFG_PCP, F.ETH_CFG_LOG_SYNC, F.ETH_CFG_LOG_DREQ, F.ETH_CFG_LOG_ANN, F.ETH_CFG_ANN_TO, F.ETH_CFG_ASYM, F.ETH_CFG_TX_LAT, F.ETH_CFG_RX_LAT]
  | .ethStatus => [F.ETH_STATUS_LINK, F.ETH_STATUS_SPEED, F.ETH_STATUS_PORT_STATE, F.ETH_STATUS_TXQ_OVF, F.ETH_STATUS_TXQ_DEPTH, F.ETH_STATUS_CLR, F.ETH_STATUS_MPD, F.ETH_STATUS_DROPPED, F.ETH_STATUS_FCS_ERR, F.ETH_STATUS_DROP_SAT, F.ETH_STATUS_FCS_SAT]
  | .cycTx => [F.CYC_TX_EN, F.CYC_TX_PORTS, F.CYC_TX_CHANNEL, F.CYC_TX_NWORDS, F.CYC_TX_DST, F.CYC_TX_TX_OFFS, F.CYC_TX_LAT]
  | .cycRx => [F.CYC_RX_EN, F.CYC_RX_PORTS, F.CYC_RX_CHANNEL, F.CYC_RX_NWORDS, F.CYC_RX_PRODUCER, F.CYC_RX_LOST_N, F.CYC_RX_LATE_CNT, F.CYC_RX_DUP_CNT, F.CYC_RX_DIFF_CNT, F.CYC_RX_SAT, F.CYC_RX_CLR]
  | .netMaster => [F.NET_MASTER_RXCH, F.NET_MASTER_WOFF]
  | .canCfg => [F.CAN_CFG_EN, F.CAN_CFG_FD_EN, F.CAN_CFG_XL_EN, F.CAN_CFG_LISTEN, F.CAN_CFG_LOOPBACK, F.CAN_CFG_AUTO_REC, F.CAN_CFG_TDC_EN, F.CAN_CFG_XL_TMS, F.CAN_CFG_NBRP, F.CAN_CFG_NTSEG1, F.CAN_CFG_NTSEG2, F.CAN_CFG_NSJW, F.CAN_CFG_DBRP, F.CAN_CFG_DTSEG1, F.CAN_CFG_DTSEG2, F.CAN_CFG_DSJW, F.CAN_CFG_XBRP, F.CAN_CFG_XTSEG1, F.CAN_CFG_XTSEG2, F.CAN_CFG_XSJW, F.CAN_CFG_TDCO, F.CAN_CFG_PWMS, F.CAN_CFG_PWML]
  | .canTxslot => [F.CAN_TXSLOT_ID, F.CAN_TXSLOT_FORMAT, F.CAN_TXSLOT_FLAGS, F.CAN_TXSLOT_LEN, F.CAN_TXSLOT_EN]
  | .canFilter => [F.CAN_FILTER_ID, F.CAN_FILTER_MASK, F.CAN_FILTER_EN, F.CAN_FILTER_HOST, F.CAN_FILTER_LANE, F.CAN_FILTER_SLOT]
  | .canRxctl => [F.CAN_RXCTL_PROD, F.CAN_RXCTL_PROD_PHASE, F.CAN_RXCTL_CONS, F.CAN_RXCTL_CONS_PHASE]
  | .canStatus => [F.CAN_STATUS_STATE, F.CAN_STATUS_TEC, F.CAN_STATUS_REC, F.CAN_STATUS_ERR_FRAMES, F.CAN_STATUS_RX_LOST, F.CAN_STATUS_ERR_SAT, F.CAN_STATUS_LOST_SAT, F.CAN_STATUS_CLR]
  | .redCfg => [F.RED_CFG_ARM, F.RED_CFG_AUTO_RELOAD, F.RED_CFG_MIG_EN, F.RED_CFG_MIG_RATIO, F.RED_CFG_MIG_SLACK, F.RED_CFG_EVAL_LOG2, F.RED_CFG_MIG_WINDOWS]
  | .redCtrl => [F.RED_CTRL_MIGRATE, F.RED_CTRL_LANE, F.RED_CTRL_UNRETIRE, F.RED_CTRL_UNIT, F.RED_CTRL_CLR]
  | .redStatus => [F.RED_STATUS_AVAILABLE, F.RED_STATUS_ACTIVE_UNIT, F.RED_STATUS_STATE, F.RED_STATUS_MIRROR_OK, F.RED_STATUS_FAILED, F.RED_STATUS_RETIRED_A, F.RED_STATUS_RETIRED_B, F.RED_STATUS_TAKEOVERS, F.RED_STATUS_TAKEOVERS_SAT, F.RED_STATUS_MAPGEN, F.RED_STATUS_SEALED_SEQ, F.RED_STATUS_MIRROR_SEQ, F.RED_STATUS_LAST_SEQ, F.RED_STATUS_LAST_GAP, F.RED_STATUS_RATIO]
  | .redSpares => [F.RED_SPARES_MRAM_FREE, F.RED_SPARES_DRAM_FREE, F.RED_SPARES_SRAM_FREE, F.RED_SPARES_ISO_SPARE, F.RED_SPARES_LANES_A, F.RED_SPARES_LANES_B]
  | .fltRec => [F.FLT_REC_FIRST, F.FLT_REC_LAST, F.FLT_REC_COUNT, F.FLT_REC_COUNT_SAT, F.FLT_REC_LATCHED, F.FLT_REC_LIVE, F.FLT_REC_PROMOTED, F.FLT_REC_ESCALATED, F.FLT_REC_FORCED, F.FLT_REC_REPLACED, F.FLT_REC_EFF, F.FLT_REC_FIRST_INST, F.FLT_REC_LAST_INST, F.FLT_REC_LAST_ADDR, F.FLT_REC_INST_LATCH, F.FLT_REC_INST_LIVE]
  | .fltPin => [F.FLT_PIN_LATCH, F.FLT_PIN_LIVE]
  | .fltForce => [F.FLT_FORCE_FORCE, F.FLT_FORCE_INST]
  | .fltFirst => [F.FLT_FIRST_SOURCE, F.FLT_FIRST_KIND, F.FLT_FIRST_SEV, F.FLT_FIRST_SIMUL, F.FLT_FIRST_VALID, F.FLT_FIRST_TIME, F.FLT_FIRST_SEQ]
  | .fltLog => [F.FLT_LOG_NEXT, F.FLT_LOG_WRAPPED, F.FLT_LOG_TOTAL, F.FLT_LOG_BOOT]
  | .fltCfg => [F.FLT_CFG_ALIVE_HALF, F.FLT_CFG_ALIVE_EN, F.FLT_CFG_FIRST_CLR]
  | .fltSrc => [F.FLT_SRC_BASE, F.FLT_SRC_SEVERE, F.FLT_SRC_N, F.FLT_SRC_ESC, F.FLT_SRC_LOG, F.FLT_SRC_WINDOW, F.FLT_SRC_AXES, F.FLT_SRC_CLASS, F.FLT_SRC_SCOPE, F.FLT_SRC_LIVE_KIND, F.FLT_SRC_FIXED]
  | .fioDiCfg => [F.FIO_DI_CFG_DEB, F.FIO_DI_CFG_PULSED, F.FIO_DI_CFG_INV]
  | .fioDiTime => [F.FIO_DI_TIME_RISE, F.FIO_DI_TIME_FALL]
  | .fioDoCfg => [F.FIO_DO_CFG_SRC, F.FIO_DO_CFG_HOLD, F.FIO_DO_CFG_RB_BLANK]
  | .fioDoCmd => [F.FIO_DO_CMD_CMD]
  | .fioStatus => [F.FIO_STATUS_DI, F.FIO_STATUS_OUT, F.FIO_STATUS_RB, F.FIO_STATUS_EXT, F.FIO_STATUS_OVL, F.FIO_STATUS_SUPPLY, F.FIO_STATUS_LINK_OK, F.FIO_STATUS_ENABLE, F.FIO_STATUS_ACTIVE_LANE, F.FIO_STATUS_CLR, F.FIO_STATUS_BAD0, F.FIO_STATUS_BAD1, F.FIO_STATUS_RETRIES, F.FIO_STATUS_SAT]
  | .survCfg => [F.SURV_CFG_FREEZE_SEV, F.SURV_CFG_FREEZE_EN, F.SURV_CFG_BB_EN, F.SURV_CFG_POST, F.SURV_CFG_FC_INT, F.SURV_CFG_BB_SPAN]
  | .survStatus => [F.SURV_STATUS_STATE, F.SURV_STATUS_BB_BUSY, F.SURV_STATUS_BB_SKIP, F.SURV_STATUS_FC_ABANDONED, F.SURV_STATUS_FC_SAT, F.SURV_STATUS_EPOCH, F.SURV_STATUS_SEQ, F.SURV_STATUS_OLDEST, F.SURV_STATUS_TRIG_SEQ, F.SURV_STATUS_FC_SEQ]
  | .survCtrl => [F.SURV_CTRL_UNFREEZE, F.SURV_CTRL_CLR]
  | .survExport => [F.SURV_EXPORT_KIND, F.SURV_EXPORT_SETUP, F.SURV_EXPORT_READY, F.SURV_EXPORT_SIGN, F.SURV_EXPORT_EPOCH, F.SURV_EXPORT_FIRST, F.SURV_EXPORT_LAST, F.SURV_EXPORT_SIZE]
  | .survReplay => [F.SURV_REPLAY_SRC, F.SURV_REPLAY_LOADED, F.SURV_REPLAY_STATE, F.SURV_REPLAY_STOP, F.SURV_REPLAY_EPOCH, F.SURV_REPLAY_FIRST, F.SURV_REPLAY_LAST, F.SURV_REPLAY_AT, F.SURV_REPLAY_MISMATCH, F.SURV_REPLAY_MIS_SAT, F.SURV_REPLAY_FIRST_POS, F.SURV_REPLAY_FIRST_SEQ]
  | .secId => [F.SEC_ID_DSN, F.SEC_ID_PUBKEY, F.SEC_ID_ENDORSE, F.SEC_ID_PRESENT, F.SEC_ID_ORIGIN]
  | .secCfgkey => [F.SEC_CFGKEY_KEY, F.SEC_CFGKEY_KEY_ID, F.SEC_CFGKEY_PRESENT]
  | .secCtrl => [F.SEC_CTRL_GEN_ID, F.SEC_CTRL_OPEN, F.SEC_CTRL_LOG_ERASE, F.SEC_CTRL_CODE]
  | .secStatus => [F.SEC_STATUS_ID_PRESENT, F.SEC_STATUS_KEY_PRESENT, F.SEC_STATUS_OPENED, F.SEC_STATUS_ERASED, F.SEC_STATUS_UNATTESTED, F.SEC_STATUS_CFG_SKIPPED, F.SEC_STATUS_SKIP_SAT]
  | .secDebug => [F.SEC_DEBUG_LANE, F.SEC_DEBUG_HALT, F.SEC_DEBUG_STEP, F.SEC_DEBUG_RESUME, F.SEC_DEBUG_BREAK_EN, F.SEC_DEBUG_BREAK_ADDR, F.SEC_DEBUG_HALTED]
  | .hifRingBase => [F.HIF_RING_BASE_ADDR]
  | .hifCqBase => [F.HIF_CQ_BASE_ADDR]
  | .hifCqTail => [F.HIF_CQ_TAIL_INDEX, F.HIF_CQ_TAIL_PHASE]
  | .sysPhase => [F.SYS_PHASE_PHASE]
  | .canRxq => []
  | .camStage => []
  | .caravanSegbuf => []
  | .survUpload => []
  | .survBb => []
  | .secLanemem => []

/-- The reset contents an object's fields give one entry. -/
def Obj.fieldReset (o : Obj) : Nat := o.fields.foldl (fun a f => a + f.reset * 2 ^ f.lo) 0

/-- The contents of entry `e` of an object after module reset: its layout's Reset column; FLT.SRC by Table 12.1. -/
def Obj.resetVal (o : Obj) (e : Nat) : Nat :=
  match o with
  | .fltSrc => fltSrcReset e
  | o => o.fieldReset

/-- The bits of one entry whose fields carry access code `a`. -/
def Obj.accMask (o : Obj) (a : Acc) : Nat :=
  o.fields.foldl (fun m f => if f.acc = a then m + (2 ^ f.width - 1) * 2 ^ f.lo else m) 0

/-- The object a CLASS and an OBJECT number name, without its instance (Table 00.4, R81). The objects of class 0x2
INSTANCE 32, of class 0x3 INSTANCE 32 to 39, of class 0x4 INSTANCE 48 and of class 0x8 INSTANCE 1 to 31 stand beside
those of the lower instances, so the instance takes part. -/
def Obj.ofId (cls inst obj : Nat) : Option Obj :=
  match cls, obj with
  | 0, 1 => some .sysPeriod
  | 0, 2 => some .sysSlack
  | 0, 3 => some .sysPlace
  | 0, 4 => some .sysMode
  | 0, 5 => some .sysCommission
  | 0, 6 => some .sysBoot
  | 0, 7 => some .sysReset
  | 0, 8 => some .sysFence
  | 1, 0 => some .axisCfg
  | 1, 1 => some .axisLimits
  | 1, 2 => some .axisComp
  | 1, 3 => some .axisStatus
  | 2, 0 => if inst = 32 then some .pwmTripin else some .pwmgCfg
  | 2, 1 => some .pwmgAux
  | 2, 2 => some .pwmgCtrl
  | 2, 3 => some .pwmgStatus
  | 3, 0 => if 32 ≤ inst ∧ inst < 40 then some .emuCfg else some .fbCfg
  | 3, 1 => if 32 ≤ inst ∧ inst < 40 then some .emuStatus else some .fbSerial
  | 3, 2 => some .fbCtrl
  | 3, 3 => some .fbStatus
  | 4, 0 => if inst = 48 then some .csClk else some .csCfg
  | 4, 1 => some .csOc
  | 4, 2 => some .csStatus
  | 5, 0 => some .profLimits
  | 5, 1 => some .profStatus
  | 6, 0 => some .gearMaster
  | 6, 1 => some .camProf
  | 6, 2 => some .camStage
  | 6, 3 => some .camCommit
  | 6, 4 => some .caravanCfg
  | 6, 5 => some .caravanSegbuf
  | 7, 0 => some .latchCfg
  | 7, 1 => some .latchResult
  | 7, 2 => some .cmpCfg
  | 7, 3 => some .cmpStatus
  | 8, 0 => if inst = 0 then some .timeCfg else if inst < 4 then some .ethCfg else if inst < 16 then some .cycTx else if inst < 32 then some .cycRx else some .timeCfg
  | 8, 1 => if inst = 0 then some .timeStatus else if inst < 4 then some .ethStatus else some .timeStatus
  | 8, 2 => some .netMaster
  | 9, 0 => some .canCfg
  | 9, 1 => some .canFilter
  | 9, 2 => some .canStatus
  | 9, 3 => some .canRxq
  | 9, 4 => some .canRxctl
  | 9, 5 => some .canTxslot
  | 10, 0 => some .fioDiCfg
  | 10, 1 => some .fioDoCfg
  | 10, 2 => some .fioDoCmd
  | 10, 3 => some .fioStatus
  | 10, 4 => some .fioDiTime
  | 11, 0 => some .fltCfg
  | 11, 1 => some .fltSrc
  | 11, 2 => some .fltForce
  | 11, 3 => some .fltPin
  | 11, 4 => some .fltRec
  | 11, 5 => some .fltFirst
  | 11, 6 => some .fltLog
  | 12, 0 => some .survCfg
  | 12, 1 => some .survStatus
  | 12, 2 => some .survCtrl
  | 12, 3 => some .survExport
  | 12, 4 => some .survReplay
  | 12, 5 => some .survUpload
  | 12, 6 => some .survBb
  | 13, 0 => some .redCfg
  | 13, 1 => some .redStatus
  | 13, 2 => some .redCtrl
  | 13, 3 => some .redSpares
  | 14, 0 => some .secId
  | 14, 1 => some .secCfgkey
  | 14, 2 => some .secCtrl
  | 14, 3 => some .secStatus
  | 14, 4 => some .secDebug
  | 14, 5 => some .secLanemem
  | 15, 0 => some .engIdent
  | 15, 1 => some .engBank
  | 15, 2 => some .engCoefA
  | 15, 3 => some .engCoefB
  | 15, 4 => some .engLane
  | 15, 5 => some .engTask
  | 4, 32 => some .csCfg
  | 4, 33 => some .csOc
  | 4, 34 => some .csStatus
  | _, _ => none

end Sys2Proof.Machine
end

