-- ==== Sys2Proof/Machine/State.lean ====
section
/-!
DEFINITION. The state of the TV-32M: everything the spec gives the module, as plain data, with the reasons a step can
stop and the state after reset. Generated names follow the spec; each block's structure names its chapter.
-/

namespace Sys2Proof.Machine

/-- Why the machine stops. Every constructor is a use the module does not check and whose result the spec calls
undefined in the sense of R3 (R460, Table 17.2; R140 for programs); nothing else faults. Each stop is safe: the model
says nothing about the hardware after it. -/
inductive Fault where
  /-- A reserved encoding or a reserved instruction bit set to 1 (R111, R140). Raised by the lane instructions and STEP. Safe. -/
  | reservedEncoding
  /-- A store into the X input area (R103, R140). Raised by the storing lane instructions. Safe. -/
  | storeInputArea
  /-- A pointer update made while the pointer lies outside its ring (R107, R140). Raised by pointer updates. Safe. -/
  | pointerOutsideRing
  /-- A shift count above 55 (Table 04.7, R140). Raised by SHL and SHR. Safe. -/
  | shiftAbove55
  /-- A ninth nested CALL (R122, R140). Raised by CALL. Safe. -/
  | callDepth
  /-- A RET with an empty call stack (R122, R140). Raised by RET. Safe. -/
  | retEmpty
  /-- Execution past address 0x1FFF (R122, R140). Raised by every lane instruction. Safe. -/
  | pastProgramEnd
  /-- A fifth active loop (R123, R140). Raised by LOOP. Safe. -/
  | loopDepth
  /-- LOOP with END below PC + 1 (R123, R140). Raised by LOOP. Safe. -/
  | loopEndBelow
  /-- A control instruction last in a loop body (R123, R140). Raised by BRA, CALL, RET, LOOP and END. Safe. -/
  | controlEndsLoop
  /-- A loop's END inside a routine called from it (R123, R140). Raised by every lane instruction. Safe. -/
  | loopEndInCall
  /-- A store to a state word without D = 1 (R131, R140). Raised by the storing lane instructions. Safe. -/
  | stateStoreWithoutDelta
  /-- A read of a non-state word before its store in the same period (R131, R140). Raised by the loading lane instructions. Safe. -/
  | readBeforeStore
  /-- A POST to a port that no chapter defines (R133, R140). Raised by POST. Safe. -/
  | undefinedPort
  /-- A reserved field given a value other than 0 (R11, R460). Raised by descriptors and by writes of objects and registers. Safe. -/
  | reservedField
  /-- A field code named reserved in its layout, with no check given for it (R458). Raised where the code is used. Safe. -/
  | reservedCode
  /-- An instance number that no chapter assigns (R9, R460). Raised by descriptors that name it. Safe. -/
  | reservedInstance
  /-- A set-up register access that is not an aligned 32-bit access (R70, R460). Raised by REGISTER_WRITE. Safe. -/
  | registerAccess
  /-- BASE or SIZE_LOG2 written while ENABLE is 1, or SIZE_LOG2 outside 4 to 12 (R70). Raised by REGISTER_WRITE and RING_ENABLE. Safe. -/
  | ringSetup
  /-- A producer doorbell more than one ring size ahead of the fetch position (R73). Raised by CR_DOORBELL and BQ_DOORBELL. Safe. -/
  | doorbellAhead
  /-- A consumer doorbell beyond the hub's write position (R73). Raised by CQ_DOORBELL and EQ_DOORBELL. Safe. -/
  | doorbellBeyond
  /-- REARM with RESUME outside HALT_INDEX to the producer position (R95). Raised by REARM. Safe. -/
  | rearmRange
  /-- A coefficient outside its stated range (R149). Raised by the axis program. Safe. -/
  | coefficientRange
  /-- A MOVE_POS distance beyond ±(2^47 − 1) counts (R177). Raised by the axis program. Safe. -/
  | moveDistance
  /-- A gearing increment of 2^31 counts or more in one run (R209). Raised by the axis program. Safe. -/
  | gearIncrement
  /-- A cyclic cam whose master lies 2^23 spans or more from its origin (R216). Raised by the axis program. Safe. -/
  | camCycle
  /-- A serial sensor moved by half its range or more between two valid frames (R283, R460). Raised by SERIAL_FRAME_COMPLETE. Safe. -/
  | serialJump
  /-- An emulation counter lags its target by 2^31 counts or more (R292). Raised by EMU_STEP. Safe. -/
  | emuLag
  /-- A compare word whose COARSE lies from PER up to 0xF_FFFE (R242). Raised by OUTPUT_WORD. Safe. -/
  | compareCoarse
  /-- A RESET_N low pulse of at least 1 µs and less than 10 µs (R448). Raised by RESET_N_RISE. Safe. -/
  | resetPulse
  /-- A value of survey EPOCH, slot generation or black-box GEN beyond 0xFFFF_FFFF (Table 17.1). Raised where it increments. Safe. -/
  | counterOverflow
  deriving DecidableEq, Repr

/-- Why a command has no meaning. -/
inductive Refusal where
  /-- A command without a meaning in the model, by its mnemonic. Raised by `exec` only. Safe. -/
  | notModelled (mnemonic : String)
  deriving DecidableEq, Repr
/-! ### The host function and its rings (03_host_rings_and_ordering) -/

/-- How far a descriptor has come (R75, R81, R89). -/
inductive CmdStage where
  /-- Fetched from its ring, not yet validated (R75). -/
  | fetched
  /-- Validated, waiting for its application (R81). -/
  | valid
  /-- It has reached the application step, or it never will (flushed, descriptor error). -/
  | applied
  deriving DecidableEq, Repr

/-- What a completion reports (R84): STATUS, DETAIL and RESULT. -/
structure Result where
  /-- STATUS, from Table 03.4. -/
  status : Nat := 0
  /-- DETAIL, 32 bits; left open where no chapter gives it. -/
  detail : Nat := Config.unstatedDetail
  /-- RESULT, 64 bits; left open where no chapter gives it. -/
  result : Nat := Config.unstatedResult
  deriving DecidableEq, Repr

/-- A descriptor the hub holds, from its fetch to its completion (R75 to R98). -/
structure Cmd where
  /-- Ring: command rings 0 to 15, bulk rings 16 and 17. -/
  ring : Nat
  /-- Ring index of the descriptor, plus 4,096 for each time its ring had been enabled before. -/
  index : Nat
  /-- Phase of that index. -/
  phase : Bool
  /-- The descriptor itself (R77). -/
  desc : Desc
  /-- The data it carries in: the inline area or the host buffer. -/
  data : Nat := 0
  stage : CmdStage := .fetched
  /-- Motion time at which its validation ended; 0 for one that ends before the coming boundary tick whatever that is (R76). -/
  validAt : Nat := 0
  /-- ABORTED awaits it when it reaches application: the ABORT's ring and index (R97). -/
  withdrawn : Option Nat := none
  /-- Motion time of its application, 0 when never applied (R84). -/
  appliedAt : Nat := 0
  /-- Survey sequence number of its application. -/
  appliedSeq : Nat := 0
  /-- Its outcome once its action has ended. -/
  outcome : Option Result := none
  /-- The completion may be written once this many periods of the epoch are sealed (R23, OP3). -/
  sealNeed : Nat := 0
  /-- An ABORT's completion follows its target's: the target's ring, index, phase (R97). -/
  waits : Option (Nat × Nat × Bool) := none
  /-- Its ring was disabled: it completes FLUSHED at the next boundary (R96). -/
  flush : Bool := false
  /-- Its chain was split at a mode change: it is applied at the first boundary (R91). -/
  due : Bool := false
  deriving DecidableEq, Repr

/-- The producer position of a command or bulk ring and its fetch state (R72). -/
structure RingSt where
  /-- Index after the last descriptor the host announced. -/
  prod : Nat := 0
  prodPhase : Bool := false
  /-- Times the ring has been enabled. -/
  gen : Nat := 0
  /-- A descriptor error has stopped fetching; HALTED follows its completion (R94). -/
  err : Bool := false
  /-- Descriptors fetched after the erroring one and discarded with it: index as references hold it, and phase (R94, R97). -/
  dropped : List (Nat × Bool) := []
  deriving DecidableEq, Repr

/-- The consumer position of a completion or event ring and its moderation (R72, R88). -/
structure CqSt where
  /-- Index after the last entry the host consumed. -/
  cons : Nat := 0
  consPhase : Bool := false
  /-- Entries written since the last message of the ring. -/
  unsignalled : Nat := 0
  /-- Motion time of the oldest unsignalled entry. -/
  oldest : Nat := 0
  /-- The vector whose pending bit holds a message of this ring (R88). -/
  due : Option Nat := none
  deriving DecidableEq, Repr

/-- One memory write of the hub on the link (R69, R74): a host address, a length and the bytes, little-endian. -/
structure HostWrite where
  addr : Nat
  len : Nat
  data : Nat
  deriving DecidableEq, Repr

/-- One MSI-X table entry (R68, R88). -/
structure MsixEntry where
  addr : Nat := 0
  data : Nat := 0
  masked : Bool := true
  deriving DecidableEq, Repr

/-- An event record waiting to be written (R86). -/
structure EventRec where
  source : Nat
  kind : Nat
  severity : Nat
  simul : Bool
  stamp : Nat
  seq : Nat
  data : Nat
  deriving DecidableEq, Repr

/-- The host function (03_host_rings_and_ordering, 16_electrical_and_package). -/
structure HostSt where
  /-- Bus Master Enable (R69). -/
  busMaster : Bool := false
  /-- MSI-X Enable and Function Mask of the MSI-X capability (R67, R88). -/
  msixEnable : Bool := false
  msixFuncMask : Bool := false
  msix : SMap MsixEntry := []
  /-- Pending-bit array, one bit a vector (R88). -/
  pba : Nat := 0
  /-- PE_PERST_N is low (R444). -/
  perst : Bool := false
  linkUp : Bool := false
  /-- HIF.MTIME_HI: motion time [63:32] latched by the last read of HIF.MTIME_LO (R71). -/
  mtimeHi : Nat := 0
  /-- The data the last read of HIF.MTIME_LO returned (R71). -/
  readData : Option Nat := none
  /-- Max_Payload_Size and Max_Read_Request_Size of the Device Control register, as PCI Express codes them: 128 × 2^n bytes (R67). -/
  maxPayload : Nat := 0
  maxRead : Nat := 2
  /-- ASPM L1 is enabled, and the function is in D3hot (R67). -/
  aspmL1 : Bool := false
  d3hot : Bool := false
  rings : SMap RingSt := []
  /-- Completion rings 0 to 15; 16 is the event ring. -/
  cqs : SMap CqSt := []
  /-- Descriptors held, each ring's in ring order. -/
  cmds : List Cmd := []
  /-- Targets of ABORTs that are not fetched yet: the target's ring, index and phase, and the ABORT's (R97). -/
  early : List ((Nat × Nat × Bool) × Nat) := []
  /-- Event records waiting to be written, each with the number of the period it belongs to (R87, R373). -/
  events : List (Nat × EventRec) := []
  /-- The hub's reads of host memory: address and bytes (R77). -/
  reads : List (Nat × Nat) := []
  /-- The hub's writes to host memory, in the order they reached the link. -/
  writes : List HostWrite := []
  /-- Writes waiting for Bus Master Enable (R69). -/
  heldWrites : List HostWrite := []
  /-- Vectors of the MSI-X messages sent, in order. -/
  messages : List Nat := []
  deriving DecidableEq, Repr

/-! ### Boot, the period and the modes (01_module_and_the_servo_period, 02_modes_startup_and_part_resets) -/

/-- One image slot of the MRAM (R49, R82): header state, generation and bytes. -/
structure SlotSt where
  /-- 0 empty, 1 valid, 2 pending, 3 failed check of a pending image (SYS.BOOT.SLOT0_STATE, R63). -/
  state : Nat := 0
  /-- The image failed its check at the last boot (R49): the state is reported as failed. -/
  failed : Bool := false
  gen : Nat := 0
  /-- The slot's 1 MiB of bytes, zero where nothing is listed. -/
  bytes : SMap Byte := []
  deriving DecidableEq, Repr

/-- A reset in progress: the block, the SYS.RESET KIND, and the descriptor that asked for it (R57, R62). -/
structure ResetJob where
  block : FenceId
  kind : Nat
  /-- SRC = 1: the pending slot is loaded (R63). -/
  src : Bool := false
  owner : Option (Nat × Nat × Bool) := none
  deriving DecidableEq, Repr

/-- Reset, boot and the image slots. -/
structure BootSt where
  /-- RESET_N is low. -/
  resetLow : Bool := true
  /-- The hub logic has stopped because a supply left its range (R55). -/
  stopped : Bool := false
  /-- DRAM initialisation has ended. -/
  dramReady : Bool := false
  /-- Stages 0x1 to 0x5 of Table 02.5 have ended; stage 0x7 waits for DRAM initialisation (R48). -/
  waitDram : Bool := false
  slots : SMap SlotSt := []
  /-- The slot whose image the active unit runs (R65, R82). -/
  running : Option Nat := none
  /-- The slot each unit was loaded from. -/
  unitSlot : SMap (Option Nat) := []
  jobs : List ResetJob := []
  /-- Motion time at the RESET_N rising edge. -/
  riseAt : Nat := 0
  deriving DecidableEq, Repr

/-- A command entry of a record (R401). -/
structure CmdEntry where
  ring : Nat
  order : Nat
  index : Nat
  phase : Bool
  /-- Bytes of host data read for the command. -/
  dlen : Nat
  desc : Desc
  data : Nat
  deriving DecidableEq, Repr

/-- The application step of a boundary while it is open: the inputs are latched and the commands of the boundary are taken (R20, R89).
The input record is formed when it closes. -/
structure OpenStep where
  /-- Boundary tick and number of the period before. -/
  before : Nat
  beforeNo : Nat
  /-- Late indications of that period by lane pair, and by the logical position each carried (R29). -/
  late : Nat := 0
  ownLate : List Bool := []
  /-- SYS.FENCE at the boundary tick (R61). -/
  fence : Nat := 0
  /-- A planned swap, or a takeover, hands over at this boundary (R401). -/
  swapHere : Bool := false
  takeHere : Bool := false
  /-- A SAFE event came at or before the boundary tick (R42). -/
  safe : Bool := false
  /-- Input words as latched before the commands: word w of item i at 64 i + w. -/
  latched : SMap Word24 := []
  /-- The ring whose commands are being taken: those of lower index are over (R89). -/
  ring : Nat := 0
  /-- Entries of the commands applied so far (R92). -/
  entries : List CmdEntry := []
  deriving DecidableEq, Repr

/-- The period scheduler (R17 to R29, R91). -/
structure PeriodSt where
  /-- Periods run (every mode but CONFIGURE, from its first boundary). -/
  running : Bool := false
  /-- The boundary of the running period, and the next one, in motion time. -/
  t0 : Nat := 0
  next : Nat := 0
  /-- Survey sequence number of the running period, and the epoch's number of boundaries so far. -/
  seq : Nat := 0
  count : Nat := 0
  /-- Periods of the epoch whose cairns are sealed (R23). -/
  sealed : Nat := 0
  phase : Nat := 0
  /-- A mode change out of CONFIGURE has been accepted and waits for the first boundary (R91). -/
  departing : Option Nat := none
  /-- The mode-change descriptor it came from (R91). -/
  departRef : Option (Nat × Nat × Bool) := none
  /-- The mid-period transfer and the deadline of the running period have passed. -/
  midDone : Bool := false
  deadlineDone : Bool := false
  /-- The instant before the first boundary of the running periods, from which the carriers run, in sixteenths of a tick (R244). -/
  carrierFrom : Nat := 0
  /-- The latest measurement instant the hub has taken (R277). -/
  measured : Option Nat := none
  /-- The application step of the running period's boundary, while it is open (R20). -/
  step : Option OpenStep := none
  deriving DecidableEq, Repr

/-! ### The Cybinth lanes (04_cybinth_engine) -/

/-- The lane memories, for parity and delta entries (R102, R131). -/
inductive LaneMem where
  | prog | x | y | bankA | bankB
  deriving DecidableEq, Repr

/-- One entry of a delta buffer: memory (`.x` or `.y`), address, word (R131). -/
structure DeltaEntry where
  mem : LaneMem
  addr : Nat
  word : Word24
  deriving DecidableEq, Repr

/-- A word a copy posts through its port (R101). -/
inductive Post where
  /-- An output word: its port identifier and the word (R133). -/
  | output (port : Nat) (word : Word24)
  /-- A cairn delta word (R130). -/
  | delta (e : DeltaEntry)
  /-- The end marker: retired instructions, OR of the S flags, delta entries posted (R132). -/
  | endMark (instr : Nat) (sflag : Bool) (deltas : Nat)
  deriving DecidableEq, Repr

/-- An active hardware loop (R123). -/
structure LoopRec where
  start : Nat
  last : Nat
  /-- Passes left, the running one included. -/
  left : Nat
  /-- Depth of the call stack when the loop began. -/
  depth : Nat
  deriving DecidableEq, Repr

/-- A task placed on a lane pair, with what R126 allocates to it and R130 puts into the registers at its start. -/
structure TaskAlloc where
  /-- 0 current loop, 1 outer task (R125). -/
  kind : Nat
  /-- Axis instance: 0 to 31, 32 to 39 for V0 to V7. -/
  axis : Nat
  /-- Logical position: the lane pair of the placement (R340). -/
  pos : Nat
  phase : Nat
  xBase : Nat
  yBase : Nat
  inBase : Nat
  coefBase : Nat
  entry : Nat
  /-- XS and YS: words of the X and Y state regions. -/
  xLen : Nat := 0
  yLen : Nat := 0
  /-- X and Y state bases of the same axis's other task kind, when that task is on this lane pair. -/
  other : Option (Nat × Nat)
  deriving DecidableEq, Repr

/-- One copy of a Cybinth lane (R100, R105): registers, memories, buffers. -/
structure Lane where
  a : SMap Word56 := []
  d : SMap Word24 := []
  p : SMap (BitVec 14) := []
  q : SMap (BitVec 14) := []
  m : SMap Word24 := []
  flagN : Bool := false
  flagZ : Bool := false
  flagG : Bool := false
  flagW : Bool := false
  flagS : Bool := false
  /-- Program address; 8,192 stands for a successor past 0x1FFF. -/
  pc : Nat := 0
  calls : List Nat := []
  /-- Active loops, innermost first. -/
  loops : List LoopRec := []
  prog : SMap Word48 := []
  /-- X memory: data below 0x3C00, the input area from 0x3C00. -/
  x : SMap Word24 := []
  y : SMap Word24 := []
  bankA : SMap Word24 := []
  bankB : SMap Word24 := []
  /-- Words whose parity bit does not match (R102). -/
  badParity : List (LaneMem × Nat) := []
  /-- Delta entries of the period, oldest first (R131). -/
  delta : List DeltaEntry := []
  /-- Posted words the hub has not yet taken, oldest first (R101). -/
  posts : List Post := []
  /-- Instructions retired in the period (R124). -/
  retired : Nat := 0
  /-- OR of the S flags of the period's ended tasks (R132). -/
  sOr : Bool := false
  /-- The task that runs, and the tasks of the period that follow (R129). -/
  task : Option TaskAlloc := none
  rest : List TaskAlloc := []
  /-- First X and Y address above the state regions (R126, R131). -/
  xTop : Nat := 0
  yTop : Nat := 0
  /-- Words outside the state regions stored in this period (R131). -/
  xStored : List Nat := []
  yStored : List Nat := []
  /-- Stopped by SEC.DEBUG.HALT (R430). -/
  halted : Bool := false
  deriving DecidableEq, Repr

/-! ### Time, Ethernet, cyclic frames and CAN (10_time_and_networks) -/

/-- The three times the hub owns and the PTP servo (R303 to R311). -/
structure TimeSt where
  /-- Oscillator cycles since RESET_N rose: the time-base count, which no interface shows. -/
  osc : Nat := 0
  /-- The time base runs: from boot stage 0x1 until a stop (R48, R267). -/
  running : Bool := false
  /-- Motion time: whole ticks, and 32 fraction bits (R303). -/
  mt : Nat := 0
  mtFrac : Nat := 0
  /-- PTP time in units of 2^-16 ns since its epoch (R307). -/
  ptp : Nat := 0
  /-- Remainder of PTP time below 2^-16 ns, in units of 2^-16 ns / (2^19 * 10^9). -/
  ptpAcc : Nat := 0
  /-- Servo state as TIME.STATUS.SERVO codes it: 0 FREE, 1 LOCKING, 2 LOCKED, 3 HOLDOVER (R309). -/
  servo : Nat := 0
  /-- The servo's correction f and its integral i, in units of 2^-19 ppb. -/
  freq : Int := 0
  integ : Int := 0
  good : Nat := 0
  /-- Last offset from master, in ns. -/
  offset : Int := 0
  /-- The servo has been LOCKED since reset: the alignment of R311 happens at its first LOCKED. -/
  everLocked : Bool := false
  /-- PTP steps since the last clear, with its saturation flag (TIME.STATUS.STEPS). -/
  steps : Nat := 0
  stepsSat : Bool := false
  /-- grandmasterIdentity in use. -/
  gmId : Nat := 0
  /-- Port in SLAVE, 3 when none. -/
  slavePort : Nat := 3
  /-- REF_CLK is lost and the time base holds over (R440). -/
  refLost : Bool := false
  /-- The time base is about to stop: three-level and ganged groups are on their way to SAFE (R267). -/
  stopping : Bool := false
  deriving DecidableEq, Repr

/-- One entry of a port's transmit timestamp queue (R315). -/
structure TxStamp where
  seqId : Nat
  mtype : Nat
  /-- The instant in PTP time, in 2^-16 ns, and in motion time, in sixteenths of a tick (R314). -/
  stamp : Nat
  mt16 : Nat := 0
  deriving DecidableEq, Repr

/-- A PTP message the hub has sent: its port, its Ethernet header, the message and the tick (R313). -/
structure PtpSent where
  port : Nat
  head : List (BitVec 8)
  msg : PtpMsg
  at_ : Nat
  deriving DecidableEq, Repr

/-- A clock whose Announce messages a port receives: its port identity, its data set, and the ticks of its latest messages, newest first
(IEEE 1588-2019). -/
structure Foreign where
  src : Nat
  clock : PtpClock
  times : List Nat
  deriving DecidableEq, Repr

/-- An event message whose follow-up is awaited: identity, receive stamp in 2^-16 ns, timestamp and correction it carried. -/
structure PtpHalf where
  seqId : Nat
  src : Nat
  stamp : Nat
  time : Nat
  corr : Int
  deriving DecidableEq, Repr

/-- One Ethernet port (R314 to R317). -/
structure EthSt where
  link : Bool := false
  /-- Speed in use, coded as ETH.CFG.SPEED. -/
  speed : Nat := 0
  /-- portState as IEEE 1588-2019 codes it; 1 INITIALIZING. -/
  portState : Nat := 1
  txq : List TxStamp := []
  txqOvf : Bool := false
  /-- meanPathDelay, in 2^-16 ns. -/
  meanPathDelay : Int := 0
  dropped : Nat := 0
  dropSat : Bool := false
  fcsErr : Nat := 0
  fcsSat : Bool := false
  /-- Next sequenceId of each messageType the port sends (R312, R313). -/
  nextSeqId : SMap Nat := []
  /-- A transmitted event message's stamp that the protocol engine still awaits: messageType and sequenceId (R316). -/
  awaited : List (Nat × Nat) := []
  /-- Stamp of the last event message received (R314). -/
  rxStamp : Option TxStamp := none
  /-- Foreign clocks, the identity of the port's master, and the ticks of its last Announce and of the end of PRE_MASTER. -/
  foreign : List Foreign := []
  parent : Nat := 0
  annAt : Nat := 0
  qualAt : Nat := 0
  /-- The least tick at which the next message of each messageType falls due (R312, R313). -/
  nextTx : SMap Nat := []
  /-- A two-step Sync before its Follow_Up, and the last Sync's t2 - t1 corrected, in 2^-16 ns (R309). -/
  syncHalf : Option PtpHalf := none
  msDiff : Option Int := none
  /-- A Pdelay_Resp before its follow-up; requests answered and not followed up: sequenceId, requester, correction (R313). -/
  pdHalf : Option PtpHalf := none
  pdAsked : List (Nat × Nat × Int) := []
  deriving DecidableEq, Repr

/-- A cyclic frame that waits for its send instant (R319). -/
structure CycDue where
  due : Nat
  stale : Bool
  hold : Bool
  mark : Nat
  srcSeq : Nat
  words : List Word24
  deriving DecidableEq, Repr

/-- One cyclic transmit channel (R318, R319). -/
structure CycTxSt where
  /-- The channel's words as last released. -/
  words : SMap Word24 := []
  /-- SEQ of the next frame. -/
  seq : Nat := 0
  /-- Lane pair (of the active unit) that posted the channel last; 12 for none. -/
  poster : Nat := 12
  queue : List CycDue := []
  deriving DecidableEq, Repr

/-- A received cyclic frame held until its delivery (R321). -/
structure CycHeld where
  frame : CycFrame
  /-- Motion time at which its last byte was received. -/
  done : Nat
  deriving DecidableEq, Repr

/-- One cyclic receive channel (R320 to R322). -/
structure CycRxSt where
  held : List CycHeld := []
  /-- The frames accepted, by MARK and words, so that copies are told apart (R320). -/
  accepted : List (Nat × List Word24) := []
  /-- MARK last delivered. -/
  lastMark : Option Nat := none
  words : List Word24 := []
  fresh : Bool := false
  stale : Bool := false
  hold : Bool := false
  /-- Boundaries since the last delivery, sticking at 255 (R322); none before the first one. -/
  age : Option Nat := none
  /-- Consecutive boundaries without a delivery, for LOST_N (R321). -/
  missed : Nat := 0
  lost : Bool := false
  deriving DecidableEq, Repr

/-- What asked for a CAN frame: a CAN_TX descriptor (ring, index, phase) or a lane transmit slot (R326, R328). -/
inductive CanOwner where
  | host (ring index : Nat) (phase : Bool)
  | slot (d : Nat)
  deriving DecidableEq, Repr

/-- A pending frame of a CAN channel (R327). -/
structure CanPending where
  owner : CanOwner
  frame : CanFrame
  /-- Its transmission attempt is on the bus; the motion time of its start of frame. -/
  sof : Option Nat := none
  /-- An ABORT waits for the running attempt's end (R98): the ABORT's detail. -/
  aborting : Option Nat := none
  deriving DecidableEq, Repr

/-- One lane receive slot of a CAN channel (R330). -/
structure CanRxSlot where
  frame : Option CanFrame := none
  /-- Frames routed to the slot since the previous boundary, sticking at 63. -/
  count : Nat := 0
  /-- The nine words as delivered at the last boundary. -/
  words : List Word24 := []
  deriving DecidableEq, Repr

/-- One CAN channel (R324 to R331). -/
structure CanSt where
  /-- 0 error-active, 1 error-passive, 2 bus-off, 3 integrating. -/
  busState : Nat := 3
  tec : Nat := 0
  recErr : Nat := 0
  errFrames : Nat := 0
  errSat : Bool := false
  rxLost : Nat := 0
  lostSat : Bool := false
  /-- Pending frames, in the order of their requests. -/
  pending : List CanPending := []
  /-- Words of the transmit slots: word w of slot d at 6 d + w. -/
  txWords : SMap Word24 := []
  /-- Slots posted in the running period: they request a frame at the next boundary. -/
  txPosted : List Nat := []
  rxSlots : SMap CanRxSlot := []
  /-- CAN.RXQ: 256 entries of 96 bytes. -/
  rxq : SMap Nat := []
  /-- Output words discarded while the channel was fenced (R61). -/
  discarded : Nat := 0
  deriving DecidableEq, Repr

/-- Time and networks together. -/
structure NetSt where
  eth : SMap EthSt := []
  cycTx : SMap CycTxSt := []
  cycRx : SMap CycRxSt := []
  can : SMap CanSt := []
  /-- PTP messages sent, in order (R313). -/
  ptpSent : List PtpSent := []
  /-- Cyclic frames sent: port and the frame's bytes without its check sequence, in order. -/
  cycSent : List (Nat × List (BitVec 8)) := []
  deriving DecidableEq, Repr

/-! ### The fault collector (12_fault_collection) -/

/-- An event on its way to the collector: a message of Table 12.2 or a wire of the pin class (R361, R362). -/
structure Msg where
  /-- SOURCE = 128 K + I. -/
  source : Nat
  kind : Nat := 0
  addr : Nat := 0
  /-- The condition begins, or a one-time event occurs. -/
  on : Bool := true
  /-- A live condition ends. -/
  off : Bool := false
  /-- The data words, 128 bits. -/
  data : Nat := 0
  /-- Data words that follow. -/
  dlen : Nat := 0
  /-- Motion time of the event. -/
  stamp : Nat := 0
  /-- A forced event (R371). -/
  forced : Bool := false
  deriving DecidableEq, Repr

/-- A latched source number (R370). -/
structure LatchRec where
  source : Nat
  /-- Highest effective severity since it latched. -/
  eff : Nat
  /-- It armed its class (R368). -/
  arms : Bool
  promoted : Bool
  /-- Axes held by STOP or TRIP, bit a (R367). -/
  stopAxes : Nat
  tripAxes : Nat
  /-- Groups held in SAFE, bit g. -/
  groups : Nat
  deriving DecidableEq, Repr

/-- The fault collector. -/
structure FltSt where
  latched : List LatchRec := []
  /-- Holds released at the next boundary tick (R375). -/
  releasing : List LatchRec := []
  /-- Live source numbers. -/
  live : List Nat := []
  /-- Events counted toward promotion: source number and measurement interval (R368). -/
  history : List (Nat × Nat) := []
  /-- Source number and stamp of every event collected (R372). -/
  stamps : List (Nat × Nat) := []
  /-- FLT.SRC entries as they stood up to a write: kind, the write's instant, the entry before it; oldest first (R379). -/
  srcOld : List (Nat × Nat × Nat) := []
  /-- Measurement intervals begun since reset (R368). -/
  interval : Nat := 0
  /-- Event records of the running interval, one for each source number (R373). -/
  records : List EventRec := []
  /-- The fault log in MRAM: entries of 64 bytes (R376). -/
  log : SMap Nat := []
  /-- An event of severity SAFE waits for the next boundary (R42). -/
  safePending : Bool := false
  /-- ALIVE's level (R378). -/
  alive : Bool := false
  deriving DecidableEq, Repr

/-! ### PWM groups (08_pwm_generator) -/

/-- What a change of a switch still to come belongs to: the commanded level (R247), a pulse held to MINP (R249), or an ordered
change (R265). -/
inductive ChangeKind where
  | pulse | held | ordered
  deriving DecidableEq, Repr

/-- A change of a switch still to come: the instant from which it is wanted, in sixteenths of a tick, the level, and its kind. -/
structure SwChange where
  at16 : Nat
  on : Bool
  kind : ChangeKind
  deriving DecidableEq, Repr

/-- One output switch of a group (R247 to R252). Instants are in sixteenths of a tick. -/
structure Switch where
  on : Bool := false
  /-- Instant of its last turn-on and of its last turn-off. -/
  onAt : Nat := 0
  offAt : Nat := 0
  /-- The change still to come, if there is one. -/
  pend : Option SwChange := none
  deriving DecidableEq, Repr

/-- One PWM group beside its objects (R254 to R266). -/
structure GroupSt where
  /-- Compare words posted in the open set, by compare number (R254). -/
  collect : SMap (Option Word24) := []
  /-- The words of a set complete in this group that waits for its gang, and whether there is one (R254). -/
  staged : SMap (Option Word24) := []
  ready : Bool := false
  /-- The shadow set, its period and whether it was released late (R254, R256). -/
  shadow : SMap Word24 := []
  shadowNew : Bool := false
  shadowSeq : Nat := 0
  shadowLate : Bool := false
  /-- The compares in force (R255). -/
  active : SMap Word24 := []
  activeSet : Bool := false
  /-- The lane pair whose posts the group took last, and the period, by its number, in which it took them. -/
  poster : Nat := 0
  postedAt : Nat := 0
  /-- Commanded level of each leg, and the instant up to which it has been followed, in sixteenths of a tick. -/
  level : SMap Bool := []
  levelAt : SMap Nat := []
  /-- Switches of outputs 0 to 5. -/
  sw : SMap Switch := []
  /-- Instant up to which each trigger's prescaler has counted, in sixteenths of a tick, and its count: A and B (R259). -/
  trigA : Nat := 0
  trigB : Nat := 0
  countA : Nat := 0
  countB : Nat := 0
  /-- Tick of the last firing of each trigger. -/
  firedA : Option Nat := none
  firedB : Option Nat := none
  /-- Under halt by SEC.DEBUG (R267). -/
  halted : Bool := false
  deriving DecidableEq, Repr

/-! ### Axes: motion and engagement commands, cams and caravans (06_motion_profiles, 07_gearing_cam_caravans) -/

/-- What a GEAR_ENGAGE or CAM_ENGAGE asks for (R208, R218), as captured at its application. -/
inductive Engage where
  /-- NUM, DEN, RAMP, START_EN, START_DIR and START_POS. -/
  | gear (num : Int) (den ramp : Nat) (startEn : Bool) (startDir startPos : Nat)
  /-- YMODE, OFFSET and BLEND, with YSCALE, RISE, CYCLIC of the profile. -/
  | cam (ymode : Bool) (offset : Int) (blend : Nat) (yscale rise : Int) (cyclic : Bool)
  deriving DecidableEq, Repr

/-- An entry of an axis's CMD item (Table 06.1), with the data that reach the lane beside it. -/
structure MotionEntry where
  opcode : Nat
  /-- MODE of MOVE_POS; PARAM[0] of DISENGAGE. -/
  mode : Nat := 0
  /-- Delivery number; 0 in an ABORT entry. -/
  num : Nat := 0
  /-- TARGET, 48 bits; the target's delivery number in an ABORT entry. -/
  target : Nat := 0
  /-- SPEED, 24 bits. -/
  speed : Nat := 0
  /-- PROF.LIMITS words at the command's place in the application order (R188). -/
  limits : List Nat := []
  engage : Option Engage := none
  /-- The cause of Table 07.3 the hub knows of: 0x4 or 0xC; 0 for none. -/
  bad : Nat := 0
  deriving DecidableEq, Repr

/-- A delivery number held by a command (R463). -/
structure Delivery where
  num : Nat
  owner : Nat × Nat × Bool
  opcode : Nat
  delivered : Bool := false
  deriving DecidableEq, Repr

/-- What the hub keeps to read an engaged cam for an axis (R216). -/
structure CamHub where
  profile : Nat
  xOrg : Int
  /-- The master's value, extended to 64 bits, its last raw value, and its last fresh value. -/
  x : Int
  raw : Nat
  fresh : Bool := true
  deriving DecidableEq, Repr

/-- The hub's side of an axis (R178, R198, R199, R463). -/
structure AxisHub where
  /-- Undelivered entries, oldest first; at most four. -/
  entries : List MotionEntry := []
  held : List Delivery := []
  /-- Next delivery number to try. -/
  next : Nat := 0
  /-- PUB_P (three words) and PUB_V as last posted. -/
  pubP : List Nat := [0, 0, 0]
  pubV : Nat := 0
  /-- The last LINK word. -/
  link : Nat := 0
  /-- The cams of the CAM_ENGAGE commands that hold a delivery number, oldest first: SRC carries the newest (R199, R216). -/
  cams : List (Nat × CamHub) := []
  /-- Fault bits of FAULT_C and FAULT_O that are live. -/
  faultC : Nat := 0
  faultO : Nat := 0
  deriving DecidableEq, Repr

/-- A caravan segment (Table 07.6): type, length, speeds, arc, and members' (S0, C1, C2, C3). -/
structure Segment where
  /-- Sequence number in its group, 8 bits. -/
  seq : Nat
  owner : Nat × Nat × Bool
  type : Nat
  len : Nat
  feed : Nat
  endSpeed : Nat
  phi0 : Nat
  sweep : Nat
  coords : List (Nat × Nat × Nat × Nat)
  deriving DecidableEq, Repr

/-- Group-wide values as they stood at a boundary of the reference member's run (R223). -/
structure CaravanSnap where
  cur : Option Segment := none
  nxt : Option Segment := none
  /-- VMAX, ACC, DEC, JERK, PSTOP_DEC. -/
  limits : List Nat := []
  pspd : Nat := 0
  pause : Bool := false
  aborting : Bool := false
  deriving DecidableEq, Repr

/-- One caravan (R219 to R228). -/
structure CaravanSt where
  queue : List Segment := []
  nextSeq : Nat := 0
  /-- CARAVAN.SEGBUF: the last segment applied, 152 bytes. -/
  segbuf : Nat := 0
  snap : CaravanSnap := {}
  /-- The last SEG_AT word of each member slot since the caravan started. -/
  segAt : SMap (Option Nat) := []
  started : Bool := false
  aborting : Bool := false
  /-- The ABORTs that stop the group: ring, index and phase. -/
  aborts : List (Nat × Nat × Bool) := []
  broken : Bool := false
  /-- Axis instance of the first member that left. -/
  leaver : Option Nat := none
  deriving DecidableEq, Repr

/-! ### The standard axis program (05_axis_loops, 06_motion_profiles, 07_gearing_cam_caravans) -/

/-- The position of an axis with a feedback channel, after a period (R150, R169). -/
structure PosSt where
  init : Bool := false
  /-- Position in counts × 2^8, s56; count within one revolution; last count. -/
  pos : Int := 0
  cm : Nat := 0
  last : Nat := 0
  posCont : Bool := true
  /-- The channel was fenced in the period: the next unfenced one continues from the held value (R169). -/
  held : Bool := false
  deriving DecidableEq, Repr

/-- What the input record delivers to an axis's tasks (Tables 05.3, 06.1, 07.1, 09.6 and the period header). -/
structure AxisIn where
  /-- Item words, by (64 class + object) × 64 + word. -/
  items : SMap Nat := []
  entries : List MotionEntry := []
  fbFenced : Bool := false
  grpFenced : Bool := false
  bankB : Bool := false
  /-- A cyclic cam lies 2^23 cycles or more from its origin (R216). -/
  camFar : Bool := false
  /-- The position in the period, which both tasks keep by one rule (R150). -/
  posn : PosSt := {}
  /-- GEAR.MASTER at the boundary: COMP, KIND and STALE_MAX (R203, R205, R206). -/
  comp : Bool := false
  masterKind : Nat := 0
  staleMax : Nat := 0
  /-- The axis's caravan has started and is not broken: a run of the axis joins it or posts LEFT (R226). -/
  called : Bool := false
  deriving DecidableEq, Repr

/-- Segments of the profile generator (Table 06.4). -/
inductive Seg where
  | idle | ramp | cruise | final | turn | stop | qstop | track
  deriving DecidableEq, Repr

/-- A move, running or kept (R177, R193). -/
structure Move_ where
  /-- A position move; otherwise a velocity motion. -/
  isPos : Bool
  /-- Target in counts, s48. -/
  target : Int
  /-- Speed of a position move, or signed speed of a velocity motion, in units of 2^-47. -/
  speed : Int
  /-- SPEED as commanded, in the same units; 0 of a position move means VMAX (R177). -/
  want : Int := 0
  /-- Delivery number of its command; none once that has completed. -/
  num : Option Nat := none
  /-- The feedback channel was fenced after the move was kept (Table 06.4a, 0x7). -/
  stale : Bool := false
  deriving DecidableEq, Repr

/-- An engaged gearing (R208 to R211). -/
structure GearRun where
  num : Nat
  ratio : Rat
  ramp : Nat
  startDir : Nat
  startPos : Nat
  started : Bool
  rho0 : Rat
  rem : Rat
  /-- Master travel since the command was processed, in position units. -/
  dist : Nat
  /-- Master value of the last fresh run, last difference, and the sum of repeated differences (R206). -/
  mPrev : Int
  dmPrev : Int
  repeated : Int
  /-- The ramp weight at the start of the last run (R210). -/
  w : Int := 0
  deriving DecidableEq, Repr

/-- An engaged cam (R217, R218). -/
structure CamRun where
  num : Nat
  off : Int
  d0 : Int
  blend : Nat
  b : Nat
  yscale : Int
  rise : Int
  cyclic : Bool
  outRange : Bool := false
  /-- The blend was active in the last run (R218). -/
  blending : Bool := false
  deriving DecidableEq, Repr

/-- A caravan member's path state: position in the segment (path counts × 2^8), speed and acceleration in 2^-47 (R222). -/
structure PathRun where
  seq : Nat
  s : Int
  v : Int
  a : Int
  ended : Bool
  deriving DecidableEq, Repr

/-- The source of the set-point (R197). -/
inductive Source where
  | generator
  | gear (g : GearRun)
  | cam (c : CamRun)
  | caravan (p : PathRun)
  deriving DecidableEq, Repr

/-- State of an outer task, after a run (R150, R152 to R155, R168, R171 to R196, R197 to R228). Data words are integers in
units of 2^-23, accumulators in units of 2^-47, positions in position units. -/
structure OuterSt where
  init : Bool := false
  track : Bool := false
  /-- Position, count within a revolution, last count. -/
  pos : Int := 0
  cm : Nat := 0
  last : Nat := 0
  posCont : Bool := true
  feCnt : Nat := 0
  wf : Int := 0
  iv : Int := 0
  u1 : Int := 0
  u2 : Int := 0
  y1 : Int := 0
  y2 : Int := 0
  iqCmd : Int := 0
  seg : Seg := .idle
  sp : Int := 0
  v : Int := 0
  a : Int := 0
  move : Option Move_ := none
  kept : Option Move_ := none
  /-- Commands that complete at standstill: delivery number, status, DETAIL (R189 to R194). -/
  atRest : List (Nat × Nat × Nat) := []
  /-- Deceleration and jerk in force in FINAL, TURN and STOP; the turning point. -/
  dec : Int := 0
  jerk : Int := 0
  turnAt : Int := 0
  reversed : Bool := false
  vclamp : Bool := false
  overshoot : Nat := 0
  dCommit : Int := 0
  land : Int := 0
  /-- PROF.LIMITS words of the last run, VMAX as used. -/
  limits : List Nat := []
  source : Source := .generator
  staleRuns : Nat := 0
  stale : Bool := false
  deriving DecidableEq, Repr

/-- State of one bridge of a current task: the sharing integrators (R164). -/
structure BridgeSt where
  sd : Int := 0
  sq : Int := 0
  deriving DecidableEq, Repr

/-- State of a current task, after a run (R150, R151, R156 to R169). -/
structure CurSt where
  init : Bool := false
  track : Bool := false
  pos : Int := 0
  cm : Nat := 0
  last : Nat := 0
  posCont : Bool := true
  xd : Int := 0
  xq : Int := 0
  idFw : Int := 0
  mPrev : Int := 0
  bridges : SMap BridgeSt := []
  /-- Voltages released, last and before it: αβ and the dq values the loop released (R159). -/
  v1 : List Int := [0, 0, 0, 0]
  v2 : List Int := [0, 0, 0, 0]
  lnD : Int := 0
  lnQ : Int := 0
  bank : Bool := false
  /-- Prediction and terms of the last period for R160: i_exp, i, c in d and q. -/
  adapt : List Int := [0, 0, 0, 0, 0, 0]
  /-- Observer: estimated currents, back-EMF, speed, angle (R165). -/
  ih : List Int := [0, 0]
  eh : List Int := [0, 0]
  wo : Int := 0
  thO : Nat := 0
  obsValid : Bool := false
  wOl : Int := 0
  thOl : Nat := 0
  boostCnt : Nat := 0
  laCnt : Nat := 0
  /-- The speed the loops use, for a sensorless axis: SET_SPD (R166). -/
  setSpd : Int := 0
  deriving DecidableEq, Repr

/-- An axis as the model keeps it: its hub side, and the states of its tasks after the latest periods, by the periods'
numbers, newest first (R15, R28: every unit that computes a period starts from the same state). -/
structure AxisSt where
  hub : AxisHub := {}
  posn : List (Nat × PosSt) := []
  outer : List (Nat × OuterSt) := []
  cur : List (Nat × CurSt) := []
  deriving DecidableEq, Repr

/-- Motion: axes, caravans, cam store and staging area (R213). -/
structure MotionSt where
  axes : SMap AxisSt := []
  caravans : SMap CaravanSt := []
  camStore : SMap Word24 := []
  camStage : SMap Word24 := []
  deriving DecidableEq, Repr

/-! ### Survey, black box, export and replay (14_survey_and_replay) -/

/-- One record of the survey (R400), as the fields its bytes are formed from. -/
structure SurvRec where
  /-- FLAGS [0] and [1]: a planned swap, a takeover hands over at this boundary. -/
  swapHere : Bool
  takeHere : Bool
  unitB : Bool
  bankB : Bool
  mode : Nat
  phase : Nat
  seq : Nat
  epoch : Nat
  mtime : Nat
  prog : Nat
  /-- Late indications, bit l (R29). -/
  late : Nat
  mapGen : Nat
  commands : List CmdEntry
  /-- Words of the survey map, M of R402. -/
  m : Nat
  /-- Words that differ from the previous record of the epoch: map index and word, rising (R402). -/
  changes : List (Nat × Word24)
  /-- SYS.FENCE [70:0]. -/
  fence : Nat
  /-- DIGEST by logical position, and SEALED (R403). -/
  digest : List Nat
  isSealed : Bool
  /-- What the record delivers to the tasks of each axis (Tables 05.3, 06.1, 07.1), formed from its words. -/
  axes : SMap AxisIn := []
  deriving DecidableEq, Repr

/-- A task of the dispatch plan (Table 14.4): position, kind, axis, phase, bases and the map indices of its block. -/
structure PlanTask where
  pos : Nat
  kind : Nat
  axis : Nat
  phase : Nat
  xBase : Nat
  yBase : Nat
  inBase : Nat
  coefBase : Nat
  /-- Map index by word of the block; 0xFFFF for a zero word. -/
  block : List Nat
  deriving DecidableEq, Repr

/-- One object of a configuration snapshot: identifier, bytes and contents (R413). -/
structure SnapObj where
  id : Nat
  len : Nat
  value : Nat
  deriving DecidableEq, Repr

/-- An epoch header (Table 14.4, section EPOCH). -/
structure EpochHdr where
  epoch : Nat
  prog : Nat
  image : Nat
  period : Nat
  /-- The survey map: item identifier and word. -/
  map : List (Nat × Nat)
  plan : List PlanTask
  config : List SnapObj
  deriving DecidableEq, Repr

/-- A full cairn (R404, Table 14.4, section FULL_CAIRN). -/
structure FullCairn where
  seq : Nat
  epoch : Nat
  unitB : Bool
  bankB : Bool
  mapGen : Nat
  prog : Nat
  mtime : Nat
  /-- The map words of record SEQ. -/
  words : List Word24
  bankA : SMap Word24
  bankBw : SMap Word24
  /-- X and Y region words of positions 0 to 9. -/
  regions : List (List Word24 × List Word24)
  /-- What those words hold of the standard program's tasks, as the model keeps them; empty for an uploaded cairn. -/
  axes : SMap AxisSt := []
  deriving DecidableEq, Repr

/-- A position as a full-cairn build has read it (R404): position, period read at, X and Y regions. -/
structure FcPos where
  pos : Nat
  at_ : Nat
  x : SMap Word24
  y : SMap Word24
  deriving DecidableEq, Repr

/-- A full-cairn build in progress (R404, R405). -/
structure FcBuild where
  /-- Number of the period of its start. -/
  start : Nat
  read : List FcPos := []
  deriving DecidableEq, Repr

/-- A black-box area (Table 14.3, R409). -/
structure BbArea where
  /-- 0 empty, 1 writing, 2 complete. -/
  state : Nat := 0
  gen : Nat := 0
  epoch : Nat := 0
  first : Nat := 0
  last : Nat := 0
  trigMtime : Nat := 0
  len : Nat := 0
  crc : Nat := 0
  body : List Byte := []
  deriving DecidableEq, Repr

/-- What an export piece came from, so that its overwriting shows (R412). -/
inductive PieceOf where
  | fixed
  | header (epoch : Nat)
  | cairn (epoch seq : Nat)
  | record (epoch seq : Nat)
  deriving DecidableEq, Repr

/-- Part of a composed export file. -/
structure Piece where
  from_ : PieceOf
  bytes : List Byte
  deriving DecidableEq, Repr

/-- A replay source and its progress (R414 to R416). -/
structure ReplaySt where
  hdr : EpochHdr
  cairn : FullCairn
  records : List SurvRec
  /-- Map words as of the last record dispatched. -/
  words : List Word24
  /-- Records dispatched so far. -/
  at_ : Nat := 0
  /-- Objects as they stood before REPLAY. -/
  saved : Option (SMap Nat) := none
  deriving DecidableEq, Repr

/-- The survey head. -/
structure SurvSt where
  /-- Survey EPOCH, in MRAM (R398). -/
  epoch : Nat := 0
  /-- Survey map of the present epoch, and the words of the last record (R402). -/
  map : List (Nat × Nat) := []
  words : List Word24 := []
  plan : List PlanTask := []
  /-- 0 recording, 1 freezing, 2 frozen (SURV.STATUS.STATE). -/
  state : Nat := 0
  /-- Trigger record: SEQ, EPOCH, MTIME; and whether its black-box copy is due after its seal. -/
  trigSeq : Nat := 0
  trigEpoch : Nat := 0
  trigTime : Nat := 0
  bbDue : Bool := false
  /-- Record ring, oldest first, and its length in bytes. -/
  ring : List SurvRec := []
  ringBytes : Nat := 0
  /-- Headers of the present and the previous epoch. -/
  headers : List EpochHdr := []
  /-- The 16 latest full cairns, newest first, and the first of each of the 16 latest seconds, with the second. -/
  recent : List FullCairn := []
  seconds : List (Nat × FullCairn) := []
  build : Option FcBuild := none
  /-- Tick of the last build's start. -/
  lastBuild : Option Nat := none
  fcAbandoned : Nat := 0
  fcSat : Bool := false
  fcSeq : Nat := 0
  bbSkip : Bool := false
  lastSeq : Nat := 0
  /-- Black-box areas 0 and 1, in MRAM; the area a copy is writing, with its body. -/
  bb : SMap BbArea := []
  bbCopy : Option (Nat × List Byte) := none
  /-- The composed export file; none while READY is 0. -/
  export_ : Option (List Piece) := none
  /-- Bytes of an uploaded Bamgon file. -/
  upload : SMap Byte := []
  replay : Option ReplaySt := none
  deriving DecidableEq, Repr

/-! ### Keys and service access (15_security_and_service_access) -/

/-- Keys, service access and the halted lanes. -/
structure SecSt where
  /-- Identity private key; none when absent (Table 15.1). -/
  priv : Option Nat := none
  /-- Calls of the random bit generator so far (R419). -/
  drbg : Nat := 0
  opened : Bool := false
  erased : Bool := false
  /-- The erase marker in MRAM (R427). -/
  marker : Bool := false
  unattested : Bool := false
  skipped : Nat := 0
  skipSat : Bool := false
  /-- GEN_ID and OPEN in progress: their descriptors. -/
  genId : List (Nat × Nat × Bool) := []
  opening : List (Nat × Nat × Bool) := []
  /-- Digest of the configuration at the end of stage 0x7 (Table 15.3, DEVIATED). -/
  configAt7 : Nat := 0
  /-- Lane pairs halted under SEC.DEBUG, bit l (R430). -/
  halted : Nat := 0
  /-- Lane pairs whose HALT waits for the next dispatch. -/
  resume : Nat := 0
  deriving DecidableEq, Repr

/-! ### Test access port (16_electrical_and_package, R447) -/

/-- States of the IEEE 1149.1 controller. -/
inductive TapState where
  | reset | idle | selectDr | captureDr | shiftDr | exit1Dr | pauseDr | exit2Dr | updateDr
  | selectIr | captureIr | shiftIr | exit1Ir | pauseIr | exit2Ir | updateIr
  deriving DecidableEq, Repr

/-- The test access port. -/
structure TapSt where
  state : TapState := .reset
  /-- Instruction shift stage and register; BYPASS is all ones, SAMPLE/PRELOAD has its own code. -/
  irShift : Nat := 0
  ir : Nat := 15
  bypass : Bool := false
  /-- Boundary register: shift stage and latched outputs, bit i for cell i. -/
  cells : Nat := 0
  latched : Nat := 0
  /-- Level of SVC_TDO; none while it is not driven. -/
  tdo : Option Bool := none
  tck : Bool := false
  deriving DecidableEq, Repr

/-! ### Lane pairs, cairns and redundancy (01, 11_takeover_and_spares) -/

/-- The input area a boundary's record holds for one logical position: words from 0x3C00 (R104). -/
structure PosArea where
  pos : Nat
  words : SMap Word24
  deriving DecidableEq, Repr

/-- The input record of a period as the survey head's ring keeps it (R20, R28, R104, R399). -/
structure HeadRec where
  /-- Number of the period since the departure from CONFIGURE, from 1. -/
  count : Nat
  /-- Its boundary tick. -/
  t0 : Nat
  /-- The record as the survey writes it (R400). -/
  body : SurvRec
  /-- Every word of the survey map (R402). -/
  words : List Word24
  /-- Input areas by logical position (R104). -/
  areas : List PosArea
  deriving DecidableEq, Repr

/-- What the hub keeps of one lane pair (R22, R27 to R32, R132). -/
structure PairSt where
  /-- Periods dispatched or waiting to be dispatched to the pair, by their numbers, the running one first (R28). -/
  periods : List Nat := []
  /-- The running period has been dispatched to both copies. -/
  busy : Bool := false
  dispatchedAt : Nat := 0
  /-- The last period whose output words have all been accepted and released, by its number. -/
  outCount : Nat := 0
  /-- The running period is late (R27). -/
  late : Bool := false
  /-- The copies' words differed in the running period (R22). -/
  withheld : Bool := false
  /-- Words accepted in the running period: output ports and words, oldest first (R133). -/
  outputs : List (Nat × Word24) := []
  /-- Delta entries accepted in the running period. -/
  deltas : Nat := 0
  /-- DIGEST of the words posted in the running period so far (R403). -/
  digest : Nat := 0
  /-- Motion time of the last delta word of each copy, for slack (R30). -/
  lastDelta : Nat := 0
  /-- LANE_BEHIND is live. -/
  behind : Bool := false
  /-- Periods of the pair that have been completed since the departure from CONFIGURE. -/
  done : Nat := 0
  /-- Sums of the evaluation window: work, busy time, least slack, lane-pair criteria held (R352, R353). -/
  sumWork : Nat := 0
  sumBusy : Nat := 0
  leastSlack : Int := 2 ^ 19 - 1
  ageWindows : Nat := 0
  slackWindows : Nat := 0
  /-- RATIO of the last evaluation window (R352). -/
  ratio : Nat := 255
  deriving DecidableEq, Repr

/-- One delta entry in a cairn: lane pair and entry (Table 11.2). -/
structure CairnEntry where
  lane : Nat
  pos : Nat
  entry : DeltaEntry
  deriving DecidableEq, Repr

/-- A lane pair's line in a cairn's lane table (Table 11.2). -/
structure CairnLane where
  lane : Nat
  pos : Nat
  sflag : Bool
  count : Nat
  /-- DIGEST of the position's posted words (R403). -/
  digest : Nat := 0
  deriving DecidableEq, Repr

/-- One cairn slot (R336 to R338). -/
structure CairnSt where
  /-- Number of the period since the departure from CONFIGURE; 0 for an empty slot. -/
  count : Nat := 0
  seq : Nat := 0
  format : Nat := 0
  unitB : Bool := false
  bankB : Bool := false
  phase : Nat := 0
  mapGen : Nat := 0
  mtime : Nat := 0
  prog : Nat := 0
  entries : List CairnEntry := []
  lanes : List CairnLane := []
  sealSeq : Nat := 0
  check : Nat := 0
  sealed : Bool := false
  deriving DecidableEq, Repr

/-- A takeover in progress (R341 to R348). -/
structure TakeoverSt where
  failed : Nat
  incoming : Nat
  source : Nat
  stamp : Nat
  /-- Number of the last sealed period at the restoration, s of R342. -/
  lastSealed : Nat
  /-- Its survey sequence number. -/
  sealedSeq : Nat := 0
  restored : Bool := false
  /-- n of R347: the first period whose update point repeats. -/
  atCount : Nat
  deriving DecidableEq, Repr

/-- A planned swap in progress (R350). -/
structure SwapSt where
  owner : Nat × Nat × Bool
  incoming : Nat
  /-- Number of the period b. -/
  atCount : Nat
  restored : Bool := false
  deriving DecidableEq, Repr

/-- A lane migration in progress (R354). -/
structure MigrateSt where
  unit : Nat
  source : Nat
  spare : Nat
  pos : Nat
  atCount : Nat
  restored : Bool := false
  deriving DecidableEq, Repr

/-- A released word that takes its effect when its period's cairn seals (R146, R170, R174, R203): period number, boundary tick,
port and word. -/
structure SealPost where
  count : Nat
  stamp : Nat
  port : Nat
  word : Word24
  deriving DecidableEq, Repr

/-- What the hub keeps of the image a unit was loaded from (R125, R128, R420). -/
structure UnitImg where
  /-- ENG.TASK entries 0 to 7. -/
  tasks : List Nat := []
  /-- Entry j of the input map of kind t at 1024 t + j. -/
  maps : SMap Nat := []
  prog : Nat := 0
  cfmt : Nat := 0
  digest : Nat := 0
  deriving DecidableEq, Repr

/-- Units, positions, cairns, mirror, takeover, swap and migration (11_takeover_and_spares). -/
structure RedSt where
  /-- Images of the loaded units, by unit. -/
  images : SMap UnitImg := []
  pairs : SMap PairSt := []
  /-- Released words waiting for their period's seal. -/
  sealPosts : List SealPost := []
  /-- Input records of the survey head, newest first (R28, R400). -/
  head : List HeadRec := []
  /-- Words of the outgoing and incoming pairs of a swap or migration, for their comparison: unit, lane, period, words. -/
  traces : List (Nat × Nat × Nat × List Post) := []
  /-- Lane pair of a logical position, by 16 unit + position (R340). -/
  map : SMap Nat := []
  /-- Tasks placed and what R126 allocates to them. -/
  alloc : List TaskAlloc := []
  /-- Mailbox slots as delivered at the last boundary, and those posted in the running period (R134). -/
  mbox : SMap Word24 := []
  mboxNew : List (Nat × Nat × Word24) := []
  cairns : SMap CairnSt := []
  /-- State mirror: word at ((position × 2) + memory) × 2^14 + address (R339). -/
  mirror : SMap Word24 := []
  mirrorOk : Bool := false
  /-- Numbers of the last cairn sealed and of the last applied to the mirror. -/
  sealedCount : Nat := 0
  mirrorCount : Nat := 0
  sealedSeq : Nat := 0
  mirrorSeq : Nat := 0
  /-- ARM when the module last left CONFIGURE (R334). -/
  armed : Bool := false
  /-- Units with programs loaded and intact. -/
  loadedA : Bool := false
  loadedB : Bool := false
  /-- VCORE_A, VCORE_B fell below 0.60 V since the unit was loaded (R52). -/
  lostA : Bool := false
  lostB : Bool := false
  takeover : Option TakeoverSt := none
  /-- Number of the last handover's period: the active unit computes the periods before it in catch-up (R343, R346). -/
  replayTo : Nat := 0
  swap : Option SwapSt := none
  migrate : Option MigrateSt := none
  failed : Nat := 0
  /-- Retired lane pairs, in MRAM: bit l of each unit (R355). -/
  retiredA : Nat := 0
  retiredB : Nat := 0
  mapGen : Nat := 0
  takeovers : Nat := 0
  takeoversSat : Bool := false
  lastSeq : Nat := 0
  lastGap : Nat := 0
  /-- REDUNDANCY_LOST is live. -/
  lostLive : Bool := false
  /-- Motion time of the last automatic reload of each unit (R346). -/
  reloadedA : Option Nat := none
  reloadedB : Option Nat := none
  /-- A unit to be reloaded at the next boundary (R346). -/
  reload : Option Nat := none
  /-- Number of the period at which the evaluation window began (R352). -/
  windowStart : Nat := 0
  /-- Repair table in MRAM: resource, place (R357). -/
  repairs : List (Nat × Nat) := []
  /-- Reads that needed ECC correction, by resource (as in the repair table) and place: an MRAM row or a word of an SRAM array. -/
  corrected : List (Nat × Nat) := []
  deriving DecidableEq, Repr

/-! ### Position latch and compare units (07_gearing_cam_caravans_latch_compare, R229 to R237) -/

/-- A captured edge whose result is not yet entered (R231, R232). -/
structure LatchCap where
  /-- The LATCH_ARM it completes. -/
  owner : Option (Nat × Nat × Bool)
  /-- Motion time of the edge, whether it rose, the boundary before it and the channel's count latched there. -/
  time : Nat
  rising : Bool
  b0 : Nat
  c0 : Nat
  /-- The count at the first boundary at or after the edge, once latched. -/
  c1 : Option Nat := none
  deriving DecidableEq, Repr

/-- One latch unit. -/
structure LatchSt where
  /-- The LATCH_ARM that runs: ring, index and phase. -/
  owner : Option (Nat × Nat × Bool) := none
  /-- The unit waits for its edge. -/
  armed : Bool := false
  /-- Instant of the arming. -/
  since : Nat := 0
  /-- An ABORT that waits for edges stamped before it to qualify: its DETAIL and its instant (R232). -/
  abort : Option (Nat × Nat) := none
  /-- Counts of the channel at the last boundary and at the one before (R231). -/
  cLast : Nat := 0
  cPrev : Nat := 0
  /-- Captured edges, oldest first. -/
  caps : List LatchCap := []
  /-- An edge has been captured since the unit was last armed: further edges count in EXTRA. -/
  after : Bool := false
  deriving DecidableEq, Repr

/-- One compare unit beside CMP.STATUS. -/
structure CmpSt where
  /-- The COMPARE_ARM that runs. -/
  owner : Option (Nat × Nat × Bool) := none
  /-- DIR of the arming: bit 0 positive, bit 1 negative. -/
  dir : Nat := 0
  step : Int := 0
  /-- A fire whose pulse waits for the next isolation-link frame: its stamp. -/
  fire : Option Nat := none
  /-- The field output's pulse runs: the start of the frame that carried it. -/
  pulse : Option Nat := none
  deriving DecidableEq, Repr

/-! ### Feedback channels, emulation outputs, sigma-delta inputs (09_feedback_and_current_sensing) -/

/-- A serial frame in progress (R282 to R288). -/
structure SerialFrame where
  start : Nat
  /-- The sampling tick. -/
  sample : Nat
  /-- Karsel command: 1 POS, 2 READ, 3 CLEAR; 1 in SSI. -/
  cmd : Nat
  /-- ARG of the request (Table 09.4). -/
  arg : Nat := 0
  deriving DecidableEq, Repr

/-- One feedback channel (R269 to R291). -/
structure FbSt where
  count : Nat := 0
  /-- Accepted levels of A, B and Z, bits 0 to 2. -/
  levels : Nat := 0
  /-- Hall sector of the last valid state. -/
  sector : Option Nat := none
  valid : Bool := false
  referenced : Bool := false
  ref : Nat := 0
  cm : Nat := 0
  indexCount : Nat := 0
  indexOff : Int := 0
  /-- The instant of the ARM_HOME write while homing is armed (R276). -/
  homeArmed : Option Nat := none
  homed : Bool := false
  indexSeen : Bool := false
  /-- Z has been inactive since the last index edge (R275). -/
  zIdle : Bool := false
  /-- DIR: the last non-zero change was negative; and whether there has been one. -/
  dir : Bool := false
  dirKnown : Bool := false
  /-- The two most recent count changes: tick and change (R278). -/
  e1 : Option (Nat × Int) := none
  e0 : Option (Nat × Int) := none
  /-- Sum of the count changes that count for speed, and its values at the latest instants, newest first (R279). -/
  net : Int := 0
  /-- Sum of every change of the count, for the emulation outputs (R292). -/
  sum : Int := 0
  hist : List Int := [0]
  /-- SPD_MODE and the speed item. -/
  counting : Bool := false
  speed : Int := 0
  /-- Tick of the last count change, or of the last valid frame's sampling tick. -/
  ageFrom : Option Nat := none
  /-- Serial: previous position, frame in progress, last CK edge, bad frames in a row, sampling tick of the last valid frame. -/
  xPrev : Option Nat := none
  frame : Option SerialFrame := none
  idleFrom : Option Nat := none
  badRun : Nat := 0
  lastValid : Option Nat := none
  /-- Changes and ticks of the most recent valid position frames, newest first. -/
  serMoves : List (Int × Nat) := []
  validNew : Bool := false
  serStatus : Nat := 0
  alarm : Bool := false
  lost : Bool := false
  delay : Nat := 0
  /-- SER_GO waits for the next frame: command and ARG. -/
  go : Option (Nat × Nat) := none
  reg : Nat := 0
  regValid : Bool := false
  hallBad : Bool := false
  quadErr : Nat := 0
  badFrames : Nat := 0
  slips : Nat := 0
  skipped : Nat := 0
  /-- SAT of FB.STATUS. -/
  sat : Nat := 0
  /-- Items as latched at the last boundary before a fence: COUNT, SPEED, STATE, EDGE_AGE, INDEX. -/
  held : List Nat := []
  deriving DecidableEq, Repr

/-- One emulation output (R292). -/
structure EmuSt where
  counter : Nat := 0
  /-- The lane target's words, low and high. -/
  lo : Word24 := 0
  hi : Word24 := 0
  /-- Counter at the write, and the source's sum of changes then. -/
  e0 : Nat := 0
  srcAt : Int := 0
  lastStep : Option Nat := none
  deriving DecidableEq, Repr

/-- One sigma-delta input (R294 to R300). -/
structure SdSt where
  sample : Word24 := 0
  ocActive : Bool := false
  stuck : Bool := false
  ocCnt : Nat := 0
  staleCnt : Nat := 0
  ocSat : Bool := false
  staleSat : Bool := false
  deriving DecidableEq, Repr

/-! ### Field island (13_field_io) -/

/-- A down frame of the isolation link (Table 13.7). -/
structure DownFrame where
  start : Nat
  seq : Nat
  /-- Levels, bit c. -/
  level : Nat
  /-- OFS by channel. -/
  ofs : SMap Nat
  enable : Bool
  lane : Nat
  deriving DecidableEq, Repr

/-- What the island put into its up frame before its lands' levels (Table 13.8). -/
structure UpHead where
  seq : Nat
  echo : Nat
  /-- STATUS [3:0]. -/
  status : Nat
  deriving DecidableEq, Repr

/-- The hub's debounce of one input (R383), and what the record holds of it (R384). -/
structure DiSt where
  level : Bool := false
  /-- A sample has set the level since the link came up or FIO.DI_CFG was written. -/
  known : Bool := false
  /-- Consecutive samples at the other level, and the first of them. -/
  run : Nat := 0
  first : Nat := 0
  recLevel : Bool := false
  recStamp : Option Nat := none
  edge : Bool := false
  deriving DecidableEq, Repr

/-- An accepted level waiting for its record (R384): its acceptance sample, and the stamp of a change. -/
structure DiChange where
  input : Nat
  level : Bool
  accepted : Nat
  stamp : Option Nat
  deriving DecidableEq, Repr

/-- One output channel as the hub sees it (R386 to R391). -/
structure DoSt where
  /-- Lane-commanded level, and a word of the running period: the lane pair that posted it and its bit (R387). -/
  lane : Bool := false
  posted : Option (Nat × Bool) := none
  /-- Switching instants and levels sent, oldest first; the level in force before them (R388). -/
  sent : List (Nat × Bool) := []
  base : Bool := false
  /-- Mismatching and matching readbacks in a row, stamp of the first mismatch (R391). -/
  bad : Nat := 0
  good : Nat := 0
  first : Nat := 0
  ext : Bool := false
  ovl : Bool := false
  deriving DecidableEq, Repr

/-- One output channel at the island (R388, R390). -/
structure IslandDo where
  on : Bool := false
  /-- Switchings still to come, earliest first: instant and level. -/
  plan : List (Nat × Bool) := []
  /-- Level in force. -/
  level : Bool := false
  /-- The channel shut down at this instant; retries follow every 100 ms from it. -/
  shut : Option Nat := none
  retries : Nat := 0
  /-- A level of 0 has cancelled the pending retry. -/
  cancelled : Bool := false
  deriving DecidableEq, Repr

/-- The field island and the hub's end of the isolation link. -/
structure FioSt where
  /-- Hub: the last down frame sent. -/
  sent : Option DownFrame := none
  /-- Hub: down frames whose up slot is open, oldest first, and whether the bad copies of the oldest have been raised (R393). -/
  hubSlots : List DownFrame := []
  slotSeen : Bool := false
  /-- Hub: SEQ of the last good up frame and the SEQ the next frame must carry; bad slots in a row, good slots without LOST in a row. -/
  upSeq : Nat := 0
  upWant : Option Nat := none
  upBad : Nat := 0
  upGood : Nat := 0
  linkOk : Bool := false
  isoLost : Bool := false
  di : SMap DiSt := []
  changes : List DiChange := []
  dos : SMap DoSt := []
  /-- The last readback, and the readbacks by sample instant, newest first; none for a slot without a good frame. -/
  rb : Nat := 0
  rbHist : List (Nat × Option Nat) := []
  ovl : Nat := 0
  supply : Nat := 0
  supplyBad : Nat := 0
  supplyGood : Nat := 0
  supplyLive : Bool := false
  activeLane : Nat := 0
  /-- Lanes no longer used, bit l; in MRAM (R396). -/
  failed : Nat := 0
  /-- The last 64 slots of each lane, newest first: a bad copy while the other lane's was good. -/
  slots0 : List Bool := []
  slots1 : List Bool := []
  bad0 : Nat := 0
  bad1 : Nat := 0
  retries : Nat := 0
  sat : Nat := 0
  /-- Island: the field supply is at 12 V or more. -/
  powered : Bool := false
  /-- Island: it is in its lost state; it drives no output until 8 good down slots with ENABLE (R395). -/
  islandLost : Bool := false
  driving : Bool := false
  downBad : Nat := 0
  downGood : Nat := 0
  islandSeq : Nat := 0
  leftReset : Bool := false
  /-- Island: down frames whose slot is open, oldest first, and whether the oldest came with bad copies only (R393). -/
  islSlots : List DownFrame := []
  islSeen : Bool := false
  /-- Island: start of the slot of the last good down frame, and its SEQ (R394). -/
  downLast : Option (Nat × Nat) := none
  enable : Bool := false
  /-- Up frames on their way, by the start of the slot they answer. -/
  ups : List (Nat × UpHead) := []
  outs : SMap IslandDo := []
  deriving DecidableEq, Repr

/-! ### The whole module -/

/-- The state of the module. -/
structure State where
  /-- Commands waiting, first in, first out. -/
  pending : List Instr := []
  /-- Objects and set-up registers: contents XOR reset contents of each entry, by object, instance and entry. -/
  objs : SMap Nat := []
  /-- Events on their way to the collector. -/
  msgs : List Msg := []
  boot : BootSt := {}
  per : PeriodSt := {}
  time : TimeSt := {}
  host : HostSt := {}
  flt : FltSt := {}
  net : NetSt := {}
  groups : SMap GroupSt := []
  lanes : SMap Lane := []
  red : RedSt := {}
  fb : SMap FbSt := []
  emu : SMap EmuSt := []
  sd : SMap SdSt := []
  fio : FioSt := {}
  motion : MotionSt := {}
  latchUnits : SMap LatchSt := []
  cmpUnits : SMap CmpSt := []
  surv : SurvSt := {}
  sec : SecSt := {}
  tap : TapSt := {}
  deriving DecidableEq, Repr

/-- The machine as module reset leaves it, RESET_N low (R45): every object at its reset contents, no queue entry, no image in
either slot, an empty MRAM, the island without its supply. -/
def State.reset : State := {}

end Sys2Proof.Machine
end

