-- ==== Sys2Proof/Machine/Ops.lean ====
section
/-!
DEFINITION. The named operations over the state: fields of objects, counters, the clock reading, events on their way to the
collector, and integers in fields.
-/

namespace Sys2Proof.Machine

/-- The outcome of a command. -/
abbrev Out := Host.Outcome State Fault Refusal

/-! ### Fields of objects and set-up registers -/

/-- Key of an entry in the object store. -/
def objKey (o : Obj) (inst entry : Nat) : Nat := (o.code * 2 ^ 8 + inst) * 2 ^ 16 + entry

/-- Contents of an entry. -/
def State.obj (s : State) (o : Obj) (inst entry : Nat) : Nat :=
  s.objs.get (objKey o inst entry) 0 ^^^ o.resetVal entry

/-- Replace the contents of an entry. -/
def State.setObj (s : State) (o : Obj) (inst entry v : Nat) : State :=
  { s with objs := s.objs.set (objKey o inst entry) (v ^^^ o.resetVal entry) 0 }

/-- Bits [lo + w - 1 : lo] of `c`. -/
def getBits (c lo w : Nat) : Nat := c / 2 ^ lo % 2 ^ w

/-- `c` with bits [lo + w - 1 : lo] replaced by `v`. -/
def putBits (c lo w v : Nat) : Nat := c / 2 ^ (lo + w) * 2 ^ (lo + w) + v % 2 ^ w * 2 ^ lo + c % 2 ^ lo

/-- A field of an entry. -/
def State.fld (s : State) (f : Fld) (inst : Nat := 0) (entry : Nat := 0) : Nat :=
  getBits (s.obj f.obj inst entry) f.lo f.width

/-- A one-bit field of an entry. -/
def State.bit (s : State) (f : Fld) (inst : Nat := 0) (entry : Nat := 0) : Bool := s.fld f inst entry != 0

/-- Write a field of an entry. -/
def State.setFld (s : State) (f : Fld) (v : Nat) (inst : Nat := 0) (entry : Nat := 0) : State :=
  s.setObj f.obj inst entry (putBits (s.obj f.obj inst entry) f.lo f.width v)

/-- Write a one-bit field of an entry. -/
def State.setBit (s : State) (f : Fld) (b : Bool) (inst : Nat := 0) (entry : Nat := 0) : State :=
  s.setFld f b.toNat inst entry

/-- Bit `n` of a field that holds one bit an index. -/
def State.nth (s : State) (f : Fld) (n : Nat) (inst : Nat := 0) (entry : Nat := 0) : Bool :=
  (s.fld f inst entry).testBit n

/-- Write bit `n` of a field that holds one bit an index. -/
def State.setNth (s : State) (f : Fld) (n : Nat) (b : Bool) (inst : Nat := 0) (entry : Nat := 0) : State :=
  s.setFld f (putBits (s.fld f inst entry) n 1 b.toNat) inst entry

/-- An entry returns to its reset contents. -/
def State.resetObj (s : State) (o : Obj) (inst : Nat := 0) (entry : Nat := 0) : State :=
  s.setObj o inst entry (o.resetVal entry)

/-! ### Integers in fields -/

/-- The two's-complement integer in `w` bits. -/
def sint (w v : Nat) : Int := if v % 2 ^ w < 2 ^ (w - 1) then (v % 2 ^ w : Nat) else (v % 2 ^ w : Nat) - (2 ^ w : Int)

/-- The `w` bits of an integer in two's complement. -/
def uint (w : Nat) (v : Int) : Nat := (v % (2 ^ w : Int)).toNat

/-- Hold an integer within a range. -/
def clampInt (v lo hi : Int) : Int := if v < lo then lo else if hi < v then hi else v

/-- Hold a field's value within the range its layout states (R458). -/
def clampNat (v lo hi : Nat) : Nat := if v < lo then lo else if hi < v then hi else v

/-- The feedback channel of an axis, 63 for none (R143): a virtual axis has none, and 32 to 62 act as 31 (R458). -/
def State.axisFb (s : State) (a : Nat) : Nat :=
  let f := s.fld F.AXIS_CFG_FB a
  if s.fld F.AXIS_CFG_TYPE a = 1 ∧ f ≠ 63 then min f 31 else 63

/-- NWORDS of a cyclic transmit channel and of a receive channel, at most 48 (R318, R458). -/
def State.txCount (s : State) (t : Nat) : Nat := min 48 (s.fld F.CYC_TX_NWORDS t)
def State.rxCount (s : State) (r : Nat) : Nat := min 48 (s.fld F.CYC_RX_NWORDS r)

/-! ### Counters (R459, Table 17.1) -/

/-- Count one occurrence in a counter that sticks at its largest value and sets its saturation flag there. -/
def State.satInc (s : State) (cnt sat : Fld) (inst : Nat := 0) (entry : Nat := 0) : State :=
  let top := 2 ^ cnt.width - 1
  let v := s.fld cnt inst entry
  let v' := if v < top then v + 1 else top
  let s := s.setFld cnt v' inst entry
  if v' = top then s.setBit sat true inst entry else s

/-- Count one occurrence in a counter held outside the objects: its new value and its saturation flag. -/
def satNat (top v : Nat) (sat : Bool) : Nat × Bool :=
  let v' := if v < top then v + 1 else top
  (v', sat || v' == top)

/-! ### Mode, time and events -/

/-- Motion time, the integer part of R303. -/
def State.now (s : State) : Nat := s.time.mt

/-- Motion time in sixteenths of a tick, as the carriers use it (R303). -/
def State.now16 (s : State) : Nat := 16 * s.time.mt + s.time.mtFrac / 2 ^ 28

/-- Codes of the operating modes (Table 02.1). -/
inductive Mode where
  | configure | commission | run | hold | replay | service
  deriving DecidableEq, Repr

/-- The code of a mode in SYS.MODE.MODE. -/
def Mode.code : Mode → Nat
  | .configure => 0 | .commission => 1 | .run => 2 | .hold => 3 | .replay => 4 | .service => 5

/-- The present mode (R39); codes 6 and 7 do not occur. -/
def State.mode (s : State) : Mode :=
  match s.fld F.SYS_MODE_MODE with
  | 1 => .commission
  | 2 => .run
  | 3 => .hold
  | 4 => .replay
  | 5 => .service
  | _ => .configure

/-- Source number of an instance of a kind (R360). -/
def sourceNo (k : Kind) (inst : Nat) : Nat := 128 * k + inst

/-- An event leaves for the collector (R361). -/
def State.send (s : State) (m : Msg) : State := { s with msgs := s.msgs ++ [m] }

/-- A one-time event, or the onset of a live condition, of an instance of a kind, stamped with the present tick. -/
def State.raise (s : State) (k : Kind) (inst : Nat := 0) (data : Nat := 0) (dlen : Nat := 0) (kind : Nat := 0)
    (addr : Nat := 0) : State :=
  s.send { source := sourceNo k inst, kind := kind, addr := addr, data := data, dlen := dlen, stamp := s.now }

/-- The same event with a stamp of its own. -/
def State.raiseAt (s : State) (stamp : Nat) (k : Kind) (inst : Nat := 0) (data : Nat := 0) (dlen : Nat := 0)
    (kind : Nat := 0) : State :=
  s.send { source := sourceNo k inst, kind := kind, data := data, dlen := dlen, stamp := stamp }

/-- The end of a live condition. -/
def State.clearLive (s : State) (k : Kind) (inst : Nat := 0) : State :=
  s.send { source := sourceNo k inst, on := false, off := true, stamp := s.now }

/-- A list of indices folded over the state. -/
def State.forRange (s : State) (n : Nat) (f : State → Nat → State) : State := (List.range n).foldl f s

/-- The active unit, 0 for A and 1 for B (SYS.MODE.ACTIVE_UNIT). -/
def State.activeUnit (s : State) : Nat := s.fld F.SYS_MODE_ACTIVE_UNIT

end Sys2Proof.Machine
end

