-- ==== Sys2Proof/Machine/Time.lean ====
section
/-!
DEFINITION. The three times of the hub and the PTP servo (R303 to R311, 10_time_and_networks).
-/

namespace Sys2Proof.Machine

/-- Units of 2^-19 ppb in one: the servo's correction `freq` is freq / (2^19 × 10^9) of the rate (R307, R309). -/
def rateUnit : Nat := 2 ^ 19 * 10 ^ 9

/-- PTP time after `k` oscillator cycles of 2.5 ns × r_ptp each, r_ptp = 1 − f × 10^-9 (R307). -/
def TimeSt.ptpRun (t : TimeSt) (k : Nat) : TimeSt :=
  let n := ((163840 * k * ((rateUnit : Int) - t.freq)) + t.ptpAcc).toNat
  { t with osc := t.osc + k, ptp := t.ptp + n / rateUnit, ptpAcc := n % rateUnit }

/-- PTP seconds, nanoseconds and the 16-bit fraction (R307). -/
def TimeSt.ptpSeconds (t : TimeSt) : Nat := t.ptp / 2 ^ 16 / 10 ^ 9
def TimeSt.ptpNs (t : TimeSt) : Nat := t.ptp / 2 ^ 16 % 10 ^ 9
def TimeSt.ptpFrac (t : TimeSt) : Nat := t.ptp % 2 ^ 16

/-- SLEW and MT_TAU held within their ranges (R458). -/
def State.slewPpm (s : State) : Nat := clampNat (s.fld F.TIME_CFG_SLEW) 1 5000
def State.mtTau (s : State) : Nat := clampNat (s.fld F.TIME_CFG_MT_TAU) 1 60000

/-- d of R310: target minus motion time, in whole ticks; 0 while MT_SRC is 0. -/
def State.mtDiff (s : State) : Int :=
  if s.bit F.TIME_CFG_MT_SRC then
    ((((s.time.ptp : Int) - s.fld F.TIME_CFG_EPOCH * 2 ^ 16) * 2 * 2 ^ 16) - (s.time.mt * 2 ^ 32 + s.time.mtFrac) * 5)
      / (5 * 2 ^ 32)
  else 0

/-- The correction c of R310 as a fraction, and whether it stands at its limit (SLEWING). -/
def State.mtCorr (s : State) : Int × Int × Bool :=
  let d := s.mtDiff
  let lim : Int := s.slewPpm * s.mtTau * 400000
  if d * 10 ^ 6 ≥ lim then (s.slewPpm, 10 ^ 6, true)
  else if d * 10 ^ 6 ≤ -lim then (-(s.slewPpm : Int), 10 ^ 6, true)
  else (d, (s.mtTau * 400000 : Nat), false)

/-- The advance of motion time in one oscillator cycle, in units of 2^-32 tick (R303, R310): exactly one tick with MT_SRC 0;
r_ptp × (1 + c) otherwise, rounded to a neighbouring multiple of 2^-32 that the spec leaves open. -/
def State.mtStep (s : State) : Nat :=
  if s.bit F.TIME_CFG_MT_SRC then
    let c := s.mtCorr
    let n := (2 ^ 32 * ((rateUnit : Int) - s.time.freq) * (c.2.1 + c.1)).toNat
    let m := rateUnit * c.2.1.toNat
    n / m + (if n % m ≠ 0 ∧ Config.mtRoundUp s.time.osc then 1 else 0)
  else 2 ^ 32

/-- One oscillator cycle (R303, R307). -/
def State.cycle (s : State) : State :=
  let v := s.time.mt * 2 ^ 32 + s.time.mtFrac + s.mtStep
  { s with time := { s.time.ptpRun 1 with mt := v / 2 ^ 32, mtFrac := v % 2 ^ 32 } }

/-- Oscillator cycles until motion time is `t` or more, at most `fuel` of them (R304). -/
def State.cycleTo (s : State) (t : Nat) : Nat → State
  | 0 => s
  | k + 1 => if t ≤ s.time.mt then s else s.cycle.cycleTo t k

/-- Time runs on until the first oscillator cycle at which motion time is `t` or more (R304); nothing moves while the time
base stands. -/
def State.advanceTo (s : State) (t : Nat) : State :=
  if !s.time.running || decide (t ≤ s.time.mt) then s
  else if s.bit F.TIME_CFG_MT_SRC then s.cycleTo t (2 * (t - s.time.mt) + 2)
  else { s with time := { s.time.ptpRun (t - s.time.mt) with mt := t } }

/-- The forward alignment of R311, made when the servo first reaches LOCKED in CONFIGURE. -/
def State.align (s : State) : State :=
  let d := s.mtDiff
  if s.bit F.TIME_CFG_ALIGN_FWD && s.mode == .configure && decide (1 < d) then
    ({ s with time := { s.time with mt := s.time.mt + d.toNat } }).raise K.MT_ALIGN 0 d.toNat 1
  else s

/-- The servo's limits: ADJ_MAX, in units of 2^-19 ppb (R309, R458). -/
def State.adjLimit (s : State) : Int := clampNat (s.fld F.TIME_CFG_ADJ_MAX) 1 1000 * 1000 * 2 ^ 19

/-- A step of PTP time by −o (R309). -/
def State.ptpStep (s : State) (o : Int) : State :=
  let c := satNat 255 s.time.steps s.time.stepsSat
  ({ s with time :=
      { s.time with
        ptp := ((s.time.ptp : Int) - o * 2 ^ 16).toNat
        integ := 0, servo := 1, good := 0, offset := o, steps := c.1, stepsSat := c.2 } }).raise
    K.TIME_STEP 0 (uint 64 (-o)) 1

/-- An update of the servo that makes no step (R309). -/
def State.servoTrim (s : State) (o : Int) : State :=
  let adj := s.adjLimit
  let i := clampInt (s.time.integ + sint 24 (s.fld F.TIME_CFG_KI) * o) (-adj) adj
  let f := clampInt (sint 24 (s.fld F.TIME_CFG_KP) * o + i) (-adj) adj
  let lock := s.fld F.TIME_CFG_LOCK_NS
  let good := if o.natAbs ≤ lock then min (s.time.good + 1) 8 else 0
  let servo := if good = 8 then 2 else if 4 * lock < o.natAbs then 1 else s.time.servo
  let s' := { s with time := { s.time with integ := i, freq := f, good := good, servo := servo, offset := o,
                                           everLocked := s.time.everLocked || servo == 2 } }
  if servo = 2 ∧ !s.time.everLocked then s'.align else s'

/-- One servo update from a Sync with complete timestamps (R309). -/
def State.servoUpdate (s : State) (o : Int) : State :=
  if s.bit F.TIME_CFG_STEP_EN && decide (max (s.fld F.TIME_CFG_STEP_THR) 100 < o.natAbs) then s.ptpStep o
  else s.servoTrim o

/-- TIME.STATUS as latched at a measurement instant (R307, R310). -/
def State.latchTime (s : State) : State :=
  let t := s.time
  let d := s.mtDiff
  let put := fun (s : State) (e : Fld × Nat) => s.setFld e.1 e.2
  [(F.TIME_STATUS_SERVO, t.servo), (F.TIME_STATUS_ALIGNED, if d.natAbs ≤ 1 then 1 else 0),
   (F.TIME_STATUS_SLEWING, s.mtCorr.2.2.toNat), (F.TIME_STATUS_SLAVE_PORT, t.slavePort),
   (F.TIME_STATUS_STEPS, t.steps), (F.TIME_STATUS_STEPS_SAT, t.stepsSat.toNat),
   (F.TIME_STATUS_OFFSET, uint 32 (clampInt t.offset (-(2 ^ 31)) (2 ^ 31 - 1))),
   (F.TIME_STATUS_FREQ, uint 32 (t.freq / 2 ^ 19)), (F.TIME_STATUS_D, uint 64 d),
   (F.TIME_STATUS_GM_ID, t.gmId), (F.TIME_STATUS_PTP_S, t.ptpSeconds), (F.TIME_STATUS_PTP_NS, t.ptpNs),
   (F.TIME_STATUS_PTP_FRAC, t.ptpFrac)].foldl put s

end Sys2Proof.Machine
end

