-- ==== Sys2Proof/Machine/Pwm.lean ====
section
/-!
DEFINITION. The PWM generator (08_pwm_generator, R238 to R268): compare words and levels, the carrier, switches with dead time,
minimum pulse and interlock, three-level pairs and gangs, sets and their transfer, states, trips, triggers and halt.
-/

namespace Sys2Proof.Machine

/-! ### Access -/

def State.grp (s : State) (g : Nat) : GroupSt := s.groups.get g {}

def State.setGrp (s : State) (g : Nat) (v : GroupSt) : State := { s with groups := s.groups.set g v {} }

/-- Codes of PWMG.STATUS.STATE. -/
abbrev gLow : Nat := 0
abbrev gSafe : Nat := 1
abbrev gHalt : Nat := 2
abbrev gIdle : Nat := 3
abbrev gDriving : Nat := 4

def State.gstate (s : State) (g : Nat) : Nat := s.fld F.PWMG_STATUS_STATE g
def State.gwaiting (s : State) (g : Nat) : Bool := s.bit F.PWMG_STATUS_WAITING g
def State.gper (s : State) (g : Nat) : Nat := s.fld F.PWMG_CFG_PER g
def State.gkind (s : State) (g : Nat) : Nat := s.fld F.PWMG_CFG_KIND g

/-- The group is one of a three-level pair (R239). -/
def State.threeLevel (s : State) (g : Nat) : Bool := s.gkind g == 1 || s.gkind g == 2

/-- The outer and the inner group of a pair. -/
def outerOf (g : Nat) : Nat := g / 2 * 2
def innerOf (g : Nat) : Nat := g / 2 * 2 + 1

/-- DT and MINP in sixteenths of a tick; with DT = 0 a gap of a three-level leg is one tick (R252). -/
def State.dt16 (s : State) (g : Nat) : Nat :=
  let d := s.fld F.PWMG_CFG_DT g
  16 * (if s.threeLevel g then max 1 d else d)
def State.minp16 (s : State) (g : Nat) : Nat := 16 * s.fld F.PWMG_CFG_MINP g

/-- The groups that act as one with a group: its gang, its three-level pair, or itself (R253). -/
def State.gangOf (s : State) (g : Nat) : List Nat :=
  if s.bit F.PWMG_CFG_GANG_EN g then
    (List.range 32).filter fun h => s.bit F.PWMG_CFG_GANG_EN h && s.fld F.PWMG_CFG_LEAD h == s.fld F.PWMG_CFG_LEAD g
  else if s.threeLevel g then [outerOf g, innerOf g]
  else [g]

/-- A three-level or ganged group: it goes to SAFE under halt (R264). -/
def State.ganged (s : State) (g : Nat) : Bool := s.bit F.PWMG_CFG_GANG_EN g || s.threeLevel g

/-! ### Compare words and the carrier (R241, R242, R244) -/

/-- COARSE of a compare word. -/
def coarse (w : Nat) : Nat := w / 16 % 2 ^ 20

/-- An extreme compare value (R241). -/
def extreme (w : Nat) : Bool := coarse w == 0 || coarse w == 0xFFFFF

/-- The end position b of a pulse (R242). -/
def offPos (per off : Nat) : Nat := if extreme off then 16 * per else off

/-- The commanded level of a leg at carrier position x (R242). -/
def levelAtPos (per on off x : Nat) : Bool :=
  if coarse on = 0 then false
  else if coarse on = 0xFFFFF then true
  else
    let b := offPos per off
    if on < b then decide (on ≤ x ∧ x < b)
    else if b < on then decide (on ≤ x ∨ x < b)
    else false

/-- The carrier's position at an instant in sixteenths of a tick (R244). -/
def carrierPos (per phase t16 : Nat) : Nat := (((t16 : Int) - phase) % (16 * per : Nat)).toNat

def State.carrier (s : State) (g t16 : Nat) : Nat := carrierPos (s.gper g) (s.fld F.PWMG_CFG_PHASE g) t16

/-- The first instant after `t16` at which the carrier stands at position `c` (R244). -/
def State.nextAt (s : State) (g t16 c : Nat) : Nat :=
  let p := 16 * s.gper g
  let x := s.carrier g t16
  if p = 0 then t16 else if x < c then t16 + (c - x) else t16 + (p - x + c)

/-- The carrier of a group runs: periods run, and it is no two-level group under halt, whose carrier stops (R244, R267). -/
def State.carrierRuns (s : State) (g : Nat) : Bool :=
  s.per.running && s.time.running && !((s.grp g).halted && !s.ganged g) && s.gstate g != gHalt && decide (0 < s.gper g)

/-- The compare `c` in force (R240, R255). -/
def State.cmp (s : State) (g c : Nat) : Nat := ((s.grp g).active.get c 0).toNat

/-- The commanded level of leg `l` of a group from the set in force. -/
def State.legLevel (s : State) (g l x : Nat) : Bool := levelAtPos (s.gper g) (s.cmp g (2 * l)) (s.cmp g (2 * l + 1)) x

/-- Target states of a three-level leg (R250). -/
inductive Npc where
  | p | o | n
  deriving DecidableEq, Repr

/-- The target state the commanded levels select; Lo = 1 with Li = 0 is taken as O (R250). -/
def npcOf (lo li : Bool) : Npc := if li then (if lo then .p else .o) else (if lo then .o else .n)

/-- Whether a target state keeps an output on: outer group outputs S1, S3; inner group outputs S2, S4 (R239, R250). -/
def npcKeeps (inner upper : Bool) : Npc → Bool
  | .p => (!inner && upper) || (inner && upper)
  | .o => (inner && upper) || (!inner && !upper)
  | .n => (!inner && !upper) || (inner && !upper)

/-- The side of the commanded level, or of the target state, that keeps output `k` of a group on at position `x`
(R247, R250). -/
def State.keepsOn (s : State) (g k x : Nat) : Bool :=
  let l := k / 2
  if s.threeLevel g then
    npcKeeps (s.gkind g == 2) (k % 2 == 0) (npcOf (s.legLevel (outerOf g) l x) (s.legLevel (innerOf g) l x))
  else if k % 2 = 0 then s.legLevel g l x else !s.legLevel g l x

/-- Positions at which the level of leg `l` can change within a carrier period. -/
def State.legEdges (s : State) (g l : Nat) : List Nat :=
  let one := fun h => [0, s.cmp h (2 * l) % (16 * s.gper g + 1), offPos (s.gper g) (s.cmp h (2 * l + 1))]
  if s.threeLevel g then one (outerOf g) ++ one (innerOf g) else one g

/-- The least element of a list that meets a test. -/
def leastWith (f : Nat → Bool) (xs : List Nat) : Option Nat :=
  xs.foldl (fun m x => if f x then (match m with | none => some x | some y => some (min x y)) else m) none

/-- The end of the side of L of output `k`, within the running carrier period, after position `x` (R248). -/
def State.sideEnd (s : State) (g k x : Nat) : Option Nat :=
  leastWith (fun y => decide (x < y ∧ y < 16 * s.gper g) && !s.keepsOn g k y) (s.legEdges g (k / 2))

/-! ### Switches (R247 to R252) -/

def State.sw (s : State) (g k : Nat) : Switch := (s.grp g).sw.get k {}

def State.setSw (s : State) (g k : Nat) (v : Switch) : State :=
  s.setGrp g { s.grp g with sw := (s.grp g).sw.set k v {} }

/-- Switch output `k` on or off at an instant, in sixteenths of a tick. -/
def State.drive (s : State) (g k : Nat) (on : Bool) (t : Nat) : State :=
  let w := s.sw g k
  if w.on = on then s
  else s.setSw g k (if on then { w with on := true, onAt := t } else { w with on := false, offAt := t })

/-- Cancel the change still to come of an output. -/
def State.cancel (s : State) (g k : Nat) : State := s.setSw g k { s.sw g k with pend := none }

/-- An output is to change from `t` on, in place of any change still to come. -/
def State.plan (s : State) (g k t : Nat) (on : Bool) (kind : ChangeKind) : State :=
  s.setSw g k { s.sw g k with pend := some ⟨t, on, kind⟩ }

def State.countEaten (s : State) (g : Nat) : State := s.satInc F.PWMG_STATUS_PULSE_EATEN F.PWMG_STATUS_EATEN_SAT g
def State.countHeld (s : State) (g : Nat) : State := s.satInc F.PWMG_STATUS_PULSE_HELD F.PWMG_STATUS_HELD_SAT g

/-- The group and output that carry a switch of leg `l` of a pair: S1, S3 in the outer group, S2, S4 in the inner. -/
def s1of (g l : Nat) : Nat × Nat := (outerOf g, 2 * l)
def s2of (g l : Nat) : Nat × Nat := (innerOf g, 2 * l)
def s3of (g l : Nat) : Nat × Nat := (outerOf g, 2 * l + 1)
def s4of (g l : Nat) : Nat × Nat := (innerOf g, 2 * l + 1)

/-- The outer switches that take part in the interlock of an output: S1 and S4 stand on S2 and S3 (R252). -/
def State.isInner (s : State) (g k : Nat) : Bool :=
  s.threeLevel g && ((s.gkind g == 2 && k % 2 == 0) || (s.gkind g == 1 && k % 2 == 1))

/-- The switch that must be on for DT before an outer switch turns on: S2 for S1, S3 for S4 (R252). -/
def innerFor (g k : Nat) : Nat × Nat := if k % 2 = 0 then s2of g (k / 2) else s3of g (k / 2)

/-- The switch that must be off for DT before an inner switch turns off: S1 for S2, S4 for S3 (R252). -/
def outerFor (g k : Nat) : Nat × Nat := if k % 2 = 0 then s1of g (k / 2) else s4of g (k / 2)

/-- The complement of an output (Table 08.1). -/
def complement (k : Nat) : Nat := if k % 2 = 0 then k + 1 else k - 1

/-- DT after a switch has turned off; none while it is on. -/
def State.clearOf (s : State) (g : Nat) (e : Nat × Nat) (t : Nat) : Option Nat :=
  let w := s.sw e.1 e.2
  if w.on then none else some (max t (w.offAt + s.dt16 g))

/-- The instant at which a change of an output may be made, and whether the interlock has put it off: a turn-on waits DT after its
complement has turned off (R247), an inner switch turns off DT after its outer one, an outer switch turns on DT after its inner one
(R252), and an ordered turn-on of an inner switch waits DT after both outer ones (R265). None while it must wait for another
switch. -/
def State.changeAt (s : State) (g k : Nat) (c : SwChange) : Option (Nat × Bool) :=
  if !c.on then
    if s.isInner g k then (s.clearOf g (outerFor g k) c.at16).map fun e => (e, decide (c.at16 < e)) else some (c.at16, false)
  else
    match s.clearOf g (g, complement k) c.at16 with
    | none => none
    | some e =>
      if !s.threeLevel g then some (e, false)
      else if s.isInner g k then
        if c.kind = .ordered then
          ((s.clearOf g (s1of g (k / 2)) e).bind (s.clearOf g (s4of g (k / 2)))).map fun f => (f, false)
        else some (e, false)
      else
        let w := s.sw (innerFor g k).1 (innerFor g k).2
        if w.on then some (max e (w.onAt + s.dt16 g), decide (e < w.onAt + s.dt16 g)) else none

/-- A turn-on at `t` is suppressed: its effective on-time is below MINP or not above 0 (R248). -/
def State.suppressed (s : State) (g k t : Nat) : Bool :=
  match s.sideEnd g k (s.carrier g t) with
  | some e => decide (e - s.carrier g t < max 1 (s.minp16 g))
  | none => false

/-- Make a change at the instant `t`: a suppressed pulse, a turn-off held by MINP and an edge the interlock has put off are counted;
the steps of an ordered change are not (R248, R249, R252, R265). -/
def State.makeChange (s : State) (g k : Nat) (c : SwChange) (t : Nat) (delayed : Bool) : State :=
  let s1 := s.cancel g k
  if c.on && c.kind == .pulse && s1.suppressed g k t then s1.countEaten g
  else (if c.kind == .held || (delayed && c.kind == .pulse) then s1.countHeld g else s1).drive g k c.on t

/-- Make the change of an output if it is one to level `on` and may be made by `t`. -/
def State.makeDue (s : State) (g t : Nat) (on : Bool) (k : Nat) : State :=
  match (s.sw g k).pend with
  | none => s
  | some c =>
    match s.changeAt g k c with
    | none => s
    | some (e, d) => if c.on = on ∧ e ≤ t then s.makeChange g k c e d else s

/-- Make the changes of the named outputs that may be made at once: turn-offs first (R247, R265). -/
def State.makeNow (s : State) (es : List (Nat × Nat)) (t : Nat) : State :=
  es.foldl (fun s e => s.makeDue e.1 t true e.2) (es.foldl (fun s e => s.makeDue e.1 t false e.2) s)

/-- The output of a pair that must go off: a turn-on still to come is cancelled, and a switch that is on turns off at `t`, or MINP
after it turned on (R247, R249). -/
def State.wantOff (s : State) (g k t : Nat) : State :=
  let w := s.sw g k
  if !w.on then s.cancel g k
  else if w.pend.any (fun c => !c.on) then s
  else if t < w.onAt + s.minp16 g then s.plan g k (w.onAt + s.minp16 g) false .held
  else s.plan g k t false .pulse

/-- The output of a pair that must go on: it stays on, or turns on DT after `t` (R247). -/
def State.wantOn (s : State) (g k t : Nat) : State :=
  if (s.sw g k).on then s.cancel g k else s.plan g k (t + s.dt16 g) true .pulse

/-- The commanded level of a complementary pair, outputs 2l and 2l + 1 of a group, becomes `lv` at `t` (R247). -/
def State.pairTo (s : State) (g l : Nat) (lv : Bool) (t : Nat) : State :=
  (s.wantOff g (if lv then 2 * l + 1 else 2 * l) t).wantOn g (if lv then 2 * l else 2 * l + 1) t

/-- Follow the levels the set in force commands for leg `l` at `t` (R242, R247, R250). In a three-level leg S1 and S3 follow
Lo and S2 and S4 follow Li, with Lo = 1 and Li = 0 taken as O; the interlock puts the edges in the order of Table 08.2 (R251). -/
def State.followLeg (s : State) (g l t : Nat) (force : Bool) : State :=
  if s.threeLevel g then
    let o := outerOf g
    let i := innerOf g
    let lo := s.legLevel o l (s.carrier o t)
    let li := s.legLevel i l (s.carrier i t)
    let oldO := (s.grp o).level.get l false
    let oldI := (s.grp i).level.get l false
    let s1 := s.setGrp o { s.grp o with level := (s.grp o).level.set l lo false, levelAt := (s.grp o).levelAt.set l t 0 }
    let s2 := s1.setGrp i { s1.grp i with level := (s1.grp i).level.set l li false,
                                          levelAt := (s1.grp i).levelAt.set l t 0 }
    let s3 := if lo && !li then (s2.setBit F.PWMG_STATUS_BADCMD true o).setBit F.PWMG_STATUS_BADCMD true i else s2
    let s4 := if force || (lo && li) != (oldO && oldI) then s3.pairTo o l (lo && li) t else s3
    let s5 := if force || (lo || li) != (oldO || oldI) then s4.pairTo i l (lo || li) t else s4
    s5.makeNow [(o, 2 * l), (o, 2 * l + 1), (i, 2 * l), (i, 2 * l + 1)] t
  else
    let lv := s.legLevel g l (s.carrier g t)
    let old := (s.grp g).level.get l false
    let s1 := s.setGrp g { s.grp g with level := (s.grp g).level.set l lv false, levelAt := (s.grp g).levelAt.set l t 0 }
    if force || lv != old then (s1.pairTo g l lv t).makeNow [(g, 2 * l), (g, 2 * l + 1)] t else s1

/-! ### Triggers (R259) -/

/-- The carrier positions of a trigger source (Table 08.4). -/
def State.trigPositions (s : State) (g src : Nat) : List Nat :=
  let per := s.gper g
  let zero := [0]
  let period := if s.bit F.PWMG_CFG_CARRIER g then [8 * per] else [16 * (per - 1)]
  let win := fun st en (isEnd : Bool) =>
    if extreme st then [] else if isEnd then [offPos per en % (16 * per)] else [st]
  match src with
  | 1 => zero
  | 2 => period
  | 3 => zero ++ period
  | 4 => win (s.fld F.PWMG_AUX_X0_START g) (s.fld F.PWMG_AUX_X0_END g) false
  | 5 => win (s.fld F.PWMG_AUX_X0_START g) (s.fld F.PWMG_AUX_X0_END g) true
  | 6 => win (s.fld F.PWMG_AUX_X1_START g) (s.fld F.PWMG_AUX_X1_END g) false
  | 7 => win (s.fld F.PWMG_AUX_X1_START g) (s.fld F.PWMG_AUX_X1_END g) true
  | n => if 8 ≤ n ∧ n ≤ 13 ∧ (s.grp g).activeSet ∧ !extreme (s.cmp g (n - 8)) then [s.cmp g (n - 8)] else []

/-- The source, the prescaler, and the count so far of trigger A (`false`) or B (R259). -/
def State.trigSrc (s : State) (g : Nat) (b : Bool) : Nat :=
  if b then s.fld F.PWMG_AUX_TB_SRC g else s.fld F.PWMG_AUX_TA_SRC g
def State.trigPre (s : State) (g : Nat) (b : Bool) : Nat :=
  if b then s.fld F.PWMG_AUX_TB_PRE g else s.fld F.PWMG_AUX_TA_PRE g
def GroupSt.count (G : GroupSt) (b : Bool) : Nat := if b then G.countB else G.countA

/-- The instant up to which a trigger has counted; the carrier runs no earlier than from the first boundary on. -/
def State.trigFrom (s : State) (g : Nat) (b : Bool) : Nat :=
  max s.per.carrierFrom (if b then (s.grp g).trigB else (s.grp g).trigA)

/-- Trigger A (`false`) or B has counted `n` occurrences up to the instant `t16`. -/
def GroupSt.counted (G : GroupSt) (b : Bool) (t16 n : Nat) : GroupSt :=
  if b then { G with trigB := t16, countB := n } else { G with trigA := t16, countA := n }

/-- How often the carrier stands at position `c` after the instant `a` and no later than `b` (R244). -/
def State.passes (s : State) (g a b c : Nat) : Nat :=
  let p := 16 * s.gper g
  let o : Int := (s.fld F.PWMG_CFG_PHASE g : Int) + c
  if b ≤ a then 0 else ((((b : Int) - o) / p) - (((a : Int) - o) / p)).toNat

/-- A trigger's prescaler counts the occurrences up to just before the instant `t16`, at which its source changes or its carrier stops;
those that fired it start it afresh (R259). -/
def State.countTrigger (s : State) (t16 g : Nat) (b : Bool) : State :=
  let a := s.trigFrom g b
  if s.trigSrc g b = 0 ∨ s.carrierRuns g = false ∨ t16 ≤ a then s
  else
    let n := (s.trigPositions g (s.trigSrc g b)).foldl (fun m c => m + s.passes g a (t16 - 1) c) 0
    s.setGrp g ((s.grp g).counted b (t16 - 1) (((s.grp g).count b + n) % (s.trigPre g b + 1)))

def State.countTriggers (s : State) (t16 g : Nat) : State := (s.countTrigger t16 g false).countTrigger t16 g true

/-- The (k + 1)th occurrence of a set of positions after `t` (R259). -/
def State.nthOccurrence (s : State) (g : Nat) (ps : List Nat) : Nat → Nat → Option Nat
  | t, 0 => leastWith (fun _ => true) (ps.map (s.nextAt g t))
  | t, k + 1 =>
    match leastWith (fun _ => true) (ps.map (s.nextAt g t)) with
    | none => none
    | some u => s.nthOccurrence g ps u k

/-- The instant, in sixteenths of a tick, at which trigger A (`false`) or B next fires: at its (PRE + 1)th occurrence. -/
def State.trigInstant (s : State) (g : Nat) (b : Bool) : Option Nat :=
  if !s.carrierRuns g then none
  else s.nthOccurrence g (s.trigPositions g (s.trigSrc g b)) (s.trigFrom g b) (s.trigPre g b - (s.grp g).count b)

/-! ### Ordered changes into LOW, SAFE and IDLE (R265) -/

/-- The level output `k` of a group has in a state (Table 08.5): SAFE and LOW all off, IDLE as configured. -/
def State.restLevel (s : State) (g st k : Nat) : Bool :=
  if st = gIdle then
    if s.threeLevel g then
      s.bit F.PWMG_CFG_IDLE3 g && ((s.gkind g == 2 && k % 2 == 0) || (s.gkind g == 1 && k % 2 == 1))
    else s.nth F.PWMG_CFG_IDLE k g
  else false

/-- One output goes to its rest level from `t` on; MINP holds nothing here (R249, R265). -/
def State.restTo (s : State) (g t : Nat) (on : Bool) (k : Nat) : State :=
  if (s.sw g k).on = on then s.cancel g k else s.plan g k t on .ordered

/-- The outputs of a group reach their rest levels for a state by the ordered change of R265; pending turn-ons are cancelled and
the sets are cleared. -/
def State.enterRest (s : State) (g st t : Nat) : State :=
  let s1 := (List.range 6).foldl (fun s k => s.restTo g t (s.restLevel g st k) k) (s.countTriggers t g)
  let s2 := s1.makeNow ((List.range 6).map fun k => (g, k)) t
  s2.setGrp g { s2.grp g with shadow := [], shadowNew := false, shadowLate := false, active := [], activeSet := false,
                              level := [], levelAt := [] }

/-! ### Group states (R264, R266) -/

/-- Groups of a drive axis, in order from PWM0 (AXIS.CFG, R143). -/
def State.axisGroups (s : State) (a : Nat) : List Nat :=
  if s.fld F.AXIS_CFG_TYPE a = 1 then
    let n := s.fld F.AXIS_CFG_NBR a + 1
    (List.range (if s.fld F.AXIS_CFG_BRIDGE a = 0 then n else 2 * n)).map (s.fld F.AXIS_CFG_PWM0 a + ·)
  else []

/-- The axis that owns a group, if one does. -/
def State.axisOf (s : State) (g : Nat) : Option Nat := (List.range 32).find? fun a => (s.axisGroups a).contains g

/-- The group belongs to an axis that runs in COMMISSION (Table 08.5). -/
def State.inCommission (s : State) (g : Nat) : Bool :=
  match s.axisOf g with
  | none => false
  | some a => s.nth F.SYS_COMMISSION_AXES a

/-- A fault reaction of severity TRIP or above holds the group (R364, R367). -/
def State.faultHolds (s : State) (g : Nat) : Bool :=
  (s.flt.latched ++ s.flt.releasing).any fun r => r.groups.testBit g

/-- A halt of the group, or of one it acts as one with: its lane pair is halted, or the time base stops or stands (R253, R267). -/
def State.underHalt (s : State) (g : Nat) : Bool :=
  (s.gangOf g).any (fun h => (s.grp h).halted) || (s.per.running && (!s.time.running || (s.time.stopping && s.ganged g)))

/-- A group by itself is in SAFE: tripped, or held by a fault reaction (Table 08.5). -/
def State.heldSafe (s : State) (g : Nat) : Bool := s.bit F.PWMG_STATUS_TRIPPED g || s.faultHolds g

/-- A group by itself is in IDLE: EN = 0, outside COMMISSION's axes, or fenced (Table 08.5). -/
def State.heldIdle (s : State) (g : Nat) : Bool :=
  !s.bit F.PWMG_CTRL_EN g || (s.mode == .commission && !s.inCommission g) || s.nth F.SYS_FENCE_PWM g

/-- The first state of Table 08.5 whose condition holds; DRIVING when none does (R264). The groups of a gang are disabled and held in
SAFE as one (R253). -/
def State.wantState (s : State) (g : Nat) : Nat :=
  if s.mode == .configure || s.mode == .replay then gLow
  else if (s.gangOf g).any s.heldSafe || (s.underHalt g && s.ganged g) then gSafe
  else if s.underHalt g then gHalt
  else if s.mode == .hold || s.mode == .service || (s.gangOf g).any s.heldIdle then gIdle
  else gDriving

/-- Enter a state: the ordered change of R265, or for HALT the freezing of every land (R267). -/
def State.enterState (s : State) (g st : Nat) (waiting : Bool) : State :=
  let t := s.now16
  let s1 := (s.setFld F.PWMG_STATUS_STATE st g).setBit F.PWMG_STATUS_WAITING waiting g
  if st = gHalt then [0, 1, 2, 3, 4, 5].foldl (fun s k => s.cancel g k) s1
  else s1.enterRest g st t

/-- A group and those that act as one with it, inner groups of pairs first: their turn-offs wait for the outer switches (R253, R265). -/
def State.gangOrder (s : State) (g : Nat) : List Nat :=
  let gs := s.gangOf g
  (gs.filter fun h => h % 2 == 1) ++ gs.filter fun h => h % 2 == 0

/-- Bring one group into the state its conditions select; a group whose conditions for DRIVING hold waits to start in IDLE
until a transfer (R264, R266). -/
def State.refreshGroup (s : State) (g : Nat) : State :=
  let w := s.wantState g
  if w = gDriving then
    if s.gstate g = gDriving ∨ (s.gstate g = gIdle ∧ s.gwaiting g) then s else s.enterState g gIdle true
  else if s.gstate g = w then s.setBit F.PWMG_STATUS_WAITING false g
  else s.enterState g w false

/-- Bring a group, and those that act as one with it, into the state their conditions select (R253). -/
def State.refreshGang (s : State) (g : Nat) : State := (s.gangOrder g).foldl State.refreshGroup s

/-- Bring every group into the state its conditions select. Inner groups of pairs come first: their turn-offs wait for the outer
switches (R265). -/
def State.refreshGroups (s : State) : State :=
  let s1 := s.forRange 16 fun s n => s.refreshGroup (2 * n + 1)
  s1.forRange 16 fun s n => s.refreshGroup (2 * n)

/-! ### Sets (R254 to R257) -/

/-- Move the shadow set of a group into force (R255). Triggers on its compares have counted up to this tick (R259). -/
def State.transferRegs (s0 : State) (g : Nat) : State :=
  let s := s0.countTriggers s0.now16 g
  let G := s.grp g
  let s1 := s.setGrp g { G with active := G.shadow, activeSet := true, shadowNew := false, shadowLate := false }
  (s1.setFld F.PWMG_STATUS_APPLIED_SEQ G.shadowSeq g).setBit F.PWMG_STATUS_LATE G.shadowLate g

/-- A waiting group drives from its transfer on (R266). -/
def State.startGroup (s : State) (g : Nat) : State :=
  if s.gstate g = gIdle ∧ s.gwaiting g then (s.setFld F.PWMG_STATUS_STATE gDriving g).setBit F.PWMG_STATUS_WAITING false g else s

/-- The legs of a driving group follow the set in force from tick `t16` on; those of a pair follow once, with its first group. -/
def State.followSet (s : State) (g t16 : Nat) (moved : List Nat) (force : Bool) : State :=
  if s.gstate g ≠ gDriving ∨ (s.gkind g = 2 ∧ moved.contains (outerOf g) = true) then s
  else [0, 1, 2].foldl (fun s l => s.followLeg g l t16 force) s

/-- Transfer the sets of groups, between one tick and the next (R255): every group moves its registers, waiting groups start together
(R266), and then the legs follow. -/
def State.transfer (s : State) (gs : List Nat) : State :=
  let moved := gs.filter fun g => (s.grp g).shadowNew
  let s1 := moved.foldl State.startGroup (moved.foldl State.transferRegs s)
  moved.foldl (fun t g => t.followSet g (16 * s.now) moved (s.gstate g == gIdle)) s1

/-- A group takes released sets: it drives or waits to start (R254). -/
def State.takesSets (s : State) (g : Nat) : Bool := s.gstate g == gDriving || s.gwaiting g

/-- The posted words over the shadow words (R254). -/
def mergeSet (shadow : SMap Word24) (posted : SMap (Option Word24)) : SMap Word24 :=
  posted.foldl (fun m e => match e.2 with | none => m | some w => m.set e.1 w 0) shadow

/-- The words of a later set over those of one that still waits for its gang. -/
def overlay (staged posted : SMap (Option Word24)) : SMap (Option Word24) := posted.foldl (fun m e => m.set e.1 e.2 none) staged

/-- Release one group's complete set into its shadow registers; compares not posted keep their values. A mid-period set released after the
transfer instant is late and counted, and one released after the deadline is discarded (R254, R256). -/
def State.releaseOne (s : State) (g : Nat) : State :=
  let G := { s.grp g with staged := [], ready := false }
  let mid := s.fld F.PWMG_CFG_UPDPT g == 1
  if !s.takesSets g || (mid && s.per.deadlineDone) then s.setGrp g G
  else
    let s1 := s.setGrp g { G with shadow := mergeSet G.shadow (s.grp g).staged, shadowNew := true, shadowSeq := s.per.seq,
                                  shadowLate := mid && s.per.midDone }
    if mid && s.per.midDone then s1.satInc F.PWMG_STATUS_LATE_CNT F.PWMG_STATUS_LATE_SAT g else s1

/-- Release the sets of groups that act as one; an immediate group transfers at its release (R24, R254). -/
def State.releaseGang (s : State) (gs : List Nat) : State :=
  let s1 := gs.foldl State.releaseOne s
  s1.transfer (gs.filter fun g => s1.fld F.PWMG_CFG_UPDPT g == 2)

/-- A group's open set is complete (R254). -/
def State.completeSet (s : State) (g : Nat) : State :=
  let G := s.grp g
  s.setGrp g { G with staged := overlay G.staged G.collect, ready := true, collect := [] }

/-- A lane pair has reached the end marker of the running period. -/
def State.markReached (s : State) (l : Nat) : Bool := (s.red.pairs.get (12 * s.activeUnit + l) {}).done == s.per.count

/-- A group posts nothing more in the running period: the lane pair that posts for it, or, where none has in this period, every lane pair
that has posted for its gang, has reached its end marker (R254). -/
def State.groupEnded (s : State) (g : Nat) : Bool :=
  if (s.grp g).postedAt = s.per.count then s.markReached (s.grp g).poster
  else (s.gangOf g).all fun h => (s.grp h).postedAt != s.per.count || s.markReached (s.grp h).poster

/-- A gang with a complete set releases it once every one of its groups has completed a set since the last release or has ended (R254). -/
def State.tryRelease (s : State) (g : Nat) : State :=
  let gs := s.gangOf g
  if (s.grp g).ready && gs.all fun h => (s.grp h).ready || s.groupEnded h then s.releaseGang gs else s

/-- The hub collects a compare word for a group (R254); a word for a fenced group is discarded and counted (R61). -/
def State.postCompare (s : State) (g c : Nat) (w : Word24) (poster : Nat) : State :=
  if s.nth F.SYS_FENCE_PWM g then s.satInc F.PWMG_STATUS_DISCARDED F.PWMG_STATUS_DISC_SAT g
  else
    let s1 := s.setGrp g { s.grp g with collect := (s.grp g).collect.set c (some w) none, poster := poster
                                        postedAt := s.per.count }
    if c = 5 then (s1.completeSet g).tryRelease g else s1

/-- A lane pair's end marker: its sets still open are complete, and gangs that waited for it release (R254). -/
def State.endMarkSets (s : State) (poster : Nat) : State :=
  let mine := (List.range 32).filter fun g => !(s.grp g).collect.isEmpty && (s.grp g).poster == poster
  let s1 := mine.foldl State.completeSet s
  ((List.range 32).filter fun g => (s1.grp g).ready).foldl State.tryRelease s1

/-- A group gives up its sets of the period that are not released, and a next-boundary group those not yet transferred: its shadow
registers hold what is in force (R27, R256). -/
def State.dropGroup (s : State) (g : Nat) : State :=
  let G := { s.grp g with collect := [], staged := [], ready := false }
  s.setGrp g (if s.fld F.PWMG_CFG_UPDPT g != 1 && G.shadowNew && G.shadowSeq == s.per.seq then
    { G with shadow := G.active, shadowNew := false } else G)

/-- A late lane pair: the sets of the period that it posts for are discarded, with those of their gangs (R27, R253, R256). -/
def State.dropSets (s : State) (poster : Nat) : State :=
  (((List.range 32).filter fun g => (s.grp g).postedAt == s.per.count && (s.grp g).poster == poster).flatMap s.gangOf).foldl
    State.dropGroup s

/-- Sets still open or waiting at the boundary are discarded: their release would come after it (R256). -/
def State.closeSets (s : State) : State :=
  ((List.range 32).filter fun g => !(s.grp g).collect.isEmpty || (s.grp g).ready).foldl
    (fun s g => s.setGrp g { s.grp g with collect := [], staged := [], ready := false }) s

/-- The next-boundary groups transfer at t0 + Tc (R24). -/
def State.transferBoundary (s : State) : State :=
  (s.transfer ((List.range 32).filter fun g => s.fld F.PWMG_CFG_UPDPT g == 0)).closeSets

/-- The mid-period groups transfer at t0 + MID (R24, R256). -/
def State.transferMid (s : State) : State :=
  s.transfer ((List.range 32).filter fun g => s.fld F.PWMG_CFG_UPDPT g == 1)

/-! ### Trips (R260 to R263) -/

/-- The blanking window of a group is open (R258, R262). -/
def State.blanked (s : State) (g : Nat) : Bool :=
  let b := s.fld F.PWMG_CFG_BLANK_GRP g
  s.bit F.PWMG_CFG_BLANK_EN g && s.carrierRuns b &&
    (let st := if s.bit F.PWMG_CFG_BLANK_SEL g then (s.fld F.PWMG_AUX_X1_START b, s.fld F.PWMG_AUX_X1_END b)
               else (s.fld F.PWMG_AUX_X0_START b, s.fld F.PWMG_AUX_X0_END b)
     levelAtPos (s.gper b) st.1 st.2 (s.carrier b s.now16))

/-- Latch a trip in one group (R261); a group already tripped keeps its first cause. -/
def State.latchTrip (s : State) (g src time : Nat) : State :=
  if s.bit F.PWMG_STATUS_TRIPPED g then s
  else ((s.setBit F.PWMG_STATUS_TRIPPED true g).setFld F.PWMG_STATUS_TRIP_SRC src g).setFld F.PWMG_STATUS_TRIP_TIME time g

/-- Groups trip: each latches, its gang trips with TRIP_SRC 0x80, and all enter SAFE (R253, R261). -/
def State.tripGroups (s : State) (gs : List Nat) (src time : Nat) : State :=
  let s1 := gs.foldl (fun s g => s.latchTrip g src time) s
  let all := gs.flatMap s.gangOf
  let s2 := all.foldl (fun s g => s.latchTrip g 0x80 time) s1
  if gs.isEmpty then s2 else s2.refreshGroups

/-- The groups an active trip input trips now: those that name it outside their blanking windows (R261, R262). -/
def State.tripTargets (s : State) (n : Nat) : List Nat :=
  (List.range 32).filter fun g => s.nth F.PWMG_CFG_TRIP_MASK n g && !s.blanked g

/-- Input `n` acts on the groups it trips: stamped with `time`, and raised when it trips one (R261). -/
def State.tripInput (s : State) (n time : Nat) (gs : List Nat) : State :=
  let s1 := s.tripGroups gs n time
  if gs.isEmpty then s1 else s1.raiseAt time K.TRIP_INPUT n

/-- Naming an active input trips at the tick of the naming (R261): every live input acts on the groups that name it and are
not tripped yet. -/
def State.tripNamed (s : State) : State :=
  s.forRange 32 fun s n =>
    if s.nth F.PWM_TRIPIN_LIVE n then
      let gs := (s.tripTargets n).filter fun g => !s.bit F.PWMG_STATUS_TRIPPED g
      s.tripInput n s.now gs
    else s

/-- Input `n` is named by the TRIP_MASK of some group: its wire stays asserted while it is active (R361). -/
def State.tripNamedBy (s : State) (n : Nat) : Bool := (List.range 32).any fun g => s.nth F.PWMG_CFG_TRIP_MASK n g

/-! ### Resets (Table 02.7) -/

/-- A group that is reset passes through IDLE before its fence rises, with its gang (R253, R266). -/
def State.idleGang (s : State) (g : Nat) : State :=
  (s.gangOrder g).foldl (fun s h => if s.gstate h = gDriving ∨ s.gwaiting h then s.enterState h gIdle false else s) s

/-- A reset of a group: its compares, sets and LATE flag are cleared; TRIPPED and PULSE_EATEN are kept (R57). -/
def State.resetGroup (s : State) (g : Nat) : State :=
  let s1 := (s.countTriggers s.now16 g).refreshGang g
  let s2 := s1.setGrp g { s1.grp g with collect := [], staged := [], ready := false, shadow := [], shadowNew := false
                                        shadowLate := false, active := [], activeSet := false }
  s2.setBit F.PWMG_STATUS_LATE false g

end Sys2Proof.Machine
end

