-- ==== Sys2Proof/Machine/Rings.lean ====
section
/-!
DEFINITION. The hub's side of the rings (R69 to R88, R94): writes to host memory, MSI-X messages, completions in ring order,
event records and their moderation.
-/

namespace Sys2Proof.Machine

/-! ### Positions (R72) -/

/-- A ring position: index and phase. -/
abbrev Pos := Nat × Bool

/-- The position after `p` on a ring of `size` entries: the phase toggles at each wrap (R72). -/
def posNext (size : Nat) (p : Pos) : Pos := if p.1 + 1 < size then (p.1 + 1, p.2) else (0, !p.2)

/-- Entries from `a` up to `b` on a ring of `size` entries (R72). -/
def posDist (size : Nat) (a b : Pos) : Nat := if a.2 = b.2 then b.1 - a.1 else size - a.1 + b.1

/-- Whether `b` lies from `a` up to a whole ring beyond it. -/
def posWithin (size : Nat) (a b : Pos) : Bool :=
  if a.2 = b.2 then decide (a.1 ≤ b.1 ∧ b.1 < size) else decide (b.1 ≤ a.1)

/-- Index and phase as a doorbell, a HEAD or a TAIL carries them: [11:0] and [12]. -/
def posWord (p : Pos) : Nat := p.1 % 2 ^ 12 + p.2.toNat * 2 ^ 12

/-- Size of a command or bulk ring. -/
def State.ringSize (s : State) (r : Nat) : Nat := 2 ^ s.fld F.HIF_RING_CTRL_SIZE_LOG2 r

/-- Size of a completion ring, or of the event ring (16). -/
def State.cqSize (s : State) (m : Nat) : Nat := 2 ^ s.fld F.HIF_CQ_CTRL_SIZE_LOG2 m

/-- The next position the hub fetches from a ring. -/
def State.head (s : State) (r : Nat) : Pos :=
  (s.fld F.HIF_RING_STATE_HEAD r, s.bit F.HIF_RING_STATE_HEAD_PHASE r)

def State.setHead (s : State) (r : Nat) (p : Pos) : State :=
  (s.setFld F.HIF_RING_STATE_HEAD p.1 r).setBit F.HIF_RING_STATE_HEAD_PHASE p.2 r

/-- The next position the hub writes on a completion ring. -/
def State.tail (s : State) (m : Nat) : Pos := (s.fld F.HIF_CQ_TAIL_INDEX m, s.bit F.HIF_CQ_TAIL_PHASE m)

def State.setTail (s : State) (m : Nat) (p : Pos) : State :=
  (s.setFld F.HIF_CQ_TAIL_INDEX p.1 m).setBit F.HIF_CQ_TAIL_PHASE p.2 m

def State.ring (s : State) (r : Nat) : RingSt := s.host.rings.get r {}

def State.setRing (s : State) (r : Nat) (v : RingSt) : State :=
  { s with host := { s.host with rings := s.host.rings.set r v {} } }

def State.cq (s : State) (m : Nat) : CqSt := s.host.cqs.get m {}

def State.setCq (s : State) (m : Nat) (v : CqSt) : State :=
  { s with host := { s.host with cqs := s.host.cqs.set m v {} } }

/-- The completion ring a command or bulk ring is bound to. -/
def State.ringCq (s : State) (r : Nat) : Nat := s.fld F.HIF_RING_CTRL_CQ r

/-- Entries of a completion ring the host has not consumed. -/
def State.cqUsed (s : State) (m : Nat) : Nat :=
  posDist (s.cqSize m) ((s.cq m).cons, (s.cq m).consPhase) (s.tail m)

/-- Entries fetched descriptors already hold on a completion ring: each will complete there (R75). -/
def State.cqHeld (s : State) (m : Nat) : Nat :=
  (s.host.cmds.filter fun c => s.ringCq c.ring == m).length

/-! ### Host memory and MSI-X (R69, R88) -/

/-- One memory write of the hub; it waits while Bus Master Enable is 0 (R69). -/
def State.hostWrite (s : State) (addr len data : Nat) : State :=
  if s.host.busMaster then { s with host := { s.host with writes := s.host.writes ++ [⟨addr, len, data⟩] } }
  else { s with host := { s.host with heldWrites := s.host.heldWrites ++ [⟨addr, len, data⟩] } }

/-- A vector can signal now (R88). -/
def State.canSignal (s : State) (v : Nat) : Bool :=
  s.host.busMaster && s.host.msixEnable && !s.host.msixFuncMask && !(s.host.msix.get v {}).masked

/-- Send the message of a vector (R88). -/
def State.sendMessage (s : State) (v : Nat) : State :=
  let t := s.hostWrite (s.host.msix.get v {}).addr 4 (s.host.msix.get v {}).data
  { t with host := { t.host with messages := s.host.messages ++ [v] } }

/-- Every entry of a ring is signalled (R88). -/
def State.signalled (s : State) (m : Nat) : State := s.setCq m { s.cq m with unsignalled := 0, due := none }

/-- A ring's message falls due: it is sent and signals every entry of the ring, or the vector's pending bit holds it and the entries
stay unsignalled (R88). -/
def State.signalCq (s : State) (m : Nat) : State :=
  let v := s.fld F.HIF_CQ_CTRL_VECTOR m
  if s.canSignal v then (s.signalled m).sendMessage v
  else { s.setCq m { s.cq m with due := some v } with host := { (s.setCq m { s.cq m with due := some v }).host with pba := s.host.pba ||| 2 ^ v } }

/-- A held message goes: it signals every ring whose message its vector holds (R88). -/
def State.sendHeld (s : State) (v : Nat) : State :=
  let s1 := s.forRange 17 fun s m => if (s.cq m).due = some v then s.signalled m else s
  { s1 with host := { s1.host with pba := putBits s1.host.pba v 1 0 } }.sendMessage v

/-- Write one entry of 32 bytes on a completion ring or the event ring, with its PHASE at bit `ph`, and signal it when
`now` asks for it or MOD.COUNT is reached (R74, R88). -/
def State.putEntry (s : State) (m ph data : Nat) (now : Bool) : State :=
  let t := s.tail m
  let s1 := s.hostWrite (s.fld F.HIF_CQ_BASE_ADDR m + 32 * t.1) 32 (data + t.2.toNat * 2 ^ ph)
  let s2 := s1.setTail m (posNext (s.cqSize m) t)
  let q := s.cq m
  let s3 := s2.setCq m { q with unsignalled := q.unsignalled + 1,
                                oldest := if q.unsignalled = 0 then s.now else q.oldest }
  if now || decide (max 1 (s.fld F.HIF_CQ_MOD_COUNT m) ≤ q.unsignalled + 1) then s3.signalCq m else s3

/-! ### Completions (R84, OP4) -/

/-- The 32 bytes of a completion, but for PHASE (R84). -/
def completionWord (c : Cmd) (r : Result) : Nat :=
  r.status + (if c.ring < 16 then c.ring else c.ring - 16) * 2 ^ 8 + (if c.ring < 16 then 0 else 1) * 2 ^ 12
    + c.index % 2 ^ 12 * 2 ^ 16 + c.phase.toNat * 2 ^ 28 + c.desc.tag % 2 ^ 32 * 2 ^ 32
    + c.appliedAt % 2 ^ 64 * 2 ^ 64 + c.appliedSeq % 2 ^ 32 * 2 ^ 128 + r.detail % 2 ^ 32 * 2 ^ 160
    + r.result % 2 ^ 64 * 2 ^ 192

/-- Write a completion; a descriptor error's completion halts its ring (R85, R94), also one still owed from before the ring was
disabled and enabled again (log 78). -/
def State.putCompletion (s : State) (c : Cmd) (r : Result) : State :=
  let s := s.putEntry (s.ringCq c.ring) 15 (completionWord c r) (c.desc.irqNow || decide (0x80 ≤ r.status))
  if 0x80 ≤ r.status then
    ((s.setBit F.HIF_RING_STATE_HALTED true c.ring).setFld F.HIF_RING_STATE_HALT_INDEX c.index c.ring).setBit
      F.HIF_RING_STATE_HALT_PHASE c.phase c.ring
  else s

/-- A completion ring takes an entry: it is enabled, and has one the host has consumed (R75, R96). -/
def State.cqTakes (s : State) (m : Nat) : Bool := s.bit F.HIF_CQ_CTRL_ENABLE m && decide (s.cqUsed m < s.cqSize m)

/-- The completion of a command may be written: its action has ended, the cairn holding its effects is sealed (OP3), and its
completion ring takes an entry (R75); an ABORT's follows its target's (R97). -/
def State.mayComplete (s : State) (c : Cmd) : Bool :=
  c.outcome.isSome && (!s.per.running || decide (c.sealNeed ≤ s.per.sealed)) && s.cqTakes (s.ringCq c.ring)
    && c.waits.all fun t => !s.host.cmds.any fun x => x.ring == t.1 && x.index == t.2.1 && x.phase == t.2.2

/-- Drop the first command of a ring from the list of commands held. -/
def dropFirst (r : Nat) : List Cmd → List Cmd
  | [] => []
  | c :: cs => if c.ring = r then cs else c :: dropFirst r cs

/-- The commands that stand first on their rings and whose completions may be written, rings in ascending index (OP4). -/
def State.completable (s : State) : List Cmd :=
  ((List.range 18).filterMap fun r => s.host.cmds.find? fun c => c.ring == r).filter s.mayComplete

/-- Of two commands the one whose cairn was sealed first, the earlier ring on a tie (R93). -/
def sealedFirst (c : Option Cmd) (d : Cmd) : Option Cmd :=
  match c with
  | none => some d
  | some c => if d.sealNeed < c.sealNeed then some d else some c

/-- Write the completions that may be written: each ring's in its order, those of different rings in the order in which their cairns
were sealed (OP3, OP4, R93). -/
def State.flushN (s : State) : Nat → State
  | 0 => s
  | k + 1 =>
    match s.completable.foldl sealedFirst none with
    | none => s
    | some c =>
      match c.outcome with
      | none => s
      | some o => (({ s with host := { s.host with cmds := dropFirst c.ring s.host.cmds } }).putCompletion c o).flushN k

/-- Write every completion that may be written. -/
def State.flushAll (s : State) : State :=
  if s.host.cmds.any (fun c => c.outcome.isSome) then s.flushN s.host.cmds.length else s

/-! ### The end of a command -/

/-- The reference of a descriptor. -/
abbrev CmdRef := Nat × Nat × Bool

/-- Whether a held command is the descriptor of a reference. -/
def Cmd.is (c : Cmd) (ref : CmdRef) : Bool := c.ring == ref.1 && c.index == ref.2.1 && c.phase == ref.2.2

/-- DETAIL of ABORTED and SUPERSEDED: ring, index and phase of a descriptor (R85). -/
def refDetail (ref : CmdRef) : Nat := ref.1 + ref.2.1 % 2 ^ 12 * 2 ^ 16 + ref.2.2.toNat * 2 ^ 28

/-! Completion statuses of Table 03.4. -/

/-- COMPLETED, with DETAIL and RESULT. -/
def done (detail : Nat := Config.unstatedDetail) (result : Nat := Config.unstatedResult) : Result := { status := 0x00, detail := detail, result := result }
/-- BLOCK_RESET with the SYS.RESET KIND of the fenced block. -/
def blockReset (kind : Nat) : Result := { status := 0x04, detail := kind }
/-- MODE_REFUSED with its reason. -/
def modeRefused (reason : Nat) : Result := { status := 0x05, detail := reason }
/-- WRONG_MODE with the present mode. -/
def State.wrongMode (s : State) : Result := { status := 0x06, detail := s.fld F.SYS_MODE_MODE }
/-- REFUSED with the cause its chapter gives. -/
def refused (detail : Nat) (result : Nat := Config.unstatedResult) : Result := { status := 0x07, detail := detail, result := result }
/-- STOPPED with the cause its chapter gives. -/
def stopped (detail : Nat) (result : Nat := Config.unstatedResult) : Result := { status := 0x0A, detail := detail, result := result }
/-- SUPERSEDED by a descriptor. -/
def superseded (ref : CmdRef) : Result := { status := 0x0B, detail := refDetail ref }

/-- What an ABORT waiting for a target completes with once the target has its outcome (R97, Table 06). -/
def abortResult (o : Result) : Result :=
  if o.status = 0x01 then { status := 0x02, detail := 0x01 } else { status := 0x03, detail := 0 }

/-- Record the outcome of a command, and of the ABORTs that wait for it. -/
def endCmd (ref : CmdRef) (o : Result) (need : Nat) (c : Cmd) : Cmd :=
  if c.is ref && c.outcome.isNone then { c with outcome := some o, sealNeed := need, stage := .applied }
  else if c.waits == some ref && c.outcome.isNone then
    { c with outcome := some (abortResult o), sealNeed := max need c.sealNeed }
  else c

/-- The seal a completion waits for when its action ends at the running boundary's application (R23). -/
def State.sealHere (s : State) : Nat := if s.per.running then s.per.count else 0

/-- The seal it waits for when its action ends after the boundary: the event belongs to the next record (R21). -/
def State.sealNext (s : State) : Nat := if s.per.running then s.per.count + 1 else 0

/-- A command ends with an outcome. Where no period runs its completion follows at once (R91). -/
def State.finishCmd (s : State) (ref : CmdRef) (o : Result) (need : Nat) : State :=
  let s := { s with host := { s.host with cmds := s.host.cmds.map (endCmd ref o need) } }
  if s.per.running then s else s.flushAll

/-! ### Event records (R86, R87) -/

/-- The record an event belongs to: that of the first boundary at or after its stamp (R21); its survey sequence number, boundary tick and
epoch. Earlier boundaries are those the head ring still holds. -/
def State.recordAt (s : State) (stamp : Nat) : Nat × Nat × Nat :=
  let p := s.per
  let e := s.surv.epoch
  if !p.running then (p.seq, p.t0, e)
  else if p.t0 < stamp then ((p.seq + 1) % 2 ^ 32, p.next, if p.seq + 1 = 2 ^ 32 then e + 1 else e)
  else
    match (s.red.head.filter fun h => decide (stamp ≤ h.t0)).getLast? with
    | none => (p.seq, p.t0, e)
    | some h => ((p.seq + 2 ^ 32 - (p.count - h.count)) % 2 ^ 32, h.t0, if p.seq < p.count - h.count then e - 1 else e)

/-- The sequence number of the record an event belongs to (R21). -/
def State.recordSeq (s : State) (stamp : Nat) : Nat := (s.recordAt stamp).1

/-- The 32 bytes of an event record, but for PHASE (R86). -/
def eventWord (e : EventRec) : Nat :=
  e.source % 2 ^ 16 + e.kind % 2 ^ 8 * 2 ^ 16 + e.severity % 2 ^ 3 * 2 ^ 24 + e.simul.toNat * 2 ^ 27
    + e.stamp % 2 ^ 64 * 2 ^ 32 + e.seq % 2 ^ 32 * 2 ^ 96 + e.data % 2 ^ 128 * 2 ^ 128

/-- Free entries of the event ring. -/
def State.eqFree (s : State) : Nat := s.cqSize 16 - s.cqUsed 16

/-- HIF.STATUS.EQ_FULL follows the event ring. -/
def State.noteEqFull (s : State) : State :=
  s.setBit F.HIF_STATUS_EQ_FULL (s.bit F.HIF_CQ_CTRL_ENABLE 16 && decide (s.eqFree ≤ 1))

/-- Write one event record, or count it in HIF.EQ.LOST when only the LOST record's entry is free (R87). -/
def State.putEvent (s : State) (e : EventRec) : State :=
  if !s.bit F.HIF_CQ_CTRL_ENABLE 16 then s
  else if s.eqFree ≤ 1 then s.satInc F.HIF_EQ_LOST_COUNT F.HIF_EQ_LOST_SAT
  else s.putEntry 16 31 (eventWord e) (decide (2 ≤ e.severity))

/-- Whether record `a` goes before record `b`: by TIMESTAMP, then by SOURCE (OP5). -/
def eventBefore (a b : EventRec) : Bool := decide (a.stamp < b.stamp) || (a.stamp == b.stamp && decide (a.source < b.source))

/-- Put a record in its place among sorted ones. -/
def insertEvent (e : EventRec) : List EventRec → List EventRec
  | [] => [e]
  | x :: xs => if eventBefore e x then e :: x :: xs else x :: insertEvent e xs

/-- Write records in the order of OP5. -/
def State.putEvents (s : State) (es : List EventRec) : State :=
  ((es.foldr insertEvent []).foldl State.putEvent s).noteEqFull

end Sys2Proof.Machine
end

