-- ==== Sys2Proof/Machine/Fences.lean ====
section
/-!
DEFINITION. Fences (R58 to R62), the units and their lane pairs (R340), and whether redundancy is available (R335).
-/

namespace Sys2Proof.Machine

/-- Whether a block's fence is raised (SYS.FENCE, R62). -/
def State.fenced (s : State) (b : FenceId) : Bool :=
  match b with
  | .fb n => s.nth F.SYS_FENCE_FB n
  | .pwm g => s.nth F.SYS_FENCE_PWM g
  | .can c => s.nth F.SYS_FENCE_CAN c
  | .eth p => s.nth F.SYS_FENCE_ETH p
  | .lane u l => s.nth (if u = 0 then F.SYS_FENCE_LANE_A else F.SYS_FENCE_LANE_B) l
  | .unit u => s.bit (if u = 0 then F.SYS_FENCE_UNIT_A else F.SYS_FENCE_UNIT_B)
  | .host => s.bit F.SYS_FENCE_HOST

/-- Raise or lower a block's fence (R58, R62); a group's STATUS shows its own. -/
def State.setFence (s : State) (b : FenceId) (v : Bool) : State :=
  match b with
  | .fb n => s.setNth F.SYS_FENCE_FB n v
  | .pwm g => (s.setNth F.SYS_FENCE_PWM g v).setBit F.PWMG_STATUS_FENCED v g
  | .can c => s.setNth F.SYS_FENCE_CAN c v
  | .eth p => s.setNth F.SYS_FENCE_ETH p v
  | .lane u l => s.setNth (if u = 0 then F.SYS_FENCE_LANE_A else F.SYS_FENCE_LANE_B) l v
  | .unit u => s.setBit (if u = 0 then F.SYS_FENCE_UNIT_A else F.SYS_FENCE_UNIT_B) v
  | .host => s.setBit F.SYS_FENCE_HOST v

/-- The other unit. -/
def State.standbyUnit (s : State) : Nat := 1 - s.activeUnit

/-- A unit holds programs. -/
def State.unitLoaded (s : State) (u : Nat) : Bool := if u = 0 then s.red.loadedA else s.red.loadedB

/-- Lane pairs of a unit retired in MRAM (R355). -/
def State.retired (s : State) (u : Nat) : Nat := if u = 0 then s.red.retiredA else s.red.retiredB

def State.pair (s : State) (u l : Nat) : PairSt := s.red.pairs.get (12 * u + l) {}

def State.setPair (s : State) (u l : Nat) (v : PairSt) : State :=
  { s with red := { s.red with pairs := s.red.pairs.set (12 * u + l) v {} } }

/-- The lane pair that carries a position in a unit (R340); 12 for none. -/
def State.laneOf (s : State) (u pos : Nat) : Nat := s.red.map.get (16 * u + pos) 12

/-- The position a lane pair carries in a unit (R340). -/
def State.posOf (s : State) (u l : Nat) : Option Nat := (List.range 10).find? fun p => s.laneOf u p == l

/-- A copy of a lane: unit, lane pair, 0 windward or 1 leeward. -/
def laneKey (u l c : Nat) : Nat := 24 * u + 2 * l + c

def State.lane (s : State) (u l c : Nat) : Lane := s.lanes.get (laneKey u l c) {}

def State.setLane (s : State) (u l c : Nat) (v : Lane) : State :=
  { s with lanes := s.lanes.set (laneKey u l c) v {} }

/-- The conditions of R335 on the standby unit, the formats and the mirror. -/
def State.standbyReady (s : State) : Bool := s.unitLoaded s.standbyUnit && !s.fenced (.unit s.standbyUnit)

def State.formatsAgree (s : State) : Bool := s.fld F.ENG_IDENT_CFMT_A == s.fld F.ENG_IDENT_CFMT_B

/-- Redundancy but for a swap or a migration in progress, which a takeover overrides (R351, R354). -/
def State.canTakeOver (s : State) : Bool :=
  s.red.armed && s.standbyReady && s.formatsAgree && s.red.mirrorOk && s.red.takeover.isNone

/-- Redundancy is available (R335). -/
def State.redundant (s : State) : Bool := s.canTakeOver && s.red.swap.isNone && s.red.migrate.isNone

/-- Periods run in COMMISSION, RUN and HOLD, where a takeover may begin (R333). -/
def State.loopMode (s : State) : Bool := s.mode == .commission || s.mode == .run || s.mode == .hold

/-- The unmet conditions of REDUNDANCY_LOST's data (R335). -/
def State.lostMask (s : State) : Nat :=
  (!s.standbyReady).toNat + (!s.formatsAgree).toNat * 2 + (!s.red.mirrorOk).toNat * 4

/-- SYS.MODE.REDUNDANT follows R335, and REDUNDANCY_LOST its condition. -/
def State.noteRedundancy (s : State) : State :=
  let s1 := s.setBit F.SYS_MODE_REDUNDANT s.redundant
  let lost := s.red.armed && s.loopMode && s.per.running && s.lostMask != 0
  if lost && !s.red.lostLive then
    { s1.raise K.REDUNDANCY_LOST 0 s.lostMask 1 with red := { s.red with lostLive := true } }
  else if !lost && s.red.lostLive then
    { s1.clearLive K.REDUNDANCY_LOST with red := { s.red with lostLive := false } }
  else s1

/-- Fence a unit: its words are discarded from then on, and its lane pairs hold no running state (R341, R351). -/
def State.fenceUnit (s : State) (u : Nat) : State :=
  (s.setFence (.unit u) true).forRange 12 fun s l =>
    let s1 := s.setPair u l { s.pair u l with periods := [], busy := false, outputs := [] }
    let stop := fun (s : State) c =>
      s.setLane u l c { s.lane u l c with posts := [], task := none, rest := [], delta := [] }
    stop (stop s1 0) 1

/-- Drop every cairn slot that is not sealed (R341). -/
def State.dropUnsealed (s : State) : State :=
  { s with red := { s.red with cairns := s.red.cairns.filter fun e => e.2.sealed } }

/-- Every position of a unit has had its output words of the running period accepted. -/
def State.allReleased (s : State) (u : Nat) : Bool :=
  (List.range 10).all fun p => 12 ≤ s.laneOf u p || (s.pair u (s.laneOf u p)).outCount == s.per.count

/-- One hour of motion time: a unit that fails within it after an automatic reload stays fenced (R346). -/
abbrev reloadTicks : Nat := 3600 * 400000000

/-- A unit that fails at `stamp` may be reloaded automatically (R346). -/
def State.mayReload (s : State) (u stamp : Nat) : Bool :=
  s.bit F.RED_CFG_AUTO_RELOAD &&
    (match (if u = 0 then s.red.reloadedA else s.red.reloadedB) with
     | some t => decide (reloadTicks ≤ stamp - t)
     | none => true)

/-- A build is given up (R405). -/
def State.abandonBuild (s : State) : State :=
  match s.surv.build with
  | none => s
  | some _ =>
    let c := satNat 255 s.surv.fcAbandoned s.surv.fcSat
    { s with surv := { s.surv with build := none, lastBuild := none, fcAbandoned := c.1, fcSat := c.2 } }

/-- A takeover of unit `u` begins at the stamp of its fault (R341); a migration or swap in progress is given up (R351, R354). -/
def State.startTakeover (s : State) (u source stamp : Nat) : State :=
  let s1 := (s.abandonBuild.fenceUnit u).dropUnsealed
  let inc := 1 - u
  { s1 with red := { s1.red with
      takeover := some { failed := u, incoming := inc, source := source, stamp := stamp,
                         lastSealed := s.red.sealedCount, sealedSeq := s.red.sealedSeq, restored := s.red.swap.any (·.restored)
                         atCount := if s.allReleased u then s.per.count + 1 else s.per.count }
      sealPosts := s1.red.sealPosts.filter fun p => decide (p.count ≤ s.red.sealedCount)
      traces := if s.red.swap.any (·.restored) then s1.red.traces else []
      swap := none, migrate := none } }

/-- A takeover fails (R348): both units are fenced and TAKEOVER_FAIL is raised. -/
def State.failTakeover (s : State) (cause : Nat) : State :=
  match s.red.takeover with
  | none => s
  | some t =>
    let s1 := (s.fenceUnit 0).fenceUnit 1
    ({ s1 with red := { s1.red with takeover := none, failed := 3 } }).raise K.TAKEOVER_FAIL 0 (cause + t.incoming * 2 ^ 8) 1

/-- An abandoned planned swap: the outgoing unit stays active (R351). `cause` names the event: 0 a difference, 1 not complete by
the deadline, 2 a fault; the code it gets in SWAP_ABANDONED's data is left open. -/
def State.abandonSwap (s : State) (cause position : Nat) (fence : Bool) : State :=
  match s.red.swap with
  | none => s
  | some w =>
    let raised := s.fenced (.unit w.incoming)
    let s1 := (s.fenceUnit w.incoming).setFence (.unit w.incoming) (fence || raised)
    (({ s1 with red := { s1.red with swap := none, traces := [] } }).raise K.SWAP_ABANDONED 0
      (Config.swapCause cause % 2 ^ 8 + position * 2 ^ 8) 1).noteRedundancy

end Sys2Proof.Machine
end

