-- ==== Sys2Proof/Machine/Collector.lean ====
section
/-!
DEFINITION. The fault collector (12_fault_collection, R360 to R378): effective severity, scope, reaction, latch, records, the
fault log, acknowledgement, and the delivery of the events on their way.
-/

namespace Sys2Proof.Machine

/-! ### Configuration of a kind (FLT.SRC) -/

/-- A severity field: 6 and 7 act as SAFE (R458). -/
def sevOf (v : Nat) : Nat := min v 5

def kindOf (src : Nat) : Kind := src / 128
def instOf (src : Nat) : Nat := src % 128

def State.srcClass (s : State) (k : Kind) : Nat := s.fld F.FLT_SRC_CLASS 0 k
def State.srcEsc (s : State) (k : Kind) : Bool := s.bit F.FLT_SRC_ESC 0 k

/-! ### Scope (R365) -/

/-- The bits of a list of indices. -/
def bitSet (xs : List Nat) : Nat := xs.foldl (fun m x => m ||| 2 ^ x) 0

/-- Axes of the drive kind that meet a test. -/
def State.driveAxes (s : State) (p : Nat → Bool) : List Nat :=
  (List.range 32).filter fun a => s.fld F.AXIS_CFG_TYPE a == 1 && p a

/-- IS0, VDC or VDC_N of a drive axis names a sigma-delta input (R143). -/
def State.axisUsesInput (s : State) (a i : Nat) : Bool :=
  let is0 := s.fld F.AXIS_CFG_IS0 a
  decide (is0 ≤ i ∧ i < is0 + 3 * (s.fld F.AXIS_CFG_NBR a + 1)) || s.fld F.AXIS_CFG_VDC a == i
    || (s.fld F.AXIS_CFG_BRIDGE a != 0 && s.fld F.AXIS_CFG_VDC_N a == i)

/-- Groups a pin-class source reaches by TRIP (R365): TRIP_MASK of PWMG.CFG, or of CS.OC. -/
def State.tripScope (s : State) (src : Nat) : List Nat :=
  (List.range 32).filter fun g =>
    if kindOf src = K.TRIP_INPUT then s.nth F.PWMG_CFG_TRIP_MASK (instOf src) g
    else s.nth F.CS_OC_TRIP_MASK g (instOf src)

/-- The axes a reaction to an event of a source reaches (Table 12.4). -/
def State.scopeAxes (s : State) (src : Nat) : Nat :=
  let i := instOf src
  match kindRow (kindOf src) with
  | none => 0
  | some r =>
    match r.scope with
    | .none | .unit => 0
    | .axis => 2 ^ i
    | .channel => bitSet (s.driveAxes fun a => s.axisFb a == i)
    | .input => bitSet (s.driveAxes fun a => s.axisUsesInput a i)
    | .trip => bitSet (s.driveAxes fun a => (s.axisGroups a).any fun g => (s.tripScope src).contains g)
    | .lane =>
      if i / 12 = s.activeUnit then
        s.fld F.SYS_PLACE_CUR 0 (i % 12) ||| s.fld F.SYS_PLACE_OUT 0 (i % 12) ||| (s.fld F.SYS_PLACE_OUTV 0 (i % 12) * 2 ^ 32)
      else 0
    | .cfg => s.fld F.FLT_SRC_AXES 0 (kindOf src)

/-- The groups a TRIP reaction holds: those of the drive axes in scope, and those the TRIP scope names; SAFE holds all
(R364). -/
def State.scopeGroups (s : State) (src axes sev : Nat) : Nat :=
  if sev = 5 then 2 ^ 32 - 1
  else if sev < 3 then 0
  else
    bitSet ((s.driveAxes fun a => axes.testBit a).flatMap s.axisGroups)
      ||| (if kindOf src = K.TRIP_INPUT ∨ kindOf src = K.OVERCURRENT then bitSet (s.tripScope src) else 0)

/-! ### Effective severity (R368) -/

/-- The state with FLT.SRC of a kind as it applies to events of a stamp: a write of it takes effect for events stamped after its instant
(R379). -/
def State.asOf (s : State) (k : Kind) (stamp : Nat) : State :=
  match s.flt.srcOld.find? (fun e => e.1 == k && decide (stamp ≤ e.2.1)) with
  | some e => s.setObj .fltSrc 0 k e.2.2
  | none => s

/-- The latch of a source number. -/
def State.latchOf (s : State) (src : Nat) : Option LatchRec := s.flt.latched.find? (·.source == src)

/-- A class is armed (R368). -/
def State.armedClass (s : State) (c : Nat) : Bool :=
  s.flt.latched.any fun r => r.arms && s.srcClass (kindOf r.source) == c

/-- Events of a source number in the last `window` intervals, the running one included (R368). -/
def State.eventCount (s : State) (src window : Nat) : Nat :=
  (s.flt.history.filter fun e => e.1 == src && decide (s.flt.interval < e.2 + window)).length

/-- The unit a fault of severity SWAP names: that of its lane entry, or the active unit (R333). -/
def State.namedUnit (s : State) (src : Nat) : Nat :=
  if 13 ≤ kindOf src ∧ kindOf src ≤ 15 then instOf src / 12 else s.activeUnit

/-- What the collector decides of an event (R368): effective severity, and whether it was promoted, escalated, replaced. -/
structure Verdict where
  base : Nat
  sev : Nat
  promoted : Bool
  escalated : Bool
  replaced : Bool
  deriving DecidableEq, Repr

/-- SWAP becomes SAFE when no takeover can begin (R54, R333, R369); R348 and R351 decide during a takeover or a swap. -/
def State.swapReplaced (s : State) : Bool :=
  !(s.loopMode && s.per.running && (s.red.takeover.isSome || s.red.swap.isSome || s.canTakeOver))

/-- The effective severity of an event of a source number (R368). -/
def State.verdict (s : State) (src : Nat) : Verdict :=
  let k := kindOf src
  let base := sevOf (s.fld F.FLT_SRC_BASE 0 k)
  let n := s.fld F.FLT_SRC_N 0 k
  let prom := n != 0 && ((s.latchOf src).any (·.promoted) || decide (n ≤ s.eventCount src (max 1 (s.fld F.FLT_SRC_WINDOW 0 k)) + 1))
  let v1 := if prom then sevOf (s.fld F.FLT_SRC_SEVERE 0 k) else base
  let esc := decide (1 ≤ v1) && s.srcEsc k && s.armedClass (s.srcClass k)
  let v2 := if esc then min (v1 + 1) 5 else v1
  let rep := v2 == 4 && s.swapReplaced
  ⟨base, if rep then 5 else v2, prom, esc, rep⟩

/-! ### Records (R370, R372, R373) -/

/-- A source number is live: its condition holds, or it is forced (R370, R371). -/
def State.isLive (s : State) (src : Nat) : Bool :=
  s.flt.live.contains src
    || (s.bit F.FLT_FORCE_FORCE 0 (kindOf src) && s.fld F.FLT_FORCE_INST 0 (kindOf src) == instOf src)

/-- Bit of a pin-class source in FLT.PIN (R361). -/
def pinBit (src : Nat) : Option Nat :=
  if kindOf src = K.TRIP_INPUT then some (instOf src)
  else if kindOf src = K.OVERCURRENT then some (32 + instOf src)
  else none

/-- Show the latch and live bits of a source number in FLT.REC and FLT.PIN (R361, R370). -/
def State.showBits (s : State) (src : Nat) : State :=
  let k := kindOf src
  let latched := (s.latchOf src).isSome
  let s1 := (s.setNth F.FLT_REC_INST_LATCH (instOf src) latched 0 k).setNth F.FLT_REC_INST_LIVE (instOf src) (s.isLive src) 0 k
  let s2 := (s1.setBit F.FLT_REC_LATCHED (s1.fld F.FLT_REC_INST_LATCH 0 k != 0) 0 k).setBit F.FLT_REC_LIVE
    (s1.fld F.FLT_REC_INST_LIVE 0 k != 0) 0 k
  match pinBit src with
  | none => s2
  | some b => (s2.setNth F.FLT_PIN_LATCH b latched).setNth F.FLT_PIN_LIVE b (s.isLive src)

/-- FLT.REC at an event of its kind (R370). -/
def State.noteRec (s : State) (m : Msg) (v : Verdict) : State :=
  let k := kindOf m.source
  let s1 := if s.fld F.FLT_REC_COUNT 0 k = 0 then
      (s.setFld F.FLT_REC_FIRST m.stamp 0 k).setFld F.FLT_REC_FIRST_INST (instOf m.source) 0 k
    else s
  let s2 := (((s1.setFld F.FLT_REC_LAST m.stamp 0 k).setFld F.FLT_REC_LAST_INST (instOf m.source) 0 k).setFld
    F.FLT_REC_LAST_ADDR m.addr 0 k).satInc F.FLT_REC_COUNT F.FLT_REC_COUNT_SAT 0 k
  let or := fun (s : State) (f : Fld) (b : Bool) => if b then s.setBit f true 0 k else s
  let s3 := or (or (or (or s2 F.FLT_REC_PROMOTED v.promoted) F.FLT_REC_ESCALATED v.escalated) F.FLT_REC_FORCED m.forced)
    F.FLT_REC_REPLACED v.replaced
  s3.setFld F.FLT_REC_EFF (max (s3.fld F.FLT_REC_EFF 0 k) v.sev) 0 k

/-- Latch a source number, keeping the strongest of its events (R367, R370). -/
def State.latch (s : State) (src : Nat) (v : Verdict) : State :=
  let axes := s.scopeAxes src
  let r : LatchRec :=
    { source := src, eff := v.sev, arms := decide (1 ≤ v.sev) && s.srcEsc (kindOf src), promoted := v.promoted
      stopAxes := if 2 ≤ v.sev then axes else 0, tripAxes := if 3 ≤ v.sev then axes else 0
      groups := s.scopeGroups src axes v.sev }
  let merged := match s.latchOf src with
    | none => r
    | some o => { source := src, eff := max o.eff r.eff, arms := o.arms || r.arms, promoted := o.promoted || r.promoted
                  stopAxes := o.stopAxes ||| r.stopAxes, tripAxes := o.tripAxes ||| r.tripAxes
                  groups := o.groups ||| r.groups }
  { s with flt := { s.flt with latched := s.flt.latched.filter (·.source != src) ++ [merged] } }

/-- The event record of an event (R86, R361). -/
def State.recordOf (s : State) (m : Msg) (sev : Nat) (simul : Bool) : EventRec :=
  { source := m.source, kind := m.kind, severity := sev, simul := simul, stamp := m.stamp, seq := s.recordSeq m.stamp, data := m.data }

/-- Another source number has an event of the same stamp (R372). -/
def State.simulOf (s : State) (m : Msg) : Bool :=
  s.flt.stamps.any fun e => e.1 != m.source && e.2 == m.stamp

/-- Keep one record for each source number and interval, that of its first event: later ones raise its severity only (R373). SIMUL is
that of the record's own stamp (R372). -/
def State.keepRecord (s : State) (e : EventRec) : State :=
  let rs := s.flt.records
  let rs' := if rs.any (fun r => r.source == e.source) then
      rs.map fun r => if r.source = e.source then { r with severity := max r.severity e.severity } else r
    else rs ++ [e]
  let rs'' := rs'.map fun r => if e.simul && r.stamp == e.stamp then { r with simul := true } else r
  { s with flt := { s.flt with records := rs'' } }

/-! ### FLT.FIRST and the fault log (R372, R376) -/

/-- Whether a fault goes before the one FLT.FIRST holds (R372). -/
def State.isFirst (s : State) (e : EventRec) : Bool :=
  decide (1 ≤ e.severity) &&
    (!s.bit F.FLT_FIRST_VALID || decide (e.stamp < s.fld F.FLT_FIRST_TIME) ||
      (e.stamp == s.fld F.FLT_FIRST_TIME &&
        (decide (s.fld F.FLT_FIRST_SEV < e.severity) ||
          (e.severity == s.fld F.FLT_FIRST_SEV && decide (e.source < s.fld F.FLT_FIRST_SOURCE)))))

def State.noteFirst (s : State) (e : EventRec) : State :=
  if s.isFirst e then
    [(F.FLT_FIRST_SOURCE, e.source), (F.FLT_FIRST_KIND, e.kind), (F.FLT_FIRST_SEV, e.severity), (F.FLT_FIRST_SIMUL, e.simul.toNat),
     (F.FLT_FIRST_VALID, 1), (F.FLT_FIRST_TIME, e.stamp), (F.FLT_FIRST_SEQ, e.seq)].foldl (fun s x => s.setFld x.1 x.2) s
  else if s.bit F.FLT_FIRST_VALID && e.simul && s.fld F.FLT_FIRST_TIME == e.stamp then s.setBit F.FLT_FIRST_SIMUL true
  else s

/-- The message word of Table 12.2; 0 for the pin class (Table 12.6). -/
def messageWord (m : Msg) : Nat :=
  if (pinBit m.source).isSome then 0
  else m.source % 2 ^ 16 + m.kind % 2 ^ 8 * 2 ^ 16 + m.addr % 2 ^ 32 * 2 ^ 24 + m.on.toNat * 2 ^ 56 + m.off.toNat * 2 ^ 57
    + m.dlen % 4 * 2 ^ 58

/-- A log word of this boot holds an event of a stamp (R376). -/
def State.logsStamp (s : State) (w stamp : Nat) : Bool :=
  w / 2 ^ 32 % 2 ^ 64 == stamp && w / 2 ^ 336 % 2 ^ 16 == s.fld F.FLT_LOG_BOOT && w / 2 ^ 16 % 2 ^ 8 != 0xFD
    && w / 2 ^ 16 % 2 ^ 8 != 0xFE && w != 0

/-- A log word goes after a fault's entry: one of the same stamp with a lower severity, or with the same and a higher source
number (R372). -/
def State.logAfter (s : State) (e : EventRec) (w : Nat) : Bool :=
  s.logsStamp w e.stamp &&
    (decide (w / 2 ^ 24 % 2 ^ 3 < e.severity) || (w / 2 ^ 24 % 2 ^ 3 == e.severity && decide (e.source < w % 2 ^ 16)))

/-- Put a word into the log at a place, behind those it must follow; the entries that go after it move up by one (R372). -/
def State.logPut (s : State) (e : EventRec) (word : Nat) : Nat → Nat → SMap Nat → SMap Nat
  | 0, p, l => l.set p word 0
  | k + 1, p, l =>
    let before := l.get ((p + 16383) % 16384) 0
    if s.logAfter e before then s.logPut e word k ((p + 16383) % 16384) (l.set p before 0) else l.set p word 0

/-- Write one entry into the fault log, a circle of 16,384 (R376). The faults of one stamp stand in the order of R372. -/
def State.logEntry (s : State) (e : EventRec) (message flags base : Nat) : State :=
  let n := s.fld F.FLT_LOG_NEXT
  let w := eventWord e + message * 2 ^ 256 + flags * 2 ^ 320 + base * 2 ^ 328 + s.fld F.FLT_LOG_BOOT * 2 ^ 336
  let s1 := { s with flt := { s.flt with
      log := if e.kind = 0xFD ∨ e.kind = 0xFE then s.flt.log.set n w 0 else s.logPut e w s.flt.latched.length n s.flt.log } }
  let s2 := s1.setFld F.FLT_LOG_NEXT (n + 1)
  let s3 := if n = 16383 then s2.setBit F.FLT_LOG_WRAPPED true else s2
  s3.setFld F.FLT_LOG_TOTAL (min (s3.fld F.FLT_LOG_TOTAL + 1) (2 ^ 32 - 1))

/-- Log entries of this boot whose event became simultaneous carry SIMUL (R372). -/
def State.markSimul (s : State) (stamp : Nat) : State :=
  let f := fun w => if s.logsStamp w stamp then w ||| 2 ^ 27 else w
  { s with flt := { s.flt with log := s.flt.log.map fun e => (e.1, f e.2) } }

/-- The fault recorded as first is another of the same stamp: the entry recorded so before is first no longer (R372). -/
def State.dropFirst (s : State) (stamp : Nat) : State :=
  let f := fun w => if s.logsStamp w stamp && w.testBit 325 then w - 2 ^ 325 else w
  { s with flt := { s.flt with log := s.flt.log.map fun e => (e.1, f e.2) } }

/-- The log entry an event calls for: at latching, promotion, escalation, and at STOP or above (R376). -/
def State.logEvent (s : State) (m : Msg) (v : Verdict) (e : EventRec) (newLatch newProm first : Bool) : State :=
  if (s.asOf (kindOf m.source) m.stamp).bit F.FLT_SRC_LOG 0 (kindOf m.source) && (newLatch || newProm || v.escalated || decide (2 ≤ v.sev)) then
    s.logEntry e (messageWord m)
      (newLatch.toNat + v.promoted.toNat * 2 + v.escalated.toNat * 4 + m.forced.toNat * 8 + v.replaced.toNat * 16 + first.toNat * 32)
      v.base
  else s

/-! ### Reaction (R364, R333, R348, R351, R462) -/

/-- The reaction of severity SWAP, by the unit the fault names. -/
def State.reactSwap (s : State) (src stamp : Nat) : State :=
  let u := s.namedUnit src
  match s.red.takeover with
  | some t => if u = t.incoming then s.failTakeover 1 else s
  | none =>
    match s.red.swap with
    | some w => if u = w.incoming then s.abandonSwap 2 0 true else s.startTakeover u src stamp
    | none =>
      if u = s.activeUnit then s.startTakeover u src stamp
      else
        let s1 := s.fenceUnit u
        { s1 with red := { s1.red with failed := s1.red.failed ||| 2 ^ u
                                       reload := if s.mayReload u stamp then some u else s.red.reload } }

/-- A parity or mismatch fault of any severity that names the incoming unit fails the takeover (R348). -/
def State.reactIncoming (s : State) (src : Nat) : Option State :=
  match s.red.takeover with
  | some t =>
    if (kindOf src = K.LANE_MISMATCH ∨ kindOf src = K.LANE_PARITY) ∧ s.namedUnit src = t.incoming then some (s.failTakeover 2)
    else none
  | none => none

/-- SAFE: every group held, HOLD at the next boundary, ALIVE stops (R42, R364, R378). -/
def State.reactSafe (s : State) : State :=
  { s with flt := { s.flt with alive := false, safePending := true } }

/-- The survey writes records (R398). -/
def State.surveyed (s : State) : Bool := s.per.running && (s.loopMode || s.mode == .service)

/-- The record of SEQ `seq`, POST ms or more after the trigger record, has been taken: the survey is frozen (R406). -/
def State.frozenAt (s : State) (seq : Nat) : State :=
  { s.raise K.SURVEY_FROZEN 0 (s.surv.trigSeq + seq * 2 ^ 32) 1 with surv := { s.surv with state := 2 } }

/-- POST in ticks: recording goes on to the first record this long after the trigger record (R406). -/
def State.postTicks (s : State) : Nat := s.fld F.SURV_CFG_POST * 400000

/-- A freeze trigger whose trigger record is that of an instant (R406). Where a record POST ms after it has been taken already, the survey
is frozen at once. -/
def State.freezeAt (s : State) (stamp : Nat) (copy : Bool) : State :=
  let r := s.recordAt stamp
  let s1 := { s with surv := { s.surv with state := 1, trigSeq := r.1, trigTime := r.2.1, trigEpoch := r.2.2, bbDue := copy } }
  match s.surv.ring.find? (fun x => x.epoch == r.2.2 && decide (r.1 ≤ x.seq ∧ r.2.1 + s.postTicks ≤ x.mtime)) with
  | some _ => s1.frozenAt s.surv.lastSeq
  | none => s1

/-- An event at or above FREEZE_SEV triggers a freeze (R406). -/
def State.noteFreeze (s : State) (sev stamp : Nat) : State :=
  if s.surveyed && s.surv.state == 0 && s.bit F.SURV_CFG_FREEZE_EN && decide (s.fld F.SURV_CFG_FREEZE_SEV ≤ sev) then
    s.freezeAt stamp (s.bit F.SURV_CFG_BB_EN)
  else s

/-- Carry out an event's reaction. -/
def State.react (s0 : State) (m : Msg) (sev : Nat) : State :=
  let s := s0.noteFreeze sev m.stamp
  let s1 := if sev = 5 then s.reactSafe else s
  let s2 := match s1.reactIncoming m.source with
    | some t => t
    | none => if sev = 4 then s1.reactSwap m.source m.stamp else s1
  let s3 := if 3 ≤ sev then s2.refreshGroups else s2
  s3.noteRedundancy

/-! ### An event reaches the collector -/

/-- A source number has raised an event of this stamp already: it raises at most one a tick (R372). -/
def State.repeated (s : State) (m : Msg) : Bool := s.flt.stamps.contains (m.source, m.stamp)

/-- The latch an event leaves, by the configuration that applies to its stamp (R367, R379). -/
def State.latchAsOf (s : State) (m : Msg) (v : Verdict) : State :=
  { s with flt := { s.flt with latched := ((s.asOf (kindOf m.source) m.stamp).latch m.source v).flt.latched } }

/-- A source's first event of a tick reaches the collector (R368 to R376). The LOST record is written when it comes about (R87). -/
def State.collectNew (s : State) (m : Msg) : State :=
  let c := s.asOf (kindOf m.source) m.stamp
  let v := c.verdict m.source
  let newLatch := (s.latchOf m.source).isNone
  let newProm := v.promoted && !(s.latchOf m.source).any (·.promoted)
  let simul := s.simulOf m
  let e := s.recordOf m v.sev simul
  let s1 := { s with flt := { s.flt with history := s.flt.history ++ [(m.source, s.flt.interval)],
                                          stamps := s.flt.stamps ++ [(m.source, m.stamp)] } }
  let s2 := ((s1.latchAsOf m v).noteRec m v).showBits m.source
  let first := s2.isFirst e
  let s3 := if m.source = 0 ∧ m.kind = 0xFF then s2.noteFirst e else (s2.noteFirst e).keepRecord e
  let s4 := if simul then s3.markSimul m.stamp else s3
  let s5 := if simul && first then s4.dropFirst m.stamp else s4
  ((s5.logEvent m v e newLatch newProm first)).react m v.sev

/-- An event reaches the collector; a second one of its source number and tick does not occur (R372). -/
def State.collectOn (s : State) (m : Msg) : State := if s.repeated m then s else s.collectNew m

/-- The live condition of a source number begins or ends. -/
def State.setLive (s : State) (src : Nat) (b : Bool) : State :=
  { s with flt := { s.flt with live := s.flt.live.filter (· != src) ++ (if b then [src] else []) } }

/-- The collector takes one event. A live source raises one only at its onset; the end of a condition changes its live bit;
a reserved kind is never raised (R360, R370). -/
def State.collect (s : State) (m : Msg) : State :=
  match kindRow (kindOf m.source) with
  | none => s
  | some r =>
    if m.on then
      if r.live then
        if m.forced then s.collectOn m
        else if s.isLive m.source then s.setLive m.source true
        else (s.setLive m.source true).collectOn m
      else s.collectOn m
    else (s.setLive m.source false).showBits m.source

/-- The collector takes the events on their way, oldest first. -/
def State.drainN (s : State) : Nat → State
  | 0 => s
  | k + 1 =>
    match s.msgs with
    | [] => s
    | m :: r => (({ s with msgs := r }).collect m).drainN k

/-- The LOST record, written when the host frees an entry (R87): source 0, kind 0xFF, the count and its flag; it is an event of the
collector's own source (Table 12.1, log 103). Its TIMESTAMP is the instant of its writing, which the spec leaves open (log 77). -/
def State.putLost (s : State) : State :=
  if s.bit F.HIF_CQ_CTRL_ENABLE 16 && s.fld F.HIF_EQ_LOST_COUNT != 0 && decide (1 < s.eqFree) then
    let m : Msg := { source := 0, kind := 0xFF, data := s.fld F.HIF_EQ_LOST_COUNT + s.fld F.HIF_EQ_LOST_SAT * 2 ^ 8, dlen := 1, stamp := s.now }
    let v := (s.asOf 0 s.now).verdict 0
    let e := s.recordOf m v.sev (s.simulOf m)
    ((s.putEntry 16 31 (eventWord e) (decide (2 ≤ v.sev))).resetObj .hifEqLost).collect m
  else s

/-- Every event on its way reaches the collector, and those these raise in turn. -/
def State.drain (s : State) : State := s.drainN (2 * s.msgs.length + 8)

/-- Time runs on to an instant: the events raised so far reach the collector first (R366, R304). -/
def State.until (s : State) (t : Nat) : State := if s.drain.now < t then s.drain.advanceTo t else s.drain

/-- One oscillator cycle with no command waiting: the events on their way reach the collector, and time moves on by one cycle
while the time base runs (R303, R304, R366). -/
def State.tick (s : State) : State := if s.drain.time.running then s.drain.cycle else s.drain

/-! ### Acknowledgement (R374, R375) -/

/-- The log entry of an acknowledgement (R376, Table 12.6). -/
def State.logAck (s : State) (src : Nat) : State :=
  if s.bit F.FLT_SRC_LOG 0 (kindOf src) then
    s.logEntry { source := src, kind := 0xFE, severity := 0, simul := false, stamp := s.now, seq := s.per.seq, data := 0 } 0 0 0
  else s

/-- Acknowledge one latched source number: its latch and promotion clear, its holds last until the next boundary tick, and
FLT.REC of its kind returns to reset when no instance stays latched or live (R375). -/
def State.ackOne (s : State) (src : Nat) : State :=
  let s1 := s.logAck src
  let s2 := { s1 with flt := { s1.flt with
      latched := s1.flt.latched.filter (·.source != src)
      releasing := s1.flt.releasing ++ (if s.per.running then (s.latchOf src).toList else []) } }
  let s3 := s2.showBits src
  let k := kindOf src
  if s3.bit F.FLT_REC_LATCHED 0 k || s3.bit F.FLT_REC_LIVE 0 k then s3 else s3.resetObj .fltRec 0 k

/-- A source number may be acknowledged: latched, not live, and not HUB_CHECK (R374). -/
def State.ackable (s : State) (src : Nat) : Bool := !s.isLive src && kindOf src != K.HUB_CHECK

/-- The source numbers latched that an acknowledgement names. -/
def State.ackTargets (s : State) (src : Nat) (allInst all : Bool) : List Nat :=
  (s.flt.latched.map (·.source)).filter fun x => all || (allInst && kindOf x == kindOf src) || x == src

/-- FAULT_ACK (R374): what it completes with and what it does. -/
def State.faultAck (s : State) (src : Nat) (allInst all : Bool) : State × Result :=
  let ts := s.ackTargets src allInst all
  if !all && !allInst && s.isLive src then (s, { status := 0x07, detail := 0x1 })
  else if !all && !allInst && kindOf src == K.HUB_CHECK then (s, { status := 0x07, detail := 0x2 })
  else
    let ok := ts.filter s.ackable
    let s1 := ok.foldl State.ackOne s
    let s2 := if s.per.running then s1 else s1.refreshGroups
    (s2, { status := 0x00, result := ok.length + (ts.length - ok.length) * 2 ^ 16 })

/-- STOP_REQ of an axis: a STOP reaction holds it (R364, R367). -/
def State.stopReq (s : State) (a : Nat) : Bool :=
  (s.flt.latched ++ s.flt.releasing).any fun r => r.stopAxes.testBit a

/-- A fault of severity TRIP or above is unacknowledged (R41). -/
def State.tripPending (s : State) : Bool := s.flt.latched.any fun r => decide (3 ≤ r.eff)

/-- A source number of effective severity SAFE is latched (R378). -/
def State.safeLatched (s : State) : Bool := s.flt.latched.any fun r => r.eff == 5

end Sys2Proof.Machine
end

