-- ==== Sys2Proof/Machine/LatchCmp.lean ====
section
/-!
DEFINITION. Position latch and compare units (07_gearing_cam_caravans_latch_compare, R229 to R237).
-/

namespace Sys2Proof.Machine

/-- The signed 32-bit difference of two counts. -/
def s32diff (a b : Nat) : Int := sint 32 (uint 32 ((a : Int) - b))

def State.latchUnit (s : State) (n : Nat) : LatchSt := s.latchUnits.get n {}
def State.setLatchUnit (s : State) (n : Nat) (v : LatchSt) : State := { s with latchUnits := s.latchUnits.set n v {} }
def State.cmpUnit (s : State) (u : Nat) : CmpSt := s.cmpUnits.get u {}
def State.setCmpUnit (s : State) (u : Nat) (v : CmpSt) : State := { s with cmpUnits := s.cmpUnits.set u v {} }

/-- Units of either kind accept arming (R232). -/
def State.armMode (s : State) : Bool := s.mode == .commission || s.mode == .run || s.mode == .hold

/-- An input event comes after the latch of the measurement instant it follows (R21): one that reaches the hub once the latch of
this tick is taken falls on the next tick. -/
def State.inputTick (s : State) : State := if s.per.measured == some s.now then s.until (s.now + 1) else s

/-- The seal an action's completion waits for when it is stamped `t`: the record of the boundary at or after `t` (R21). -/
def State.sealAt (s : State) (t : Nat) : Nat := if s.per.t0 < t then s.sealNext else s.sealHere

/-! ### Latch units (R229 to R232) -/

/-- How the running command of a unit ends that is stopped: ABORTED where an ABORT waits (R232). -/
def LatchSt.outcome (u : LatchSt) (o : Result) : Result :=
  match u.abort with
  | some (d, _) => { status := 0x01, detail := d }
  | none => o

/-- LATCH_ARM (R230): a reserved EDGE refuses (R229); a unit already armed is superseded. -/
def State.latchArm (s : State) (n : Nat) (ref : CmdRef) : State × Option Result :=
  if !s.armMode then (s, some s.wrongMode)
  else if s.fenced (.fb (s.fld F.LATCH_CFG_FB n)) then (s, some (blockReset 1))
  else if s.fld F.LATCH_CFG_EDGE n = 0 then (s, some (refused 0x4))
  else
    let u := s.latchUnit n
    let s1 := match u.owner with
      | some o => s.finishCmd o (u.outcome (superseded ref)) s.sealHere
      | none => s
    let s2 := s1.setLatchUnit n { u with owner := some ref, armed := true, since := s.now, abort := none, after := false }
    ((s2.setBit F.LATCH_RESULT_VALID false n).setFld F.LATCH_RESULT_EXTRA 0 n, none)

/-- Disarm a latch unit; its command ends with an outcome. -/
def State.disarmLatch (s : State) (n : Nat) (o : Result) : State :=
  let u := s.latchUnit n
  if u.armed then
    let s1 := s.setLatchUnit n { u with armed := false, owner := none, abort := none }
    match u.owner with
    | some r => s1.finishCmd r (u.outcome o) s.sealHere
    | none => s1
  else s

/-- An ABORT of a running LATCH_ARM: edges stamped before it may still qualify for FILTER ticks (R232). -/
def State.abortLatch (s : State) (n detail : Nat) : State :=
  if s.fld F.LATCH_CFG_FILTER n = 0 then s.disarmLatch n { status := 0x01, detail := detail }
  else s.setLatchUnit n { s.latchUnit n with abort := some (detail, s.now) }

/-- The capture of an edge at tick `tl`: with the count of the boundary before it, and that of the boundary at or after it where that has
passed (R231). -/
def State.latchCap (s : State) (n tl : Nat) (rising : Bool) : LatchCap :=
  let u := s.latchUnit n
  let c := s.fld F.FB_STATUS_COUNT (s.fld F.LATCH_CFG_FB n)
  if s.per.t0 < tl then { owner := u.owner, time := tl, rising := rising, b0 := s.per.t0, c0 := c }
  else { owner := u.owner, time := tl, rising := rising, b0 := s.per.t0 - s.fld F.SYS_PERIOD_TC, c0 := u.cPrev, c1 := some c }

/-- A level of latch land `n` has held for `held` ticks (R230): an edge if that reaches FILTER, stamped with its first tick. An edge
stamped before the arming is not captured (DEDUCED, log 94). -/
def State.latchEdge (s0 : State) (n : Nat) (rising : Bool) (held : Nat) : State :=
  let s := s0.inputTick
  let u := s.latchUnit n
  let kind := s.fld F.LATCH_CFG_EDGE n
  let fits := if rising then kind.testBit 0 else kind.testBit 1
  let tl := s.now - held
  if held < s.fld F.LATCH_CFG_FILTER n then s
  else if u.armed then
    if !fits || tl < u.since then s
    else if u.abort.any fun e => decide (e.2 ≤ tl) then s.disarmLatch n {}
    else s.setLatchUnit n { u with
      owner := none, armed := false, abort := none, after := true, caps := u.caps ++ [s.latchCap n tl rising] }
  else if u.after then s.setFld F.LATCH_RESULT_EXTRA (min 0xFFFF (s.fld F.LATCH_RESULT_EXTRA n + 1)) n
  else s

/-- The interpolated position p of R231, in 1/256 count modulo 2^40. -/
def latchPos (c : LatchCap) (c1 tc : Nat) : Nat :=
  uint 40 ((2 * (c.c0 * 256 * tc + s32diff c1 c.c0 * 256 * ((c.time : Int) - c.b0)) + tc) / (2 * tc))

/-- Enter a captured result (R232); VALID stays clear in a unit armed again since. -/
def State.enterLatch (s : State) (n : Nat) (c : LatchCap) (c1 : Nat) : State :=
  let p := latchPos c c1 (max 1 (s.fld F.SYS_PERIOD_TC))
  let s1 := [(F.LATCH_RESULT_TIME, c.time), (F.LATCH_RESULT_COUNT, p / 256), (F.LATCH_RESULT_FRAC, p % 256),
    (F.LATCH_RESULT_VALID, (!(s.latchUnit n).armed).toNat), (F.LATCH_RESULT_RISING, c.rising.toNat)].foldl
      (fun s e => s.setFld e.1 e.2 n) s
  let s2 := s1.raise K.LATCH_CAPTURE n (c.time + p * 2 ^ 64) 2
  match c.owner with
  | some o => s2.finishCmd o (done (if c.rising then 1 else 2) p) s.sealHere
  | none => s2

/-- At a boundary: enter the results whose b1 is past, latch c1 of the edges before this boundary, and end the commands whose ABORT no
earlier edge can precede any more (R231, R232). -/
def State.latchBoundary (s : State) : State :=
  s.forRange 8 fun s n =>
    let u := s.latchUnit n
    let c1 := s.fld F.FB_STATUS_COUNT (s.fld F.LATCH_CFG_FB n)
    let s1 := s.setLatchUnit n { u with
      cLast := c1, cPrev := u.cLast, caps := (u.caps.filter (·.c1.isNone)).map fun c => { c with c1 := some c1 } }
    let s2 := (u.caps.filter (·.c1.isSome)).foldl (fun s c => s.enterLatch n c (c.c1.getD 0)) s1
    if u.abort.any fun e => decide (e.2 + s.fld F.LATCH_CFG_FILTER n ≤ s.now) then s2.disarmLatch n {} else s2

/-- Results still waiting are entered when the periods end (R232, R461). -/
def State.latchFlush (s : State) : State :=
  s.forRange 8 fun s n =>
    let caps := (s.latchUnit n).caps
    let s1 := s.setLatchUnit n { s.latchUnit n with caps := [] }
    caps.foldl (fun s c => s.enterLatch n c (c.c1.getD (s.fld F.FB_STATUS_COUNT (s.fld F.LATCH_CFG_FB n)))) s1

/-! ### Compare units (R233 to R237) -/

/-- A compare position is behind when it is set (R234). -/
def behind (dir : Nat) (e : Int) : Bool := e == 0 || (dir == 1 && decide (0 < e)) || (dir == 2 && decide (e < 0))

/-- COMPARE_ARM (R234). -/
def State.compareArm (s : State) (u dir count pos : Nat) (step : Int) (ref : CmdRef) (c : Nat) : State × Option Result :=
  if !s.armMode then (s, some s.wrongMode)
  else if s.fenced (.fb (s.fld F.CMP_CFG_FB u)) then (s, some (blockReset 1))
  else if dir = 0 ∨ count = 0 then (s, some (refused 0x4))
  else
    let v := s.cmpUnit u
    let s1 := match v.owner with
      | some o => s.finishCmd o (superseded ref) s.sealHere
      | none => s
    let s2 := s1.setCmpUnit u { v with owner := some ref, dir := dir, step := step }
    ([(F.CMP_STATUS_ARMED, 1), (F.CMP_STATUS_COMPARE_BEHIND, (behind dir (s32diff c pos)).toNat), (F.CMP_STATUS_REMAIN, count),
      (F.CMP_STATUS_POS, pos)].foldl (fun s e => s.setFld e.1 e.2 u) s2, none)

/-- Whether a change of the count fires an armed position (R235). -/
def compareFires (dir cOld cNew pos : Nat) : Bool :=
  let eOld := s32diff cOld pos
  let eNew := s32diff cNew pos
  let st := s32diff cNew cOld
  (dir.testBit 0 && decide (eOld < 0 ∧ 0 ≤ eNew ∧ 0 < st)) || (dir.testBit 1 && decide (0 < eOld ∧ eNew ≤ 0 ∧ st < 0))

/-- A compare unit fires at tick `t` (R236). -/
def State.compareFire (s : State) (u cNew t : Nat) : State :=
  let v := s.cmpUnit u
  let rem := s.fld F.CMP_STATUS_REMAIN u - 1
  let s1 := ((s.raiseAt t K.COMPARE_FIRE u).setFld F.CMP_STATUS_LAST t u).setFld F.CMP_STATUS_REMAIN rem u
  let v1 := if s.bit F.CMP_CFG_DO_EN u then { v with fire := some t } else v
  if rem = 0 then
    let s2 := (s1.setCmpUnit u { v1 with owner := none }).setBit F.CMP_STATUS_ARMED false u
    match v.owner with
    | some o => s2.finishCmd o (done (result := t)) (s.sealAt t)
    | none => s2
  else
    let pos := uint 32 (s.fld F.CMP_STATUS_POS u + v.step)
    ((s1.setCmpUnit u v1).setFld F.CMP_STATUS_POS pos u).setBit F.CMP_STATUS_COMPARE_BEHIND (behind v.dir (s32diff cNew pos)) u

/-- Every armed unit on a channel looks at a change of its count, stamped `t` (R233, R235). -/
def State.compareUnits (s : State) (ch cOld cNew t : Nat) : State :=
  s.forRange 16 fun s u =>
    if s.bit F.CMP_STATUS_ARMED u && s.fld F.CMP_CFG_FB u == ch
        && compareFires (s.cmpUnit u).dir cOld cNew (s.fld F.CMP_STATUS_POS u) then
      s.compareFire u cNew t
    else s

/-- Disarm a compare unit: its pulse ends and its command ends with an outcome (R237). -/
def State.disarmCmp (s : State) (u : Nat) (o : Result) : State :=
  if s.bit F.CMP_STATUS_ARMED u then
    let v := s.cmpUnit u
    let s1 := (s.setCmpUnit u { v with owner := none, fire := none, pulse := none }).setBit F.CMP_STATUS_ARMED false u
    match v.owner with
    | some r => s1.finishCmd r o s.sealHere
    | none => s1
  else s

/-- Every unit whose channel meets a test disarms, its command ending with an outcome (R232, R237). -/
def State.disarmUnits (s : State) (p : Nat → Bool) (o : Result) : State :=
  let s1 := s.forRange 8 fun s n => if p (s.fld F.LATCH_CFG_FB n) then s.disarmLatch n o else s
  s1.forRange 16 fun s u => if p (s.fld F.CMP_CFG_FB u) then s.disarmCmp u o else s

/-- A latch or compare unit on a channel is armed (R289). -/
def State.unitArmedOn (s : State) (ch : Nat) : Bool :=
  ((List.range 8).any fun n => (s.latchUnit n).armed && s.fld F.LATCH_CFG_FB n == ch)
    || (List.range 16).any fun u => s.bit F.CMP_STATUS_ARMED u && s.fld F.CMP_CFG_FB u == ch

/-- The unit, if any, whose running command a reference names (R232, R237). -/
def State.latchOwned (s : State) (ref : CmdRef) : Option Nat := (List.range 8).find? fun n => (s.latchUnit n).owner == some ref
def State.cmpOwned (s : State) (ref : CmdRef) : Option Nat := (List.range 16).find? fun u => (s.cmpUnit u).owner == some ref

/-! ### Commands -/

/-- LATCH_EDGE: land LATCH_n went to a new level and has held it for some ticks (R230). -/
def execLatchEdge (n : HeldOn 8) (rising : Bool) (s : State) : Out := .next (s.latchEdge n.n.val rising n.held.val)

end Sys2Proof.Machine
end

