-- ==== Sys2Proof/Machine/Feedback.lean ====
section
/-!
DEFINITION. Feedback channels (09_feedback_and_current_sensing, R269 to R291): counting, index, speed, serial frames, reset.
A command for a change of levels stands for the tick of the first sample at the new levels, behind the synchroniser, and says how many
more samples show them (R271).
-/

namespace Sys2Proof.Machine

def State.fbs (s : State) (n : Nat) : FbSt := s.fb.get n {}
def State.setFbs (s : State) (n : Nat) (v : FbSt) : State := { s with fb := s.fb.set n v {} }

/-- FB.CFG.MODE (Table 09.1): 0 off, 1 quadrature, 2 Hall, 3 SSI, 4 Karsel; reserved codes are undefined (R269). -/
def State.fbMode (s : State) (n : Nat) : Nat := s.fld F.FB_CFG_MODE n
def State.fbSerial (s : State) (n : Nat) : Bool := s.fbMode n == 3 || s.fbMode n == 4
def State.fbInv (s : State) (n : Nat) : Bool := s.bit F.FB_CFG_INV_DIR n
def State.cprCh (s : State) (n : Nat) : Nat := s.fld F.FB_CFG_CPR_CH n
def State.periodTc (s : State) : Nat := max 1 (s.fld F.SYS_PERIOD_TC)

/-! ### Changes of the count (R272, R276, R281) -/

/-- A change of the count that is not one of R281's: the count alone, with what watches it. -/
def State.moveCount (s : State) (n : Nat) (dc : Int) (t : Nat) : State :=
  let c := s.fbs n
  let cNew := uint 32 (c.count + dc)
  (s.setFbs n { c with count := cNew, sum := c.sum + dc }).compareUnits n c.count cNew t

/-- DIR after a change, and its event (R281). -/
def State.noteDir (s : State) (n : Nat) (dc : Int) (t : Nat) : State :=
  let c := s.fbs n
  let neg := decide (dc < 0)
  let s1 := s.setFbs n { c with dir := neg, dirKnown := true }
  if c.dirKnown && c.dir != neg then s1.raiseAt t K.DIR_CHANGE n c.count 1 else s1

/-- A count change `dc ≠ 0` of the sensor, stamped `t` (R272, R276, R278, R281). -/
def State.countChange (s : State) (n : Nat) (dc : Int) (t : Nat) : State :=
  if dc = 0 then s
  else
    let cpr := s.cprCh n
    let s1 := s.moveCount n dc t
    let c := s1.fbs n
    let s2 := s1.setFbs n { c with
      cm := if cpr = 0 then c.cm else (((c.cm : Int) + dc) % cpr).toNat
      e0 := c.e1, e1 := some (t, dc), net := c.net + dc, ageFrom := some t }
    s2.noteDir n dc t

/-! ### Quadrature (R273) and Hall (R274) -/

/-- The quadrature state of Table 09.2. -/
def quadState (a b : Bool) : Nat := if a then (if b then 2 else 1) else (if b then 3 else 0)

/-- Bit `i` of the accepted levels. -/
def FbSt.lvl (c : FbSt) (i : Nat) : Bool := c.levels.testBit i

/-- A new level that holds for `held` samples beyond its first is accepted (R271). While RESET_N is low, and while the channel is fenced,
inputs are ignored (R45, R61). -/
def State.accepts (s : State) (n held : Nat) : Bool :=
  decide (s.fld F.FB_CFG_FILTER n ≤ held) && !s.boot.resetLow && !s.fenced (.fb n)

/-- The quadrature state goes on by `d` modulo 4 (R273). -/
def State.quadStep (s : State) (n d : Nat) : State :=
  let c := s.fbs n
  if d = 0 then s
  else if d = 2 then
    let q := satNat 0xFFFF c.quadErr (c.sat.testBit 0)
    (s.setFbs n { c with quadErr := q.1, sat := if q.2 then c.sat ||| 1 else c.sat }).raise K.QUAD_ERROR n c.count 1
  else s.countChange n (if (d == 1) != s.fbInv n then 1 else -1) s.now

/-- The sector of a valid Hall state (Table 09.3). -/
def hallSector (h : Nat) : Option Nat :=
  match h with
  | 1 => some 0 | 3 => some 1 | 2 => some 2 | 6 => some 3 | 4 => some 4 | 5 => some 5 | _ => none

/-- The sector used, with INV_DIR (R274). -/
def State.hallUsed (s : State) (n h : Nat) : Option Nat :=
  (hallSector h).map fun x => if s.fbInv n then (6 - x) % 6 else x

/-- The Hall levels become `h`, for `held` samples beyond the first (R271, R274). -/
def State.hallChange (s0 : State) (n h held : Nat) : State :=
  let s := s0.inputTick
  if s.fbMode n ≠ 2 ∨ s.accepts n held = false then s0
  else
    let c := s.fbs n
    match s.hallUsed n h with
    | none =>
      let s1 := s.setFbs n { c with levels := h, valid := false, hallBad := true }
      if c.hallBad then s1 else s1.raise K.HALL_INVALID n h 1
    | some x =>
      let s1 := s.setFbs n { c with levels := h, valid := true, hallBad := false, sector := some x }
      let s2 := if c.hallBad then s1.clearLive K.HALL_INVALID n else s1
      match c.sector with
      | none => s2.moveCount n ((x : Int) - c.count) s.now
      | some o =>
        let dc : Int := ((x + 9 - o) % 6 : Nat) - 3
        let s3 := s2.countChange n dc s.now
        if 2 ≤ dc.natAbs then
          let q := satNat 0xFFFF c.quadErr (c.sat.testBit 0)
          (s3.setFbs n { s3.fbs n with quadErr := q.1, sat := if q.2 then c.sat ||| 1 else c.sat }).raise
            K.HALL_SKIP n (uint 8 dc) 1
        else s3

/-! ### Index (R275, R276) -/

/-- Z_GATE holds: 0b1ab accepts the index only while A = a and B = b (R275). -/
def State.gateOpen (s : State) (n : Nat) : Bool :=
  let g := s.fld F.FB_CFG_Z_GATE n
  !g.testBit 2 || ((s.fbs n).lvl 0 == g.testBit 1 && (s.fbs n).lvl 1 == g.testBit 0)

/-- Compare the index with its reference (R276). -/
def State.indexCheck (s : State) (n : Nat) : State :=
  let c := s.fbs n
  let cpr := s.cprCh n
  let h := cpr / 2
  let off : Int := (((c.cm : Int) - c.ref + h) % cpr) - h
  if off.natAbs ≤ s.fld F.FB_CFG_INDEX_TOL n then s
  else
    let q := satNat 0xFFFF c.slips (c.sat.testBit 2)
    let s1 := (s.setFbs n { c with indexOff := off, slips := q.1, sat := if q.2 then c.sat ||| 4 else c.sat }).raise
      K.INDEX_SLIP n (uint 32 off + c.indexCount * 2 ^ 32) 1
    if s.fld F.FB_CFG_REREF n = 1 then (s1.setFbs n { s1.fbs n with cm := c.ref }).moveCount n (-off) s.now else s1

/-- Z is at its active level (R275). -/
def State.zActive (s : State) (n : Nat) : Bool := (s.fbs n).lvl 2 == s.bit F.FB_CFG_Z_HIGH n

/-- Home the count at the index (R276). -/
def State.homeIndex (s : State) (n : Nat) : State :=
  let v := s.fld F.FB_CFG_INDEX_VAL n
  let c := s.fbs n
  let s1 := s.setFbs n { c with cm := v % s.cprCh n, ref := v % s.cprCh n, referenced := true, homed := true, homeArmed := none }
  s1.moveCount n (s32diff v c.count) s.now

/-- An index edge at the present tick: the index count is latched; with CPR_CH ≠ 0 the reference is taken or checked, and the first edge
after the instant of ARM_HOME homes (R275, R276). -/
def State.indexNow (s : State) (n : Nat) : State :=
  let c := s.fbs n
  let s1 := s.setFbs n { c with indexCount := c.count, indexSeen := true, zIdle := false }
  if s.cprCh n = 0 then s1
  else
    let s2 := if c.referenced then s1.indexCheck n else s1.setFbs n { s1.fbs n with ref := c.cm, referenced := true }
    if s.fld F.FB_CFG_REREF n = 2 ∧ c.homeArmed.any (fun t => decide (t < s.now)) = true then s2.homeIndex n else s2

/-- The index edge comes at the first tick at which Z is active after having been inactive and the gate is open (R275). -/
def State.indexTry (s : State) (n : Nat) : State :=
  if s.bit F.FB_CFG_Z_EN n && (s.fbs n).zIdle && s.zActive n && s.gateOpen n then s.indexNow n else s

/-- The levels of A and B become `a` and `b` in one tick, for `held` samples beyond the first (R271, R273); an index that waited for its
gate may come with them (R275). -/
def State.quadChange (s0 : State) (n : Nat) (a b : Bool) (held : Nat) : State :=
  let s := s0.inputTick
  if s.fbMode n ≠ 1 ∨ s.accepts n held = false then s0
  else
    let c := s.fbs n
    let d := (4 + quadState a b - quadState (c.lvl 0) (c.lvl 1)) % 4
    ((s.setFbs n { c with levels := a.toNat + 2 * b.toNat + 4 * (c.lvl 2).toNat }).quadStep n d).indexTry n

/-- The level of Z becomes `z`, for `held` samples beyond the first (R271, R275). Changes of A and B in the same tick come first. -/
def State.indexEdge (s0 : State) (n : Nat) (z : Bool) (held : Nat) : State :=
  let s := s0.inputTick
  if s.fbMode n ≠ 1 ∨ s.accepts n held = false then s0
  else
    let s1 := s.setFbs n { s.fbs n with levels := (s.fbs n).levels % 4 + 4 * z.toNat }
    if s1.zActive n then s1.indexTry n else s1.setFbs n { s1.fbs n with zIdle := true }

/-! ### Speed (R277 to R280) -/

/-- The speed item of `num / den` counts per tick (R277), den > 0. -/
def State.speedItem (s : State) (n : Nat) (num : Int) (den : Nat) : Int :=
  let full := s.fld F.FB_CFG_SPD_FULL n
  let e := sint 4 (s.fld F.FB_CFG_SPD_EXP n)
  let xy : Int × Int :=
    if full = 0 then (num * 2 ^ 23 * s.periodTc * 2 ^ (-e).toNat, den * 2 ^ e.toNat)
    else (num * 2 ^ 23 * 400000000, den * full)
  clampInt ((2 * xy.1 + xy.2) / (2 * xy.2)) (-(2 ^ 23)) (2 ^ 23 - 1)

/-- The edge-timing measurement at instant `b` (R278). -/
def State.edgeSpeed (s : State) (n b : Nat) : Int :=
  let c := s.fbs n
  match c.e1, c.e0 with
  | some e1, some e0 =>
    let zt := s.fld F.FB_CFG_ZERO_T n
    if decide (e1.2 < 0) != decide (e0.2 < 0) then 0
    else if zt ≠ 0 ∧ zt * s.periodTc ≤ b - e1.1 then 0
    else s.speedItem n e1.2 (max 1 (max (e1.1 - e0.1) (b - e1.1)))
  | _, _ => 0

/-- The count measurement (R279). -/
def State.countSpeed (s : State) (n : Nat) : Int :=
  let c := s.fbs n
  let w := min (s.fld F.FB_CFG_SPD_WIN n + 1) c.hist.length
  s.speedItem n (sint 32 (uint 32 (c.net - c.hist.getD (w - 1) 0))) (max 1 w * s.periodTc)

/-- The frame-based speed of a serial channel (R283). -/
def State.frameSpeed (s : State) (n : Nat) : Int :=
  let m := (s.fbs n).serMoves
  if m.isEmpty then 0
  else s.speedItem n ((m.map (·.1)).foldl (· + ·) 0) (max 1 ((m.map (·.2)).foldl (· + ·) 0))

/-- Speed and method at a measurement instant (R280). -/
def State.measureSpeed (s : State) (n b : Nat) : State :=
  let c := s.fbs n
  if s.fbSerial n then
    s.setFbs n { c with counting := true, speed := if c.validNew then s.frameSpeed n else c.speed }
  else
    let ie := s.edgeSpeed n b
    let ic := s.countSpeed n
    let counting :=
      if c.counting then !decide ((ic.natAbs : Int) < sint 24 (s.fld F.FB_CFG_V_DOWN n))
      else ie != 0 && decide (sint 24 (s.fld F.FB_CFG_V_UP n) ≤ (ie.natAbs : Int))
    s.setFbs n { c with counting := counting, speed := if counting then ic else ie, hist := (c.net :: c.hist).take 16 }

/-- VALID of the items and of FB.STATUS (R274, R287). -/
def State.fbValid (s : State) (n : Nat) : Bool :=
  match s.fbMode n with
  | 1 => true
  | 2 => (s.fbs n).valid
  | 3 | 4 => (s.fbs n).validNew
  | _ => false

/-- EDGE_AGE at instant `b` (R290). -/
def FbSt.edgeAge (c : FbSt) (b : Nat) : Nat :=
  match c.ageFrom with
  | none => 0xFFFFFF
  | some t => min 0xFFFFFF (b - t)

/-- STATE of Table 09.6. -/
def State.fbState (s : State) (n : Nat) : Nat :=
  let c := s.fbs n
  c.dir.toNat + c.counting.toNat * 2 + (if s.fbMode n = 2 then c.levels % 8 else 0) * 4 + (s.fbValid n).toNat * 32
    + c.referenced.toNat * 64 + c.indexSeen.toNat * 128 + c.serStatus % 256 * 256

/-- FB.STATUS of a channel at a measurement instant. -/
def State.fbStatus (s : State) (n : Nat) : State :=
  let c := s.fbs n
  [(F.FB_STATUS_COUNT, c.count), (F.FB_STATUS_SPEED, uint 24 c.speed), (F.FB_STATUS_DIR, c.dir.toNat),
   (F.FB_STATUS_SPD_MODE, c.counting.toNat), (F.FB_STATUS_REFERENCED, c.referenced.toNat),
   (F.FB_STATUS_VALID, (s.fbValid n).toNat), (F.FB_STATUS_HALL, if s.fbMode n = 2 then c.levels % 8 else 0),
   (F.FB_STATUS_REG_VALID, c.regValid.toNat), (F.FB_STATUS_INDEX_COUNT, c.indexCount),
   (F.FB_STATUS_INDEX_OFF, uint 24 (clampInt c.indexOff (-(2 ^ 23)) (2 ^ 23 - 1))), (F.FB_STATUS_SER_STATUS, c.serStatus),
   (F.FB_STATUS_QUAD_ERR, c.quadErr), (F.FB_STATUS_BAD_FRAMES, c.badFrames), (F.FB_STATUS_SLIPS, c.slips),
   (F.FB_STATUS_SKIPPED, c.skipped), (F.FB_STATUS_SAT, c.sat), (F.FB_STATUS_HOMED, c.homed.toNat),
   (F.FB_STATUS_DELAY, min 0xFFFF c.delay), (F.FB_STATUS_REG, c.reg)].foldl (fun s e => s.setFld e.1 e.2 n) s

/-- A channel at measurement instant `b`: speed, status, and the items of Table 09.6, which a fence holds (R277, R291). -/
def State.measureFb (s : State) (n b : Nat) : State :=
  if s.fenced (.fb n) then s.fbStatus n
  else
    let s1 := (s.measureSpeed n b).fbStatus n
    let c := s1.fbs n
    s1.setFbs n { c with
      held := [c.count, uint 24 c.speed, s1.fbState n, c.edgeAge b, c.indexCount]
      indexSeen := false, validNew := false }

/-! ### Serial frames (R282 to R288) -/

/-- T, the CK period in ticks. -/
def State.serT (s : State) (n : Nat) : Nat := 2 * s.fld F.FB_SERIAL_SER_DIV n

/-- N of R284. -/
def State.ssiBits (s : State) (n : Nat) : Nat :=
  s.fld F.FB_SERIAL_LEADBITS n + s.fld F.FB_SERIAL_POSBITS n + s.fld F.FB_SERIAL_STBITS n
    + (if s.fld F.FB_SERIAL_PARITY n = 0 then 0 else 1)

/-- The remainder of a bit string, most significant bit first, followed by `w` zeros, divided by x^w + poly. -/
def crcBits (w poly : Nat) (bits : List Bool) : Nat :=
  let step := fun (r : Nat) (b : Bool) =>
    let top := r.testBit (w - 1) != b
    let r' := r * 2 % 2 ^ w
    if top then r' ^^^ poly else r'
  bits.foldl step 0

/-- The `w` low bits of a number, most significant first. -/
def bitsOf (w v : Nat) : List Bool := (List.range w).map fun i => v.testBit (w - 1 - i)

/-- The number a bit string spells, most significant first. -/
def ofBits (bits : List Bool) : Nat := bits.foldl (fun r b => 2 * r + b.toNat) 0

/-- The Karsel request word (Table 09.4). -/
def karselRequest (cmd arg : Nat) : Nat :=
  let v := cmd % 8 * 2 ^ 8 + arg % 256
  2 ^ 15 + v * 16 + crcBits 4 0x3 (bitsOf 11 v)

/-- Start a frame now: its command, ARG and sampling tick (R284, R285). -/
def State.startFrame (s : State) (n : Nat) : State :=
  let c := s.fbs n
  let cmd := c.go.getD (1, 0)
  let first := if s.fbMode n = 4 then s.now + s.fld F.FB_SERIAL_SER_DIV n else s.now
  s.setFbs n { c with go := none
                      frame := some { start := s.now, sample := first + s.fld F.FB_SERIAL_SAMPLE_DLY n, cmd := cmd.1, arg := cmd.2 } }

/-- Level of FB_nn_CK: low where it is unused. In SSI it idles high, and each of the N + 1 cycles is a low and a high half; in Karsel it
idles low, and each cycle is a low and a high half until the frame ends (Table 09.1, R284, R285, R286). -/
def State.fbCk (s : State) (n : Nat) : Bool :=
  let on := fun (f : SerialFrame) => decide (s.fld F.FB_SERIAL_SER_DIV n ≤ (s.now - f.start) % s.serT n)
  if s.boot.resetLow then false
  else match s.fbMode n, (s.fbs n).frame with
    | 3, none => true
    | 3, some f => on f || decide (f.start + (s.ssiBits n + 1) * s.serT n ≤ s.now)
    | 4, some f => on f
    | _, _ => false

/-- Level of FB_nn_B as an output: in Karsel mode the request, most significant bit first, over 16 cycles of CK; none where the land is no
output, or where no rule gives its level (Table 09.1, R285). -/
def State.fbB (s : State) (n : Nat) : Option Bool :=
  match s.fbMode n, (s.fbs n).frame with
  | 4, some f =>
    let k := (s.now - f.start) / max 1 (s.serT n)
    if s.boot.resetLow ∨ 16 ≤ k then none else some ((karselRequest f.cmd f.arg).testBit (15 - k))
  | _, _ => none

/-- The least tick at or after the present one at which the schedule of R282 starts a frame: LEAD before an instant. -/
def State.frameDue (s : State) (n : Nat) : Nat :=
  let l := s.fld F.FB_SERIAL_LEAD n
  (s.now + l + s.periodTc - 1) / s.periodTc * s.periodTc - l

/-- The frames of a channel follow the schedule of REQ = 0b00 (R282). -/
def State.frameByTime (s : State) (n : Nat) : Bool := s.fld F.FB_SERIAL_REQ n == 0 || s.mode == .configure

/-- The trigger of REQ_GRP has fired at this tick (R282). -/
def State.frameTrigger (s : State) (n : Nat) : Bool :=
  let g := s.grp (s.fld F.FB_SERIAL_REQ_GRP n)
  (s.fld F.FB_SERIAL_REQ n == 1 && g.firedA == some s.now) || (s.fld F.FB_SERIAL_REQ n == 2 && g.firedB == some s.now)

/-- A start of a frame comes (R282): it is skipped while a frame is in progress or within RECOV of the last CK edge. -/
def State.frameStart (s0 : State) (n : Nat) : State :=
  if !s0.fbSerial n then s0
  else if !s0.frameByTime n && !s0.frameTrigger n then s0
  else
    let s := if s0.frameByTime n then s0.until (s0.frameDue n) else s0
    let c := s.fbs n
    let soon := match c.idleFrom with
      | none => false
      | some t => decide (s.now < t + s.fld F.FB_SERIAL_RECOV n)
    if c.frame.isSome || soon then
      let q := satNat 0xFFFF c.skipped (c.sat.testBit 3)
      s.setFbs n { c with skipped := q.1, sat := if q.2 then c.sat ||| 8 else c.sat }
    else s.startFrame n

/-- What a response says (Tables 09.5 and R284). -/
structure Reply where
  /-- The kind of R287, 0 for none but lateness. -/
  bad : Nat
  pos : Nat
  status : Nat
  /-- ACK = 1: refused, without a payload. -/
  refused : Bool
  payload : Nat
  deriving DecidableEq, Repr

/-- Binary from Gray code. -/
def ofGray (w v : Nat) : Nat := (List.range w).foldl (fun r i => r ^^^ (v / 2 ^ i)) 0

/-- Read an SSI frame: the level of A at the first falling edge and the N bits that follow (R284). -/
def State.readSsi (s : State) (n : Nat) (first : Bool) (bits : Nat) : Reply :=
  let nb := s.ssiBits n
  let par := s.fld F.FB_SERIAL_PARITY n
  let pw := if par = 0 then 0 else 1
  let st := s.fld F.FB_SERIAL_STBITS n
  let pb := s.fld F.FB_SERIAL_POSBITS n
  let v := bits % 2 ^ nb
  let body := v / 2 ^ pw % 2 ^ (pb + st)
  let odd := ((bitsOf (pb + st) body).filter id).length % 2 == 1
  let good := par == 0 || (v % 2 == 1) == (if par = 1 then odd else !odd)
  let x := body / 2 ^ st
  { bad := if !first then 4 else if !good then 3 else 0
    pos := if s.bit F.FB_SERIAL_GRAY n then ofGray pb x else x
    status := body % 2 ^ st, refused := false, payload := 0 }

/-- Payload bits of a Karsel response to a command (Table 09.5). -/
def State.karselPayload (s : State) (n cmd : Nat) (ack : Bool) : Nat :=
  if ack then 0 else if cmd = 1 then s.fld F.FB_SERIAL_POSBITS n else if cmd = 2 then 16 else 0

/-- Read a Karsel response: START and ACK come first (R286, Table 09.5). -/
def State.readKarsel (s : State) (n cmd : Nat) (ack : Bool) (rest : Nat) : Reply :=
  let p := s.karselPayload n cmd ack
  let v := rest % 2 ^ (p + 16)
  let status := v / 2 ^ 8 % 2 ^ 8
  let crc := crcBits 8 0x07 (ack :: bitsOf (p + 8) (v / 2 ^ 8))
  { bad := if crc ≠ v % 2 ^ 8 then 2 else if ack && cmd == 1 then 5 else if cmd == 1 && status.testBit 4 then 6 else 0
    pos := v / 2 ^ 16, status := status, refused := ack, payload := v / 2 ^ 16 }

/-- The live condition of a source of a channel follows `b`. -/
def State.follow (s : State) (was b : Bool) (k : Kind) (n data : Nat) : State :=
  if b && !was then s.raise k n data 1 else if !b && was then s.clearLive k n else s

/-- A bad position frame (R287). -/
def State.badFrame (s : State) (n kind : Nat) : State :=
  let c := s.fbs n
  let q := satNat 0xFFFF c.badFrames (c.sat.testBit 1)
  let run := c.badRun + 1
  let ln := s.fld F.FB_SERIAL_LOSS_N n
  let lost := c.lost || (ln != 0 && decide (ln ≤ run))
  let s1 := s.setFbs n { c with badFrames := q.1, sat := if q.2 then c.sat ||| 2 else c.sat, badRun := run, lost := lost }
  (s1.raise K.SERIAL_FRAME n kind 1 (kind := kind)).follow c.lost lost K.SERIAL_LOST n run

/-- The signed movement of a serial sensor between two frames (R283). -/
def serMove (pb x prev : Nat) (inv : Bool) : Int :=
  let d := sint pb (uint pb ((x : Int) - prev))
  if inv then -d else d

/-- A valid position frame (R283). -/
def State.validFrame (s : State) (n : Nat) (r : Reply) (f : SerialFrame) : State :=
  let c := s.fbs n
  let pb := s.fld F.FB_SERIAL_POSBITS n
  let x := r.pos % 2 ^ pb
  let s1 := s.setFbs n { c with xPrev := some x, lastValid := some f.sample, validNew := true, badRun := 0, lost := false }
  let s2 := s1.follow c.lost false K.SERIAL_LOST n 0
  let s3 :=
    match c.xPrev with
    | none =>
      let v := uint 32 (if s.fbInv n then -(x : Int) else x)
      s2.moveCount n (s32diff v c.count) f.sample
    | some p =>
      let d := serMove pb x p (s.fbInv n)
      let s4 := s2.countChange n d f.sample
      s4.setFbs n { s4.fbs n with serMoves := ((d, f.sample - c.lastValid.getD 0) :: c.serMoves).take 2 }
  s3.setFbs n { s3.fbs n with ageFrom := some f.sample }

/-- A frame that completes at tick `t` is late: after the first measurement instant following its sampling tick (R283). -/
def State.frameLate (s : State) (f : SerialFrame) (t : Nat) : Bool := decide ((f.sample / s.periodTc + 1) * s.periodTc < t)

/-- A frame carries a position: every SSI frame, and the answer to POS (R287). -/
def State.posFrame (s : State) (n : Nat) (f : SerialFrame) : Bool := s.fbMode n == 3 || f.cmd == 1

/-- A frame ends at the present tick with a response (R283, R286, R287, R289). -/
def State.endFrame (s : State) (n : Nat) (f : SerialFrame) (r : Reply) : State :=
  let pos := s.posFrame n f
  let late := s.frameLate f s.now
  let alarm := s.fbMode n == 4 && r.status.testBit 7
  let status := fun (s : State) =>
    let c := s.fbs n
    (s.setFbs n { c with serStatus := r.status, alarm := alarm }).follow c.alarm alarm K.SENSOR_ALARM n r.status
  if pos then
    if r.bad ≠ 0 then s.badFrame n r.bad
    else if late then s.badFrame n 7
    else status (s.validFrame n r f)
  else if r.bad ≠ 0 ∨ r.refused then s
  else
    let s1 := status s
    s1.setFbs n { s1.fbs n with reg := if f.cmd = 2 then r.payload % 2 ^ 16 else 0, regValid := true }

/-- The last instant of a frame with `l` response bits: sampling of its last bit (R284, R286). -/
def State.lastSample (s : State) (n : Nat) (f : SerialFrame) (delay l : Nat) : Nat :=
  if s.fbMode n = 3 then f.start + s.ssiBits n * s.serT n + s.fld F.FB_SERIAL_SSI_DLY n
  else f.start + 16 * s.serT n + delay + l * s.serT n - s.fld F.FB_SERIAL_SER_DIV n

/-- The last CK edge of a frame (R284, R286). -/
def State.lastEdge (s : State) (n : Nat) (f : SerialFrame) (last : Nat) : Nat :=
  if s.fbMode n = 3 then f.start + s.ssiBits n * s.serT n + s.fld F.FB_SERIAL_SER_DIV n
  else
    let h := max 1 (s.fld F.FB_SERIAL_SER_DIV n)
    f.start + (last - f.start) / h * h

/-- A serial channel's undefined movement: half its range between two valid frames, in a frame that completes at tick `t` (R283, Table
17.2). -/
def State.serJump (s : State) (n : Nat) (f : SerialFrame) (t : Nat) (r : Reply) : Bool :=
  match (s.fbs n).xPrev with
  | none => false
  | some p =>
    let pb := s.fld F.FB_SERIAL_POSBITS n
    s.posFrame n f && r.bad == 0 && !s.frameLate f t && uint pb ((r.pos : Int) - p) == 2 ^ (pb - 1)

/-- The frame in progress completes: 8 ticks after its last sample. -/
def State.frameComplete (s0 : State) (n : Nat) (f : SerialFrame) (delay l : Nat) (r : Reply) : State :=
  let last := s0.lastSample n f delay l
  let s := s0.until (last + 8)
  let c := s.fbs n
  (s.setFbs n { c with frame := none, idleFrom := some (s.lastEdge n f last)
                       delay := if s.fbMode n = 4 then delay else c.delay }).endFrame n f r

/-- A frame ends without a response at tick `endT`: a position frame is bad, of the kind given (R286, R287). -/
def State.frameFails (s0 : State) (n : Nat) (f : SerialFrame) (endT kind : Nat) : State :=
  let s := s0.until endT
  let s1 := s.setFbs n { s.fbs n with frame := none, idleFrom := some endT }
  if f.cmd = 1 then s1.badFrame n kind else s1

/-- No start bit came: the frame is bad as a timeout (R286). -/
def State.frameTimeout (s : State) (n : Nat) (f : SerialFrame) : State :=
  s.frameFails n f (f.start + (16 + s.fld F.FB_SERIAL_TIMEOUT n) * s.serT n) 1

/-- A does not read 0 at the end of the request: the frame is bad, of a kind no rule gives (R286, DESIGN CHOICE of log entry 98). -/
def State.frameHigh (s : State) (n : Nat) (f : SerialFrame) : State := s.frameFails n f (f.start + 16 * s.serT n) Config.karselHighKind

/-! ### Reset (R57, R270, R271, R288) -/

/-- A channel is reinitialised: counter, filters, index latch and speed measurement; a frame in flight is abandoned, and a serial
channel starts one at once (R57, R270, R288). Live conditions of the channel end. -/
def State.reinitFb (s : State) (n : Nat) : State :=
  let c := s.fbs n
  let s1 := ((s.follow c.hallBad false K.HALL_INVALID n 0).follow c.lost false K.SERIAL_LOST n 0).follow c.alarm false
    K.SENSOR_ALARM n 0
  let s2 := s1.setFbs n { quadErr := c.quadErr, badFrames := c.badFrames, slips := c.slips, skipped := c.skipped, sat := c.sat
                          sum := c.sum, held := c.held }
  if s2.fbSerial n then s2.startFrame n else s2

/-- The filters settle on the lands' levels: no change is stamped, and a valid Hall state is the first one (R271, R274). -/
def State.settleFb (s : State) (n lands : Nat) : State :=
  let c := s.fbs n
  match s.fbMode n with
  | 1 => s.setFbs n { c with levels := lands % 8, zIdle := lands.testBit 2 != s.bit F.FB_CFG_Z_HIGH n }
  | 2 =>
    match s.hallUsed n (lands % 8) with
    | some x => s.setFbs n { c with levels := lands % 8, valid := true, sector := some x, count := x }
    | none => (s.setFbs n { c with levels := lands % 8, hallBad := true }).raise K.HALL_INVALID n (lands % 8) 1
  | _ => s

/-! ### FB.CTRL (R289) -/

/-- PRESET (R289): the count, cm and REFERENCED. -/
def State.preset (s : State) (n : Nat) : State :=
  let v := s.fld F.FB_CTRL_PRESET_VAL n
  let c := s.fbs n
  let s1 := s.setFbs n { c with cm := if s.cprCh n = 0 then c.cm else v % s.cprCh n, referenced := false }
  s1.moveCount n (s32diff v c.count) s.now

/-- The actions of a write of FB.CTRL, by its bits PRESET, ARM_HOME, CNT_CLR and SER_GO, after its RW fields are set (R289). -/
def State.fbCtrl (s : State) (n : Nat) (preset armHome cntClr serGo : Bool) : Option Result × State :=
  if preset && s.unitArmedOn n then (some (refused 0x2), s)
  else if preset && (s.mode == .commission || s.mode == .run) then (some (refused 0x3), s)
  else if (armHome && s.fld F.FB_CFG_REREF n != 2) || (serGo && s.fbMode n != 4) then (some (refused 0x4), s)
  else
    let s1 := if preset then s.preset n else s
    let s2 := if armHome then s1.setFbs n { s1.fbs n with homeArmed := some s.now, homed := false } else s1
    let s3 := if cntClr then s2.setFbs n { s2.fbs n with quadErr := 0, badFrames := 0, slips := 0, skipped := 0, sat := 0 } else s2
    let s4 := if serGo then s3.setFbs n { s3.fbs n with
        regValid := false, go := some (s.fld F.FB_CTRL_SER_CMD n, s.fld F.FB_CTRL_SER_ARG n) } else s3
    (none, s4)

/-! ### Commands -/

/-- QUAD_CHANGE: the levels of A and B of a channel change (R271, R273). -/
def execQuadChange (n : HeldOn 32) (a b : Bool) (s : State) : Out := .next (s.quadChange n.n.val a b n.held.val)

/-- HALL_CHANGE: the levels of A, B and Z of a channel in Hall mode change (R271, R274). -/
def execHallChange (n : HeldOn 32) (a b z : Bool) (s : State) : Out :=
  .next (s.hallChange n.n.val (a.toNat + 2 * b.toNat + 4 * z.toNat) n.held.val)

/-- INDEX_EDGE: the level of Z of a channel changes, an index edge where R275 finds one (R271, R275, R276). -/
def execIndexEdge (n : ZLevel) (s : State) : Out := .next (s.indexEdge n.n.val n.z n.held.val)

/-- SERIAL_FRAME_START: the next start of a frame, by the schedule or by a trigger that has fired (R282). -/
def execSerialFrameStart (n : Fin 32) (s : State) : Out := .next (if s.boot.resetLow then s else s.frameStart n.val)

end Sys2Proof.Machine
end

