-- ==== Sys2Proof/Machine/SigmaDelta.lean ====
section
/-!
DEFINITION. Encoder emulation outputs (R292, R293), sigma-delta inputs, overcurrent comparators and stuck inputs (R294 to R300,
09_feedback_and_current_sensing).
-/

namespace Sys2Proof.Machine

/-! ### Emulation outputs (R292) -/

def State.emus (s : State) (e : Nat) : EmuSt := s.emu.get e {}
def State.setEmus (s : State) (e : Nat) (v : EmuSt) : State := { s with emu := s.emu.set e v {} }

/-- The source channel of an emulation output. -/
def State.emuSrc (s : State) (e : Nat) : Nat := s.fld F.EMU_CFG_SRC e

/-- The emulation counter: the source's count in MODE 0b11 (R292). -/
def State.emuCount (s : State) (e : Nat) : Nat :=
  if s.fld F.EMU_CFG_MODE e = 3 then (s.fbs (s.emuSrc e)).count else (s.emus e).counter

/-- The target of an emulation counter (R292). -/
def State.emuTarget (s : State) (e : Nat) : Nat :=
  let v := s.emus e
  match s.fld F.EMU_CFG_MODE e with
  | 1 => uint 32 (v.e0 + ((s.fbs (s.emuSrc e)).sum - v.srcAt) / (s.fld F.EMU_CFG_DIV e + 1 : Nat))
  | 2 => v.lo.toNat + v.hi.toNat % 2 ^ 8 * 2 ^ 24
  | _ => s.emuCount e

/-- Levels of EMU_e_A, EMU_e_B and EMU_e_Z, bits 0 to 2 (R292, R293): low in module reset, CONFIGURE, REPLAY and MODE 0b00. -/
def State.emuLands (s : State) (e : Nat) : Nat :=
  if s.boot.resetLow || s.mode == .configure || s.mode == .replay || s.fld F.EMU_CFG_MODE e == 0 then 0
  else if s.fld F.EMU_CFG_MODE e = 3 then (s.fbs (s.emuSrc e)).levels % 8
  else
    let c := s.emuCount e
    let zp := s.fld F.EMU_CFG_ZPER e
    let q := c % 4
    (if q = 1 ∨ q = 2 then 1 else 0) + (if q = 2 ∨ q = 3 then 2 else 0) + (if zp ≠ 0 ∧ c % zp = 0 then 4 else 0)

/-- An applied write of EMU.CFG sets the counter (R292). -/
def State.emuCfg (s : State) (e : Nat) : State :=
  let src := s.fbs (s.emuSrc e)
  s.setEmus e { s.emus e with counter := if s.fld F.EMU_CFG_MODE e = 3 then src.count else 0, e0 := 0, srcAt := src.sum
                              lastStep := none }

/-- The counter steps by one toward its target, MINSEP after its last step (R292). -/
def State.emuStep (s0 : State) (e : Nat) : State :=
  let v := s0.emus e
  let s := match v.lastStep with
    | some t => s0.until (t + clampNat (s0.fld F.EMU_CFG_MINSEP e) 4 0xFFFF)
    | none => s0
  let d := s32diff (s.emuTarget e) v.counter
  if d = 0 ∨ s.fld F.EMU_CFG_MODE e = 3 then s0
  else s.setEmus e { v with counter := uint 32 (v.counter + (if d < 0 then -1 else 1)), lastStep := some s.now }

/-- EMU.STATUS at a measurement instant. -/
def State.measureEmu (s : State) (e : Nat) : State :=
  let c := s.emuCount e
  (s.setFld F.EMU_STATUS_COUNTER c e).setFld F.EMU_STATUS_LAG
    (uint 24 (clampInt (s32diff (s.emuTarget e) c) (-(2 ^ 23)) (2 ^ 23 - 1))) e

/-! ### Sigma-delta inputs (R296 to R298) -/

def State.sds (s : State) (i : Nat) : SdSt := s.sd.get i {}
def State.setSds (s : State) (i : Nat) (v : SdSt) : State := { s with sd := s.sd.set i v {} }

/-- Coefficient k of (1 + z^-1 + … + z^-(r−1))^ord, for ord from 1 to 3 (R297, R299). -/
def sincCoef (ord r k : Nat) : Int :=
  let f := fun (j : Nat) => if ord = 1 then 1 else if ord = 2 then j + 1 else (j + 1) * (j + 2) / 2
  let term := fun (i c : Nat) => if i * r ≤ k then ((c * f (k - i * r) : Nat) : Int) else 0
  if ord = 1 then term 0 1 - term 1 1
  else if ord = 2 then term 0 1 - term 1 2 + term 2 1
  else term 0 1 - term 1 3 + term 2 3 - term 3 1

/-- The filter's sum over the window that ends with the latest bit: bit `k` of `bits` is the k-th bit before it, 1 for +1 and
0 for −1 (R296, R297). -/
def sincSum (ord r bits : Nat) : Int :=
  (List.range (ord * (r - 1) + 1)).foldl (fun y k => y + (if bits.testBit k then sincCoef ord r k else -sincCoef ord r k)) 0

/-- R of a sinc3 length code (CS.CFG.OSR). -/
def osrLen (code : Nat) : Nat := 16 * 2 ^ min code 4

/-- The sample of a window of bits (R297). -/
def State.sdWord (s : State) (i bits : Nat) : Nat :=
  let r := osrLen (s.fld F.CS_CFG_OSR i)
  let r3 := r ^ 3
  let y := if s.bit F.CS_CFG_INV i then -sincSum 3 r bits else sincSum 3 r bits
  let off := sint 24 (s.fld F.CS_CFG_OFFSET i)
  uint 24 (clampInt ((2 * (y * 2 ^ 23 - off * r3) + r3) / (2 * r3)) (-(2 ^ 23)) (2 ^ 23 - 1))

/-- The instant of an input's sample at boundary tick `b`, after the boundary `a` before it (R298). -/
def State.sampleInstant (s : State) (i a b : Nat) : Option Nat :=
  let g := s.grp (s.fld F.CS_CFG_SGRP i)
  let fired := fun (t : Option Nat) => match t with
    | some t => if a < t ∧ t ≤ b then some t else none
    | none => none
  match s.fld F.CS_CFG_SAMP i with
  | 0 => some b
  | 1 => fired g.firedA
  | _ => fired g.firedB

/-- DIV of a modulator clock. -/
def State.sdDiv (s : State) (c : Nat) : Nat := getBits (s.obj .csClk 0 0) (8 * c) 8

/-- DIV of the clock an input is given (CS.CLK). -/
def State.sdDivOf (s : State) (i : Nat) : Nat := max 1 (s.sdDiv (s.fld F.CS_CFG_CLKSEL i))

/-- Level of SDCK_c at motion time `t`: it rises at the multiples of DIV_c and falls floor(DIV_c / 2) ticks later; low while it is off and
in module reset (R45, R295). -/
def State.sdck (s : State) (c t : Nat) : Bool :=
  let d := s.sdDiv c
  d != 0 && !s.boot.resetLow && decide (t % d < d / 2)

/-- The last selected clock edge of an input at or before `t` (R295, R296). -/
def State.sdEdge (s : State) (i t : Nat) : Nat :=
  let d := s.sdDivOf i
  let f := if s.bit F.CS_CFG_EDGE i then d / 2 else 0
  (t + (d - f)) / d * d - (d - f)

/-- The bits of an input that end with the bit of clock edge `e`, latest in bit 0: each is the level of its data line DLY ticks after its
edge, behind the synchroniser. Bit j of `line` is that level j ticks before tick `ref` (R296). -/
def State.sdBits (s : State) (i line ref e n : Nat) : Nat :=
  let back := ref - (e + s.fld F.CS_CFG_DLY i)
  (List.range n).foldl (fun m k => m + (line.testBit (back + k * s.sdDivOf i)).toNat * 2 ^ k) 0

/-- The bits up to the last one taken by the present tick (R296). -/
def State.sdBitsNow (s : State) (i line n : Nat) : Nat := s.sdBits i line s.now (s.sdEdge i (s.now - s.fld F.CS_CFG_DLY i)) n

/-- The window of an input's sample at instant `t`. A bit whose edge lies at or before `t` belongs to it though its sampling comes later, at
most 15 ticks: bit j of `line` is the level j ticks before t + 15 (R297, R298). -/
def State.sdWindow (s : State) (i line t : Nat) : Nat :=
  s.sdBits i line (t + 15) (s.sdEdge i t) (3 * osrLen (s.fld F.CS_CFG_OSR i) - 2)

/-- SAMPLE of every enabled input at a boundary; `bits` gives the levels of each input's data line (R298). -/
def State.sampleInputs (s : State) (a b : Nat) (bits : SMap Nat) : State :=
  s.forRange 96 fun s i =>
    if !s.bit F.CS_CFG_EN i then s
    else
      match s.sampleInstant i a b with
      | some t => s.setSds i { s.sds i with sample := BitVec.ofNat 24 (s.sdWord i (s.sdWindow i (bits.get i 0) t)) }
      | none =>
        let q := satNat 0xFFFF (s.sds i).staleCnt (s.sds i).staleSat
        s.setSds i { s.sds i with staleCnt := q.1, staleSat := q.2 }

/-- CS.STATUS at a measurement instant. -/
def State.measureSd (s : State) (i : Nat) : State :=
  let v := s.sds i
  [(F.CS_STATUS_SAMPLE, v.sample.toNat), (F.CS_STATUS_OC_LIVE, v.ocActive.toNat), (F.CS_STATUS_STUCK_LIVE, v.stuck.toNat),
   (F.CS_STATUS_OC_CNT, v.ocCnt), (F.CS_STATUS_STALE_CNT, v.staleCnt), (F.CS_STATUS_OC_SAT, v.ocSat.toNat),
   (F.CS_STATUS_STALE_SAT, v.staleSat.toNat)].foldl (fun s e => s.setFld e.1 e.2 i) s

/-! ### Overcurrent comparators (R299) -/

/-- y_oc as a numerator over ROC^ORD. -/
def State.ocSum (s : State) (i bits : Nat) : Int :=
  let y := sincSum (s.fld F.CS_OC_ORD i) (s.fld F.CS_OC_ROC i) bits
  if s.bit F.CS_CFG_INV i then -y else y

def State.ocDen (s : State) (i : Nat) : Int := (s.fld F.CS_OC_ROC i ^ s.fld F.CS_OC_ORD i : Nat)

/-- The output lies above HI or below LO, exactly (R299). -/
def State.ocOutside (s : State) (i bits : Nat) : Bool :=
  let y := s.ocSum i bits * 2 ^ 23
  let d := s.ocDen i
  decide (sint 24 (s.fld F.CS_OC_HI i) * d < y) || decide (y < sint 24 (s.fld F.CS_OC_LO i) * d)

/-- y_oc as s.23, rounded and limited as R297 rounds a sample. -/
def State.ocWord (s : State) (i bits : Nat) : Nat :=
  let d := s.ocDen i
  uint 24 (clampInt ((2 * s.ocSum i bits * 2 ^ 23 + d) / (2 * d)) (-(2 ^ 23)) (2 ^ 23 - 1))

/-- Comparator `i` is on and its input in use. -/
def State.ocOn (s : State) (i : Nat) : Bool := s.bit F.CS_CFG_EN i && s.fld F.CS_OC_ORD i != 0

/-- Groups named by a comparator's TRIP_MASK. -/
def State.ocGroups (s : State) (i : Nat) : List Nat := (List.range 32).filter fun g => s.nth F.CS_OC_TRIP_MASK g i

/-- The last FILT + 1 outputs of a comparator lie outside LO to HI (`out`), or all within; `line` holds the levels of the data line, bit j
those of j ticks ago (R299). -/
def State.ocSteady (s : State) (i line : Nat) (out : Bool) : Bool :=
  let filt := s.fld F.CS_OC_FILT i
  let bits := s.sdBitsNow i line (s.fld F.CS_OC_ORD i * (s.fld F.CS_OC_ROC i - 1) + 1 + filt)
  (List.range (filt + 1)).all fun m => s.ocOutside i (bits / 2 ^ m) == out

/-- A comparator becomes active on the last of FILT + 1 outputs outside LO to HI: it trips its groups, never blanked (R299). -/
def State.ocActivate (s : State) (i line : Nat) : State :=
  let v := s.sds i
  if s.boot.resetLow || !s.ocOn i || v.ocActive || !s.ocSteady i line true then s
  else
    let q := satNat 0xFFFF v.ocCnt v.ocSat
    let s1 := s.setSds i { v with ocActive := true, ocCnt := q.1, ocSat := q.2 }
    (s1.raise K.OVERCURRENT i (s.ocWord i (s.sdBitsNow i line (s.fld F.CS_OC_ORD i * (s.fld F.CS_OC_ROC i - 1) + 1))) 1).tripGroups
      (s.ocGroups i) (0x20 + i) s.now

/-- A comparator becomes inactive after FILT + 1 outputs from LO to HI (R299). -/
def State.ocRelease (s : State) (i line : Nat) : State :=
  let v := s.sds i
  if !v.ocActive || !s.ocSteady i line false then s
  else (s.setSds i { v with ocActive := false }).clearLive K.OVERCURRENT i

/-! ### Stuck inputs (R300) -/

/-- An input's last `n` data bits are the same; `line` as for the comparators. -/
def State.sdSame (s : State) (i line n : Nat) : Bool :=
  let bits := s.sdBitsNow i line n
  bits == 0 || bits + 1 == 2 ^ n

/-- The data bits of an enabled input have stayed the same for STUCK clocks (R300). -/
def State.sdStuck (s : State) (i line : Nat) : State :=
  let v := s.sds i
  let n := s.fld F.CS_CFG_STUCK i
  if s.boot.resetLow || !s.bit F.CS_CFG_EN i || n == 0 || v.stuck || !s.sdSame i line n then s
  else (s.setSds i { v with stuck := true }).raise K.SD_STUCK i (s.sdBitsNow i line 1) 1

/-- The data of a stuck input changes: its last two bits differ (R300). -/
def State.sdStuckEnd (s : State) (i line : Nat) : State :=
  let v := s.sds i
  if v.stuck && !s.sdSame i line 2 then (s.setSds i { v with stuck := false }).clearLive K.SD_STUCK i else s

/-! ### Measurement (R277) -/

/-- The status objects of feedback, emulation and sigma-delta inputs at measurement instant `b`. -/
def State.measureInputs (s : State) (b : Nat) : State :=
  ((s.forRange 32 fun s n => s.measureFb n b).forRange 8 State.measureEmu).forRange 96 State.measureSd

/-! ### Commands -/

/-- EMU_STEP: an emulation counter steps toward its target (R292). A lag of 2^31 counts is undefined (Table 17.2). -/
def execEmuStep (e : Fin 8) (s : State) : Out :=
  if s32diff (s.emuTarget e.val) (s.emus e.val).counter = -(2 ^ 31) then .fault .emuLag else .next (s.emuStep e.val)

/-- OVERCURRENT_COMPARATOR: a comparator becomes active at the sampling of a bit; bit j of `line` is the level of its data line j ticks ago
(R299). -/
def execOvercurrentComparator (i : Fin 96) (line : Nat) (s : State) : Out := .next (s.ocActivate i.val line)

/-- COMPARATOR_INACTIVE: a comparator becomes inactive at the sampling of a bit (R299). -/
def execComparatorInactive (i : Fin 96) (line : Nat) (s : State) : Out := .next (s.ocRelease i.val line)

/-- SD_STUCK: an input's data has stayed the same for STUCK clocks (R300). -/
def execSdStuck (i : Fin 96) (line : Nat) (s : State) : Out := .next (s.sdStuck i.val line)

/-- SD_STUCK_END: a stuck input's data changes (R300). -/
def execSdStuckEnd (n : SdLine) (s : State) : Out := .next (s.sdStuckEnd n.n.val n.line)

end Sys2Proof.Machine
end

