-- ==== Sys2Proof/Machine/PwmEvents.lean ====
section
/-!
DEFINITION. Instants of the PWM generator: edges, dead times, held pulses, triggers, trip inputs, and the actions of PWMG.CTRL,
PWMG.AUX and PWM.TRIPIN (08_pwm_generator, R242 to R263).
-/

namespace Sys2Proof.Machine

/-- The first tick at or after an instant in sixteenths of a tick. -/
def tickOf (t16 : Nat) : Nat := (t16 + 15) / 16

/-! ### Edges (R242, R247, R250) -/

/-- Whether the commanded levels of a leg at instant `t16` differ from those followed last. -/
def State.legDiffers (s : State) (g l t16 : Nat) : Bool :=
  if s.threeLevel g then
    let o := outerOf g
    let i := innerOf g
    s.legLevel o l (s.carrier o t16) != (s.grp o).level.get l false || s.legLevel i l (s.carrier i t16) != (s.grp i).level.get l false
  else s.legLevel g l (s.carrier g t16) != (s.grp g).level.get l false

/-- The next instant at which the commanded level of a leg changes (R242, R244). -/
def State.nextEdge (s : State) (g l : Nat) : Option Nat :=
  leastWith (fun t => s.legDiffers g l t) ((s.legEdges g l).map (s.nextAt g ((s.grp g).levelAt.get l 0)))

/-- PWM_EDGE: a leg of a driving group reaches its next edge. -/
def State.pwmEdge (s : State) (g l : Nat) : State :=
  if s.gstate g = gDriving ∧ s.carrierRuns g then
    match s.nextEdge g l with
    | none => s
    | some t => (s.until (t / 16)).followLeg g l t false
  else s

/-! ### Changes to come of one output (R247 to R252, R265) -/

/-- A change of the commanded level at the very instant of a turn-on is taken first, and cancels it (R247). -/
def State.levelFirst (s : State) (g k t : Nat) (c : SwChange) : State :=
  if c.on && c.kind == .pulse && s.gstate g == gDriving && s.carrierRuns g then s.followLeg g (k / 2) t false else s

/-- The change of an output of one of the kinds, if it may be made at some instant by itself, is made at that instant. -/
def State.changeDue (s : State) (g k : Nat) (held : Bool) : State :=
  match (s.sw g k).pend with
  | none => s
  | some c =>
    match s.changeAt g k c with
    | none => s
    | some (t, d) =>
      if (c.kind == .held) ≠ held then s
      else
        let s1 := (s.until (tickOf t)).levelFirst g k t c
        if (s1.sw g k).pend = some c then s1.makeChange g k c t d else s1

/-- DEAD_TIME_EXPIRY: an output's next change, a turn-on, an edge the interlock has put off or a step of an ordered change, is due
(R247, R252, R265). -/
def State.deadTimeExpiry (s : State) (g k : Nat) : State := s.changeDue g k false

/-- MIN_PULSE_EXPIRY: a turn-off held by MINP is due (R249). -/
def State.minPulseExpiry (s : State) (g k : Nat) : State := s.changeDue g k true

/-! ### Triggers (R259) -/

/-- TRIGGER_FIRE: trigger A (`false`) or B of a group fires at its prescaled occurrence. -/
def State.triggerFire (s : State) (g : Nat) (b : Bool) : State :=
  match s.trigInstant g b with
  | none => s
  | some t =>
    let s1 := s.until (tickOf t)
    let G := s1.grp g
    let G1 := G.counted b t 0
    s1.setGrp g (if b then { G1 with firedB := some (tickOf t) } else { G1 with firedA := some (tickOf t) })

/-! ### Trip inputs (R260 to R262) -/

/-- TRIP_INPUT: input `n` becomes active; TRIP_TIME is its first sample at the active level (R260, R261). While the time base stands it
acts without sampling or filter (R267); while RESET_N is low inputs are ignored (R45). -/
def State.tripActive (s : State) (n : Nat) : State :=
  if s.boot.resetLow || s.nth F.PWM_TRIPIN_LIVE n then s
  else
    let s1 := s.setNth F.PWM_TRIPIN_LIVE n true
    s1.tripInput n (if s.time.running then s.now - s.fld F.PWM_TRIPIN_FILTER else s.now) ((s1.tripTargets n).filter fun g => !s.bit F.PWMG_STATUS_TRIPPED g)

/-- TRIP_INPUT_INACTIVE: input `n` becomes inactive (R260, R361). -/
def State.tripInactive (s : State) (n : Nat) : State :=
  if !s.boot.resetLow && s.nth F.PWM_TRIPIN_LIVE n then (s.setNth F.PWM_TRIPIN_LIVE n false).clearLive K.TRIP_INPUT n else s

/-- The tick at which the blanking window of a group, if open, next closes (R262). -/
def State.blankEnd (s : State) (g : Nat) : Option Nat :=
  if !s.blanked g then some s.now
  else
    let b := s.fld F.PWMG_CFG_BLANK_GRP g
    let w := if s.bit F.PWMG_CFG_BLANK_SEL g then (s.fld F.PWMG_AUX_X1_START b, s.fld F.PWMG_AUX_X1_END b)
      else (s.fld F.PWMG_AUX_X0_START b, s.fld F.PWMG_AUX_X0_END b)
    if extreme w.1 then none else some (tickOf (s.nextAt b s.now16 (offPos (s.gper b) w.2 % (16 * s.gper b))))

/-- TRIP_AFTER_BLANKING: the window of group `g` closes while input `n` is still active (R262). -/
def State.tripAfterBlank (s0 : State) (g n : Nat) : State :=
  match s0.blankEnd g with
  | none => s0
  | some t =>
    let s := s0.until t
    if s.nth F.PWM_TRIPIN_LIVE n && s.nth F.PWMG_CFG_TRIP_MASK n g && !s.bit F.PWMG_STATUS_TRIPPED g && !s.blanked g then
      s.tripInput n s.now [g]
    else s

/-- Inputs that are live and no longer named by any TRIP_MASK: their wires fall (R361). -/
def State.tripUnnamed (s : State) : State :=
  s.forRange 32 fun s n =>
    if s.nth F.PWM_TRIPIN_LIVE n && s.flt.live.contains (sourceNo K.TRIP_INPUT n) && !s.tripNamedBy n then
      s.clearLive K.TRIP_INPUT n
    else s

/-- An applied write of PWM.TRIPIN, or module reset: every filter settles on its land, bit n of `lands` (R260, R261). -/
def State.settleTrips (s : State) (lands : Nat) : State :=
  let s1 := s.forRange 32 fun s n =>
    let act := lands.testBit n == s.nth F.PWM_TRIPIN_ACT_HIGH n
    if act then s.setNth F.PWM_TRIPIN_LIVE n true else s.tripInactive n
  s1.tripNamed

/-! ### PWMG.CTRL and PWMG.AUX (R258, R263, R266) -/

/-- A trip input of TRIP_MASK, or a comparator that trips the group, is active (R263). -/
def State.tripCause (s : State) (g : Nat) : Bool :=
  ((List.range 32).any fun n => s.nth F.PWMG_CFG_TRIP_MASK n g && s.nth F.PWM_TRIPIN_LIVE n)
    || (List.range 96).any fun i => (s.sds i).ocActive && s.nth F.CS_OC_TRIP_MASK g i

/-- A write of PWMG.CTRL by its fields (R263, R266, R457); refused whole while a trip's cause is active. -/
def State.pwmCtrl (s : State) (g : Nat) (en tripClr cntClr : Bool) : State × Result :=
  if tripClr && s.tripCause g then (s, refused 0x1)
  else
    let s1 := s.setBit F.PWMG_CTRL_EN en g
    let s2 := if tripClr then
        (s1.setBit F.PWMG_STATUS_TRIPPED false g).setFld F.PWMG_STATUS_TRIP_SRC 0xFF g
      else s1
    let s3 := if cntClr then
        [F.PWMG_STATUS_PULSE_EATEN, F.PWMG_STATUS_PULSE_HELD, F.PWMG_STATUS_LATE_CNT, F.PWMG_STATUS_DISCARDED,
         F.PWMG_STATUS_EATEN_SAT, F.PWMG_STATUS_HELD_SAT, F.PWMG_STATUS_LATE_SAT, F.PWMG_STATUS_DISC_SAT,
         F.PWMG_STATUS_BADCMD].foldl (fun s f => s.setFld f 0 g) s2
      else s2
    (s3.refreshGang g, done)

/-- An applied write of PWMG.AUX restarts both trigger prescalers (R259). -/
def State.restartTriggers (s : State) (g : Nat) : State := 
  s.setGrp g { s.grp g with trigA := s.now16, trigB := s.now16, countA := 0, countB := 0 }

/-! ### Commands -/

/-- PWM_EDGE: leg `l` of a group reaches an ON or OFF position (R242). -/
def execPwmEdge (g : Fin 32) (l : Fin 3) (s : State) : Out := .next (s.pwmEdge g.val l.val)

/-- DEAD_TIME_EXPIRY: output `k` of a group may turn on (R247). -/
def execDeadTimeExpiry (g : Fin 32) (k : Fin 6) (s : State) : Out := .next (s.deadTimeExpiry g.val k.val)

/-- MIN_PULSE_EXPIRY: a held turn-off of output `k` is due (R249). -/
def execMinPulseExpiry (g : Fin 32) (k : Fin 6) (s : State) : Out := .next (s.minPulseExpiry g.val k.val)

/-- TRIGGER_FIRE: trigger A (`false`) or B of a group fires (R259). -/
def execTriggerFire (g : Fin 32) (b : Bool) (s : State) : Out := .next (s.triggerFire g.val b)

/-- TRIP_INPUT: TRIP_nn becomes active after its filter (R260, R261). -/
def execTripInput (n : Fin 32) (s : State) : Out := .next (s.tripActive n.val)

/-- TRIP_AFTER_BLANKING: a blanking window of a group closes while TRIP_nn is active (R262). -/
def execTripAfterBlanking (g n : Fin 32) (s : State) : Out := .next (s.tripAfterBlank g.val n.val)

/-- TRIP_INPUT_INACTIVE: TRIP_nn becomes inactive after its filter (R260). -/
def execTripInputInactive (n : Fin 32) (s : State) : Out := .next (s.tripInactive n.val)

end Sys2Proof.Machine
end

