-- ==== Sys2Proof/Machine/Items.lean ====
section
/-!
DEFINITION. The identifiers of input items and output ports (R8, R128, R133), and which of them a chapter defines.
-/

namespace Sys2Proof.Machine

/-- CLASS, INSTANCE and OBJECT of an identifier (Table 00.3). -/
def idClass (id : Nat) : Nat := id / 2 ^ 12 % 2 ^ 4
def idInst (id : Nat) : Nat := id / 2 ^ 6 % 2 ^ 6
def idObj (id : Nat) : Nat := id % 2 ^ 6

/-- The identifier of a class, instance and object. -/
def mkId (cls inst obj : Nat) : Nat := cls * 2 ^ 12 + inst * 2 ^ 6 + obj

/-- Words of the input item of a class and object; none where no chapter defines one (R128). `nwords` is NWORDS of the receive
channel an item of class 0x8 names. -/
def itemWords (cls obj nwords : Nat) : Option Nat :=
  match cls with
  | 0x1 =>
    match obj with
    | 0x08 | 0x09 | 0x0F | 0x10 => some 1
    | 0x0A => some 7
    | 0x0B | 0x0E => some 2
    | 0x0C | 0x11 => some 4
    | 0x0D => some 12
    | _ => none
  | 0x2 => if obj = 0x08 ∨ obj = 0x09 then some 1 else none
  | 0x3 =>
    match obj with
    | 0x08 | 0x0C => some 2
    | 0x09 | 0x0A | 0x0B => some 1
    | _ => none
  | 0x4 => if obj = 0x08 ∨ obj = 0x28 then some 1 else none
  | 0x5 =>
    match obj with
    | 0x08 => some 8
    | 0x09 => some 1
    | 0x0A => some 16
    | _ => none
  | 0x6 => if obj = 0x08 then some 32 else none
  | 0x8 => if obj = 0x08 then some 1 else if obj = 0x10 then some nwords else none
  | 0x9 => if 0x08 ≤ obj ∧ obj < 0x10 then some 9 else none
  | 0xA =>
    match obj with
    | 0x08 | 0x09 => some 2
    | 0x0A => some 32
    | 0x0B => some 1
    | _ => none
  | 0xF => if obj = 0 then some 1 else none
  | _ => none

/-- Classes in which INSTANCE 63 denotes the task's own axis or channel (R128). -/
def ownClass (cls : Nat) : Bool := cls == 1 || cls == 3 || cls == 5 || cls == 6

/-- A PORT that a chapter defines as an output item (R133, R148, R175, R198, R268, R292, R319, R328, R134, Table 06.1). -/
def portDefined (port : Nat) : Bool :=
  let i := idInst port
  let o := idObj port
  match idClass port with
  | 0x1 => i == 63 && decide (0x14 ≤ o ∧ o ≤ 0x3B)
  | 0x2 => decide (i < 32 ∧ 0x10 ≤ o ∧ o ≤ 0x15)
  | 0x3 => decide (32 ≤ i ∧ i < 40) && (o == 0x10 || o == 0x11)
  | 0x5 => i == 63 && (o == 0x14 || decide (0x30 ≤ o ∧ o ≤ 0x3A))
  | 0x6 => i == 63 && decide (0x10 ≤ o ∧ o ≤ 0x15)
  | 0x8 => decide (8 ≤ i ∧ i < 16 ∧ 0x10 ≤ o)
  | 0x9 => decide (i < 4 ∧ 0x10 ≤ o)
  | 0xA => decide (i = 0 ∧ 0x10 ≤ o ∧ o ≤ 0x1F)
  | 0xF => o == 0
  | _ => false

/-- A port of the task's own axis, resolved to the axis instance (R148). -/
def ownPort (axis : Option Nat) (port : Nat) : Nat :=
  if ownClass (idClass port) && idInst port == 63 then
    match axis with
    | some a => mkId (idClass port) a (idObj port)
    | none => port
  else port

/-- A port that queues every word posted to it; on the others the last word of a period stands (R133, Table 06.1). -/
def portQueues (port : Nat) : Bool := idClass port == 0x5 && idObj port == 0x14

end Sys2Proof.Machine
end

