-- ==== Sys2Proof/Machine/Flags.lean ====
section
/-!
DEFINITION. The flags of a Cybinth lane (R115), the conditions on them (R116), and the store form's sticky flag (R118).
-/

namespace Sys2Proof.Machine

/-- The flags an operation sets: N, Z, G, W. -/
structure Nzgw where
  n : Bool
  z : Bool
  g : Bool
  w : Bool
  deriving DecidableEq, Repr

/-- The accumulator's 56 bits of an exact result (R120: wrapped modulo 2^56). -/
def wrap56 (v : Int) : Word56 := BitVec.ofInt 56 v

/-- W: the true result lies outside s8.47 (R115). -/
def wraps56 (v : Int) : Bool := decide ((wrap56 v).toInt ≠ v)

/-- N, Z and G of an accumulator's contents, with W given (R115). -/
def flagsOf (a : Word56) (w : Bool) : Nzgw :=
  { n := a.msb
    z := decide (a = 0)
    g := decide (a.toNat / 2 ^ 47 ≠ 0 ∧ a.toNat / 2 ^ 47 ≠ 2 ^ 9 - 1)
    w := w }

/-- The flags of an exact result (R115). -/
def flagsExact (v : Int) : Nzgw := flagsOf (wrap56 v) (wraps56 v)

/-- A condition on the flags (Table 04.8, R116). -/
def condHolds (c : Cond) (l : Lane) : Bool :=
  match c with
  | .al => true
  | .eq => l.flagZ
  | .ne => !l.flagZ
  | .mi => l.flagN
  | .pl => !l.flagN
  | .gt => !l.flagN && !l.flagZ
  | .le => l.flagN || l.flagZ
  | .gs => l.flagG
  | .gc => !l.flagG
  | .ws => l.flagW
  | .wc => !l.flagW
  | .ss => l.flagS
  | .sc => !l.flagS

/-- Write the flags N, Z, G, W; W also sets the sticky S (R115). -/
def Lane.setFlags (l : Lane) (f : Nzgw) : Lane :=
  { l with flagN := f.n, flagZ := f.z, flagG := f.g, flagW := f.w, flagS := l.flagS || f.w }

/-- Set the sticky flag S when an event of R113, R115 or R118 occurs. -/
def Lane.stick (l : Lane) (b : Bool) : Lane := { l with flagS := l.flagS || b }

end Sys2Proof.Machine
end

