-- ==== Sys2Proof/Machine/Operands.lean ====
section
/-!
DEFINITION. The operand forms of a Cybinth lane: registers, alignment of numbers (R105, R106), the store form (R118), pointers
and rings (R107), moves (R108, R109), long words (R119), and the memory accesses an instruction makes.
-/

namespace Sys2Proof.Machine

/-- Contents of accumulator `n`. -/
def Lane.acc (l : Lane) (n : Fin 8) : Word56 := l.a.get n 0

/-- Contents of data register `n`. -/
def Lane.dat (l : Lane) (n : Fin 8) : Word24 := l.d.get n 0

/-- Contents of pointer `n`. -/
def Lane.ptr (l : Lane) (n : Fin 8) : BitVec 14 := l.p.get n 0

/-- Anchor of pointer `n`. -/
def Lane.anchor (l : Lane) (n : Fin 8) : BitVec 14 := l.q.get n 0

/-- Modifier of pointer `n`. -/
def Lane.modi (l : Lane) (n : Fin 8) : Word24 := l.m.get n 0

def Lane.setAcc (l : Lane) (n : Fin 8) (v : Word56) : Lane := { l with a := l.a.set n v 0 }
def Lane.setDat (l : Lane) (n : Fin 8) (v : Word24) : Lane := { l with d := l.d.set n v 0 }
def Lane.setPtr (l : Lane) (n : Fin 8) (v : BitVec 14) : Lane := { l with p := l.p.set n v 0 }
def Lane.setModi (l : Lane) (n : Fin 8) (v : Word24) : Lane := { l with m := l.m.set n v 0 }

/-- Write a pointer together with its anchor, as task start, LDI, XFR and ADDP do (Table 04.3). -/
def Lane.setPtrAnchor (l : Lane) (n : Fin 8) (v : BitVec 14) : Lane :=
  { l with p := l.p.set n v 0, q := l.q.set n v 0 }

/-- ext(d): a data word widened to an accumulator (R106). -/
def ext (w : Word24) : Word56 := BitVec.ofInt 56 (w.toInt * 2 ^ 24)

/-- The exact product of two data words (R106). -/
def product (x y : Word24) : Int := 2 * x.toInt * y.toInt

/-- rnd(x) before its wrap (R113): half a step added, bits [23:0] cleared. -/
def rnd (x : Int) : Int := (x + 2 ^ 23) / 2 ^ 24 * 2 ^ 24

/-- The store form of an accumulator, and whether it saturated (R118). -/
def storeForm (a : Word56) : Word24 × Bool :=
  let s := (a.toInt + 2 ^ 23) / 2 ^ 24
  if s > 2 ^ 23 - 1 then (0x7FFFFF, true)
  else if s < -(2 ^ 23) then (0x800000, true)
  else (BitVec.ofInt 24 s, false)

/-- SPAN of a modifier (R107). -/
def spanOf (m : Word24) : Nat := m.toNat % 2 ^ 14

/-- STEP of a modifier, signed (R107). -/
def stepOf (m : Word24) : Int := (m.extractLsb' 14 10).toInt

/-- The increment a move's UPD gives (Table 04.5); none for no update. -/
def updInc (u : Upd) (m : Word24) : Option Int :=
  match u with
  | .none => .none
  | .inc => some 1
  | .dec => some (-1)
  | .step => some (stepOf m)

/-- Offset of a pointer within its ring (R107). -/
def ringOffset (p q : BitVec 14) : Nat := (p - q).toNat

/-- The pointer update of R107: linear with SPAN 0, within the ring otherwise. -/
def ringNext (p q : BitVec 14) (m : Word24) (inc : Int) : BitVec 14 :=
  if spanOf m = 0 then BitVec.ofInt 14 (p.toNat + inc)
  else BitVec.ofInt 14 (q.toNat + ((ringOffset p q : Int) + inc) % (spanOf m : Int))

/-- The pointer lies inside its ring, or addressing is linear (R107, R140). -/
def inRing (p q : BitVec 14) (m : Word24) : Bool := spanOf m == 0 || decide (ringOffset p q < spanOf m)

/-- Whether updating pointer `n` now is a defined use (R140). -/
def Lane.ptrOk (l : Lane) (n : Fin 8) : Bool := inRing (l.ptr n) (l.anchor n) (l.modi n)

/-- Update pointer `n` by `inc`. -/
def Lane.bump (l : Lane) (n : Fin 8) (inc : Int) : Lane :=
  l.setPtr n (ringNext (l.ptr n) (l.anchor n) (l.modi n) inc)

/-- A move's pointer update. -/
def Lane.updMove (l : Lane) (mv : Move) : Lane :=
  match mv with
  | .none => l
  | .load _ n u | .store _ n u _ | .coef _ n u =>
    match updInc u (l.modi n) with
    | .none => l
    | some i => l.bump n i

/-- A move's pointer update is a defined use (R140). -/
def Lane.updOk (l : Lane) (mv : Move) : Bool :=
  match mv with
  | .none => true
  | .load _ n u | .store _ n u _ | .coef _ n u => decide (u = .none) || l.ptrOk n

/-- The address of the `i`-th word of a long access at pointer `n`: each following address is the previous one updated
by +1 (R119). -/
def Lane.longAddr (l : Lane) (n : Fin 8) (i : Nat) : BitVec 14 :=
  match i with
  | 0 => l.ptr n
  | i + 1 => ringNext (l.longAddr n i) (l.anchor n) (l.modi n) 1

/-- A word of the X or Y memory, of a bank or of nothing else (R103). -/
def Lane.word (l : Lane) (mem : LaneMem) (addr : Nat) : Word24 :=
  match mem with
  | .x => l.x.get addr 0
  | .y => l.y.get addr 0
  | .bankA => l.bankA.get addr 0
  | .bankB => l.bankB.get addr 0
  | .prog => 0

/-- The memory word a register of a move holds when stored, and whether its store form saturated (R109). -/
def Lane.stored (l : Lane) (r : RegRef) : Word24 × Bool :=
  match r with
  | .d n => (l.dat n, false)
  | .a n => storeForm (l.acc n)

/-- Load a word into a register of a move: d takes the word, a takes ext(word) (R109). -/
def Lane.loadReg (l : Lane) (r : RegRef) (w : Word24) : Lane :=
  match r with
  | .d n => l.setDat n w
  | .a n => l.setAcc n (ext w)

/-- A store an instruction makes: memory, address, word, D bit. -/
structure StoreAcc where
  mem : LaneMem
  addr : Nat
  word : Word24
  delta : Bool
  deriving DecidableEq, Repr

/-- The word a load or coefficient move reads, with its place; `bank` is the bank in force. -/
def Lane.moveRead (l : Lane) (bank : LaneMem) (mem : LaneMem) (mv : Move) : Option (LaneMem × Nat × RegRef) :=
  match mv with
  | .load r n _ => some (mem, (l.ptr n).toNat, r)
  | .coef r n _ => some (bank, (l.ptr n).toNat % 4096, r)
  | _ => .none

/-- The store a move makes (R109). -/
def Lane.moveStore (l : Lane) (mem : LaneMem) (mv : Move) : List StoreAcc :=
  match mv with
  | .store r n _ dl => [⟨mem, (l.ptr n).toNat, (l.stored r).1, dl⟩]
  | _ => []

/-- Whether a move's store form saturates (R118). -/
def Lane.moveSat (l : Lane) (mv : Move) : Bool :=
  match mv with
  | .store r _ _ _ => (l.stored r).2
  | _ => false

/-- The three words of a long store: a.w, a.u, then a.g sign-extended (R119). -/
def longWords (a : Word56) : List Word24 :=
  [a.extractLsb' 0 24, a.extractLsb' 24 24, BitVec.ofInt 24 (a.extractLsb' 48 8).toInt]

/-- The accumulator a long load forms from three words (R119). -/
def longJoin (w0 w1 w2 : Word24) : Word56 := (w2.extractLsb' 0 8 ++ (w1 ++ w0 : BitVec 48) : BitVec 56)

/-- Write one memory word; a word stored carries good parity, and stores outside the state regions are remembered for
R131. -/
def Lane.writeWord (l : Lane) (mem : LaneMem) (addr : Nat) (w : Word24) : Lane :=
  let l := { l with badParity := l.badParity.filter (fun e => e ≠ (mem, addr)) }
  match mem with
  | .x => { l with x := l.x.set addr w 0,
                   xStored := if l.xTop ≤ addr then addr :: l.xStored.filter (· ≠ addr) else l.xStored }
  | .y => { l with y := l.y.set addr w 0,
                   yStored := if l.yTop ≤ addr then addr :: l.yStored.filter (· ≠ addr) else l.yStored }
  | .bankA => { l with bankA := l.bankA.set addr w 0 }
  | .bankB => { l with bankB := l.bankB.set addr w 0 }
  | .prog => l

/-- Entries a delta buffer holds (R100). -/
def deltaCapacity : Nat := 384

/-- One store: it writes memory, and with D = 1 adds a delta entry unless the buffer is full (R131). -/
def Lane.store (l : Lane) (t : StoreAcc) : Lane :=
  let l := l.writeWord t.mem t.addr t.word
  if t.delta && decide (l.delta.length < deltaCapacity) then { l with delta := l.delta ++ [⟨t.mem, t.addr, t.word⟩] }
  else l

/-- A store that finds the delta buffer full (R131). -/
def Lane.overflows (l : Lane) (ts : List StoreAcc) : Bool :=
  decide (deltaCapacity < l.delta.length + (ts.filter (·.delta)).length)

/-- A store is a defined use: not into the X input area (R103), and with D = 1 into a state region (R131). -/
def Lane.storeFault (l : Lane) (t : StoreAcc) : Option Fault :=
  if t.mem = .x ∧ 0x3C00 ≤ t.addr then some .storeInputArea
  else if l.task.isSome && !t.delta && ((t.mem == .x && decide (t.addr < l.xTop)) || (t.mem == .y && decide (t.addr < l.yTop)))
    then some .stateStoreWithoutDelta
  else .none

/-- A read is a defined use: a word outside the state regions and the input area was stored before in this period
(R131). -/
def Lane.readOk (l : Lane) (mem : LaneMem) (addr : Nat) : Bool :=
  l.task.isNone ||
    (match mem with
     | .x => decide (addr < l.xTop) || decide (0x3C00 ≤ addr) || l.xStored.contains addr
     | .y => decide (addr < l.yTop) || l.yStored.contains addr
     | _ => true)

end Sys2Proof.Machine
end

