-- ==== Sys2Proof/Machine/LaneAlu.lean ====
section
/-!
DEFINITION. The results of the Format A operations (R113, Table 04.6), as exact integer functions of the operands.
-/

namespace Sys2Proof.Machine

/-- What a Format A operation writes: accumulators, at most one data register, the flags, and the sticky flag's event. -/
structure AluOut where
  accs : List (Fin 8 × Word56) := []
  dat : Option (Fin 8 × Word24) := none
  flags : Option Nzgw := none
  stick : Bool := false
  deriving DecidableEq, Repr

/-- An exact result written to a[DST], wrapped, with the flags it sets (R115, R120). -/
def AluOut.exact (dst : Fin 8) (v : Int) (stick : Bool := false) : AluOut :=
  { accs := [(dst, wrap56 v)], flags := some (flagsExact v), stick := stick }

/-- An accumulator written whole, W clear: the logical operations (R115). -/
def AluOut.bits (dst : Fin 8) (v : Word56) : AluOut :=
  { accs := [(dst, v)], flags := some (flagsOf v false) }

/-- a.u replaced, a.g and a.w unchanged (R113). -/
def withUpper (a : Word56) (u : Word24) : Word56 :=
  (a.extractLsb' 48 8 ++ (u ++ a.extractLsb' 0 24 : BitVec 48) : BitVec 56)

/-- CLIP (R113): saturate to the range from −1 to 1 − 2^−23, and tell whether that changed it. -/
def clip56 (a : Int) : Int × Bool :=
  if a > 2 ^ 47 - 2 ^ 24 then (2 ^ 47 - 2 ^ 24, true)
  else if a < -(2 ^ 47) then (-(2 ^ 47), true)
  else (a, false)

/-- QUOT (R113): the quotient on the s.23 grid, limited, and whether it was limited or D is 0. -/
def quot56 (a d : Int) : Int × Bool :=
  if d = 0 then (if 0 ≤ a then 2 ^ 23 - 1 else -(2 ^ 23), true)
  else
    let q := a.tdiv (2 * d)
    if q > 2 ^ 23 - 1 then (2 ^ 23 - 1, true)
    else if q < -(2 ^ 23) then (-(2 ^ 23), true)
    else (q, false)

/-- Bits `b` − 1 down to 0 of the integer square root of `n`, above the bits already found in `r`. -/
def isqrtFrom (n : Nat) : Nat → Nat → Nat
  | 0, r => r
  | b + 1, r => if (r + 2 ^ b) * (r + 2 ^ b) ≤ n then isqrtFrom n b (r + 2 ^ b) else isqrtFrom n b r

/-- floor(sqrt(n)) for n below 2^128. -/
def isqrt (n : Nat) : Nat := isqrtFrom n 64 0

/-- ROOT (R113): floor(sqrt(A / 2)), and 0 with S set for A < 0. -/
def root56 (a : Int) : Int × Bool := if a < 0 then (0, true) else (isqrt ((a / 2).toNat), false)

/-- The result of a Format A operation on the registers as they were before the instruction (R112, R113). Of TRIG's two results the
sine, the one written to a[DST], sets the flags (DESIGN CHOICE, log 85). -/
def aluOut (op : AOp) (f : FmtA) (l : Lane) : AluOut :=
  let a := (l.acc f.dst).toInt
  let b := (l.acc f.s1).toInt
  let x := l.dat f.s1
  let y := l.dat f.s2
  match op with
  | .nop => {}
  | .prod => .exact f.dst (product x y)
  | .padd => .exact f.dst (a + product x y)
  | .psub => .exact f.dst (a - product x y)
  | .prnd => .exact f.dst (rnd (product x y))
  | .addd => .exact f.dst (a + (ext x).toInt)
  | .subd => .exact f.dst (a - (ext x).toInt)
  | .adda => .exact f.dst (a + b)
  | .suba => .exact f.dst (a - b)
  | .copy => .exact f.dst b
  | .widen => .exact f.dst (ext x).toInt
  | .neg => .exact f.dst (-a)
  | .abs => .exact f.dst (if 0 ≤ a then a else -a)
  | .zero => .exact f.dst 0
  | .max => .exact f.dst (if b ≤ a then a else b)
  | .min => .exact f.dst (if a ≤ b then a else b)
  | .round => .exact f.dst (rnd a)
  | .clip => .exact f.dst (clip56 a).1 (clip56 a).2
  | .cmp => { flags := some (flagsExact (a - b)) }
  | .tst => { flags := some (flagsExact a) }
  | .and => .bits f.dst (withUpper (l.acc f.dst) ((l.acc f.dst).extractLsb' 24 24 &&& x))
  | .or => .bits f.dst (withUpper (l.acc f.dst) ((l.acc f.dst).extractLsb' 24 24 ||| x))
  | .xor => .bits f.dst (withUpper (l.acc f.dst) ((l.acc f.dst).extractLsb' 24 24 ^^^ x))
  | .quot => .exact f.dst ((quot56 a x.toInt).1 * 2 ^ 24) (quot56 a x.toInt).2
  | .root => .exact f.dst ((root56 a).1 * 2 ^ 24) (root56 a).2
  | .trig =>
    { accs := [(f.dst, wrap56 (sine24 x.toNat * 2 ^ 24)),
               (f.dst ^^^ 1, wrap56 (cosine24 x.toNat * 2 ^ 24))]
      flags := some (flagsExact (sine24 x.toNat * 2 ^ 24)) }
  | .padr => .exact f.dst (rnd (a + product x y))
  | .pack => { dat := some (f.s2, (storeForm (l.acc f.s1)).1), stick := (storeForm (l.acc f.s1)).2 }
  | .high => { dat := some (f.s2, (l.acc f.s1).extractLsb' 24 24) }

/-- Write an operation's result into the registers and flags. -/
def Lane.writeAlu (l : Lane) (r : AluOut) : Lane :=
  let l := r.accs.foldl (fun l e => l.setAcc e.1 e.2) l
  let l := match r.dat with
    | .none => l
    | some e => l.setDat e.1 e.2
  let l := match r.flags with
    | .none => l
    | some fl => l.setFlags fl
  l.stick r.stick

end Sys2Proof.Machine
end

