-- ==== Sys2Proof/Machine/LaneStep.lean ====
section
/-!
DEFINITION. One instruction of one copy of a lane (R108 to R140): the accesses it makes, the uses it leaves undefined, its
effect on the copy, flow of control, task start and task end.
-/

namespace Sys2Proof.Machine

/-! ### Flow of control (R122, R123) -/

/-- The loops counting the instruction at `pc` as their END retire it, innermost first: the address to restart at, if a
loop's count stays above 0, and the loops still active (R123). -/
def retireLoops (pc : Nat) : List LoopRec → Option Nat × List LoopRec
  | [] => (none, [])
  | lp :: r =>
    if lp.last = pc then
      if lp.left ≤ 1 then retireLoops pc r else (some lp.start, { lp with left := lp.left - 1 } :: r)
    else ((retireLoops pc r).1, lp :: (retireLoops pc r).2)

/-- The loops that stay active when control goes from `pc` to `target` by a branch or a return (R123). -/
def exitLoops (pc target : Nat) : List LoopRec → List LoopRec
  | [] => []
  | lp :: r =>
    if (exitLoops pc target r).length < r.length then exitLoops pc target r
    else if lp.start ≤ pc ∧ pc ≤ lp.last ∧ (target < lp.start ∨ lp.last < target) then exitLoops pc target r
    else lp :: exitLoops pc target r

/-- Continue in sequence: the next address, or the start of a loop whose body ends here (R122, R123). -/
def Lane.seqNext (l : Lane) : Lane :=
  { l with
    pc := match (retireLoops l.pc l.loops).1 with
      | none => l.pc + 1
      | some a => a
    loops := (retireLoops l.pc l.loops).2 }

/-- Continue at `target`, by a branch or a return. -/
def Lane.jump (l : Lane) (target : Nat) : Lane :=
  { l with pc := target, loops := exitLoops l.pc target l.loops }

/-! ### The accesses of an instruction -/

/-- The memory words an instruction reads beside its own (R100, R109, R119). -/
def Lane.reads (l : Lane) (bank : LaneMem) (op : LaneOp) : List (LaneMem × Nat) :=
  match op with
  | .fmtA _ f =>
    ((l.moveRead bank .x f.xm).toList ++ (l.moveRead bank .y f.ym).toList).map fun e => (e.1, e.2.1)
  | .lld _ n y =>
    [0, 1, 2].map fun i => (if y then .y else .x, (l.longAddr n i).toNat)
  | _ => []

/-- The memory words an instruction stores, in the order of their delta entries (R112, R119). -/
def Lane.stores (l : Lane) (op : LaneOp) : List StoreAcc :=
  match op with
  | .fmtA _ f => l.moveStore .x f.xm ++ l.moveStore .y f.ym
  | .lst acc n y dl =>
    (longWords (l.acc acc)).mapIdx fun i w => ⟨if y then .y else .x, (l.longAddr n i).toNat, w, dl⟩
  | _ => []

/-- The words read with a wrong parity bit, the instruction's own word included (R102). -/
def Lane.parityHits (l : Lane) (bank : LaneMem) (op : LaneOp) : List (LaneMem × Nat) :=
  ((LaneMem.prog, l.pc) :: l.reads bank op).filter l.badParity.contains

/-! ### The uses a program must not make (R140) -/

/-- Operations that must not stand last in a loop body (R123). -/
def isControl (op : LaneOp) : Bool :=
  match op with
  | .bra _ _ | .call _ _ | .ret _ | .loop _ _ | .end_ => true
  | _ => false

/-- The program word at an address is a BRA, CALL, RET, LOOP or END (Table 04.7, R123). -/
def Lane.controlAt (l : Lane) (addr : Nat) : Bool :=
  let w := (l.prog.get addr 0).toNat
  w / 2 ^ 47 % 2 == 1 && [0x00, 0x04, 0x05, 0x06, 0x07].contains (w / 2 ^ 41 % 2 ^ 6)

/-- The count a LOOP starts with (R123). -/
def Lane.loopCount (l : Lane) (c : Nat ⊕ Fin 8) : Nat :=
  match c with
  | .inl n => n
  | .inr r => (l.dat r).toNat % 2 ^ 16

/-- A coefficient load stands in XM (R111), or DST of PACK or HIGH is not 0 (R113). -/
def fmtAReserved (op : AOp) (f : FmtA) : Bool :=
  (match f.xm with
   | .coef _ _ _ => true
   | _ => false) || ((op == .pack || op == .high) && f.dst != 0)

/-- The undefined use an operation's own rule names, if the instruction makes one (R140). -/
def Lane.opFault (l : Lane) (op : LaneOp) : Option Fault :=
  match op with
  | .fmtA o f =>
    if fmtAReserved o f then some .reservedEncoding
    else if !l.updOk f.xm then some .pointerOutsideRing
    else if !(l.updMove f.xm).updOk f.ym then some .pointerOutsideRing
    else none
  | .shl _ n | .shr _ n => if 55 < n then some .shiftAbove55 else none
  | .call c _ => if condHolds c l && decide (8 ≤ l.calls.length) then some .callDepth else none
  | .ret c => if condHolds c l && l.calls.isEmpty then some .retEmpty else none
  | .loop c last =>
    if last < l.pc + 1 then some .loopEndBelow
    else if l.controlAt last then some .controlEndsLoop
    else if 0 < l.loopCount c ∧ 4 ≤ l.loops.length then some .loopDepth
    else none
  | .post _ port => if portDefined port then none else some .undefinedPort
  | .lst _ n _ _ | .lld _ n _ => if l.ptrOk n then none else some .pointerOutsideRing
  | .end_ | .ldi _ _ _ | .bra _ _ | .xfr _ _ _ | .addp _ _ => none

/-- The undefined use of R140 an instruction makes in this state of the copy, if it makes one. -/
def Lane.fault (l : Lane) (bank : LaneMem) (op : LaneOp) : Option Fault :=
  if 0x1FFF < l.pc then some .pastProgramEnd
  else if l.loops.any (fun lp => lp.last == l.pc && decide (lp.depth < l.calls.length)) then some .loopEndInCall
  else if isControl op && l.loops.any (fun lp => lp.last == l.pc) then some .controlEndsLoop
  else match l.opFault op with
    | some e => some e
    | none =>
      match (l.stores op).findSome? l.storeFault with
      | some e => some e
      | none => if (l.reads bank op).all (fun r => l.readOk r.1 r.2) then none else some .readBeforeStore

/-! ### Tasks (R130) -/

/-- The registers at the start of a task (R130). -/
def Lane.startTask (l : Lane) (t : TaskAlloc) : Lane :=
  let other := t.other.getD (t.xBase, t.yBase)
  let ptrs : SMap (BitVec 14) :=
    [(0, t.xBase), (1, t.yBase), (2, t.inBase), (3, t.coefBase), (4, other.1), (5, other.2)].foldl
      (fun m e => m.set e.1 (BitVec.ofNat 14 e.2) 0) []
  { l with
    a := [], d := SMap.set [] 7 (if t.other.isSome then 1 else 0) 0
    p := ptrs, q := ptrs, m := []
    flagN := false, flagZ := false, flagG := false, flagW := false, flagS := false
    pc := t.entry, calls := [], loops := [], task := some t }

/-- Post the delta buffer in order and the end marker (R130, R132). -/
def Lane.finishPeriod (l : Lane) : Lane :=
  { l with
    posts := l.posts ++ l.delta.map .delta ++ [.endMark l.retired l.sOr l.delta.length]
    delta := [], task := none, rest := [] }

/-- The end of the running task: the next task of the period starts, or the period's delta words and end marker are
posted (R130). -/
def Lane.endTask (l : Lane) : Lane :=
  let l := { l with sOr := l.sOr || l.flagS }
  match l.rest with
  | [] => l.finishPeriod
  | t :: r => { l with rest := r }.startTask t

/-! ### The effect of an instruction -/

/-- Load the word a move reads from the memories as they were before the instruction (R112). -/
def Lane.loadFrom (l old : Lane) (r : Option (LaneMem × Nat × RegRef)) : Lane :=
  match r with
  | none => l
  | some e => l.loadReg e.2.2 (old.word e.1 e.2.1)

/-- A Format A instruction, but for its place in the program (R112). -/
def Lane.runA (l : Lane) (bank : LaneMem) (op : AOp) (f : FmtA) : Lane :=
  let l1 := l.writeAlu (aluOut op f l)
  let l2 := (l1.loadFrom l (l.moveRead bank .y f.ym)).loadFrom l (l.moveRead bank .x f.xm)
  let l3 := (l.moveStore .x f.xm ++ l.moveStore .y f.ym).foldl Lane.store l2
  ((l3.stick (l.moveSat f.xm || l.moveSat f.ym)).updMove f.xm).updMove f.ym

/-- SHL (Table 04.7, R115): the exact result and all flags; W says whether it wrapped. -/
def Lane.shiftLeft (l : Lane) (n : Fin 8) (v : Int) : Lane := (l.setAcc n (wrap56 v)).setFlags (flagsExact v)

/-- SHR (Table 04.7, R115): the floor of the quotient; N, Z and G follow it, and W, which SHL alone sets, stays (DEDUCED, log
entry 69). -/
def Lane.shiftRight (l : Lane) (n : Fin 8) (v : Int) : Lane :=
  { l.setAcc n (wrap56 v) with flagN := (flagsExact v).n, flagZ := (flagsExact v).z, flagG := (flagsExact v).g }

/-- LDI (R114). -/
def Lane.loadImm (l : Lane) (c : LdiCls) (n : Fin 8) (imm : Word24) : Lane :=
  match c with
  | .d => l.setDat n imm
  | .p => l.setPtrAnchor n (imm.extractLsb' 0 14)
  | .m => l.setModi n imm
  | .a => l.setAcc n (ext imm)

/-- LOOP (R123). -/
def Lane.beginLoop (l : Lane) (count last : Nat) : Lane :=
  if count = 0 then { l with pc := last + 1 }
  else { l with pc := l.pc + 1, loops := ⟨l.pc + 1, last, count, l.calls.length⟩ :: l.loops }

/-- The effect of one instruction on its copy, END apart from the tasks it ends (R112 to R124). -/
def Lane.run (l : Lane) (bank : LaneMem) (op : LaneOp) : Lane :=
  let r := { l with retired := l.retired + 1 }
  match op with
  | .fmtA o f => (r.runA bank o f).seqNext
  | .end_ => r.endTask
  | .ldi c n imm => (r.loadImm c n imm).seqNext
  | .shl n k => (r.shiftLeft n ((l.acc n).toInt * 2 ^ k)).seqNext
  | .shr n k => (r.shiftRight n ((l.acc n).toInt / 2 ^ k)).seqNext
  | .bra c t => if condHolds c l then r.jump t else r.seqNext
  | .call c t => if condHolds c l then { r with calls := (l.pc + 1) :: l.calls, pc := t } else r.seqNext
  | .ret c =>
    if condHolds c l then { r with calls := l.calls.tail }.jump (l.calls.headD 0) else r.seqNext
  | .loop c last => r.beginLoop (l.loopCount c) last
  | .post reg port =>
    ({ r with posts := l.posts ++ [Post.output (ownPort (l.task.map TaskAlloc.axis) port) (l.stored reg).1] }.stick (l.stored reg).2).seqNext
  | .lst _ n _ _ => (((l.stores op).foldl Lane.store r).setPtr n (l.longAddr n 3)).seqNext
  | .lld n p y =>
    let w := fun i => l.word (if y then .y else .x) (l.longAddr p i).toNat
    ((r.setAcc n (longJoin (w 0) (w 1) (w 2))).setPtr p (l.longAddr p 3)).seqNext
  | .xfr toD dn pn =>
    (if toD then r.setDat dn ((l.ptr pn).setWidth 24) else r.setPtrAnchor pn ((l.dat dn).extractLsb' 0 14)).seqNext
  | .addp n off => (r.setPtrAnchor n (BitVec.ofNat 14 ((l.ptr n).toNat + off))).seqNext

/-- The instruction finds the delta buffer full for one of its entries (R131). -/
def Lane.overflowed (l : Lane) (op : LaneOp) : Bool := l.overflows (l.stores op)

end Sys2Proof.Machine
end

