-- ==== Sys2Proof/Machine/Can.lean ====
section
/-!
DEFINITION. CAN channels (10_time_and_networks, R98, R324 to R332).
-/

namespace Sys2Proof.Machine

def State.cans (s : State) (c : Nat) : CanSt := s.net.can.get c {}
def State.setCans (s : State) (c : Nat) (v : CanSt) : State := { s with net := { s.net with can := s.net.can.set c v {} } }

/-! ### Frames (R325) -/

/-- A frame from its 16-byte header and data (Table 10.5), both little-endian from bit 0. -/
def canFrameOf (v : Nat) : CanFrame :=
  let len := getBits v 48 16
  { id := getBits v 0 31, format := getBits v 32 8, flags := getBits v 40 4, len := len, sdt := getBits v 64 8, vcid := getBits v 72 8
    af := getBits v 96 32, data := getBits v 128 (8 * len) }

/-- The 16-byte header of a frame. -/
def canHeader (f : CanFrame) : Nat :=
  f.id % 2 ^ 31 + f.format % 2 ^ 8 * 2 ^ 32 + f.flags % 2 ^ 4 * 2 ^ 40 + f.len % 2 ^ 16 * 2 ^ 48 + f.sdt % 2 ^ 8 * 2 ^ 64
    + f.vcid % 2 ^ 8 * 2 ^ 72 + f.af % 2 ^ 32 * 2 ^ 96

/-- A reserved field of a header is set (R326): bit 31 of ID, FORMAT above 2, FLAGS [7:4], bytes 10 and 11. -/
def canReserved (v : Nat) : Bool :=
  v.testBit 31 || decide (2 < getBits v 32 8) || getBits v 44 4 != 0 || getBits v 80 16 != 0

/-- LEN is valid for a format (Table 10.5). -/
def canLenOk (format len : Nat) : Bool :=
  match format with
  | 0 => decide (len ≤ 8)
  | 1 => decide (len ≤ 8) || [12, 16, 20, 24, 32, 48, 64].contains len
  | 2 => decide (1 ≤ len ∧ len ≤ 2048)
  | _ => false

/-- The channel handles a format (CAN.CFG). -/
def State.canFormat (s : State) (c format : Nat) : Bool :=
  match format with
  | 0 => true
  | 1 => s.bit F.CAN_CFG_FD_EN c
  | 2 => s.bit F.CAN_CFG_XL_EN c
  | _ => false

/-- IDE of a frame; XL frames count as base (R329). -/
def canIde (f : CanFrame) : Bool := f.format != 2 && f.id.testBit 29

/-- The order of arbitration: the 11 leading identifier bits, a base identifier before an extended one, the 18 others (R327). -/
def canKey (f : CanFrame) : Nat :=
  if (canIde f) then f.id % 2 ^ 29 / 2 ^ 18 * 2 ^ 19 + 2 ^ 18 + f.id % 2 ^ 18 else f.id % 2 ^ 11 * 2 ^ 19

def canOneShot (f : CanFrame) : Bool := f.flags.testBit 2

/-! ### Bus state (R324, R327, R332) -/

/-- The bus state of a channel changes; the live sources follow it (Table 10.6). -/
def State.canState (s : State) (c st : Nat) : State :=
  let v := s.cans c
  let s1 := s.setCans c { v with busState := st }
  let s2 := if v.busState = 1 ∧ st ≠ 1 then s1.clearLive K.CAN_ERR_PASSIVE c
    else if v.busState ≠ 1 ∧ st = 1 then s1.raise K.CAN_ERR_PASSIVE c (min 255 v.tec + min 255 v.recErr * 2 ^ 8) 1
    else s1
  if v.busState = 2 ∧ st ≠ 2 then s2.clearLive K.CAN_BUS_OFF c
  else if v.busState ≠ 2 ∧ st = 2 then s2.raise K.CAN_BUS_OFF c c 1
  else s2

/-- The controller's error counters: error-passive from 128 in either (ISO 11898-1). -/
def State.canErrors (s : State) (c tec rec_ : Nat) : State :=
  let v := s.cans c
  let s1 := s.setCans c { v with tec := tec, recErr := rec_ }
  if 2 ≤ v.busState then s1 else s1.canState c (if 128 ≤ tec ∨ 128 ≤ rec_ then 1 else 0)

/-- The channel sends and receives: enabled, neither bus-off nor integrating, not fenced. -/
def State.canOn (s : State) (c : Nat) : Bool :=
  s.bit F.CAN_CFG_EN c && decide ((s.cans c).busState < 2) && !s.fenced (.can c)

/-! ### Reception (R329 to R331) -/

/-- The first enabled filter entry that a frame matches (R329). -/
def State.canFilter (s : State) (c : Nat) (f : CanFrame) : Option Nat :=
  (List.range 16).find? fun e =>
    let fid := s.fld F.CAN_FILTER_ID c e
    let id := if f.format = 2 then f.id % 2 ^ 11 else f.id % 2 ^ 29
    s.bit F.CAN_FILTER_EN c e && ((id ^^^ fid) &&& s.fld F.CAN_FILTER_MASK c e) % 2 ^ 29 == 0 && (canIde f) == fid.testBit 29

/-- Entries a frame takes in the receive queue (R331). -/
def rxEntries (len : Nat) : Nat := 1 + (len - 64 + 95) / 96

/-- A frame goes into the receive queue whole, or is lost (R331). -/
def State.rxqPut (s : State) (c : Nat) (f : CanFrame) (sof : Nat) : State :=
  let prod : Pos := (s.fld F.CAN_RXCTL_PROD c, s.bit F.CAN_RXCTL_PROD_PHASE c)
  let cons : Pos := (s.fld F.CAN_RXCTL_CONS c, s.bit F.CAN_RXCTL_CONS_PHASE c)
  let n := rxEntries f.len
  if 256 < posDist 256 cons prod + n then
    let v := s.cans c
    let q := satNat 0xFFFF v.rxLost v.lostSat
    (s.setCans c { v with rxLost := q.1, lostSat := q.2 }).raise K.CAN_RX_LOST c (c + f.id % 2 ^ 32 * 2 ^ 32) 1
  else
    let entry := fun (k : Nat) =>
      if k = 0 then (canHeader f) + sof % 2 ^ 64 * 2 ^ 128 + (n - 1) * 2 ^ 192 + f.data % 2 ^ 512 * 2 ^ 256
      else f.data / 2 ^ (512 + 768 * (k - 1)) % 2 ^ 768
    let put := fun (s : State) (k : Nat) =>
      let v := s.cans c
      s.setCans c { v with rxq := v.rxq.set ((prod.1 + k) % 256) (entry k) 0 }
    let s1 := (List.range n).foldl put s
    let next := (List.range n).foldl (fun (p : Pos) _ => posNext 256 p) prod
    (s1.setFld F.CAN_RXCTL_PROD next.1 c).setBit F.CAN_RXCTL_PROD_PHASE next.2 c

/-- A frame goes into a lane receive slot (R330). -/
def State.rxSlotPut (s : State) (c k : Nat) (f : CanFrame) : State :=
  let v := s.cans c
  let r := v.rxSlots.get k {}
  s.setCans c { v with rxSlots := v.rxSlots.set k { r with frame := some f, count := min 63 (r.count + 1) } {} }

/-- A received frame, its start `sof`, is routed (R329). -/
def State.canReceive (s : State) (c : Nat) (f : CanFrame) (sof : Nat) : State :=
  match s.canFilter c f with
  | none => s
  | some e =>
    let s1 := if s.bit F.CAN_FILTER_HOST c e then s.rxqPut c f sof else s
    if s.bit F.CAN_FILTER_LANE c e then s1.rxSlotPut c (s.fld F.CAN_FILTER_SLOT c e) f else s1

/-! ### Pending frames (R326 to R328) -/

def CanPending.isHost (p : CanPending) : Bool := match p.owner with
  | .host _ _ _ => true
  | .slot _ => false

/-- CAN_TX at application (R326): `v` is the header and data, `size` their length in bytes. -/
def State.canTx (s : State) (c v size : Nat) (ref : CmdRef) : State × Option Result :=
  if !(s.mode == .configure || s.mode == .commission || s.mode == .run || s.mode == .hold) then (s, some s.wrongMode)
  else if s.fenced (.can c) then (s, some (blockReset 3))
  else
    let f := canFrameOf v
    let st := s.cans c
    if !s.bit F.CAN_CFG_EN c || s.bit F.CAN_CFG_LISTEN c then (s, some (refused 0x1))
    else if canReserved v || !s.canFormat c f.format then (s, some (refused 0x2))
    else if !canLenOk f.format f.len || f.len + 16 != size then (s, some (refused 0x3))
    else if 16 ≤ (st.pending.filter (·.isHost)).length then (s, some (refused 0x4))
    else (s.setCans c { st with pending := st.pending ++ [{ owner := .host ref.1 ref.2.1 ref.2.2, frame := f }] }, none)

/-- A pending frame leaves: a host frame's command ends with an outcome. -/
def State.canEnd (s : State) (c : Nat) (p : CanPending) (o : Result) : State :=
  let v := s.cans c
  let s1 := s.setCans c { v with pending := v.pending.erase p }
  match p.owner with
  | .host r i ph => s1.finishCmd (r, i, ph) o (s1.sealAt s1.now)
  | .slot _ => s1

/-- The frame of a transmit slot as its entry and words give it (R328); a LEN above the range of the slot or of the classic format acts as
its end (R458). -/
def State.slotFrame (s : State) (c d : Nat) : CanFrame :=
  let w := fun k => ((s.cans c).txWords.get (6 * d + k) 0).toNat
  let len := min (s.fld F.CAN_TXSLOT_LEN c d) (if s.fld F.CAN_TXSLOT_FORMAT c d = 0 then 8 else 16)
  let data := (List.range 6).foldl (fun m k => m + w k * 2 ^ (24 * k)) 0
  { id := s.fld F.CAN_TXSLOT_ID c d % 2 ^ 31, format := s.fld F.CAN_TXSLOT_FORMAT c d
    flags := s.fld F.CAN_TXSLOT_FLAGS c d % 16, len := len, data := data % 2 ^ (8 * len) }

/-- A slot's request at a boundary: it replaces the slot's previous frame not yet started (R328). -/
def State.slotRequest (s : State) (c d : Nat) : State :=
  if s.bit F.CAN_TXSLOT_EN c d && s.bit F.CAN_CFG_EN c && !s.bit F.CAN_CFG_LISTEN c && s.canFormat c (s.fld F.CAN_TXSLOT_FORMAT c d)
      && !s.fenced (.can c) && s.mode != .replay then
    let v := s.cans c
    let keep := v.pending.filter fun p => !(p.owner == .slot d && p.sof.isNone)
    s.setCans c { v with pending := keep ++ [{ owner := .slot d, frame := s.slotFrame c d }] }
  else s

/-- A posted word of a transmit slot (R328). -/
def State.postCan (s : State) (c k : Nat) (w : Word24) : State :=
  let v := s.cans c
  s.setCans c { v with txWords := v.txWords.set k w 0, txPosted := if v.txPosted.contains (k / 6) then v.txPosted else v.txPosted ++ [k / 6] }

/-- A word posted to a fenced channel is discarded and counted (R61). -/
def State.discardCan (s : State) (c : Nat) : State := s.setCans c { s.cans c with discarded := (s.cans c).discarded + 1 }

/-- The slot's nine words of R330. -/
def CanRxSlot.nine (r : CanRxSlot) : List Word24 :=
  match r.frame with
  | none => List.replicate 9 0
  | some f =>
    let w1 := f.id / 2 ^ 24 % 2 ^ 5 + (canIde f).toNat * 2 ^ 5 + f.format % 4 * 2 ^ 6 + (decide (0 < r.count)).toNat * 2 ^ 8
      + (decide (16 < f.len)).toNat * 2 ^ 9 + min 63 r.count * 2 ^ 10
    [BitVec.ofNat 24 f.id, BitVec.ofNat 24 w1, BitVec.ofNat 24 f.len]
      ++ (List.range 6).map fun k => BitVec.ofNat 24 (f.data % 2 ^ 128 / 2 ^ (24 * k))

/-- A boundary: posted slots request their frames, receive slots are latched (R328, R330). -/
def State.canBoundary (s : State) : State :=
  s.forRange 4 fun s c =>
    let posted := (s.cans c).txPosted
    let s1 := s.setCans c { s.cans c with txPosted := [] }
    let s2 := posted.foldl (fun s d => s.slotRequest c d) s1
    let latch := fun (m : SMap CanRxSlot) (k : Nat) =>
      let r := m.get k {}
      m.set k { r with words := if r.frame.isNone then [] else r.nine, count := 0 } {}
    s2.setCans c { s2.cans c with rxSlots := (List.range 8).foldl latch (s2.cans c).rxSlots }

/-- Word `w` of a receive slot as latched at the last boundary (R330). -/
def State.canSlotWord (s : State) (c k w : Nat) : Word24 := (((s.cans c).rxSlots.get k {}).words).getD w 0

/-- The pending frame that arbitration picks: the least identifier, the earliest request among equals (R327). -/
def bestPending (ps : List CanPending) : Option CanPending :=
  ps.foldl (fun b p => match b with
    | none => some p
    | some x => if (canKey p.frame) < (canKey x.frame) then some p else some x) none

/-- A pending frame may start: a slot's frame not in REPLAY (R40, R328). -/
def State.maySend (s : State) (p : CanPending) : Bool := p.isHost || s.mode != .replay

/-- CAN_START_OF_FRAME (R98, R327). -/
def State.canSof (s : State) (c : Nat) : State :=
  let v := s.cans c
  if !s.canOn c || s.bit F.CAN_CFG_LISTEN c || v.pending.any (·.sof.isSome) then s
  else
    match bestPending (v.pending.filter s.maySend) with
    | none => s
    | some p => s.setCans c { v with pending := v.pending.map fun q => if q = p then { q with sof := some s.now } else q }

/-- An ABORT of a CAN_TX at its application (R98): a frame whose attempt has started ends with that attempt; another is withdrawn.
`none` when the command has no pending frame. -/
def State.canAbort (s : State) (ref abortRef : CmdRef) : Option State :=
  (List.range 4).findSome? fun c =>
    let v := s.cans c
    match v.pending.find? fun p => p.owner == .host ref.1 ref.2.1 ref.2.2 with
    | none => none
    | some p =>
      if p.sof.isSome then
        some (s.setCans c { v with pending := v.pending.map fun q => if q = p then { q with aborting := some (refDetail abortRef) } else q })
      else some (s.canEnd c p { status := 0x01, detail := refDetail abortRef })

/-- How a transmission attempt ends (R327); in internal loopback the channel receives what it has sent (CAN.CFG.LOOPBACK). -/
def State.canFrameEnd (s : State) (c : Nat) (ok err : Bool) : State :=
  let v := s.cans c
  match v.pending.find? (·.sof.isSome) with
  | none => s
  | some p =>
    let s1 := if err then
        let q := satNat 0xFFFF v.errFrames v.errSat
        s.setCans c { v with errFrames := q.1, errSat := q.2 }
      else s
    if ok then (if s.bit F.CAN_CFG_LOOPBACK c then s1.canReceive c p.frame (p.sof.getD 0) else s1).canEnd c p (done (result := p.sof.getD 0))
    else
      match p.aborting with
      | some d => s1.canEnd c p { status := 0x01, detail := d }
      | none =>
        if (canOneShot p.frame) then s1.canEnd c p (stopped 0x1)
        else
          let v1 := s1.cans c
          s1.setCans c { v1 with pending := v1.pending.map fun q => if q = p then { q with sof := none } else q }

/-- A channel enters bus-off; without AUTO_REC its pending frames end STOPPED (R327). -/
def State.canBusOff (s : State) (c : Nat) : State :=
  let s1 := s.canFrameEnd c false false
  let s2 := s1.canState c 2
  if s.bit F.CAN_CFG_AUTO_REC c then s2 else (s2.cans c).pending.foldl (fun s p => s.canEnd c p (stopped 0x2)) s2

/-- A reset of a channel: pending requests are abandoned; error counters, buffers and the bus-off state are cleared (Table 02.7,
R327), the other counts kept. -/
def State.resetCan (s : State) (c : Nat) : State :=
  let s1 := (s.cans c).pending.foldl (fun s p => s.canEnd c p (blockReset 3)) s
  let s2 := s1.canState c 3
  let s3 := s2.setCans c { rxLost := (s2.cans c).rxLost, lostSat := (s2.cans c).lostSat, discarded := (s2.cans c).discarded }
  s3.resetObj .canRxctl c

/-- CAN.STATUS at a measurement instant. -/
def State.measureCan (s : State) (c : Nat) : State :=
  let v := s.cans c
  [(F.CAN_STATUS_STATE, v.busState), (F.CAN_STATUS_TEC, min 255 v.tec), (F.CAN_STATUS_REC, min 255 v.recErr),
   (F.CAN_STATUS_ERR_FRAMES, v.errFrames), (F.CAN_STATUS_RX_LOST, v.rxLost), (F.CAN_STATUS_ERR_SAT, v.errSat.toNat),
   (F.CAN_STATUS_LOST_SAT, v.lostSat.toNat)].foldl (fun s x => s.setFld x.1 x.2 c) s

/-- CAN.STATUS.CLR (R457). -/
def State.canClear (s : State) (c : Nat) : State :=
  s.setCans c { s.cans c with errFrames := 0, errSat := false, rxLost := 0, lostSat := false }

/-! ### Commands -/

/-- CAN_START_OF_FRAME: the controller starts a pending frame (R98, R327). -/
def execCanStartOfFrame (c : Fin 4) (s : State) : Out := .next (s.canSof c.val)

/-- CAN_FRAME_END: the attempt on the bus ends: `ok` in success, otherwise by lost arbitration or, with `err`, an error frame. `tec`
and `rec` are the controller's error counters after it, which ISO 11898-1 defines (R327). -/
def execCanFrameEnd (c : Fin 4) (ok err : Bool) (tec recErr : Fin 512) (s : State) : Out :=
  let s1 := s.inputTick
  if (s1.cans c.val).pending.any (·.sof.isSome) then .next ((s1.canFrameEnd c.val ok err).canErrors c.val tec.val recErr.val)
  else .next s

/-- CAN_FRAME_RX: a frame whose start lies `dur` ticks back is received to its end; `recErr` is the receive error counter after it
(R329). In internal loopback the channel does not hear the bus (DEDUCED, log entry 102). -/
def execCanFrameRx (c : Fin 4) (f : CanFrame) (dur : Nat) (recErr : Fin 512) (s : State) : Out :=
  let s1 := s.inputTick
  if s1.canOn c.val && !s1.bit F.CAN_CFG_LOOPBACK c.val && s1.canFormat c.val f.format && canLenOk f.format f.len then
    .next ((s1.canReceive c.val f (s1.now - dur)).canErrors c.val (s1.cans c.val).tec recErr.val)
  else .next s

/-- CAN_BUS_OFF: the channel enters bus-off (R327). -/
def execCanBusOff (c : Fin 4) (s : State) : Out := if s.canOn c.val then .next (s.canBusOff c.val) else .next s

/-- CAN_BUS_INTEGRATION: integration, or bus-off recovery under AUTO_REC, completes (Table 02.7, R327). -/
def execCanBusIntegration (c : Fin 4) (s : State) : Out :=
  let v := s.cans c.val
  if s.bit F.CAN_CFG_EN c.val && (v.busState == 3 || (v.busState == 2 && s.bit F.CAN_CFG_AUTO_REC c.val)) then
    .next ((s.setCans c.val { v with tec := 0, recErr := 0 }).canState c.val 0)
  else .next s

end Sys2Proof.Machine
end

