-- ==== Sys2Proof/Machine/Objects.lean ====
section
/-!
DEFINITION. Configuration objects as descriptors name them (R8, R9, R81): identifier to object and instance, sizes, bytes, the
instances a chapter assigns, and the configuration snapshot (R413).
-/

namespace Sys2Proof.Machine

/-- CLASS, INSTANCE and OBJECT of an object identifier (Table 00.3). -/
def oidClass (id : Nat) : Nat := id / 2 ^ 12 % 2 ^ 4
def oidInst (id : Nat) : Nat := id / 2 ^ 6 % 2 ^ 6
def oidObj (id : Nat) : Nat := id % 2 ^ 6

/-- The object an identifier names (R81); its INSTANCE takes part only where two blocks share a class. -/
def objOf (id : Nat) : Option Obj := Obj.ofId (oidClass id) (oidInst id) (oidObj id)

/-- Instances a chapter assigns to an object (R9). -/
def Obj.count : Obj → Nat
  | .axisCfg | .axisLimits | .axisComp | .axisStatus | .profLimits | .profStatus | .gearMaster => 40
  | .pwmgCfg | .pwmgAux | .pwmgCtrl | .pwmgStatus | .fbCfg | .fbSerial | .fbCtrl | .fbStatus => 32
  | .emuCfg | .emuStatus | .latchCfg | .latchResult | .cycTx => 8
  | .csCfg | .csOc | .csStatus => 96
  | .camProf => 64
  | .caravanCfg | .caravanSegbuf | .canCfg | .canFilter | .canStatus | .canRxq | .canRxctl | .canTxslot => 4
  | .cmpCfg | .cmpStatus | .cycRx => 16
  | .ethCfg | .ethStatus => 3
  | .engLane => 24
  | _ => 1

/-- The instance of the object an identifier names, as the store numbers it; none for an instance no chapter assigns (R9). -/
def instOf? (id : Nat) (o : Obj) : Option Nat :=
  let i := oidInst id
  match o with
  | .pwmTripin => if i = 32 then some 0 else none
  | .emuCfg | .emuStatus => if 32 ≤ i ∧ i < 40 then some (i - 32) else none
  | .csClk => if i = 48 then some 0 else none
  | .csCfg | .csOc | .csStatus => if i < 48 then some (i + 48 * (oidObj id / 32)) else none
  | .ethCfg | .ethStatus => if 1 ≤ i ∧ i < 4 then some (i - 1) else none
  | .cycTx => if 8 ≤ i ∧ i < 16 then some (i - 8) else none
  | .cycRx => if 16 ≤ i ∧ i < 32 then some (i - 16) else none
  | o => if i < o.count then some i else none

/-- Bytes of an object (R81). -/
def Obj.size : Obj → Nat
  | .sysPlace => 232
  | .camStage | .survUpload | .secLanemem => 4096
  | .caravanSegbuf => 152
  | .survBb => 64
  | .canRxq => 24576
  | o => o.entryBits / 8 * o.entries

/-- The object has fields a write sets (R413, R422). -/
def Obj.hasRw (o : Obj) : Bool := o.fields.any fun f => f.acc == .rw

/-- Contents of an instance of an object as one number, entry after entry. -/
def State.objBits (s : State) (o : Obj) (inst : Nat) : Nat :=
  (List.range o.entries).foldl (fun v e => v + s.obj o inst e * 2 ^ (o.entryBits * e)) 0

/-- Bits of no named field that a read returns nevertheless: bits [23:6] of the LINK word in GEAR.MASTER (R203). -/
def Obj.unnamedMask (o : Obj) : Nat := if o = .gearMaster then (2 ^ 18 - 1) * 2 ^ 38 else 0

/-- Contents as a read returns them: WO fields read 0 (R10). -/
def Obj.readMask (o : Obj) : Nat := o.accMask .ro + o.accMask .rw + o.accMask .w1c + o.unnamedMask

def State.objRead (s : State) (o : Obj) (inst : Nat) : Nat :=
  (List.range o.entries).foldl (fun v e => v + (s.obj o inst e &&& o.readMask) * 2 ^ (o.entryBits * e)) 0

/-- Identifiers of the configuration objects, rising. -/
def allIds : List (Nat × Obj × Nat) :=
  (List.range 1024).flatMap fun ci => (List.range 64).filterMap fun ob =>
    let id := ci * 64 + ob
    match objOf id with
    | none => none
    | some o => (instOf? id o).map (id, o, ·)

/-- The configuration snapshot: every object with RW fields (R413). -/
def State.snapshot (s : State) : List SnapObj :=
  (allIds.filter fun e => e.2.1.hasRw).map fun e => { id := e.1, len := e.2.1.size, value := s.objRead e.2.1 e.2.2 }

/-- Write the RW fields of an instance from a number that holds all its bytes. -/
def State.setRw (s : State) (o : Obj) (inst v : Nat) : State :=
  s.forRange o.entries fun s e =>
    let old := s.obj o inst e
    let m := o.accMask .rw
    let new := getBits v (o.entryBits * e) o.entryBits
    s.setObj o inst e ((old ^^^ (old &&& m)) ||| (new &&& m))

/-- Load a configuration snapshot (R415). -/
def State.loadSnapshot (s : State) (c : List SnapObj) : State :=
  c.foldl (fun s e =>
    match objOf e.id with
    | none => s
    | some o =>
      match instOf? e.id o with
      | none => s
      | some i => s.setRw o i e.value) s

/-- Bytes of a number, little-endian (R5). -/
def bytesOf (n v : Nat) : List Byte := (List.range n).map fun i => BitVec.ofNat 8 (v / 2 ^ (8 * i))

/-- The number little-endian bytes spell (R5). -/
def natOf (bs : List Byte) : Nat := bs.foldr (fun b v => b.toNat + 256 * v) 0

/-- `n` bytes from `off` as a number. -/
def rdNat (bs : List Byte) (off n : Nat) : Nat := natOf ((bs.drop off).take n)

end Sys2Proof.Machine
end

