-- ==== Sys2Proof/Machine/FieldIo.lean ====
section
/-!
DEFINITION. Field inputs and outputs and the isolation link, the hub's end and the island's (13_field_io, R380 to R397).
-/

namespace Sys2Proof.Machine

def State.dis (s : State) (i : Nat) : DiSt := s.fio.di.get i {}
def State.setDis (s : State) (i : Nat) (v : DiSt) : State := { s with fio := { s.fio with di := s.fio.di.set i v {} } }
def State.dos (s : State) (c : Nat) : DoSt := s.fio.dos.get c {}
def State.setDos (s : State) (c : Nat) (v : DoSt) : State := { s with fio := { s.fio with dos := s.fio.dos.set c v {} } }
def State.isl (s : State) (c : Nat) : IslandDo := s.fio.outs.get c {}
def State.setIsl (s : State) (c : Nat) (v : IslandDo) : State := { s with fio := { s.fio with outs := s.fio.outs.set c v {} } }

/-- Length of a frame slot, of the switching delay and of an offset step, in ticks (R388, R393). -/
abbrev slotTicks : Nat := 2000
abbrev switchDelay : Nat := 2400
abbrev ofsTicks : Nat := 400

/-- Boot has reached stage 0x7: the hub sends frames from then on (R392). -/
def State.hubUp (s : State) : Bool := s.fld F.SYS_BOOT_STAGE == 7 && !s.boot.resetLow

/-! ### Outputs: the level sent (R386 to R388) -/

/-- ISO_LOST is latched or live (Table 13.4, R395). -/
def State.isoLostHeld (s : State) : Bool := s.fio.isoLost || (s.latchOf (sourceNo K.ISO_LOST 0)).isSome

/-- ENABLE (R394). -/
def State.fioEnable (s : State) : Bool :=
  !(s.mode == .configure || s.mode == .replay || s.mode == .service) && !s.isoLostHeld

/-- The enabled compare units that name an output (R233). -/
def State.cmpNaming (s : State) (c : Nat) : List Nat :=
  (List.range 16).filter fun u => s.bit F.CMP_CFG_DO_EN u && s.fld F.CMP_CFG_DO u == c

/-- PULSE in ticks; 0 acts as 1 µs (R458). -/
def State.pulseTicks (s : State) (u : Nat) : Nat := 400 * max 1 (s.fld F.CMP_CFG_PULSE u)

/-- A compare unit's pulse in the frame that begins at `f`: level and OFS (R236, R388). -/
def State.pulseAt (s : State) (u f : Nat) : Bool × Nat :=
  match (s.cmpUnit u).pulse with
  | none => (false, 0)
  | some p =>
    let e := p + s.pulseTicks u
    if e < f + slotTicks then (false, (e - f) / ofsTicks) else (true, 0)

/-- Pulses whose fire came before the frame at `f` start in it (R236, R388). -/
def State.startPulses (s : State) (f : Nat) : State :=
  s.forRange 16 fun s u =>
    let v := s.cmpUnit u
    match v.fire with
    | some t => if t < f then s.setCmpUnit u { v with fire := none, pulse := some f } else s
    | none => s

/-- Level and OFS sent for an output in the frame that begins at `f` (Table 13.4). -/
def State.doLevel (s : State) (c f : Nat) : Bool × Nat :=
  if !s.fioEnable then (false, 0)
  else
    match s.cmpNaming c with
    | u :: us => (u :: us).foldl (fun r u => let p := s.pulseAt u f; (r.1 || p.1, max r.2 p.2)) (false, 0)
    | [] =>
      if s.mode == .hold then (s.nth F.FIO_DO_CFG_HOLD c, 0)
      else if s.nth F.FIO_DO_CFG_SRC c then (s.nth F.FIO_DO_CMD_CMD c, 0)
      else ((s.dos c).lane, 0)

/-- The level in force for an output at tick `t`: the last one sent that has taken effect (R388). -/
def DoSt.levelAt (d : DoSt) (t : Nat) : Bool := d.sent.foldl (fun l e => if e.1 ≤ t then e.2 else l) d.base

/-- The last switching instant of a channel at or before `t`. -/
def DoSt.switchedAt (d : DoSt) (t : Nat) : Option Nat := d.sent.foldl (fun l e => if e.1 ≤ t then some e.1 else l) none

/-- Add a level sent to a channel; levels long in force become its base. -/
def DoSt.addSent (d : DoSt) (at_ : Nat) (l : Bool) : DoSt :=
  if (d.sent.getLast?.map (·.2)).getD d.base = l then d
  else
    let all := d.sent ++ [(at_, l)]
    { d with sent := all.drop (all.length - 4), base := ((all.take (all.length - 4)).getLast?.map (·.2)).getD d.base }

/-- The lane that is active: the spare once the first has failed (R392, R396). -/
def State.wantLane (s : State) : Nat := if s.fio.failed.testBit 0 then 1 else 0

/-! ### Frames of the isolation link (R393, R394) -/

/-- One byte of the CRC-16 of R394: polynomial 0x1021, most significant bit first. -/
def crc16Byte (c : Nat) (b : Byte) : Nat :=
  (List.range 8).foldl (fun c _ => if c.testBit 15 then (2 * c % 2 ^ 16) ^^^ 0x1021 else 2 * c % 2 ^ 16) (c ^^^ b.toNat * 2 ^ 8)

/-- CRC-16 of bytes (R394). -/
def crc16 (bs : List Byte) : Nat := bs.foldl crc16Byte 0xFFFF

/-- A frame: its 45 bytes and their CRC (R393, R394). -/
def frameBytes (body : List Byte) : List Byte := body ++ bytesOf 2 (crc16 body)

/-- The bytes of a down frame (Table 13.7). -/
def downBytes (fr : DownFrame) : List Byte :=
  let out := (List.range 16).foldl (fun m c => m + ((fr.level.testBit c).toNat + 2 * (fr.ofs.get c 0 % 8)) * 2 ^ (4 * c)) 0
  frameBytes (bytesOf 1 1 ++ bytesOf 2 fr.seq ++ bytesOf 8 out ++ bytesOf 1 (fr.enable.toNat + 2 * fr.lane) ++ bytesOf 33 0)

/-- The down frame that bytes spell, of the slot that began at `start` (Table 13.7). -/
def downOf (start : Nat) (bs : List Byte) : DownFrame :=
  let out := rdNat bs 3 8
  let ctrl := rdNat bs 11 1
  { start := start, seq := rdNat bs 1 2
    level := (List.range 16).foldl (fun m c => if out.testBit (4 * c) then m + 2 ^ c else m) 0
    ofs := (List.range 16).foldl (fun m c => m.set c (out / 2 ^ (4 * c + 1) % 8) 0) []
    enable := ctrl.testBit 0, lane := (ctrl.testBit 1).toNat }

/-- The bytes of an up frame (Table 13.8): `di` holds the five samples, sample j of input i at bit 32 j + i. -/
def upBytes (h : UpHead) (di rb ovl supply : Nat) : List Byte :=
  frameBytes (bytesOf 1 2 ++ bytesOf 2 h.seq ++ bytesOf 2 h.echo ++ bytesOf 20 di ++ bytesOf 2 rb ++ bytesOf 2 ovl ++ bytesOf 1 supply
    ++ bytesOf 1 h.status ++ bytesOf 14 0)

/-- A frame as one lane delivers it: `e` are the bits disturbed on the way. -/
def onLane (frame e : List Byte) : List Byte := frame.zipIdx.map fun b => b.1 ^^^ e.getD b.2 0

/-- What is wrong with a copy of a frame, by the first check it fails (R394, Table 13.9): 1 no comma in its slot, 2 CRC, 3 TYPE, 4 SEQ;
0 for a good copy. `want` is the SEQ that follows the previous good frame's. -/
def copyCause (type : Nat) (want : Option Nat) (frame : List Byte) : Option (List Byte) → Nat
  | none => 1
  | some e =>
    let r := onLane frame e
    if crc16 (r.take 45) ≠ rdNat r 45 2 then 2
    else if rdNat r 0 1 ≠ type then 3
    else if want.any (· != rdNat r 1 2) then 4
    else 0

/-- The copy that is used: the active lane's when both are good (R394). -/
def usedCopy (frame : List Byte) (active : Nat) (good0 good1 : Bool) (e0 e1 : Option (List Byte)) : List Byte :=
  onLane frame ((if good0 && (active == 0 || !good1) then e0 else e1).getD [])

/-! ### Inputs (R382 to R385) -/

/-- DEB of an input; 0 acts as 1. -/
def State.diDeb (s : State) (i : Nat) : Nat := max 1 (s.fld F.FIO_DI_CFG_DEB 0 i)

/-- One sample of one input at tick `t` (R383). -/
def State.diSample (s : State) (i t : Nat) (raw : Bool) : State :=
  let v := raw != s.bit F.FIO_DI_CFG_INV 0 i
  let d := s.dis i
  let change := fun (s : State) (stamp : Option Nat) =>
    { s with fio := { s.fio with changes := s.fio.changes ++ [⟨i, v, t, stamp⟩] } }
  if !d.known then change (s.setDis i { d with level := v, known := true, run := 0 }) none
  else if v = d.level then s.setDis i { d with run := 0 }
  else
    let first := if d.run = 0 then t else d.first
    if s.diDeb i ≤ d.run + 1 then
      (change (s.setDis i { d with level := v, run := 0 }) (some first)).setFld
        (if v then F.FIO_DI_TIME_RISE else F.FIO_DI_TIME_FALL) first 0 i
    else s.setDis i { d with run := d.run + 1, first := first }

/-- The five samples of a window that begins at `w`: sample j of input i at bit 32 j + i of `di` (Table 13.8). -/
def State.diWindow (s : State) (w di : Nat) : State :=
  s.forRange 5 fun s j => s.forRange 32 fun s i => s.diSample i (w + ofsTicks * j) (di.testBit (32 * j + i))

/-- Samples of a slot without a good up frame: the counts of consecutive samples stop (R383). -/
def State.diMissed (s : State) : State := s.forRange 32 fun s i => s.setDis i { s.dis i with run := 0 }

/-- An applied write of FIO.DI_CFG, or a link that comes up: the next sample sets each level directly (R383). -/
def State.diRestart (s : State) : State := s.forRange 32 fun s i => s.setDis i { s.dis i with known := false, run := 0 }

/-- D_FI in ticks (R384). -/
abbrev dFi : Nat := 4800

/-- The record of boundary `b` takes the accepted levels of the samples at or before b − D_FI (R384, R385). -/
def State.fioBoundary (s : State) (b : Nat) : State :=
  let s0 := ((List.range 32).filter fun i => (s.dis i).edge).foldl (fun s i => s.setDis i { s.dis i with edge := false }) s
  let due := s0.fio.changes.filter fun c => decide (c.accepted + dFi ≤ b)
  let s1 := due.foldl (fun s c =>
    let d := s.dis c.input
    s.setDis c.input { d with recLevel := c.level, recStamp := if c.stamp.isSome then c.stamp else d.recStamp
                              edge := d.edge || c.stamp.isSome }) s0
  let s2 := { s1 with fio := { s1.fio with changes := s1.fio.changes.filter fun c => decide (b < c.accepted + dFi) } }
  ((List.range 16).filter fun c => (s2.dos c).posted.isSome).foldl (fun s c =>
    match (s.dos c).posted with
    | some p => s.setDos c { s.dos c with lane := p.2, posted := none }
    | none => s) s2

/-- A lane pair's word for an output channel; the lower-indexed lane pair's word stands (R387). -/
def State.postDo (s : State) (c lane : Nat) (w : Word24) : State :=
  match (s.dos c).posted with
  | some p => if p.1 < lane then s else s.setDos c { s.dos c with posted := some (lane, w.getLsbD 0) }
  | none => s.setDos c { s.dos c with posted := some (lane, w.getLsbD 0) }

/-- DI and DI_EDGE of the record, bit i (Table 13.3). -/
def State.diWord (s : State) : Nat := (List.range 32).foldl (fun m i => if (s.dis i).recLevel then m + 2 ^ i else m) 0
def State.diEdgeWord (s : State) : Nat := (List.range 32).foldl (fun m i => if (s.dis i).edge then m + 2 ^ i else m) 0

/-- DI_AGE of an input at boundary `b`. -/
def State.diAge (s : State) (i b : Nat) : Nat :=
  match (s.dis i).recStamp with
  | none => 0xFFFFFF
  | some t => min 0xFFFFFF (b - t)

/-- The FIO item at boundary `b`: readback and LINK_OK of the sample at b − 4,800, ENABLE as sent (Table 13.3). The spec gives
no readback for a sample that was not received. -/
def State.fioItem (s : State) (b : Nat) : Nat :=
  let rb := (s.fio.rbHist.find? fun e => decide (e.1 + dFi ≤ b)).bind (·.2)
  (rb.getD (Config.missedReadback b)) % 2 ^ 16 + rb.isSome.toNat * 2 ^ 16 + (s.fio.sent.any (·.enable)).toNat * 2 ^ 17

/-! ### Readback, overload and supply at the hub (R381, R390, R391) -/

/-- EXT_DRIVE of one output after a readback of the sample at `t` (R391). -/
def State.extDrive (s : State) (c t : Nat) (rb : Bool) : State :=
  let d := s.dos c
  let lv := d.levelAt t
  let blank := match d.switchedAt t with
    | some w => decide (t < w + 400 * max 1 (s.fld F.FIO_DO_CFG_RB_BLANK))
    | none => false
  if blank || d.ovl then s
  else if rb = lv then
    let s1 := s.setDos c { d with bad := 0, good := min 3 (d.good + 1), ext := d.ext && decide (d.good + 1 < 3) }
    if d.ext && decide (3 ≤ d.good + 1) then s1.clearLive K.EXT_DRIVE c else s1
  else
    let first := if d.bad = 0 then t else d.first
    let s1 := s.setDos c { d with bad := min 3 (d.bad + 1), good := 0, first := first, ext := d.ext || decide (3 ≤ d.bad + 1) }
    if !d.ext && decide (3 ≤ d.bad + 1) then s1.raiseAt first K.EXT_DRIVE c (lv.toNat + rb.toNat * 2 ^ 8) 1 else s1

/-- DO_OVERLOAD of one output after an up frame that reports `o` (R390): it ends with a frame in which the channel conducts
without limit. -/
def State.doOverload (s : State) (c t : Nat) (o rb : Bool) : State :=
  let d := s.dos c
  if o && !d.ovl then (s.setDos c { d with ovl := true }).raise K.DO_OVERLOAD c (if (s.isl c).shut.isSome then 2 else 1) 1
  else if !o && d.ovl && d.levelAt t && rb then (s.setDos c { d with ovl := false }).clearLive K.DO_OVERLOAD c
  else s

/-- FIELD_SUPPLY after an up frame (R381): SUPPLY is in steps of 0.2 V. -/
def State.fieldSupply (s : State) (v : Nat) : State :=
  let out := decide (v < 96) || decide (150 < v)
  let inn := decide (98 ≤ v) && decide (v ≤ 148)
  let bad := if out then min 8 (s.fio.supplyBad + 1) else 0
  let good := if inn then min 8 (s.fio.supplyGood + 1) else 0
  let s1 := { s with fio := { s.fio with supply := v, supplyBad := bad, supplyGood := good } }
  if bad = 8 ∧ !s.fio.supplyLive then
    { s1.raise K.FIELD_SUPPLY 0 v 1 with fio := { s1.fio with supplyLive := true } }
  else if good = 8 ∧ s.fio.supplyLive then
    { s1.clearLive K.FIELD_SUPPLY with fio := { s1.fio with supplyLive := false } }
  else s1

/-! ### Lanes of the link (R394, R396) -/

/-- Count a bad copy on a lane and raise ISO_FRAME with the codes of its direction and cause. -/
def State.badCopy (s : State) (l : Nat) (up : Bool) (cause : Nat) : State :=
  let f := s.fio
  let q := satNat 0xFFFF (if l = 0 then f.bad0 else f.bad1) (f.sat.testBit l)
  let f1 := if l = 0 then { f with bad0 := q.1 } else { f with bad1 := q.1 }
  ({ s with fio := { f1 with sat := if q.2 then f.sat ||| 2 ^ l else f.sat } }).raise K.ISO_FRAME l
    (Config.isoDirection up % 2 ^ 8 + cause % 2 ^ 8 * 2 ^ 8) 1

/-- A lane fails (R396): it is recorded, and no longer used unless the other lane has already failed. -/
def State.laneFails (s : State) (l : Nat) : State :=
  let other := s.fio.failed.testBit (1 - l)
  let s1 := { s with red := { s.red with repairs := s.red.repairs ++ [(4, l)] } }
  if other then s1
  else
    let s2 := { s1 with fio := { s1.fio with failed := s1.fio.failed ||| 2 ^ l } }
    (s2.setBit F.RED_SPARES_ISO_SPARE true).raise K.ISO_SPARE 0 l 1

/-- Enter one slot of a lane into its last 64; the fourth bad one among them fails the lane (R396). -/
def State.laneSlot (s : State) (l : Nat) (bad : Bool) : State :=
  if s.fio.failed.testBit l then s
  else
    let h := (bad :: (if l = 0 then s.fio.slots0 else s.fio.slots1)).take 64
    let fail := bad && decide (4 ≤ (h.filter id).length)
    let h' := if fail then [] else h
    let s1 := { s with fio := if l = 0 then { s.fio with slots0 := h' } else { s.fio with slots1 := h' } }
    if fail then s1.laneFails l else s1

/-! ### Up frames at the hub (R393 to R395) -/

/-- ISO_LOST becomes live (R395). -/
def State.isoLose (s : State) (cause : Nat) : State :=
  if s.fio.isoLost then s
  else ({ s with fio := { s.fio with isoLost := true } }).raise K.ISO_LOST 0 (cause + s.fio.upSeq % 2 ^ 16 * 2 ^ 16) 1

/-- The slot had a good up frame, with or without LOST (R395). -/
def State.upSlotGood (s : State) (lost : Bool) : State :=
  let good := if lost then 0 else min 8 (s.fio.upGood + 1)
  let s1 := { s with fio := { s.fio with upBad := 0, upGood := good, linkOk := true } }
  if lost then s1.isoLose 2
  else if good = 8 ∧ s1.fio.isoLost then ({ s1 with fio := { s1.fio with isoLost := false } }).clearLive K.ISO_LOST
  else s1

/-- A good up frame's contents: window samples, readback, overload and supply, for the slot that began at `f`. -/
def State.upData (s : State) (f di rb ovl supply : Nat) : State :=
  let w := f - slotTicks
  let t := w + 4 * ofsTicks
  let s1 := s.diWindow w di
  let s2 := s1.forRange 16 fun s c =>
    (s.doOverload c t (ovl.testBit c) (rb.testBit c)).extDrive c t (rb.testBit c)
  ({ s2 with fio := { s2.fio with rb := rb % 2 ^ 16, ovl := ovl % 2 ^ 16
                                  rbHist := ((t, some (rb % 2 ^ 16)) :: s2.fio.rbHist).take 64 } }).fieldSupply (supply % 256)

/-- Whether a lane's copy is used: not a lane that has failed (R396). -/
def State.laneUsed (s : State) (l : Nat) : Bool := !s.fio.failed.testBit l

/-- The up frame that answers a slot has left the island: the next one the hub sees carries the SEQ after it (R393, R394). -/
def FioSt.upGone (f : FioSt) (start : Nat) : FioSt :=
  { f with ups := f.ups.filter (·.1 != start)
           upWant := if f.ups.any (·.1 == start) then f.upWant.map fun n => (n + 1) % 2 ^ 16 else f.upWant }

/-- Which of the two copies of an up frame are good at the hub: their causes of being bad (R394). -/
def State.upCauses (s : State) (frame : List Byte) (e0 e1 : Option (List Byte)) : Nat × Nat :=
  (copyCause 2 s.fio.upWant frame e0, copyCause 2 s.fio.upWant frame e1)

/-- Channels in shutdown, bit c. -/
def State.shutMask (s : State) : Nat := (List.range 16).foldl (fun m c => if (s.isl c).shut.isSome then m + 2 ^ c else m) 0

/-- The up frame of the oldest open slot reaches the hub, by F + 2,200: `e0` and `e1` are its copies on the lanes, as the bits disturbed or
none where no comma came (R393, R394). -/
def State.isoUp (s : State) (e0 e1 : Option (List Byte)) (di rb limit supply : Nat) : State :=
  match s.fio.hubSlots with
  | [] => s
  | fr :: r =>
    match s.fio.ups.find? (·.1 == fr.start) with
    | none => s
    | some (_, h) =>
      if fr.start + 2200 < s.now then s
      else
        let frame := upBytes h di rb (limit ||| s.shutMask) supply
        let c := s.upCauses frame e0 e1
        let g0 := s.laneUsed 0 && c.1 == 0
        let g1 := s.laneUsed 1 && c.2 == 0
        let bad0 := s.laneUsed 0 && c.1 != 0
        let bad1 := s.laneUsed 1 && c.2 != 0
        let s1 := if bad0 then s.badCopy 0 true c.1 else s
        let s2 := if bad1 then s1.badCopy 1 true c.2 else s1
        if !g0 && !g1 then { s2 with fio := { s2.fio.upGone fr.start with slotSeen := true } }
        else
          let rx := usedCopy frame s.fio.activeLane g0 g1 e0 e1
          let seq := rdNat rx 1 2
          let status := rdNat rx 30 1
          let d0 := status.testBit 0
          let d1 := status.testBit 1
          let down := fun (s : State) (l : Nat) (b : Bool) =>
            if b then s.badCopy l false (Config.isoDownCause s.time.osc) else s
          let s3 := down (down s2 0 d0) 1 d1
          let s4 := { s3 with fio := { s3.fio.upGone fr.start with hubSlots := r, slotSeen := false, upSeq := seq, upWant := some ((seq + 1) % 2 ^ 16) } }
          let s5 := (s4.upSlotGood (status.testBit 2)).upData fr.start (rdNat rx 5 20) (rdNat rx 25 2) (rdNat rx 27 2) (rdNat rx 29 1)
          (s5.laneSlot 0 ((bad0 && g1) || (d0 && !d1))).laneSlot 1 ((bad1 && g0) || (d1 && !d0))

/-- ISO_UP_SLOT_TIMEOUT: no good up frame came by F + 2,200 in the oldest open slot (R383, R395). After the third such slot in a row no
previous good frame counts any more. -/
def State.isoUpTimeout (s0 : State) : State :=
  match s0.fio.hubSlots with
  | [] => s0
  | fr :: r =>
    let s := s0.until (fr.start + 2200)
    let s1 := if s.fio.slotSeen then s else
      let a := if s.laneUsed 0 then s.badCopy 0 true 1 else s
      if a.laneUsed 1 then a.badCopy 1 true 1 else a
    let bad := min 3 (s1.fio.upBad + 1)
    let f := s1.fio.upGone fr.start
    let s2 := { s1 with fio := { f with
      upBad := bad, upGood := 0, linkOk := false, hubSlots := r, slotSeen := false, upWant := if bad = 3 then none else f.upWant
      rbHist := ((fr.start - ofsTicks, none) :: f.rbHist).take 64 } }
    let s3 := (s2.diMissed.laneSlot 0 false).laneSlot 1 false
    if bad = 3 then (s3.isoLose 1).diRestart else s3

/-! ### The island (R388, R390, R394, R395) -/

/-- Turn an island output on or off; a channel in shutdown stays off (R390). -/
def State.islSet (s : State) (c : Nat) (l : Bool) : State :=
  let v := s.isl c
  s.setIsl c { v with on := l && v.shut.isNone, level := l, cancelled := v.cancelled || (v.shut.isSome && !l) }

/-- Every output off (R380, R395). -/
def State.islAllOff (s : State) : State :=
  s.forRange 16 fun s c => s.setIsl c { s.isl c with on := false, plan := [], level := false }

/-- SEQ that the down frame of a slot carries after the previous good one, every slot between counted (R394). -/
def State.downWant (s : State) (fr : DownFrame) : Option Nat :=
  s.fio.downLast.map fun w => (w.2 + (fr.start - w.1) / slotTicks) % 2 ^ 16

/-- Which of the two copies of a down frame are good at the island: their causes of being bad (R394). -/
def State.downCauses (s : State) (fr : DownFrame) (e0 e1 : Option (List Byte)) : Nat × Nat :=
  (copyCause 1 (s.downWant fr) (downBytes fr) e0, copyCause 1 (s.downWant fr) (downBytes fr) e1)

/-- The island acts on a good down frame and answers it (R388, R393, R395); `lanes` are the lanes whose copy was bad. -/
def State.islandTake (s : State) (fr : DownFrame) (lanes : Nat) : State :=
  let good := if fr.enable then min 8 (s.fio.downGood + 1) else 0
  let driving := (s.fio.driving || good == 8) && !(s.fio.islandLost && good != 8)
  let lost := s.fio.islandLost && good != 8
  let h : UpHead := { seq := s.fio.islandSeq, echo := fr.seq
                      status := lanes + lost.toNat * 4 + s.fio.leftReset.toNat * 8 }
  let s1 := { s with fio := { s.fio with
    downBad := 0, downGood := good, islandLost := lost, driving := driving, islSlots := s.fio.islSlots.tail, islSeen := false
    downLast := some (fr.start, fr.seq), enable := fr.enable, islandSeq := (s.fio.islandSeq + 1) % 2 ^ 16, leftReset := false
    ups := s.fio.ups ++ [(fr.start, h)] } }
  s1.forRange 16 fun s c =>
    let v := s.isl c
    let l := driving && fr.enable && fr.level.testBit c
    let cur := (v.plan.getLast?.map (·.2)).getD v.level
    if l = cur then s else s.setIsl c { v with plan := v.plan ++ [(fr.start + switchDelay + ofsTicks * fr.ofs.get c 0, l)] }

/-- The down frame of the oldest open slot reaches the island, by F + 2,200: `e0` and `e1` are its copies on the lanes (R393 to R395). -/
def State.islandDown (s : State) (e0 e1 : Option (List Byte)) : State :=
  match s.fio.islSlots with
  | [] => s
  | fr :: _ =>
    if !s.fio.powered || s.fio.islSeen || decide (fr.start + 2200 < s.now) then s
    else
      let c := s.downCauses fr e0 e1
      let g0 := s.laneUsed 0 && c.1 == 0
      let g1 := s.laneUsed 1 && c.2 == 0
      if !g0 && !g1 then { s with fio := { s.fio with islSeen := true } }
      else s.islandTake (downOf fr.start (usedCopy (downBytes fr) fr.lane g0 g1 e0 e1))
        ((s.laneUsed 0 && c.1 != 0).toNat + (s.laneUsed 1 && c.2 != 0).toNat * 2)

/-- ISLAND_SLOT_TIMEOUT: the oldest open down slot is bad at the island (R395). After the third in a row no previous good frame counts any
more. -/
def State.islandTimeout (s0 : State) : State :=
  match s0.fio.islSlots with
  | [] => s0
  | fr :: r =>
    if !s0.fio.powered then { s0 with fio := { s0.fio with islSlots := r, islSeen := false } }
    else
      let s := s0.until (fr.start + 2200)
      let bad := min 3 (s.fio.downBad + 1)
      let s1 := { s with fio := { s.fio with downBad := bad, downGood := 0, islSlots := r, islSeen := false
                                             downLast := if bad = 3 then none else s.fio.downLast } }
      if bad = 3 then
        ({ s1 with fio := { s1.fio with islandLost := true, driving := false, enable := false } }).islAllOff
      else s1

/-- Slots that are over by the start of the next frame, at both ends (R393). -/
def State.closeSlots (s : State) (next : Nat) : State :=
  let past := fun (l : List DownFrame) => l.head?.any fun f => decide (f.start + 2200 ≤ next)
  s.forRange 2 fun s _ =>
    let s1 := if past s.fio.islSlots then s.islandTimeout else s
    if past s1.fio.hubSlots then s1.isoUpTimeout else s1

/-- The start of the next down frame, on the grid of 2,000 ticks (R393). -/
def State.nextSlot (s : State) : Nat :=
  let due := (s.now + slotTicks - 1) / slotTicks * slotTicks
  match s.fio.sent with
  | some f => max due (f.start + slotTicks)
  | none => due

/-- SEQ of the frame of the slot at `next`: one more for every slot since the last frame (Table 13.7). -/
def State.slotSeq (s : State) (next : Nat) : Nat :=
  match s.fio.sent with
  | some f => (f.seq + (next - f.start) / slotTicks) % 2 ^ 16
  | none => 0

/-- ISO_DOWN_FRAME: the hub sends the frame of the next slot (R386, R388, R393, R394). -/
def State.isoDown (s0 : State) : State :=
  let next := s0.nextSlot
  let s := ((s0.closeSlots next).until next).startPulses next
  let out := (List.range 16).map fun c => s.doLevel c next
  let s1 := s.forRange 16 fun s c =>
    let r := out.getD c (false, 0)
    s.setDos c ((s.dos c).addSent (next + switchDelay + ofsTicks * r.2) r.1)
  let fr : DownFrame :=
    { start := next, seq := s.slotSeq next
      level := (List.range 16).foldl (fun m c => if (out.getD c (false, 0)).1 then m + 2 ^ c else m) 0
      ofs := (List.range 16).foldl (fun m c => m.set c (out.getD c (false, 0)).2 0) []
      enable := s.fioEnable, lane := s.wantLane }
  { s1 with fio := { s1.fio with sent := some fr, activeLane := s.wantLane, hubSlots := s1.fio.hubSlots ++ [fr]
                                 islSlots := s1.fio.islSlots ++ [fr] } }

/-- ISLAND_SWITCH: the next switching of a channel (R388). -/
def State.islandSwitch (s0 : State) (c : Nat) : State :=
  match (s0.isl c).plan with
  | [] => s0
  | e :: r =>
    let s := s0.until e.1
    (s.setIsl c { s.isl c with plan := r }).islSet c e.2

/-- DO_SHUTDOWN: a channel in current limit reaches its shutdown temperature (R390). -/
def State.doShutdown (s : State) (c : Nat) : State :=
  let v := s.isl c
  if v.on then s.setIsl c { v with on := false, shut := some s.now, retries := 0, cancelled := false } else s

/-- 100 ms in ticks: 20,000 frame slots (R390). -/
abbrev retryTicks : Nat := 40000000

/-- DO_RETRY: a channel in shutdown retries when its level in force is 1 and no level of 0 has cancelled the retry (R390). -/
def State.doRetry (s0 : State) (c : Nat) : State :=
  match (s0.isl c).shut with
  | none => s0
  | some t =>
    let s := s0.until (t + retryTicks * ((s0.isl c).retries + 1))
    let v := s.isl c
    if v.level && !v.cancelled && s.fio.driving then
      let q := satNat 0xFFFF s.fio.retries (s.fio.sat.testBit 2)
      let s1 := s.setIsl c { v with on := true, shut := none, retries := 0 }
      { s1 with fio := { s1.fio with retries := q.1, sat := if q.2 then s.fio.sat ||| 4 else s.fio.sat } }
    else s.setIsl c { v with retries := v.retries + 1, cancelled := false }

/-- The island loses its supply: it holds itself in reset with every output off (R380). -/
def State.islandOff (s : State) : State :=
  let s1 := { s with fio := { s.fio with powered := false, driving := false, islandLost := false, downBad := 0, downGood := 0
                                         islandSeq := 0, enable := false, ups := [], islSeen := false, downLast := none } }
  s1.forRange 16 fun s c => s.setIsl c {}

/-- The island leaves its own reset: it drives after 8 good down slots with ENABLE (R380, R395). -/
def State.islandOn (s : State) : State :=
  if s.fio.powered then s else { s with fio := { s.fio with powered := true, leftReset := true } }

/-! ### FIO.STATUS -/

/-- FIO.STATUS at a measurement instant. -/
def State.measureFio (s : State) (b : Nat) : State :=
  let mask := fun (p : Nat → Bool) (n : Nat) => (List.range n).foldl (fun m c => if p c then m + 2 ^ c else m) 0
  let f := s.fio
  [(F.FIO_STATUS_DI, mask (fun i => (s.dis i).level) 32), (F.FIO_STATUS_OUT, mask (fun c => (s.dos c).levelAt b) 16),
   (F.FIO_STATUS_RB, f.rb), (F.FIO_STATUS_EXT, mask (fun c => (s.dos c).ext) 16),
   (F.FIO_STATUS_OVL, mask (fun c => (s.dos c).ovl) 16), (F.FIO_STATUS_SUPPLY, f.supply),
   (F.FIO_STATUS_LINK_OK, f.linkOk.toNat), (F.FIO_STATUS_ENABLE, (f.sent.any (·.enable)).toNat),
   (F.FIO_STATUS_ACTIVE_LANE, f.activeLane), (F.FIO_STATUS_BAD0, f.bad0), (F.FIO_STATUS_BAD1, f.bad1),
   (F.FIO_STATUS_RETRIES, f.retries), (F.FIO_STATUS_SAT, f.sat)].foldl (fun s e => s.setFld e.1 e.2) s

/-- A clear of the field I/O counters (R457). -/
def State.fioClear (s : State) : State := { s with fio := { s.fio with bad0 := 0, bad1 := 0, retries := 0, sat := 0 } }

/-! ### Commands -/

/-- ISO_DOWN_FRAME: the hub sends the next down frame (R393). -/
def execIsoDownFrame (s : State) : Out := .next (if s.hubUp && s.time.running then s.isoDown else s)

/-- ISO_UP_FRAME: an up frame reaches the hub. `e0`, `e1`: its copy on each lane, as the bits disturbed, or none where no comma came in the
slot; `di` the samples, `rb` the readback, `limit` the channels in current limit, `supply` the field supply in 0.2 V (R393 to R395). -/
def execIsoUpFrame (e0 e1 : Option (List Byte)) (di : Nat) (rb limit : Fin 65536) (supply : Fin 256) (s : State) : Out :=
  .next (s.isoUp e0 e1 di rb.val limit.val supply.val)

/-- ISO_UP_SLOT_TIMEOUT: the running slot had no good up frame (R395). -/
def execIsoUpSlotTimeout (s : State) : Out := .next s.isoUpTimeout

/-- ISLAND_DOWN_FRAME: a down frame reaches the island; `e0`, `e1`: its copy on each lane (R394). -/
def execIslandDownFrame (e0 e1 : Option (List Byte)) (s : State) : Out := .next (s.islandDown e0 e1)

/-- ISLAND_SLOT_TIMEOUT: the running down slot is bad at the island (R395). -/
def execIslandSlotTimeout (s : State) : Out := .next s.islandTimeout

/-- ISLAND_SWITCH: the island switches an output to a level sent (R388). -/
def execIslandSwitch (c : Fin 16) (s : State) : Out := .next (s.islandSwitch c.val)

/-- DO_SHUTDOWN: an output in current limit turns off (R390). -/
def execDoShutdown (c : Fin 16) (s : State) : Out := .next (s.doShutdown c.val)

/-- DO_RETRY: 100 ms have passed for a channel in shutdown (R390). -/
def execDoRetry (c : Fin 16) (s : State) : Out := .next (s.doRetry c.val)

/-- FIELD_SUPPLY_LOSS: the field supply falls below 12 V (R380). -/
def execFieldSupplyLoss (s : State) : Out := .next s.islandOff

/-- FIELD_SUPPLY_RETURN: the field supply rises to 12 V or more (R380, R395). -/
def execFieldSupplyReturn (s : State) : Out := .next s.islandOn

/-- COMPARE_PULSE_END: a compare pulse's width ends (R236, R388). -/
def execComparePulseEnd (u : Fin 16) (s : State) : Out :=
  match (s.cmpUnit u.val).pulse with
  | none => .next s
  | some p =>
    let s1 := s.until (p + s.pulseTicks u.val)
    .next (s1.setCmpUnit u.val { s1.cmpUnit u.val with pulse := none })

end Sys2Proof.Machine
end

