-- ==== Sys2Proof/Machine/OuterTask.lean ====
section
/-!
DEFINITION. The outer task of the standard axis program, one run at a time: position and velocity loops (R150 to R155, R168,
R169), the profile generator (R171 to R196), gearing, cams and caravans (R197 to R228). The instruction sequences belong to the
image; these are the results R141 and R171 say they produce.
-/

namespace Sys2Proof.Machine

/-! ### Numbers -/

/-- The nearest integer, halves upward. -/
def roundUp (x : Rat) : Int := (x + 1 / 2).floor

/-- An integer as a signed number of `w` bits. -/
def wrapS (w : Nat) (v : Int) : Int := sint w (uint w v)

/-- The magnitude of an integer, as an integer. -/
def iabs (v : Int) : Int := (v.natAbs : Int)

/-- −1, 0 or 1. -/
def isgn (v : Int) : Int := if v < 0 then -1 else if 0 < v then 1 else 0

/-- The value of a data word in units of 2^-23, with a power-of-two scale (R7). -/
def val23 (m : Int) (e : Int := 0) : Rat := if 0 ≤ e then m * 2 ^ e.toNat / 2 ^ 23 else (m : Rat) / 2 ^ (23 + (-e).toNat)

/-- The value of an accumulator in units of 2^-47. -/
def val47 (m : Int) : Rat := (m : Rat) / 2 ^ 47

/-- Hold a rational within a range. -/
def clampRat (x lo hi : Rat) : Rat := if x < lo then lo else if hi < x then hi else x

/-- The store form of an exact quantity, in units of 2^-23 (R118). -/
def store23 (x : Rat) : Int := clampInt (roundUp (x * 2 ^ 23)) (-(2 ^ 23)) (2 ^ 23 - 1)

/-- Whether the store form saturates. -/
def saturates23 (x : Rat) : Bool := roundUp (x * 2 ^ 23) != store23 x

/-- The square root of an exact quantity on the grid of 2^-47; which neighbour a root off the grid takes is left open. -/
def rootRat (x : Rat) : Rat :=
  let n := (x * 2 ^ 94).floor.toNat
  let r := isqrtFrom n 96 0
  val47 (if r * r ≠ n ∧ Config.rootUp n then r + 1 else r)

/-- An s24 data word as an integer. -/
def word23 (w : Nat) : Int := sint 24 w

/-- An s24 data word of a field from 0 upward: a value below 0 acts as 0 (R145, R458). -/
def fromZero (w : Nat) : Int := max (word23 w) 0

/-- The 24-bit word of an integer. -/
def toWord (v : Int) : Word24 := BitVec.ofInt 24 v

/-! ### Items and axis constants -/

/-- Word `w` of the item of a class and object. -/
def AxisIn.it (x : AxisIn) (c o w : Nat) : Nat := x.items.get ((64 * c + o) * 64 + w) 0

/-- The channel's count item (Table 09.6). -/
def AxisIn.count (x : AxisIn) : Nat := x.it 3 0x08 0 + x.it 3 0x08 1 % 2 ^ 8 * 2 ^ 24

/-- What a run needs of the configuration and of the other task. -/
structure AxisEnv where
  drive : Bool
  outerOn : Bool
  posloop : Bool
  sensorless : Bool
  hasFb : Bool
  clampV : Bool
  spdExp : Int
  k : Nat
  cpr : Nat
  /-- Scale of the speed item relative to SPD_FS (R154, R277). -/
  spdScale : Rat
  /-- Coefficient word j of the axis's region in the bank in force (R149), s24. -/
  coef : Nat → Int
  /-- The master's STALE_MAX, kind and SPD_EXP come with SRC; GEAR.MASTER.COMP. -/
  comp : Bool
  masterKind : Nat
  staleMax : Nat
  /-- Members of the axis's caravan, SPD of the path: the axis's outer phase and the reference member's. -/
  phase : Nat
  /-- The observer speed passed through state by the current task on the same lane pair, if it is there (R148). -/
  ownSpd : Option Int

/-- The coefficients of the outer task lie in their ranges (R149). -/
def AxisEnv.coefOk (e : AxisEnv) : Bool :=
  ([3, 4, 5, 6].all fun j => decide (0 ≤ e.coef j)) && (!e.posloop || [0, 1].all fun j => decide (0 ≤ e.coef j))

/-- TRACK is decided afresh at every boundary from the record (R168); a virtual axis reads no such bits (R169). -/
def AxisEnv.tracks (e : AxisEnv) (x : AxisIn) : Bool :=
  e.drive && (x.it 1 0x09 0 % 2 == 1 || (e.hasFb && x.fbFenced) || x.grpFenced)

/-- One step of the position rule of R150: position, count within a revolution, last count. -/
def posStep (cpr cnt : Nat) (p : Int) (cm last : Nat) : Int × Nat × Nat :=
  let dc := sint 32 (uint 32 ((cnt : Int) - last))
  (wrapS 56 (p + dc * 2 ^ 8), (((cm : Int) + dc) % (max cpr 1 : Nat)).toNat, cnt)

/-- The first values of that rule after the module leaves CONFIGURE (R150). -/
def posInit (cpr cnt : Nat) : Int × Nat × Nat := (wrapS 56 (sint 32 cnt * 2 ^ 8), cnt % max cpr 1, cnt)

/-- The position of the next period, `cnt` its count item (R150); held while the channel is fenced, and continued from the held value in
the first unfenced period, its motion lost (R169). -/
def PosSt.run (p : PosSt) (cpr cnt : Nat) (fenced : Bool) : PosSt :=
  let put := fun (r : Int × Nat × Nat) => { p with init := true, pos := r.1, cm := r.2.1, last := r.2.2, posCont := p.posCont && !fenced, held := fenced }
  if !p.init then put (posInit cpr cnt)
  else if fenced then put (p.pos, p.cm, p.last)
  else if p.held then put (p.pos, p.cm, cnt)
  else put (posStep cpr cnt p.pos p.cm p.last)

/-! ### Limits of the profile generator (R173) -/

/-- PROF.LIMITS as the generator uses them: VMAX, ACC, DEC, JERK, STOP_DEC, QSTOP_DEC in units of 2^-47, and the modulus. -/
structure Lim where
  vmax : Int
  acc : Int
  dec : Int
  jerk : Int
  stopDec : Int
  qstopDec : Int
  modulus : Nat
  deriving DecidableEq, Repr

/-- A deceleration that brings any speed to 0 in one outer period (QSTOP_DEC of 0, R173). -/
abbrev oneStep : Int := 2 ^ 48

/-- The limits of eight PROF.LIMITS words; in COMMISSION VMAX takes the V_LIM fraction (R44, R173). -/
def limOf (ws : List Nat) (x : AxisIn) : Lim :=
  let w := fun i => max (word23 (ws.getD i 0)) 0
  let frac := if x.it 1 0x0C 0 % 2 = 1 then word23 (x.it 1 0x0C 2) else 2 ^ 23
  let quick := if w 5 = 0 then oneStep else w 5 * 2 ^ 16
  { vmax := w 0 * frac * 2, acc := w 1 * 2 ^ 16, dec := w 2 * 2 ^ 16, jerk := w 3 * 2 ^ 8
    stopDec := if w 4 = 0 then quick else w 4 * 2 ^ 16, qstopDec := quick
    modulus := ws.getD 6 0 % 2 ^ 24 + ws.getD 7 0 % 2 ^ 8 * 2 ^ 24 }

/-- g of R171: position units in one outer period at speed 1. -/
def AxisEnv.g (e : AxisEnv) : Int := 2 ^ (e.spdExp + 8).toNat * e.k

/-! ### Braking distance (R183) -/

/-- The braking distance from rest of acceleration, for a = 0 (the table of R183). -/
def brakeFlat (v d j : Rat) : Rat :=
  if j = 0 then v * v / (2 * d)
  else if d * d / j ≤ v then v * v / (2 * d) + v * d / (2 * j)
  else v * rootRat (v / j)

/-- The distance from (v, −α) to rest when the axis already brakes: up to deceleration d, then back to 0, at jerk j. -/
def brakeFrom (v al d j : Rat) : Rat :=
  let d := max d al
  let full := (d * d - al * al) / (2 * j) + d * d / (2 * j)
  let ramp := fun (p : Rat) => let t := (p - al) / j; v * t - al * t * t / 2 - j * t * t * t / 6
  if full ≤ v then
    let t1 := (d - al) / j
    let v2 := v - (al * t1 + j * t1 * t1 / 2)
    let tc := (v2 - d * d / (2 * j)) / d
    ramp d + (v2 * tc - d * tc * tc / 2) + d * d * d / (6 * j * j)
  else
    let p := rootRat (j * v + al * al / 2)
    if p < al then v * v / (2 * al) else ramp p + p * p * p / (6 * j * j)

/-- The braking distance of a state (v, a) along its motion, in speed × outer periods (R183). -/
def brake (v a d j : Rat) : Rat :=
  if d ≤ 0 then 0
  else if j = 0 then v * v / (2 * d)
  else if 0 < a then v * a / j + a * a * a / (3 * j * j) + brakeFlat (v + a * a / (2 * j)) d j
  else if a = 0 then brakeFlat v d j
  else brakeFrom v (-a) d j

/-- The greatest of the first 2^n values from `lo` up that passes a test which fails from some value on. -/
def greatestPassing (f : Int → Bool) (lo : Int) : Nat → Int
  | 0 => lo
  | n + 1 => if f (lo + 2 ^ n) then greatestPassing f (lo + 2 ^ n) n else greatestPassing f lo n

/-- D_f of R184: the greatest deceleration, not above DEC, whose braking curve ends at the target (on the grid of 2^-47). -/
def commitDec (v a r : Rat) (dec jerk : Int) : Int :=
  if r ≤ brake v a (val47 dec) (val47 jerk) then dec
  else greatestPassing (fun d => decide (d ≤ dec) && decide (r ≤ brake v a (val47 d) (val47 jerk))) 1 48

/-! ### One step (R172, R182) -/

/-- Position, speed and acceleration of the generator. -/
structure Kin where
  sp : Int
  v : Int
  a : Int
  deriving DecidableEq, Repr

/-- rnd8(g (v + a/2 + j/6)) of R172. -/
def advance (g v a j : Int) : Int := roundUp ((g : Rat) * (6 * v + 3 * a + j : Int) / (6 * 2 ^ 47))

/-- Speed gained while a falls to 0 at jerk j, one step after another (R182). -/
def gainToZero (a j : Int) : Int :=
  let m := a / j
  m * a - j * m * m / 2 + (a - m * j) / 2

/-- A step of RAMP toward `vt` with limit `l` and jerk `j`, and whether it reached `vt` (R182). Whether a moves back toward 0 is judged
afresh at each step (DESIGN CHOICE, log 92); the step that sets v := vt advances by the acceleration vt − v where jerk is unlimited, and by
its own a and j otherwise (DESIGN CHOICE, log 93). -/
def rampStep (g : Int) (k : Kin) (vt l j : Int) : Kin × Bool :=
  let d : Int := if k.v < vt then 1 else if vt < k.v then -1 else if 0 < k.a then -1 else 1
  let w := d * (vt - k.v)
  if j = 0 then
    if w ≤ l then (⟨wrapS 56 (k.sp + advance g k.v (d * w) 0), vt, 0⟩, true)
    else (⟨wrapS 56 (k.sp + advance g k.v (d * l) 0), k.v + d * l, d * l⟩, false)
  else if w = 0 ∧ k.a = 0 then (⟨wrapS 56 (k.sp + advance g k.v 0 0), k.v, 0⟩, true)
  else
    let x := d * k.a
    let dj := if 0 < x ∧ w < x + gainToZero x j then -(min j x)
      else if l < x then -(min j (x - l)) else min j (l - x)
    let v' := k.v + k.a + d * dj / 2
    let sp' := wrapS 56 (k.sp + advance g k.v k.a (d * dj))
    if d * (vt - v') ≤ 0 then (⟨sp', vt, 0⟩, true) else (⟨sp', v', k.a + d * dj⟩, false)

/-- The limit of a RAMP: ACC while |v| rises, DEC while it falls (R182). -/
def rampLimit (v vt acc dec : Int) : Int := if v = 0 ∨ isgn v = isgn (vt - v) then acc else dec

/-! ### The generator's plan (R177, R186, R188) -/

/-- Whole counts of a set-point: c of R177. -/
def countsOf (sp : Int) : Int := sp / 2 ^ 8

/-- The direction of motion σ (R186). -/
def OuterSt.dir (o : OuterSt) : Int := if o.v ≠ 0 then isgn o.v else isgn o.a

def OuterSt.moving (o : OuterSt) : Bool := o.v != 0 || o.a != 0

/-- Braking distance of the present state under DEC and JERK, in position units (R183). -/
def OuterSt.brakeUnits (o : OuterSt) (g : Int) (dec jerk : Int) : Rat :=
  brake (val47 (iabs o.v)) (val47 (o.dir * o.a)) (val47 dec) (val47 jerk) * g

/-- The speed of a move under limits (R177): the lesser of SPEED and VMAX, with its sign. -/
def Move_.speedIn (m : Move_) (l : Lim) : Int :=
  if m.isPos then (if m.want = 0 then l.vmax else min m.want l.vmax) else clampInt m.want (-l.vmax) l.vmax

/-- The commanded speed exceeds VMAX (R177). -/
def Move_.overspeeds (m : Move_) (l : Lim) : Bool := decide (l.vmax < iabs m.want)

/-- A move under the limits in force. -/
def Move_.under (m : Move_) (l : Lim) : Move_ := { m with speed := m.speedIn l }

/-- Plan a position move from the present state (Table 06.5, R187). -/
def OuterSt.planPos (o : OuterSt) (g : Int) (l : Lim) (m : Move_) : OuterSt :=
  let o := { o with move := some m }
  if !o.moving then { o with seg := .ramp, reversed := false }
  else
    let b := o.brakeUnits g l.dec l.jerk
    let r := o.dir * wrapS 48 (m.target - countsOf o.sp)
    if b ≤ ((r * 2 ^ 8 : Int) : Rat) then { o with seg := .ramp, reversed := false }
    else { o with seg := .turn, dec := l.dec, jerk := l.jerk, reversed := true
                  turnAt := wrapS 56 (countsOf o.sp * 2 ^ 8 + o.dir * roundUp b)
                  overshoot := (b / 2 ^ 8).floor.toNat - r.toNat + (-r).toNat }

/-- Plan a velocity motion: RAMP toward its speed, through zero if the sign changes (R186). -/
def OuterSt.planVel (o : OuterSt) (m : Move_) : OuterSt := { o with move := some m, seg := .ramp, reversed := false }

def OuterSt.plan (o : OuterSt) (g : Int) (l : Lim) (m : Move_) : OuterSt :=
  if m.isPos then o.planPos g l m else o.planVel m

/-- What a run does beside its state: words for DONE (number, status, DETAIL), and an undefined use. -/
structure RunOut where
  st : OuterSt
  done : List (Nat × Nat × Nat) := []
  fault : Option Fault := none
  /-- The axis left its caravan in this run. -/
  left : Bool := false
  /-- CARAVAN_BROKEN is posted in this run. -/
  broken : Bool := false
  deriving DecidableEq, Repr

def RunOut.post (r : RunOut) (num status detail : Nat) : RunOut := { r with done := r.done ++ [(num, status, detail)] }

def RunOut.postAll (r : RunOut) (xs : List (Nat × Nat × Nat)) : RunOut := { r with done := r.done ++ xs }

/-- The delivery number and kind of an engagement in force. -/
def Source.engagement (s : Source) : Option (Nat × Bool) :=
  match s with
  | .gear g => some (g.num, false)
  | .cam c => some (c.num, true)
  | _ => none

def Source.isCaravan (s : Source) : Bool :=
  match s with
  | .caravan _ => true
  | _ => false

def Source.isEngaged (s : Source) : Bool :=
  match s with
  | .generator => false
  | _ => true

/-! ### Stops (R189 to R194, R196, R202, R226) -/

/-- The source in force gives the axis back to the generator: its engagement completes, a member leaves its caravan. -/
def RunOut.release (r : RunOut) (status detail : Nat) : RunOut :=
  let r' := match r.st.source.engagement with
    | some e => r.post e.1 status detail
    | none => { r with left := r.left || r.st.source.isCaravan }
  { r' with st := { r'.st with source := .generator, seg := .idle, move := none, atRest := [] } }

/-- A running move becomes the kept move and completes STOPPED with DETAIL `d` at standstill (R189, R193). -/
def OuterSt.keepMove (o : OuterSt) (d : Nat) : OuterSt :=
  match o.move with
  | none => o
  | some m =>
    { o with move := none, kept := some { m with num := none }
             atRest := o.atRest ++ (match m.num with
               | some n => [(n, 0x0A, d)]
               | none => []) }

/-- Start braking in segment `q` (STOP, or QSTOP when true) from the present state. -/
def OuterSt.brakeIn (o : OuterSt) (quick : Bool) (l : Lim) : OuterSt :=
  { o with seg := if quick then .qstop else .stop
           dec := if quick then l.qstopDec else l.stopDec, jerk := if quick ∨ l.stopDec = oneStep then 0 else l.jerk }

/-- The stop that STOP, QUICK_STOP, STOP_REQ and an ABORT make on a moving or engaged axis. -/
def RunOut.beginStop (r : RunOut) (quick : Bool) (l : Lim) (detail : Nat) : RunOut :=
  if r.st.source.isEngaged then
    let r := r.release 0x0A detail
    { r with st := r.st.brakeIn quick l }
  else { r with st := (r.st.keepMove detail).brakeIn quick l }

/-- STOP and QUICK_STOP processed in a run (R189, R190). -/
def RunOut.stopCmd (r : RunOut) (quick : Bool) (num : Nat) (l : Lim) : RunOut :=
  let o := r.st
  let add := fun (r : RunOut) => { r with st := { r.st with atRest := r.st.atRest ++ [(num, 0x00, 0)] } }
  if o.source.isEngaged then add (r.beginStop quick l (if quick then 2 else 1))
  else match o.seg with
  | .idle | .track => r.post num 0x00 0
  | .qstop => add r
  | .stop =>
    if quick then
      let olds := o.atRest.filter (·.2.1 == 0x00)
      add (({ r with st := ({ o with atRest := o.atRest.filter (·.2.1 != 0x00) }).brakeIn true l }).postAll
        (olds.map fun (e : Nat × Nat × Nat) => (e.1, 0x0B, num)))
    else add r
  | _ => add (r.beginStop quick l (if quick then 2 else 1))

/-- A later move takes over from a stop or a move in progress: what waits for standstill completes now (R186, R193, R195). -/
def RunOut.supersede (r : RunOut) (num : Nat) : RunOut :=
  let o := r.st
  let waiting := o.atRest.map fun (e : Nat × Nat × Nat) => if e.2.1 = 0x00 then (e.1, 0x0B, num) else e
  let running := match o.move with
    | some m => match m.num with
      | some n => [(n, 0x0B, num)]
      | none => []
    | none => []
  { (r.postAll (waiting ++ running)) with st := { o with atRest := [], move := none } }

/-- An ABORT entry (R194): the running command stops as under STOP and completes ABORTED at standstill. -/
def RunOut.abortCmd (r : RunOut) (num : Nat) (l : Lim) : RunOut :=
  let o := r.st
  if o.source.engagement.any (·.1 == num) then
    let st := ({ o with source := .generator, seg := .idle, move := none, kept := none }).brakeIn false l
    { r with st := { st with atRest := [(num, 0x01, 0)] } }
  else if o.move.any (·.num == some num) then
    let st := ({ o with move := none, kept := none }).brakeIn false l
    { r with st := { st with atRest := o.atRest ++ [(num, 0x01, 0)] } }
  else if o.atRest.any (·.1 == num) then
    { r with st := { o with atRest := o.atRest.map fun e => if e.1 = num then (num, 0x01, 0) else e
                            kept := none } }
  else r

/-! ### Motion commands (R176 to R196) -/


/-- The target of a MOVE_POS (Table 06.3). -/
def moveTarget (o : OuterSt) (mode target : Nat) (m : Nat) : Int :=
  let c := countsOf o.sp
  let t := sint 48 target
  let d0 := (t % m - c % m) % m
  match mode with
  | 0 => t
  | 1 =>
    let base := match o.move with
      | some mv => if mv.isPos then mv.target else c
      | none => match o.kept with
        | some mv => if mv.isPos then mv.target else c
        | none => c
    wrapS 48 (base + t)
  | 2 => wrapS 48 (c + if 2 * d0 ≤ m then d0 else d0 - m)
  | 3 => wrapS 48 (c + d0)
  | _ => wrapS 48 (if d0 = 0 then c else c + d0 - m)

/-- The first cause of Table 06.4a that refuses a move. -/
def RunOut.moveRefusal (r : RunOut) (e : AxisEnv) (x : AxisIn) (l : Lim) (pos : Bool) (speedZero : Bool) : Option Nat :=
  let o := r.st
  if pos && e.drive && !e.posloop then some 0x2
  else if o.source.isEngaged then some 0x3
  else if l.vmax = 0 ∨ l.acc = 0 ∨ l.dec = 0 ∨ speedZero then some 0x4
  else if x.it 5 0x09 0 % 2 = 1 then some 0x5
  else none

/-- MOVE_POS (R177, R186). -/
def RunOut.movePos (r : RunOut) (e : AxisEnv) (x : AxisIn) (c : MotionEntry) (l : Lim) : RunOut :=
  let m0 : Move_ := { isPos := true, target := 0, speed := 0, want := max (word23 c.speed) 0 * 2 ^ 24, num := some c.num }
  let m := m0.under l
  match r.moveRefusal e x l true (decide (m.speed = 0)) with
  | some d => r.post c.num 0x07 d
  | none =>
    if 5 ≤ c.mode ∨ (2 ≤ c.mode ∧ l.modulus < 2) then r.post c.num 0x07 0x9
    else if r.st.track then r.post c.num 0x07 0xA
    else
      let t := moveTarget r.st c.mode c.target l.modulus
      if wrapS 48 (t - countsOf r.st.sp) = -(2 ^ 47) then { r with fault := some .moveDistance }
      else
        let r1 := r.supersede c.num
        let o := { r1.st with kept := none, vclamp := m.overspeeds l }
        { r1 with st := o.planPos e.g l { m with target := t } }

/-- MOVE_VEL (R177, R186). -/
def RunOut.moveVel (r : RunOut) (e : AxisEnv) (x : AxisIn) (c : MotionEntry) (l : Lim) : RunOut :=
  let m0 : Move_ := { isPos := false, target := 0, speed := 0, want := word23 c.speed * 2 ^ 24, num := some c.num }
  let m := m0.under l
  match r.moveRefusal e x l false (decide (m.speed = 0)) with
  | some d => r.post c.num 0x07 d
  | none =>
    if r.st.track then r.post c.num 0x07 0xA
    else
      let r1 := r.supersede c.num
      let o := { r1.st with kept := none, vclamp := m.overspeeds l }
      { r1 with st := o.planVel m }

/-- RESUME (R193). -/
def RunOut.resume (r : RunOut) (e : AxisEnv) (x : AxisIn) (c : MotionEntry) (l : Lim) : RunOut :=
  let o := r.st
  match o.kept with
  | none =>
    match r.moveRefusal e x l false false with
    | some d => r.post c.num 0x07 d
    | none => r.post c.num 0x07 0x6
  | some m =>
    match r.moveRefusal e x l m.isPos (decide (m.speedIn l = 0)) with
    | some d => r.post c.num 0x07 d
    | none =>
      if !(o.seg == .idle || o.seg == .stop || o.seg == .qstop || o.track) then r.post c.num 0x07 0x6
      else if m.isPos && m.stale then r.post c.num 0x07 0x7
      else if o.track then r.post c.num 0x07 0xA
      else
        let r1 := r.supersede c.num
        { r1 with st := ({ r1.st with kept := none }).plan e.g l { m.under l with num := some c.num } }

/-! ### Master values (R204 to R206) -/

/-- SOURCE and FRESH of the SRC item (Table 07.2). -/
def AxisIn.srcKind (x : AxisIn) : Nat := x.it 6 0x08 0 % 2 ^ 3
def AxisIn.srcFresh (x : AxisIn) : Bool := (x.it 6 0x08 0).testBit 3

/-- The master is a command position: 56 bits, in position units (Table 07.5). -/
def AxisEnv.cmdMaster (e : AxisEnv) : Bool := e.masterKind == 1

/-- The master value a gearing follower uses (R204, R205). -/
def AxisEnv.master (e : AxisEnv) (x : AxisIn) : Int :=
  let w := fun i => x.it 6 0x08 i
  if e.cmdMaster then
    let m := wrapS 56 ((w 1 : Int) + w 2 * 2 ^ 24 + w 3 * 2 ^ 48)
    if e.comp then
      let age : Int := getBits (w 0) 4 5
      let se := sint 4 (getBits (w 0) 9 4)
      wrapS 56 (m + roundUp ((age * word23 (w 4) * 2 ^ (se + 8).toNat : Int) / 2 ^ 23))
    else m
  else ((w 1 + w 2 % 2 ^ 8 * 2 ^ 24 : Nat) : Int)

/-- The signed difference of two master values in position units (R204). -/
def AxisEnv.masterDiff (e : AxisEnv) (m p : Int) : Int :=
  if e.cmdMaster then wrapS 56 (m - p) else wrapS 32 (m - p) * 2 ^ 8

/-! ### Engagement commands (R200 to R202, R208 to R212, R218) -/

/-- The first cause of Table 07.3 that refuses an engagement. -/
def RunOut.engageRefusal (r : RunOut) (x : AxisIn) (c : MotionEntry) (isCam : Bool) : Option Nat :=
  let o := r.st
  if o.source.isCaravan then some 0x3
  else if c.bad = 0x4 then some 0x4
  else if x.it 5 0x09 0 % 2 = 1 then some 0x5
  else if o.track then some 0xA
  else if !o.source.isEngaged && o.seg != .idle then some 0xB
  else if c.bad = 0xC then some 0xC
  else match o.source.engagement with
    | some eg => if eg.2 != isCam then some 0xD else none
    | none => none

/-- The ramp weight w, out of 2^16 (R210). -/
def GearRun.weight (g : GearRun) : Int :=
  if g.ramp = 0 then 2 ^ 16 else (min g.dist (g.ramp * 2 ^ 8) * 2 ^ 16 / (g.ramp * 2 ^ 8) : Nat)

/-- The ratio in force (R209). -/
def GearRun.rho (g : GearRun) : Rat := g.rho0 + (g.ratio - g.rho0) * (g.weight : Rat) / 2 ^ 16

/-- GEAR_ENGAGE (R208 to R211). -/
def RunOut.gearEngage (r : RunOut) (e : AxisEnv) (x : AxisIn) (c : MotionEntry) (num : Int) (den ramp : Nat) (startEn : Bool)
    (startDir startPos : Nat) : RunOut :=
  match r.engageRefusal x c false with
  | some d => r.post c.num 0x07 d
  | none =>
    let fresh : GearRun :=
      { num := c.num, ratio := (num : Rat) / den, ramp := ramp, startDir := startDir, startPos := startPos
        started := !startEn, rho0 := 0, rem := 0, dist := 0, mPrev := e.master x, dmPrev := 0, repeated := 0 }
    let r1 := match r.st.source with
      | .gear g =>
        let next := { fresh with
          rho0 := if g.started then g.rho else 0, rem := g.rem, mPrev := g.mPrev, dmPrev := g.dmPrev, repeated := g.repeated }
        { r.post g.num 0x0B c.num with st := { r.st with source := .gear next } }
      | _ => { r with st := { r.st with source := .gear fresh } }
    { r1 with st := { r1.st with kept := none, move := none, seg := .idle } }

/-- The curve's value at the points SRC carries, before off and blend (R217), in position units. -/
def camCurve (x : AxisIn) (yscale rise : Int) (cyclic : Bool) : Int :=
  let w := fun i => x.it 6 0x08 i
  let raw := fun i => word23 (w (3 + i))
  let flag := fun i => (w 7).testBit i
  let p1 := raw 1
  let p2 := if cyclic && flag 2 then raw 2 + rise else raw 2
  let p0 := if flag 0 then (if cyclic then raw 0 - rise else 2 * p1 - p2) else raw 0
  let p3 := if flag 3 then (if cyclic then raw 3 + rise else 2 * p2 - p1) else raw 3
  let tt : Rat := (w 2 % 2 ^ 17 : Nat) / 2 ^ 16
  let y : Rat := p1 + (tt * (p2 - p0 : Int) + tt ^ 2 * (2 * p0 - 5 * p1 + 4 * p2 - p3 : Int) + tt ^ 3 * (3 * (p1 - p2) + p3 - p0 : Int)) / 2
  let yi := (y + 1 / 2).floor + word23 (w 8) * rise
  roundUp ((yi * yscale * 2 ^ 8 : Int) / 2 ^ 23)

/-- CAM_ENGAGE (R218): the follower joins the curve without a step. -/
def RunOut.camEngage (r : RunOut) (x : AxisIn) (c : MotionEntry) (ymode : Bool) (offset : Int) (blend : Nat) (yscale rise : Int)
    (cyclic : Bool) : RunOut :=
  match r.engageRefusal x c true with
  | some d => r.post c.num 0x07 d
  | none =>
    let curve := camCurve x yscale rise cyclic
    let off := if ymode then offset * 2 ^ 8 else wrapS 56 (r.st.sp - curve)
    let cam : CamRun :=
      { num := c.num, off := off, d0 := if ymode then wrapS 56 (r.st.sp - (off + curve)) else 0
        blend := if ymode then blend else 0, b := 0, yscale := yscale, rise := rise, cyclic := cyclic }
    let r1 := match r.st.source with
      | .cam old => r.post old.num 0x0B c.num
      | _ => r
    { r1 with st := { r1.st with source := .cam cam, kept := none, move := none, seg := .idle } }

/-- DISENGAGE (R202, R212): with PARAM[0] = 0 the generator ramps to rest with no move, so that nothing can be kept. -/
def RunOut.disengage (r : RunOut) (c : MotionEntry) : RunOut :=
  if r.st.source.isEngaged then
    let o := r.st
    let r1 := (r.release 0x00 0).post c.num 0x00 0
    let st := { r1.st with kept := none, reversed := false }
    if c.mode = 1 then
      { r1 with st := { st with move := some { isPos := false, target := 0, speed := o.v, want := o.v }, seg := .cruise, a := 0 } }
    else { r1 with st := { st with seg := .ramp } }
  else r.post c.num 0x00 0x1

/-! ### The commands of a run (R179) -/

/-- A write of PROF.LIMITS re-plans a move in RAMP or CRUISE from the present state, as though it had been retargeted to its own target
(R188). -/
def OuterSt.replan (o : OuterSt) (g : Int) (l : Lim) (ws : List Nat) : OuterSt :=
  if o.limits = ws then o
  else
    let o1 := { o with limits := ws }
    match o.seg, o.move with
    | .ramp, some m | .cruise, some m =>
      let p := o1.plan g l (m.under l)
      { p with reversed := p.seg == .turn || o.reversed, vclamp := m.overspeeds l }
    | _, _ => o1

/-- One delivered entry; the limits written before it act before it (R188). -/
def RunOut.command (e : AxisEnv) (x : AxisIn) (r0 : RunOut) (c : MotionEntry) : RunOut :=
  let l := limOf c.limits x
  let r := if r0.st.track then r0 else { r0 with st := r0.st.replan e.g l c.limits }
  match c.opcode with
  | 0x04 => r.abortCmd (c.target % 64) l
  | 0x10 => r.movePos e x c l
  | 0x11 => r.moveVel e x c l
  | 0x12 => r.stopCmd false c.num l
  | 0x13 => r.stopCmd true c.num l
  | 0x14 => r.resume e x c l
  | 0x1A => r.disengage c
  | _ =>
    match c.engage with
    | some (.gear n d ra se sd sp) => r.gearEngage e x c n d ra se sd sp
    | some (.cam ym o b ys ri cy) => r.camEngage x c ym o b ys ri cy
    | none => r

/-- STOP_REQ, taken after the run's commands (R191). -/
def RunOut.stopReq (r : RunOut) (x : AxisIn) (l : Lim) : RunOut :=
  if x.it 5 0x09 0 % 2 = 1 then
    if r.st.source.isEngaged then r.beginStop false l 3
    else match r.st.seg with
      | .idle | .track | .stop | .qstop => r
      | _ => r.beginStop false l 3
  else r

/-- The first run in TRACK, and the later ones: what runs ends, the set-point stays at the actual position (R168, R192). -/
def RunOut.enterTrack (r : RunOut) : RunOut :=
  let r1 := if r.st.source.isEngaged then r.release 0x0A 4 else r
  let r2 := { r1 with st := r1.st.keepMove 4 }
  let r3 := r2.postAll r2.st.atRest
  { r3 with st := { r3.st with atRest := [], seg := .track, sp := r3.st.pos, v := 0, a := 0, track := true } }

/-! ### The generator's step (R182 to R190) -/

/-- What waits for standstill completes; the generator enters IDLE. -/
def RunOut.standstill (r : RunOut) : RunOut :=
  { (r.postAll r.st.atRest) with st := { r.st with atRest := [], seg := .idle, v := 0, a := 0 } }

def OuterSt.kin (o : OuterSt) : Kin := ⟨o.sp, o.v, o.a⟩
def OuterSt.withKin (o : OuterSt) (k : Kin) : OuterSt := { o with sp := k.sp, v := k.v, a := k.a }

/-- Landing of a position move (R185). -/
def RunOut.landing (r : RunOut) (m : Move_) (k : Kin) : RunOut :=
  let t := wrapS 56 (m.target * 2 ^ 8)
  let r1 := match m.num with
    | some n => r.post n 0x00 0
    | none => r
  { r1 with st := { r1.st with sp := t, v := 0, a := 0, seg := .idle, move := none, land := wrapS 56 (t - k.sp) } }

/-- A step of FINAL (R184, R185). -/
def RunOut.finalStep (r : RunOut) (g : Int) (m : Move_) : RunOut :=
  let s := rampStep g r.st.kin 0 r.st.dec r.st.jerk
  if s.2 then r.landing m s.1 else { r with st := r.st.withKin s.1 }

/-- A step of RAMP or CRUISE of a position move, or the start of its final approach (R184). -/
def RunOut.posStep (r : RunOut) (g : Int) (l : Lim) (m : Move_) : RunOut :=
  let o := r.st
  let diff := wrapS 56 (m.target * 2 ^ 8 - o.sp)
  let d : Int := if diff < 0 then -1 else 1
  let vt := d * m.speed
  let s := rampStep g o.kin vt (rampLimit o.v vt l.acc l.dec) l.jerk
  let rem : Rat := (iabs diff : Rat) / g
  let sc : Rat := ((d * wrapS 56 (s.1.sp - o.sp) : Int) : Rat) / g
  let b := brake (val47 (iabs o.v)) (val47 (d * o.a)) (val47 l.dec) (val47 l.jerk)
  if rem < b + sc then
    let df := commitDec (val47 (iabs o.v)) (val47 (d * o.a)) rem l.dec l.jerk
    ({ r with st := { o with seg := .final, dec := df, jerk := l.jerk, dCommit := df } }).finalStep g m
  else { r with st := { o.withKin s.1 with seg := if s.2 then .cruise else .ramp } }

/-- A step of RAMP or CRUISE of a velocity motion. -/
def RunOut.velStep (r : RunOut) (g : Int) (l : Lim) (m : Move_) : RunOut :=
  let o := r.st
  let s := rampStep g o.kin m.speed (rampLimit o.v m.speed l.acc l.dec) l.jerk
  if !s.2 then { r with st := { o.withKin s.1 with seg := .ramp } }
  else
    let r1 := match m.num with
      | some n => r.post n 0x00 0
      | none => r
    if m.speed = 0 then { r1 with st := { o.withKin s.1 with seg := .idle, move := none } }
    else { r1 with st := { o.withKin s.1 with seg := .cruise, move := some { m with num := none } } }

/-- A step of the ramp to rest that DISENGAGE leaves, under DEC and JERK (R212). -/
def RunOut.restStep (r : RunOut) (g : Int) (l : Lim) : RunOut :=
  let s := rampStep g r.st.kin 0 (rampLimit r.st.v 0 l.acc l.dec) l.jerk
  if s.2 then { r with st := { r.st.withKin s.1 with seg := .idle } } else { r with st := r.st.withKin s.1 }

/-- One step of the profile generator (R172, Table 06.4). -/
def RunOut.genStep (r : RunOut) (g : Int) (l : Lim) : RunOut :=
  let o := r.st
  match o.seg with
  | .idle | .track => { r with st := { o with v := 0, a := 0 } }
  | .ramp | .cruise =>
    match o.move with
    | some m => if m.isPos then r.posStep g l m else r.velStep g l m
    | none => r.restStep g l
  | .final =>
    match o.move with
    | some m => r.finalStep g m
    | none => r.standstill
  | .turn =>
    let s := rampStep g o.kin 0 o.dec o.jerk
    if s.2 then { r with st := { o with sp := o.turnAt, v := 0, a := 0, seg := .ramp, move := o.move.map (·.under l) } }
    else { r with st := o.withKin s.1 }
  | .stop | .qstop =>
    let s := rampStep g o.kin 0 o.dec o.jerk
    if s.2 then ({ r with st := o.withKin s.1 }).standstill else { r with st := o.withKin s.1 }

/-! ### Steps of the engaged sources (R197, R209, R217, R221 to R227) -/

/-- v_p and a_p of an engaged source follow from its set-point (R197). -/
def OuterSt.follow (o : OuterSt) (g sp : Int) : OuterSt :=
  let v := roundUp ((wrapS 56 (sp - o.sp) : Rat) * 2 ^ 47 / g)
  { o with sp := sp, v := v, a := v - o.v }

/-- The master's START_POS crossing, from the values of two runs (R211, R235): the travel beyond it. -/
def GearRun.crossed (gr : GearRun) (e : AxisEnv) (old new : Int) : Option Int :=
  let start : Int := if e.cmdMaster then sint 48 gr.startPos * 2 ^ 8 else gr.startPos % 2 ^ 32
  let w := if e.cmdMaster then 56 else 32
  let eo := wrapS w (old - start)
  let en := wrapS w (new - start)
  let st := wrapS w (new - old)
  let up := decide (eo < 0 ∧ 0 ≤ en ∧ 0 < st) && gr.startDir.testBit 0
  let down := decide (0 < eo ∧ en ≤ 0 ∧ st < 0) && gr.startDir.testBit 1
  if up || down then some (if e.cmdMaster then en else en * 2 ^ 8) else none

/-- One gearing run (R206, R209 to R211). -/
def RunOut.gearStep (r : RunOut) (e : AxisEnv) (x : AxisIn) (gr : GearRun) : RunOut :=
  let o := r.st
  let m := e.master x
  let fresh := x.srcFresh
  let raw := e.masterDiff m gr.mPrev
  let runs := if fresh then 0 else min (o.staleRuns + 1) 0x10000
  let cross := if gr.started then none else if fresh then gr.crossed e gr.mPrev m else none
  let dm := if gr.started then (if fresh then raw - gr.repeated else gr.dmPrev) else cross.getD 0
  let run := gr.started || cross.isSome
  let g1 := { gr with started := run, mPrev := if fresh then m else gr.mPrev
                      repeated := if fresh then 0 else gr.repeated + (if gr.started then gr.dmPrev else 0)
                      dmPrev := if run then dm else 0, w := gr.weight }
  let o1 := { o with staleRuns := runs, stale := !fresh }
  if run then
    let q := (dm : Rat) * gr.rho + gr.rem
    let inc := q.floor
    if 2 ^ 39 ≤ inc.natAbs then { r with fault := some .gearIncrement }
    else
      { r with st := ({ o1 with source := .gear { g1 with rem := q - inc, dist := gr.dist + dm.natAbs } }).follow e.g
                 (wrapS 56 (o.sp + inc)) }
  else { r with st := ({ o1 with source := .gear g1 }).follow e.g o.sp }

/-- One cam run (R217, R218). -/
def RunOut.camStep (r : RunOut) (e : AxisEnv) (x : AxisIn) (c : CamRun) : RunOut :=
  let o := r.st
  if x.camFar then { r with fault := some .camCycle }
  else
    let fresh := x.srcFresh
    let bl : Int := if c.b < c.blend then roundUp ((c.d0 * (c.blend - c.b : Int) : Int) / (c.blend : Rat)) else 0
    let sp := wrapS 56 (c.off + camCurve x c.yscale c.rise c.cyclic + bl)
    let runs := if fresh then 0 else min (o.staleRuns + 1) 0x10000
    let c1 := { c with b := min (c.b + 1) c.blend, blending := decide (c.b < c.blend), outRange := (x.it 6 0x08 7).testBit 4 }
    { r with st := ({ o with source := .cam c1, staleRuns := runs, stale := !fresh }).follow e.g sp }

/-- The group-wide data of SRC for a caravan (Table 07.2), by their first word: the current segment's, or the next one's. -/
structure SegData where
  valid : Bool
  type : Nat
  len : Nat
  feed : Int
  endSpeed : Int
  phi0 : Nat
  sweep : Int
  s0 : Int
  c1 : Int
  c2 : Int
  c3 : Int
  deriving DecidableEq, Repr

def AxisIn.seg (x : AxisIn) (next : Bool) : SegData :=
  let w := fun i => x.it 6 0x08 i
  let b := if next then 12 else 2
  { valid := (w 1).testBit (if next then 13 else 12), type := getBits (w 1) (if next then 10 else 8) 2
    len := w b, feed := word23 (w (b + 1)) * 2 ^ 24, endSpeed := word23 (w (b + 2)) * 2 ^ 24
    phi0 := w (b + 3), sweep := word23 (w (b + 4)), s0 := sint 48 (w (b + 5) + w (b + 6) * 2 ^ 24)
    c1 := word23 (w (b + 7)), c2 := word23 (w (b + 8)), c3 := word23 (w (b + 9)) }

/-- The distance from speed v to speed ve ≤ v, in speed × outer periods (R183's curve, cut at ve). -/
def slowDistance (v ve d j : Rat) : Rat :=
  let dv := v - ve
  let t := if j = 0 then dv / d else if d * d / j ≤ dv then dv / d + d / j else 2 * rootRat (dv / j)
  (v + ve) / 2 * t

/-- The path's target speed (R222): the least of FEED, VMAX, the next segment's reach, and what the braking curve allows. -/
def pathTarget (p : PathRun) (cur nxt : SegData) (gp : Int) (vmax dec jerk : Int) : Int :=
  let feed := if cur.feed = 0 then vmax else cur.feed
  let reach := if nxt.valid then (((nxt.len * 2 ^ 8 : Nat) : Rat) * 2 ^ 47 / gp).floor else vmax
  let top := max (min (min feed vmax) reach) 0
  let rem : Rat := ((cur.len * 2 ^ 8 : Int) - p.s : Int) / (gp : Rat)
  let ve := if nxt.valid then cur.endSpeed else 0
  let fits := fun (v : Int) => decide (v ≤ top) &&
    (decide (v ≤ ve) || decide ((val47 p.v + val47 v) / 2 + slowDistance (val47 v) (val47 ve) (val47 dec) (val47 jerk) ≤ rem))
  if fits top then top else greatestPassing fits 0 47

/-- The path state at the start of a step: a path at the end of what was queued goes on into the segment SRC shows. A path that has gone
on into the next segment before SRC shows it, since its SEG_AT was not released, stays there (R222). -/
def PathRun.start (p : PathRun) (x : AxisIn) : PathRun :=
  let q := x.it 6 0x08 1 % 2 ^ 8
  if p.seq = q ∨ (p.seq = (q + 1) % 2 ^ 8 ∧ (x.seg true).valid = true) then p else { p with seq := q, s := if p.ended then 0 else p.s }

/-- The path stands in the segment SRC gives as the current one. -/
def PathRun.inCurrent (p : PathRun) (x : AxisIn) : Bool := p.seq == x.it 6 0x08 1 % 2 ^ 8

/-- The segment the path stands in, and the one after it as far as SRC carries it. -/
def PathRun.cur (p : PathRun) (x : AxisIn) : SegData := x.seg (!p.inCurrent x)
def PathRun.nxt (p : PathRun) (x : AxisIn) : SegData := if p.inCurrent x then x.seg true else { x.seg true with valid := false }

/-- One step of the path (R222, R227). -/
def PathRun.step (p0 : PathRun) (x : AxisIn) (gp : Int) : PathRun :=
  let w := fun i => x.it 6 0x08 i
  let p := p0.start x
  let cur := p.cur x
  let nxt := p.nxt x
  let vmax := max (word23 (w 22)) 0 * 2 ^ 24
  let acc := max (word23 (w 23)) 0 * 2 ^ 16
  let jerk := max (word23 (w 25)) 0 * 2 ^ 8
  let halt := (w 27).testBit 4 || (w 27).testBit 5
  let pdec := max (word23 (w 26)) 0 * 2 ^ 16
  let dec := if halt && pdec != 0 then pdec else max (word23 (w 24)) 0 * 2 ^ 16
  let vt := if halt || dec == 0 then 0 else pathTarget p cur nxt gp vmax dec jerk
  let k := (rampStep gp ⟨p.s, p.v, p.a⟩ vt (rampLimit p.v vt acc dec) jerk).1
  let len : Int := cur.len * 2 ^ 8
  let stuck := !halt && !nxt.valid && decide (k.sp = p.s ∧ k.v * gp < 2 ^ 47)
  if len ≤ k.sp ∨ (stuck = true ∧ len - p.s ≤ 1) then
    if nxt.valid then ⟨(p.seq + 1) % 2 ^ 8, k.sp - len, k.v, k.a, false⟩
    else ⟨p.seq, len, 0, 0, true⟩
  else ⟨p.seq, k.sp, k.v, k.a, false⟩

/-- A member's coordinate at λ = s / L, in position units (R221). -/
def segCoord (d : SegData) (s : Int) : Int :=
  let lam : Rat := (s : Rat) / (d.len * 2 ^ 8 : Nat)
  match d.type with
  | 0 => roundUp ((d.s0 + d.c1 * lam) * 2 ^ 8)
  | 1 =>
    let phi := (((d.phi0 : Int) + (lam * (4 * d.sweep : Int) + 1 / 2).floor) % 2 ^ 24).toNat
    let dc : Rat := (cosine24 phi - cosine24 d.phi0 : Int) / 2 ^ 23
    let ds : Rat := (sine24 phi - sine24 d.phi0 : Int) / 2 ^ 23
    roundUp ((d.s0 + d.c1 * dc + d.c2 * ds + d.c3 * lam) * 2 ^ 8)
  | _ => roundUp ((d.s0 + d.c1 * lam + d.c2 * lam ^ 2 + d.c3 * lam ^ 3) * 2 ^ 8)

/-- Where a member stands at its own run's boundary, d periods after the reference member's (R224): segment and position. -/
def PathRun.at (p : PathRun) (x : AxisIn) (gp : Int) (k : Nat) : SegData × Int × Bool :=
  let tau : Rat := (getBits (x.it 6 0x08 1) 17 4 : Nat) / (k : Rat)
  let se := p.s + ((gp : Rat) * (val47 p.v * tau + val47 p.a * tau ^ 2 / 2) + 1 / 2).floor
  let here := p.cur x
  let next := p.nxt x
  let len : Int := here.len * 2 ^ 8
  if len < se ∧ next.valid = true then (next, se - len, true)
  else (here, min (max se 0) len, false)

/-- The words beside the state that a caravan member posts: SEG_AT (R225). -/
def segAtWord (seq : Nat) (ended left : Bool) : Nat := seq % 2 ^ 8 + ended.toNat * 2 ^ 8 + left.toNat * 2 ^ 9

/-- gp of R222. -/
def AxisIn.gp (x : AxisIn) (k : Nat) : Int := 2 ^ (sint 4 (getBits (x.it 6 0x08 27) 0 4) + 8).toNat * k

/-- One run of a caravan member (R221 to R227), and its SEG_AT word. -/
def RunOut.pathStep (r : RunOut) (e : AxisEnv) (x : AxisIn) (p : PathRun) : RunOut × Nat :=
  let gp := x.gp e.k
  let p1 := p.step x gp
  let at_ := p1.at x gp e.k
  let r1 := { r with st := ({ r.st with source := .caravan p1 }).follow e.g (wrapS 56 (segCoord at_.1 at_.2.1)) }
  (r1, segAtWord (if at_.2.2 then p1.seq + 1 else p1.seq) p1.ended false)

/-- A member joins at its first run after the caravan has started, if it meets the conditions of R226; otherwise it posts LEFT. -/
def RunOut.joinCaravan (r : RunOut) (x : AxisIn) : RunOut :=
  let o := r.st
  if !x.called || o.source.isCaravan then r
  else if o.seg != .idle || o.track || o.source.isEngaged || x.it 5 0x09 0 % 2 == 1 then { r with left := true }
  else if x.srcKind != 3 then r
  else { r with st := { o with source := .caravan ⟨x.it 6 0x08 1 % 2 ^ 8, 0, 0, 0, false⟩, kept := none } }

/-- The SEG_AT word of a run that posts LEFT (R226). -/
def RunOut.leftWord (r : RunOut) (x : AxisIn) : Option Nat :=
  if r.left then some (segAtWord (if x.srcKind = 3 then x.it 6 0x08 1 else 0) false true) else none

/-- BROKEN, an empty queue at rest, and a path at rest under ABORT end a membership (R225, R226, R228). -/
def RunOut.leaveCaravan (r : RunOut) (x : AxisIn) (l : Lim) : RunOut :=
  match r.st.source with
  | .caravan p =>
    if (x.it 6 0x08 0).testBit 13 then { (r.beginStop false l 1) with broken := true }
    else if !(x.seg false).valid || ((x.it 6 0x08 27).testBit 5 && decide (p.v = 0 ∧ p.a = 0)) then
      { r with st := { r.st with source := .generator, seg := .idle, v := 0, a := 0 } }
    else r
  | _ => r

/-! ### The loops (R152 to R155) -/

/-- An integrator's update (R155): the new value, and whether it wrapped. -/
def integrate (clamp : Bool) (lim : Int) (sat : Int) (i : Int) (d : Rat) : Int × Bool :=
  let n := i + roundUp (d * 2 ^ 47)
  if clamp then
    let held := if (0 < sat ∧ i < n) ∨ (sat < 0 ∧ n < i) then i else n
    (clampInt held (-lim * 2 ^ 24) (lim * 2 ^ 24), false)
  else (wrapS 56 n, decide (wrapS 56 n ≠ n))

/-- sat24 of R152, in counts. -/
def sat24 (e : Rat) : Rat := clampRat e (-(2 ^ 23 - 1)) (2 ^ 23 - 1)

/-- The velocity reference and the feed-forward (R152); SPD_LIM is the effective limit of R145. -/
def OuterSt.vref (o : OuterSt) (e : AxisEnv) (spdLim : Rat) : Rat :=
  let err : Rat := ((wrapS 56 (o.sp - o.pos) : Int) : Rat) / 2 ^ 8
  let vp := val47 o.v
  if e.posloop then
    clampRat (val23 (e.coef 0) (-8) * sat24 err + val23 (e.coef 1) * vp) (-spdLim) spdLim
  else clampRat vp (-spdLim) spdLim

/-- The velocity loop, its filter, integrator and notch (R154, R155): the new state, and whether the integrator wrapped. Its output counts
as limited where the iq_cmd of a free integrator saturates in store form (DESIGN CHOICE, log 88). -/
def OuterSt.velLoop (o : OuterSt) (e : AxisEnv) (w vref : Rat) : OuterSt × Bool :=
  let c := e.coef
  let wf := if c 6 = 0 then w else val23 o.wf + val23 (c 6) * (w - val23 o.wf)
  let ev := vref - wf
  let sum := fun (iv : Int) => val23 (c 3) 4 * ev + val47 iv + val23 (c 2) 4 * val47 o.a
  let notch := fun (u : Rat) =>
    if c 7 = 0 then u
    else val23 (c 7) 1 * u + val23 (c 8) 1 * val23 o.u1 + val23 (c 9) 1 * val23 o.u2 - val23 (c 10) 1 * val23 o.y1
      - val23 (c 11) 1 * val23 o.y2
  let free := (integrate false 0 0 o.iv (val23 (c 4) (-4) * ev)).1
  let y0 := notch (sum free)
  let limited : Int := if saturates23 y0 then (if 0 < y0 then 1 else -1) else 0
  let iv := integrate e.clampV (c 5) limited o.iv (val23 (c 4) (-4) * ev)
  let u := sum iv.1
  let y := notch u
  ({ o with wf := store23 wf, iv := iv.1, iqCmd := store23 y, u2 := o.u1, u1 := store23 u, y2 := o.y1, y1 := store23 y }, iv.2)

/-! ### One run of the outer task -/

/-- What a run of the outer task posts: DONE words, FAULT_O, SEG_AT, SET_IQ and its state. -/
structure OuterResult where
  st : OuterSt
  done : List (Nat × Nat × Nat)
  faults : Nat
  /-- SEG_AT, when the axis belongs to a caravan. -/
  segAt : Option Nat
  fault : Option Fault
  deriving DecidableEq, Repr

/-- STATE of GEAR.MASTER, as LINK posts it (R203). -/
def OuterSt.linkState (o : OuterSt) : Nat :=
  match o.source with
  | .generator => 0
  | .gear g => if !g.started then 1 else if g.w < 2 ^ 16 then 2 else 3
  | .cam _ => 4
  | .caravan _ => 5

/-- The LINK word (R203). -/
def OuterSt.linkWord (o : OuterSt) : Nat :=
  let cam := match o.source with
    | .cam c => (c.outRange && !c.cyclic, c.blending)
    | _ => (false, false)
  o.linkState + (o.stale && o.linkState != 0 && o.linkState != 5).toNat * 2 ^ 3 + cam.1.toNat * 2 ^ 4 + cam.2.toNat * 2 ^ 5

/-- One run of the outer task on what its record delivers (R150 to R155, R168, R169, R171 to R228). -/
def outerRun (e : AxisEnv) (x : AxisIn) (o : OuterSt) : OuterResult :=
  let tr := e.tracks x
  let fenced := e.hasFb && x.fbFenced
  let p := x.posn
  let ws := (List.range 8).map fun i => x.it 5 0x08 i
  let l := limOf ws x
  let kept := if fenced then o.kept.map fun m => { m with stale := true } else o.kept
  let o0 := { o with init := true, pos := if e.hasFb then p.pos else o.pos, cm := p.cm, last := p.last, kept := kept
                     posCont := p.posCont, track := tr
                     limits := if o.init then o.limits else ws
                     sp := if o.init then o.sp else if e.hasFb then p.pos else 0 }
  let o1 := if !tr && o.seg == .track then { o0 with seg := .idle, sp := o0.pos, v := 0, a := 0 } else o0
  let r0 : RunOut := { st := o1 }
  let r1 := if tr then r0.enterTrack else r0.leaveCaravan x l
  let r2 := x.entries.foldl (fun r c => if r.fault.isSome then r else RunOut.command e x r c) r1
  let r3 := if tr then r2 else ({ r2 with st := r2.st.replan e.g l ws }).stopReq x l
  let r4 := r3.joinCaravan x
  let stepped : RunOut × Option Nat :=
    match r4.st.source with
    | .generator => ({ r4 with st := { (r4.genStep e.g l).st with stale := false, staleRuns := 0 }, done := (r4.genStep e.g l).done },
        r4.leftWord x)
    | .gear g => (r4.gearStep e x g, r4.leftWord x)
    | .cam c => (r4.camStep e x c, r4.leftWord x)
    | .caravan q => let s := r4.pathStep e x q; (s.1, some s.2)
  let r5 := { stepped.1 with st := { stepped.1.st with limits := ws } }
  let o5 := r5.st
  let spdLim := val23 (fromZero (x.it 1 0x0A 1)) * (if x.it 1 0x0C 0 % 2 = 1 then val23 (word23 (x.it 1 0x0C 2)) else 1)
  let w := if e.sensorless then val23 (e.ownSpd.getD (word23 (x.it 1 0x10 0))) else val23 (word23 (x.it 3 0x09 0)) * e.spdScale
  let looped : OuterSt × Bool :=
    if !e.drive then (o5, false)
    else if tr then ({ o5 with iv := 0, u1 := 0, u2 := 0, y1 := 0, y2 := 0, iqCmd := 0, feCnt := 0, wf := store23 w }, false)
    else
      let err := (wrapS 56 (o5.sp - o5.pos)).natAbs
      let fe := if e.posloop ∧ x.it 1 0x0A 3 * 2 ^ 8 < err then min (o5.feCnt + 1) 0xFFFF else 0
      ({ o5 with feCnt := fe }).velLoop e w (o5.vref e spdLim)
  let o6 := looped.1
  let lost := o6.source.engagement.isSome && decide (e.staleMax < o6.staleRuns)
  let feFault := e.drive && !tr && e.posloop && decide (x.it 1 0x0A 4 % 2 ^ 16 < o6.feCnt)
  { st := o6, done := r5.done, segAt := stepped.2
    fault := if e.drive && !e.coefOk then some .coefficientRange else r5.fault
    faults := feFault.toNat + looped.2.toNat * 2 ^ 8 + lost.toNat * 2 ^ 9 + r5.broken.toNat * 2 ^ 10 }

/-- The PROF.STATUS words after a run (R174). -/
def OuterSt.profWords (o : OuterSt) : List Word24 :=
  let eng := o.source.isEngaged
  let seg : Nat := if eng then 0 else match o.seg with
    | .idle => 0 | .ramp => 1 | .cruise => 2 | .final => 3 | .turn => 4 | .stop => 5 | .qstop => 6 | .track => 7
  let mv := if o.move.isSome then o.move else o.kept
  let kind : Nat := if eng then 0 else match mv with
    | none => 0
    | some m => if m.isPos then 1 else 2
  let target : Int := match mv with
    | none => 0
    | some m => if m.isPos then m.target else m.speed / 2 ^ 24
  let remain : Int := match mv with
    | some m => if m.isPos then wrapS 48 ((wrapS 56 (m.target * 2 ^ 8 - o.sp)) / 2 ^ 8) else 0
    | none => 0
  let isVel := mv.any (!·.isPos)
  let hi := fun (v : Int) => toWord ((uint 48 v / 2 ^ 24 : Nat) : Int)
  [toWord ((seg + o.kept.isSome.toNat * 2 ^ 3 + o.reversed.toNat * 2 ^ 4 + kind * 2 ^ 5 + o.vclamp.toNat * 2 ^ 7 : Nat) : Int),
   toWord target, if isVel then 0 else hi target, toWord remain, hi remain, toWord (o.overshoot : Int), hi (o.overshoot : Int),
   toWord (store23 (val47 o.v)), toWord (store23 (val47 o.a * 2 ^ 8)), toWord (store23 (val47 o.dCommit * 2 ^ 8)), toWord o.land]

end Sys2Proof.Machine
end

