-- ==== Sys2Proof/Machine/CurrentTask.lean ====
section
/-!
DEFINITION. The current task of the standard axis program, one run at a time: angle, observer, references, current loops,
voltage limit, modulation and the fast monitors (R150, R151, R156 to R170), as the exact results R141 states.
-/

namespace Sys2Proof.Machine

/-- A quotient of the axis program; a divisor of 0 leaves it open. -/
def quotRat (x y : Rat) : Rat := if y = 0 then Config.zeroDivide x else x / y

/-- π on the accumulator grid of 2^-47 (R142 gives the exact constant; its rounding belongs to the image). -/
def piRat : Rat := 442139859501778 / 2 ^ 47

/-- √3 (R156, R161). -/
def root3 : Rat := rootRat 3

/-- What a run needs of AXIS.CFG, of SYS.PERIOD and of the other task. -/
structure CurEnv where
  /-- The axis environment it shares with the outer task. -/
  ax : AxisEnv
  curctl : Nat
  three : Bool
  nbr : Nat
  fw : Bool
  clampI : Bool
  clampSh : Bool
  reverse : Bool
  updpt : Nat
  apc : Nat
  angOffset : Nat
  /-- The torque-current reference passed through state by the outer task on the same lane pair. -/
  ownIq : Option Int

/-- An axis current, voltage or flux in two components. -/
structure Pair2 where
  x : Rat
  y : Rat
  deriving DecidableEq, Repr

def Pair2.add (p q : Pair2) : Pair2 := ⟨p.x + q.x, p.y + q.y⟩
def Pair2.sub (p q : Pair2) : Pair2 := ⟨p.x - q.x, p.y - q.y⟩
def Pair2.scale (p : Pair2) (k : Rat) : Pair2 := ⟨p.x * k, p.y * k⟩
def Pair2.mag (p : Pair2) : Rat := rootRat (p.x * p.x + p.y * p.y)

/-- sin and cos of an angle as TRIG gives them (R121). -/
def sinR (u : Nat) : Rat := val23 (sine24 (u % 2 ^ 24))
def cosR (u : Nat) : Rat := val23 (cosine24 (u % 2 ^ 24))

/-- αβ into dq at an angle, and back. -/
def Pair2.toDq (p : Pair2) (th : Nat) : Pair2 := ⟨p.x * cosR th + p.y * sinR th, p.y * cosR th - p.x * sinR th⟩
def Pair2.toAb (p : Pair2) (th : Nat) : Pair2 := ⟨p.x * cosR th - p.y * sinR th, p.x * sinR th + p.y * cosR th⟩

/-- αβ of three phase currents; the zero sequence is discarded. -/
def clarke (a b c : Rat) : Pair2 := ⟨(2 * a - b - c) / 3, (b - c) / root3⟩

/-- The phase values of an αβ vector. -/
def phases (p : Pair2) : List Rat := [p.x, -p.x / 2 + root3 / 2 * p.y, -p.x / 2 - root3 / 2 * p.y]

/-- An angle plus an exact advance, modulo one turn. -/
def angleAdd (th : Nat) (d : Rat) : Nat := (((th : Int) + roundUp d) % 2 ^ 24).toNat

/-- The angle of R151. -/
def CurEnv.angle (e : CurEnv) (cm : Nat) : Nat :=
  let t := (cm * e.apc / 2 ^ 8 + e.angOffset) % 2 ^ 24
  if e.reverse then (2 ^ 24 - t) % 2 ^ 24 else t

/-- dθ of Table 05.2: electrical angle units per Tc at speed `w`. -/
def CurEnv.dth (e : CurEnv) (w : Rat) : Rat := w * val23 (2 ^ 23) e.ax.spdExp * e.apc / 2 ^ 8

/-- dθr: radians per Tc. -/
def CurEnv.dthr (e : CurEnv) (w : Rat) : Rat := 2 * piRat * e.dth w / 2 ^ 24

/-- Coefficient j with exponent x (Table 05.5). -/
def CurEnv.c (e : CurEnv) (j : Nat) (x : Int := 0) : Rat := val23 (e.ax.coef j) x

/-- Every coefficient the run uses lies in its range (R149). -/
def CurEnv.coefOk (e : CurEnv) (iLim : Int) : Bool :=
  let c := e.ax.coef
  let nonneg := fun (js : List Nat) => js.all fun j => decide (0 ≤ c j)
  nonneg [12, 13, 14, 17, 18, 30, 31, 32, 33, 34, 35, 38, 39] && decide (0 < c 15) && decide (0 < c 16)
    && (e.curctl != 2 || (decide (0 ≤ c 19 ∧ 0 < c 20 ∧ c 20 ≤ c 21)))
    && (!e.fw || decide (2 ^ 22 ≤ c 22 ∧ 0 ≤ c 23 ∧ -iLim ≤ c 24 ∧ c 24 ≤ 0))
    && (!e.three || decide (0 ≤ c 25)) && (e.nbr == 0 || nonneg [26, 27, 28, 29])
    && (!e.ax.sensorless || nonneg [36, 37])

/-- Phase current word of bridge b, phase x. -/
def AxisIn.phase (x : AxisIn) (b p : Nat) : Rat := val23 (word23 (x.it 1 0x0D (3 * b + p)))

/-- Inductance of a stored mantissa with e = 7. -/
def lnVal (m : Int) : Rat := val23 m 7

/-- One step of the observer (R165): the new estimates. -/
def CurSt.observe (o : CurSt) (e : CurEnv) (i v : Pair2) (ln : Rat) : CurSt :=
  let g := fun (l : List Int) k => val23 (l.getD k 0)
  let ih : Pair2 := ⟨g o.ih 0, g o.ih 1⟩
  let eh : Pair2 := ⟨g o.eh 0, g o.eh 1⟩
  let r := i.sub ih
  let dv := (v.sub (ih.scale (e.c 17 (-4)))).sub eh
  let ih1 := (ih.add ⟨quotRat dv.x ln, quotRat dv.y ln⟩).add (r.scale (e.c 30))
  let eh1 := eh.sub (r.scale (e.c 31))
  let m := eh1.mag
  let pe : Rat := if m = 0 then 0 else (isgn o.wo : Rat) * (-(eh1.x) * cosR o.thO - eh1.y * sinR o.thO) / m
  let wo := store23 (val23 o.wo + e.c 33 (-8) * pe)
  let th := angleAdd o.thO (e.dth (val23 wo) + e.c 32 * pe * 2 ^ 23)
  let up := e.ax.coef 34 + e.ax.coef 35
  { o with ih := [store23 ih1.x, store23 ih1.y], eh := [store23 eh1.x, store23 eh1.y], wo := wo, thO := th
           obsValid := if up ≤ iabs wo then true else if iabs wo < e.ax.coef 34 then false else o.obsValid }

/-- The estimate of one inductance after a period (R160), its mantissa. -/
def adaptOne (e : CurEnv) (ln : Int) (err u : Rat) : Int :=
  if u < 1 / 2 ^ 10 ∧ -(1 / 2 ^ 10) < u then ln
  else
    let g := quotRat 1 (lnVal ln) + e.c 19 (-8) * err * u
    if g ≤ 0 then e.ax.coef 21 else clampInt (store23 (1 / g / 2 ^ 7)) (e.ax.coef 20) (e.ax.coef 21)

/-- An inductance estimate stands at a limit (R160). -/
def CurEnv.atLimit (e : CurEnv) (ln : Int) : Bool := ln == e.ax.coef 20 || ln == e.ax.coef 21

/-- The compares of a duty (R243). -/
def dutyCompares (d : Rat) (per : Nat) : Nat × Nat :=
  if d ≤ 0 then (0x000000, 0x000000)
  else if 1 ≤ d then (0xFFFFF0, 0xFFFFF0)
  else
    let q := (clampInt ((1 - d) * per * 8 + 1 / 2).floor 16 (per * 8)).toNat
    (q, per * 16 - q)

/-- Greatest and least of three values. -/
def max3 (l : List Rat) : Rat := l.foldl max (l.headD 0)
def min3 (l : List Rat) : Rat := l.foldl min (l.headD 0)

/-- The legs of a two-level bridge (R161). -/
def duties2 (v : List Rat) (vdc : Rat) : List Rat :=
  let v0 := -(max3 v + min3 v) / 2
  v.map fun x => 1 / 2 + quotRat (x + v0) vdc

/-- The outer and inner duties of a three-level bridge (R162); the balancing term is reduced until every leg fits. -/
def duties3 (v : List Rat) (vdc np : Rat) : List Rat × List Rat :=
  let v0 := -(max3 v + min3 v) / 2
  let base := v.map fun x => quotRat (2 * (x + v0)) vdc
  let n := quotRat (2 * np) vdc
  let hi := 1 - max3 base
  let lo := -1 - min3 base
  let n' := if 0 ≤ n then max 0 (min n hi) else min 0 (max n lo)
  let u := base.map (· + n')
  (u.map (max · 0), u.map fun x => min (1 + x) 1)

/-- The dead-time term of a phase (R163). -/
def deadTerm (x : AxisIn) (vdc i : Rat) : Rat :=
  let dt := val23 (fromZero (x.it 1 0x0B 0))
  let zone := val23 (fromZero (x.it 1 0x0B 1))
  dt * vdc * (if zone = 0 then (if i < 0 then -1 else if 0 < i then 1 else 0) else clampRat (i / zone) (-1) 1)

/-- What a run of the current task posts beside its state. -/
structure CurResult where
  st : CurSt
  /-- Compare words by group of the axis and compare: 6 g + c. -/
  cmps : List (Nat × Nat)
  faults : Nat
  status : List Word24
  setSpd : Option Int
  fault : Option Fault
  deriving DecidableEq, Repr

/-- The references of R156: id_fw, id_ref, iq_ref and whether iq was limited. -/
def CurSt.refs (o : CurSt) (e : CurEnv) (iLim tLim : Rat) (boost : Bool) (iqCmd : Rat) : Int × Rat × Rat × Bool :=
  let fw := if e.fw then
      clampInt (roundUp ((val47 o.idFw - e.c 23 (-4) * (val23 o.mPrev 8 - e.c 22)) * 2 ^ 47)) (e.ax.coef 24 * 2 ^ 24) 0
    else 0
  let idRef := if boost then e.c 36 else val47 fw
  let iqMax := min tLim (rootRat (max (iLim * iLim - idRef * idRef) 0))
  let iq := clampRat iqCmd (-iqMax) iqMax
  if boost then (fw, idRef, 0, false) else (fw, idRef, iq, iq != iqCmd)

/-- The voltage the loop asks for (R157, R158), the coupling terms, and the currents it predicts for its horizon. -/
def CurSt.loop (o : CurSt) (e : CurEnv) (dr : Rat) (i ref vnow : Pair2) (lnD lnQ : Rat) : Pair2 × Pair2 × Pair2 :=
  let r := e.c 17 (-4)
  let psi := e.c 18 7
  let c : Pair2 := ⟨-(dr * lnQ * i.y), dr * lnD * i.x + dr * psi⟩
  if e.curctl = 0 then
    let ed := ref.x - i.x
    let eq := ref.y - i.y
    (⟨e.c 12 4 * ed + val47 o.xd - dr * e.c 16 7 * i.y, e.c 12 4 * eq + val47 o.xq + dr * e.c 15 7 * i.x + dr * psi⟩, c, i)
  else
    let p : Pair2 := if e.updpt = 0 then
        ⟨i.x + quotRat (vnow.x - r * i.x - c.x) lnD, i.y + quotRat (vnow.y - r * i.y - c.y) lnQ⟩
      else i
    (⟨r * p.x + lnD * (ref.x - p.x) + c.x, r * p.y + lnQ * (ref.y - p.y) + c.y⟩, c, p)

/-- Limit a voltage vector to vmax, keeping its direction (R158). -/
def limitVec (v : Pair2) (vmax : Rat) : Pair2 × Rat × Bool :=
  let m := v.mag
  if vmax < m then (v.scale (quotRat vmax m), m, true) else (v, m, false)

/-- A of R151. -/
def CurEnv.advance (e : CurEnv) : Rat :=
  if e.updpt = 0 then 3 / 2 else if e.updpt = 1 then 1 else 1 / 2

/-- The sharing term of each bridge (R164): new integrators, corrections, the imbalance seen, and a wrap. -/
def CurSt.share (o : CurSt) (e : CurEnv) (is : List Pair2) (mean : Pair2) : SMap BridgeSt × List Pair2 × Rat × Bool :=
  let one := fun (b : Nat) =>
    let d := (is.getD b mean).sub mean
    let s := o.bridges.get b {}
    let x := integrate e.clampSh (e.ax.coef 28) 0 s.sd (e.c 27 (-4) * d.x)
    let y := integrate e.clampSh (e.ax.coef 28) 0 s.sq (e.c 27 (-4) * d.y)
    let corr : Pair2 := ⟨-(e.c 26 4 * d.x + val47 x.1), -(e.c 26 4 * d.y + val47 y.1)⟩
    ((⟨x.1, y.1⟩ : BridgeSt), corr, d.mag, x.2 || y.2)
  if e.nbr = 0 then ([], [⟨0, 0⟩], 0, false)
  else
    let all := (List.range (e.nbr + 1)).map one
    let n : Rat := (e.nbr + 1 : Nat)
    let avg := (all.foldl (fun p q => p.add q.2.1) (⟨0, 0⟩ : Pair2)).scale (1 / n)
    ((List.range (e.nbr + 1)).foldl (fun m b => m.set b ((all.getD b ({}, ⟨0, 0⟩, 0, false)).1) {}) [],
     all.map fun q => q.2.1.sub avg, all.foldl (fun m q => max m q.2.2.1) 0, all.any fun q => q.2.2.2)

/-- The compare words of one bridge (R161 to R163). -/
def bridgeCompares (e : CurEnv) (x : AxisIn) (b : Nat) (v : Pair2) (th : Nat) (vdc pw : Rat) : List (Nat × Nat) :=
  let ph := phases (v.toAb th)
  let ph := (List.range 3).map fun p => ph.getD p 0 + deadTerm x vdc (x.phase b p)
  let words := fun (g : Nat) (d : List Rat) =>
    (List.range 3).flatMap fun p =>
      let w := dutyCompares (d.getD p 0) (x.it 1 0x11 g)
      [(6 * g + 2 * p, w.1), (6 * g + 2 * p + 1, w.2)]
  if e.three then
    let diff := val23 (word23 (x.it 1 0x0E 0)) - val23 (word23 (x.it 1 0x0E 1))
    let np := e.c 25 * quotRat diff (2 * vdc) * (if pw < 0 then -1 else if 0 < pw then 1 else 0)
    let d := duties3 ph vdc np
    words (2 * b) d.1 ++ words (2 * b + 1) d.2
  else words b (duties2 ph vdc)

/-- One run of the current task on what its record delivers (R150, R151, R156 to R170). Choices where these rules are silent (DESIGN
CHOICE): m_prev is kept in store form as m / 2^8 (log 89); the applied voltage of R160 and R165 is the last one released, with every
UPDPT (log 90); boost starts at the observer's angle with w_ol = 0, and TRACK clears w_ol and the boost timer (log 91). -/
def currentRun (e : CurEnv) (x : AxisIn) (o : CurSt) : CurResult :=
  let tr := e.ax.tracks x
  let fenced := e.ax.hasFb && x.fbFenced
  let late := x.it 1 0x08 0 % 2 == 1
  let comm := x.it 1 0x0C 0 % 2 == 1
  let lim := fun (w f : Nat) => val23 (fromZero (x.it 1 0x0A w)) * (if comm then val23 (word23 (x.it 1 0x0C f)) else 1)
  let iLim := lim 0 1
  let tLim := lim 2 3
  let p := x.posn
  -- what is measured at the boundary
  let is := (List.range (e.nbr + 1)).map fun b => clarke (x.phase b 0) (x.phase b 1) (x.phase b 2)
  let iab := (is.foldl Pair2.add ⟨0, 0⟩).scale (1 / ((e.nbr + 1 : Nat) : Rat))
  let vw := val23 (word23 (x.it 1 0x0E 0))
  let vdc := if e.three then (vw + val23 (word23 (x.it 1 0x0E 1))) / 2 else vw
  let vmax := vdc / root3
  -- estimates and remembered voltages
  let fresh := !o.init || o.bank != x.bankB
  let lnD0 := if fresh then e.ax.coef 15 else o.lnD
  let lnQ0 := if fresh then e.ax.coef 16 else o.lnQ
  let v1 := if late then o.v2 else o.v1
  let g := fun (l : List Int) k => val23 (l.getD k 0)
  let vnow : Pair2 := ⟨g v1 2, g v1 3⟩
  let ob := o.observe e iab ⟨g v1 0, g v1 1⟩ (if e.curctl = 2 then lnVal lnQ0 else e.c 16 7)
  -- angle and speed
  let boost := e.ax.sensorless && !tr && !ob.obsValid
  let iqCmd := val23 (e.ownIq.getD (word23 (x.it 1 0x0F 0)))
  let wants := decide (1 / 2 ^ 10 ≤ iqCmd) || decide (iqCmd ≤ -(1 / 2 ^ 10))
  let goal : Rat := if wants then (if iqCmd < 0 then -1 else 1) * (e.c 34 + e.c 35) else 0
  let acc := e.c 37 (-8)
  let wOl := if boost then store23 (val23 o.wOl + clampRat (goal - val23 o.wOl) (-acc) acc) else 0
  let thOl := if boost then angleAdd o.thOl (e.dth (val23 wOl)) else ob.thO
  let th := if e.ax.sensorless then (if boost then thOl else ob.thO) else e.angle p.cm
  let w := if e.ax.sensorless then (if boost then val23 wOl else val23 ob.wo)
    else val23 (word23 (x.it 3 0x09 0)) * e.ax.spdScale
  let wMon := if e.ax.sensorless then val23 ob.wo else w
  let boostCnt := if boost then (if wants then min (o.boostCnt + 1) 0x10000 else o.boostCnt) else 0
  let i := iab.toDq th
  -- adaptation (R160)
  let ad := fun k => val23 (o.adapt.getD k 0)
  let adapts := e.curctl == 2 && !tr
  let dA := adaptOne e lnD0 (i.x - ad 0) (vnow.x - e.c 17 (-4) * ad 2 - ad 4)
  let qA := adaptOne e lnQ0 (i.y - ad 1) (vnow.y - e.c 17 (-4) * ad 3 - ad 5)
  let lnD := if adapts then dA else lnD0
  let lnQ := if adapts then qA else lnQ0
  let adLim := e.curctl == 2 && (e.atLimit lnD || e.atLimit lnQ)
  let lnDv := if e.curctl = 2 then lnVal lnD else e.c 15 7
  let lnQv := if e.curctl = 2 then lnVal lnQ else e.c 16 7
  -- references, loop, limit
  let rf := ob.refs e iLim tLim boost iqCmd
  let ref : Pair2 := ⟨rf.2.1, rf.2.2.1⟩
  let dr := e.dthr w
  let lp := o.loop e dr i ref vnow lnDv lnQv
  let lv := limitVec lp.1 vmax
  let v := lv.1
  let sgnLim := fun (q : Rat) => if lv.2.2 then (if q < 0 then (-1 : Int) else 1) else 0
  let xd := integrate e.clampI (e.ax.coef 14) (sgnLim lp.1.x) o.xd (e.c 13 (-4) * (ref.x - i.x))
  let xq := integrate e.clampI (e.ax.coef 14) (sgnLim lp.1.y) o.xq (e.c 13 (-4) * (ref.y - i.y))
  let pi := e.curctl == 0
  -- sharing and modulation
  let sh := o.share e (is.map fun q => q.toDq th) i
  let thA := angleAdd th (e.advance * e.dth w)
  let pw := v.x * i.x + v.y * i.y
  let cmps := (List.range (e.nbr + 1)).flatMap fun b =>
    bridgeCompares e x b (v.add (sh.2.1.getD b ⟨0, 0⟩)) thA vdc pw
  let vab := v.toAb thA
  let r := e.c 17 (-4)
  let iExp : Pair2 := if e.updpt = 0 then lp.2.2
    else ⟨i.x + quotRat (v.x - r * i.x - lp.2.1.x) lnDv, i.y + quotRat (v.y - r * i.y - lp.2.1.y) lnQv⟩
  -- monitors
  let delta := val23 (sint 24 (uint 24 ((ob.thO : Int) - th)))
  let laOver := ob.obsValid && e.ax.coef 38 != 0 && (decide (e.c 38 < delta) || decide (delta < -(e.c 38)))
  let laCnt := if laOver then min (o.laCnt + 1) 0x10000 else 0
  let ovs := e.ax.coef 39 != 0 && (decide (e.c 39 < wMon) || decide (wMon < -(e.c 39)))
  let boostTime := x.it 1 0x0A 6 % 2 ^ 16
  let shLim := e.nbr != 0 && e.ax.coef 29 != 0 && decide (e.c 29 < sh.2.2.1)
  let wrap := !tr && ((pi && (xd.2 || xq.2)) || sh.2.2.2)
  let base := { ob with
    init := true, track := tr, pos := if e.ax.hasFb then p.pos else o.pos, cm := p.cm, last := p.last
    posCont := p.posCont, lnD := lnD, lnQ := lnQ, bank := x.bankB, wOl := wOl, thOl := thOl
    boostCnt := boostCnt, laCnt := laCnt, setSpd := store23 (if e.ax.sensorless then w else 0) }
  let st : CurSt := if tr then
      { base with xd := 0, xq := 0, idFw := 0, mPrev := 0, bridges := [], v1 := [0, 0, 0, 0], v2 := [0, 0, 0, 0]
                  adapt := [0, 0, 0, 0, 0, 0] }
    else
      { base with
        xd := if pi then xd.1 else 0, xq := if pi then xq.1 else 0, idFw := rf.1
        mPrev := store23 (quotRat lv.2.1 vmax / 2 ^ 8), bridges := sh.1
        v1 := [store23 vab.x, store23 vab.y, store23 v.x, store23 v.y], v2 := v1
        adapt := [store23 iExp.x, store23 iExp.y, store23 i.x, store23 i.y, store23 lp.2.1.x, store23 lp.2.1.y] }
  let pc := st.pos / 2 ^ 8
  let bits : Nat := tr.toNat + st.posCont.toNat * 2 + (decide (st.idFw < 0)).toNat * 2 ^ 2 + (!tr && rf.2.2.2).toNat * 2 ^ 3
    + (!tr && lv.2.2).toNat * 2 ^ 4 + st.obsValid.toNat * 2 ^ 5 + boost.toNat * 2 ^ 6 + adLim.toNat * 2 ^ 7 + late.toNat * 2 ^ 8
  let q := fun (y : Rat) => toWord (store23 y)
  { st := st, cmps := if tr then [] else cmps
    faults := ovs.toNat * 2 + (decide (x.it 1 0x0A 5 % 2 ^ 16 < laCnt)).toNat * 2 ^ 2 + fenced.toNat * 2 ^ 3
      + x.grpFenced.toNat * 2 ^ 4 + (boost && boostTime != 0xFFFF && decide (boostTime < boostCnt)).toNat * 2 ^ 5
      + adLim.toNat * 2 ^ 6 + shLim.toNat * 2 ^ 7 + wrap.toNat * 2 ^ 8
    status := [toWord pc, toWord ((uint 48 pc / 2 ^ 24 : Nat) : Int), q w, q i.x, q i.y, q (if tr then 0 else v.x),
      q (if tr then 0 else v.y), toWord lnD, toWord lnQ, toWord (th : Int), toWord (bits : Int)]
    setSpd := if e.ax.sensorless then some (store23 w) else none
    fault := if e.coefOk (fromZero (x.it 1 0x0A 0)) then none else some .coefficientRange }

end Sys2Proof.Machine
end

