-- ==== Sys2Proof/Machine/Ptp.lean ====
section
/-!
DEFINITION. The module as a PTP instance (10_time_and_networks, R309, R312 to R316): timestamps, the transmit timestamp queues, the best
master clock algorithm and port states, path delay, and the messages received and sent. What R309 and R313 leave to IEEE 1588-2019 is
taken from that standard (PRESUMED, log entry 99).
-/

namespace Sys2Proof.Machine

def State.eths (s : State) (p : Nat) : EthSt := s.net.eth.get p {}
def State.setEths (s : State) (p : Nat) (v : EthSt) : State := { s with net := { s.net with eth := s.net.eth.set p v {} } }

/-- portState codes of IEEE 1588-2019. -/
abbrev psInitializing : Nat := 1
abbrev psListening : Nat := 4
abbrev psPreMaster : Nat := 5
abbrev psMaster : Nat := 6
abbrev psPassive : Nat := 7
abbrev psUncalibrated : Nat := 8
abbrev psSlave : Nat := 9

/-- messageTypes of IEEE 1588-2019. -/
abbrev mtSync : Nat := 0x0
abbrev mtDelayReq : Nat := 0x1
abbrev mtPdelayReq : Nat := 0x2
abbrev mtPdelayResp : Nat := 0x3
abbrev mtFollowUp : Nat := 0x8
abbrev mtDelayResp : Nat := 0x9
abbrev mtPdelayRespFu : Nat := 0xA
abbrev mtAnnounce : Nat := 0xB

/-! ### The instance and its ports (R312, R313) -/

/-- A port works: it is not off, its link is up and no fence is raised. -/
def State.portUp (s : State) (p : Nat) : Bool :=
  s.fld F.ETH_CFG_SPEED p != 0 && (s.eths p).link && !s.fenced (.eth p)

/-- The port takes part in PTP and works. -/
def State.ptpPort (s : State) (p : Nat) : Bool := s.portUp p && s.bit F.ETH_CFG_PTP_EN p

/-- IEEE 802.1AS-2020 is the profile (TIME.CFG.PROFILE). -/
def State.gptp (s : State) : Bool := s.bit F.TIME_CFG_PROFILE

/-- The port measures path delay peer to peer; so does every port under PROFILE = 1 (Table 10.1). -/
def State.peerDelay (s : State) (p : Nat) : Bool := s.bit F.ETH_CFG_DELAY p || s.gptp

/-- The EUI-64 formed from a MAC address: 0xFFFE between its halves (R313). -/
def eui64 (mac : Nat) : Nat := mac / 2 ^ 24 % 2 ^ 24 * 2 ^ 40 + 0xFFFE * 2 ^ 24 + mac % 2 ^ 24

/-- The module's clockIdentity (R313), and the identity of one of its ports, numbered from 1. -/
def State.clockId (s : State) : Nat := eui64 (s.fld F.ETH_CFG_MAC 0)
def State.portId (s : State) (p : Nat) : Nat := s.clockId * 2 ^ 16 + (p + 1)

/-- The module's own clock (TIME.CFG). -/
def State.ownClock (s : State) : PtpClock :=
  { prio1 := s.fld F.TIME_CFG_PRIO1, cls := s.fld F.TIME_CFG_CLASS, acc := s.fld F.TIME_CFG_ACCURACY
    var := Config.ptpVariance % 2 ^ 16, prio2 := s.fld F.TIME_CFG_PRIO2, id := s.clockId, steps := 0 }

/-- A log interval held within its range of Table 10.1 (R312, R458), in ticks. -/
def logTicks (code lo : Nat) : Nat := (400000000 * 2 ^ (7 + clampInt (sint 4 code) (-(lo : Int)) 4).toNat) / 2 ^ 7

/-- The interval of a message a port sends, in ticks (R312). -/
def State.ptpTicks (s : State) (p mtype : Nat) : Nat :=
  if mtype = mtSync then logTicks (s.fld F.ETH_CFG_LOG_SYNC p) 7
  else if mtype = mtAnnounce then logTicks (s.fld F.ETH_CFG_LOG_ANN p) 3
  else logTicks (s.fld F.ETH_CFG_LOG_DREQ p) 3

/-- delayAsymmetry of a port, in 2^-16 ns. -/
def State.asym (s : State) (p : Nat) : Int := sint 32 (s.fld F.ETH_CFG_ASYM p)

/-! ### Frames (R317, R318) -/

/-- Count a discarded frame (R317). -/
def State.dropFrame (s : State) (p : Nat) : State :=
  let e := s.eths p
  let q := satNat 0xFFFF e.dropped e.dropSat
  s.setEths p { e with dropped := q.1, dropSat := q.2 }

/-- Count a frame with a bad frame check sequence. -/
def State.fcsFrame (s : State) (p : Nat) : State :=
  let e := s.eths p
  let q := satNat 0xFFFF e.fcsErr e.fcsSat
  s.setEths p { e with fcsErr := q.1, fcsSat := q.2 }

/-- A number as bytes, most significant first. -/
def beBytes (n v : Nat) : List (BitVec 8) := (bytesOf n v).reverse

/-- The Ethernet header of a transmitted frame: destination, the port's MAC address, a tag where VLAN_EN is 1, and the EtherType (R317,
IEEE 802.1Q). A MAC address is sent with the most significant byte of its field first (DESIGN CHOICE, log entry 100). -/
def State.ethHead (s : State) (p dst etherType : Nat) : List (BitVec 8) :=
  beBytes 6 dst ++ beBytes 6 (s.fld F.ETH_CFG_MAC p)
    ++ (if s.bit F.ETH_CFG_VLAN_EN p then beBytes 2 0x8100 ++ beBytes 2 (s.fld F.ETH_CFG_PCP p * 2 ^ 13 + s.fld F.ETH_CFG_VID p) else [])
    ++ beBytes 2 etherType

/-- Destination of a PTP message: the peer-delay group address for path delay and under PROFILE = 1, else the general one. -/
def State.ptpDst (s : State) (mtype : Nat) : Nat :=
  if s.gptp || mtype == mtPdelayReq || mtype == mtPdelayResp || mtype == mtPdelayRespFu then 0x0180C200000E else 0x011B19000000

/-- A message leaves on a port (R313). -/
def State.ptpEmit (s : State) (p : Nat) (m : PtpMsg) : State :=
  let m1 := { m with domain := s.fld F.TIME_CFG_DOMAIN, src := s.portId p }
  { s with net := { s.net with ptpSent := s.net.ptpSent ++ [⟨p, s.ethHead p (s.ptpDst m.mtype) 0x88F7, m1, s.now⟩] } }

/-! ### Timestamps (R314 to R316) -/

/-- The instant `sub` sixteenths into the present oscillator cycle: in PTP time, 2^-16 ns (R307, R314). -/
def State.ptpAt (s : State) (sub : Nat) : Nat := s.time.ptp + (163840 * sub * ((rateUnit : Int) - s.time.freq)).toNat / (16 * rateUnit)

/-- The same instant in motion time, in sixteenths of a tick (R303, R314). -/
def State.mtAt (s : State) (sub : Nat) : Nat := ((s.time.mt * 2 ^ 32 + s.time.mtFrac) * 16 + sub * s.mtStep) / 2 ^ 32

/-- Stamps of a message sent, and of one received, on a port: ETH2 adds TX_LAT and subtracts RX_LAT (R314). -/
def State.sentAt (s : State) (p sub : Nat) : Nat := s.ptpAt sub + (if p = 2 then s.fld F.ETH_CFG_TX_LAT 2 else 0)
def State.rcvdAt (s : State) (p sub : Nat) : Nat := s.ptpAt sub - (if p = 2 then s.fld F.ETH_CFG_RX_LAT 2 else 0)

/-- A received event message is stamped (R314). -/
def State.stampRx (s : State) (p sub : Nat) (m : PtpMsg) : State :=
  s.setEths p { s.eths p with rxStamp := some { seqId := m.seqId, mtype := m.mtype, stamp := s.rcvdAt p sub, mt16 := s.mtAt sub } }

/-- The protocol engine takes the entry of a message, in order: earlier entries of its messageType that nobody awaits are discarded, and
one that is awaited comes first (R315, R316). -/
def takeStamp (aw : List (Nat × Nat)) (mtype seqId : Nat) : List TxStamp → Option (TxStamp × List TxStamp)
  | [] => none
  | e :: r =>
    if e.mtype ≠ mtype then (takeStamp aw mtype seqId r).map fun x => (x.1, e :: x.2)
    else if e.seqId = seqId then some (e, r)
    else if aw.contains (mtype, e.seqId) then none
    else takeStamp aw mtype seqId r

/-- Take the stamp of a message the port has sent and whose stamp is awaited: none where it was dropped or has not come (R315, R316). -/
def State.takeTx (s : State) (p mtype seqId : Nat) : State × Option Nat :=
  let e := s.eths p
  if !e.awaited.contains (mtype, seqId) then (s, none)
  else
    match takeStamp e.awaited mtype seqId e.txq with
    | none => (s, none)
    | some (x, q) => (s.setEths p { e with txq := q, awaited := e.awaited.filter (· != (mtype, seqId)) }, some x.stamp)

/-- A transmit stamp enters the port's queue, or is dropped when it holds 16 (R315, R316). -/
def State.txStamp (s : State) (p mtype seqId sub : Nat) : State :=
  let e := s.eths p
  if 16 ≤ e.txq.length then
    (s.setEths p { e with txqOvf := true, awaited := e.awaited.filter (· != (mtype, seqId)) }).raise K.TXQ_OVERFLOW p
      (p + seqId % 2 ^ 16 * 2 ^ 16) 1
  else s.setEths p { e with txq := e.txq ++ [{ seqId := seqId, mtype := mtype, stamp := s.sentAt p sub, mt16 := s.mtAt sub }] }

/-- A one-step Sync carries its transmit stamp: whole ns in its timestamp, the fraction in its correction (R315). -/
def State.oneStepStamp (s : State) (p seqId sub : Nat) : State :=
  let t := s.sentAt p sub
  let put := fun (x : PtpSent) =>
    if x.port = p ∧ x.msg.mtype = mtSync ∧ x.msg.seqId = seqId ∧ x.msg.time = 0 then
      { x with msg := { x.msg with time := t / 2 ^ 16, corr := x.msg.corr + (t % 2 ^ 16 : Nat) } } else x
  { s with net := { s.net with ptpSent := s.net.ptpSent.map put } }

/-! ### Port states and the servo's states (R309, R313) -/

/-- The servo enters HOLDOVER: f is held (R309). -/
def State.enterHoldover (s : State) : State :=
  ({ s with time := { s.time with slavePort := 3, servo := 3 } }).raise K.HOLDOVER 0
    (uint 32 (clampInt s.time.offset (-(2 ^ 31)) (2 ^ 31 - 1))) 1

/-- A port becomes SLAVE: the servo takes its updates from it (R309). -/
def State.enterSlave (s : State) (p : Nat) : State :=
  let s1 := if s.time.servo = 3 then s.clearLive K.HOLDOVER else s
  { s1 with time := { s1.time with slavePort := p, servo := if s.time.servo = 2 then 2 else 1, good := 0 } }

/-- The module is grandmaster: the servo is FREE and f is 0 (R309). -/
def State.enterFree (s : State) : State :=
  let s1 := if s.time.servo = 3 then s.clearLive K.HOLDOVER else s
  { s1 with time := { s1.time with slavePort := 3, servo := 0, freq := 0 } }

/-- The state a port takes. A slave port that leaves SLAVE takes the servo into HOLDOVER; `free` tells that it leaves because the module
itself is the better clock, and so grandmaster (R309, log entry 101). -/
def State.setPortState (s : State) (p st : Nat) (free : Bool := false) : State :=
  let was := s.time.slavePort == p
  let e := s.eths p
  let s1 := s.setEths p { e with
    portState := st, awaited := if st = psMaster then e.awaited else e.awaited.filter (·.1 != mtSync)
    syncHalf := if st = psSlave then e.syncHalf else none, msDiff := if st = psSlave then e.msDiff else none }
  if st = psSlave then (if was then s1 else s1.enterSlave p)
  else if was then (if free then s1.enterFree else s1.enterHoldover)
  else s1

/-- The grandmasterIdentity in use (Table 10.6). -/
def State.setGm (s : State) (gm : Nat) : State :=
  if gm = s.time.gmId then s
  else { s.raise K.GM_CHANGE 0 (gm + s.time.gmId * 2 ^ 64) 2 with time := { s.time with gmId := gm } }

/-! ### The best master clock algorithm (R312, R313; IEEE 1588-2019, 9.3) -/

/-- A data set to be compared: the clock, its sender's identity and the port it was received on. -/
structure Rated where
  clock : PtpClock
  src : Nat
  port : Nat
  deriving DecidableEq, Repr

/-- Outcomes of a comparison of sets A and B. -/
inductive Better where
  | a | aByTopology | same | bByTopology | b
  deriving DecidableEq, Repr

/-- Lexicographic order. -/
def lexLess : List Nat → List Nat → Bool
  | x :: xs, y :: ys => decide (x < y) || (x == y && lexLess xs ys)
  | _, _ => false

/-- What quality is compared by, in order. -/
def clockKey (c : PtpClock) : List Nat := [c.prio1, c.cls, c.acc, c.var, c.prio2, c.id]

/-- The data set comparison: by the clocks' qualities where the grandmasters differ, and by topology where they are one; under 802.1AS the
priority vectors in lexicographic order. `me` is the receiving clock's identity. -/
def compareSets (gptp : Bool) (me : Nat) (x y : Rated) : Better :=
  if gptp then
    let k := fun (r : Rated) => clockKey r.clock ++ [r.clock.steps, r.src, r.port]
    if lexLess (k x) (k y) then .a else if lexLess (k y) (k x) then .b else .same
  else if x.clock.id ≠ y.clock.id then (if lexLess (clockKey x.clock) (clockKey y.clock) then .a else .b)
  else if x.clock.steps + 1 < y.clock.steps then .a
  else if y.clock.steps + 1 < x.clock.steps then .b
  else if y.clock.steps < x.clock.steps then (if me < x.src / 2 ^ 16 then .b else .bByTopology)
  else if x.clock.steps < y.clock.steps then (if me < y.src / 2 ^ 16 then .a else .aByTopology)
  else if lexLess [x.src, x.port] [y.src, y.port] then .aByTopology
  else if lexLess [y.src, y.port] [x.src, x.port] then .bByTopology
  else .same

def State.compareOf (s : State) (x y : Rated) : Better := compareSets s.gptp s.clockId x y

/-- A set is better than another, by quality or by topology. -/
def State.beats (s : State) (x y : Rated) : Bool := s.compareOf x y == .a || s.compareOf x y == .aByTopology

/-- A foreign clock takes part once two of its Announce messages lie within four announce intervals; under 802.1AS at once. -/
def State.qualifies (s : State) (p : Nat) (f : Foreign) : Bool :=
  s.gptp || (match f.times with
    | _ :: t :: _ => decide (s.now ≤ t + 4 * s.ptpTicks p mtAnnounce)
    | _ => false)

def State.best (s : State) (xs : List Rated) : Option Rated :=
  xs.foldl (fun m x => match m with
    | none => some x
    | some y => if s.beats x y then some x else some y) none

/-- The best set received on a port that takes part in PTP (Erbest). -/
def State.bestOn (s : State) (p : Nat) : Option Rated :=
  if s.ptpPort p then s.best (((s.eths p).foreign.filter (s.qualifies p)).map fun f => ⟨f.clock, f.src, p⟩) else none

/-- The best set of all ports (Ebest). -/
def State.bestOfAll (s : State) : Option Rated := s.best ((List.range 3).filterMap s.bestOn)

/-- What the state decision recommends for a port. -/
inductive Recommend where
  /-- Master, `wait` announce intervals from now; `gm` tells that the module is the better clock. -/
  | master (wait : Nat) (gm : Bool)
  | slave (r : Rated)
  | passive
  | listen
  deriving DecidableEq, Repr

/-- The state decision for a port, from the module's own set and the best sets (IEEE 1588-2019, 9.3.3). -/
def State.recommend (s : State) (p : Nat) (all : Option Rated) : Recommend :=
  let own : Rated := ⟨s.ownClock, s.clockId * 2 ^ 16, 0⟩
  let on := s.bestOn p
  let rec1 : Recommend :=
    if 1 ≤ s.ownClock.cls ∧ s.ownClock.cls ≤ 127 then
      match on with
      | none => .master 0 true
      | some r => if s.beats own r then .master 0 true else .passive
    else
      match all with
      | none => .master 0 true
      | some e =>
        if s.beats own e then .master 0 true
        else if e.port = p then .slave e
        else match on with
          | none => .master (e.clock.steps + 1) false
          | some r => if s.compareOf e r = .aByTopology then .passive else .master (e.clock.steps + 1) false
  match rec1 with
  | .master w g =>
    if s.bit F.TIME_CFG_SLAVE_ONLY || (on.isNone && all.isNone && (s.eths p).portState == psListening) then .listen else .master w g
  | r => r

/-- A port takes the recommended state: PRE_MASTER before MASTER where announce intervals must pass first. -/
def State.follow1588 (s : State) (p : Nat) : Recommend → State
  | .listen => s.setPortState p psListening
  | .passive => s.setPortState p psPassive
  | .slave r =>
    let e := s.eths p
    let s1 := s.setPortState p psSlave
    s1.setEths p { s1.eths p with parent := r.src, annAt := if e.portState = psSlave ∧ e.parent = r.src then e.annAt else s.now }
  | .master w free =>
    if (s.eths p).portState = psMaster ∨ w = 0 ∨ s.gptp then s.setPortState p psMaster free
    else if (s.eths p).portState = psPreMaster then s
    else
      let s1 := s.setPortState p psPreMaster free
      s1.setEths p { s1.eths p with qualAt := s.now + w * s.ptpTicks p mtAnnounce }

/-- The qualification time of a port in PRE_MASTER has passed. -/
def State.qualified (s : State) (p : Nat) : State :=
  if (s.eths p).portState = psPreMaster ∧ (s.eths p).qualAt ≤ s.now then s.setPortState p psMaster else s

/-- The grandmaster that follows from the ports' states: that of the slave port's master, or the module itself when it is master. -/
def State.noteGm (s : State) : State :=
  let p := s.time.slavePort
  match (s.eths p).foreign.find? (·.src == (s.eths p).parent) with
  | some f => if p < 3 then s.setGm f.clock.id else s
  | none => if (List.range 3).any fun q => (s.eths q).portState == psMaster then s.setGm s.clockId else s

/-- The state decision over every port that takes part in PTP: a port that becomes SLAVE first. -/
def State.decide1588 (s : State) : State :=
  let all := s.bestOfAll
  let ps := (List.range 3).filter s.ptpPort
  let rs := ps.map fun p => (p, s.recommend p all)
  let slave := fun (x : Nat × Recommend) => match x.2 with
    | .slave _ => true
    | _ => false
  let order := rs.filter slave ++ rs.filter fun x => !slave x
  (order.foldl (fun s x => s.follow1588 x.1 x.2) s).noteGm

/-- A port joins the protocol when it takes part in PTP and works, and leaves it otherwise (R313). -/
def State.portConfigured (s : State) (p : Nat) : State :=
  if s.ptpPort p then
    if (s.eths p).portState = psInitializing then
      let s1 := s.setPortState p psListening
      s1.setEths p { s1.eths p with annAt := s.now }
    else s
  else if (s.eths p).portState = psInitializing then s
  else
    let s1 := s.setPortState p psInitializing
    (s1.setEths p { s1.eths p with foreign := [], parent := 0, nextTx := [], pdHalf := none, pdAsked := [], awaited := [] }).decide1588

/-! ### Messages received (R309, R313) -/

/-- An offset in whole ns, the nearest one, from 2^-16 ns. -/
def wholeNs (x : Int) : Int := (x + 2 ^ 15) / 2 ^ 16

/-- A Sync is complete: t1 of the master and t2 of the port, with the corrections; the offset from master drives the servo (R309). -/
def State.completeSync (s : State) (p t1 t2 : Nat) (corr : Int) : State :=
  let ms := (t2 : Int) - t1 - corr - s.asym p
  let s1 := s.setEths p { s.eths p with msDiff := some ms, syncHalf := none }
  s1.servoUpdate (wholeNs (ms - (s.eths p).meanPathDelay))

/-- A message of this instance's domain (TIME.CFG.DOMAIN). -/
def State.ofDomain (s : State) (m : PtpMsg) : Bool := m.domain == s.fld F.TIME_CFG_DOMAIN

/-- The port is SLAVE and the message comes from its master. -/
def State.fromMaster (s : State) (p : Nat) (m : PtpMsg) : Bool := s.time.slavePort == p && m.src == (s.eths p).parent

/-- A Sync on a port: stamped, and taken where the port is SLAVE and its master sent it (R309, R314). -/
def State.syncRx (s0 : State) (p : Nat) (m : PtpMsg) (sub : Nat) : State :=
  let s := s0.stampRx p sub m
  if !s.ofDomain m || !s.fromMaster p m then s
  else if m.twoStep then
    s.setEths p { s.eths p with syncHalf := some { seqId := m.seqId, src := m.src, stamp := s.rcvdAt p sub, time := 0, corr := m.corr } }
  else s.completeSync p (m.time * 2 ^ 16) (s.rcvdAt p sub) m.corr

/-- A Follow_Up completes the Sync it names (R309). -/
def State.followUpRx (s : State) (p : Nat) (m : PtpMsg) : State :=
  match (s.eths p).syncHalf with
  | some h => if s.fromMaster p m && h.seqId == m.seqId then s.completeSync p (m.time * 2 ^ 16) h.stamp (h.corr + m.corr) else s
  | none => s

/-- A port stores its mean path delay. -/
def State.setDelay (s : State) (p : Nat) (twice : Int) : State := s.setEths p { s.eths p with meanPathDelay := twice / 2 }

/-- A master answers a Delay_Req with the receive stamp (R313). -/
def State.delayReqRx (s : State) (p : Nat) (m : PtpMsg) (sub : Nat) : State :=
  let t := s.rcvdAt p sub
  if (s.eths p).portState = psMaster ∧ s.peerDelay p = false then
    s.ptpEmit p { mtype := mtDelayResp, seqId := m.seqId, req := m.src, corr := m.corr - (t % 2 ^ 16 : Nat), time := t / 2 ^ 16 }
  else s

/-- The answer to the port's own Delay_Req: end-to-end path delay, from its transmit stamp and the last Sync (R313, R315). -/
def State.delayRespRx (s : State) (p : Nat) (m : PtpMsg) : State :=
  if m.req ≠ s.portId p ∨ s.fromMaster p m = false ∨ s.peerDelay p = true then s
  else
    match s.takeTx p mtDelayReq m.seqId, (s.eths p).msDiff with
    | (t, some t3), some ms => t.setDelay p (ms + ((m.time * 2 ^ 16 : Nat) - (t3 : Int) - m.corr))
    | (t, _), _ => t

/-- A Pdelay_Req is answered with the receive stamp; the follow-up will carry the stamp of the answer (R313, R315). -/
def State.pdelayReqRx (s : State) (p : Nat) (m : PtpMsg) (sub : Nat) : State :=
  if s.peerDelay p = false then s
  else
    let t := s.rcvdAt p sub
    let e := s.eths p
    (s.setEths p { e with awaited := e.awaited ++ [(mtPdelayResp, m.seqId)], pdAsked := e.pdAsked ++ [(m.seqId, m.src, m.corr)] }).ptpEmit p
      { mtype := mtPdelayResp, seqId := m.seqId, req := m.src, twoStep := true, corr := -((t % 2 ^ 16 : Nat) : Int), time := t / 2 ^ 16 }

/-- The answer to the port's own Pdelay_Req: with a follow-up to come, or one-step with the turnaround in its correction (R313). -/
def State.pdelayRespRx (s : State) (p : Nat) (m : PtpMsg) (sub : Nat) : State :=
  if m.req ≠ s.portId p ∨ s.peerDelay p = false then s
  else if m.twoStep then
    s.setEths p { s.eths p with pdHalf := some { seqId := m.seqId, src := m.src, stamp := s.rcvdAt p sub, time := m.time, corr := m.corr } }
  else
    match s.takeTx p mtPdelayReq m.seqId with
    | (t, some t1) => t.setDelay p ((s.rcvdAt p sub : Int) - t1 - m.corr - s.asym p)
    | (t, none) => t

/-- The follow-up of a Pdelay_Resp: peer-to-peer path delay (R313, R315). -/
def State.pdelayFuRx (s : State) (p : Nat) (m : PtpMsg) : State :=
  match (s.eths p).pdHalf with
  | none => s
  | some h =>
    if m.req ≠ s.portId p ∨ h.seqId ≠ m.seqId ∨ h.src ≠ m.src then s
    else
      let s1 := s.setEths p { s.eths p with pdHalf := none }
      match s1.takeTx p mtPdelayReq m.seqId with
      | (t, some t1) =>
        t.setDelay p ((h.stamp : Int) - t1 - ((m.time : Int) - h.time) * 2 ^ 16 - h.corr - m.corr - s.asym p)
      | (t, none) => t

/-- An Announce enters the port's foreign clocks, and the state decision runs. One of the module's own, or more than 254 steps away, is not
considered (IEEE 1588-2019, 9.3.2.5). -/
def State.announceRx (s : State) (p : Nat) (m : PtpMsg) : State :=
  if m.src / 2 ^ 16 = s.clockId ∨ 255 ≤ m.clock.steps then s
  else
    let e := s.eths p
    let old := match e.foreign.find? (·.src == m.src) with
      | some f => f.times.take 1
      | none => []
    let heard := e.portState != psSlave || m.src == e.parent
    (s.setEths p { e with foreign := e.foreign.filter (·.src != m.src) ++ [⟨m.src, m.clock, s.now :: old⟩]
                          annAt := if heard then s.now else e.annAt }).decide1588

/-- A PTP message other than Sync is processed (R312, R313): management, signalling and reserved types are not, and are discarded (R317). -/
def State.ptpRx (s0 : State) (p : Nat) (m : PtpMsg) (sub : Nat) : State :=
  let s1 := s0.qualified p
  let s := if m.mtype = mtDelayReq ∨ m.mtype = mtPdelayReq ∨ m.mtype = mtPdelayResp then s1.stampRx p sub m else s1
  let known := [mtDelayReq, mtPdelayReq, mtPdelayResp, mtFollowUp, mtDelayResp, mtPdelayRespFu, mtAnnounce].contains m.mtype
  if !known then s.dropFrame p
  else if !s.ofDomain m then s
  else if m.mtype = mtAnnounce then s.announceRx p m
  else if m.mtype = mtFollowUp then s.followUpRx p m
  else if m.mtype = mtDelayReq then s.delayReqRx p m sub
  else if m.mtype = mtDelayResp then s.delayRespRx p m
  else if m.mtype = mtPdelayReq then s.pdelayReqRx p m sub
  else if m.mtype = mtPdelayResp then s.pdelayRespRx p m sub
  else s.pdelayFuRx p m

/-- The announce receipt timeout of a port: ANN_TO announce intervals after the last Announce it heeds, its foreign clocks are gone; a port
that listened becomes MASTER unless SLAVE_ONLY is 1, and the state decision runs (R309, IEEE 1588-2019, 9.2.6.12). -/
def State.announceTimeout (s0 : State) (p : Nat) : State :=
  let st := (s0.eths p).portState
  if st = psListening ∨ st = psSlave ∨ st = psUncalibrated ∨ st = psPassive then
    let s := s0.until ((s0.eths p).annAt + clampNat (s0.fld F.ETH_CFG_ANN_TO p) 2 15 * s0.ptpTicks p mtAnnounce)
    let s1 := s.setEths p { s.eths p with foreign := [], annAt := s.now }
    (s1.setPortState p (if s.bit F.TIME_CFG_SLAVE_ONLY then psListening else psMaster)).decide1588
  else s0

/-! ### Messages sent (R313, R315) -/

/-- Whether a port sends a message of a type on the expiry of its interval (R313, Table 10.1). -/
def State.sendsOnInterval (s : State) (p mtype : Nat) : Bool :=
  let st := (s.eths p).portState
  (st == psMaster && (mtype == mtSync || mtype == mtAnnounce))
    || ((st == psSlave || st == psUncalibrated) && mtype == mtDelayReq && !s.peerDelay p)
    || (mtype == mtPdelayReq && s.peerDelay p)

/-- The clock that a port's Announce messages describe: that of the slave port's master, one step further, or the module's own. -/
def State.announced (s : State) : PtpClock :=
  let q := s.time.slavePort
  match (s.eths q).foreign.find? (·.src == (s.eths q).parent) with
  | some f => if q < 3 then { f.clock with steps := f.clock.steps + 1 } else s.ownClock
  | none => s.ownClock

/-- A message whose transmit stamp a later message or computation needs; a new request takes the place of one before it. -/
def State.awaitNew (s : State) (p mtype n : Nat) (aw : List (Nat × Nat)) : List (Nat × Nat) :=
  if mtype = mtSync then (if s.bit F.ETH_CFG_ONE_STEP p then aw else aw ++ [(mtype, n)])
  else if mtype = mtAnnounce then aw
  else aw.filter (·.1 != mtype) ++ [(mtype, n)]

/-- The message of a type that the port sends on its interval (R313). -/
def State.ptpMessage (s : State) (p mtype n : Nat) : PtpMsg :=
  { mtype := mtype, seqId := n, twoStep := mtype == mtSync && !s.bit F.ETH_CFG_ONE_STEP p
    corr := if mtype = mtDelayReq ∨ mtype = mtPdelayReq then -s.asym p else 0
    clock := if mtype = mtAnnounce then s.announced else {} }

/-- The hub sends a message: its sequenceId is the next of its type, modulo 2^16, and the next one falls due an interval later (R312, R313,
Table 17.1). -/
def State.ptpSend (s : State) (p mtype : Nat) : State :=
  let e := s.eths p
  let n := e.nextSeqId.get mtype 0
  (s.setEths p { e with
    nextSeqId := e.nextSeqId.set mtype ((n + 1) % 2 ^ 16) 0, awaited := s.awaitNew p mtype n e.awaited
    nextTx := e.nextTx.set mtype (s.now + s.ptpTicks p mtype) 0 }).ptpEmit p (s.ptpMessage p mtype n)

/-- The interval of a message expires: the message is sent at its instant (R312, R313). -/
def State.ptpInterval (s0 : State) (p mtype : Nat) : State :=
  let s := (s0.qualified p).until ((s0.eths p).nextTx.get mtype 0)
  if s.sendsOnInterval p mtype then s.ptpSend p mtype else s0.qualified p

/-- A Follow_Up goes out for a Sync whose stamp is in the queue; none is sent for a dropped stamp (R315, R316). -/
def State.sendFollowUp (s : State) (p seqId : Nat) : State :=
  match s.takeTx p mtSync seqId with
  | (t, some x) => t.ptpEmit p { mtype := mtFollowUp, seqId := seqId, corr := (x % 2 ^ 16 : Nat), time := x / 2 ^ 16 }
  | (_, none) => s

/-- A Pdelay_Resp_Follow_Up goes out for an answer whose stamp is in the queue (R315, R316). -/
def State.sendPdelayFu (s : State) (p seqId : Nat) : State :=
  match s.takeTx p mtPdelayResp seqId, (s.eths p).pdAsked.find? (·.1 == seqId) with
  | (t, some x), some a =>
    (t.setEths p { t.eths p with pdAsked := (t.eths p).pdAsked.erase a }).ptpEmit p
      { mtype := mtPdelayRespFu, seqId := seqId, req := a.2.1, corr := a.2.2 + (x % 2 ^ 16 : Nat), time := x / 2 ^ 16 }
  | _, _ => s

end Sys2Proof.Machine
end

