-- ==== Sys2Proof/Machine/Network.lean ====
section
/-!
DEFINITION. The Ethernet ports, cyclic frames and the commands of the network (10_time_and_networks, R308 to R323, R332).
-/

namespace Sys2Proof.Machine

def State.ctx (s : State) (t : Nat) : CycTxSt := s.net.cycTx.get t {}
def State.setCtx (s : State) (t : Nat) (v : CycTxSt) : State := { s with net := { s.net with cycTx := s.net.cycTx.set t v {} } }
def State.crx (s : State) (r : Nat) : CycRxSt := s.net.cycRx.get r {}
def State.setCrx (s : State) (r : Nat) (v : CycRxSt) : State := { s with net := { s.net with cycRx := s.net.cycRx.set r v {} } }

/-! ### Ports (R317, R332) -/

/-- A link can come up at a speed: one of Table 10.3 that the port's SPEED allows, 1000 Mb/s only on ETH2 (R317). -/
def State.speedOk (s : State) (p speed : Nat) : Bool :=
  let c := s.fld F.ETH_CFG_SPEED p
  decide (2 ≤ speed ∧ speed ≤ 4) && (c == speed || (c == 1 && p != 2))

/-- The link of a port comes up at a speed or goes down; its PTP port starts anew, or leaves the protocol (R332). -/
def State.linkChange (s : State) (p : Nat) (up : Bool) (speed : Nat) : State :=
  let e := s.eths p
  if up then
    let s1 := (s.setEths p { e with link := true, speed := speed }).portConfigured p
    if e.link then s1 else s1.clearLive K.LINK_DOWN p
  else
    let s1 := (s.setEths p { e with link := false, speed := 0 }).portConfigured p
    if e.link && s.fld F.ETH_CFG_SPEED p != 0 then s1.raise K.LINK_DOWN p p 1 else s1

/-- A port whose SPEED is 0 has no link, and none it has lost (R317, R332). -/
def State.portOff (s : State) (p : Nat) : State :=
  if s.fld F.ETH_CFG_SPEED p = 0 then (s.setEths p { s.eths p with link := false, speed := 0 }).clearLive K.LINK_DOWN p else s

/-- A reset of a port: timestamp queues and link state; the PTP port goes to INITIALIZING (Table 02.7). -/
def State.resetEth (s : State) (p : Nat) : State :=
  let e := s.eths p
  let s1 := s.setPortState p psInitializing
  let s2 := s1.setEths p { s1.eths p with link := false, speed := 0, txq := [], awaited := [], rxStamp := none }
  if e.link && s.fld F.ETH_CFG_SPEED p != 0 then s2.raise K.LINK_DOWN p p 1 else s2

/-- ETH.STATUS at a measurement instant. -/
def State.measureEth (s0 : State) (p : Nat) : State :=
  let s := s0.qualified p
  let e := s.eths p
  [(F.ETH_STATUS_LINK, e.link.toNat), (F.ETH_STATUS_SPEED, e.speed), (F.ETH_STATUS_PORT_STATE, e.portState),
   (F.ETH_STATUS_TXQ_OVF, e.txqOvf.toNat), (F.ETH_STATUS_TXQ_DEPTH, e.txq.length), (F.ETH_STATUS_MPD, uint 32 (clampInt (e.meanPathDelay / 2 ^ 16) 0 (2 ^ 32 - 1))),
   (F.ETH_STATUS_DROPPED, e.dropped), (F.ETH_STATUS_FCS_ERR, e.fcsErr), (F.ETH_STATUS_DROP_SAT, e.dropSat.toNat),
   (F.ETH_STATUS_FCS_SAT, e.fcsSat.toNat)].foldl (fun s x => s.setFld x.1 x.2 p) s

/-- ETH.STATUS.CLR (R457). -/
def State.ethClear (s : State) (p : Nat) : State :=
  s.setEths p { s.eths p with txqOvf := false, dropped := 0, dropSat := false, fcsErr := 0, fcsSat := false }

/-! ### Cyclic frames (R318 to R323) -/

/-- The words of a transmit channel, NWORDS of them. -/
def State.cycWords (s : State) (t : Nat) : List Word24 :=
  (List.range (s.txCount t)).map fun w => (s.ctx t).words.get w 0

/-- The payload of a cyclic frame, little-endian (Table 10.4). -/
def cycPayload (f : CycFrame) : List (BitVec 8) :=
  bytesOf 1 1 ++ bytesOf 1 1 ++ bytesOf 2 f.producer ++ bytesOf 1 f.channel ++ bytesOf 1 (f.stale.toNat + 2 * f.hold.toNat)
    ++ bytesOf 2 f.seq ++ bytesOf 8 f.mark ++ bytesOf 4 f.srcSeq ++ bytesOf 2 f.words.length ++ bytesOf 2 0
    ++ f.words.flatMap fun w => bytesOf 3 w.toNat

/-- The number in bytes `i` to `i + n - 1` of a payload. -/
def leAt (bs : List (BitVec 8)) (i n : Nat) : Nat := natOf ((bs.drop i).take n)

/-- Read a payload: VERSION and SUBTYPE of 0x01, and NWORDS words, at most 48, that it holds (Table 10.4). -/
def cycRead (bs : List (BitVec 8)) : Option CycFrame :=
  let n := leAt bs 20 2
  if bs.length < 24 + 3 * n ∨ 48 < n ∨ leAt bs 0 1 ≠ 1 ∨ leAt bs 1 1 ≠ 1 then none
  else some { channel := leAt bs 4 1, producer := leAt bs 2 2, stale := (leAt bs 5 1).testBit 0, hold := (leAt bs 5 1).testBit 1
              seq := leAt bs 6 2, mark := leAt bs 8 8, srcSeq := leAt bs 16 4
              words := (List.range n).map fun w => BitVec.ofNat 24 (leAt bs (24 + 3 * w) 3) }

/-- A frame of a port with a payload: header, payload, and zeros up to the Ethernet minimum of 64 bytes, the 4 of the check sequence among
them (R318). -/
def State.ethFrame (s : State) (p dst etherType : Nat) (payload : List (BitVec 8)) : List (BitVec 8) :=
  let bs := s.ethHead p dst etherType ++ payload
  bs ++ List.replicate (60 - bs.length) 0

/-- At boundary n + 1 the frame of period n is formed, with the late indications of its record (R319): `a` is t0(n), `b` is
t0(n + 1), `late` has bit l for lane pair l. -/
def State.cycForm (s : State) (a b srcSeq late : Nat) : State :=
  s.forRange 8 fun s t =>
    if s.bit F.CYC_TX_EN t then
      let c := s.ctx t
      let e : CycDue := { due := b + s.fld F.CYC_TX_TX_OFFS t, stale := late.testBit c.poster || s.red.takeover.isSome
                          hold := s.mode == .hold, mark := a + s.fld F.CYC_TX_LAT t, srcSeq := srcSeq, words := s.cycWords t }
      s.setCtx t { c with queue := c.queue ++ [e] }
    else s

/-- CYC_FRAME_SEND: the next frame of a channel is sent at its instant; frames due by then replace those before them, and no
frame is sent outside COMMISSION, RUN and HOLD (R319). -/
def State.cycSend (s0 : State) (t : Nat) : State :=
  match (s0.ctx t).queue with
  | [] => s0
  | f :: _ =>
    let s := s0.until f.due
    let c := s.ctx t
    let ready := c.queue.filter fun e => decide (e.due ≤ s.now)
    let rest := c.queue.filter fun e => decide (s.now < e.due)
    match ready.getLast? with
    | none => s
    | some e =>
      if !s.loopMode || !s.bit F.CYC_TX_EN t then s.setCtx t { c with queue := rest }
      else
        let fr : CycFrame :=
          { channel := s.fld F.CYC_TX_CHANNEL t, producer := s.fld F.TIME_CFG_NODE, stale := e.stale, hold := e.hold
            seq := c.seq, mark := e.mark, srcSeq := e.srcSeq, words := e.words }
        let ports := (List.range 3).filter fun p => s.nth F.CYC_TX_PORTS p t && s.portUp p
        let s1 := s.setCtx t { c with queue := rest, seq := (c.seq + 1) % 2 ^ 16 }
        { s1 with net := { s1.net with
            cycSent := s1.net.cycSent ++ ports.map fun p => (p, s.ethFrame p (s.fld F.CYC_TX_DST t) 0x88B5 (cycPayload fr)) } }

/-- A received frame belongs to channel `r` (R320). -/
def State.cycMatches (s : State) (r p : Nat) (f : CycFrame) : Bool :=
  s.bit F.CYC_RX_EN r && s.nth F.CYC_RX_PORTS p r && s.fld F.CYC_RX_PRODUCER r == f.producer
    && s.fld F.CYC_RX_CHANNEL r == f.channel && s.rxCount r == f.words.length

/-- One occurrence in a counter of CYC.RX whose saturation flag is bit `b` of SAT. -/
def State.cycCount (s : State) (r : Nat) (f : Fld) (b : Nat) : State :=
  let v := min 0xFFFF (s.fld f r + 1)
  let s1 := s.setFld f v r
  if v = 0xFFFF then s1.setNth F.CYC_RX_SAT b true r else s1

/-- The frame is late: a boundary at or after its MARK has passed (R321). -/
def State.cycLate (s : State) (f : CycFrame) : Bool := s.per.running && decide (f.mark ≤ s.per.t0 ∧ s.per.t0 < s.now)

/-- A complete frame meets a channel it belongs to (R320, R321). -/
def State.cycAccept (s : State) (r : Nat) (f : CycFrame) : State :=
  let c := s.crx r
  match c.accepted.find? (·.1 == f.mark) with
  | some a =>
    let s1 := s.cycCount r F.CYC_RX_DUP_CNT 1
    if a.2 = f.words then s1 else s1.cycCount r F.CYC_RX_DIFF_CNT 2
  | none =>
    if s.cycLate f then (s.cycCount r F.CYC_RX_LATE_CNT 0).raise K.CYC_LATE r (r + f.mark % 2 ^ 64 * 2 ^ 64) 2
    else s.setCrx r { c with held := c.held ++ [⟨f, s.now⟩], accepted := c.accepted ++ [(f.mark, f.words)] }

/-- CYC_FRAME_RX: a cyclic frame is complete on a port (R317, R320). -/
def State.cycReceive (s0 : State) (p : Nat) (fcs : Bool) (payload : List (BitVec 8)) : State :=
  let s := s0.inputTick
  if !s.portUp p then s0
  else if !fcs then s.fcsFrame p
  else
    match cycRead payload with
    | none => s.dropFrame p
    | some f =>
      let rs := (List.range 16).filter fun r => s.cycMatches r p f
      if rs = [] then s.dropFrame p else rs.foldl (fun s r => s.cycAccept r f) s

/-- The held frame with the greatest MARK that boundary `b` may deliver (R321). -/
def bestHeld (last : Option Nat) (b : Nat) (hs : List CycHeld) : Option CycHeld :=
  (hs.filter fun h => decide (h.done ≤ b ∧ h.frame.mark ≤ b) && (match last with
    | none => true
    | some m => decide (m < h.frame.mark))).foldl
    (fun best h => match best with
      | none => some h
      | some x => if x.frame.mark < h.frame.mark then some h else some x) none

/-- Delivery at boundary `b` (R321, R322). -/
def State.cycDeliver (s : State) (r b : Nat) : State :=
  if !s.bit F.CYC_RX_EN r then s
  else
    let c := s.crx r
    match bestHeld c.lastMark b c.held with
    | some h =>
      let s1 := s.setCrx r { c with
        held := c.held.filter fun x => decide (h.frame.mark < x.frame.mark)
        lastMark := some h.frame.mark, words := h.frame.words, fresh := true, stale := h.frame.stale, hold := h.frame.hold
        age := some 0, missed := 0, lost := false }
      if c.lost then s1.clearLive K.CYC_LOST r else s1
    | none =>
      let n := s.fld F.CYC_RX_LOST_N r
      let missed := min 0x10000 (c.missed + 1)
      let lost := c.lost || (n != 0 && decide (n ≤ missed))
      let s1 := s.setCrx r { c with fresh := false, stale := false, hold := false, age := c.age.map fun a => min 255 (a + 1)
                                    missed := missed, lost := lost }
      if lost && !c.lost then s1.raise K.CYC_LOST r r 1 else s1

/-- Every receive channel delivers at a boundary. -/
def State.cycBoundary (s : State) (b : Nat) : State := s.forRange 16 fun s r => s.cycDeliver r b

/-- META of a receive channel at boundary `b` (R322). -/
def State.cycMeta (s : State) (r b : Nat) : Nat :=
  let c := s.crx r
  c.fresh.toNat + c.stale.toNat * 2 + c.hold.toNat * 4 + (c.age.getD (Config.cycNoDelivery r b % 256)) * 2 ^ 8

/-- Word `w` of the last delivered frame of a receive channel, 0 before the first (R322). -/
def State.cycWord (s : State) (r w : Nat) : Word24 := (s.crx r).words.getD w 0

/-- Value and freshness of network master slot `m` (R323). -/
def State.netMaster (s : State) (m : Nat) : Nat × Bool :=
  let r := s.fld F.NET_MASTER_RXCH 0 m
  let w := s.fld F.NET_MASTER_WOFF 0 m
  ((s.cycWord r w).toNat + (s.cycWord r (w + 1)).toNat % 2 ^ 8 * 2 ^ 24, (s.crx r).fresh)

/-! ### Commands -/

/-- SYNC_RECEIVED: a Sync arrives on a port. With its timestamp it gives one servo update; a two-step Sync
waits for its Follow_Up (R309, R314). On a port that takes no part in PTP it is discarded and counted (R317). -/
def execSyncReceived (p : Fin 3) (m : PtpRx) (s : State) : Out :=
  if !s.portUp p.val then .next s
  else if !s.ptpPort p.val then .next (s.dropFrame p.val)
  else .next (s.syncRx p.val m.msg m.sub.val)

/-- PTP_MESSAGE_RX: a PTP message other than Sync arrives, `sub` sixteenths into the tick, and is processed (R312, R313, R315). A kind the module does not support, and any
on a port that takes no part in PTP, is discarded and counted (R317). -/
def execPtpMessageRx (p : Fin 3) (mtype domain seqId src req : Nat) (body : PtpBody) (sub : Fin 16) (s : State) : Out :=
  if !s.portUp p.val then .next s
  else if !s.ptpPort p.val then .next (s.dropFrame p.val)
  else .next (s.ptpRx p.val { toPtpBody := body, mtype := mtype, domain := domain, seqId := seqId, src := src, req := req } sub.val)

/-- PTP_MESSAGE_TX: a message interval of the port expires, or the follow-up of a stamped message is due (R313, R315). -/
def execPtpMessageTx (p : Fin 3) (mtype : Fin 16) (seqId : Fin 65536) (s : State) : Out :=
  if !s.ptpPort p.val then .next s
  else if mtype.val = mtFollowUp then .next (s.sendFollowUp p.val seqId.val)
  else if mtype.val = mtPdelayRespFu then .next (s.sendPdelayFu p.val seqId.val)
  else .next (s.ptpInterval p.val mtype.val)

/-- ANNOUNCE_RECEIPT_TIMEOUT: the announce receipt timeout of a port expires (R309, R313). -/
def execAnnounceReceiptTimeout (p : Fin 3) (_ _ _ : Unit) (s : State) : Out :=
  .next (if s.ptpPort p.val then s.announceTimeout p.val else s)

/-- TX_TIMESTAMP: the stamp of a transmitted event message: a one-step Sync carries it, every other enters
the port's queue (R314, R315, R316). -/
def execTxTimestamp (p : Fin 3) (mtype : Fin 4) (seqId : SeqAt) (s : State) : Out :=
  if s.fenced (.eth p.val) || s.boot.resetLow then .next s
  else if mtype.val == mtSync && s.bit F.ETH_CFG_ONE_STEP p.val then .next (s.oneStepStamp p.val seqId.seqId.val seqId.sub.val)
  else .next (s.txStamp p.val mtype.val seqId.seqId.val seqId.sub.val)

/-- ETH_LINK_CHANGE: a port's link comes up at a speed, or goes down (R332). -/
def execEthLinkChange (p : Fin 3) (up : Bool) (speed : Fin 5) (s : State) : Out :=
  if s.boot.resetLow || (up && (s.fenced (.eth p.val) || !s.speedOk p.val speed.val)) then .next s
  else .next (s.linkChange p.val up speed.val)

/-- ETH_FRAME_RX: a frame of an unaccepted kind, or one with a bad frame check sequence, is received (R317). -/
def execEthFrameRx (p : Fin 3) (fcs : Bool) (s : State) : Out :=
  if !s.portUp p.val then .next s
  else .next (if fcs then s.dropFrame p.val else s.fcsFrame p.val)

/-- CYC_FRAME_SEND: the send instant of a transmit channel (R319). -/
def execCycFrameSend (t : Fin 8) (s : State) : Out := .next (s.cycSend t.val)

/-- CYC_FRAME_RX: a frame of EtherType 0x88B5 is complete on a port, with the payload that follows its EtherType (VERSION, SUBTYPE and the rest); `fcs`: its frame check
sequence is valid (R318, R320, R321). -/
def execCycFrameRx (p : Fin 3) (fcs : Bool) (version subtype : BitVec 8) (rest : List (BitVec 8)) (s : State) : Out :=
  .next (s.cycReceive p.val fcs (version :: subtype :: rest))

end Sys2Proof.Machine
end

