-- ==== Sys2Proof/Machine/MotionHub.lean ====
section
/-!
DEFINITION. The hub's side of motion: delivery of motion and engagement commands (R176 to R180, R194, R195, R200, R463), masters
and the SRC item (R199, R203, R204, R216, R223), cam store and profiles (R213 to R215), caravans (R219, R220, R225, R226, R228),
and what entering CONFIGURE ends (R461).
-/

namespace Sys2Proof.Machine

/-! ### Axes -/

def State.axis (s : State) (a : Nat) : AxisSt := s.motion.axes.get a {}

def State.setAxis (s : State) (a : Nat) (v : AxisSt) : State :=
  { s with motion := { s.motion with axes := s.motion.axes.set a v {} } }

def State.hubAx (s : State) (a : Nat) : AxisHub := (s.axis a).hub

def State.setHub (s : State) (a : Nat) (h : AxisHub) : State := s.setAxis a { s.axis a with hub := h }

def State.caravan (s : State) (g : Nat) : CaravanSt := s.motion.caravans.get g {}

def State.setCaravan (s : State) (g : Nat) (v : CaravanSt) : State :=
  { s with motion := { s.motion with caravans := s.motion.caravans.set g v {} } }

/-- The state after the newest period before `n`. -/
def before {α : Type} (d : α) (n : Nat) (xs : List (Nat × α)) : α :=
  match xs.find? (fun e => decide (e.1 < n)) with
  | some e => e.2
  | none => d

/-- The state after the newest period up to `n`. -/
def upTo {α : Type} (d : α) (n : Nat) (xs : List (Nat × α)) : α := before d (n + 1) xs

/-- Keep the state after period `n`: newest first, sixteen of them, enough for every catch-up of R347. -/
def keepState {α : Type} (n : Nat) (v : α) (xs : List (Nat × α)) : List (Nat × α) :=
  ((xs.filter fun e => decide (n < e.1)) ++ (n, v) :: xs.filter fun e => decide (e.1 < n)).take 16

/-- SPD_EXP of an axis, four bits; a virtual axis uses 0 (R171). -/
def State.axisSpdExp (s : State) (a : Nat) : Nat := if s.fld F.AXIS_CFG_TYPE a = 1 then s.fld F.AXIS_CFG_SPD_EXP a else 0

/-- A drive axis with a feedback channel (R143, R150). -/
def State.axisHasFb (s : State) (a : Nat) : Bool := s.fld F.AXIS_CFG_TYPE a == 1 && decide (s.axisFb a < 32)

/-- The axis is configured as a drive or virtual axis (R143). -/
def State.axisPresent (s : State) (a : Nat) : Bool :=
  let t := s.fld F.AXIS_CFG_TYPE a
  (t == 1 && decide (a < 32)) || (t == 2 && decide (32 ≤ a ∧ a < 40))

/-- The axis has an outer task (R171). -/
def State.hasOuter (s : State) (a : Nat) : Bool := s.axisPresent a && s.bit F.AXIS_CFG_OUTER a

/-- Phase of an axis's outer task, as placed (R18, R38). -/
def State.outerPhase (s : State) (a : Nat) : Option Nat :=
  (s.red.alloc.find? fun t => t.kind == 1 && t.axis == a).map TaskAlloc.phase

/-- Modes in which motion, engagement and caravan commands may be applied (R176, R200, R220). -/
def State.motionMode (s : State) : Bool := s.mode == .commission || s.mode == .run || s.mode == .hold

/-- A bit field of a number held as words of 32 bits with 24 used (PROF.LIMITS, AXIS.LIMITS). -/
def words24 (v n : Nat) : List Nat := (List.range n).map fun i => getBits v (32 * i) 24

/-- PROF.LIMITS words 0 to 7. -/
def State.profLimits (s : State) (a : Nat) : List Nat := words24 (s.obj .profLimits a 0) 8

/-! ### Delivery (R178, R194, R463) -/

/-- A delivery number is released, and with it the cam of its command (R199, R463). -/
def AxisHub.release (h : AxisHub) (n : Nat) : AxisHub :=
  { h with held := h.held.filter (·.num != n), cams := h.cams.filter (·.1 != n) }

/-- The cam SRC carries: that of the newest CAM_ENGAGE that has neither ended nor been refused or withdrawn (R199, R216). -/
def AxisHub.cam (h : AxisHub) : Option CamHub := h.cams.getLast?.map (·.2)

/-- A delivery number is free (R463). -/
def AxisHub.isFree (h : AxisHub) (n : Nat) : Bool := !h.held.any (·.num == n)

/-- The next number not held, taken in turn from 0 to 63 (R463). -/
def AxisHub.takeNum (h : AxisHub) : Option Nat :=
  (List.range 64).findSome? fun i => let n := (h.next + i) % 64; if h.isFree n then some n else none

/-- A motion or engagement command for the axis is due: a number is free (R463). -/
def State.motionDue (s : State) (a : Nat) : Bool := ((s.hubAx a).takeNum).isSome

/-- Apply a motion or engagement command: it takes its delivery number, and is refused, which releases the number at once, or
queued for the axis's next outer run (R176, R178, R180, R201, R463). -/
def State.deliver (s : State) (a : Nat) (ref : CmdRef) (e : MotionEntry) : State × Option Result :=
  if !s.motionMode then (s, some s.wrongMode)
  else
    let h := s.hubAx a
    match h.takeNum with
    | none => (s, none)
    | some n =>
      let h1 := { h with next := (n + 1) % 64 }
      if !s.hasOuter a then (s.setHub a h1, some (refused 0x1))
      else if 4 ≤ h.entries.length then (s.setHub a h1, some (refused 0x8))
      else
        (s.setHub a { h1 with
          entries := h.entries ++ [{ e with num := n, limits := s.profLimits a }]
          held := h.held ++ [{ num := n, owner := ref, opcode := e.opcode }] }, none)

/-- MOVE_POS, MOVE_VEL, STOP, QUICK_STOP and RESUME from their descriptor (Table 06.2). -/
def State.motionCmd (s : State) (d : Desc) (ref : CmdRef) : State × Option Result :=
  s.deliver (idInst d.objId) ref
    { opcode := d.opcode, mode := if d.opcode = 0x10 then d.param % 8 else 0
      target := if d.opcode = 0x10 then d.inline % 2 ^ 48 else 0
      speed := if d.opcode = 0x10 ∨ d.opcode = 0x11 then getBits d.inline 64 24 else 0 }

/-- The axis and the delivery of a command. -/
def State.deliveryOf (s : State) (ref : CmdRef) : Option (Nat × Delivery) :=
  (List.range 40).findSome? fun a => ((s.hubAx a).held.find? (·.owner == ref)).map (a, ·)

/-- An ABORT of a motion or engagement command (R194): the target is withdrawn, or an entry goes to the lane. -/
def State.abortMotion (s : State) (target abort : CmdRef) : Option State :=
  match s.deliveryOf target with
  | none => none
  | some (a, d) =>
    let h := s.hubAx a
    if d.delivered then
      some (s.setHub a { h with entries := h.entries ++ [{ opcode := 0x04, target := d.num, limits := s.profLimits a }] })
    else
      let s1 := s.setHub a { h.release d.num with entries := h.entries.filter fun e => e.opcode == 0x04 || e.num != d.num }
      some (s1.finishCmd target { status := 0x01, detail := refDetail abort } s1.sealHere)

/-- An ABORT that finds four entries pending for its target's axis is not due (R194). -/
def State.abortDue (s : State) (target : CmdRef) : Bool :=
  match s.deliveryOf target with
  | some (a, d) => !d.delivered || decide ((s.hubAx a).entries.length < 4)
  | none => true

/-- The entries of an axis are delivered at the boundary of its outer run (R178). -/
def State.deliverEntries (s : State) (a : Nat) : State :=
  let h := s.hubAx a
  let sent := fun (d : Delivery) => h.entries.any fun e => e.opcode != 0x04 && e.num == d.num
  let held := h.held.map fun d => if sent d then { d with delivered := true } else d
  s.setHub a { h with entries := [], held := held }

/-- The words of the CMD item (Table 06.1). -/
def cmdWords (es : List MotionEntry) : List Nat :=
  es.flatMap fun e =>
    let eng := e.engage.isSome || e.opcode == 0x1A
    [e.opcode % 2 ^ 8 + (if eng then 0 else e.mode % 8) * 2 ^ 8 + e.num * 2 ^ 11 + 2 ^ 23,
     if eng then 0 else e.target % 2 ^ 24, if eng then 0 else e.target / 2 ^ 24 % 2 ^ 24, if eng then 0 else e.speed]

/-! ### Engagement commands (R200, R201, R208, R218) -/

/-- GEAR.MASTER of an axis. -/
def State.masterKind (s : State) (a : Nat) : Nat := s.fld F.GEAR_MASTER_KIND a
def State.masterIndex (s : State) (a : Nat) : Nat := s.fld F.GEAR_MASTER_INDEX a

/-- A master's value as delivered in SRC, and whether it is fresh (Table 07.5). -/
def State.masterValue (s : State) (a : Nat) : Int × Bool :=
  let i := s.masterIndex a
  match s.masterKind a with
  | 1 =>
    let p := (s.hubAx i).pubP
    (wrapS 56 ((p.getD 0 0 : Nat) + (p.getD 1 0 : Nat) * 2 ^ 24 + (p.getD 2 0 : Nat) * 2 ^ 48), true)
  | 2 => (((s.fbs i).held.getD 0 0 : Nat), !s.fenced (.fb i))
  | 3 => (((s.netMaster i).1 : Nat), (s.netMaster i).2)
  | 4 => ((s.emuCount i : Nat), true)
  | 5 => (word23 ((s.fbs i).held.getD 1 0), !s.fenced (.fb i))
  | _ => (0, true)

/-- A profile is valid (R215). -/
def State.profValid (s : State) (p : Nat) : Bool :=
  let n := s.fld F.CAM_PROF_N p
  decide (4 ≤ n ∧ s.fld F.CAM_PROF_FIRST p + n ≤ 32768 ∧ 1 ≤ s.fld F.CAM_PROF_SPAN p)

/-- GEAR_ENGAGE from its descriptor (R208). -/
def State.gearCmd (s : State) (d : Desc) (ref : CmdRef) : State × Option Result :=
  let a := idInst d.objId
  let k := s.masterKind a
  let den := getBits d.inline 32 32
  s.deliver a ref
    { opcode := 0x18
      engage := some (.gear (sint 32 (d.inline % 2 ^ 32)) den (getBits d.inline 64 32) (d.param.testBit 0)
        (getBits d.param 1 2) (getBits d.inline 96 48))
      bad := if den = 0 then 0x4 else if k = 0 ∨ k = 5 then 0xC else 0 }

/-- CAM_ENGAGE from its descriptor (R218); the hub begins to read the profile from this boundary on (R216). -/
def State.camCmd (s : State) (d : Desc) (ref : CmdRef) : State × Option Result :=
  let a := idInst d.objId
  let p := d.param % 2 ^ 6
  let bad := if !s.profValid p then 0x4 else if s.masterKind a = 0 then 0xC else 0
  let r := s.deliver a ref
    { opcode := 0x19
      engage := some (.cam (d.param.testBit 8) (sint 48 (d.inline % 2 ^ 48)) (getBits d.inline 128 16)
        (sint 32 (s.fld F.CAM_PROF_YSCALE p)) (sint 24 (s.fld F.CAM_PROF_RISE p)) (s.bit F.CAM_PROF_CYCLIC p))
      bad := bad }
  if r.2.isSome ∨ bad ≠ 0 then r
  else
    let v := s.masterValue a
    let x := if 2 ≤ s.masterKind a ∧ s.masterKind a ≤ 4 then sint 32 v.1.toNat else v.1
    let h := r.1.hubAx a
    let org := if d.param.testBit 9 then sint 48 (getBits d.inline 64 48) else x
    let c : CamHub := { profile := p, xOrg := org, x := x, raw := v.1.toNat, fresh := v.2 }
    (r.1.setHub a { h with cams := h.cams ++ [((h.held.getLast?.map (·.num)).getD 0, c)] }, none)

/-- DISENGAGE from its descriptor (R212). -/
def State.disengageCmd (s : State) (d : Desc) (ref : CmdRef) : State × Option Result :=
  s.deliver (idInst d.objId) ref { opcode := 0x1A, mode := d.param % 2 }

/-- The cams engaged on an axis, or awaiting the answer to their CAM_ENGAGE (R199, R214, R215). -/
def State.camsOf (s : State) (a : Nat) : List CamHub := (s.hubAx a).cams.map (·.2)

/-- A profile is engaged on any axis. -/
def State.profEngaged (s : State) (p : Nat) : Bool := (List.range 40).any fun a => (s.camsOf a).any (·.profile == p)

/-! ### Cam store (R213, R214) -/

/-- TABLE_WRITE of cam points into the staging area (R213): F from PARAM, the entries from the host buffer. -/
def State.camStageWrite (s : State) (first len data : Nat) : State × Result :=
  if len % 4 ≠ 0 ∨ 32768 < first + len / 4 then (s, refused 0x1)
  else
    let put := fun (m : SMap Word24) i => m.set (first + i) (BitVec.ofNat 24 (getBits data (32 * i) 24)) 0
    ({ s with motion := { s.motion with camStage := (List.range (len / 4)).foldl put s.motion.camStage } }, done)

/-- CAM.COMMIT.GO (R214); a COUNT of 0 acts as 1 (R458). -/
def State.camCommit (s : State) : State × Result :=
  let f := s.fld F.CAM_COMMIT_FIRST
  let n := max 1 (s.fld F.CAM_COMMIT_COUNT)
  let hit := (List.range 40).any fun a => (s.camsOf a).any fun c =>
    let pf := s.fld F.CAM_PROF_FIRST c.profile
    let pn := s.fld F.CAM_PROF_N c.profile
    decide (f < pf + pn ∧ pf < f + n)
  if hit then (s, refused 0x1)
  else if 32768 < f + n then (s, refused 0x2)
  else
    let copy := fun (m : SMap Word24) i => m.set (f + i) (s.motion.camStage.get (f + i) 0) 0
    ({ s with motion := { s.motion with camStore := (List.range n).foldl copy s.motion.camStore } }, done)

/-! ### What a boundary latches for engaged sources (R199, R216, R223) -/

/-- The hub follows an engaged cam's master, extending a 32-bit value to 64 bits (R216); a stale value is not taken (R206). -/
def State.camTick (s : State) (a : Nat) : State :=
  let h := s.hubAx a
  let v := s.masterValue a
  let next := fun (c : CamHub) =>
    if !v.2 then { c with fresh := false }
    else if 2 ≤ s.masterKind a ∧ s.masterKind a ≤ 4 then
      { c with x := c.x + wrapS 32 (v.1 - c.raw), raw := v.1.toNat, fresh := true }
    else { c with x := v.1, fresh := true }
  if h.cams.isEmpty then s else s.setHub a { h with cams := h.cams.map fun e => (e.1, next e.2) }

/-- A store point. -/
def State.camPoint (s : State) (p k : Nat) : Nat :=
  (s.motion.camStore.get ((s.fld F.CAM_PROF_FIRST p + k) % 32768) 0).toNat

/-- SRC words 1 to 8 for a cam (R216), and whether the cycle count leaves its 24 bits. -/
def State.camWords (s : State) (c : CamHub) : List Nat × Bool :=
  let n := max (s.fld F.CAM_PROF_N c.profile) 1
  let span := max (s.fld F.CAM_PROF_SPAN c.profile) 1
  let cyc := s.bit F.CAM_PROF_CYCLIC c.profile
  let xr := c.x - c.xOrg
  let cnt : Int := if cyc then xr / span else 0
  let u : Rat := if cyc then ((xr - cnt * span) * n : Int) / (span : Rat)
    else (clampInt xr 0 span * (n - 1 : Int) : Int) / (span : Rat)
  let i0 := u.floor.toNat
  let i := if !cyc && i0 == n - 1 then n - 2 else i0
  let t := ((u - i) * 2 ^ 16).floor.toNat
  let idx := fun (j : Nat) => (i : Int) - 1 + j
  let outside := fun (j : Nat) => decide (idx j < 0 ∨ (n : Int) ≤ idx j)
  let pt := fun (j : Nat) => if outside j && !cyc then 0 else s.camPoint c.profile ((idx j % n).toNat)
  let flags := (List.range 4).foldl (fun m j => if outside j then m + 2 ^ j else m) 0
  let out := !cyc && (decide (xr < 0) || decide ((span : Int) < xr))
  ([i, t, pt 0, pt 1, pt 2, pt 3, flags + out.toNat * 2 ^ 4, uint 24 cnt],
   decide (cnt < -(2 ^ 23) ∨ 2 ^ 23 ≤ cnt))

/-- AGE of a command master (Table 07.5). -/
def State.masterAge (s : State) (a : Nat) : Nat :=
  if s.masterKind a = 1 then
    let k : Int := s.fld F.SYS_PERIOD_K + 1
    ((((s.outerPhase a).getD 0 : Int) - ((s.outerPhase (s.masterIndex a)).getD 0 : Int) - 1) % k).toNat + 1
  else 0

/-! Caravans. -/

/-- Member axis of a slot; 63 for none. -/
def State.member (s : State) (g j : Nat) : Nat := getBits (s.fld F.CARAVAN_CFG_MEMBER g) (6 * j) 6

/-- Members of a group, in slot order. -/
def State.members (s : State) (g : Nat) : List Nat := ((List.range 8).map (s.member g)).filter (· != 63)

/-- The group and slot an axis is a member of. -/
def State.memberSlot (s : State) (a : Nat) : Option (Nat × Nat) :=
  (List.range 4).findSome? fun g => ((List.range 8).find? fun j => s.member g j == a).map (g, ·)

/-- The current and the next segment of a group, as the reference member's last SEG_AT shows them (R223). -/
def State.pathSegs (s : State) (g : Nat) : Option Segment × Option Segment :=
  let q := (s.caravan g).queue
  let at_ := match (s.caravan g).segAt.get 0 none with
    | none => 0
    | some w => (q.findIdx? (fun x => x.seq == w % 2 ^ 8)).getD 0
  (q[at_]?, q[at_ + 1]?)

/-- Take the group-wide values at the boundary of the reference member's run (R223, R226). -/
def State.snapCaravan (s : State) (g : Nat) : State :=
  let c := s.caravan g
  match s.members g with
  | [] => s
  | r :: _ =>
    if s.outerPhase r = some s.per.phase then
      let q := s.pathSegs g
      s.setCaravan g { c with
        started := c.started || q.1.isSome
        snap := { cur := q.1, nxt := q.2
                  limits := [s.fld F.CARAVAN_CFG_VMAX g, s.fld F.CARAVAN_CFG_ACC g, s.fld F.CARAVAN_CFG_DEC g,
                             s.fld F.CARAVAN_CFG_JERK g, s.fld F.CARAVAN_CFG_PSTOP_DEC g]
                  pspd := s.fld F.CARAVAN_CFG_PSPD_EXP g, pause := s.bit F.CARAVAN_CFG_PAUSE g, aborting := c.aborting } }
    else s

/-- Ten SRC words of a segment for a member slot (Table 07.2). -/
def segWords (x : Option Segment) (j : Nat) : List Nat :=
  match x with
  | none => List.replicate 10 0
  | some q =>
    let c := q.coords.getD j (0, 0, 0, 0)
    [q.len, q.feed, q.endSpeed, q.phi0, q.sweep, c.1 % 2 ^ 24, c.1 / 2 ^ 24, c.2.1, c.2.2.1, c.2.2.2]

/-- SRC words 1 to 27 for a caravan member. -/
def State.caravanWords (s : State) (a g j : Nat) : List Nat :=
  let n := (s.caravan g).snap
  let k : Int := s.fld F.SYS_PERIOD_K + 1
  let ref := (s.members g).headD 63
  let d := ((((s.outerPhase a).getD 0 : Int) - ((s.outerPhase ref).getD 0 : Int)) % k).toNat
  let ty := fun (x : Option Segment) => match x with
    | some q => q.type
    | none => 0
  let seq := match n.cur with
    | some q => q.seq
    | none => 0
  [seq + ty n.cur * 2 ^ 8 + ty n.nxt * 2 ^ 10 + n.cur.isSome.toNat * 2 ^ 12 + n.nxt.isSome.toNat * 2 ^ 13 + j * 2 ^ 14 + d * 2 ^ 17]
    ++ segWords n.cur j ++ segWords n.nxt j ++ (List.range 5).map (fun i => n.limits.getD i 0)
    ++ [n.pspd + n.pause.toNat * 2 ^ 4 + n.aborting.toNat * 2 ^ 5]

/-- The source SRC carries for an axis (R199): 0 none, 1 gearing, 2 cam, 3 caravan. -/
def State.srcKind (s : State) (a : Nat) : Nat :=
  let h := s.hubAx a
  match h.link % 8 with
  | 1 | 2 | 3 => 1
  | 4 => 2
  | 5 => 3
  | _ =>
    match (h.held.filter fun d => d.opcode == 0x18 || d.opcode == 0x19).getLast? with
    | some d => if d.opcode = 0x18 then 1 else 2
    | none =>
      match s.memberSlot a with
      | some gj => if (s.caravan gj.1).queue.isEmpty then 0 else 3
      | none => 0

/-- The SRC item of an axis (Table 07.2), and whether an engaged cam lies beyond its cycle count's range. -/
def State.srcWords (s : State) (a : Nat) : List Nat × Bool :=
  let h := s.hubAx a
  let v := s.masterValue a
  let m := s.masterIndex a
  let cmd := s.masterKind a == 1
  let about := s.masterAge a * 2 ^ 4 + (if cmd then s.axisSpdExp m else 0) * 2 ^ 9
  match s.srcKind a with
  | 1 =>
    let raw := uint 56 v.1
    ([1 + v.2.toNat * 2 ^ 3 + about, raw % 2 ^ 24, if cmd then raw / 2 ^ 24 % 2 ^ 24 else raw / 2 ^ 24 % 2 ^ 8,
      if cmd then uint 24 (sint 8 (raw / 2 ^ 48)) else 0, if cmd then (s.hubAx m).pubV else 0], false)
  | 2 =>
    match h.cam with
    | none => ([2], false)
    | some c => let w := s.camWords c; ((2 + c.fresh.toNat * 2 ^ 3 + about) :: w.1, w.2)
  | 3 =>
    match s.memberSlot a with
    | none => ([3], false)
    | some gj => ((3 + 2 ^ 3 + (s.caravan gj.1).broken.toNat * 2 ^ 13) :: s.caravanWords a gj.1 gj.2, false)
  | _ => ([0], false)

/-! ### Caravan segments (R220, R225, R226, R228) -/

/-- The segment record of Table 07.6. -/
def segmentOf (data : Nat) (m seq : Nat) (ref : CmdRef) : Segment :=
  let b := fun (byte w : Nat) => getBits data (8 * byte) w
  { seq := seq, owner := ref, type := b 0 2, len := b 4 24, feed := b 8 24, endSpeed := b 12 24, phi0 := b 16 24, sweep := b 20 24
    coords := (List.range m).map fun j => (b (24 + 16 * j) 48, b (30 + 16 * j) 24, b (33 + 16 * j) 24, b (36 + 16 * j) 24) }

/-- A CARAVAN_SEG is due: its group's queue does not hold 256 segments (R220). -/
def State.segDue (s : State) (g : Nat) : Bool := decide ((s.caravan g).queue.length < 256)

/-- Bits of a segment record that Table 07.6 reserves are set (R11). -/
def segReserved (data m : Nat) : Bool :=
  let byte := fun (i : Nat) => getBits data (8 * i) 8
  decide (byte 0 / 4 ≠ 0) || ([1, 2, 3, 7, 11, 15, 19, 23] ++ (List.range m).map (39 + 16 * ·)).any fun i => byte i != 0

/-- A member of the axis's caravan is called to it: it has started, holds segments, and is not broken (R226). -/
def State.caravanCalls (s : State) (a : Nat) : Bool :=
  (s.memberSlot a).any fun gj =>
    let c := s.caravan gj.1
    c.started && !c.queue.isEmpty && !c.broken

/-- CARAVAN_SEG (R220, R226). -/
def State.caravanSeg (s : State) (d : Desc) (data : Nat) (ref : CmdRef) : State × Option Result :=
  let g := idInst d.objId
  let m := (s.members g).length
  if !s.motionMode then (s, some s.wrongMode)
  else if d.length ≠ 24 + 16 * m ∨ data % 4 = 3 ∨ getBits data 32 24 = 0 then (s, some (refused 0x4))
  else
    let c := s.caravan g
    let fresh := c.queue.isEmpty
    (s.setCaravan g { c with
      queue := c.queue ++ [segmentOf data m c.nextSeq ref], nextSeq := (c.nextSeq + 1) % 2 ^ 8, segbuf := data % 2 ^ 1216
      segAt := if fresh then [] else c.segAt, started := c.started && !fresh, broken := c.broken && !fresh
      leaver := if fresh then none else c.leaver, snap := if fresh then {} else c.snap
      aborting := c.aborting && !fresh }, none)

/-- Every uncompleted segment of a group completes with one outcome. -/
def State.endSegments (s : State) (g : Nat) (o : Result) (need : Nat) : State :=
  let c := s.caravan g
  let s1 := s.setCaravan g { c with queue := [], started := false, aborting := false, aborts := [] }
  c.queue.foldl (fun s q => s.finishCmd q.owner o need) s1

/-- Free the segments at the head that every member has passed (R225): ENDED says that the path stands at the end of the segment it is posted
with, which was then the last one queued. -/
def State.freeSegments (s : State) (g need : Nat) : Nat → State
  | 0 => s
  | k + 1 =>
    let c := s.caravan g
    match c.queue with
    | [] => s
    | h :: r =>
      let passed := (List.range (s.members g).length).all fun j =>
        match c.segAt.get j none with
        | none => false
        | some w => (w.testBit 8 && w % 2 ^ 8 == h.seq) || (w % 2 ^ 8 != h.seq && r.any (·.seq == w % 2 ^ 8))
      if passed then
        ((s.setCaravan g { c with queue := r, started := c.started && !r.isEmpty }).finishCmd h.owner done need).freeSegments g need k
      else s

/-- A SEG_AT word of a member (R225, R226). -/
def State.takeSegAt (s : State) (a word need : Nat) : State :=
  match s.memberSlot a with
  | none => s
  | some (g, j) =>
    let c := s.caravan g
    if c.queue.isEmpty then s
    else if word.testBit 9 then
      if c.broken then s
      else (s.setCaravan g { c with broken := true, leaver := some a }).endSegments g (stopped a) need
    else (s.setCaravan g { c with segAt := c.segAt.set j (some word) none }).freeSegments g need c.queue.length

/-- An ABORT of an applied CARAVAN_SEG (R228). -/
def State.abortCaravan (s : State) (target abort : CmdRef) : Option State :=
  (List.range 4).findSome? fun g =>
    if (s.caravan g).queue.any (·.owner == target) then
      some (s.setCaravan g { s.caravan g with aborting := true, aborts := (s.caravan g).aborts ++ [abort] })
    else none

/-- At rest under ABORTING every member has left: the segments complete ABORTED (R228). -/
def State.settleAborting (s : State) (g need : Nat) : State :=
  let c := s.caravan g
  if c.aborting && !c.queue.isEmpty && (s.members g).all (fun a => (s.hubAx a).link % 8 != 5) then
    s.endSegments g { status := 0x01, detail := (c.aborts.head?.map refDetail).getD 0 } need
  else s

/-- CARAVAN.CFG's read-only fields, updated at each seal (R219). -/
def State.showCaravan (s : State) (g : Nat) : State :=
  let c := s.caravan g
  let head := match c.queue with
    | q :: _ => q.seq
    | [] => c.nextSeq
  (((s.setFld F.CARAVAN_CFG_HEAD head g).setFld F.CARAVAN_CFG_COUNT c.queue.length g).setBit F.CARAVAN_CFG_MOVING
    (c.started && !c.queue.isEmpty) g).setBit F.CARAVAN_CFG_BROKEN c.broken g

/-! ### Posts of the axis ports (R170, R195, R198, R203) -/

/-- The result a DONE word reports (R195, R463): RESULT is floor(sp / 2^8) after the run's step. -/
def State.doneResult (s : State) (a : Nat) (owner : CmdRef) (word : Nat) : Result :=
  let h := s.hubAx a
  let st := getBits word 6 8
  let det := getBits word 14 10
  let sp := (s.hubAx a).pubP
  let c := wrapS 48 ((wrapS 56 ((sp.getD 0 0 : Nat) + (sp.getD 1 0 : Nat) * 2 ^ 24 + (sp.getD 2 0 : Nat) * 2 ^ 48)) / 2 ^ 8)
  let by_ := (h.held.find? (·.num == det)).map Delivery.owner
  let abort := (s.host.cmds.find? fun x => x.waits == some owner).map fun x => ((x.ring, x.index, x.phase) : CmdRef)
  { status := st
    detail := if st = 0x0B then (by_.map refDetail).getD 0 else if st = 0x01 then (abort.map refDetail).getD 0 else det
    result := if st = 0x00 ∨ st = 0x0A then uint 64 c else Config.unstatedResult }

/-- A DONE word: the command it names ends, and its number is released; a number no delivered command holds has no effect
(R463). -/
def State.takeDone (s : State) (a word need : Nat) : State :=
  let h := s.hubAx a
  match h.held.find? (fun d => d.num == word % 2 ^ 6 && d.delivered) with
  | none => s
  | some d =>
    let r := s.doneResult a d.owner word
    (s.setHub a (h.release d.num)).finishCmd d.owner r need

/-- PUB_P, PUB_V and LINK as the hub keeps them (R198, R199). -/
def State.takePub (s : State) (a obj word : Nat) : State :=
  let h := s.hubAx a
  match obj with
  | 0x10 | 0x11 | 0x12 => s.setHub a { h with pubP := h.pubP.set (obj - 0x10) word }
  | 0x13 => s.setHub a { h with pubV := word }
  | 0x15 => s.setHub a { h with link := word }
  | _ => s

/-- Fault bits of an axis after a seal (R170, Table 05.6, Table 07.1): live conditions begin and end, one-time ones occur. -/
def State.takeFaults (s : State) (a : Nat) (outer : Bool) (bits stamp : Nat) : State :=
  let h := s.hubAx a
  let old := h.faultC ||| h.faultO
  let h1 := if outer then { h with faultO := bits } else { h with faultC := bits }
  let new := h1.faultC ||| h1.faultO
  (s.setHub a h1).forRange 11 fun s b =>
    let k := K.FOLLOWING_ERROR + b
    let live := (kindRow k).any (·.live)
    if new.testBit b && (!old.testBit b || (!live && bits.testBit b)) then s.raiseAt stamp k a
    else if old.testBit b && !new.testBit b && live then
      s.send { source := sourceNo k a, on := false, off := true, stamp := stamp }
    else s

/-! ### Entering and leaving CONFIGURE (R134, R193, R461) -/

/-- Entering CONFIGURE ends the open motion, engagement and caravan commands (R461). -/
def State.motionToConfigure (s : State) (need : Nat) : State :=
  let ended := fun (s : State) a =>
    let h := s.hubAx a
    let s1 := h.held.foldl (fun s d => s.finishCmd d.owner (if d.delivered then stopped 0x5 else refused 0xE) need) s
    (s1.setAxis a { hub := { pubP := h.pubP, pubV := h.pubV, faultC := h.faultC, faultO := h.faultO, next := h.next } }).setFld F.GEAR_MASTER_STATE 0 a
  ((s.forRange 40 ended).forRange 4 fun s g => (s.endSegments g (stopped 0x3F) need))

/-- On leaving CONFIGURE the axis program starts afresh, and every caravan and published position with it (R150, R171); delivery
numbers go on in turn (R463). -/
def State.motionFromConfigure (s : State) : State :=
  let fresh := s.motion.axes.map fun (e : Nat × AxisSt) => (e.1, ({ hub := { next := e.2.hub.next } } : AxisSt))
  { s with motion := { s.motion with axes := fresh.filter fun (e : Nat × AxisSt) => decide (e.2 ≠ ({} : AxisSt)), caravans := [] } }

end Sys2Proof.Machine
end

