-- ==== Sys2Proof/Machine/InputRecord.lean ====
section
/-!
DEFINITION. The input record of a boundary (R16, R21, R104, R128, R134, R147, R175, R268, R290, R322, R330, R385, R402): the
value of every input item, the survey map and dispatch plan, input blocks, the period header, and what the axis program reads.
-/

namespace Sys2Proof.Machine

/-! ### Item values at boundary tick `b` -/

/-- Word `w` of an object whose words are 32 bits with 24 used. -/
def State.objWord (s : State) (o : Obj) (inst w : Nat) : Nat := getBits (s.obj o inst 0) (32 * w) 24

/-- TRIPPED (Table 05.3): a group in LOW, SAFE or HALT, or in IDLE for another reason than waiting to start. -/
def State.axisTripped (s : State) (a : Nat) : Bool :=
  (s.axisGroups a).any fun g => decide (s.gstate g < gIdle) || (s.gstate g == gIdle && !s.gwaiting g)

/-- SAMPLE of a sigma-delta input. -/
def State.sampleOf (s : State) (i : Nat) : Nat := (s.sds i).sample.toNat

/-- A class 0x1 item (Table 05.3), OWN_LATE and the mailbox items apart. -/
def State.axisItem (s : State) (a obj w : Nat) : Nat :=
  let drive := s.fld F.AXIS_CFG_TYPE a == 1
  match obj with
  | 0x09 => (s.axisTripped a).toNat
  | 0x0A => s.objWord .axisLimits a w
  | 0x0B => s.objWord .axisComp a w
  | 0x0C =>
    match w with
    | 0 => (s.mode == .commission && decide (a < 32) && s.nth F.SYS_COMMISSION_AXES a).toNat
    | 1 => s.fld F.SYS_COMMISSION_I_LIM
    | 2 => s.fld F.SYS_COMMISSION_V_LIM
    | _ => s.fld F.SYS_COMMISSION_F_LIM
  | 0x0D => if drive && decide (w / 3 ≤ s.fld F.AXIS_CFG_NBR a) then s.sampleOf (s.fld F.AXIS_CFG_IS0 a + w) else 0
  | 0x0E => if !drive then 0 else if w = 0 then s.sampleOf (s.fld F.AXIS_CFG_VDC a) else s.sampleOf (s.fld F.AXIS_CFG_VDC_N a)
  | 0x0F => if drive then (s.red.mbox.get a 0).toNat else 0
  | 0x10 => if drive then (s.red.mbox.get (32 + a) 0).toNat else 0
  | 0x11 =>
    match (s.axisGroups a)[w]? with
    | some g => s.gper g
    | none => 0
  | _ => 0

/-- GSTATE (R268). -/
def State.gstateWord (s : State) (g : Nat) : Nat :=
  s.gstate g + s.fld F.PWMG_STATUS_TRIPPED g * 8 + s.fld F.PWMG_STATUS_FENCED g * 32 + (s.gwaiting g).toNat * 64

/-- A class 0x3 item: a feedback channel (Table 09.6, R291) or the counter of an emulation output (R293). -/
def State.fbItem (s : State) (inst obj w : Nat) : Nat :=
  let h := fun (i d : Nat) => (s.fbs inst).held.getD i d
  let word := fun (v : Nat) => if w = 0 then v % 2 ^ 24 else v / 2 ^ 24 % 2 ^ 8
  if 32 ≤ inst then word (s.emuCount (inst - 32))
  else
    match obj with
    | 0x08 => word (h 0 0)
    | 0x09 => h 1 0
    | 0x0A => h 2 0
    | 0x0B => h 3 0xFFFFFF
    | _ => word (h 4 0)

/-- A class 0x5 item (Table 06.1). -/
def State.profItem (s : State) (a obj w : Nat) : Nat :=
  match obj with
  | 0x08 => s.objWord .profLimits a w
  | 0x09 => (s.stopReq a).toNat
  | _ => (cmdWords (s.hubAx a).entries).getD w 0

/-- A class 0xA item (Table 13.3). -/
def State.fieldItem (s : State) (b obj w : Nat) : Nat :=
  let word := fun (v : Nat) => if w = 0 then v % 2 ^ 24 else v / 2 ^ 24
  match obj with
  | 0x08 => word s.diWord
  | 0x09 => word s.diEdgeWord
  | 0x0A => s.diAge w b
  | _ => s.fioItem b

/-- Word `w` of the input item `id` as the record of boundary tick `b` holds it. -/
def State.itemWord (s : State) (b id w : Nat) : Word24 :=
  let i := idInst id
  let o := idObj id
  BitVec.ofNat 24 <| match idClass id with
    | 0x1 => s.axisItem i o w
    | 0x2 => if o = 0x08 then s.gstateWord i else s.gper i
    | 0x3 => s.fbItem i o w
    | 0x4 => s.sampleOf (i + 48 * (o / 32))
    | 0x5 => s.profItem i o w
    | 0x6 => (s.srcWords i).1.getD w 0
    | 0x8 => if o = 0x08 then s.cycMeta (i - 16) b else (s.cycWord (i - 16) w).toNat
    | 0x9 => (s.canSlotWord i (o - 8) w).toNat
    | 0xA => s.fieldItem b o w
    | 0xF => (s.red.mbox.get i 0).toNat
    | _ => 0

/-! ### Input maps (R128) -/

/-- NWORDS of the receive channel an item of class 0x8 names. -/
def State.rxWords (s : State) (id : Nat) : Nat := s.rxCount (idInst id - 16)

/-- Words of the item an input-map entry names. -/
def State.entryWords (s : State) (id : Nat) : Option Nat := itemWords (idClass id) (idObj id) (s.rxWords id)

/-- INSTANCE 63 resolved for a task of axis `a`; none for a class 0x3 item of an axis without a channel (R128). -/
def State.resolveId (s : State) (a id : Nat) : Option Nat :=
  if idInst id ≠ 63 then some id
  else if idClass id = 3 then
    if s.axisFb a < 32 then some (mkId 3 (s.axisFb a) (idObj id)) else none
  else some (mkId (idClass id) a (idObj id))

/-- The image of a unit, as the hub keeps it. -/
def State.unitImg (s : State) (u : Nat) : UnitImg := s.red.images.get u {}

/-- A field of a task-table entry. -/
def taskFld (f : Fld) (w : Nat) : Nat := getBits w f.lo f.width

/-- A field of the task table of a unit's image. -/
def State.taskOf (s : State) (u kind : Nat) (f : Fld) : Nat := taskFld f ((s.unitImg u).tasks.getD kind 0)

/-- The resolved item words of a task's block, word by word: item and word, or none for a zero word (R128). -/
def State.blockItems (s : State) (img : UnitImg) (kind axis inw : Nat) : List (Option (Nat × Nat)) :=
  let step := fun (acc : List (Option (Nat × Nat)) × Option (Option Nat × Nat × Nat)) (j : Nat) =>
    match acc.2 with
    | some (id, w, left) =>
      (acc.1 ++ [id.map (·, w)], if left ≤ 1 then none else some (id, w + 1, left - 1))
    | none =>
      let e := img.maps.get (1024 * kind + j) 0
      if e = 0 then (acc.1 ++ [none], none)
      else
        match s.entryWords e with
        | none | some 0 => (acc.1 ++ [none], none)
        | some n =>
          let id := s.resolveId axis e
          (acc.1 ++ [id.map (·, 0)], if n ≤ 1 then none else some (id, 1, n - 1))
  ((List.range inw).foldl step ([], none)).1

/-- Put a pair in its place in a rising list without repeats. -/
def insertPair (e : Nat × Nat) : List (Nat × Nat) → List (Nat × Nat)
  | [] => [e]
  | x :: xs => if e = x then x :: xs else if e.1 < x.1 ∨ (e.1 = x.1 ∧ e.2 < x.2) then e :: x :: xs else x :: insertPair e xs

/-- The survey map: the item words of every placed task and all mailbox slots, in order (R402). -/
def State.surveyMap (s : State) (img : UnitImg) : List (Nat × Nat) :=
  let boxes := (List.range 64).map fun i => (mkId 0xF i 0, 0)
  let named := s.red.alloc.flatMap fun t =>
    (s.blockItems img t.kind t.axis (taskFld F.ENG_TASK_INW (img.tasks.getD t.kind 0))).filterMap id
  (named ++ boxes).foldl (fun m e => insertPair e m) []

/-- The dispatch plan: every placed task with the map indices of its block (Table 14.4). -/
def State.dispatchPlan (s : State) (img : UnitImg) (map : List (Nat × Nat)) : List PlanTask :=
  s.red.alloc.map fun t =>
    { pos := t.pos, kind := t.kind, axis := t.axis, phase := t.phase, xBase := t.xBase, yBase := t.yBase, inBase := t.inBase
      coefBase := t.coefBase
      block := (s.blockItems img t.kind t.axis (taskFld F.ENG_TASK_INW (img.tasks.getD t.kind 0))).map fun e =>
        match e with
        | none => 0xFFFF
        | some p => (map.findIdx? (· == p)).getD 0xFFFF }

/-! ### Blocks and header -/

/-- The period header of Table 04.2, formed from a record. -/
def headerWords (r : SurvRec) : List Nat :=
  [r.phase % 2 ^ 4, r.seq % 2 ^ 24, r.seq / 2 ^ 24 % 2 ^ 8, r.late % 2 ^ 12, r.mode % 2 ^ 3, r.fence % 2 ^ 24,
   getBits r.fence 24 8 + getBits r.fence 64 4 * 2 ^ 8 + getBits r.fence 68 3 * 2 ^ 12, getBits r.fence 32 24,
   getBits r.fence 56 8, r.bankB.toNat, r.mtime % 2 ^ 24, getBits r.mtime 24 24, getBits r.mtime 48 16]

/-- The input area of a position (R104): header, and every placed task's block. `lateAt` tells a position's late indication
(OWN_LATE, R29). -/
def inputArea (r : SurvRec) (words : List Word24) (map : List (Nat × Nat)) (plan : List PlanTask) (lateAt : Nat → Bool)
    (pos : Nat) : PosArea :=
  let put := fun (m : SMap Word24) (e : Nat × Word24) => m.set e.1 e.2 0
  let head := (headerWords r).mapIdx fun i w => (0x3C00 + i, BitVec.ofNat 24 w)
  let word := fun (i : Nat) =>
    match map[i]? with
    | none => 0
    | some e =>
      if idClass e.1 = 1 ∧ idObj e.1 = 0x08 then BitVec.ofNat 24 (lateAt pos).toNat else words.getD i 0
  let block := fun (t : PlanTask) => t.block.mapIdx fun j i => (t.inBase + j, word i)
  { pos := pos, words := (head ++ (plan.filter (·.pos == pos)).flatMap block).foldl put [] }

/-! ### What the axis program reads -/

/-- Items of the standard axis program: class, object, words (Tables 05.3, 06.1, 07.1, 09.6). -/
def axisItems : List (Nat × Nat × Nat) :=
  [(1, 0x09, 1), (1, 0x0A, 7), (1, 0x0B, 2), (1, 0x0C, 4), (1, 0x0D, 12), (1, 0x0E, 2), (1, 0x0F, 1), (1, 0x10, 1), (1, 0x11, 4),
   (3, 0x08, 2), (3, 0x09, 1), (3, 0x0A, 1), (3, 0x0B, 1), (3, 0x0C, 2), (5, 0x08, 8), (5, 0x09, 1), (5, 0x0A, 16), (6, 0x08, 32)]

/-- The words of an axis's items, by the lookup `word` of a resolved item's word. -/
def State.axisWords (s : State) (a : Nat) (ownLate : Bool) (word : Nat → Nat → Word24) : SMap Nat :=
  let vals := axisItems.flatMap fun e => (List.range e.2.2).map fun w =>
    ((64 * e.1 + e.2.1) * 64 + w, match s.resolveId a (mkId e.1 63 e.2.1) with
      | some id => (word id w).toNat
      | none => 0)
  ((((64 * 1 + 0x08) * 64, ownLate.toNat) :: vals).foldl (fun (m : SMap Nat) e => m.set e.1 e.2 0) [])

/-- The position of the axis in the running period, from the one before it (R150, R169). -/
def State.axisPosn (s : State) (a fence : Nat) (x : AxisIn) : PosSt :=
  let p := before {} s.per.count (s.axis a).posn
  if s.axisHasFb a then p.run (s.fld F.AXIS_CFG_CPR a) x.count (fence.testBit (s.axisFb a)) else p

/-- What the record of boundary `b` delivers to an axis's tasks. `sent` holds the CMD entries delivered here, `fence` the
fence bits latched. -/
def State.axisIn (s : State) (a fence : Nat) (ownLate : Bool) (sent : List MotionEntry) (word : Nat → Nat → Word24) : AxisIn :=
  let x : AxisIn :=
    { items := s.axisWords a ownLate word
      entries := sent
      fbFenced := s.axisHasFb a && fence.testBit (s.axisFb a)
      grpFenced := (s.axisGroups a).any fun g => fence.testBit (32 + g)
      bankB := s.bit F.ENG_BANK_IN_FORCE
      camFar := (s.srcWords a).2
      comp := s.bit F.GEAR_MASTER_COMP a, masterKind := s.masterKind a, staleMax := s.fld F.GEAR_MASTER_STALE_MAX a
      called := s.caravanCalls a }
  { x with posn := s.axisPosn a fence x }

/-- The positions a record delivers are kept for the next period. -/
def State.keepPosns (s : State) (axes : SMap AxisIn) : State :=
  axes.foldl (fun (s : State) e =>
    if s.axisHasFb e.1 then s.setAxis e.1 { s.axis e.1 with posn := keepState s.per.count e.2.posn (s.axis e.1).posn } else s) s

end Sys2Proof.Machine
end

