-- ==== Sys2Proof/Machine/Crypto.lean ====
section
/-!
DEFINITION. Digests and signatures (R418): SHA-256 as FIPS 180-4 defines it, and ECDSA over P-256 as FIPS 186-5 defines it. The spec
names the two standards; what they say stands here from general knowledge of them (PRESUMED). What the random bit generator
draws (R419) is free.
-/

namespace Sys2Proof.Machine

/-! ### SHA-256 (R418, FIPS 180-4) -/

/-- The round constants. -/
def shaK : List (BitVec 32) :=
  [0x428A2F98, 0x71374491, 0xB5C0FBCF, 0xE9B5DBA5, 0x3956C25B, 0x59F111F1, 0x923F82A4, 0xAB1C5ED5] ++
  [0xD807AA98, 0x12835B01, 0x243185BE, 0x550C7DC3, 0x72BE5D74, 0x80DEB1FE, 0x9BDC06A7, 0xC19BF174] ++
  [0xE49B69C1, 0xEFBE4786, 0x0FC19DC6, 0x240CA1CC, 0x2DE92C6F, 0x4A7484AA, 0x5CB0A9DC, 0x76F988DA] ++
  [0x983E5152, 0xA831C66D, 0xB00327C8, 0xBF597FC7, 0xC6E00BF3, 0xD5A79147, 0x06CA6351, 0x14292967] ++
  [0x27B70A85, 0x2E1B2138, 0x4D2C6DFC, 0x53380D13, 0x650A7354, 0x766A0ABB, 0x81C2C92E, 0x92722C85] ++
  [0xA2BFE8A1, 0xA81A664B, 0xC24B8B70, 0xC76C51A3, 0xD192E819, 0xD6990624, 0xF40E3585, 0x106AA070] ++
  [0x19A4C116, 0x1E376C08, 0x2748774C, 0x34B0BCB5, 0x391C0CB3, 0x4ED8AA4A, 0x5B9CCA4F, 0x682E6FF3] ++
  [0x748F82EE, 0x78A5636F, 0x84C87814, 0x8CC70208, 0x90BEFFFA, 0xA4506CEB, 0xBEF9A3F7, 0xC67178F2]

/-- The initial hash value. -/
def shaH0 : List (BitVec 32) :=
  [0x6A09E667, 0xBB67AE85, 0x3C6EF372, 0xA54FF53A, 0x510E527F, 0x9B05688C, 0x1F83D9AB, 0x5BE0CD19]

/-- The bytes with their padding: a 1 bit, zeros, and the length in bits as 64 bits, big-endian. -/
def shaPad (bs : List (BitVec 8)) : List (BitVec 8) :=
  let zeros := (119 - bs.length % 64) % 64
  bs ++ 0x80 :: (List.replicate zeros 0 ++ (List.range 8).map fun i => BitVec.ofNat 8 (8 * bs.length / 2 ^ (56 - 8 * i)))

/-- Big-endian words of a block. -/
def shaWords (b : List (BitVec 8)) : List (BitVec 32) :=
  (List.range 16).map fun i => b.getD (4 * i) 0 ++ b.getD (4 * i + 1) 0 ++ b.getD (4 * i + 2) 0 ++ b.getD (4 * i + 3) 0

/-- The message schedule: 48 more words, each from the sixteen before it; `ws` is held newest first. -/
def shaExtend : Nat → List (BitVec 32) → List (BitVec 32)
  | 0, ws => ws
  | k + 1, ws =>
    let x := ws.getD 14 0
    let y := ws.getD 1 0
    let s0 := x.rotateRight 7 ^^^ x.rotateRight 18 ^^^ x >>> 3
    let s1 := y.rotateRight 17 ^^^ y.rotateRight 19 ^^^ y >>> 10
    shaExtend k ((ws.getD 15 0 + s0 + ws.getD 6 0 + s1) :: ws)

/-- One round on the working variables a to h. -/
def shaRound (v : List (BitVec 32)) (kw : BitVec 32) : List (BitVec 32) :=
  match v with
  | [a, b, c, d, e, f, g, h] =>
    let t1 := h + (e.rotateRight 6 ^^^ e.rotateRight 11 ^^^ e.rotateRight 25) + ((e &&& f) ^^^ (~~~e &&& g)) + kw
    let t2 := (a.rotateRight 2 ^^^ a.rotateRight 13 ^^^ a.rotateRight 22) + ((a &&& b) ^^^ (a &&& c) ^^^ (b &&& c))
    [t1 + t2, a, b, c, d + t1, e, f, g]
  | v => v

/-- One block. -/
def shaBlock (h : List (BitVec 32)) (b : List (BitVec 8)) : List (BitVec 32) :=
  let ws := (shaExtend 48 (shaWords b).reverse).reverse
  List.zipWith (· + ·) h (((shaK.zip ws).map fun e => e.1 + e.2).foldl shaRound h)

/-- Every block in turn, `n` of them. -/
def shaBlocks : Nat → List (BitVec 32) → List (BitVec 8) → List (BitVec 32)
  | 0, h, _ => h
  | n + 1, h, bs => shaBlocks n (shaBlock h (bs.take 64)) (bs.drop 64)

/-- SHA-256 of bytes, as a number whose bits [7:0] are the digest's first byte. -/
def sha256 (bs : List (BitVec 8)) : Nat :=
  let p := shaPad bs
  ((shaBlocks (p.length / 64) shaH0 p).flatMap fun w => (List.range 4).map fun i => w.toNat / 2 ^ (24 - 8 * i) % 2 ^ 8).foldr
    (fun b n => b + 2 ^ 8 * n) 0

/-! ### P-256 (R418, FIPS 186-5) -/

/-- The field's prime. -/
def p256P : Nat := 2 ^ 256 - 2 ^ 224 + 2 ^ 192 + 2 ^ 96 - 1

/-- The order of the base point. -/
def p256N : Nat := 0xFFFFFFFF00000000FFFFFFFFFFFFFFFFBCE6FAADA7179E84F3B9CAC2FC632551

/-- The curve's coefficient b; the other coefficient is -3. -/
def p256B : Nat := 0x5AC635D8AA3A93E7B3EBBD55769886BC651D06B0CC53B0F63BCE3C3E27D2604B

/-- The base point. -/
def p256G : Nat × Nat :=
  (0x6B17D1F2E12C4247F8BCE6E563A440F277037D812DEB33A0F4A13945D898C296,
   0x4FE342E2FE1A7F9B8EE7EB4A7C0F9E162BCE33576B315ECECBB6406837BF51F5)

/-- a to the power e modulo m; `k` bounds the bits of e. -/
def modPow (m : Nat) : Nat → Nat → Nat → Nat
  | 0, _, _ => 1 % m
  | k + 1, a, e =>
    if e = 0 then 1 % m
    else
      let h := modPow m k (a * a % m) (e / 2)
      if e % 2 = 1 then a * h % m else h

/-- The inverse modulo a prime. -/
def modInv (m a : Nat) : Nat := modPow m 256 (a % m) (m - 2)

/-- A point of the curve; none is the point at infinity. -/
abbrev Point := Option (Nat × Nat)

/-- The sum of two points. -/
def pointAdd (s t : Point) : Point :=
  match s, t with
  | none, q => q
  | q, none => q
  | some (x1, y1), some (x2, y2) =>
    if x1 = x2 ∧ (y1 + y2) % p256P = 0 then none
    else
      let l := if x1 = x2 then (3 * x1 * x1 + (p256P - 3)) * modInv p256P (2 * y1) % p256P
        else (y2 + (p256P - y1)) * modInv p256P (x2 + (p256P - x1)) % p256P
      let x := (l * l + (p256P - x1) + (p256P - x2)) % p256P
      some (x, (l * (x1 + (p256P - x)) + (p256P - y1)) % p256P)

/-- A multiple of a point; `k` bounds the bits of the factor. -/
def pointMul : Nat → Nat → Point → Point
  | 0, _, _ => none
  | k + 1, n, q => if n = 0 then none else if n % 2 = 1 then pointAdd q (pointMul k (n / 2) (pointAdd q q)) else pointMul k (n / 2) (pointAdd q q)

/-- The 32 bytes of a half, big-endian, of 64 bytes held with the first byte in bits [7:0]. -/
def half64 (v : Nat) (second : Bool) : Nat :=
  (List.range 32).foldl (fun n i => n * 2 ^ 8 + v / 2 ^ (8 * (i + if second then 32 else 0)) % 2 ^ 8) 0

/-- Two 32-byte numbers, big-endian, as 64 bytes with the first byte in bits [7:0]. -/
def pair64 (a b : Nat) : Nat :=
  (List.range 64).foldr (fun i n => n * 2 ^ 8 + (if i < 32 then a / 2 ^ (8 * (31 - i)) else b / 2 ^ (8 * (63 - i))) % 2 ^ 8) 0

/-- A digest as the integer that is signed: its bytes big-endian. -/
def hashInt (digest : Nat) : Nat := half64 digest false

/-- The point lies on the curve with coordinates in the field. -/
def onCurve (q : Nat × Nat) : Bool :=
  decide (q.1 < p256P ∧ q.2 < p256P) && q.2 * q.2 % p256P == (q.1 * q.1 * q.1 + (p256P - 3) * q.1 + p256B) % p256P

/-- ECDSA verification: public key, digest and signature, 64, 32 and 64 bytes (R418). -/
def ecdsaVerify (key digest sig : Nat) : Bool :=
  let q := (half64 key false, half64 key true)
  let r := half64 sig false
  let s := half64 sig true
  let w := modInv p256N s
  onCurve q && decide (0 < r ∧ r < p256N ∧ 0 < s ∧ s < p256N) &&
    (match pointAdd (pointMul 256 (hashInt digest * w % p256N) (some p256G)) (pointMul 256 (r * w % p256N) (some q)) with
     | none => false
     | some x => x.1 % p256N == r)

/-- A number from 1 to the order less 1 that the random bit generator draws at a call (R419). -/
def randomScalar (call : Nat) : Nat := 1 + Config.randomBits call % (p256N - 1)

/-- An ECDSA signature by a private key of a digest, with the number drawn at a call of the random bit generator. -/
def ecdsaSign (priv digest call : Nat) : Nat :=
  let k := randomScalar call
  let r := ((pointMul 256 k (some p256G)).getD (0, 0)).1 % p256N
  pair64 r (modInv p256N k * (hashInt digest + r * priv) % p256N)

/-- The public key of a private one, as SEC.ID holds it. -/
def publicKey (priv : Nat) : Nat :=
  let q := (pointMul 256 priv (some p256G)).getD (0, 0)
  pair64 q.1 q.2

/-- An identity key pair drawn at a call of the random bit generator: private and public key (R419). -/
def newKeyPair (call : Nat) : Nat × Nat := (randomScalar call, publicKey (randomScalar call))

end Sys2Proof.Machine
end

