-- ==== Sys2Proof/Machine/SurveyBytes.lean ====
section
/-!
DEFINITION. Check values and bytes: CRC-32 and CRC-64 (R337, R403), cairn slots (Table 11.2), survey records (R400 to R402),
epoch headers, full cairns and Bamgon files (R413), and the reading of an uploaded file (R414).
-/

namespace Sys2Proof.Machine

/-! ### Check values -/

/-- One byte of CRC-32 as IEEE 802.3 uses it (R337): least significant bit first, polynomial 0x04C1_1DB7. -/
def crc32Byte (c : Nat) (b : Byte) : Nat :=
  (List.range 8).foldl (fun c _ => if c % 2 = 1 then c / 2 ^^^ 0xEDB88320 else c / 2) (c ^^^ b.toNat)

/-- CRC-32 of bytes (R337). -/
def crc32 (bs : List Byte) : Nat := bs.foldl crc32Byte 0xFFFFFFFF ^^^ 0xFFFFFFFF

/-- One byte of CRC-64 of R403: polynomial 0x42F0_E1EB_A9EA_3693, most significant bit first. -/
def crc64Byte (c : Nat) (b : Byte) : Nat :=
  (List.range 8).foldl
    (fun c _ => if c.testBit 63 then (2 * c % 2 ^ 64) ^^^ 0x42F0E1EBA9EA3693 else 2 * c % 2 ^ 64) (c ^^^ b.toNat * 2 ^ 56)

/-- CRC-64 of bytes, continued from `c` (R403). -/
def crc64 (c : Nat) (bs : List Byte) : Nat := bs.foldl crc64Byte c

/-- The 8 bytes a posted word adds to a digest (R403). -/
def postBytes : Post → List Byte
  | .output port w => bytesOf 2 port ++ bytesOf 3 w.toNat ++ bytesOf 3 0
  | .delta e =>
    bytesOf 2 (e.addr % 2 ^ 14 + (if e.mem = .y then 2 ^ 14 else 0)) ++ bytesOf 3 e.word.toNat ++ bytesOf 2 0 ++ bytesOf 1 1
  | .endMark n f d => bytesOf 4 n ++ bytesOf 1 f.toNat ++ bytesOf 2 d ++ bytesOf 1 2

/-- Pad bytes with 0 to a multiple of `n`. -/
def padTo (n : Nat) (bs : List Byte) : List Byte := bs ++ List.replicate ((n - bs.length % n) % n) 0

/-! ### Cairn slots (Table 11.2) -/

/-- A lane pair's line in the lane table, with the index of its first entry. -/
def cairnLane (c : CairnSt) (l : Nat) : Nat :=
  match c.lanes.find? (·.lane == l) with
  | none => 0
  | some x =>
    x.count % 2 ^ 10 + 2 ^ 10 + x.sflag.toNat * 2 ^ 11
      + (c.entries.findIdx? (·.lane == l)).getD 0 % 2 ^ 12 * 2 ^ 12 + x.pos * 2 ^ 24

/-- Bytes 0x0000 to 0x0080 + 5n − 1 of a slot, entries of one lane pair together (R337). -/
def cairnBytes (c : CairnSt) : List Byte :=
  let es := (List.range 12).flatMap fun l => c.entries.filter (·.lane == l)
  let c := { c with entries := es }
  bytesOf 4 c.seq ++ bytesOf 1 c.format ++ bytesOf 1 (c.unitB.toNat + c.bankB.toNat * 2) ++ bytesOf 1 c.phase ++ bytesOf 1 c.mapGen
    ++ bytesOf 8 c.mtime ++ bytesOf 4 c.prog ++ bytesOf 12 0 ++ (List.range 12).flatMap (fun l => bytesOf 4 (cairnLane c l))
    ++ bytesOf 48 0
    ++ es.flatMap fun e =>
        bytesOf 2 (e.entry.addr % 2 ^ 14 + (if e.entry.mem = .y then 2 ^ 14 else 0)) ++ bytesOf 3 e.entry.word.toNat

/-! ### Records (R400 to R402) -/

/-- The 64 bytes of a descriptor (R77). -/
def descNat (d : Desc) : Nat :=
  d.opcode % 2 ^ 8 + d.applyAtEn.toNat * 2 ^ 8 + d.irqNow.toNat * 2 ^ 9 + d.chain.toNat * 2 ^ 10 + d.indirect.toNat * 2 ^ 11
    + d.last.toNat * 2 ^ 12 + d.objId % 2 ^ 16 * 2 ^ 16 + d.tag % 2 ^ 32 * 2 ^ 32 + d.applyAt % 2 ^ 64 * 2 ^ 64
    + d.hostAddr % 2 ^ 64 * 2 ^ 128 + d.offset % 2 ^ 16 * 2 ^ 192 + d.length % 2 ^ 16 * 2 ^ 208 + d.param % 2 ^ 32 * 2 ^ 224
    + d.inline % 2 ^ 256 * 2 ^ 256

/-- The descriptor its 64 bytes spell (R77). -/
def descOf (v : Nat) : Desc :=
  { opcode := getBits v 0 8, applyAtEn := v.testBit 8, irqNow := v.testBit 9, chain := v.testBit 10, indirect := v.testBit 11
    last := v.testBit 12, objId := getBits v 16 16, tag := getBits v 32 32, applyAt := getBits v 64 64
    hostAddr := getBits v 128 64, offset := getBits v 192 16, length := getBits v 208 16, param := getBits v 224 32
    inline := getBits v 256 256 }

/-- Bytes of a command entry (R401). -/
def cmdBytes (c : CmdEntry) : List Byte :=
  bytesOf 1 c.ring ++ bytesOf 1 c.order ++ bytesOf 2 (c.index % 2 ^ 12 + c.phase.toNat * 2 ^ 12) ++ bytesOf 4 c.dlen
    ++ bytesOf 64 (descNat c.desc) ++ padTo 8 (bytesOf c.dlen c.data)

/-- The item section (R402): summary mask, word masks and changed words. -/
def itemBytes (m : Nat) (changes : List (Nat × Word24)) : List Byte :=
  let nb := (m + 31) / 32
  let mask := fun b => (changes.filter fun e => e.1 / 32 == b).foldl (fun v e => v + 2 ^ (e.1 % 32)) 0
  let blocks := (List.range nb).filter fun b => mask b != 0
  padTo 4 (bytesOf ((nb + 7) / 8) (blocks.foldl (fun v b => v + 2 ^ b) 0)) ++ blocks.flatMap (fun b => bytesOf 4 (mask b))
    ++ changes.flatMap fun e => bytesOf 3 e.2.toNat

/-- Bytes of a record (Table 14.2, R400). -/
def recordBytes (r : SurvRec) : List Byte :=
  let blocks := ((r.changes.map fun e => e.1 / 32).foldl (fun (l : List Nat) b => if l.contains b then l else b :: l) []).length
  let head := fun (len : Nat) =>
    bytesOf 2 len ++ bytesOf 1 (r.swapHere.toNat + r.takeHere.toNat * 2 + r.unitB.toNat * 4 + r.bankB.toNat * 8)
      ++ bytesOf 1 (r.mode % 8 + r.phase * 16) ++ bytesOf 4 r.seq ++ bytesOf 4 r.epoch ++ bytesOf 8 r.mtime ++ bytesOf 4 r.prog
      ++ bytesOf 2 (r.late % 2 ^ 12) ++ bytesOf 1 r.mapGen ++ bytesOf 1 r.commands.length ++ bytesOf 2 r.changes.length
      ++ bytesOf 2 blocks ++ bytesOf 16 (r.fence % 2 ^ 71) ++ bytesOf 16 0
      ++ (List.range 10).flatMap (fun p => bytesOf 8 (if r.isSealed then r.digest.getD p 0 else 0))
      ++ bytesOf 1 r.isSealed.toNat ++ bytesOf 15 0
  let body := r.commands.flatMap cmdBytes ++ itemBytes r.m r.changes
  padTo 32 (head ((160 + body.length + 31) / 32) ++ body)

/-! ### Sections and files (R413) -/

/-- Payload of an EPOCH section (Table 14.4). -/
def epochBytes (h : EpochHdr) : List Byte :=
  bytesOf 4 h.prog ++ bytesOf 32 h.image ++ bytesOf 8 h.period ++ bytesOf 4 h.map.length
    ++ h.map.flatMap (fun e => bytesOf 2 e.1 ++ bytesOf 1 e.2 ++ bytesOf 1 0)
    ++ h.plan.flatMap (fun t =>
      bytesOf 2 t.pos ++ bytesOf 2 t.kind ++ bytesOf 2 t.axis ++ bytesOf 2 t.phase ++ bytesOf 2 t.xBase ++ bytesOf 2 t.yBase
        ++ bytesOf 2 t.inBase ++ bytesOf 2 t.coefBase ++ t.block.flatMap (bytesOf 2 ·))
    ++ h.config.flatMap fun c => bytesOf 2 c.id ++ bytesOf 2 c.len ++ bytesOf c.len c.value

/-- Bytes of the configuration snapshot, which the attestation digest covers (Table 15.3). -/
def snapshotBytes (c : List SnapObj) : List Byte := c.flatMap fun c => bytesOf 2 c.id ++ bytesOf 2 c.len ++ bytesOf c.len c.value

/-- Payload of a FULL_CAIRN section (Table 14.4). -/
def fullCairnBytes (c : FullCairn) : List Byte :=
  let ws := fun (l : List Word24) => l.flatMap fun w => bytesOf 3 w.toNat
  bytesOf 4 c.seq ++ bytesOf 4 c.epoch ++ bytesOf 1 (c.unitB.toNat + c.bankB.toNat * 2) ++ bytesOf 1 c.mapGen ++ bytesOf 2 0
    ++ bytesOf 4 c.prog ++ bytesOf 8 c.mtime ++ padTo 4 (ws c.words)
    ++ ws ((List.range 4096).map fun i => c.bankA.get i 0) ++ ws ((List.range 4096).map fun i => c.bankBw.get i 0)
    ++ c.regions.flatMap fun r => bytesOf 2 r.1.length ++ bytesOf 2 r.2.length ++ ws r.1 ++ ws r.2

/-- A section: its header and its padded payload. -/
def sectionBytes (type : Nat) (payload : List Byte) : List Byte :=
  bytesOf 2 type ++ bytesOf 2 0 ++ bytesOf 4 payload.length ++ bytesOf 4 (crc32 payload) ++ bytesOf 4 0 ++ padTo 32 payload

/-- The file header. -/
def fileHeader (nsect dsn epoch first last : Nat) : List Byte :=
  let h := bytesOf 4 0x4E474D42 ++ bytesOf 2 1 ++ bytesOf 2 nsect ++ bytesOf 8 dsn ++ bytesOf 4 epoch ++ bytesOf 4 first ++ bytesOf 4 last
  h ++ bytesOf 4 (crc32 h)

/-! ### Reading a file (R413, R414) -/

/-- 24-bit words from `off`. -/
def rdWords (bs : List Byte) (off n : Nat) : List Word24 := (List.range n).map fun i => BitVec.ofNat 24 (rdNat bs (off + 3 * i) 3)

/-- The sections of a file: type and payload; none where a check fails. -/
def readSections : List Byte → Nat → Option (List (Nat × List Byte))
  | _, 0 => some []
  | bs, k + 1 =>
    let len := rdNat bs 4 4
    let pay := (bs.drop 16).take len
    if bs.length < 16 + len ∨ rdNat bs 8 4 ≠ crc32 pay then none
    else (readSections (bs.drop (16 + (len + 31) / 32 * 32)) k).map ((rdNat bs 0 2, pay) :: ·)

/-- Configuration snapshot at the end of an EPOCH payload. -/
def readConfig : List Byte → Nat → List SnapObj
  | _, 0 => []
  | bs, k + 1 =>
    if bs.length < 4 then []
    else
      let len := rdNat bs 2 2
      { id := rdNat bs 0 2, len := len, value := rdNat bs 4 len } :: readConfig (bs.drop (4 + len)) k

/-- Whether a configuration object identifier stands at the head of a payload rather than a plan task: the plan ends where the
snapshot, whose first object is SYS.PERIOD with 8 bytes, begins. -/
def atConfig (bs : List Byte) : Bool := rdNat bs 0 2 == 1 && rdNat bs 2 2 == 8

/-- Plan tasks, `inw` giving INW by kind, then the configuration snapshot. -/
def readPlan (inw : Nat → Nat) : List Byte → Nat → List PlanTask × List SnapObj
  | _, 0 => ([], [])
  | bs, k + 1 =>
    if atConfig bs ∨ bs.length < 16 then ([], readConfig bs 4096)
    else
      let r := fun i => rdNat bs (2 * i) 2
      let t : PlanTask :=
        { pos := r 0, kind := r 1, axis := r 2, phase := r 3, xBase := r 4, yBase := r 5, inBase := r 6, coefBase := r 7
          block := (List.range (inw (r 1))).map fun j => rdNat bs (16 + 2 * j) 2 }
      let rest := readPlan inw (bs.drop (16 + 2 * inw (r 1))) k
      (t :: rest.1, rest.2)

/-- An EPOCH payload. -/
def readEpoch (inw : Nat → Nat) (epoch : Nat) (bs : List Byte) : EpochHdr :=
  let m := rdNat bs 44 4
  let p := readPlan inw (bs.drop (48 + 4 * m)) 4096
  { epoch := epoch, prog := rdNat bs 0 4, image := rdNat bs 4 32, period := rdNat bs 36 8
    map := (List.range m).map fun i => (rdNat bs (48 + 4 * i) 2, rdNat bs (50 + 4 * i) 1), plan := p.1, config := p.2 }

/-- The regions of a FULL_CAIRN payload. -/
def readRegions : List Byte → Nat → List (List Word24 × List Word24)
  | _, 0 => []
  | bs, k + 1 =>
    let nx := rdNat bs 0 2
    let ny := rdNat bs 2 2
    (rdWords bs 4 nx, rdWords bs (4 + 3 * nx) ny) :: readRegions (bs.drop (4 + 3 * nx + 3 * ny)) k

/-- A FULL_CAIRN payload for a map of `m` words. -/
def readFullCairn (m : Nat) (bs : List Byte) : FullCairn :=
  let o := 24 + (3 * m + 3) / 4 * 4
  let bank := fun (off : Nat) => (rdWords bs off 4096).zipIdx.foldl (fun (b : SMap Word24) e => b.set e.2 e.1 0) []
  { seq := rdNat bs 0 4, epoch := rdNat bs 4 4, unitB := (rdNat bs 8 1).testBit 0, bankB := (rdNat bs 8 1).testBit 1
    mapGen := rdNat bs 9 1, prog := rdNat bs 12 4, mtime := rdNat bs 16 8, words := rdWords bs 24 m, bankA := bank o
    bankBw := bank (o + 12288), regions := readRegions (bs.drop (o + 24576)) 10 }

/-- The command entries of a record. -/
def readCmds : List Byte → Nat → List CmdEntry × List Byte
  | bs, 0 => ([], bs)
  | bs, k + 1 =>
    let dlen := rdNat bs 4 4
    let c : CmdEntry :=
      { ring := rdNat bs 0 1 % 16, order := rdNat bs 1 1, index := rdNat bs 2 2 % 2 ^ 12, phase := (rdNat bs 2 2).testBit 12
        dlen := dlen, desc := descOf (rdNat bs 8 64), data := rdNat bs 72 dlen }
    let r := readCmds (bs.drop (72 + (dlen + 7) / 8 * 8)) k
    (c :: r.1, r.2)

/-- A record for a map of `m` words. -/
def readRecord (m : Nat) (bs : List Byte) : SurvRec :=
  let r := fun off n => rdNat bs off n
  let c := readCmds (bs.drop 160) (r 27 1)
  let nb := (m + 31) / 32
  let sumLen := ((nb + 7) / 8 + 3) / 4 * 4
  let blocks := (List.range nb).filter fun b => (rdNat c.2 0 sumLen).testBit b
  let idx := blocks.zipIdx.flatMap fun b =>
    ((List.range 32).filter fun i => (rdNat c.2 (sumLen + 4 * b.2) 4).testBit i).map fun i => 32 * b.1 + i
  let base := sumLen + 4 * blocks.length
  { swapHere := (r 2 1).testBit 0, takeHere := (r 2 1).testBit 1, unitB := (r 2 1).testBit 2, bankB := (r 2 1).testBit 3
    mode := r 3 1 % 8, phase := r 3 1 / 16, seq := r 4 4, epoch := r 8 4, mtime := r 12 8, prog := r 20 4, late := r 24 2 % 2 ^ 12
    mapGen := r 26 1, commands := c.1, m := m
    changes := idx.zipIdx.map fun e => (e.1, BitVec.ofNat 24 (rdNat c.2 (base + 3 * e.2) 3))
    fence := r 32 16 % 2 ^ 71, digest := (List.range 10).map fun p => r (64 + 8 * p) 8, isSealed := (r 144 1).testBit 0 }

/-- The records of a RECORDS payload. -/
def readRecords (m : Nat) : List Byte → Nat → List SurvRec
  | _, 0 => []
  | bs, k + 1 =>
    let len := 32 * rdNat bs 0 2
    if bs.length < 160 ∨ len < 160 then [] else readRecord m bs :: readRecords m (bs.drop len) k

/-- Records carry consecutive SEQ from `seq` + 1 in one epoch. -/
def seqRun (epoch : Nat) : Nat → List SurvRec → Bool
  | _, [] => true
  | seq, r :: rs => r.seq == seq + 1 && r.epoch == epoch && seqRun epoch (seq + 1) rs

/-- Read a Bamgon file; none when it is not valid (R413). -/
def readFile (inw : Nat → Nat) (bs : List Byte) : Option (EpochHdr × FullCairn × List SurvRec) :=
  let epoch := rdNat bs 16 4
  let first := rdNat bs 20 4
  let last := rdNat bs 24 4
  if rdNat bs 0 4 ≠ 0x4E474D42 ∨ rdNat bs 4 2 ≠ 1 ∨ rdNat bs 28 4 ≠ crc32 (bs.take 28) then none
  else
    match readSections (bs.drop 32) (rdNat bs 6 2) with
    | none => none
    | some ss =>
      match ss.find? (·.1 == 1), ss.find? (·.1 == 2), ss.find? (·.1 == 3) with
      | some e, some f, some r =>
        let h := readEpoch inw epoch e.2
        let c := readFullCairn h.map.length f.2
        let rs := readRecords h.map.length r.2 (r.2.length / 160 + 1)
        if c.seq = first ∧ rs.length = last - first ∧ seqRun epoch first rs ∧ (rs.head?.all (·.prog == c.prog)) then
          some (h, c, rs)
        else none
      | _, _, _ => none

end Sys2Proof.Machine
end

