-- ==== Sys2Proof/Machine/Survey.lean ====
section
/-!
DEFINITION. The survey head (R398 to R412): epochs, the record ring, freezing, full cairns, the black box and export; and the
loading of a replay source (R414).
-/

namespace Sys2Proof.Machine

/-- Motion-time ticks of one millisecond. -/
abbrev msTicks : Nat := 400000

/-! ### Epochs and the record ring (R398 to R402) -/

/-- The record ring's size in bytes: 732 MiB (Table 14.1). -/
abbrev ringCapacity : Nat := 767557632

/-- EPOCH increments and a header opens the epoch (R398); the survey area takes no header while frozen (R406). -/
def State.openEpoch (s : State) : State :=
  let v := s.surv
  let h : EpochHdr :=
    { epoch := v.epoch + 1, prog := (s.unitImg s.activeUnit).prog, image := (s.unitImg s.activeUnit).digest
      period := s.obj .sysPeriod 0 0, map := v.map, plan := v.plan, config := s.snapshot }
  { s with surv := { v with epoch := v.epoch + 1, words := [], headers := if v.state = 2 then v.headers else (h :: v.headers).take 2 } }

/-- On a departure from CONFIGURE the survey map and the dispatch plan are fixed (R402). -/
def State.fixMap (s : State) : State :=
  let img := s.unitImg s.activeUnit
  let m := s.surveyMap img
  { s with surv := { s.surv with map := m, plan := s.dispatchPlan img m } }

/-- Words that differ from the record before it; the first record of an epoch marks every word (R402). -/
def changedWords (old new : List Word24) : List (Nat × Word24) :=
  (new.zipIdx.filter fun e => old[e.2]? != some e.1).map fun e => (e.2, e.1)

/-- Drop the oldest records until the ring fits (R399). -/
def trimRing : List SurvRec → Nat → List SurvRec × Nat
  | [], _ => ([], 0)
  | r :: rs, n => if n ≤ ringCapacity then (r :: rs, n) else trimRing rs (n - (recordBytes r).length)

/-- Write a record into the head ring and, while the survey is not frozen, into the record ring; the record POST ms after the
trigger record freezes the survey (R398, R399, R406). -/
def State.writeRecord (s : State) (h : HeadRec) : State :=
  let s1 := { s with red := { s.red with head := (h :: s.red.head).take 16 }, surv := { s.surv with words := h.words } }
  if !s.surveyed || s.surv.state == 2 then s1
  else
    let t := trimRing (s1.surv.ring ++ [h.body]) (s1.surv.ringBytes + (recordBytes h.body).length)
    let s2 := { s1 with surv := { s1.surv with ring := t.1, ringBytes := t.2, lastSeq := h.body.seq } }
    if s2.surv.state = 1 ∧ s2.surv.trigTime + s.postTicks ≤ h.body.mtime then s2.frozenAt h.body.seq else s2

/-- The outcome of a period enters its record at the seal (R400, R403). -/
def outcome (count : Nat) (digest : List Nat) (h : HeadRec) : HeadRec :=
  if h.count = count then { h with body := { h.body with digest := digest, isSealed := true } } else h

def State.sealRecord (s : State) (count epoch seq : Nat) (digest : List Nat) : State :=
  let s1 := { s with red := { s.red with head := s.red.head.map (outcome count digest) } }
  if s.surv.state = 2 then s1
  else { s1 with surv := { s1.surv with ring := s1.surv.ring.map fun r =>
    if r.seq = seq ∧ r.epoch = epoch then { r with digest := digest, isSealed := true } else r } }

/-- The record of a period in the head ring. -/
def State.headOf (s : State) (count : Nat) : Option HeadRec := s.red.head.find? (·.count == count)

/-! ### State regions of a position (R126, R340) -/

/-- Tasks placed on a position. -/
def State.tasksAt (s : State) (pos : Nat) : List TaskAlloc := s.red.alloc.filter (·.pos == pos)

/-- Words of the X and Y state regions of a position. -/
def State.xTop (s : State) (pos : Nat) : Nat := (s.tasksAt pos).foldl (fun m t => max m (t.xBase + t.xLen)) 0
def State.yTop (s : State) (pos : Nat) : Nat := (s.tasksAt pos).foldl (fun m t => max m (t.yBase + t.yLen)) 0

/-! ### Full cairns (R404, R405) -/

/-- A build begins at a boundary, FC_INT ms after the one before; one older than 1,000 periods is given up (R404, R405). -/
def State.buildBoundary (s : State) : State :=
  let stale := s.surv.build.any fun b => decide (b.start + 1000 < s.per.count)
  let s1 := if stale then s.abandonBuild else s
  let due := match s1.surv.lastBuild with
    | none => true
    | some t => decide (t + clampNat (s.fld F.SURV_CFG_FC_INT) 1 1000 * msTicks ≤ s.per.t0)
  let busy := s.red.takeover.isSome || s.red.swap.isSome || s.red.migrate.isSome
  if s1.surv.build.isNone && due && s.loopMode && !busy then
    { s1 with surv := { s1.surv with build := some { start := s.per.count }, lastBuild := some s.per.t0 } }
  else s1

/-- Region words of a memory. -/
def regionWords (m : SMap Word24) (n : Nat) : List Word24 := (List.range n).map fun i => m.get i 0

/-- A cairn's entries for a position applied to the copy read (R404). -/
def FcPos.apply (p : FcPos) (xTop yTop : Nat) (c : CairnSt) : FcPos :=
  (c.entries.filter (·.pos == p.pos)).foldl (fun p e =>
    if e.entry.mem = .x then (if e.entry.addr < xTop then { p with x := p.x.set e.entry.addr e.entry.word 0 } else p)
    else if e.entry.addr < yTop then { p with y := p.y.set e.entry.addr e.entry.word 0 } else p) p

/-- The mirror's words of a region. -/
def mirrorKey (pos : Nat) (y : Bool) (addr : Nat) : Nat := (pos * 2 + y.toNat) * 2 ^ 14 + addr

/-- Put a full cairn into the mirror (R404, R339). -/
def State.mirrorFrom (s : State) (c : FullCairn) : SMap Word24 :=
  c.regions.zipIdx.foldl (fun m e =>
    let put := fun (y : Bool) (m : SMap Word24) (w : Word24 × Nat) => m.set (mirrorKey e.2 y w.2) w.1 0
    e.1.2.zipIdx.foldl (put true) (e.1.1.zipIdx.foldl (put false) m)) s.red.mirror

/-- Keep a sealed full cairn in the slots of Table 14.1; the recent slots are not overwritten while a copy is in progress (R410). -/
def SurvSt.keepCairn (v : SurvSt) (c : FullCairn) : SurvSt :=
  if v.state = 2 then v
  else
    let sec := c.mtime / 400000000
    { v with
      recent := if v.bbCopy.isSome && v.recent.length == 16 then v.recent else (c :: v.recent).take 16
      seconds := if v.seconds.any (·.1 == sec) then v.seconds else ((sec, c) :: v.seconds).take 16 }

/-- The states of the standard program's tasks after period `q`, as a cairn's words hold them. -/
def State.axesAfter (s : State) (q : Nat) : SMap AxisSt :=
  s.motion.axes.map fun e =>
    let o := (e.2.outer.find? fun (r : Nat × OuterSt) => decide (r.1 ≤ q)).toList.map fun (r : Nat × OuterSt) => (0, r.2)
    let c := (e.2.cur.find? fun (r : Nat × CurSt) => decide (r.1 ≤ q)).toList.map fun (r : Nat × CurSt) => (0, r.2)
    let p := (e.2.posn.find? fun (r : Nat × PosSt) => decide (r.1 ≤ q)).toList.map fun (r : Nat × PosSt) => (0, r.2)
    (e.1, { posn := p, outer := o, cur := c })

/-- Seal the build when every position has been read and the cairns up to the last read are applied (R404). -/
def State.sealBuild (s : State) : State :=
  match s.surv.build with
  | none => s
  | some b =>
    let need := (List.range 10).filter fun p => !(s.tasksAt p).isEmpty
    let q := s.red.mirrorCount
    if need.all (fun p => b.read.any fun r => r.pos == p && decide (r.at_ ≤ q)) then
      match s.headOf q with
      | none => s
      | some h =>
        let at_ := fun (p : Nat) => b.read.find? (·.pos == p)
        let region := fun (p : Nat) => match at_ p with
          | none => ([], [])
          | some r => (regionWords r.x (s.xTop p), regionWords r.y (s.yTop p))
        let bank := fun (o : Obj) => (List.range 4096).foldl (fun (m : SMap Word24) i => m.set i (BitVec.ofNat 24 (s.obj o 0 i)) 0) []
        let c : FullCairn :=
          { seq := h.body.seq, epoch := h.body.epoch, unitB := h.body.unitB, bankB := h.body.bankB, mapGen := h.body.mapGen
            prog := h.body.prog, mtime := h.body.mtime, words := h.words, bankA := bank .engCoefA, bankBw := bank .engCoefB
            regions := (List.range 10).map region, axes := s.axesAfter q }
        ({ s with
          surv := { s.surv.keepCairn c with build := none, fcSeq := h.body.seq }
          red := { s.red with mirror := s.mirrorFrom c, mirrorSeq := h.body.seq, mirrorOk := true } }).noteRedundancy
    else s

/-- FULL_CAIRN_READ: the hub reads a position's regions from both copies of its idle lane pair, when the read ends before the
next boundary tick (R404). -/
def State.readFull (s : State) (pos : Nat) : State :=
  match s.surv.build with
  | none => s
  | some b =>
    let u := s.activeUnit
    let l := s.laneOf u pos
    let p := s.pair u l
    let n := s.xTop pos + s.yTop pos
    let q := s.per.count
    if 12 ≤ l ∨ (s.tasksAt pos).isEmpty ∨ !p.periods.isEmpty ∨ p.done < q ∨ b.read.any (·.pos == pos)
        ∨ s.per.next ≤ s.now + 200 + (4 * n + 4) / 5 then s
    else
      let w := s.lane u l 0
      let v := s.lane u l 1
      let same := fun (top : Nat) (a b : SMap Word24) => (List.range top).all fun i => a.get i 0 == b.get i 0
      if same (s.xTop pos) w.x v.x && same (s.yTop pos) w.y v.y then
        ({ s with surv := { s.surv with build := some { b with read := b.read ++ ([⟨pos, q, w.x, w.y⟩] : List FcPos) } } }).sealBuild
      else (s.abandonBuild).raise K.LANE_MISMATCH (12 * u + l) (u + l * 2 ^ 8) 1 1

/-! ### The black box (R409 to R411) -/

def State.bbArea (s : State) (a : Nat) : BbArea := s.surv.bb.get a {}

def State.setBb (s : State) (a : Nat) (v : BbArea) : State := { s with surv := { s.surv with bb := s.surv.bb.set a v {} } }

/-- Bytes of a marker (Table 14.3). -/
def bbMarker (b : BbArea) : List Byte :=
  bytesOf 1 b.state ++ bytesOf 3 0 ++ bytesOf 4 b.gen ++ bytesOf 4 b.epoch ++ bytesOf 4 b.first ++ bytesOf 4 b.last
    ++ bytesOf 8 b.trigMtime ++ bytesOf 4 b.len ++ bytesOf 4 b.crc ++ bytesOf 28 0

/-- The records of an epoch from after `first` up to `last`. -/
def recordRange (epoch first last : Nat) (rs : List SurvRec) : List SurvRec :=
  rs.filter fun r => r.epoch == epoch && decide (first < r.seq ∧ r.seq ≤ last)

/-- A black-box body: EPOCH, FULL_CAIRN and RECORDS sections; none when a record is missing (R409). -/
def bodyOf (h : EpochHdr) (c : FullCairn) (rs : List SurvRec) (last : Nat) : Option (List Byte) :=
  let q := recordRange c.epoch c.seq last rs
  if q.length = last - c.seq then
    some (sectionBytes 1 (epochBytes h) ++ sectionBytes 2 (fullCairnBytes c) ++ sectionBytes 3 (q.flatMap recordBytes))
  else none

/-- The anchor of a copy and its body (R410): the greatest SEQ at or before TRIG_SEQ − N, else the earliest later one, whose
marker and body fit in 6 MiB. -/
def State.anchor (s : State) : Option (FullCairn × List Byte) :=
  let v := s.surv
  match v.headers.find? (·.epoch == v.trigEpoch) with
  | none => none
  | some h =>
    let n := (clampNat (s.fld F.SURV_CFG_BB_SPAN) 1 1000 * msTicks + max 1 (s.fld F.SYS_PERIOD_TC) - 1) / max 1 (s.fld F.SYS_PERIOD_TC)
    let cs := v.recent.filter fun c => c.epoch == v.trigEpoch && decide (c.seq ≤ v.trigSeq)
    let fit := fun (c : FullCairn) => match bodyOf h c v.ring v.trigSeq with
      | some b => if 64 + b.length ≤ 6 * 2 ^ 20 then some (c, b) else none
      | none => none
    match (cs.find? fun c => decide (c.seq + n ≤ v.trigSeq)).bind fit with
    | some r => some r
    | none => (cs.filter fun c => decide (v.trigSeq < c.seq + n)).reverse.findSome? fit

/-- The area a copy writes: the one that does not hold the complete copy of higher GEN (R410). -/
def State.bbTarget (s : State) : Nat :=
  let a := s.bbArea 0
  let b := s.bbArea 1
  if a.state = 2 ∧ (b.state ≠ 2 ∨ b.gen ≤ a.gen) then 1 else 0

/-- A copy is due, and the period of its trigger record has sealed (R410). -/
def State.bbReady (s : State) : Bool :=
  s.surv.bbDue && s.red.head.any fun h => h.body.seq == s.surv.trigSeq && h.body.epoch == s.surv.trigEpoch && h.body.isSealed

/-- The copy numbers of the black box are used up. -/
def State.bbWorn (s : State) : Bool := (s.bbArea 0).gen.max (s.bbArea 1).gen == 2 ^ 32 - 1

/-- A copy starts after the seal of the trigger record's period (R410). -/
def State.startBb (s : State) : State :=
  let s1 := { s with surv := { s.surv with bbDue := false } }
  if s.surv.bbCopy.isSome then s1
  else
    match s.anchor with
    | none => { s1 with surv := { s1.surv with bbSkip := true } }
    | some (c, body) =>
      let a := s.bbTarget
      let gen := max (s.bbArea 0).gen (s.bbArea 1).gen + 1
      let s2 := s1.setBb a { state := 1, gen := gen, epoch := c.epoch, first := c.seq, last := s.surv.trigSeq
                             trigMtime := s.surv.trigTime }
      { s2 with surv := { s2.surv with bbSkip := false, bbCopy := some (a, body) } }

/-- BB_COPY_DONE: body, LEN and CRC, and last STATE (R410). -/
def State.finishBb (s : State) : State :=
  match s.surv.bbCopy with
  | none => s
  | some (a, body) =>
    let s1 := s.setBb a { s.bbArea a with state := 2, len := body.length, crc := crc32 body, body := body }
    { s1 with surv := { s1.surv with bbCopy := none } }

/-- At boot a cut-off copy is emptied and BB_CUT set; a complete area whose CRC fails reads empty (R411). -/
def State.checkBb (s : State) : State :=
  s.forRange 2 fun s a =>
    let b := s.bbArea a
    if b.state = 1 then (s.setBb a { b with state := 0 }).setBit F.SYS_BOOT_BB_CUT true
    else if b.state = 2 ∧ crc32 b.body ≠ b.crc then s.setBb a { b with state := 0 }
    else s

/-! ### Attestation statement (Table 15.3), which exports carry too -/

/-- The 160 signed bytes of a statement. -/
def State.statement (s : State) (nonce : Nat) : List Byte :=
  let img := s.unitImg s.activeUnit
  let cfg := sha256 (snapshotBytes s.snapshot)
  let slot := s.boot.running.getD 0
  bytesOf 2 1 ++ bytesOf 1 (s.fld F.SYS_MODE_MODE)
    ++ bytesOf 1 (slot + s.sec.unattested.toNat * 2 + (decide (cfg ≠ s.sec.configAt7)).toNat * 4)
    ++ bytesOf 4 img.prog ++ bytesOf 8 Config.dsn ++ bytesOf 32 nonce ++ bytesOf 32 img.digest ++ bytesOf 32 cfg
    ++ bytesOf 8 (if s.per.running then s.per.t0 else s.now) ++ bytesOf 4 s.surv.epoch ++ bytesOf 4 s.per.seq
    ++ bytesOf 4 (s.boot.slots.get slot {}).gen ++ bytesOf 2 (s.fld F.FLT_LOG_BOOT) ++ bytesOf 2 0
    ++ bytesOf 4 (if s.bit F.SEC_CFGKEY_PRESENT then s.fld F.SEC_CFGKEY_KEY_ID else 0) ++ bytesOf 20 0

/-- The 224 bytes of a statement, signed with the identity key; the random bit generator moves on. -/
def State.signed (s : State) (nonce : Nat) : List Byte × State :=
  let b := s.statement nonce
  (b ++ bytesOf 64 (ecdsaSign (s.sec.priv.getD 0) (sha256 b) s.sec.drbg),
   { s with sec := { s.sec with drbg := s.sec.drbg + 1 } })

/-! ### Export (R412, R424) -/

/-- The stored full cairn of greatest SEQ at or before `first` in an epoch. -/
def SurvSt.startCairn (v : SurvSt) (epoch first : Nat) : Option FullCairn :=
  let cs := (v.recent ++ v.seconds.map (·.2)).filter fun c => c.epoch == epoch && decide (c.seq ≤ first)
  cs.foldl (fun b c => match b with
    | none => some c
    | some x => if x.seq < c.seq then some c else some x) none

/-- The pieces of a survey range's file, ATTEST apart. -/
def SurvSt.rangePieces (v : SurvSt) (nsect epoch first last : Nat) : Option (List Piece) :=
  match v.headers.find? (·.epoch == epoch), v.startCairn epoch first with
  | some h, some c =>
    let rs := recordRange epoch c.seq last v.ring
    if last < first ∨ rs.length ≠ last - c.seq then none
    else
      let pay := rs.flatMap recordBytes
      some ([⟨.fixed, fileHeader nsect Config.dsn epoch c.seq last⟩, ⟨.header epoch, sectionBytes 1 (epochBytes h)⟩,
             ⟨.cairn epoch c.seq, sectionBytes 2 (fullCairnBytes c)⟩,
             ⟨.fixed, bytesOf 2 3 ++ bytesOf 2 0 ++ bytesOf 4 pay.length ++ bytesOf 4 (crc32 pay) ++ bytesOf 4 0⟩]
            ++ rs.map fun r => ⟨.record epoch r.seq, recordBytes r⟩)
  | _, _ => none

/-- The pieces of a black box's file. -/
def State.bbPieces (s : State) (nsect : Nat) (higher : Bool) : Option (List Piece) :=
  let a := s.bbArea 0
  let b := s.bbArea 1
  let top := if b.state = 2 ∧ (a.state ≠ 2 ∨ a.gen < b.gen) then 1 else 0
  let x := s.bbArea (if higher then top else 1 - top)
  if x.state = 2 then some [⟨.fixed, fileHeader nsect Config.dsn x.epoch x.first x.last⟩, ⟨.fixed, x.body⟩] else none

/-- SURV.EXPORT.SETUP (R412, R424). -/
def State.exportSetup (s0 : State) : State × Result :=
  let s := { s0.setBit F.SURV_EXPORT_READY false with surv := { s0.surv with export_ := none } }
  let sign := s.bit F.SURV_EXPORT_SIGN
  let nsect := 3 + sign.toNat
  let pieces := match s.fld F.SURV_EXPORT_KIND with
    | 0 => s.surv.rangePieces nsect (s.fld F.SURV_EXPORT_EPOCH) (s.fld F.SURV_EXPORT_FIRST) (s.fld F.SURV_EXPORT_LAST)
    | k => s.bbPieces nsect (k == 1)
  if sign && s.sec.priv.isNone then (s, { status := 0x07, detail := 0x5 })
  else
    match pieces with
    | none => (s, { status := 0x07, detail := 0x4 })
    | some ps =>
      let r := if sign then
          let st := s.signed (sha256 (ps.flatMap (·.bytes)))
          (ps ++ [⟨.fixed, sectionBytes 4 st.1⟩], st.2)
        else (ps, s)
      let size := (r.1.map (·.bytes.length)).foldl (· + ·) 0
      (((({ r.2 with surv := { r.2.surv with export_ := some r.1 } }).setBit F.SURV_EXPORT_READY true).setFld F.SURV_EXPORT_SIZE size),
       { status := 0x00 })

/-- What a piece came from is still held (R412). -/
def SurvSt.holds (v : SurvSt) : PieceOf → Bool
  | .fixed => true
  | .header e => v.headers.any (·.epoch == e)
  | .cairn e q => (v.recent ++ v.seconds.map (·.2)).any fun c => c.epoch == e && c.seq == q
  | .record e q => v.ring.any fun r => r.epoch == e && r.seq == q

/-- The pieces that bytes `off` to `off + len − 1` reach, `at_` being the offset of the first piece. -/
def piecesIn (off len : Nat) : Nat → List Piece → List Piece
  | _, [] => []
  | at_, p :: ps =>
    let n := p.bytes.length
    (if at_ < off + len ∧ off < at_ + n then [p] else []) ++ piecesIn off len (at_ + n) ps

/-- SURVEY_READ: RESULT and the bytes read (R412). -/
def State.surveyRead (s : State) (off len : Nat) : Result × List Byte :=
  let size := s.fld F.SURV_EXPORT_SIZE
  match s.surv.export_ with
  | none => ({ status := 0x07, detail := 0x1 }, [])
  | some ps =>
    if size < off + len ∨ (len % 64 ≠ 0 ∧ off + len ≠ size) then ({ status := 0x07, detail := 0x3 }, [])
    else if (piecesIn off len 0 ps).all (fun p => s.surv.holds p.from_) then
      ({ status := 0x00, result := len }, ((ps.flatMap (·.bytes)).drop off).take len)
    else ({ status := 0x07, detail := 0x2 }, [])

/-! ### Loading a replay source (R414) -/

/-- The bytes of the upload, up to the last one written. -/
def SurvSt.uploaded (v : SurvSt) : List Byte :=
  match v.upload.getLast? with
  | none => []
  | some e => (List.range (e.1 + 1)).map fun i => v.upload.get i 0

/-- The source a write of SURV.REPLAY names, when it is valid. -/
def State.replaySource (s : State) : Option (EpochHdr × FullCairn × List SurvRec) :=
  let v := s.surv
  let first := s.fld F.SURV_REPLAY_FIRST
  let last := s.fld F.SURV_REPLAY_LAST
  let img := s.unitImg s.activeUnit
  if s.fld F.SURV_REPLAY_SRC = 0 then
    let e := s.fld F.SURV_REPLAY_EPOCH
    match v.headers.find? (·.epoch == e), (v.recent ++ v.seconds.map (·.2)).find? (fun c => c.epoch == e && c.seq == first) with
    | some h, some c =>
      let rs := recordRange e first last v.ring
      if v.state = 2 ∧ first ≤ last ∧ rs.length = last - first ∧ rs.head?.all (·.prog == c.prog) then some (h, c, rs) else none
    | _, _ => none
  else
    match readFile (fun k => taskFld F.ENG_TASK_INW (img.tasks.getD k 0)) v.uploaded with
    | some (h, c, rs) => if c.seq = first ∧ first + rs.length ≥ last ∧ first ≤ last then some (h, c, rs.take (last - first)) else none
    | none => none

/-- REPLAY_LOAD: a write of SURV.REPLAY whose fields have been set (R414). -/
def State.replayLoad (s0 : State) : State × Result :=
  let s := { ((s0.setBit F.SURV_REPLAY_LOADED false).setFld F.SURV_REPLAY_STATE 0).setFld F.SURV_REPLAY_STOP 0 with
             surv := { s0.surv with replay := none } }
  match s.replaySource with
  | some (h, c, rs) =>
    if c.prog = (s.unitImg s.activeUnit).prog then
      ({ s.setBit F.SURV_REPLAY_LOADED true with
         surv := { s.surv with replay := some { hdr := h, cairn := c, records := rs, words := c.words } } }, { status := 0x00 })
    else (s, { status := 0x07, detail := 0x4 })
  | none => (s, { status := 0x07, detail := 0x4 })

/-! ### SURV.STATUS and SURV.CTRL -/

/-- SURV.STATUS as it stands after a seal (R417). -/
def State.showSurvey (s : State) : State :=
  let v := s.surv
  [(F.SURV_STATUS_STATE, v.state), (F.SURV_STATUS_BB_BUSY, v.bbCopy.isSome.toNat), (F.SURV_STATUS_BB_SKIP, v.bbSkip.toNat),
   (F.SURV_STATUS_FC_ABANDONED, v.fcAbandoned), (F.SURV_STATUS_FC_SAT, v.fcSat.toNat), (F.SURV_STATUS_EPOCH, v.epoch),
   (F.SURV_STATUS_SEQ, v.lastSeq), (F.SURV_STATUS_OLDEST, (v.ring.head?.map (·.seq)).getD 0), (F.SURV_STATUS_TRIG_SEQ, v.trigSeq),
   (F.SURV_STATUS_FC_SEQ, v.fcSeq)].foldl (fun s e => s.setFld e.1 e.2) s

/-- SURV.CTRL.CLR (R457). -/
def State.survClear (s : State) : State := { s with surv := { s.surv with fcAbandoned := 0, fcSat := false, bbSkip := false } }

/-- SURV.CTRL.UNFREEZE returns a frozen survey to recording (R408). -/
def State.unfreeze (s : State) : State :=
  { s with surv := { s.surv with state := 0, bbDue := false } }

/-- SURVEY_FREEZE (R406, R407): PARAM[0] suppresses the black-box copy. -/
def State.surveyFreeze (s : State) (noCopy : Bool) : State × Result :=
  if !(s.loopMode || s.mode == .service) then (s, s.wrongMode)
  else if s.surv.state ≠ 0 then (s, refused 0x1)
  else
    let s1 := s.freezeAt s.per.t0 (s.bit F.SURV_CFG_BB_EN && !noCopy)
    (s1, done (result := s1.surv.trigSeq))

end Sys2Proof.Machine
end

