-- ==== Sys2Proof/Machine/StdTasks.lean ====
section
/-!
DEFINITION. The standard axis program at its place in a lane: which tasks run it, what a run reads of configuration and record,
and the words it posts (R33, R125, R141, R148, R170, R174, R195, R198, R203, R225). Its instruction sequence belongs to the
image; its results are those of 05_axis_loops, 06_motion_profiles and 07_gearing_cam_caravans_latch_compare.
-/

namespace Sys2Proof.Machine

/-- Figures of ENG.TASK for the two kinds of the standard axis program (Table 05.1): PATH, DELTA, XS, YS, INW, CBASE, CSTRIDE. -/
def stdFigures (kind : Nat) : List Nat :=
  if kind = 0 then [520, 40, 64, 32, 48, 0, 96] else [900, 48, 96, 64, 40, 0, 96]

/-- DEDUCED: a unit whose task table carries the figures of Table 05.1 for a kind runs the standard axis program there. -/
def State.stdTask (s : State) (u kind : Nat) : Bool :=
  decide (kind < 2) &&
    [F.ENG_TASK_PATH, F.ENG_TASK_DELTA, F.ENG_TASK_XS, F.ENG_TASK_YS, F.ENG_TASK_INW, F.ENG_TASK_CBASE, F.ENG_TASK_CSTRIDE].map
      (s.taskOf u kind) == stdFigures kind

/-- Coefficient word j of a task's region in the bank in force (R149). -/
def Lane.coefOf (l : Lane) (bankB : Bool) (base j : Nat) : Int := (l.word (if bankB then .bankB else .bankA) (base + j)).toInt

/-- What a run of an axis's tasks needs of AXIS.CFG, GEAR.MASTER and SYS.PERIOD (R143, R171, R203). -/
def State.axisEnv (s : State) (a : Nat) (x : AxisIn) (coef : Nat → Int) (ownSpd : Option Int) : AxisEnv :=
  let drive := s.fld F.AXIS_CFG_TYPE a == 1
  { drive := drive
    outerOn := s.bit F.AXIS_CFG_OUTER a
    posloop := s.bit F.AXIS_CFG_POSLOOP a
    sensorless := drive && s.bit F.AXIS_CFG_SENSORLESS a
    hasFb := s.axisHasFb a
    clampV := s.bit F.AXIS_CFG_CLAMP_V a
    spdExp := sint 4 (s.axisSpdExp a)
    k := s.fld F.SYS_PERIOD_K + 1
    cpr := s.fld F.AXIS_CFG_CPR a
    spdScale := 1
    coef := coef
    comp := x.comp
    masterKind := x.masterKind
    staleMax := x.staleMax
    phase := (s.outerPhase a).getD 0
    ownSpd := ownSpd }

/-- The same for its current task. -/
def State.curEnv (s : State) (a : Nat) (x : AxisIn) (coef : Nat → Int) (ownIq : Option Int) : CurEnv :=
  { ax := s.axisEnv a x coef none
    curctl := s.fld F.AXIS_CFG_CURCTL a
    three := s.fld F.AXIS_CFG_BRIDGE a != 0
    nbr := s.fld F.AXIS_CFG_NBR a
    fw := s.bit F.AXIS_CFG_FW a
    clampI := s.bit F.AXIS_CFG_CLAMP_I a
    clampSh := s.bit F.AXIS_CFG_CLAMP_SH a
    reverse := s.bit F.AXIS_CFG_REVERSE a
    updpt := s.fld F.AXIS_CFG_UPDPT a
    apc := s.fld F.AXIS_CFG_APC a
    angOffset := s.fld F.AXIS_CFG_ANG_OFFSET a
    ownIq := ownIq }

/-- A word for a port of an axis. -/
def axisPost (cls a obj : Nat) (w : Word24) : Post := .output (mkId cls a obj) w

/-- The posts of an outer run, DONE after the position words (R153, R170, R174, R195, R198, R203, R225). -/
def State.outerPosts (s : State) (a : Nat) (same : Bool) (r : OuterResult) : List Post :=
  let o := r.st
  let sp := uint 56 o.sp
  let nat := fun (n : Nat) => (BitVec.ofNat 24 n : Word24)
  let drive := s.fld F.AXIS_CFG_TYPE a == 1
  [axisPost 6 a 0x10 (nat sp), axisPost 6 a 0x11 (nat (sp / 2 ^ 24)), axisPost 6 a 0x12 (BitVec.ofInt 24 (sint 8 (sp / 2 ^ 48))),
   axisPost 6 a 0x13 (toWord (store23 (val47 o.v)))]
    ++ (match r.segAt with
        | some w => [axisPost 6 a 0x14 (nat w)]
        | none => [])
    ++ [axisPost 6 a 0x15 (nat o.linkWord)]
    ++ r.done.map (fun d => axisPost 5 a 0x14 (nat (d.1 % 2 ^ 6 + d.2.1 % 2 ^ 8 * 2 ^ 6 + d.2.2 % 2 ^ 10 * 2 ^ 14)))
    ++ (if drive && !same then [axisPost 1 a 0x2C (toWord o.iqCmd)] else [])
    ++ [axisPost 1 a 0x2F (nat r.faults)]
    ++ o.profWords.mapIdx (fun w v => axisPost 5 a (0x30 + w) v)
    ++ (if drive then [axisPost 1 a 0x3B (nat o.feCnt)] else [])

/-- The posts of a current run (R148, R161, R166, R170, R146). -/
def State.currentPosts (_s : State) (a : Nat) (same : Bool) (r : CurResult) : List Post :=
  let nat := fun (n : Nat) => (BitVec.ofNat 24 n : Word24)
  r.cmps.map (fun c => axisPost 1 a (0x14 + c.1) (nat c.2))
    ++ (match r.setSpd with
        | some v => if same then [] else [axisPost 1 a 0x2D (toWord v)]
        | none => [])
    ++ [axisPost 1 a 0x2E (nat r.faults)]
    ++ r.status.mapIdx (fun w v => axisPost 1 a (0x30 + w) v)

/-- What the standard program's run of a task at period `n` does: the undefined use it makes, or the words posted and the axis's
states kept. -/
def State.runStd (s : State) (n : Nat) (x : AxisIn) (t : TaskAlloc) (l : Lane) (bankB : Bool) : Except Fault (List Post × State) :=
  let a := t.axis
  let same := t.other.isSome
  let coef := l.coefOf bankB t.coefBase
  let v := s.axis a
  if t.kind = 0 then
    let ownIq := if same then some ((upTo {} n v.outer).iqCmd) else none
    let r := currentRun (s.curEnv a x coef ownIq) x (before {} n v.cur)
    match r.fault with
    | some f => .error f
    | none => .ok (s.currentPosts a same r, s.setAxis a { v with cur := keepState n r.st v.cur })
  else
    let ownSpd := if same && s.bit F.AXIS_CFG_SENSORLESS a then some ((before {} n v.cur).setSpd) else none
    let r := outerRun (s.axisEnv a x coef ownSpd) x (before {} n v.outer)
    match r.fault with
    | some f => .error f
    | none => .ok (s.outerPosts a same r, s.setAxis a { v with outer := keepState n r.st v.outer })

end Sys2Proof.Machine
end

