-- ==== Sys2Proof/Machine/Pairs.lean ====
section
/-!
DEFINITION. Lane pairs: dispatch of periods and the words their copies post (R22, R27 to R32, R100, R101, R104, R126, R129 to
R134, R336, R337, R339), and what the hub does with accepted words.
-/

namespace Sys2Proof.Machine

/-! ### Positions and roles (R340, R343, R350, R354) -/

/-- The position a lane pair computes, a migration's spare included. -/
def State.posOfPair (s : State) (u l : Nat) : Option Nat :=
  match s.red.migrate with
  | some m => if m.unit = u ∧ m.spare = l then some m.pos else s.posOf u l
  | none => s.posOf u l

/-- The pair computes beside the one that counts: the incoming unit of a planned swap, or the spare of a migration. -/
def State.secondary (s : State) (u l : Nat) : Bool :=
  s.red.swap.any (·.incoming == u) || s.red.migrate.any (fun m => m.unit == u && m.spare == l)

/-- The unit computes period `q` in catch-up after a takeover (R343). -/
def State.catchUp (s : State) (u q : Nat) : Bool :=
  s.red.takeover.any (·.incoming == u) || (u == s.activeUnit && decide (q < s.red.replayTo))

/-- The hub builds the period's cairn from this pair's words. -/
def State.builds (s : State) (u l : Nat) : Bool :=
  !s.secondary u l && (s.red.takeover.any (·.incoming == u) || (s.red.takeover.isNone && u == s.activeUnit))

/-- Output words of the pair may count: it is active, computes the running period, and is neither withheld, replayed, halted nor in
REPLAY (R22, R40, R343, R430). -/
def State.countsFor (s : State) (u l q : Nat) : Bool :=
  s.builds u l && !s.catchUp u q && q == s.per.count && !(s.pair u l).withheld
    && (s.loopMode || s.mode == .service) && !s.sec.halted.testBit l

/-- Output words of the pair count: they come before the deadline (R27). -/
def State.live (s : State) (u l q : Nat) : Bool := s.countsFor u l q && !s.per.deadlineDone

/-! ### Run order and task start (R126, R129, R130) -/

/-- Tasks a position runs in a phase, in run order (R129). -/
def State.runOrder (s : State) (pos phase : Nat) : List TaskAlloc :=
  let ts := s.tasksAt pos
  let outer := fun (a : Nat) => ts.find? fun t => t.kind == 1 && t.axis == a && t.phase == phase
  let cur := fun (a : Nat) => ts.find? fun t => t.kind == 0 && t.axis == a
  ((List.range 40).filterMap fun a => if (outer a).isSome then none else cur a)
    ++ (List.range 40).flatMap fun a => if (outer a).isSome then (outer a).toList ++ (cur a).toList else []

/-- ENTRY of a task in a unit's image. -/
def State.withEntry (s : State) (u : Nat) (t : TaskAlloc) : TaskAlloc := { t with entry := s.taskOf u t.kind F.ENG_TASK_ENTRY }

/-- A copy receives its input area and the tasks of a period (R104, R130). -/
def Lane.beginPeriod (l : Lane) (area : SMap Word24) (tasks : List TaskAlloc) (xTop yTop : Nat) : Lane :=
  let data : SMap Word24 := l.x.filter fun (e : Nat × Word24) => decide (e.1 < 0x3C00)
  let bad := l.badParity.filter fun (e : LaneMem × Nat) => !(e.1 == LaneMem.x && decide (0x3C00 ≤ e.2))
  let l1 := { l with x := data ++ area, badParity := bad
                     delta := [], posts := [], retired := 0, sOr := false, xTop := xTop, yTop := yTop, xStored := [], yStored := []
                     task := none, rest := [] }
  match tasks with
  | [] => l1.finishPeriod
  | t :: r => { l1 with rest := r }.startTask t

/-- The bank in force for a pair's running period (R135, header word 0x3C09). -/
def State.pairBank (s : State) (u l : Nat) : LaneMem :=
  match (s.pair u l).periods.head?.bind s.headOf with
  | some h => if h.body.bankB then .bankB else .bankA
  | none => if s.bit F.ENG_BANK_IN_FORCE then .bankB else .bankA

/-! ### Cairns and the mirror (R336 to R339, R404) -/

/-- The cairn being built for a period. -/
def State.cairnOf (s : State) (q : Nat) : Option (Nat × CairnSt) := s.red.cairns.find? fun e => e.2.count == q && !e.2.sealed

/-- An entry of a sealed cairn enters the mirror when it lies in a state region of its position (R339). -/
def State.mirrorEntry (s : State) (m : SMap Word24) (e : CairnEntry) : SMap Word24 :=
  let top := if e.entry.mem = .x then s.xTop e.pos else s.yTop e.pos
  if e.entry.addr < top then m.set (mirrorKey e.pos (e.entry.mem == .y) e.entry.addr) e.entry.word 0 else m

/-- MIRROR_APPLY: the oldest sealed cairn not yet in the mirror enters it, and the copies of a full-cairn build that predate it
(R339, R404). -/
def State.mirrorApply (s : State) : State :=
  match s.red.cairns.find? (fun e => e.2.count == s.red.mirrorCount + 1 && e.2.sealed) with
  | none => s
  | some (_, c) =>
    let fc := fun (p : FcPos) => if p.at_ < c.count then p.apply (s.xTop p.pos) (s.yTop p.pos) c else p
    let build := s.surv.build.map fun b => { b with read := b.read.map fc }
    let red := { s.red with mirror := c.entries.foldl s.mirrorEntry s.red.mirror, mirrorCount := c.count, mirrorSeq := c.seq }
    ({ s with red := red, surv := { s.surv with build := build } }).sealBuild

/-- Apply sealed cairns up to period `q`. -/
def State.mirrorTo (s : State) (q : Nat) : Nat → State
  | 0 => s
  | k + 1 => if q ≤ s.red.mirrorCount then s else (s.mirrorApply).mirrorTo q k

/-- A period's cairn takes its slot, cleared first (R336). -/
def State.openCairn (s0 : State) (u q : Nat) : State :=
  let s := s0.mirrorTo (q - 4) 4
  match s.headOf q with
  | none => s
  | some h =>
    if (s.cairnOf q).isSome || decide (q ≤ (s.red.cairns.get (h.body.seq % 4) {}).count) then s
    else
      let c : CairnSt :=
        { count := q, seq := h.body.seq, format := (s.unitImg u).cfmt, unitB := u == 1, bankB := h.body.bankB, phase := h.body.phase
          mapGen := s.red.mapGen % 2 ^ 8, mtime := h.body.mtime, prog := (s.unitImg u).prog }
      { s with red := { s.red with cairns := s.red.cairns.set (h.body.seq % 4) c {} } }

/-- Dispatch period `q` to both copies of a pair (R20, R28, R104). -/
def State.startPeriod (s0 : State) (u l q : Nat) : State :=
  let s := if s0.builds u l then s0.openCairn u q else s0
  match s.posOfPair u l, s.headOf q with
  | some pos, some h =>
    let area := match h.areas.find? (·.pos == pos) with
      | some a => a.words
      | none => []
    let tasks := (s.runOrder pos h.body.phase).map (s.withEntry u)
    let begin_ := fun (s : State) (c : Nat) => s.setLane u l c ((s.lane u l c).beginPeriod area tasks (s.xTop pos) (s.yTop pos))
    let s1 := begin_ (begin_ s 0) 1
    s1.setPair u l { s.pair u l with busy := true, dispatchedAt := s.now, lastDelta := s.now, withheld := false, outputs := [],
                                     deltas := 0, digest := 0 }
  | _, _ => s

/-- An idle pair is dispatched with the oldest period it waits for (R28). -/
def State.dispatchNext (s : State) (u l : Nat) : State :=
  let p := s.pair u l
  match p.periods with
  | [] => s
  | q :: _ => if p.busy then s else s.startPeriod u l q

/-- Period `q` is dispatched to a pair, or waits for it (R28). -/
def State.dispatch (s : State) (u l q : Nat) : State :=
  (s.setPair u l { s.pair u l with periods := (s.pair u l).periods ++ [q] }).dispatchNext u l

/-- Dispatch a period to every pair that carries a position in a unit. -/
def State.dispatchUnit (s : State) (u q : Nat) : State :=
  s.forRange 12 fun s l => if (s.posOf u l).isSome then s.dispatch u l q else s

/-- Change the cairn being built for a period. -/
def State.mapCairn (s : State) (q : Nat) (f : CairnSt → CairnSt) : State :=
  { s with red := { s.red with cairns := s.red.cairns.map fun e => if e.2.count = q ∧ !e.2.sealed then (e.1, f e.2) else e } }

/-- DELTA_OVERFLOW of a lane pair: the mirror is no longer whole (R131, R339). -/
def State.deltaOverflow (s : State) (u l : Nat) : State :=
  let s1 := s.abandonBuild.raise K.DELTA_OVERFLOW (12 * u + l)
  ({ s1 with red := { s1.red with mirrorOk := false } }).noteRedundancy

/-! ### Words released to their blocks (R133, R134, R148, R175, R198, R268, R292, R319, R328, R386) -/

/-- The compare an output port names: group and compare; none for a port that is no compare or names a group the axis does not
have (R148, R268). -/
def State.comparePort (s : State) (port : Nat) : Option (Nat × Nat) :=
  let o := idObj port
  if idClass port = 2 then some (idInst port, o - 0x10)
  else if idClass port = 1 ∧ o < 0x2C then
    match (s.axisGroups (idInst port))[(o - 0x14) / 6]? with
    | some g => some (g, (o - 0x14) % 6)
    | none => none
  else none

/-- A port whose effect its chapter ties to the seal (R343). -/
def sealedPort (port : Nat) : Bool :=
  let o := idObj port
  match idClass port with
  | 1 => decide (0x2E ≤ o)
  | 5 => true
  | 6 => o == 0x14 || o == 0x15
  | _ => false

/-- The hub's published position as the words of one period leave it, for RESULT of a DONE word (R195). -/
def pubAfter (old : List Nat) (a : Nat) (ws : List (Nat × Word24)) : List Nat :=
  ws.foldl (fun p e => if idClass e.1 = 6 ∧ idInst e.1 = a ∧ 0x10 ≤ idObj e.1 ∧ idObj e.1 ≤ 0x12 then p.set (idObj e.1 - 0x10) e.2.toNat else p) old

/-- A DONE word, its RESULT taken from the position words of the same run (R195, R463). -/
def State.takeDoneOf (s : State) (a q : Nat) (w : Word24) (ws : List (Nat × Word24)) : State :=
  let old := (s.hubAx a).pubP
  let s1 := (s.setHub a { s.hubAx a with pubP := pubAfter old a ws }).takeDone a w.toNat q
  s1.setHub a { s1.hubAx a with pubP := old }

/-- A word posted to a mailbox slot waits for the next boundary (R134). -/
def State.postBox (s : State) (l slot : Nat) (w : Word24) : State :=
  { s with red := { s.red with mboxNew := s.red.mboxNew ++ [(l, slot, w)] } }

/-- A word that takes its effect at the seal of its period (R146, R170, R174, R203). -/
def State.postSeal (s : State) (q port : Nat) (w : Word24) : State :=
  let stamp := match s.headOf q with
    | some h => h.t0
    | none => s.per.t0
  { s with red := { s.red with sealPosts := s.red.sealPosts ++ [⟨q, stamp, port, w⟩] } }

/-- An accepted word reaches the block its port names, compares apart, which were collected as they came. -/
def State.releaseWord (l q : Nat) (ws : List (Nat × Word24)) (s : State) (e : Nat × Word24) : State :=
  let a := idInst e.1
  let o := idObj e.1
  match idClass e.1 with
  | 0x1 =>
    if o < 0x2C then s
    else if o = 0x2C then (if a < 32 then s.postBox l a e.2 else s)
    else if o = 0x2D then (if a < 32 then s.postBox l (32 + a) e.2 else s)
    else s.postSeal q e.1 e.2
  | 0x3 =>
    let n := a - 32
    s.setEmus n (if o = 0x10 then { s.emus n with lo := e.2 } else { s.emus n with hi := e.2 })
  | 0x5 => if o = 0x14 then s.takeDoneOf a q e.2 ws else s.postSeal q e.1 e.2
  | 0x6 =>
    if o = 0x14 then s.takeSegAt a e.2.toNat q
    else if o = 0x15 then (s.takePub a o e.2.toNat).postSeal q e.1 e.2
    else s.takePub a o e.2.toNat
  | 0x8 => s.setCtx (a - 8) { s.ctx (a - 8) with words := (s.ctx (a - 8)).words.set (o - 0x10) e.2 0, poster := l }
  | 0x9 => if s.fenced (.can a) then s.discardCan a else s.postCan a (o - 0x10) e.2
  | 0xA => s.postDo (o - 0x10) l e.2
  | 0xF => s.postBox l a e.2
  | _ => s

/-- The words that stand of those posted in a period: the last of each port, and every one of a port that is a queue (R133). -/
def lastWords : List (Nat × Word24) → List (Nat × Word24)
  | [] => []
  | e :: r => if !portQueues e.1 && r.any (·.1 == e.1) then lastWords r else e :: lastWords r

/-- Every output word of a pair's period has been accepted: live words are released, and of a period in catch-up those for
sealed ports (R22, R27, R343). -/
def State.releasePair (s : State) (u l q : Nat) : State :=
  let p := s.pair u l
  if p.outCount = q then s
  else
    let ws := lastWords p.outputs
    if s.live u l q then (ws.foldl (State.releaseWord l q ws) s).setPair u l { (s.pair u l) with outCount := q }
    else if s.catchUp u q && !s.secondary u l && !p.withheld then
      ((ws.filter fun e => sealedPort e.1).foldl (State.releaseWord l q ws) s).setPair u l { (s.pair u l) with outCount := q }
    else s

/-! ### Comparison of a swap's units and of a migration's pairs (R350, R354) -/

/-- The traces of a unit's or lane pair's words are wanted. -/
def State.traced (s : State) (u l : Nat) : Bool :=
  s.red.swap.isSome || s.red.migrate.any fun m => m.unit == u && (m.source == l || m.spare == l)

def State.traceOf (s : State) (u l q : Nat) : List Post :=
  match s.red.traces.find? (fun t => t.1 == u && t.2.1 == l && t.2.2.1 == q) with
  | some t => t.2.2.2
  | none => []

def State.addTrace (s : State) (u l q : Nat) (p : Post) : State :=
  if s.traced u l then
    let keep := s.red.traces.filter fun t => !(t.1 == u && t.2.1 == l && t.2.2.1 == q)
    { s with red := { s.red with traces := keep ++ [(u, l, q, s.traceOf u l q ++ [p])] } }
  else s

/-- A trace that holds its end marker is whole. -/
def traceWhole (t : List Post) : Bool :=
  match t.getLast? with
  | some (.endMark _ _ _) => true
  | _ => false

/-- A migration is given up, and the spare returns to spare (R354). `cause` names the event: 0 a difference, 1 a mismatch of the
spare's copies, 2 the limit of 64 periods. -/
def State.failMigrate (s : State) (cause : Nat) : State :=
  match s.red.migrate with
  | none => s
  | some m =>
    let s1 := s.setPair m.unit m.spare { s.pair m.unit m.spare with periods := [], busy := false, outputs := [] }
    let stop := fun (s : State) c => s.setLane m.unit m.spare c { s.lane m.unit m.spare c with posts := [], task := none, rest := [], delta := [] }
    let s2 := stop (stop s1 0) 1
    (({ s2 with red := { s2.red with migrate := none, traces := [] } }).raise K.MIGRATE_FAIL (12 * m.unit + m.source)
      (Config.migrateCause cause % 2 ^ 8 + m.source * 2 ^ 8 + m.spare * 2 ^ 16) 1).noteRedundancy

/-- The lane pairs of the standby unit for the active unit's positions (R340). -/
def State.standbyMap (s : State) (u : Nat) : List (Nat × Nat) :=
  let sb := 1 - u
  let retired := fun (l : Nat) => (s.retired sb).testBit l
  let own := (List.range 10).filterMap fun p => if s.laneOf u p < 12 ∧ !retired (s.laneOf u p) then some (p, s.laneOf u p) else none
  (List.range 10).foldl (fun acc p =>
    if 12 ≤ s.laneOf u p then acc
    else
      match own.find? (fun e => e.1 == p) with
      | some e => acc ++ [e]
      | none =>
        match (List.range 12).find? (fun l => !retired l && !own.any (fun e => e.2 == l) && !acc.any (fun e => e.2 == l)) with
        | some l => acc ++ [(p, l)]
        | none => acc) []

/-- A new mapping of the units; a change of it counts in the placement generation (R340). -/
def State.remap (s : State) (m : SMap Nat) : State :=
  { s with red := { s.red with map := m, mapGen := if m = s.red.map then s.red.mapGen else s.red.mapGen + 1 } }

/-- The standby unit's mapping follows the active unit's (R340). -/
def State.mapStandby (s : State) : State :=
  let u := s.activeUnit
  let clear := (List.range 10).foldl (fun (m : SMap Nat) p => m.set (16 * (1 - u) + p) 12 12) s.red.map
  s.remap ((s.standbyMap u).foldl (fun m e => m.set (16 * (1 - u) + e.1) e.2 12) clear)

/-- SYS.PLACE bits of a lane pair move to another entry (R346, R354). -/
def State.movePlace (s : State) (a b : Nat) : State :=
  let mv := fun (s : State) (f : Fld) => (s.setFld f (s.fld f 0 a) 0 b).setFld f 0 0 a
  [F.SYS_PLACE_CUR, F.SYS_PLACE_OUT, F.SYS_PLACE_OUTV, F.SYS_PLACE_PEAK].foldl mv s

/-- A lane pair is retired in MRAM (R355). -/
def State.setRetired (s : State) (u l : Nat) (b : Bool) : State :=
  if u = 0 then { s with red := { s.red with retiredA := putBits s.red.retiredA l 1 b.toNat } }
  else { s with red := { s.red with retiredB := putBits s.red.retiredB l 1 b.toNat } }

/-- Free spare lane pairs of a unit: two, less the retired ones (Table 11.3). -/
def State.lanesFree (s : State) (u : Nat) : Nat := 2 - ((List.range 12).filter (s.retired u).testBit).length

/-- No free lane pair is left in a unit: SPARE_LOW of kind 3 (R358). -/
def State.noteLaneSpares (s : State) (u was : Nat) : State :=
  if 0 < was ∧ s.lanesFree u = 0 then s.raise K.SPARE_LOW 3 3 1 else s

/-- Evaluation windows start again (R352). -/
def State.restartWindow (s : State) (at_ : Nat) : State :=
  let s1 := { s with red := { s.red with windowStart := at_ } }
  s1.forRange 24 fun s e =>
    let p := s.pair (e / 12) (e % 12)
    s.setPair (e / 12) (e % 12) { p with sumWork := 0, sumBusy := 0, leastSlack := 2 ^ 19 - 1 }

/-- The spare takes the position, and the lane pair it replaces is retired (R354). -/
def State.endMigrate (s : State) (m : MigrateSt) (q : Nat) : State :=
  let s1 := (s.movePlace m.source m.spare).setRetired m.unit m.source true
  let s2 := (s1.setFld F.SYS_PLACE_STATE 2 0 m.source).setFld F.SYS_PLACE_STATE 0 0 m.spare
  let moved := s2.remap (s2.red.map.set (16 * m.unit + m.pos) m.spare 12)
  let s3 := ({ moved with red := { moved.red with migrate := none, traces := [] } }.restartWindow (s2.per.count + 1)).noteLaneSpares m.unit
    (s.lanesFree m.unit)
  let s4 := s3.setPair m.unit m.spare { s3.pair m.unit m.spare with outCount := q }
  ((s4.raise K.MIGRATE_DONE (12 * m.unit + m.source) (m.source + m.spare * 2 ^ 8) 1).mapStandby).noteRedundancy

/-- A pair's period is whole: the words of the two units, or of spare and pair, are compared once both are (R350, R354). -/
def State.compareTraces (s : State) (pos q : Nat) : State :=
  match s.red.swap, s.red.migrate with
  | some w, _ =>
    let a := s.traceOf (1 - w.incoming) (s.laneOf (1 - w.incoming) pos) q
    let b := s.traceOf w.incoming (s.laneOf w.incoming pos) q
    let same := s.fld F.ENG_IDENT_PROG_A == s.fld F.ENG_IDENT_PROG_B
    if same && w.atCount ≤ q && q ≤ w.atCount + 1 && traceWhole a && traceWhole b && a != b then s.abandonSwap 0 pos false else s
  | none, some m =>
    let a := s.traceOf m.unit m.source q
    let b := s.traceOf m.unit m.spare q
    let mid := s.tasksAt m.pos |>.any fun t => t.kind == 0 && s.fld F.AXIS_CFG_UPDPT t.axis == 1
    let inTime := q == s.per.count && !s.per.deadlineDone && !(mid && s.per.midDone)
    if m.restored && pos == m.pos && inTime && traceWhole a && traceWhole b then
      if a == b then s.endMigrate m q else s.failMigrate 0
    else s
  | none, none => s

/-! ### Accepting words (R22, R30 to R32, R101, R131, R132) -/

/-- Kind of a posted word. -/
inductive PostKind where
  | output | delta | endMark
  deriving DecidableEq, Repr

def Post.kind : Post → PostKind
  | .output _ _ => .output
  | .delta _ => .delta
  | .endMark _ _ _ => .endMark

/-- Take the first posted word of both copies away. -/
def State.popPosts (s : State) (u l : Nat) : State :=
  let pop := fun (s : State) c => s.setLane u l c { s.lane u l c with posts := (s.lane u l c).posts.tail }
  pop (pop s 0) 1

/-- The copies differ: the pair's outputs are withheld for the period, and LANE_MISMATCH is raised (R22, R101); a migration whose
spare's copies differ is given up (R354). -/
def State.mismatch (s : State) (u l : Nat) : State :=
  if s.red.migrate.any fun m => m.unit == u && m.spare == l then s.failMigrate 1
  else
    let p := s.pair u l
    let pos := p.outputs.length + p.deltas
    let s1 := s.setPair u l { p with withheld := true }
    let s2 := if s.live u l (p.periods.headD 0) then s1.dropSets l else s1
    s2.raise K.LANE_MISMATCH (12 * u + l) (u + l * 2 ^ 8 + pos % 2 ^ 16 * 2 ^ 16) 1 0 pos

/-- Words accepted enter the period's digest (R403). -/
def State.notePost (s : State) (u l q : Nat) (w : Post) : State :=
  let p := s.pair u l
  (s.setPair u l { p with digest := crc64 p.digest (postBytes w) }).addTrace u l q w

/-- An output word is accepted (R22, R133, R254). -/
def State.acceptOutput (s : State) (u l q port : Nat) (w : Word24) : State :=
  let s1 := s.setPair u l { s.pair u l with outputs := (s.pair u l).outputs ++ [(port, w)] }
  if s.live u l q then
    match s.comparePort port with
    | some gc => s1.postCompare gc.1 gc.2 w l
    | none => s1
  else s1

/-- A delta word is accepted into the period's cairn; beyond 3,248 entries it is dropped (R131, R337). The application of the
cairn two periods before has ended by then (R339). -/
def State.acceptDelta (s0 : State) (u l q : Nat) (e : DeltaEntry) : State :=
  let s := (s0.mirrorTo (q - 2) 4).releasePair u l q
  let s1 := s.setPair u l { s.pair u l with deltas := (s.pair u l).deltas + 1, lastDelta := s.now }
  if !s.builds u l then s1
  else
    match s.cairnOf q with
    | none => s1
    | some (_, c) =>
      if 3248 ≤ c.entries.length then s1.deltaOverflow u l
      else s1.mapCairn q fun c => { c with entries := c.entries ++ [⟨l, (s.posOfPair u l).getD 0, e⟩] }

/-- Slack and busy time of a completed period (R30 to R32), and the sums of the evaluation window (R352). -/
def State.noteSlack (s : State) (u l q instr deltas : Nat) : State :=
  let p := s.pair u l
  let t0 := match s.headOf q with
    | some h => h.t0
    | none => s.per.t0
  let e := 12 * u + l
  let slack := clampInt ((t0 + s.fld F.SYS_PERIOD_TC : Nat) - (s.fld F.SYS_PERIOD_GUARD : Int) - p.lastDelta) (-(2 ^ 19)) (2 ^ 19 - 1)
  let busy := min (p.lastDelta - p.dispatchedAt) (2 ^ 20 - 1)
  let least := min slack (sint 20 (s.fld F.SYS_SLACK_MINSLACK 0 e))
  let s1 := (((s.setFld F.SYS_SLACK_BUSY busy 0 e).setFld F.SYS_SLACK_SLACK (uint 20 slack) 0 e).setFld F.SYS_SLACK_MINSLACK
    (uint 20 least) 0 e).setFld F.SYS_SLACK_INSTR instr 0 e
  if u = s.activeUnit then
    s1.setPair u l { p with sumWork := p.sumWork + instr + deltas + 1, sumBusy := p.sumBusy + busy, leastSlack := min p.leastSlack slack }
  else s1

/-- ENG.LANE of a completed period, and TASK_OVERRUN when the count exceeds the declared figures (R132, R139). -/
def State.noteLane (s : State) (u l q instr deltas : Nat) (sflag : Bool) : State :=
  let e := 12 * u + l
  let declared := match s.posOfPair u l, s.headOf q with
    | some pos, some h => ((s.runOrder pos h.body.phase).map fun t => s.taskOf u t.kind F.ENG_TASK_PATH).foldl (· + ·) 0
    | _, _ => 0
  let beyond := decide (0 < declared ∧ declared < instr)
  let s1 := ((s.setFld F.ENG_LANE_DELTAS deltas e).setBit F.ENG_LANE_SFLAG sflag e).setBit F.ENG_LANE_OVR beyond e
  if beyond then s1.raise K.TASK_OVERRUN e else s1

/-- The running period of a pair ends, and the next it waits for is dispatched (R28). -/
def State.endPeriod (s : State) (u l q : Nat) : State :=
  let p := s.pair u l
  let s1 := s.setPair u l { p with periods := p.periods.tail, busy := false, done := q }
  let s2 := s1.dispatchNext u l
  let p2 := s2.pair u l
  let far := decide (p2.periods.headD s2.per.count + 4 ≤ s2.per.count)
  if p2.behind && !far then (s2.setPair u l { p2 with behind := false }).clearLive K.LANE_BEHIND (12 * u + l) else s2

/-- An end marker is accepted (R132); its posting is the last of the busy time (R30). It completes the pair's sets, unless the pair is
late (R27, R254). -/
def State.acceptEnd (s0 : State) (u l q instr : Nat) (sflag : Bool) (deltas : Nat) : State :=
  let sr := s0.releasePair u l q
  let s := sr.setPair u l { sr.pair u l with lastDelta := sr.now }
  let s2 := (s.noteSlack u l q instr deltas).noteLane u l q instr deltas sflag
  let p := s2.pair u l
  let pos := (s2.posOfPair u l).getD 0
  let s3 := if s2.builds u l && !p.withheld then
      s2.mapCairn q fun c => { c with lanes := c.lanes ++ [{ lane := l, pos := pos, sflag := sflag
                                                             count := (c.entries.filter (·.lane == l)).length
                                                             digest := if (s2.tasksAt pos).isEmpty then 0 else p.digest }] }
    else s2
  let s4 := s3.endPeriod u l q
  (if s.countsFor u l q && !(s.pair u l).late then s4.endMarkSets l else s4).compareTraces pos q

/-- A word of a pair, windward's and leeward's, reaches the hub. -/
def State.acceptPost (s : State) (u l q : Nat) (w : Post) : State :=
  match w with
  | .output port x => (s.notePost u l q w).acceptOutput u l q port x
  | .delta e => (s.notePost u l q w).acceptDelta u l q e
  | .endMark i f d => (s.notePost u l q w).acceptEnd u l q i f d

/-- Drop the words up to the first end marker. -/
def afterEnd : List Post → Option (Nat × Bool × Nat × List Post)
  | [] => none
  | .endMark i f d :: r => some (i, f, d, r)
  | _ :: r => afterEnd r

/-- After a difference the rest of the period's words are not compared further; the pair's period ends once both copies have
posted their end markers. -/
def State.endWithheld (s : State) (u l q : Nat) : State :=
  match afterEnd (s.lane u l 0).posts, afterEnd (s.lane u l 1).posts with
  | some (i, f, d, r), some (_, _, _, r') =>
    let s1 := (s.setLane u l 0 { s.lane u l 0 with posts := r }).setLane u l 1 { s.lane u l 1 with posts := r' }
    s1.acceptEnd u l q i f d
  | _, _ => s

/-- One trace of the incoming unit of a swap that became a takeover: its period's cairn takes the words already compared, and its
sealed ports' words are accepted (R343, R351). -/
def State.adoptTrace (s0 : State) (t : Nat × Nat × Nat × List Post) : State :=
  let u := t.1
  let l := t.2.1
  let q := t.2.2.1
  let pos := (s0.posOfPair u l).getD 0
  let s := s0.openCairn u q
  let digest := t.2.2.2.foldl (fun d w => crc64 d (postBytes w)) 0
  let put := fun (c : CairnSt) (w : Post) => match w with
    | .delta e => { c with entries := c.entries ++ [⟨l, pos, e⟩] }
    | .endMark _ f _ => { c with lanes := c.lanes ++ [{ lane := l, pos := pos, sflag := f, count := (c.entries.filter (·.lane == l)).length
                                                        digest := if (s.tasksAt pos).isEmpty then 0 else digest }] }
    | .output _ _ => c
  let s1 := s.mapCairn q fun c => t.2.2.2.foldl put c
  let ws := t.2.2.2.filterMap fun w => match w with
    | .output p x => if sealedPort p then some (p, x) else none
    | _ => none
  if traceWhole t.2.2.2 then (lastWords ws).foldl (State.releaseWord l q (lastWords ws)) s1 else s1

/-- A planned swap that became a takeover: the incoming unit's progress counts (R351). -/
def State.adopt (s : State) : State :=
  match s.red.takeover with
  | some t =>
    if t.restored && !s.red.traces.isEmpty then
      let mine := s.red.traces.filter fun e => e.1 == t.incoming && decide (s.red.sealedCount < e.2.2.1)
      let s1 := mine.foldl State.adoptTrace s
      { s1 with red := { s1.red with traces := [] } }
    else s
  | none => s

/-- A word of kind `k` stands first at both copies' ports of a pair: the hub compares and takes it (R22, R101). -/
def State.takePost (s0 : State) (u l : Nat) (k : PostKind) : State :=
  let s := s0.adopt
  match (s.lane u l 0).posts, (s.lane u l 1).posts, (s.pair u l).periods with
  | a :: _, b :: _, q :: _ =>
    if (s.pair u l).withheld then (if k = .endMark then s.endWithheld u l q else s)
    else if a.kind ≠ k then s
    else if a = b then (s.popPosts u l).acceptPost u l q a
    else (s.popPosts u l).mismatch u l
  | _, _, _ => s

/-- A compare word whose COARSE lies from PER up to 0xF_FFFE is an undefined use (R242). -/
def State.badCompare (s : State) (u l : Nat) : Bool :=
  match (s.lane u l 0).posts, (s.lane u l 1).posts, (s.pair u l).periods with
  | .output port w :: _, b :: _, q :: _ =>
    Post.output port w == b && s.live u l q &&
      (match s.comparePort port with
       | some gc => !s.nth F.SYS_FENCE_PWM gc.1 && decide (s.gper gc.1 ≤ coarse w.toNat ∧ coarse w.toNat ≤ 0xFFFFE)
       | none => false)
  | _, _, _ => false

/-! ### The commands -/

/-- OUTPUT_WORD (R22). -/
def execOutputWord (u : Fin 2) (l : Fin 12) (s : State) : Out :=
  if s.badCompare u l then .fault .compareCoarse else .next (s.takePost u l .output)

/-- DELTA_WORD (R337). -/
def execDeltaWord (u : Fin 2) (l : Fin 12) (s : State) : Out := .next (s.takePost u l .delta)

/-- END_MARKER (R132). -/
def execEndMarker (u : Fin 2) (l : Fin 12) (s : State) : Out := .next (s.takePost u l .endMark)

/-- MIRROR_APPLY (R339). -/
def execMirrorApply (s : State) : Out := .next s.mirrorApply

/-- FULL_CAIRN_READ of a position (R404). -/
def execFullCairnRead (pos : Fin 10) (s : State) : Out := .next (s.readFull pos)

end Sys2Proof.Machine
end

