-- ==== Sys2Proof/Machine/LaneOps.lean ====
section
/-!
DEFINITION. The instructions of a lane as commands (R108 to R124, R130, R131, R133): each names the copy that retires it and
carries its decoded fields.
-/

namespace Sys2Proof.Machine

/-! ### One instruction of one copy -/

/-- The parity errors an instruction meets are counted and raised; the words are used as read (R102). -/
def State.parityErrors (s : State) (c : CopyId) (hits : List (LaneMem × Nat)) : State :=
  let e := 12 * c.unit.val + c.lane.val
  let code := fun (m : LaneMem) => match m with
    | .prog => 0
    | .x => 1
    | .y => 2
    | .bankA => 3
    | .bankB => 4
  hits.foldl (fun s h =>
    (s.satInc F.ENG_LANE_PARITY F.ENG_LANE_PARITY_SAT e).raise K.LANE_PARITY e
      (c.unit.val + c.lane.val * 2 ^ 8 + c.copy.val * 2 ^ 16 + Config.memoryCode (code h.1) % 2 ^ 8 * 2 ^ 24 + h.2 % 2 ^ 16 * 2 ^ 32) 1) s

/-- A copy executes: a task runs on it, its pair is not halted, its unit not fenced (R130, R341, R430). -/
def State.copyRuns (s : State) (c : CopyId) : Bool :=
  let l := s.lane c.unit c.lane c.copy
  l.task.isSome && !l.halted && !s.fenced (.unit c.unit.val) && !s.fenced (.lane c.unit.val c.lane.val)

/-- The words of the standard program's run enter the copy's port before its END (R130, R141). -/
def State.stdPosts (s : State) (c : CopyId) (op : LaneOp) : Except Fault (List Post × State) :=
  let l := s.lane c.unit c.lane c.copy
  match op, l.task, (s.pair c.unit c.lane).periods.head?.bind s.headOf with
  | .end_, some t, some h =>
    if s.stdTask c.unit t.kind then s.runStd h.count (h.body.axes.get t.axis {}) t l h.body.bankB else .ok ([], s)
  | _, _, _ => .ok ([], s)

/-- One instruction retires on one copy: its undefined uses, its parity errors, a full delta buffer, and its effect. -/
def State.retire (s : State) (c : CopyId) (op : LaneOp) : Out :=
  let bank := s.pairBank c.unit c.lane
  let l := s.lane c.unit c.lane c.copy
  match l.fault bank op with
  | some f => .fault f
  | none =>
    match s.stdPosts c op with
    | .error f => .fault f
    | .ok (ps, s1) =>
      let s2 := s1.parityErrors c (l.parityHits bank op)
      let s3 := if l.overflowed op && c.copy.val == 0 then s2.deltaOverflow c.unit c.lane else s2
      let l' := { l with posts := l.posts ++ ps }.run bank op
      let s4 := s3.setLane c.unit c.lane c.copy l'
      .next (if l'.task.isNone then s4.setPair c.unit c.lane { s4.pair c.unit c.lane with lastDelta := s4.now } else s4)

/-- Lane pair and breakpoint of SEC.DEBUG; a LANE above 11 is held at 11 (R430, R458). -/
def State.debugLane (s : State) : Nat := min 11 (s.fld F.SEC_DEBUG_LANE)

/-- The groups whose current loop a lane pair of the active unit computes: they follow its halt (R267). -/
def State.groupsOfLane (s : State) (l : Nat) : List Nat :=
  match s.posOf s.activeUnit l with
  | none => []
  | some p => ((s.red.alloc.filter fun t => t.kind == 0 && t.pos == p).flatMap fun t => s.axisGroups t.axis)

/-- HALTED of SEC.DEBUG. -/
def State.showDebug (s : State) : State := s.setBit F.SEC_DEBUG_HALTED (s.sec.halted.testBit s.debugLane)

/-- The groups of a lane pair, and their gangs, come under its halt, or leave it (R253, R267). The triggers of a carrier that stops count
on when it runs again. -/
def State.haltGroups (s : State) (l : Nat) (b : Bool) : State :=
  let mark := fun (s : State) g =>
    let t := s.countTriggers s.now16 g
    let G := { t.grp g with halted := b }
    t.setGrp g (if b then G else { G with trigA := s.now16 - 1, trigB := s.now16 - 1 })
  ((s.groupsOfLane l).foldl mark s).refreshGroups

/-- One copy of a lane pair of the active unit stops; with both stopped the pair is halted (R430). -/
def State.haltCopy (s : State) (l c : Nat) : State :=
  let u := s.activeUnit
  let s1 := s.setLane u l c { s.lane u l c with halted := true }
  if (s1.lane u l (1 - c)).halted && !s.sec.halted.testBit l then
    (({ s1 with sec := { s1.sec with halted := s1.sec.halted ||| 2 ^ l } }).haltGroups l true).showDebug
  else s1

/-- The breakpoint stands before the next instruction of a copy (R430). -/
def State.atBreak (s : State) (c : CopyId) : Bool :=
  s.mode == .service && s.bit F.SEC_DEBUG_BREAK_EN && c.unit.val == s.activeUnit && c.lane.val == s.debugLane
    && (s.lane c.unit c.lane c.copy).pc == s.fld F.SEC_DEBUG_BREAK_ADDR

/-- A copy that runs no task retires nothing: the command cannot arise, and changes nothing. A breakpoint stops the copy before
the instruction. -/
def State.retireIf (s : State) (c : CopyId) (op : LaneOp) : Out :=
  if s.copyRuns c then (if s.atBreak c then .next (s.haltCopy c.lane c.copy) else s.retire c op) else .next s

/-! ### Format A (Table 04.6) -/

/-- LANE_NOP: NOP performs only its moves (R113). -/
def execLaneNop (c : CopyId) (f : FmtA) (s : State) : Out := s.retireIf c (.fmtA .nop f)

/-- PROD: the exact product (R113). -/
def execProd (c : CopyId) (f : FmtA) (s : State) : Out := s.retireIf c (.fmtA .prod f)

/-- PADD: adds a product (R113). -/
def execPadd (c : CopyId) (f : FmtA) (s : State) : Out := s.retireIf c (.fmtA .padd f)

/-- PSUB: subtracts a product (R113). -/
def execPsub (c : CopyId) (f : FmtA) (s : State) : Out := s.retireIf c (.fmtA .psub f)

/-- PRND: the rounded product (R113). -/
def execPrnd (c : CopyId) (f : FmtA) (s : State) : Out := s.retireIf c (.fmtA .prnd f)

/-- ADDD: adds a widened data register (R113). -/
def execAddd (c : CopyId) (f : FmtA) (s : State) : Out := s.retireIf c (.fmtA .addd f)

/-- SUBD: subtracts a widened data register (R113). -/
def execSubd (c : CopyId) (f : FmtA) (s : State) : Out := s.retireIf c (.fmtA .subd f)

/-- ADDA: adds an accumulator (R113). -/
def execAdda (c : CopyId) (f : FmtA) (s : State) : Out := s.retireIf c (.fmtA .adda f)

/-- SUBA: subtracts an accumulator (R113). -/
def execSuba (c : CopyId) (f : FmtA) (s : State) : Out := s.retireIf c (.fmtA .suba f)

/-- COPY: copies an accumulator (R113). -/
def execCopy (c : CopyId) (f : FmtA) (s : State) : Out := s.retireIf c (.fmtA .copy f)

/-- WIDEN: widens a data register (R113). -/
def execWiden (c : CopyId) (f : FmtA) (s : State) : Out := s.retireIf c (.fmtA .widen f)

/-- NEG: negates (R113). -/
def execNeg (c : CopyId) (f : FmtA) (s : State) : Out := s.retireIf c (.fmtA .neg f)

/-- ABS: the absolute value (R113). -/
def execAbs (c : CopyId) (f : FmtA) (s : State) : Out := s.retireIf c (.fmtA .abs f)

/-- ZERO: clears (R113). -/
def execZero (c : CopyId) (f : FmtA) (s : State) : Out := s.retireIf c (.fmtA .zero f)

/-- MAX: the greater (R113). -/
def execMax (c : CopyId) (f : FmtA) (s : State) : Out := s.retireIf c (.fmtA .max f)

/-- MIN: the lesser (R113). -/
def execMin (c : CopyId) (f : FmtA) (s : State) : Out := s.retireIf c (.fmtA .min f)

/-- ROUND: rounds to a data-word step (R113). -/
def execRound (c : CopyId) (f : FmtA) (s : State) : Out := s.retireIf c (.fmtA .round f)

/-- CLIP: saturates (R113). -/
def execClip (c : CopyId) (f : FmtA) (s : State) : Out := s.retireIf c (.fmtA .clip f)

/-- CMP: flags of a difference (R113). -/
def execCmp (c : CopyId) (f : FmtA) (s : State) : Out := s.retireIf c (.fmtA .cmp f)

/-- TST: flags of an accumulator (R113). -/
def execTst (c : CopyId) (f : FmtA) (s : State) : Out := s.retireIf c (.fmtA .tst f)

/-- AND: logical AND of the upper word (R113). -/
def execAnd (c : CopyId) (f : FmtA) (s : State) : Out := s.retireIf c (.fmtA .and f)

/-- OR: logical OR of the upper word (R113). -/
def execOr (c : CopyId) (f : FmtA) (s : State) : Out := s.retireIf c (.fmtA .or f)

/-- XOR: exclusive OR of the upper word (R113). -/
def execXor (c : CopyId) (f : FmtA) (s : State) : Out := s.retireIf c (.fmtA .xor f)

/-- QUOT: the limited quotient (R113). -/
def execQuot (c : CopyId) (f : FmtA) (s : State) : Out := s.retireIf c (.fmtA .quot f)

/-- ROOT: the square root (R113). -/
def execRoot (c : CopyId) (f : FmtA) (s : State) : Out := s.retireIf c (.fmtA .root f)

/-- TRIG: sine and cosine (R113). -/
def execTrig (c : CopyId) (f : FmtA) (s : State) : Out := s.retireIf c (.fmtA .trig f)

/-- PADR: adds a product and rounds (R113). -/
def execPadr (c : CopyId) (f : FmtA) (s : State) : Out := s.retireIf c (.fmtA .padr f)

/-- PACK: the store form into a data register (R113). -/
def execPack (c : CopyId) (f : FmtA) (s : State) : Out := s.retireIf c (.fmtA .pack f)

/-- HIGH: bits [47:24] into a data register (R113). -/
def execHigh (c : CopyId) (f : FmtA) (s : State) : Out := s.retireIf c (.fmtA .high f)

/-! ### The other formats (Table 04.7) -/

/-- END ends the task (R130). -/
def execEnd (c : CopyId) (s : State) : Out := s.retireIf c .end_

/-- LDI: an immediate into a register (R114). -/
def execLdi (c : CopyId) (cls : LdiCls) (reg : Fin 8) (imm : Word24) (s : State) : Out := s.retireIf c (.ldi cls reg imm)

/-- SHL: left modulo 2^56 (R114). -/
def execShl (c : CopyId) (acc : Fin 8) (n : Fin 64) (s : State) : Out := s.retireIf c (.shl acc n)

/-- SHR: arithmetic, right (R114). -/
def execShr (c : CopyId) (acc : Fin 8) (n : Fin 64) (s : State) : Out := s.retireIf c (.shr acc n)

/-- BRA on a condition (R116). -/
def execBra (c : CopyId) (cond : Cond) (target : Fin 8192) (s : State) : Out := s.retireIf c (.bra cond target)

/-- CALL on a condition (R122). -/
def execCall (c : CopyId) (cond : Cond) (target : Fin 8192) (s : State) : Out := s.retireIf c (.call cond target)

/-- RET on a condition (R122). -/
def execRet (c : CopyId) (cond : Cond) (s : State) : Out := s.retireIf c (.ret cond)

/-- LOOP with an immediate count or one from a data register (R123). -/
def execLoop (c : CopyId) (count : Fin 65536 ⊕ Fin 8) (last : Fin 8192) (s : State) : Out :=
  s.retireIf c (.loop (match count with
    | .inl n => .inl n.val
    | .inr r => .inr r) last)

/-- POST to an output port (R133). -/
def execPost (c : CopyId) (r : RegRef) (port : Fin 65536) (s : State) : Out := s.retireIf c (.post r port)

/-- LST: 56 bits as three words (R119). -/
def execLst (c : CopyId) (acc ptr : Fin 8) (y delta : Bool) (s : State) : Out := s.retireIf c (.lst acc ptr y delta)

/-- LLD: 56 bits from three words (R119). -/
def execLld (c : CopyId) (acc ptr : Fin 8) (y : Bool) (s : State) : Out := s.retireIf c (.lld acc ptr y)

/-- XFR between pointer and data register (R114). -/
def execXfr (c : CopyId) (toD : Bool) (dreg ptr : Fin 8) (s : State) : Out := s.retireIf c (.xfr toD dreg ptr)

/-- ADDP: an offset onto a pointer (R114). -/
def execAddp (c : CopyId) (ptr : Fin 8) (offset : Fin 16384) (s : State) : Out := s.retireIf c (.addp ptr offset)

end Sys2Proof.Machine
end

