-- ==== Sys2Proof/Machine/Admission.lean ====
section
/-!
DEFINITION. Placement and admission (R34 to R38, R126 to R128, R144, R207, R246, R253, R302, R323, R324, R334): which lane pair and
phase each task gets, what is allocated to it, and the conditions under which a configuration may leave CONFIGURE.
-/

namespace Sys2Proof.Machine

/-! ### Load (R34, R36) -/

/-- The window of a lane pair in one period, in instructions (R34): 2.5 ns × 260 M/s is 13/20 of an instruction a tick. -/
def State.window (s : State) : Nat := (s.fld F.SYS_PERIOD_TC - s.fld F.SYS_PERIOD_GUARD - 200) * 13 / 20

/-- k of R17. -/
def State.kOf (s : State) : Nat := s.fld F.SYS_PERIOD_K + 1

/-- A task kind of the running image is present (R125). -/
def State.kindPresent (s : State) (kind : Nat) : Bool := s.taskOf s.activeUnit kind F.ENG_TASK_PATH != 0

/-- A declared figure of a task of the running image. -/
def State.figure (s : State) (f : Fld) (t : TaskAlloc) : Nat := s.taskOf s.activeUnit t.kind f

/-- Tasks of a position that run in a phase. -/
def runsIn (ts : List TaskAlloc) (pos phase : Nat) : List TaskAlloc := ts.filter fun t => t.pos == pos && (t.kind == 0 || t.phase == phase)

/-- The load of a position in a phase, in instructions (R34). -/
def State.loadAt (s : State) (ts : List TaskAlloc) (pos phase : Nat) : Nat :=
  ((runsIn ts pos phase).map (s.figure F.ENG_TASK_PATH)).foldl (· + ·) 0

/-- The greatest load of a position over all phases. -/
def State.peakAt (s : State) (ts : List TaskAlloc) (pos : Nat) : Nat :=
  (List.range s.kOf).foldl (fun m p => max m (s.loadAt ts pos p)) 0

/-- The first element that gives the least value. -/
def argLeast {α : Type} (f : α → Nat) : List α → Option α
  | [] => none
  | x :: xs =>
    match argLeast f xs with
    | none => some x
    | some y => if f x ≤ f y then some x else some y

/-- The active lane pairs: the first ten of the active unit that are not retired (R36, R355). -/
def State.activeLanes (s : State) : List Nat :=
  ((List.range 12).filter fun l => !(s.retired s.activeUnit).testBit l).take 10

/-! ### Placement (R36) -/

/-- A task before its allocation. -/
def bareTask (kind axis pos phase : Nat) : TaskAlloc :=
  { kind := kind, axis := axis, pos := pos, phase := phase, xBase := 0, yBase := 0, inBase := 0x3C10, coefBase := 0, entry := 0
    other := none }

/-- Place the current loop of an axis. -/
def State.placeCurrent (s : State) (n : Nat) (ts : List TaskAlloc) (a : Nat) : List TaskAlloc :=
  match argLeast (fun l => s.peakAt ts l) (List.range n) with
  | none => ts
  | some l => ts ++ [bareTask 0 a l 0]

/-- Place the outer task of an axis: on the position of its current loop at the phase of least load, when that keeps the peak within
the limit; otherwise where the peak comes out least. -/
def State.placeOuter (s : State) (n limit : Nat) (ts : List TaskAlloc) (a : Nat) : List TaskAlloc :=
  let own := match ts.find? (fun t => t.kind == 0 && t.axis == a) with
    | some t => t.pos
    | none => 0
  let phases := List.range s.kOf
  let p := (argLeast (fun p => s.loadAt ts own p) phases).getD 0
  let at_ := fun (l p : Nat) => ts ++ [bareTask 1 a l p]
  if s.peakAt (at_ own p) own ≤ limit then at_ own p
  else
    let all := (List.range n).flatMap fun l => phases.map fun p => (l, p)
    match argLeast (fun (e : Nat × Nat) => s.peakAt (at_ e.1 e.2) e.1) all with
    | some e => at_ e.1 e.2
    | none => ts

/-- The limit on peak lane loads, in instructions (R35, R334). -/
def State.loadLimit (s : State) : Nat := if s.bit F.RED_CFG_ARM then s.window / 2 else s.window

/-- Placement of a configuration (R36). -/
def State.placement (s : State) : List TaskAlloc :=
  let n := s.activeLanes.length
  let cur := (List.range 32).filter fun a => s.fld F.AXIS_CFG_TYPE a == 1 && s.kindPresent 0
  let out := (List.range 40).filter fun a => s.hasOuter a && s.kindPresent 1
  if n = 0 then []
  else out.foldl (s.placeOuter n s.loadLimit) (cur.foldl (s.placeCurrent n) [])

/-! ### Allocation (R126) -/

/-- Tasks of a position in the order of R126: run order, phase after phase, each task once. -/
def State.visitOrder (s : State) (ts : List TaskAlloc) (pos : Nat) : List TaskAlloc :=
  let s1 := { s with red := { s.red with alloc := ts } }
  (List.range s.kOf).foldl (fun acc p => acc ++ (s1.runOrder pos p).filter fun t => !acc.contains t) []

/-- Give the tasks of a position their state regions, input blocks and coefficient regions. -/
def State.allocate (s : State) (ts : List TaskAlloc) : List TaskAlloc :=
  let step := fun (acc : List TaskAlloc × Nat × Nat × Nat) (t : TaskAlloc) =>
    let xs := s.figure F.ENG_TASK_XS t
    let ys := s.figure F.ENG_TASK_YS t
    (acc.1 ++ [{ t with xBase := acc.2.1, yBase := acc.2.2.1, inBase := acc.2.2.2, xLen := xs, yLen := ys
                        coefBase := s.figure F.ENG_TASK_CBASE t + t.axis * s.figure F.ENG_TASK_CSTRIDE t
                        entry := s.figure F.ENG_TASK_ENTRY t }],
     acc.2.1 + xs, acc.2.2.1 + ys, acc.2.2.2 + s.figure F.ENG_TASK_INW t)
  let one := fun (pos : Nat) => ((s.visitOrder ts pos).foldl step ([], 0, 0, 0x3C10)).1
  let all := (List.range 10).flatMap one
  all.map fun t =>
    { t with other := (all.find? fun o => o.pos == t.pos && o.axis == t.axis && o.kind != t.kind).map fun o => (o.xBase, o.yBase) }

/-! ### Conditions of the admission check -/

/-- The words of a position's regions and blocks. -/
def State.total (s : State) (f : Fld) (ts : List TaskAlloc) : Nat := (ts.map (s.figure f)).foldl (· + ·) 0

/-- SYS.PERIOD within its ranges (R19). -/
def State.periodOk (s : State) : Bool :=
  let tc := s.fld F.SYS_PERIOD_TC
  let g := s.fld F.SYS_PERIOD_GUARD
  let m := s.fld F.SYS_PERIOD_MID
  decide (3125 ≤ tc ∧ tc ≤ 100000 ∧ 80 ≤ g ∧ g ≤ 4000 ∧ 400 ≤ m ∧ m + g ≤ tc)

/-- Peak lane loads within the limit of R35 and R334. -/
def State.loadsOk (s : State) (ts : List TaskAlloc) : Bool :=
  (List.range 10).all fun l => decide (s.peakAt ts l ≤ s.loadLimit)

/-- The mid-period groups' last compare words come in time (R26): every instruction up to the end of the axis's current loop. -/
def State.midOk (s : State) (ts : List TaskAlloc) : Bool :=
  let s1 := { s with red := { s.red with alloc := ts } }
  (List.range 10).all fun pos => (List.range s.kOf).all fun p =>
    let run := s1.runOrder pos p
    let upToTask := fun (i : Nat) => ((run.take (i + 1)).map (s.figure F.ENG_TASK_PATH)).foldl (· + ·) 0
    (run.zipIdx).all fun e =>
      !(e.1.kind == 0 && s.fld F.AXIS_CFG_UPDPT e.1.axis == 1)
        || decide (upToTask e.2 * 20 ≤ (s.fld F.SYS_PERIOD_MID - 200) * 13)

/-- The limits of R127. -/
def State.limitsOk (s : State) (ts : List TaskAlloc) : Bool :=
  ((List.range 10).all fun pos =>
    let here := ts.filter (·.pos == pos)
    decide (s.total F.ENG_TASK_XS here ≤ 15360 ∧ s.total F.ENG_TASK_YS here ≤ 16384 ∧ s.total F.ENG_TASK_INW here ≤ 1008)
      && (List.range s.kOf).all fun p => decide (s.total F.ENG_TASK_DELTA (runsIn ts pos p) ≤ 384))
  && (List.range 2).all fun k =>
    !s.kindPresent k || decide (s.taskOf s.activeUnit k F.ENG_TASK_CBASE + 40 * s.taskOf s.activeUnit k F.ENG_TASK_CSTRIDE ≤ 4096)

/-- The entries of a present kind's input map are well formed (R128). An entry 0xFFC0, of which R128 excludes INSTANCE 63 while R134
makes mailbox slot 63 readable by it, is rejected (DESIGN CHOICE, log 86). -/
def State.mapOk (s : State) (kind : Nat) : Bool :=
  let img := s.unitImg s.activeUnit
  let inw := s.taskOf s.activeUnit kind F.ENG_TASK_INW
  (List.range inw).all fun j =>
    let e := img.maps.get (1024 * kind + j) 0
    e == 0 ||
      match s.entryWords e with
      | none => false
      | some w =>
        !(idInst e == 63 && !ownClass (idClass e)) && decide (j + w ≤ inw)
          && (List.range (w - 1)).all fun i => img.maps.get (1024 * kind + j + 1 + i) 0 == 0

/-- Instances a class of input items has (R9). -/
def itemInstance (id : Nat) : Bool :=
  let i := idInst id
  match idClass id with
  | 1 | 5 | 6 => decide (i < 40) || i == 63
  | 2 => decide (i < 32)
  | 3 => decide (i < 32) || i == 63 || (decide (i < 40) && idObj id == 0x08)
  | 4 => decide (i < 48)
  | 8 => decide (16 ≤ i ∧ i < 32)
  | 9 => decide (i < 4)
  | 0xA => i == 0
  | _ => true

/-- A present kind's input map names an instance that no chapter assigns: an undefined use (R9). -/
def State.mapInstanceBad (s : State) : Bool :=
  (List.range 2).any fun k => s.kindPresent k &&
    (List.range (s.taskOf s.activeUnit k F.ENG_TASK_INW)).any fun j =>
      let e := (s.unitImg s.activeUnit).maps.get (1024 * k + j) 0
      e != 0 && (s.entryWords e).isSome && !(idInst e == 63 && !ownClass (idClass e)) && !itemInstance e

/-- The axis conditions of R144. -/
def State.axisOk (s : State) (a : Nat) : Bool :=
  let ty := s.fld F.AXIS_CFG_TYPE a
  if ty = 0 then true
  else if ty = 2 then decide (32 ≤ a)
  else if ty = 3 then false
  else
    let br := s.fld F.AXIS_CFG_BRIDGE a
    let up := s.fld F.AXIS_CFG_UPDPT a
    let fb := s.axisFb a
    let sl := s.bit F.AXIS_CFG_SENSORLESS a
    let gs := s.axisGroups a
    let others := (List.range 32).filter fun b => b != a && s.fld F.AXIS_CFG_TYPE b == 1
    decide (a < 32) && (br == 0 || decide (s.fld F.AXIS_CFG_NBR a ≤ 1 ∧ s.fld F.AXIS_CFG_PWM0 a % 2 = 0))
      && gs.all (fun g => decide (g < 32) && s.fld F.PWMG_CFG_UPDPT g == up && others.all fun b => !(s.axisGroups b).contains g)
      && (if sl then fb == 63 && !s.bit F.AXIS_CFG_POSLOOP a else decide (fb < 32))
      && others.all (fun b => fb == 63 || s.axisFb b != fb)
      && s.fld F.AXIS_CFG_CPR a != 0 && s.fld F.AXIS_CFG_CURCTL a != 3 && br != 3 && up != 3

/-- The axis follows a chain of command masters `n` long (R207). -/
def State.masterChain (s : State) (a : Nat) : Nat → Bool
  | 0 => true
  | n + 1 => s.masterKind a == 1 && s.masterChain (s.masterIndex a) n

/-- The conditions on masters and network master slots (R207, R323). -/
def State.masterOk (s : State) (a : Nat) : Bool :=
  let i := s.masterIndex a
  match s.masterKind a with
  | 0 => true
  | 1 => decide (i < 40) && i != a && s.hasOuter i && !s.masterChain a 40
  | 2 | 5 => decide (i < 32)
  | 3 => decide (i < 16) && decide (s.fld F.NET_MASTER_WOFF 0 i + 1 < s.rxCount (s.fld F.NET_MASTER_RXCH 0 i))
  | 4 => decide (i < 8)
  | _ => false

/-- The conditions on caravans (R207). -/
def State.caravanOk (s : State) (g : Nat) : Bool :=
  let slots := (List.range 8).map (s.member g)
  let ms := s.members g
  slots.take ms.length == ms
    && ms.all fun a =>
      s.hasOuter a && (decide (32 ≤ a) || s.bit F.AXIS_CFG_POSLOOP a)
        && (List.range 4).all fun h => h == g || !(s.members h).contains a

/-- The fields groups that act as one must share (R246, R253): CARRIER, PER, UPDPT, DT, MINP, TRIP_MASK, the blanking fields. -/
def gangFields : List Fld :=
  [F.PWMG_CFG_CARRIER, F.PWMG_CFG_PER, F.PWMG_CFG_UPDPT, F.PWMG_CFG_DT, F.PWMG_CFG_MINP, F.PWMG_CFG_TRIP_MASK, F.PWMG_CFG_BLANK_EN,
   F.PWMG_CFG_BLANK_SEL, F.PWMG_CFG_BLANK_GRP]

/-- Two groups agree in fields. -/
def State.agree (s : State) (fs : List Fld) (g h : Nat) : Bool := fs.all fun f => s.fld f g == s.fld f h

/-- The conditions on one group (R246). -/
def State.groupOk (s : State) (g : Nat) : Bool :=
  let per := s.gper g
  let kind := s.gkind g
  let pair := gangFields ++ [F.PWMG_CFG_PHASE, F.PWMG_CFG_GANG_EN, F.PWMG_CFG_LEAD]
  kind != 3 && s.fld F.PWMG_CFG_UPDPT g != 3 && decide (64 ≤ per ∧ per ≤ 0xFFFFE)
    && !(s.bit F.PWMG_CFG_CARRIER g && per % 2 == 1)
    && decide (coarse (s.fld F.PWMG_CFG_PHASE g) < per) && decide (s.fld F.PWMG_CFG_DT g ≤ 4096 ∧ s.fld F.PWMG_CFG_MINP g ≤ 2048)
    && (kind != 1 || (g % 2 == 0 && decide (g + 1 < 32) && s.gkind (g + 1) == 2 && s.agree pair g (g + 1)))
    && (kind != 2 || (g % 2 == 1 && s.gkind (g - 1) == 1))
    && (kind == 0 || s.fld F.PWMG_CFG_IDLE g == 0)

/-- The groups of a gang, by its LEAD (R253). -/
def State.gangLed (s : State) (lead : Nat) : List Nat :=
  (List.range 32).filter fun g => s.bit F.PWMG_CFG_GANG_EN g && s.fld F.PWMG_CFG_LEAD g == lead

/-- The rules under "Ganged groups" for the gang of a group (R253). -/
def State.gangOk (s : State) (g : Nat) : Bool :=
  !s.bit F.PWMG_CFG_GANG_EN g ||
    (let lead := s.fld F.PWMG_CFG_LEAD g
     let gs := s.gangLed lead
     gs.contains lead && decide (gs.length ≤ 4)
       && gs.all fun h => s.agree gangFields lead h && s.threeLevel lead == s.threeLevel h)

/-- The groups of an axis with several bridges form one gang (R246). -/
def State.axisGangOk (s : State) (a : Nat) : Bool :=
  s.fld F.AXIS_CFG_TYPE a != 1 || s.fld F.AXIS_CFG_NBR a == 0 ||
    (let gs := s.axisGroups a
     let lead := s.fld F.PWMG_CFG_LEAD (s.fld F.AXIS_CFG_PWM0 a)
     s.gangLed lead == gs)

/-- The frame bound B of a serial channel (R302). -/
def State.frameBound (s : State) (n : Nat) : Nat :=
  if s.fbMode n = 3 then (s.ssiBits n + 1) * s.serT n + s.fld F.FB_SERIAL_SSI_DLY n + 16
  else (16 + s.fld F.FB_SERIAL_TIMEOUT n + 2 + max (s.fld F.FB_SERIAL_POSBITS n) 16 + 16) * s.serT n + 16

/-- The conditions on a feedback channel (R302). -/
def State.fbOk (s : State) (n : Nat) : Bool :=
  let mode := s.fld F.FB_CFG_MODE n
  let gate := s.fld F.FB_CFG_Z_GATE n
  let tc := s.fld F.SYS_PERIOD_TC
  let lead := s.fld F.FB_SERIAL_LEAD n
  let req := s.fld F.FB_SERIAL_REQ n
  let pos := s.fld F.FB_SERIAL_POSBITS n
  decide (mode ≤ 4) && (gate == 0 || decide (4 ≤ gate)) && s.fld F.FB_CFG_REREF n != 3 && s.fld F.FB_SERIAL_PARITY n != 3 && req != 3
    && decide (sint 24 (s.fld F.FB_CFG_V_DOWN n) ≤ sint 24 (s.fld F.FB_CFG_V_UP n))
    && (!(mode == 3 || mode == 4) ||
      (decide (8 ≤ pos ∧ pos ≤ 40 ∧ s.fld F.FB_SERIAL_STBITS n ≤ 8 ∧ 12 ≤ s.fld F.FB_SERIAL_SER_DIV n
          ∧ s.fld F.FB_SERIAL_SER_DIV n ≤ 2000 ∧ s.fld F.FB_SERIAL_TIMEOUT n ≠ 0)
        && (req != 0 || decide (lead ≤ tc ∧ s.frameBound n ≤ lead ∧ s.frameBound n + s.fld F.FB_SERIAL_RECOV n ≤ tc))))

/-- The conditions on the channel and the inputs of a drive axis (R302). -/
def State.axisInputsOk (s : State) (a : Nat) : Bool :=
  let fb := s.axisFb a
  let on := fun (i : Nat) => decide (i < 96) && s.bit F.CS_CFG_EN i
  s.fld F.AXIS_CFG_TYPE a != 1 ||
    ((decide (32 ≤ fb) || (s.fld F.FB_CFG_MODE fb != 0 && s.fld F.FB_CFG_SPD_FULL fb == 0
        && s.fld F.FB_CFG_SPD_EXP fb == s.fld F.AXIS_CFG_SPD_EXP a))
      && ((List.range (3 * (s.fld F.AXIS_CFG_NBR a + 1))).all fun i => on (s.fld F.AXIS_CFG_IS0 a + i))
      && on (s.fld F.AXIS_CFG_VDC a) && (s.fld F.AXIS_CFG_BRIDGE a == 0 || on (s.fld F.AXIS_CFG_VDC_N a)))

/-- The conditions on a sigma-delta input (R302). -/
def State.sdOk (s : State) (i : Nat) : Bool :=
  let div := s.sdDiv (s.fld F.CS_CFG_CLKSEL i)
  decide (s.fld F.CS_CFG_OSR i ≤ 4) && s.fld F.CS_CFG_SAMP i != 3
    && (!s.bit F.CS_CFG_EN i || (decide (16 ≤ div ∧ div ≤ 80) && (s.fld F.CS_OC_ORD i == 0 || decide (4 ≤ s.fld F.CS_OC_ROC i))))

/-- The conditions on an emulation output (R302). -/
def State.emuOk (s : State) (e : Nat) : Bool :=
  let src := s.fld F.FB_CFG_MODE (s.fld F.EMU_CFG_SRC e)
  (s.fld F.EMU_CFG_MODE e != 3 || src == 1 || src == 2) && decide (4 ≤ s.fld F.EMU_CFG_MINSEP e)

/-- The bit timing of an enabled CAN channel (R324). -/
def State.canOk (s : State) (c : Nat) : Bool := !s.bit F.CAN_CFG_EN c || Config.canTimingOk (s.obj .canCfg c 0)

/-- The mapping of positions to the active unit's lane pairs that a placement takes (R36, R340). -/
def State.placeMap (s : State) : SMap Nat :=
  let u := s.activeUnit
  s.activeLanes.zipIdx.foldl (fun (m : SMap Nat) e => m.set (16 * u + e.2) e.1 12)
    ((List.range 10).foldl (fun (m : SMap Nat) p => m.set (16 * u + p) 12 12) s.red.map)

/-- The standby unit's lane pairs for the placed positions (R340), and the state regions' size, with ARM; the cairn's capacity in any
case (R334). -/
def State.redundancyOk (s : State) (ts : List TaskAlloc) : Bool :=
  let used := (List.range 10).filter fun p => ts.any (·.pos == p)
  let offered := { s with red := { s.red with map := s.placeMap } }.standbyMap s.activeUnit
  ((List.range s.kOf).all fun p => decide (s.total F.ENG_TASK_DELTA (ts.filter fun t => t.kind == 0 || t.phase == p) ≤ 3248))
    && (!s.bit F.RED_CFG_ARM ||
      ((used.all fun p => offered.any fun e => e.1 == p)
        && used.all fun p => decide (s.total F.ENG_TASK_XS (ts.filter (·.pos == p)) + s.total F.ENG_TASK_YS (ts.filter (·.pos == p)) ≤ 2048)))

/-- The admission check of R35 on the present configuration. -/
def State.admits (s : State) : Bool :=
  let ts := s.placement
  s.periodOk && s.loadsOk ts && s.midOk ts && s.limitsOk ts
    && ((List.range 2).all fun k => !s.kindPresent k || s.mapOk k)
    && ((List.range 40).all fun a => s.axisOk a && s.masterOk a)
    && ((List.range 32).all fun i => s.groupOk i && s.gangOk i && s.axisGangOk i && s.fbOk i && s.axisInputsOk i)
    && ((List.range 96).all s.sdOk) && ((List.range 8).all s.emuOk)
    && ((List.range 4).all fun g => s.caravanOk g && s.canOk g)
    && s.redundancyOk ts

/-! ### Placement taken into force, and removed (R38, R43) -/

/-- SYS.PLACE of a position's lane pair (R38). -/
def State.showPlace (s : State) (ts : List TaskAlloc) (pos lane : Nat) : State :=
  let here := ts.filter (·.pos == pos)
  let bits := fun (p : TaskAlloc → Bool) (n : Nat) => bitSet ((here.filter p).map fun t => t.axis - n)
  let w := s.window
  let peak := if w = 0 then 0 else (s.peakAt ts pos * 100 + w - 1) / w
  [(F.SYS_PLACE_CUR, bits (·.kind == 0) 0), (F.SYS_PLACE_OUT, bits (fun t => t.kind == 1 && decide (t.axis < 32)) 0),
   (F.SYS_PLACE_OUTV, bits (fun t => t.kind == 1 && decide (32 ≤ t.axis)) 32), (F.SYS_PLACE_PEAK, peak), (F.SYS_PLACE_STATE, 0)].foldl
    (fun s e => s.setFld e.1 e.2 0 lane) s

/-- The placement of the present configuration comes into force (R36, R38, R43, R126, R340). -/
def State.place (s : State) : State :=
  let ts := s.allocate s.placement
  let u := s.activeUnit
  let lanes := s.activeLanes
  let s1 := { s with red := { s.red with alloc := ts, map := s.placeMap } }
  let s2 := s1.forRange 12 fun s l =>
    s.setFld F.SYS_PLACE_STATE (if (s.retired u).testBit l then 2 else if lanes.contains l then 0 else 1) 0 l
  let s3 := lanes.zipIdx.foldl (fun s e => s.showPlace ts e.2 e.1) s2
  let s4 := (ts.filter (·.kind == 1)).foldl (fun s t => s.setObj .sysPhase 0 t.axis t.phase) s3
  s4.mapStandby

/-- Entering CONFIGURE removes the placement (R43). -/
def State.unplace (s : State) : State :=
  let s1 := { s with red := { s.red with alloc := [], map := [] } }
  (s1.forRange 12 fun s l => s.resetObj .sysPlace 0 l).forRange 40 fun s a => s.resetObj .sysPhase 0 a

end Sys2Proof.Machine
end

