-- ==== Sys2Proof/Machine/Images.lean ====
section
/-!
DEFINITION. Image slots, the check of an image, and the loading of units and lane pairs from it (R49, R50, R63, R65, R82, R138, R139,
R420, R421, Table 02.7, Table 15.2).
-/

namespace Sys2Proof.Machine

/-! ### Slots -/

def State.slot (s : State) (n : Nat) : SlotSt := s.boot.slots.get n {}

def State.setSlot (s : State) (n : Nat) (v : SlotSt) : State :=
  { s with boot := { s.boot with slots := s.boot.slots.set n v {} } }

/-- SYS.BOOT shows a slot's state and generation (R49, R50). -/
def State.showSlots (s : State) : State :=
  let code := fun (v : SlotSt) => if v.failed then 3 else v.state
  (((s.setFld F.SYS_BOOT_SLOT0_STATE (code (s.slot 0))).setFld F.SYS_BOOT_SLOT1_STATE (code (s.slot 1))).setFld F.SYS_BOOT_SLOT0_GEN
    (s.slot 0).gen).setFld F.SYS_BOOT_SLOT1_GEN (s.slot 1).gen

/-- Bytes `off` to `off + n − 1` of a slot as a number, little-endian (R5). -/
def rdSlot (b : SMap Byte) (off n : Nat) : Nat :=
  b.foldl (fun v e => if off ≤ e.1 ∧ e.1 < off + n then v + e.2.toNat * 2 ^ (8 * (e.1 - off)) else v) 0

/-- The non-zero words of a table of `count` words of `size` bytes at `off`. -/
def slotWords (b : SMap Byte) (off size count : Nat) : SMap Nat :=
  b.foldl (fun (m : SMap Nat) e =>
    if off ≤ e.1 ∧ e.1 < off + size * count then
      let i := (e.1 - off) / size
      m.set i (m.get i 0 + e.2.toNat * 2 ^ (8 * ((e.1 - off) % size))) 0
    else m) []

/-- A slot's bytes from 0 to `n` − 1. -/
def slotBytes (b : SMap Byte) (n : Nat) : List Byte := (List.range n).map fun i => b.get i 0

/-! ### The image of a slot (Table 15.2) -/

/-- Offset `i` of OFFSETS. -/
def imgOffset (b : SMap Byte) (i : Nat) : Nat := rdSlot b (20 + 4 * i) 4

/-- The task table of an image: ENG.TASK entries 0 to 7. -/
def imgTasks (b : SMap Byte) : List Nat := (List.range 8).map fun t => rdSlot b (imgOffset b 0 + 16 * t) 16

/-- The input maps of an image: entry j of kind t at 1024 t + j; eight lists of INW entries, one after another. -/
def imgMaps (b : SMap Byte) : SMap Nat :=
  let inw := (imgTasks b).map (taskFld F.ENG_TASK_INW)
  let start := fun (t : Nat) => ((inw.take t).foldl (· + ·) 0) * 2 + imgOffset b 1
  (List.range 8).foldl (fun m t =>
    (slotWords b (start t) 2 (inw.getD t 0)).foldl (fun (m : SMap Nat) e => m.set (1024 * t + e.1) e.2 0) m) []

/-- What the hub keeps of an image. -/
def imgOf (b : SMap Byte) : UnitImg :=
  { tasks := imgTasks b, maps := imgMaps b, prog := rdSlot b 12 4, cfmt := rdSlot b 6 1, digest := rdSlot b 64 32 }

/-- The program of an image, 8,192 words of 6 bytes. -/
def imgProgram (b : SMap Byte) : SMap Word48 :=
  (slotWords b (imgOffset b 2) 6 8192).foldl (fun (m : SMap Word48) e => m.set e.1 (BitVec.ofNat 48 e.2) 0) []

/-- A bank of an image, 4,096 words of 3 bytes: A, then B. -/
def imgBank (b : SMap Byte) (bankB : Bool) : SMap Word24 :=
  (slotWords b (imgOffset b 3 + (if bankB then 12288 else 0)) 3 4096).foldl
    (fun (m : SMap Word24) e => m.set e.1 (BitVec.ofNat 24 e.2) 0) []

/-- The records of a configuration section: identifier, length, contents. -/
def cfgRecords (b : SMap Byte) (stop : Nat) : Nat → Nat → List SnapObj
  | _, 0 => []
  | at_, k + 1 =>
    if stop < at_ + 4 then []
    else
      let n := rdSlot b (at_ + 2) 2
      { id := rdSlot b at_ 2, len := n, value := rdSlot b (at_ + 4) n } :: cfgRecords b stop (at_ + 4 + n) k

/-- The configuration section of an image (R422). -/
def imgConfig (b : SMap Byte) : List SnapObj :=
  let o := imgOffset b 4
  let n := rdSlot b 40 4
  cfgRecords b (o + n) o (n / 4 + 1)

/-- The check of an image (R421): DIGEST; with a configuration key, KEY_ID and the signature too. -/
def State.imageOk (s : State) (n : Nat) : Bool :=
  let b := (s.slot n).bytes
  let len := rdSlot b 8 4
  let zeroed : SMap Byte := b.filter fun (e : Nat × Byte) => !(decide (64 ≤ e.1) && decide (e.1 < 160))
  let digest := sha256 (slotBytes zeroed len)
  digest == rdSlot b 64 32
    && (!s.bit F.SEC_CFGKEY_PRESENT
      || (rdSlot b 16 4 == s.fld F.SEC_CFGKEY_KEY_ID && ecdsaVerify (s.fld F.SEC_CFGKEY_KEY) digest (rdSlot b 96 64)))

/-! ### Loaded units (R138, R139) -/

/-- ENG.IDENT, ENG.TASK and SYS.BOOT.UNITS follow what the units hold (R50, R139). -/
def State.showUnits (s : State) : State :=
  let img := fun (u : Nat) => if s.unitLoaded u then s.unitImg u else {}
  let s1 := [(F.ENG_IDENT_PROG_A, (img 0).prog), (F.ENG_IDENT_PROG_B, (img 1).prog), (F.ENG_IDENT_CFMT_A, (img 0).cfmt),
    (F.ENG_IDENT_CFMT_B, (img 1).cfmt),
    (F.ENG_IDENT_DIFFER, (s.red.loadedA && s.red.loadedB && (img 0).prog != (img 1).prog).toNat),
    (F.SYS_BOOT_UNITS, s.red.loadedA.toNat + 2 * s.red.loadedB.toNat)].foldl (fun s (e : Fld × Nat) => s.setFld e.1 e.2) s
  s1.forRange 8 fun s t => s.setObj .engTask 0 t ((s.unitImg s.activeUnit).tasks.getD t 0)

def State.setLoaded (s : State) (u : Nat) (b : Bool) : State :=
  if u = 0 then { s with red := { s.red with loadedA := b } } else { s with red := { s.red with loadedB := b } }

/-- A master copy of a bank (R135). -/
def State.masterBank (s : State) (bankB : Bool) : SMap Word24 :=
  let o : Obj := if bankB then .engCoefB else .engCoefA
  (List.range 4096).foldl (fun (m : SMap Word24) i => m.set i (BitVec.ofNat 24 (s.obj o 0 i)) 0) []

/-- Replace the master copies (R135, R138). -/
def State.setMaster (s : State) (a b : SMap Word24) : State :=
  s.forRange 4096 fun s i => (s.setObj .engCoefA 0 i (a.get i 0).toNat).setObj .engCoefB 0 i (b.get i 0).toNat

/-- A lane pair takes a program and banks; its data memories and everything else are cleared (Table 02.7). -/
def State.loadPair (s : State) (u l : Nat) (prog : SMap Word48) (a b : SMap Word24) : State :=
  let v : Lane := { prog := prog, bankA := a, bankB := b }
  ((s.setLane u l 0 v).setLane u l 1 v).setPair u l {}

/-- A unit takes the program of a slot and two banks: every lane pair, with what the hub keeps of the image. -/
def State.loadUnit (s : State) (u n : Nat) (a b : SMap Word24) : State :=
  let bytes := (s.slot n).bytes
  let s1 := s.forRange 12 fun s l => s.loadPair u l (imgProgram bytes) a b
  let s2 := { s1 with red := { s1.red with images := s1.red.images.set u (imgOf bytes) {} }
                      boot := { s1.boot with unitSlot := s1.boot.unitSlot.set u (some n) none } }
  let s3 := s2.setLoaded u true
  let s4 := if u = 0 then { s3 with red := { s3.red with lostA := false } } else { s3 with red := { s3.red with lostB := false } }
  s4.showUnits

/-- A unit holds no program (R50). -/
def State.unloadUnit (s : State) (u : Nat) : State :=
  let s1 := s.forRange 12 fun s l => s.loadPair u l [] [] []
  let s2 := { s1 with red := { s1.red with images := s1.red.images.set u {} {} }
                      boot := { s1.boot with unitSlot := s1.boot.unitSlot.set u none none } }
  (s2.setLoaded u false).showUnits

/-- The slot a reload takes: the running slot, or with SRC the pending one (R63). -/
def State.reloadSlot (s : State) (src : Bool) : Option Nat :=
  if src then (List.range 2).find? fun n => (s.slot n).state == 2 else s.boot.running

/-- The slot that is not running (R63). -/
def State.otherSlot (s : State) : Nat := if s.boot.running = some 0 then 1 else 0

/-- Every loaded unit holds the pending image: its slot becomes valid, and the running slot (R63, R65). -/
def State.settlePending (s : State) (n : Nat) : State :=
  let holds := fun (u : Nat) => !s.unitLoaded u || s.boot.unitSlot.get u none == some n
  if (s.slot n).state == 2 && holds 0 && holds 1 then
    let s1 := s.setSlot n { s.slot n with state := 1 }
    { s1 with boot := { s1.boot with running := some n } }.showSlots
  else s

/-- The reload of a unit is done: its programs, its banks (R138), and its place as a unit again (R346, R462). -/
def State.reloadUnit (s : State) (u : Nat) (src : Bool) : State :=
  match s.reloadSlot src with
  | none => s
  | some n =>
    let a := if src then imgBank (s.slot n).bytes false else s.masterBank false
    let b := if src then imgBank (s.slot n).bytes true else s.masterBank true
    let s1 := s.loadUnit u n a b
    let s2 := if src then (if u = s.activeUnit then s1.setMaster a b else s1).settlePending n else s1
    { s2 with red := { s2.red with failed := putBits s2.red.failed u 1 0 } }

/-- The reload of a lane pair is done (R138, Table 02.7). -/
def State.reloadPair (s : State) (u l : Nat) : State :=
  match s.boot.running with
  | none => s
  | some n => s.loadPair u l (imgProgram (s.slot n).bytes) (s.masterBank false) (s.masterBank true)

/-- IMAGE_WRITE (R82): `last` makes the slot pending once its bytes are written. With no slot running, which R82 does not speak of, its
generation becomes 1 (DESIGN CHOICE, log 80). -/
def State.imageWrite (s : State) (n off len data : Nat) (last : Bool) : State × Result :=
  if s.boot.running = some n then (s, refused 0x1)
  else if 2 ^ 20 < off + len then (s, refused 0x2)
  else
    let v := s.slot n
    let bytes := (List.range len).foldl (fun (m : SMap Byte) i => m.set (off + i) (BitVec.ofNat 8 (data / 2 ^ (8 * i))) 0) v.bytes
    let v1 := { v with bytes := bytes }
    let v2 := if off = 0 then { v1 with state := 0, failed := false } else v1
    let gen := match s.boot.running with
      | some r => (s.slot r).gen + 1
      | none => 1
    let v3 := if last then { v2 with state := 2, failed := false, gen := gen } else v2
    ((s.setSlot n v3).showSlots, done)

/-- IMAGE_WRITE would carry a slot's generation beyond 0xFFFF_FFFF (Table 17.1). -/
def State.genOverflow (s : State) : Bool := s.boot.running.any fun r => decide (2 ^ 32 ≤ (s.slot r).gen + 1)

end Sys2Proof.Machine
end

