-- ==== Sys2Proof/Machine/Redundancy.lean ====
section
/-!
DEFINITION. Restoration, handover, planned swap, lane migration, evaluation windows and spares (R339 to R359, R462).
-/

namespace Sys2Proof.Machine

/-! ### Restoration (R342, R343) -/

/-- Words of the mirror for a state region of `n` words, by address. -/
def State.mirrorRegion (s : State) (pos n : Nat) (y : Bool) : SMap Word24 :=
  let base := mirrorKey pos y 0
  (s.red.mirror.filter fun (e : Nat × Word24) => decide (base ≤ e.1 ∧ e.1 < base + n)).map fun e => (e.1 - base, e.2)

/-- A region replaces the first `n` words of a memory. -/
def putRegion (m region : SMap Word24) (n : Nat) : SMap Word24 := region ++ m.filter fun (e : Nat × Word24) => decide (n ≤ e.1)

/-- A cairn entry written into a copy. -/
def Lane.pokeEntry (l : Lane) (e : DeltaEntry) : Lane :=
  let bad := l.badParity.filter fun b => b != (e.mem, e.addr)
  match e.mem with
  | .y => { l with y := l.y.set e.addr e.word 0, badParity := bad }
  | _ => { l with x := l.x.set e.addr e.word 0, badParity := bad }

/-- The sealed cairns the mirror lacks, in period order. -/
def State.cairnsPast (s : State) : List CairnSt :=
  (List.range 4).filterMap fun k =>
    (s.red.cairns.find? fun e => e.2.count == s.red.mirrorCount + 1 + k && e.2.sealed).map (·.2)

/-- One copy of the lane pair that is to carry a position takes its state (R342). -/
def State.restoreCopy (s : State) (u l pos c : Nat) : State :=
  let v := s.lane u l c
  let xn := s.xTop pos
  let yn := s.yTop pos
  let bad := v.badParity.filter fun (b : LaneMem × Nat) =>
    !((b.1 == .x && decide (b.2 < xn)) || (b.1 == .y && decide (b.2 < yn)))
  let v1 := { v with x := putRegion v.x (s.mirrorRegion pos xn false) xn, y := putRegion v.y (s.mirrorRegion pos yn true) yn
                     badParity := bad }
  let es := s.cairnsPast.flatMap fun k => k.entries.filterMap fun e => if e.pos = pos then some e.entry else none
  s.setLane u l c (es.foldl Lane.pokeEntry v1)

/-- A lane pair takes a position's state, and the periods after the last sealed one, in order (R342, R343). -/
def State.restorePair (s : State) (u l pos : Nat) : State :=
  let last := s.red.sealedCount
  let s1 := (s.restoreCopy u l pos 0).restoreCopy u l pos 1
  let due := (List.range (s.per.count - last)).map fun k => last + 1 + k
  (s1.setPair u l { s1.pair u l with periods := due, busy := false, outputs := [], done := last, outCount := last
                                     late := false, withheld := false }).dispatchNext u l

/-- Every position's lane pair of a unit is restored. -/
def State.restoreUnit (s : State) (u : Nat) : State :=
  s.forRange 10 fun s p => if s.laneOf u p < 12 then s.restorePair u (s.laneOf u p) p else s

/-- A unit's programs are intact: its core supply has not fallen below 0.60 V since it was loaded (R52). -/
def State.unitLost (s : State) (u : Nat) : Bool := if u = 0 then s.red.lostA else s.red.lostB

/-- A unit's wake-up reads its programs back: with them lost the read-back fails, UNIT_READBACK is raised and the unit is fenced
(R50, R52). -/
def State.wakeFails (s : State) (u : Nat) : State := (s.raise K.UNIT_READBACK u u 1).fenceUnit u

/-- Restoration ends (R342): of a takeover, a planned swap, or a migration. A unit whose programs are lost, or whose
fence is raised, does not come up. -/
def State.restorationDone (s : State) : State :=
  match s.red.takeover, s.red.swap, s.red.migrate with
  | some t, _, _ =>
    if t.restored || s.fenced (.unit t.incoming) then s
    else if s.unitLost t.incoming then s.wakeFails t.incoming
    else
      let t1 := { t with restored := true, lastSealed := s.red.sealedCount, sealedSeq := s.red.sealedSeq }
      { s with red := { s.red with takeover := some t1 } }.restoreUnit t.incoming
  | none, some w, _ =>
    if w.restored || s.fenced (.unit w.incoming) then s
    else if s.unitLost w.incoming then s.wakeFails w.incoming
    else { s with red := { s.red with swap := some { w with restored := true } } }.restoreUnit w.incoming
  | none, none, some m =>
    if m.restored || s.fenced (.lane m.unit m.spare) then s
    else { s with red := { s.red with migrate := some { m with restored := true } } }.restorePair m.unit m.spare m.pos
  | none, none, none => s

/-! ### The incoming unit becomes active (R346, R350) -/

/-- SYS.MODE, SYS.PLACE, ENG.TASK and the placement generation follow the unit that becomes active; with another program the
master copies are its banks (R135, R346). -/
def State.makeActive (s : State) (u : Nat) : State :=
  let s1 := s.setFld F.SYS_MODE_ACTIVE_UNIT u
  let s2 := s1.forRange 12 fun s l =>
    (s.resetObj .sysPlace 0 l).setFld F.SYS_PLACE_STATE (if (s.retired u).testBit l then 2 else 1) 0 l
  let s3 := s2.forRange 10 fun s p => if s.laneOf u p < 12 then s.showPlace s.red.alloc p (s.laneOf u p) else s
  let s4 := ({ s3 with red := { s3.red with mapGen := s3.red.mapGen + 1 } }).mapStandby.showUnits
  let s5 := if (s.unitImg 0).prog = (s.unitImg 1).prog then s4 else s4.setMaster (s4.lane u 0 0).bankA (s4.lane u 0 0).bankB
  { s5 with boot := { s5.boot with running := s5.boot.unitSlot.get u s5.boot.running } }.restartWindow s.per.count

/-- The handover of a takeover, at the boundary that begins the handover period (R346). -/
def State.handover (s : State) (t : TakeoverSt) : State :=
  let gap := (s.per.count - t.atCount) * s.fld F.SYS_PERIOD_TC
  let tk := satNat 255 s.red.takeovers s.red.takeoversSat
  let s1 := s.makeActive t.incoming
  let red := { s1.red with takeover := none, replayTo := s.per.count, failed := s1.red.failed ||| 2 ^ t.failed, lastSeq := s.per.seq,
                           lastGap := gap % 2 ^ 32, takeovers := tk.1, takeoversSat := tk.2
                           reload := if s.mayReload t.failed t.stamp then some t.failed else s1.red.reload }
  let data := t.failed + t.source % 2 ^ 16 * 2 ^ 16 + t.sealedSeq % 2 ^ 32 * 2 ^ 32 + s.per.seq * 2 ^ 64 + gap % 2 ^ 32 * 2 ^ 96
  (({ s1 with red := red } : State).raiseAt s.per.t0 K.TAKEOVER t.failed data 2).noteRedundancy

/-- The period, after n of R347, by which a handover must have begun: n + jmax + 2 (R347, R348). -/
def State.takeoverLimit (s : State) (t : TakeoverSt) : Nat :=
  let tc := s.fld F.SYS_PERIOD_TC
  let u := t.atCount - t.lastSealed
  t.atCount + (if tc = 0 then 0 else ((u + 1) * tc + 4800) / tc) + 2

/-- A takeover at a boundary: it hands over when the incoming unit's words of this period will reach every group in time
(`reach`), and fails when that has not begun two periods after the period the bound of R347 allows (R343, R346, R348). -/
def State.takeoverBoundary (s : State) (reach : Bool) : State :=
  match s.red.takeover with
  | none => s
  | some t =>
    if t.restored && reach then s.handover t
    else if s.takeoverLimit t ≤ s.per.count then s.failTakeover 3
    else s

/-- A planned swap at the boundary of period b + 2: the incoming unit becomes active, and the outgoing unit holds no running
state (R350). -/
def State.swapBoundary (s : State) : State :=
  match s.red.swap with
  | some w =>
    if w.atCount + 2 ≤ s.per.count then
      let old := 1 - w.incoming
      let raised := s.fenced (.unit old)
      let s1 := ({ s with red := { s.red with swap := none, traces := [], lastSeq := s.per.seq } }).makeActive w.incoming
      ((s1.fenceUnit old).setFence (.unit old) raised).noteRedundancy
    else s
  | none => s

/-- A migration that has not ended 64 periods after its start is abandoned (R354). -/
def State.migrateBoundary (s : State) : State :=
  match s.red.migrate with
  | some m => if m.atCount + 64 ≤ s.per.count then s.failMigrate 2 else s
  | none => s

/-- AUTO_RELOAD at the first boundary after a handover: the fenced unit is reloaded as by SYS.RESET (R346, R462). -/
def State.autoReload (s : State) : State :=
  match s.red.reload with
  | none => s
  | some u =>
    let s1 := { s with red := { s.red with reload := none } }
    if !s.fenced (.unit u) || s.boot.jobs.any (fun j => j.block == .unit u) then s1
    else
      let job : ResetJob := { block := .unit u, kind := 6 }
      let s2 := { s1 with boot := { s1.boot with jobs := s1.boot.jobs ++ [job] } }
      if u = 0 then { s2 with red := { s2.red with reloadedA := some s.now } } else { s2 with red := { s2.red with reloadedB := some s.now } }

/-! ### SWAP, MIGRATE and UNRETIRE (R349 to R356) -/

/-- The standby unit offers a lane pair for every position that carries one in the active unit (R340). -/
def State.offersEnough (s : State) : Bool :=
  let u := s.activeUnit
  (List.range 10).all fun p => s.laneOf u p == 12 || (s.tasksAt p).isEmpty || (s.standbyMap u).any (·.1 == p)

/-- A takeover, planned swap or migration is in progress. -/
def State.unitBusy (s : State) : Bool := s.red.takeover.isSome || s.red.swap.isSome || s.red.migrate.isSome

/-- A peak lane load exceeds 50 % (R349), in instructions of the window. -/
def State.overHalf (s : State) : Bool :=
  (List.range 10).any fun p => decide (s.window < 2 * s.peakAt s.red.alloc p)

/-- SWAP (R349, R350): its completion follows the seal of the period that begins here. -/
def State.swapCmd (s : State) (ref : CmdRef) : State × Option Result :=
  if !s.loopMode then (s, some s.wrongMode)
  else if !s.standbyReady || !s.offersEnough then (s, some (refused 0x1))
  else if !s.formatsAgree then (s, some (refused 0x2))
  else if s.unitBusy then (s, some (refused 0x3))
  else if s.overHalf || !s.red.mirrorOk then (s, some (refused 0x4))
  else
    let w : SwapSt := { owner := ref, incoming := s.standbyUnit, atCount := s.per.count }
    let s1 := { s.abandonBuild with red := { s.red with swap := some w, traces := [] } }
    (s1.noteRedundancy, some (done (result := (s.per.seq + 2) % 2 ^ 32)))

/-- The lowest-indexed spare of the active unit. -/
def State.spareLane (s : State) : Option Nat :=
  let u := s.activeUnit
  (List.range 12).find? fun l => !(s.retired u).testBit l && (s.posOf u l).isNone && !s.fenced (.lane u l)

/-- A migration of a lane pair of the active unit starts (R354). -/
def State.startMigrate (s : State) (l pos spare : Nat) : State :=
  let m : MigrateSt := { unit := s.activeUnit, source := l, spare := spare, pos := pos, atCount := s.per.count }
  ({ s.abandonBuild with red := { s.red with migrate := some m, traces := [] } }).noteRedundancy

/-- A write of RED.CTRL with its bits (R355, R356): every cause is looked at before any action takes effect. -/
def State.redCtrl (s : State) (migrate : Bool) (l : Nat) (unretire : Bool) (u : Nat) (clr : Bool) : State × Result :=
  if (migrate && !s.loopMode) || (unretire && s.mode != .configure) then (s, s.wrongMode)
  else if migrate && (s.spareLane.isNone || !s.red.mirrorOk) then (s, refused 0x1)
  else if migrate && s.unitBusy then (s, refused 0x2)
  else if (migrate && ((s.posOf s.activeUnit l).all fun p => (s.tasksAt p).isEmpty)) || (unretire && !(s.retired u).testBit l) then
    (s, refused 0x3)
  else
    let s1 := match migrate, s.spareLane, s.posOf s.activeUnit l with
      | true, some sp, some p => s.startMigrate l p sp
      | _, _, _ => s
    let s2 := if unretire then s1.setRetired u l false else s1
    (if clr then { s2 with red := { s2.red with takeovers := 0, takeoversSat := false } } else s2, done)

/-! ### Evaluation windows (R352, R353) -/

/-- Lane pairs of the active unit that carry tasks. -/
def State.loadedLanes (s : State) : List Nat :=
  (List.range 12).filter fun l => (s.posOf s.activeUnit l).any fun p => !(s.tasksAt p).isEmpty

/-- Put a speed, a fraction, in its place in a rising list. -/
def insertSpeed (x : Nat × Nat) : List (Nat × Nat) → List (Nat × Nat)
  | [] => [x]
  | y :: r => if x.1 * y.2 ≤ y.1 * x.2 then x :: y :: r else y :: insertSpeed x r

/-- RATIO of a speed against the lower median, in 1/128 (R352). -/
def speedRatio (x med : Nat × Nat) : Nat := min 255 (128 * x.1 * med.2 / (x.2 * med.1))

/-- The window's RATIO of a lane pair, whose speed is its work over its BUSY time. A pair that completed no period in the window has no
speed: it forms none and its RATIO is 0xFF (log 44). -/
def State.windowRatio (s : State) (l : Nat) : Nat :=
  let u := s.activeUnit
  let speed := fun (l : Nat) => ((s.pair u l).sumWork, (s.pair u l).sumBusy)
  let timed := s.loadedLanes.filter fun l => decide (0 < (speed l).2)
  let sorted := timed.foldl (fun acc l => insertSpeed (speed l) acc) []
  if s.loadedLanes.length < 4 || (speed l).2 == 0 then 255 else speedRatio (speed l) (sorted.getD ((timed.length - 1) / 2) (1, 1))

/-- Consecutive windows a criterion must hold (R353, RED.CFG). -/
def State.windowsNeeded (s : State) : Nat := max 1 (s.fld F.RED_CFG_MIG_WINDOWS)

/-- The criteria of one lane pair at a window's end: its counts, and LANE_AGEING where one is met (R353). -/
def State.evalLane (s : State) (l ratio : Nat) : State :=
  let u := s.activeUnit
  let p := s.pair u l
  let span := (s.fld F.SYS_PERIOD_TC : Int) - s.fld F.SYS_PERIOD_GUARD
  let age := if ratio < s.fld F.RED_CFG_MIG_RATIO then p.ageWindows + 1 else 0
  let slack := if p.leastSlack * 256 < s.fld F.RED_CFG_MIG_SLACK * span then p.slackWindows + 1 else 0
  let s1 := s.setPair u l { p with ratio := ratio, ageWindows := age, slackWindows := slack }
  if s.windowsNeeded ≤ age ∨ s.windowsNeeded ≤ slack then
    s1.raise K.LANE_AGEING (12 * u + l) (u + l * 2 ^ 8 + ratio * 2 ^ 16 + uint 32 p.leastSlack * 2 ^ 32) 1
  else s1

/-- With MIG_EN the ageing criterion starts a migration (R353, R354). -/
def State.autoMigrate (s : State) : State :=
  let u := s.activeUnit
  let able := s.bit F.RED_CFG_MIG_EN && s.loopMode && !s.unitBusy && s.red.mirrorOk && (!s.red.armed || s.redundant)
  match s.loadedLanes.find? (fun l => s.windowsNeeded ≤ (s.pair u l).ageWindows), s.spareLane with
  | some l, some sp =>
    match s.posOf u l with
    | some p => if able then s.startMigrate l p sp else s
    | none => s
  | _, _ => s

/-- EVAL_WINDOW_END: the window of 2^(EVAL_LOG2 + 12) periods has run (R352). -/
def State.evalWindow (s : State) : State :=
  let ls := s.loadedLanes
  if s.per.running && decide (s.red.windowStart + 2 ^ (s.fld F.RED_CFG_EVAL_LOG2 + 12) ≤ s.per.count) then
    let ratios := ls.map fun l => (l, s.windowRatio l)
    let s1 := ratios.foldl (fun s e => s.evalLane e.1 e.2) s
    (s1.restartWindow s.per.count).autoMigrate
  else s

/-! ### Spare resources (R357, R358) -/

/-- Repairs recorded for a resource: 0 MRAM rows, 1 DRAM rows, 2 hub SRAM words by array, 4 isolation-link lanes. -/
def State.repairsOf (s : State) (kind : Nat) : List Nat := (s.red.repairs.filter (·.1 == kind)).map (·.2)

/-- Spares still free of MRAM and DRAM rows, and of words in the fullest SRAM array. -/
def State.sparesFree (s : State) (kind : Nat) : Nat :=
  let used := s.repairsOf kind
  match kind with
  | 0 => 256 - used.length
  | 1 => 2048 - used.length
  | _ => 32 - used.foldl (fun m a => max m (used.filter (· == a)).length) 0

/-- One DRAM row that needed correction twice within the pass is replaced by a spare of its bank, when one is free; `row` is
(bank × 2^16) + row (R357). -/
def State.replaceRow (s : State) (row : Nat) : State :=
  let bank := row / 2 ^ 16
  if ((s.repairsOf 1).filter fun r => r / 2 ^ 16 == bank).length < 64 then
    let s1 := { s with red := { s.red with repairs := s.red.repairs ++ [(1, row)] } }
    if s.sparesFree 1 = 129 then s1.raise K.SPARE_LOW 1 (1 + 128 * 2 ^ 16) 1 else s1
  else s

/-! ### Status objects as they stand after a seal -/

/-- RED.STATUS (R335, R339, R346, R352, R355). -/
def State.showRed (s : State) : State :=
  let r := s.red
  let st := if r.takeover.isSome then 1 else if r.swap.isSome then 2 else if r.migrate.isSome then 3 else 0
  let ratios := (List.range 24).foldl (fun n e => n + (s.pair (e / 12) (e % 12)).ratio * 2 ^ (8 * e)) 0
  [(F.RED_STATUS_AVAILABLE, s.redundant.toNat), (F.RED_STATUS_ACTIVE_UNIT, s.activeUnit), (F.RED_STATUS_STATE, st),
   (F.RED_STATUS_MIRROR_OK, r.mirrorOk.toNat), (F.RED_STATUS_FAILED, r.failed), (F.RED_STATUS_RETIRED_A, r.retiredA),
   (F.RED_STATUS_RETIRED_B, r.retiredB), (F.RED_STATUS_TAKEOVERS, r.takeovers), (F.RED_STATUS_TAKEOVERS_SAT, r.takeoversSat.toNat),
   (F.RED_STATUS_MAPGEN, r.mapGen % 2 ^ 8), (F.RED_STATUS_SEALED_SEQ, r.sealedSeq), (F.RED_STATUS_MIRROR_SEQ, r.mirrorSeq),
   (F.RED_STATUS_LAST_SEQ, r.lastSeq), (F.RED_STATUS_LAST_GAP, r.lastGap), (F.RED_STATUS_RATIO, ratios)].foldl
    (fun s (e : Fld × Nat) => s.setFld e.1 e.2) s

/-- RED.SPARES (R358). -/
def State.showSpares (s : State) : State :=
  [(F.RED_SPARES_MRAM_FREE, s.sparesFree 0), (F.RED_SPARES_DRAM_FREE, s.sparesFree 1), (F.RED_SPARES_SRAM_FREE, s.sparesFree 2),
   (F.RED_SPARES_ISO_SPARE, (decide (s.fio.failed ≠ 0)).toNat), (F.RED_SPARES_LANES_A, s.lanesFree 0),
   (F.RED_SPARES_LANES_B, s.lanesFree 1)].foldl (fun s (e : Fld × Nat) => s.setFld e.1 e.2) s

/-! ### The commands -/

/-- RESTORATION_DONE (R342). -/
def execRestorationDone (s : State) : Out := .next s.restorationDone

/-- EVAL_WINDOW_END (R352, R353). -/
def execEvalWindowEnd (s : State) : Out := .next s.evalWindow

/-- DRAM_SCRUB: a scrub pass ends; `rows` are the rows, as (bank × 2^16) + row, that needed correction twice in it (R357). -/
def execDramScrub (rows : List (Fin 32 × Fin 65536)) (s : State) : Out :=
  .next (rows.foldl (fun s r => s.replaceRow (r.1.val * 2 ^ 16 + r.2.val)) s)

end Sys2Proof.Machine
end

