-- ==== Sys2Proof/Machine/ObjAccess.lean ====
section
/-!
DEFINITION. Reads and writes of configuration objects by byte range (R10, R11, R80), which modes allow a write of each object
(Table 02.1), and the blocks a write reaches (R60).
-/

namespace Sys2Proof.Machine

/-! ### Reads (R80) -/

/-- SR as one word: N, Z, G, W and S from bit 0 (Table 04.3, R431). -/
def Lane.srWord (l : Lane) : Nat :=
  l.flagN.toNat + 2 * l.flagZ.toNat + 4 * l.flagG.toNat + 8 * l.flagW.toNat + 16 * l.flagS.toNat

/-- Word `w` of the register space of a copy (R431). The stacks stand oldest entry first. -/
def Lane.regWord (l : Lane) (w : Nat) : Nat :=
  let calls := l.calls.reverse
  let loops := l.loops.reverse
  if w < 24 then ((longWords (l.a.get (w / 3) 0)).getD (w % 3) 0).toNat
  else if w < 32 then (l.d.get (w - 24) 0).toNat
  else if w < 40 then (l.p.get (w - 32) 0).toNat
  else if w < 48 then (l.q.get (w - 40) 0).toNat
  else if w < 56 then (l.m.get (w - 48) 0).toNat
  else if w = 56 then l.srWord
  else if w = 57 then l.pc
  else if w < 66 then calls.getD (w - 58) 0
  else if w = 66 then calls.length
  else if w < 79 then
    match loops[(w - 67) / 3]? with
    | none => 0
    | some r => if (w - 67) % 3 = 0 then r.start else if (w - 67) % 3 = 1 then r.last else r.left
  else if w = 79 then loops.length
  else 0

/-- Word `w` of a space of SEC.LANEMEM: registers, X, Y, and the program, low word of each instruction first (R431). -/
def Lane.memWord (l : Lane) (space w : Nat) : Nat :=
  match space with
  | 0 => l.regWord w
  | 1 => (l.x.get w 0).toNat
  | 2 => (l.y.get w 0).toNat
  | _ => (l.prog.get (w / 2) 0).toNat / 2 ^ (24 * (w % 2)) % 2 ^ 24

/-- Bytes of the lane pair under SEC.DEBUG, from byte `off` of the words PARAM names (R431). -/
def State.laneMemRead (s : State) (param off len : Nat) : Nat :=
  let l := s.lane s.activeUnit s.debugLane (getBits param 16 1)
  let first := getBits param 2 14
  let words := (List.range (len / 4 + 2)).foldl (fun v i =>
    v + l.memWord (getBits param 0 2) (first + off / 4 + i) * 2 ^ (32 * i)) 0
  words / 2 ^ (8 * (off % 4)) % 2 ^ (8 * len)

/-- The lane pair SEC.DEBUG names is halted (R430). -/
def State.debugHalted (s : State) : Bool := s.sec.halted.testBit s.debugLane

/-- Contents of the entries of an object that bytes `off` to `off + len − 1` touch, each at its place, as a read returns them. -/
def State.readEntries (s : State) (o : Obj) (inst off len : Nat) : Nat :=
  let eb := o.entryBits
  let first := 8 * off / eb
  let last := (8 * (off + len) + eb - 1) / eb
  (List.range (last - first)).foldl (fun v i =>
    let e := first + i
    if e < o.entries then v + (s.obj o inst e &&& o.readMask) * 2 ^ (eb * i) else v) 0 / 2 ^ (8 * off - eb * first) % 2 ^ (8 * len)

/-- Bytes of a list, from `off`. -/
def sliceBytes (bs : List Byte) (off len : Nat) : Nat := natOf ((bs.drop off).take len)

/-- OBJ_READ's data (R80, R60): `param` matters for SEC.LANEMEM only. -/
def State.readObject (s : State) (o : Obj) (inst off len param : Nat) : Nat :=
  match o with
  | .sysPlace =>
    let place := s.readEntries .sysPlace 0 0 192
    let phase := (List.range 40).foldl (fun v a => v + s.fld F.SYS_PHASE_PHASE 0 a * 2 ^ (8 * a)) 0
    (place + phase * 2 ^ (8 * 192)) / 2 ^ (8 * off) % 2 ^ (8 * len)
  | .canRxq => sliceBytes ((List.range 256).flatMap fun e => bytesOf 96 ((s.cans inst).rxq.get e 0)) off len
  | .camStage => sliceBytes ((List.range 1024).flatMap fun e => bytesOf 4 (s.motion.camStage.get e 0).toNat) off len
  | .caravanSegbuf => (s.motion.caravans.get inst {}).segbuf / 2 ^ (8 * off) % 2 ^ (8 * len)
  | .survUpload => natOf ((List.range len).map fun i => s.surv.upload.get (off + i) 0)
  | .survBb =>
    sliceBytes ((bbMarker (s.surv.bb.get 0 {})).take 32 ++ (bbMarker (s.surv.bb.get 1 {})).take 32) off len
  | .secLanemem => s.laneMemRead param off len
  | .secId => (s.readEntries .secId 0 0 144 + Config.dsn % 2 ^ 64) / 2 ^ (8 * off) % 2 ^ (8 * len)
  | o => s.readEntries o inst off len

/-! ### Writes: ranges, fields, reserved bits (R10, R11, R80) -/

/-- A write of bytes `off` to `off + len − 1` of an object. -/
structure Wr where
  obj : Obj
  inst : Nat
  off : Nat
  len : Nat
  data : Nat
  deriving DecidableEq, Repr

/-- Entries the range touches. -/
def Wr.touched (w : Wr) : List Nat :=
  let eb := w.obj.entryBits
  if eb = 0 ∨ w.len = 0 then []
  else
    let first := 8 * w.off / eb
    (List.range ((8 * (w.off + w.len) + eb - 1) / eb - first)).filterMap fun i =>
      if first + i < w.obj.entries then some (first + i) else none

/-- Bits of entry `e` that the range covers, and the bits written there. -/
def Wr.mask (w : Wr) (e : Nat) : Nat := (2 ^ (8 * w.len) - 1) * 2 ^ (8 * w.off) / 2 ^ (w.obj.entryBits * e) % 2 ^ w.obj.entryBits

def Wr.bits (w : Wr) (e : Nat) : Nat := w.data % 2 ^ (8 * w.len) * 2 ^ (8 * w.off) / 2 ^ (w.obj.entryBits * e) % 2 ^ w.obj.entryBits

/-- Contents of entry `e` after the write: RW fields take the bits, W1C bits written 1 clear (R10). -/
def Wr.entry (w : Wr) (s : State) (e : Nat) : Nat :=
  let old := s.obj w.obj w.inst e
  let m := w.obj.accMask .rw &&& w.mask e
  let c := w.obj.accMask .w1c &&& w.bits e
  ((old ^^^ (old &&& m)) ||| (w.bits e &&& m)) ^^^ (old &&& c)

/-- A field as it stands after the write. -/
def Wr.newFld (w : Wr) (s : State) (f : Fld) (e : Nat := 0) : Nat := getBits (w.entry s e) f.lo f.width

/-- The value an action field was written with: 0 outside the range (R80). -/
def Wr.act (w : Wr) (f : Fld) (e : Nat := 0) : Nat := getBits (w.bits e) f.lo f.width

def Wr.actBit (w : Wr) (f : Fld) (e : Nat := 0) : Bool := w.act f e != 0

/-- The write changes an RW field. -/
def Wr.changes (w : Wr) (s : State) : Bool := w.touched.any fun e => w.entry s e != s.obj w.obj w.inst e

/-- A bit that belongs to no field is written 1 (R11). -/
def Wr.reserved (w : Wr) : Bool :=
  let all := w.obj.accMask .ro + w.obj.accMask .rw + w.obj.accMask .w1c + w.obj.accMask .wo
  !w.obj.fields.isEmpty && w.touched.any fun e => w.bits e ^^^ (w.bits e &&& all) != 0

/-- The write's RW fields take their values. -/
def State.applyRw (s : State) (w : Wr) : State := w.touched.foldl (fun s e => s.setObj w.obj w.inst e (w.entry s e)) s

/-! ### Modes and blocks (Table 02.1, R60, R308) -/

/-- Modes in which a write of an object's fields is allowed, as the owning chapters give. -/
inductive WriteIn where
  /-- CONFIGURE only. -/
  | config
  /-- CONFIGURE and HOLD. -/
  | hold
  /-- CONFIGURE, COMMISSION, RUN and HOLD. -/
  | loops
  /-- Every mode. -/
  | always
  /-- SERVICE only. -/
  | service
  deriving DecidableEq, Repr

def Obj.writeIn : Obj → WriteIn
  | .sysMode | .sysReset | .sysSlack | .engLane | .csStatus | .timeStatus | .ethStatus | .canStatus | .canRxctl | .fioStatus
  | .survCtrl | .survExport | .redCtrl | .fltForce | .secCtrl | .caravanSegbuf => .always
  | .sysCommission | .gearMaster | .redCfg | .fltCfg | .fltSrc | .survCfg => .hold
  | .axisLimits | .axisComp | .profLimits | .camCommit | .camProf | .latchCfg | .cmpCfg | .pwmgAux | .pwmgCtrl | .fbCtrl
  | .fioDoCmd | .engBank | .engCoefA | .engCoefB | .caravanCfg => .loops
  | .secDebug | .secLanemem => .service
  | _ => .config

def State.modeIs (s : State) : WriteIn → Bool
  | .config => s.mode == .configure
  | .hold => s.mode == .configure || s.mode == .hold
  | .loops => s.mode == .configure || s.loopMode
  | .always => true
  | .service => s.mode == .service

/-- Objects of classes 0x8 and 0x9: in another mode than CONFIGURE a write may leave every RW field unchanged (R308). -/
def Obj.netClass : Obj → Bool
  | .timeCfg | .timeStatus | .ethCfg | .ethStatus | .cycTx | .cycRx | .netMaster | .canCfg | .canTxslot | .canFilter | .canStatus
  | .canRxq => true
  | _ => false

/-- Whether the present mode allows a write. -/
def State.writeAllowed (s : State) (w : Wr) : Bool :=
  if w.obj.netClass then s.mode == .configure || !w.changes s
  else
    match w.obj with
    | .fltCfg => s.modeIs .hold || !w.changes s
    | .caravanCfg =>
      s.modeIs .loops && (s.mode == .configure
        || (w.newFld s F.CARAVAN_CFG_MEMBER == s.fld F.CARAVAN_CFG_MEMBER w.inst
            && w.newFld s F.CARAVAN_CFG_PSPD_EXP == s.fld F.CARAVAN_CFG_PSPD_EXP w.inst))
    | o => s.modeIs o.writeIn

/-- The block a write of an object reaches, with its SYS.RESET KIND (R60). -/
def Wr.block (w : Wr) : Option (FenceId × Nat) :=
  match w.obj with
  | .fbCfg | .fbSerial | .fbCtrl => some (.fb w.inst, 1)
  | .pwmgCfg | .pwmgAux | .pwmgCtrl => some (.pwm w.inst, 2)
  | .canCfg | .canTxslot | .canFilter | .canRxctl | .canStatus => some (.can w.inst, 3)
  | .ethCfg | .ethStatus => some (.eth w.inst, 4)
  | _ => none

/-- A lane pair of the active unit is fenced, or its unit (R60). -/
def State.laneFenced (s : State) (l : Nat) : Bool := s.fenced (.lane s.activeUnit l) || s.fenced (.unit s.activeUnit)

/-- The fenced block a write reaches; the debug actions and SEC.LANEMEM reach the lane pair that SEC.DEBUG.LANE names (R60, R431). -/
def State.writeFenced (s : State) (w : Wr) : Option Nat :=
  match w.block with
  | some (b, k) => if s.fenced b then some k else none
  | none =>
    let acts := [F.SEC_DEBUG_HALT, F.SEC_DEBUG_STEP, F.SEC_DEBUG_RESUME].any (w.actBit ·)
    if w.obj = .secDebug ∧ acts ∧ s.laneFenced (w.newFld s F.SEC_DEBUG_LANE) then some 5
    else if w.obj = .secLanemem ∧ s.laneFenced (s.fld F.SEC_DEBUG_LANE) then some 5
    else none

end Sys2Proof.Machine
end

