-- ==== Sys2Proof/Machine/Boot.lean ====
section
/-!
DEFINITION. Module reset and the boot up to the wait for DRAM (R45, R48 to R51, R56, R411, R421, R427). What follows DRAM
initialisation is in BootEnd.
-/

namespace Sys2Proof.Machine

/-! ### Module reset (R45, Table 02.7) -/

/-- The island when the hub sends no frames: three bad slots put it in its lost state with every output off (R45, R395). A retry
of an output in shutdown counts its 100 ms from the reset on. -/
def FioSt.afterReset (f : FioSt) : FioSt :=
  let off := fun (e : Nat × IslandDo) => (e.1, { e.2 with on := false, plan := [], level := false, shut := e.2.shut.map fun _ => 0, retries := 0 })
  { failed := f.failed, powered := f.powered, islandLost := f.powered, downBad := if f.powered then 3 else 0
    islandSeq := f.islandSeq, leftReset := f.leftReset, outs := (f.outs.map off).filter fun (e : Nat × IslandDo) => decide (e.2 ≠ {}) }

/-- Module reset: everything but the MRAM, the island, the test access port, PE_PERST_N and what has already left the module
(Tables 02.7 and 02.8). `cause` is SYS.BOOT.CAUSE; the boot number counts module resets (Table 12.6). -/
def State.moduleReset (s : State) (cause : Nat) : State :=
  let kept := [Obj.secId, Obj.secCfgkey, Obj.fltLog].foldl (fun (t : State) o => t.setObj o 0 0 (s.obj o 0 0)) State.reset
  let t := { kept with
    pending := s.pending
    boot := { slots := (s.boot.slots.map fun (e : Nat × SlotSt) => (e.1, { e.2 with failed := false })).filter fun (e : Nat × SlotSt) => decide (e.2 ≠ ({} : SlotSt)) }
    host := { perst := s.host.perst, reads := s.host.reads, writes := s.host.writes, messages := s.host.messages }
    net := { ptpSent := s.net.ptpSent, cycSent := s.net.cycSent }
    flt := { log := s.flt.log }
    fio := s.fio.afterReset
    red := { retiredA := s.red.retiredA, retiredB := s.red.retiredB, repairs := s.red.repairs }
    surv := { epoch := s.surv.epoch, bb := s.surv.bb }
    sec := { priv := s.sec.priv, drbg := s.sec.drbg, marker := s.sec.marker }
    tap := s.tap }
  (t.setFld F.SYS_BOOT_CAUSE cause).setFld F.FLT_LOG_BOOT (s.fld F.FLT_LOG_BOOT + 1)

/-- The hub logic stops with RESET_N high: the lands, the island and ALIVE are as in module reset (R55), and what the volatile state
held is lost. No module reset is counted. -/
def State.logicStops (s : State) : State :=
  let t := (s.moduleReset (s.fld F.SYS_BOOT_CAUSE)).setFld F.FLT_LOG_BOOT (s.fld F.FLT_LOG_BOOT)
  { t with boot := { t.boot with stopped := true } }

/-! ### Keys and the unattested state (R421, R426, R427) -/

/-- SYS.MODE.UNATTESTED, with its live source (R421, R429). -/
def State.setUnattested (s : State) (b : Bool) : State :=
  let s1 := ({ s with sec := { s.sec with unattested := b } }).setBit F.SYS_MODE_UNATTESTED b
  if b && !s.sec.unattested then s1.raise K.UNATTESTED
  else if !b && s.sec.unattested then s1.clearLive K.UNATTESTED
  else s1

/-- Step 3 of R427: the keys are overwritten with 0. DSN is no key and stays. -/
def State.eraseKeys (s : State) : State :=
  let s1 := { s with sec := { s.sec with priv := none, marker := false } }
  (s1.resetObj .secId).resetObj .secCfgkey

/-! ### Boot (R48 to R50) -/

/-- The stage code in SYS.BOOT and HIF.STATUS; rings are processed from stages 0x7 and 0x8 on (R48). -/
def State.setStage (s : State) (n : Nat) : State :=
  ((s.setFld F.SYS_BOOT_STAGE n).setFld F.HIF_STATUS_STAGE n).setBit F.HIF_STATUS_RINGS_READY (n == 7 || n == 8)

/-- Slots in the order R49 tries them: the valid one of higher generation first, a tie to slot 0. -/
def State.slotOrder (s : State) : List Nat :=
  let order := if (s.slot 0).gen < (s.slot 1).gen then [1, 0] else [0, 1]
  order.filter fun n => (s.slot n).state == 1

/-- Choose a slot (R49): the first whose image passes R421; one that fails is reported as failed. -/
def State.chooseSlot (s : State) : List Nat → State × Option Nat
  | [] => (s, none)
  | n :: r => if s.imageOk n then (s, some n) else (s.setSlot n { s.slot n with failed := true }).chooseSlot r

/-- Stage 0x5: a unit takes the programs and banks of the image; a failed read-back fences it (R50). -/
def State.bootUnit (s : State) (u n : Nat) (readOk : Bool) : State :=
  if readOk then s.loadUnit u n (imgBank (s.slot n).bytes false) (imgBank (s.slot n).bytes true)
  else ((s.raise K.UNIT_READBACK u u 1).setFence (.unit u) true).showUnits

/-- Stages 0x3 to 0x5 with the slot chosen, up to the wait of stage 0x6. -/
def State.bootImage (s : State) (n : Nat) (readA readB : Bool) : State :=
  let b := (s.slot n).bytes
  let s1 := (s.setFld F.SYS_BOOT_SLOT n).setUnattested (!(s.bit F.SEC_CFGKEY_PRESENT && s.bit F.SEC_ID_PRESENT))
  let s2 := { s1.checkBb with boot := { s1.checkBb.boot with running := some n } }
  let s3 := ((s2.setMaster (imgBank b false) (imgBank b true)).bootUnit 0 n readA).bootUnit 1 n readB
  let s4 := (if readA then s3 else s3.setFld F.SYS_MODE_ACTIVE_UNIT 1).showUnits
  ({ s4 with boot := { s4.boot with waitDram := true } }).setStage 6

/-- The boot from the rising edge of RESET_N to the end of stage 0x5, or to stage 0x8 or 0xF (R48 to R50). `lands` are the trip
inputs' levels, on which their filters settle (R260). -/
def State.bootUp (s : State) (selfTest readA readB : Bool) (lands : Nat) : State :=
  if !selfTest then ({ s with boot := { s.boot with resetLow := false } }).setStage 0xF
  else
    let s1 := { s with boot := { s.boot with resetLow := false, riseAt := s.now }, time := { s.time with running := true } }
    let s2 := (if s.sec.marker then s1.eraseKeys else s1).setStage 2
    let c := s2.chooseSlot s2.slotOrder
    let s3 := match c.2 with
      | some n => c.1.bootImage n readA readB
      | none => (c.1.setUnattested true).checkBb.setStage 8
    ((s3.showSlots.settleTrips lands).showSpares).showSurvey

/-! ### Commands -/

/-- RESET_N_LOW: the module enters module reset (R45), from stopped hub logic too. -/
def execResetNLow (s : State) : Out := .next (if s.boot.resetLow && !s.boot.stopped then s else s.moduleReset 1)

/-- RESET_N_RISE: RESET_N was low for `lowNs` ns; `selfTest`, `readA` and `readB` are the outcomes of the hub self-test and of the
read-back of each unit, `lands` the trip inputs' levels. A pulse shorter than 1 µs is ignored, so that no reset precedes its end;
one below 10 µs is an undefined use (R48, R448). -/
def execResetNRise (lowNs : Nat) (selfTest readA readB : Bool) (lands : Fin (2 ^ 32)) (s : State) : Out :=
  if !s.boot.resetLow || s.boot.stopped || lowNs < 1000 then .next s
  else if lowNs < 10000 then .fault .resetPulse
  else .next (s.bootUp selfTest readA readB lands.val)

end Sys2Proof.Machine
end

