-- ==== Sys2Proof/Machine/Resets.lean ====
section
/-!
DEFINITION. Resets of parts of the module and the fence protocol (R57 to R65, Table 02.7).
-/

namespace Sys2Proof.Machine

/-- A reset begins: its block stays fenced until the job ends (R58, R62). -/
def State.addJob (s : State) (j : ResetJob) : State :=
  { s.setFence j.block true with boot := { (s.setFence j.block true).boot with jobs := s.boot.jobs ++ [j] } }

/-- Both copies of a lane pair stop, with what it was computing (Table 02.7). -/
def State.stopPair (s : State) (u l : Nat) : State :=
  let s1 := s.setPair u l { s.pair u l with periods := [], busy := false, outputs := [], withheld := false, late := false }
  let stop := fun (s : State) c => s.setLane u l c { s.lane u l c with posts := [], task := none, rest := [], delta := [] }
  stop (stop s1 0) 1

/-- A lane pair is active: it carries a position in the active unit (R36, R340). -/
def State.pairActive (s : State) (u l : Nat) : Bool := u == s.activeUnit && (s.posOf u l).isSome

/-- A unit that loses its state is no longer restored for the takeover, swap or migration it is part of (R342). -/
def State.unrestore (s : State) (u : Nat) (lane : Option Nat) : State :=
  let t := s.red.takeover.map fun t => if t.incoming = u then { t with restored := false } else t
  let w := s.red.swap.map fun w => if w.incoming = u then { w with restored := false } else w
  let m := s.red.migrate.map fun m => if m.unit = u ∧ lane.all (· == m.spare) then { m with restored := false } else m
  { s with red := { s.red with takeover := t, swap := w, migrate := m } }

/-- Reset of a feedback channel: its armed latch and compare units disarm with BLOCK_RESET (R232, R237). -/
def State.resetFb (s : State) (n : Nat) (ref : Option CmdRef) : State :=
  ((s.addJob { block := .fb n, kind := 1, owner := ref }).disarmUnits (· == n) (blockReset 1)).reinitFb n

/-- Reset of a PWM group: it goes to its idle state (Table 02.7). -/
def State.resetPwm (s : State) (g : Nat) (ref : Option CmdRef) : State :=
  ((s.idleGang g).addJob { block := .pwm g, kind := 2, owner := ref }).resetGroup g

/-- Reset of a CAN channel. -/
def State.resetCanBlock (s : State) (c : Nat) (ref : Option CmdRef) : State :=
  (s.addJob { block := .can c, kind := 3, owner := ref }).resetCan c

/-- Reset of an Ethernet port. -/
def State.resetEthBlock (s : State) (p : Nat) (ref : Option CmdRef) : State :=
  (s.addJob { block := .eth p, kind := 4, owner := ref }).resetEth p

/-- Reset of a lane pair, refused while it is active outside CONFIGURE (Table 02.7). -/
def State.resetLanePair (s : State) (u l : Nat) (ref : Option CmdRef) : State × Option Result :=
  if s.pairActive u l && s.mode != .configure then (s, some (refused Config.unstatedDetail))
  else
    (((s.addJob { block := .lane u l, kind := 5, owner := ref }).stopPair u l).unrestore u (some l) |>.noteRedundancy, none)

/-- Reset of a unit, refused while it is active outside CONFIGURE. With SRC = 1 the pending image is checked first (R63); with
no pending slot there is no image to pass the check. -/
def State.resetUnit (s : State) (u : Nat) (src : Bool) (ref : Option CmdRef) : State × Option Result :=
  if u == s.activeUnit && s.mode != .configure then (s, some (refused Config.unstatedDetail))
  else
    let go := fun (s : State) =>
      (((s.addJob { block := .unit u, kind := 6, src := src, owner := ref }).fenceUnit u).unrestore u none |>.noteRedundancy,
        (none : Option Result))
    if !src then go s
    else
      match s.reloadSlot true with
      | none => (s, some { status := 0x08, detail := s.otherSlot })
      | some n =>
        if s.imageOk n then go s
        else ((s.setSlot n { s.slot n with state := 3 }).showSlots, some { status := 0x08, detail := n })

/-- An action that needs no outcome at once: its completion follows. -/
def later (s : State) : Except Fault (State × Option Result) := .ok (s, none)

/-- A write of SYS.RESET that covers KIND (R57). A reserved KIND and an INDEX that names no block are undefined uses (R9, R458).
KIND 0xF enters module reset; the boot follows when the reset pulse ends (RESET_N_RISE). -/
def State.sysReset (s : State) (kind idx unit : Nat) (src : Bool) (ref : Option CmdRef) : Except Fault (State × Option Result) :=
  match kind with
  | 1 => if idx < 32 then later (s.resetFb idx ref) else .error .reservedInstance
  | 2 => if idx < 32 then later (s.resetPwm idx ref) else .error .reservedInstance
  | 3 => if idx < 4 then later (s.resetCanBlock idx ref) else .error .reservedInstance
  | 4 => if idx < 3 then later (s.resetEthBlock idx ref) else .error .reservedInstance
  | 5 => if idx < 12 then .ok (s.resetLanePair unit idx ref) else .error .reservedInstance
  | 6 => .ok (s.resetUnit unit src ref)
  | 15 => later (s.moduleReset 2)
  | _ => .error .reservedCode

/-! ### The end of a reset (R62) -/

/-- The idle state of a group is reached: no ordered change is still to come (Table 02.7). -/
def State.groupAtRest (s : State) (g : Nat) : Bool := (List.range 6).all fun k => (((s.grp g).sw.get k {}).pend).isNone

/-- A block is reinitialised; false while it is not: a serial channel before its first frame has completed (R288), a group before its idle state, an enabled CAN channel before it has rejoined its
bus, a unit whose read-back fails or that has no image to load (R50, R57, Table 02.7). -/
def State.reinit (s : State) (j : ResetJob) (readOk : Bool) (lands : Nat) : State × Bool :=
  match j.block with
  | .fb n => if s.fbSerial n then (s, (s.fbs n).frame.isNone) else (s.settleFb n lands, true)
  | .pwm g => (s, s.groupAtRest g)
  | .lane u l => (s.reloadPair u l, s.boot.running.isSome)
  | .unit u =>
    if readOk && (s.reloadSlot j.src).isSome then (s.reloadUnit u j.src, true) else (s.raise K.UNIT_READBACK u u 1, false)
  | .can c => (s, !s.bit F.CAN_CFG_EN c || (s.cans c).busState != 3)
  | _ => (s, true)

/-- The reset of a block ends: the fence falls, and every SYS.RESET of the block completes with the next seal (R62). -/
def State.lowerFence (s : State) (b : FenceId) (readOk : Bool) (lands : Nat) : State :=
  match s.boot.jobs.reverse.find? fun j => j.block == b with
  | none => s
  | some j =>
    let r := s.reinit j readOk lands
    if r.2 then
      let s1 := ({ r.1 with boot := { r.1.boot with jobs := r.1.boot.jobs.filter fun j => j.block != b } }).setFence b false
      let s2 := match b with
        | .pwm g => s1.refreshGang g
        | _ => s1.noteRedundancy
      (s.boot.jobs.filter fun j => j.block == b).foldl (fun (s : State) j =>
        match j.owner with
        | some ref => s.finishCmd ref done s.sealNext
        | none => s) s2
    else r.1

/-- FENCE_LOWERED: a block finishes its reset; `readOk` is the outcome of a unit's read-back, `lands` the levels of a feedback
channel's lands A, B and Z (R62). -/
def execFenceLowered (b : FenceId) (readOk : Bool) (lands : Fin 8) (s : State) : Out := .next (s.lowerFence b readOk lands.val)

end Sys2Proof.Machine
end

