-- ==== Sys2Proof/Machine/Modes.lean ====
section
/-!
DEFINITION. Operating modes: requests and refusals, the way out of CONFIGURE and back, and the entry of REPLAY (R39 to R43, R91,
R415, R461).
-/

namespace Sys2Proof.Machine

/-! ### Requests (R41, Tables 02.2 and 02.3) -/

/-- Table 02.2 lists a change from the present mode to `m`. -/
def State.changeListed (s : State) (m : Nat) : Bool :=
  match s.mode with
  | .configure => m == 1 || m == 2 || m == 4 || m == 5
  | .commission => m == 2 || m == 3
  | .run => m == 3
  | .hold => m == 1 || m == 2 || m == 0 || m == 5
  | .replay => m == 0
  | .service => false

/-- The units a departure from CONFIGURE needs are loaded: the active one, and with ARM the other too (R50, Table 02.3). -/
def State.unitsReady (s : State) : Bool :=
  let ready := fun (u : Nat) => s.unitLoaded u && !s.fenced (.unit u)
  ready s.activeUnit && (!s.bit F.RED_CFG_ARM || ready s.standbyUnit)

/-- SYS.COMMISSION is valid with every limit fraction above 0. -/
def State.commissionOk (s : State) : Bool :=
  s.bit F.SYS_COMMISSION_VALID
    && [F.SYS_COMMISSION_I_LIM, F.SYS_COMMISSION_V_LIM, F.SYS_COMMISSION_F_LIM].all fun f => decide (0 < sint 24 (s.fld f))

/-- The configuration a loaded replay source carries, in force (R415). -/
def State.replayConfig (s : State) : State :=
  match s.surv.replay with
  | none => s
  | some r => s.loadSnapshot r.hdr.config

/-- The reason a request for mode `m` is refused with, by Table 02.3; none for an accepted one. Reasons of one request go in the
order: no image, SAFE, the table, the units, then its conditions. -/
def State.modeRefusal (s : State) (m : Nat) : Option Nat :=
  let leaves := s.mode == .configure
  if s.fld F.SYS_BOOT_STAGE = 8 then some 0x05
  else if s.per.step.any (·.safe) ∧ m ≠ 3 then some 0x07
  else if !s.changeListed m then some 0x01
  else if leaves ∧ !(if m = 4 then s.replayConfig else s).unitsReady then some 0x05
  else if m = 4 ∧ s.surv.replay.isNone then some 0x06
  else if leaves ∧ !(if m = 4 then s.replayConfig else s).admits then some 0x02
  else if m = 1 ∧ !s.commissionOk then some 0x03
  else if (m = 1 ∨ m = 2) ∧ !leaves ∧ s.tripPending then some 0x04
  else if m = 5 ∧ !s.sec.erased then some 0x08
  else none

/-! ### Entering a mode -/

/-- SYS.MODE and HIF.STATUS show the mode entered at the running boundary; leaving the modes in which units may be armed disarms
them (R40, R41, R232, R237). -/
def State.setMode (s : State) (m : Nat) : State :=
  let s1 := [(F.SYS_MODE_PREV, s.fld F.SYS_MODE_MODE), (F.SYS_MODE_MODE, m), (F.SYS_MODE_REFUSAL, 0), (F.SYS_MODE_ENTRY_SEQ, s.per.seq),
    (F.HIF_STATUS_MODE, m)].foldl (fun s (e : Fld × Nat) => s.setFld e.1 e.2) s
  let s2 := if s.loopMode && !s1.loopMode then s1.disarmUnits (fun _ => true) (stopped 0x5) else s1
  s2.noteRedundancy.refreshGroups

/-- Leaving REPLAY restores the configuration saved on its entry, and with it banks and bank in force (R415). -/
def State.leaveReplay (s : State) : State :=
  match s.surv.replay.bind (·.saved) with
  | none => s
  | some objs =>
    let old : State := { s with objs := objs }
    let s1 := (s.loadSnapshot old.snapshot).setFld F.ENG_BANK_IN_FORCE (old.fld F.ENG_BANK_IN_FORCE)
    let s2 := s1.forRange 12 fun s l =>
      let put := fun (s : State) c =>
        s.setLane s.activeUnit l c { s.lane s.activeUnit l c with bankA := s1.masterBank false, bankB := s1.masterBank true }
      if s.fenced (.lane s.activeUnit l) then s else put (put s 0) 1
    { s2 with surv := { s2.surv with replay := s2.surv.replay.map fun r => { r with saved := none } } }

/-- Every lane pair stops, and nothing of the periods that ran is left to finish: what is not yet sealed never will be. A black-box copy
whose trigger record has sealed starts before (R410). -/
def State.stopPeriods (s : State) : State :=
  let s0 := (if s.bbReady && !s.bbWorn then s.startBb else s).forRange 32 fun s g => s.countTriggers s.now16 g
  let s1 := { s0 with per := { s0.per with running := false, step := none } }
  let s2 := (s1.forRange 2 fun s u => s.forRange 12 fun s l => s.stopPair u l).dropUnsealed
  ({ s2.abandonBuild with red := { s2.red with
      sealPosts := [], traces := [], mbox := [], mboxNew := [], takeover := none, swap := none, migrate := none, armed := false
      reload := none } })

/-- CONFIGURE is entered at the running boundary (R43, R232, R461): open commands end, the placement goes, and every completion
that waited for a seal is written. -/
def State.enterConfigure (s : State) : State :=
  let s1 := if s.mode == .replay then s.leaveReplay else s
  let s2 := (s1.stopPeriods.latchFlush.motionToConfigure 0).unplace
  let s3 := { s2 with flt := { s2.flt with safePending := false } }
  (s3.setMode 0).flushAll

/-! ### Leaving CONFIGURE (R43, R91, R398) -/

/-- Motion-time ticks from an accepted departure to its first boundary at the least: 1 ms (R91). -/
abbrev departTicks : Nat := 400000

/-- The least multiple of `tc` at or after `t`; `t` for a period of 0. -/
def multipleFrom (tc t : Nat) : Nat := if tc = 0 then t else (t + tc - 1) / tc * tc

/-- A departure is accepted (R91): the first boundary is the first multiple of TC at least 1 ms later; REPLAY takes its
configuration now, since nothing is applied until then (R415). -/
def State.acceptDeparture (s : State) (m : Nat) (ref : Option CmdRef) : State :=
  let s1 := if m = 4 then
      { s.replayConfig with surv := { s.surv with replay := s.surv.replay.map fun r => { r with saved := some s.objs } } }
    else s
  let next := multipleFrom (s1.fld F.SYS_PERIOD_TC) (s1.now + departTicks)
  (({ s1 with per := { s1.per with departing := some m, departRef := ref, next := next } }).setFld F.SYS_MODE_REFUSAL 0)

/-- Both copies of a lane pair forget the state regions: the axis program starts afresh (R150, R171). -/
def State.clearRegions (s : State) (u l pos : Nat) : State :=
  let put := fun (s : State) c =>
    let v := s.lane u l c
    s.setLane u l c { v with x := putRegion v.x [] (s.xTop pos), y := putRegion v.y [] (s.yTop pos) }
  put (put s 0) 1

/-- What the hub keeps of lanes and periods, as the first boundary finds it (R336, R339, R352). -/
def State.freshRed (s : State) : State :=
  let r := s.red
  let pairs := r.pairs.map fun (e : Nat × PairSt) => (e.1, { ratio := e.2.ratio : PairSt })
  let s1 := { s with
    red := { r with
      pairs := pairs.filter fun (e : Nat × PairSt) => decide (e.2 ≠ ({} : PairSt)), sealPosts := [], head := [], traces := [], mbox := [], mboxNew := []
      cairns := [], mirror := [], mirrorOk := true, sealedCount := 0, mirrorCount := 0, sealedSeq := 2 ^ 32 - 1, mirrorSeq := 2 ^ 32 - 1
      armed := s.bit F.RED_CFG_ARM, takeover := none, replayTo := 0, swap := none, migrate := none, windowStart := 1, reload := none }
    host := { s.host with cmds := s.host.cmds.map fun (c : Cmd) => { c with sealNeed := 0 } } }
  s1.forRange 10 fun s p => if s.laneOf s.activeUnit p < 12 then s.clearRegions s.activeUnit (s.laneOf s.activeUnit p) p else s

/-- REPLAY's lanes start from the full cairn, with its banks and its bank in force (R415). -/
def State.replayLanes (s : State) : State :=
  match s.surv.replay with
  | none => s
  | some r =>
    let u := s.activeUnit
    let s1 := { s with
      red := { s.red with mirror := s.mirrorFrom r.cairn }
      motion := { s.motion with axes := r.cairn.axes }
      surv := { s.surv with replay := some { r with words := r.cairn.words, at_ := 0 } } }
    let s2 := s1.forRange 12 fun s l =>
      let put := fun (s : State) c => s.setLane u l c { s.lane u l c with bankA := r.cairn.bankA, bankB := r.cairn.bankBw }
      if s.fenced (.lane u l) then s else put (put s 0) 1
    let s3 := s2.forRange 10 fun s p =>
      if s.laneOf u p < 12 then (s.restoreCopy u (s.laneOf u p) p 0).restoreCopy u (s.laneOf u p) p 1 else s
    (s3.setFld F.ENG_BANK_IN_FORCE r.cairn.bankB.toNat).setFld F.SURV_REPLAY_STATE 1

/-- The first boundary after CONFIGURE, at tick `b`: the mode accepted takes effect, tasks are placed, and counting begins (R18,
R43, R91, R398). -/
def State.leaveConfigure (s : State) (m b : Nat) : State :=
  let per : PeriodSt :=
    { s.per with running := true, t0 := b, next := b + s.fld F.SYS_PERIOD_TC, seq := 0, count := 1, sealed := 0, phase := 0
                 departing := none, departRef := none, midDone := false, deadlineDone := false
                 carrierFrom := 16 * b - 1 }
  let s1 := { s with per := per, flt := { s.flt with safePending := false } }
  let s2 := s1.place.motionFromConfigure.freshRed.fixMap
  let s3 := if m = 4 then s2.replayLanes else s2.openEpoch
  let s4 := s3.setMode m
  match s.per.departRef with
  | some ref => s4.finishCmd ref done 1
  | none => s4

/-- MODE_REQUEST at its application (R41): the outcome of the descriptor, none while a departure's first period is not sealed. -/
def State.modeRequest (s : State) (m : Nat) (ref : Option CmdRef) : State × Option Result :=
  match s.modeRefusal m with
  | some r => (s.setFld F.SYS_MODE_REFUSAL r, some (modeRefused r))
  | none =>
    if s.mode == .configure then (s.acceptDeparture m ref, none)
    else if m = 0 then (s.enterConfigure, some done)
    else (s.setMode m, some done)

/-- SAFE in force at a boundary puts COMMISSION and RUN in HOLD (R42). -/
def State.safeBoundary (s : State) : State :=
  if s.flt.safePending && (s.mode == .commission || s.mode == .run) then s.setMode 3 else s

end Sys2Proof.Machine
end

