-- ==== Sys2Proof/Machine/Service.lean ====
section
/-!
DEFINITION. Keys and service access (15_security_and_service_access): SEC.CFGKEY, SEC.CTRL, SEC.DEBUG and SEC.LANEMEM.
-/

namespace Sys2Proof.Machine

/-- SEC.STATUS. -/
def State.showSec (s : State) : State :=
  [(F.SEC_STATUS_ID_PRESENT, s.fld F.SEC_ID_PRESENT), (F.SEC_STATUS_KEY_PRESENT, s.fld F.SEC_CFGKEY_PRESENT),
   (F.SEC_STATUS_OPENED, s.sec.opened.toNat), (F.SEC_STATUS_ERASED, s.sec.erased.toNat),
   (F.SEC_STATUS_UNATTESTED, s.sec.unattested.toNat), (F.SEC_STATUS_CFG_SKIPPED, s.sec.skipped),
   (F.SEC_STATUS_SKIP_SAT, s.sec.skipSat.toNat)].foldl (fun s (e : Fld × Nat) => s.setFld e.1 e.2) s

/-- Status objects that stand as the most recent seal left them (R174, R219, R417, R429, 11_takeover_and_spares). -/
def State.showSealed (s : State) : State := (((s.showRed.showSpares).showSurvey).showSec).forRange 4 fun s g => s.showCaravan g

/-! ### Keys (R425 to R429) -/

/-- A write of SEC.CFGKEY in a mode that allows it (R425). -/
def State.secCfgkey (s : State) (w : Wr) : State × Result :=
  if s.bit F.SEC_CFGKEY_PRESENT || s.sec.opened || w.newFld s F.SEC_CFGKEY_KEY_ID == 0 then (s, refused 0x1)
  else ((s.applyRw w).setBit F.SEC_CFGKEY_PRESENT true, done)

/-- GEN_ID (R426): the outcome at once, or none while generation runs. -/
def State.genIdCmd (s : State) (ref : CmdRef) : State × Option Result :=
  if s.mode != .configure then (s, some s.wrongMode)
  else if s.sec.opened || s.bit F.SEC_ID_PRESENT then (s, some (refused 0x1))
  else ({ s with sec := { s.sec with genId := s.sec.genId ++ [ref] } }, none)

/-- OPEN (R427): steps 1 and 2; the erase ends later. -/
def State.openCmd (s : State) (ref : CmdRef) : State × Option Result :=
  if !(s.mode == .configure || s.mode == .hold) then (s, some s.wrongMode)
  else
    let s1 := { s with sec := { s.sec with opened := true, marker := true, opening := s.sec.opening ++ [ref] } }
    ((s1.raise K.SERVICE_OPEN).setUnattested true, none)

/-- LOG_ERASE (R429): an empty fault log with one entry of KIND 0xFD. -/
def State.logErase (s : State) : State × Result :=
  if s.mode != .configure then (s, s.wrongMode)
  else if !s.bit F.SEC_ID_PRESENT || !s.bit F.SEC_CFGKEY_PRESENT || s.sec.unattested then (s, refused 0x2)
  else
    let s1 := (({ s with flt := { s.flt with log := [] } }).setFld F.FLT_LOG_NEXT 0).setBit F.FLT_LOG_WRAPPED false
    (s1.logEntry { source := 0, kind := 0xFD, severity := 0, simul := false, stamp := s.now, seq := s.per.seq, data := 0 } 0 0 0, done)

/-- A write of SEC.CTRL (R426): CODE and at most one action. -/
def State.secCtrl (s : State) (genId openIt logErase : Bool) (code : Nat) (ref : CmdRef) : State × Option Result :=
  if code ≠ 0xA5C3 ∨ 1 < genId.toNat + openIt.toNat + logErase.toNat then (s, some (refused 0x3))
  else if genId then s.genIdCmd ref
  else if openIt then s.openCmd ref
  else if logErase then (s.logErase.1, some s.logErase.2)
  else (s, some done)

/-- Every descriptor of a list ends with one outcome. -/
def State.finishAll (s : State) (refs : List CmdRef) (o : Result) : State := refs.foldl (fun s r => s.finishCmd r o s.sealNext) s

/-- Generation ends (R426): SEC.ID holds the new pair, without an endorsement. A pair whose generation OPEN overtook is not kept. -/
def State.keyGenDone (s : State) : State :=
  if s.sec.genId.isEmpty then s
  else
    let k := newKeyPair s.sec.drbg
    let refs := s.sec.genId
    let s1 := { s with sec := { s.sec with genId := [], drbg := s.sec.drbg + 1 } }
    if s.sec.opened then s1.finishAll refs (refused 0x1)
    else
      let s2 := { s1 with sec := { s1.sec with priv := some k.1 } }
      ([(F.SEC_ID_PUBKEY, k.2), (F.SEC_ID_ENDORSE, 0), (F.SEC_ID_PRESENT, 1), (F.SEC_ID_ORIGIN, 1)].foldl
        (fun s (e : Fld × Nat) => s.setFld e.1 e.2) s2).finishAll refs done

/-- The erase ends (R427, steps 3 and 4). -/
def State.eraseDone (s : State) : State :=
  if s.sec.opening.isEmpty then s
  else
    let refs := s.sec.opening
    let s1 := s.eraseKeys
    ({ s1 with sec := { s1.sec with erased := true, opening := [] } }).finishAll refs done

/-- KEY_GEN_DONE: generation of the identity key pair ends (R426). -/
def execKeyGenDone (s : State) : Out := .next s.keyGenDone

/-- ERASE_DONE: the erase of the keys ends (R427). -/
def execEraseDone (s : State) : Out := .next s.eraseDone

/-! ### Halted lane pairs (R430) -/

/-- HALT: both copies stop, and nothing is dispatched to the pair. -/
def State.debugHalt (s : State) : State := (s.haltCopy s.debugLane 0).haltCopy s.debugLane 1

/-- STEP on one copy: the instruction at PC, when its task is not over. -/
def State.stepCopy (s : State) (l : Nat) (c : Fin 2) : Except Fault State :=
  let u := s.activeUnit
  let v := s.lane u l c
  if v.task.isNone then .ok s
  else if 8192 ≤ v.pc then .error .pastProgramEnd
  else
    match decodeLane (v.prog.get v.pc 0).toNat with
    | none => .error .reservedEncoding
    | some op =>
      match s.retire { unit := Fin.ofNat 2 u, lane := Fin.ofNat 12 l, copy := c } op with
      | .next t => .ok t
      | .fault f => .error f
      | .refused _ => .ok s

/-- Posts made while stepping are compared and discarded (R22, R430). -/
def State.dropStepPosts (s : State) (l : Nat) : State :=
  let u := s.activeUnit
  let a := (s.lane u l 0).posts
  let b := (s.lane u l 1).posts
  let s1 := if a = b then s else s.mismatch u l
  let clear := fun (s : State) c => s.setLane u l c { s.lane u l c with posts := [] }
  clear (clear s1 0) 1

/-- STEP: one instruction in both copies of a halted pair. -/
def State.debugStep (s : State) : Except Fault State :=
  if !s.debugHalted then .ok s
  else
    match s.stepCopy s.debugLane 0 with
    | .error f => .error f
    | .ok s1 =>
      match s1.stepCopy s.debugLane 1 with
      | .error f => .error f
      | .ok s2 => .ok (s2.dropStepPosts s.debugLane)

/-- RESUME: the pair starts afresh with the record of the next boundary. -/
def State.debugResume (s : State) : State :=
  if s.debugHalted then { s with sec := { s.sec with resume := s.sec.resume ||| 2 ^ s.debugLane } } else s

/-- At a boundary, the pairs RESUME names leave the halt, with nothing of what they computed before (R430). -/
def State.resumeBoundary (s : State) : State :=
  let s1 := s.forRange 12 fun s l =>
    if s.sec.resume.testBit l then
      let u := s.activeUnit
      let s1 := s.stopPair u l
      let go := fun (s : State) c => s.setLane u l c { s.lane u l c with halted := false }
      let s2 := go (go s1 0) 1
      ({ s2 with sec := { s2.sec with halted := putBits s2.sec.halted l 1 0 } }).haltGroups l false
    else s
  if s.sec.resume = 0 then s else ({ s1 with sec := { s1.sec with resume := 0 } }).showDebug

/-- A write of SEC.DEBUG, its fields set: HALT, then STEP, then RESUME. -/
def State.secDebug (s : State) (halt step resume : Bool) : Except Fault State :=
  let s0 := s.showDebug
  let s1 := if halt then s0.debugHalt else s0
  match (if step then s1.debugStep else .ok s1) with
  | .error f => .error f
  | .ok s2 => .ok (if resume then s2.debugResume else s2)

/-! ### SEC.LANEMEM (R431) -/

/-- A stack of the register space grows or shrinks to a depth. -/
def resize {α : Type} (n : Nat) (d : α) (l : List α) : List α := l.take n ++ List.replicate (n - l.length) d

/-- Put a value at a place of a stack that holds it. -/
def putAt {α : Type} (l : List α) (i : Nat) (v : α) : List α := l.set i v

/-- A word of the register space takes a value, bits [23:0] (R431). A pointer's anchor stays. A stack entry beyond the depth is
not held. -/
def Lane.setRegWord (l : Lane) (w v : Nat) : Lane :=
  let word := BitVec.ofNat 24 v
  let loops := l.loops.reverse
  if w < 24 then
    let old := longWords (l.a.get (w / 3) 0)
    let at_ := fun (k : Nat) => if k = w % 3 then word else old.getD k 0
    { l with a := l.a.set (w / 3) (longJoin (at_ 0) (at_ 1) (at_ 2)) 0 }
  else if w < 32 then { l with d := l.d.set (w - 24) word 0 }
  else if w < 40 then { l with p := l.p.set (w - 32) (BitVec.ofNat 14 v) 0 }
  else if w < 48 then { l with q := l.q.set (w - 40) (BitVec.ofNat 14 v) 0 }
  else if w < 56 then { l with m := l.m.set (w - 48) word 0 }
  else if w = 56 then
    { l with flagN := v.testBit 0, flagZ := v.testBit 1, flagG := v.testBit 2, flagW := v.testBit 3, flagS := v.testBit 4 }
  else if w = 57 then { l with pc := v % 2 ^ 13 }
  else if w < 66 then { l with calls := (putAt l.calls.reverse (w - 58) (v % 2 ^ 13)).reverse }
  else if w = 66 then { l with calls := (resize (min 8 v) 0 l.calls.reverse).reverse }
  else if w < 79 then
    let i := (w - 67) / 3
    match loops[i]? with
    | none => l
    | some r =>
      let r1 : LoopRec := if (w - 67) % 3 = 0 then { r with start := v % 2 ^ 13 }
        else if (w - 67) % 3 = 1 then { r with last := v % 2 ^ 13 } else { r with left := v % 2 ^ 24 }
      { l with loops := (putAt loops i r1).reverse }
  else if w = 79 then
    { l with loops := (resize (min 4 v) { start := 0, last := 0, left := 0, depth := l.calls.length } loops).reverse }
  else l

/-- A word of a space takes a value; the program is read only (R431). A word written carries good parity (R102). -/
def Lane.setMemWord (l : Lane) (space w v : Nat) : Lane :=
  match space with
  | 0 => l.setRegWord w v
  | 1 => if w < 2 ^ 14 then { l with x := l.x.set w (BitVec.ofNat 24 v) 0, badParity := l.badParity.filter (· != (.x, w)) } else l
  | 2 => if w < 2 ^ 14 then { l with y := l.y.set w (BitVec.ofNat 24 v) 0, badParity := l.badParity.filter (· != (.y, w)) } else l
  | _ => l

/-- A write of bytes of SEC.LANEMEM at a halted pair: both copies take each word the bytes reach. -/
def State.laneMemWrite (s : State) (param off len data : Nat) : State :=
  let space := getBits param 0 2
  let first := getBits param 2 14 + off / 4
  let low := off % 4
  let put := fun (s : State) (c : Nat) =>
    let v := (List.range ((low + len + 3) / 4)).foldl (fun (l : Lane) i =>
      let old := l.memWord space (first + i)
      let byte := fun (b : Nat) =>
        if low ≤ 4 * i + b ∧ 4 * i + b < low + len then data / 2 ^ (8 * (4 * i + b - low)) % 2 ^ 8 else old / 2 ^ (8 * b) % 2 ^ 8
      l.setMemWord space (first + i) (byte 0 + byte 1 * 2 ^ 8 + byte 2 * 2 ^ 16)) (s.lane s.activeUnit s.debugLane c)
    s.setLane s.activeUnit s.debugLane c v
  put (put s 0) 1

/-! ### ATTEST (R423) -/

/-- ATTEST: refused, or the statement written to host memory. -/
def State.attest (s : State) (nonce hostAddr : Nat) : State × Result :=
  if s.sec.priv.isNone then (s, refused 0x1)
  else if s.sec.opened then (s, refused 0x2)
  else
    let r := s.signed nonce
    (r.2.hostWrite hostAddr 224 (natOf r.1), done)

end Sys2Proof.Machine
end

