-- ==== Sys2Proof/Machine/ObjWrite.lean ====
section
/-!
DEFINITION. OBJ_WRITE and OBJ_READ at their application (R80): the checks in their order, and what a write of each object does
beside setting its RW fields.
-/

namespace Sys2Proof.Machine

/-- How a command ends at its application: an undefined use, or a state with the outcome, none while the action runs on. -/
abbrev Applied := Except Fault (State × Option Result)

/-- The outcome of a write that is done. -/
def okWrite (s : State) : Applied := .ok (s, some done)

/-- The outcome of an action that answers at once. -/
def answer (r : State × Result) : Applied := .ok (r.1, some r.2)

/-- The range of a write covers a field of an entry whole. -/
def Wr.covers (w : Wr) (f : Fld) (e : Nat := 0) : Bool := getBits (w.mask e) f.lo f.width == 2 ^ f.width - 1

/-- Fields of an instance return to 0. -/
def State.zeroFlds (s : State) (inst : Nat) (fs : List Fld) : State := fs.foldl (fun s f => s.setFld f 0 inst) s

/-! ### Objects with rules of their own -/

/-- SYS.SLACK.CLR of the entries it is written in (R32). -/
def State.slackClear (s : State) (w : Wr) : State :=
  (w.touched.filter fun e => w.actBit F.SYS_SLACK_CLR e).foldl (fun s e =>
    ((s.setFld F.SYS_SLACK_MINSLACK 0x7FFFF 0 e).setFld F.SYS_SLACK_LATE 0 0 e).setBit F.SYS_SLACK_LATE_SAT false 0 e) s

/-- ENG.BANK.SWAP changes the bank in force (R137). SWAP_SEQ of a swap in CONFIGURE, where no boundary runs, is the sequence number the
last run left (DESIGN CHOICE, log 87). -/
def State.bankSwap (s : State) : State :=
  (s.setBit F.ENG_BANK_IN_FORCE (!s.bit F.ENG_BANK_IN_FORCE)).setFld F.ENG_BANK_SWAP_SEQ s.per.seq

/-- One bank word in both copies of a lane pair. -/
def State.pokeBank (s : State) (u l : Nat) (bankB : Bool) (a : Nat) (v : Word24) : State :=
  let put := fun (s : State) (c : Nat) =>
    let x := s.lane u l c
    s.setLane u l c (if bankB then { x with bankB := x.bankB.set a v 0, badParity := x.badParity.filter (· != (.bankB, a)) }
      else { x with bankA := x.bankA.set a v 0, badParity := x.badParity.filter (· != (.bankA, a)) })
  put (put s 0) 1

/-- A write of a coefficient bank (R136): the master copy and every lane pair that is not fenced. -/
def State.coefWrite (s : State) (w : Wr) (bankB : Bool) : State × Result :=
  if s.bit F.ENG_BANK_IN_FORCE == bankB then (s, refused 0x1)
  else if s.bit F.ENG_IDENT_DIFFER then (s, refused 0x2)
  else
    let s1 := s.applyRw w
    let f := if bankB then F.ENG_COEF_B_WORD else F.ENG_COEF_A_WORD
    (s1.forRange 24 fun s p =>
      let u := p / 12
      let l := p % 12
      if !s.unitLoaded u || s.fenced (.unit u) || s.fenced (.lane u l) then s
      else w.touched.foldl (fun s e => s.pokeBank u l bankB e (BitVec.ofNat 24 (s1.fld f 0 e))) s, done)

/-- The idle levels of a group: both outputs of one leg at 1 (R245). -/
def idleClash (idle : Nat) : Bool := (List.range 6).any fun k => idle.testBit k && idle.testBit (complement k)

/-- FLT.CFG: FIRST_CLR, and ALIVE while it is disabled (R372, R378). -/
def State.fltCfg (s : State) (w : Wr) : State :=
  let s1 := s.applyRw w
  let s2 := if w.actBit F.FLT_CFG_FIRST_CLR then s1.setBit F.FLT_FIRST_VALID false else s1
  if s2.bit F.FLT_CFG_ALIVE_EN then s2 else { s2 with flt := { s2.flt with alive := false } }

/-- The entries a write of FLT.SRC changes are kept as they stood, for events stamped no later than the write (R379). -/
def State.keepSrc (s : State) (w : Wr) : State :=
  { s with flt := { s.flt with srcOld := s.flt.srcOld ++ w.touched.map fun e => (e, s.now, s.obj .fltSrc 0 e) } }

/-- FLT.SRC and its refusals (R379). -/
def State.fltSrc (s : State) (w : Wr) : State × Result :=
  let fixes := w.touched.any fun e =>
    (kindRow e).any (·.fixed) && (w.newFld s F.FLT_SRC_BASE e != s.fld F.FLT_SRC_BASE 0 e
      || w.newFld s F.FLT_SRC_SEVERE e != s.fld F.FLT_SRC_SEVERE 0 e)
  if fixes then (s, refused 0x1)
  else if w.touched.any (fun e => (kindRow e).isNone && w.bits e != 0) then (s, refused 0x2)
  else ((s.keepSrc w).applyRw w, done)

/-- Source number an entry of FLT.FORCE forces, if it forces one (R371). -/
def State.forced (s : State) (k : Nat) : Option Nat :=
  if s.bit F.FLT_FORCE_FORCE 0 k then some (sourceNo k (s.fld F.FLT_FORCE_INST 0 k)) else none

/-- A write of FLT.FORCE names a reserved kind: a value in such an entry, or no entry but such (R371). -/
def Wr.namesReservedKind (w : Wr) : Bool :=
  w.touched.any (fun e => (kindRow e).isNone && w.bits e != 0) || w.touched.all fun e => (kindRow e).isNone

/-- FLT.FORCE (R371): a number newly forced has an onset, one no longer forced shows its real condition. -/
def State.force (s : State) (w : Wr) : State × Result :=
  let bad := w.touched.any fun e => match kindRow e with
    | none => false
    | some r => decide (r.instances ≤ w.newFld s F.FLT_FORCE_INST e)
  if bad || w.namesReservedKind then (s, refused 0x3)
  else
    let s1 := s.applyRw w
    (w.touched.foldl (fun (t : State) k =>
      if s.forced k = s1.forced k then t
      else
        let t1 := match s.forced k with
          | some src => t.showBits src
          | none => t
        match s1.forced k with
        | some src => t1.send { source := src, stamp := s.now, forced := true }
        | none => t1) s1, done)

/-- CAN.CFG: a channel whose EN changes integrates before it takes part (R324). -/
def State.canCfg (s : State) (w : Wr) : State :=
  if w.newFld s F.CAN_CFG_EN = s.fld F.CAN_CFG_EN w.inst then s.applyRw w else (s.applyRw w).canState w.inst 3

/-- FB.CTRL (R289): a refused write leaves everything as it was; a reserved SER_CMD is an undefined use. -/
def State.fbCtrlWrite (s : State) (w : Wr) : Applied :=
  let s1 := s.applyRw w
  let go := w.actBit F.FB_CTRL_SER_GO
  let cmd := s1.fld F.FB_CTRL_SER_CMD w.inst
  match s1.fbCtrl w.inst (w.actBit F.FB_CTRL_PRESET) (w.actBit F.FB_CTRL_ARM_HOME) (w.actBit F.FB_CTRL_CNT_CLR) go with
  | (some o, _) => .ok (s, some o)
  | (none, t) => if go ∧ cmd ≠ 2 ∧ cmd ≠ 3 then .error .reservedCode else okWrite t

/-- SURV.EXPORT (R412). -/
def State.exportWrite (s : State) (w : Wr) : Applied :=
  let s1 := s.applyRw w
  if !w.actBit F.SURV_EXPORT_SETUP then okWrite s1
  else if s1.fld F.SURV_EXPORT_KIND = 3 then .error .reservedCode
  else answer s1.exportSetup

/-- SURV.REPLAY (R414): a source that is not valid leaves the object as it was. -/
def State.replayWrite (s : State) (w : Wr) : State × Result :=
  let r := (s.applyRw w).replayLoad
  if r.2.status = 0x00 then r else (s, r.2)

/-- SURV.CTRL (R408, R457). -/
def State.survCtrl (s : State) (unfreeze clr : Bool) : State :=
  let s1 := if unfreeze then s.unfreeze else s
  if clr then s1.survClear else s1

/-- Write of an object that passed every check of R80. `lands` holds the levels filters settle on: the trip inputs from bit 0, then
A, B and Z of each feedback channel. -/
def State.objEffect (s : State) (w : Wr) (param : Nat) (ref : CmdRef) (lands : Nat) : Applied :=
  let s1 := s.applyRw w
  let n := w.inst
  match w.obj with
  | .sysMode => if w.covers F.SYS_MODE_REQ then .ok (s.modeRequest (w.act F.SYS_MODE_REQ) (some ref)) else okWrite s
  | .sysReset =>
    if w.covers F.SYS_RESET_KIND then
      s.sysReset (w.act F.SYS_RESET_KIND) (w.act F.SYS_RESET_INDEX) (w.act F.SYS_RESET_UNIT) (w.actBit F.SYS_RESET_SRC) (some ref)
    else okWrite s
  | .sysSlack => okWrite (s.slackClear w)
  | .engLane => okWrite (if w.actBit F.ENG_LANE_CLR then s.zeroFlds n [F.ENG_LANE_PARITY, F.ENG_LANE_PARITY_SAT] else s)
  | .engBank => okWrite (if w.actBit F.ENG_BANK_SWAP then s.bankSwap else s)
  | .engCoefA => answer (s.coefWrite w false)
  | .engCoefB => answer (s.coefWrite w true)
  | .gearMaster => if s.fld F.GEAR_MASTER_STATE n ≠ 0 then answer (s, refused 0x1) else okWrite s1
  | .camProf => if s.profEngaged n then answer (s, refused 0x1) else okWrite s1
  | .camCommit =>
    if w.actBit F.CAM_COMMIT_GO then
      let r := s1.camCommit
      if r.2.status = 0x00 then answer r else answer (s, r.2)
    else okWrite s1
  | .latchCfg => if (s.latchUnit n).armed && (s.latchUnit n).abort.isNone then answer (s, refused 0x1) else okWrite s1
  | .cmpCfg => if s.bit F.CMP_STATUS_ARMED n then answer (s, refused 0x1) else okWrite s1
  | .pwmgCfg =>
    if idleClash (w.newFld s F.PWMG_CFG_IDLE) then answer (s, refused 0x1) else okWrite (s1.tripNamed.tripUnnamed.refreshGroups)
  | .pwmgAux => okWrite (s1.restartTriggers n)
  | .pwmTripin => okWrite (s1.settleTrips (lands % 2 ^ 32))
  | .pwmgCtrl =>
    answer (s.pwmCtrl n (w.newFld s F.PWMG_CTRL_EN != 0) (w.actBit F.PWMG_CTRL_TRIP_CLR) (w.actBit F.PWMG_CTRL_CNT_CLR))
  | .fbCfg | .fbSerial => okWrite ((s1.reinitFb n).settleFb n (getBits lands (32 + 3 * n) 3))
  | .fbCtrl => s.fbCtrlWrite w
  | .emuCfg => okWrite (s1.emuCfg n)
  | .csStatus =>
    okWrite (if w.actBit F.CS_STATUS_CLR then
      s.setSds n { s.sds n with ocCnt := 0, staleCnt := 0, ocSat := false, staleSat := false } else s)
  | .timeStatus =>
    okWrite (if w.actBit F.TIME_STATUS_CLR then { s with time := { s.time with steps := 0, stepsSat := false } } else s)
  | .timeCfg => okWrite s1.decide1588
  | .ethCfg =>
    let v := w.newFld s F.ETH_CFG_SPEED
    if 5 ≤ v ∨ (n = 2 ∧ v ≠ 0 ∧ v ≠ 4) then .error .reservedCode else okWrite ((s1.portOff n).portConfigured n)
  | .ethStatus => okWrite (if w.actBit F.ETH_STATUS_CLR then s.ethClear n else s)
  | .cycRx =>
    okWrite (if w.actBit F.CYC_RX_CLR then
      s1.zeroFlds n [F.CYC_RX_LATE_CNT, F.CYC_RX_DUP_CNT, F.CYC_RX_DIFF_CNT, F.CYC_RX_SAT] else s1)
  | .canCfg => okWrite (s.canCfg w)
  | .canStatus => okWrite (if w.actBit F.CAN_STATUS_CLR then s.canClear n else s)
  | .fioStatus => okWrite (if w.actBit F.FIO_STATUS_CLR then s.fioClear else s)
  | .fioDiCfg => okWrite s1.diRestart
  | .redCfg => okWrite s1.noteRedundancy
  | .redCtrl =>
    answer (s.redCtrl (w.actBit F.RED_CTRL_MIGRATE) (w.act F.RED_CTRL_LANE) (w.actBit F.RED_CTRL_UNRETIRE) (w.act F.RED_CTRL_UNIT)
      (w.actBit F.RED_CTRL_CLR))
  | .fltCfg => okWrite (s.fltCfg w)
  | .fltSrc => answer (s.fltSrc w)
  | .fltForce => answer (s.force w)
  | .survCtrl => okWrite (s.survCtrl (w.actBit F.SURV_CTRL_UNFREEZE) (w.actBit F.SURV_CTRL_CLR))
  | .survExport => s.exportWrite w
  | .survReplay => answer (s.replayWrite w)
  | .secCfgkey => answer (s.secCfgkey w)
  | .secCtrl =>
    .ok (s.secCtrl (w.actBit F.SEC_CTRL_GEN_ID) (w.actBit F.SEC_CTRL_OPEN) (w.actBit F.SEC_CTRL_LOG_ERASE) (w.act F.SEC_CTRL_CODE) ref)
  | .secDebug =>
    match s1.secDebug (w.actBit F.SEC_DEBUG_HALT) (w.actBit F.SEC_DEBUG_STEP) (w.actBit F.SEC_DEBUG_RESUME) with
    | .error f => .error f
    | .ok t => okWrite t
  | .secLanemem => if s.debugHalted then okWrite (s.laneMemWrite param w.off w.len w.data) else answer (s, refused 0x1)
  | .caravanSegbuf => answer (s, refused Config.unstatedDetail)
  | .axisCfg | .sysCommission => okWrite s1.refreshGroups
  | _ => okWrite s1

/-- OBJ_WRITE at its application (R80): an undefined use of the range or of a reserved field (R9, R11), WRONG_MODE, BLOCK_RESET, and
then the object's own rules. -/
def State.objWrite (s : State) (w : Wr) (param : Nat) (ref : CmdRef) (lands : Nat) : Applied :=
  if w.reserved then .error .reservedField
  else if !s.writeAllowed w then answer (s, s.wrongMode)
  else
    match s.writeFenced w with
    | some k => answer (s, blockReset k)
    | none => s.objEffect w param ref lands

/-- OBJ_READ at its application (R80, R431): the outcome and the bytes. SEC.LANEMEM is read in SERVICE at a halted pair. -/
def State.objRead_ (s : State) (o : Obj) (inst off len param : Nat) : Result × Option Nat :=
  match o with
  | .secLanemem =>
    if s.mode != .service then (s.wrongMode, none)
    else if s.debugHalted then (done, some (s.readObject o inst off len param)) else (refused 0x1, none)
  | o => (done, some (s.readObject o inst off len param))

end Sys2Proof.Machine
end

