-- ==== Sys2Proof/Machine/Commands.lean ====
section
/-!
DEFINITION. Descriptors from validation to application (R75 to R83, R89 to R98): what each opcode checks, what makes a command due,
chains, and what its application does.
-/

namespace Sys2Proof.Machine

/-! ### Opcodes (Table 03.3) -/

/-- Opcodes a ring takes (R79): command rings 0 to 15, bulk rings 16 and 17. -/
def ringOpcodes (ring : Nat) : List Nat :=
  if ring < 16 then
    [0x01, 0x02, 0x03, 0x04, 0x05, 0x06, 0x10, 0x11, 0x12, 0x13, 0x14, 0x18, 0x19, 0x1A, 0x1B, 0x1C, 0x1D, 0x20, 0x24, 0x28]
  else if ring = 16 then [0x01, 0x40, 0x41]
  else [0x01, 0x48, 0x49]

/-- CLASS and OBJECT an opcode's OBJ_ID must name, where its chapter names them (R81); none where any defined object will do. -/
def opObjects (op : Nat) : Option (List (Nat × Nat)) :=
  match op with
  | 0x05 => some [(13, 2)]
  | 0x06 => some [(11, 4)]
  | 0x10 | 0x11 | 0x12 | 0x13 | 0x14 => some [(5, 0)]
  | 0x18 | 0x19 | 0x1A => some [(6, 0)]
  | 0x1B => some [(6, 5)]
  | 0x1C => some [(7, 0)]
  | 0x1D => some [(7, 2)]
  | 0x20 => some [(9, 0)]
  | 0x24 => some [(12, 2)]
  | 0x28 => some [(14, 0)]
  | 0x41 => some [(6, 2), (12, 5)]
  | 0x48 => some [(12, 3)]
  | 0x49 => some [(11, 6)]
  | _ => none

/-- The opcode uses OBJ_ID. -/
def usesObject (op : Nat) : Bool := !(op = 0x01 ∨ op = 0x04 ∨ op = 0x40)

/-- The object CLASS and OBJECT name, whatever the INSTANCE (R81). -/
def namedObj (id : Nat) : Option Obj :=
  match objOf id with
  | some o => some o
  | none => (List.range 64).findSome? fun i => Obj.ofId (oidClass id) i (oidObj id)

/-- The size an opcode's OFFSET and LENGTH are checked against (R81). -/
def sizeFor (op : Nat) (o : Obj) : Nat :=
  if op = 0x20 then 2064 else if op = 0x48 ∨ op = 0x49 then 4096 else o.size

/-- The opcode carries data in (R77). -/
def carriesIn (op : Nat) : Bool := [0x02, 0x1B, 0x20, 0x28, 0x40, 0x41].contains op

/-- The host buffer a descriptor reads. -/
def descReads (d : Desc) : Bool := carriesIn d.opcode && d.indirect

/-- The data a descriptor carries in: its inline area, or what its host buffer held. -/
def descData (d : Desc) (host : Nat) : Nat :=
  if carriesIn d.opcode then (if d.indirect then host else d.inline) % 2 ^ (8 * d.length) else 0

/-- LENGTH is beyond what the descriptor may carry (R77), or the range leaves its object (R81). -/
def descBadLength (d : Desc) : Bool :=
  (carriesIn d.opcode && decide ((if d.indirect then 4096 else 32) < d.length)) || decide (4096 < d.length)
    || (usesObject d.opcode && (namedObj d.objId).any fun o => decide (sizeFor d.opcode o < d.offset + d.length))

/-! ### Reserved fields of descriptors (R11, R77) -/

/-- Bits of PARAM and of the inline area that an opcode uses. -/
def usedBits (d : Desc) : Nat × Nat :=
  let lane := if objOf d.objId = some .secLanemem then 2 ^ 17 - 1 else 0
  let inl := if d.indirect then 0 else 2 ^ (8 * d.length) - 1
  match d.opcode with
  | 0x02 => (lane, inl)
  | 0x03 => (lane, 0)
  | 0x04 => (0x1FFF000F, 0)
  | 0x06 => (2 ^ 18 - 1, 0)
  | 0x10 => (7, 2 ^ 48 - 1 + 0xFFFFFF * 2 ^ 64)
  | 0x11 => (0, 0xFFFFFF * 2 ^ 64)
  | 0x18 => (7, 2 ^ 144 - 1)
  | 0x19 => (0x33F, 2 ^ 48 - 1 + (2 ^ 48 - 1) * 2 ^ 64 + 0xFFFF * 2 ^ 128)
  | 0x1A => (1, 0)
  | 0x1D => (0xFFFF0003, 2 ^ 64 - 1)
  | 0x20 => (0, inl)
  | 0x24 => (1, 0)
  | 0x28 => (0, 2 ^ 256 - 1)
  | 0x40 => (2 ^ 24 - 1 + 2 ^ 31, inl)
  | 0x41 => if namedObj d.objId = some .camStage then (2 ^ 15 - 1, inl) else (2 ^ 32 - 1, inl)
  | 0x48 => (2 ^ 32 - 1, 0)
  | 0x49 => (2 ^ 14 - 1, 0)
  | _ => (0, 0)

/-- Opcodes whose OFFSET, and whose LENGTH and INDIRECT, carry something. -/
def usesOffset (op : Nat) : Bool := op = 0x02 ∨ op = 0x03
def usesLength (op : Nat) : Bool := carriesIn op || [0x03, 0x48, 0x49].contains op

/-- The opcode may read or write a host buffer. -/
def usesHost (op : Nat) : Bool := carriesIn op || [0x03, 0x48, 0x49].contains op

/-- A field the opcode does not use holds another value than 0, or a field that has one value only holds another. -/
def descReserved (d : Desc) (ring : Nat) : Bool :=
  let u := usedBits d
  (d.param ^^^ (d.param &&& u.1)) != 0 || (d.inline ^^^ (d.inline &&& u.2)) != 0
    || (!usesObject d.opcode && d.objId != 0) || (!usesOffset d.opcode && d.offset != 0)
    || (!usesLength d.opcode && (d.length != 0 || d.indirect)) || (d.opcode == 0x1B && !d.indirect)
    || (d.opcode == 0x28 && (d.indirect || d.length != 32))
    || d.spare != 0 || (!usesHost d.opcode && d.hostAddr != 0)
    || (d.last && !(d.opcode == 0x40 || d.opcode == 0x41)) || (decide (16 ≤ ring) && (d.applyAtEn || d.chain))

/-! ### Targets of ABORT (R97) -/

/-- An index of a ring as references hold it: the ring's enables tell indices of its lives apart. -/
def State.ringIndex (s : State) (r i : Nat) : Nat := i % 2 ^ 12 + 2 ^ 12 * (s.ring r).gen

/-- The descriptor an ABORT's PARAM names. -/
def State.abortTarget (s : State) (param : Nat) : CmdRef :=
  (param % 2 ^ 4, s.ringIndex (param % 2 ^ 4) (getBits param 16 12), param.testBit 28)

/-- ABORTs whose targets will never complete end with NOTHING_TO_ABORT. -/
def State.releaseAborts (s : State) (p : CmdRef → Bool) : State :=
  let free := fun (c : Cmd) =>
    match c.waits with
    | some t => if p t then
        { c with waits := none, outcome := some (c.outcome.getD { status := 0x03, detail := 0 }), sealNeed := max c.sealNeed s.sealHere }
      else c
    | none => c
  { s with host := { s.host with cmds := s.host.cmds.map free, early := s.host.early.filter fun (e : CmdRef × Nat) => !p e.1 } }

/-- The position a reference names is announced by the host and not yet fetched (R73). -/
def State.unfetched (s : State) (t : CmdRef) : Bool :=
  let n := s.ringSize t.1
  let i := t.2.1 % 2 ^ 12
  let p : Pos := (i, t.2.2)
  let prod : Pos := ((s.ring t.1).prod, (s.ring t.1).prodPhase)
  s.bit F.HIF_RING_CTRL_ENABLE t.1 && t.2.1 == s.ringIndex t.1 i && decide (i < n) && posWithin n (s.head t.1) p
    && decide (posDist n (s.head t.1) p < posDist n (s.head t.1) prod)

/-- The position a reference names held a descriptor that was fetched after an erroring one and discarded with it: it is not yet applied
(R94, R97). -/
def State.discarded (s : State) (t : CmdRef) : Bool :=
  s.bit F.HIF_RING_CTRL_ENABLE t.1 && (s.ring t.1).dropped.contains (t.2.1, t.2.2)

/-- Change a command the hub holds. -/
def State.mapCmd (s : State) (t : CmdRef) (f : Cmd → Cmd) : State :=
  { s with host := { s.host with cmds := s.host.cmds.map fun c => if c.is t then f c else c } }

/-- The action of an applied target stops, as its chapter says; none where nothing of it runs or it has no such action. -/
def State.stopTarget (s : State) (op : Nat) (t self : CmdRef) : Option State :=
  let o : Result := { status := 0x01, detail := refDetail self }
  match op with
  | 0x10 | 0x11 | 0x12 | 0x13 | 0x14 | 0x18 | 0x19 => s.abortMotion t self
  | 0x1B => s.abortCaravan t self
  | 0x1C => (s.latchOwned t).map fun n => s.abortLatch n o.detail
  | 0x1D => (s.cmpOwned t).map fun u => s.disarmCmp u o
  | 0x20 => s.canAbort t self
  | _ => none

/-- ABORT at its application (Table 03.6). -/
def State.abort (s : State) (t self : CmdRef) : State × Option Result :=
  let nothing : Result := { status := 0x03, detail := 0 }
  let done1 : Result := { status := 0x02, detail := 0x01 }
  let wait := fun (s : State) => s.mapCmd self fun c => { c with waits := some t }
  match s.host.cmds.find? (·.is t) with
  | none =>
    if s.unfetched t || s.discarded t then
      let s1 := { s with host := { s.host with early := s.host.early ++ [(t, refDetail self)] } }
      if t.1 = self.1 then (s1, some done1) else (wait s1, none)
    else (s, some nothing)
  | some c =>
    if t = self then (s, some nothing)
    else if c.stage ≠ .applied then
      let s1 := s.mapCmd t fun c => { c with withdrawn := some (c.withdrawn.getD (refDetail self)) }
      if t.1 = self.1 then (s1, some done1) else (wait s1, none)
    else if c.outcome.isSome then (wait s, some nothing)
    else
      let s1 := wait s
      ((s1.stopTarget c.desc.opcode t self).getD s1, none)

/-! ### Application -/

/-- FAULT_ACK, SURVEY_FREEZE and ATTEST answer at once. -/
def atOnce (r : State × Result) : State × Option Result := (r.1, some r.2)

/-- An object access of a descriptor: its object and instance; an instance no chapter assigns is an undefined use (R9). -/
def State.withObj (_s : State) (id : Nat) (f : Obj → Nat → Applied) : Applied :=
  match objOf id with
  | none => .error .reservedInstance
  | some o =>
    match instOf? id o with
    | none => .error .reservedInstance
    | some i => f o i

/-- OBJ_READ: up to 8 bytes in RESULT, more to host memory (R80). -/
def State.readCmd (s : State) (d : Desc) (o : Obj) (i : Nat) : State × Option Result :=
  match s.objRead_ o i d.offset d.length d.param with
  | (r, none) => (s, some r)
  | (r, some v) => if d.length ≤ 8 then (s, some { r with result := v }) else (s.hostWrite d.hostAddr d.length v, some r)

/-- What a command-ring descriptor does when it reaches application. -/
def State.effect (s : State) (c : Cmd) (lands : Nat) : Applied :=
  let d := c.desc
  let ref : CmdRef := (c.ring, c.index, c.phase)
  match d.opcode with
  | 0x01 => okWrite s
  | 0x02 => s.withObj d.objId fun o i => s.objWrite { obj := o, inst := i, off := d.offset, len := d.length, data := c.data } d.param ref lands
  | 0x03 => s.withObj d.objId fun o i => .ok (s.readCmd d o i)
  | 0x04 => .ok (s.abort (s.abortTarget d.param) ref)
  | 0x05 => s.withObj d.objId fun _ _ => .ok (s.swapCmd ref)
  | 0x06 => s.withObj d.objId fun _ _ => .ok (atOnce (s.faultAck (d.param % 2 ^ 16) (d.param.testBit 16) (d.param.testBit 17)))
  | 0x10 | 0x11 | 0x12 | 0x13 | 0x14 => s.withObj d.objId fun _ _ => .ok (s.motionCmd d ref)
  | 0x18 => s.withObj d.objId fun _ _ => .ok (s.gearCmd d ref)
  | 0x19 => s.withObj d.objId fun _ _ => .ok (s.camCmd d ref)
  | 0x1A => s.withObj d.objId fun _ _ => .ok (s.disengageCmd d ref)
  | 0x1B => s.withObj d.objId fun _ _ =>
    let m := (s.members (idInst d.objId)).length
    if s.motionMode && d.length == 24 + 16 * m && segReserved c.data m then .error .reservedField
    else .ok (s.caravanSeg d c.data ref)
  | 0x1C => s.withObj d.objId fun _ n => .ok (s.latchArm n ref)
  | 0x1D => s.withObj d.objId fun _ u =>
      .ok (s.compareArm u (d.param % 4) (getBits d.param 16 16) (getBits d.inline 0 32) (sint 32 (getBits d.inline 32 32)) ref
        (s.fbs (s.fld F.CMP_CFG_FB u)).count)
  | 0x20 => s.withObj d.objId fun _ n => .ok (s.canTx n c.data d.length ref)
  | 0x24 => s.withObj d.objId fun _ _ => .ok (atOnce (s.surveyFreeze (d.param.testBit 0)))
  | 0x28 => s.withObj d.objId fun _ _ => .ok (atOnce (s.attest d.inline d.hostAddr))
  | _ => okWrite s

/-- HIF.CR.APPLIED, and HIF.BQ.DONE, after a descriptor of a ring (R71). -/
def State.noteApplied (s : State) (c : Cmd) : State :=
  let p := posNext (s.ringSize c.ring) (c.index % 2 ^ 12, c.phase)
  ((s.setFld F.HIF_RING_APPLIED_NEXT p.1 c.ring).setBit F.HIF_RING_APPLIED_NEXT_PHASE p.2 c.ring).setBit F.HIF_RING_APPLIED_VALID true c.ring

/-- A command reaches the application step (R84, R89, R91, R97): withdrawn, or with its effect. -/
def State.apply (s : State) (c : Cmd) (lands : Nat) : Except Fault State :=
  let ref : CmdRef := (c.ring, c.index, c.phase)
  let at_ := if s.per.running then s.per.t0 else s.now
  let seq := if s.per.running then s.per.seq else 0
  let s1 := (s.mapCmd ref fun x => { x with stage := .applied, appliedAt := at_, appliedSeq := seq }).noteApplied c
  match c.withdrawn with
  | some det => .ok (s1.finishCmd ref { status := 0x01, detail := det } s1.sealHere)
  | none =>
    match s1.effect c lands with
    | .error f => .error f
    | .ok (t, some o) => .ok (t.finishCmd ref o s1.sealHere)
    | .ok (t, none) => .ok t

/-- The entry of a command in its boundary's record (R92, R401). -/
def Cmd.entry (c : Cmd) (order : Nat) : CmdEntry :=
  { ring := c.ring, order := order, index := c.index, phase := c.phase, dlen := if descReads c.desc then c.desc.length else 0
    desc := c.desc, data := if descReads c.desc then c.data else 0 }

/-! ### Due commands (R21, R78, R90) -/

/-- The unapplied commands of a ring, in ring order. -/
def State.waiting (s : State) (r : Nat) : List Cmd := s.host.cmds.filter fun c => c.ring == r && c.stage != .applied

/-- The chain at the head of a list, when every descriptor in it is validated. -/
def chainAt : List Cmd → Option (List Cmd)
  | [] => none
  | c :: cs => if c.stage = .valid then (if c.desc.chain then (chainAt cs).map (c :: ·) else some [c]) else none

/-- What else a command waits for: a delivery number, room in a caravan's queue, or room for an ABORT's entry (R463, R194, R220). -/
def State.roomFor (s : State) (c : Cmd) : Bool :=
  match c.desc.opcode with
  | 0x10 | 0x11 | 0x12 | 0x13 | 0x14 | 0x18 | 0x19 | 0x1A => !s.motionMode || s.motionDue (oidInst c.desc.objId)
  | 0x1B => !s.motionMode || s.segDue (oidInst c.desc.objId)
  | 0x04 => s.abortDue (s.abortTarget c.desc.param)
  | _ => true

/-- Every member of a chain finds its room at its place in the order: a chain is applied whole or waits (R78). -/
def State.chainRoom (s : State) : List Cmd → Bool
  | [] => true
  | [c] => s.roomFor c
  | c :: cs => s.roomFor c && (match s.apply c 0 with
    | .ok t => t.chainRoom cs
    | .error _ => true)

/-- The tick from which a command is due by its APPLY_AT. -/
def Cmd.dueAt (c : Cmd) : Nat := if c.desc.applyAtEn && !c.due then c.desc.applyAt else 0

/-- A command's validation ended before boundary tick `t` (R21, R76). -/
def Cmd.inTime (c : Cmd) (t : Nat) : Bool := decide (c.validAt < t) || c.validAt == 0

/-- The next command or chain of a ring that is due at boundary tick `t`. -/
def State.dueChain (s : State) (r t : Nat) : Option (List Cmd) :=
  match chainAt (s.waiting r) with
  | some (c :: cs) => if c.dueAt ≤ t ∧ (c :: cs).all (·.inTime t) ∧ s.chainRoom (c :: cs) then some (c :: cs) else none
  | _ => none

/-- A command joins those of the open application step (R92). -/
def State.enter (s : State) (c : Cmd) : State :=
  { s with per := { s.per with step := s.per.step.map fun o => { o with entries := o.entries ++ [c.entry o.entries.length] } } }

/-- Apply a chain whole, in order (R78); a mode change out of CONFIGURE that is accepted splits it there (R91), and a module
reset ends everything. -/
def State.applyChain (s : State) (lands : Nat) : List Cmd → Except Fault State
  | [] => .ok s
  | c :: cs =>
    if s.boot.resetLow then .ok s
    else if s.per.departing.isSome && !s.per.running then
      .ok (cs.foldl (fun s c => s.mapCmd (c.ring, c.index, c.phase) fun x => { x with due := true })
        (s.mapCmd (c.ring, c.index, c.phase) fun x => { x with due := true }))
    else
      match s.apply ((s.host.cmds.find? (·.is (c.ring, c.index, c.phase))).getD c) lands with
      | .error f => .error f
      | .ok t => (t.enter c).applyChain lands cs

/-- Commands the open application step may still take (R89). -/
def State.stepRoom (s : State) : Nat :=
  match s.per.step with
  | some o => 32 - o.entries.length
  | none => 0

/-- Take the due commands of one ring at the boundary whose application step is open. -/
def State.takeRing (s : State) (r : Nat) : Nat → Except Fault State
  | 0 => .ok s
  | k + 1 =>
    match (if s.per.step.isSome then s.dueChain r s.per.t0 else none) with
    | none => .ok s
    | some cs =>
      if s.stepRoom < cs.length then .ok s
      else
        match s.applyChain 0 cs with
        | .error f => .error f
        | .ok t => t.takeRing r k

/-- The application step has come to a ring (R89). -/
def State.atRing (s : State) (r : Nat) : State := { s with per := { s.per with step := s.per.step.map fun o => { o with ring := r } } }

/-- Take the due commands of rings, in the order given. -/
def State.takeRings (s : State) : List Nat → Except Fault State
  | [] => .ok s
  | r :: rs =>
    match (s.atRing r).takeRing r 33 with
    | .error f => .error f
    | .ok t => t.takeRings rs

/-- Rings are processed (R48, R70). -/
def State.served (s : State) : Bool := s.bit F.HIF_STATUS_RINGS_READY && !s.fenced .host

/-- The unapplied descriptors of rings that were disabled complete FLUSHED (R96). -/
def State.flushDisabled (s : State) : State :=
  (s.host.cmds.filter fun c => c.flush && c.stage != .applied).foldl
    (fun s c => s.finishCmd (c.ring, c.index, c.phase) { status := 0x09, detail := 0 } s.sealHere) s

/-- The open application step takes the due commands of the rings up to `last`, in ascending index from the one it has come to (R89). -/
def State.takeUpTo (s : State) (last : Nat) : Except Fault State :=
  match s.per.step with
  | none => .ok s
  | some o => if s.served then s.takeRings (List.range' o.ring (last + 1 - o.ring)) else .ok s

/-- Commands are applied as in CONFIGURE: no period runs and no departure waits (R91). -/
def State.applying (s : State) : Bool := s.mode == .configure && !s.per.running && s.per.departing.isNone && s.served

/-- CONFIGURE: the commands of ring `r` that are due, in ring order (R91). -/
def State.applyNow (s : State) (r lands : Nat) : Nat → Except Fault State
  | 0 => .ok s
  | k + 1 =>
    match (if s.applying then chainAt (s.waiting r) else none) with
    | some (c :: cs) =>
      if c.dueAt ≤ s.now ∧ s.chainRoom (c :: cs) then
        match s.applyChain lands (c :: cs) with
        | .error f => .error f
        | .ok t => t.applyNow r lands k
      else .ok s
    | _ => .ok s

/-- CONFIGURE_APPLY: the next command or chain of ring `r`, when motion time reaches its APPLY_AT (R91). -/
def State.configureApply (s0 : State) (r lands : Nat) : Except Fault State :=
  match (if s0.applying then chainAt (s0.waiting r) else none) with
  | some (c :: cs) =>
    let s := s0.until c.dueAt
    if s.applying && s.chainRoom (c :: cs) then s.applyChain lands (c :: cs) else .ok s
  | _ => .ok s0

/-! ### Validation (R81, R94) -/

/-- Members of the chain a ring's list ends with. -/
def chainRun (cs : List Cmd) : Nat := (cs.reverse.takeWhile fun c => c.desc.chain && c.stage != .applied).length

/-- The descriptor error of a descriptor, if it makes one (R81): `before` are the commands of its ring ahead of it, `descErr` and
`dataErr` what the reads of the descriptor and of its buffer failed with. -/
def State.descError (s : State) (c : Cmd) (before : List Cmd) (descErr dataErr : Option Nat) : Option Result :=
  let d := c.desc
  match descErr with
  | some e => some { status := 0x83, detail := e }
  | none =>
    if !(ringOpcodes c.ring).contains d.opcode then some { status := 0x80, detail := d.opcode }
    else if (usesObject d.opcode && (namedObj d.objId).isNone)
        || (opObjects d.opcode).any (fun os => !os.contains (oidClass d.objId, oidObj d.objId)) then
      some { status := 0x81, detail := d.objId }
    else if descBadLength d then
      some { status := 0x82
             detail := match (if usesObject d.opcode then namedObj d.objId else none) with
               | some o => sizeFor d.opcode o
               | none => Config.unstatedDetail }
    else if d.hostAddr % 8 ≠ 0 then some { status := 0x86, detail := 0 }
    else
      match (if descReads d then dataErr else none) with
      | some e => some { status := 0x83, detail := e }
      | none =>
        if 16 ≤ chainRun before then some { status := 0x84, detail := 0 }
        else if d.opcode = 0x04 ∧ !s.bit F.HIF_RING_CTRL_ENABLE (d.param % 2 ^ 4) then some { status := 0x85, detail := d.param % 2 ^ 4 }
        else none

/-- Withdrawals of discarded descriptors stay for their slots, should the ring be re-armed there (R95, R97). -/
def State.keepEarly (s : State) (cs : List Cmd) : State :=
  { s with host := { s.host with early := s.host.early ++ cs.filterMap fun (c : Cmd) => c.withdrawn.map fun d => ((c.ring, c.index, c.phase), d) } }

/-- A descriptor error (R78, R94): the descriptor ends with it, the earlier members of its chain end FLUSHED, later descriptors of
the ring are dropped, and the ring stops fetching. -/
def State.failDesc (s : State) (c : Cmd) (before after : List Cmd) (o : Result) : State :=
  let run := before.drop (before.length - chainRun before)
  let s1 := s.keepEarly after
  let gone := fun (x : Cmd) => after.any fun y => y.is (x.ring, x.index, x.phase)
  let s2 := { s1 with host := { s1.host with cmds := s1.host.cmds.filter fun x => !gone x } }
  let s3 := s2.setRing c.ring { s2.ring c.ring with err := true, dropped := after.map fun x => (x.index, x.phase) }
  let s4 := run.foldl (fun s x => s.finishCmd (x.ring, x.index, x.phase) { status := 0x09, detail := 0 } s.sealHere) s3
  let s5 := s4.finishCmd (c.ring, c.index, c.phase) o 0
  s5.flushAll

/-- The hub reads the host buffer of a descriptor (R76, R77). -/
def State.readBuffer (s : State) (d : Desc) : State :=
  { s with host := { s.host with reads := s.host.reads ++ [(d.hostAddr, d.length)] } }

/-- The oldest descriptor of a ring that awaits validation is checked; `at_` is the instant its validation ends (R76, R81). -/
def State.validate (s : State) (r host : Nat) (descErr dataErr : Option Nat) (at_ : Nat) : Except Fault State :=
  let cs := s.host.cmds.filter fun c => c.ring == r && !c.flush
  let before := cs.takeWhile (·.stage != .fetched)
  match cs.drop before.length with
  | [] => .ok s
  | c :: after =>
    let s1 := if descReads c.desc && (s.descError c before descErr none).isNone then s.readBuffer c.desc else s
    match s.descError c before descErr dataErr with
    | some o => .ok (s1.failDesc c before after o)
    | none =>
      if descReserved c.desc r then .error .reservedField
      else .ok (s1.mapCmd (c.ring, c.index, c.phase) fun x => { x with stage := .valid, validAt := at_, data := descData c.desc host })

/-! ### Bulk transfers (R82, R83) -/

/-- Bytes written to the survey area as an uploaded file: they overwrite what the area held (R414). -/
def State.uploadWrite (s : State) (off len data : Nat) : State × Result :=
  if s.mode != .configure then (s, s.wrongMode)
  else
    let up := (List.range len).foldl (fun (m : SMap Byte) i => m.set (off + i) (BitVec.ofNat 8 (data / 2 ^ (8 * i))) 0) s.surv.upload
    ({ s with surv := { s.surv with upload := up, ring := [], ringBytes := 0, headers := [], recent := [], seconds := [] } }, done)

/-- LOG_READ (R377): `n` entries of the fault log from entry `first` to host memory. -/
def State.logRead (s : State) (first len addr : Nat) : State × Result :=
  if len % 64 ≠ 0 then (s, refused 0x1)
  else
    let n := len / 64
    let data := (List.range n).foldl (fun v i => v + s.flt.log.get ((first + i) % 16384) 0 * 2 ^ (512 * i)) 0
    (if n = 0 then s else s.hostWrite addr len data, done (result := (first + n) % 16384))

/-- What a bulk descriptor does (Table 03.3); `last` is LAST, which an abandoned transfer does not reach (R99). An instance that no
chapter assigns is an undefined use (R9). -/
def State.bulkEffect (s : State) (d : Desc) (len data : Nat) (last : Bool) : Except Fault (State × Result) :=
  let one := fun (o : Obj) (r : State × Result) =>
    if objOf d.objId = some o ∧ (instOf? d.objId o).isSome then (.ok r : Except Fault (State × Result)) else .error .reservedInstance
  match d.opcode with
  | 0x40 =>
    if last && s.genOverflow then .error .counterOverflow
    else .ok (s.imageWrite (getBits d.param 31 1) (d.param % 2 ^ 24 * 64) len data last)
  | 0x41 =>
    if objOf d.objId = some .camStage then
      if len % 4 = 0 ∧ (List.range (len / 4)).any fun i => getBits data (32 * i + 24) 8 != 0 then .error .reservedField
      else one .camStage (s.camStageWrite (d.param % 2 ^ 15) len data)
    else one .survUpload (s.uploadWrite (d.param * 64) len data)
  | 0x48 =>
    let r := s.surveyRead (d.param * 64) len
    one .survExport (if r.2.isEmpty then s else s.hostWrite d.hostAddr r.2.length (natOf r.2), r.1)
  | 0x49 => one .fltLog (s.logRead (d.param % 2 ^ 14) len d.hostAddr)
  | _ => .ok (s, done)

/-- A bulk descriptor's transfer runs to its end: its completion is written and HIF.BQ.DONE moves on (R71, R83). -/
def State.bulkRun (s : State) (c : Cmd) : Except Fault State :=
  match s.bulkEffect c.desc c.desc.length c.data c.desc.last with
  | .error f => .error f
  | .ok (t, o) =>
    let ref : CmdRef := (c.ring, c.index, c.phase)
    .ok (((t.mapCmd ref fun x => { x with stage := .applied }).noteApplied c).finishCmd ref o 0).flushAll

/-- A transfer in progress is abandoned after `blocks` blocks of 64 bytes (R99): reads leave what was written before, an image or
table write its bytes. -/
def State.bulkAbandon (s : State) (c : Cmd) (blocks : Nat) : Except Fault State :=
  let n := min c.desc.length (64 * blocks)
  match (if n = 0 then .ok (s, done) else s.bulkEffect c.desc n (c.data % 2 ^ (8 * n)) false) with
  | .error f => .error f
  | .ok (t, _) => .ok t

/-! ### Commands -/

/-- DESCRIPTOR_VALIDATED (R81). -/
def execDescriptorValidated (r : Fin 18) (host : Nat) (descErr dataErr : Option (Fin 8)) (s : State) : Out :=
  match s.validate r.val host (descErr.map (·.val)) (dataErr.map (·.val)) s.now with
  | .ok t => .next t
  | .error f => .fault f

/-- CONFIGURE_APPLY: `lands` are the levels that filters settle on: trip inputs from bit 0, then A, B and Z of each feedback channel
(R91, R260, R271). -/
def execConfigureApply (r : Fin 16) (lands : Nat) (s : State) : Out :=
  match s.configureApply r.val lands with
  | .ok t => .next t
  | .error f => .fault f

end Sys2Proof.Machine
end

