-- ==== Sys2Proof/Machine/HostRows.lean ====
section
/-!
DEFINITION. The host function's commands (03_host_rings_and_ordering, 16_electrical_and_package): link, set-up registers, doorbells,
rings, descriptor fetch, interrupts, bulk transfers and function-level reset.
-/

namespace Sys2Proof.Machine

/-- The host reaches the function: the link is up and the host fence is down (R99, R444). -/
def State.reached (s : State) : Bool := s.host.linkUp && !s.boot.resetLow && !s.host.perst && !s.fenced .host

/-- Change the host function. -/
def State.mapHost (s : State) (f : HostSt → HostSt) : State := { s with host := f s.host }

/-! ### Link (R48, R444) -/

/-- HIF.LINK. -/
def State.showLink (s : State) (speed width : Nat) : State :=
  ((s.setFld F.HIF_LINK_SPEED speed).setFld F.HIF_LINK_WIDTH width).setBit F.HIF_LINK_DL_ACTIVE (speed != 0)

/-- The link goes down. -/
def State.linkLost (s : State) : State :=
  if s.host.linkUp then ((s.mapHost fun h => { h with linkUp := false }).showLink 0 0).raise K.HOST_LINK_DOWN else s

/-- The link comes up at a speed code of HIF.LINK and a width. -/
def State.linkFound (s : State) (speed width : Nat) : State :=
  ((s.mapHost fun h => { h with linkUp := true }).showLink speed width).clearLive K.HOST_LINK_DOWN

/-! ### Rings (R72, R96) -/

/-- Setting ENABLE of a command or bulk ring: its positions start from 0 (R71, R72). -/
def State.enableRing (s : State) (r : Nat) : State :=
  let old := (s.ring r).gen
  let s1 := s.setRing r { gen := old + 1 }
  let s2 := (s1.resetObj .hifRingState r).resetObj .hifRingApplied r
  s2.releaseAborts fun t => t.1 == r && !s2.host.cmds.any fun c => c.is t

/-- Clearing ENABLE of a command ring: its unapplied descriptors complete FLUSHED, at once where no period runs (R96). -/
def State.disableRing (s : State) (r : Nat) : State :=
  let s1 := s.mapHost fun h => { h with cmds := h.cmds.map fun (c : Cmd) =>
    if c.ring = r ∧ c.stage ≠ .applied then { c with flush := true } else c }
  let s2 := s1.releaseAborts fun t => t.1 == r && !s1.host.cmds.any fun c => c.is t
  if s.per.running then s2 else s2.flushDisabled

/-- A write of CTRL of a command or bulk ring. -/
def State.writeRingCtrl (s : State) (r v : Nat) : Except Fault State :=
  let was := s.bit F.HIF_RING_CTRL_ENABLE r
  let en := v.testBit 4
  if v % 2 ^ 32 ^^^ (v &&& 0xF1F) != 0 then .error .reservedField
  else if (was && v % 16 != s.fld F.HIF_RING_CTRL_SIZE_LOG2 r) || (en && !(decide (4 ≤ v % 16 ∧ v % 16 ≤ 12))) then .error .ringSetup
  else
    let s1 := s.setObj .hifRingCtrl r 0 v
    .ok (if en && !was then s1.enableRing r else if was && !en && decide (r < 16) then s1.disableRing r else s1)

/-- A write of CTRL of a completion ring, or of the event ring (16): setting ENABLE sets write index 0 and write phase 1 (R74);
completions that waited are written (R96). -/
def State.writeCqCtrl (s : State) (m v : Nat) : Except Fault State :=
  let was := s.bit F.HIF_CQ_CTRL_ENABLE m
  let en := v.testBit 4
  if v % 2 ^ 32 ^^^ (v &&& 0x3F1F) != 0 then .error .reservedField
  else if (was && v % 16 != s.fld F.HIF_CQ_CTRL_SIZE_LOG2 m) || (en && !(decide (4 ≤ v % 16 ∧ v % 16 ≤ 12))) then .error .ringSetup
  else
    let s1 := s.setObj .hifCqCtrl m 0 v
    let s2 := if en && !was then ((s1.setTail m (0, true)).setCq m { cons := 0, consPhase := true }).flushAll else s1
    .ok s2.noteEqFull

/-- A write of CTRL of a ring. -/
def State.writeCtrl (s : State) (r : RingId) (v : Nat) : Except Fault State :=
  match r with
  | .cr n => s.writeRingCtrl n v
  | .bq b => s.writeRingCtrl (16 + b) v
  | .cq m => s.writeCqCtrl m v
  | .eq => s.writeCqCtrl 16 v

/-! ### Doorbells (R72, R73) -/

/-- A producer doorbell of a command or bulk ring. -/
def State.prodDoorbell (s : State) (r : Nat) (p : Pos) : Except Fault State :=
  if !s.bit F.HIF_RING_CTRL_ENABLE r then .ok s
  else if posWithin (s.ringSize r) (s.head r) p && decide (p.1 < s.ringSize r) then
    .ok (s.setRing r { s.ring r with prod := p.1, prodPhase := p.2 })
  else .error .doorbellAhead

/-- A consumer doorbell of a completion ring or the event ring (16): completions that waited for an entry are written (R75). -/
def State.consDoorbell (s : State) (m : Nat) (p : Pos) : Except Fault State :=
  let c : Pos := ((s.cq m).cons, (s.cq m).consPhase)
  let n := s.cqSize m
  if !s.bit F.HIF_CQ_CTRL_ENABLE m then .ok s
  else if posWithin n c p && decide (p.1 < n) && decide (posDist n c p ≤ posDist n c (s.tail m)) then
    .ok (s.setCq m { s.cq m with cons := p.1, consPhase := p.2 }).flushAll
  else .error .doorbellBeyond

/-- REARM (R95): GO on a halted ring. -/
def State.rearm (s : State) (r : Nat) (p : Pos) (go : Bool) : Except Fault State :=
  let n := s.ringSize r
  let halt : Pos := (s.fld F.HIF_RING_STATE_HALT_INDEX r, s.bit F.HIF_RING_STATE_HALT_PHASE r)
  let prod : Pos := ((s.ring r).prod, (s.ring r).prodPhase)
  if !go || !s.bit F.HIF_RING_STATE_HALTED r then .ok s
  else if posWithin n halt p && decide (p.1 < n) && decide (posDist n halt p ≤ posDist n halt prod) then
    let skipped := fun (t : CmdRef) =>
      t.1 == r && t.2.1 == s.ringIndex r (t.2.1 % 2 ^ 12) && posWithin n halt (t.2.1 % 2 ^ 12, t.2.2)
        && decide (posDist n halt (t.2.1 % 2 ^ 12, t.2.2) < posDist n halt p) && !s.host.cmds.any fun c => c.is t
    .ok (((((s.setHead r p).setBit F.HIF_RING_STATE_HALTED false r).setRing r { s.ring r with err := false, dropped := [] }).releaseAborts skipped).flushAll)
  else .error .rearmRange

/-! ### Set-up registers (R68, R70, Table 03.2) -/

/-- A 32-bit half of a 64-bit BASE register; its ring is disabled, and bits [11:0] are reserved (R70). -/
def State.writeBase (s : State) (f en : Fld) (r : Nat) (high : Bool) (v : Nat) : Except Fault State :=
  if s.bit en r then .error .ringSetup
  else if high then .ok (s.setFld f (putBits (s.fld f r) 32 32 v) r)
  else if v % 2 ^ 12 ≠ 0 then .error .reservedField
  else .ok (s.setFld f (putBits (s.fld f r) 0 32 v) r)

/-- MOD of a completion ring or the event ring. -/
def State.writeMod (s : State) (m v : Nat) : Except Fault State :=
  if getBits v 8 8 ≠ 0 then .error .reservedField else .ok (s.setObj .hifCqMod m 0 v)

/-- A word of one of the eight-word blocks of a command or bulk ring, at byte `o` of the block. -/
def State.writeRingReg (s : State) (r o v : Nat) : Except Fault State :=
  match o with
  | 0x00 => s.writeBase F.HIF_RING_BASE_ADDR F.HIF_RING_CTRL_ENABLE r false v
  | 0x04 => s.writeBase F.HIF_RING_BASE_ADDR F.HIF_RING_CTRL_ENABLE r true v
  | 0x08 => s.writeRingCtrl r v
  | 0x14 => if v / 2 ^ 14 ≠ 0 then .error .reservedField else s.rearm r (v % 2 ^ 12, v.testBit 12) (v.testBit 13)
  | _ => .ok s

/-- The same for a completion ring, or the event ring. -/
def State.writeCqReg (s : State) (m o v : Nat) : Except Fault State :=
  match o with
  | 0x00 => s.writeBase F.HIF_CQ_BASE_ADDR F.HIF_CQ_CTRL_ENABLE m false v
  | 0x04 => s.writeBase F.HIF_CQ_BASE_ADDR F.HIF_CQ_CTRL_ENABLE m true v
  | 0x08 => s.writeCqCtrl m v
  | 0x0C => s.writeMod m v
  | _ => .ok s

/-- After a doorbell of the event ring: a LOST record first, then records again (R87). -/
def State.afterEqDoorbell (s : State) : State := s.putLost.noteEqFull

/-- A doorbell register. -/
def State.writeDb (s : State) (o v : Nat) : Except Fault State :=
  let p : Pos := (v % 2 ^ 12, v.testBit 12)
  if v / 2 ^ 13 ≠ 0 then .error .reservedField
  else if o < 0x40 then s.prodDoorbell (o / 4) p
  else if o < 0x80 then s.consDoorbell ((o - 0x40) / 4) p
  else if o = 0x80 then (s.consDoorbell 16 p).map State.afterEqDoorbell
  else if o < 0x8C then s.prodDoorbell (16 + (o - 0x84) / 4) p
  else .ok s

/-- A write of a word of BAR0. -/
def State.writeBar0 (s : State) (o v : Nat) : Except Fault State :=
  if o = 0x08 then
    if v / 2 ^ 10 ≠ 0 then .error .reservedField else .ok (if v.testBit 9 then s.setBit F.HIF_STATUS_FLR_SEEN false else s)
  else if 0x20 ≤ o ∧ o < 0x38 then s.writeCqReg 16 (o - 0x20) v
  else if 0x1000 ≤ o ∧ o < 0x1200 then s.writeRingReg ((o - 0x1000) / 0x20) (o % 0x20) v
  else if 0x1200 ≤ o ∧ o < 0x1400 then s.writeCqReg ((o - 0x1200) / 0x20) (o % 0x20) v
  else if 0x1400 ≤ o ∧ o < 0x1440 then s.writeRingReg (16 + (o - 0x1400) / 0x20) (o % 0x20) v
  else if 0x2000 ≤ o ∧ o < 0x2100 then s.writeDb (o - 0x2000) v
  else .ok s

/-- A write of word `i` of the MSI-X table in BAR2 (R68): entries of four words. -/
def State.writeBar2 (s : State) (i v : Nat) : State :=
  if 0x100 ≤ i then s
  else
    let e := s.host.msix.get (i / 4) {}
    let e1 : MsixEntry := match i % 4 with
      | 0 => { e with addr := putBits e.addr 0 32 v }
      | 1 => { e with addr := putBits e.addr 32 32 v }
      | 2 => { e with data := v }
      | _ => { e with masked := v.testBit 0 }
    s.mapHost fun h => { h with msix := h.msix.set (i / 4) e1 {} }

/-- A write of BAR2 that is no aligned 32-bit access: the spec does not say what it leaves in the words it touches, and each becomes a
free value (log 79). -/
def State.writeBar2Other (s : State) (o size v : Nat) : State :=
  if size = 0 then s
  else (List.range ((o + size - 1) / 4 + 1 - o / 4)).foldl
    (fun s i => s.writeBar2 (o / 4 + i) (Config.msixWord (o + 2 ^ 14 * size) v (o / 4 + i)).toNat) s

/-- Bus Master Enable becomes 1: what waited for it is sent (R69). -/
def State.busMasterOn (s : State) : State :=
  s.mapHost fun h => { h with busMaster := true, writes := h.writes ++ h.heldWrites, heldWrites := [] }

/-- A write of `size` bytes by the host (R70): only aligned 32-bit accesses are defined in BAR0. -/
def State.registerWrite (s : State) (sp : RegSpace) (o size v : Nat) : Except Fault State :=
  if !s.reached then .ok s
  else
    match sp with
    | .bar0 => if size ≠ 4 ∨ o % 4 ≠ 0 then .error .registerAccess else s.writeBar0 o v
    | .bar2 => .ok (if size ≠ 4 ∨ o % 4 ≠ 0 then s.writeBar2Other o size v else s.writeBar2 (o / 4) v)
    | .msixControl => .ok (s.mapHost fun h => { h with msixEnable := v.testBit 15, msixFuncMask := v.testBit 14 })
    | .command => .ok (if v.testBit 2 then s.busMasterOn else s.mapHost fun h => { h with busMaster := false })
    | .deviceControl => .ok (s.mapHost fun h => { h with maxPayload := min (getBits v 5 3) 1, maxRead := min (getBits v 12 3) 2 })
    | .linkControl => .ok (s.mapHost fun h => { h with aspmL1 := v.testBit 1 })
    | .powerState => .ok (s.mapHost fun h => { h with d3hot := v % 4 == 3 })

/-! ### Reads of the function (R67, R68, R70, R71, Table 03.1) -/

/-- A word of one of the blocks of a command or bulk ring, read; REARM reads 0. -/
def State.readRingReg (s : State) (r o : Nat) : Nat :=
  match o with
  | 0x00 => getBits (s.obj .hifRingBase r 0) 0 32
  | 0x04 => getBits (s.obj .hifRingBase r 0) 32 32
  | 0x08 => s.obj .hifRingCtrl r 0
  | 0x0C => s.obj .hifRingState r 0
  | 0x10 => s.obj .hifRingApplied r 0
  | _ => 0

/-- The same for a completion ring, or the event ring. -/
def State.readCqReg (s : State) (m o : Nat) : Nat :=
  match o with
  | 0x00 => getBits (s.obj .hifCqBase m 0) 0 32
  | 0x04 => getBits (s.obj .hifCqBase m 0) 32 32
  | 0x08 => s.obj .hifCqCtrl m 0
  | 0x0C => s.obj .hifCqMod m 0
  | 0x10 => s.obj .hifCqTail m 0
  | 0x14 => if m = 16 then s.obj .hifEqLost 0 0 else 0
  | _ => 0

/-- What an aligned 32-bit read of BAR0 returns (R68, R70): doorbells, REARM and unused offsets read 0. -/
def State.readBar0 (s : State) (o : Nat) : Nat :=
  if o = 0x00 then s.obj .hifId 0 0
  else if o = 0x08 then s.obj .hifStatus 0 0
  else if o = 0x0C then s.obj .hifLink 0 0
  else if o = 0x10 then s.now % 2 ^ 32
  else if o = 0x14 then s.host.mtimeHi
  else if 0x20 ≤ o ∧ o < 0x38 then s.readCqReg 16 (o - 0x20)
  else if 0x1000 ≤ o ∧ o < 0x1200 then s.readRingReg ((o - 0x1000) / 0x20) (o % 0x20)
  else if 0x1200 ≤ o ∧ o < 0x1400 ∧ o % 0x20 ≠ 0x14 then s.readCqReg ((o - 0x1200) / 0x20) (o % 0x20)
  else if 0x1400 ≤ o ∧ o < 0x1440 then s.readRingReg (16 + (o - 0x1400) / 0x20) (o % 0x20)
  else 0

/-- What an aligned 32-bit read of BAR2 returns: the MSI-X table, and the pending-bit array at 0x1000 (R68). -/
def State.readBar2 (s : State) (o : Nat) : Nat :=
  let e := s.host.msix.get (o / 16) {}
  if o < 0x400 then
    match o % 16 with
    | 0 => getBits e.addr 0 32
    | 4 => getBits e.addr 32 32
    | 8 => e.data
    | _ => e.masked.toNat
  else if o = 0x1000 then getBits s.host.pba 0 32
  else if o = 0x1004 then getBits s.host.pba 32 32
  else 0

/-- Properties of the function that configuration reads show (Table 03.1). -/
inductive FuncProp where
  | vendorId | deviceId | subsystemVendorId | subsystemId | revisionId | classCode | maxPayloadSupported | maxReadUsed | msixVectors
  | serialNumber | powerManagement | pciExpress | msix | advancedErrors | deviceSerial | aspmL1 | aspmL0s | functionReset | msi | intx
  deriving DecidableEq, Repr

/-- Their values: sizes in bytes, 1 and 0 for present and not. -/
def State.funcProp (s : State) : FuncProp → Nat
  | .vendorId | .subsystemVendorId => 0x1F7C
  | .deviceId => 0x0320
  | .subsystemId => 0x0001
  | .revisionId => s.fld F.HIF_ID_SILICON_REV
  | .classCode => 0x118000
  | .maxPayloadSupported => 256
  | .maxReadUsed => 128 * 2 ^ s.host.maxRead
  | .msixVectors => 64
  | .serialNumber => Config.dsn
  | .powerManagement | .pciExpress | .msix | .advancedErrors | .deviceSerial | .aspmL1 | .functionReset => 1
  | .aspmL0s | .msi | .intx => 0

/-! ### Descriptor fetch (R75) -/

/-- A command ring may fetch: a free completion entry that no other descriptor holds, and fewer than 16 unapplied descriptors, but for
the one that shows a chain to be too long (R75, R78). -/
def State.mayFetch (s : State) (r : Nat) : Bool :=
  let m := s.ringCq r
  let mine := (s.waiting r).filter fun c => !c.flush
  s.served && s.host.busMaster && s.bit F.HIF_RING_CTRL_ENABLE r && !s.bit F.HIF_RING_STATE_HALTED r && !(s.ring r).err
    && decide (s.head r ≠ ((s.ring r).prod, (s.ring r).prodPhase)) && s.bit F.HIF_CQ_CTRL_ENABLE m
    && decide (s.cqUsed m + s.cqHeld m < s.cqSize m) && (decide (16 ≤ r) || decide (mine.length < 16) || decide (16 ≤ chainRun mine))

/-- DESCRIPTOR_FETCH: the hub reads 64 bytes at 64 × HEAD from the ring's base (R77); `d` is what stands there. -/
def State.fetch (s : State) (r : Nat) (d : Desc) : State :=
  if !s.mayFetch r then s
  else
    let p := s.head r
    let ref : CmdRef := (r, s.ringIndex r p.1, p.2)
    let early := s.host.early.find? fun (e : CmdRef × Nat) => e.1 == ref
    let c : Cmd := { ring := r, index := ref.2.1, phase := p.2, desc := d, withdrawn := early.map (·.2) }
    (s.mapHost fun h => { h with
        cmds := h.cmds ++ [c], early := h.early.filter fun (e : CmdRef × Nat) => e.1 != ref
        reads := h.reads ++ [(s.fld F.HIF_RING_BASE_ADDR r + 64 * p.1, 64)] }).setHead r (posNext (s.ringSize r) p)

/-! ### Function-level reset (R99) -/

/-- The bulk transfer in progress on a ring: its oldest descriptor. -/
def State.bulkOf (s : State) (b : Nat) : Option Cmd :=
  match s.host.cmds.find? fun c => c.ring == 16 + b && c.stage != .applied with
  | some c => if c.stage = .valid then some c else none
  | none => none

/-- A transfer cut off after `blocks` blocks of 64 bytes keeps the bytes written; an image write with LAST leaves the slot's state and
generation (R99). -/
def State.cutTransfer (s : State) (b blocks : Nat) : State :=
  match s.bulkOf b with
  | none => s
  | some c =>
    match s.bulkEffect c.desc c.desc.length c.data false with
    | .ok (_, o) =>
      if o.status ≠ 0x00 then s
      else
        match s.bulkAbandon c blocks with
        | .ok t =>
          if c.desc.opcode = 0x40 ∧ c.desc.last then
            let n := getBits c.desc.param 31 1
            (t.setSlot n { t.slot n with state := (s.slot n).state, failed := (s.slot n).failed, gen := (s.slot n).gen }).showSlots
          else t
        | .error _ => s
    | .error _ => s

/-- What a function-level reset does to the host function, its fence raised until the reset ends. `b0`, `b1`: 64-byte blocks already
moved of a transfer on each bulk ring. -/
def State.resetHost (s : State) (b0 b1 : Nat) : State :=
  let s1 := (s.cutTransfer 0 b0).cutTransfer 1 b1
  let s2 := s1.forRange 18 fun s r => ((s.resetObj .hifRingBase r).resetObj .hifRingCtrl r).resetObj .hifRingState r
  let s3 := s2.forRange 17 fun s m => (((s.resetObj .hifCqBase m).resetObj .hifCqCtrl m).resetObj .hifCqMod m).resetObj .hifCqTail m
  let h := s3.host
  let rings := h.rings.map fun (e : Nat × RingSt) => (e.1, { gen := e.2.gen : RingSt })
  let s4 := { s3.resetObj .hifEqLost with
    host := { perst := h.perst, linkUp := h.linkUp, mtimeHi := h.mtimeHi, writes := h.writes, reads := h.reads, messages := h.messages
              rings := rings.filter fun (e : Nat × RingSt) => decide (e.2 ≠ ({} : RingSt)) } }
  let s5 := (s4.setBit F.HIF_STATUS_FLR_SEEN true).noteEqFull
  let s6 := if s5.boot.jobs.any (fun j => j.block == .host) then s5 else s5.addJob { block := .host, kind := 0 }
  s6.raise K.HOST_FLR

/-! ### Commands -/

/-- The outcome of a command that may make an undefined use. -/
def outOf (r : Except Fault State) : Out :=
  match r with
  | .ok t => .next t
  | .error f => .fault f

/-- PCIE_LINK_UP: training ends at a speed, coded as HIF.LINK, and a width of 2^w lanes (R48). -/
def execPcieLinkUp (speed : Fin 4) (w : Fin 3) (s : State) : Out :=
  .next (if s.boot.resetLow || s.host.perst || s.host.linkUp then s else s.linkFound (speed.val + 1) (2 ^ w.val))

/-- PCIE_LINK_DOWN: the link goes down without PE_PERST_N (R48). -/
def execPcieLinkDown (s : State) : Out := .next s.linkLost

/-- PE_PERST_N goes low (R444): a function-level reset, and the link goes down. -/
def execPePerstN (b0 b1 : Nat) (s : State) : Out :=
  .next (if s.host.perst then s
    else if s.boot.resetLow then s.mapHost fun h => { h with perst := true }
    else ((s.resetHost b0 b1).linkLost).mapHost fun h => { h with perst := true })

/-- PE_PERST_N_RELEASE: PE_PERST_N rises; training may start (R444). -/
def execPePerstNRelease (s : State) : Out := .next (s.mapHost fun h => { h with perst := false })

/-- FUNCTION_LEVEL_RESET (R99). -/
def execFunctionLevelReset (b0 b1 : Nat) (s : State) : Out := .next (if s.reached then s.resetHost b0 b1 else s)

/-- BUS_MASTER_ENABLE: the host sets Bus Master Enable (R69). -/
def execBusMasterEnable (s : State) : Out := .next (if s.reached then s.busMasterOn else s)

/-- HIF_MTIME_LO_READ returns bits [31:0] of motion time and latches bits [63:32], which a read of HIF.MTIME_HI then returns (R71). -/
def execHifMtimeLoRead (s : State) : Out :=
  .next (if s.reached then s.mapHost fun h => { h with mtimeHi := s.now / 2 ^ 32 % 2 ^ 32, readData := some (s.readBar0 0x10) } else s)

/-- CR_DOORBELL (R72, R73). -/
def execCrDoorbell (n : Fin 16) (index : Fin 4096) (phase : Bool) (s : State) : Out :=
  if s.reached then outOf (s.prodDoorbell n.val (index.val, phase)) else .next s

/-- CQ_DOORBELL. -/
def execCqDoorbell (m : Fin 16) (index : Fin 4096) (phase : Bool) (s : State) : Out :=
  if s.reached then outOf (s.consDoorbell m.val (index.val, phase)) else .next s

/-- EQ_DOORBELL (R87). -/
def execEqDoorbell (index : Fin 4096) (phase : Bool) (s : State) : Out :=
  if s.reached then outOf ((s.consDoorbell 16 (index.val, phase)).map State.afterEqDoorbell) else .next s

/-- BQ_DOORBELL (R83). -/
def execBqDoorbell (b : Fin 2) (index : Fin 4096) (phase : Bool) (s : State) : Out :=
  if s.reached then outOf (s.prodDoorbell (16 + b.val) (index.val, phase)) else .next s

/-- RING_ENABLE: CTRL is written with ENABLE = 1; `v` holds its other bits (R71, R72). -/
def execRingEnable (r : RingId) (v : Fin (2 ^ 32)) (s : State) : Out :=
  if s.reached then outOf (s.writeCtrl r (putBits v.val 4 1 1)) else .next s

/-- RING_DISABLE: CTRL is written with ENABLE = 0 (R96). -/
def execRingDisable (r : RingId) (v : Fin (2 ^ 32)) (s : State) : Out :=
  if s.reached then outOf (s.writeCtrl r (putBits v.val 4 1 0)) else .next s

/-- REARM of a command ring, or of bulk ring r − 16 (R95). -/
def execRearm (r : Fin 18) (index : Fin 4096) (phase go : Bool) (s : State) : Out :=
  if s.reached then outOf (s.rearm r.val (index.val, phase) go) else .next s

/-- REGISTER_WRITE: `size` bytes at a byte offset of a space (R68, R70). -/
def execRegisterWrite (sp : RegSpace) (o : Fin 16384) (size : Fin 9) (v : Fin (2 ^ 32)) (s : State) : Out :=
  outOf (s.registerWrite sp o.val size.val v.val)

/-- DESCRIPTOR_FETCH: `d` is what host memory holds at HEAD (R75, R77). -/
def execDescriptorFetch (r : Fin 18) (d : Desc) (s : State) : Out := .next (s.fetch r.val d)

/-- MSIX_MOD_TIMER: MOD.TIME has passed since the oldest unsignalled entry of a ring (R88). -/
def execMsixModTimer (m : Fin 17) (s : State) : Out :=
  let t := s.fld F.HIF_CQ_MOD_TIME m.val
  .next (if t ≠ 0 ∧ 0 < (s.cq m.val).unsignalled then (s.until ((s.cq m.val).oldest + 400 * t)).signalCq m.val else s)

/-- MSIX_HELD_MESSAGE: a pending message goes once its vector can signal (R88). -/
def execMsixHeldMessage (v : Fin 64) (s : State) : Out :=
  .next (if s.host.pba.testBit v.val && s.canSignal v.val then s.sendHeld v.val else s)

/-- BULK_TRANSFER_DONE: the transfer of a bulk ring's oldest descriptor ends (R83). -/
def execBulkTransferDone (b : Fin 2) (s : State) : Out :=
  match s.bulkOf b.val with
  | some c => if s.served then outOf (s.bulkRun c) else .next s
  | none => .next s

end Sys2Proof.Machine
end

