-- ==== Sys2Proof/Machine/Boundary.lean ====
section
/-!
DEFINITION. The period: what the hub does at t0 + MID, at the deadline and at a boundary (R17 to R30, R91, R134, R344, R373, R398,
R415), and at a measurement instant (R277).
-/

namespace Sys2Proof.Machine

/-! ### Measurement instants (R277, R368) -/

/-- Everything a measurement instant at tick `b` latches: status objects, the speeds of the feedback channels, and a new interval
of the fault collector. -/
def State.measure (s : State) (b : Nat) : State :=
  let s1 := (((s.measureInputs b).forRange 3 State.measureEth).forRange 4 State.measureCan).measureFio b
  let s2 := s1.latchTime
  { s2 with flt := { s2.flt with interval := s2.flt.interval + 1 }, per := { s2.per with measured := some b } }

/-- The next measurement instant: the least multiple of TC after the last one. One that motion time has passed over occurs at the present
cycle (R277, R304). -/
def State.nextMeasure (s : State) : Nat :=
  let tc := s.fld F.SYS_PERIOD_TC
  match s.per.measured with
  | none => multipleFrom tc s.now
  | some t => multipleFrom tc (t + 1)

/-- Event records of an interval that ends while no period runs are written at once (R373). -/
def State.writeIdleEvents (s : State) : State :=
  let es := s.host.events.map (·.2) ++ s.flt.records
  ({ s with host := { s.host with events := [] }, flt := { s.flt with records := [] } }).putEvents es

/-! ### The mid-period instant and the deadline (R24 to R27, R30, R344) -/

/-- The mid-period instant of the running period. -/
def State.midPeriod (s0 : State) : State :=
  if !s0.per.running || !s0.time.running || s0.per.midDone then s0
  else
    let s := s0.until (s0.per.t0 + s0.fld F.SYS_PERIOD_MID)
    { s.transferMid with per := { s.transferMid.per with midDone := true } }

/-- A period was dispatched to lanes: its record has input areas (R416). -/
def State.dispatched (s : State) (q : Nat) : Bool := (s.headOf q).any fun h => !h.areas.isEmpty

/-- Every output word of a pair's period has been posted by both copies and accepted (R27). -/
def State.outputsIn (s : State) (u l q : Nat) : Bool :=
  let p := s.pair u l
  let idle := fun (c : Nat) => (s.lane u l c).task.isNone && !(s.lane u l c).posts.any fun w => w.kind == .output
  !p.withheld && (p.done == q || (p.periods.head? == some q && p.busy && idle 0 && idle 1))

/-- The deadline at one lane pair of the active unit: its words are released, or its period is late (R27). After the fault of a
takeover a late period shows in the record only (R344). -/
def State.deadlineAt (s : State) (u l : Nat) : State :=
  let q := s.per.count
  let late := if s.red.takeover.isSome then (s.pair u l).outCount != q else !s.outputsIn u l q
  if !late then s.releasePair u l q
  else
    let s1 := (s.setPair u l { s.pair u l with late := true }).dropSets l
    if s.red.takeover.isSome then s1
    else (s1.satInc F.SYS_SLACK_LATE F.SYS_SLACK_LATE_SAT 0 (12 * u + l)).raise K.LATE_PERIOD (12 * u + l)

/-- A pair of the active unit the deadline looks at: it carries a position and is not halted (R430). -/
def State.watched (s : State) (l : Nat) : Bool := (s.posOf s.activeUnit l).isSome && !s.sec.halted.testBit l

/-- The incoming unit of a planned swap has not completed period b + 1 by its deadline (R350). -/
def State.swapBehind (s : State) : Bool :=
  match s.red.swap with
  | some w => s.per.count == w.atCount + 1 && (List.range 12).any fun l =>
      (s.posOf w.incoming l).isSome && decide ((s.pair w.incoming l).done < s.per.count)
  | none => false

/-- The deadline of the running period. -/
def State.deadline (s0 : State) : State :=
  if !s0.per.running || !s0.time.running || s0.per.deadlineDone then s0
  else
    let s := s0.until (s0.per.t0 + s0.fld F.SYS_PERIOD_TC - s0.fld F.SYS_PERIOD_GUARD)
    let s1 := if s.dispatched s.per.count then s.forRange 12 fun s l => if s.watched l then s.deadlineAt s.activeUnit l else s
      else s
    let s2 := if s1.swapBehind then s1.abandonSwap 1 0 false else s1
    { s2 with per := { s2.per with deadlineDone := true } }

/-! ### The boundary: what ends with a period -/

/-- Late indications of the period that ends, bit l (R29). -/
def State.lateMask (s : State) : Nat :=
  bitSet ((List.range 12).filter fun l => (s.pair s.activeUnit l).late)

/-- The late indication of each logical position: that of the lane pair of the active unit that carries it (R29). -/
def State.lateByPos (s : State) (late : Nat) : List Bool := (List.range 10).map fun p => late.testBit (s.laneOf s.activeUnit p)

/-- A lane pair four periods behind the latch: LANE_BEHIND (R28). -/
def State.noteBehind (s : State) : State :=
  let u := s.activeUnit
  if s.red.takeover.isSome then s
  else s.forRange 12 fun s l =>
    let p := s.pair u l
    match p.periods with
    | q :: _ =>
      if !p.behind && s.watched l && decide (q + 4 ≤ s.per.count) && !s.catchUp u q then
        (s.setPair u l { p with behind := true }).raise K.LANE_BEHIND (12 * u + l) (u + l * 2 ^ 8) 1
      else s
    | [] => s

/-- Words of one mailbox slot posted in the period that ends: lane pair and word. -/
def boxPosts (slot : Nat) (ps : List (Nat × Nat × Word24)) : List (Nat × Word24) :=
  (ps.filter fun p => p.2.1 == slot).map fun p => (p.1, p.2.2)

/-- The word that stands: the last one of the lowest-indexed lane pair (R134). -/
def boxWord (ps : List (Nat × Word24)) : Option Word24 :=
  match ps.map (·.1) with
  | [] => none
  | l :: ls => ((ps.filter fun p => p.1 == ls.foldl min l).getLast?).map (·.2)

/-- The mailbox at a boundary (R134). -/
def State.mailBoundary (s : State) : State :=
  let s1 := s.forRange 64 fun s i =>
    let ps := boxPosts i s.red.mboxNew
    match boxWord ps with
    | none => s
    | some w =>
      let t := { s with red := { s.red with mbox := s.red.mbox.set i w 0 } }
      if ps.any (fun p => p.1 != (ps.headD (0, 0)).1) then t.raise K.MAILBOX_CLASH i else t
  { s1 with red := { s1.red with mboxNew := [] } }

/-- The next period begins at its boundary (R18, R398). -/
def State.nextPeriod (s : State) : State :=
  let p := s.per
  let k := s.fld F.SYS_PERIOD_K + 1
  { s with per := { p with t0 := p.next, next := p.next + s.fld F.SYS_PERIOD_TC, seq := (p.seq + 1) % 2 ^ 32, count := p.count + 1
                           phase := (p.phase + 1) % k, midDone := false, deadlineDone := false } }

/-! ### The boundary: the latch (R20, R21) -/

/-- Inputs latched at boundary tick `b`; those of the sigma-delta inputs are taken as the step closes. -/
def State.latchInputs (s : State) (b : Nat) : State :=
  let s1 := (((s.fioBoundary b).canBoundary).cycBoundary b).latchBoundary
  let cams := (List.range 40).filter fun a => !(s1.hubAx a).cams.isEmpty
  (cams.foldl State.camTick s1).forRange 4 fun s g => s.settleAborting g s.sealHere

/-- Objects of items whose words follow the commands applied at the same boundary (Tables 05.3, 06.1, 07.1, 08.7); the others are
inputs latched before them. -/
def afterCommands (id : Nat) : Bool :=
  let o := idObj id
  match idClass id with
  | 1 => o == 0x0A || o == 0x0B || o == 0x0C || o == 0x11
  | 2 => o != 0x08
  | 5 => o != 0x09
  | 6 => true
  | _ => false

/-- Items that hold sigma-delta samples (Tables 05.3, 09.6): no command changes them, and their windows end at the boundary tick. -/
def sampledItem (id : Nat) : Bool := idClass id == 4 || (idClass id == 1 && (idObj id == 0x0D || idObj id == 0x0E))

/-- OWN_LATE of an axis (Table 05.3). -/
def isOwnLate (id : Nat) : Bool := idClass id == 1 && idObj id == 0x08

/-- The item words that the record and the tasks' input areas name: the survey map, and the items of the standard axis program. -/
def State.namedWords (s : State) : List (Nat × Nat) :=
  let own := fun (a : Nat) => axisItems.flatMap fun (e : Nat × Nat × Nat) =>
    match s.resolveId a (mkId e.1 63 e.2.1) with
    | some id => (List.range e.2.2).map (id, ·)
    | none => []
  s.surv.map ++ (List.range 40).flatMap fun a => if s.red.alloc.any (·.axis == a) then own a else []

/-- The words latched at boundary tick `b` before the commands (R20). -/
def State.latchWords (s : State) (b : Nat) : SMap Word24 :=
  (s.namedWords.filter fun e => !(afterCommands e.1 || sampledItem e.1 || isOwnLate e.1)).foldl
    (fun (m : SMap Word24) e => m.set (64 * e.1 + e.2) (s.itemWord b e.1 e.2) 0) []

/-- The logical position whose late indication OWN_LATE of an axis holds: that of its current loop, or of its outer task where it has
no current loop (R29, R147). -/
def State.ownLatePos (s : State) (a : Nat) : Option Nat :=
  match s.red.alloc.find? (fun t => t.axis == a && t.kind == 0) with
  | some t => some t.pos
  | none => (s.red.alloc.find? (·.axis == a)).map TaskAlloc.pos

/-- A word of the record as the open step forms it. -/
def State.recordWord (s : State) (o : OpenStep) (id w : Nat) : Word24 :=
  if isOwnLate id then
    match s.ownLatePos (idInst id) with
    | some p => BitVec.ofNat 24 (o.ownLate.getD p false).toNat
    | none => 0
  else if afterCommands id || sampledItem id then s.itemWord s.per.t0 id w
  else o.latched.get (64 * id + w) 0

/-! ### The boundary: record and dispatch (R20, R28, R400, R415) -/

/-- The lane-side view of the record by axis: `late` tells a position's late indication. -/
def State.axisIns (s : State) (fence : Nat) (late : Nat → Bool) (word : Nat → Nat → Word24) (sent : Nat → List MotionEntry) :
    SMap AxisIn :=
  (List.range 40).foldl (fun (m : SMap AxisIn) a =>
    match s.ownLatePos a with
    | none => m
    | some p => m.set a (s.axisIn a fence (late p) (sent a) word) {}) []

/-- Outer tasks of an axis run in the present phase. -/
def State.outerHere (s : State) (a : Nat) : Bool := s.outerPhase a == some s.per.phase

/-- Input areas of the positions the active unit carries. -/
def State.areasOf (s : State) (r : SurvRec) (words : List Word24) (map : List (Nat × Nat)) (plan : List PlanTask) (late : Nat → Bool) :
    List PosArea :=
  ((List.range 10).filter fun p => s.laneOf s.activeUnit p < 12).map fun p => inputArea r words map plan late p

/-- The record of the boundary whose application step closes (R400). -/
def State.formRecord (s : State) (o : OpenStep) : HeadRec :=
  let b := s.per.t0
  let late := fun (p : Nat) => o.ownLate.getD p false
  let word := s.recordWord o
  let words := s.surv.map.map fun e => word e.1 e.2
  let body : SurvRec :=
    { swapHere := o.swapHere, takeHere := o.takeHere, unitB := s.activeUnit == 1, bankB := s.bit F.ENG_BANK_IN_FORCE, mode := s.mode.code
      phase := s.per.phase, seq := s.per.seq, epoch := s.surv.epoch, mtime := b, prog := (s.unitImg s.activeUnit).prog, late := o.late
      mapGen := s.red.mapGen % 2 ^ 8, commands := o.entries, m := words.length, changes := changedWords s.surv.words words
      fence := o.fence % 2 ^ 71, digest := List.replicate 10 0, isSealed := false
      axes := s.axisIns o.fence late word fun a => if s.outerHere a then (s.hubAx a).entries else [] }
  { count := s.per.count, t0 := b, body := body, words := words, areas := s.areasOf body words s.surv.map s.surv.plan late }

/-- The hub dispatches the period to one unit's lane pairs, halted ones apart (R20, R430). -/
def State.dispatchTo (s : State) (u : Nat) : State :=
  s.forRange 12 fun s l =>
    if (s.posOf u l).isSome && !(u == s.activeUnit && s.sec.halted.testBit l) then s.dispatch u l s.per.count else s

/-- Dispatch (R20 step 4): the active unit, and the unit or spare that computes beside or after it once it is restored. -/
def State.dispatchPeriod (s : State) : State :=
  let s1 := if s.fenced (.unit s.activeUnit) then s else s.dispatchTo s.activeUnit
  let s2 := match s1.red.takeover, s1.red.swap with
    | some t, _ => if t.restored then s1.dispatchTo t.incoming else s1
    | none, some w => if w.restored then s1.dispatchTo w.incoming else s1
    | none, none => s1
  match s2.red.migrate with
  | some m => if m.restored then s2.dispatch m.unit m.spare s2.per.count else s2
  | none => s2

/-! ### REPLAY (R415, R416) -/

/-- The recorded commands REPLAY applies: writes of a coefficient bank and swaps of the bank in force. -/
def State.replayCommand (s : State) (e : CmdEntry) : State :=
  if e.desc.opcode ≠ 0x02 then s
  else
    let w := fun (o : Obj) => ({ obj := o, inst := 0, off := e.desc.offset, len := e.desc.length, data := descData e.desc e.data } : Wr)
    match objOf e.desc.objId with
    | some .engCoefA => (s.coefWrite (w .engCoefA) false).1
    | some .engCoefB => (s.coefWrite (w .engCoefB) true).1
    | some .engBank => if (w .engBank).actBit F.ENG_BANK_SWAP then s.bankSwap else s
    | _ => s

/-- REPLAY stops, with its cause. -/
def State.stopReplay (s : State) (cause : Nat) : State :=
  (s.setFld F.SURV_REPLAY_STATE 3).setFld F.SURV_REPLAY_STOP cause

/-- Changed words applied onto the words of the record before (R402). -/
def applyChanges (words : List Word24) (cs : List (Nat × Word24)) : List Word24 := cs.foldl (fun ws c => ws.set c.1 c.2) words

/-- The late indication REPLAY gives a position (R29): as recorded in OWN_LATE of an axis whose item it is, or by the lane pair that
carries the position now, where no task records it. -/
def replayLate (plan : List PlanTask) (late : Nat) (laneOf : Nat → Nat) (own : Nat → Option Word24) (pos : Nat) : Bool :=
  let owns := fun (t : PlanTask) => t.pos == pos && (t.kind == 0 || !plan.any fun u => u.axis == t.axis && u.kind == 0)
  match (plan.filter owns).findSome? fun t => own t.axis with
  | some w => w.getLsbD 0
  | none => late.testBit (laneOf pos)

/-- The recorded period REPLAY dispatches at a boundary, if it still runs: the head record, or none. -/
def State.replayRecord (s : State) : State × Option HeadRec :=
  match s.surv.replay with
  | none => (s, none)
  | some r =>
    if s.fld F.SURV_REPLAY_STATE ≠ 1 then (s, none)
    else
      match r.records[r.at_]? with
      | none => (s.setFld F.SURV_REPLAY_STATE 2, none)
      | some x =>
        let u := s.activeUnit
        let placed := s.red.alloc.all fun t => decide (s.laneOf u t.pos < 12)
        if x.prog ≠ (s.unitImg u).prog then (s.stopReplay 1, none)
        else if x.mapGen ≠ r.cairn.mapGen ∧ !placed then (s.stopReplay 2, none)
        else
          let s1 := x.commands.foldl State.replayCommand s
          let words := applyChanges r.words x.changes
          let word := fun (id w : Nat) => match r.hdr.map.findIdx? (· == (id, w)) with
            | some i => words.getD i 0
            | none => 0
          let late := replayLate r.hdr.plan x.late (s.laneOf u) fun a => r.hdr.map.findIdx? (· == (mkId 1 a 0x08, 0)) |>.map (words.getD · 0)
          let body := if x.axes.isEmpty then { x with axes := s1.axisIns x.fence late word fun _ => [] } else x
          ({ s1 with surv := { s1.surv with replay := some { r with words := words, at_ := r.at_ + 1 } } },
            some { count := s.per.count, t0 := s.per.t0, body := body, words := words
                   areas := s1.areasOf body words r.hdr.map r.hdr.plan late })

/-- A period without dispatch: nothing is to be computed, and its cairn seals empty (R416). -/
def State.emptyPeriod (s : State) (h : HeadRec) : State :=
  ({ s with red := { s.red with head := ({ h with areas := [] } :: s.red.head).take 16 } }).openCairn s.activeUnit s.per.count

/-! ### The boundary as a whole -/

/-- Event records of the interval that ends join those of their periods, by R21; those of sealed periods before the running one are
written (R373). -/
def State.fileEvents (s : State) (a n : Nat) : State :=
  let tag := fun (r : EventRec) => if r.stamp ≤ a then n else if r.stamp ≤ s.per.t0 then s.per.count else s.per.count + 1
  { s with host := { s.host with events := s.host.events ++ s.flt.records.map fun r => (tag r, r) }, flt := { s.flt with records := [] } }

def State.writeEvents (s : State) : State :=
  let ready := fun (e : Nat × EventRec) => decide (e.1 < s.per.count ∧ e.1 ≤ s.per.sealed)
  let es := (s.host.events.filter ready).map (·.2)
  if es.isEmpty then s
  else ({ s with host := { s.host with events := s.host.events.filter fun e => !ready e } }).putEvents es

/-- Traces no comparison needs any more. -/
def State.pruneTraces (s : State) : State :=
  let keep := s.red.swap.isSome || s.red.migrate.isSome || s.red.takeover.isSome
  { s with red := { s.red with traces := if keep then s.red.traces.filter fun t => decide (s.per.count ≤ t.2.2.1 + 8) else [] } }

/-- What ends at boundary tick `b` before the latch: update points, holds of acknowledged faults, and the measurement of that
instant (R24, R277, R375). -/
def State.tickBoundary (s : State) (b : Nat) : State :=
  let s1 := s.transferBoundary
  let s2 := ({ s1 with flt := { s1.flt with releasing := [] } }).refreshGroups
  if s2.per.measured == some b then s2 else s2.measure b

/-- The handovers due at a boundary: takeover, planned swap, and the end of a migration's time (R343, R350, R354). -/
def State.handovers (s : State) (reach : Bool) : State := ((s.takeoverBoundary reach).swapBoundary).migrateBoundary

/-- The application step opens: what was latched is kept for the record, and rings that were disabled give up their unapplied
descriptors (R20, R96). -/
def State.openStep (s : State) (o : OpenStep) : State :=
  let o1 : OpenStep := { o with fence := s.obj .sysFence 0 0, latched := s.latchWords s.per.t0 }
  ({ s with per := { s.per with step := some o1 } }).flushDisabled

/-- A boundary of the running periods up to its application step: what ends with the period, the handovers and the latch (R20, step 1).
`reach` tells whether the incoming unit's words of the period that begins will reach every group in time (R343). -/
def State.openRun (s0 : State) (reach : Bool) : Except Fault State :=
  let s := (((s0.midPeriod.deadline).until s0.per.next).drain).adopt
  let a := s.per.t0
  let n := s.per.count
  let seq := s.per.seq
  if seq = 2 ^ 32 - 1 ∧ s.mode ≠ .replay ∧ s.surv.epoch = 2 ^ 32 - 1 then .error .counterOverflow
  else
    let late := s.lateMask
    let s1 := s.forRange 12 fun s l => s.setPair s.activeUnit l { s.pair s.activeUnit l with late := false }
    let s2 := ((s1.tickBoundary s1.per.next).nextPeriod).mailBoundary
    let s3 := if s2.per.seq = 0 ∧ s2.mode ≠ .replay then s2.openEpoch else s2
    let s4 := ((s3.resumeBoundary).noteBehind).drain
    let swap := s4.red.swap.any fun w => decide (w.atCount + 2 ≤ s4.per.count)
    let s5 := ((s4.handovers reach).drain).safeBoundary
    let take := s4.red.takeover.isSome && s5.red.replayTo == s5.per.count
    let s6 := ((({ s5 with flt := { s5.flt with safePending := false } }).latchInputs s5.per.t0).cycForm a s5.per.t0 seq late)
    .ok (s6.openStep { before := a, beforeNo := n, late := late, ownLate := s.lateByPos late, swapHere := swap, takeHere := take,
                       safe := s5.flt.safePending })

/-- The first boundary after CONFIGURE up to its application step (R91). -/
def State.openFirst (s0 : State) (m : Nat) : Except Fault State :=
  let b := s0.per.next
  let s := (s0.until b).drain
  if m ≠ 4 ∧ s.surv.epoch = 2 ^ 32 - 1 then .error .counterOverflow
  else
    let s1 := (s.tickBoundary b).leaveConfigure m b
    .ok ((s1.latchInputs b).openStep { before := b - s1.fld F.SYS_PERIOD_TC, beforeNo := 0 })

/-- The record is formed and written and the period dispatched (R20, steps 3 and 4). -/
def State.finishStep (s : State) (o : OpenStep) : State :=
  let s1 := s.forRange 4 State.snapCaravan
  let own := s1.formRecord o
  let s2 := s1.forRange 40 fun s x => if s.outerHere x then s.deliverEntries x else s
  let s3 := if s2.mode == .replay then
      match s2.replayRecord with
      | (t, some h) => ((t.keepPosns h.body.axes).writeRecord h).dispatchPeriod
      | (t, none) => t.emptyPeriod own
    else ((s2.keepPosns own.body.axes).writeRecord own).dispatchPeriod
  let s4 := (s3.fileEvents o.before o.beforeNo).writeEvents
  ((if o.takeHere then s4 else s4.autoReload).buildBoundary).pruneTraces

/-- The open application step closes: the commands still due are applied, and the period goes on (R20, R89). `bits` gives the windows of
the sigma-delta inputs. Where a command has entered CONFIGURE no step is open any more. -/
def State.closeStep (s : State) (bits : SMap Nat) : Except Fault State :=
  match s.takeUpTo 15 with
  | .error f => .error f
  | .ok t =>
    match t.per.step with
    | none => .ok t
    | some o =>
      let t1 := t.sampleInputs o.before t.per.t0 bits
      .ok ({ t1 with per := { t1.per with step := none } }.finishStep o)

/-- An open application step ends before what follows it in the period. -/
def State.settled (s : State) : Except Fault State := if s.per.step.isSome then s.closeStep [] else .ok s

/-- BOUNDARY: the next boundary, of running periods or out of CONFIGURE. A boundary whose application step commands have opened goes on
from there. `bits` gives the window of bits of each sigma-delta input. -/
def State.boundary (s : State) (bits : SMap Nat) (reach : Bool) : Except Fault State :=
  if !s.time.running then .ok s
  else
    match (if s.per.step.isSome then .ok s
      else if s.per.running then s.openRun reach
      else match s.per.departing with
        | some m => s.openFirst m
        | none => .ok s) with
    | .error f => .error f
    | .ok t => t.closeStep bits

/-- A command reaches its application in a mode in which periods run: the next boundary opens its application step, unless one is open,
or the boundary waits for a takeover's handover (R89). -/
def State.openFor (s : State) : Except Fault State :=
  if s.per.step.isSome || !s.time.running || s.red.takeover.isSome then .ok s else s.openRun false

/-- MEASUREMENT_INSTANT: the next multiple of TC, in every mode (R277). While no period runs the objects that otherwise follow the
seals are shown too, and the interval's event records are written. -/
def State.measureNext (s0 : State) : State :=
  if !s0.time.running then s0
  else
    let b := if s0.per.running then s0.per.next else s0.nextMeasure
    if s0.per.measured = some b then s0
    else
      let s := ((if s0.per.running then s0.midPeriod.deadline else s0).until b).measure b
      if s.per.running then s else s.showSealed.writeIdleEvents

end Sys2Proof.Machine
end

