-- ==== Sys2Proof/Machine/PeriodRows.lean ====
section
/-!
DEFINITION. The seal of a cairn with what waits for it (R23, R146, R170, R174, R203, R338, R345, R403, R416), and the commands of
the period: BOUNDARY, DEADLINE, MID_PERIOD_TRANSFER, MEASUREMENT_INSTANT, CAIRN_SEAL and BB_COPY_DONE.
-/

namespace Sys2Proof.Machine

/-! ### The seal (R23, R338) -/

/-- Every position of the unit that builds a cairn has posted its end marker; nothing is missing of a period that was not dispatched,
or of a halted lane pair (R23, R430). -/
def State.cairnWhole (s : State) (h : HeadRec) (c : CairnSt) : Bool :=
  let u := if c.unitB then 1 else 0
  h.areas.isEmpty || (List.range 10).all fun p =>
    let l := s.laneOf u p
    12 ≤ l || s.sec.halted.testBit l || c.lanes.any (·.pos == p)

/-- SEAL_SEQ and CHECK are written (R338). -/
def sealCairn (c : CairnSt) : CairnSt := { c with sealSeq := c.seq, check := crc32 (cairnBytes c), sealed := true }

/-- A word of an object whose words are 32 bits with 24 used. -/
def State.putWord (s : State) (o : Obj) (inst w v : Nat) : State := s.setObj o inst 0 (putBits (s.obj o inst 0) (32 * w) 24 v)

/-- A released word takes the effect that its chapter ties to the seal: fault bits, AXIS.STATUS, PROF.STATUS, and what LINK shows in
GEAR.MASTER (R146, R170, R174, R203). -/
def State.sealPost (s : State) (p : SealPost) : State :=
  let a := idInst p.port
  let o := idObj p.port
  let v := p.word.toNat
  match idClass p.port with
  | 0x1 => if o < 0x30 then s.takeFaults a (o == 0x2F) v p.stamp else s.putWord .axisStatus a (o - 0x30) v
  | 0x5 => s.putWord .profStatus a (o - 0x30) v
  | 0x6 => s.putWord .gearMaster a 1 v
  | _ => s

/-- The words that waited for the seal of period `q`, in the order they were accepted. -/
def State.sealPosts (s : State) (q : Nat) : State :=
  let s1 := (s.red.sealPosts.filter fun p => p.count == q).foldl State.sealPost s
  { s1 with red := { s1.red with sealPosts := s1.red.sealPosts.filter fun p => decide (q < p.count) } }

/-- DIGEST of every position (R403). -/
def cairnDigests (c : CairnSt) : List Nat :=
  (List.range 10).map fun p => match c.lanes.find? (·.pos == p) with
    | some l => l.digest
    | none => 0

/-- A digest that differs from the recorded one: REPLAY_MISMATCH (R416). -/
def State.replayMismatch (s : State) (seq pos : Nat) : State :=
  let first := s.fld F.SURV_REPLAY_MISMATCH == 0
  let s1 := s.satInc F.SURV_REPLAY_MISMATCH F.SURV_REPLAY_MIS_SAT
  let s2 := if first then (s1.setFld F.SURV_REPLAY_FIRST_POS pos).setFld F.SURV_REPLAY_FIRST_SEQ seq else s1
  s2.raise K.REPLAY_MISMATCH 0 (seq + pos * 2 ^ 32) 1

/-- REPLAY compares the digests at the seal of its `q`th period, and ends with the last record (R416). -/
def State.replaySeal (s : State) (q : Nat) (digests : List Nat) (replayed : Bool) : State :=
  match (if s.mode == .replay && replayed then s.surv.replay else none) with
  | none => s
  | some r =>
    match r.records[q - 1]? with
    | none => s
    | some x =>
      let s1 := if x.isSealed then
          (List.range 10).foldl (fun s p => if x.digest.getD p 0 ≠ digests.getD p 0 then s.replayMismatch x.seq p else s) s
        else s
      let s2 := s1.setFld F.SURV_REPLAY_AT x.seq
      if q = r.records.length then s2.setFld F.SURV_REPLAY_STATE 2 else s2

/-- CAIRN_SEAL: the oldest period without a sealed cairn is sealed once every delta of it has been accepted (R23). What waited for
the seal follows: statuses and faults, event records, completions. -/
def State.cairnSeal (s0 : State) : Except Fault State :=
  let s := s0.adopt
  let q := s.red.sealedCount + 1
  match s.cairnOf q, s.headOf q with
  | some (_, c), some h =>
    if !s.cairnWhole h c then .ok s
    else
      let ds := cairnDigests c
      let s1 := s.mapCairn q sealCairn
      let s2 := { s1 with red := { s1.red with sealedCount := q, sealedSeq := c.seq }, per := { s1.per with sealed := q } }
      let s3 := if s2.surveyed then s2.sealRecord q h.body.epoch h.body.seq ds else s2
      let s4 := (s3.replaySeal q ds (!h.areas.isEmpty)).sealPosts q
      if s4.bbReady && s4.bbWorn then .error .counterOverflow
      else .ok (((if s4.bbReady then s4.startBb else s4).writeEvents.showSealed).flushAll)
  | _, _ => .ok s

/-! ### The commands -/

/-- The windows of the sigma-delta inputs as a map. -/
def windowMap (bits : List (Fin 96 × Nat)) : SMap Nat := bits.foldl (fun m e => m.set e.1.val e.2 0) []

/-- BOUNDARY (R20): `bits` gives windows of sigma-delta bits, inputs not named reading 0; `reach` as R343 asks of a takeover. -/
def execBoundary (bits : List (Fin 96 × Nat)) (reach : Bool) (s : State) : Out := outOf (s.boundary (windowMap bits) reach)

/-- DEADLINE (R27). -/
def execDeadline (s : State) : Out := outOf (s.settled.map State.deadline)

/-- MID_PERIOD_TRANSFER (R256). -/
def execMidPeriodTransfer (s : State) : Out := outOf (s.settled.map State.midPeriod)

/-- MEASUREMENT_INSTANT (R277). -/
def execMeasurementInstant (s : State) : Out := outOf (s.settled.map State.measureNext)

/-- CAIRN_SEAL (R338). -/
def execCairnSeal (s : State) : Out := outOf s.cairnSeal

/-- BB_COPY_DONE (R410). -/
def execBbCopyDone (s : State) : Out := .next s.finishBb

end Sys2Proof.Machine
end

