-- ==== Sys2Proof/Machine/BootEnd.lean ====
section
/-!
DEFINITION. The end of boot: DRAM initialisation, the image's configuration section, and stage 0x7 (R48, R411, R422, R429).
-/

namespace Sys2Proof.Machine

/-- A descriptor that no host wrote: the hub's own writes at stage 0x7. -/
def hubRef : CmdRef := (18, 0, false)

/-- One record of a configuration section, as an OBJ_WRITE in CONFIGURE (R422): the state, or none where it is skipped. -/
def State.configRecord (s : State) (r : SnapObj) (lands : Nat) : Option State :=
  match objOf r.id with
  | none => none
  | some o =>
    match instOf? r.id o with
    | none => none
    | some i =>
      if !o.hasRw then none
      else
        match s.objWrite { obj := o, inst := i, off := 0, len := r.len, data := r.value } 0 hubRef lands with
        | .ok (t, some x) => if x.status = 0x00 then some t else none
        | .ok (t, none) => some t
        | .error _ => none

/-- A skipped record counts in SEC.STATUS.CFG_SKIPPED. -/
def State.skipRecord (s : State) : State :=
  let c := satNat 255 s.sec.skipped s.sec.skipSat
  { s with sec := { s.sec with skipped := c.1, skipSat := c.2 } }

/-- The configuration section of the running image (R422). -/
def State.applyConfig (s : State) (lands : Nat) : State :=
  match s.boot.running with
  | none => s
  | some n => (imgConfig (s.slot n).bytes).foldl (fun s r => (s.configRecord r lands).getD s.skipRecord) s

/-- Ticks of motion time, rounded up to ms. -/
def ceilMs (t : Nat) : Nat := (t + msTicks - 1) / msTicks

/-- The end of DRAM initialisation (R48). With stages 0x1 to 0x5 done it is stage 0x7: CONFIGURE, with the image's configuration;
at stage 0x8 nothing follows. `lands` are the levels that filters settle on. -/
def State.dramDone (s : State) (lands : Nat) : State :=
  if s.boot.resetLow || s.boot.dramReady then s
  else
    let s1 := { s with boot := { s.boot with dramReady := true } }
    if !s1.boot.waitDram then s1
    else
      let s2 := ({ s1 with boot := { s1.boot with waitDram := false } }).applyConfig lands
      let s3 := (s2.setFld F.SYS_BOOT_BOOT_MS (min 0xFFFF (ceilMs (s.now - s.boot.riseAt)))).setStage 7
      let s4 := if s3.bit F.SYS_BOOT_BB_CUT then s3.raise K.BB_CUT 0 1 1 else s3
      ({ s4 with sec := { s4.sec with configAt7 := sha256 (snapshotBytes s4.snapshot) } }).showSealed

/-- DRAM_INIT_DONE (R48). -/
def execDramInitDone (lands : Fin (2 ^ 128)) (s : State) : Out := .next (s.dramDone lands.val)

end Sys2Proof.Machine
end

