-- ==== Sys2Proof/Machine/DescRows.lean ====
section
/-!
DEFINITION. The descriptor commands (Table 03.3): each is a descriptor that is valid under R81 and reaches its application at this
instant, as part of the running period's commands or at once in CONFIGURE (R89, R91). Those of the bulk rings run whole (R83).
-/

namespace Sys2Proof.Machine

/-! ### A descriptor at its application -/

/-- A descriptor with the fields every opcode has. -/
def srcDesc (c : Src) (op id : Nat) : Desc := { opcode := op, irqNow := c.irqNow, tag := c.tag.val, objId := id }

/-- A descriptor of a bulk ring. -/
def bulkDesc (c : BulkSrc) (op id : Nat) : Desc := { opcode := op, irqNow := c.irqNow, tag := c.tag.val, objId := id }

/-- The reference of a ring place, in the ring's present life. -/
def State.refAt (s : State) (r index : Nat) (phase : Bool) : CmdRef := (r, s.ringIndex r index, phase)

/-- The hub may fetch the descriptor of a ring place now: it stands at HEAD, and none of the ring awaits validation (R75, R81). -/
def State.atHead (s : State) (r index : Nat) (phase : Bool) : Bool :=
  s.mayFetch r && s.head r == (index, phase) && !s.host.cmds.any fun c => c.ring == r && c.stage == .fetched && !c.flush

/-- The hub fetches a descriptor from its ring and validates it before the coming boundary tick (R75, R76, R81). -/
def State.join (s : State) (r : Nat) (d : Desc) (host : Nat) : Except Fault State := (s.fetch r d).validate r host none none 0

/-- The held command of a reference is validated and waits for its application. -/
def State.awaits (s : State) (ref : CmdRef) : Bool := s.host.cmds.any fun c => c.is ref && c.stage == .valid

/-- The commands of ring `r` reach their application (R89, R91): at once in CONFIGURE, and otherwise in the application step of the
boundary, in which those of rings of lower index come first. -/
def State.reach (s : State) (r lands : Nat) : Except Fault State :=
  if s.per.running then
    match s.openFor with
    | .error f => .error f
    | .ok t => t.takeUpTo r
  else s.applyNow r lands 33

/-- A descriptor of a command ring is fetched and validated, and its ring's commands reach their application; `lands` are the levels
that filters settle on. -/
def State.runDesc (s : State) (src : Src) (d : Desc) (host lands : Nat) : Except Fault State :=
  if !s.atHead src.ring.val src.index.val src.phase then .ok s
  else
    match s.join src.ring.val d host with
    | .error f => .error f
    | .ok t => if t.awaits (s.refAt src.ring.val src.index.val src.phase) then t.reach src.ring.val lands else .ok t

/-- A descriptor of bulk ring `b` is fetched and validated, and runs to its end when it is the ring's oldest (R83). -/
def State.runBulk (s : State) (b : Nat) (src : BulkSrc) (d : Desc) (host : Nat) : Except Fault State :=
  if !s.atHead (16 + b) src.index.val src.phase then .ok s
  else
    match s.join (16 + b) d host with
    | .error f => .error f
    | .ok t =>
      match t.bulkOf b with
      | some c => if c.is (s.refAt (16 + b) src.index.val src.phase) then t.bulkRun c else .ok t
      | none => .ok t

/-! ### NOP, objects, ABORT, SWAP, FAULT_ACK (R79, R80, R97, R350, R374) -/

/-- NOP on a command ring or on bulk ring `b` (R79). -/
def execNop (src : Src ⊕ (Fin 2 × BulkSrc)) (s : State) : Out :=
  match src with
  | .inl c => outOf (s.runDesc c (srcDesc c 0x01 0) 0 0)
  | .inr (b, c) => outOf (s.runBulk b.val c (bulkDesc c 0x01 0) 0)

/-- The descriptor of an OBJ_WRITE of `len` bytes at `off`: data beyond 32 bytes stand in a host buffer (R77). -/
def wrDesc (src : Src) (id off len data : Nat) (param : Nat := 0) : Desc :=
  { srcDesc src 0x02 id with
    offset := off, length := len, indirect := decide (32 < len), param := param
    inline := if 32 < len then 0 else data % 2 ^ (8 * len) }

/-- OBJ_WRITE (R80). `lands` are the levels that filters settle on: trip inputs from bit 0, then A, B and Z of each feedback
channel. -/
def execObjWrite (src : Src) (id off len : Fin 65536) (data : Nat) (lands : Nat) (s : State) : Out :=
  outOf (s.runDesc src (wrDesc src id.val off.val len.val data) data lands)

/-- OBJ_READ (R80). -/
def execObjRead (src : Src) (id off len : Fin 65536) (hostAddr : Fin (2 ^ 64)) (s : State) : Out :=
  outOf (s.runDesc src { srcDesc src 0x03 id.val with offset := off.val, length := len.val, hostAddr := hostAddr.val } 0 0)

/-- ABORT of the descriptor at an index and phase of a ring (R97). -/
def execAbort (src : Src) (ring : Fin 16) (index : Fin 4096) (phase : Bool) (s : State) : Out :=
  outOf (s.runDesc src { srcDesc src 0x04 0 with param := ring.val + index.val * 2 ^ 16 + phase.toNat * 2 ^ 28 } 0 0)

/-- SWAP (R349, R350). -/
def execSwap (src : Src) (s : State) : Out := outOf (s.runDesc src (srcDesc src 0x05 0xD002) 0 0)

/-- FAULT_ACK of a source number, of every instance of its kind, or of all (R374). -/
def execFaultAck (src : Src) (source : Fin 65536) (allInst all : Bool) (s : State) : Out :=
  outOf (s.runDesc src { srcDesc src 0x06 0xB004 with param := source.val + allInst.toNat * 2 ^ 16 + all.toNat * 2 ^ 17 } 0 0)

/-! ### Motion (R176, R177, R189, R190, R193) -/

/-- PROF.LIMITS of an axis, which motion descriptors name. -/
def axisProf (a : Fin 40) : Nat := 0x5000 + 64 * a.val

/-- MOVE_POS: TARGET in counts, SPEED and MODE (R177). -/
def execMovePos (src : Src) (a : Fin 40) (target : Fin (2 ^ 48)) (speed : Fin (2 ^ 24)) (mode : Fin 8) (s : State) : Out :=
  outOf (s.runDesc src { srcDesc src 0x10 (axisProf a) with param := mode.val, inline := target.val + speed.val * 2 ^ 64 } 0 0)

/-- MOVE_VEL (R176). -/
def execMoveVel (src : Src) (a : Fin 40) (speed : Fin (2 ^ 24)) (s : State) : Out :=
  outOf (s.runDesc src { srcDesc src 0x11 (axisProf a) with inline := speed.val * 2 ^ 64 } 0 0)

/-- STOP (R189). -/
def execStop (src : Src) (a : Fin 40) (s : State) : Out := outOf (s.runDesc src (srcDesc src 0x12 (axisProf a)) 0 0)

/-- QUICK_STOP (R190). -/
def execQuickStop (src : Src) (a : Fin 40) (s : State) : Out := outOf (s.runDesc src (srcDesc src 0x13 (axisProf a)) 0 0)

/-- RESUME (R193). -/
def execResume (src : Src) (a : Fin 40) (s : State) : Out := outOf (s.runDesc src (srcDesc src 0x14 (axisProf a)) 0 0)

/-! ### Gearing, cams, caravans, latch and compare (R208 to R237) -/

/-- GEAR.MASTER of an axis, which engagement descriptors name. -/
def axisGear (a : Fin 40) : Nat := 0x6000 + 64 * a.val

/-- GEAR_ENGAGE (R208): NUM, DEN, RAMP, and START_EN, START_DIR, START_POS. -/
def execGearEngage (src : Src) (a : Fin 40) (num den ramp : Fin (2 ^ 32)) (startEn : Bool) (startDir : Fin 4) (startPos : Fin (2 ^ 48))
    (s : State) : Out :=
  outOf (s.runDesc src { srcDesc src 0x18 (axisGear a) with
    param := startEn.toNat + startDir.val * 2
    inline := num.val + den.val * 2 ^ 32 + ramp.val * 2 ^ 64 + startPos.val * 2 ^ 96 } 0 0)

/-- CAM_ENGAGE (R218): profile, YMODE, the origin X_ORG where XMODE sets it, OFFSET and BLEND. -/
def execCamEngage (src : Src) (a : Fin 40) (profile : Fin 64) (ymode xmode : Bool) (offset xOrg : Fin (2 ^ 48)) (blend : Fin (2 ^ 16))
    (s : State) : Out :=
  outOf (s.runDesc src { srcDesc src 0x19 (axisGear a) with
    param := profile.val + ymode.toNat * 2 ^ 8 + xmode.toNat * 2 ^ 9
    inline := offset.val + xOrg.val * 2 ^ 64 + blend.val * 2 ^ 128 } 0 0)

/-- DISENGAGE (R212). -/
def execDisengage (src : Src) (a : Fin 40) (stop : Bool) (s : State) : Out :=
  outOf (s.runDesc src { srcDesc src 0x1A (axisGear a) with param := stop.toNat } 0 0)

/-- CARAVAN_SEG: a segment of `len` bytes, which stand in a host buffer (R220). -/
def execCaravanSeg (src : Src) (g : Fin 4) (len : Fin 153) (data : Fin (2 ^ 1216)) (s : State) : Out :=
  outOf (s.runDesc src { srcDesc src 0x1B (0x6005 + 64 * g.val) with length := len.val, indirect := true } data.val 0)

/-- LATCH_ARM (R230). -/
def execLatchArm (src : Src) (n : Fin 8) (s : State) : Out := outOf (s.runDesc src (srcDesc src 0x1C (0x7000 + 64 * n.val)) 0 0)

/-- COMPARE_ARM (R234): POSITION, STEP, COUNT and DIR. -/
def execCompareArm (src : Src) (u : Fin 16) (pos step : Fin (2 ^ 32)) (count : Fin (2 ^ 16)) (dir : Fin 4) (s : State) : Out :=
  outOf (s.runDesc src { srcDesc src 0x1D (0x7002 + 64 * u.val) with
    param := dir.val + count.val * 2 ^ 16, inline := pos.val + step.val * 2 ^ 32 } 0 0)

/-! ### CAN, survey, attestation (R326, R407, R423) -/

/-- CAN_TX of a frame: `len` bytes of header and data (R326). -/
def execCanTx (src : Src) (c : Fin 4) (len : Fin 2065) (data : Nat) (s : State) : Out :=
  outOf (s.runDesc src { srcDesc src 0x20 (0x9000 + 64 * c.val) with
    length := len.val, indirect := decide (32 < len.val), inline := if 32 < len.val then 0 else data % 2 ^ (8 * len.val) } data 0)

/-- SURVEY_FREEZE; `noCopy` is PARAM[0] (R407). -/
def execSurveyFreeze (src : Src) (noCopy : Bool) (s : State) : Out :=
  outOf (s.runDesc src { srcDesc src 0x24 0xC002 with param := noCopy.toNat } 0 0)

/-- ATTEST of a nonce, the statement going to `hostAddr` (R423). -/
def execAttest (src : Src) (nonce : Fin (2 ^ 256)) (hostAddr : Fin (2 ^ 64)) (s : State) : Out :=
  outOf (s.runDesc src { srcDesc src 0x28 0xE000 with length := 32, inline := nonce.val, hostAddr := hostAddr.val } 0 0)

/-! ### Bulk commands (R82, R213, R377, R412, R414) -/

/-- The fields of a bulk transfer that carries data in, from a host buffer. -/
def bulkIn (src : BulkSrc) (op id param len : Nat) (last : Bool) : Desc :=
  { bulkDesc src op id with param := param, length := len, indirect := true, last := last }

/-- IMAGE_WRITE into a slot at `block` × 64 (R82). -/
def execImageWrite (src : BulkSrc) (slot : Fin 2) (block : Fin (2 ^ 24)) (len : Fin 4097) (last : Bool) (data : Nat) (s : State) : Out :=
  outOf (s.runBulk 0 src (bulkIn src 0x40 0 (block.val + slot.val * 2 ^ 31) len.val last) data)

/-- TABLE_WRITE: cam points from entry `first` of the staging area, or, with `upload`, bytes of a Bamgon file from `first` × 64
(R213, R414). -/
def execTableWrite (src : BulkSrc) (upload : Bool) (first : Fin (2 ^ 32)) (len : Fin 4097) (last : Bool) (data : Nat) (s : State) : Out :=
  outOf (s.runBulk 0 src (bulkIn src 0x41 (if upload then 0xC005 else 0x6002) first.val len.val last) data)

/-- SURVEY_READ of the export file from byte `block` × 64 (R412). -/
def execSurveyRead (src : BulkSrc) (block : Fin (2 ^ 32)) (len : Fin 4097) (hostAddr : Fin (2 ^ 64)) (s : State) : Out :=
  outOf (s.runBulk 1 src { bulkDesc src 0x48 0xC003 with param := block.val, length := len.val, hostAddr := hostAddr.val } 0)

/-- LOG_READ from entry `first` (R377). -/
def execLogRead (src : BulkSrc) (first : Fin 16384) (len : Fin 4097) (hostAddr : Fin (2 ^ 64)) (s : State) : Out :=
  outOf (s.runBulk 1 src { bulkDesc src 0x49 0xB006 with param := first.val, length := len.val, hostAddr := hostAddr.val } 0)

end Sys2Proof.Machine
end

