-- ==== Sys2Proof/Machine/FaultRows.lean ====
section
/-!
DEFINITION. Events reaching the collector, repairs they call for, and ALIVE (12_fault_collection, R357, R358, R378).
-/

namespace Sys2Proof.Machine

/-! ### Repairs of MRAM rows and hub SRAM words (R357, R358) -/

/-- A row or word is replaced by a spare, when one is free; the warning level is announced once. -/
def State.repair (s : State) (kind place limit warn : Nat) : State :=
  let near := (s.repairsOf kind).filter fun p => kind ≠ 2 || p == place
  if near.length < limit then
    let s1 := { s with red := { s.red with repairs := s.red.repairs ++ [(kind, place)] } }
    if s1.sparesFree kind = warn ∧ s.sparesFree kind ≠ warn then s1.raise K.SPARE_LOW kind (kind + warn * 2 ^ 16) 1 else s1
  else s

/-- A read that needed correction is counted; the last of `n` at one place calls for a repair (Table 11.3). -/
def State.noteCorrection (s : State) (kind place n : Nat) : State :=
  { s with red := { s.red with
    corrected := if (s.red.corrected.filter (· == (kind, place))).length + 1 = n then s.red.corrected.filter (· != (kind, place))
      else s.red.corrected ++ [(kind, place)] } }

/-- What a memory's event means for its spares: the second correction of an SRAM word, the fourth of an MRAM row, a failed MRAM
write (Table 11.3). -/
def State.spareFor (s : State) (e : ExtEvent) : State :=
  let seen := fun (k p : Nat) => (s.red.corrected.filter (· == (k, p))).length + 1
  let word := e.inst * 2 ^ 32 + e.addr.val
  if e.kind = K.SRAM_CORR then
    let s1 := s.noteCorrection 2 word 2
    if seen 2 word = 2 then s1.repair 2 e.inst 32 4 else s1
  else if e.kind = K.NVM_CORR then
    let s1 := s.noteCorrection 0 e.addr.val 4
    if seen 0 e.addr.val = 4 then s1.repair 0 e.addr.val 256 16 else s1
  else if e.kind = K.NVM_WRITE_FAIL then s.repair 0 e.addr.val 256 16
  else s

/-! ### FAULT_EVENT -/

/-- Sources whose events no other command brings about: memories, the endpoint's error reporting, hub checks. -/
def extKinds : List Kind :=
  [K.SRAM_CORR, K.SRAM_UNCORR, K.DRAM_CORR, K.DRAM_UNCORR, K.TRACE_UNCORR, K.HOST_AER, K.NVM_CORR, K.NVM_WRITE_FAIL, K.NVM_UNCORR,
   K.HUB_CHECK]

/-- Such an event may come: its kind is one of them and has the instance. -/
def ExtEvent.ok (e : ExtEvent) : Bool := extKinds.contains e.kind && (kindRow e.kind).any fun r => decide (e.inst < r.instances)

/-- The oldest event on its way reaches the collector. -/
def State.deliverOne (s : State) : State :=
  match s.msgs with
  | [] => s
  | m :: r => ({ s with msgs := r }).collect m

/-- An event of a source outside the other commands, stamped now, reaches the collector after those on their way (R362). -/
def State.extEvent (s : State) (e : ExtEvent) : State :=
  let s1 := (s.spareFor e).drain
  s1.collect { source := sourceNo e.kind e.inst, kind := e.sub.val, addr := e.addr.val, data := e.data.val, dlen := e.dlen.val
               stamp := s.now }

/-- Words of a lane memory. -/
def LaneMem.size : LaneMem → Nat
  | .prog => 2 ^ 13
  | .x | .y => 2 ^ 14
  | .bankA | .bankB => 2 ^ 12

/-- The memory that an upset's KIND names, above its copy in bit 0. -/
def upsetMem (sub : Nat) : LaneMem :=
  match sub / 2 with
  | 0 => .prog
  | 1 => .x
  | 2 => .y
  | 3 => .bankA
  | _ => .bankB

/-- A word of a copy's memory is disturbed and no longer agrees with its parity bit: LANE_PARITY is raised once it is read (R102). -/
def State.upset (s : State) (e : ExtEvent) : State :=
  let m := upsetMem e.sub.val
  let a := e.addr.val
  let w := BitVec.ofNat 24 e.data.val
  let l := s.lane (e.inst / 12) (e.inst % 12) (e.sub.val % 2)
  let l1 : Lane := match m with
    | .prog => { l with prog := l.prog.set a (BitVec.ofNat 48 e.data.val) 0 }
    | .x => { l with x := l.x.set a w 0 }
    | .y => { l with y := l.y.set a w 0 }
    | .bankA => { l with bankA := l.bankA.set a w 0 }
    | .bankB => { l with bankB := l.bankB.set a w 0 }
  let bad := if l.badParity.contains (m, a) then l.badParity else l.badParity ++ [(m, a)]
  if a < m.size ∧ e.inst < 24 then s.setLane (e.inst / 12) (e.inst % 12) (e.sub.val % 2) { l1 with badParity := bad } else s

/-- FAULT_EVENT: the oldest event on its way, or an event of the source `e` names (R361, R368). Of LANE_PARITY the operand is the
disturbance of storage, whose event comes with the read (R102). -/
def execFaultEvent (e : Option ExtEvent) (s : State) : Out :=
  match e with
  | none => .next s.deliverOne
  | some e =>
    .next (if s.boot.resetLow then s else if e.kind = K.LANE_PARITY then s.upset e else if ExtEvent.ok e then s.extEvent e else s)

/-! ### ALIVE (R378) -/

/-- ALIVE toggles: stage 0x7 has been reached, it is enabled, and no SAFE is latched. -/
def State.aliveRuns (s : State) : Bool :=
  s.fld F.SYS_BOOT_STAGE == 7 && s.time.running && s.bit F.FLT_CFG_ALIVE_EN && !s.safeLatched

/-- ALIVE at the next multiple of ALIVE_HALF. -/
def State.aliveToggle (s0 : State) : State :=
  if s0.fld F.SYS_BOOT_STAGE ≠ 7 ∨ !s0.time.running then s0
  else
    let half := clampNat (s0.fld F.FLT_CFG_ALIVE_HALF) 20000 4000000
    let s := s0.until ((s0.now / half + 1) * half)
    { s with flt := { s.flt with alive := s.aliveRuns && decide (s.now / half % 2 = 1) } }

/-- ALIVE_TOGGLE (R378). -/
def execAliveToggle (s : State) : Out := .next s.aliveToggle

end Sys2Proof.Machine
end

