-- ==== Sys2Proof/Machine/Electrical.lean ====
section
/-!
DEFINITION. Reference clock, supplies and the test access port (R52, R55, R267, R440, R447).
-/

namespace Sys2Proof.Machine

/-! ### Clock and supplies -/

/-- REF_CLK shows no edge for 1 µs: HUB_CHECK of block 0, and the time base holds over (R440). -/
def State.refLoss (s : State) : State :=
  if s.time.running && !s.time.refLost then ({ s with time := { s.time with refLost := true } }).raise K.HUB_CHECK 0 0 1 else s

/-- The first change still to come of a three-level or ganged group that may be made at some instant. -/
def State.firstRest (s : State) : Option (Nat × Nat × SwChange × Nat × Bool) :=
  ((List.range 32).filter s.ganged).foldl (fun m g => (List.range 6).foldl (fun m k =>
    match (s.sw g k).pend with
    | none => m
    | some c =>
      match s.changeAt g k c, m with
      | none, _ => m
      | some (t, d), none => some (g, k, c, t, d)
      | some (t, d), some b => if t < b.2.2.2.1 then some (g, k, c, t, d) else m) m) none

/-- The ordered changes of three-level and ganged groups are made at their instants (R265); each of the 192 outputs has at most one. -/
def State.finishRests : Nat → State → State
  | 0, s => s
  | n + 1, s =>
    match s.firstRest with
    | none => s
    | some (g, k, c, t, d) => State.finishRests n ((s.until (tickOf t)).makeChange g k c t d)

/-- The time base stops: three-level and ganged groups go to SAFE, and once they have reached it time stands and every group is under halt
(R267, R440). -/
def State.timeStop (s : State) : State :=
  if s.time.running && s.time.refLost then
    let s1 := State.finishRests 192 ({ s with time := { s.time with stopping := true } }).refreshGroups
    ({ s1 with time := { s1.time with running := false, stopping := false } }).refreshGroups
  else s

/-- A unit's core supply has fallen below 0.60 V (R52). -/
def State.sag (s : State) (u : Nat) : State :=
  if s.boot.resetLow then s
  else if u = 0 then { s with red := { s.red with lostA := true } } else { s with red := { s.red with lostB := true } }

/-- REF_CLK_LOSS (R440). -/
def execRefClkLoss (s : State) : Out := .next s.refLoss

/-- TIME_BASE_STOP (R267). -/
def execTimeBaseStop (s : State) : Out := .next s.timeStop

/-- VCORE_SAG of a unit (R52): its lanes may stop, which shows as lane commands that do not come. -/
def execVcoreSag (u : Fin 2) (s : State) : Out := .next (s.sag u.val)

/-- SUPPLY_BELOW_RANGE (R55): with RESET_N high, from the fall of the supply to the stop of the hub logic. What the undefined stretch
between them does is left out (DESIGN CHOICE of log entry 81). -/
def execSupplyBelowRange (s : State) : Out := .next (if s.boot.resetLow then s else s.logicStops)

/-! ### The test access port (R447, IEEE 1149.1) -/

/-- The next state of the controller, by TMS at a rising edge of TCK. -/
def TapState.next (t : TapState) (tms : Bool) : TapState :=
  match t, tms with
  | .reset, true => .reset
  | .reset, false | .idle, false | .updateDr, false | .updateIr, false => .idle
  | .idle, true | .updateDr, true | .updateIr, true => .selectDr
  | .selectDr, true => .selectIr
  | .selectDr, false => .captureDr
  | .captureDr, false | .shiftDr, false | .exit2Dr, false => .shiftDr
  | .captureDr, true | .shiftDr, true => .exit1Dr
  | .exit1Dr, false | .pauseDr, false => .pauseDr
  | .pauseDr, true => .exit2Dr
  | .exit1Dr, true | .exit2Dr, true => .updateDr
  | .selectIr, true => .reset
  | .selectIr, false => .captureIr
  | .captureIr, false | .shiftIr, false | .exit2Ir, false => .shiftIr
  | .captureIr, true | .shiftIr, true => .exit1Ir
  | .exit1Ir, false | .pauseIr, false => .pauseIr
  | .pauseIr, true => .exit2Ir
  | .exit1Ir, true | .exit2Ir, true => .updateIr

/-- The level of the land of boundary cell `i` where the module drives it or the state holds it; none for another input. The cells follow the
lands by row and then by column (R447, R452): PWM rows 01 to 06, TRIP and LATCH 07 and 08, FB 09 to 12, EMU 13, CAN 14, SD 15 to 17, SDCK 18,
RESET_N and ALIVE 19, REF_CLK 21, PE_PERST_N 22. -/
def State.cellLevel (s : State) (i : Nat) : Option Bool :=
  if i < 192 then some (!s.boot.resetLow && (s.sw (i % 32) (i / 32)).on)
  else if 264 ≤ i ∧ i < 296 then s.fbB (i - 264)
  else if 328 ≤ i ∧ i < 360 then some (s.fbCk (i - 328))
  else if 360 ≤ i ∧ i < 384 then some ((s.emuLands ((i - 360) / 3)).testBit ((i - 360) % 3))
  else if 488 ≤ i ∧ i < 496 then some (s.sdck (i - 488) s.now)
  else if i = 496 then some (!s.boot.resetLow || s.boot.stopped)
  else if i = 497 then some s.flt.alive
  else if i = 499 then some (!s.host.perst)
  else none

/-- What the boundary register captures: the levels of the 500 lands; `lands` gives those of the inputs (R447). -/
def State.boundaryCells (s : State) (lands : Nat) : Nat :=
  (List.range 500).foldl (fun m i => if (s.cellLevel i).getD (lands.testBit i) then m + 2 ^ i else m) 0

/-- SAMPLE/PRELOAD is selected; every other code selects BYPASS. -/
def TapSt.sampling (t : TapSt) : Bool := t.ir != 15 && t.ir == Config.sampleCode.toNat

/-- A rising edge: capture or shift by the present state, then the next state. `lands` are the levels of the 500 boundary cells. -/
def TapSt.rise (t : TapSt) (tms tdi : Bool) (lands : Nat) : TapSt :=
  let t1 : TapSt := match t.state with
    | .captureDr => if t.sampling then { t with cells := lands } else { t with bypass := false }
    | .shiftDr => if t.sampling then { t with cells := t.cells / 2 + tdi.toNat * 2 ^ 499 } else { t with bypass := tdi }
    | .captureIr => { t with irShift := 1 + 4 * Config.irCapture.toNat }
    | .shiftIr => { t with irShift := t.irShift / 2 + tdi.toNat * 8 }
    | _ => t
  { t1 with state := t.state.next tms, tck := true }

/-- A falling edge: updates take effect, and SVC_TDO is driven while data is shifted. -/
def TapSt.fall (t : TapSt) : TapSt :=
  let t1 : TapSt := match t.state with
    | .updateIr => { t with ir := t.irShift }
    | .updateDr => if t.sampling then { t with latched := t.cells } else t
    | .reset => { t with ir := 15 }
    | _ => t
  let out := match t.state with
    | .shiftDr => some (if t.sampling then t.cells.testBit 0 else t.bypass)
    | .shiftIr => some (t.irShift.testBit 0)
    | _ => none
  { t1 with tdo := out, tck := false }

/-- SVC_TCK_EDGE: TCK goes to `level` with the levels of SVC_TMS, SVC_TDI and SVC_TRST_N; `lands` are those of the input lands, by
boundary cell. SVC_TRST_N low holds the port in reset. -/
def execSvcTckEdge (level tms tdi trstN : Bool) (lands : Fin (2 ^ 500)) (s : State) : Out :=
  let t := s.tap
  let u : TapSt :=
    if !trstN then { t with state := .reset, ir := 15, tdo := none, tck := level }
    else if t.tck = level then t
    else if level then t.rise tms tdi (s.boundaryCells lands.val) else t.fall
  .next { s with tap := u }

end Sys2Proof.Machine
end

