-- ==== Sys2Proof/Machine/ObjRows.lean ====
section
/-!
DEFINITION. The object actions: commands that are an OBJ_WRITE or OBJ_READ of one object (R80), each with the bytes its layout gives
the action's field. Bits of the same bytes that hold RW fields are operands.
-/

namespace Sys2Proof.Machine

/-- An OBJ_WRITE of bytes that need no host buffer's levels. -/
def State.runWrite (s : State) (src : Src) (id off len data : Nat) : Out := outOf (s.runDesc src (wrDesc src id off len data) data 0)

/-! ### Modes, resets, slack (R32, R41, R57, R63) -/

/-- MODE_REQUEST: SYS.MODE.REQ (R41). -/
def execModeRequest (src : Src) (mode : Fin 8) (s : State) : Out := s.runWrite src 0x0004 0 1 (mode.val * 2 ^ 4)

/-- A write of SYS.RESET: KIND, INDEX, UNIT, SRC. -/
def resetData (kind idx unit : Nat) (src : Bool) : Nat := kind + idx * 2 ^ 4 + unit * 2 ^ 10 + src.toNat * 2 ^ 11

/-- RESET_FB_CHANNEL (R57). -/
def execResetFbChannel (src : Src) (n : Fin 32) (s : State) : Out := s.runWrite src 0x0007 0 2 (resetData 1 n.val 0 false)

/-- RESET_PWM_GROUP (R57). -/
def execResetPwmGroup (src : Src) (g : Fin 32) (s : State) : Out := s.runWrite src 0x0007 0 2 (resetData 2 g.val 0 false)

/-- RESET_CAN_CHANNEL (R57). -/
def execResetCanChannel (src : Src) (c : Fin 4) (s : State) : Out := s.runWrite src 0x0007 0 2 (resetData 3 c.val 0 false)

/-- RESET_ETH_PORT (R57). -/
def execResetEthPort (src : Src) (p : Fin 3) (s : State) : Out := s.runWrite src 0x0007 0 2 (resetData 4 p.val 0 false)

/-- RESET_LANE_PAIR (R57). -/
def execResetLanePair (src : Src) (u : Fin 2) (l : Fin 12) (s : State) : Out := s.runWrite src 0x0007 0 2 (resetData 5 l.val u.val false)

/-- RESET_UNIT, with `pending` for SRC = 1 (R63). -/
def execResetUnit (src : Src) (u : Fin 2) (pending : Bool) (s : State) : Out := s.runWrite src 0x0007 0 2 (resetData 6 0 u.val pending)

/-- RESET_MODULE and the boot that follows it (R57): the outcomes of self-test and read-backs, and the trip inputs' levels, as
RESET_N_RISE takes them. -/
def execResetModule (src : Src) (selfTest readA readB : Bool) (lands : Fin (2 ^ 32)) (s : State) : Out :=
  match s.runDesc src (wrDesc src 0x0007 0 2 (resetData 15 0 0 false)) 0 0 with
  | .error f => .fault f
  | .ok t => .next (if t.boot.resetLow && !s.boot.resetLow then t.bootUp selfTest readA readB lands.val else t)

/-- SLACK_CLR of an entry (R32). -/
def execSlackClr (src : Src) (e : Fin 24) (s : State) : Out := s.runWrite src 0x0002 (16 * e.val + 10) 1 0x02

/-! ### Banks and lanes (R136, R137, R139) -/

/-- BANK_SWAP (R137). -/
def execBankSwap (src : Src) (s : State) : Out := s.runWrite src 0xF001 0 1 0x02

/-- Words of a bank as OBJ_WRITE carries them: 4 bytes each. -/
def wordsData (ws : List Word24) : Nat := ws.zipIdx.foldl (fun v e => v + e.1.toNat * 2 ^ (32 * e.2)) 0

/-- COEF_WRITE of words from word `first` of a bank (R136). -/
def execCoefWrite (src : Src) (bankB : Bool) (first : Fin 4096) (words : List Word24) (s : State) : Out :=
  s.runWrite src (if bankB then 0xF003 else 0xF002) (4 * first.val) (4 * words.length) (wordsData words)

/-- LANE_CLR of a lane entry (R139). -/
def execLaneClr (src : Src) (e : Fin 24) (s : State) : Out := s.runWrite src (0xF004 + 64 * e.val) 4 1 0x02

/-! ### PWM (R258, R260, R263, R266, R457) -/

/-- PWMG.CTRL of a group. -/
def pwmCtrlId (g : Fin 32) : Nat := 0x2002 + 64 * g.val

/-- PWM_EN (R266). -/
def execPwmEn (src : Src) (g : Fin 32) (en : Bool) (s : State) : Out := s.runWrite src (pwmCtrlId g) 0 1 en.toNat

/-- TRIP_CLR, with EN as written beside it (R263). -/
def execTripClr (src : Src) (g : Fin 32) (en : Bool) (s : State) : Out := s.runWrite src (pwmCtrlId g) 0 1 (en.toNat + 0x02)

/-- PWM_CNT_CLR, with EN as written beside it (R457). -/
def execPwmCntClr (src : Src) (g : Fin 32) (en : Bool) (s : State) : Out := s.runWrite src (pwmCtrlId g) 0 1 (en.toNat + 0x04)

/-- PWM_AUX_WRITE: bits [111:0] of PWMG.AUX (R258, R259). -/
def execPwmAuxWrite (src : Src) (g : Fin 32) (v : Fin (2 ^ 112)) (s : State) : Out := s.runWrite src (0x2001 + 64 * g.val) 0 14 v.val

/-- TRIPIN_WRITE: ACT_HIGH and FILTER, the filters settling on `lands` (R260). -/
def execTripinWrite (src : Src) (actHigh : Fin (2 ^ 32)) (filter : Fin 256) (lands : Fin (2 ^ 32)) (s : State) : Out :=
  outOf (s.runDesc src (wrDesc src 0x2800 0 5 (actHigh.val + filter.val * 2 ^ 32)) 0 lands.val)

/-! ### Feedback, emulation, current sensing (R270, R276, R289, R292, R457) -/

/-- FB_CFG_WRITE: all of FB.CFG, or of FB.SERIAL; the channel's filters settle on the levels `a`, `b`, `z` (R270, R271). -/
def execFbCfgWrite (src : Src) (n : Fin 32) (serial : Bool) (v : Fin (2 ^ 256)) (a b z : Bool) (s : State) : Out :=
  let lands := (a.toNat + b.toNat * 2 + z.toNat * 4) * 2 ^ (32 + 3 * n.val)
  let d := if serial then wrDesc src (0x3001 + 64 * n.val) 0 16 v.val else wrDesc src (0x3000 + 64 * n.val) 0 32 v.val
  outOf (s.runDesc src d 0 lands)

/-- FB.CTRL of a channel. -/
def fbCtrlId (n : Fin 32) : Nat := 0x3002 + 64 * n.val

/-- PRESET with PRESET_VAL, SER_CMD and SER_ARG as written beside it (R289). -/
def execPreset (src : Src) (n : Fin 32) (cmd : Fin 8) (arg : Fin 256) (val : Fin (2 ^ 32)) (s : State) : Out :=
  s.runWrite src (fbCtrlId n) 0 8 (0x01 + cmd.val * 2 ^ 4 + arg.val * 2 ^ 8 + val.val * 2 ^ 32)

/-- ARM_HOME (R276). -/
def execArmHome (src : Src) (n : Fin 32) (cmd : Fin 8) (s : State) : Out := s.runWrite src (fbCtrlId n) 0 1 (0x02 + cmd.val * 2 ^ 4)

/-- FB_CNT_CLR (R457). -/
def execFbCntClr (src : Src) (n : Fin 32) (cmd : Fin 8) (s : State) : Out := s.runWrite src (fbCtrlId n) 0 1 (0x04 + cmd.val * 2 ^ 4)

/-- SER_GO with SER_CMD and SER_ARG (R289). -/
def execSerGo (src : Src) (n : Fin 32) (cmd : Fin 8) (arg : Fin 256) (s : State) : Out :=
  s.runWrite src (fbCtrlId n) 0 2 (0x08 + cmd.val * 2 ^ 4 + arg.val * 2 ^ 8)

/-- EMU_CFG_WRITE: all of EMU.CFG (R292). -/
def execEmuCfgWrite (src : Src) (e : Fin 8) (v : Fin (2 ^ 64)) (s : State) : Out := s.runWrite src (0x3800 + 64 * e.val) 0 8 v.val

/-- CS_STATUS_CLR (R457). -/
def execCsStatusClr (src : Src) (i : Fin 96) (s : State) : Out :=
  s.runWrite src (0x4002 + 64 * (i.val % 48) + 32 * (i.val / 48)) 8 1 0x04

/-! ### Time, networks, field I/O (R331, R383, R457) -/

/-- TIME_STATUS_CLR (R457). -/
def execTimeStatusClr (src : Src) (s : State) : Out := s.runWrite src 0x8001 2 1 0x02

/-- ETH_STATUS_CLR (R457). -/
def execEthStatusClr (src : Src) (p : Fin 3) (s : State) : Out := s.runWrite src (0x8041 + 64 * p.val) 1 1 0x40

/-- CYC_RX_CLR (R457). -/
def execCycRxClr (src : Src) (r : Fin 16) (s : State) : Out := s.runWrite src (0x8400 + 64 * r.val) 14 1 0x08

/-- CAN_STATUS_CLR (R457). -/
def execCanStatusClr (src : Src) (c : Fin 4) (s : State) : Out := s.runWrite src (0x9002 + 64 * c.val) 8 1 0x04

/-- CAN_RXQ_RELEASE: CONS and CONS_PHASE of CAN.RXCTL (R331). -/
def execCanRxqRelease (src : Src) (c : Fin 4) (cons : Fin 256) (phase : Bool) (s : State) : Out :=
  s.runWrite src (0x9004 + 64 * c.val) 2 2 (cons.val + phase.toNat * 2 ^ 8)

/-- FIO_STATUS_CLR (R457). -/
def execFioStatusClr (src : Src) (s : State) : Out := s.runWrite src 0xA003 13 1 0x08

/-- FIO_DI_CFG_WRITE of an input (R383). -/
def execFioDiCfgWrite (src : Src) (i : Fin 32) (deb : Fin (2 ^ 16)) (pulsed inv : Bool) (s : State) : Out :=
  s.runWrite src 0xA000 (4 * i.val) 4 (deb.val + pulsed.toNat * 2 ^ 16 + inv.toNat * 2 ^ 17)

/-! ### Cam store, redundancy, faults (R214, R354, R355, R371, R372, R457) -/

/-- CAM_COMMIT: FIRST, COUNT and GO (R214). -/
def execCamCommit (src : Src) (first count : Fin (2 ^ 16)) (s : State) : Out :=
  s.runWrite src 0x6003 0 5 (first.val + count.val * 2 ^ 16 + 2 ^ 32)

/-- MIGRATE of a lane pair (R354). -/
def execMigrate (src : Src) (l : Fin 16) (s : State) : Out := s.runWrite src 0xD002 0 1 (0x01 + l.val * 2)

/-- UNRETIRE of a lane pair of a unit (R355). -/
def execUnretire (src : Src) (u : Fin 2) (l : Fin 16) (s : State) : Out := s.runWrite src 0xD002 0 1 (0x20 + l.val * 2 + u.val * 2 ^ 6)

/-- TAKEOVERS_CLR (R457). -/
def execTakeoversClr (src : Src) (s : State) : Out := s.runWrite src 0xD002 0 1 0x80

/-- FORCE of an instance of a kind, or the end of its forcing (R371). -/
def execForce (src : Src) (k inst : Fin 128) (on : Bool) (s : State) : Out :=
  s.runWrite src 0xB002 (4 * k.val) 4 (on.toNat + inst.val * 2 ^ 8)

/-- FIRST_CLR; `hi` are ALIVE_HALF [21:16] and ALIVE_EN as written beside it (R372). -/
def execFirstClr (src : Src) (hi : Fin 128) (s : State) : Out := s.runWrite src 0xB000 2 1 (0x80 + hi.val)

/-! ### Survey (R408, R412, R414, R457) -/

/-- SURV_CLR (R457). -/
def execSurvClr (src : Src) (s : State) : Out := s.runWrite src 0xC002 0 1 0x02

/-- UNFREEZE (R408). -/
def execUnfreeze (src : Src) (s : State) : Out := s.runWrite src 0xC002 0 1 0x01

/-- EXPORT_SETUP: KIND, SIGN, EPOCH, FIRST and LAST (R412). -/
def execExportSetup (src : Src) (kind : Fin 4) (sign : Bool) (epoch first last : Fin (2 ^ 32)) (s : State) : Out :=
  s.runWrite src 0xC003 0 16
    (kind.val + 0x04 + sign.toNat * 2 ^ 4 + epoch.val * 2 ^ 32 + first.val * 2 ^ 64 + last.val * 2 ^ 96)

/-- REPLAY_LOAD: SRC, EPOCH, FIRST and LAST (R414). -/
def execReplayLoad (src : Src) (upload : Bool) (epoch first last : Fin (2 ^ 32)) (s : State) : Out :=
  s.runWrite src 0xC004 0 16 (upload.toNat + epoch.val * 2 ^ 32 + first.val * 2 ^ 64 + last.val * 2 ^ 96)

/-! ### Keys and service access (R425 to R431) -/

/-- GEN_ID with its CODE (R426). -/
def execGenId (src : Src) (code : Fin (2 ^ 16)) (s : State) : Out := s.runWrite src 0xE002 0 4 (0x01 + code.val * 2 ^ 16)

/-- OPEN with its CODE (R427). -/
def execOpen (src : Src) (code : Fin (2 ^ 16)) (s : State) : Out := s.runWrite src 0xE002 0 4 (0x02 + code.val * 2 ^ 16)

/-- LOG_ERASE with its CODE (R429). -/
def execLogErase (src : Src) (code : Fin (2 ^ 16)) (s : State) : Out := s.runWrite src 0xE002 0 4 (0x04 + code.val * 2 ^ 16)

/-- CFGKEY_WRITE: KEY and KEY_ID (R425). -/
def execCfgkeyWrite (src : Src) (key : Fin (2 ^ 512)) (keyId : Fin (2 ^ 32)) (s : State) : Out :=
  s.runWrite src 0xE001 0 68 (key.val + keyId.val * 2 ^ 512)

/-- HALT of a lane pair; BREAK_EN as written beside it (R430). -/
def execHalt (src : Src) (l : Fin 16) (brk : Bool) (s : State) : Out := s.runWrite src 0xE004 0 1 (l.val + 0x10 + brk.toNat * 2 ^ 7)

/-- STEP of a halted lane pair (R430). -/
def execStep (src : Src) (l : Fin 16) (brk : Bool) (s : State) : Out := s.runWrite src 0xE004 0 1 (l.val + 0x20 + brk.toNat * 2 ^ 7)

/-- DEBUG_RESUME of a halted lane pair (R430). -/
def execDebugResume (src : Src) (l : Fin 16) (brk : Bool) (s : State) : Out :=
  s.runWrite src 0xE004 0 1 (l.val + 0x40 + brk.toNat * 2 ^ 7)

/-- PARAM of an access to SEC.LANEMEM: the space, its first word, the copy. -/
def laneMemParam (space : Fin 4) (first : Fin 16384) (lee : Bool) : Nat := space.val + first.val * 2 ^ 2 + lee.toNat * 2 ^ 16

/-- LANEMEM_READ (R431). -/
def execLanememRead (src : Src) (space : Fin 4) (first : Fin 16384) (lee : Bool) (off len : Fin 4097) (hostAddr : Fin (2 ^ 64))
    (s : State) : Out :=
  outOf (s.runDesc src { srcDesc src 0x03 0xE005 with
    param := laneMemParam space first lee, offset := off.val, length := len.val, hostAddr := hostAddr.val } 0 0)

/-- LANEMEM_WRITE (R431). -/
def execLanememWrite (src : Src) (space : Fin 4) (first : Fin 16384) (off len : Fin 4097) (data : Nat) (s : State) : Out :=
  outOf (s.runDesc src (wrDesc src 0xE005 off.val len.val data (laneMemParam space first false)) data 0)

end Sys2Proof.Machine
end

