-- ==== Sys2Proof/Machine/SerialRows.lean ====
section
/-!
DEFINITION. The end of a serial frame, which also ends the reset of its channel (09_feedback_and_current_sensing, R283 to R288).
-/

namespace Sys2Proof.Machine

/-- The frame that a reset of the channel started has ended: its fence falls (R288). -/
def State.frameEnds (s : State) (n : Nat) : State := if s.fenced (.fb n) then s.lowerFence (.fb n) true 0 else s

/-- SERIAL_FRAME_COMPLETE: the frame in progress completes. `head` is the level of A at the first falling edge (SSI) or ACK
(Karsel), `delay` the Karsel turnaround in ticks, 0 where A does not read 0 at the end of the request, and `bits` the bits that follow
(R283, R284, R286). -/
def execSerialFrameComplete (n : Fin 32) (head : Bool) (delay : Fin 65536) (bits : Nat) (s : State) : Out :=
  match (s.fbs n.val).frame with
  | none => .next s
  | some f =>
    if s.fbMode n.val = 3 then
      let r := s.readSsi n.val head bits
      if s.serJump n.val f (max s.now (s.lastSample n.val f 0 0 + 8)) r then .fault .serialJump
      else .next ((s.frameComplete n.val f 0 0 r).frameEnds n.val)
    else if s.fbMode n.val = 4 then
      if s.fld F.FB_SERIAL_TIMEOUT n.val * s.serT n.val < delay.val then .next s
      else if delay.val = 0 then .next ((s.frameHigh n.val f).frameEnds n.val)
      else
        let r := s.readKarsel n.val f.cmd head bits
        let l := 2 + s.karselPayload n.val f.cmd head + 16
        if s.serJump n.val f (max s.now (s.lastSample n.val f delay.val l + 8)) r then .fault .serialJump
        else .next ((s.frameComplete n.val f delay.val l r).frameEnds n.val)
    else .next s

/-- KARSEL_TIMEOUT: no start bit within TIMEOUT × T of the request's end (R286). -/
def execKarselTimeout (n : Fin 32) (s : State) : Out :=
  match (s.fbs n.val).frame with
  | none => .next s
  | some f => if s.fbMode n.val = 4 then .next ((s.frameTimeout n.val f).frameEnds n.val) else .next s

end Sys2Proof.Machine
end

