-- ==== Sys2Proof/Machine/Dispatch.lean ====
section
/-!
DEFINITION. The meaning of each command, one arm for each constructor of Instr.
-/

namespace Sys2Proof.Machine

/-- What a command does to everything but the queue. -/
def exec (i : Instr) (s : State) : Host.Outcome State Fault Refusal :=
  match i with
  | .resetNLow => Sys2Proof.Machine.execResetNLow s
  | .resetNRise lowNs selfTest readA readB lands => Sys2Proof.Machine.execResetNRise lowNs selfTest readA readB lands s
  | .dramInitDone lands => Sys2Proof.Machine.execDramInitDone lands s
  | .pcieLinkUp speed w => Sys2Proof.Machine.execPcieLinkUp speed w s
  | .pePerstN b0 b1 => Sys2Proof.Machine.execPePerstN b0 b1 s
  | .functionLevelReset b0 b1 => Sys2Proof.Machine.execFunctionLevelReset b0 b1 s
  | .refClkLoss => Sys2Proof.Machine.execRefClkLoss s
  | .timeBaseStop => Sys2Proof.Machine.execTimeBaseStop s
  | .supplyBelowRange => Sys2Proof.Machine.execSupplyBelowRange s
  | .hifMtimeLoRead => Sys2Proof.Machine.execHifMtimeLoRead s
  | .crDoorbell n index phase => Sys2Proof.Machine.execCrDoorbell n index phase s
  | .cqDoorbell m index phase => Sys2Proof.Machine.execCqDoorbell m index phase s
  | .eqDoorbell index phase => Sys2Proof.Machine.execEqDoorbell index phase s
  | .bqDoorbell b index phase => Sys2Proof.Machine.execBqDoorbell b index phase s
  | .ringEnable r v => Sys2Proof.Machine.execRingEnable r v s
  | .ringDisable r v => Sys2Proof.Machine.execRingDisable r v s
  | .rearm r index phase go => Sys2Proof.Machine.execRearm r index phase go s
  | .registerWrite sp o size v => Sys2Proof.Machine.execRegisterWrite sp o size v s
  | .descriptorFetch r d => Sys2Proof.Machine.execDescriptorFetch r d s
  | .descriptorValidated r host descErr dataErr => Sys2Proof.Machine.execDescriptorValidated r host descErr dataErr s
  | .configureApply r lands => Sys2Proof.Machine.execConfigureApply r lands s
  | .msixModTimer m => Sys2Proof.Machine.execMsixModTimer m s
  | .msixHeldMessage v => Sys2Proof.Machine.execMsixHeldMessage v s
  | .nop src => Sys2Proof.Machine.execNop src s
  | .objWrite src id off len data lands => Sys2Proof.Machine.execObjWrite src id off len data lands s
  | .objRead src id off len hostAddr => Sys2Proof.Machine.execObjRead src id off len hostAddr s
  | .abort src ring index phase => Sys2Proof.Machine.execAbort src ring index phase s
  | .swap src => Sys2Proof.Machine.execSwap src s
  | .faultAck src source allInst all => Sys2Proof.Machine.execFaultAck src source allInst all s
  | .movePos src a target speed mode => Sys2Proof.Machine.execMovePos src a target speed mode s
  | .moveVel src a speed => Sys2Proof.Machine.execMoveVel src a speed s
  | .stop src a => Sys2Proof.Machine.execStop src a s
  | .quickStop src a => Sys2Proof.Machine.execQuickStop src a s
  | .resume src a => Sys2Proof.Machine.execResume src a s
  | .gearEngage src a num den ramp startEn startDir startPos => Sys2Proof.Machine.execGearEngage src a num den ramp startEn startDir startPos s
  | .camEngage src a profile ymode xmode offset xOrg blend => Sys2Proof.Machine.execCamEngage src a profile ymode xmode offset xOrg blend s
  | .disengage src a stop => Sys2Proof.Machine.execDisengage src a stop s
  | .caravanSeg src g len data => Sys2Proof.Machine.execCaravanSeg src g len data s
  | .latchArm src n => Sys2Proof.Machine.execLatchArm src n s
  | .compareArm src u pos step count dir => Sys2Proof.Machine.execCompareArm src u pos step count dir s
  | .canTx src c len data => Sys2Proof.Machine.execCanTx src c len data s
  | .surveyFreeze src noCopy => Sys2Proof.Machine.execSurveyFreeze src noCopy s
  | .attest src nonce hostAddr => Sys2Proof.Machine.execAttest src nonce hostAddr s
  | .imageWrite src slot block len last data => Sys2Proof.Machine.execImageWrite src slot block len last data s
  | .tableWrite src upload first len last data => Sys2Proof.Machine.execTableWrite src upload first len last data s
  | .surveyRead src block len hostAddr => Sys2Proof.Machine.execSurveyRead src block len hostAddr s
  | .logRead src first len hostAddr => Sys2Proof.Machine.execLogRead src first len hostAddr s
  | .modeRequest src mode => Sys2Proof.Machine.execModeRequest src mode s
  | .resetFbChannel src n => Sys2Proof.Machine.execResetFbChannel src n s
  | .resetPwmGroup src g => Sys2Proof.Machine.execResetPwmGroup src g s
  | .resetCanChannel src c => Sys2Proof.Machine.execResetCanChannel src c s
  | .resetEthPort src p => Sys2Proof.Machine.execResetEthPort src p s
  | .resetLanePair src u l => Sys2Proof.Machine.execResetLanePair src u l s
  | .resetUnit src u pending => Sys2Proof.Machine.execResetUnit src u pending s
  | .resetModule src selfTest readA readB lands => Sys2Proof.Machine.execResetModule src selfTest readA readB lands s
  | .fenceLowered b readOk lands => Sys2Proof.Machine.execFenceLowered b readOk lands s
  | .slackClr src e => Sys2Proof.Machine.execSlackClr src e s
  | .bankSwap src => Sys2Proof.Machine.execBankSwap src s
  | .coefWrite src bankB first words => Sys2Proof.Machine.execCoefWrite src bankB first words s
  | .laneClr src e => Sys2Proof.Machine.execLaneClr src e s
  | .pwmEn src g en => Sys2Proof.Machine.execPwmEn src g en s
  | .tripClr src g en => Sys2Proof.Machine.execTripClr src g en s
  | .pwmCntClr src g en => Sys2Proof.Machine.execPwmCntClr src g en s
  | .pwmAuxWrite src g v => Sys2Proof.Machine.execPwmAuxWrite src g v s
  | .tripinWrite src actHigh filter lands => Sys2Proof.Machine.execTripinWrite src actHigh filter lands s
  | .fbCfgWrite src n serial v a b z => Sys2Proof.Machine.execFbCfgWrite src n serial v a b z s
  | .preset src n cmd arg val => Sys2Proof.Machine.execPreset src n cmd arg val s
  | .armHome src n cmd => Sys2Proof.Machine.execArmHome src n cmd s
  | .fbCntClr src n cmd => Sys2Proof.Machine.execFbCntClr src n cmd s
  | .serGo src n cmd arg => Sys2Proof.Machine.execSerGo src n cmd arg s
  | .emuCfgWrite src e v => Sys2Proof.Machine.execEmuCfgWrite src e v s
  | .csStatusClr src n => Sys2Proof.Machine.execCsStatusClr src n s
  | .timeStatusClr src => Sys2Proof.Machine.execTimeStatusClr src s
  | .ethStatusClr src p => Sys2Proof.Machine.execEthStatusClr src p s
  | .cycRxClr src r => Sys2Proof.Machine.execCycRxClr src r s
  | .canStatusClr src c => Sys2Proof.Machine.execCanStatusClr src c s
  | .fioStatusClr src => Sys2Proof.Machine.execFioStatusClr src s
  | .survClr src => Sys2Proof.Machine.execSurvClr src s
  | .takeoversClr src => Sys2Proof.Machine.execTakeoversClr src s
  | .canRxqRelease src c cons phase => Sys2Proof.Machine.execCanRxqRelease src c cons phase s
  | .camCommit src first count => Sys2Proof.Machine.execCamCommit src first count s
  | .migrate src l => Sys2Proof.Machine.execMigrate src l s
  | .unretire src u l => Sys2Proof.Machine.execUnretire src u l s
  | .force src k inst on => Sys2Proof.Machine.execForce src k inst on s
  | .firstClr src hi => Sys2Proof.Machine.execFirstClr src hi s
  | .fioDiCfgWrite src n deb pulsed inv => Sys2Proof.Machine.execFioDiCfgWrite src n deb pulsed inv s
  | .unfreeze src => Sys2Proof.Machine.execUnfreeze src s
  | .exportSetup src kind sign epoch first last => Sys2Proof.Machine.execExportSetup src kind sign epoch first last s
  | .replayLoad src upload epoch first last => Sys2Proof.Machine.execReplayLoad src upload epoch first last s
  | .genId src code => Sys2Proof.Machine.execGenId src code s
  | .keyGenDone => Sys2Proof.Machine.execKeyGenDone s
  | .open_ src code => Sys2Proof.Machine.execOpen src code s
  | .eraseDone => Sys2Proof.Machine.execEraseDone s
  | .logErase src code => Sys2Proof.Machine.execLogErase src code s
  | .cfgkeyWrite src key keyId => Sys2Proof.Machine.execCfgkeyWrite src key keyId s
  | .halt src l brk => Sys2Proof.Machine.execHalt src l brk s
  | .step src l brk => Sys2Proof.Machine.execStep src l brk s
  | .debugResume src l brk => Sys2Proof.Machine.execDebugResume src l brk s
  | .lanememRead src space first lee off len hostAddr => Sys2Proof.Machine.execLanememRead src space first lee off len hostAddr s
  | .lanememWrite src space first off len data => Sys2Proof.Machine.execLanememWrite src space first off len data s
  | .boundary bits reach => Sys2Proof.Machine.execBoundary bits reach s
  | .deadline => Sys2Proof.Machine.execDeadline s
  | .midPeriodTransfer => Sys2Proof.Machine.execMidPeriodTransfer s
  | .measurementInstant => Sys2Proof.Machine.execMeasurementInstant s
  | .outputWord u l => Sys2Proof.Machine.execOutputWord u l s
  | .deltaWord u l => Sys2Proof.Machine.execDeltaWord u l s
  | .endMarker u l => Sys2Proof.Machine.execEndMarker u l s
  | .cairnSeal => Sys2Proof.Machine.execCairnSeal s
  | .bbCopyDone => Sys2Proof.Machine.execBbCopyDone s
  | .mirrorApply => Sys2Proof.Machine.execMirrorApply s
  | .fullCairnRead pos => Sys2Proof.Machine.execFullCairnRead pos s
  | .restorationDone => Sys2Proof.Machine.execRestorationDone s
  | .evalWindowEnd => Sys2Proof.Machine.execEvalWindowEnd s
  | .dramScrub rows => Sys2Proof.Machine.execDramScrub rows s
  | .faultEvent e => Sys2Proof.Machine.execFaultEvent e s
  | .aliveToggle => Sys2Proof.Machine.execAliveToggle s
  | .tripInput n => Sys2Proof.Machine.execTripInput n s
  | .tripAfterBlanking g n => Sys2Proof.Machine.execTripAfterBlanking g n s
  | .overcurrentComparator n line => Sys2Proof.Machine.execOvercurrentComparator n line s
  | .triggerFire g b => Sys2Proof.Machine.execTriggerFire g b s
  | .pwmEdge g l => Sys2Proof.Machine.execPwmEdge g l s
  | .deadTimeExpiry g k => Sys2Proof.Machine.execDeadTimeExpiry g k s
  | .minPulseExpiry g k => Sys2Proof.Machine.execMinPulseExpiry g k s
  | .quadChange n a b => Sys2Proof.Machine.execQuadChange n a b s
  | .comparePulseEnd u => Sys2Proof.Machine.execComparePulseEnd u s
  | .hallChange n a b z => Sys2Proof.Machine.execHallChange n a b z s
  | .indexEdge n => Sys2Proof.Machine.execIndexEdge n s
  | .serialFrameStart n => Sys2Proof.Machine.execSerialFrameStart n s
  | .serialFrameComplete n head delay bits => Sys2Proof.Machine.execSerialFrameComplete n head delay bits s
  | .karselTimeout n => Sys2Proof.Machine.execKarselTimeout n s
  | .emuStep e => Sys2Proof.Machine.execEmuStep e s
  | .sdStuck n line => Sys2Proof.Machine.execSdStuck n line s
  | .latchEdge n rising => Sys2Proof.Machine.execLatchEdge n rising s
  | .syncReceived p m => Sys2Proof.Machine.execSyncReceived p m s
  | .ptpMessageRx p mtype domain seqId src req body sub => Sys2Proof.Machine.execPtpMessageRx p mtype domain seqId src req body sub s
  | .ptpMessageTx p mtype seqId => Sys2Proof.Machine.execPtpMessageTx p mtype seqId s
  | .announceReceiptTimeout p u v w => Sys2Proof.Machine.execAnnounceReceiptTimeout p u v w s
  | .txTimestamp p mtype seqId => Sys2Proof.Machine.execTxTimestamp p mtype seqId s
  | .ethLinkChange p up speed => Sys2Proof.Machine.execEthLinkChange p up speed s
  | .ethFrameRx p fcs => Sys2Proof.Machine.execEthFrameRx p fcs s
  | .cycFrameSend t => Sys2Proof.Machine.execCycFrameSend t s
  | .cycFrameRx p fcs version subtype rest => Sys2Proof.Machine.execCycFrameRx p fcs version subtype rest s
  | .canStartOfFrame c => Sys2Proof.Machine.execCanStartOfFrame c s
  | .canFrameEnd c ok err tec recErr => Sys2Proof.Machine.execCanFrameEnd c ok err tec recErr s
  | .canFrameRx c f dur recErr => Sys2Proof.Machine.execCanFrameRx c f dur recErr s
  | .canBusOff c => Sys2Proof.Machine.execCanBusOff c s
  | .isoDownFrame => Sys2Proof.Machine.execIsoDownFrame s
  | .isoUpFrame e0 e1 di rb limit supply => Sys2Proof.Machine.execIsoUpFrame e0 e1 di rb limit supply s
  | .isoUpSlotTimeout => Sys2Proof.Machine.execIsoUpSlotTimeout s
  | .islandDownFrame e0 e1 => Sys2Proof.Machine.execIslandDownFrame e0 e1 s
  | .islandSlotTimeout => Sys2Proof.Machine.execIslandSlotTimeout s
  | .islandSwitch c => Sys2Proof.Machine.execIslandSwitch c s
  | .doShutdown c => Sys2Proof.Machine.execDoShutdown c s
  | .doRetry c => Sys2Proof.Machine.execDoRetry c s
  | .fieldSupplyLoss => Sys2Proof.Machine.execFieldSupplyLoss s
  | .laneNop c f => Sys2Proof.Machine.execLaneNop c f s
  | .prod c f => Sys2Proof.Machine.execProd c f s
  | .padd c f => Sys2Proof.Machine.execPadd c f s
  | .psub c f => Sys2Proof.Machine.execPsub c f s
  | .prnd c f => Sys2Proof.Machine.execPrnd c f s
  | .addd c f => Sys2Proof.Machine.execAddd c f s
  | .subd c f => Sys2Proof.Machine.execSubd c f s
  | .adda c f => Sys2Proof.Machine.execAdda c f s
  | .suba c f => Sys2Proof.Machine.execSuba c f s
  | .copy c f => Sys2Proof.Machine.execCopy c f s
  | .widen c f => Sys2Proof.Machine.execWiden c f s
  | .neg c f => Sys2Proof.Machine.execNeg c f s
  | .abs c f => Sys2Proof.Machine.execAbs c f s
  | .zero c f => Sys2Proof.Machine.execZero c f s
  | .max c f => Sys2Proof.Machine.execMax c f s
  | .min c f => Sys2Proof.Machine.execMin c f s
  | .round c f => Sys2Proof.Machine.execRound c f s
  | .clip c f => Sys2Proof.Machine.execClip c f s
  | .cmp c f => Sys2Proof.Machine.execCmp c f s
  | .tst c f => Sys2Proof.Machine.execTst c f s
  | .and c f => Sys2Proof.Machine.execAnd c f s
  | .or c f => Sys2Proof.Machine.execOr c f s
  | .xor c f => Sys2Proof.Machine.execXor c f s
  | .quot c f => Sys2Proof.Machine.execQuot c f s
  | .root c f => Sys2Proof.Machine.execRoot c f s
  | .trig c f => Sys2Proof.Machine.execTrig c f s
  | .padr c f => Sys2Proof.Machine.execPadr c f s
  | .pack c f => Sys2Proof.Machine.execPack c f s
  | .high c f => Sys2Proof.Machine.execHigh c f s
  | .end_ c => Sys2Proof.Machine.execEnd c s
  | .ldi c cls reg imm => Sys2Proof.Machine.execLdi c cls reg imm s
  | .shl c acc n => Sys2Proof.Machine.execShl c acc n s
  | .shr c acc n => Sys2Proof.Machine.execShr c acc n s
  | .bra c cond target => Sys2Proof.Machine.execBra c cond target s
  | .call c cond target => Sys2Proof.Machine.execCall c cond target s
  | .ret c cond => Sys2Proof.Machine.execRet c cond s
  | .loop c count last => Sys2Proof.Machine.execLoop c count last s
  | .post c r port => Sys2Proof.Machine.execPost c r port s
  | .lst c acc ptr y delta => Sys2Proof.Machine.execLst c acc ptr y delta s
  | .lld c acc ptr y => Sys2Proof.Machine.execLld c acc ptr y s
  | .xfr c toD dreg ptr => Sys2Proof.Machine.execXfr c toD dreg ptr s
  | .addp c ptr offset => Sys2Proof.Machine.execAddp c ptr offset s
  | .pcieLinkDown => Sys2Proof.Machine.execPcieLinkDown s
  | .pePerstNRelease => Sys2Proof.Machine.execPePerstNRelease s
  | .busMasterEnable => Sys2Proof.Machine.execBusMasterEnable s
  | .fieldSupplyReturn => Sys2Proof.Machine.execFieldSupplyReturn s
  | .tripInputInactive n => Sys2Proof.Machine.execTripInputInactive n s
  | .comparatorInactive n line => Sys2Proof.Machine.execComparatorInactive n line s
  | .sdStuckEnd n => Sys2Proof.Machine.execSdStuckEnd n s
  | .canBusIntegration c => Sys2Proof.Machine.execCanBusIntegration c s
  | .bulkTransferDone b => Sys2Proof.Machine.execBulkTransferDone b s
  | .vcoreSag u => Sys2Proof.Machine.execVcoreSag u s
  | .svcTckEdge level tms tdi trstN lands => Sys2Proof.Machine.execSvcTckEdge level tms tdi trstN lands s

end Sys2Proof.Machine
end

