-- ==== Sys2Proof/Safety.lean ====
section
/-!
DEFINITION. What a safe run is, and the forms of the state that statements use.
-/

namespace Sys2Proof.Machine

/-- A run of `n` steps that no fault and no refusal ends. -/
def SafeFor : Nat → State → Prop
  | 0, _ => True
  | n + 1, s => ∃ t, step s = .next t ∧ SafeFor n t

/-- The sparse maps of the state list strictly rising keys and no default. -/
def State.canonical (s : State) : Bool :=
  SMap.wf 0 s.objs && SMap.wf {} s.groups && SMap.wf {} s.lanes && SMap.wf {} s.fb && SMap.wf {} s.emu && SMap.wf {} s.sd
    && SMap.wf {} s.latchUnits && SMap.wf {} s.cmpUnits

/-- The fractions of the clocks lie below one unit: motion time below one tick, PTP time below 2^-16 ns (R303, R307). -/
def TimeSt.fractionsOk (t : TimeSt) : Bool := decide (t.mtFrac < 2 ^ 32) && decide (t.ptpAcc < rateUnit)

/-- Module reset as the pins show it (R45): no land driven, no link up, ALIVE low. -/
def State.inModuleReset (s : State) : Bool := s.boot.resetLow && !s.time.running && !s.host.linkUp && !s.flt.alive && !s.per.running

/-! ### Lane instructions -/

/-- The copy and the instruction a lane command carries. -/
def laneOpOf : Instr → Option (CopyId × LaneOp)
  | .laneNop c f => some (c, .fmtA .nop f)
  | .prod c f => some (c, .fmtA .prod f)
  | .padd c f => some (c, .fmtA .padd f)
  | .psub c f => some (c, .fmtA .psub f)
  | .prnd c f => some (c, .fmtA .prnd f)
  | .addd c f => some (c, .fmtA .addd f)
  | .subd c f => some (c, .fmtA .subd f)
  | .adda c f => some (c, .fmtA .adda f)
  | .suba c f => some (c, .fmtA .suba f)
  | .copy c f => some (c, .fmtA .copy f)
  | .widen c f => some (c, .fmtA .widen f)
  | .neg c f => some (c, .fmtA .neg f)
  | .abs c f => some (c, .fmtA .abs f)
  | .zero c f => some (c, .fmtA .zero f)
  | .max c f => some (c, .fmtA .max f)
  | .min c f => some (c, .fmtA .min f)
  | .round c f => some (c, .fmtA .round f)
  | .clip c f => some (c, .fmtA .clip f)
  | .cmp c f => some (c, .fmtA .cmp f)
  | .tst c f => some (c, .fmtA .tst f)
  | .and c f => some (c, .fmtA .and f)
  | .or c f => some (c, .fmtA .or f)
  | .xor c f => some (c, .fmtA .xor f)
  | .quot c f => some (c, .fmtA .quot f)
  | .root c f => some (c, .fmtA .root f)
  | .trig c f => some (c, .fmtA .trig f)
  | .padr c f => some (c, .fmtA .padr f)
  | .pack c f => some (c, .fmtA .pack f)
  | .high c f => some (c, .fmtA .high f)
  | .end_ c => some (c, .end_)
  | .ldi c k r v => some (c, .ldi k r v)
  | .shl c a n => some (c, .shl a n)
  | .shr c a n => some (c, .shr a n)
  | .bra c k t => some (c, .bra k t)
  | .call c k t => some (c, .call k t)
  | .ret c k => some (c, .ret k)
  | .loop c (.inl n) e => some (c, .loop (.inl n) e)
  | .loop c (.inr r) e => some (c, .loop (.inr r) e)
  | .post c r p => some (c, .post r p)
  | .lst c a p y d => some (c, .lst a p y d)
  | .lld c a p y => some (c, .lld a p y)
  | .xfr c t d p => some (c, .xfr t d p)
  | .addp c p o => some (c, .addp p o)
  | _ => none

/-- The copy runs a task, no breakpoint stands before the instruction, and the instruction is a defined use (R130, R140, R430). -/
def State.retires (s : State) (c : CopyId) (op : LaneOp) : Bool :=
  s.copyRuns c && !s.atBreak c && ((s.lane c.unit c.lane c.copy).fault (s.pairBank c.unit c.lane) op).isNone

/-- A move that loads accumulator `n`. -/
def loadsAcc (m : Move) (n : Fin 8) : Bool :=
  match m with
  | .load (.a k) _ _ | .coef (.a k) _ _ => k == n
  | _ => false

/-! ### Descriptors at their application -/

/-- The state after the hub has fetched and validated a descriptor (R75, R81). -/
def State.joined (s : State) (r : Nat) (d : Desc) (host : Nat := 0) : State :=
  match s.join r d host with
  | .ok t => t
  | .error _ => s

/-- A command of ring `r` finds nothing before it: in a mode in which periods run, the application step is open, has room, and has no
command of a ring of lower index to take; in CONFIGURE, commands are applied (R89, R91). -/
def State.stepAt (s : State) (r : Nat) : Bool :=
  if s.per.running then
    s.per.step.any fun o => decide (o.ring ≤ r ∧ o.entries.length < 32) &&
      (List.range' o.ring (r - o.ring)).all fun q => (s.dueChain q s.per.t0).isNone
  else s.applying

/-- A descriptor of a command ring stands at HEAD of its ring, behind none that is unapplied, no other is held from its place, it passes the checks of R81, was not withdrawn,
and reaches its application when the hub has fetched it (R75, R89, R91, R97). -/
def State.atApplication (s : State) (src : Src) (d : Desc) (host : Nat := 0) : Bool :=
  let r := src.ring.val
  let ref := s.refAt r src.index.val src.phase
  let t := s.joined r d host
  s.atHead r src.index.val src.phase && (s.waiting r).isEmpty && s.host.early.all (fun e => e.1 != ref) && t.awaits ref
    && !s.host.cmds.any (·.is ref) && (t.waiting r).all t.roomFor && !d.chain && !d.applyAtEn && !s.boot.resetLow && t.stepAt r

/-- The state in which the descriptor takes its effect: the hub holds it, applied at the running boundary or at this instant, and the
ring shows it applied (R71, R84). -/
def State.begun (s : State) (src : Src) (d : Desc) (host : Nat := 0) : State :=
  let r := src.ring.val
  let ref := s.refAt r src.index.val src.phase
  let t := if s.per.running then (s.joined r d host).atRing r else s.joined r d host
  (t.mapCmd ref fun x => { x with stage := .applied, appliedAt := if s.per.running then s.per.t0 else s.now
                                  appliedSeq := if s.per.running then s.per.seq else 0 }).noteApplied
    { ring := r, index := ref.2.1, phase := ref.2.2, desc := d }

/-- The reference of a descriptor of a source in this life of its ring. -/
def State.refOf (s : State) (src : Src) : CmdRef := s.refAt src.ring.val src.index.val src.phase

/-- A descriptor of bulk ring `b` stands at its turn and passes the checks of R81 (R83). -/
def State.atBulk (s : State) (b : Nat) (src : BulkSrc) (d : Desc) (host : Nat := 0) : Bool :=
  let ref := s.refAt (16 + b) src.index.val src.phase
  s.atHead (16 + b) src.index.val src.phase && (s.waiting (16 + b)).isEmpty && (s.joined (16 + b) d host).awaits ref

/-- Every entry of every object but those named reads as before. -/
def SameObjs (os : List Obj) (s t : State) : Prop :=
  ∀ (o : Obj) (i e : Nat), o ∉ os → i < 256 → e < 65536 → t.obj o i e = s.obj o i e

/-- Of everything but the objects named, `t` differs from `s` only by what a command-ring descriptor leaves beside its own effect: its
ring shows it fetched and applied, the hub holds it, and it joins those of the open application step (R71, R75, R84, R92). -/
def State.notedIn (s t : State) (os : List Obj) : Prop :=
  SameObjs (.hifRingApplied :: .hifRingState :: os) s t ∧
  t = { s with objs := t.objs, host := { s.host with cmds := t.host.cmds, reads := t.host.reads }
               per := { s.per with step := t.per.step } }

/-- The hub holds the descriptor of a source, ended with a status. -/
def State.endedWith (s : State) (src : Src) (status : Nat) : Prop :=
  ∃ c ∈ s.host.cmds, c.ring = src.ring.val ∧ c.index % 2 ^ 12 = src.index.val ∧ c.phase = src.phase ∧
    ∃ o, c.outcome = some o ∧ o.status = status

/-- The hub holds the descriptor of a source, whose action runs on. -/
def State.runsOn (s : State) (src : Src) : Prop :=
  ∃ c ∈ s.host.cmds, c.ring = src.ring.val ∧ c.index % 2 ^ 12 = src.index.val ∧ c.phase = src.phase ∧ c.stage = .applied ∧ c.outcome = none

/-- The hub's write of `len` bytes reached the host, or waits for Bus Master Enable (R69). -/
def State.wroteHost (s t : State) (addr len data : Nat) : Prop :=
  (s.host.busMaster = true ∧ ⟨addr, len, data⟩ ∈ t.host.writes) ∨ (s.host.busMaster = false ∧ ⟨addr, len, data⟩ ∈ t.host.heldWrites)

/-- Since `s` the hub has written the next completion of a ring's completion ring, with a status (R74, R84). -/
def State.wroteCompletion (s t : State) (r status : Nat) : Prop :=
  ∃ w ∈ t.host.writes.drop s.host.writes.length,
    w.addr = s.fld F.HIF_CQ_BASE_ADDR (s.ringCq r) + 32 * (s.tail (s.ringCq r)).1 ∧ w.len = 32 ∧ w.data % 2 ^ 8 = status

end Sys2Proof.Machine
end

