-- ==== Sys2Proof/WellFormed.lean ====
section
/-!
DEFINITION. Which commands and lane instructions are well formed: every operand that the type leaves unbounded fits the field
that carries it.
-/

namespace Sys2Proof

/-- A descriptor fits its 64 bytes (R77). -/
def Desc.wf (d : Desc) : Bool :=
  decide (d.opcode < 2 ^ 8) && decide (d.spare < 2 ^ 3) && decide (d.objId < 2 ^ 16) && decide (d.tag < 2 ^ 32) && decide (d.applyAt < 2 ^ 64)
    && decide (d.hostAddr < 2 ^ 64) && decide (d.offset < 2 ^ 16) && decide (d.length < 2 ^ 16) && decide (d.param < 2 ^ 32)
    && decide (d.inline < 2 ^ 256)

/-- The data set of an Announce fits its fields (IEEE 1588-2019). -/
def PtpClock.wf (c : PtpClock) : Bool :=
  decide (c.prio1 < 2 ^ 8) && decide (c.cls < 2 ^ 8) && decide (c.acc < 2 ^ 8) && decide (c.var < 2 ^ 16) && decide (c.prio2 < 2 ^ 8)
    && decide (c.id < 2 ^ 64) && decide (c.steps < 2 ^ 16)

/-- A PTP message fits its fields (IEEE 1588-2019). -/
def PtpMsg.wf (m : PtpMsg) : Bool :=
  decide (m.mtype < 2 ^ 4) && decide (m.domain < 2 ^ 8) && decide (m.seqId < 2 ^ 16) && decide (m.src < 2 ^ 80) && decide (m.req < 2 ^ 80)
    && decide (-(2 ^ 63) ≤ m.corr ∧ m.corr < 2 ^ 63) && decide (m.time < 2 ^ 48 * 10 ^ 9) && m.clock.wf

/-- A cyclic frame fits its format (Table 10.4). -/
def CycFrame.wf (f : CycFrame) : Bool :=
  decide (f.channel < 2 ^ 8) && decide (f.producer < 2 ^ 16) && decide (f.seq < 2 ^ 16) && decide (f.mark < 2 ^ 64)
    && decide (f.srcSeq < 2 ^ 32) && decide (f.words.length ≤ 48)

/-- A CAN frame fits its header, and its data their length (Table 10.5). -/
def CanFrame.wf (f : CanFrame) : Bool :=
  decide (f.id < 2 ^ 31) && decide (f.format < 3) && decide (f.flags < 2 ^ 4) && decide (f.len ≤ 2048)
    && decide (f.sdt < 2 ^ 8) && decide (f.vcid < 2 ^ 8) && decide (f.af < 2 ^ 32) && decide (f.data < 2 ^ (8 * f.len))

/-- The counts, addresses and ports of a lane instruction fit their fields (Tables 04.4 and 04.7). -/
def LaneOp.wf : LaneOp → Bool
  | .shl _ n | .shr _ n => decide (n < 2 ^ 6)
  | .bra _ t | .call _ t => decide (t < 2 ^ 13)
  | .loop (.inl n) e => decide (n < 2 ^ 16) && decide (e < 2 ^ 13)
  | .loop (.inr _) e => decide (e < 2 ^ 13)
  | .post _ p => decide (p < 2 ^ 16)
  | .addp _ o => decide (o < 2 ^ 14)
  | .fmtA .. | .end_ | .ldi .. | .ret _ | .lst .. | .lld .. | .xfr .. => true

/-- The bits disturbed in a copy of a frame lie within its 47 bytes (R393). -/
def linkCopy (e : Option (List (BitVec 8))) : Bool := e.all fun m => decide (m.length ≤ 47)

/-- The operands of a command fit the fields and the wires that carry them. -/
def Instr.wf : Instr → Bool
  | .descriptorFetch _ d => d.wf
  | .configureApply _ lands => decide (lands < 2 ^ 128)
  | .objWrite _ _ _ len data lands => decide (data < 2 ^ (8 * len.val)) && decide (lands < 2 ^ 128)
  | .canTx _ _ len data => decide (data < 2 ^ (8 * len.val))
  | .imageWrite _ _ _ len _ data | .tableWrite _ _ _ len _ data => decide (data < 2 ^ (8 * len.val))
  | .coefWrite _ _ _ ws => decide (1 ≤ ws.length ∧ ws.length ≤ 1024)
  | .lanememWrite _ _ _ _ len data => decide (data < 2 ^ (8 * len.val))
  | .isoUpFrame e0 e1 di _ _ _ => linkCopy e0 && linkCopy e1 && decide (di < 2 ^ 160)
  | .islandDownFrame e0 e1 => linkCopy e0 && linkCopy e1
  | .syncReceived _ m => m.msg.wf && m.msg.mtype == 0
  | .ptpMessageRx _ mtype domain seqId src req body _ =>
    PtpMsg.wf { toPtpBody := body, mtype := mtype, domain := domain, seqId := seqId, src := src, req := req } && mtype != 0
  | .canFrameRx _ f _ _ => f.wf
  | .cycFrameRx _ _ _ _ bs => decide (bs.length ≤ 1498)
  | .faultEvent (some e) => decide (e.kind < 2 ^ 9) && decide (e.inst < 2 ^ 7)
  | _ => true

end Sys2Proof
end

