-- ==== Sys2Proof/Certificates/Slice0/Obligations.lean ====
section
/-!
DEFINITION. The statements about the TV-32M that the provers settle, one for each entry of OBLIGATIONS.json.
-/

open Sys2Proof Sys2Proof.Machine

/-! ### Steps, time and reset -/

/-- A step runs the command at the front of the queue on the state with the queue's rest (R20: the block acts as it is commanded). -/
def Obligations.StepRunsFrontCommand : Prop :=
  ∀ (c : Instr) (rest : List Instr) (s : State), s.pending = c :: rest → step s = exec c { s with pending := rest }

/-- With no command waiting a step passes one oscillator cycle (the model's choice, log entry 1): the events on their way are
collected; motion time moves on by R303's advance while the time base runs, and stands while it does not.
With MT_SRC 0 motion time advances by exactly one tick a cycle; with MT_SRC 1 by r_ptp × (1 + c), to within one step of 2^-32
tick, where |c| never exceeds SLEW (R303, R310).
PTP time runs at r_ptp = 1 − f × 10^-9 exactly: its remainder below 2^-16 ns is carried, never dropped (R307). -/
def Obligations.TimeRunsAtItsRates : Prop :=
  (∀ s : State, s.pending = [] → ∃ t, step s = .next t ∧
     (s.drain.time.running = false → t = s.drain) ∧
     (s.drain.time.running = true →
       t = { s.drain with time := t.time } ∧ t.time.osc = s.drain.time.osc + 1 ∧
       t.time.mt * 2 ^ 32 + t.time.mtFrac = s.drain.time.mt * 2 ^ 32 + s.drain.time.mtFrac + s.drain.mtStep ∧
       t.time.mtFrac < 2 ^ 32 ∧ s.drain.now ≤ t.now)) ∧
  ((∀ s : State,
      (s.bit F.TIME_CFG_MT_SRC = false → s.mtStep = 2 ^ 32) ∧
      (s.bit F.TIME_CFG_MT_SRC = true →
        (s.mtCorr.1 * 10 ^ 6 ≤ s.slewPpm * s.mtCorr.2.1 ∧ -(s.slewPpm * s.mtCorr.2.1 : Int) ≤ s.mtCorr.1 * 10 ^ 6) ∧
        (s.time.freq ≤ rateUnit → 0 ≤ s.mtCorr.2.1 + s.mtCorr.1 →
          (s.mtStep : Int) * (rateUnit * s.mtCorr.2.1) ≤
            2 ^ 32 * (rateUnit - s.time.freq) * (s.mtCorr.2.1 + s.mtCorr.1) + rateUnit * s.mtCorr.2.1 ∧
          2 ^ 32 * (rateUnit - s.time.freq) * (s.mtCorr.2.1 + s.mtCorr.1) ≤
            ((s.mtStep : Int) + 1) * (rateUnit * s.mtCorr.2.1)))) ∧
   (∀ (t : TimeSt) (k : Nat), t.freq ≤ rateUnit →
      ((t.ptpRun k).ptp * rateUnit + (t.ptpRun k).ptpAcc : Int) =
        t.ptp * rateUnit + t.ptpAcc + 163840 * k * (rateUnit - t.freq) ∧
      (t.ptpRun k).ptpAcc < rateUnit ∧ (t.ptpRun k).osc = t.osc + k))

/-- The state after reset: module reset holds, no land is driven and nothing is latched; every object stands at the reset value of
its layout (R45, Table 02.7). Reset values the spec does not give are the model's (log entries 5 and 6) and not claimed here. -/
def Obligations.ResetLeavesLayoutValues : Prop :=
  State.reset.inModuleReset = true ∧ State.reset.pending = [] ∧ State.reset.msgs = [] ∧ State.reset.flt.latched = [] ∧
  State.reset.mode = .configure ∧
  ∀ (o : Obj) (f : Fld) (i e : Nat), f ∈ o.fields → o ≠ .fltSrc → State.reset.fld f i e = f.reset

/-! ### The Cybinth lanes -/

/-- Every lane instruction whose use is defined retires on its copy: the copy's registers, memories and program address become what
the instruction makes of them; no other copy changes; without a parity error and a full delta buffer, and but for END, nothing else of
the module changes at all, and in any case no group, feedback channel, latch, compare unit, island output, clock or host write. For END
the words of the standard axis program's run enter the copy's port first.
A copy that runs no task, or is halted or fenced, retires nothing, and a breakpoint stops the copy before the instruction
(R130, R341, R430).
The uses that R140 leaves undefined stop with their names: no lane instruction that makes one has a next state.
At END of a task of the standard axis program the words of the task's run enter the copy's port before the task ends (R130, R141);
an undefined use of the program stops with its name (R140). Completes: LANE_NOP, PROD, PADD, PSUB, PRND, ADDD, SUBD, ADDA, SUBA, COPY,
WIDEN, NEG, ABS, ZERO, MAX, MIN, ROUND, CLIP, CMP, TST, AND, OR, XOR, QUOT, ROOT, TRIG, PADR, PACK, HIGH, END, LDI, SHL, SHR, BRA, CALL,
RET, LOOP, POST, LST, LLD, XFR, ADDP. -/
def Obligations.LaneInstructionRetiresOrStops : Prop :=
  (∀ (i : Instr) (c : CopyId) (op : LaneOp) (s : State),
     laneOpOf i = some (c, op) → s.retires c op = true →
     (op ≠ .end_ ∨ s.stdTask c.unit ((s.lane c.unit c.lane c.copy).task.map TaskAlloc.kind |>.getD 0) = false) →
     ∃ t, exec i s = .next t ∧
       t.lane c.unit c.lane c.copy = (s.lane c.unit c.lane c.copy).run (s.pairBank c.unit c.lane) op ∧
       (∀ c' : CopyId, c' ≠ c → t.lane c'.unit c'.lane c'.copy = s.lane c'.unit c'.lane c'.copy) ∧
       ((s.lane c.unit c.lane c.copy).parityHits (s.pairBank c.unit c.lane) op = [] →
         (s.lane c.unit c.lane c.copy).overflowed op = false → op ≠ .end_ → t = { s with lanes := t.lanes }) ∧
       t.groups = s.groups ∧ t.fb = s.fb ∧ t.latchUnits = s.latchUnits ∧ t.cmpUnits = s.cmpUnits ∧ t.fio = s.fio ∧
       t.time = s.time ∧ t.host = s.host ∧ t.pending = s.pending) ∧
  ((∀ (i : Instr) (c : CopyId) (op : LaneOp) (s : State), laneOpOf i = some (c, op) →
      (s.copyRuns c = false → exec i s = .next s) ∧
      (s.copyRuns c = true → s.atBreak c = true → ∃ t, exec i s = .next t ∧ (t.lane s.activeUnit c.lane c.copy).halted = true)) ∧
   (∀ (i : Instr) (c : CopyId) (op : LaneOp) (s : State) (f : Fault),
      laneOpOf i = some (c, op) → s.copyRuns c = true → s.atBreak c = false →
      (s.lane c.unit c.lane c.copy).fault (s.pairBank c.unit c.lane) op = some f → exec i s = .fault f) ∧
   (∀ (c : CopyId) (s : State), s.retires c .end_ = true →
      (∀ ps s1, s.stdPosts c .end_ = .ok (ps, s1) → ∃ t, exec (.end_ c) s = .next t ∧
        t.lane c.unit c.lane c.copy =
          ({ s.lane c.unit c.lane c.copy with posts := (s.lane c.unit c.lane c.copy).posts ++ ps } : Lane).run
            (s.pairBank c.unit c.lane) .end_) ∧
      (∀ f, s.stdPosts c .end_ = .error f → exec (.end_ c) s = .fault f)))

/-- The exact integer each arithmetic operation of Format A forms from the registers before it (R106, R113, Table 04.6). -/
def arithmeticResult (op : AOp) (f : FmtA) (l : Lane) : Option Int :=
  let a := (l.acc f.dst).toInt
  let b := (l.acc f.s1).toInt
  let p := 2 * (l.dat f.s1).toInt * (l.dat f.s2).toInt
  let x := (l.dat f.s1).toInt * 2 ^ 24
  let half := fun (v : Int) => (v + 2 ^ 23) / 2 ^ 24 * 2 ^ 24
  match op with
  | .prod => some p
  | .padd => some (a + p)
  | .psub => some (a - p)
  | .prnd => some (half p)
  | .addd => some (a + x)
  | .subd => some (a - x)
  | .adda => some (a + b)
  | .suba => some (a - b)
  | .copy => some b
  | .widen => some x
  | .neg => some (-a)
  | .abs => some |a|
  | .zero => some 0
  | .max => some (max a b)
  | .min => some (min a b)
  | .round => some (half a)
  | .clip => some (max (-(2 ^ 47)) (min a (2 ^ 47 - 2 ^ 24)))
  | .padr => some (half (a + p))
  | _ => none

/-- The arithmetic operations write the exact integer, wrapped modulo 2^56, to a[DST] unless a move of the instruction loads that
register; N and Z and G follow the accumulator written, W tells whether the integer wrapped, and W leaves S set (R113, R115, R120). -/
def Obligations.FormatAArithmeticResult : Prop :=
  ∀ (op : AOp) (f : FmtA) (l : Lane) (bank : LaneMem) (v : Int), arithmeticResult op f l = some v →
    let t := l.run bank (.fmtA op f)
    (loadsAcc f.xm f.dst = false → loadsAcc f.ym f.dst = false → t.acc f.dst = BitVec.ofInt 56 v) ∧
    t.flagN = (BitVec.ofInt 56 v).msb ∧ t.flagZ = decide (BitVec.ofInt 56 v = 0) ∧
    t.flagG = decide ((BitVec.ofInt 56 v).toNat / 2 ^ 47 ≠ 0 ∧ (BitVec.ofInt 56 v).toNat / 2 ^ 47 ≠ 2 ^ 9 - 1) ∧
    t.flagW = decide (¬(-(2 ^ 55) ≤ v ∧ v < 2 ^ 55)) ∧ (t.flagW = true → t.flagS = true) ∧ (l.flagS = true → t.flagS = true)

/-- An arithmetic operation without moves leaves every other register, every memory, the call stack and the posts as they were; it
counts as one instruction retired (R112, R124). -/
def Obligations.FormatAFrame : Prop :=
  ∀ (op : AOp) (f : FmtA) (l : Lane) (bank : LaneMem) (v : Int), arithmeticResult op f l = some v → f.xm = .none → f.ym = .none →
    let t := l.run bank (.fmtA op f)
    (∀ n, n ≠ f.dst → t.acc n = l.acc n) ∧ t.d = l.d ∧ t.p = l.p ∧ t.q = l.q ∧ t.m = l.m ∧ t.x = l.x ∧ t.y = l.y ∧
    t.bankA = l.bankA ∧ t.bankB = l.bankB ∧ t.calls = l.calls ∧ t.posts = l.posts ∧ t.delta = l.delta ∧ t.task = l.task ∧
    t.retired = l.retired + 1

/-- QUOT, ROOT, TRIG, the logical operations, PACK, HIGH, CMP, TST and NOP, without moves (R113): the quotient is truncated on the
s.23 grid and limited; the root is the floor of the root of A / 2, 0 with S set for a negative A; a.u alone takes part in the logical
operations; PACK stores the store form and HIGH bits [47:24]; CMP and TST write flags only. -/
def Obligations.FormatAOtherResults : Prop :=
  ∀ (f : FmtA) (l : Lane) (bank : LaneMem), f.xm = .none → f.ym = .none →
    let r := fun op => l.run bank (.fmtA op f)
    let a := (l.acc f.dst).toInt
    let x := l.dat f.s1
    (x ≠ 0 → ((r .quot).acc f.dst).toInt = max (-(2 ^ 23)) (min (2 ^ 23 - 1) (a.tdiv (2 * x.toInt))) * 2 ^ 24) ∧
    (x = 0 → ((r .quot).acc f.dst).toInt = (if 0 ≤ a then 2 ^ 23 - 1 else -(2 ^ 23)) * 2 ^ 24 ∧ (r .quot).flagS = true) ∧
    (0 ≤ a → ∃ n : Nat, ((r .root).acc f.dst).toInt = n * 2 ^ 24 ∧ (n : Int) * n ≤ a / 2 ∧ a / 2 < (n + 1 : Int) * (n + 1)) ∧
    (a < 0 → (r .root).acc f.dst = 0 ∧ (r .root).flagS = true) ∧
    ((r .and).acc f.dst).extractLsb' 24 24 = (l.acc f.dst).extractLsb' 24 24 &&& x ∧
    ((r .or).acc f.dst).extractLsb' 24 24 = (l.acc f.dst).extractLsb' 24 24 ||| x ∧
    ((r .xor).acc f.dst).extractLsb' 24 24 = (l.acc f.dst).extractLsb' 24 24 ^^^ x ∧
    (∀ op ∈ [AOp.and, .or, .xor], ((r op).acc f.dst).extractLsb' 48 8 = (l.acc f.dst).extractLsb' 48 8 ∧
      ((r op).acc f.dst).extractLsb' 0 24 = (l.acc f.dst).extractLsb' 0 24 ∧ (r op).flagW = false) ∧
    (r .pack).dat f.s2 = (storeForm (l.acc f.s1)).1 ∧ ((storeForm (l.acc f.s1)).2 = true → (r .pack).flagS = true) ∧
    (r .high).dat f.s2 = (l.acc f.s1).extractLsb' 24 24 ∧
    (r .trig).acc f.dst = BitVec.ofInt 56 (sine24 x.toNat * 2 ^ 24) ∧
    (r .trig).acc (f.dst ^^^ 1) = BitVec.ofInt 56 (cosine24 x.toNat * 2 ^ 24) ∧
    (∀ op ∈ [AOp.cmp, .tst, .nop], (r op).a = l.a ∧ (r op).d = l.d) ∧
    (r .cmp).flagZ = decide (BitVec.ofInt 56 (a - (l.acc f.s1).toInt) = 0) ∧ (r .tst).flagZ = decide (l.acc f.dst = 0) ∧
    (r .nop).flagZ = l.flagZ

/-- A data word is widened exactly: the integer D × 2^24, the word in a.u, its sign in a.g, a.w 0; the product of two data words is
exact, and the product of −1 and −1 is +1, which fits in the guard byte (R106). -/
def Obligations.AlignmentOfOperands : Prop :=
  ∀ x y : Word24,
    ((ext x).toInt = x.toInt * 2 ^ 24 ∧ (ext x).extractLsb' 24 24 = x ∧ (ext x).extractLsb' 0 24 = 0 ∧
      (ext x).extractLsb' 48 8 = (if x.msb then BitVec.allOnes 8 else 0)) ∧
    (wrap56 (product x y)).toInt = 2 * x.toInt * y.toInt ∧
    (wrap56 (product 0x800000 0x800000)).toInt = 2 ^ 47

/-- The store form rounds half a step up to the nearest data-word step and saturates to the ends of s.23, setting S when it did; it is the
word stored to memory, posted, and transferred by PACK (R118). -/
def Obligations.StoreFormRoundsAndSaturates : Prop :=
  (∀ a : Word56,
     ((storeForm a).1.toInt = max (-(2 ^ 23)) (min (2 ^ 23 - 1) ((a.toInt + 2 ^ 23) / 2 ^ 24))) ∧
     ((storeForm a).2 = true ↔ (2 ^ 23 - 1 < (a.toInt + 2 ^ 23) / 2 ^ 24 ∨ (a.toInt + 2 ^ 23) / 2 ^ 24 < -(2 ^ 23)))) ∧
  (∀ (l : Lane) (bank : LaneMem) (n r p : Fin 8) (u : Upd) (dl : Bool) (port : Nat),
     let stX := l.run bank (.fmtA .nop ⟨0, 0, 0, .store (.a n) p u dl, .none⟩)
     let stY := l.run bank (.fmtA .nop ⟨0, 0, 0, .none, .store (.a n) p u dl⟩)
     let pk := l.run bank (.fmtA .pack ⟨0, n, r, .none, .none⟩)
     let po := l.run bank (.post (.a n) port)
     stX.word .x (l.ptr p).toNat = (storeForm (l.acc n)).1 ∧ stY.word .y (l.ptr p).toNat = (storeForm (l.acc n)).1 ∧
     pk.dat r = (storeForm (l.acc n)).1 ∧
     po.posts = l.posts ++ [.output (ownPort (l.task.map TaskAlloc.axis) port) (storeForm (l.acc n)).1] ∧
     ∀ t ∈ [stX, stY, pk, po], t.flagS = (l.flagS || (storeForm (l.acc n)).2) ∧ t.acc n = l.acc n)

/-- LST stores a.w, a.u and a.g, sign-extended, at the pointer and the two addresses after it, each the one before updated by +1, in order into the
delta buffer with D; LLD reads three words from the same addresses; both leave the pointer after the third. A long store followed by a long
load restores the accumulator, on either memory and in a ring of any length that keeps the three addresses apart (R119). -/
def Obligations.LongStoreThenLoadRestores : Prop :=
  ∀ (l : Lane) (bank : LaneMem) (n k p : Fin 8) (y dl : Bool),
    let mem : LaneMem := if y then .y else .x
    let at_ := fun i => (l.longAddr p i).toNat
    let w0 : Word24 := (l.acc n).extractLsb' 0 24
    let w1 : Word24 := (l.acc n).extractLsb' 24 24
    let w2 : Word24 := ((l.acc n).extractLsb' 48 8).signExtend 24
    let t := l.run bank (.lst n p y dl)
    let ld := l.run bank (.lld k p y)
    l.longAddr p 0 = l.ptr p ∧ (∀ i, l.longAddr p (i + 1) = ringNext (l.longAddr p i) (l.anchor p) (l.modi p) 1) ∧
    t.ptr p = l.longAddr p 3 ∧ ld.ptr p = l.longAddr p 3 ∧
    ld.acc k = ((l.word mem (at_ 2)).extractLsb' 0 8 ++ (l.word mem (at_ 1) ++ l.word mem (at_ 0) : BitVec 48) : BitVec 56) ∧
    (∀ m, t.acc m = l.acc m) ∧ t.d = l.d ∧ (if y then t.x = l.x else t.y = l.y) ∧
    (dl = false → t.delta = l.delta) ∧
    (dl = true → l.delta.length + 3 ≤ deltaCapacity → t.delta = l.delta ++ [⟨mem, at_ 0, w0⟩, ⟨mem, at_ 1, w1⟩, ⟨mem, at_ 2, w2⟩]) ∧
    ([0, 1, 2].Pairwise (fun i j => l.longAddr p i ≠ l.longAddr p j) →
      t.word mem (at_ 0) = w0 ∧ t.word mem (at_ 1) = w1 ∧ t.word mem (at_ 2) = w2 ∧
      (({ t with p := l.p }).run bank (.lld k p y)).acc k = l.acc n)

/-- SHL is exact modulo 2^56 and SHR arithmetic, SHL alone setting W (R115; that SHR leaves W is the model's reading, log entry 69); LDI, XFR and ADDP write the registers they name, a pointer always with its anchor
(R114, Table 04.7). -/
def Obligations.ShiftsAndRegisterMoves : Prop :=
  ∀ (l : Lane) (bank : LaneMem) (n k : Fin 8) (c : Nat) (v : Word24) (off : Fin 16384),
    (c ≤ 55 → (l.run bank (.shl n c)).acc n = l.acc n <<< c ∧ ((l.run bank (.shr n c)).acc n) = (l.acc n).sshiftRight c ∧
      (l.run bank (.shr n c)).flagW = l.flagW ∧ (l.run bank (.shr n c)).flagS = l.flagS ∧
      ((l.run bank (.shl n c)).flagW = true ↔ ((l.acc n <<< c).toInt ≠ (l.acc n).toInt * 2 ^ c))) ∧
    (l.run bank (.ldi .d n v)).dat n = v ∧ (l.run bank (.ldi .a n v)).acc n = ext v ∧ (l.run bank (.ldi .m n v)).modi n = v ∧
    (l.run bank (.ldi .p n v)).ptr n = v.extractLsb' 0 14 ∧ (l.run bank (.ldi .p n v)).anchor n = v.extractLsb' 0 14 ∧
    ((l.run bank (.xfr true n k)).dat n).toNat = (l.ptr k).toNat ∧ (l.run bank (.xfr false n k)).ptr k = (l.dat n).extractLsb' 0 14 ∧
    (l.run bank (.xfr false n k)).anchor k = (l.dat n).extractLsb' 0 14 ∧
    (l.run bank (.addp n off.val)).ptr n = l.ptr n + BitVec.ofNat 14 off.val ∧
    (l.run bank (.addp n off.val)).anchor n = l.ptr n + BitVec.ofNat 14 off.val

/-- Flow of control (R116, R122, R123): a branch, call or return whose condition holds goes to its target, a call pushing PC + 1 and
a return popping it; otherwise, and after every other instruction that ends no loop, the next instruction is the one at PC + 1; a LOOP
with count 0 skips its body.
The last instruction of a loop body goes back to its start while the count stays above 0, and on to PC + 1 when it ends (R123). -/
def Obligations.FlowOfControl : Prop :=
  (∀ (l : Lane) (bank : LaneMem) (c : Cond) (target last : Nat) (n : Nat) (f : FmtA) (op : AOp),
     (condHolds c l = true → (l.run bank (.bra c target)).pc = target ∧ (l.run bank (.call c target)).pc = target ∧
       (l.run bank (.call c target)).calls = (l.pc + 1) :: l.calls ∧
       (∀ r rs, l.calls = r :: rs → (l.run bank (.ret c)).pc = r ∧ (l.run bank (.ret c)).calls = rs)) ∧
     (l.loops.any (fun e => e.last == l.pc) = false →
       (l.run bank (.fmtA op f)).pc = l.pc + 1 ∧ (l.run bank (.fmtA op f)).loops = l.loops ∧
       (condHolds c l = false → (l.run bank (.bra c target)).pc = l.pc + 1 ∧ (l.run bank (.call c target)).pc = l.pc + 1 ∧
         (l.run bank (.call c target)).calls = l.calls ∧ (l.run bank (.ret c)).pc = l.pc + 1)) ∧
     (l.run bank (.loop (.inl 0) last)).pc = last + 1 ∧ (l.run bank (.loop (.inl 0) last)).loops = l.loops ∧
     (0 < n → (l.run bank (.loop (.inl n) last)).pc = l.pc + 1 ∧
       (l.run bank (.loop (.inl n) last)).loops = ⟨l.pc + 1, last, n, l.calls.length⟩ :: l.loops)) ∧
  (∀ (l : Lane) (bank : LaneMem) (f : FmtA) (op : AOp) (lp : LoopRec) (rest : List LoopRec),
     l.loops = lp :: rest → lp.last = l.pc →
     (1 < lp.left → (l.run bank (.fmtA op f)).pc = lp.start ∧
       (l.run bank (.fmtA op f)).loops = { lp with left := lp.left - 1 } :: rest) ∧
     (lp.left ≤ 1 → rest.any (fun e => e.last == l.pc) = false →
       (l.run bank (.fmtA op f)).pc = l.pc + 1 ∧ (l.run bank (.fmtA op f)).loops = rest))

/-- POST puts the register's store form into the copy's port; END of the last task of the period posts the delta words in order and
then the end marker with the instructions retired, the OR of the S flags and the number of delta words (R130, R132, R133). -/
def Obligations.PostAndEndFillThePort : Prop :=
  ∀ (l : Lane) (bank : LaneMem) (r : RegRef) (port : Nat),
    (l.run bank (.post r port)).posts = l.posts ++ [.output (ownPort (l.task.map TaskAlloc.axis) port) (l.stored r).1] ∧
    (l.rest = [] → (l.run bank .end_).posts =
        l.posts ++ l.delta.map Post.delta ++ [.endMark (l.retired + 1) (l.sOr || l.flagS) l.delta.length] ∧
      (l.run bank .end_).task = none ∧ (l.run bank .end_).delta = []) ∧
    (∀ t ts, l.rest = t :: ts → (l.run bank .end_).task = some t ∧ (l.run bank .end_).rest = ts ∧
      (l.run bank .end_).pc = t.entry ∧ (l.run bank .end_).posts = l.posts ∧ (l.run bank .end_).a = [])

/-- Decoding the word of any lane instruction whose fields fit gives the instruction back, for every operand the encoding admits
(Tables 04.4 and 04.7).
A word has bits below 2^48 only, and different instructions have different words (Tables 04.4 and 04.7). -/
def Obligations.DecodeEncodeLane : Prop :=
  (∀ op : LaneOp, op.wf = true → decodeLane (encodeLane op) = some op) ∧
  ((∀ op : LaneOp, op.wf = true → encodeLane op < 2 ^ 48) ∧
   ∀ op op' : LaneOp, op.wf = true → op'.wf = true → encodeLane op = encodeLane op' → op = op')

/-! ### Reset, supplies, clock and the test access port -/

/-- A RESET_N low pulse shorter than 1 µs is ignored; one of at least 1 µs and less than 10 µs is undefined, and stops by its name
(R448). Completes: RESET_N_RISE. -/
def Obligations.ResetPulseLengths : Prop :=
  ∀ (ns : Nat) (st ra rb : Bool) (lands : Fin (2 ^ 32)) (s : State),
    (ns < 1000 → exec (.resetNRise ns st ra rb lands) s = .next s) ∧
    (1000 ≤ ns → ns < 10000 → s.boot.resetLow = true → s.boot.stopped = false → exec (.resetNRise ns st ra rb lands) s = .fault .resetPulse)

/-- RESET_N_LOW puts the module in module reset: no land driven, no frames, ALIVE low, the link down, the command queue of the hub and
the collector empty; the MRAM's fault log, keys and what already left the module stay (R45, Tables 02.7 and 02.8).
RESET_N_RISE after a proper pulse ends module reset; the hub runs its self-test: a failure leaves the module at stage 0xF, and with
no valid image in either slot it comes to stage 0x8 with the time base running (R48, R49).
DRAM_INIT_DONE completes the boot: with stages 0x1 to 0x5 ended the module comes to stage 0x7 with its rings ready; before that only
the end of initialisation is kept (R48). A hub whose logic has stopped below a supply's range starts again only through RESET_N low (R55;
the model's reading, log entry 81). Completes: RESET_N_LOW, RESET_N_RISE, DRAM_INIT_DONE. -/
def Obligations.ModuleResetAndBoot : Prop :=
  (∀ s : State, s.boot.resetLow = false ∨ s.boot.stopped = true → ∃ t, exec .resetNLow s = .next t ∧
     t.inModuleReset = true ∧ t.boot.stopped = false ∧ t.host.cmds = [] ∧ t.msgs = [] ∧ t.flt.latched = [] ∧ t.groups = [] ∧ t.lanes = [] ∧ t.fb = [] ∧
     t.flt.log = s.flt.log ∧ t.sec.priv = s.sec.priv ∧ t.red.retiredA = s.red.retiredA ∧ t.red.retiredB = s.red.retiredB ∧
     t.host.writes = s.host.writes ∧ t.host.perst = s.host.perst ∧ t.tap = s.tap ∧ t.pending = s.pending ∧
     t.fld F.SYS_BOOT_CAUSE = 1 ∧ t.mode = .configure) ∧
  (∀ (ns : Nat) (st ra rb : Bool) (lands : Fin (2 ^ 32)) (s : State), s.boot.stopped = true →
     exec (.resetNRise ns st ra rb lands) s = .next s) ∧
  ((∀ (ns : Nat) (st ra rb : Bool) (lands : Fin (2 ^ 32)) (s : State), s.boot.resetLow = true → s.boot.stopped = false → 10000 ≤ ns →
      ∃ t, exec (.resetNRise ns st ra rb lands) s = .next t ∧ t.boot.resetLow = false ∧
        (st = false → t.fld F.SYS_BOOT_STAGE = 0xF ∧ t.bit F.HIF_STATUS_RINGS_READY = false) ∧
        (st = true → t.time.running = true ∧
          ((s.slot 0).state ≠ 1 → (s.slot 1).state ≠ 1 → t.fld F.SYS_BOOT_STAGE = 8 ∧ t.boot.running = s.boot.running))) ∧
   (∀ (lands : Fin (2 ^ 128)) (s : State), s.boot.resetLow = false → s.boot.dramReady = false →
      ∃ t, exec (.dramInitDone lands) s = .next t ∧
        (s.boot.waitDram = true → t.fld F.SYS_BOOT_STAGE = 7 ∧ t.bit F.HIF_STATUS_RINGS_READY = true) ∧
        (s.boot.waitDram = false → t = { s with boot := { s.boot with dramReady := true } })))

/-- Loss of REF_CLK raises HUB_CHECK at its tick and changes nothing else (R440); the time base then stops, and with every three-level and
ganged group at rest it does so at once, every other part of time as it was (R267); a sag of a unit's core supply loses that unit alone
(R52). A supply below its range changes nothing while RESET_N is low; with RESET_N high it is undefined until the hub logic stops, and stops by
its name; once the logic has stopped, the lands, the island and ALIVE are as in module reset (R55; that volatile state is lost and the
fault log kept is the model's reading, log entry 81).
Completes: REF_CLK_LOSS, TIME_BASE_STOP, VCORE_SAG, SUPPLY_BELOW_RANGE. -/
def Obligations.ClockAndSupplyEvents : Prop :=
  ∀ s : State,
    (s.time.running = true → s.time.refLost = false → ∃ t, exec .refClkLoss s = .next t ∧ t.time = { s.time with refLost := true } ∧
      t.msgs = s.msgs ++ [{ source := sourceNo K.HUB_CHECK 0, data := 0, dlen := 1, stamp := s.now }] ∧
      t = { s with time := t.time, msgs := t.msgs }) ∧
    (s.time.running = false ∨ s.time.refLost = true → exec .refClkLoss s = .next s) ∧
    (s.time.running = true → s.time.refLost = true → ∃ t, exec .timeBaseStop s = .next t ∧ t.time.running = false ∧
      t.time.stopping = false ∧
      (({ s with time := { s.time with stopping := true } } : State).refreshGroups.firstRest = none →
        t.time = { s.time with running := false, stopping := false })) ∧
    (s.time.running = false ∨ s.time.refLost = false → exec .timeBaseStop s = .next s) ∧
    (∀ u : Fin 2, (s.boot.resetLow = false → ∃ t, exec (.vcoreSag u) s = .next t ∧
      (if u = 0 then t.red.lostA else t.red.lostB) = true ∧ (if u = 0 then t.red.lostB = s.red.lostB else t.red.lostA = s.red.lostA) ∧
      t = { s with red := t.red }) ∧
      (s.boot.resetLow = true → exec (.vcoreSag u) s = .next s)) ∧
    (s.boot.resetLow = true → exec .supplyBelowRange s = .next s) ∧
    (s.boot.resetLow = false →
      ∃ t, exec .supplyBelowRange s = .next t ∧ t.inModuleReset = true ∧ t.boot.stopped = true ∧ t.groups = [] ∧ t.lanes = [] ∧
        t.fb = [] ∧ t.emu = [] ∧ t.msgs = [] ∧ t.host.cmds = [] ∧ (∀ e ∈ t.fio.outs, e.2.on = false) ∧ t.flt.log = s.flt.log ∧
        t.sec.priv = s.sec.priv ∧ t.tap = s.tap ∧ t.pending = s.pending)

/-- The test access port follows IEEE 1149.1 (R447): a rising edge of SVC_TCK takes the controller to the state TMS selects, SVC_TRST_N
low holds it in reset with BYPASS, and five rising edges with TMS high reach reset from every state; nothing else changes. In Capture-DR with
SAMPLE selected the boundary register takes the levels of the lands. Completes: SVC_TCK_EDGE. -/
def Obligations.TestAccessPortFollowsTms : Prop :=
  (∀ (level tms tdi trstN : Bool) (lands : Fin (2 ^ 500)) (s : State), ∃ t, exec (.svcTckEdge level tms tdi trstN lands) s = .next t ∧
    t = { s with tap := t.tap } ∧ t.tap.tck = level ∧
    (trstN = false → t.tap.state = .reset ∧ t.tap.ir = 15 ∧ t.tap.tdo = none) ∧
    (trstN = true → level = true → s.tap.tck = false → t.tap.state = s.tap.state.next tms ∧
      (s.tap.state = .captureDr → s.tap.sampling = true → t.tap.cells = s.boundaryCells lands.val)) ∧
    (trstN = true → level = false → t.tap.state = s.tap.state)) ∧
  ∀ st : TapState, ((((st.next true).next true).next true).next true).next true = .reset

/-! ### Link, registers and doorbells -/

/-- The link's events: training that ends shows its speed and width, a link that goes down shows none, PE_PERST_N resets the function
and takes the link down until it rises, a read of HIF.MTIME_LO latches bits [63:32] of motion time, and Bus Master Enable sends what
waited for it in the order issued (R48, R69, R71, R444). The read of HIF.MTIME_LO returns bits [31:0], and HIF.MTIME_HI then reads the word
latched.
A function-level reset leaves no descriptor, every ring disabled, Bus Master Enable 0 and FLR_SEEN set, and raises HOST_FLR (R99).
Completes: PCIE_LINK_UP, PCIE_LINK_DOWN, PE_PERST_N, PE_PERST_N_RELEASE, HIF_MTIME_LO_READ, BUS_MASTER_ENABLE, FUNCTION_LEVEL_RESET. -/
def Obligations.LinkEvents : Prop :=
  (∀ s : State,
     (∀ (sp : Fin 4) (w : Fin 3), s.boot.resetLow = false → s.host.perst = false → s.host.linkUp = false →
       ∃ t, exec (.pcieLinkUp sp w) s = .next t ∧ t.host.linkUp = true ∧ t.fld F.HIF_LINK_SPEED = sp.val + 1 ∧
         t.fld F.HIF_LINK_WIDTH = 2 ^ w.val ∧ t.bit F.HIF_LINK_DL_ACTIVE = true) ∧
     (s.host.linkUp = true → ∃ t, exec .pcieLinkDown s = .next t ∧ t.host = { s.host with linkUp := false } ∧
       t.fld F.HIF_LINK_SPEED = 0 ∧ t.fld F.HIF_LINK_WIDTH = 0 ∧ t.bit F.HIF_LINK_DL_ACTIVE = false ∧
       t.msgs = s.msgs ++ [{ source := sourceNo K.HOST_LINK_DOWN 0, stamp := s.now }]) ∧
     (∀ b0 b1 : Nat, s.boot.resetLow = false → s.host.perst = false → ∃ t, exec (.pePerstN b0 b1) s = .next t ∧
       t.host.perst = true ∧ t.host.linkUp = false ∧ t.host.cmds = [] ∧ t.host.busMaster = false) ∧
     (∃ t, exec .pePerstNRelease s = .next t ∧ t = { s with host := { s.host with perst := false } }) ∧
     (s.reached = true → ∃ t, exec .hifMtimeLoRead s = .next t ∧
       t = { s with host := { s.host with mtimeHi := s.now / 2 ^ 32 % 2 ^ 32, readData := some (s.now % 2 ^ 32) } } ∧
       t.readBar0 0x14 = s.now / 2 ^ 32 % 2 ^ 32) ∧
     (s.reached = true → ∃ t, exec .busMasterEnable s = .next t ∧
       t = { s with host := { s.host with busMaster := true, writes := s.host.writes ++ s.host.heldWrites, heldWrites := [] } })) ∧
  (∀ (b0 b1 : Nat) (s : State), s.reached = true → ∃ t, exec (.functionLevelReset b0 b1) s = .next t ∧
     t.host.cmds = [] ∧ t.host.busMaster = false ∧ t.host.heldWrites = [] ∧ t.host.msixEnable = false ∧
     t.bit F.HIF_STATUS_FLR_SEEN = true ∧
     (∀ r < 18, t.bit F.HIF_RING_CTRL_ENABLE r = false) ∧ (∀ m < 17, t.bit F.HIF_CQ_CTRL_ENABLE m = false) ∧
     (∃ m ∈ t.msgs, m.source = sourceNo K.HOST_FLR 0))

/-- Enabling a command or bulk ring sets its CTRL and returns its positions to index 0 of phase 0; enabling a completion ring or the
event ring makes its write position index 0 of phase 1; a SIZE_LOG2 out of its range or a reserved bit is undefined and stops by its name
(R70, R71, R72, R74).
Disabling a command ring while periods run marks every descriptor of it that has not been applied to end FLUSHED at the next
boundary, and touches no descriptor of another ring (R96); disabling any other ring touches none.
REARM with GO on a halted ring, to a position from its halted index up to its producer position, makes the ring fetch from there
and clears HALTED; without GO, or on a ring that is not halted, it does nothing (R95).
A producer doorbell within a ring's size of the fetch position becomes the ring's producer position, and changes nothing else; one
further ahead is undefined and stops by its name; on a disabled ring it has no effect (R72, R73).
A consumer doorbell up to the hub's write position becomes the ring's consumer position; one beyond it is undefined and stops by
its name (R72, R73).
Completes: RING_ENABLE, RING_DISABLE, REARM, CR_DOORBELL, BQ_DOORBELL, CQ_DOORBELL, EQ_DOORBELL. -/
def Obligations.RingsSetUpAndRung : Prop :=
  ((∀ (v : Fin (2 ^ 32)) (s : State), s.reached = true →
      let c := putBits v.val 4 1 1
      (∀ n : Fin 16, s.bit F.HIF_RING_CTRL_ENABLE n.val = false → c ^^^ (c &&& 0xF1F) = 0 → 4 ≤ c % 16 → c % 16 ≤ 12 →
        ∃ t, exec (.ringEnable (.cr n) v) s = .next t ∧ t.obj .hifRingCtrl n.val 0 = c ∧ t.head n.val = (0, false) ∧
          (t.ring n.val).prod = 0 ∧ (t.ring n.val).prodPhase = false ∧ t.bit F.HIF_RING_STATE_HALTED n.val = false) ∧
      (∀ b : Fin 2, s.bit F.HIF_RING_CTRL_ENABLE (16 + b.val) = false → c ^^^ (c &&& 0xF1F) = 0 → 4 ≤ c % 16 → c % 16 ≤ 12 →
        ∃ t, exec (.ringEnable (.bq b) v) s = .next t ∧ t.obj .hifRingCtrl (16 + b.val) 0 = c ∧ t.head (16 + b.val) = (0, false)) ∧
      (s.bit F.HIF_CQ_CTRL_ENABLE 16 = false → s.host.cmds = [] → c ^^^ (c &&& 0x3F1F) = 0 → 4 ≤ c % 16 → c % 16 ≤ 12 →
        ∃ t, exec (.ringEnable .eq v) s = .next t ∧ t.obj .hifCqCtrl 16 0 = c ∧ t.tail 16 = (0, true)) ∧
      (∀ m : Fin 16, s.bit F.HIF_CQ_CTRL_ENABLE m.val = false → s.host.cmds = [] → c ^^^ (c &&& 0x3F1F) = 0 → 4 ≤ c % 16 → c % 16 ≤ 12 →
        ∃ t, exec (.ringEnable (.cq m) v) s = .next t ∧ t.obj .hifCqCtrl m.val 0 = c ∧ t.tail m.val = (0, true)) ∧
      (∀ n : Fin 16, c ^^^ (c &&& 0xF1F) ≠ 0 → exec (.ringEnable (.cr n) v) s = .fault .reservedField) ∧
      (∀ n : Fin 16, c ^^^ (c &&& 0xF1F) = 0 → ¬(4 ≤ c % 16 ∧ c % 16 ≤ 12) → exec (.ringEnable (.cr n) v) s = .fault .ringSetup)) ∧
   (∀ (v : Fin (2 ^ 32)) (s : State), s.reached = true →
      let c := putBits v.val 4 1 0
      (∀ n : Fin 16, s.bit F.HIF_RING_CTRL_ENABLE n.val = true → c ^^^ (c &&& 0xF1F) = 0 → c % 16 = s.fld F.HIF_RING_CTRL_SIZE_LOG2 n.val →
        s.per.running = true → (∀ x ∈ s.host.cmds, x.waits = none) →
        ∃ t, exec (.ringDisable (.cr n) v) s = .next t ∧ t.bit F.HIF_RING_CTRL_ENABLE n.val = false ∧
          t.host.cmds = s.host.cmds.map fun x => if x.ring = n.val ∧ x.stage ≠ .applied then { x with flush := true } else x) ∧
      (s.bit F.HIF_CQ_CTRL_ENABLE 16 = true → c ^^^ (c &&& 0x3F1F) = 0 → c % 16 = s.fld F.HIF_CQ_CTRL_SIZE_LOG2 16 →
        ∃ t, exec (.ringDisable .eq v) s = .next t ∧ t.bit F.HIF_CQ_CTRL_ENABLE 16 = false ∧ t.host = s.host) ∧
      (∀ m : Fin 16, s.bit F.HIF_CQ_CTRL_ENABLE m.val = true → c ^^^ (c &&& 0x3F1F) = 0 → c % 16 = s.fld F.HIF_CQ_CTRL_SIZE_LOG2 m.val →
        ∃ t, exec (.ringDisable (.cq m) v) s = .next t ∧ t.bit F.HIF_CQ_CTRL_ENABLE m.val = false ∧ t.host = s.host) ∧
      (∀ b : Fin 2, s.bit F.HIF_RING_CTRL_ENABLE (16 + b.val) = true → c ^^^ (c &&& 0xF1F) = 0 →
        c % 16 = s.fld F.HIF_RING_CTRL_SIZE_LOG2 (16 + b.val) →
        ∃ t, exec (.ringDisable (.bq b) v) s = .next t ∧ t.bit F.HIF_RING_CTRL_ENABLE (16 + b.val) = false ∧ t.host = s.host)) ∧
   (∀ (r : Fin 18) (index : Fin 4096) (phase go : Bool) (s : State), s.reached = true →
      let n := s.ringSize r.val
      let halt : Pos := (s.fld F.HIF_RING_STATE_HALT_INDEX r.val, s.bit F.HIF_RING_STATE_HALT_PHASE r.val)
      let prod : Pos := ((s.ring r.val).prod, (s.ring r.val).prodPhase)
      let p : Pos := (index.val, phase)
      (go = true → s.bit F.HIF_RING_STATE_HALTED r.val = true → posWithin n halt p = true → index.val < n →
        posDist n halt p ≤ posDist n halt prod → s.host.cmds = [] →
        ∃ t, exec (.rearm r index phase go) s = .next t ∧ t.head r.val = p ∧ t.bit F.HIF_RING_STATE_HALTED r.val = false ∧
          (t.ring r.val).err = false) ∧
      (go = false ∨ s.bit F.HIF_RING_STATE_HALTED r.val = false → exec (.rearm r index phase go) s = .next s))) ∧
  ((∀ (index : Fin 4096) (phase : Bool) (s : State), s.reached = true →
      let ok := fun (r : Nat) => s.bit F.HIF_RING_CTRL_ENABLE r = true ∧ index.val < s.ringSize r ∧
        posWithin (s.ringSize r) (s.head r) (index.val, phase) = true
      let moved := fun (r : Nat) (t : State) => t = { s with host := t.host } ∧ t.host = { s.host with rings := t.host.rings } ∧
        (t.ring r).prod = index.val ∧ (t.ring r).prodPhase = phase ∧ ∀ q, q ≠ r → t.ring q = s.ring q
      (∀ n : Fin 16, (ok n.val → ∃ t, exec (.crDoorbell n index phase) s = .next t ∧ moved n.val t) ∧
        (s.bit F.HIF_RING_CTRL_ENABLE n.val = true → ¬ok n.val → exec (.crDoorbell n index phase) s = .fault .doorbellAhead) ∧
        (s.bit F.HIF_RING_CTRL_ENABLE n.val = false → exec (.crDoorbell n index phase) s = .next s)) ∧
      (∀ b : Fin 2, (ok (16 + b.val) → ∃ t, exec (.bqDoorbell b index phase) s = .next t ∧ moved (16 + b.val) t) ∧
        (s.bit F.HIF_RING_CTRL_ENABLE (16 + b.val) = true → ¬ok (16 + b.val) →
          exec (.bqDoorbell b index phase) s = .fault .doorbellAhead))) ∧
   (∀ (index : Fin 4096) (phase : Bool) (s : State), s.reached = true →
      let ok := fun (m : Nat) =>
        let c : Pos := ((s.cq m).cons, (s.cq m).consPhase)
        s.bit F.HIF_CQ_CTRL_ENABLE m = true ∧ index.val < s.cqSize m ∧ posWithin (s.cqSize m) c (index.val, phase) = true ∧
          posDist (s.cqSize m) c (index.val, phase) ≤ posDist (s.cqSize m) c (s.tail m)
      (∀ m : Fin 16, (ok m.val → ∃ t, exec (.cqDoorbell m index phase) s = .next t ∧ (t.cq m.val).cons = index.val ∧
          (t.cq m.val).consPhase = phase ∧ (s.completable = [] → t = { s with host := t.host } ∧
            (t.cq m.val).unsignalled = (s.cq m.val).unsignalled ∧ ∀ k, k ≠ m.val → t.cq k = s.cq k)) ∧
        (s.bit F.HIF_CQ_CTRL_ENABLE m.val = true → ¬ok m.val → exec (.cqDoorbell m index phase) s = .fault .doorbellBeyond)) ∧
      (ok 16 → s.host.cmds = [] → ∃ t, exec (.eqDoorbell index phase) s = .next t ∧ (t.cq 16).cons = index.val ∧
        (t.cq 16).consPhase = phase ∧ (s.fld F.HIF_EQ_LOST_COUNT = 0 → t.host = { s.host with cqs := t.host.cqs }))))

/-- Register writes: a write of BAR0 that is not an aligned 32-bit access is undefined (R70); BASE of a disabled ring takes its half;
MOD of a completion ring takes the word; a 1 clears FLR_SEEN, and a reserved bit of HIF.STATUS written 1 is undefined (R11); an MSI-X entry takes
its word, and a write of the table of another size changes nothing but the table (log entry 79: what it leaves there is free); unused
offsets have no effect; the MSI-X Message Control word sets its two bits, Device Control, Link Control and the power state theirs (R67, R68,
R70, R71). Completes: REGISTER_WRITE. -/
def Obligations.RegisterWrites : Prop :=
  ∀ (v : Fin (2 ^ 32)) (s : State), s.reached = true →
    (∀ (o : Fin 16384) (size : Fin 9), size.val ≠ 4 ∨ o.val % 4 ≠ 0 →
      exec (.registerWrite .bar0 o size v) s = .fault .registerAccess) ∧
    (∀ n : Fin 16, s.bit F.HIF_RING_CTRL_ENABLE n.val = false → v.val % 2 ^ 12 = 0 →
      ∃ t, exec (.registerWrite .bar0 ⟨0x1000 + 0x20 * n.val, by omega⟩ 4 v) s = .next t ∧
        getBits (t.fld F.HIF_RING_BASE_ADDR n.val) 0 32 = v.val ∧
        getBits (t.fld F.HIF_RING_BASE_ADDR n.val) 32 32 = getBits (s.fld F.HIF_RING_BASE_ADDR n.val) 32 32 ∧
        SameObjs [.hifRingBase] s t ∧ t = { s with objs := t.objs }) ∧
    (∀ n : Fin 16, s.bit F.HIF_RING_CTRL_ENABLE n.val = true →
      exec (.registerWrite .bar0 ⟨0x1000 + 0x20 * n.val, by omega⟩ 4 v) s = .fault .ringSetup) ∧
    (∀ m : Fin 16, getBits v.val 8 8 = 0 →
      ∃ t, exec (.registerWrite .bar0 ⟨0x120C + 0x20 * m.val, by omega⟩ 4 v) s = .next t ∧
        t.obj .hifCqMod m.val 0 = v.val ∧ t = { s with objs := t.objs }) ∧
    (v.val / 2 ^ 10 = 0 → v.val.testBit 9 = true → ∃ t, exec (.registerWrite .bar0 0x08 4 v) s = .next t ∧
      t.bit F.HIF_STATUS_FLR_SEEN = false ∧ t.fld F.HIF_STATUS_STAGE = s.fld F.HIF_STATUS_STAGE) ∧
    (v.val / 2 ^ 10 ≠ 0 → exec (.registerWrite .bar0 0x08 4 v) s = .fault .reservedField) ∧
    (∀ (o : Fin 16384) (size : Fin 9), size.val ≠ 4 ∨ o.val % 4 ≠ 0 → ∃ t, exec (.registerWrite .bar2 o size v) s = .next t ∧
      t = { s with host := { s.host with msix := t.host.msix } }) ∧
    (exec (.registerWrite .bar0 0x3FF0 4 v) s = .next s) ∧
    (∀ e : Fin 64, ∃ t, exec (.registerWrite .bar2 ⟨16 * e.val + 8, by omega⟩ 4 v) s = .next t ∧
      t.host.msix.get e.val {} = { s.host.msix.get e.val {} with data := v.val } ∧
      (∀ k, k ≠ e.val → t.host.msix.get k {} = s.host.msix.get k {}) ∧ t = { s with host := t.host }) ∧
    (exec (.registerWrite .msixControl 0 4 v) s =
      .next { s with host := { s.host with msixEnable := v.val.testBit 15, msixFuncMask := v.val.testBit 14 } }) ∧
    (exec (.registerWrite .deviceControl 0 4 v) s =
      .next { s with host := { s.host with maxPayload := min (getBits v.val 5 3) 1, maxRead := min (getBits v.val 12 3) 2 } }) ∧
    (exec (.registerWrite .linkControl 0 4 v) s = .next { s with host := { s.host with aspmL1 := v.val.testBit 1 } }) ∧
    (exec (.registerWrite .powerState 0 4 v) s = .next { s with host := { s.host with d3hot := v.val % 4 == 3 } }) ∧
    (v.val.testBit 2 = false → exec (.registerWrite .command 0 4 v) s = .next { s with host := { s.host with busMaster := false } })

/-! ### Descriptors, interrupts and bulk transfers -/

/-- DESCRIPTOR_FETCH takes the descriptor at HEAD when the ring may fetch: the hub reads 64 bytes at BASE + 64 × HEAD and holds the
descriptor, not yet validated, after those it held before, and HEAD moves on by one entry, its phase toggling at the wrap (R72, R75, R77);
otherwise nothing is fetched.
DESCRIPTOR_VALIDATED: the oldest descriptor of a ring that awaits validation becomes valid with its data when it makes no descriptor
error, and is due only at boundaries after this instant (R76); a descriptor whose opcode the ring does not take ends with status 0x80 and
its opcode, and its ring stops fetching and is HALTED once its completion is written (R79, R81, R94).
Completes: DESCRIPTOR_FETCH, DESCRIPTOR_VALIDATED. -/
def Obligations.DescriptorsFetchedAndValidated : Prop :=
  (∀ (r : Fin 18) (d : Desc) (s : State),
     (s.mayFetch r.val = true → ∃ t c, exec (.descriptorFetch r d) s = .next t ∧ t.host.cmds = s.host.cmds ++ [c] ∧
       c.ring = r.val ∧ c.index % 2 ^ 12 = (s.head r.val).1 % 2 ^ 12 ∧ c.phase = (s.head r.val).2 ∧ c.desc = d ∧ c.stage = .fetched ∧
       c.outcome = none ∧ t.host.reads = s.host.reads ++ [(s.fld F.HIF_RING_BASE_ADDR r.val + 64 * (s.head r.val).1, 64)] ∧
       (s.ringSize r.val ≤ 4096 → (s.head r.val).1 < s.ringSize r.val →
         t.head r.val = posNext (s.ringSize r.val) (s.head r.val)) ∧ SameObjs [.hifRingState] s t) ∧
     (s.mayFetch r.val = false → exec (.descriptorFetch r d) s = .next s)) ∧
  (∀ (r : Fin 18) (host : Nat) (s : State) (c : Cmd), s.host.cmds = [c] → c.ring = r.val → c.flush = false → c.stage = .fetched →
     (s.descError c [] none none = none → descReserved c.desc r.val = false →
       ∃ t, exec (.descriptorValidated r host none none) s = .next t ∧
         t = { s with host := { s.host with reads := t.host.reads,
                                            cmds := [{ c with stage := .valid, validAt := s.now, data := descData c.desc host }] } } ∧
         t.host.reads = s.host.reads ++ (if descReads c.desc then [(c.desc.hostAddr, c.desc.length)] else [])) ∧
     (s.descError c [] none none = none → descReserved c.desc r.val = true →
       exec (.descriptorValidated r host none none) s = .fault .reservedField) ∧
     (s.per.running = true → c.desc.opcode ∉ ringOpcodes r.val → c.outcome = none → c.waits = none →
       (s.bit F.HIF_CQ_CTRL_ENABLE (s.ringCq r.val) = false →
         ∃ t, exec (.descriptorValidated r host none none) s = .next t ∧ (t.ring r.val).err = true ∧
           ∃ x ∈ t.host.cmds, x.outcome = some { status := 0x80, detail := c.desc.opcode } ∧ x.desc = c.desc) ∧
       (s.cqTakes (s.ringCq r.val) = true →
         ∃ t, exec (.descriptorValidated r host none none) s = .next t ∧ (t.ring r.val).err = true ∧ t.host.cmds = [] ∧
           t.bit F.HIF_RING_STATE_HALTED r.val = true ∧ t.fld F.HIF_RING_STATE_HALT_INDEX r.val = c.index % 2 ^ 12 ∧
           t.bit F.HIF_RING_STATE_HALT_PHASE r.val = c.phase)))

/-- CONFIGURE_APPLY of a single valid NOP at the head of a ring ends it COMPLETED, and shows it applied (R71, R79, R91); its completion is
written where its completion ring takes an entry, and stays owed otherwise (R75). Outside CONFIGURE, or with nothing valid at the head,
nothing is applied.
The end of a bulk NOP's transfer ends its descriptor COMPLETED in the same way, and the rest of the ring waits for it (R83).
Completes: CONFIGURE_APPLY, BULK_TRANSFER_DONE. -/
def Obligations.DescriptorsApplied : Prop :=
  (∀ (r : Fin 16) (lands : Nat) (s : State),
     (∀ c : Cmd, s.applying = true → s.boot.resetLow = false → s.host.cmds = [c] → c.ring = r.val → c.stage = .valid →
       c.desc.opcode = 0x01 → c.desc.chain = false → c.desc.applyAtEn = false → c.withdrawn = none → c.waits = none → c.outcome = none →
       ∃ t, exec (.configureApply r lands) s = .next t ∧ t.bit F.HIF_RING_APPLIED_VALID r.val = true ∧
         t.fld F.HIF_RING_APPLIED_NEXT r.val = (posNext (s.ringSize r.val) (c.index % 2 ^ 12, c.phase)).1 % 2 ^ 12 ∧
         (s.bit F.HIF_CQ_CTRL_ENABLE (s.ringCq r.val) = false →
           ∃ x ∈ t.host.cmds, x.desc = c.desc ∧ x.stage = .applied ∧ x.appliedAt = s.now ∧ ∃ o, x.outcome = some o ∧ o.status = 0x00) ∧
         (s.cqTakes (s.ringCq r.val) = true → t.host.cmds = [] ∧
           t.bit F.HIF_RING_STATE_HALTED r.val = s.bit F.HIF_RING_STATE_HALTED r.val)) ∧
     (s.applying = false ∨ chainAt (s.waiting r.val) = none → exec (.configureApply r lands) s = .next s)) ∧
  (∀ (b : Fin 2) (s : State) (c : Cmd), s.served = true → s.host.cmds = [c] → c.ring = 16 + b.val → c.stage = .valid →
     c.desc.opcode = 0x01 → c.outcome = none → c.waits = none →
     ∃ t, exec (.bulkTransferDone b) s = .next t ∧ t.bit F.HIF_RING_APPLIED_VALID (16 + b.val) = true ∧
       (s.bit F.HIF_CQ_CTRL_ENABLE (s.ringCq (16 + b.val)) = false →
         ∃ x ∈ t.host.cmds, x.desc = c.desc ∧ x.stage = .applied ∧ ∃ o, x.outcome = some o ∧ o.status = 0x00) ∧
       (s.cqTakes (s.ringCq (16 + b.val)) = true → t.host.cmds = []))

/-- Interrupts (R88): when MOD.TIME has passed since the oldest unsignalled entry the ring's vector sends its message, which signals every
entry of the ring, or is held in its pending bit, the entries staying unsignalled, while it cannot signal; a held message goes once its
vector can signal, signals every ring that waits for it, and its pending bit clears. Completes: MSIX_MOD_TIMER, MSIX_HELD_MESSAGE. -/
def Obligations.InterruptMessages : Prop :=
  ∀ s : State,
    (∀ m : Fin 17,
      let w := s.until ((s.cq m.val).oldest + 400 * s.fld F.HIF_CQ_MOD_TIME m.val)
      let v := w.fld F.HIF_CQ_CTRL_VECTOR m.val
      (s.fld F.HIF_CQ_MOD_TIME m.val ≠ 0 → 0 < (s.cq m.val).unsignalled →
        ∃ t, exec (.msixModTimer m) s = .next t ∧ t.objs = w.objs ∧ (∀ k, k ≠ m.val → t.cq k = w.cq k) ∧
          (w.canSignal v = true → (t.cq m.val).unsignalled = 0 ∧ t.host.messages = w.host.messages ++ [v] ∧ t.host.pba = w.host.pba ∧
            t.host.writes = w.host.writes ++ [⟨(w.host.msix.get v {}).addr, 4, (w.host.msix.get v {}).data⟩]) ∧
          (w.canSignal v = false → (t.cq m.val).unsignalled = (w.cq m.val).unsignalled ∧ (t.cq m.val).due = some v ∧
            t.host.pba = w.host.pba ||| 2 ^ v ∧ t.host.messages = w.host.messages)) ∧
      (s.fld F.HIF_CQ_MOD_TIME m.val = 0 ∨ (s.cq m.val).unsignalled = 0 → exec (.msixModTimer m) s = .next s)) ∧
    (∀ v : Fin 64, s.host.pba.testBit v.val = true → s.canSignal v.val = true →
      ∃ t, exec (.msixHeldMessage v) s = .next t ∧ t.host.messages = s.host.messages ++ [v.val] ∧ t.host.pba.testBit v.val = false ∧
        t.host.writes = s.host.writes ++ [⟨(s.host.msix.get v.val {}).addr, 4, (s.host.msix.get v.val {}).data⟩] ∧
        ∀ m < 17, (if (s.cq m).due = some v.val then (t.cq m).unsignalled = 0 ∧ (t.cq m).due = none else t.cq m = s.cq m)) ∧
    (∀ v : Fin 64, s.host.pba.testBit v.val = false ∨ s.canSignal v.val = false → exec (.msixHeldMessage v) s = .next s)

/-! ### Descriptors of the command rings -/

/-- NOP on a command ring ends COMPLETED and changes nothing but what the hub shows of the ring, the command it holds and the commands of
the open application step; in CONFIGURE its ring shows it applied; on a bulk ring it runs at its turn and its completion is written (R71,
R79, R91). A descriptor that does not stand at HEAD of its ring changes nothing.
OBJ_READ ends COMPLETED with up to 8 bytes in RESULT, or writes the bytes to host memory; it changes no object (R80).
Completes: NOP, OBJ_READ. -/
def Obligations.NopAndObjRead : Prop :=
  (∀ (src : Src) (s : State),
     (s.atApplication src (srcDesc src 0x01 0) = true → s.per.running = true →
       ∃ t, exec (.nop (.inl src)) s = .next t ∧ t.endedWith src 0x00 ∧ s.notedIn t []) ∧
     (s.atApplication src (srcDesc src 0x01 0) = true → s.per.running = false →
       ∃ t, exec (.nop (.inl src)) s = .next t ∧ t.bit F.HIF_RING_APPLIED_VALID src.ring.val = true ∧
         t.fld F.HIF_RING_APPLIED_NEXT src.ring.val = (posNext (s.ringSize src.ring.val) (src.index.val, src.phase)).1 % 2 ^ 12) ∧
     (s.atHead src.ring.val src.index.val src.phase = false → exec (.nop (.inl src)) s = .next s) ∧
     (∀ (b : Fin 2) (bs : BulkSrc),
       (s.atBulk b.val bs (bulkDesc bs 0x01 0) = true → s.host.cmds = [] →
         ∃ t, exec (.nop (.inr (b, bs))) s = .next t ∧ t.bit F.HIF_RING_APPLIED_VALID (16 + b.val) = true ∧ t.host.cmds = [] ∧
           s.wroteCompletion t (16 + b.val) 0x00) ∧
       (s.atHead (16 + b.val) bs.index.val bs.phase = false → exec (.nop (.inr (b, bs))) s = .next s))) ∧
  (∀ (src : Src) (id off len : Fin 65536) (hostAddr : Fin (2 ^ 64)) (o : Obj) (i : Nat) (s : State),
     let d := { srcDesc src 0x03 id.val with offset := off.val, length := len.val, hostAddr := hostAddr.val }
     s.atApplication src d = true → s.per.running = true → objOf id.val = some o → instOf? id.val o = some i → o ≠ .secLanemem →
     ∃ t, exec (.objRead src id off len hostAddr) s = .next t ∧ t.endedWith src 0x00 ∧ t.objs = (s.begun src d).objs ∧
       (len.val ≤ 8 → ∃ c ∈ t.host.cmds, ∃ r, c.outcome = some r ∧ r.result = (s.begun src d).readObject o i off.val len.val 0) ∧
       (8 < len.val → s.wroteHost t hostAddr.val len.val ((s.begun src d).readObject o i off.val len.val 0)))

/-- OBJ_WRITE (R10, R11, R80): a write of a reserved bit is undefined and stops by its name; in a mode that does not allow the write it
ends WRONG_MODE, at a fenced block BLOCK_RESET with the block's KIND, and neither changes an object; otherwise a plain object's RW fields
take the bytes written, W1C bits written 1 clear, every other entry keeps its contents, and the command ends COMPLETED. In CONFIGURE, where
no period runs, a write of such an object is applied at once. Completes: OBJ_WRITE. -/
def Obligations.ObjWriteSetsFields : Prop :=
  ∀ (src : Src) (id off len : Fin 65536) (data lands : Nat) (o : Obj) (i : Nat) (s : State),
    let d := wrDesc src id.val off.val len.val data
    let b := s.begun src d data
    let w : Wr := { obj := o, inst := i, off := off.val, len := len.val, data := data % 2 ^ (8 * len.val) }
    let plain := o ∈ [Obj.axisLimits, .axisComp, .profLimits, .fioDoCmd, .timeCfg, .cycTx, .netMaster, .canTxslot, .canFilter, .survCfg] ∧
      (o = .timeCfg → s.time.slavePort = 3 ∧ ∀ q < 3, s.ptpPort q = false ∧ (s.eths q).portState ≠ psMaster)
    let written := fun (t : State) => (∀ e ∈ w.touched, t.obj o i e = w.entry b e) ∧
      (∀ e, e ∉ w.touched → e < 65536 → t.obj o i e = b.obj o i e) ∧ t.time = s.time ∧ t.groups = s.groups ∧ t.motion = s.motion ∧
      t.flt = s.flt
    s.atApplication src d data = true → objOf id.val = some o → instOf? id.val o = some i →
      (w.reserved = true → exec (.objWrite src id off len data lands) s = .fault .reservedField) ∧
      (s.per.running = false → w.reserved = false → plain → ∃ t, exec (.objWrite src id off len data lands) s = .next t ∧ written t ∧
        t.bit F.HIF_RING_APPLIED_VALID src.ring.val = true ∧ SameObjs [o, .hifRingState, .hifCqTail] b t) ∧
      (s.per.running = true →
      (w.reserved = false → b.writeAllowed w = false → ∃ t, exec (.objWrite src id off len data lands) s = .next t ∧
        t.endedWith src 0x06 ∧ t.objs = b.objs) ∧
      (w.reserved = false → b.writeAllowed w = true → ∀ k, b.writeFenced w = some k →
        ∃ t, exec (.objWrite src id off len data lands) s = .next t ∧ t.endedWith src 0x04 ∧ t.objs = b.objs) ∧
      (w.reserved = false → b.writeAllowed w = true → b.writeFenced w = none → plain →
        ∃ t, exec (.objWrite src id off len data lands) s = .next t ∧ t.endedWith src 0x00 ∧ written t ∧ SameObjs [o] b t))

/-- ABORT (R97, Table 03.6): of a descriptor that is neither held nor still to be fetched it ends NOTHING_TO_ABORT, and so it does of one
whose action has ended; of one of its own ring that is still to be fetched, or was discarded unapplied, it ends ABORT_DONE at once, and the
hub keeps the withdrawal for it; of one of another ring that is held unapplied it withdraws that one and waits for it.
Completes: ABORT. -/
def Obligations.AbortWithdraws : Prop :=
  ∀ (src : Src) (ring : Fin 16) (index : Fin 4096) (phase : Bool) (s : State),
    let d := { srcDesc src 0x04 0 with param := ring.val + index.val * 2 ^ 16 + phase.toNat * 2 ^ 28 }
    let b := s.begun src d
    let t := b.abortTarget d.param
    s.atApplication src d = true → s.per.running = true →
    (b.host.cmds.find? (·.is t) = none → b.unfetched t = false → b.discarded t = false →
      ∃ u, exec (.abort src ring index phase) s = .next u ∧ u.endedWith src 0x03 ∧ s.notedIn u []) ∧
    (b.host.cmds.find? (·.is t) = none → b.unfetched t = true ∨ b.discarded t = true → ring = src.ring →
      ∃ u, exec (.abort src ring index phase) s = .next u ∧ u.endedWith src 0x02 ∧ ∃ det, (t, det) ∈ u.host.early) ∧
    (∀ c : Cmd, s.host.cmds = [c] → c.is t = true → c.stage ≠ .applied → c.waits = none → ring ≠ src.ring →
      ∃ u, exec (.abort src ring index phase) s = .next u ∧ u.runsOn src ∧
        ∃ x ∈ u.host.cmds, x.is t = true ∧ x.desc = c.desc ∧ x.withdrawn.isSome = true ∧ x.stage = c.stage) ∧
    (∀ c : Cmd, s.host.cmds = [c] → c.is t = true → c.stage = .applied → c.outcome.isSome = true →
      ∃ u, exec (.abort src ring index phase) s = .next u ∧ u.endedWith src 0x03)

/-- SWAP with every condition of R349 met starts a planned swap to the standby unit and ends COMPLETED; outside COMMISSION, RUN and HOLD it
ends WRONG_MODE and starts none (R350). Completes: SWAP. -/
def Obligations.SwapStartsThePlannedSwap : Prop :=
  ∀ (src : Src) (s : State),
    let d := srcDesc src 0x05 0xD002
    let b := s.begun src d
    s.atApplication src d = true → s.per.running = true →
    (b.loopMode = true → b.standbyReady = true → b.offersEnough = true → b.formatsAgree = true → b.unitBusy = false →
      b.overHalf = false → b.red.mirrorOk = true →
      ∃ t, exec (.swap src) s = .next t ∧ t.endedWith src 0x00 ∧
        t.red.swap = some { owner := s.refOf src, incoming := b.standbyUnit, atCount := s.per.count }) ∧
    (b.loopMode = false → ∃ t, exec (.swap src) s = .next t ∧ t.endedWith src 0x06 ∧ t.red.swap = s.red.swap)

/-- FAULT_ACK of one latched source number that is not live clears that latch and no other and ends COMPLETED; of a live one it ends
REFUSED and clears nothing (R374, R375). Completes: FAULT_ACK. -/
def Obligations.FaultAckClearsTheLatch : Prop :=
  ∀ (src : Src) (source : Fin 65536) (s : State),
    let d := { srcDesc src 0x06 0xB004 with param := source.val + false.toNat * 2 ^ 16 + false.toNat * 2 ^ 17 }
    s.atApplication src d = true → s.per.running = true → kindOf source.val ≠ K.HUB_CHECK →
    (s.isLive source.val = false → ∃ t, exec (.faultAck src source false false) s = .next t ∧ t.endedWith src 0x00 ∧
      (∀ r ∈ t.flt.latched, r.source ≠ source.val) ∧
      (∀ r ∈ s.flt.latched, r.source ≠ source.val → r ∈ t.flt.latched)) ∧
    (s.isLive source.val = true → ∃ t, exec (.faultAck src source false false) s = .next t ∧ t.endedWith src 0x07 ∧ t.flt = s.flt)

/-- MOVE_POS, MOVE_VEL, STOP, QUICK_STOP and RESUME join the axis's CMD entries behind those that wait, under the next free delivery
number and with the axis's limits, and run on; in a mode without motion they end WRONG_MODE, and at an axis without an outer task
or with four entries waiting REFUSED, with nothing queued and their number free again (R176 to R178, R189, R190, R193, R463).
Completes: MOVE_POS, MOVE_VEL, STOP, QUICK_STOP, RESUME. -/
def Obligations.MotionCommandsQueue : Prop :=
  ∀ (src : Src) (a : Fin 40) (target : Fin (2 ^ 48)) (speed : Fin (2 ^ 24)) (mode : Fin 8) (s : State) (cmd : Instr) (d : Desc)
    (op m tg sp : Nat),
    (cmd, d, op, m, tg, sp) ∈
      [(Instr.movePos src a target speed mode,
          { srcDesc src 0x10 (axisProf a) with param := mode.val, inline := target.val + speed.val * 2 ^ 64 },
          0x10, mode.val, target.val, speed.val),
       (.moveVel src a speed, { srcDesc src 0x11 (axisProf a) with inline := speed.val * 2 ^ 64 }, 0x11, 0, 0, speed.val),
       (.stop src a, srcDesc src 0x12 (axisProf a), 0x12, 0, 0, 0),
       (.quickStop src a, srcDesc src 0x13 (axisProf a), 0x13, 0, 0, 0),
       (.resume src a, srcDesc src 0x14 (axisProf a), 0x14, 0, 0, 0)] →
    s.atApplication src d = true → s.per.running = true →
    let b := s.begun src d
    (b.motionMode = true → b.hasOuter a.val = true → (s.hubAx a.val).entries.length < 4 → ∀ n, (s.hubAx a.val).takeNum = some n →
      ∃ t e, exec cmd s = .next t ∧ t.runsOn src ∧ (t.hubAx a.val).entries = (s.hubAx a.val).entries ++ [e] ∧
        e.opcode = op ∧ e.mode = m ∧ e.target = tg ∧ e.speed = sp ∧ e.num = n ∧ e.limits = b.profLimits a.val ∧
        (∃ h ∈ (t.hubAx a.val).held, h.num = n ∧ h.owner = s.refOf src) ∧ ∀ k, k ≠ a.val → t.hubAx k = s.hubAx k) ∧
    (b.motionMode = false → ∃ t, exec cmd s = .next t ∧ t.endedWith src 0x06 ∧ t.motion = s.motion) ∧
    (b.motionMode = true → b.hasOuter a.val = false ∨ 4 ≤ (s.hubAx a.val).entries.length → ∀ n, (s.hubAx a.val).takeNum = some n →
      ∃ t, exec cmd s = .next t ∧ t.endedWith src 0x07 ∧ t.hubAx a.val = { s.hubAx a.val with next := (n + 1) % 64 } ∧
        ∀ k, k ≠ a.val → t.hubAx k = s.hubAx k)

/-- GEAR_ENGAGE, CAM_ENGAGE and DISENGAGE join the axis's CMD entries with their parameters: the ratio as signed NUM over DEN, the ramp
and the start for a gear; scaling, offset and blend for a cam, whose origin is X_ORG with XMODE and the master's value without; STOP for
DISENGAGE (R200, R201, R208, R212, R218). Completes: GEAR_ENGAGE, CAM_ENGAGE, DISENGAGE. -/
def Obligations.EngagementCommandsQueue : Prop :=
  ∀ (src : Src) (a : Fin 40) (s : State), s.per.running = true →
    let room := fun (b : State) => b.motionMode = true ∧ b.hasOuter a.val = true ∧ (s.hubAx a.val).entries.length < 4 ∧
      (s.hubAx a.val).takeNum.isSome = true
    (∀ (num den ramp : Fin (2 ^ 32)) (startEn : Bool) (startDir : Fin 4) (startPos : Fin (2 ^ 48)),
      let d := { srcDesc src 0x18 (axisGear a) with
        param := startEn.toNat + startDir.val * 2
        inline := num.val + den.val * 2 ^ 32 + ramp.val * 2 ^ 64 + startPos.val * 2 ^ 96 }
      s.atApplication src d = true → room (s.begun src d) →
      ∃ t e, exec (.gearEngage src a num den ramp startEn startDir startPos) s = .next t ∧ t.runsOn src ∧
        (t.hubAx a.val).entries = (s.hubAx a.val).entries ++ [e] ∧ e.opcode = 0x18 ∧
        e.engage = some (.gear (sint 32 num.val) den.val ramp.val startEn startDir.val startPos.val) ∧
        (den.val = 0 → e.bad = 0x4)) ∧
    (∀ (profile : Fin 64) (ymode xmode : Bool) (offset xOrg : Fin (2 ^ 48)) (blend : Fin (2 ^ 16)),
      let d := { srcDesc src 0x19 (axisGear a) with
        param := profile.val + ymode.toNat * 2 ^ 8 + xmode.toNat * 2 ^ 9
        inline := offset.val + xOrg.val * 2 ^ 64 + blend.val * 2 ^ 128 }
      let b := s.begun src d
      s.atApplication src d = true → room b → b.profValid profile.val = true → b.masterKind a.val ≠ 0 →
      ∃ t e, exec (.camEngage src a profile ymode xmode offset xOrg blend) s = .next t ∧ t.runsOn src ∧
        (t.hubAx a.val).entries = (s.hubAx a.val).entries ++ [e] ∧ e.opcode = 0x19 ∧
        e.engage = some (.cam ymode (sint 48 offset.val) blend.val (sint 32 (b.fld F.CAM_PROF_YSCALE profile.val))
          (sint 24 (b.fld F.CAM_PROF_RISE profile.val)) (b.bit F.CAM_PROF_CYCLIC profile.val)) ∧
        ∃ c, (t.hubAx a.val).cam = some c ∧ c.profile = profile.val ∧ (xmode = true → c.xOrg = sint 48 xOrg.val)) ∧
    (∀ stop : Bool,
      let d := { srcDesc src 0x1A (axisGear a) with param := stop.toNat }
      s.atApplication src d = true → room (s.begun src d) →
      ∃ t e, exec (.disengage src a stop) s = .next t ∧ t.runsOn src ∧
        (t.hubAx a.val).entries = (s.hubAx a.val).entries ++ [e] ∧ e.opcode = 0x1A ∧ e.mode = stop.toNat)

/-- CARAVAN_SEG joins its group's queue with the next segment number and runs on; a length that does not fit the members, a reserved type or
a zero path length ends REFUSED (R220); a reserved bit of the record is undefined and stops by its name (R11).
Completes: CARAVAN_SEG. -/
def Obligations.CaravanSegQueues : Prop :=
  ∀ (src : Src) (g : Fin 4) (len : Fin 153) (data : Fin (2 ^ 1216)) (s : State),
    let d := { srcDesc src 0x1B (0x6005 + 64 * g.val) with length := len.val, indirect := true }
    let b := s.begun src d data.val
    let v := data.val % 2 ^ (8 * len.val)
    s.atApplication src d data.val = true → s.per.running = true → b.motionMode = true →
    (len.val = 24 + 16 * (b.members g.val).length → segReserved v (b.members g.val).length = true →
      exec (.caravanSeg src g len data) s = .fault .reservedField) ∧
    (len.val = 24 + 16 * (b.members g.val).length → segReserved v (b.members g.val).length = false → v % 4 = 3 ∨ getBits v 32 24 = 0 →
      ∃ t, exec (.caravanSeg src g len data) s = .next t ∧ t.endedWith src 0x07 ∧ t.motion = s.motion) ∧
    (len.val = 24 + 16 * (b.members g.val).length → segReserved v (b.members g.val).length = false → v % 4 ≠ 3 → getBits v 32 24 ≠ 0 →
      ∃ t q, exec (.caravanSeg src g len data) s = .next t ∧ t.runsOn src ∧
        (t.caravan g.val).queue = (s.caravan g.val).queue ++ [q] ∧ q.seq = (s.caravan g.val).nextSeq ∧ q.owner = s.refOf src ∧
        q.type = v % 4 ∧ q.len = getBits v 32 24 ∧ (t.caravan g.val).nextSeq = ((s.caravan g.val).nextSeq + 1) % 2 ^ 8) ∧
    (len.val ≠ 24 + 16 * (b.members g.val).length → ∃ t, exec (.caravanSeg src g len data) s = .next t ∧ t.endedWith src 0x07 ∧
      t.motion = s.motion)

/-- LATCH_ARM arms its unit for the descriptor, clearing VALID and EXTRA; COMPARE_ARM arms its unit with POSITION, STEP, COUNT and DIR. Both run
on. With the feedback channel fenced they end BLOCK_RESET, and in another mode WRONG_MODE (R229, R230, R234).
A level that has held for FILTER ticks makes an edge, stamped with its first tick; it captures an armed latch unit once, and later edges
count in EXTRA; a shorter level does nothing (R230); an edge after an ABORT disarms the unit without a capture (R232). An edge of the
other direction is no edge of the unit, and one stamped before the arming is not captured (the model's reading, log entry 94). A compare
pulse ends after its width (R236). Completes: LATCH_ARM, COMPARE_ARM, LATCH_EDGE, COMPARE_PULSE_END. -/
def Obligations.LatchAndCompareUnits : Prop :=
  (∀ (src : Src) (s : State), s.per.running = true →
     (∀ n : Fin 8,
       let d := srcDesc src 0x1C (0x7000 + 64 * n.val)
       let b := s.begun src d
       s.atApplication src d = true →
       (b.armMode = true → b.fenced (.fb (b.fld F.LATCH_CFG_FB n.val)) = false → b.fld F.LATCH_CFG_EDGE n.val ≠ 0 →
         (s.latchUnit n.val).owner = none →
         ∃ t, exec (.latchArm src n) s = .next t ∧ t.runsOn src ∧ (t.latchUnit n.val).armed = true ∧
           (t.latchUnit n.val).owner = some (s.refOf src) ∧ t.bit F.LATCH_RESULT_VALID n.val = false ∧
           t.fld F.LATCH_RESULT_EXTRA n.val = 0) ∧
       (b.armMode = false → ∃ t, exec (.latchArm src n) s = .next t ∧ t.endedWith src 0x06 ∧ t.latchUnits = s.latchUnits) ∧
       (b.armMode = true → b.fenced (.fb (b.fld F.LATCH_CFG_FB n.val)) = true →
         ∃ t, exec (.latchArm src n) s = .next t ∧ t.endedWith src 0x04 ∧ t.latchUnits = s.latchUnits)) ∧
     (∀ (u : Fin 16) (pos step : Fin (2 ^ 32)) (count : Fin (2 ^ 16)) (dir : Fin 4),
       let d := { srcDesc src 0x1D (0x7002 + 64 * u.val) with
         param := dir.val + count.val * 2 ^ 16, inline := pos.val + step.val * 2 ^ 32 }
       let b := s.begun src d
       s.atApplication src d = true → b.armMode = true → b.fenced (.fb (b.fld F.CMP_CFG_FB u.val)) = false → dir.val ≠ 0 → count.val ≠ 0 →
       (s.cmpUnit u.val).owner = none →
       ∃ t, exec (.compareArm src u pos step count dir) s = .next t ∧ t.runsOn src ∧ (t.cmpUnit u.val).owner = some (s.refOf src) ∧
         (t.cmpUnit u.val).dir = dir.val ∧ (t.cmpUnit u.val).step = sint 32 step.val ∧ t.bit F.CMP_STATUS_ARMED u.val = true ∧
         t.fld F.CMP_STATUS_REMAIN u.val = count.val ∧ t.fld F.CMP_STATUS_POS u.val = pos.val)) ∧
  (∀ s : State, s.per.measured ≠ some s.now →
     (∀ (n : Fin 8) (rising : Bool) (held : Fin 256),
       let u := s.latchUnit n.val
       let fits := if rising then (s.fld F.LATCH_CFG_EDGE n.val).testBit 0 else (s.fld F.LATCH_CFG_EDGE n.val).testBit 1
       (held.val < s.fld F.LATCH_CFG_FILTER n.val → exec (.latchEdge ⟨n, held⟩ rising) s = .next s) ∧
       (s.fld F.LATCH_CFG_FILTER n.val ≤ held.val →
         (u.armed = true → fits = true → u.since ≤ s.now - held.val → u.abort = none →
           ∃ t c, exec (.latchEdge ⟨n, held⟩ rising) s = .next t ∧ (t.latchUnit n.val).armed = false ∧
             (t.latchUnit n.val).caps = u.caps ++ [c] ∧ c.time = s.now - held.val ∧ c.rising = rising ∧ c.owner = u.owner ∧
             t = { s with latchUnits := t.latchUnits }) ∧
         (∀ e, u.armed = true → fits = true → u.since ≤ s.now - held.val → u.abort = some e → e.2 ≤ s.now - held.val →
           ∃ t, exec (.latchEdge ⟨n, held⟩ rising) s = .next t ∧ (t.latchUnit n.val).armed = false ∧ (t.latchUnit n.val).caps = u.caps ∧
             (t.latchUnit n.val).owner = none) ∧
         (u.armed = true → fits = false ∨ s.now - held.val < u.since → exec (.latchEdge ⟨n, held⟩ rising) s = .next s) ∧
         (u.armed = false → u.after = true → ∃ t, exec (.latchEdge ⟨n, held⟩ rising) s = .next t ∧
           t.fld F.LATCH_RESULT_EXTRA n.val = min 0xFFFF (s.fld F.LATCH_RESULT_EXTRA n.val + 1) ∧ t.latchUnits = s.latchUnits ∧
           SameObjs [.latchResult] s t ∧ t = { s with objs := t.objs }))) ∧
     (∀ u : Fin 16,
       ((s.cmpUnit u.val).pulse = none → exec (.comparePulseEnd u) s = .next s) ∧
       (∀ p, (s.cmpUnit u.val).pulse = some p → ∃ t, exec (.comparePulseEnd u) s = .next t ∧ (t.cmpUnit u.val).pulse = none ∧
         t = { s.until (p + s.pulseTicks u.val) with cmpUnits := t.cmpUnits })))

/-- SURVEY_FREEZE while the survey records puts it in the state that counts down to frozen, with the running period's record as trigger
(frozen at once where a record POST ms after that one was taken already), and ends COMPLETED; while it does not record it ends REFUSED (R406, R407). ATTEST without the identity key ends REFUSED; with it the signed
statement goes to host memory (R423). Completes: SURVEY_FREEZE, ATTEST. -/
def Obligations.FreezeAndAttest : Prop :=
  ∀ (src : Src) (s : State), s.per.running = true →
    (∀ noCopy : Bool,
      let d := { srcDesc src 0x24 0xC002 with param := noCopy.toNat }
      let b := s.begun src d
      s.atApplication src d = true → (b.loopMode || b.mode == .service) = true →
      (s.surv.state = 0 → ∃ t, exec (.surveyFreeze src noCopy) s = .next t ∧ t.endedWith src 0x00 ∧
        (t.surv.state = 1 ∨ t.surv.state = 2) ∧
        ((∀ x ∈ s.surv.ring, x.mtime < (s.recordAt s.per.t0).2.1 + s.postTicks) → t.surv.state = 1) ∧
        t.surv.trigSeq = s.recordSeq s.per.t0 ∧ t.surv.trigTime = (s.recordAt s.per.t0).2.1 ∧ (noCopy = true → t.surv.bbDue = false)) ∧
      (s.surv.state ≠ 0 → ∃ t, exec (.surveyFreeze src noCopy) s = .next t ∧ t.endedWith src 0x07 ∧ t.surv.state = s.surv.state)) ∧
    (∀ (nonce : Fin (2 ^ 256)) (hostAddr : Fin (2 ^ 64)),
      let d := { srcDesc src 0x28 0xE000 with length := 32, inline := nonce.val, hostAddr := hostAddr.val }
      s.atApplication src d = true →
      (s.sec.priv = none → ∃ t, exec (.attest src nonce hostAddr) s = .next t ∧ t.endedWith src 0x07 ∧ t.host.writes = s.host.writes) ∧
      (s.sec.priv.isSome = true → s.sec.opened = false → ∃ t, exec (.attest src nonce hostAddr) s = .next t ∧ t.endedWith src 0x00 ∧
        s.wroteHost t hostAddr.val 224 (natOf ((s.begun src d).signed nonce.val).1)))

/-! ### Bulk descriptors -/

/-- The bulk descriptors at their turn, no other descriptor held: IMAGE_WRITE, TABLE_WRITE, SURVEY_READ and LOG_READ run whole, the ring
shows them done, and their completion carries the status of their effect (R71, R82, R83, R213, R377, R412, R414).
IMAGE_WRITE of the running slot is REFUSED. TABLE_WRITE puts cam points into the staging area, and a reserved byte of one is undefined and
stops by its name (R11). SURVEY_READ without an export is REFUSED, and otherwise its bytes go to host memory. LOG_READ of whole entries
writes them to host memory. Completes: IMAGE_WRITE, TABLE_WRITE, SURVEY_READ, LOG_READ. -/
def Obligations.BulkDescriptorsRunWhole : Prop :=
  ∀ (src : BulkSrc) (s : State), s.host.cmds = [] →
    let ended := fun (t : State) (b status : Nat) => t.bit F.HIF_RING_APPLIED_VALID (16 + b) = true ∧ t.host.cmds = [] ∧
      s.wroteCompletion t (16 + b) status
    (∀ (slot : Fin 2) (block : Fin (2 ^ 24)) (len : Fin 4097) (last : Bool) (data : Nat),
      let d := bulkIn src 0x40 0 (block.val + slot.val * 2 ^ 31) len.val last
      let r := s.imageWrite slot.val (block.val * 64) len.val (data % 2 ^ (8 * len.val)) last
      s.atBulk 0 src d data = true → (last = true → s.genOverflow = false) →
      ∃ t, exec (.imageWrite src slot block len last data) s = .next t ∧ ended t 0 r.2.status ∧ t.boot = r.1.boot ∧
        (s.boot.running = some slot.val → r.2.status = 0x07 ∧ t.boot = s.boot)) ∧
    (∀ (first : Fin (2 ^ 15)) (len : Fin 4097) (data : Nat),
      let d := bulkIn src 0x41 0x6002 first.val len.val false
      let v := data % 2 ^ (8 * len.val)
      s.atBulk 0 src d data = true → len.val % 4 = 0 → first.val + len.val / 4 ≤ 32768 →
      (((List.range (len.val / 4)).all fun i => getBits v (32 * i + 24) 8 == 0) = true →
        ∃ t, exec (.tableWrite src false ⟨first.val, by omega⟩ len false data) s = .next t ∧ ended t 0 0x00 ∧
          (∀ k < len.val / 4, t.motion.camStage.get (first.val + k) 0 = BitVec.ofNat 24 (getBits v (32 * k) 24)) ∧
          ∀ k, k < first.val ∨ first.val + len.val / 4 ≤ k → t.motion.camStage.get k 0 = s.motion.camStage.get k 0) ∧
      (((List.range (len.val / 4)).all fun i => getBits v (32 * i + 24) 8 == 0) = false →
        exec (.tableWrite src false ⟨first.val, by omega⟩ len false data) s = .fault .reservedField)) ∧
    (∀ (first : Fin (2 ^ 32)) (len : Fin 4097) (data : Nat),
      let d := bulkIn src 0x41 0xC005 first.val len.val false
      s.atBulk 0 src d data = true → ∃ t, exec (.tableWrite src true first len false data) s = .next t ∧
        ended t 0 (if s.mode = .configure then 0x00 else 0x06)) ∧
    (∀ (block : Fin (2 ^ 32)) (len : Fin 4097) (hostAddr : Fin (2 ^ 64)),
      let d := { bulkDesc src 0x48 0xC003 with param := block.val, length := len.val, hostAddr := hostAddr.val }
      let r := s.surveyRead (block.val * 64) len.val
      s.atBulk 1 src d = true → ∃ t, exec (.surveyRead src block len hostAddr) s = .next t ∧ ended t 1 r.1.status ∧ t.surv = s.surv ∧
        (s.surv.export_ = none → r.1.status = 0x07) ∧ (r.2 ≠ [] → s.wroteHost t hostAddr.val r.2.length (natOf r.2))) ∧
    (∀ (first : Fin 16384) (len : Fin 4097) (hostAddr : Fin (2 ^ 64)),
      let d := { bulkDesc src 0x49 0xB006 with param := first.val, length := len.val, hostAddr := hostAddr.val }
      s.atBulk 1 src d = true →
      (len.val % 64 = 0 → len.val ≠ 0 → ∃ t, exec (.logRead src first len hostAddr) s = .next t ∧ ended t 1 0x00 ∧
        s.wroteHost t hostAddr.val len.val ((List.range (len.val / 64)).foldl
          (fun v i => v + s.flt.log.get ((first.val + i) % 16384) 0 * 2 ^ (512 * i)) 0)) ∧
      (len.val % 64 ≠ 0 → ∃ t, exec (.logRead src first len hostAddr) s = .next t ∧ ended t 1 0x07))

/-! ### Object actions: modes, resets, banks -/

/-- MODE_REQUEST (R41, Tables 02.2 and 02.3): a refused request ends MODE_REFUSED, shows its reason and changes nothing else of the mode;
an accepted one between modes in which periods run takes effect at the running boundary; one that leaves CONFIGURE runs on, and its first
boundary is a multiple of the period at least 1 ms later (R91). Completes: MODE_REQUEST. -/
def Obligations.ModeRequestsAnswered : Prop :=
  ∀ (src : Src) (m : Fin 8) (s : State),
    let d := wrDesc src 0x0004 0 1 (m.val * 2 ^ 4)
    let b := s.begun src d (m.val * 2 ^ 4)
    s.atApplication src d (m.val * 2 ^ 4) = true →
    (∀ r, b.modeRefusal m.val = some r → s.per.running = true →
      ∃ t, exec (.modeRequest src m) s = .next t ∧ t.endedWith src 0x05 ∧ t.fld F.SYS_MODE_REFUSAL = r ∧ t.mode = s.mode ∧
        s.notedIn t [.sysMode]) ∧
    (b.modeRefusal m.val = none → s.mode ≠ .configure → m.val ≠ 0 → s.per.running = true →
      (∀ n < 8, (s.latchUnit n).owner = none) → (∀ n < 16, (s.cmpUnit n).owner = none) →
      ∃ t, exec (.modeRequest src m) s = .next t ∧ t.endedWith src 0x00 ∧ t.fld F.SYS_MODE_MODE = m.val ∧
        t.fld F.SYS_MODE_PREV = s.fld F.SYS_MODE_MODE ∧ t.fld F.SYS_MODE_REFUSAL = 0 ∧
        t.fld F.SYS_MODE_ENTRY_SEQ = s.per.seq % 2 ^ 32 ∧ t.fld F.HIF_STATUS_MODE = m.val) ∧
    (b.modeRefusal m.val = none → s.mode ≠ .configure → m.val = 0 → s.per.running = true →
      ∃ t, exec (.modeRequest src m) s = .next t ∧ t.mode = .configure ∧ t.per.running = false ∧ t.red.alloc = [] ∧
        t.red.takeover = none ∧ t.red.swap = none ∧ t.red.migrate = none) ∧
    (b.modeRefusal m.val = none → s.mode = .configure → s.per.running = false → m.val ≠ 4 → 0 < s.fld F.SYS_PERIOD_TC →
      ∃ t, exec (.modeRequest src m) s = .next t ∧ t.runsOn src ∧ t.per.departing = some m.val ∧
        s.now + 400000 ≤ t.per.next ∧ t.per.next < s.now + 400000 + s.fld F.SYS_PERIOD_TC ∧
        t.per.next % s.fld F.SYS_PERIOD_TC = 0 ∧ t.mode = .configure ∧ t.time = s.time)

/-- SYS.RESET of a block raises its fence and begins a reset that its descriptor waits for (R57, R58, R62, Table 02.7); a lane pair that is
active, and the active unit, are refused outside CONFIGURE. RESET_MODULE resets and boots the module. FENCE_LOWERED ends the resets of
its block, the fence falling, once the block is ready: a serial channel after its first frame, an enabled CAN channel after it has rejoined its
bus (R62, R288, Table 02.7).
Completes: RESET_FB_CHANNEL, RESET_PWM_GROUP, RESET_CAN_CHANNEL, RESET_ETH_PORT, RESET_LANE_PAIR, RESET_UNIT, RESET_MODULE, FENCE_LOWERED. -/
def Obligations.BlockResetsFence : Prop :=
  ∀ (src : Src) (s : State),
    let acts := fun (data : Nat) => s.atApplication src (wrDesc src 0x0007 0 2 data) data = true
    let starts := fun (t : State) (f : FenceId) (kind : Nat) => t.fenced f = true ∧
      t.boot.jobs = s.boot.jobs ++ [{ block := f, kind := kind, owner := some (s.refOf src) }]
    (∀ n : Fin 32, acts (resetData 1 n.val 0 false) → ∃ t, exec (.resetFbChannel src n) s = .next t ∧ starts t (.fb n.val) 1) ∧
    (∀ g : Fin 32, acts (resetData 2 g.val 0 false) → ∃ t, exec (.resetPwmGroup src g) s = .next t ∧ starts t (.pwm g.val) 2 ∧
      t.bit F.PWMG_STATUS_FENCED g.val = true) ∧
    (∀ c : Fin 4, acts (resetData 3 c.val 0 false) → ∃ t, exec (.resetCanChannel src c) s = .next t ∧ starts t (.can c.val) 3) ∧
    (∀ p : Fin 3, acts (resetData 4 p.val 0 false) → ∃ t, exec (.resetEthPort src p) s = .next t ∧ starts t (.eth p.val) 4) ∧
    (∀ (u : Fin 2) (l : Fin 12), acts (resetData 5 l.val u.val false) →
      ((s.pairActive u.val l.val = false ∨ s.mode = .configure) →
        ∃ t, exec (.resetLanePair src u l) s = .next t ∧ starts t (.lane u.val l.val) 5 ∧ (t.pair u.val l.val).periods = []) ∧
      (s.pairActive u.val l.val = true → s.mode ≠ .configure → s.per.running = true →
        ∃ t, exec (.resetLanePair src u l) s = .next t ∧ t.endedWith src 0x07 ∧ s.notedIn t [])) ∧
    (∀ u : Fin 2, acts (resetData 6 0 u.val false) →
      ((u.val ≠ s.activeUnit ∨ s.mode = .configure) →
        ∃ t, exec (.resetUnit src u false) s = .next t ∧ starts t (.unit u.val) 6) ∧
      (u.val = s.activeUnit → s.mode ≠ .configure → s.per.running = true →
        ∃ t, exec (.resetUnit src u false) s = .next t ∧ t.endedWith src 0x07 ∧ s.notedIn t [])) ∧
    (∀ (st ra rb : Bool) (lands : Fin (2 ^ 32)), acts (resetData 15 0 0 false) → s.boot.resetLow = false →
      ∃ t, exec (.resetModule src st ra rb lands) s = .next t ∧ t.boot.resetLow = false ∧ t.per.running = false ∧ t.host.cmds = [] ∧
        t.fld F.SYS_BOOT_CAUSE = 2 ∧ t.mode = .configure ∧ (st = false → t.fld F.SYS_BOOT_STAGE = 0xF)) ∧
    (∀ (f : FenceId) (readOk : Bool) (lands : Fin 8),
      (s.boot.jobs.any (fun j => j.block == f) = false → exec (.fenceLowered f readOk lands) s = .next s) ∧
      (s.boot.jobs.any (fun j => j.block == f) = true →
        (∃ n < 32, f = .fb n ∧ s.fbSerial n = true ∧ (s.fbs n).frame.isSome = true) ∨
          (∃ c < 4, f = .can c ∧ s.bit F.CAN_CFG_EN c = true ∧ (s.cans c).busState = 3) →
        exec (.fenceLowered f readOk lands) s = .next s) ∧
      (s.boot.jobs.any (fun j => j.block == f) = true →
        (∃ n < 32, f = .fb n ∧ (s.fbSerial n = true → (s.fbs n).frame = none)) ∨
          (∃ c < 4, f = .can c ∧ (s.bit F.CAN_CFG_EN c = true → (s.cans c).busState ≠ 3)) ∨ (∃ p < 3, f = .eth p) →
        ∃ t, exec (.fenceLowered f readOk lands) s = .next t ∧ t.fenced f = false ∧
          t.boot.jobs = s.boot.jobs.filter fun j => j.block != f))

/-- Clears of counters (R32, R139, R356, R372, R457): each clears its own counters and flags, ends COMPLETED, and changes nothing else.
Completes: SLACK_CLR, LANE_CLR, CS_STATUS_CLR, TIME_STATUS_CLR, ETH_STATUS_CLR, CYC_RX_CLR, CAN_STATUS_CLR, FIO_STATUS_CLR, SURV_CLR,
TAKEOVERS_CLR, FIRST_CLR. -/
def Obligations.CountersClear : Prop :=
  ∀ (src : Src) (s : State), s.per.running = true →
    let acts := fun (id off data : Nat) => s.atApplication src (wrDesc src id off 1 data) data = true
    (∀ e : Fin 24, acts 0x0002 (16 * e.val + 10) 0x02 → ∃ t, exec (.slackClr src e) s = .next t ∧ t.endedWith src 0x00 ∧
      s.notedIn t [.sysSlack] ∧ t.fld F.SYS_SLACK_MINSLACK 0 e.val = 0x7FFFF ∧ t.fld F.SYS_SLACK_LATE 0 e.val = 0 ∧
      t.bit F.SYS_SLACK_LATE_SAT 0 e.val = false ∧ t.fld F.SYS_SLACK_BUSY 0 e.val = s.fld F.SYS_SLACK_BUSY 0 e.val) ∧
    (∀ e : Fin 24, acts (0xF004 + 64 * e.val) 4 0x02 → ∃ t, exec (.laneClr src e) s = .next t ∧ t.endedWith src 0x00 ∧
      s.notedIn t [.engLane] ∧ t.fld F.ENG_LANE_PARITY e.val = 0 ∧ t.bit F.ENG_LANE_PARITY_SAT e.val = false) ∧
    (∀ i : Fin 96, acts (0x4002 + 64 * (i.val % 48) + 32 * (i.val / 48)) 8 0x04 → ∃ t, exec (.csStatusClr src i) s = .next t ∧
      t.endedWith src 0x00 ∧ ({ s with sd := t.sd } : State).notedIn t [] ∧ (t.sds i.val).ocCnt = 0 ∧ (t.sds i.val).staleCnt = 0 ∧
      ∀ k, k ≠ i.val → t.sds k = s.sds k) ∧
    (acts 0x8001 2 0x02 → ∃ t, exec (.timeStatusClr src) s = .next t ∧ t.endedWith src 0x00 ∧
      ({ s with time := { s.time with steps := 0, stepsSat := false } } : State).notedIn t []) ∧
    (∀ p : Fin 3, acts (0x8041 + 64 * p.val) 1 0x40 → s.fenced (.eth p.val) = false → ∃ t, exec (.ethStatusClr src p) s = .next t ∧
      t.endedWith src 0x00 ∧ ({ s with net := t.net } : State).notedIn t [] ∧ (t.eths p.val).dropped = 0 ∧ (t.eths p.val).fcsErr = 0 ∧
      (t.eths p.val).txqOvf = false) ∧
    (∀ r : Fin 16, acts (0x8400 + 64 * r.val) 14 0x08 → ∃ t, exec (.cycRxClr src r) s = .next t ∧ t.endedWith src 0x00 ∧
      s.notedIn t [.cycRx] ∧ t.fld F.CYC_RX_LATE_CNT r.val = 0 ∧ t.fld F.CYC_RX_DUP_CNT r.val = 0 ∧ t.fld F.CYC_RX_DIFF_CNT r.val = 0 ∧
      t.fld F.CYC_RX_SAT r.val = 0) ∧
    (∀ c : Fin 4, acts (0x9002 + 64 * c.val) 8 0x04 → s.fenced (.can c.val) = false → ∃ t, exec (.canStatusClr src c) s = .next t ∧
      t.endedWith src 0x00 ∧ ({ s with net := t.net } : State).notedIn t [] ∧ (t.cans c.val).errFrames = 0 ∧ (t.cans c.val).rxLost = 0 ∧
      (t.cans c.val).pending = (s.cans c.val).pending) ∧
    (acts 0xA003 13 0x08 → ∃ t, exec (.fioStatusClr src) s = .next t ∧ t.endedWith src 0x00 ∧
      ({ s with fio := { s.fio with bad0 := 0, bad1 := 0, retries := 0, sat := 0 } } : State).notedIn t []) ∧
    (acts 0xC002 0 0x02 → ∃ t, exec (.survClr src) s = .next t ∧ t.endedWith src 0x00 ∧
      ({ s with surv := { s.surv with fcAbandoned := 0, fcSat := false, bbSkip := false } } : State).notedIn t []) ∧
    (acts 0xD002 0 0x80 → ∃ t, exec (.takeoversClr src) s = .next t ∧ t.endedWith src 0x00 ∧
      ({ s with red := { s.red with takeovers := 0, takeoversSat := false } } : State).notedIn t []) ∧
    (∀ hi : Fin 128, acts 0xB000 2 (0x80 + hi.val) → (s.mode = .hold ∨ hi.val = getBits (s.obj .fltCfg 0 0) 16 7) →
      ∃ t, exec (.firstClr src hi) s = .next t ∧ t.endedWith src 0x00 ∧ t.bit F.FLT_FIRST_VALID = false ∧
        t.bit F.FLT_CFG_ALIVE_EN = hi.val.testBit 6 ∧
        ({ s with flt := { s.flt with alive := t.flt.alive } } : State).notedIn t [.fltCfg, .fltFirst])

/-- BANK_SWAP changes the bank in force (R137). COEF_WRITE takes the words into a bank not in force, the master copy and every lane pair
of a loaded unit that is not fenced, and is refused for the bank in force and while the units' programs differ (R136). CAM_COMMIT copies
staged points into the store, a COUNT of 0 acting as 1, and is refused beyond its end and for points of an engaged cam (R214, R458).
Completes: BANK_SWAP, COEF_WRITE, CAM_COMMIT. -/
def Obligations.BanksAndCamStore : Prop :=
  ∀ (src : Src) (s : State), s.per.running = true → s.loopMode = true →
    (s.atApplication src (wrDesc src 0xF001 0 1 0x02) 0x02 = true → ∃ t, exec (.bankSwap src) s = .next t ∧ t.endedWith src 0x00 ∧
      t.bit F.ENG_BANK_IN_FORCE = !s.bit F.ENG_BANK_IN_FORCE ∧ t.fld F.ENG_BANK_SWAP_SEQ = s.per.seq % 2 ^ 32 ∧ s.notedIn t [.engBank]) ∧
    (∀ (bankB : Bool) (first : Fin 4096) (words : List Word24),
      let o := if bankB then Obj.engCoefB else Obj.engCoefA
      let f := if bankB then F.ENG_COEF_B_WORD else F.ENG_COEF_A_WORD
      let d := wrDesc src (if bankB then 0xF003 else 0xF002) (4 * first.val) (4 * words.length) (wordsData words)
      s.atApplication src d (wordsData words) = true →
      (s.bit F.ENG_BANK_IN_FORCE = bankB ∨ s.bit F.ENG_IDENT_DIFFER = true →
        ∃ t, exec (.coefWrite src bankB first words) s = .next t ∧ t.endedWith src 0x07 ∧ s.notedIn t []) ∧
      (s.bit F.ENG_BANK_IN_FORCE = !bankB → s.bit F.ENG_IDENT_DIFFER = false →
        ∃ t, exec (.coefWrite src bankB first words) s = .next t ∧ t.endedWith src 0x00 ∧
          ({ s with lanes := t.lanes } : State).notedIn t [o] ∧
          (∀ i (h : i < words.length), t.fld f 0 (first.val + i) = words[i].toNat) ∧
          (∀ a < 4096, (a < first.val ∨ first.val + words.length ≤ a) → t.fld f 0 a = s.fld f 0 a) ∧
          (∀ (u : Fin 2) (l : Fin 12) (c : Fin 2) (i : Nat) (h : i < words.length), s.unitLoaded u.val = true →
            s.fenced (.unit u.val) = false → s.fenced (.lane u.val l.val) = false →
            (if bankB then (t.lane u l c).bankB else (t.lane u l c).bankA).get (first.val + i) 0 = words[i]))) ∧
    (∀ first count : Fin (2 ^ 16),
      let data := first.val + count.val * 2 ^ 16 + 2 ^ 32
      let n := max 1 count.val
      let hit := ∃ a < 40, ∃ c ∈ s.camsOf a, first.val < s.fld F.CAM_PROF_FIRST c.profile + s.fld F.CAM_PROF_N c.profile ∧
        s.fld F.CAM_PROF_FIRST c.profile < first.val + n
      s.atApplication src (wrDesc src 0x6003 0 5 data) data = true →
      (¬hit → first.val + n ≤ 32768 → ∃ t, exec (.camCommit src first count) s = .next t ∧ t.endedWith src 0x00 ∧
        ({ s with motion := { s.motion with camStore := t.motion.camStore } } : State).notedIn t [.camCommit] ∧
        (∀ i < n, t.motion.camStore.get (first.val + i) 0 = s.motion.camStage.get (first.val + i) 0) ∧
        ∀ k, (k < first.val ∨ first.val + n ≤ k) → t.motion.camStore.get k 0 = s.motion.camStore.get k 0) ∧
      (hit ∨ 32768 < first.val + n → ∃ t, exec (.camCommit src first count) s = .next t ∧ t.endedWith src 0x07 ∧ s.notedIn t []))

/-! ### Object actions: PWM groups, feedback, field inputs, CAN queues -/

/-- PWM_EN sets EN, and a group without it does not drive; TRIP_CLR is refused while a cause of the trip is active, and otherwise clears
TRIPPED and TRIP_SRC; PWM_CNT_CLR clears the group's counters; PWM_AUX_WRITE sets the windows and triggers and restarts both prescalers;
TRIPIN_WRITE sets polarity and filter, and every input settles on its land's level (R258 to R264, R457). EN of a group acts on the groups
that act as one with it, and on no other (R253). Completes: PWM_EN, TRIP_CLR, PWM_CNT_CLR, PWM_AUX_WRITE, TRIPIN_WRITE. -/
def Obligations.PwmGroupControls : Prop :=
  ∀ (src : Src) (g : Fin 32) (s : State),
    let ctrl := fun (data : Nat) => s.atApplication src (wrDesc src (0x2002 + 64 * g.val) 0 1 data) data = true
    (s.per.running = true → s.loopMode = true → s.fenced (.pwm g.val) = false →
      (∀ en : Bool, ctrl en.toNat → ∃ t, exec (.pwmEn src g en) s = .next t ∧ t.endedWith src 0x00 ∧
        t.bit F.PWMG_CTRL_EN g.val = en ∧ (en = false → t.gstate g.val ≠ gDriving) ∧
        ∀ h < 32, h ≠ g.val → t.bit F.PWMG_CTRL_EN h = s.bit F.PWMG_CTRL_EN h ∧ (h ∉ s.gangOf g.val → t.gstate h = s.gstate h)) ∧
      (∀ en : Bool, ctrl (en.toNat + 0x02) →
        (s.tripCause g.val = true → ∃ t, exec (.tripClr src g en) s = .next t ∧ t.endedWith src 0x07 ∧ s.notedIn t []) ∧
        (s.tripCause g.val = false → ∃ t, exec (.tripClr src g en) s = .next t ∧ t.endedWith src 0x00 ∧
          t.bit F.PWMG_STATUS_TRIPPED g.val = false ∧ t.fld F.PWMG_STATUS_TRIP_SRC g.val = 0xFF ∧ t.bit F.PWMG_CTRL_EN g.val = en ∧
          t.fld F.PWMG_STATUS_TRIP_TIME g.val = s.fld F.PWMG_STATUS_TRIP_TIME g.val ∧ t.flt = s.flt)) ∧
      (∀ en : Bool, ctrl (en.toNat + 0x04) → ∃ t, exec (.pwmCntClr src g en) s = .next t ∧ t.endedWith src 0x00 ∧
        t.fld F.PWMG_STATUS_PULSE_EATEN g.val = 0 ∧ t.fld F.PWMG_STATUS_PULSE_HELD g.val = 0 ∧ t.fld F.PWMG_STATUS_LATE_CNT g.val = 0 ∧
        t.fld F.PWMG_STATUS_DISCARDED g.val = 0 ∧ t.bit F.PWMG_STATUS_BADCMD g.val = false ∧
        t.bit F.PWMG_STATUS_TRIPPED g.val = s.bit F.PWMG_STATUS_TRIPPED g.val) ∧
      (∀ v : Fin (2 ^ 112), s.atApplication src (wrDesc src (0x2001 + 64 * g.val) 0 14 v.val) v.val = true →
        ∃ t, exec (.pwmAuxWrite src g v) s = .next t ∧ t.endedWith src 0x00 ∧ getBits (t.obj .pwmgAux g.val 0) 0 112 = v.val ∧
          t.grp g.val = { s.grp g.val with trigA := s.now16, trigB := s.now16, countA := 0, countB := 0 } ∧
          ({ s with groups := t.groups } : State).notedIn t [.pwmgAux] ∧ ∀ h, h ≠ g.val → t.grp h = s.grp h)) ∧
    (s.mode = .configure → s.per.running = false → ∀ (hi : Fin (2 ^ 32)) (filter : Fin 256) (lands : Fin (2 ^ 32)),
      s.atApplication src (wrDesc src 0x2800 0 5 (hi.val + filter.val * 2 ^ 32)) = true →
      ∃ t, exec (.tripinWrite src hi filter lands) s = .next t ∧ t.fld F.PWM_TRIPIN_ACT_HIGH = hi.val ∧
        t.fld F.PWM_TRIPIN_FILTER = filter.val ∧
        ∀ n < 32, t.nth F.PWM_TRIPIN_LIVE n = (lands.val.testBit n == hi.val.testBit n))

/-- FB.CTRL (R289): PRESET sets the count and is refused in COMMISSION and RUN and while a unit is armed on the channel; ARM_HOME arms a
channel whose REREF is 2 and is refused on another; SER_GO sends SER_CMD on a channel of serial mode 4 once, is refused on another, and a
reserved SER_CMD is undefined; FB_CNT_CLR clears the counters. A refused write changes nothing (R276, R289, R457).
Completes: PRESET, ARM_HOME, SER_GO, FB_CNT_CLR. -/
def Obligations.FeedbackControls : Prop :=
  ∀ (src : Src) (n : Fin 32) (s : State), s.per.running = true → s.loopMode = true → s.fenced (.fb n.val) = false →
    let acts := fun (len data : Nat) => s.atApplication src (wrDesc src (0x3002 + 64 * n.val) 0 len data) data = true
    let only := fun (t : State) => ({ s with fb := t.fb } : State).notedIn t [.fbCtrl]
    (∀ (cmd : Fin 8) (arg : Fin 256) (val : Fin (2 ^ 32)), acts 8 (0x01 + cmd.val * 2 ^ 4 + arg.val * 2 ^ 8 + val.val * 2 ^ 32) →
      (s.unitArmedOn n.val = true ∨ s.mode = .commission ∨ s.mode = .run →
        ∃ t, exec (.preset src n cmd arg val) s = .next t ∧ t.endedWith src 0x07 ∧ s.notedIn t []) ∧
      (s.unitArmedOn n.val = false → s.mode = .hold → ∃ t, exec (.preset src n cmd arg val) s = .next t ∧ t.endedWith src 0x00 ∧
        (t.fbs n.val).count = val.val ∧ (t.fbs n.val).referenced = false ∧ ∀ k, k ≠ n.val → t.fbs k = s.fbs k)) ∧
    (∀ cmd : Fin 8, acts 1 (0x02 + cmd.val * 2 ^ 4) →
      (s.fld F.FB_CFG_REREF n.val ≠ 2 → ∃ t, exec (.armHome src n cmd) s = .next t ∧ t.endedWith src 0x07 ∧ s.notedIn t []) ∧
      (s.fld F.FB_CFG_REREF n.val = 2 → ∃ t, exec (.armHome src n cmd) s = .next t ∧ t.endedWith src 0x00 ∧ only t ∧
        t.fbs n.val = { s.fbs n.val with homeArmed := some s.now, homed := false } ∧ ∀ k, k ≠ n.val → t.fbs k = s.fbs k)) ∧
    (∀ cmd : Fin 8, acts 1 (0x04 + cmd.val * 2 ^ 4) → ∃ t, exec (.fbCntClr src n cmd) s = .next t ∧ t.endedWith src 0x00 ∧ only t ∧
      t.fbs n.val = { s.fbs n.val with quadErr := 0, badFrames := 0, slips := 0, skipped := 0, sat := 0 } ∧
      ∀ k, k ≠ n.val → t.fbs k = s.fbs k) ∧
    (∀ (cmd : Fin 8) (arg : Fin 256), acts 2 (0x08 + cmd.val * 2 ^ 4 + arg.val * 2 ^ 8) →
      (s.fld F.FB_CFG_MODE n.val ≠ 4 → ∃ t, exec (.serGo src n cmd arg) s = .next t ∧ t.endedWith src 0x07 ∧ s.notedIn t []) ∧
      (s.fld F.FB_CFG_MODE n.val = 4 → cmd.val = 2 ∨ cmd.val = 3 → ∃ t, exec (.serGo src n cmd arg) s = .next t ∧
        t.endedWith src 0x00 ∧ only t ∧ t.fbs n.val = { s.fbs n.val with regValid := false, go := some (cmd.val, arg.val) } ∧
        t.fld F.FB_CTRL_SER_CMD n.val = cmd.val ∧ t.fld F.FB_CTRL_SER_ARG n.val = arg.val) ∧
      (s.fld F.FB_CFG_MODE n.val = 4 → cmd.val ≠ 2 → cmd.val ≠ 3 → exec (.serGo src n cmd arg) s = .fault .reservedCode))

/-- Writes that restart their unit, and a release: FB_CFG_WRITE and EMU_CFG_WRITE set all RW fields of their object and start the channel or
the emulation afresh; FIO_DI_CFG_WRITE sets an input's debounce fields, and every input's filter starts again; CAN_RXQ_RELEASE moves the
queue's consumer position, and a CAN channel that is fenced ends it BLOCK_RESET (R270, R271, R292, R331, R383).
Completes: FB_CFG_WRITE, EMU_CFG_WRITE, FIO_DI_CFG_WRITE, CAN_RXQ_RELEASE. -/
def Obligations.ConfigurationWrites : Prop :=
  ∀ (src : Src) (s : State),
    (s.mode = .configure → s.per.running = false → ∀ (n : Fin 32) (serial : Bool) (v : Fin (2 ^ 256)) (a b z : Bool),
      let d := if serial then wrDesc src (0x3001 + 64 * n.val) 0 16 v.val else wrDesc src (0x3000 + 64 * n.val) 0 32 v.val
      let w : Wr := { obj := if serial then .fbSerial else .fbCfg, inst := n.val, off := 0, len := if serial then 16 else 32, data := d.inline }
      s.atApplication src d = true → s.fenced (.fb n.val) = false →
      (w.reserved = true → exec (.fbCfgWrite src n serial v a b z) s = .fault .reservedField) ∧
      (w.reserved = false → ∃ t, exec (.fbCfgWrite src n serial v a b z) s = .next t ∧ t.obj w.obj n.val 0 = w.entry s 0 ∧
        (t.fbs n.val).quadErr = (s.fbs n.val).quadErr ∧
        (t.fld F.FB_CFG_MODE n.val = 1 → (t.fbs n.val).count = 0 ∧ (t.fbs n.val).levels = a.toNat + b.toNat * 2 + z.toNat * 4))) ∧
    (s.mode = .configure → ∀ (e : Fin 8) (v : Fin (2 ^ 64)),
      let d := wrDesc src (0x3800 + 64 * e.val) 0 8 v.val
      let w : Wr := { obj := .emuCfg, inst := e.val, off := 0, len := 8, data := v.val }
      s.atApplication src d v.val = true →
      (w.reserved = true → exec (.emuCfgWrite src e v) s = .fault .reservedField) ∧
      (w.reserved = false → ∃ t, exec (.emuCfgWrite src e v) s = .next t ∧ t.obj .emuCfg e.val 0 = w.entry s 0 ∧
        (t.emus e.val).e0 = 0 ∧ (t.fld F.EMU_CFG_MODE e.val ≠ 3 → (t.emus e.val).counter = 0) ∧ ∀ k, k ≠ e.val → t.emus k = s.emus k)) ∧
    (s.mode = .configure → ∀ (i : Fin 32) (deb : Fin (2 ^ 16)) (pulsed inv : Bool),
      let data := deb.val + pulsed.toNat * 2 ^ 16 + inv.toNat * 2 ^ 17
      s.atApplication src (wrDesc src 0xA000 (4 * i.val) 4 data) data = true →
      ∃ t, exec (.fioDiCfgWrite src i deb pulsed inv) s = .next t ∧ t.fld F.FIO_DI_CFG_DEB 0 i.val = deb.val ∧
        t.bit F.FIO_DI_CFG_PULSED 0 i.val = pulsed ∧ t.bit F.FIO_DI_CFG_INV 0 i.val = inv ∧
        ∀ k < 32, (t.dis k).run = 0 ∧ (t.dis k).known = false) ∧
    (s.per.running = true → ∀ (c : Fin 4) (cons : Fin 256) (phase : Bool),
      let data := cons.val + phase.toNat * 2 ^ 8
      s.atApplication src (wrDesc src (0x9004 + 64 * c.val) 2 2 data) data = true →
      (s.fenced (.can c.val) = false → ∃ t, exec (.canRxqRelease src c cons phase) s = .next t ∧ t.endedWith src 0x00 ∧
        t.fld F.CAN_RXCTL_CONS c.val = cons.val ∧ t.bit F.CAN_RXCTL_CONS_PHASE c.val = phase ∧
        t.fld F.CAN_RXCTL_PROD c.val = s.fld F.CAN_RXCTL_PROD c.val ∧ s.notedIn t [.canRxctl]) ∧
      (s.fenced (.can c.val) = true → ∃ t, exec (.canRxqRelease src c cons phase) s = .next t ∧ t.endedWith src 0x04 ∧ s.notedIn t []))

/-! ### Object actions: forcing, lane pairs, survey, keys, service -/

/-- FORCE of an instance its kind has sets its entry and brings a forced onset; of another it is refused (R371). MIGRATE with a spare free, the
mirror whole, no handover under way and tasks on the pair starts a migration; it ends WRONG_MODE outside the loop modes. UNRETIRE in
CONFIGURE clears the pair's retirement (R354 to R356). Completes: FORCE, MIGRATE, UNRETIRE. -/
def Obligations.ForceMigrateUnretire : Prop :=
  ∀ (src : Src) (s : State),
    (s.per.running = true → ∀ (k inst : Fin 128) (on : Bool),
      let data := on.toNat + inst.val * 2 ^ 8
      s.atApplication src (wrDesc src 0xB002 (4 * k.val) 4 data) data = true →
      (∀ r, kindRow k.val = some r → inst.val < r.instances → ∃ t, exec (.force src k inst on) s = .next t ∧ t.endedWith src 0x00 ∧
        t.bit F.FLT_FORCE_FORCE 0 k.val = on ∧ t.fld F.FLT_FORCE_INST 0 k.val = inst.val ∧
        (on = true → s.forced k.val = none → { source := sourceNo k.val inst.val, stamp := s.now, forced := true : Msg } ∈ t.msgs) ∧
        (on = false → s.forced k.val = none → t.msgs = s.msgs)) ∧
      (∀ r, kindRow k.val = some r → r.instances ≤ inst.val → ∃ t, exec (.force src k inst on) s = .next t ∧ t.endedWith src 0x07 ∧
        s.notedIn t [])) ∧
    (s.per.running = true → ∀ l : Fin 16, s.atApplication src (wrDesc src 0xD002 0 1 (0x01 + l.val * 2)) (0x01 + l.val * 2) = true →
      (∀ sp p, s.loopMode = true → s.spareLane = some sp → s.red.mirrorOk = true → s.unitBusy = false →
        s.posOf s.activeUnit l.val = some p → s.tasksAt p ≠ [] →
        ∃ t, exec (.migrate src l) s = .next t ∧ t.endedWith src 0x00 ∧
          t.red.migrate = some { unit := s.activeUnit, source := l.val, spare := sp, pos := p, atCount := s.per.count }) ∧
      (s.loopMode = false → ∃ t, exec (.migrate src l) s = .next t ∧ t.endedWith src 0x06 ∧ s.notedIn t [])) ∧
    (∀ (u : Fin 2) (l : Fin 16),
      s.atApplication src (wrDesc src 0xD002 0 1 (0x20 + l.val * 2 + u.val * 2 ^ 6)) (0x20 + l.val * 2 + u.val * 2 ^ 6) = true →
      (s.mode = .configure → (s.retired u.val).testBit l.val = true → ∃ t, exec (.unretire src u l) s = .next t ∧
        (t.retired u.val).testBit l.val = false ∧
        (∀ k, k ≠ l.val → (t.retired u.val).testBit k = (s.retired u.val).testBit k) ∧ t.retired (1 - u.val) = s.retired (1 - u.val)) ∧
      (s.mode ≠ .configure → s.per.running = true → ∃ t, exec (.unretire src u l) s = .next t ∧ t.endedWith src 0x06 ∧ s.notedIn t []))

/-- UNFREEZE returns the survey to recording (R408). EXPORT_SETUP makes the export file ready or ends REFUSED with none ready; signed without
the identity key it is refused; a reserved KIND is undefined (R412). REPLAY_LOAD loads a source that stands or leaves the one before
(R414). Completes: UNFREEZE, EXPORT_SETUP, REPLAY_LOAD. -/
def Obligations.SurveyActions : Prop :=
  ∀ (src : Src) (s : State),
    (s.per.running = true → s.atApplication src (wrDesc src 0xC002 0 1 0x01) 0x01 = true → ∃ t, exec (.unfreeze src) s = .next t ∧
      t.endedWith src 0x00 ∧ ({ s with surv := { s.surv with state := 0, bbDue := false } } : State).notedIn t []) ∧
    (s.per.running = true → ∀ (kind : Fin 4) (sign : Bool) (epoch first last : Fin (2 ^ 32)),
      let data := kind.val + 0x04 + sign.toNat * 2 ^ 4 + epoch.val * 2 ^ 32 + first.val * 2 ^ 64 + last.val * 2 ^ 96
      s.atApplication src (wrDesc src 0xC003 0 16 data) data = true →
      (kind.val = 3 → exec (.exportSetup src kind sign epoch first last) s = .fault .reservedCode) ∧
      (kind.val ≠ 3 → ∃ t, exec (.exportSetup src kind sign epoch first last) s = .next t ∧ t.fld F.SURV_EXPORT_KIND = kind.val ∧
        t.fld F.SURV_EXPORT_FIRST = first.val ∧ t.fld F.SURV_EXPORT_LAST = last.val ∧
        ((t.endedWith src 0x00 ∧ t.bit F.SURV_EXPORT_READY = true ∧ ∃ ps, t.surv.export_ = some ps ∧
            t.fld F.SURV_EXPORT_SIZE = (ps.map (·.bytes.length)).foldl (· + ·) 0 % 2 ^ 64) ∨
          (t.endedWith src 0x07 ∧ t.bit F.SURV_EXPORT_READY = false ∧ t.surv.export_ = none)) ∧
        (sign = true → s.sec.priv = none → t.surv.export_ = none))) ∧
    (s.mode = .configure → ∀ (upload : Bool) (epoch first last : Fin (2 ^ 32)),
      let data := upload.toNat + epoch.val * 2 ^ 32 + first.val * 2 ^ 64 + last.val * 2 ^ 96
      let d := wrDesc src 0xC004 0 16 data
      let r := ((s.begun src d data).applyRw { obj := .survReplay, inst := 0, off := 0, len := 16, data := data }).replayLoad
      s.atApplication src d data = true →
      (r.2.status = 0x00 → ∃ t, exec (.replayLoad src upload epoch first last) s = .next t ∧ t.bit F.SURV_REPLAY_LOADED = true ∧
        t.surv.replay = r.1.surv.replay ∧ t.surv.replay.isSome = true ∧ t.fld F.SURV_REPLAY_FIRST = first.val) ∧
      (r.2.status ≠ 0x00 → ∃ t, exec (.replayLoad src upload epoch first last) s = .next t ∧ t.surv.replay = s.surv.replay ∧
        t.obj .survReplay 0 0 = s.obj .survReplay 0 0))

/-- Keys and the opening of service (R425 to R429): another CODE than 0xA5C3 is refused; in CONFIGURE GEN_ID without an identity key runs on
until KEY_GEN_DONE installs a new pair, OPEN marks the module unattested and runs on until ERASE_DONE has erased the keys, CFGKEY_WRITE
installs a key once, and LOG_ERASE with both keys present leaves one entry.
Completes: GEN_ID, OPEN, LOG_ERASE, CFGKEY_WRITE, KEY_GEN_DONE, ERASE_DONE. -/
def Obligations.KeysAndOpening : Prop :=
  ∀ (src : Src) (s : State),
    let acts := fun (data : Nat) => s.atApplication src (wrDesc src 0xE002 0 4 data) data = true
    (∀ code : Fin (2 ^ 16), code.val ≠ 0xA5C3 → s.per.running = true →
      (acts (0x01 + code.val * 2 ^ 16) → ∃ t, exec (.genId src code) s = .next t ∧ t.endedWith src 0x07 ∧ s.notedIn t []) ∧
      (acts (0x02 + code.val * 2 ^ 16) → ∃ t, exec (.open_ src code) s = .next t ∧ t.endedWith src 0x07 ∧ s.notedIn t []) ∧
      (acts (0x04 + code.val * 2 ^ 16) → ∃ t, exec (.logErase src code) s = .next t ∧ t.endedWith src 0x07 ∧ s.notedIn t [])) ∧
    (s.mode = .configure →
      (acts (0x01 + 0xA5C3 * 2 ^ 16) → s.sec.opened = false → s.bit F.SEC_ID_PRESENT = false →
        ∃ t, exec (.genId src 0xA5C3) s = .next t ∧ t.runsOn src ∧ t.sec = { s.sec with genId := s.sec.genId ++ [s.refOf src] }) ∧
      (acts (0x02 + 0xA5C3 * 2 ^ 16) → ∃ t, exec (.open_ src 0xA5C3) s = .next t ∧ t.runsOn src ∧ t.sec.opened = true ∧
        t.sec.unattested = true ∧ t.sec.opening = s.sec.opening ++ [s.refOf src] ∧ t.bit F.SYS_MODE_UNATTESTED = true ∧
        ∃ m ∈ t.msgs, m.source = sourceNo K.SERVICE_OPEN 0) ∧
      (acts (0x04 + 0xA5C3 * 2 ^ 16) → s.bit F.SEC_ID_PRESENT = true → s.bit F.SEC_CFGKEY_PRESENT = true → s.sec.unattested = false →
        ∃ t, exec (.logErase src 0xA5C3) s = .next t ∧ t.fld F.FLT_LOG_NEXT = 1 ∧ t.bit F.FLT_LOG_WRAPPED = false ∧
          getBits (t.flt.log.get 0 0) 16 8 = 0xFD ∧ ∀ k, k ≠ 0 → t.flt.log.get k 0 = 0) ∧
      (∀ (key : Fin (2 ^ 512)) (keyId : Fin (2 ^ 32)),
        s.atApplication src (wrDesc src 0xE001 0 68 (key.val + keyId.val * 2 ^ 512)) (key.val + keyId.val * 2 ^ 512) = true →
        (s.bit F.SEC_CFGKEY_PRESENT = false → s.sec.opened = false → keyId.val ≠ 0 → ∃ t, exec (.cfgkeyWrite src key keyId) s = .next t ∧
          t.fld F.SEC_CFGKEY_KEY = key.val ∧ t.fld F.SEC_CFGKEY_KEY_ID = keyId.val ∧ t.bit F.SEC_CFGKEY_PRESENT = true) ∧
        (s.bit F.SEC_CFGKEY_PRESENT = true ∨ s.sec.opened = true ∨ keyId.val = 0 →
          ∃ t, exec (.cfgkeyWrite src key keyId) s = .next t ∧ t.obj .secCfgkey 0 0 = s.obj .secCfgkey 0 0))) ∧
    (s.sec.genId ≠ [] → s.sec.opened = false → ∃ t, exec .keyGenDone s = .next t ∧ t.sec.genId = [] ∧
      t.sec.priv = some (newKeyPair s.sec.drbg).1 ∧ t.fld F.SEC_ID_PUBKEY = (newKeyPair s.sec.drbg).2 % 2 ^ 512 ∧
      t.bit F.SEC_ID_PRESENT = true ∧ t.sec.drbg = s.sec.drbg + 1) ∧
    (s.sec.genId = [] → exec .keyGenDone s = .next s) ∧
    (s.sec.opening ≠ [] → ∃ t, exec .eraseDone s = .next t ∧ t.sec.priv = none ∧ t.sec.erased = true ∧ t.sec.opening = [] ∧
      t.bit F.SEC_ID_PRESENT = false ∧ t.bit F.SEC_CFGKEY_PRESENT = false ∧ t.fld F.SEC_CFGKEY_KEY = 0) ∧
    (s.sec.opening = [] → exec .eraseDone s = .next s)

/-- Service access to a lane pair, in SERVICE (R430, R431): HALT stops both copies, STEP runs one instruction of a halted pair in both and
discards what they post, DEBUG_RESUME lets the pair start afresh with the next boundary; LANEMEM_READ returns words of a halted pair and
LANEMEM_WRITE sets them, and both are refused for a pair that is not halted. Actions at a fenced pair, and writes of its memory, end
BLOCK_RESET with KIND 5 (R60). Completes: HALT, STEP, DEBUG_RESUME, LANEMEM_READ, LANEMEM_WRITE. -/
def Obligations.ServiceDebug : Prop :=
  ∀ (src : Src) (s : State), s.per.running = true → s.mode = .service →
    let acts := fun (data : Nat) => s.atApplication src (wrDesc src 0xE004 0 1 data) data = true
    (∀ (l : Fin 12) (brk : Bool),
      let l16 : Fin 16 := ⟨l.val, by omega⟩
      let u := s.activeUnit
      (s.laneFenced l.val = true → acts (l.val + 0x10 + brk.toNat * 2 ^ 7) →
        ∃ t, exec (.halt src l16 brk) s = .next t ∧ t.endedWith src 0x04 ∧ s.notedIn t []) ∧
      (s.laneFenced l.val = false → acts (l.val + 0x10 + brk.toNat * 2 ^ 7) → ∃ t, exec (.halt src l16 brk) s = .next t ∧ t.endedWith src 0x00 ∧
        t.sec.halted.testBit l.val = true ∧ (t.lane u l.val 0).halted = true ∧ (t.lane u l.val 1).halted = true ∧
        t.fld F.SEC_DEBUG_LANE = l.val ∧ t.bit F.SEC_DEBUG_BREAK_EN = brk ∧ t.bit F.SEC_DEBUG_HALTED = true) ∧
      (s.laneFenced l.val = false → acts (l.val + 0x40 + brk.toNat * 2 ^ 7) → ∃ t, exec (.debugResume src l16 brk) s = .next t ∧ t.endedWith src 0x00 ∧
        (s.sec.halted.testBit l.val = true → t.sec = { s.sec with resume := s.sec.resume ||| 2 ^ l.val }) ∧
        (s.sec.halted.testBit l.val = false → t.sec = s.sec)) ∧
      (s.laneFenced l.val = false → acts (l.val + 0x20 + brk.toNat * 2 ^ 7) →
        (s.sec.halted.testBit l.val = false → ∃ t, exec (.step src l16 brk) s = .next t ∧ t.endedWith src 0x00 ∧ t.lanes = s.lanes) ∧
        (∀ op, s.sec.halted.testBit l.val = true → s.lane u l.val 0 = s.lane u l.val 1 → (s.lane u l.val 0).task.isSome = true →
          (s.lane u l.val 0).pc < 8192 → decodeLane ((s.lane u l.val 0).prog.get (s.lane u l.val 0).pc 0).toNat = some op →
          op ≠ .end_ → (s.lane u l.val 0).fault (s.pairBank u l.val) op = none →
          (s.lane u l.val 0).parityHits (s.pairBank u l.val) op = [] → (s.lane u l.val 0).overflowed op = false →
          ∃ t, exec (.step src l16 brk) s = .next t ∧ t.endedWith src 0x00 ∧ ∀ c < 2,
            t.lane u l.val c = { (s.lane u l.val 0).run (s.pairBank u l.val) op with posts := [] }))) ∧
    (∀ (space : Fin 4) (first : Fin 16384) (lee : Bool) (off len : Fin 4097) (hostAddr : Fin (2 ^ 64)), len.val ≤ 8 →
      let d := { srcDesc src 0x03 0xE005 with
        param := laneMemParam space first lee, offset := off.val, length := len.val, hostAddr := hostAddr.val }
      s.atApplication src d = true →
      (s.debugHalted = true → ∃ t, exec (.lanememRead src space first lee off len hostAddr) s = .next t ∧ t.endedWith src 0x00 ∧
        s.notedIn t [] ∧ ∃ c ∈ t.host.cmds, ∃ r, c.outcome = some r ∧ r.result = s.laneMemRead d.param off.val len.val) ∧
      (s.debugHalted = false → ∃ t, exec (.lanememRead src space first lee off len hostAddr) s = .next t ∧ t.endedWith src 0x07 ∧
        s.notedIn t [])) ∧
    (∀ (space : Fin 4) (first : Fin 16384) (off len : Fin 4097) (data : Nat),
      s.atApplication src (wrDesc src 0xE005 off.val len.val data (laneMemParam space first false)) data = true →
      (s.laneFenced (s.fld F.SEC_DEBUG_LANE) = true → ∃ t, exec (.lanememWrite src space first off len data) s = .next t ∧
        t.endedWith src 0x04 ∧ s.notedIn t []) ∧
      (s.laneFenced (s.fld F.SEC_DEBUG_LANE) = false → s.debugHalted = true → ∃ t, exec (.lanememWrite src space first off len data) s = .next t ∧ t.endedWith src 0x00 ∧
        ({ s with lanes := t.lanes } : State).notedIn t [] ∧
        (space.val = 1 → off.val = 0 → len.val = 4 → ∀ c < 2,
          (t.lane s.activeUnit s.debugLane c).x.get first.val 0 = BitVec.ofNat 24 data)) ∧
      (s.laneFenced (s.fld F.SEC_DEBUG_LANE) = false → s.debugHalted = false → ∃ t, exec (.lanememWrite src space first off len data) s = .next t ∧ t.endedWith src 0x07 ∧
        s.notedIn t []))

/-! ### Periods, cairns and pairs -/

/-- The instants of a period: MID_PERIOD_TRANSFER and DEADLINE happen once in each running period; a BOUNDARY with no command waiting begins
the next period at its tick (SEQ, PHASE and the tick by R18), and out of CONFIGURE the first one with SEQ 0 in the mode requested (R91,
R398); a boundary whose application step is open goes on from there in the same period (R20; the model's way to let a command's own row reach its
application, log entry 14); a measurement instant is taken once at each boundary tick, after what falls due earlier in the period (R277).
Completes: BOUNDARY, DEADLINE, MID_PERIOD_TRANSFER, MEASUREMENT_INSTANT. -/
def Obligations.PeriodsBeginAndPass : Prop :=
  ∀ s : State,
    (s.per.running = true → s.time.running = true → s.per.step = none →
      (s.per.midDone = false → ∃ t, exec .midPeriodTransfer s = .next t ∧ t.per = { s.per with midDone := true }) ∧
      (s.per.midDone = true → exec .midPeriodTransfer s = .next s) ∧
      (s.per.deadlineDone = false → ∃ t, exec .deadline s = .next t ∧ t.per = { s.per with deadlineDone := true }) ∧
      (s.per.deadlineDone = true → exec .deadline s = .next s) ∧
      (s.per.measured ≠ some s.per.next → ∃ t, exec .measurementInstant s = .next t ∧ 
          t.per = { s.per with midDone := true, deadlineDone := true, measured := some s.per.next } ∧
        t.flt.interval = s.flt.interval + 1) ∧
      (s.per.measured = some s.per.next → exec .measurementInstant s = .next s) ∧
      (∀ (bits : List (Fin 96 × Nat)) (reach : Bool), s.host.cmds = [] → s.per.seq ≠ 2 ^ 32 - 1 →
        ∃ t, exec (.boundary bits reach) s = .next t ∧ t.per.running = true ∧ t.per.t0 = s.per.next ∧
          t.per.next = s.per.next + s.fld F.SYS_PERIOD_TC ∧ t.per.seq = (s.per.seq + 1) % 2 ^ 32 ∧ t.per.count = s.per.count + 1 ∧
          t.per.phase = (s.per.phase + 1) % (s.fld F.SYS_PERIOD_K + 1) ∧ t.per.midDone = false ∧ t.per.deadlineDone = false)) ∧
    (∀ (bits : List (Fin 96 × Nat)) (reach : Bool), s.time.running = true → s.per.step.isSome = true → s.host.cmds = [] →
      ∃ t, exec (.boundary bits reach) s = .next t ∧ t.per = { s.per with step := none }) ∧
    (∀ (bits : List (Fin 96 × Nat)) (reach : Bool) (m : Nat), s.per.running = false → s.per.step = none → s.time.running = true →
      s.per.departing = some m → m = 1 ∨ m = 2 ∨ m = 5 → s.host.cmds = [] → s.surv.epoch ≠ 2 ^ 32 - 1 →
      ∃ t, exec (.boundary bits reach) s = .next t ∧ t.per.running = true ∧ t.per.t0 = s.per.next ∧ t.per.seq = 0 ∧ t.per.count = 1 ∧
        t.fld F.SYS_MODE_MODE = m ∧ t.per.departing = none) ∧
    (∀ (bits : List (Fin 96 × Nat)) (reach : Bool), s.per.running = false → s.per.step = none → s.per.departing = none →
      exec (.boundary bits reach) s = .next s ∧ exec .deadline s = .next s ∧ exec .midPeriodTransfer s = .next s)

/-- CAIRN_SEAL seals the oldest period without a sealed cairn once every position has posted its end marker, writing CHECK closes its bytes
(R23, R338), and nothing before; MIRROR_APPLY brings the oldest sealed cairn the mirror lacks into it, its delta entries in their order
(R339); BB_COPY_DONE completes the area being written with its length and CRC (R410).
Completes: CAIRN_SEAL, MIRROR_APPLY, BB_COPY_DONE. -/
def Obligations.CairnsSealAndMirror : Prop :=
  ∀ s : State,
    (∀ k c h, s.red.takeover = none → s.cairnOf (s.red.sealedCount + 1) = some (k, c) → s.headOf (s.red.sealedCount + 1) = some h →
      s.surv.bbDue = false ∨ s.bbWorn = false →
      (s.cairnWhole h c = true → ∃ t, exec .cairnSeal s = .next t ∧ t.red.sealedCount = s.red.sealedCount + 1 ∧
        t.per.sealed = s.red.sealedCount + 1 ∧ t.red.sealedSeq = c.seq ∧
        ∃ e ∈ t.red.cairns, e.2 = { c with sealSeq := c.seq, check := crc32 (cairnBytes c), sealed := true }) ∧
      (s.cairnWhole h c = false → exec .cairnSeal s = .next s)) ∧
    (s.red.takeover = none → s.cairnOf (s.red.sealedCount + 1) = none → exec .cairnSeal s = .next s) ∧
    (∀ e, s.red.cairns.find? (fun e => e.2.count == s.red.mirrorCount + 1 && e.2.sealed) = some e → s.surv.build = none →
      ∃ t, exec .mirrorApply s = .next t ∧ t.red.mirrorCount = e.2.count ∧ t.red.mirrorSeq = e.2.seq ∧
        t.red.mirror = e.2.entries.foldl s.mirrorEntry s.red.mirror ∧ t.red.cairns = s.red.cairns) ∧
    (s.red.cairns.find? (fun e => e.2.count == s.red.mirrorCount + 1 && e.2.sealed) = none → exec .mirrorApply s = .next s) ∧
    (∀ a body, s.surv.bbCopy = some (a, body) → ∃ t, exec .bbCopyDone s = .next t ∧ t.surv.bbCopy = none ∧
      t.bbArea a = { s.bbArea a with state := 2, len := body.length, crc := crc32 body, body := body } ∧
      ∀ k, k ≠ a → t.bbArea k = s.bbArea k) ∧
    (s.surv.bbCopy = none → exec .bbCopyDone s = .next s)

/-- The hub takes a word that stands first at both copies' ports of a pair (R22, R101, R132, R337): equal words are accepted, an output word
among the pair's outputs, a delta word into the cairn of the pair's period, an end marker ending that period; words that differ are not
accepted, the pair's outputs are withheld and LANE_MISMATCH is raised; a compare position from PER up to 0xF_FFFE is undefined (R242).
Completes: OUTPUT_WORD, DELTA_WORD, END_MARKER. -/
def Obligations.PairWordsCompared : Prop :=
  ∀ (u : Fin 2) (l : Fin 12) (s : State) (a b : Post) (r0 r1 : List Post) (q : Nat) (ps : List Nat),
    s.red.takeover = none → s.red.swap = none → s.red.migrate = none →
    (s.lane u.val l.val 0).posts = a :: r0 → (s.lane u.val l.val 1).posts = b :: r1 → (s.pair u.val l.val).periods = q :: ps →
    (s.pair u.val l.val).withheld = false →
    let run := fun (k : PostKind) => match k with
      | .output => exec (.outputWord u l) s
      | .delta => exec (.deltaWord u l) s
      | .endMark => exec (.endMarker u l) s
    (∀ k, a.kind ≠ k → run k = .next s) ∧
    (a ≠ b → ∃ t, run a.kind = .next t ∧ (t.pair u.val l.val).withheld = true ∧
      (t.pair u.val l.val).outputs = (s.pair u.val l.val).outputs ∧ (t.lane u.val l.val 0).posts = r0 ∧ (t.lane u.val l.val 1).posts = r1 ∧
      ∃ m ∈ t.msgs, m.source = sourceNo K.LANE_MISMATCH (12 * u.val + l.val)) ∧
    (a = b → ∀ port w, a = .output port w →
      (s.badCompare u.val l.val = true → exec (.outputWord u l) s = .fault .compareCoarse) ∧
      (s.badCompare u.val l.val = false → ∃ t, exec (.outputWord u l) s = .next t ∧
        (t.pair u.val l.val).outputs = (s.pair u.val l.val).outputs ++ [(port, w)] ∧
        (t.pair u.val l.val).digest = crc64 (s.pair u.val l.val).digest (postBytes a) ∧ (t.lane u.val l.val 0).posts = r0 ∧
        (t.lane u.val l.val 1).posts = r1 ∧ t.red.cairns = s.red.cairns)) ∧
    (a = b → ∀ e, a = .delta e → ∃ t, exec (.deltaWord u l) s = .next t ∧ (t.lane u.val l.val 0).posts = r0 ∧
      (t.pair u.val l.val).deltas = (s.pair u.val l.val).deltas + 1 ∧
      ∀ k c, s.builds u.val l.val = true → s.cairnOf q = some (k, c) → c.entries.length < 3248 →
        ∃ x ∈ t.red.cairns, x.2 = { c with entries := c.entries ++ [⟨l.val, (s.posOfPair u.val l.val).getD 0, e⟩] }) ∧
    (a = b → ∀ n f d, a = .endMark n f d → ∃ t, exec (.endMarker u l) s = .next t ∧ (t.pair u.val l.val).done = q ∧
      (t.pair u.val l.val).periods = ps ∧ t.fld F.SYS_SLACK_INSTR 0 (12 * u.val + l.val) = n % 2 ^ 32)

/-- RESTORATION_DONE marks the takeover, planned swap or migration under way as restored, unless its target is fenced or has lost its programs,
which fails the wake-up (R342, R343, R52). EVAL_WINDOW_END gives every loaded lane pair its ratio and starts the next window (R352). A full
cairn's read of a position whose copies differ is given up with LANE_MISMATCH (R404). A DRAM row that a scrub pass names is replaced while its
bank has a spare (R357). Completes: RESTORATION_DONE, EVAL_WINDOW_END, FULL_CAIRN_READ, DRAM_SCRUB. -/
def Obligations.RestorationAndWindows : Prop :=
  ∀ s : State,
    (∀ k, s.red.takeover = some k → k.restored = false → s.fenced (.unit k.incoming) = false →
      (s.unitLost k.incoming = false → ∃ t, exec .restorationDone s = .next t ∧
        t.red.takeover = some { k with restored := true, lastSealed := s.red.sealedCount, sealedSeq := s.red.sealedSeq }) ∧
      (s.unitLost k.incoming = true → k.incoming < 2 → ∃ t, exec .restorationDone s = .next t ∧ t.fenced (.unit k.incoming) = true ∧
        ∃ m ∈ t.msgs, m.source = sourceNo K.UNIT_READBACK k.incoming)) ∧
    (∀ w, s.red.takeover = none → s.red.swap = some w → w.restored = false → s.fenced (.unit w.incoming) = false → s.unitLost w.incoming = false →
      ∃ t, exec .restorationDone s = .next t ∧ t.red.swap = some { w with restored := true }) ∧
    (∀ m, s.red.takeover = none → s.red.swap = none → s.red.migrate = some m → m.restored = false → s.fenced (.lane m.unit m.spare) = false →
      ∃ t, exec .restorationDone s = .next t ∧ t.red.migrate = some { m with restored := true }) ∧
    (s.red.takeover = none → s.red.swap = none → s.red.migrate = none → exec .restorationDone s = .next s) ∧
    (let closes : Prop := (s.per.running = true ∧ s.red.windowStart + 2 ^ (s.fld F.RED_CFG_EVAL_LOG2 + 12) ≤ s.per.count);
      (closes → ∃ t, exec .evalWindowEnd s = .next t ∧ t.red.windowStart = s.per.count ∧
        (∀ l ∈ s.loadedLanes, (t.pair s.activeUnit l).ratio = s.windowRatio l ∧ (t.pair s.activeUnit l).sumWork = 0 ∧
          (t.pair s.activeUnit l).sumBusy = 0)) ∧
      (¬closes → exec .evalWindowEnd s = .next s)) ∧
    (∀ pos : Fin 10,
      let l := s.laneOf s.activeUnit pos.val
      (s.surv.build = none → exec (.fullCairnRead pos) s = .next s) ∧
      (∀ bd, s.surv.build = some bd → l < 12 → s.tasksAt pos.val ≠ [] → (s.pair s.activeUnit l).periods = [] →
        s.per.count ≤ (s.pair s.activeUnit l).done → bd.read.any (·.pos == pos.val) = false →
        s.now + 200 + (4 * (s.xTop pos.val + s.yTop pos.val) + 4) / 5 < s.per.next →
        ((∃ i < s.xTop pos.val, (s.lane s.activeUnit l 0).x.get i 0 ≠ (s.lane s.activeUnit l 1).x.get i 0) →
          ∃ t, exec (.fullCairnRead pos) s = .next t ∧ t.surv.build = none ∧ ∃ m ∈ t.msgs, kindOf m.source = K.LANE_MISMATCH) ∧
        ((s.lane s.activeUnit l 0).x = (s.lane s.activeUnit l 1).x → (s.lane s.activeUnit l 0).y = (s.lane s.activeUnit l 1).y →
          ∃ t, exec (.fullCairnRead pos) s = .next t ∧ ∀ bd', t.surv.build = some bd' →
            bd'.read = bd.read ++ [⟨pos.val, s.per.count, (s.lane s.activeUnit l 0).x, (s.lane s.activeUnit l 0).y⟩]))) ∧
    (∀ row : Fin 32 × Fin 65536,
      let place := row.1.val * 2 ^ 16 + row.2.val
      let used := ((s.repairsOf 1).filter fun r => r / 2 ^ 16 == row.1.val).length
      (used < 64 → ∃ t, exec (.dramScrub [row]) s = .next t ∧ t.red = { s.red with repairs := s.red.repairs ++ [(1, place)] }) ∧
      (64 ≤ used → exec (.dramScrub [row]) s = .next s) ∧ exec (.dramScrub []) s = .next s)

/-! ### Fault collection -/

/-- FAULT_EVENT hands the oldest event on its way to the collector: one with an onset of a listed kind latches its source number and joins
the history of the interval, unless its source number raised one in the same tick (R372); the end of a condition clears its live bit and latches nothing (R361, R368, R370). An event that no command
brings about goes behind those on their way; a disturbed word of a lane memory raises nothing by itself (R102; the model's reading, log
entry 84). ALIVE toggles at the multiples of ALIVE_HALF while it runs (R378). Completes: FAULT_EVENT, ALIVE_TOGGLE. -/
def Obligations.EventsReachTheCollector : Prop :=
  ∀ s : State,
    (s.msgs = [] → exec (.faultEvent none) s = .next s) ∧
    (∀ m r row, s.msgs = m :: r → kindRow (kindOf m.source) = some row →
      (m.on = true → s.repeated m = false → (row.live = false ∨ m.forced = true ∨ s.isLive m.source = false) →
        ∃ t, exec (.faultEvent none) s = .next t ∧ (∃ x ∈ t.flt.latched, x.source = m.source) ∧
          t.flt.history = s.flt.history ++ [(m.source, s.flt.interval)] ∧ t.flt.interval = s.flt.interval ∧ t.time = s.time) ∧
      (m.on = false → ∃ t, exec (.faultEvent none) s = .next t ∧ t.msgs = r ∧ m.source ∉ t.flt.live ∧ t.flt.latched = s.flt.latched ∧
        t.flt.history = s.flt.history)) ∧
    (∀ e : ExtEvent, (s.boot.resetLow = true ∨ (ExtEvent.ok e = false ∧ e.kind ≠ K.LANE_PARITY) → exec (.faultEvent (some e)) s = .next s) ∧
      (s.boot.resetLow = false → ExtEvent.ok e = true → s.msgs = [] → e.kind = K.HUB_CHECK →
        (sourceNo K.HUB_CHECK e.inst, s.now) ∉ s.flt.stamps →
        ∃ t, exec (.faultEvent (some e)) s = .next t ∧ (∃ x ∈ t.flt.latched, x.source = sourceNo K.HUB_CHECK e.inst) ∧
          t.flt.history = s.flt.history ++ [(sourceNo K.HUB_CHECK e.inst, s.flt.interval)]) ∧
      (s.boot.resetLow = false → e.kind = K.LANE_PARITY → e.inst < 24 → e.addr.val < (upsetMem e.sub.val).size →
        ∃ t, exec (.faultEvent (some e)) s = .next t ∧ t = { s with lanes := t.lanes } ∧
          (upsetMem e.sub.val, e.addr.val) ∈ (t.lane (e.inst / 12) (e.inst % 12) (e.sub.val % 2)).badParity ∧
          ∀ u l c, l < 12 → c < 2 → (u, l, c) ≠ (e.inst / 12, e.inst % 12, e.sub.val % 2) → t.lane u l c = s.lane u l c)) ∧
    (s.fld F.SYS_BOOT_STAGE ≠ 7 ∨ s.time.running = false → exec .aliveToggle s = .next s) ∧
    (s.fld F.SYS_BOOT_STAGE = 7 → s.time.running = true →
      let half := clampNat (s.fld F.FLT_CFG_ALIVE_HALF) 20000 4000000
      let w := s.until ((s.now / half + 1) * half)
      ∃ t, exec .aliveToggle s = .next t ∧
        t = { w with flt := { w.flt with alive := w.aliveRuns && decide (w.now / half % 2 = 1) } } ∧
        (w.safeLatched = true → t.flt.alive = false))

/-! ### PWM instants -/

/-- Edges, dead times, held pulses and triggers of the PWM generator (R242, R247 to R249, R252, R259, R265), with no event on its way:
PWM_EDGE follows the leg to its next level; DEAD_TIME_EXPIRY, and MIN_PULSE_EXPIRY for a turn-off held by MINP, make the one change that is
still to come of a switch at the instant the rules allow, or suppress a pulse that would be too short, and count what R248, R249 and R252
count; a change of the commanded level at that very instant is taken first (R247); TRIGGER_FIRE notes the
instant of the trigger. Where none is due nothing changes.
Completes: PWM_EDGE, DEAD_TIME_EXPIRY, MIN_PULSE_EXPIRY, TRIGGER_FIRE. -/
def Obligations.PwmChangesFallDue : Prop :=
  ∀ (g : Fin 32) (s : State), s.msgs = [] →
    (∀ l : Fin 3,
      (s.gstate g.val ≠ gDriving ∨ s.carrierRuns g.val = false ∨ s.nextEdge g.val l.val = none → exec (.pwmEdge g l) s = .next s) ∧
      (∀ e, s.gstate g.val = gDriving → s.carrierRuns g.val = true → s.nextEdge g.val l.val = some e → s.threeLevel g.val = false →
        ∃ t, exec (.pwmEdge g l) s = .next t ∧ (t.grp g.val).levelAt.get l.val 0 = e ∧
          (t.grp g.val).level.get l.val false = s.legLevel g.val l.val (s.carrier g.val e) ∧ ∀ h, h ≠ g.val → t.grp h = s.grp h)) ∧
    (∀ (k : Fin 6) (held : Bool),
      let go := if held then exec (.minPulseExpiry g k) s else exec (.deadTimeExpiry g k) s
      ((s.sw g.val k.val).pend = none → go = .next s) ∧
      (∀ c, (s.sw g.val k.val).pend = some c →
        (s.changeAt g.val k.val c = none ∨ (c.kind == .held) ≠ held → go = .next s) ∧
        (∀ e d, s.changeAt g.val k.val c = some (e, d) → (c.kind == .held) = held →
          let w := (s.until (tickOf e)).levelFirst g.val k.val e c
          ((c.on = false ∨ c.kind ≠ .pulse) → w = s.until (tickOf e) ∧ (w.sw g.val k.val).pend = some c) ∧
          ((w.sw g.val k.val).pend ≠ some c → go = .next w) ∧
          ((w.sw g.val k.val).pend = some c → ∃ t, go = .next t ∧
            (t.sw g.val k.val).pend = none ∧ (∀ h, h ≠ g.val → t.grp h = w.grp h) ∧
            (∀ j, j ≠ k.val → t.sw g.val j = w.sw g.val j) ∧
            (c.on = true → c.kind = .pulse → w.suppressed g.val k.val e = true →
              (t.sw g.val k.val).on = (w.sw g.val k.val).on ∧
              t.fld F.PWMG_STATUS_PULSE_EATEN g.val = min (w.fld F.PWMG_STATUS_PULSE_EATEN g.val + 1) 0xFFFF) ∧
            (¬(c.on = true ∧ c.kind = .pulse ∧ w.suppressed g.val k.val e = true) →
              (t.sw g.val k.val).on = c.on ∧
              ((w.sw g.val k.val).on ≠ c.on →
                (if c.on then (t.sw g.val k.val).onAt else (t.sw g.val k.val).offAt) = e) ∧
              t.fld F.PWMG_STATUS_PULSE_HELD g.val =
                (if c.kind = .held ∨ (d = true ∧ c.kind = .pulse) then min (w.fld F.PWMG_STATUS_PULSE_HELD g.val + 1) 0xFFFF
                 else w.fld F.PWMG_STATUS_PULSE_HELD g.val)))))) ∧
    (∀ b : Bool,
      (s.trigInstant g.val b = none → exec (.triggerFire g b) s = .next s) ∧
      (∀ e, s.trigInstant g.val b = some e → ∃ t, exec (.triggerFire g b) s = .next t ∧
        (if b then (t.grp g.val).firedB else (t.grp g.val).firedA) = some (tickOf e) ∧
        (if b then (t.grp g.val).firedA = (s.grp g.val).firedA else (t.grp g.val).firedB = (s.grp g.val).firedB) ∧ t.objs = s.objs))

/-- Trip inputs (R260 to R262): an input that becomes active trips every group that names it outside its blanking window, with the input as
TRIP_SRC and its first sample as TRIP_TIME, and raises TRIP_INPUT when it trips one; one that becomes inactive ends its condition; at the
end of a blanking window an input still active trips the group. While the time base stands an input acts without its filter (R267), and while
RESET_N is low inputs are ignored (R45). Completes: TRIP_INPUT, TRIP_INPUT_INACTIVE, TRIP_AFTER_BLANKING. -/
def Obligations.TripInputsTrip : Prop :=
  ∀ (n : Fin 32) (s : State),
    (s.boot.resetLow = true ∨ s.nth F.PWM_TRIPIN_LIVE n.val = true → exec (.tripInput n) s = .next s) ∧
    (s.boot.resetLow = false → s.nth F.PWM_TRIPIN_LIVE n.val = false → ∃ t, exec (.tripInput n) s = .next t ∧ t.nth F.PWM_TRIPIN_LIVE n.val = true ∧
      (∀ g ∈ s.tripTargets n.val, t.bit F.PWMG_STATUS_TRIPPED g = true ∧
        (s.bit F.PWMG_STATUS_TRIPPED g = false → t.fld F.PWMG_STATUS_TRIP_SRC g = n.val ∧
          t.fld F.PWMG_STATUS_TRIP_TIME g =
            (if s.time.running then s.now - s.fld F.PWM_TRIPIN_FILTER else s.now) % 2 ^ 64)) ∧
      ((∃ g ∈ s.tripTargets n.val, s.bit F.PWMG_STATUS_TRIPPED g = false) → ∃ m ∈ t.msgs, m.source = sourceNo K.TRIP_INPUT n.val) ∧
      ((∀ g ∈ s.tripTargets n.val, s.bit F.PWMG_STATUS_TRIPPED g = true) → t.msgs = s.msgs ∧ t.groups = s.groups)) ∧
    (s.boot.resetLow = false → s.nth F.PWM_TRIPIN_LIVE n.val = true → ∃ t, exec (.tripInputInactive n) s = .next t ∧ t.nth F.PWM_TRIPIN_LIVE n.val = false ∧
      t.groups = s.groups ∧ t.msgs = s.msgs ++ [{ source := sourceNo K.TRIP_INPUT n.val, on := false, off := true, stamp := s.now }]) ∧
    (s.boot.resetLow = true ∨ s.nth F.PWM_TRIPIN_LIVE n.val = false → exec (.tripInputInactive n) s = .next s) ∧
    (∀ g : Fin 32,
      (s.blankEnd g.val = none → exec (.tripAfterBlanking g n) s = .next s) ∧
      (∀ e, s.blankEnd g.val = some e →
        let w := s.until e
        (w.nth F.PWM_TRIPIN_LIVE n.val = true → w.nth F.PWMG_CFG_TRIP_MASK n.val g.val = true →
          w.bit F.PWMG_STATUS_TRIPPED g.val = false → w.blanked g.val = false →
          ∃ t, exec (.tripAfterBlanking g n) s = .next t ∧ t.bit F.PWMG_STATUS_TRIPPED g.val = true ∧
            t.fld F.PWMG_STATUS_TRIP_SRC g.val = n.val ∧ t.fld F.PWMG_STATUS_TRIP_TIME g.val = w.now % 2 ^ 64) ∧
        (w.nth F.PWM_TRIPIN_LIVE n.val = false → exec (.tripAfterBlanking g n) s = .next w)))

/-! ### Feedback, emulation, current sensing -/

/-- Feedback channels in the tick of the event (R271 to R276, R282 to R287): levels that have held for FILTER samples beyond the first are
accepted, and others do nothing; a quadrature step moves the count by one in its direction, and a double step counts a QUAD_ERR and raises
QUAD_ERROR; a first valid Hall state sets the count to its sector; Z that becomes active with its gate open latches the count; a frame due
while one runs is skipped; a frame that completes is judged, a late one bad, and a jump of half the range undefined (R460); a Karsel timeout
ends the frame as bad.
Completes: QUAD_CHANGE, HALL_CHANGE, INDEX_EDGE, SERIAL_FRAME_START, SERIAL_FRAME_COMPLETE, KARSEL_TIMEOUT. -/
def Obligations.FeedbackEvents : Prop :=
  ∀ (n : Fin 32) (s : State), s.per.measured ≠ some s.now → s.boot.resetLow = false → s.fenced (.fb n.val) = false →
    (∀ (a b z : Bool) (held : Fin 256), held.val < s.fld F.FB_CFG_FILTER n.val →
      exec (.quadChange ⟨n, held⟩ a b) s = .next s ∧ exec (.hallChange ⟨n, held⟩ a b z) s = .next s ∧ exec (.indexEdge ⟨n, z, held⟩) s = .next s) ∧
    (∀ (a b : Bool) (held : Fin 256), s.fld F.FB_CFG_MODE n.val = 1 → s.fld F.FB_CFG_FILTER n.val ≤ held.val →
      s.bit F.FB_CFG_Z_EN n.val = false ∨ (s.fbs n.val).zIdle = false →
      let d := (4 + quadState a b - quadState ((s.fbs n.val).lvl 0) ((s.fbs n.val).lvl 1)) % 4
      (d = 1 ∨ d = 3 → ∃ t, exec (.quadChange ⟨n, held⟩ a b) s = .next t ∧
        (t.fbs n.val).count = uint 32 ((s.fbs n.val).count + (if (d == 1) != s.bit F.FB_CFG_INV_DIR n.val then 1 else -1)) ∧
        (t.fbs n.val).levels % 4 = a.toNat + 2 * b.toNat ∧ ∀ k, k ≠ n.val → t.fbs k = s.fbs k) ∧
      (d = 2 → ∃ t, exec (.quadChange ⟨n, held⟩ a b) s = .next t ∧ (t.fbs n.val).count = (s.fbs n.val).count ∧
        ((s.fbs n.val).quadErr < 0xFFFF → (t.fbs n.val).quadErr = (s.fbs n.val).quadErr + 1) ∧
        ∃ m ∈ t.msgs, m.source = sourceNo K.QUAD_ERROR n.val)) ∧
    (∀ (a b z : Bool) (held : Fin 256), s.fld F.FB_CFG_MODE n.val = 2 → s.fld F.FB_CFG_FILTER n.val ≤ held.val →
      (∀ x, s.hallUsed n.val (a.toNat + 2 * b.toNat + 4 * z.toNat) = some x → (s.fbs n.val).sector = none →
        ∃ t, exec (.hallChange ⟨n, held⟩ a b z) s = .next t ∧ (t.fbs n.val).count = x ∧ (t.fbs n.val).valid = true ∧
          (t.fbs n.val).sector = some x) ∧
      (s.hallUsed n.val (a.toNat + 2 * b.toNat + 4 * z.toNat) = none → (s.fbs n.val).hallBad = false →
        ∃ t, exec (.hallChange ⟨n, held⟩ a b z) s = .next t ∧ (t.fbs n.val).valid = false ∧ (t.fbs n.val).count = (s.fbs n.val).count ∧
          ∃ m ∈ t.msgs, m.source = sourceNo K.HALL_INVALID n.val)) ∧
    (∀ (z : Bool) (held : Fin 256), s.fld F.FB_CFG_MODE n.val = 1 → s.fld F.FB_CFG_FILTER n.val ≤ held.val →
      (z = s.bit F.FB_CFG_Z_HIGH n.val → s.bit F.FB_CFG_Z_EN n.val = true → s.gateOpen n.val = true → (s.fbs n.val).zIdle = true →
        ∃ t, exec (.indexEdge ⟨n, z, held⟩) s = .next t ∧ (t.fbs n.val).indexCount = (s.fbs n.val).count ∧ (t.fbs n.val).indexSeen = true ∧
          (t.fbs n.val).zIdle = false) ∧
      (z ≠ s.bit F.FB_CFG_Z_HIGH n.val → ∃ t, exec (.indexEdge ⟨n, z, held⟩) s = .next t ∧ t = { s with fb := t.fb } ∧
        t.fbs n.val = { s.fbs n.val with levels := (s.fbs n.val).levels % 4 + 4 * z.toNat, zIdle := true } ∧
        ∀ k, k ≠ n.val → t.fbs k = s.fbs k)) ∧
    (s.fbSerial n.val = true → s.frameByTime n.val = false → s.frameTrigger n.val = true →
      ((s.fbs n.val).frame.isSome = true → ∃ t, exec (.serialFrameStart n) s = .next t ∧ (t.fbs n.val).frame = (s.fbs n.val).frame ∧
        ((s.fbs n.val).skipped < 0xFFFF → (t.fbs n.val).skipped = (s.fbs n.val).skipped + 1)) ∧
      ((s.fbs n.val).frame = none → (s.fbs n.val).idleFrom = none → ∃ t f, exec (.serialFrameStart n) s = .next t ∧
        (t.fbs n.val).frame = some f ∧ f.start = s.now ∧ (f.cmd, f.arg) = (s.fbs n.val).go.getD (1, 0) ∧ (t.fbs n.val).go = none)) ∧
    ((s.fbs n.val).frame = none → exec (.karselTimeout n) s = .next s ∧
      ∀ (hd : Bool) (dl : Fin 65536) (bits : Nat), exec (.serialFrameComplete n hd dl bits) s = .next s) ∧
    (∀ f, (s.fbs n.val).frame = some f → s.msgs = [] →
      (s.fbMode n.val = 4 → ∃ t, exec (.karselTimeout n) s = .next t ∧ (t.fbs n.val).frame = none ∧
        (f.cmd = 1 → ∃ m ∈ t.msgs, m.source = sourceNo K.SERIAL_FRAME n.val)) ∧
      (∀ (hd : Bool) (dl : Fin 65536) (bits : Nat), s.fbMode n.val = 4 → dl.val = 0 →
        ∃ t, exec (.serialFrameComplete n hd dl bits) s = .next t ∧ (t.fbs n.val).frame = none ∧
          (f.cmd = 1 → (t.fbs n.val).badRun = (s.fbs n.val).badRun + 1)) ∧
      (∀ (hd : Bool) (bits : Nat), s.fbMode n.val = 3 →
        let r := s.readSsi n.val hd bits
        let at_ := max s.now (s.lastSample n.val f 0 0 + 8)
        (s.serJump n.val f at_ r = false →
          ∃ t, exec (.serialFrameComplete n hd 0 bits) s = .next t ∧ (t.fbs n.val).frame = none ∧
            (r.bad ≠ 0 ∨ s.frameLate f at_ = true → (t.fbs n.val).badRun = (s.fbs n.val).badRun + 1 ∧
              ∃ m ∈ t.msgs, m.source = sourceNo K.SERIAL_FRAME n.val)) ∧
        (s.serJump n.val f at_ r = true → exec (.serialFrameComplete n hd 0 bits) s = .fault .serialJump)))

/-- EMU_STEP moves an emulation counter by one count toward its target, and a lag of 2^31 counts is undefined (R292, Table 17.2). A comparator
whose last FILT + 1 outputs lie outside LO to HI becomes active, counts, and raises OVERCURRENT, and becomes inactive after as many
inside (R299). An input whose bits stay the same for STUCK clocks raises SD_STUCK, and a change clears the condition (R300).
Completes: EMU_STEP, OVERCURRENT_COMPARATOR, COMPARATOR_INACTIVE, SD_STUCK, SD_STUCK_END. -/
def Obligations.EmulationAndCurrentEvents : Prop :=
  ∀ s : State,
    (∀ e : Fin 8,
      let d := s32diff (s.emuTarget e.val) (s.emus e.val).counter
      (d = -(2 ^ 31) → exec (.emuStep e) s = .fault .emuLag) ∧
      (s.fld F.EMU_CFG_MODE e.val = 3 ∨ (d = 0 ∧ (s.emus e.val).lastStep = none) → d ≠ -(2 ^ 31) → exec (.emuStep e) s = .next s) ∧
      (d ≠ -(2 ^ 31) → d ≠ 0 → s.fld F.EMU_CFG_MODE e.val ≠ 3 → (s.emus e.val).lastStep = none → ∃ t, exec (.emuStep e) s = .next t ∧
        (t.emus e.val).counter = uint 32 ((s.emus e.val).counter + (if d < 0 then -1 else 1)) ∧
        (t.emus e.val).lastStep = some s.now ∧ t = { s with emu := t.emu } ∧ ∀ k, k ≠ e.val → t.emus k = s.emus k)) ∧
    (∀ (i : Fin 96) (line : Nat),
      (s.boot.resetLow = false → s.ocOn i.val = true → (s.sds i.val).ocActive = false → s.ocSteady i.val line true = true →
        ∃ t, exec (.overcurrentComparator i line) s = .next t ∧ (t.sds i.val).ocActive = true ∧
          ((s.sds i.val).ocCnt < 0xFFFF → (t.sds i.val).ocCnt = (s.sds i.val).ocCnt + 1) ∧
          (∃ m ∈ t.msgs, m.source = sourceNo K.OVERCURRENT i.val) ∧
          ∀ g ∈ s.ocGroups i.val, t.bit F.PWMG_STATUS_TRIPPED g = true ∧
            (s.bit F.PWMG_STATUS_TRIPPED g = false → t.fld F.PWMG_STATUS_TRIP_SRC g = 0x20 + i.val)) ∧
      (s.boot.resetLow = true ∨ s.ocOn i.val = false ∨ (s.sds i.val).ocActive = true ∨ s.ocSteady i.val line true = false →
        exec (.overcurrentComparator i line) s = .next s) ∧
      ((s.sds i.val).ocActive = true → s.ocSteady i.val line false = true → ∃ t, exec (.comparatorInactive i line) s = .next t ∧
        (t.sds i.val).ocActive = false ∧
        t.msgs = s.msgs ++ [{ source := sourceNo K.OVERCURRENT i.val, on := false, off := true, stamp := s.now }] ∧ t.groups = s.groups) ∧
      ((s.sds i.val).ocActive = false ∨ s.ocSteady i.val line false = false → exec (.comparatorInactive i line) s = .next s)) ∧
    (∀ (i : Fin 96) (line : Nat),
      let n := s.fld F.CS_CFG_STUCK i.val
      (s.boot.resetLow = false → s.bit F.CS_CFG_EN i.val = true → n ≠ 0 → (s.sds i.val).stuck = false → s.sdSame i.val line n = true →
        ∃ t, exec (.sdStuck i line) s = .next t ∧ (t.sds i.val).stuck = true ∧ t = { s with sd := t.sd, msgs := t.msgs } ∧
          t.msgs = s.msgs ++ [{ source := sourceNo K.SD_STUCK i.val, data := s.sdBitsNow i.val line 1, dlen := 1, stamp := s.now }]) ∧
      (s.sdSame i.val line n = false ∨ (s.sds i.val).stuck = true → exec (.sdStuck i line) s = .next s) ∧
      ((s.sds i.val).stuck = true → s.sdSame i.val line 2 = false → ∃ t, exec (.sdStuckEnd ⟨i, line⟩) s = .next t ∧
        (t.sds i.val).stuck = false ∧ t = { s with sd := t.sd, msgs := t.msgs }) ∧
      ((s.sds i.val).stuck = false ∨ s.sdSame i.val line 2 = true → exec (.sdStuckEnd ⟨i, line⟩) s = .next s))

/-! ### Time and networks -/

/-- PTP and the Ethernet ports (R309, R312 to R317, R319 to R321, R332; the protocol's own rules: log entry 99). A port that takes no part in
PTP discards and counts what it receives. A one-step Sync of the port's master gives one servo update from its offset: beyond STEP_THR with
STEP_EN it steps PTP time by −o and raises TIME_STEP; without STEP_EN it moves the integral and f of the servo within ADJ_MAX. A message sent
takes the next sequenceId of its type; a transmit stamp enters its queue, or is dropped when 16 wait, and a one-step Sync carries it; a
Follow_Up carries the stamp of its Sync, an answer the receive stamp of its request, and the answers give the path delay. A slave port that
times out leaves the servo in HOLDOVER, and a change of grandmaster raises GM_CHANGE. Links come up and go down; a frame of an unaccepted kind
or with a bad check sequence is counted. A cyclic frame due is sent on its ports under its SEQ; one received is held for its channel, counted
late, or discarded, and its payload reads back as it was formed. Completes: SYNC_RECEIVED, PTP_MESSAGE_TX, PTP_MESSAGE_RX, TX_TIMESTAMP,
ANNOUNCE_RECEIPT_TIMEOUT, ETH_LINK_CHANGE, ETH_FRAME_RX, CYC_FRAME_SEND, CYC_FRAME_RX. -/
def Obligations.PortsAndCyclicFrames : Prop :=
  (∀ f : CycFrame, f.wf = true → cycRead (cycPayload f) = some f) ∧
  ∀ (p : Fin 3) (s : State),
    let e := s.eths p.val
    let counted := fun (t : State) => t = { s with net := t.net } ∧ (e.dropped < 0xFFFF → (t.eths p.val).dropped = e.dropped + 1)
    (∀ (m : PtpMsg) (sub : Fin 16),
      (s.portUp p.val = false → exec (.syncReceived p ⟨m, sub⟩) s = .next s ∧ exec (.ptpMessageRx p m.mtype m.domain m.seqId m.src m.req m.toPtpBody sub) s = .next s) ∧
      (s.portUp p.val = true → s.bit F.ETH_CFG_PTP_EN p.val = false →
        ∃ t, exec (.syncReceived p ⟨m, sub⟩) s = .next t ∧ exec (.ptpMessageRx p m.mtype m.domain m.seqId m.src m.req m.toPtpBody sub) s = .next t ∧ counted t) ∧
      (s.ptpPort p.val = true → m.twoStep = false → m.domain = s.fld F.TIME_CFG_DOMAIN → s.time.slavePort = p.val → m.src = e.parent →
        let o := wholeNs ((s.rcvdAt p.val sub.val : Int) - m.time * 2 ^ 16 - m.corr - s.asym p.val - e.meanPathDelay)
        (s.bit F.TIME_CFG_STEP_EN = true → max (s.fld F.TIME_CFG_STEP_THR) 100 < o.natAbs →
          ∃ t, exec (.syncReceived p ⟨m, sub⟩) s = .next t ∧ t.time.ptp = ((s.time.ptp : Int) - o * 2 ^ 16).toNat ∧ t.time.integ = 0 ∧
            t.time.servo = 1 ∧ t.time.offset = o ∧ t.time.freq = s.time.freq ∧ t.time.mt = s.time.mt ∧
            ∃ x ∈ t.msgs, x.source = sourceNo K.TIME_STEP 0) ∧
        (s.bit F.TIME_CFG_STEP_EN = false →
          ∃ t, exec (.syncReceived p ⟨m, sub⟩) s = .next t ∧ t.time.ptp = s.time.ptp ∧ t.time.offset = o ∧
            t.time.integ = max (-s.adjLimit) (min s.adjLimit (s.time.integ + sint 24 (s.fld F.TIME_CFG_KI) * o)) ∧
            t.time.freq = max (-s.adjLimit) (min s.adjLimit (sint 24 (s.fld F.TIME_CFG_KP) * o + t.time.integ)) ∧
            (s.mode ≠ .configure → t = { s with time := t.time, net := t.net }))) ∧
      (s.ptpPort p.val = true → m.domain = s.fld F.TIME_CFG_DOMAIN → s.time.slavePort = p.val → m.src = e.parent → m.twoStep = true →
        ∃ t, exec (.syncReceived p ⟨m, sub⟩) s = .next t ∧ t = { s with net := t.net } ∧
          (t.eths p.val).syncHalf = some ⟨m.seqId, m.src, s.rcvdAt p.val sub.val, 0, m.corr⟩)) ∧
    (∀ (mtype : Fin 16) (seqId : Fin 65536),
      let fu := mtype.val = mtFollowUp ∨ mtype.val = mtPdelayRespFu
      (s.ptpPort p.val = false → exec (.ptpMessageTx p mtype seqId) s = .next s) ∧
      (s.ptpPort p.val = true → ¬fu → e.portState ≠ psPreMaster → s.msgs = [] → e.nextTx.get mtype.val 0 ≤ s.now →
        (s.sendsOnInterval p.val mtype.val = false → exec (.ptpMessageTx p mtype seqId) s = .next s) ∧
        (s.sendsOnInterval p.val mtype.val = true →
          let n := e.nextSeqId.get mtype.val 0
          ∃ t x, exec (.ptpMessageTx p mtype seqId) s = .next t ∧ (t.eths p.val).nextSeqId.get mtype.val 0 = (n + 1) % 2 ^ 16 ∧
            (t.eths p.val).nextTx.get mtype.val 0 = s.now + s.ptpTicks p.val mtype.val ∧
            t.net.ptpSent = s.net.ptpSent ++ [x] ∧ x.port = p.val ∧ x.at_ = s.now ∧ x.msg.mtype = mtype.val ∧ x.msg.seqId = n ∧
            x.msg.domain = s.fld F.TIME_CFG_DOMAIN ∧ x.msg.src = s.portId p.val ∧
            x.head = s.ethHead p.val (s.ptpDst mtype.val) 0x88F7 ∧ t = { s with net := t.net } ∧ ∀ q, q ≠ p.val → t.eths q = s.eths q)) ∧
      (s.ptpPort p.val = true → mtype.val = mtFollowUp →
        (e.awaited.contains (mtSync, seqId.val) = false → exec (.ptpMessageTx p mtype seqId) s = .next s) ∧
        (∀ y r, e.awaited.contains (mtSync, seqId.val) = true → e.txq = y :: r → y.mtype = mtSync → y.seqId = seqId.val →
          ∃ t x, exec (.ptpMessageTx p mtype seqId) s = .next t ∧ (t.eths p.val).txq = r ∧ t.net.ptpSent = s.net.ptpSent ++ [x] ∧
            x.port = p.val ∧ x.msg.mtype = mtFollowUp ∧ x.msg.seqId = seqId.val ∧
            (x.msg.time * 2 ^ 16 : Int) + x.msg.corr = y.stamp ∧ t = { s with net := t.net }))) ∧
    (∀ (mtype : Fin 4) (seqId : Fin 65536) (sub : Fin 16),
      let stamp := s.ptpAt sub.val + (if p.val = 2 then s.fld F.ETH_CFG_TX_LAT 2 else 0)
      (s.fenced (.eth p.val) = true ∨ s.boot.resetLow = true → exec (.txTimestamp p mtype ⟨seqId, sub⟩) s = .next s) ∧
      (s.fenced (.eth p.val) = false → s.boot.resetLow = false →
        (mtype.val = mtSync ∧ s.bit F.ETH_CFG_ONE_STEP p.val = true → ∃ t, exec (.txTimestamp p mtype ⟨seqId, sub⟩) s = .next t ∧
          t = { s with net := { s.net with ptpSent := t.net.ptpSent } } ∧ t.net.ptpSent.length = s.net.ptpSent.length ∧
          ∀ x ∈ s.net.ptpSent, x.port = p.val → x.msg.mtype = mtSync → x.msg.seqId = seqId.val → x.msg.time = 0 →
            { x with msg := { x.msg with time := stamp / 2 ^ 16, corr := x.msg.corr + (stamp % 2 ^ 16 : Nat) } } ∈ t.net.ptpSent) ∧
        (mtype.val ≠ mtSync ∨ s.bit F.ETH_CFG_ONE_STEP p.val = false →
          (e.txq.length < 16 → ∃ t, exec (.txTimestamp p mtype ⟨seqId, sub⟩) s = .next t ∧
            (t.eths p.val).txq = e.txq ++ [⟨seqId.val, mtype.val, stamp, s.mtAt sub.val⟩] ∧ t = { s with net := t.net }) ∧
          (16 ≤ e.txq.length → ∃ t, exec (.txTimestamp p mtype ⟨seqId, sub⟩) s = .next t ∧
            (t.eths p.val).txq = e.txq ∧ (t.eths p.val).txqOvf = true ∧
            ∃ x ∈ t.msgs, x.source = sourceNo K.TXQ_OVERFLOW p.val)))) ∧
    (∀ (m : PtpMsg) (sub : Fin 16), s.ptpPort p.val = true → e.portState ≠ psPreMaster →
      (m.mtype = 0xC ∨ m.mtype = 0xD → ∃ t, exec (.ptpMessageRx p m.mtype m.domain m.seqId m.src m.req m.toPtpBody sub) s = .next t ∧ counted t) ∧
      (m.domain = s.fld F.TIME_CFG_DOMAIN →
        (m.mtype = mtDelayReq → e.portState = psMaster → s.peerDelay p.val = false →
          ∃ t x, exec (.ptpMessageRx p m.mtype m.domain m.seqId m.src m.req m.toPtpBody sub) s = .next t ∧ t.net.ptpSent = s.net.ptpSent ++ [x] ∧ x.port = p.val ∧
            x.msg.mtype = mtDelayResp ∧ x.msg.seqId = m.seqId ∧ x.msg.req = m.src ∧
            (x.msg.time * 2 ^ 16 : Int) - x.msg.corr = s.rcvdAt p.val sub.val - m.corr ∧ t = { s with net := t.net }) ∧
        (m.mtype = mtPdelayReq → s.peerDelay p.val = true →
          ∃ t x, exec (.ptpMessageRx p m.mtype m.domain m.seqId m.src m.req m.toPtpBody sub) s = .next t ∧ t.net.ptpSent = s.net.ptpSent ++ [x] ∧ x.port = p.val ∧
            x.msg.mtype = mtPdelayResp ∧ x.msg.seqId = m.seqId ∧ x.msg.req = m.src ∧
            (x.msg.time * 2 ^ 16 : Int) - x.msg.corr = s.rcvdAt p.val sub.val ∧ t = { s with net := t.net }) ∧
        (∀ y r ms, m.mtype = mtDelayResp → s.peerDelay p.val = false → m.req = s.portId p.val → s.time.slavePort = p.val →
          m.src = e.parent → e.awaited.contains (mtDelayReq, m.seqId) = true → e.txq = y :: r → y.mtype = mtDelayReq → y.seqId = m.seqId →
          e.msDiff = some ms → ∃ t, exec (.ptpMessageRx p m.mtype m.domain m.seqId m.src m.req m.toPtpBody sub) s = .next t ∧ (t.eths p.val).txq = r ∧
            (t.eths p.val).meanPathDelay = (ms + (m.time * 2 ^ 16 - y.stamp - m.corr)) / 2 ∧ t = { s with net := t.net }) ∧
        (∀ y r h, m.mtype = mtPdelayRespFu → e.pdHalf = some h → m.req = s.portId p.val → h.seqId = m.seqId → h.src = m.src →
          e.awaited.contains (mtPdelayReq, m.seqId) = true → e.txq = y :: r → y.mtype = mtPdelayReq → y.seqId = m.seqId →
          ∃ t, exec (.ptpMessageRx p m.mtype m.domain m.seqId m.src m.req m.toPtpBody sub) s = .next t ∧ (t.eths p.val).txq = r ∧
            (t.eths p.val).meanPathDelay =
              ((h.stamp : Int) - y.stamp - ((m.time : Int) - h.time) * 2 ^ 16 - h.corr - m.corr - s.asym p.val) / 2 ∧
            t = { s with net := t.net }) ∧
        (m.mtype = mtAnnounce →
          (m.src / 2 ^ 16 = s.clockId → exec (.ptpMessageRx p m.mtype m.domain m.seqId m.src m.req m.toPtpBody sub) s = .next s) ∧
          (m.src / 2 ^ 16 ≠ s.clockId → m.clock.steps < 255 → ∃ t, exec (.ptpMessageRx p m.mtype m.domain m.seqId m.src m.req m.toPtpBody sub) s = .next t ∧
            (∃ f ∈ (t.eths p.val).foreign, f.src = m.src ∧ f.clock = m.clock ∧ f.times.head? = some s.now) ∧
            (t.time.gmId ≠ s.time.gmId → ∃ x ∈ t.msgs, x.source = sourceNo K.GM_CHANGE 0) ∧
            (t.time.servo = 3 → s.time.servo ≠ 3 → ∃ x ∈ t.msgs, x.source = sourceNo K.HOLDOVER 0) ∧ t.time.ptp = s.time.ptp)))) ∧
    (s.ptpPort p.val = false → exec (.announceReceiptTimeout p () () ()) s = .next s) ∧
    (s.ptpPort p.val = true → (∀ q, q ≠ p.val → (s.eths q).foreign = []) → s.msgs = [] →
      e.annAt + clampNat (s.fld F.ETH_CFG_ANN_TO p.val) 2 15 * s.ptpTicks p.val mtAnnounce ≤ s.now →
      let st := if s.bit F.TIME_CFG_SLAVE_ONLY = true then psListening else psMaster
      (s.time.slavePort = p.val → e.portState = psSlave → ∃ t, exec (.announceReceiptTimeout p () () ()) s = .next t ∧
        (t.eths p.val).portState = st ∧ (t.eths p.val).foreign = [] ∧ t.time.slavePort = 3 ∧ t.time.servo = 3 ∧ t.time.freq = s.time.freq ∧
        ∃ x ∈ t.msgs, x.source = sourceNo K.HOLDOVER 0) ∧
      (s.time.slavePort = 3 → e.portState = psListening → ∃ t, exec (.announceReceiptTimeout p () () ()) s = .next t ∧
        (t.eths p.val).portState = st ∧ t.time.freq = s.time.freq)) ∧
    (∀ sp : Fin 5, s.boot.resetLow = false →
      (s.fenced (.eth p.val) = false → s.speedOk p.val sp.val = true → ∃ t, exec (.ethLinkChange p true sp) s = .next t ∧
        (t.eths p.val).link = true ∧ (t.eths p.val).speed = sp.val) ∧
      (s.speedOk p.val sp.val = false → exec (.ethLinkChange p true sp) s = .next s) ∧
      (∃ t, exec (.ethLinkChange p false sp) s = .next t ∧ (t.eths p.val).link = false ∧ (t.eths p.val).speed = 0 ∧
        (e.link = true → s.fld F.ETH_CFG_SPEED p.val ≠ 0 → ∃ x ∈ t.msgs, x.source = sourceNo K.LINK_DOWN p.val))) ∧
    (s.portUp p.val = false → ∀ fcs, exec (.ethFrameRx p fcs) s = .next s) ∧
    (s.portUp p.val = true → ∀ fcs, ∃ t, exec (.ethFrameRx p fcs) s = .next t ∧ t = { s with net := t.net } ∧
      (if fcs then e.dropped < 0xFFFF → (t.eths p.val).dropped = e.dropped + 1
       else e.fcsErr < 0xFFFF → (t.eths p.val).fcsErr = e.fcsErr + 1)) ∧
    (∀ c : Fin 8,
      ((s.ctx c.val).queue = [] → exec (.cycFrameSend c) s = .next s) ∧
      (∀ f, (s.ctx c.val).queue = [f] → s.msgs = [] → s.loopMode = true → s.bit F.CYC_TX_EN c.val = true → f.due ≤ s.now →
        ∃ t, exec (.cycFrameSend c) s = .next t ∧ (t.ctx c.val).queue = [] ∧ (t.ctx c.val).seq = ((s.ctx c.val).seq + 1) % 2 ^ 16 ∧
          t = { s with net := t.net } ∧
          (s.nth F.CYC_TX_PORTS p.val c.val = true → s.portUp p.val = true →
            (p.val, s.ethFrame p.val (s.fld F.CYC_TX_DST c.val) 0x88B5
              (cycPayload ⟨s.fld F.CYC_TX_CHANNEL c.val, s.fld F.TIME_CFG_NODE, f.stale, f.hold, (s.ctx c.val).seq, f.mark, f.srcSeq, f.words⟩))
                ∈ t.net.cycSent))) ∧
    (∀ (fcs : Bool) (version subtype : Byte) (rest : List Byte), s.per.measured ≠ some s.now →
      let bs := version :: subtype :: rest
      (s.portUp p.val = false → exec (.cycFrameRx p fcs version subtype rest) s = .next s) ∧
      (s.portUp p.val = true → fcs = false → ∃ t, exec (.cycFrameRx p fcs version subtype rest) s = .next t ∧ t = { s with net := t.net } ∧
        (e.fcsErr < 0xFFFF → (t.eths p.val).fcsErr = e.fcsErr + 1)) ∧
      (s.portUp p.val = true → fcs = true → cycRead bs = none → ∃ t, exec (.cycFrameRx p fcs version subtype rest) s = .next t ∧ counted t ∧
        t.net.cycRx = s.net.cycRx) ∧
      (∀ f, s.portUp p.val = true → fcs = true → cycRead bs = some f →
        let rs := (List.range 16).filter fun k => s.cycMatches k p.val f
        (rs = [] → ∃ t, exec (.cycFrameRx p fcs version subtype rest) s = .next t ∧ counted t ∧ t.net.cycRx = s.net.cycRx) ∧
        (∀ r : Fin 16, rs = [r.val] → (s.crx r.val).accepted.find? (·.1 == f.mark) = none →
          (s.cycLate f = false → ∃ t, exec (.cycFrameRx p fcs version subtype rest) s = .next t ∧
            (t.crx r.val).held = (s.crx r.val).held ++ [⟨f, s.now⟩] ∧ t = { s with net := t.net } ∧
            ∀ k, k ≠ r.val → t.crx k = s.crx k) ∧
          (s.cycLate f = true → ∃ t, exec (.cycFrameRx p fcs version subtype rest) s = .next t ∧ t.net = s.net ∧
            t.fld F.CYC_RX_LATE_CNT r.val = min 0xFFFF (s.fld F.CYC_RX_LATE_CNT r.val + 1) ∧
            ∃ m ∈ t.msgs, m.source = sourceNo K.CYC_LATE r.val))))

/-- CAN channels (R98, R326, R327, R329 to R331). CAN_TX of a well-formed frame on a channel that takes part and has room joins its pending
frames and runs on; on a disabled channel it ends REFUSED. Start of frame takes the pending frame with the least identifier; an attempt that
succeeds removes its frame, one that fails keeps it for another attempt unless it is one-shot. A received frame goes to the slot or
the queue of the first filter entry it matches; in loopback the bus is not heard (log entry 102). Bus-off without AUTO_REC ends every pending
frame; integration makes the channel error-active. Completes: CAN_TX, CAN_START_OF_FRAME, CAN_FRAME_END, CAN_FRAME_RX, CAN_BUS_OFF,
CAN_BUS_INTEGRATION. -/
def Obligations.CanChannels : Prop :=
  (∀ (src : Src) (c : Fin 4) (len : Fin 2065) (data : Nat) (s : State),
     let d := { srcDesc src 0x20 (0x9000 + 64 * c.val) with
       length := len.val, indirect := decide (32 < len.val), inline := if 32 < len.val then 0 else data % 2 ^ (8 * len.val) }
     let b := s.begun src d data
     let v := data % 2 ^ (8 * len.val)
     let f := canFrameOf v
     s.atApplication src d data = true → s.per.running = true → b.loopMode = true → b.fenced (.can c.val) = false →
     (b.bit F.CAN_CFG_EN c.val = true → b.bit F.CAN_CFG_LISTEN c.val = false → canReserved v = false → b.canFormat c.val f.format = true →
       canLenOk f.format f.len = true → f.len + 16 = len.val → ((s.cans c.val).pending.filter CanPending.isHost).length < 16 →
       ∃ t p, exec (.canTx src c len data) s = .next t ∧ t.runsOn src ∧ (t.cans c.val).pending = (s.cans c.val).pending ++ [p] ∧ p.frame = f) ∧
     (b.bit F.CAN_CFG_EN c.val = false → ∃ t, exec (.canTx src c len data) s = .next t ∧ t.endedWith src 0x07 ∧ t.net = s.net)) ∧
  (∀ (c : Fin 4) (s : State), s.per.measured ≠ some s.now →
     let may := (s.cans c.val).pending.filter fun q => q.isHost || s.mode != .replay
     (s.canOn c.val = false ∨ may = [] → exec (.canStartOfFrame c) s = .next s) ∧
     (s.canOn c.val = true → s.bit F.CAN_CFG_LISTEN c.val = false → (s.cans c.val).pending.any (·.sof.isSome) = false → may ≠ [] →
       ∃ t p, exec (.canStartOfFrame c) s = .next t ∧ p ∈ may ∧ (∀ q ∈ may, canKey p.frame ≤ canKey q.frame) ∧
         (t.cans c.val).pending = (s.cans c.val).pending.map (fun q => if q = p then { q with sof := some s.now } else q) ∧
         t = { s with net := t.net }) ∧
     (∀ (ok err : Bool) (tec rec_ : Fin 512),
       ((s.cans c.val).pending.any (·.sof.isSome) = false → exec (.canFrameEnd c ok err tec rec_) s = .next s) ∧
       (∀ p, (s.cans c.val).pending.find? (·.sof.isSome) = some p →
         (ok = true ∨ (p.aborting = none ∧ canOneShot p.frame = true) → ∃ t, exec (.canFrameEnd c ok err tec rec_) s = .next t ∧
           (t.cans c.val).pending = (s.cans c.val).pending.erase p ∧ (t.cans c.val).tec = tec.val ∧ (t.cans c.val).recErr = rec_.val) ∧
         (ok = false → p.aborting = none → canOneShot p.frame = false → ∃ t, exec (.canFrameEnd c ok err tec rec_) s = .next t ∧
           (t.cans c.val).pending = (s.cans c.val).pending.map (fun q => if q = p then { q with sof := none } else q) ∧
           (err = true → (s.cans c.val).errFrames < 0xFFFF → (t.cans c.val).errFrames = (s.cans c.val).errFrames + 1) ∧
           (err = false → (t.cans c.val).errFrames = (s.cans c.val).errFrames)))) ∧
     (∀ (f : CanFrame) (dur : Nat) (rec_ : Fin 512),
       (s.canOn c.val = false ∨ s.bit F.CAN_CFG_LOOPBACK c.val = true → exec (.canFrameRx c f dur rec_) s = .next s) ∧
       (s.canOn c.val = true → s.bit F.CAN_CFG_LOOPBACK c.val = false → s.canFormat c.val f.format = true → canLenOk f.format f.len = true →
         (s.canFilter c.val f = none → ∃ t, exec (.canFrameRx c f dur rec_) s = .next t ∧
           (t.cans c.val).rxq = (s.cans c.val).rxq ∧ (t.cans c.val).rxSlots = (s.cans c.val).rxSlots ∧ t.objs = s.objs) ∧
         (∀ e, s.canFilter c.val f = some e → s.bit F.CAN_FILTER_HOST c.val e = false → s.bit F.CAN_FILTER_LANE c.val e = true →
           let k := s.fld F.CAN_FILTER_SLOT c.val e
           ∃ t, exec (.canFrameRx c f dur rec_) s = .next t ∧ ((t.cans c.val).rxSlots.get k {}).frame = some f ∧
             ((t.cans c.val).rxSlots.get k {}).count = min 63 (((s.cans c.val).rxSlots.get k {}).count + 1) ∧
             (t.cans c.val).rxq = (s.cans c.val).rxq ∧ t.objs = s.objs) ∧
         (∀ e, s.canFilter c.val f = some e → s.bit F.CAN_FILTER_HOST c.val e = true → s.bit F.CAN_FILTER_LANE c.val e = false → f.len ≤ 64 →
           let prod := s.fld F.CAN_RXCTL_PROD c.val
           let used := posDist 256 (s.fld F.CAN_RXCTL_CONS c.val, s.bit F.CAN_RXCTL_CONS_PHASE c.val)
             (prod, s.bit F.CAN_RXCTL_PROD_PHASE c.val)
           (used < 256 → ∃ t, exec (.canFrameRx c f dur rec_) s = .next t ∧ t.fld F.CAN_RXCTL_PROD c.val = (prod + 1) % 256 ∧
             ((t.cans c.val).rxq.get prod 0) % 2 ^ 192 = canHeader f + (s.now - dur) % 2 ^ 64 * 2 ^ 128 ∧
             ((t.cans c.val).rxq.get prod 0) / 2 ^ 256 = f.data % 2 ^ 512) ∧
           (256 ≤ used → ∃ t, exec (.canFrameRx c f dur rec_) s = .next t ∧ (t.cans c.val).rxq = (s.cans c.val).rxq ∧
             ((s.cans c.val).rxLost < 0xFFFF → (t.cans c.val).rxLost = (s.cans c.val).rxLost + 1) ∧
             ∃ m ∈ t.msgs, m.source = sourceNo K.CAN_RX_LOST c.val)))) ∧
     (s.canOn c.val = true → ∃ t, exec (.canBusOff c) s = .next t ∧ (t.cans c.val).busState = 2 ∧
       (s.bit F.CAN_CFG_AUTO_REC c.val = false → (t.cans c.val).pending = []) ∧ ∃ m ∈ t.msgs, m.source = sourceNo K.CAN_BUS_OFF c.val) ∧
     (s.bit F.CAN_CFG_EN c.val = true →
       ((s.cans c.val).busState = 3 ∨ ((s.cans c.val).busState = 2 ∧ s.bit F.CAN_CFG_AUTO_REC c.val = true) →
         ∃ t, exec (.canBusIntegration c) s = .next t ∧ (t.cans c.val).busState = 0 ∧ (t.cans c.val).tec = 0 ∧
           (t.cans c.val).recErr = 0 ∧ (t.cans c.val).pending = (s.cans c.val).pending) ∧
       ((s.cans c.val).busState = 2 → s.bit F.CAN_CFG_AUTO_REC c.val = false → exec (.canBusIntegration c) s = .next s)))

/-! ### Field inputs and outputs -/

/-- The hub's end of the isolation link (R386 to R388, R393 to R396). An undisturbed copy of a frame that carries the SEQ that follows is good, and
one without a comma is bad. Down frames follow each other every 5 µs under consecutive SEQ, carry ENABLE and the levels the host commands,
and levels of 0 without ENABLE. A good up frame makes the link good and delivers readback and supply; with LOST it makes ISO_LOST live. A
slot without one makes the link bad, and the third in a row makes ISO_LOST live. Completes: ISO_DOWN_FRAME, ISO_UP_FRAME,
ISO_UP_SLOT_TIMEOUT. -/
def Obligations.IsolationLinkHub : Prop :=
  (∀ (fr : DownFrame) (h : UpHead) (di rb ovl supply : Nat) (w : Option Nat),
    copyCause 1 w (downBytes fr) none = 1 ∧ (fr.seq < 2 ^ 16 → w = none ∨ w = some fr.seq → copyCause 1 w (downBytes fr) (some []) = 0) ∧
    (h.seq < 2 ^ 16 → w = none ∨ w = some h.seq → copyCause 2 w (upBytes h di rb ovl supply) (some []) = 0)) ∧
  ∀ s : State,
    (s.hubUp = false ∨ s.time.running = false → exec .isoDownFrame s = .next s) ∧
    (s.hubUp = true → s.time.running = true → s.msgs = [] →
      (∀ f ∈ s.fio.hubSlots ++ s.fio.islSlots, s.nextSlot < f.start + 2200) → ∃ t fr, exec .isoDownFrame s = .next t ∧
      t.fio.sent = some fr ∧ t.fio.hubSlots = s.fio.hubSlots ++ [fr] ∧ t.fio.islSlots = s.fio.islSlots ++ [fr] ∧
      fr.enable = s.fioEnable ∧ fr.lane = s.wantLane ∧
      (∀ f, s.fio.sent = some f → fr.seq = (f.seq + (fr.start - f.start) / slotTicks) % 2 ^ 16) ∧
      (∀ f, s.fio.sent = some f → f.start % slotTicks = 0 → s.now ≤ f.start + slotTicks → fr.start = f.start + slotTicks) ∧
      (s.fio.sent = none → fr.seq = 0 ∧ fr.start % slotTicks = 0 ∧ s.now ≤ fr.start ∧ fr.start < s.now + slotTicks) ∧
      (s.fioEnable = false → fr.level = 0) ∧
      (∀ c < 16, s.fioEnable = true → s.cmpNaming c = [] →
        fr.level.testBit c = if s.mode = .hold then s.nth F.FIO_DO_CFG_HOLD c
          else if s.nth F.FIO_DO_CFG_SRC c then s.nth F.FIO_DO_CMD_CMD c else (s.dos c).lane)) ∧
    (∀ (e0 e1 : Option (List Byte)) (di : Nat) (rb limit : Fin 65536) (supply : Fin 256),
      (s.fio.hubSlots = [] → exec (.isoUpFrame e0 e1 di rb limit supply) s = .next s) ∧
      (∀ fr r x h, s.fio.hubSlots = fr :: r → s.fio.ups.find? (·.1 == fr.start) = some (x, h) → s.now ≤ fr.start + 2200 →
        let frame := upBytes h di rb.val (limit.val ||| s.shutMask) supply.val
        let g0 := s.laneUsed 0 && (s.upCauses frame e0 e1).1 == 0
        let g1 := s.laneUsed 1 && (s.upCauses frame e0 e1).2 == 0
        let rx := usedCopy frame s.fio.activeLane g0 g1 e0 e1
        (g0 = true ∨ g1 = true →
          ∃ t, exec (.isoUpFrame e0 e1 di rb limit supply) s = .next t ∧ t.fio.linkOk = true ∧ t.fio.upBad = 0 ∧ t.fio.hubSlots = r ∧
            t.fio.upSeq = rdNat rx 1 2 ∧ t.fio.rb = rdNat rx 25 2 % 2 ^ 16 ∧ t.fio.supply = rdNat rx 29 1 % 256 ∧
            ((rdNat rx 30 1).testBit 2 = true → t.fio.isoLost = true ∧ t.fio.upGood = 0) ∧
            ((rdNat rx 30 1).testBit 2 = false →
              t.fio.upGood = min 8 (s.fio.upGood + 1) ∧ (t.fio.upGood = 8 → t.fio.isoLost = false)) ∧
            (e0 = some [] → g0 = true → g1 = false ∨ s.fio.activeLane = 0 →
              t.fio.rb = rb.val ∧ t.fio.supply = supply.val ∧ (h.seq < 2 ^ 16 → t.fio.upSeq = h.seq))) ∧
        (g0 = false → g1 = false →
          ∃ t, exec (.isoUpFrame e0 e1 di rb limit supply) s = .next t ∧ t.fio.slotSeen = true ∧ t.fio.hubSlots = s.fio.hubSlots ∧
            t.fio.linkOk = s.fio.linkOk ∧ t.fio.di = s.fio.di ∧ t.fio.rb = s.fio.rb ∧
            (s.laneUsed 0 = true → s.fio.bad0 < 0xFFFF → t.fio.bad0 = s.fio.bad0 + 1) ∧
            (s.laneUsed 1 = true → s.fio.bad1 < 0xFFFF → t.fio.bad1 = s.fio.bad1 + 1)))) ∧
    (s.fio.hubSlots = [] → exec .isoUpSlotTimeout s = .next s) ∧
    (∀ fr r, s.fio.hubSlots = fr :: r → s.msgs = [] → ∃ t, exec .isoUpSlotTimeout s = .next t ∧
      t.fio.linkOk = false ∧ t.fio.upGood = 0 ∧ t.fio.upBad = min 3 (s.fio.upBad + 1) ∧ t.fio.rb = s.fio.rb ∧ t.fio.hubSlots = r ∧
      (2 ≤ s.fio.upBad → t.fio.isoLost = true ∧ t.fio.upWant = none) ∧ (s.fio.upBad < 2 → t.fio.isoLost = s.fio.isoLost))

/-- The field island (R380, R388, R390, R394, R395): without supply it acts on no frame and every output is off. A down frame reads back as it was
sent. A good one restarts its count of bad slots; outputs switch from the eighth good one with ENABLE; the third bad slot in a row turns
every output off. A switching sent takes effect at its instant unless the channel is shut down; a shutdown turns the channel off, and
100 ms later it retries while its level is 1 and no level of 0 has cancelled the retry. Completes: ISLAND_DOWN_FRAME, ISLAND_SLOT_TIMEOUT,
ISLAND_SWITCH, DO_SHUTDOWN, DO_RETRY, FIELD_SUPPLY_LOSS, FIELD_SUPPLY_RETURN. -/
def Obligations.FieldIsland : Prop :=
  (∀ (fr : DownFrame) (x : Nat), fr.seq < 2 ^ 16 → fr.lane < 2 →
    let g := downOf x (downBytes fr)
    g.start = x ∧ g.seq = fr.seq ∧ g.enable = fr.enable ∧ g.lane = fr.lane ∧
    ∀ c < 16, g.level.testBit c = fr.level.testBit c ∧ g.ofs.get c 0 = fr.ofs.get c 0 % 8) ∧
  ∀ s : State,
    (∀ e0 e1 : Option (List Byte),
      (s.fio.islSlots = [] ∨ s.fio.powered = false → exec (.islandDownFrame e0 e1) s = .next s) ∧
      (∀ fr r, s.fio.islSlots = fr :: r → s.fio.powered = true → s.fio.islSeen = false → s.now ≤ fr.start + 2200 →
        let g0 := s.laneUsed 0 && (s.downCauses fr e0 e1).1 == 0
        let g1 := s.laneUsed 1 && (s.downCauses fr e0 e1).2 == 0
        let g := downOf fr.start (usedCopy (downBytes fr) fr.lane g0 g1 e0 e1)
        (g0 = true ∨ g1 = true →
          ∃ t h, exec (.islandDownFrame e0 e1) s = .next t ∧ t = { s with fio := t.fio } ∧ t.fio.downBad = 0 ∧ t.fio.islSlots = r ∧
            t.fio.downLast = some (fr.start, g.seq) ∧ t.fio.downGood = (if g.enable then min 8 (s.fio.downGood + 1) else 0) ∧
            t.fio.ups = s.fio.ups ++ [(fr.start, h)] ∧ h.seq = s.fio.islandSeq ∧ h.echo = g.seq ∧
            t.fio.islandSeq = (s.fio.islandSeq + 1) % 2 ^ 16 ∧ t.fio.islandLost = (s.fio.islandLost && t.fio.downGood != 8) ∧
            (t.fio.downGood = 8 → t.fio.driving = true) ∧ (s.fio.driving = false → t.fio.downGood ≠ 8 → t.fio.driving = false) ∧
            (∀ c < 16, (t.isl c).on = (s.isl c).on) ∧
            (s.fio.driving = true → s.fio.islandLost = false → g.enable = true → ∀ c < 16, (s.isl c).plan = [] →
              g.level.testBit c ≠ (s.isl c).level →
              (t.isl c).plan = [(fr.start + switchDelay + ofsTicks * g.ofs.get c 0, g.level.testBit c)])) ∧
        (g0 = false → g1 = false → exec (.islandDownFrame e0 e1) s = .next { s with fio := { s.fio with islSeen := true } }))) ∧
    (s.fio.islSlots = [] → exec .islandSlotTimeout s = .next s) ∧
    (∀ fr r, s.fio.islSlots = fr :: r → s.fio.powered = true → s.msgs = [] →
      ∃ t, exec .islandSlotTimeout s = .next t ∧ t.fio.downGood = 0 ∧ t.fio.downBad = min 3 (s.fio.downBad + 1) ∧ t.fio.islSlots = r ∧
        (2 ≤ s.fio.downBad → t.fio.islandLost = true ∧ t.fio.driving = false ∧ t.fio.downLast = none ∧ ∀ c < 16, (t.isl c).on = false) ∧
        (s.fio.downBad < 2 → ∀ c < 16, t.isl c = s.isl c)) ∧
    (∀ c : Fin 16,
      ((s.isl c.val).plan = [] → exec (.islandSwitch c) s = .next s) ∧
      (∀ e r, (s.isl c.val).plan = e :: r → s.msgs = [] → ∃ t, exec (.islandSwitch c) s = .next t ∧ (t.isl c.val).plan = r ∧
        (t.isl c.val).level = e.2 ∧ (t.isl c.val).on = (e.2 && (s.isl c.val).shut.isNone) ∧ ∀ k, k ≠ c.val → t.isl k = s.isl k) ∧
      ((s.isl c.val).on = false → exec (.doShutdown c) s = .next s) ∧
      ((s.isl c.val).on = true → ∃ t, exec (.doShutdown c) s = .next t ∧ (t.isl c.val).on = false ∧
        (t.isl c.val).shut = some s.now ∧ t = { s with fio := t.fio } ∧ ∀ k, k ≠ c.val → t.isl k = s.isl k) ∧
      ((s.isl c.val).shut = none → exec (.doRetry c) s = .next s) ∧
      (∀ x, (s.isl c.val).shut = some x → s.msgs = [] →
        ((s.isl c.val).level = true → (s.isl c.val).cancelled = false → s.fio.driving = true → ∃ t, exec (.doRetry c) s = .next t ∧
          (t.isl c.val).on = true ∧ (t.isl c.val).shut = none ∧
          (s.fio.retries < 0xFFFF → t.fio.retries = s.fio.retries + 1)) ∧
        ((s.isl c.val).level = false ∨ (s.isl c.val).cancelled = true → ∃ t, exec (.doRetry c) s = .next t ∧
          (t.isl c.val).on = (s.isl c.val).on ∧ (t.isl c.val).shut = some x ∧ t.fio.retries = s.fio.retries))) ∧
    (∃ t, exec .fieldSupplyLoss s = .next t ∧ t.fio.powered = false ∧ t.fio.driving = false ∧ (∀ c < 16, t.isl c = {}) ∧
      t = { s with fio := t.fio }) ∧
    (s.fio.powered = true → exec .fieldSupplyReturn s = .next s) ∧
    (s.fio.powered = false → exec .fieldSupplyReturn s = .next { s with fio := { s.fio with powered := true, leftReset := true } })

/-! ### The whole machine -/

/-- The queue of waiting commands is served strictly first in, first out, whatever the commands are: a step takes the front command and leaves the
rest as it was, and no command of the table adds, drops or reorders one (the model's form of a block: log entry 1). -/
def Obligations.QueueServedInOrder : Prop :=
  ∀ s t : State, step s = .next t → t.pending = s.pending.tail
end

