-- ==== Sys2Proof/Laws/Maps.lean ====
section
/-!
SUPPORT. Laws of the sparse maps: what a read finds after a write, and the canonical form every write keeps.
-/

namespace Sys2Proof

variable {α : Type} [DecidableEq α]

/-- The keys of the map rise strictly and lie above `lo`; no entry equals `d`. -/
def SMap.Above (d : α) : Nat → SMap α → Prop
  | _, [] => True
  | lo, (j, v) :: r => lo < j + 1 ∧ v ≠ d ∧ SMap.Above d (j + 1) r

theorem SMap.wfFrom_some_iff (d : α) (m : SMap α) (lo : Nat) : SMap.wfFrom d (some lo) m = true ↔ SMap.Above d (lo + 1) m := by
  induction m generalizing lo with
  | nil => simp [SMap.wfFrom, SMap.Above]
  | cons e r ih =>
    obtain ⟨j, v⟩ := e
    simp only [SMap.wfFrom, SMap.Above, Bool.and_eq_true, decide_eq_true_eq, ih]
    constructor
    · rintro ⟨⟨h1, h2⟩, h3⟩; exact ⟨by omega, h2, h3⟩
    · rintro ⟨h1, h2, h3⟩; exact ⟨⟨by omega, h2⟩, h3⟩

theorem SMap.wf_iff (d : α) (m : SMap α) : SMap.wf d m = true ↔ SMap.Above d 0 m := by
  cases m with
  | nil => simp [SMap.wf, SMap.wfFrom, SMap.Above]
  | cons e r =>
    obtain ⟨j, v⟩ := e
    simp only [SMap.wf, SMap.wfFrom, SMap.Above, Bool.and_eq_true, decide_eq_true_eq, SMap.wfFrom_some_iff]
    simp

omit [DecidableEq α] in
theorem SMap.Above.mono {d : α} {m : SMap α} {lo lo' : Nat} (h : SMap.Above d lo m) (hl : lo' ≤ lo) : SMap.Above d lo' m := by
  cases m with
  | nil => trivial
  | cons e r => obtain ⟨j, v⟩ := e; exact ⟨Nat.lt_of_le_of_lt hl h.1, h.2⟩

omit [DecidableEq α] in
theorem SMap.Above.erase {d : α} {m : SMap α} {lo : Nat} (h : SMap.Above d lo m) (k : Nat) : SMap.Above d lo (m.erase k) := by
  induction m generalizing lo with
  | nil => trivial
  | cons e r ih =>
    obtain ⟨j, v⟩ := e
    unfold SMap.erase
    split
    · exact (ih h.2.2).mono (by have := h.1; omega)
    · exact ⟨h.1, h.2.1, ih h.2.2⟩

omit [DecidableEq α] in
theorem SMap.Above.put {d : α} {m : SMap α} {lo k : Nat} {v : α} (h : SMap.Above d lo m) (hk : lo < k + 1) (hv : v ≠ d) :
    SMap.Above d lo (m.put k v) := by
  induction m generalizing lo with
  | nil => exact ⟨hk, hv, trivial⟩
  | cons e r ih =>
    obtain ⟨j, w⟩ := e
    unfold SMap.put
    split
    · next hj => subst hj; exact ⟨hk, hv, h.2.2⟩
    · split
      · exact ⟨hk, hv, by omega, h.2.1, h.2.2⟩
      · exact ⟨h.1, h.2.1, ih h.2.2 (by omega)⟩

/-- A write keeps the canonical form. -/
theorem SMap.wf_set {d : α} {m : SMap α} (h : SMap.wf d m = true) (k : Nat) (v : α) : SMap.wf d (m.set k v d) = true := by
  rw [SMap.wf_iff] at *
  unfold SMap.set
  split
  · exact h.erase k
  · next hv => exact h.put (Nat.succ_pos k) hv

@[simp] theorem SMap.wf_nil (d : α) : SMap.wf d ([] : SMap α) = true := rfl

omit [DecidableEq α] in
theorem SMap.get_erase_ne {m : SMap α} {j k : Nat} (d : α) (hjk : j ≠ k) : (m.erase k).get j d = m.get j d := by
  induction m with
  | nil => rfl
  | cons e r ih =>
    obtain ⟨i, v⟩ := e
    unfold SMap.erase
    split
    · next hi => subst hi; simp [SMap.get, Ne.symm hjk, ih]
    · simp [SMap.get, ih]

omit [DecidableEq α] in
@[simp] theorem SMap.get_erase_same {m : SMap α} (k : Nat) (d : α) : (m.erase k).get k d = d := by
  induction m with
  | nil => rfl
  | cons e r ih =>
    obtain ⟨i, v⟩ := e
    unfold SMap.erase
    split
    · exact ih
    · next hi => simp [SMap.get, hi, ih]

omit [DecidableEq α] in
theorem SMap.get_put_ne {m : SMap α} {j k : Nat} (d v : α) (hjk : j ≠ k) : (m.put k v).get j d = m.get j d := by
  induction m with
  | nil => simp [SMap.put, SMap.get, Ne.symm hjk]
  | cons e r ih =>
    obtain ⟨i, w⟩ := e
    unfold SMap.put
    split
    · next hi => subst hi; simp [SMap.get, Ne.symm hjk]
    · split
      · simp [SMap.get, Ne.symm hjk]
      · simp [SMap.get, ih]

omit [DecidableEq α] in
@[simp] theorem SMap.get_put_same {m : SMap α} {k : Nat} (d v : α) : (m.put k v).get k d = v := by
  induction m with
  | nil => simp [SMap.put, SMap.get]
  | cons e r ih =>
    obtain ⟨i, w⟩ := e
    unfold SMap.put
    split
    · simp [SMap.get]
    · next hi =>
      split
      · simp [SMap.get]
      · simp [SMap.get, hi, ih]

/-- A write leaves every other place alone. -/
theorem SMap.get_set_ne {m : SMap α} {j k : Nat} {v d : α} (hjk : j ≠ k) : (m.set k v d).get j d = m.get j d := by
  unfold SMap.set
  split
  · exact SMap.get_erase_ne d hjk
  · exact SMap.get_put_ne d v hjk

/-- A read after a write to the same place gives the value written. -/
@[simp] theorem SMap.get_set_same {m : SMap α} (k : Nat) (v d : α) : (m.set k v d).get k d = v := by
  unfold SMap.set
  split
  · next hv => subst hv; exact SMap.get_erase_same k v
  · exact SMap.get_put_same d v

/-- What a read finds after a write. -/
theorem SMap.get_set {m : SMap α} (j k : Nat) (v d : α) : (m.set k v d).get j d = if j = k then v else m.get j d := by
  split
  · next h => subst h; simp
  · next h => exact SMap.get_set_ne h

end Sys2Proof
end

