-- ==== Sys2Proof/Laws/PerInstr.lean ====
section
/-!
SUPPORT. For every command: no word of the command table's bits spells it, since the table gives no row any bits.
-/

namespace Sys2Proof.Laws

/-- No word spells the command. -/
def NoWord.Statement (i : Instr) : Prop := ∀ nbits w, decodeTableWord nbits w ≠ some i

theorem no_word (i : Instr) : NoWord.Statement i := fun _ _ => nofun

theorem NoWord.resetNLow : NoWord.Statement .resetNLow := no_word _
theorem NoWord.resetNRise (lowNs : Nat) (selfTest readA readB : Bool) (lands : Fin (2 ^ 32)) : NoWord.Statement (.resetNRise lowNs selfTest readA readB lands) := no_word _
theorem NoWord.dramInitDone (lands : Fin (2 ^ 128)) : NoWord.Statement (.dramInitDone lands) := no_word _
theorem NoWord.pcieLinkUp (speed : Fin 4) (w : Fin 3) : NoWord.Statement (.pcieLinkUp speed w) := no_word _
theorem NoWord.pePerstN (b0 b1 : Nat) : NoWord.Statement (.pePerstN b0 b1) := no_word _
theorem NoWord.functionLevelReset (b0 b1 : Nat) : NoWord.Statement (.functionLevelReset b0 b1) := no_word _
theorem NoWord.refClkLoss : NoWord.Statement .refClkLoss := no_word _
theorem NoWord.timeBaseStop : NoWord.Statement .timeBaseStop := no_word _
theorem NoWord.supplyBelowRange : NoWord.Statement .supplyBelowRange := no_word _
theorem NoWord.hifMtimeLoRead : NoWord.Statement .hifMtimeLoRead := no_word _
theorem NoWord.crDoorbell (n : Fin 16) (index : Fin 4096) (phase : Bool) : NoWord.Statement (.crDoorbell n index phase) := no_word _
theorem NoWord.cqDoorbell (m : Fin 16) (index : Fin 4096) (phase : Bool) : NoWord.Statement (.cqDoorbell m index phase) := no_word _
theorem NoWord.eqDoorbell (index : Fin 4096) (phase : Bool) : NoWord.Statement (.eqDoorbell index phase) := no_word _
theorem NoWord.bqDoorbell (b : Fin 2) (index : Fin 4096) (phase : Bool) : NoWord.Statement (.bqDoorbell b index phase) := no_word _
theorem NoWord.ringEnable (r : RingId) (v : Fin (2 ^ 32)) : NoWord.Statement (.ringEnable r v) := no_word _
theorem NoWord.ringDisable (r : RingId) (v : Fin (2 ^ 32)) : NoWord.Statement (.ringDisable r v) := no_word _
theorem NoWord.rearm (r : Fin 18) (index : Fin 4096) (phase go : Bool) : NoWord.Statement (.rearm r index phase go) := no_word _
theorem NoWord.registerWrite (sp : RegSpace) (o : Fin 16384) (size : Fin 9) (v : Fin (2 ^ 32)) : NoWord.Statement (.registerWrite sp o size v) := no_word _
theorem NoWord.descriptorFetch (r : Fin 18) (d : Desc) : NoWord.Statement (.descriptorFetch r d) := no_word _
theorem NoWord.descriptorValidated (r : Fin 18) (host : Nat) (descErr dataErr : Option (Fin 8)) : NoWord.Statement (.descriptorValidated r host descErr dataErr) := no_word _
theorem NoWord.configureApply (r : Fin 16) (lands : Nat) : NoWord.Statement (.configureApply r lands) := no_word _
theorem NoWord.msixModTimer (m : Fin 17) : NoWord.Statement (.msixModTimer m) := no_word _
theorem NoWord.msixHeldMessage (v : Fin 64) : NoWord.Statement (.msixHeldMessage v) := no_word _
theorem NoWord.nop (src : Src ⊕ (Fin 2 × BulkSrc)) : NoWord.Statement (.nop src) := no_word _
theorem NoWord.objWrite (src : Src) (id off len : Fin 65536) (data : Nat) (lands : Nat) : NoWord.Statement (.objWrite src id off len data lands) := no_word _
theorem NoWord.objRead (src : Src) (id off len : Fin 65536) (hostAddr : Fin (2 ^ 64)) : NoWord.Statement (.objRead src id off len hostAddr) := no_word _
theorem NoWord.abort (src : Src) (ring : Fin 16) (index : Fin 4096) (phase : Bool) : NoWord.Statement (.abort src ring index phase) := no_word _
theorem NoWord.swap (src : Src) : NoWord.Statement (.swap src) := no_word _
theorem NoWord.faultAck (src : Src) (source : Fin 65536) (allInst all : Bool) : NoWord.Statement (.faultAck src source allInst all) := no_word _
theorem NoWord.movePos (src : Src) (a : Fin 40) (target : Fin (2 ^ 48)) (speed : Fin (2 ^ 24)) (mode : Fin 8) : NoWord.Statement (.movePos src a target speed mode) := no_word _
theorem NoWord.moveVel (src : Src) (a : Fin 40) (speed : Fin (2 ^ 24)) : NoWord.Statement (.moveVel src a speed) := no_word _
theorem NoWord.stop (src : Src) (a : Fin 40) : NoWord.Statement (.stop src a) := no_word _
theorem NoWord.quickStop (src : Src) (a : Fin 40) : NoWord.Statement (.quickStop src a) := no_word _
theorem NoWord.resume (src : Src) (a : Fin 40) : NoWord.Statement (.resume src a) := no_word _
theorem NoWord.gearEngage (src : Src) (a : Fin 40) (num den ramp : Fin (2 ^ 32)) (startEn : Bool) (startDir : Fin 4) (startPos : Fin (2 ^ 48)) : NoWord.Statement (.gearEngage src a num den ramp startEn startDir startPos) := no_word _
theorem NoWord.camEngage (src : Src) (a : Fin 40) (profile : Fin 64) (ymode xmode : Bool) (offset xOrg : Fin (2 ^ 48)) (blend : Fin (2 ^ 16)) : NoWord.Statement (.camEngage src a profile ymode xmode offset xOrg blend) := no_word _
theorem NoWord.disengage (src : Src) (a : Fin 40) (stop : Bool) : NoWord.Statement (.disengage src a stop) := no_word _
theorem NoWord.caravanSeg (src : Src) (g : Fin 4) (len : Fin 153) (data : Fin (2 ^ 1216)) : NoWord.Statement (.caravanSeg src g len data) := no_word _
theorem NoWord.latchArm (src : Src) (n : Fin 8) : NoWord.Statement (.latchArm src n) := no_word _
theorem NoWord.compareArm (src : Src) (u : Fin 16) (pos step : Fin (2 ^ 32)) (count : Fin (2 ^ 16)) (dir : Fin 4) : NoWord.Statement (.compareArm src u pos step count dir) := no_word _
theorem NoWord.canTx (src : Src) (c : Fin 4) (len : Fin 2065) (data : Nat) : NoWord.Statement (.canTx src c len data) := no_word _
theorem NoWord.surveyFreeze (src : Src) (noCopy : Bool) : NoWord.Statement (.surveyFreeze src noCopy) := no_word _
theorem NoWord.attest (src : Src) (nonce : Fin (2 ^ 256)) (hostAddr : Fin (2 ^ 64)) : NoWord.Statement (.attest src nonce hostAddr) := no_word _
theorem NoWord.imageWrite (src : BulkSrc) (slot : Fin 2) (block : Fin (2 ^ 24)) (len : Fin 4097) (last : Bool) (data : Nat) : NoWord.Statement (.imageWrite src slot block len last data) := no_word _
theorem NoWord.tableWrite (src : BulkSrc) (upload : Bool) (first : Fin (2 ^ 32)) (len : Fin 4097) (last : Bool) (data : Nat) : NoWord.Statement (.tableWrite src upload first len last data) := no_word _
theorem NoWord.surveyRead (src : BulkSrc) (block : Fin (2 ^ 32)) (len : Fin 4097) (hostAddr : Fin (2 ^ 64)) : NoWord.Statement (.surveyRead src block len hostAddr) := no_word _
theorem NoWord.logRead (src : BulkSrc) (first : Fin 16384) (len : Fin 4097) (hostAddr : Fin (2 ^ 64)) : NoWord.Statement (.logRead src first len hostAddr) := no_word _
theorem NoWord.modeRequest (src : Src) (mode : Fin 8) : NoWord.Statement (.modeRequest src mode) := no_word _
theorem NoWord.resetFbChannel (src : Src) (n : Fin 32) : NoWord.Statement (.resetFbChannel src n) := no_word _
theorem NoWord.resetPwmGroup (src : Src) (g : Fin 32) : NoWord.Statement (.resetPwmGroup src g) := no_word _
theorem NoWord.resetCanChannel (src : Src) (c : Fin 4) : NoWord.Statement (.resetCanChannel src c) := no_word _
theorem NoWord.resetEthPort (src : Src) (p : Fin 3) : NoWord.Statement (.resetEthPort src p) := no_word _
theorem NoWord.resetLanePair (src : Src) (u : Fin 2) (l : Fin 12) : NoWord.Statement (.resetLanePair src u l) := no_word _
theorem NoWord.resetUnit (src : Src) (u : Fin 2) (pending : Bool) : NoWord.Statement (.resetUnit src u pending) := no_word _
theorem NoWord.resetModule (src : Src) (selfTest readA readB : Bool) (lands : Fin (2 ^ 32)) : NoWord.Statement (.resetModule src selfTest readA readB lands) := no_word _
theorem NoWord.fenceLowered (b : FenceId) (readOk : Bool) (lands : Fin 8) : NoWord.Statement (.fenceLowered b readOk lands) := no_word _
theorem NoWord.slackClr (src : Src) (e : Fin 24) : NoWord.Statement (.slackClr src e) := no_word _
theorem NoWord.bankSwap (src : Src) : NoWord.Statement (.bankSwap src) := no_word _
theorem NoWord.coefWrite (src : Src) (bankB : Bool) (first : Fin 4096) (words : List Word24) : NoWord.Statement (.coefWrite src bankB first words) := no_word _
theorem NoWord.laneClr (src : Src) (e : Fin 24) : NoWord.Statement (.laneClr src e) := no_word _
theorem NoWord.pwmEn (src : Src) (g : Fin 32) (en : Bool) : NoWord.Statement (.pwmEn src g en) := no_word _
theorem NoWord.tripClr (src : Src) (g : Fin 32) (en : Bool) : NoWord.Statement (.tripClr src g en) := no_word _
theorem NoWord.pwmCntClr (src : Src) (g : Fin 32) (en : Bool) : NoWord.Statement (.pwmCntClr src g en) := no_word _
theorem NoWord.pwmAuxWrite (src : Src) (g : Fin 32) (v : Fin (2 ^ 112)) : NoWord.Statement (.pwmAuxWrite src g v) := no_word _
theorem NoWord.tripinWrite (src : Src) (actHigh : Fin (2 ^ 32)) (filter : Fin 256) (lands : Fin (2 ^ 32)) : NoWord.Statement (.tripinWrite src actHigh filter lands) := no_word _
theorem NoWord.fbCfgWrite (src : Src) (n : Fin 32) (serial : Bool) (v : Fin (2 ^ 256)) (a b z : Bool) : NoWord.Statement (.fbCfgWrite src n serial v a b z) := no_word _
theorem NoWord.preset (src : Src) (n : Fin 32) (cmd : Fin 8) (arg : Fin 256) (val : Fin (2 ^ 32)) : NoWord.Statement (.preset src n cmd arg val) := no_word _
theorem NoWord.armHome (src : Src) (n : Fin 32) (cmd : Fin 8) : NoWord.Statement (.armHome src n cmd) := no_word _
theorem NoWord.fbCntClr (src : Src) (n : Fin 32) (cmd : Fin 8) : NoWord.Statement (.fbCntClr src n cmd) := no_word _
theorem NoWord.serGo (src : Src) (n : Fin 32) (cmd : Fin 8) (arg : Fin 256) : NoWord.Statement (.serGo src n cmd arg) := no_word _
theorem NoWord.emuCfgWrite (src : Src) (e : Fin 8) (v : Fin (2 ^ 64)) : NoWord.Statement (.emuCfgWrite src e v) := no_word _
theorem NoWord.csStatusClr (src : Src) (i : Fin 96) : NoWord.Statement (.csStatusClr src i) := no_word _
theorem NoWord.timeStatusClr (src : Src) : NoWord.Statement (.timeStatusClr src) := no_word _
theorem NoWord.ethStatusClr (src : Src) (p : Fin 3) : NoWord.Statement (.ethStatusClr src p) := no_word _
theorem NoWord.cycRxClr (src : Src) (r : Fin 16) : NoWord.Statement (.cycRxClr src r) := no_word _
theorem NoWord.canStatusClr (src : Src) (c : Fin 4) : NoWord.Statement (.canStatusClr src c) := no_word _
theorem NoWord.fioStatusClr (src : Src) : NoWord.Statement (.fioStatusClr src) := no_word _
theorem NoWord.survClr (src : Src) : NoWord.Statement (.survClr src) := no_word _
theorem NoWord.takeoversClr (src : Src) : NoWord.Statement (.takeoversClr src) := no_word _
theorem NoWord.canRxqRelease (src : Src) (c : Fin 4) (cons : Fin 256) (phase : Bool) : NoWord.Statement (.canRxqRelease src c cons phase) := no_word _
theorem NoWord.camCommit (src : Src) (first count : Fin (2 ^ 16)) : NoWord.Statement (.camCommit src first count) := no_word _
theorem NoWord.migrate (src : Src) (l : Fin 16) : NoWord.Statement (.migrate src l) := no_word _
theorem NoWord.unretire (src : Src) (u : Fin 2) (l : Fin 16) : NoWord.Statement (.unretire src u l) := no_word _
theorem NoWord.force (src : Src) (k inst : Fin 128) (on : Bool) : NoWord.Statement (.force src k inst on) := no_word _
theorem NoWord.firstClr (src : Src) (hi : Fin 128) : NoWord.Statement (.firstClr src hi) := no_word _
theorem NoWord.fioDiCfgWrite (src : Src) (i : Fin 32) (deb : Fin (2 ^ 16)) (pulsed inv : Bool) : NoWord.Statement (.fioDiCfgWrite src i deb pulsed inv) := no_word _
theorem NoWord.unfreeze (src : Src) : NoWord.Statement (.unfreeze src) := no_word _
theorem NoWord.exportSetup (src : Src) (kind : Fin 4) (sign : Bool) (epoch first last : Fin (2 ^ 32)) : NoWord.Statement (.exportSetup src kind sign epoch first last) := no_word _
theorem NoWord.replayLoad (src : Src) (upload : Bool) (epoch first last : Fin (2 ^ 32)) : NoWord.Statement (.replayLoad src upload epoch first last) := no_word _
theorem NoWord.genId (src : Src) (code : Fin (2 ^ 16)) : NoWord.Statement (.genId src code) := no_word _
theorem NoWord.keyGenDone : NoWord.Statement .keyGenDone := no_word _
theorem NoWord.open_ (src : Src) (code : Fin (2 ^ 16)) : NoWord.Statement (.open_ src code) := no_word _
theorem NoWord.eraseDone : NoWord.Statement .eraseDone := no_word _
theorem NoWord.logErase (src : Src) (code : Fin (2 ^ 16)) : NoWord.Statement (.logErase src code) := no_word _
theorem NoWord.cfgkeyWrite (src : Src) (key : Fin (2 ^ 512)) (keyId : Fin (2 ^ 32)) : NoWord.Statement (.cfgkeyWrite src key keyId) := no_word _
theorem NoWord.halt (src : Src) (l : Fin 16) (brk : Bool) : NoWord.Statement (.halt src l brk) := no_word _
theorem NoWord.step (src : Src) (l : Fin 16) (brk : Bool) : NoWord.Statement (.step src l brk) := no_word _
theorem NoWord.debugResume (src : Src) (l : Fin 16) (brk : Bool) : NoWord.Statement (.debugResume src l brk) := no_word _
theorem NoWord.lanememRead (src : Src) (space : Fin 4) (first : Fin 16384) (lee : Bool) (off len : Fin 4097) (hostAddr : Fin (2 ^ 64)) : NoWord.Statement (.lanememRead src space first lee off len hostAddr) := no_word _
theorem NoWord.lanememWrite (src : Src) (space : Fin 4) (first : Fin 16384) (off len : Fin 4097) (data : Nat) : NoWord.Statement (.lanememWrite src space first off len data) := no_word _
theorem NoWord.boundary (bits : List (Fin 96 × Nat)) (reach : Bool) : NoWord.Statement (.boundary bits reach) := no_word _
theorem NoWord.deadline : NoWord.Statement .deadline := no_word _
theorem NoWord.midPeriodTransfer : NoWord.Statement .midPeriodTransfer := no_word _
theorem NoWord.measurementInstant : NoWord.Statement .measurementInstant := no_word _
theorem NoWord.outputWord (u : Fin 2) (l : Fin 12) : NoWord.Statement (.outputWord u l) := no_word _
theorem NoWord.deltaWord (u : Fin 2) (l : Fin 12) : NoWord.Statement (.deltaWord u l) := no_word _
theorem NoWord.endMarker (u : Fin 2) (l : Fin 12) : NoWord.Statement (.endMarker u l) := no_word _
theorem NoWord.cairnSeal : NoWord.Statement .cairnSeal := no_word _
theorem NoWord.bbCopyDone : NoWord.Statement .bbCopyDone := no_word _
theorem NoWord.mirrorApply : NoWord.Statement .mirrorApply := no_word _
theorem NoWord.fullCairnRead (pos : Fin 10) : NoWord.Statement (.fullCairnRead pos) := no_word _
theorem NoWord.restorationDone : NoWord.Statement .restorationDone := no_word _
theorem NoWord.evalWindowEnd : NoWord.Statement .evalWindowEnd := no_word _
theorem NoWord.dramScrub (rows : List (Fin 32 × Fin 65536)) : NoWord.Statement (.dramScrub rows) := no_word _
theorem NoWord.faultEvent (e : Option ExtEvent) : NoWord.Statement (.faultEvent e) := no_word _
theorem NoWord.aliveToggle : NoWord.Statement .aliveToggle := no_word _
theorem NoWord.tripInput (n : Fin 32) : NoWord.Statement (.tripInput n) := no_word _
theorem NoWord.tripAfterBlanking (g n : Fin 32) : NoWord.Statement (.tripAfterBlanking g n) := no_word _
theorem NoWord.overcurrentComparator (i : Fin 96) (line : Nat) : NoWord.Statement (.overcurrentComparator i line) := no_word _
theorem NoWord.triggerFire (g : Fin 32) (b : Bool) : NoWord.Statement (.triggerFire g b) := no_word _
theorem NoWord.pwmEdge (g : Fin 32) (l : Fin 3) : NoWord.Statement (.pwmEdge g l) := no_word _
theorem NoWord.deadTimeExpiry (g : Fin 32) (k : Fin 6) : NoWord.Statement (.deadTimeExpiry g k) := no_word _
theorem NoWord.minPulseExpiry (g : Fin 32) (k : Fin 6) : NoWord.Statement (.minPulseExpiry g k) := no_word _
theorem NoWord.quadChange (n : HeldOn 32) (a b : Bool) : NoWord.Statement (.quadChange n a b) := no_word _
theorem NoWord.comparePulseEnd (u : Fin 16) : NoWord.Statement (.comparePulseEnd u) := no_word _
theorem NoWord.hallChange (n : HeldOn 32) (a b z : Bool) : NoWord.Statement (.hallChange n a b z) := no_word _
theorem NoWord.indexEdge (n : ZLevel) : NoWord.Statement (.indexEdge n) := no_word _
theorem NoWord.serialFrameStart (n : Fin 32) : NoWord.Statement (.serialFrameStart n) := no_word _
theorem NoWord.serialFrameComplete (n : Fin 32) (head : Bool) (delay : Fin 65536) (bits : Nat) : NoWord.Statement (.serialFrameComplete n head delay bits) := no_word _
theorem NoWord.karselTimeout (n : Fin 32) : NoWord.Statement (.karselTimeout n) := no_word _
theorem NoWord.emuStep (e : Fin 8) : NoWord.Statement (.emuStep e) := no_word _
theorem NoWord.sdStuck (i : Fin 96) (line : Nat) : NoWord.Statement (.sdStuck i line) := no_word _
theorem NoWord.latchEdge (n : HeldOn 8) (rising : Bool) : NoWord.Statement (.latchEdge n rising) := no_word _
theorem NoWord.syncReceived (p : Fin 3) (m : PtpRx) : NoWord.Statement (.syncReceived p m) := no_word _
theorem NoWord.ptpMessageRx (p : Fin 3) (mtype domain seqId src req : Nat) (body : PtpBody) (sub : Fin 16) : NoWord.Statement (.ptpMessageRx p mtype domain seqId src req body sub) := no_word _
theorem NoWord.ptpMessageTx (p : Fin 3) (mtype : Fin 16) (seqId : Fin 65536) : NoWord.Statement (.ptpMessageTx p mtype seqId) := no_word _
theorem NoWord.announceReceiptTimeout (p : Fin 3) (u v w : Unit) : NoWord.Statement (.announceReceiptTimeout p u v w) := no_word _
theorem NoWord.txTimestamp (p : Fin 3) (mtype : Fin 4) (seqId : SeqAt) : NoWord.Statement (.txTimestamp p mtype seqId) := no_word _
theorem NoWord.ethLinkChange (p : Fin 3) (up : Bool) (speed : Fin 5) : NoWord.Statement (.ethLinkChange p up speed) := no_word _
theorem NoWord.ethFrameRx (p : Fin 3) (fcs : Bool) : NoWord.Statement (.ethFrameRx p fcs) := no_word _
theorem NoWord.cycFrameSend (t : Fin 8) : NoWord.Statement (.cycFrameSend t) := no_word _
theorem NoWord.cycFrameRx (p : Fin 3) (fcs : Bool) (version subtype : BitVec 8) (rest : List (BitVec 8)) : NoWord.Statement (.cycFrameRx p fcs version subtype rest) := no_word _
theorem NoWord.canStartOfFrame (c : Fin 4) : NoWord.Statement (.canStartOfFrame c) := no_word _
theorem NoWord.canFrameEnd (c : Fin 4) (ok err : Bool) (tec recErr : Fin 512) : NoWord.Statement (.canFrameEnd c ok err tec recErr) := no_word _
theorem NoWord.canFrameRx (c : Fin 4) (f : CanFrame) (dur : Nat) (recErr : Fin 512) : NoWord.Statement (.canFrameRx c f dur recErr) := no_word _
theorem NoWord.canBusOff (c : Fin 4) : NoWord.Statement (.canBusOff c) := no_word _
theorem NoWord.isoDownFrame : NoWord.Statement .isoDownFrame := no_word _
theorem NoWord.isoUpFrame (e0 e1 : Option (List (BitVec 8))) (di : Nat) (rb limit : Fin 65536) (supply : Fin 256) : NoWord.Statement (.isoUpFrame e0 e1 di rb limit supply) := no_word _
theorem NoWord.isoUpSlotTimeout : NoWord.Statement .isoUpSlotTimeout := no_word _
theorem NoWord.islandDownFrame (e0 e1 : Option (List (BitVec 8))) : NoWord.Statement (.islandDownFrame e0 e1) := no_word _
theorem NoWord.islandSlotTimeout : NoWord.Statement .islandSlotTimeout := no_word _
theorem NoWord.islandSwitch (c : Fin 16) : NoWord.Statement (.islandSwitch c) := no_word _
theorem NoWord.doShutdown (c : Fin 16) : NoWord.Statement (.doShutdown c) := no_word _
theorem NoWord.doRetry (c : Fin 16) : NoWord.Statement (.doRetry c) := no_word _
theorem NoWord.fieldSupplyLoss : NoWord.Statement .fieldSupplyLoss := no_word _
theorem NoWord.laneNop (c : CopyId) (f : FmtA) : NoWord.Statement (.laneNop c f) := no_word _
theorem NoWord.prod (c : CopyId) (f : FmtA) : NoWord.Statement (.prod c f) := no_word _
theorem NoWord.padd (c : CopyId) (f : FmtA) : NoWord.Statement (.padd c f) := no_word _
theorem NoWord.psub (c : CopyId) (f : FmtA) : NoWord.Statement (.psub c f) := no_word _
theorem NoWord.prnd (c : CopyId) (f : FmtA) : NoWord.Statement (.prnd c f) := no_word _
theorem NoWord.addd (c : CopyId) (f : FmtA) : NoWord.Statement (.addd c f) := no_word _
theorem NoWord.subd (c : CopyId) (f : FmtA) : NoWord.Statement (.subd c f) := no_word _
theorem NoWord.adda (c : CopyId) (f : FmtA) : NoWord.Statement (.adda c f) := no_word _
theorem NoWord.suba (c : CopyId) (f : FmtA) : NoWord.Statement (.suba c f) := no_word _
theorem NoWord.copy (c : CopyId) (f : FmtA) : NoWord.Statement (.copy c f) := no_word _
theorem NoWord.widen (c : CopyId) (f : FmtA) : NoWord.Statement (.widen c f) := no_word _
theorem NoWord.neg (c : CopyId) (f : FmtA) : NoWord.Statement (.neg c f) := no_word _
theorem NoWord.abs (c : CopyId) (f : FmtA) : NoWord.Statement (.abs c f) := no_word _
theorem NoWord.zero (c : CopyId) (f : FmtA) : NoWord.Statement (.zero c f) := no_word _
theorem NoWord.max (c : CopyId) (f : FmtA) : NoWord.Statement (.max c f) := no_word _
theorem NoWord.min (c : CopyId) (f : FmtA) : NoWord.Statement (.min c f) := no_word _
theorem NoWord.round (c : CopyId) (f : FmtA) : NoWord.Statement (.round c f) := no_word _
theorem NoWord.clip (c : CopyId) (f : FmtA) : NoWord.Statement (.clip c f) := no_word _
theorem NoWord.cmp (c : CopyId) (f : FmtA) : NoWord.Statement (.cmp c f) := no_word _
theorem NoWord.tst (c : CopyId) (f : FmtA) : NoWord.Statement (.tst c f) := no_word _
theorem NoWord.and (c : CopyId) (f : FmtA) : NoWord.Statement (.and c f) := no_word _
theorem NoWord.or (c : CopyId) (f : FmtA) : NoWord.Statement (.or c f) := no_word _
theorem NoWord.xor (c : CopyId) (f : FmtA) : NoWord.Statement (.xor c f) := no_word _
theorem NoWord.quot (c : CopyId) (f : FmtA) : NoWord.Statement (.quot c f) := no_word _
theorem NoWord.root (c : CopyId) (f : FmtA) : NoWord.Statement (.root c f) := no_word _
theorem NoWord.trig (c : CopyId) (f : FmtA) : NoWord.Statement (.trig c f) := no_word _
theorem NoWord.padr (c : CopyId) (f : FmtA) : NoWord.Statement (.padr c f) := no_word _
theorem NoWord.pack (c : CopyId) (f : FmtA) : NoWord.Statement (.pack c f) := no_word _
theorem NoWord.high (c : CopyId) (f : FmtA) : NoWord.Statement (.high c f) := no_word _
theorem NoWord.end_ (c : CopyId) : NoWord.Statement (.end_ c) := no_word _
theorem NoWord.ldi (c : CopyId) (cls : LdiCls) (reg : Fin 8) (imm : Word24) : NoWord.Statement (.ldi c cls reg imm) := no_word _
theorem NoWord.shl (c : CopyId) (acc : Fin 8) (n : Fin 64) : NoWord.Statement (.shl c acc n) := no_word _
theorem NoWord.shr (c : CopyId) (acc : Fin 8) (n : Fin 64) : NoWord.Statement (.shr c acc n) := no_word _
theorem NoWord.bra (c : CopyId) (cond : Cond) (target : Fin 8192) : NoWord.Statement (.bra c cond target) := no_word _
theorem NoWord.call (c : CopyId) (cond : Cond) (target : Fin 8192) : NoWord.Statement (.call c cond target) := no_word _
theorem NoWord.ret (c : CopyId) (cond : Cond) : NoWord.Statement (.ret c cond) := no_word _
theorem NoWord.loop (c : CopyId) (count : Fin 65536 ⊕ Fin 8) (last : Fin 8192) : NoWord.Statement (.loop c count last) := no_word _
theorem NoWord.post (c : CopyId) (r : RegRef) (port : Fin 65536) : NoWord.Statement (.post c r port) := no_word _
theorem NoWord.lst (c : CopyId) (acc ptr : Fin 8) (y delta : Bool) : NoWord.Statement (.lst c acc ptr y delta) := no_word _
theorem NoWord.lld (c : CopyId) (acc ptr : Fin 8) (y : Bool) : NoWord.Statement (.lld c acc ptr y) := no_word _
theorem NoWord.xfr (c : CopyId) (toD : Bool) (dreg ptr : Fin 8) : NoWord.Statement (.xfr c toD dreg ptr) := no_word _
theorem NoWord.addp (c : CopyId) (ptr : Fin 8) (offset : Fin 16384) : NoWord.Statement (.addp c ptr offset) := no_word _
theorem NoWord.pcieLinkDown : NoWord.Statement .pcieLinkDown := no_word _
theorem NoWord.pePerstNRelease : NoWord.Statement .pePerstNRelease := no_word _
theorem NoWord.busMasterEnable : NoWord.Statement .busMasterEnable := no_word _
theorem NoWord.fieldSupplyReturn : NoWord.Statement .fieldSupplyReturn := no_word _
theorem NoWord.tripInputInactive (n : Fin 32) : NoWord.Statement (.tripInputInactive n) := no_word _
theorem NoWord.comparatorInactive (i : Fin 96) (line : Nat) : NoWord.Statement (.comparatorInactive i line) := no_word _
theorem NoWord.sdStuckEnd (n : SdLine) : NoWord.Statement (.sdStuckEnd n) := no_word _
theorem NoWord.canBusIntegration (c : Fin 4) : NoWord.Statement (.canBusIntegration c) := no_word _
theorem NoWord.bulkTransferDone (b : Fin 2) : NoWord.Statement (.bulkTransferDone b) := no_word _
theorem NoWord.vcoreSag (u : Fin 2) : NoWord.Statement (.vcoreSag u) := no_word _
theorem NoWord.svcTckEdge (level tms tdi trstN : Bool) (lands : Fin (2 ^ 500)) : NoWord.Statement (.svcTckEdge level tms tdi trstN lands) := no_word _

end Sys2Proof.Laws
end

