-- ==== Sys2Proof/Laws/State.lean ====
section
/-!
SUPPORT. One lemma for each update of the state and each field it leaves alone, so that no proof unfolds a record update.
-/

set_option Elab.async false

namespace Sys2Proof.Machine

@[simp] theorem State.setObj_pending (s : State) (o : Obj) (i e v : Nat) : (s.setObj o i e v).pending = s.pending := rfl
@[simp] theorem State.setObj_msgs (s : State) (o : Obj) (i e v : Nat) : (s.setObj o i e v).msgs = s.msgs := rfl
@[simp] theorem State.setObj_boot (s : State) (o : Obj) (i e v : Nat) : (s.setObj o i e v).boot = s.boot := rfl
@[simp] theorem State.setObj_per (s : State) (o : Obj) (i e v : Nat) : (s.setObj o i e v).per = s.per := rfl
@[simp] theorem State.setObj_time (s : State) (o : Obj) (i e v : Nat) : (s.setObj o i e v).time = s.time := rfl
@[simp] theorem State.setObj_host (s : State) (o : Obj) (i e v : Nat) : (s.setObj o i e v).host = s.host := rfl
@[simp] theorem State.setObj_flt (s : State) (o : Obj) (i e v : Nat) : (s.setObj o i e v).flt = s.flt := rfl
@[simp] theorem State.setObj_net (s : State) (o : Obj) (i e v : Nat) : (s.setObj o i e v).net = s.net := rfl
@[simp] theorem State.setObj_groups (s : State) (o : Obj) (i e v : Nat) : (s.setObj o i e v).groups = s.groups := rfl
@[simp] theorem State.setObj_lanes (s : State) (o : Obj) (i e v : Nat) : (s.setObj o i e v).lanes = s.lanes := rfl
@[simp] theorem State.setObj_red (s : State) (o : Obj) (i e v : Nat) : (s.setObj o i e v).red = s.red := rfl
@[simp] theorem State.setObj_fb (s : State) (o : Obj) (i e v : Nat) : (s.setObj o i e v).fb = s.fb := rfl
@[simp] theorem State.setObj_emu (s : State) (o : Obj) (i e v : Nat) : (s.setObj o i e v).emu = s.emu := rfl
@[simp] theorem State.setObj_sd (s : State) (o : Obj) (i e v : Nat) : (s.setObj o i e v).sd = s.sd := rfl
@[simp] theorem State.setObj_fio (s : State) (o : Obj) (i e v : Nat) : (s.setObj o i e v).fio = s.fio := rfl
@[simp] theorem State.setObj_motion (s : State) (o : Obj) (i e v : Nat) : (s.setObj o i e v).motion = s.motion := rfl
@[simp] theorem State.setObj_latchUnits (s : State) (o : Obj) (i e v : Nat) : (s.setObj o i e v).latchUnits = s.latchUnits := rfl
@[simp] theorem State.setObj_cmpUnits (s : State) (o : Obj) (i e v : Nat) : (s.setObj o i e v).cmpUnits = s.cmpUnits := rfl
@[simp] theorem State.setObj_surv (s : State) (o : Obj) (i e v : Nat) : (s.setObj o i e v).surv = s.surv := rfl
@[simp] theorem State.setObj_sec (s : State) (o : Obj) (i e v : Nat) : (s.setObj o i e v).sec = s.sec := rfl
@[simp] theorem State.setObj_tap (s : State) (o : Obj) (i e v : Nat) : (s.setObj o i e v).tap = s.tap := rfl

@[simp] theorem State.setFld_pending (s : State) (f : Fld) (v i e : Nat) : (s.setFld f v i e).pending = s.pending := rfl
@[simp] theorem State.setFld_msgs (s : State) (f : Fld) (v i e : Nat) : (s.setFld f v i e).msgs = s.msgs := rfl
@[simp] theorem State.setFld_boot (s : State) (f : Fld) (v i e : Nat) : (s.setFld f v i e).boot = s.boot := rfl
@[simp] theorem State.setFld_per (s : State) (f : Fld) (v i e : Nat) : (s.setFld f v i e).per = s.per := rfl
@[simp] theorem State.setFld_time (s : State) (f : Fld) (v i e : Nat) : (s.setFld f v i e).time = s.time := rfl
@[simp] theorem State.setFld_host (s : State) (f : Fld) (v i e : Nat) : (s.setFld f v i e).host = s.host := rfl
@[simp] theorem State.setFld_flt (s : State) (f : Fld) (v i e : Nat) : (s.setFld f v i e).flt = s.flt := rfl
@[simp] theorem State.setFld_net (s : State) (f : Fld) (v i e : Nat) : (s.setFld f v i e).net = s.net := rfl
@[simp] theorem State.setFld_groups (s : State) (f : Fld) (v i e : Nat) : (s.setFld f v i e).groups = s.groups := rfl
@[simp] theorem State.setFld_lanes (s : State) (f : Fld) (v i e : Nat) : (s.setFld f v i e).lanes = s.lanes := rfl
@[simp] theorem State.setFld_red (s : State) (f : Fld) (v i e : Nat) : (s.setFld f v i e).red = s.red := rfl
@[simp] theorem State.setFld_fb (s : State) (f : Fld) (v i e : Nat) : (s.setFld f v i e).fb = s.fb := rfl
@[simp] theorem State.setFld_emu (s : State) (f : Fld) (v i e : Nat) : (s.setFld f v i e).emu = s.emu := rfl
@[simp] theorem State.setFld_sd (s : State) (f : Fld) (v i e : Nat) : (s.setFld f v i e).sd = s.sd := rfl
@[simp] theorem State.setFld_fio (s : State) (f : Fld) (v i e : Nat) : (s.setFld f v i e).fio = s.fio := rfl
@[simp] theorem State.setFld_motion (s : State) (f : Fld) (v i e : Nat) : (s.setFld f v i e).motion = s.motion := rfl
@[simp] theorem State.setFld_latchUnits (s : State) (f : Fld) (v i e : Nat) : (s.setFld f v i e).latchUnits = s.latchUnits := rfl
@[simp] theorem State.setFld_cmpUnits (s : State) (f : Fld) (v i e : Nat) : (s.setFld f v i e).cmpUnits = s.cmpUnits := rfl
@[simp] theorem State.setFld_surv (s : State) (f : Fld) (v i e : Nat) : (s.setFld f v i e).surv = s.surv := rfl
@[simp] theorem State.setFld_sec (s : State) (f : Fld) (v i e : Nat) : (s.setFld f v i e).sec = s.sec := rfl
@[simp] theorem State.setFld_tap (s : State) (f : Fld) (v i e : Nat) : (s.setFld f v i e).tap = s.tap := rfl

@[simp] theorem State.setBit_pending (s : State) (f : Fld) (b : Bool) (i e : Nat) : (s.setBit f b i e).pending = s.pending := rfl
@[simp] theorem State.setBit_msgs (s : State) (f : Fld) (b : Bool) (i e : Nat) : (s.setBit f b i e).msgs = s.msgs := rfl
@[simp] theorem State.setBit_boot (s : State) (f : Fld) (b : Bool) (i e : Nat) : (s.setBit f b i e).boot = s.boot := rfl
@[simp] theorem State.setBit_per (s : State) (f : Fld) (b : Bool) (i e : Nat) : (s.setBit f b i e).per = s.per := rfl
@[simp] theorem State.setBit_time (s : State) (f : Fld) (b : Bool) (i e : Nat) : (s.setBit f b i e).time = s.time := rfl
@[simp] theorem State.setBit_host (s : State) (f : Fld) (b : Bool) (i e : Nat) : (s.setBit f b i e).host = s.host := rfl
@[simp] theorem State.setBit_flt (s : State) (f : Fld) (b : Bool) (i e : Nat) : (s.setBit f b i e).flt = s.flt := rfl
@[simp] theorem State.setBit_net (s : State) (f : Fld) (b : Bool) (i e : Nat) : (s.setBit f b i e).net = s.net := rfl
@[simp] theorem State.setBit_groups (s : State) (f : Fld) (b : Bool) (i e : Nat) : (s.setBit f b i e).groups = s.groups := rfl
@[simp] theorem State.setBit_lanes (s : State) (f : Fld) (b : Bool) (i e : Nat) : (s.setBit f b i e).lanes = s.lanes := rfl
@[simp] theorem State.setBit_red (s : State) (f : Fld) (b : Bool) (i e : Nat) : (s.setBit f b i e).red = s.red := rfl
@[simp] theorem State.setBit_fb (s : State) (f : Fld) (b : Bool) (i e : Nat) : (s.setBit f b i e).fb = s.fb := rfl
@[simp] theorem State.setBit_emu (s : State) (f : Fld) (b : Bool) (i e : Nat) : (s.setBit f b i e).emu = s.emu := rfl
@[simp] theorem State.setBit_sd (s : State) (f : Fld) (b : Bool) (i e : Nat) : (s.setBit f b i e).sd = s.sd := rfl
@[simp] theorem State.setBit_fio (s : State) (f : Fld) (b : Bool) (i e : Nat) : (s.setBit f b i e).fio = s.fio := rfl
@[simp] theorem State.setBit_motion (s : State) (f : Fld) (b : Bool) (i e : Nat) : (s.setBit f b i e).motion = s.motion := rfl
@[simp] theorem State.setBit_latchUnits (s : State) (f : Fld) (b : Bool) (i e : Nat) : (s.setBit f b i e).latchUnits = s.latchUnits := rfl
@[simp] theorem State.setBit_cmpUnits (s : State) (f : Fld) (b : Bool) (i e : Nat) : (s.setBit f b i e).cmpUnits = s.cmpUnits := rfl
@[simp] theorem State.setBit_surv (s : State) (f : Fld) (b : Bool) (i e : Nat) : (s.setBit f b i e).surv = s.surv := rfl
@[simp] theorem State.setBit_sec (s : State) (f : Fld) (b : Bool) (i e : Nat) : (s.setBit f b i e).sec = s.sec := rfl
@[simp] theorem State.setBit_tap (s : State) (f : Fld) (b : Bool) (i e : Nat) : (s.setBit f b i e).tap = s.tap := rfl

@[simp] theorem State.setNth_pending (s : State) (f : Fld) (n : Nat) (b : Bool) (i e : Nat) : (s.setNth f n b i e).pending = s.pending := rfl
@[simp] theorem State.setNth_msgs (s : State) (f : Fld) (n : Nat) (b : Bool) (i e : Nat) : (s.setNth f n b i e).msgs = s.msgs := rfl
@[simp] theorem State.setNth_boot (s : State) (f : Fld) (n : Nat) (b : Bool) (i e : Nat) : (s.setNth f n b i e).boot = s.boot := rfl
@[simp] theorem State.setNth_per (s : State) (f : Fld) (n : Nat) (b : Bool) (i e : Nat) : (s.setNth f n b i e).per = s.per := rfl
@[simp] theorem State.setNth_time (s : State) (f : Fld) (n : Nat) (b : Bool) (i e : Nat) : (s.setNth f n b i e).time = s.time := rfl
@[simp] theorem State.setNth_host (s : State) (f : Fld) (n : Nat) (b : Bool) (i e : Nat) : (s.setNth f n b i e).host = s.host := rfl
@[simp] theorem State.setNth_flt (s : State) (f : Fld) (n : Nat) (b : Bool) (i e : Nat) : (s.setNth f n b i e).flt = s.flt := rfl
@[simp] theorem State.setNth_net (s : State) (f : Fld) (n : Nat) (b : Bool) (i e : Nat) : (s.setNth f n b i e).net = s.net := rfl
@[simp] theorem State.setNth_groups (s : State) (f : Fld) (n : Nat) (b : Bool) (i e : Nat) : (s.setNth f n b i e).groups = s.groups := rfl
@[simp] theorem State.setNth_lanes (s : State) (f : Fld) (n : Nat) (b : Bool) (i e : Nat) : (s.setNth f n b i e).lanes = s.lanes := rfl
@[simp] theorem State.setNth_red (s : State) (f : Fld) (n : Nat) (b : Bool) (i e : Nat) : (s.setNth f n b i e).red = s.red := rfl
@[simp] theorem State.setNth_fb (s : State) (f : Fld) (n : Nat) (b : Bool) (i e : Nat) : (s.setNth f n b i e).fb = s.fb := rfl
@[simp] theorem State.setNth_emu (s : State) (f : Fld) (n : Nat) (b : Bool) (i e : Nat) : (s.setNth f n b i e).emu = s.emu := rfl
@[simp] theorem State.setNth_sd (s : State) (f : Fld) (n : Nat) (b : Bool) (i e : Nat) : (s.setNth f n b i e).sd = s.sd := rfl
@[simp] theorem State.setNth_fio (s : State) (f : Fld) (n : Nat) (b : Bool) (i e : Nat) : (s.setNth f n b i e).fio = s.fio := rfl
@[simp] theorem State.setNth_motion (s : State) (f : Fld) (n : Nat) (b : Bool) (i e : Nat) : (s.setNth f n b i e).motion = s.motion := rfl
@[simp] theorem State.setNth_latchUnits (s : State) (f : Fld) (n : Nat) (b : Bool) (i e : Nat) : (s.setNth f n b i e).latchUnits = s.latchUnits := rfl
@[simp] theorem State.setNth_cmpUnits (s : State) (f : Fld) (n : Nat) (b : Bool) (i e : Nat) : (s.setNth f n b i e).cmpUnits = s.cmpUnits := rfl
@[simp] theorem State.setNth_surv (s : State) (f : Fld) (n : Nat) (b : Bool) (i e : Nat) : (s.setNth f n b i e).surv = s.surv := rfl
@[simp] theorem State.setNth_sec (s : State) (f : Fld) (n : Nat) (b : Bool) (i e : Nat) : (s.setNth f n b i e).sec = s.sec := rfl
@[simp] theorem State.setNth_tap (s : State) (f : Fld) (n : Nat) (b : Bool) (i e : Nat) : (s.setNth f n b i e).tap = s.tap := rfl

@[simp] theorem State.resetObj_pending (s : State) (o : Obj) (i e : Nat) : (s.resetObj o i e).pending = s.pending := rfl
@[simp] theorem State.resetObj_msgs (s : State) (o : Obj) (i e : Nat) : (s.resetObj o i e).msgs = s.msgs := rfl
@[simp] theorem State.resetObj_boot (s : State) (o : Obj) (i e : Nat) : (s.resetObj o i e).boot = s.boot := rfl
@[simp] theorem State.resetObj_per (s : State) (o : Obj) (i e : Nat) : (s.resetObj o i e).per = s.per := rfl
@[simp] theorem State.resetObj_time (s : State) (o : Obj) (i e : Nat) : (s.resetObj o i e).time = s.time := rfl
@[simp] theorem State.resetObj_host (s : State) (o : Obj) (i e : Nat) : (s.resetObj o i e).host = s.host := rfl
@[simp] theorem State.resetObj_flt (s : State) (o : Obj) (i e : Nat) : (s.resetObj o i e).flt = s.flt := rfl
@[simp] theorem State.resetObj_net (s : State) (o : Obj) (i e : Nat) : (s.resetObj o i e).net = s.net := rfl
@[simp] theorem State.resetObj_groups (s : State) (o : Obj) (i e : Nat) : (s.resetObj o i e).groups = s.groups := rfl
@[simp] theorem State.resetObj_lanes (s : State) (o : Obj) (i e : Nat) : (s.resetObj o i e).lanes = s.lanes := rfl
@[simp] theorem State.resetObj_red (s : State) (o : Obj) (i e : Nat) : (s.resetObj o i e).red = s.red := rfl
@[simp] theorem State.resetObj_fb (s : State) (o : Obj) (i e : Nat) : (s.resetObj o i e).fb = s.fb := rfl
@[simp] theorem State.resetObj_emu (s : State) (o : Obj) (i e : Nat) : (s.resetObj o i e).emu = s.emu := rfl
@[simp] theorem State.resetObj_sd (s : State) (o : Obj) (i e : Nat) : (s.resetObj o i e).sd = s.sd := rfl
@[simp] theorem State.resetObj_fio (s : State) (o : Obj) (i e : Nat) : (s.resetObj o i e).fio = s.fio := rfl
@[simp] theorem State.resetObj_motion (s : State) (o : Obj) (i e : Nat) : (s.resetObj o i e).motion = s.motion := rfl
@[simp] theorem State.resetObj_latchUnits (s : State) (o : Obj) (i e : Nat) : (s.resetObj o i e).latchUnits = s.latchUnits := rfl
@[simp] theorem State.resetObj_cmpUnits (s : State) (o : Obj) (i e : Nat) : (s.resetObj o i e).cmpUnits = s.cmpUnits := rfl
@[simp] theorem State.resetObj_surv (s : State) (o : Obj) (i e : Nat) : (s.resetObj o i e).surv = s.surv := rfl
@[simp] theorem State.resetObj_sec (s : State) (o : Obj) (i e : Nat) : (s.resetObj o i e).sec = s.sec := rfl
@[simp] theorem State.resetObj_tap (s : State) (o : Obj) (i e : Nat) : (s.resetObj o i e).tap = s.tap := rfl

@[simp] theorem State.putWord_pending (s : State) (o : Obj) (i w v : Nat) : (s.putWord o i w v).pending = s.pending := rfl
@[simp] theorem State.putWord_msgs (s : State) (o : Obj) (i w v : Nat) : (s.putWord o i w v).msgs = s.msgs := rfl
@[simp] theorem State.putWord_boot (s : State) (o : Obj) (i w v : Nat) : (s.putWord o i w v).boot = s.boot := rfl
@[simp] theorem State.putWord_per (s : State) (o : Obj) (i w v : Nat) : (s.putWord o i w v).per = s.per := rfl
@[simp] theorem State.putWord_time (s : State) (o : Obj) (i w v : Nat) : (s.putWord o i w v).time = s.time := rfl
@[simp] theorem State.putWord_host (s : State) (o : Obj) (i w v : Nat) : (s.putWord o i w v).host = s.host := rfl
@[simp] theorem State.putWord_flt (s : State) (o : Obj) (i w v : Nat) : (s.putWord o i w v).flt = s.flt := rfl
@[simp] theorem State.putWord_net (s : State) (o : Obj) (i w v : Nat) : (s.putWord o i w v).net = s.net := rfl
@[simp] theorem State.putWord_groups (s : State) (o : Obj) (i w v : Nat) : (s.putWord o i w v).groups = s.groups := rfl
@[simp] theorem State.putWord_lanes (s : State) (o : Obj) (i w v : Nat) : (s.putWord o i w v).lanes = s.lanes := rfl
@[simp] theorem State.putWord_red (s : State) (o : Obj) (i w v : Nat) : (s.putWord o i w v).red = s.red := rfl
@[simp] theorem State.putWord_fb (s : State) (o : Obj) (i w v : Nat) : (s.putWord o i w v).fb = s.fb := rfl
@[simp] theorem State.putWord_emu (s : State) (o : Obj) (i w v : Nat) : (s.putWord o i w v).emu = s.emu := rfl
@[simp] theorem State.putWord_sd (s : State) (o : Obj) (i w v : Nat) : (s.putWord o i w v).sd = s.sd := rfl
@[simp] theorem State.putWord_fio (s : State) (o : Obj) (i w v : Nat) : (s.putWord o i w v).fio = s.fio := rfl
@[simp] theorem State.putWord_motion (s : State) (o : Obj) (i w v : Nat) : (s.putWord o i w v).motion = s.motion := rfl
@[simp] theorem State.putWord_latchUnits (s : State) (o : Obj) (i w v : Nat) : (s.putWord o i w v).latchUnits = s.latchUnits := rfl
@[simp] theorem State.putWord_cmpUnits (s : State) (o : Obj) (i w v : Nat) : (s.putWord o i w v).cmpUnits = s.cmpUnits := rfl
@[simp] theorem State.putWord_surv (s : State) (o : Obj) (i w v : Nat) : (s.putWord o i w v).surv = s.surv := rfl
@[simp] theorem State.putWord_sec (s : State) (o : Obj) (i w v : Nat) : (s.putWord o i w v).sec = s.sec := rfl
@[simp] theorem State.putWord_tap (s : State) (o : Obj) (i w v : Nat) : (s.putWord o i w v).tap = s.tap := rfl

@[simp] theorem State.send_pending (s : State) (m : Msg) : (s.send m).pending = s.pending := rfl
@[simp] theorem State.send_objs (s : State) (m : Msg) : (s.send m).objs = s.objs := rfl
@[simp] theorem State.send_boot (s : State) (m : Msg) : (s.send m).boot = s.boot := rfl
@[simp] theorem State.send_per (s : State) (m : Msg) : (s.send m).per = s.per := rfl
@[simp] theorem State.send_time (s : State) (m : Msg) : (s.send m).time = s.time := rfl
@[simp] theorem State.send_host (s : State) (m : Msg) : (s.send m).host = s.host := rfl
@[simp] theorem State.send_flt (s : State) (m : Msg) : (s.send m).flt = s.flt := rfl
@[simp] theorem State.send_net (s : State) (m : Msg) : (s.send m).net = s.net := rfl
@[simp] theorem State.send_groups (s : State) (m : Msg) : (s.send m).groups = s.groups := rfl
@[simp] theorem State.send_lanes (s : State) (m : Msg) : (s.send m).lanes = s.lanes := rfl
@[simp] theorem State.send_red (s : State) (m : Msg) : (s.send m).red = s.red := rfl
@[simp] theorem State.send_fb (s : State) (m : Msg) : (s.send m).fb = s.fb := rfl
@[simp] theorem State.send_emu (s : State) (m : Msg) : (s.send m).emu = s.emu := rfl
@[simp] theorem State.send_sd (s : State) (m : Msg) : (s.send m).sd = s.sd := rfl
@[simp] theorem State.send_fio (s : State) (m : Msg) : (s.send m).fio = s.fio := rfl
@[simp] theorem State.send_motion (s : State) (m : Msg) : (s.send m).motion = s.motion := rfl
@[simp] theorem State.send_latchUnits (s : State) (m : Msg) : (s.send m).latchUnits = s.latchUnits := rfl
@[simp] theorem State.send_cmpUnits (s : State) (m : Msg) : (s.send m).cmpUnits = s.cmpUnits := rfl
@[simp] theorem State.send_surv (s : State) (m : Msg) : (s.send m).surv = s.surv := rfl
@[simp] theorem State.send_sec (s : State) (m : Msg) : (s.send m).sec = s.sec := rfl
@[simp] theorem State.send_tap (s : State) (m : Msg) : (s.send m).tap = s.tap := rfl

@[simp] theorem State.raise_pending (s : State) (k : Kind) (i d n kd a : Nat) : (s.raise k i d n kd a).pending = s.pending := rfl
@[simp] theorem State.raise_objs (s : State) (k : Kind) (i d n kd a : Nat) : (s.raise k i d n kd a).objs = s.objs := rfl
@[simp] theorem State.raise_boot (s : State) (k : Kind) (i d n kd a : Nat) : (s.raise k i d n kd a).boot = s.boot := rfl
@[simp] theorem State.raise_per (s : State) (k : Kind) (i d n kd a : Nat) : (s.raise k i d n kd a).per = s.per := rfl
@[simp] theorem State.raise_time (s : State) (k : Kind) (i d n kd a : Nat) : (s.raise k i d n kd a).time = s.time := rfl
@[simp] theorem State.raise_host (s : State) (k : Kind) (i d n kd a : Nat) : (s.raise k i d n kd a).host = s.host := rfl
@[simp] theorem State.raise_flt (s : State) (k : Kind) (i d n kd a : Nat) : (s.raise k i d n kd a).flt = s.flt := rfl
@[simp] theorem State.raise_net (s : State) (k : Kind) (i d n kd a : Nat) : (s.raise k i d n kd a).net = s.net := rfl
@[simp] theorem State.raise_groups (s : State) (k : Kind) (i d n kd a : Nat) : (s.raise k i d n kd a).groups = s.groups := rfl
@[simp] theorem State.raise_lanes (s : State) (k : Kind) (i d n kd a : Nat) : (s.raise k i d n kd a).lanes = s.lanes := rfl
@[simp] theorem State.raise_red (s : State) (k : Kind) (i d n kd a : Nat) : (s.raise k i d n kd a).red = s.red := rfl
@[simp] theorem State.raise_fb (s : State) (k : Kind) (i d n kd a : Nat) : (s.raise k i d n kd a).fb = s.fb := rfl
@[simp] theorem State.raise_emu (s : State) (k : Kind) (i d n kd a : Nat) : (s.raise k i d n kd a).emu = s.emu := rfl
@[simp] theorem State.raise_sd (s : State) (k : Kind) (i d n kd a : Nat) : (s.raise k i d n kd a).sd = s.sd := rfl
@[simp] theorem State.raise_fio (s : State) (k : Kind) (i d n kd a : Nat) : (s.raise k i d n kd a).fio = s.fio := rfl
@[simp] theorem State.raise_motion (s : State) (k : Kind) (i d n kd a : Nat) : (s.raise k i d n kd a).motion = s.motion := rfl
@[simp] theorem State.raise_latchUnits (s : State) (k : Kind) (i d n kd a : Nat) : (s.raise k i d n kd a).latchUnits = s.latchUnits := rfl
@[simp] theorem State.raise_cmpUnits (s : State) (k : Kind) (i d n kd a : Nat) : (s.raise k i d n kd a).cmpUnits = s.cmpUnits := rfl
@[simp] theorem State.raise_surv (s : State) (k : Kind) (i d n kd a : Nat) : (s.raise k i d n kd a).surv = s.surv := rfl
@[simp] theorem State.raise_sec (s : State) (k : Kind) (i d n kd a : Nat) : (s.raise k i d n kd a).sec = s.sec := rfl
@[simp] theorem State.raise_tap (s : State) (k : Kind) (i d n kd a : Nat) : (s.raise k i d n kd a).tap = s.tap := rfl

@[simp] theorem State.raiseAt_pending (s : State) (t : Nat) (k : Kind) (i d n kd : Nat) : (s.raiseAt t k i d n kd).pending = s.pending := rfl
@[simp] theorem State.raiseAt_objs (s : State) (t : Nat) (k : Kind) (i d n kd : Nat) : (s.raiseAt t k i d n kd).objs = s.objs := rfl
@[simp] theorem State.raiseAt_boot (s : State) (t : Nat) (k : Kind) (i d n kd : Nat) : (s.raiseAt t k i d n kd).boot = s.boot := rfl
@[simp] theorem State.raiseAt_per (s : State) (t : Nat) (k : Kind) (i d n kd : Nat) : (s.raiseAt t k i d n kd).per = s.per := rfl
@[simp] theorem State.raiseAt_time (s : State) (t : Nat) (k : Kind) (i d n kd : Nat) : (s.raiseAt t k i d n kd).time = s.time := rfl
@[simp] theorem State.raiseAt_host (s : State) (t : Nat) (k : Kind) (i d n kd : Nat) : (s.raiseAt t k i d n kd).host = s.host := rfl
@[simp] theorem State.raiseAt_flt (s : State) (t : Nat) (k : Kind) (i d n kd : Nat) : (s.raiseAt t k i d n kd).flt = s.flt := rfl
@[simp] theorem State.raiseAt_net (s : State) (t : Nat) (k : Kind) (i d n kd : Nat) : (s.raiseAt t k i d n kd).net = s.net := rfl
@[simp] theorem State.raiseAt_groups (s : State) (t : Nat) (k : Kind) (i d n kd : Nat) : (s.raiseAt t k i d n kd).groups = s.groups := rfl
@[simp] theorem State.raiseAt_lanes (s : State) (t : Nat) (k : Kind) (i d n kd : Nat) : (s.raiseAt t k i d n kd).lanes = s.lanes := rfl
@[simp] theorem State.raiseAt_red (s : State) (t : Nat) (k : Kind) (i d n kd : Nat) : (s.raiseAt t k i d n kd).red = s.red := rfl
@[simp] theorem State.raiseAt_fb (s : State) (t : Nat) (k : Kind) (i d n kd : Nat) : (s.raiseAt t k i d n kd).fb = s.fb := rfl
@[simp] theorem State.raiseAt_emu (s : State) (t : Nat) (k : Kind) (i d n kd : Nat) : (s.raiseAt t k i d n kd).emu = s.emu := rfl
@[simp] theorem State.raiseAt_sd (s : State) (t : Nat) (k : Kind) (i d n kd : Nat) : (s.raiseAt t k i d n kd).sd = s.sd := rfl
@[simp] theorem State.raiseAt_fio (s : State) (t : Nat) (k : Kind) (i d n kd : Nat) : (s.raiseAt t k i d n kd).fio = s.fio := rfl
@[simp] theorem State.raiseAt_motion (s : State) (t : Nat) (k : Kind) (i d n kd : Nat) : (s.raiseAt t k i d n kd).motion = s.motion := rfl
@[simp] theorem State.raiseAt_latchUnits (s : State) (t : Nat) (k : Kind) (i d n kd : Nat) : (s.raiseAt t k i d n kd).latchUnits = s.latchUnits := rfl
@[simp] theorem State.raiseAt_cmpUnits (s : State) (t : Nat) (k : Kind) (i d n kd : Nat) : (s.raiseAt t k i d n kd).cmpUnits = s.cmpUnits := rfl
@[simp] theorem State.raiseAt_surv (s : State) (t : Nat) (k : Kind) (i d n kd : Nat) : (s.raiseAt t k i d n kd).surv = s.surv := rfl
@[simp] theorem State.raiseAt_sec (s : State) (t : Nat) (k : Kind) (i d n kd : Nat) : (s.raiseAt t k i d n kd).sec = s.sec := rfl
@[simp] theorem State.raiseAt_tap (s : State) (t : Nat) (k : Kind) (i d n kd : Nat) : (s.raiseAt t k i d n kd).tap = s.tap := rfl

@[simp] theorem State.clearLive_pending (s : State) (k : Kind) (i : Nat) : (s.clearLive k i).pending = s.pending := rfl
@[simp] theorem State.clearLive_objs (s : State) (k : Kind) (i : Nat) : (s.clearLive k i).objs = s.objs := rfl
@[simp] theorem State.clearLive_boot (s : State) (k : Kind) (i : Nat) : (s.clearLive k i).boot = s.boot := rfl
@[simp] theorem State.clearLive_per (s : State) (k : Kind) (i : Nat) : (s.clearLive k i).per = s.per := rfl
@[simp] theorem State.clearLive_time (s : State) (k : Kind) (i : Nat) : (s.clearLive k i).time = s.time := rfl
@[simp] theorem State.clearLive_host (s : State) (k : Kind) (i : Nat) : (s.clearLive k i).host = s.host := rfl
@[simp] theorem State.clearLive_flt (s : State) (k : Kind) (i : Nat) : (s.clearLive k i).flt = s.flt := rfl
@[simp] theorem State.clearLive_net (s : State) (k : Kind) (i : Nat) : (s.clearLive k i).net = s.net := rfl
@[simp] theorem State.clearLive_groups (s : State) (k : Kind) (i : Nat) : (s.clearLive k i).groups = s.groups := rfl
@[simp] theorem State.clearLive_lanes (s : State) (k : Kind) (i : Nat) : (s.clearLive k i).lanes = s.lanes := rfl
@[simp] theorem State.clearLive_red (s : State) (k : Kind) (i : Nat) : (s.clearLive k i).red = s.red := rfl
@[simp] theorem State.clearLive_fb (s : State) (k : Kind) (i : Nat) : (s.clearLive k i).fb = s.fb := rfl
@[simp] theorem State.clearLive_emu (s : State) (k : Kind) (i : Nat) : (s.clearLive k i).emu = s.emu := rfl
@[simp] theorem State.clearLive_sd (s : State) (k : Kind) (i : Nat) : (s.clearLive k i).sd = s.sd := rfl
@[simp] theorem State.clearLive_fio (s : State) (k : Kind) (i : Nat) : (s.clearLive k i).fio = s.fio := rfl
@[simp] theorem State.clearLive_motion (s : State) (k : Kind) (i : Nat) : (s.clearLive k i).motion = s.motion := rfl
@[simp] theorem State.clearLive_latchUnits (s : State) (k : Kind) (i : Nat) : (s.clearLive k i).latchUnits = s.latchUnits := rfl
@[simp] theorem State.clearLive_cmpUnits (s : State) (k : Kind) (i : Nat) : (s.clearLive k i).cmpUnits = s.cmpUnits := rfl
@[simp] theorem State.clearLive_surv (s : State) (k : Kind) (i : Nat) : (s.clearLive k i).surv = s.surv := rfl
@[simp] theorem State.clearLive_sec (s : State) (k : Kind) (i : Nat) : (s.clearLive k i).sec = s.sec := rfl
@[simp] theorem State.clearLive_tap (s : State) (k : Kind) (i : Nat) : (s.clearLive k i).tap = s.tap := rfl

@[simp] theorem State.setLive_pending (s : State) (n : Nat) (b : Bool) : (s.setLive n b).pending = s.pending := rfl
@[simp] theorem State.setLive_objs (s : State) (n : Nat) (b : Bool) : (s.setLive n b).objs = s.objs := rfl
@[simp] theorem State.setLive_msgs (s : State) (n : Nat) (b : Bool) : (s.setLive n b).msgs = s.msgs := rfl
@[simp] theorem State.setLive_boot (s : State) (n : Nat) (b : Bool) : (s.setLive n b).boot = s.boot := rfl
@[simp] theorem State.setLive_per (s : State) (n : Nat) (b : Bool) : (s.setLive n b).per = s.per := rfl
@[simp] theorem State.setLive_time (s : State) (n : Nat) (b : Bool) : (s.setLive n b).time = s.time := rfl
@[simp] theorem State.setLive_host (s : State) (n : Nat) (b : Bool) : (s.setLive n b).host = s.host := rfl
@[simp] theorem State.setLive_net (s : State) (n : Nat) (b : Bool) : (s.setLive n b).net = s.net := rfl
@[simp] theorem State.setLive_groups (s : State) (n : Nat) (b : Bool) : (s.setLive n b).groups = s.groups := rfl
@[simp] theorem State.setLive_lanes (s : State) (n : Nat) (b : Bool) : (s.setLive n b).lanes = s.lanes := rfl
@[simp] theorem State.setLive_red (s : State) (n : Nat) (b : Bool) : (s.setLive n b).red = s.red := rfl
@[simp] theorem State.setLive_fb (s : State) (n : Nat) (b : Bool) : (s.setLive n b).fb = s.fb := rfl
@[simp] theorem State.setLive_emu (s : State) (n : Nat) (b : Bool) : (s.setLive n b).emu = s.emu := rfl
@[simp] theorem State.setLive_sd (s : State) (n : Nat) (b : Bool) : (s.setLive n b).sd = s.sd := rfl
@[simp] theorem State.setLive_fio (s : State) (n : Nat) (b : Bool) : (s.setLive n b).fio = s.fio := rfl
@[simp] theorem State.setLive_motion (s : State) (n : Nat) (b : Bool) : (s.setLive n b).motion = s.motion := rfl
@[simp] theorem State.setLive_latchUnits (s : State) (n : Nat) (b : Bool) : (s.setLive n b).latchUnits = s.latchUnits := rfl
@[simp] theorem State.setLive_cmpUnits (s : State) (n : Nat) (b : Bool) : (s.setLive n b).cmpUnits = s.cmpUnits := rfl
@[simp] theorem State.setLive_surv (s : State) (n : Nat) (b : Bool) : (s.setLive n b).surv = s.surv := rfl
@[simp] theorem State.setLive_sec (s : State) (n : Nat) (b : Bool) : (s.setLive n b).sec = s.sec := rfl
@[simp] theorem State.setLive_tap (s : State) (n : Nat) (b : Bool) : (s.setLive n b).tap = s.tap := rfl

@[simp] theorem State.cycle_pending (s : State) : (s.cycle).pending = s.pending := rfl
@[simp] theorem State.cycle_objs (s : State) : (s.cycle).objs = s.objs := rfl
@[simp] theorem State.cycle_msgs (s : State) : (s.cycle).msgs = s.msgs := rfl
@[simp] theorem State.cycle_boot (s : State) : (s.cycle).boot = s.boot := rfl
@[simp] theorem State.cycle_per (s : State) : (s.cycle).per = s.per := rfl
@[simp] theorem State.cycle_host (s : State) : (s.cycle).host = s.host := rfl
@[simp] theorem State.cycle_flt (s : State) : (s.cycle).flt = s.flt := rfl
@[simp] theorem State.cycle_net (s : State) : (s.cycle).net = s.net := rfl
@[simp] theorem State.cycle_groups (s : State) : (s.cycle).groups = s.groups := rfl
@[simp] theorem State.cycle_lanes (s : State) : (s.cycle).lanes = s.lanes := rfl
@[simp] theorem State.cycle_red (s : State) : (s.cycle).red = s.red := rfl
@[simp] theorem State.cycle_fb (s : State) : (s.cycle).fb = s.fb := rfl
@[simp] theorem State.cycle_emu (s : State) : (s.cycle).emu = s.emu := rfl
@[simp] theorem State.cycle_sd (s : State) : (s.cycle).sd = s.sd := rfl
@[simp] theorem State.cycle_fio (s : State) : (s.cycle).fio = s.fio := rfl
@[simp] theorem State.cycle_motion (s : State) : (s.cycle).motion = s.motion := rfl
@[simp] theorem State.cycle_latchUnits (s : State) : (s.cycle).latchUnits = s.latchUnits := rfl
@[simp] theorem State.cycle_cmpUnits (s : State) : (s.cycle).cmpUnits = s.cmpUnits := rfl
@[simp] theorem State.cycle_surv (s : State) : (s.cycle).surv = s.surv := rfl
@[simp] theorem State.cycle_sec (s : State) : (s.cycle).sec = s.sec := rfl
@[simp] theorem State.cycle_tap (s : State) : (s.cycle).tap = s.tap := rfl

@[simp] theorem State.setGrp_pending (s : State) (g : Nat) (v : GroupSt) : (s.setGrp g v).pending = s.pending := rfl
@[simp] theorem State.setGrp_objs (s : State) (g : Nat) (v : GroupSt) : (s.setGrp g v).objs = s.objs := rfl
@[simp] theorem State.setGrp_msgs (s : State) (g : Nat) (v : GroupSt) : (s.setGrp g v).msgs = s.msgs := rfl
@[simp] theorem State.setGrp_boot (s : State) (g : Nat) (v : GroupSt) : (s.setGrp g v).boot = s.boot := rfl
@[simp] theorem State.setGrp_per (s : State) (g : Nat) (v : GroupSt) : (s.setGrp g v).per = s.per := rfl
@[simp] theorem State.setGrp_time (s : State) (g : Nat) (v : GroupSt) : (s.setGrp g v).time = s.time := rfl
@[simp] theorem State.setGrp_host (s : State) (g : Nat) (v : GroupSt) : (s.setGrp g v).host = s.host := rfl
@[simp] theorem State.setGrp_flt (s : State) (g : Nat) (v : GroupSt) : (s.setGrp g v).flt = s.flt := rfl
@[simp] theorem State.setGrp_net (s : State) (g : Nat) (v : GroupSt) : (s.setGrp g v).net = s.net := rfl
@[simp] theorem State.setGrp_lanes (s : State) (g : Nat) (v : GroupSt) : (s.setGrp g v).lanes = s.lanes := rfl
@[simp] theorem State.setGrp_red (s : State) (g : Nat) (v : GroupSt) : (s.setGrp g v).red = s.red := rfl
@[simp] theorem State.setGrp_fb (s : State) (g : Nat) (v : GroupSt) : (s.setGrp g v).fb = s.fb := rfl
@[simp] theorem State.setGrp_emu (s : State) (g : Nat) (v : GroupSt) : (s.setGrp g v).emu = s.emu := rfl
@[simp] theorem State.setGrp_sd (s : State) (g : Nat) (v : GroupSt) : (s.setGrp g v).sd = s.sd := rfl
@[simp] theorem State.setGrp_fio (s : State) (g : Nat) (v : GroupSt) : (s.setGrp g v).fio = s.fio := rfl
@[simp] theorem State.setGrp_motion (s : State) (g : Nat) (v : GroupSt) : (s.setGrp g v).motion = s.motion := rfl
@[simp] theorem State.setGrp_latchUnits (s : State) (g : Nat) (v : GroupSt) : (s.setGrp g v).latchUnits = s.latchUnits := rfl
@[simp] theorem State.setGrp_cmpUnits (s : State) (g : Nat) (v : GroupSt) : (s.setGrp g v).cmpUnits = s.cmpUnits := rfl
@[simp] theorem State.setGrp_surv (s : State) (g : Nat) (v : GroupSt) : (s.setGrp g v).surv = s.surv := rfl
@[simp] theorem State.setGrp_sec (s : State) (g : Nat) (v : GroupSt) : (s.setGrp g v).sec = s.sec := rfl
@[simp] theorem State.setGrp_tap (s : State) (g : Nat) (v : GroupSt) : (s.setGrp g v).tap = s.tap := rfl

@[simp] theorem State.setSw_pending (s : State) (g k : Nat) (v : Switch) : (s.setSw g k v).pending = s.pending := rfl
@[simp] theorem State.setSw_objs (s : State) (g k : Nat) (v : Switch) : (s.setSw g k v).objs = s.objs := rfl
@[simp] theorem State.setSw_msgs (s : State) (g k : Nat) (v : Switch) : (s.setSw g k v).msgs = s.msgs := rfl
@[simp] theorem State.setSw_boot (s : State) (g k : Nat) (v : Switch) : (s.setSw g k v).boot = s.boot := rfl
@[simp] theorem State.setSw_per (s : State) (g k : Nat) (v : Switch) : (s.setSw g k v).per = s.per := rfl
@[simp] theorem State.setSw_time (s : State) (g k : Nat) (v : Switch) : (s.setSw g k v).time = s.time := rfl
@[simp] theorem State.setSw_host (s : State) (g k : Nat) (v : Switch) : (s.setSw g k v).host = s.host := rfl
@[simp] theorem State.setSw_flt (s : State) (g k : Nat) (v : Switch) : (s.setSw g k v).flt = s.flt := rfl
@[simp] theorem State.setSw_net (s : State) (g k : Nat) (v : Switch) : (s.setSw g k v).net = s.net := rfl
@[simp] theorem State.setSw_lanes (s : State) (g k : Nat) (v : Switch) : (s.setSw g k v).lanes = s.lanes := rfl
@[simp] theorem State.setSw_red (s : State) (g k : Nat) (v : Switch) : (s.setSw g k v).red = s.red := rfl
@[simp] theorem State.setSw_fb (s : State) (g k : Nat) (v : Switch) : (s.setSw g k v).fb = s.fb := rfl
@[simp] theorem State.setSw_emu (s : State) (g k : Nat) (v : Switch) : (s.setSw g k v).emu = s.emu := rfl
@[simp] theorem State.setSw_sd (s : State) (g k : Nat) (v : Switch) : (s.setSw g k v).sd = s.sd := rfl
@[simp] theorem State.setSw_fio (s : State) (g k : Nat) (v : Switch) : (s.setSw g k v).fio = s.fio := rfl
@[simp] theorem State.setSw_motion (s : State) (g k : Nat) (v : Switch) : (s.setSw g k v).motion = s.motion := rfl
@[simp] theorem State.setSw_latchUnits (s : State) (g k : Nat) (v : Switch) : (s.setSw g k v).latchUnits = s.latchUnits := rfl
@[simp] theorem State.setSw_cmpUnits (s : State) (g k : Nat) (v : Switch) : (s.setSw g k v).cmpUnits = s.cmpUnits := rfl
@[simp] theorem State.setSw_surv (s : State) (g k : Nat) (v : Switch) : (s.setSw g k v).surv = s.surv := rfl
@[simp] theorem State.setSw_sec (s : State) (g k : Nat) (v : Switch) : (s.setSw g k v).sec = s.sec := rfl
@[simp] theorem State.setSw_tap (s : State) (g k : Nat) (v : Switch) : (s.setSw g k v).tap = s.tap := rfl

@[simp] theorem State.setLane_pending (s : State) (u l c : Nat) (v : Lane) : (s.setLane u l c v).pending = s.pending := rfl
@[simp] theorem State.setLane_objs (s : State) (u l c : Nat) (v : Lane) : (s.setLane u l c v).objs = s.objs := rfl
@[simp] theorem State.setLane_msgs (s : State) (u l c : Nat) (v : Lane) : (s.setLane u l c v).msgs = s.msgs := rfl
@[simp] theorem State.setLane_boot (s : State) (u l c : Nat) (v : Lane) : (s.setLane u l c v).boot = s.boot := rfl
@[simp] theorem State.setLane_per (s : State) (u l c : Nat) (v : Lane) : (s.setLane u l c v).per = s.per := rfl
@[simp] theorem State.setLane_time (s : State) (u l c : Nat) (v : Lane) : (s.setLane u l c v).time = s.time := rfl
@[simp] theorem State.setLane_host (s : State) (u l c : Nat) (v : Lane) : (s.setLane u l c v).host = s.host := rfl
@[simp] theorem State.setLane_flt (s : State) (u l c : Nat) (v : Lane) : (s.setLane u l c v).flt = s.flt := rfl
@[simp] theorem State.setLane_net (s : State) (u l c : Nat) (v : Lane) : (s.setLane u l c v).net = s.net := rfl
@[simp] theorem State.setLane_groups (s : State) (u l c : Nat) (v : Lane) : (s.setLane u l c v).groups = s.groups := rfl
@[simp] theorem State.setLane_red (s : State) (u l c : Nat) (v : Lane) : (s.setLane u l c v).red = s.red := rfl
@[simp] theorem State.setLane_fb (s : State) (u l c : Nat) (v : Lane) : (s.setLane u l c v).fb = s.fb := rfl
@[simp] theorem State.setLane_emu (s : State) (u l c : Nat) (v : Lane) : (s.setLane u l c v).emu = s.emu := rfl
@[simp] theorem State.setLane_sd (s : State) (u l c : Nat) (v : Lane) : (s.setLane u l c v).sd = s.sd := rfl
@[simp] theorem State.setLane_fio (s : State) (u l c : Nat) (v : Lane) : (s.setLane u l c v).fio = s.fio := rfl
@[simp] theorem State.setLane_motion (s : State) (u l c : Nat) (v : Lane) : (s.setLane u l c v).motion = s.motion := rfl
@[simp] theorem State.setLane_latchUnits (s : State) (u l c : Nat) (v : Lane) : (s.setLane u l c v).latchUnits = s.latchUnits := rfl
@[simp] theorem State.setLane_cmpUnits (s : State) (u l c : Nat) (v : Lane) : (s.setLane u l c v).cmpUnits = s.cmpUnits := rfl
@[simp] theorem State.setLane_surv (s : State) (u l c : Nat) (v : Lane) : (s.setLane u l c v).surv = s.surv := rfl
@[simp] theorem State.setLane_sec (s : State) (u l c : Nat) (v : Lane) : (s.setLane u l c v).sec = s.sec := rfl
@[simp] theorem State.setLane_tap (s : State) (u l c : Nat) (v : Lane) : (s.setLane u l c v).tap = s.tap := rfl

@[simp] theorem State.setPair_pending (s : State) (u l : Nat) (v : PairSt) : (s.setPair u l v).pending = s.pending := rfl
@[simp] theorem State.setPair_objs (s : State) (u l : Nat) (v : PairSt) : (s.setPair u l v).objs = s.objs := rfl
@[simp] theorem State.setPair_msgs (s : State) (u l : Nat) (v : PairSt) : (s.setPair u l v).msgs = s.msgs := rfl
@[simp] theorem State.setPair_boot (s : State) (u l : Nat) (v : PairSt) : (s.setPair u l v).boot = s.boot := rfl
@[simp] theorem State.setPair_per (s : State) (u l : Nat) (v : PairSt) : (s.setPair u l v).per = s.per := rfl
@[simp] theorem State.setPair_time (s : State) (u l : Nat) (v : PairSt) : (s.setPair u l v).time = s.time := rfl
@[simp] theorem State.setPair_host (s : State) (u l : Nat) (v : PairSt) : (s.setPair u l v).host = s.host := rfl
@[simp] theorem State.setPair_flt (s : State) (u l : Nat) (v : PairSt) : (s.setPair u l v).flt = s.flt := rfl
@[simp] theorem State.setPair_net (s : State) (u l : Nat) (v : PairSt) : (s.setPair u l v).net = s.net := rfl
@[simp] theorem State.setPair_groups (s : State) (u l : Nat) (v : PairSt) : (s.setPair u l v).groups = s.groups := rfl
@[simp] theorem State.setPair_lanes (s : State) (u l : Nat) (v : PairSt) : (s.setPair u l v).lanes = s.lanes := rfl
@[simp] theorem State.setPair_fb (s : State) (u l : Nat) (v : PairSt) : (s.setPair u l v).fb = s.fb := rfl
@[simp] theorem State.setPair_emu (s : State) (u l : Nat) (v : PairSt) : (s.setPair u l v).emu = s.emu := rfl
@[simp] theorem State.setPair_sd (s : State) (u l : Nat) (v : PairSt) : (s.setPair u l v).sd = s.sd := rfl
@[simp] theorem State.setPair_fio (s : State) (u l : Nat) (v : PairSt) : (s.setPair u l v).fio = s.fio := rfl
@[simp] theorem State.setPair_motion (s : State) (u l : Nat) (v : PairSt) : (s.setPair u l v).motion = s.motion := rfl
@[simp] theorem State.setPair_latchUnits (s : State) (u l : Nat) (v : PairSt) : (s.setPair u l v).latchUnits = s.latchUnits := rfl
@[simp] theorem State.setPair_cmpUnits (s : State) (u l : Nat) (v : PairSt) : (s.setPair u l v).cmpUnits = s.cmpUnits := rfl
@[simp] theorem State.setPair_surv (s : State) (u l : Nat) (v : PairSt) : (s.setPair u l v).surv = s.surv := rfl
@[simp] theorem State.setPair_sec (s : State) (u l : Nat) (v : PairSt) : (s.setPair u l v).sec = s.sec := rfl
@[simp] theorem State.setPair_tap (s : State) (u l : Nat) (v : PairSt) : (s.setPair u l v).tap = s.tap := rfl

@[simp] theorem State.mapCairn_pending (s : State) (q : Nat) (f : CairnSt → CairnSt) : (s.mapCairn q f).pending = s.pending := rfl
@[simp] theorem State.mapCairn_objs (s : State) (q : Nat) (f : CairnSt → CairnSt) : (s.mapCairn q f).objs = s.objs := rfl
@[simp] theorem State.mapCairn_msgs (s : State) (q : Nat) (f : CairnSt → CairnSt) : (s.mapCairn q f).msgs = s.msgs := rfl
@[simp] theorem State.mapCairn_boot (s : State) (q : Nat) (f : CairnSt → CairnSt) : (s.mapCairn q f).boot = s.boot := rfl
@[simp] theorem State.mapCairn_per (s : State) (q : Nat) (f : CairnSt → CairnSt) : (s.mapCairn q f).per = s.per := rfl
@[simp] theorem State.mapCairn_time (s : State) (q : Nat) (f : CairnSt → CairnSt) : (s.mapCairn q f).time = s.time := rfl
@[simp] theorem State.mapCairn_host (s : State) (q : Nat) (f : CairnSt → CairnSt) : (s.mapCairn q f).host = s.host := rfl
@[simp] theorem State.mapCairn_flt (s : State) (q : Nat) (f : CairnSt → CairnSt) : (s.mapCairn q f).flt = s.flt := rfl
@[simp] theorem State.mapCairn_net (s : State) (q : Nat) (f : CairnSt → CairnSt) : (s.mapCairn q f).net = s.net := rfl
@[simp] theorem State.mapCairn_groups (s : State) (q : Nat) (f : CairnSt → CairnSt) : (s.mapCairn q f).groups = s.groups := rfl
@[simp] theorem State.mapCairn_lanes (s : State) (q : Nat) (f : CairnSt → CairnSt) : (s.mapCairn q f).lanes = s.lanes := rfl
@[simp] theorem State.mapCairn_fb (s : State) (q : Nat) (f : CairnSt → CairnSt) : (s.mapCairn q f).fb = s.fb := rfl
@[simp] theorem State.mapCairn_emu (s : State) (q : Nat) (f : CairnSt → CairnSt) : (s.mapCairn q f).emu = s.emu := rfl
@[simp] theorem State.mapCairn_sd (s : State) (q : Nat) (f : CairnSt → CairnSt) : (s.mapCairn q f).sd = s.sd := rfl
@[simp] theorem State.mapCairn_fio (s : State) (q : Nat) (f : CairnSt → CairnSt) : (s.mapCairn q f).fio = s.fio := rfl
@[simp] theorem State.mapCairn_motion (s : State) (q : Nat) (f : CairnSt → CairnSt) : (s.mapCairn q f).motion = s.motion := rfl
@[simp] theorem State.mapCairn_latchUnits (s : State) (q : Nat) (f : CairnSt → CairnSt) : (s.mapCairn q f).latchUnits = s.latchUnits := rfl
@[simp] theorem State.mapCairn_cmpUnits (s : State) (q : Nat) (f : CairnSt → CairnSt) : (s.mapCairn q f).cmpUnits = s.cmpUnits := rfl
@[simp] theorem State.mapCairn_surv (s : State) (q : Nat) (f : CairnSt → CairnSt) : (s.mapCairn q f).surv = s.surv := rfl
@[simp] theorem State.mapCairn_sec (s : State) (q : Nat) (f : CairnSt → CairnSt) : (s.mapCairn q f).sec = s.sec := rfl
@[simp] theorem State.mapCairn_tap (s : State) (q : Nat) (f : CairnSt → CairnSt) : (s.mapCairn q f).tap = s.tap := rfl

@[simp] theorem State.setFbs_pending (s : State) (n : Nat) (v : FbSt) : (s.setFbs n v).pending = s.pending := rfl
@[simp] theorem State.setFbs_objs (s : State) (n : Nat) (v : FbSt) : (s.setFbs n v).objs = s.objs := rfl
@[simp] theorem State.setFbs_msgs (s : State) (n : Nat) (v : FbSt) : (s.setFbs n v).msgs = s.msgs := rfl
@[simp] theorem State.setFbs_boot (s : State) (n : Nat) (v : FbSt) : (s.setFbs n v).boot = s.boot := rfl
@[simp] theorem State.setFbs_per (s : State) (n : Nat) (v : FbSt) : (s.setFbs n v).per = s.per := rfl
@[simp] theorem State.setFbs_time (s : State) (n : Nat) (v : FbSt) : (s.setFbs n v).time = s.time := rfl
@[simp] theorem State.setFbs_host (s : State) (n : Nat) (v : FbSt) : (s.setFbs n v).host = s.host := rfl
@[simp] theorem State.setFbs_flt (s : State) (n : Nat) (v : FbSt) : (s.setFbs n v).flt = s.flt := rfl
@[simp] theorem State.setFbs_net (s : State) (n : Nat) (v : FbSt) : (s.setFbs n v).net = s.net := rfl
@[simp] theorem State.setFbs_groups (s : State) (n : Nat) (v : FbSt) : (s.setFbs n v).groups = s.groups := rfl
@[simp] theorem State.setFbs_lanes (s : State) (n : Nat) (v : FbSt) : (s.setFbs n v).lanes = s.lanes := rfl
@[simp] theorem State.setFbs_red (s : State) (n : Nat) (v : FbSt) : (s.setFbs n v).red = s.red := rfl
@[simp] theorem State.setFbs_emu (s : State) (n : Nat) (v : FbSt) : (s.setFbs n v).emu = s.emu := rfl
@[simp] theorem State.setFbs_sd (s : State) (n : Nat) (v : FbSt) : (s.setFbs n v).sd = s.sd := rfl
@[simp] theorem State.setFbs_fio (s : State) (n : Nat) (v : FbSt) : (s.setFbs n v).fio = s.fio := rfl
@[simp] theorem State.setFbs_motion (s : State) (n : Nat) (v : FbSt) : (s.setFbs n v).motion = s.motion := rfl
@[simp] theorem State.setFbs_latchUnits (s : State) (n : Nat) (v : FbSt) : (s.setFbs n v).latchUnits = s.latchUnits := rfl
@[simp] theorem State.setFbs_cmpUnits (s : State) (n : Nat) (v : FbSt) : (s.setFbs n v).cmpUnits = s.cmpUnits := rfl
@[simp] theorem State.setFbs_surv (s : State) (n : Nat) (v : FbSt) : (s.setFbs n v).surv = s.surv := rfl
@[simp] theorem State.setFbs_sec (s : State) (n : Nat) (v : FbSt) : (s.setFbs n v).sec = s.sec := rfl
@[simp] theorem State.setFbs_tap (s : State) (n : Nat) (v : FbSt) : (s.setFbs n v).tap = s.tap := rfl

@[simp] theorem State.setEmus_pending (s : State) (e : Nat) (v : EmuSt) : (s.setEmus e v).pending = s.pending := rfl
@[simp] theorem State.setEmus_objs (s : State) (e : Nat) (v : EmuSt) : (s.setEmus e v).objs = s.objs := rfl
@[simp] theorem State.setEmus_msgs (s : State) (e : Nat) (v : EmuSt) : (s.setEmus e v).msgs = s.msgs := rfl
@[simp] theorem State.setEmus_boot (s : State) (e : Nat) (v : EmuSt) : (s.setEmus e v).boot = s.boot := rfl
@[simp] theorem State.setEmus_per (s : State) (e : Nat) (v : EmuSt) : (s.setEmus e v).per = s.per := rfl
@[simp] theorem State.setEmus_time (s : State) (e : Nat) (v : EmuSt) : (s.setEmus e v).time = s.time := rfl
@[simp] theorem State.setEmus_host (s : State) (e : Nat) (v : EmuSt) : (s.setEmus e v).host = s.host := rfl
@[simp] theorem State.setEmus_flt (s : State) (e : Nat) (v : EmuSt) : (s.setEmus e v).flt = s.flt := rfl
@[simp] theorem State.setEmus_net (s : State) (e : Nat) (v : EmuSt) : (s.setEmus e v).net = s.net := rfl
@[simp] theorem State.setEmus_groups (s : State) (e : Nat) (v : EmuSt) : (s.setEmus e v).groups = s.groups := rfl
@[simp] theorem State.setEmus_lanes (s : State) (e : Nat) (v : EmuSt) : (s.setEmus e v).lanes = s.lanes := rfl
@[simp] theorem State.setEmus_red (s : State) (e : Nat) (v : EmuSt) : (s.setEmus e v).red = s.red := rfl
@[simp] theorem State.setEmus_fb (s : State) (e : Nat) (v : EmuSt) : (s.setEmus e v).fb = s.fb := rfl
@[simp] theorem State.setEmus_sd (s : State) (e : Nat) (v : EmuSt) : (s.setEmus e v).sd = s.sd := rfl
@[simp] theorem State.setEmus_fio (s : State) (e : Nat) (v : EmuSt) : (s.setEmus e v).fio = s.fio := rfl
@[simp] theorem State.setEmus_motion (s : State) (e : Nat) (v : EmuSt) : (s.setEmus e v).motion = s.motion := rfl
@[simp] theorem State.setEmus_latchUnits (s : State) (e : Nat) (v : EmuSt) : (s.setEmus e v).latchUnits = s.latchUnits := rfl
@[simp] theorem State.setEmus_cmpUnits (s : State) (e : Nat) (v : EmuSt) : (s.setEmus e v).cmpUnits = s.cmpUnits := rfl
@[simp] theorem State.setEmus_surv (s : State) (e : Nat) (v : EmuSt) : (s.setEmus e v).surv = s.surv := rfl
@[simp] theorem State.setEmus_sec (s : State) (e : Nat) (v : EmuSt) : (s.setEmus e v).sec = s.sec := rfl
@[simp] theorem State.setEmus_tap (s : State) (e : Nat) (v : EmuSt) : (s.setEmus e v).tap = s.tap := rfl

@[simp] theorem State.setSds_pending (s : State) (i : Nat) (v : SdSt) : (s.setSds i v).pending = s.pending := rfl
@[simp] theorem State.setSds_objs (s : State) (i : Nat) (v : SdSt) : (s.setSds i v).objs = s.objs := rfl
@[simp] theorem State.setSds_msgs (s : State) (i : Nat) (v : SdSt) : (s.setSds i v).msgs = s.msgs := rfl
@[simp] theorem State.setSds_boot (s : State) (i : Nat) (v : SdSt) : (s.setSds i v).boot = s.boot := rfl
@[simp] theorem State.setSds_per (s : State) (i : Nat) (v : SdSt) : (s.setSds i v).per = s.per := rfl
@[simp] theorem State.setSds_time (s : State) (i : Nat) (v : SdSt) : (s.setSds i v).time = s.time := rfl
@[simp] theorem State.setSds_host (s : State) (i : Nat) (v : SdSt) : (s.setSds i v).host = s.host := rfl
@[simp] theorem State.setSds_flt (s : State) (i : Nat) (v : SdSt) : (s.setSds i v).flt = s.flt := rfl
@[simp] theorem State.setSds_net (s : State) (i : Nat) (v : SdSt) : (s.setSds i v).net = s.net := rfl
@[simp] theorem State.setSds_groups (s : State) (i : Nat) (v : SdSt) : (s.setSds i v).groups = s.groups := rfl
@[simp] theorem State.setSds_lanes (s : State) (i : Nat) (v : SdSt) : (s.setSds i v).lanes = s.lanes := rfl
@[simp] theorem State.setSds_red (s : State) (i : Nat) (v : SdSt) : (s.setSds i v).red = s.red := rfl
@[simp] theorem State.setSds_fb (s : State) (i : Nat) (v : SdSt) : (s.setSds i v).fb = s.fb := rfl
@[simp] theorem State.setSds_emu (s : State) (i : Nat) (v : SdSt) : (s.setSds i v).emu = s.emu := rfl
@[simp] theorem State.setSds_fio (s : State) (i : Nat) (v : SdSt) : (s.setSds i v).fio = s.fio := rfl
@[simp] theorem State.setSds_motion (s : State) (i : Nat) (v : SdSt) : (s.setSds i v).motion = s.motion := rfl
@[simp] theorem State.setSds_latchUnits (s : State) (i : Nat) (v : SdSt) : (s.setSds i v).latchUnits = s.latchUnits := rfl
@[simp] theorem State.setSds_cmpUnits (s : State) (i : Nat) (v : SdSt) : (s.setSds i v).cmpUnits = s.cmpUnits := rfl
@[simp] theorem State.setSds_surv (s : State) (i : Nat) (v : SdSt) : (s.setSds i v).surv = s.surv := rfl
@[simp] theorem State.setSds_sec (s : State) (i : Nat) (v : SdSt) : (s.setSds i v).sec = s.sec := rfl
@[simp] theorem State.setSds_tap (s : State) (i : Nat) (v : SdSt) : (s.setSds i v).tap = s.tap := rfl

@[simp] theorem State.setLatchUnit_pending (s : State) (n : Nat) (v : LatchSt) : (s.setLatchUnit n v).pending = s.pending := rfl
@[simp] theorem State.setLatchUnit_objs (s : State) (n : Nat) (v : LatchSt) : (s.setLatchUnit n v).objs = s.objs := rfl
@[simp] theorem State.setLatchUnit_msgs (s : State) (n : Nat) (v : LatchSt) : (s.setLatchUnit n v).msgs = s.msgs := rfl
@[simp] theorem State.setLatchUnit_boot (s : State) (n : Nat) (v : LatchSt) : (s.setLatchUnit n v).boot = s.boot := rfl
@[simp] theorem State.setLatchUnit_per (s : State) (n : Nat) (v : LatchSt) : (s.setLatchUnit n v).per = s.per := rfl
@[simp] theorem State.setLatchUnit_time (s : State) (n : Nat) (v : LatchSt) : (s.setLatchUnit n v).time = s.time := rfl
@[simp] theorem State.setLatchUnit_host (s : State) (n : Nat) (v : LatchSt) : (s.setLatchUnit n v).host = s.host := rfl
@[simp] theorem State.setLatchUnit_flt (s : State) (n : Nat) (v : LatchSt) : (s.setLatchUnit n v).flt = s.flt := rfl
@[simp] theorem State.setLatchUnit_net (s : State) (n : Nat) (v : LatchSt) : (s.setLatchUnit n v).net = s.net := rfl
@[simp] theorem State.setLatchUnit_groups (s : State) (n : Nat) (v : LatchSt) : (s.setLatchUnit n v).groups = s.groups := rfl
@[simp] theorem State.setLatchUnit_lanes (s : State) (n : Nat) (v : LatchSt) : (s.setLatchUnit n v).lanes = s.lanes := rfl
@[simp] theorem State.setLatchUnit_red (s : State) (n : Nat) (v : LatchSt) : (s.setLatchUnit n v).red = s.red := rfl
@[simp] theorem State.setLatchUnit_fb (s : State) (n : Nat) (v : LatchSt) : (s.setLatchUnit n v).fb = s.fb := rfl
@[simp] theorem State.setLatchUnit_emu (s : State) (n : Nat) (v : LatchSt) : (s.setLatchUnit n v).emu = s.emu := rfl
@[simp] theorem State.setLatchUnit_sd (s : State) (n : Nat) (v : LatchSt) : (s.setLatchUnit n v).sd = s.sd := rfl
@[simp] theorem State.setLatchUnit_fio (s : State) (n : Nat) (v : LatchSt) : (s.setLatchUnit n v).fio = s.fio := rfl
@[simp] theorem State.setLatchUnit_motion (s : State) (n : Nat) (v : LatchSt) : (s.setLatchUnit n v).motion = s.motion := rfl
@[simp] theorem State.setLatchUnit_cmpUnits (s : State) (n : Nat) (v : LatchSt) : (s.setLatchUnit n v).cmpUnits = s.cmpUnits := rfl
@[simp] theorem State.setLatchUnit_surv (s : State) (n : Nat) (v : LatchSt) : (s.setLatchUnit n v).surv = s.surv := rfl
@[simp] theorem State.setLatchUnit_sec (s : State) (n : Nat) (v : LatchSt) : (s.setLatchUnit n v).sec = s.sec := rfl
@[simp] theorem State.setLatchUnit_tap (s : State) (n : Nat) (v : LatchSt) : (s.setLatchUnit n v).tap = s.tap := rfl

@[simp] theorem State.setCmpUnit_pending (s : State) (u : Nat) (v : CmpSt) : (s.setCmpUnit u v).pending = s.pending := rfl
@[simp] theorem State.setCmpUnit_objs (s : State) (u : Nat) (v : CmpSt) : (s.setCmpUnit u v).objs = s.objs := rfl
@[simp] theorem State.setCmpUnit_msgs (s : State) (u : Nat) (v : CmpSt) : (s.setCmpUnit u v).msgs = s.msgs := rfl
@[simp] theorem State.setCmpUnit_boot (s : State) (u : Nat) (v : CmpSt) : (s.setCmpUnit u v).boot = s.boot := rfl
@[simp] theorem State.setCmpUnit_per (s : State) (u : Nat) (v : CmpSt) : (s.setCmpUnit u v).per = s.per := rfl
@[simp] theorem State.setCmpUnit_time (s : State) (u : Nat) (v : CmpSt) : (s.setCmpUnit u v).time = s.time := rfl
@[simp] theorem State.setCmpUnit_host (s : State) (u : Nat) (v : CmpSt) : (s.setCmpUnit u v).host = s.host := rfl
@[simp] theorem State.setCmpUnit_flt (s : State) (u : Nat) (v : CmpSt) : (s.setCmpUnit u v).flt = s.flt := rfl
@[simp] theorem State.setCmpUnit_net (s : State) (u : Nat) (v : CmpSt) : (s.setCmpUnit u v).net = s.net := rfl
@[simp] theorem State.setCmpUnit_groups (s : State) (u : Nat) (v : CmpSt) : (s.setCmpUnit u v).groups = s.groups := rfl
@[simp] theorem State.setCmpUnit_lanes (s : State) (u : Nat) (v : CmpSt) : (s.setCmpUnit u v).lanes = s.lanes := rfl
@[simp] theorem State.setCmpUnit_red (s : State) (u : Nat) (v : CmpSt) : (s.setCmpUnit u v).red = s.red := rfl
@[simp] theorem State.setCmpUnit_fb (s : State) (u : Nat) (v : CmpSt) : (s.setCmpUnit u v).fb = s.fb := rfl
@[simp] theorem State.setCmpUnit_emu (s : State) (u : Nat) (v : CmpSt) : (s.setCmpUnit u v).emu = s.emu := rfl
@[simp] theorem State.setCmpUnit_sd (s : State) (u : Nat) (v : CmpSt) : (s.setCmpUnit u v).sd = s.sd := rfl
@[simp] theorem State.setCmpUnit_fio (s : State) (u : Nat) (v : CmpSt) : (s.setCmpUnit u v).fio = s.fio := rfl
@[simp] theorem State.setCmpUnit_motion (s : State) (u : Nat) (v : CmpSt) : (s.setCmpUnit u v).motion = s.motion := rfl
@[simp] theorem State.setCmpUnit_latchUnits (s : State) (u : Nat) (v : CmpSt) : (s.setCmpUnit u v).latchUnits = s.latchUnits := rfl
@[simp] theorem State.setCmpUnit_surv (s : State) (u : Nat) (v : CmpSt) : (s.setCmpUnit u v).surv = s.surv := rfl
@[simp] theorem State.setCmpUnit_sec (s : State) (u : Nat) (v : CmpSt) : (s.setCmpUnit u v).sec = s.sec := rfl
@[simp] theorem State.setCmpUnit_tap (s : State) (u : Nat) (v : CmpSt) : (s.setCmpUnit u v).tap = s.tap := rfl

@[simp] theorem State.setDis_pending (s : State) (i : Nat) (v : DiSt) : (s.setDis i v).pending = s.pending := rfl
@[simp] theorem State.setDis_objs (s : State) (i : Nat) (v : DiSt) : (s.setDis i v).objs = s.objs := rfl
@[simp] theorem State.setDis_msgs (s : State) (i : Nat) (v : DiSt) : (s.setDis i v).msgs = s.msgs := rfl
@[simp] theorem State.setDis_boot (s : State) (i : Nat) (v : DiSt) : (s.setDis i v).boot = s.boot := rfl
@[simp] theorem State.setDis_per (s : State) (i : Nat) (v : DiSt) : (s.setDis i v).per = s.per := rfl
@[simp] theorem State.setDis_time (s : State) (i : Nat) (v : DiSt) : (s.setDis i v).time = s.time := rfl
@[simp] theorem State.setDis_host (s : State) (i : Nat) (v : DiSt) : (s.setDis i v).host = s.host := rfl
@[simp] theorem State.setDis_flt (s : State) (i : Nat) (v : DiSt) : (s.setDis i v).flt = s.flt := rfl
@[simp] theorem State.setDis_net (s : State) (i : Nat) (v : DiSt) : (s.setDis i v).net = s.net := rfl
@[simp] theorem State.setDis_groups (s : State) (i : Nat) (v : DiSt) : (s.setDis i v).groups = s.groups := rfl
@[simp] theorem State.setDis_lanes (s : State) (i : Nat) (v : DiSt) : (s.setDis i v).lanes = s.lanes := rfl
@[simp] theorem State.setDis_red (s : State) (i : Nat) (v : DiSt) : (s.setDis i v).red = s.red := rfl
@[simp] theorem State.setDis_fb (s : State) (i : Nat) (v : DiSt) : (s.setDis i v).fb = s.fb := rfl
@[simp] theorem State.setDis_emu (s : State) (i : Nat) (v : DiSt) : (s.setDis i v).emu = s.emu := rfl
@[simp] theorem State.setDis_sd (s : State) (i : Nat) (v : DiSt) : (s.setDis i v).sd = s.sd := rfl
@[simp] theorem State.setDis_motion (s : State) (i : Nat) (v : DiSt) : (s.setDis i v).motion = s.motion := rfl
@[simp] theorem State.setDis_latchUnits (s : State) (i : Nat) (v : DiSt) : (s.setDis i v).latchUnits = s.latchUnits := rfl
@[simp] theorem State.setDis_cmpUnits (s : State) (i : Nat) (v : DiSt) : (s.setDis i v).cmpUnits = s.cmpUnits := rfl
@[simp] theorem State.setDis_surv (s : State) (i : Nat) (v : DiSt) : (s.setDis i v).surv = s.surv := rfl
@[simp] theorem State.setDis_sec (s : State) (i : Nat) (v : DiSt) : (s.setDis i v).sec = s.sec := rfl
@[simp] theorem State.setDis_tap (s : State) (i : Nat) (v : DiSt) : (s.setDis i v).tap = s.tap := rfl

@[simp] theorem State.setDos_pending (s : State) (c : Nat) (v : DoSt) : (s.setDos c v).pending = s.pending := rfl
@[simp] theorem State.setDos_objs (s : State) (c : Nat) (v : DoSt) : (s.setDos c v).objs = s.objs := rfl
@[simp] theorem State.setDos_msgs (s : State) (c : Nat) (v : DoSt) : (s.setDos c v).msgs = s.msgs := rfl
@[simp] theorem State.setDos_boot (s : State) (c : Nat) (v : DoSt) : (s.setDos c v).boot = s.boot := rfl
@[simp] theorem State.setDos_per (s : State) (c : Nat) (v : DoSt) : (s.setDos c v).per = s.per := rfl
@[simp] theorem State.setDos_time (s : State) (c : Nat) (v : DoSt) : (s.setDos c v).time = s.time := rfl
@[simp] theorem State.setDos_host (s : State) (c : Nat) (v : DoSt) : (s.setDos c v).host = s.host := rfl
@[simp] theorem State.setDos_flt (s : State) (c : Nat) (v : DoSt) : (s.setDos c v).flt = s.flt := rfl
@[simp] theorem State.setDos_net (s : State) (c : Nat) (v : DoSt) : (s.setDos c v).net = s.net := rfl
@[simp] theorem State.setDos_groups (s : State) (c : Nat) (v : DoSt) : (s.setDos c v).groups = s.groups := rfl
@[simp] theorem State.setDos_lanes (s : State) (c : Nat) (v : DoSt) : (s.setDos c v).lanes = s.lanes := rfl
@[simp] theorem State.setDos_red (s : State) (c : Nat) (v : DoSt) : (s.setDos c v).red = s.red := rfl
@[simp] theorem State.setDos_fb (s : State) (c : Nat) (v : DoSt) : (s.setDos c v).fb = s.fb := rfl
@[simp] theorem State.setDos_emu (s : State) (c : Nat) (v : DoSt) : (s.setDos c v).emu = s.emu := rfl
@[simp] theorem State.setDos_sd (s : State) (c : Nat) (v : DoSt) : (s.setDos c v).sd = s.sd := rfl
@[simp] theorem State.setDos_motion (s : State) (c : Nat) (v : DoSt) : (s.setDos c v).motion = s.motion := rfl
@[simp] theorem State.setDos_latchUnits (s : State) (c : Nat) (v : DoSt) : (s.setDos c v).latchUnits = s.latchUnits := rfl
@[simp] theorem State.setDos_cmpUnits (s : State) (c : Nat) (v : DoSt) : (s.setDos c v).cmpUnits = s.cmpUnits := rfl
@[simp] theorem State.setDos_surv (s : State) (c : Nat) (v : DoSt) : (s.setDos c v).surv = s.surv := rfl
@[simp] theorem State.setDos_sec (s : State) (c : Nat) (v : DoSt) : (s.setDos c v).sec = s.sec := rfl
@[simp] theorem State.setDos_tap (s : State) (c : Nat) (v : DoSt) : (s.setDos c v).tap = s.tap := rfl

@[simp] theorem State.setIsl_pending (s : State) (c : Nat) (v : IslandDo) : (s.setIsl c v).pending = s.pending := rfl
@[simp] theorem State.setIsl_objs (s : State) (c : Nat) (v : IslandDo) : (s.setIsl c v).objs = s.objs := rfl
@[simp] theorem State.setIsl_msgs (s : State) (c : Nat) (v : IslandDo) : (s.setIsl c v).msgs = s.msgs := rfl
@[simp] theorem State.setIsl_boot (s : State) (c : Nat) (v : IslandDo) : (s.setIsl c v).boot = s.boot := rfl
@[simp] theorem State.setIsl_per (s : State) (c : Nat) (v : IslandDo) : (s.setIsl c v).per = s.per := rfl
@[simp] theorem State.setIsl_time (s : State) (c : Nat) (v : IslandDo) : (s.setIsl c v).time = s.time := rfl
@[simp] theorem State.setIsl_host (s : State) (c : Nat) (v : IslandDo) : (s.setIsl c v).host = s.host := rfl
@[simp] theorem State.setIsl_flt (s : State) (c : Nat) (v : IslandDo) : (s.setIsl c v).flt = s.flt := rfl
@[simp] theorem State.setIsl_net (s : State) (c : Nat) (v : IslandDo) : (s.setIsl c v).net = s.net := rfl
@[simp] theorem State.setIsl_groups (s : State) (c : Nat) (v : IslandDo) : (s.setIsl c v).groups = s.groups := rfl
@[simp] theorem State.setIsl_lanes (s : State) (c : Nat) (v : IslandDo) : (s.setIsl c v).lanes = s.lanes := rfl
@[simp] theorem State.setIsl_red (s : State) (c : Nat) (v : IslandDo) : (s.setIsl c v).red = s.red := rfl
@[simp] theorem State.setIsl_fb (s : State) (c : Nat) (v : IslandDo) : (s.setIsl c v).fb = s.fb := rfl
@[simp] theorem State.setIsl_emu (s : State) (c : Nat) (v : IslandDo) : (s.setIsl c v).emu = s.emu := rfl
@[simp] theorem State.setIsl_sd (s : State) (c : Nat) (v : IslandDo) : (s.setIsl c v).sd = s.sd := rfl
@[simp] theorem State.setIsl_motion (s : State) (c : Nat) (v : IslandDo) : (s.setIsl c v).motion = s.motion := rfl
@[simp] theorem State.setIsl_latchUnits (s : State) (c : Nat) (v : IslandDo) : (s.setIsl c v).latchUnits = s.latchUnits := rfl
@[simp] theorem State.setIsl_cmpUnits (s : State) (c : Nat) (v : IslandDo) : (s.setIsl c v).cmpUnits = s.cmpUnits := rfl
@[simp] theorem State.setIsl_surv (s : State) (c : Nat) (v : IslandDo) : (s.setIsl c v).surv = s.surv := rfl
@[simp] theorem State.setIsl_sec (s : State) (c : Nat) (v : IslandDo) : (s.setIsl c v).sec = s.sec := rfl
@[simp] theorem State.setIsl_tap (s : State) (c : Nat) (v : IslandDo) : (s.setIsl c v).tap = s.tap := rfl

@[simp] theorem State.setSlot_pending (s : State) (n : Nat) (v : SlotSt) : (s.setSlot n v).pending = s.pending := rfl
@[simp] theorem State.setSlot_objs (s : State) (n : Nat) (v : SlotSt) : (s.setSlot n v).objs = s.objs := rfl
@[simp] theorem State.setSlot_msgs (s : State) (n : Nat) (v : SlotSt) : (s.setSlot n v).msgs = s.msgs := rfl
@[simp] theorem State.setSlot_per (s : State) (n : Nat) (v : SlotSt) : (s.setSlot n v).per = s.per := rfl
@[simp] theorem State.setSlot_time (s : State) (n : Nat) (v : SlotSt) : (s.setSlot n v).time = s.time := rfl
@[simp] theorem State.setSlot_host (s : State) (n : Nat) (v : SlotSt) : (s.setSlot n v).host = s.host := rfl
@[simp] theorem State.setSlot_flt (s : State) (n : Nat) (v : SlotSt) : (s.setSlot n v).flt = s.flt := rfl
@[simp] theorem State.setSlot_net (s : State) (n : Nat) (v : SlotSt) : (s.setSlot n v).net = s.net := rfl
@[simp] theorem State.setSlot_groups (s : State) (n : Nat) (v : SlotSt) : (s.setSlot n v).groups = s.groups := rfl
@[simp] theorem State.setSlot_lanes (s : State) (n : Nat) (v : SlotSt) : (s.setSlot n v).lanes = s.lanes := rfl
@[simp] theorem State.setSlot_red (s : State) (n : Nat) (v : SlotSt) : (s.setSlot n v).red = s.red := rfl
@[simp] theorem State.setSlot_fb (s : State) (n : Nat) (v : SlotSt) : (s.setSlot n v).fb = s.fb := rfl
@[simp] theorem State.setSlot_emu (s : State) (n : Nat) (v : SlotSt) : (s.setSlot n v).emu = s.emu := rfl
@[simp] theorem State.setSlot_sd (s : State) (n : Nat) (v : SlotSt) : (s.setSlot n v).sd = s.sd := rfl
@[simp] theorem State.setSlot_fio (s : State) (n : Nat) (v : SlotSt) : (s.setSlot n v).fio = s.fio := rfl
@[simp] theorem State.setSlot_motion (s : State) (n : Nat) (v : SlotSt) : (s.setSlot n v).motion = s.motion := rfl
@[simp] theorem State.setSlot_latchUnits (s : State) (n : Nat) (v : SlotSt) : (s.setSlot n v).latchUnits = s.latchUnits := rfl
@[simp] theorem State.setSlot_cmpUnits (s : State) (n : Nat) (v : SlotSt) : (s.setSlot n v).cmpUnits = s.cmpUnits := rfl
@[simp] theorem State.setSlot_surv (s : State) (n : Nat) (v : SlotSt) : (s.setSlot n v).surv = s.surv := rfl
@[simp] theorem State.setSlot_sec (s : State) (n : Nat) (v : SlotSt) : (s.setSlot n v).sec = s.sec := rfl
@[simp] theorem State.setSlot_tap (s : State) (n : Nat) (v : SlotSt) : (s.setSlot n v).tap = s.tap := rfl

@[simp] theorem State.setAxis_pending (s : State) (a : Nat) (v : AxisSt) : (s.setAxis a v).pending = s.pending := rfl
@[simp] theorem State.setAxis_objs (s : State) (a : Nat) (v : AxisSt) : (s.setAxis a v).objs = s.objs := rfl
@[simp] theorem State.setAxis_msgs (s : State) (a : Nat) (v : AxisSt) : (s.setAxis a v).msgs = s.msgs := rfl
@[simp] theorem State.setAxis_boot (s : State) (a : Nat) (v : AxisSt) : (s.setAxis a v).boot = s.boot := rfl
@[simp] theorem State.setAxis_per (s : State) (a : Nat) (v : AxisSt) : (s.setAxis a v).per = s.per := rfl
@[simp] theorem State.setAxis_time (s : State) (a : Nat) (v : AxisSt) : (s.setAxis a v).time = s.time := rfl
@[simp] theorem State.setAxis_host (s : State) (a : Nat) (v : AxisSt) : (s.setAxis a v).host = s.host := rfl
@[simp] theorem State.setAxis_flt (s : State) (a : Nat) (v : AxisSt) : (s.setAxis a v).flt = s.flt := rfl
@[simp] theorem State.setAxis_net (s : State) (a : Nat) (v : AxisSt) : (s.setAxis a v).net = s.net := rfl
@[simp] theorem State.setAxis_groups (s : State) (a : Nat) (v : AxisSt) : (s.setAxis a v).groups = s.groups := rfl
@[simp] theorem State.setAxis_lanes (s : State) (a : Nat) (v : AxisSt) : (s.setAxis a v).lanes = s.lanes := rfl
@[simp] theorem State.setAxis_red (s : State) (a : Nat) (v : AxisSt) : (s.setAxis a v).red = s.red := rfl
@[simp] theorem State.setAxis_fb (s : State) (a : Nat) (v : AxisSt) : (s.setAxis a v).fb = s.fb := rfl
@[simp] theorem State.setAxis_emu (s : State) (a : Nat) (v : AxisSt) : (s.setAxis a v).emu = s.emu := rfl
@[simp] theorem State.setAxis_sd (s : State) (a : Nat) (v : AxisSt) : (s.setAxis a v).sd = s.sd := rfl
@[simp] theorem State.setAxis_fio (s : State) (a : Nat) (v : AxisSt) : (s.setAxis a v).fio = s.fio := rfl
@[simp] theorem State.setAxis_latchUnits (s : State) (a : Nat) (v : AxisSt) : (s.setAxis a v).latchUnits = s.latchUnits := rfl
@[simp] theorem State.setAxis_cmpUnits (s : State) (a : Nat) (v : AxisSt) : (s.setAxis a v).cmpUnits = s.cmpUnits := rfl
@[simp] theorem State.setAxis_surv (s : State) (a : Nat) (v : AxisSt) : (s.setAxis a v).surv = s.surv := rfl
@[simp] theorem State.setAxis_sec (s : State) (a : Nat) (v : AxisSt) : (s.setAxis a v).sec = s.sec := rfl
@[simp] theorem State.setAxis_tap (s : State) (a : Nat) (v : AxisSt) : (s.setAxis a v).tap = s.tap := rfl

@[simp] theorem State.setHub_pending (s : State) (a : Nat) (v : AxisHub) : (s.setHub a v).pending = s.pending := rfl
@[simp] theorem State.setHub_objs (s : State) (a : Nat) (v : AxisHub) : (s.setHub a v).objs = s.objs := rfl
@[simp] theorem State.setHub_msgs (s : State) (a : Nat) (v : AxisHub) : (s.setHub a v).msgs = s.msgs := rfl
@[simp] theorem State.setHub_boot (s : State) (a : Nat) (v : AxisHub) : (s.setHub a v).boot = s.boot := rfl
@[simp] theorem State.setHub_per (s : State) (a : Nat) (v : AxisHub) : (s.setHub a v).per = s.per := rfl
@[simp] theorem State.setHub_time (s : State) (a : Nat) (v : AxisHub) : (s.setHub a v).time = s.time := rfl
@[simp] theorem State.setHub_host (s : State) (a : Nat) (v : AxisHub) : (s.setHub a v).host = s.host := rfl
@[simp] theorem State.setHub_flt (s : State) (a : Nat) (v : AxisHub) : (s.setHub a v).flt = s.flt := rfl
@[simp] theorem State.setHub_net (s : State) (a : Nat) (v : AxisHub) : (s.setHub a v).net = s.net := rfl
@[simp] theorem State.setHub_groups (s : State) (a : Nat) (v : AxisHub) : (s.setHub a v).groups = s.groups := rfl
@[simp] theorem State.setHub_lanes (s : State) (a : Nat) (v : AxisHub) : (s.setHub a v).lanes = s.lanes := rfl
@[simp] theorem State.setHub_red (s : State) (a : Nat) (v : AxisHub) : (s.setHub a v).red = s.red := rfl
@[simp] theorem State.setHub_fb (s : State) (a : Nat) (v : AxisHub) : (s.setHub a v).fb = s.fb := rfl
@[simp] theorem State.setHub_emu (s : State) (a : Nat) (v : AxisHub) : (s.setHub a v).emu = s.emu := rfl
@[simp] theorem State.setHub_sd (s : State) (a : Nat) (v : AxisHub) : (s.setHub a v).sd = s.sd := rfl
@[simp] theorem State.setHub_fio (s : State) (a : Nat) (v : AxisHub) : (s.setHub a v).fio = s.fio := rfl
@[simp] theorem State.setHub_latchUnits (s : State) (a : Nat) (v : AxisHub) : (s.setHub a v).latchUnits = s.latchUnits := rfl
@[simp] theorem State.setHub_cmpUnits (s : State) (a : Nat) (v : AxisHub) : (s.setHub a v).cmpUnits = s.cmpUnits := rfl
@[simp] theorem State.setHub_surv (s : State) (a : Nat) (v : AxisHub) : (s.setHub a v).surv = s.surv := rfl
@[simp] theorem State.setHub_sec (s : State) (a : Nat) (v : AxisHub) : (s.setHub a v).sec = s.sec := rfl
@[simp] theorem State.setHub_tap (s : State) (a : Nat) (v : AxisHub) : (s.setHub a v).tap = s.tap := rfl

@[simp] theorem State.setCaravan_pending (s : State) (g : Nat) (v : CaravanSt) : (s.setCaravan g v).pending = s.pending := rfl
@[simp] theorem State.setCaravan_objs (s : State) (g : Nat) (v : CaravanSt) : (s.setCaravan g v).objs = s.objs := rfl
@[simp] theorem State.setCaravan_msgs (s : State) (g : Nat) (v : CaravanSt) : (s.setCaravan g v).msgs = s.msgs := rfl
@[simp] theorem State.setCaravan_boot (s : State) (g : Nat) (v : CaravanSt) : (s.setCaravan g v).boot = s.boot := rfl
@[simp] theorem State.setCaravan_per (s : State) (g : Nat) (v : CaravanSt) : (s.setCaravan g v).per = s.per := rfl
@[simp] theorem State.setCaravan_time (s : State) (g : Nat) (v : CaravanSt) : (s.setCaravan g v).time = s.time := rfl
@[simp] theorem State.setCaravan_host (s : State) (g : Nat) (v : CaravanSt) : (s.setCaravan g v).host = s.host := rfl
@[simp] theorem State.setCaravan_flt (s : State) (g : Nat) (v : CaravanSt) : (s.setCaravan g v).flt = s.flt := rfl
@[simp] theorem State.setCaravan_net (s : State) (g : Nat) (v : CaravanSt) : (s.setCaravan g v).net = s.net := rfl
@[simp] theorem State.setCaravan_groups (s : State) (g : Nat) (v : CaravanSt) : (s.setCaravan g v).groups = s.groups := rfl
@[simp] theorem State.setCaravan_lanes (s : State) (g : Nat) (v : CaravanSt) : (s.setCaravan g v).lanes = s.lanes := rfl
@[simp] theorem State.setCaravan_red (s : State) (g : Nat) (v : CaravanSt) : (s.setCaravan g v).red = s.red := rfl
@[simp] theorem State.setCaravan_fb (s : State) (g : Nat) (v : CaravanSt) : (s.setCaravan g v).fb = s.fb := rfl
@[simp] theorem State.setCaravan_emu (s : State) (g : Nat) (v : CaravanSt) : (s.setCaravan g v).emu = s.emu := rfl
@[simp] theorem State.setCaravan_sd (s : State) (g : Nat) (v : CaravanSt) : (s.setCaravan g v).sd = s.sd := rfl
@[simp] theorem State.setCaravan_fio (s : State) (g : Nat) (v : CaravanSt) : (s.setCaravan g v).fio = s.fio := rfl
@[simp] theorem State.setCaravan_latchUnits (s : State) (g : Nat) (v : CaravanSt) : (s.setCaravan g v).latchUnits = s.latchUnits := rfl
@[simp] theorem State.setCaravan_cmpUnits (s : State) (g : Nat) (v : CaravanSt) : (s.setCaravan g v).cmpUnits = s.cmpUnits := rfl
@[simp] theorem State.setCaravan_surv (s : State) (g : Nat) (v : CaravanSt) : (s.setCaravan g v).surv = s.surv := rfl
@[simp] theorem State.setCaravan_sec (s : State) (g : Nat) (v : CaravanSt) : (s.setCaravan g v).sec = s.sec := rfl
@[simp] theorem State.setCaravan_tap (s : State) (g : Nat) (v : CaravanSt) : (s.setCaravan g v).tap = s.tap := rfl

@[simp] theorem State.setEths_pending (s : State) (p : Nat) (v : EthSt) : (s.setEths p v).pending = s.pending := rfl
@[simp] theorem State.setEths_objs (s : State) (p : Nat) (v : EthSt) : (s.setEths p v).objs = s.objs := rfl
@[simp] theorem State.setEths_msgs (s : State) (p : Nat) (v : EthSt) : (s.setEths p v).msgs = s.msgs := rfl
@[simp] theorem State.setEths_boot (s : State) (p : Nat) (v : EthSt) : (s.setEths p v).boot = s.boot := rfl
@[simp] theorem State.setEths_per (s : State) (p : Nat) (v : EthSt) : (s.setEths p v).per = s.per := rfl
@[simp] theorem State.setEths_time (s : State) (p : Nat) (v : EthSt) : (s.setEths p v).time = s.time := rfl
@[simp] theorem State.setEths_host (s : State) (p : Nat) (v : EthSt) : (s.setEths p v).host = s.host := rfl
@[simp] theorem State.setEths_flt (s : State) (p : Nat) (v : EthSt) : (s.setEths p v).flt = s.flt := rfl
@[simp] theorem State.setEths_groups (s : State) (p : Nat) (v : EthSt) : (s.setEths p v).groups = s.groups := rfl
@[simp] theorem State.setEths_lanes (s : State) (p : Nat) (v : EthSt) : (s.setEths p v).lanes = s.lanes := rfl
@[simp] theorem State.setEths_red (s : State) (p : Nat) (v : EthSt) : (s.setEths p v).red = s.red := rfl
@[simp] theorem State.setEths_fb (s : State) (p : Nat) (v : EthSt) : (s.setEths p v).fb = s.fb := rfl
@[simp] theorem State.setEths_emu (s : State) (p : Nat) (v : EthSt) : (s.setEths p v).emu = s.emu := rfl
@[simp] theorem State.setEths_sd (s : State) (p : Nat) (v : EthSt) : (s.setEths p v).sd = s.sd := rfl
@[simp] theorem State.setEths_fio (s : State) (p : Nat) (v : EthSt) : (s.setEths p v).fio = s.fio := rfl
@[simp] theorem State.setEths_motion (s : State) (p : Nat) (v : EthSt) : (s.setEths p v).motion = s.motion := rfl
@[simp] theorem State.setEths_latchUnits (s : State) (p : Nat) (v : EthSt) : (s.setEths p v).latchUnits = s.latchUnits := rfl
@[simp] theorem State.setEths_cmpUnits (s : State) (p : Nat) (v : EthSt) : (s.setEths p v).cmpUnits = s.cmpUnits := rfl
@[simp] theorem State.setEths_surv (s : State) (p : Nat) (v : EthSt) : (s.setEths p v).surv = s.surv := rfl
@[simp] theorem State.setEths_sec (s : State) (p : Nat) (v : EthSt) : (s.setEths p v).sec = s.sec := rfl
@[simp] theorem State.setEths_tap (s : State) (p : Nat) (v : EthSt) : (s.setEths p v).tap = s.tap := rfl

@[simp] theorem State.setCtx_pending (s : State) (t : Nat) (v : CycTxSt) : (s.setCtx t v).pending = s.pending := rfl
@[simp] theorem State.setCtx_objs (s : State) (t : Nat) (v : CycTxSt) : (s.setCtx t v).objs = s.objs := rfl
@[simp] theorem State.setCtx_msgs (s : State) (t : Nat) (v : CycTxSt) : (s.setCtx t v).msgs = s.msgs := rfl
@[simp] theorem State.setCtx_boot (s : State) (t : Nat) (v : CycTxSt) : (s.setCtx t v).boot = s.boot := rfl
@[simp] theorem State.setCtx_per (s : State) (t : Nat) (v : CycTxSt) : (s.setCtx t v).per = s.per := rfl
@[simp] theorem State.setCtx_time (s : State) (t : Nat) (v : CycTxSt) : (s.setCtx t v).time = s.time := rfl
@[simp] theorem State.setCtx_host (s : State) (t : Nat) (v : CycTxSt) : (s.setCtx t v).host = s.host := rfl
@[simp] theorem State.setCtx_flt (s : State) (t : Nat) (v : CycTxSt) : (s.setCtx t v).flt = s.flt := rfl
@[simp] theorem State.setCtx_groups (s : State) (t : Nat) (v : CycTxSt) : (s.setCtx t v).groups = s.groups := rfl
@[simp] theorem State.setCtx_lanes (s : State) (t : Nat) (v : CycTxSt) : (s.setCtx t v).lanes = s.lanes := rfl
@[simp] theorem State.setCtx_red (s : State) (t : Nat) (v : CycTxSt) : (s.setCtx t v).red = s.red := rfl
@[simp] theorem State.setCtx_fb (s : State) (t : Nat) (v : CycTxSt) : (s.setCtx t v).fb = s.fb := rfl
@[simp] theorem State.setCtx_emu (s : State) (t : Nat) (v : CycTxSt) : (s.setCtx t v).emu = s.emu := rfl
@[simp] theorem State.setCtx_sd (s : State) (t : Nat) (v : CycTxSt) : (s.setCtx t v).sd = s.sd := rfl
@[simp] theorem State.setCtx_fio (s : State) (t : Nat) (v : CycTxSt) : (s.setCtx t v).fio = s.fio := rfl
@[simp] theorem State.setCtx_motion (s : State) (t : Nat) (v : CycTxSt) : (s.setCtx t v).motion = s.motion := rfl
@[simp] theorem State.setCtx_latchUnits (s : State) (t : Nat) (v : CycTxSt) : (s.setCtx t v).latchUnits = s.latchUnits := rfl
@[simp] theorem State.setCtx_cmpUnits (s : State) (t : Nat) (v : CycTxSt) : (s.setCtx t v).cmpUnits = s.cmpUnits := rfl
@[simp] theorem State.setCtx_surv (s : State) (t : Nat) (v : CycTxSt) : (s.setCtx t v).surv = s.surv := rfl
@[simp] theorem State.setCtx_sec (s : State) (t : Nat) (v : CycTxSt) : (s.setCtx t v).sec = s.sec := rfl
@[simp] theorem State.setCtx_tap (s : State) (t : Nat) (v : CycTxSt) : (s.setCtx t v).tap = s.tap := rfl

@[simp] theorem State.setCrx_pending (s : State) (r : Nat) (v : CycRxSt) : (s.setCrx r v).pending = s.pending := rfl
@[simp] theorem State.setCrx_objs (s : State) (r : Nat) (v : CycRxSt) : (s.setCrx r v).objs = s.objs := rfl
@[simp] theorem State.setCrx_msgs (s : State) (r : Nat) (v : CycRxSt) : (s.setCrx r v).msgs = s.msgs := rfl
@[simp] theorem State.setCrx_boot (s : State) (r : Nat) (v : CycRxSt) : (s.setCrx r v).boot = s.boot := rfl
@[simp] theorem State.setCrx_per (s : State) (r : Nat) (v : CycRxSt) : (s.setCrx r v).per = s.per := rfl
@[simp] theorem State.setCrx_time (s : State) (r : Nat) (v : CycRxSt) : (s.setCrx r v).time = s.time := rfl
@[simp] theorem State.setCrx_host (s : State) (r : Nat) (v : CycRxSt) : (s.setCrx r v).host = s.host := rfl
@[simp] theorem State.setCrx_flt (s : State) (r : Nat) (v : CycRxSt) : (s.setCrx r v).flt = s.flt := rfl
@[simp] theorem State.setCrx_groups (s : State) (r : Nat) (v : CycRxSt) : (s.setCrx r v).groups = s.groups := rfl
@[simp] theorem State.setCrx_lanes (s : State) (r : Nat) (v : CycRxSt) : (s.setCrx r v).lanes = s.lanes := rfl
@[simp] theorem State.setCrx_red (s : State) (r : Nat) (v : CycRxSt) : (s.setCrx r v).red = s.red := rfl
@[simp] theorem State.setCrx_fb (s : State) (r : Nat) (v : CycRxSt) : (s.setCrx r v).fb = s.fb := rfl
@[simp] theorem State.setCrx_emu (s : State) (r : Nat) (v : CycRxSt) : (s.setCrx r v).emu = s.emu := rfl
@[simp] theorem State.setCrx_sd (s : State) (r : Nat) (v : CycRxSt) : (s.setCrx r v).sd = s.sd := rfl
@[simp] theorem State.setCrx_fio (s : State) (r : Nat) (v : CycRxSt) : (s.setCrx r v).fio = s.fio := rfl
@[simp] theorem State.setCrx_motion (s : State) (r : Nat) (v : CycRxSt) : (s.setCrx r v).motion = s.motion := rfl
@[simp] theorem State.setCrx_latchUnits (s : State) (r : Nat) (v : CycRxSt) : (s.setCrx r v).latchUnits = s.latchUnits := rfl
@[simp] theorem State.setCrx_cmpUnits (s : State) (r : Nat) (v : CycRxSt) : (s.setCrx r v).cmpUnits = s.cmpUnits := rfl
@[simp] theorem State.setCrx_surv (s : State) (r : Nat) (v : CycRxSt) : (s.setCrx r v).surv = s.surv := rfl
@[simp] theorem State.setCrx_sec (s : State) (r : Nat) (v : CycRxSt) : (s.setCrx r v).sec = s.sec := rfl
@[simp] theorem State.setCrx_tap (s : State) (r : Nat) (v : CycRxSt) : (s.setCrx r v).tap = s.tap := rfl

@[simp] theorem State.setCans_pending (s : State) (c : Nat) (v : CanSt) : (s.setCans c v).pending = s.pending := rfl
@[simp] theorem State.setCans_objs (s : State) (c : Nat) (v : CanSt) : (s.setCans c v).objs = s.objs := rfl
@[simp] theorem State.setCans_msgs (s : State) (c : Nat) (v : CanSt) : (s.setCans c v).msgs = s.msgs := rfl
@[simp] theorem State.setCans_boot (s : State) (c : Nat) (v : CanSt) : (s.setCans c v).boot = s.boot := rfl
@[simp] theorem State.setCans_per (s : State) (c : Nat) (v : CanSt) : (s.setCans c v).per = s.per := rfl
@[simp] theorem State.setCans_time (s : State) (c : Nat) (v : CanSt) : (s.setCans c v).time = s.time := rfl
@[simp] theorem State.setCans_host (s : State) (c : Nat) (v : CanSt) : (s.setCans c v).host = s.host := rfl
@[simp] theorem State.setCans_flt (s : State) (c : Nat) (v : CanSt) : (s.setCans c v).flt = s.flt := rfl
@[simp] theorem State.setCans_groups (s : State) (c : Nat) (v : CanSt) : (s.setCans c v).groups = s.groups := rfl
@[simp] theorem State.setCans_lanes (s : State) (c : Nat) (v : CanSt) : (s.setCans c v).lanes = s.lanes := rfl
@[simp] theorem State.setCans_red (s : State) (c : Nat) (v : CanSt) : (s.setCans c v).red = s.red := rfl
@[simp] theorem State.setCans_fb (s : State) (c : Nat) (v : CanSt) : (s.setCans c v).fb = s.fb := rfl
@[simp] theorem State.setCans_emu (s : State) (c : Nat) (v : CanSt) : (s.setCans c v).emu = s.emu := rfl
@[simp] theorem State.setCans_sd (s : State) (c : Nat) (v : CanSt) : (s.setCans c v).sd = s.sd := rfl
@[simp] theorem State.setCans_fio (s : State) (c : Nat) (v : CanSt) : (s.setCans c v).fio = s.fio := rfl
@[simp] theorem State.setCans_motion (s : State) (c : Nat) (v : CanSt) : (s.setCans c v).motion = s.motion := rfl
@[simp] theorem State.setCans_latchUnits (s : State) (c : Nat) (v : CanSt) : (s.setCans c v).latchUnits = s.latchUnits := rfl
@[simp] theorem State.setCans_cmpUnits (s : State) (c : Nat) (v : CanSt) : (s.setCans c v).cmpUnits = s.cmpUnits := rfl
@[simp] theorem State.setCans_surv (s : State) (c : Nat) (v : CanSt) : (s.setCans c v).surv = s.surv := rfl
@[simp] theorem State.setCans_sec (s : State) (c : Nat) (v : CanSt) : (s.setCans c v).sec = s.sec := rfl
@[simp] theorem State.setCans_tap (s : State) (c : Nat) (v : CanSt) : (s.setCans c v).tap = s.tap := rfl

@[simp] theorem State.setRing_pending (s : State) (r : Nat) (v : RingSt) : (s.setRing r v).pending = s.pending := rfl
@[simp] theorem State.setRing_objs (s : State) (r : Nat) (v : RingSt) : (s.setRing r v).objs = s.objs := rfl
@[simp] theorem State.setRing_msgs (s : State) (r : Nat) (v : RingSt) : (s.setRing r v).msgs = s.msgs := rfl
@[simp] theorem State.setRing_boot (s : State) (r : Nat) (v : RingSt) : (s.setRing r v).boot = s.boot := rfl
@[simp] theorem State.setRing_per (s : State) (r : Nat) (v : RingSt) : (s.setRing r v).per = s.per := rfl
@[simp] theorem State.setRing_time (s : State) (r : Nat) (v : RingSt) : (s.setRing r v).time = s.time := rfl
@[simp] theorem State.setRing_flt (s : State) (r : Nat) (v : RingSt) : (s.setRing r v).flt = s.flt := rfl
@[simp] theorem State.setRing_net (s : State) (r : Nat) (v : RingSt) : (s.setRing r v).net = s.net := rfl
@[simp] theorem State.setRing_groups (s : State) (r : Nat) (v : RingSt) : (s.setRing r v).groups = s.groups := rfl
@[simp] theorem State.setRing_lanes (s : State) (r : Nat) (v : RingSt) : (s.setRing r v).lanes = s.lanes := rfl
@[simp] theorem State.setRing_red (s : State) (r : Nat) (v : RingSt) : (s.setRing r v).red = s.red := rfl
@[simp] theorem State.setRing_fb (s : State) (r : Nat) (v : RingSt) : (s.setRing r v).fb = s.fb := rfl
@[simp] theorem State.setRing_emu (s : State) (r : Nat) (v : RingSt) : (s.setRing r v).emu = s.emu := rfl
@[simp] theorem State.setRing_sd (s : State) (r : Nat) (v : RingSt) : (s.setRing r v).sd = s.sd := rfl
@[simp] theorem State.setRing_fio (s : State) (r : Nat) (v : RingSt) : (s.setRing r v).fio = s.fio := rfl
@[simp] theorem State.setRing_motion (s : State) (r : Nat) (v : RingSt) : (s.setRing r v).motion = s.motion := rfl
@[simp] theorem State.setRing_latchUnits (s : State) (r : Nat) (v : RingSt) : (s.setRing r v).latchUnits = s.latchUnits := rfl
@[simp] theorem State.setRing_cmpUnits (s : State) (r : Nat) (v : RingSt) : (s.setRing r v).cmpUnits = s.cmpUnits := rfl
@[simp] theorem State.setRing_surv (s : State) (r : Nat) (v : RingSt) : (s.setRing r v).surv = s.surv := rfl
@[simp] theorem State.setRing_sec (s : State) (r : Nat) (v : RingSt) : (s.setRing r v).sec = s.sec := rfl
@[simp] theorem State.setRing_tap (s : State) (r : Nat) (v : RingSt) : (s.setRing r v).tap = s.tap := rfl

@[simp] theorem State.setCq_pending (s : State) (m : Nat) (v : CqSt) : (s.setCq m v).pending = s.pending := rfl
@[simp] theorem State.setCq_objs (s : State) (m : Nat) (v : CqSt) : (s.setCq m v).objs = s.objs := rfl
@[simp] theorem State.setCq_msgs (s : State) (m : Nat) (v : CqSt) : (s.setCq m v).msgs = s.msgs := rfl
@[simp] theorem State.setCq_boot (s : State) (m : Nat) (v : CqSt) : (s.setCq m v).boot = s.boot := rfl
@[simp] theorem State.setCq_per (s : State) (m : Nat) (v : CqSt) : (s.setCq m v).per = s.per := rfl
@[simp] theorem State.setCq_time (s : State) (m : Nat) (v : CqSt) : (s.setCq m v).time = s.time := rfl
@[simp] theorem State.setCq_flt (s : State) (m : Nat) (v : CqSt) : (s.setCq m v).flt = s.flt := rfl
@[simp] theorem State.setCq_net (s : State) (m : Nat) (v : CqSt) : (s.setCq m v).net = s.net := rfl
@[simp] theorem State.setCq_groups (s : State) (m : Nat) (v : CqSt) : (s.setCq m v).groups = s.groups := rfl
@[simp] theorem State.setCq_lanes (s : State) (m : Nat) (v : CqSt) : (s.setCq m v).lanes = s.lanes := rfl
@[simp] theorem State.setCq_red (s : State) (m : Nat) (v : CqSt) : (s.setCq m v).red = s.red := rfl
@[simp] theorem State.setCq_fb (s : State) (m : Nat) (v : CqSt) : (s.setCq m v).fb = s.fb := rfl
@[simp] theorem State.setCq_emu (s : State) (m : Nat) (v : CqSt) : (s.setCq m v).emu = s.emu := rfl
@[simp] theorem State.setCq_sd (s : State) (m : Nat) (v : CqSt) : (s.setCq m v).sd = s.sd := rfl
@[simp] theorem State.setCq_fio (s : State) (m : Nat) (v : CqSt) : (s.setCq m v).fio = s.fio := rfl
@[simp] theorem State.setCq_motion (s : State) (m : Nat) (v : CqSt) : (s.setCq m v).motion = s.motion := rfl
@[simp] theorem State.setCq_latchUnits (s : State) (m : Nat) (v : CqSt) : (s.setCq m v).latchUnits = s.latchUnits := rfl
@[simp] theorem State.setCq_cmpUnits (s : State) (m : Nat) (v : CqSt) : (s.setCq m v).cmpUnits = s.cmpUnits := rfl
@[simp] theorem State.setCq_surv (s : State) (m : Nat) (v : CqSt) : (s.setCq m v).surv = s.surv := rfl
@[simp] theorem State.setCq_sec (s : State) (m : Nat) (v : CqSt) : (s.setCq m v).sec = s.sec := rfl
@[simp] theorem State.setCq_tap (s : State) (m : Nat) (v : CqSt) : (s.setCq m v).tap = s.tap := rfl

@[simp] theorem State.mapCmd_pending (s : State) (t : CmdRef) (f : Cmd → Cmd) : (s.mapCmd t f).pending = s.pending := rfl
@[simp] theorem State.mapCmd_objs (s : State) (t : CmdRef) (f : Cmd → Cmd) : (s.mapCmd t f).objs = s.objs := rfl
@[simp] theorem State.mapCmd_msgs (s : State) (t : CmdRef) (f : Cmd → Cmd) : (s.mapCmd t f).msgs = s.msgs := rfl
@[simp] theorem State.mapCmd_boot (s : State) (t : CmdRef) (f : Cmd → Cmd) : (s.mapCmd t f).boot = s.boot := rfl
@[simp] theorem State.mapCmd_per (s : State) (t : CmdRef) (f : Cmd → Cmd) : (s.mapCmd t f).per = s.per := rfl
@[simp] theorem State.mapCmd_time (s : State) (t : CmdRef) (f : Cmd → Cmd) : (s.mapCmd t f).time = s.time := rfl
@[simp] theorem State.mapCmd_flt (s : State) (t : CmdRef) (f : Cmd → Cmd) : (s.mapCmd t f).flt = s.flt := rfl
@[simp] theorem State.mapCmd_net (s : State) (t : CmdRef) (f : Cmd → Cmd) : (s.mapCmd t f).net = s.net := rfl
@[simp] theorem State.mapCmd_groups (s : State) (t : CmdRef) (f : Cmd → Cmd) : (s.mapCmd t f).groups = s.groups := rfl
@[simp] theorem State.mapCmd_lanes (s : State) (t : CmdRef) (f : Cmd → Cmd) : (s.mapCmd t f).lanes = s.lanes := rfl
@[simp] theorem State.mapCmd_red (s : State) (t : CmdRef) (f : Cmd → Cmd) : (s.mapCmd t f).red = s.red := rfl
@[simp] theorem State.mapCmd_fb (s : State) (t : CmdRef) (f : Cmd → Cmd) : (s.mapCmd t f).fb = s.fb := rfl
@[simp] theorem State.mapCmd_emu (s : State) (t : CmdRef) (f : Cmd → Cmd) : (s.mapCmd t f).emu = s.emu := rfl
@[simp] theorem State.mapCmd_sd (s : State) (t : CmdRef) (f : Cmd → Cmd) : (s.mapCmd t f).sd = s.sd := rfl
@[simp] theorem State.mapCmd_fio (s : State) (t : CmdRef) (f : Cmd → Cmd) : (s.mapCmd t f).fio = s.fio := rfl
@[simp] theorem State.mapCmd_motion (s : State) (t : CmdRef) (f : Cmd → Cmd) : (s.mapCmd t f).motion = s.motion := rfl
@[simp] theorem State.mapCmd_latchUnits (s : State) (t : CmdRef) (f : Cmd → Cmd) : (s.mapCmd t f).latchUnits = s.latchUnits := rfl
@[simp] theorem State.mapCmd_cmpUnits (s : State) (t : CmdRef) (f : Cmd → Cmd) : (s.mapCmd t f).cmpUnits = s.cmpUnits := rfl
@[simp] theorem State.mapCmd_surv (s : State) (t : CmdRef) (f : Cmd → Cmd) : (s.mapCmd t f).surv = s.surv := rfl
@[simp] theorem State.mapCmd_sec (s : State) (t : CmdRef) (f : Cmd → Cmd) : (s.mapCmd t f).sec = s.sec := rfl
@[simp] theorem State.mapCmd_tap (s : State) (t : CmdRef) (f : Cmd → Cmd) : (s.mapCmd t f).tap = s.tap := rfl

@[simp] theorem State.mapHost_pending (s : State) (f : HostSt → HostSt) : (s.mapHost f).pending = s.pending := rfl
@[simp] theorem State.mapHost_objs (s : State) (f : HostSt → HostSt) : (s.mapHost f).objs = s.objs := rfl
@[simp] theorem State.mapHost_msgs (s : State) (f : HostSt → HostSt) : (s.mapHost f).msgs = s.msgs := rfl
@[simp] theorem State.mapHost_boot (s : State) (f : HostSt → HostSt) : (s.mapHost f).boot = s.boot := rfl
@[simp] theorem State.mapHost_per (s : State) (f : HostSt → HostSt) : (s.mapHost f).per = s.per := rfl
@[simp] theorem State.mapHost_time (s : State) (f : HostSt → HostSt) : (s.mapHost f).time = s.time := rfl
@[simp] theorem State.mapHost_flt (s : State) (f : HostSt → HostSt) : (s.mapHost f).flt = s.flt := rfl
@[simp] theorem State.mapHost_net (s : State) (f : HostSt → HostSt) : (s.mapHost f).net = s.net := rfl
@[simp] theorem State.mapHost_groups (s : State) (f : HostSt → HostSt) : (s.mapHost f).groups = s.groups := rfl
@[simp] theorem State.mapHost_lanes (s : State) (f : HostSt → HostSt) : (s.mapHost f).lanes = s.lanes := rfl
@[simp] theorem State.mapHost_red (s : State) (f : HostSt → HostSt) : (s.mapHost f).red = s.red := rfl
@[simp] theorem State.mapHost_fb (s : State) (f : HostSt → HostSt) : (s.mapHost f).fb = s.fb := rfl
@[simp] theorem State.mapHost_emu (s : State) (f : HostSt → HostSt) : (s.mapHost f).emu = s.emu := rfl
@[simp] theorem State.mapHost_sd (s : State) (f : HostSt → HostSt) : (s.mapHost f).sd = s.sd := rfl
@[simp] theorem State.mapHost_fio (s : State) (f : HostSt → HostSt) : (s.mapHost f).fio = s.fio := rfl
@[simp] theorem State.mapHost_motion (s : State) (f : HostSt → HostSt) : (s.mapHost f).motion = s.motion := rfl
@[simp] theorem State.mapHost_latchUnits (s : State) (f : HostSt → HostSt) : (s.mapHost f).latchUnits = s.latchUnits := rfl
@[simp] theorem State.mapHost_cmpUnits (s : State) (f : HostSt → HostSt) : (s.mapHost f).cmpUnits = s.cmpUnits := rfl
@[simp] theorem State.mapHost_surv (s : State) (f : HostSt → HostSt) : (s.mapHost f).surv = s.surv := rfl
@[simp] theorem State.mapHost_sec (s : State) (f : HostSt → HostSt) : (s.mapHost f).sec = s.sec := rfl
@[simp] theorem State.mapHost_tap (s : State) (f : HostSt → HostSt) : (s.mapHost f).tap = s.tap := rfl

@[simp] theorem State.setBb_pending (s : State) (a : Nat) (v : BbArea) : (s.setBb a v).pending = s.pending := rfl
@[simp] theorem State.setBb_objs (s : State) (a : Nat) (v : BbArea) : (s.setBb a v).objs = s.objs := rfl
@[simp] theorem State.setBb_msgs (s : State) (a : Nat) (v : BbArea) : (s.setBb a v).msgs = s.msgs := rfl
@[simp] theorem State.setBb_boot (s : State) (a : Nat) (v : BbArea) : (s.setBb a v).boot = s.boot := rfl
@[simp] theorem State.setBb_per (s : State) (a : Nat) (v : BbArea) : (s.setBb a v).per = s.per := rfl
@[simp] theorem State.setBb_time (s : State) (a : Nat) (v : BbArea) : (s.setBb a v).time = s.time := rfl
@[simp] theorem State.setBb_host (s : State) (a : Nat) (v : BbArea) : (s.setBb a v).host = s.host := rfl
@[simp] theorem State.setBb_flt (s : State) (a : Nat) (v : BbArea) : (s.setBb a v).flt = s.flt := rfl
@[simp] theorem State.setBb_net (s : State) (a : Nat) (v : BbArea) : (s.setBb a v).net = s.net := rfl
@[simp] theorem State.setBb_groups (s : State) (a : Nat) (v : BbArea) : (s.setBb a v).groups = s.groups := rfl
@[simp] theorem State.setBb_lanes (s : State) (a : Nat) (v : BbArea) : (s.setBb a v).lanes = s.lanes := rfl
@[simp] theorem State.setBb_red (s : State) (a : Nat) (v : BbArea) : (s.setBb a v).red = s.red := rfl
@[simp] theorem State.setBb_fb (s : State) (a : Nat) (v : BbArea) : (s.setBb a v).fb = s.fb := rfl
@[simp] theorem State.setBb_emu (s : State) (a : Nat) (v : BbArea) : (s.setBb a v).emu = s.emu := rfl
@[simp] theorem State.setBb_sd (s : State) (a : Nat) (v : BbArea) : (s.setBb a v).sd = s.sd := rfl
@[simp] theorem State.setBb_fio (s : State) (a : Nat) (v : BbArea) : (s.setBb a v).fio = s.fio := rfl
@[simp] theorem State.setBb_motion (s : State) (a : Nat) (v : BbArea) : (s.setBb a v).motion = s.motion := rfl
@[simp] theorem State.setBb_latchUnits (s : State) (a : Nat) (v : BbArea) : (s.setBb a v).latchUnits = s.latchUnits := rfl
@[simp] theorem State.setBb_cmpUnits (s : State) (a : Nat) (v : BbArea) : (s.setBb a v).cmpUnits = s.cmpUnits := rfl
@[simp] theorem State.setBb_sec (s : State) (a : Nat) (v : BbArea) : (s.setBb a v).sec = s.sec := rfl
@[simp] theorem State.setBb_tap (s : State) (a : Nat) (v : BbArea) : (s.setBb a v).tap = s.tap := rfl

@[simp] theorem State.atRing_pending (s : State) (r : Nat) : (s.atRing r).pending = s.pending := rfl
@[simp] theorem State.atRing_objs (s : State) (r : Nat) : (s.atRing r).objs = s.objs := rfl
@[simp] theorem State.atRing_msgs (s : State) (r : Nat) : (s.atRing r).msgs = s.msgs := rfl
@[simp] theorem State.atRing_boot (s : State) (r : Nat) : (s.atRing r).boot = s.boot := rfl
@[simp] theorem State.atRing_time (s : State) (r : Nat) : (s.atRing r).time = s.time := rfl
@[simp] theorem State.atRing_host (s : State) (r : Nat) : (s.atRing r).host = s.host := rfl
@[simp] theorem State.atRing_flt (s : State) (r : Nat) : (s.atRing r).flt = s.flt := rfl
@[simp] theorem State.atRing_net (s : State) (r : Nat) : (s.atRing r).net = s.net := rfl
@[simp] theorem State.atRing_groups (s : State) (r : Nat) : (s.atRing r).groups = s.groups := rfl
@[simp] theorem State.atRing_lanes (s : State) (r : Nat) : (s.atRing r).lanes = s.lanes := rfl
@[simp] theorem State.atRing_red (s : State) (r : Nat) : (s.atRing r).red = s.red := rfl
@[simp] theorem State.atRing_fb (s : State) (r : Nat) : (s.atRing r).fb = s.fb := rfl
@[simp] theorem State.atRing_emu (s : State) (r : Nat) : (s.atRing r).emu = s.emu := rfl
@[simp] theorem State.atRing_sd (s : State) (r : Nat) : (s.atRing r).sd = s.sd := rfl
@[simp] theorem State.atRing_fio (s : State) (r : Nat) : (s.atRing r).fio = s.fio := rfl
@[simp] theorem State.atRing_motion (s : State) (r : Nat) : (s.atRing r).motion = s.motion := rfl
@[simp] theorem State.atRing_latchUnits (s : State) (r : Nat) : (s.atRing r).latchUnits = s.latchUnits := rfl
@[simp] theorem State.atRing_cmpUnits (s : State) (r : Nat) : (s.atRing r).cmpUnits = s.cmpUnits := rfl
@[simp] theorem State.atRing_surv (s : State) (r : Nat) : (s.atRing r).surv = s.surv := rfl
@[simp] theorem State.atRing_sec (s : State) (r : Nat) : (s.atRing r).sec = s.sec := rfl
@[simp] theorem State.atRing_tap (s : State) (r : Nat) : (s.atRing r).tap = s.tap := rfl

@[simp] theorem State.enter_pending (s : State) (c : Cmd) : (s.enter c).pending = s.pending := rfl
@[simp] theorem State.enter_objs (s : State) (c : Cmd) : (s.enter c).objs = s.objs := rfl
@[simp] theorem State.enter_msgs (s : State) (c : Cmd) : (s.enter c).msgs = s.msgs := rfl
@[simp] theorem State.enter_boot (s : State) (c : Cmd) : (s.enter c).boot = s.boot := rfl
@[simp] theorem State.enter_time (s : State) (c : Cmd) : (s.enter c).time = s.time := rfl
@[simp] theorem State.enter_host (s : State) (c : Cmd) : (s.enter c).host = s.host := rfl
@[simp] theorem State.enter_flt (s : State) (c : Cmd) : (s.enter c).flt = s.flt := rfl
@[simp] theorem State.enter_net (s : State) (c : Cmd) : (s.enter c).net = s.net := rfl
@[simp] theorem State.enter_groups (s : State) (c : Cmd) : (s.enter c).groups = s.groups := rfl
@[simp] theorem State.enter_lanes (s : State) (c : Cmd) : (s.enter c).lanes = s.lanes := rfl
@[simp] theorem State.enter_red (s : State) (c : Cmd) : (s.enter c).red = s.red := rfl
@[simp] theorem State.enter_fb (s : State) (c : Cmd) : (s.enter c).fb = s.fb := rfl
@[simp] theorem State.enter_emu (s : State) (c : Cmd) : (s.enter c).emu = s.emu := rfl
@[simp] theorem State.enter_sd (s : State) (c : Cmd) : (s.enter c).sd = s.sd := rfl
@[simp] theorem State.enter_fio (s : State) (c : Cmd) : (s.enter c).fio = s.fio := rfl
@[simp] theorem State.enter_motion (s : State) (c : Cmd) : (s.enter c).motion = s.motion := rfl
@[simp] theorem State.enter_latchUnits (s : State) (c : Cmd) : (s.enter c).latchUnits = s.latchUnits := rfl
@[simp] theorem State.enter_cmpUnits (s : State) (c : Cmd) : (s.enter c).cmpUnits = s.cmpUnits := rfl
@[simp] theorem State.enter_surv (s : State) (c : Cmd) : (s.enter c).surv = s.surv := rfl
@[simp] theorem State.enter_sec (s : State) (c : Cmd) : (s.enter c).sec = s.sec := rfl
@[simp] theorem State.enter_tap (s : State) (c : Cmd) : (s.enter c).tap = s.tap := rfl

end Sys2Proof.Machine
end

