-- ==== Sys2Proof/Laws/Store.lean ====
section
/-!
SUPPORT. Laws of the object store: what a field reads after a write of a field of the same entry or of another.
-/

namespace Sys2Proof.Machine

/-! ### Bits -/

theorem getBits_eq (c lo w : Nat) : getBits c lo w = (c >>> lo) % 2 ^ w := by
  rw [getBits, Nat.shiftRight_eq_div_pow]

theorem testBit_getBits (c lo w i : Nat) : (getBits c lo w).testBit i = (decide (i < w) && c.testBit (lo + i)) := by
  rw [getBits_eq, Nat.testBit_mod_two_pow, Nat.testBit_shiftRight]

/-- Bit `i` of a number with bits [lo + w − 1 : lo] replaced. -/
theorem testBit_putBits (c lo w v i : Nat) :
    (putBits c lo w v).testBit i = if lo ≤ i ∧ i < lo + w then v.testBit (i - lo) else c.testBit i := by
  have e : putBits c lo w v = 2 ^ (lo + w) * (c / 2 ^ (lo + w)) + (2 ^ lo * (v % 2 ^ w) + c % 2 ^ lo) := by
    rw [putBits]; ring
  have h1 : c % 2 ^ lo < 2 ^ lo := Nat.mod_lt _ (by positivity)
  have h3 : v % 2 ^ w < 2 ^ w := Nat.mod_lt _ (by positivity)
  have h2 : 2 ^ lo * (v % 2 ^ w) + c % 2 ^ lo < 2 ^ (lo + w) := by
    calc 2 ^ lo * (v % 2 ^ w) + c % 2 ^ lo < 2 ^ lo * (v % 2 ^ w) + 2 ^ lo := by omega
      _ = 2 ^ lo * (v % 2 ^ w + 1) := by ring
      _ ≤ 2 ^ lo * 2 ^ w := Nat.mul_le_mul_left _ h3
      _ = 2 ^ (lo + w) := (pow_add 2 lo w).symm
  rw [e, Nat.testBit_two_pow_mul_add _ h2]
  by_cases hi : i < lo + w
  · rw [if_pos hi, Nat.testBit_two_pow_mul_add _ h1]
    by_cases hl : i < lo
    · rw [if_pos hl, if_neg (by omega), Nat.testBit_mod_two_pow]; simp [hl]
    · rw [if_neg hl, if_pos ⟨by omega, hi⟩, Nat.testBit_mod_two_pow]
      simp [show i - lo < w by omega]
  · rw [if_neg hi, if_neg (by omega), Nat.testBit_div_two_pow]
    congr 1; omega

/-- A field reads what was written to it. -/
@[simp] theorem getBits_putBits_same (c lo w v : Nat) : getBits (putBits c lo w v) lo w = v % 2 ^ w := by
  apply Nat.eq_of_testBit_eq
  intro i
  rw [testBit_getBits, testBit_putBits, Nat.testBit_mod_two_pow]
  by_cases h : i < w
  · simp [h]
  · simp [h]

/-- A write of one field leaves a field of other bits alone. -/
theorem getBits_putBits_ne {lo w lo' w' : Nat} (c v : Nat) (h : lo' + w' ≤ lo ∨ lo + w ≤ lo') :
    getBits (putBits c lo w v) lo' w' = getBits c lo' w' := by
  apply Nat.eq_of_testBit_eq
  intro i
  rw [testBit_getBits, testBit_putBits, testBit_getBits]
  by_cases hi : i < w'
  · rw [if_neg (by omega)]
  · simp [hi]

/-! ### Entries and fields -/

theorem objKey_inj {o o' : Obj} {i i' e e' : Nat} (hi : i < 256) (hi' : i' < 256) (he : e < 65536) (he' : e' < 65536)
    (h : objKey o i e = objKey o' i' e') : o.code = o'.code ∧ i = i' ∧ e = e' := by
  unfold objKey at h
  omega

@[simp] theorem State.obj_setObj_same (s : State) (o : Obj) (i e v : Nat) : (s.setObj o i e v).obj o i e = v := by
  simp [State.obj, State.setObj]

theorem State.obj_setObj_ne (s : State) {o o' : Obj} {i i' e e' : Nat} (v : Nat) (h : objKey o' i' e' ≠ objKey o i e) :
    (s.setObj o i e v).obj o' i' e' = s.obj o' i' e' := by
  simp [State.obj, State.setObj, SMap.get_set_ne h]

/-- A field reads what was written to it. -/
@[simp] theorem State.fld_setFld_same (s : State) (f : Fld) (v i e : Nat) : (s.setFld f v i e).fld f i e = v % 2 ^ f.width := by
  simp [State.fld, State.setFld]

/-- A write of a field leaves a field of other bits of the same entry alone. -/
theorem State.fld_setFld_bits (s : State) {f g : Fld} (v i e : Nat) (ho : g.obj = f.obj)
    (h : g.lo + g.width ≤ f.lo ∨ f.lo + f.width ≤ g.lo) : (s.setFld f v i e).fld g i e = s.fld g i e := by
  simp [State.fld, State.setFld, ho, getBits_putBits_ne _ _ h]

/-- A write of a field leaves every field of another entry alone. -/
theorem State.fld_setFld_entry (s : State) {f g : Fld} {i i' e e' : Nat} (v : Nat)
    (h : objKey g.obj i' e' ≠ objKey f.obj i e) : (s.setFld f v i e).fld g i' e' = s.fld g i' e' := by
  simp [State.fld, State.setFld, State.obj_setObj_ne s _ h]

/-- A write of a field leaves every field of another object alone. -/
theorem State.fld_setFld_obj (s : State) {f g : Fld} {i i' e e' : Nat} (v : Nat) (h : g.obj.code ≠ f.obj.code)
    (hi : i < 256) (hi' : i' < 256) (he : e < 65536) (he' : e' < 65536) :
    (s.setFld f v i e).fld g i' e' = s.fld g i' e' :=
  s.fld_setFld_entry v fun hk => h (objKey_inj hi' hi he' he hk).1

@[simp] theorem State.bit_setBit_same (s : State) (f : Fld) (b : Bool) (i e : Nat) (hw : f.width = 1) :
    (s.setBit f b i e).bit f i e = b := by
  cases b <;> simp [State.bit, State.setBit, hw]

@[simp] theorem State.nth_setNth_same (s : State) (f : Fld) (n : Nat) (b : Bool) (i e : Nat) (hn : n < f.width) :
    (s.setNth f n b i e).nth f n i e = b := by
  simp only [State.nth, State.setNth, State.fld_setFld_same, Nat.testBit_mod_two_pow, hn, decide_true, Bool.true_and,
    testBit_putBits]
  cases b <;> simp

/-! ### The stores by number -/

@[simp] theorem State.grp_setGrp_same (s : State) (g : Nat) (v : GroupSt) : (s.setGrp g v).grp g = v := by
  simp [State.grp, State.setGrp]

theorem State.grp_setGrp_ne (s : State) {g h : Nat} (v : GroupSt) (hn : h ≠ g) : (s.setGrp g v).grp h = s.grp h := by
  simp [State.grp, State.setGrp, SMap.get_set_ne hn]

@[simp] theorem State.lane_setLane_same (s : State) (u l c : Nat) (v : Lane) : (s.setLane u l c v).lane u l c = v := by
  simp [State.lane, State.setLane]

theorem State.lane_setLane_ne (s : State) {u l c u' l' c' : Nat} (v : Lane) (h : laneKey u' l' c' ≠ laneKey u l c) :
    (s.setLane u l c v).lane u' l' c' = s.lane u' l' c' := by
  simp [State.lane, State.setLane, SMap.get_set_ne h]

@[simp] theorem State.pair_setPair_same (s : State) (u l : Nat) (v : PairSt) : (s.setPair u l v).pair u l = v := by
  simp [State.pair, State.setPair]

@[simp] theorem State.fbs_setFbs_same (s : State) (n : Nat) (v : FbSt) : (s.setFbs n v).fbs n = v := by
  simp [State.fbs, State.setFbs]

theorem State.fbs_setFbs_ne (s : State) {n m : Nat} (v : FbSt) (h : m ≠ n) : (s.setFbs n v).fbs m = s.fbs m := by
  simp [State.fbs, State.setFbs, SMap.get_set_ne h]

@[simp] theorem State.cans_setCans_same (s : State) (c : Nat) (v : CanSt) : (s.setCans c v).cans c = v := by
  simp [State.cans, State.setCans]

@[simp] theorem State.slot_setSlot_same (s : State) (n : Nat) (v : SlotSt) : (s.setSlot n v).slot n = v := by
  simp [State.slot, State.setSlot]

@[simp] theorem State.axis_setAxis_same (s : State) (a : Nat) (v : AxisSt) : (s.setAxis a v).axis a = v := by
  simp [State.axis, State.setAxis]

end Sys2Proof.Machine
end

