-- ==== Sys2Proof/Tests/Slice0.lean ====
section
/-!
SUPPORT. Tests of the model: ill-formed terms are refused, words written out from the encoding tables decode, and for the hypotheses of
every statement there is a state that meets them, with what the command does there. Expected results come from the manual's rules and worked
examples.
-/

set_option Elab.async false

namespace Sys2Proof.Tests

open Sys2Proof.Machine

/-! ### Forms of a test -/

/-- The outcome is a next state of which `p` holds. -/
def nextIs (o : Host.Outcome State Fault Refusal) (p : State → Bool) : Bool :=
  match o with
  | .next t => p t
  | _ => false

/-- The outcome is the state itself. -/
def same (o : Host.Outcome State Fault Refusal) (s : State) : Bool := nextIs o (· == s)

/-- The outcome is a fault of this name. -/
def stops (o : Host.Outcome State Fault Refusal) (f : Fault) : Bool :=
  match o with
  | .fault g => f == g
  | _ => false

/-- A message of a kind and instance is on its way. -/
def raised (t : State) (k inst : Nat) : Bool := t.msgs.any (·.source == sourceNo k inst)

/-- The hub holds the descriptor of `s0`, ended with a status, or has written its completion last (a completion written holds free values,
which no evaluation reads). -/
def ended (status : Nat) (t : State) : Bool :=
  (t.host.cmds.any fun c => c.index % 2 ^ 12 == 0 && (c.outcome.map (·.status)) == some status)
    || t.host.writes.getLast?.any fun w => w.len == 32

/-- The hub holds the descriptor of `s0`, which runs on. -/
def running (t : State) : Bool := t.host.cmds.any fun c => c.index % 2 ^ 12 == 0 && c.stage == .applied && c.outcome.isNone

/-- A PTP message, and the payload of a cyclic frame, received. -/
def ptpRx (p : Fin 3) (m : PtpMsg) (sub : Fin 16) : Instr := .ptpMessageRx p m.mtype m.domain m.seqId m.src m.req m.toPtpBody sub
def cycRx (p : Fin 3) (fcs : Bool) (bs : List Byte) : Instr := .cycFrameRx p fcs (bs.getD 0 0) (bs.getD 1 0) (bs.drop 2)

/-! ### States -/

/-- The module out of reset with the time base at tick `mt`. -/
def awake (mt : Nat) : State :=
  { State.reset with boot := { State.reset.boot with resetLow := false }, time := { State.reset.time with running := true, mt := mt }
                     host := { State.reset.host with linkUp := true } }

/-- Rings served, ring `r` enabled with 16 entries of which one waits, completion ring 0 with 16, a period of 6,250 ticks, a mode. -/
def served (r m : Nat) : State :=
  let s := [(F.HIF_RING_CTRL_SIZE_LOG2, 4, r), (F.HIF_RING_CTRL_ENABLE, 1, r), (F.HIF_CQ_CTRL_SIZE_LOG2, 4, 0), (F.HIF_CQ_CTRL_ENABLE, 1, 0),
    (F.HIF_CQ_TAIL_PHASE, 1, 0), (F.HIF_STATUS_RINGS_READY, 1, 0), (F.SYS_MODE_MODE, m, 0), (F.SYS_PERIOD_TC, 6250, 0)].foldl
    (fun s e => s.setFld e.1 e.2.1 e.2.2) (awake 1000000)
  { s with host := { s.host with busMaster := true, rings := [(r, { prod := 1 })], cqs := [(0, { consPhase := true })] } }

/-- CONFIGURE, no period running. -/
def idle : State := served 0 0

/-- A running period in mode `m`: 1 COMMISSION, 2 RUN, 3 HOLD, 5 SERVICE; its application step is open. -/
def inMode (m : Nat) : State :=
  { served 0 m with per := { State.reset.per with
      running := true, t0 := 998000, next := 1004250, seq := 7, count := 8, step := some { before := 991750, beforeNo := 7 } } }

/-- The same period after its application step. -/
def later (m : Nat) : State := { inMode m with per := { (inMode m).per with step := none } }

/-- The first entry of command ring 0. -/
def s0 : Src := { ring := 0, index := 0, phase := false }

/-- The first entry of a bulk ring. -/
def b0 : BulkSrc := { index := 0, phase := false }

/-! ### Well-formed commands and lane instructions -/

/-- Each check of `Instr.wf` refuses a term that breaks it. -/
theorem test_ill_formed_commands :
    ([Instr.descriptorFetch 0 { opcode := 256, objId := 0 }, .descriptorFetch 0 { opcode := 1, objId := 2 ^ 16 },
      .descriptorFetch 0 { opcode := 1, spare := 8, objId := 0 },
      .configureApply 0 (2 ^ 128), .objWrite s0 0 0 1 256 0, .objWrite s0 0 0 1 255 (2 ^ 128), .canTx s0 0 1 256,
      .imageWrite b0 0 0 1 false 256, .tableWrite b0 false 0 1 false 256, .coefWrite s0 false 0 [], .lanememWrite s0 0 0 0 1 256,
      .isoUpFrame none none (2 ^ 160) 0 0 0, .isoUpFrame none (some (List.replicate 48 0)) 0 0 0 0, .islandDownFrame (some (List.replicate 48 0)) none,
      .syncReceived 0 ⟨{ mtype := 1 }, 0⟩, ptpRx 0 { mtype := 0 } 0, ptpRx 0 { mtype := 16 } 0,
      ptpRx 0 { mtype := 11, clock := { cls := 256 } } 0, .cycFrameRx 0 true 1 1 (List.replicate 1499 0), .canFrameRx 0 { id := 2 ^ 31, format := 0, flags := 0, len := 0, data := 0 } 0 0,
      .canFrameRx 0 { id := 0, format := 0, flags := 0, len := 1, data := 256 } 0 0,
      .faultEvent (some { kind := 512, inst := 0 }), .faultEvent (some { kind := 0, inst := 128 })].any Instr.wf) = false := by
  decide +kernel

/-- Each check of `LaneOp.wf` refuses a term that breaks it, and its neighbour passes. -/
theorem test_ill_formed_lane_ops :
    ([LaneOp.shl 0 64, .shr 0 64, .bra .al 8192, .call .al 8192, .loop (.inl 65536) 0, .loop (.inl 0) 8192, .loop (.inr 0) 8192,
      .post (.a 0) 65536, .addp 0 16384].any LaneOp.wf) = false ∧
    ([LaneOp.shl 0 63, .shr 0 63, .bra .al 8191, .call .al 8191, .loop (.inl 65535) 8191, .loop (.inr 0) 8191, .post (.a 0) 65535,
      .addp 0 16383].all LaneOp.wf) = true := by
  decide +kernel

/-! ### Words of the lanes (Tables 04.4 to 04.8) -/

/-- The manual's worked encoding of R111, and words written out from the tables. -/
theorem test_lane_words :
    decodeLane 0x048C_5420_D9A0 = some (.fmtA .padd ⟨2, 1, 4, .load (.d 5) 0 .inc, .coef (.d 6) 3 .inc⟩) ∧
    decodeLane 0x8000_0000_0000 = some .end_ ∧ decodeLane 0x8290_0000_1234 = some (.ldi .p 2 0x001234) ∧
    decodeLane 0x84C5_0000_0000 = some (.shl 3 5) ∧ decodeLane 0x8820_0000_0123 = some (.bra .eq 0x123) ∧
    decodeLane 0x8E00_00E0_0040 = some (.loop (.inl 7) 0x40) ∧ decodeLane 0x91A0_0000_2050 = some (.post (.a 5) 0x2050) := by
  decide +kernel

/-- A reserved operation, a reserved bit, D = 1 on no store and a reserved condition decode to none (R111). -/
theorem test_reserved_lane_words :
    ([0x9A00_0000_0000, 0x8000_0000_0001, 0x0000_0000_2001, 0x89A0_0000_0000].all fun w => (decodeLane w).isNone) = true := by
  decide +kernel

/-! ### Steps, time, reset -/

/-- Front of a queue, an empty queue, both settings of MT_SRC, a servo correction in range, a field of a layout. -/
theorem meets_steps_and_time :
    ({ State.reset with pending := [.aliveToggle, .deadline] } : State).pending = .aliveToggle :: [.deadline] ∧
    State.reset.pending = [] ∧ State.reset.drain.time.running = false ∧ (awake 5).drain.time.running = true ∧
    State.reset.bit F.TIME_CFG_MT_SRC = false ∧ (State.reset.setBit F.TIME_CFG_MT_SRC true).bit F.TIME_CFG_MT_SRC = true ∧
    (awake 5).time.freq ≤ rateUnit ∧ 0 ≤ (awake 5).mtCorr.2.1 + (awake 5).mtCorr.1 ∧ F.SYS_PERIOD_TC ∈ Obj.sysPeriod.fields ∧
    nextIs (step (awake 5)) (fun t => t.now == 6 && t.time.osc == 1) = true := by
  decide +kernel

/-- A step takes the front command and leaves the rest. -/
theorem test_queue_in_order :
    nextIs (step { awake 5 with pending := [.refClkLoss, .deadline] }) (fun t => t.pending == [.deadline] && t.time.refLost) = true := by
  decide +kernel

/-! ### Lanes -/

/-- Lane pair 0 of unit A with its copy 0 in `l`. -/
def laneIs (l : Lane) : State := (inMode 2).setLane 0 0 0 l
def c0 : CopyId := ⟨0, 0, 0⟩
def task : TaskAlloc :=
  { kind := 3, axis := 0, pos := 0, phase := 0, xBase := 0, yBase := 0, inBase := 0x3C00, coefBase := 0, entry := 0, other := none }
def busy : Lane := { task := some task, xTop := 16, yTop := 16 }

/-- A copy that retires; ones that wait: idle, at a breakpoint; each undefined use of R140. -/
theorem meets_lane_instruction :
    (laneIs busy).retires c0 (.fmtA .zero ⟨0, 0, 0, .none, .none⟩) = true ∧ (laneIs busy).retires c0 .end_ = true ∧
    (laneIs busy).stdTask 0 3 = false ∧ (laneIs {}).copyRuns c0 = false ∧
    ((((laneIs busy).setFld F.SYS_MODE_MODE 5).setBit F.SEC_DEBUG_BREAK_EN true).atBreak c0) = true ∧
    (laneIs busy).atBreak c0 = false ∧
    (busy.fault .bankA (.shl 0 56) = some .shiftAbove55) ∧ stops (exec (.shl c0 0 56) (laneIs busy)) .shiftAbove55 = true ∧
    stops (exec (.ret c0 .al) (laneIs busy)) .retEmpty = true ∧
    stops (exec (.post c0 (.a 0) 0xFFFF) (laneIs busy)) .undefinedPort = true ∧
    stops (exec (.zero c0 ⟨0, 0, 0, .none, .store (.d 0) 0 .none false⟩) (laneIs busy)) .stateStoreWithoutDelta = true ∧
    stops (exec (.loop c0 (.inl 1) 0) (laneIs busy)) .loopEndBelow = true ∧
    stops (exec (.end_ c0) (laneIs { busy with pc := 0x2000 })) .pastProgramEnd = true := by
  decide +kernel

/-- The posts of a task's END: a task of no standard kind, and none where no period's record is held. -/
theorem meets_lane_end : ∃ ps t, (laneIs busy).stdPosts c0 .end_ = .ok (ps, t) := ⟨[], laneIs busy, rfl⟩

/-- The worked values of R118 (Table 04.9), of R119 and of R120. -/
theorem test_store_forms :
    storeForm 0x00123456800000 = (0x123457, false) ∧ storeForm 0xFFEDCBA9800000 = (0xEDCBAA, false) ∧
    storeForm 0x007FFFFF800000 = (0x7FFFFF, true) ∧ storeForm 0x00800000000000 = (0x7FFFFF, true) ∧
    storeForm 0xFF7FFFFF000000 = (0x800000, true) ∧ longWords 0xFFA57D86000123 = [0x000123, 0xA57D86, 0xFFFFFF] ∧
    (let l := ({ d := [(1, 1)], a := [(0, 0x7FFFFFFFFFFFFF)] } : Lane).run .bankA (.fmtA .addd ⟨0, 1, 0, .none, .none⟩)
     l.acc 0 = 0x80000000FFFFFF ∧ l.flagW = true ∧ l.flagS = true) := by
  decide +kernel

/-- The rings of R107's worked example: p3 from 0x0122, SPAN 5, STEP 3. -/
theorem test_ring_updates :
    ringNext 0x126 0x122 (3 * 2 ^ 14 + 5) 1 = 0x122 ∧ ringNext 0x122 0x122 (3 * 2 ^ 14 + 5) (-1) = 0x126 ∧
    updInc .step (3 * 2 ^ 14 + 5) = some 3 ∧ ringNext 0x3FFF 0 0 1 = 0 := by
  decide +kernel

/-- Operands of the arithmetic statements at their corners: operations with and without a result of the list, moves that load the
destination, divisors and radicands of either sign, shift counts, conditions, loops and delta buffers. -/
theorem meets_lane_results :
    loadsAcc (.load (.a 2) 0 .inc) 2 = true ∧ loadsAcc .none 2 = false ∧
    ([0, 1, 2].Pairwise fun i j => ({} : Lane).longAddr 0 i ≠ ({} : Lane).longAddr 0 j) ∧
    condHolds .al {} = true ∧ condHolds .eq {} = false ∧ ({ calls := [5] } : Lane).calls = 5 :: [] ∧
    (({ loops := [⟨1, 0, 2, 0⟩] } : Lane).loops = ⟨1, 0, 2, 0⟩ :: [] ∧ ({ loops := [⟨1, 0, 2, 0⟩] } : Lane).pc = 0) ∧
    ({ rest := [task] } : Lane).rest = task :: [] ∧ (LaneOp.end_).wf = true ∧ ({} : Lane).delta.length + 3 ≤ deltaCapacity := by
  decide +kernel

/-! ### Reset, supplies, clock, test access port -/

/-- RESET_N low and high, each range of R448, and what follows. -/
theorem meets_reset :
    same (exec (.resetNRise 999 true true true 0) State.reset) State.reset = true ∧
    stops (exec (.resetNRise 1000 true true true 0) State.reset) .resetPulse = true ∧
    stops (exec (.resetNRise 9999 true true true 0) State.reset) .resetPulse = true ∧
    nextIs (exec (.resetNRise 10000 true true true 0) State.reset) (fun t => t.fld F.SYS_BOOT_STAGE == 8 && t.time.running) = true ∧
    nextIs (exec (.resetNRise 10000 false true true 0) State.reset) (fun t => t.fld F.SYS_BOOT_STAGE == 15) = true ∧
    nextIs (exec .resetNLow (inMode 2)) (fun t => t.inModuleReset && t.groups == [] && t.fld F.SYS_BOOT_CAUSE == 1) = true := by
  decide +kernel

/-- The end of DRAM initialisation, awaited and not. -/
theorem meets_dram :
    (let s := { awake 5 with boot := { (awake 5).boot with waitDram := true } }
     s.boot.resetLow = false ∧ s.boot.dramReady = false ∧
     nextIs (exec (.dramInitDone 0) s) (fun t => t.fld F.SYS_BOOT_STAGE == 7 && t.bit F.HIF_STATUS_RINGS_READY) = true) ∧
    nextIs (exec (.dramInitDone 0) (awake 5)) (fun t => t.boot.dramReady && t.fld F.SYS_BOOT_STAGE != 7) = true := by
  decide +kernel

/-- Clock lost once; every group at rest after it; each unit's sag; a supply below range in reset and out of it. -/
theorem meets_clock_and_supplies :
    nextIs (exec .refClkLoss (awake 5)) (fun t => t.time.refLost && raised t K.HUB_CHECK 0) = true ∧
    (let s := { awake 5 with time := { (awake 5).time with refLost := true } }
     ({ s with time := { s.time with stopping := true } } : State).refreshGroups.firstRest = none ∧
     nextIs (exec .timeBaseStop s) (fun t => !t.time.running && t.now == 5) = true) ∧
    same (exec .timeBaseStop (awake 5)) (awake 5) = true ∧
    nextIs (exec (.vcoreSag 0) (awake 5)) (fun t => t.red.lostA && !t.red.lostB) = true ∧
    nextIs (exec (.vcoreSag 1) (awake 5)) (fun t => t.red.lostB) = true ∧
    same (exec .supplyBelowRange State.reset) State.reset = true ∧
    nextIs (exec .supplyBelowRange (inMode 2)) (fun t => t.inModuleReset && t.boot.stopped && t.host.cmds == []) = true ∧
    same (exec (.resetNRise 20000 true true true 0) { State.reset with boot := { State.reset.boot with stopped := true } })
      { State.reset with boot := { State.reset.boot with stopped := true } } = true := by
  decide +kernel

/-- A rising edge, a falling edge and SVC_TRST_N low. -/
theorem meets_tap :
    nextIs (exec (.svcTckEdge true false false true 0) State.reset) (fun t => t.tap.state == .idle && t.tap.tck) = true ∧
    nextIs (exec (.svcTckEdge false true false true 0) State.reset) (fun t => t.tap.state == .reset) = true ∧
    nextIs (exec (.svcTckEdge true false false false 0) State.reset) (fun t => t.tap.state == .reset && t.tap.ir == 15) = true := by
  decide +kernel

/-! ### Link, rings, registers -/

/-- The link trains, goes down, is reset; registers are reached. -/
theorem meets_link :
    (awake 5).reached = true ∧ State.reset.reached = false ∧ nextIs (exec .pcieLinkDown (awake 5)) (fun t => !t.host.linkUp && raised t K.HOST_LINK_DOWN 0) = true ∧
    (let s := { awake 5 with host := { (awake 5).host with linkUp := false } }
     nextIs (exec (.pcieLinkUp 3 2) s) (fun t => t.host.linkUp && t.fld F.HIF_LINK_SPEED == 4 && t.fld F.HIF_LINK_WIDTH == 4) = true) ∧
    nextIs (exec (.pePerstN 0 0) (awake 5)) (fun t => t.host.perst && !t.host.linkUp) = true ∧
    nextIs (exec .pePerstNRelease (awake 5)) (fun t => !t.host.perst) = true ∧
    nextIs (exec .hifMtimeLoRead (awake (7 * 2 ^ 32))) (fun t => t.host.mtimeHi == 7 && t.host.readData == some 0 && t.readBar0 0x14 == 7) = true ∧
    nextIs (exec .busMasterEnable (awake 5)) (fun t => t.host.busMaster) = true ∧
    nextIs (exec (.functionLevelReset 0 0) (inMode 2)) (fun t => !t.bit F.HIF_RING_CTRL_ENABLE 0 && t.bit F.HIF_STATUS_FLR_SEEN) = true := by
  decide +kernel

/-- Rings that are enabled and disabled, at the ends of SIZE_LOG2. -/
theorem meets_ring_set_up :
    nextIs (exec (.ringEnable (.cr 1) 4) idle) (fun t => t.fld F.HIF_RING_CTRL_SIZE_LOG2 1 == 4 && t.bit F.HIF_RING_CTRL_ENABLE 1) = true ∧
    nextIs (exec (.ringEnable (.bq 1) 12) idle) (fun t => t.head 17 == (0, false)) = true ∧
    nextIs (exec (.ringEnable .eq 12) idle) (fun t => t.tail 16 == (0, true)) = true ∧
    nextIs (exec (.ringEnable (.cq 3) 4) idle) (fun t => t.tail 3 == (0, true)) = true ∧
    stops (exec (.ringEnable (.cr 1) 0x24) idle) .reservedField = true ∧ stops (exec (.ringEnable (.cr 1) 3) idle) .ringSetup = true ∧
    stops (exec (.ringEnable (.cr 1) 13) idle) .ringSetup = true ∧
    nextIs (exec (.ringDisable (.cr 0) 4) (inMode 2)) (fun t => !t.bit F.HIF_RING_CTRL_ENABLE 0) = true ∧
    (let s := (idle.setBit F.HIF_CQ_CTRL_ENABLE true 16).setFld F.HIF_CQ_CTRL_SIZE_LOG2 4 16
     nextIs (exec (.ringDisable .eq 4) s) (fun t => !t.bit F.HIF_CQ_CTRL_ENABLE 16) = true) ∧
    nextIs (exec (.ringDisable (.cq 0) 4) idle) (fun t => !t.bit F.HIF_CQ_CTRL_ENABLE 0) = true ∧
    nextIs (exec (.ringDisable (.bq 0) 4) (served 16 0)) (fun t => !t.bit F.HIF_RING_CTRL_ENABLE 16) = true := by
  decide +kernel

/-- Doorbells up to the ring's size and beyond it, up to the hub's write position and beyond it; REARM of a halted ring. -/
theorem meets_doorbells :
    nextIs (exec (.crDoorbell 0 15 false) idle) (fun t => (t.ring 0).prod == 15) = true ∧
    nextIs (exec (.crDoorbell 0 0 true) idle) (fun t => (t.ring 0).prodPhase) = true ∧
    stops (exec (.crDoorbell 0 1 true) idle) .doorbellAhead = true ∧ same (exec (.crDoorbell 1 1 false) idle) idle = true ∧
    (let s := served 16 0
     nextIs (exec (.bqDoorbell 0 15 false) s) (fun t => (t.ring 16).prod == 15) = true ∧
     stops (exec (.bqDoorbell 0 16 false) s) .doorbellAhead = true) ∧
    (let s := [2, 16].foldl (fun s m => ((s.setBit F.HIF_CQ_CTRL_ENABLE true m).setFld F.HIF_CQ_CTRL_SIZE_LOG2 4 m).setBit
        F.HIF_CQ_TAIL_PHASE true m) idle
     nextIs (exec (.cqDoorbell 2 0 true) s) (fun t => (t.cq 2).consPhase) = true ∧ stops (exec (.cqDoorbell 2 1 true) s) .doorbellBeyond = true ∧
     nextIs (exec (.eqDoorbell 0 true) s) (fun t => (t.cq 16).consPhase) = true) ∧
    (let s := idle.setBit F.HIF_RING_STATE_HALTED true 0
     nextIs (exec (.rearm 0 0 false true) s) (fun t => !t.bit F.HIF_RING_STATE_HALTED 0) = true ∧ same (exec (.rearm 0 0 false false) s) s = true) := by
  decide +kernel

/-- Register accesses of every clause of the statement. -/
theorem meets_register_writes :
    stops (exec (.registerWrite .bar0 0 2 0) idle) .registerAccess = true ∧ stops (exec (.registerWrite .bar0 2 4 0) idle) .registerAccess = true ∧
    nextIs (exec (.registerWrite .bar0 0x1020 4 0x12345000) idle) (fun t => getBits (t.fld F.HIF_RING_BASE_ADDR 1) 0 32 == 0x12345000) = true ∧
    stops (exec (.registerWrite .bar0 0x1000 4 0) idle) .ringSetup = true ∧
    nextIs (exec (.registerWrite .bar0 0x120C 4 0x10005) idle) (fun t => t.obj .hifCqMod 0 0 == 0x10005) = true ∧
    nextIs (exec (.registerWrite .bar0 0x08 4 0x200) (idle.setBit F.HIF_STATUS_FLR_SEEN true)) (fun t => !t.bit F.HIF_STATUS_FLR_SEEN) = true ∧
    same (exec (.registerWrite .bar0 0x3FF0 4 1) idle) idle = true ∧
    nextIs (exec (.registerWrite .bar2 8 4 0x77) idle) (fun t => (t.host.msix.get 0 {}).data == 0x77) = true ∧
    stops (exec (.registerWrite .bar0 0x08 4 0x400) idle) .reservedField = true ∧
    nextIs (exec (.registerWrite .bar2 8 2 0x77) idle) (fun t => t.host.cmds == []) = true ∧
    nextIs (exec (.registerWrite .msixControl 0 4 0x8000) idle) (fun t => t.host.msixEnable) = true ∧
    nextIs (exec (.registerWrite .deviceControl 0 4 0x2020) idle) (fun t => t.host.maxPayload == 1 && t.host.maxRead == 2) = true ∧
    nextIs (exec (.registerWrite .linkControl 0 4 2) idle) (fun t => t.host.aspmL1) = true ∧
    nextIs (exec (.registerWrite .powerState 0 4 3) idle) (fun t => t.host.d3hot) = true ∧
    nextIs (exec (.registerWrite .command 0 4 0) idle) (fun t => !t.host.busMaster) = true := by
  decide +kernel

/-! ### Descriptors, interrupts, bulk transfers -/

/-- A NOP held in ring `r`. -/
def heldNop (r : Nat) (st : CmdStage) : Cmd := { ring := r, index := 0, phase := false, desc := { opcode := 1, objId := 0 }, stage := st }
def holding (s : State) (c : Cmd) : State := { s with host := { s.host with cmds := [c] } }

/-- A descriptor is fetched, refused, validated, found with a reserved field, and found with an opcode its ring does not take. -/
theorem meets_fetch_and_validate :
    idle.mayFetch 0 = true ∧ (awake 5).mayFetch 0 = false ∧
    nextIs (exec (.descriptorFetch 0 { opcode := 1, objId := 0 }) (idle.setFld F.HIF_RING_BASE_ADDR 0x4000 0))
      (fun t => t.head 0 == (1, false) && t.host.cmds.length == 1 && t.host.reads == [(0x4000, 64)]) = true ∧
    (let c := heldNop 0 .fetched
     (holding idle c).descError c [] none none = none ∧ descReserved c.desc 0 = false ∧
     nextIs (exec (.descriptorValidated 0 0 none none) (holding idle c)) (fun t => t.host.cmds.all fun x => x.stage == .valid && x.validAt == 1000000) = true) ∧
    (let c := { heldNop 0 .fetched with desc := { opcode := 1, objId := 0, param := 1 } }
     descReserved c.desc 0 = true ∧ stops (exec (.descriptorValidated 0 0 none none) (holding idle c)) .reservedField = true) ∧
    (let c := { heldNop 0 .fetched with desc := { opcode := 0xEE, objId := 0 } }
     (inMode 2).cqTakes 0 = true ∧
     nextIs (exec (.descriptorValidated 0 0 none none) (holding (inMode 2) c))
       (fun t => (t.ring 0).err && ended 0x80 t && t.host.cmds == [] && t.bit F.HIF_RING_STATE_HALTED 0) = true ∧
     (let v := (holding (inMode 2) c).setBit F.HIF_CQ_CTRL_ENABLE false 0
      nextIs (exec (.descriptorValidated 0 0 none none) v) (fun t => (t.ring 0).err && ended 0x80 t && t.host.cmds.length == 1) = true)) := by
  decide +kernel

/-- A valid NOP at the head of a ring in CONFIGURE, and at its turn on a bulk ring, with a completion ring and without. -/
theorem meets_apply :
    idle.applying = true ∧ idle.cqTakes 0 = true ∧
    nextIs (exec (.configureApply 0 0) (holding idle (heldNop 0 .valid)))
      (fun t => ended 0 t && t.host.cmds == [] && t.fld F.HIF_RING_APPLIED_NEXT 0 == 1) = true ∧
    (let s := holding (idle.setBit F.HIF_CQ_CTRL_ENABLE false 0) (heldNop 0 .valid)
     nextIs (exec (.configureApply 0 0) s) (fun t => ended 0 t && t.host.cmds.length == 1) = true) ∧
    chainAt (idle.waiting 0) = none ∧ same (exec (.configureApply 0 0) idle) idle = true ∧
    (let s := holding (served 17 0) (heldNop 17 .valid)
     s.served = true ∧ nextIs (exec (.bulkTransferDone 1) s) (fun t => ended 0 t && t.host.cmds == []) = true ∧
     nextIs (exec (.bulkTransferDone 1) (s.setBit F.HIF_CQ_CTRL_ENABLE false 0)) (fun t => ended 0 t && t.host.cmds.length == 1) = true) := by
  decide +kernel

/-- A vector that can signal and one that cannot. -/
theorem meets_interrupts :
    (let s := { idle.setFld F.HIF_CQ_MOD_TIME 1 0 with host := { idle.host with cqs := [(0, { unsignalled := 1, oldest := 999600 })] } }
     let w := s.until 1000000
     w.canSignal 0 = false ∧
     nextIs (exec (.msixModTimer 0) s) (fun t => (t.cq 0).unsignalled == 1 && (t.cq 0).due == some 0 && t.host.pba.testBit 0) = true ∧
     (let s1 := { s with host := { s.host with msixEnable := true, msix := [(0, { masked := false })] } }
      (s1.until 1000000).canSignal 0 = true ∧
      nextIs (exec (.msixModTimer 0) s1) (fun t => t.host.messages == [0] && (t.cq 0).unsignalled == 0) = true)) ∧
    (let s := { idle with host := { idle.host with
        pba := 8, msixEnable := true, msix := [(3, { masked := false })], cqs := [(5, { unsignalled := 2, due := some 3 })] } }
     nextIs (exec (.msixHeldMessage 3) s) (fun t => t.host.pba == 0 && t.host.messages == [3] && (t.cq 5).unsignalled == 0) = true ∧
     same (exec (.msixHeldMessage 2) s) s = true) := by
  decide +kernel

/-- NOP and OBJ_READ at their application, in a running period and in CONFIGURE; a source away from HEAD; a NOP of a bulk ring at its turn. -/
theorem meets_nop_and_read :
    (inMode 2).atApplication s0 (srcDesc s0 0x01 0) = true ∧ nextIs (exec (.nop (.inl s0)) (inMode 2)) (ended 0) = true ∧
    idle.atApplication s0 (srcDesc s0 0x01 0) = true ∧
    nextIs (exec (.nop (.inl s0)) idle) (fun t => ended 0 t && t.bit F.HIF_RING_APPLIED_VALID 0 && t.fld F.HIF_RING_APPLIED_NEXT 0 == 1) = true ∧
    (awake 5).atHead 0 0 false = false ∧ (served 16 0).atBulk 0 b0 (bulkDesc b0 0x01 0) = true ∧
    nextIs (exec (.nop (.inr (0, b0))) (served 16 0)) (fun t => ended 0 t && t.bit F.HIF_RING_APPLIED_VALID 16) = true ∧
    (awake 5).atHead 16 0 false = false ∧
    (inMode 2).atApplication s0 { srcDesc s0 0x03 0x0004 with length := 8 } = true ∧
    objOf 0x0004 = some .sysMode ∧ instOf? 0x0004 .sysMode = some 0 ∧
    nextIs (exec (.objRead s0 0x0004 0 8 0) (inMode 2)) (ended 0) = true ∧
    (inMode 2).atApplication s0 { srcDesc s0 0x03 0x3000 with length := 16 } = true ∧
    nextIs (exec (.objRead s0 0x3000 0 16 0) (inMode 2)) (fun t => ended 0 t && t.host.writes.length == 1) = true := by
  decide +kernel

/-! ### Command-ring descriptors -/

/-- A hold of ring 0's first entry. -/
def at0 (s : State) (d : Desc) (host : Nat := 0) : Bool := s.atApplication s0 d host

/-- Writes: one that is taken, a reserved bit, a mode that does not allow it, a fenced block. -/
theorem meets_obj_write :
    at0 (inMode 2) (wrDesc s0 0xA002 0 2 3) 3 = true ∧ objOf 0xA002 = some .fioDoCmd ∧ instOf? 0xA002 .fioDoCmd = some 0 ∧
    nextIs (exec (.objWrite s0 0xA002 0 2 3 0) (inMode 2)) (fun t => ended 0 t && t.fld F.FIO_DO_CMD_CMD == 3) = true ∧
    at0 (inMode 2) (wrDesc s0 0x8000 0 1 0x20) 0x20 = true ∧ stops (exec (.objWrite s0 0x8000 0 1 0x20 0) (inMode 2)) .reservedField = true ∧
    nextIs (exec (.objWrite s0 0x8000 0 1 3 0) (inMode 2)) (fun t => ended 6 t && t.fld F.TIME_CFG_MT_SRC == 0) = true ∧
    (let s := (inMode 2).setNth F.SYS_FENCE_CAN 1 true
     s.fenced (.can 1) = true ∧ nextIs (exec (.objWrite s0 0x9044 2 2 0 0) s) (ended 4) = true) ∧
    at0 idle (wrDesc s0 0x8000 0 1 3) 3 = true ∧
    nextIs (exec (.objWrite s0 0x8000 0 1 3 0) idle) (fun t => ended 0 t && t.fld F.TIME_CFG_MT_SRC == 1) = true ∧
    idle.time.slavePort = 3 ∧ ((List.range 3).all fun q => !idle.ptpPort q && (idle.eths q).portState != psMaster) = true := by
  decide +kernel

/-- ABORT with no target, of a descriptor of its own ring still to be fetched, of a held one of another ring, and of one that has ended. -/
theorem meets_abort :
    (let d := { srcDesc s0 0x04 0 with param := 5 * 2 ^ 16 }
     at0 (inMode 2) d = true ∧ nextIs (exec (.abort s0 0 5 false) (inMode 2)) (ended 3) = true) ∧
    (let s := { inMode 2 with host := { (inMode 2).host with rings := [(0, { prod := 9 })] } }
     nextIs (exec (.abort s0 0 5 false) s) (fun t => ended 2 t && t.host.early.length == 1) = true) ∧
    (let s := holding ((inMode 2).setBit F.HIF_RING_CTRL_ENABLE true 1) { heldNop 1 .valid with index := 5 }
     nextIs (exec (.abort s0 1 5 false) s) (fun t => running t && t.host.cmds.any (·.withdrawn.isSome)) = true) ∧
    (let s := holding ((inMode 2).setBit F.HIF_RING_CTRL_ENABLE true 1) { heldNop 1 .applied with index := 5, outcome := some (refused 1) }
     nextIs (exec (.abort s0 1 5 false) s) (ended 3) = true) := by
  decide +kernel

/-- SWAP with both units loaded and the mirror whole, and outside the loop modes. -/
theorem meets_swap :
    (let s := { inMode 2 with red := { (inMode 2).red with loadedA := true, loadedB := true, mirrorOk := true } }
     let b := s.begun s0 (srcDesc s0 0x05 0xD002)
     at0 s (srcDesc s0 0x05 0xD002) = true ∧ b.loopMode = true ∧ b.standbyReady = true ∧ b.offersEnough = true ∧ b.formatsAgree = true ∧
     b.unitBusy = false ∧ b.overHalf = false ∧ b.red.mirrorOk = true ∧
     nextIs (exec (.swap s0) s) (fun t => ended 0 t && t.red.swap.isSome) = true) ∧
    nextIs (exec (.swap s0) (inMode 5)) (fun t => ended 6 t && t.red.swap.isNone) = true := by
  decide +kernel

/-- A latched source that is not live, and a live one. -/
theorem meets_fault_ack :
    (let src : Fin 65536 := 128
     let s := { inMode 2 with flt := { (inMode 2).flt with latched := [⟨128, 1, false, false, 0, 0, 0⟩] } }
     kindOf 128 ≠ K.HUB_CHECK ∧ s.isLive 128 = false ∧
     nextIs (exec (.faultAck s0 src false false) s) (fun t => ended 0 t && t.flt.latched == []) = true ∧
     (let v := { s with flt := { s.flt with live := [128] } }
      nextIs (exec (.faultAck s0 src false false) v) (fun t => ended 7 t && t.flt == v.flt) = true)) := by
  decide +kernel

/-- An axis with an outer task, without one, and a mode without motion. -/
def axis0 (m : Nat) : State :=
  [(F.AXIS_CFG_TYPE, 1, 0), (F.AXIS_CFG_OUTER, 1, 0)].foldl (fun s e => s.setFld e.1 e.2.1 e.2.2) (inMode m)

theorem meets_motion :
    (axis0 2).hasOuter 0 = true ∧ ((axis0 2).hubAx 0).takeNum.isSome = true ∧
    nextIs (exec (.movePos s0 0 1000 50 2) (axis0 2)) (fun t => running t && (t.hubAx 0).entries.map (·.target) == [1000]) = true ∧
    nextIs (exec (.moveVel s0 0 50) (axis0 2)) (fun t => running t && (t.hubAx 0).entries.map (·.speed) == [50]) = true ∧
    nextIs (exec (.stop s0 0) (axis0 2)) running = true ∧ nextIs (exec (.quickStop s0 0) (axis0 2)) running = true ∧
    nextIs (exec (.resume s0 0) (axis0 2)) running = true ∧
    nextIs (exec (.stop s0 0) (axis0 5)) (fun t => ended 6 t && t.motion == (axis0 5).motion) = true ∧
    nextIs (exec (.stop s0 0) (inMode 2)) (fun t => ended 7 t) = true := by
  decide +kernel

theorem meets_engagement :
    nextIs (exec (.gearEngage s0 0 3 0 100 false 0 0) (axis0 2)) (fun t => running t && (t.hubAx 0).entries.all (·.bad == 4)) = true ∧
    nextIs (exec (.gearEngage s0 0 3 2 100 true 1 7) (axis0 2)) (fun t => (t.hubAx 0).entries.map (·.engage) == [some (.gear 3 2 100 true 1 7)]) = true ∧
    nextIs (exec (.disengage s0 0 true) (axis0 2)) (fun t => (t.hubAx 0).entries.map (·.mode) == [1]) = true ∧
    (let s := [(F.GEAR_MASTER_KIND, 1, 0), (F.CAM_PROF_N, 4, 0), (F.CAM_PROF_SPAN, 1, 0)].foldl (fun s e => s.setFld e.1 e.2.1 e.2.2) (axis0 2)
     s.profValid 0 = true ∧ s.masterKind 0 ≠ 0 ∧
     nextIs (exec (.camEngage s0 0 0 false true 5 9 0) s) (fun t => running t && ((t.hubAx 0).cam.map (·.xOrg)) == some 9) = true) := by
  decide +kernel

/-- A segment that fits a group of one member, and one that does not. -/
theorem meets_caravan :
    (let s := [(F.CARAVAN_CFG_MEMBER, 2 ^ 48 - 64, 0)].foldl (fun s e => s.setFld e.1 e.2.1 e.2.2) (axis0 2)
     let n := (s.members 0).length
     n = 1 ∧ nextIs (exec (.caravanSeg s0 0 40 (Fin.ofNat _ (5 * 2 ^ 32))) s) (fun t => running t && ((t.caravan 0).queue.map (·.len)) == [5]) = true ∧
     nextIs (exec (.caravanSeg s0 0 24 (Fin.ofNat _ (5 * 2 ^ 32))) s) (ended 7) = true ∧
     nextIs (exec (.caravanSeg s0 0 40 0) s) (ended 7) = true ∧
     stops (exec (.caravanSeg s0 0 40 (Fin.ofNat _ (5 * 2 ^ 32 + 2 ^ 8))) s) .reservedField = true) := by
  decide +kernel

/-- Latch and compare units: armed, refused by mode and fence; edges before, at and after the capture; a pulse. -/
theorem meets_latch_and_compare :
    (let s := (inMode 2).setFld F.LATCH_CFG_EDGE 1 7
     nextIs (exec (.latchArm s0 7) s) (fun t => running t && (t.latchUnit 7).armed) = true ∧
     nextIs (exec (.latchArm s0 7) ((inMode 5).setFld F.LATCH_CFG_EDGE 1 7)) (ended 6) = true ∧
     nextIs (exec (.latchArm s0 7) (s.setNth F.SYS_FENCE_FB 0 true)) (ended 4) = true ∧
     (let v := (s.setFld F.LATCH_CFG_FILTER 40 7).setLatchUnit 7 { armed := true, since := 999000 }
      v.per.measured ≠ some v.now ∧
      nextIs (exec (.latchEdge ⟨7, 40⟩ true) v) (fun t => (t.latchUnit 7).caps.map (·.time) == [999960] && !(t.latchUnit 7).armed) = true ∧
      same (exec (.latchEdge ⟨7, 39⟩ true) v) v = true ∧ same (exec (.latchEdge ⟨7, 40⟩ false) v) v = true ∧
      (let w := v.setLatchUnit 7 { armed := true, since := 999961 }
       same (exec (.latchEdge ⟨7, 40⟩ true) w) w = true) ∧
      nextIs (exec (.latchEdge ⟨7, 40⟩ true) (v.setLatchUnit 7 { armed := true, since := 999000, abort := some (9, 999960) }))
        (fun t => !(t.latchUnit 7).armed && (t.latchUnit 7).caps == []) = true) ∧
     (let v := s.setLatchUnit 7 { after := true }
      nextIs (exec (.latchEdge ⟨7, 0⟩ false) v) (fun t => t.fld F.LATCH_RESULT_EXTRA 7 == 1) = true)) ∧
    nextIs (exec (.compareArm s0 15 5 1 (Fin.ofNat _ 65535) 3) (inMode 3)) (fun t => running t && t.fld F.CMP_STATUS_REMAIN 15 == 65535) = true ∧
    (let s := (inMode 2).setCmpUnit 15 { pulse := some 1000000 }
     nextIs (exec (.comparePulseEnd 15) s) (fun t => (t.cmpUnit 15).pulse == none && t.now == 1000400) = true ∧
     same (exec (.comparePulseEnd 0) s) s = true) := by
  decide +kernel

/-- The survey recording and frozen; ATTEST with and without the identity key. -/
theorem meets_freeze_and_attest :
    at0 (inMode 2) { srcDesc s0 0x24 0xC002 with param := 1 } = true ∧
    nextIs (exec (.surveyFreeze s0 true) (inMode 2)) (fun t => ended 0 t && t.surv.state == 1 && t.surv.trigSeq == 7) = true ∧
    nextIs (exec (.surveyFreeze s0 true) { inMode 2 with surv := { (inMode 2).surv with state := 2 } }) (ended 7) = true ∧
    nextIs (exec (.attest s0 5 0) (inMode 2)) (ended 7) = true ∧
    at0 { inMode 2 with sec := { (inMode 2).sec with priv := some 1 } } { srcDesc s0 0x28 0xE000 with length := 32, inline := 5 } = true ∧
    (inMode 2).sec.opened = false := by
  decide +kernel

/-! ### Bulk descriptors -/

/-- Each bulk descriptor at its turn. -/
theorem meets_bulk :
    (let s := served 16 0
     s.host.cmds = [] ∧ s.genOverflow = false ∧
     s.atBulk 0 b0 (bulkIn b0 0x40 0 0 64 false) 1 = true ∧ nextIs (exec (.imageWrite b0 0 0 64 false 1) s) (fun t => t.bit F.HIF_RING_APPLIED_VALID 16) = true ∧
     s.atBulk 0 b0 (bulkIn b0 0x41 0x6002 32767 4 false) 9 = true ∧
     nextIs (exec (.tableWrite b0 false 32767 4 false 9) s) (fun t => ended 0 t && t.motion.camStage.get 32767 0 == 9) = true ∧
     stops (exec (.tableWrite b0 false 32767 4 false (2 ^ 24)) s) .reservedField = true ∧
     s.atBulk 0 b0 (bulkIn b0 0x41 0xC005 0 4 false) 9 = true ∧ nextIs (exec (.tableWrite b0 true 0 4 false 9) s) (ended 0) = true) ∧
    nextIs (exec (.tableWrite b0 true 0 4 false 9) (served 16 3)) (ended 6) = true ∧
    (let s := served 17 0
     s.atBulk 1 b0 { bulkDesc b0 0x48 0xC003 with length := 64 } = true ∧ nextIs (exec (.surveyRead b0 0 64 0) s) (fun t => t.bit F.HIF_RING_APPLIED_VALID 17) = true ∧
     s.atBulk 1 b0 { bulkDesc b0 0x49 0xB006 with param := 16383, length := 64 } = true ∧
     nextIs (exec (.logRead b0 16383 64 0) s) (fun t => ended 0 t && t.host.writes.length == 2) = true ∧
     nextIs (exec (.logRead b0 0 63 0) s) (ended 7) = true) := by
  decide +kernel

/-! ### Object actions -/

/-- Mode requests refused, taken between modes, and out of and into CONFIGURE. -/
theorem meets_mode_request :
    at0 (inMode 2) (wrDesc s0 0x0004 0 1 0x30) 0x30 = true ∧
    nextIs (exec (.modeRequest s0 3) (inMode 2)) (fun t => ended 0 t && t.mode == .hold && t.fld F.SYS_MODE_PREV == 2) = true ∧
    nextIs (exec (.modeRequest s0 4) (inMode 2)) (fun t => ended 5 t && t.fld F.SYS_MODE_REFUSAL == 1 && t.mode == .run) = true ∧
    (let b := (inMode 2).begun s0 (wrDesc s0 0x0004 0 1 0x00) 0
     b.modeRefusal 0 = none ∨ b.modeRefusal 3 = none) ∧
    nextIs (exec (.modeRequest s0 0) (inMode 3)) (fun t => t.mode == .configure && !t.per.running) = true ∧
    (let s := { idle with red := { idle.red with loadedA := true, map := [(0, 0)] }, sec := { idle.sec with erased := true } }
     (s.begun s0 (wrDesc s0 0x0004 0 1 0x50) 0x50).modeRefusal 5 = none ∧
     nextIs (exec (.modeRequest s0 5) s) (fun t => running t && t.per.departing == some 5 && t.per.next % 6250 == 0 && 1400000 ≤ t.per.next) = true) := by
  decide +kernel

/-- Resets of each block, refused for the active unit and an active pair; the module reset; the end of a reset. -/
theorem meets_block_resets :
    at0 (inMode 2) (wrDesc s0 0x0007 0 2 (resetData 1 31 0 false)) (resetData 1 31 0 false) = true ∧
    nextIs (exec (.resetFbChannel s0 31) (inMode 2)) (fun t => t.fenced (.fb 31) && running t) = true ∧
    nextIs (exec (.resetPwmGroup s0 31) (inMode 2)) (fun t => t.bit F.PWMG_STATUS_FENCED 31) = true ∧
    nextIs (exec (.resetCanChannel s0 3) (inMode 2)) (fun t => t.fenced (.can 3)) = true ∧
    nextIs (exec (.resetEthPort s0 2) (inMode 2)) (fun t => t.fenced (.eth 2)) = true ∧
    (inMode 2).pairActive 1 11 = false ∧ nextIs (exec (.resetLanePair s0 1 11) (inMode 2)) (fun t => t.fenced (.lane 1 11)) = true ∧
    (let s := { inMode 2 with red := { (inMode 2).red with map := [(0, 3)], alloc := [task] } }
     s.pairActive 0 3 = true ∧ nextIs (exec (.resetLanePair s0 0 3) s) (ended 7) = true) ∧
    nextIs (exec (.resetUnit s0 1 false) (inMode 2)) (fun t => t.fenced (.unit 1)) = true ∧ (inMode 2).activeUnit = 0 ∧
    nextIs (exec (.resetUnit s0 0 false) (inMode 2)) (ended 7) = true ∧
    nextIs (exec (.resetModule s0 true true true 0) (inMode 2)) (fun t => t.fld F.SYS_BOOT_CAUSE == 2 && t.mode == .configure) = true ∧
    (let s := { (inMode 2).setNth F.SYS_FENCE_FB 31 true with boot := { (inMode 2).boot with jobs := [{ block := .fb 31, kind := 1 }] } }
     s.fenced (.fb 31) = true ∧ nextIs (exec (.fenceLowered (.fb 31) true 0) s) (fun t => !t.fenced (.fb 31) && t.boot.jobs == []) = true ∧
     same (exec (.fenceLowered (.fb 30) true 0) s) s = true) ∧
    (let s := (((inMode 2).setNth F.SYS_FENCE_CAN 3 true).setBit F.CAN_CFG_EN true 3)
     let v := { s with boot := { s.boot with jobs := [{ block := .can 3, kind := 3 }] } }
     (v.cans 3).busState = 3 ∧ same (exec (.fenceLowered (.can 3) true 0) v) v = true) ∧
    (let s := (((inMode 2).setNth F.SYS_FENCE_FB 31 true).setFld F.FB_CFG_MODE 3 31)
     let v := { s with boot := { s.boot with jobs := [{ block := .fb 31, kind := 1 }] },
                       fb := [(31, { frame := some { start := 999000, sample := 999000, cmd := 1 } })] }
     v.fbSerial 31 = true ∧ same (exec (.fenceLowered (.fb 31) true 0) v) v = true) := by
  decide +kernel

/-- Each clear at its application; FIRST_CLR also with ALIVE_EN changed in HOLD. -/
theorem meets_clears :
    nextIs (exec (.slackClr s0 23) (inMode 2)) (fun t => ended 0 t && t.fld F.SYS_SLACK_MINSLACK 0 23 == 0x7FFFF) = true ∧
    nextIs (exec (.laneClr s0 23) ((inMode 2).setFld F.ENG_LANE_PARITY 5 23)) (fun t => ended 0 t && t.fld F.ENG_LANE_PARITY 23 == 0) = true ∧
    nextIs (exec (.csStatusClr s0 95) (inMode 2)) (ended 0) = true ∧ nextIs (exec (.timeStatusClr s0) (inMode 2)) (ended 0) = true ∧
    nextIs (exec (.ethStatusClr s0 2) (inMode 2)) (ended 0) = true ∧ nextIs (exec (.cycRxClr s0 15) (inMode 2)) (ended 0) = true ∧
    nextIs (exec (.canStatusClr s0 3) (inMode 2)) (ended 0) = true ∧ nextIs (exec (.fioStatusClr s0) (inMode 2)) (ended 0) = true ∧
    nextIs (exec (.survClr s0) (inMode 2)) (ended 0) = true ∧ nextIs (exec (.takeoversClr s0) (inMode 2)) (ended 0) = true ∧
    getBits ((inMode 2).obj .fltCfg 0 0) 16 7 < 128 ∧
    nextIs (exec (.firstClr s0 0) ((inMode 3).setBit F.FLT_FIRST_VALID true)) (fun t => ended 0 t && !t.bit F.FLT_FIRST_VALID) = true := by
  decide +kernel

/-- The bank in force and the other; identical and differing programs; cam points up to the store's end and beyond it. -/
theorem meets_banks :
    nextIs (exec (.bankSwap s0) (inMode 2)) (fun t => ended 0 t && t.bit F.ENG_BANK_IN_FORCE) = true ∧
    nextIs (exec (.coefWrite s0 false 4095 [5]) (inMode 2)) (ended 7) = true ∧
    nextIs (exec (.coefWrite s0 true 4095 [5]) (inMode 2)) (fun t => ended 0 t && t.fld F.ENG_COEF_B_WORD 0 4095 == 5) = true ∧
    nextIs (exec (.coefWrite s0 true 4095 [5]) ((inMode 2).setBit F.ENG_IDENT_DIFFER true)) (ended 7) = true ∧
    ((List.range 40).all fun a => (inMode 2).camsOf a == []) = true ∧
    (let s := { inMode 2 with motion := { (inMode 2).motion with camStage := [(32767, 9)] } }
     nextIs (exec (.camCommit s0 32767 1) s) (fun t => ended 0 t && t.motion.camStore.get 32767 0 == 9) = true ∧
     nextIs (exec (.camCommit s0 32767 0) s) (fun t => ended 0 t && t.motion.camStore.get 32767 0 == 9) = true ∧
     nextIs (exec (.camCommit s0 32767 2) s) (ended 7) = true) := by
  decide +kernel

/-- PWMG.CTRL and PWMG.AUX of a group, a trip whose cause is active, and PWM.TRIPIN. -/
theorem meets_pwm_controls :
    nextIs (exec (.pwmEn s0 31 true) (inMode 2)) (fun t => ended 0 t && t.bit F.PWMG_CTRL_EN 31) = true ∧
    (let s := (((inMode 2).setBit F.PWMG_STATUS_TRIPPED true 31).setNth F.PWMG_CFG_TRIP_MASK 31 true 31)
     nextIs (exec (.tripClr s0 31 false) s) (fun t => ended 0 t && !t.bit F.PWMG_STATUS_TRIPPED 31 && t.fld F.PWMG_STATUS_TRIP_SRC 31 == 0xFF) = true ∧
     (s.setNth F.PWM_TRIPIN_LIVE 31 true).tripCause 31 = true ∧
     nextIs (exec (.tripClr s0 31 false) (s.setNth F.PWM_TRIPIN_LIVE 31 true)) (ended 7) = true) ∧
    nextIs (exec (.pwmCntClr s0 31 false) (inMode 2)) (ended 0) = true ∧
    at0 (inMode 2) (wrDesc s0 0x27C1 0 14 5) 5 = true ∧ nextIs (exec (.pwmAuxWrite s0 31 5) (inMode 2)) (fun t => ended 0 t && t.obj .pwmgAux 31 0 % 2 ^ 112 == 5) = true ∧
    at0 idle (wrDesc s0 0x2800 0 5 (3 + 40 * 2 ^ 32)) = true ∧
    nextIs (exec (.tripinWrite s0 3 40 1) idle) (fun t => t.nth F.PWM_TRIPIN_LIVE 0 && !t.nth F.PWM_TRIPIN_LIVE 1 && t.nth F.PWM_TRIPIN_LIVE 2) = true := by
  decide +kernel

/-- FB.CTRL of a channel that is armed, not homed, of another mode, and of the mode each action needs. -/
theorem meets_feedback_controls :
    nextIs (exec (.preset s0 31 0 0 77) (inMode 3)) (fun t => ended 0 t && (t.fbs 31).count == 77) = true ∧
    nextIs (exec (.preset s0 31 0 0 77) (inMode 2)) (ended 7) = true ∧
    (let s := ((inMode 3).setLatchUnit 0 { armed := true }).setFld F.LATCH_CFG_FB 31 0
     s.unitArmedOn 31 = true ∧ nextIs (exec (.preset s0 31 0 0 77) s) (ended 7) = true) ∧
    nextIs (exec (.armHome s0 31 0) (inMode 2)) (ended 7) = true ∧
    nextIs (exec (.armHome s0 31 0) ((inMode 2).setFld F.FB_CFG_REREF 2 31)) (fun t => ended 0 t && (t.fbs 31).homeArmed == some 1000000) = true ∧
    nextIs (exec (.fbCntClr s0 31 0) (inMode 2)) (ended 0) = true ∧ nextIs (exec (.serGo s0 31 2 5) (inMode 2)) (ended 7) = true ∧
    (let s := (inMode 2).setFld F.FB_CFG_MODE 4 31
     nextIs (exec (.serGo s0 31 3 5) s) (fun t => ended 0 t && (t.fbs 31).go == some (3, 5)) = true ∧
     stops (exec (.serGo s0 31 1 5) s) .reservedCode = true) := by
  decide +kernel

/-- Writes in CONFIGURE, with and without a reserved bit; a release, at a fenced channel too. -/
theorem meets_configuration_writes :
    nextIs (exec (.fbCfgWrite s0 31 false 1 true false true) idle) (fun t => t.fld F.FB_CFG_MODE 31 == 1 && (t.fbs 31).levels == 5) = true ∧
    stops (exec (.fbCfgWrite s0 31 false (Fin.ofNat _ (2 ^ 127)) true false true) idle) .reservedField = true ∧
    nextIs (exec (.fbCfgWrite s0 31 true 0 true false true) idle) (fun t => t.fld F.FB_CFG_MODE 31 == 0) = true ∧
    nextIs (exec (.emuCfgWrite s0 7 1) idle) (fun t => t.fld F.EMU_CFG_MODE 7 == 1 && (t.emus 7).counter == 0) = true ∧
    stops (exec (.emuCfgWrite s0 7 (Fin.ofNat _ (2 ^ 7))) idle) .reservedField = true ∧
    nextIs (exec (.fioDiCfgWrite s0 31 9 true false) idle) (fun t => t.fld F.FIO_DI_CFG_DEB 0 31 == 9 && t.bit F.FIO_DI_CFG_PULSED 0 31) = true ∧
    nextIs (exec (.canRxqRelease s0 3 255 true) (inMode 2)) (fun t => ended 0 t && t.fld F.CAN_RXCTL_CONS 3 == 255) = true ∧
    nextIs (exec (.canRxqRelease s0 3 255 true) ((inMode 2).setNth F.SYS_FENCE_CAN 3 true)) (ended 4) = true := by
  decide +kernel

/-- FORCE of the last instance of a kind and of the one after it; MIGRATE with what it needs and outside the loop modes; UNRETIRE. -/
theorem meets_force_migrate_unretire :
    (kindRow K.TRIP_INPUT).map (·.instances) = some 32 ∧
    nextIs (exec (.force s0 (Fin.ofNat _ K.TRIP_INPUT) 31 true) (inMode 2)) (fun t => ended 0 t && raised t K.TRIP_INPUT 31) = true ∧
    nextIs (exec (.force s0 (Fin.ofNat _ K.TRIP_INPUT) 31 false) (inMode 2)) (fun t => ended 0 t && t.msgs == []) = true ∧
    nextIs (exec (.force s0 (Fin.ofNat _ K.TRIP_INPUT) 32 true) (inMode 2)) (ended 7) = true ∧
    (let s := { inMode 2 with red := { (inMode 2).red with map := [(0, 3)], alloc := [task], mirrorOk := true, loadedA := true } }
     s.spareLane.isSome = true ∧ s.unitBusy = false ∧ s.posOf s.activeUnit 3 = some 0 ∧ s.tasksAt 0 ≠ [] ∧
     nextIs (exec (.migrate s0 3) s) (fun t => ended 0 t && t.red.migrate.map (·.source) == some 3) = true) ∧
    nextIs (exec (.migrate s0 3) (inMode 5)) (fun t => ended 6 t && t.red.migrate.isNone) = true ∧
    (let s := { idle with red := { idle.red with retiredB := 2 ^ 11 + 1 } }
     nextIs (exec (.unretire s0 1 11) s) (fun t => t.red.retiredB == 1) = true) ∧
    nextIs (exec (.unretire s0 1 11) (inMode 2)) (ended 6) = true := by
  decide +kernel

/-- UNFREEZE; an export with and without a key, and of a reserved KIND; a replay with nothing that stands. -/
theorem meets_survey_actions :
    nextIs (exec (.unfreeze s0) { inMode 2 with surv := { (inMode 2).surv with state := 2 } }) (fun t => ended 0 t && t.surv.state == 0) = true ∧
    nextIs (exec (.exportSetup s0 0 false 0 0 0) (inMode 2)) (fun t => t.fld F.SURV_EXPORT_KIND == 0) = true ∧
    nextIs (exec (.exportSetup s0 0 true 0 0 0) (inMode 2)) (fun t => ended 7 t && t.surv.export_.isNone) = true ∧
    stops (exec (.exportSetup s0 3 false 0 0 0) (inMode 2)) .reservedCode = true ∧
    at0 idle (wrDesc s0 0xC004 0 16 (2 ^ 64)) (2 ^ 64) = true ∧
    nextIs (exec (.replayLoad s0 false 0 1 0) idle) (fun t => t.surv.replay.isNone) = true := by
  decide +kernel

/-- Keys: a wrong CODE, the commands in CONFIGURE, and the ends of generation and erasure. -/
theorem meets_keys :
    nextIs (exec (.genId s0 0) (inMode 2)) (ended 7) = true ∧ nextIs (exec (.open_ s0 0) (inMode 2)) (ended 7) = true ∧
    nextIs (exec (.logErase s0 0) (inMode 2)) (ended 7) = true ∧
    nextIs (exec (.genId s0 0xA5C3) idle) (fun t => running t && t.sec.genId.length == 1) = true ∧
    nextIs (exec (.open_ s0 0xA5C3) idle) (fun t => t.sec.opened && raised t K.SERVICE_OPEN 0) = true ∧
    (let s := (idle.setBit F.SEC_ID_PRESENT true).setBit F.SEC_CFGKEY_PRESENT true
     nextIs (exec (.logErase s0 0xA5C3) s) (fun t => t.fld F.FLT_LOG_NEXT == 1) = true) ∧
    nextIs (exec (.cfgkeyWrite s0 5 9) idle) (fun t => t.bit F.SEC_CFGKEY_PRESENT && t.fld F.SEC_CFGKEY_KEY_ID == 9) = true ∧
    nextIs (exec (.cfgkeyWrite s0 5 0) idle) (fun t => !t.bit F.SEC_CFGKEY_PRESENT) = true ∧
    (let s := { idle with sec := { idle.sec with genId := [(0, 0, false)] } }
     s.sec.genId ≠ [] ∧ s.sec.opened = false ∧ nextIs (exec .keyGenDone s) (fun _ => true) = true) ∧
    (let s := { idle with sec := { idle.sec with opening := [(0, 0, false)], priv := some 3, opened := true } }
     nextIs (exec .eraseDone s) (fun t => t.sec.priv == none && t.sec.erased) = true) ∧
    same (exec .keyGenDone idle) idle = true ∧ same (exec .eraseDone idle) idle = true := by
  decide +kernel

/-- A pair halted and not, with an instruction to step over; reads and writes of lane memory. -/
theorem meets_service :
    nextIs (exec (.halt s0 3 true) (inMode 5)) (fun t => ended 0 t && t.sec.halted == 8 && (t.lane 0 3 1).halted) = true ∧
    (let l : Lane := { busy with halted := true, prog := [(0, 0x8290_0000_1234)] }
     let s := { ((inMode 5).setLane 0 3 0 l).setLane 0 3 1 l with sec := { (inMode 5).sec with halted := 8 } }
     s.lane 0 3 0 = s.lane 0 3 1 ∧ decodeLane ((s.lane 0 3 0).prog.get 0 0).toNat = some (.ldi .p 2 0x1234) ∧
     nextIs (exec (.step s0 3 false) s) (fun t => ended 0 t && (t.lane 0 3 0).ptr 2 == 0x1234 && (t.lane 0 3 1).pc == 1) = true ∧
     nextIs (exec (.debugResume s0 3 false) s) (fun t => ended 0 t && t.sec.resume == 8) = true ∧
     (let v := s.setFld F.SEC_DEBUG_LANE 3
      v.debugHalted = true ∧ nextIs (exec (.lanememWrite s0 1 0x3FFF 0 4 7) v) (fun t => ended 0 t && (t.lane 0 3 0).x.get 0x3FFF 0 == 7) = true ∧
      nextIs (exec (.lanememRead s0 1 0x3FFF false 0 4 0) v) (ended 0) = true)) ∧
    (let s := (inMode 5).setNth F.SYS_FENCE_LANE_A 3 true
     s.laneFenced 3 = true ∧ nextIs (exec (.halt s0 3 true) s) (fun t => ended 4 t && t.sec.halted == 0) = true ∧
     nextIs (exec (.lanememWrite s0 1 0 0 4 7) (s.setFld F.SEC_DEBUG_LANE 3)) (ended 4) = true) ∧
    (inMode 5).debugHalted = false ∧ nextIs (exec (.lanememWrite s0 1 0 0 4 7) (inMode 5)) (ended 7) = true ∧
    nextIs (exec (.step s0 3 false) (inMode 5)) (ended 0) = true := by
  decide +kernel

/-! ### Periods, cairns and pairs -/

/-- A running period whose instants are ahead and behind; its open application step; no period. -/
theorem meets_periods :
    nextIs (exec .midPeriodTransfer (later 2)) (·.per.midDone) = true ∧ nextIs (exec .deadline (later 2)) (·.per.deadlineDone) = true ∧
    nextIs (exec .measurementInstant (later 2)) (fun t => t.per.measured == some 1004250 && t.flt.interval == 1) = true ∧
    (let s := { later 2 with per := { (later 2).per with midDone := true, deadlineDone := true, measured := some 1004250 } }
     same (exec .midPeriodTransfer s) s = true ∧ same (exec .deadline s) s = true ∧ same (exec .measurementInstant s) s = true) ∧
    (later 2).host.cmds = [] ∧ (later 2).per.seq ≠ 2 ^ 32 - 1 ∧ (later 2).per.running = true ∧ (later 2).time.running = true ∧
    (later 2).per.step = none ∧ (inMode 2).per.step.isSome = true ∧
    nextIs (exec (.boundary [] false) (inMode 2)) (fun t => t.per == (later 2).per) = true ∧
    nextIs (exec (.boundary [] false) (later 2)) (fun t => t.per.t0 == 1004250 && t.per.seq == 8 && t.per.count == 9) = true ∧
    same (exec (.boundary [] false) idle) idle = true := by
  decide +kernel

/-- A departure from CONFIGURE. -/
theorem meets_departure :
    (let s := { idle with per := { idle.per with departing := some 2, next := 1406250 } }
     s.per.running = false ∧ s.per.step = none ∧ s.time.running = true ∧ s.per.departing = some 2 ∧ s.host.cmds = [] ∧
     s.surv.epoch ≠ 2 ^ 32 - 1 ∧ nextIs (exec (.boundary [] false) s) (fun t => t.per.seq == 0 && t.per.running && t.mode == .run) = true) := by
  decide +kernel

/-- The record of period 8 with no position, and its cairn, posted in whole. -/
def record8 : HeadRec :=
  { count := 8, t0 := 998000, words := [], areas := []
    body := { swapHere := false, takeHere := false, unitB := false, bankB := false, mode := 2, phase := 0, seq := 7, epoch := 1, mtime := 998000,
              prog := 0, late := 0, mapGen := 0, commands := [], m := 0, changes := [], fence := 0, digest := [], isSealed := false } }
def cairn8 : CairnSt := { count := 8, seq := 7 }
def sealing : State :=
  { inMode 2 with red := { (inMode 2).red with cairns := [(0, cairn8)], head := [record8], sealedCount := 7, mirrorCount := 7 } }

/-- A cairn posted in whole; none. -/
theorem meets_cairns :
    sealing.cairnOf 8 = some (0, cairn8) ∧ sealing.headOf 8 = some record8 ∧ sealing.surv.bbDue = false ∧
    sealing.cairnWhole record8 cairn8 = true ∧ nextIs (exec .cairnSeal sealing) (fun t => t.red.sealedCount == 8 && t.red.sealedSeq == 7) = true ∧
    same (exec .cairnSeal (inMode 2)) (inMode 2) = true := by
  decide +kernel

/-- A cairn with a position to come is not sealed. -/
theorem meets_cairn_in_part :
    (let h := { record8 with areas := [⟨0, []⟩] }
     let s := { sealing with red := { sealing.red with head := [h], map := [(0, 3)] } }
     s.cairnWhole h cairn8 = false ∧ same (exec .cairnSeal s) s = true) := by
  decide +kernel

/-- A sealed cairn for the mirror and none; a copy being written and none. -/
theorem meets_mirror :
    (let e : CairnEntry := ⟨3, 0, ⟨.x, 2, 5⟩⟩
     let s := { sealing with red := { sealing.red with cairns := [(0, { cairn8 with sealed := true, entries := [e] })], alloc := [{ task with xLen := 9 }] } }
     s.surv.build = none ∧ nextIs (exec .mirrorApply s) (fun t => t.red.mirrorCount == 8 && t.red.mirror == [(2, 5)]) = true) ∧
    same (exec .mirrorApply sealing) sealing = true ∧
    nextIs (exec .bbCopyDone { inMode 2 with surv := { (inMode 2).surv with bbCopy := some (1, [7]) } })
      (fun t => (t.bbArea 1).state == 2 && (t.bbArea 1).body == [7]) = true ∧
    same (exec .bbCopyDone idle) idle = true := by
  decide +kernel

/-- Lane pair 11 of unit B with one word of each copy at its port, in its period 8. -/
def posted (a b : Post) : State :=
  let s := ((inMode 2).setLane 1 11 0 { posts := [a] }).setLane 1 11 1 { posts := [b] }
  { s with red := { s.red with pairs := [(23, { periods := [8], busy := true })] } }

/-- Each kind of word, the same and differing, at its command and at another one; a compare position at PER. -/
theorem meets_words :
    (let o : Post := .output 0x300 9
     ((posted o o).lane 1 11 0).posts = o :: [] ∧ ((posted o o).pair 1 11).periods = 8 :: [] ∧ ((posted o o).pair 1 11).withheld = false ∧
     (posted o o).badCompare 1 11 = false ∧ nextIs (exec (.outputWord 1 11) (posted o o)) (fun t => (t.pair 1 11).outputs == [(0x300, 9)]) = true ∧
     same (exec (.deltaWord 1 11) (posted o o)) (posted o o) = true ∧
     nextIs (exec (.outputWord 1 11) (posted o (.output 0x300 8)))
       (fun t => (t.pair 1 11).withheld && (t.pair 1 11).outputs == [] && raised t K.LANE_MISMATCH 23) = true) ∧
    (let e : Post := .delta ⟨.x, 4, 5⟩
     nextIs (exec (.deltaWord 1 11) (posted e e)) (fun t => (t.pair 1 11).deltas == 1 && (t.lane 1 11 0).posts == []) = true) ∧
    (let m : Post := .endMark 77 true 0
     nextIs (exec (.endMarker 1 11) (posted m m)) (fun t => (t.pair 1 11).done == 8 && t.fld F.SYS_SLACK_INSTR 0 23 == 77) = true) := by
  decide +kernel

/-- A takeover, a migration and none of them; a window that closes; full-cairn reads; a scrub with room and a full table. -/
theorem meets_restoration :
    (let k : TakeoverSt := { failed := 0, incoming := 1, source := 0, stamp := 0, lastSealed := 0, atCount := 9 }
     let s := { inMode 2 with red := { (inMode 2).red with takeover := some k, sealedCount := 5 } }
     s.fenced (.unit 1) = false ∧ s.unitLost 1 = false ∧
     nextIs (exec .restorationDone s) (fun t => t.red.takeover == some { k with restored := true, lastSealed := 5 }) = true ∧
     (let l := { s with red := { s.red with lostB := true } }
      l.unitLost 1 = true ∧ nextIs (exec .restorationDone l) (fun t => t.fenced (.unit 1) && raised t K.UNIT_READBACK 1) = true)) ∧
    (let m : MigrateSt := { unit := 0, source := 3, spare := 10, pos := 0, atCount := 9 }
     let s := { inMode 2 with red := { (inMode 2).red with migrate := some m } }
     s.fenced (.lane 0 10) = false ∧ nextIs (exec .restorationDone s) (fun t => t.red.migrate == some { m with restored := true }) = true) ∧
    same (exec .restorationDone idle) idle = true ∧ same (exec .evalWindowEnd (inMode 2)) (inMode 2) = true ∧
    (let s := { inMode 2 with per := { (inMode 2).per with count := 2 ^ 20 } }
     s.loadedLanes = [] ∧ nextIs (exec .evalWindowEnd s) (fun t => t.red.windowStart == 2 ^ 20) = true) ∧
    nextIs (exec (.dramScrub [(3, 9)]) idle) (fun t => t.red.repairs == [(1, 3 * 2 ^ 16 + 9)]) = true ∧ same (exec (.dramScrub []) idle) idle = true ∧
    (let s := { idle with red := { idle.red with repairs := List.replicate 64 (1, 3 * 2 ^ 16) } }
     same (exec (.dramScrub [(3, 9)]) s) s = true) := by
  decide +kernel

/-- A full-cairn read of a position whose copies are equal, of one whose copies differ, and with no build. -/
theorem meets_full_cairn_read :
    (let s0 := { inMode 2 with
        red := { (inMode 2).red with map := [(0, 3)], alloc := [{ task with xLen := 4 }], pairs := [(3, { done := 8 })] }
        surv := { (inMode 2).surv with build := some { start := 8 } } }
     s0.laneOf s0.activeUnit 0 = 3 ∧ s0.tasksAt 0 ≠ [] ∧ (s0.pair 0 3).periods = [] ∧ s0.per.count ≤ (s0.pair 0 3).done ∧
     s0.now + 200 + (4 * (s0.xTop 0 + s0.yTop 0) + 4) / 5 < s0.per.next ∧
     nextIs (exec (.fullCairnRead 0) s0) (fun t => t.surv.build.all fun b => b.read.length == 1) = true ∧
     (let s := s0.setLane 0 3 0 { x := [(1, 5)] }
      nextIs (exec (.fullCairnRead 0) s) (fun t => t.surv.build.isNone && t.msgs.any fun m => kindOf m.source == K.LANE_MISMATCH) = true)) ∧
    same (exec (.fullCairnRead 0) idle) idle = true := by
  decide +kernel

/-! ### Fault collection -/

/-- Nothing on its way, an onset, an end, an outside event; ALIVE out of and in stage 0x7. -/
theorem meets_fault_events :
    same (exec (.faultEvent none) idle) idle = true ∧
    (let m : Msg := { source := sourceNo K.TRIP_INPUT 31 }
     let s := { inMode 2 with msgs := [m] }
     (kindRow (kindOf m.source)).isSome = true ∧ s.isLive m.source = false ∧
     nextIs (exec (.faultEvent none) s) (fun t => t.flt.latched.any (·.source == m.source) && t.flt.history == [(m.source, 0)]) = true ∧
     nextIs (exec (.faultEvent none) { inMode 2 with msgs := [{ m with on := false, off := true }] })
       (fun t => t.msgs == [] && t.flt.latched == [] && t.flt.history == []) = true) ∧
    (let e : ExtEvent := { kind := K.HUB_CHECK, inst := 0 }
     ExtEvent.ok e = true ∧ nextIs (exec (.faultEvent (some e)) (inMode 2)) (fun t => t.flt.latched.any (·.source == sourceNo K.HUB_CHECK 0)) = true ∧
     same (exec (.faultEvent (some e)) State.reset) State.reset = true ∧ (inMode 2).flt.stamps = []) ∧
    (let e : ExtEvent := { kind := K.LANE_PARITY, inst := 23, sub := 3, addr := 0x3FFF }
     nextIs (exec (.faultEvent (some e)) (inMode 2)) (fun t => (t.lane 1 11 1).badParity == [(upsetMem 3, 0x3FFF)] && t.msgs == []) = true) ∧
    same (exec .aliveToggle (awake 5)) (awake 5) = true ∧
    nextIs (exec .aliveToggle ((inMode 2).setFld F.SYS_BOOT_STAGE 7)) (fun t => t.fld F.SYS_BOOT_STAGE == 7) = true := by
  decide +kernel

/-! ### PWM instants -/

/-- Group 31 in a state with 100 ticks of carrier. -/
def group (st : Nat) (v : GroupSt) : State :=
  let s := (((inMode 2).setFld F.PWMG_STATUS_STATE st 31).setFld F.PWMG_CFG_PER 100 31).setGrp 31 v
  { s with msgs := [] }

/-- No edge, no change, no trigger; a dead time and a held turn-off that end. -/
theorem meets_pwm_instants :
    same (exec (.pwmEdge 31 2) idle) idle = true ∧ same (exec (.deadTimeExpiry 31 5) idle) idle = true ∧
    same (exec (.minPulseExpiry 31 5) idle) idle = true ∧ same (exec (.triggerFire 31 true) idle) idle = true ∧
    (let s := group 0 { sw := [(5, { pend := some ⟨16000016, true, .pulse⟩ })] }
     s.gstate 31 ≠ gDriving ∧ nextIs (exec (.deadTimeExpiry 31 5) s) (fun t => (t.sw 31 5).on && (t.sw 31 5).onAt == 16000016) = true) ∧
    (let s := group 0 { sw := [(5, { on := true, pend := some ⟨16000016, false, .held⟩ })] }
     nextIs (exec (.minPulseExpiry 31 5) s) (fun t => !(t.sw 31 5).on && (t.sw 31 5).offAt == 16000016) = true) := by
  decide +kernel

/-- An input that becomes active and inactive, with a group that names it, tripped and not; the end of a blanking window. -/
theorem meets_trips :
    (let s := (inMode 2).setNth F.PWMG_CFG_TRIP_MASK 31 true 7
     s.tripTargets 31 = [7] ∧ s.bit F.PWMG_STATUS_TRIPPED 7 = false ∧
     nextIs (exec (.tripInput 31) s) (fun t => t.bit F.PWMG_STATUS_TRIPPED 7 && t.fld F.PWMG_STATUS_TRIP_SRC 7 == 31 && raised t K.TRIP_INPUT 31) = true ∧
     (let v := s.setNth F.PWM_TRIPIN_LIVE 31 true
      same (exec (.tripInput 31) v) v = true ∧
      same (exec (.tripInput 31) { s with boot := { s.boot with resetLow := true } }) { s with boot := { s.boot with resetLow := true } } = true ∧
      nextIs (exec (.tripInputInactive 31) v) (fun t => !t.nth F.PWM_TRIPIN_LIVE 31 && raised t K.TRIP_INPUT 31) = true ∧
      v.blankEnd 7 = some 1000000 ∧ nextIs (exec (.tripAfterBlanking 7 31) v) (fun t => t.bit F.PWMG_STATUS_TRIPPED 7) = true)) ∧
    same (exec (.tripInputInactive 31) (inMode 2)) (inMode 2) = true := by
  decide +kernel

/-! ### Feedback, emulation, current sensing -/

/-- Channel 31 in a mode. -/
def channel (m : Nat) (c : FbSt) : State := { ((inMode 2).setFld F.FB_CFG_MODE m 31).setFld F.FB_CFG_FILTER 0 31 with fb := [(31, c)] }

/-- Levels held too short; a step, a double step; a valid Hall state and an invalid one; Z active and idle; a frame due while one runs and
while none runs; a timeout; a response line that is high at the end of the request; a late frame. -/
theorem meets_feedback_events :
    (channel 1 {}).per.measured ≠ some (channel 1 {}).now ∧ (channel 1 {}).fenced (.fb 31) = false ∧ (channel 1 {}).boot.resetLow = false ∧
    (let s := (channel 1 {}).setFld F.FB_CFG_FILTER 4 31
     same (exec (.quadChange ⟨31, 3⟩ true false) s) s = true ∧ same (exec (.hallChange ⟨31, 3⟩ true false false) s) s = true ∧
     same (exec (.indexEdge ⟨31, true, 3⟩) s) s = true) ∧
    nextIs (exec (.quadChange ⟨31, 0⟩ true false) (channel 1 {})) (fun t => (t.fbs 31).count == 1 || (t.fbs 31).count == 2 ^ 32 - 1) = true ∧
    nextIs (exec (.quadChange ⟨31, 0⟩ true true) (channel 1 {})) (fun t => (t.fbs 31).quadErr == 1 && raised t K.QUAD_ERROR 31) = true ∧
    ((channel 2 {}).hallUsed 31 1).isSome = true ∧
    nextIs (exec (.hallChange ⟨31, 0⟩ true false false) (channel 2 {})) (fun t => (t.fbs 31).valid && (t.fbs 31).sector.isSome) = true ∧
    (channel 2 {}).hallUsed 31 7 = none ∧
    nextIs (exec (.hallChange ⟨31, 0⟩ true true true) (channel 2 {})) (fun t => raised t K.HALL_INVALID 31) = true ∧
    (let s := ((channel 1 { count := 55, zIdle := true }).setBit F.FB_CFG_Z_EN true 31).setBit F.FB_CFG_Z_HIGH true 31
     s.gateOpen 31 = true ∧
     nextIs (exec (.indexEdge ⟨31, true, 0⟩) s) (fun t => (t.fbs 31).indexCount == 55 && (t.fbs 31).indexSeen && !(t.fbs 31).zIdle) = true ∧
     nextIs (exec (.indexEdge ⟨31, false, 0⟩) s) (fun t => (t.fbs 31).zIdle && !(t.fbs 31).indexSeen) = true) ∧
    (let q := fun c => ((channel 3 c).setFld F.FB_SERIAL_REQ 1 31).setGrp 0 { firedA := some 1000000 }
     let f : SerialFrame := { start := 999000, sample := 999000, cmd := 1 }
     (q {}).fbSerial 31 = true ∧ (q {}).frameByTime 31 = false ∧ (q {}).frameTrigger 31 = true ∧
     nextIs (exec (.serialFrameStart 31) (q { go := some (3, 5) })) (fun t => (t.fbs 31).frame.map (fun g => (g.cmd, g.arg)) == some (3, 5)) = true ∧
     nextIs (exec (.serialFrameStart 31) (q { frame := some f })) (fun t => (t.fbs 31).skipped == 1 && (t.fbs 31).frame == some f) = true) ∧
    (let f : SerialFrame := { start := 999000, sample := 999000, cmd := 1 }
     nextIs (exec (.karselTimeout 31) (channel 4 { frame := some f })) (fun t => (t.fbs 31).frame.isNone && raised t K.SERIAL_FRAME 31) = true ∧
     nextIs (exec (.serialFrameComplete 31 false 0 0) (channel 4 { frame := some f })) (fun t => (t.fbs 31).frame.isNone && (t.fbs 31).badRun == 1) = true ∧
     nextIs (exec (.serialFrameComplete 31 false 0 0) (channel 3 { frame := some f })) (fun t => (t.fbs 31).frame.isNone && raised t K.SERIAL_FRAME 31) = true) ∧
    same (exec (.karselTimeout 31) idle) idle = true := by
  decide +kernel

/-- Steps up and down, at the target and beyond the defined lag; a comparator that becomes active and inactive; a stuck input. -/
theorem meets_emulation_and_current :
    (let s := fun (lo hi : Word24) (n : Nat) => { (inMode 2).setFld F.EMU_CFG_MODE 2 7 with emu := [(7, { lo := lo, hi := hi, counter := n })] }
     nextIs (exec (.emuStep 7) (s 5 0 4)) (fun t => (t.emus 7).counter == 5) = true ∧
     nextIs (exec (.emuStep 7) (s 0 0 0x10)) (fun t => (t.emus 7).counter == 15) = true ∧
     same (exec (.emuStep 7) (s 5 0 5)) (s 5 0 5) = true ∧ stops (exec (.emuStep 7) (s 0 0x80 0)) .emuLag = true) ∧
    (let s := (((inMode 2).setBit F.CS_CFG_EN true 95).setFld F.CS_OC_ORD 1 95).setNth F.CS_OC_TRIP_MASK 31 true 95
     let hot := ((s.setFld F.CS_OC_ROC 4 95).setFld F.CS_OC_HI 0x7FFFFF 95).setFld F.CS_OC_LO 0 95
     let cool := ((s.setFld F.CS_OC_ROC 4 95).setFld F.CS_OC_HI 0x7FFFFF 95).setFld F.CS_OC_LO 0x800000 95
     s.ocOn 95 = true ∧ s.ocGroups 95 = [31] ∧ hot.ocSteady 95 0 true = true ∧
     nextIs (exec (.overcurrentComparator 95 0) hot) (fun t => (t.sds 95).ocActive && raised t K.OVERCURRENT 95 &&
       t.bit F.PWMG_STATUS_TRIPPED 31) = true ∧
     cool.ocSteady 95 0 true = false ∧ same (exec (.overcurrentComparator 95 0) cool) cool = true ∧ cool.ocSteady 95 0 false = true ∧
     nextIs (exec (.comparatorInactive 95 0) { cool with sd := [(95, { ocActive := true })] })
       (fun t => !(t.sds 95).ocActive && raised t K.OVERCURRENT 95) = true ∧ same (exec (.comparatorInactive 95 0) cool) cool = true) ∧
    (let s := ((inMode 2).setBit F.CS_CFG_EN true 95).setFld F.CS_CFG_STUCK 3 95
     let v := { s with sd := [(95, { stuck := true })] }
     s.sdSame 95 0 3 = true ∧ nextIs (exec (.sdStuck 95 0) s) (fun t => (t.sds 95).stuck && raised t K.SD_STUCK 95) = true ∧
     v.sdSame 95 1 2 = false ∧ nextIs (exec (.sdStuckEnd ⟨95, 1⟩) v) (fun t => !(t.sds 95).stuck) = true ∧
     same (exec (.sdStuckEnd ⟨95, 1⟩) s) s = true) := by
  decide +kernel


/-! ### Time and networks -/

/-- Port 2 up, with PTP and in a portState. -/
def port (ps : Nat) (e : EthSt) : State :=
  let s := ((inMode 2).setFld F.ETH_CFG_SPEED 3 2).setBit F.ETH_CFG_PTP_EN true 2
  { s with net := { s.net with eth := [(2, { e with link := true, speed := 3, portState := ps })] }
           time := { s.time with slavePort := if ps = psSlave then 2 else 3, ptp := 2 ^ 60 } }

/-- A message from the master of a slave port. -/
def fromMaster (m : PtpMsg) : PtpMsg := { m with src := 77 }

/-- A Sync that steps PTP time and one that corrects it, a two-step one, and one on a port without PTP. -/
theorem meets_sync :
    (let s := port psSlave { parent := 77 }
     let m := fromMaster { mtype := 0, time := 2 ^ 44 - 2 ^ 40 }
     s.ptpPort 2 = true ∧ s.time.slavePort = 2 ∧ (s.eths 2).parent = 77 ∧ m.src = 77 ∧
     wholeNs ((s.rcvdAt 2 0 : Int) - m.time * 2 ^ 16 - m.corr - s.asym 2 - (s.eths 2).meanPathDelay) = 2 ^ 40 ∧
     nextIs (exec (.syncReceived 2 ⟨m, 0⟩) (s.setBit F.TIME_CFG_STEP_EN true))
       (fun t => t.time.ptp == 2 ^ 60 - 2 ^ 56 && t.time.servo == 1 && raised t K.TIME_STEP 0) = true ∧
     nextIs (exec (.syncReceived 2 ⟨m, 0⟩) (s.setBit F.TIME_CFG_STEP_EN false)) (fun t => t.time.ptp == 2 ^ 60 && t.time.offset == 2 ^ 40) = true ∧
     nextIs (exec (.syncReceived 2 ⟨{ m with twoStep := true }, 8⟩) s) (fun t => (t.eths 2).syncHalf.isSome && t.time == s.time) = true ∧
     nextIs (exec (.syncReceived 2 ⟨m, 0⟩) (s.setBit F.ETH_CFG_PTP_EN false 2)) (fun t => (t.eths 2).dropped == 1) = true ∧
     same (exec (.syncReceived 1 ⟨m, 0⟩) s) s = true) := by
  decide +kernel

/-- Messages sent, at the end of their sequence, and a Follow_Up with a stamp and without; transmit stamps with room, without, and of a
one-step Sync. -/
theorem meets_ptp_sent :
    (let s := port psMaster { nextSeqId := [(0, 65535)] }
     s.sendsOnInterval 2 0 = true ∧ s.sendsOnInterval 2 2 = false ∧ s.msgs = [] ∧
     same (exec (.ptpMessageTx 2 2 0) s) s = true ∧
     nextIs (exec (.ptpMessageTx 2 0 0) s)
       (fun t => (t.eths 2).nextSeqId.get 0 0 == 0 && t.net.ptpSent.map (fun x => (x.msg.seqId, x.head.length)) == [(65535, 14)]) = true) ∧
    (let s := port psMaster { awaited := [(mtSync, 9)], txq := [⟨9, mtSync, 5 * 2 ^ 16 + 3, 0⟩] }
     nextIs (exec (.ptpMessageTx 2 8 9) s) (fun t => (t.eths 2).txq == [] && t.net.ptpSent.map (fun x => (x.msg.time, x.msg.corr)) == [(5, 3)]) = true ∧
     same (exec (.ptpMessageTx 2 8 8) s) s = true) ∧
    nextIs (exec (.txTimestamp 2 1 ⟨9, 0⟩) (port psMaster {})) (fun t => (t.eths 2).txq.map (fun x => (x.seqId, x.stamp)) == [(9, 2 ^ 60)]) = true ∧
    nextIs (exec (.txTimestamp 2 1 ⟨9, 0⟩) (port psMaster { txq := List.replicate 16 ⟨0, 0, 0, 0⟩ }))
      (fun t => (t.eths 2).txqOvf && (t.eths 2).txq.length == 16 && raised t K.TXQ_OVERFLOW 2) = true ∧
    (let s := (port psMaster {}).setBit F.ETH_CFG_ONE_STEP true 2
     let v := { s with net := { s.net with ptpSent := [⟨2, [], { mtype := 0, seqId := 9 }, 0⟩] } }
     nextIs (exec (.txTimestamp 2 0 ⟨9, 0⟩) v) (fun t => t.net.ptpSent.map (·.msg.time) == [2 ^ 44]) = true) := by
  decide +kernel

/-- Messages received: of no supported type, path delay requests and answers, an Announce of another clock and of the module's own. -/
theorem meets_ptp_received :
    nextIs (exec (ptpRx 2 { mtype := 0xC } 0) (port psMaster {})) (fun t => (t.eths 2).dropped == 1) = true ∧
    nextIs (exec (ptpRx 2 { mtype := 1, seqId := 4, src := 9 } 0) (port psMaster {}))
      (fun t => t.net.ptpSent.map (fun x => (x.msg.mtype, x.msg.seqId, x.msg.req, x.msg.time)) == [(9, 4, 9, 2 ^ 44)]) = true ∧
    (let s := (port psSlave { parent := 77, awaited := [(mtDelayReq, 4)], txq := [⟨4, mtDelayReq, 10 * 2 ^ 16, 0⟩], msDiff := some (6 * 2 ^ 16) })
     nextIs (exec (ptpRx 2 { mtype := 9, seqId := 4, src := 77, req := s.portId 2, time := 18 } 0) s)
       (fun t => (t.eths 2).meanPathDelay == 7 * 2 ^ 16 && (t.eths 2).txq == []) = true) ∧
    (let p := (port psMaster {}).setBit F.ETH_CFG_DELAY true 2
     p.peerDelay 2 = true ∧
     nextIs (exec (ptpRx 2 { mtype := 2, seqId := 4, src := 9 } 0) p)
       (fun t => t.net.ptpSent.map (·.msg.mtype) == [3] && (t.eths 2).awaited == [(3, 4)]) = true) ∧
    (let s := port psMaster { awaited := [(mtPdelayReq, 4)], txq := [⟨4, mtPdelayReq, 10 * 2 ^ 16, 0⟩]
                              pdHalf := some ⟨4, 9, 30 * 2 ^ 16, 100, 0⟩ }
     nextIs (exec (ptpRx 2 { mtype := 0xA, seqId := 4, src := 9, req := s.portId 2, time := 106 } 0) s)
       (fun t => (t.eths 2).meanPathDelay == 7 * 2 ^ 16) = true) ∧
    (let s := port psMaster {}
     s.clockId ≠ 5 ∧ nextIs (exec (ptpRx 2 { mtype := 0xB, src := 5 * 2 ^ 16 + 1, clock := { id := 5 } } 0) s)
       (fun t => (t.eths 2).foreign.map (·.src) == [5 * 2 ^ 16 + 1]) = true ∧
     same (exec (ptpRx 2 { mtype := 0xB, src := s.clockId * 2 ^ 16 + 1 } 0) s) s = true ∧
     nextIs (exec (ptpRx 2 { mtype := 0xB, src := 5 * 2 ^ 16 + 1, clock := { id := 5 } } 0) (s.setBit F.TIME_CFG_PROFILE true))
       (fun t => t.time.gmId == 5 && t.time.slavePort == 2 && (t.eths 2).portState == 9 && raised t K.GM_CHANGE 0) = true) := by
  decide +kernel

/-- A timeout of a slave port, of one that listens, of one without PTP; links; frames of an unaccepted kind and with a bad check sequence. -/
theorem meets_ethernet :
    (let s := { port psSlave {} with time := { (port psSlave {}).time with mt := 2 ^ 40 } }
     (s.eths 2).annAt + clampNat (s.fld F.ETH_CFG_ANN_TO 2) 2 15 * s.ptpTicks 2 mtAnnounce ≤ s.now ∧
     nextIs (exec (.announceReceiptTimeout 2 () () ()) s)
       (fun t => t.time.servo == 3 && t.time.slavePort == 3 && (t.eths 2).portState == psMaster && raised t K.HOLDOVER 0) = true) ∧
    (let s := { port psListening {} with time := { (port psListening {}).time with mt := 2 ^ 40 } }
     s.time.slavePort = 3 ∧ nextIs (exec (.announceReceiptTimeout 2 () () ()) s) (fun t => (t.eths 2).portState == psMaster) = true ∧
     nextIs (exec (.announceReceiptTimeout 2 () () ()) (s.setBit F.TIME_CFG_SLAVE_ONLY true)) (fun t => (t.eths 2).portState == psListening) = true) ∧
    same (exec (.announceReceiptTimeout 1 () () ()) (port psSlave {})) (port psSlave {}) = true ∧
    nextIs (exec (.ethLinkChange 2 false 0) (port psSlave {})) (fun t => !(t.eths 2).link && raised t K.LINK_DOWN 2) = true ∧
    (let s := (inMode 2).setFld F.ETH_CFG_SPEED 3 2
     s.speedOk 2 3 = true ∧ s.speedOk 2 4 = false ∧
     nextIs (exec (.ethLinkChange 2 true 3) s) (fun t => (t.eths 2).link && (t.eths 2).speed == 3) = true ∧
     same (exec (.ethLinkChange 2 true 4) s) s = true) ∧
    nextIs (exec (.ethFrameRx 2 true) (port psMaster {})) (fun t => (t.eths 2).dropped == 1) = true ∧
    nextIs (exec (.ethFrameRx 2 false) (port psMaster {})) (fun t => (t.eths 2).fcsErr == 1) = true ∧
    same (exec (.ethFrameRx 1 true) idle) idle = true := by
  decide +kernel

/-- A cyclic frame due; one received for channel 15 in time and late; one of another VERSION, one of no channel, one with a bad check
sequence; none due. -/
theorem meets_cyclic_frames :
    (let f : CycDue := { due := 1000000, stale := false, hold := false, mark := 1004250, srcSeq := 7, words := [1, 2] }
     let s := (((port psMaster {}).setBit F.CYC_TX_EN true 7).setNth F.CYC_TX_PORTS 2 true 7)
     let v := { s with net := { s.net with cycTx := [(7, { seq := 65535, queue := [f] })] } }
     v.loopMode = true ∧ f.due ≤ v.now ∧ v.nth F.CYC_TX_PORTS 2 7 = true ∧ v.portUp 2 = true ∧
     nextIs (exec (.cycFrameSend 7) v)
       (fun t => (t.ctx 7).seq == 0 && (t.ctx 7).queue == [] && t.net.cycSent.map (fun x => (x.1, x.2.length, (x.2.drop 12).take 2)) == [(2, 60, [0x88, 0xB5])]) = true) ∧
    (let s := ((((port psMaster {}).setBit F.CYC_RX_EN true 15).setNth F.CYC_RX_PORTS 2 true 15).setFld F.CYC_RX_PRODUCER 3 15)
     let v := (s.setFld F.CYC_RX_NWORDS 1 15).setFld F.CYC_RX_CHANNEL 0 15
     let f : CycFrame := { producer := 3, channel := 0, seq := 1, srcSeq := 0, mark := 1004250, stale := false, hold := false, words := [8] }
     let send := fun (f : CycFrame) => exec (cycRx 2 true (cycPayload f)) v
     f.wf = true ∧ cycRead (cycPayload f) = some f ∧
     ((List.range 16).filter (fun k => v.cycMatches k 2 f)) = [15] ∧ v.cycLate f = false ∧
     nextIs (send f) (fun t => (t.crx 15).held.length == 1) = true ∧
     nextIs (send { f with mark := 5 }) (fun t => t.fld F.CYC_RX_LATE_CNT 15 == 1 && raised t K.CYC_LATE 15) = true ∧
     nextIs (send { f with producer := 4 }) (fun t => (t.eths 2).dropped == 1) = true ∧
     nextIs (exec (cycRx 2 true (2 :: (cycPayload f).drop 1)) v) (fun t => (t.eths 2).dropped == 1) = true ∧
     nextIs (exec (cycRx 2 false []) v) (fun t => (t.eths 2).fcsErr == 1) = true) ∧
    same (exec (.cycFrameSend 7) idle) idle = true := by
  decide +kernel

/-- CAN channel 3, enabled, with filter entry 15 taking every base identifier to a slot or to the queue. -/
def canCh (toHost : Bool) (v : CanSt) : State :=
  let s := ((inMode 2).setBit F.CAN_CFG_EN true 3).setBit F.CAN_FILTER_EN true 3 15
  let s := (s.setBit F.CAN_FILTER_HOST toHost 3 15).setBit F.CAN_FILTER_LANE (!toHost) 3 15
  { (s.setFld F.CAN_FILTER_SLOT 2 3 15) with net := { s.net with can := [(3, { v with busState := 0 })] } }

/-- A frame of the classical format with identifier `i` and no data. -/
def frame (i : Nat) : CanFrame := { format := 0, id := i, len := 0, flags := 0, data := 0 }

/-- Start of frame by identifier; ends that succeed, fail and are one-shot; bus-off and integration. -/
theorem meets_can_sending :
    (let p : CanPending := { owner := .slot 0, frame := frame 9 }
     let q : CanPending := { owner := .slot 1, frame := frame 4 }
     let s := canCh true { pending := [p, q] }
     s.canOn 3 = true ∧ s.bit F.CAN_CFG_LISTEN 3 = false ∧ same (exec (.canStartOfFrame 3) (s.setFld F.SYS_MODE_MODE 4)) (s.setFld F.SYS_MODE_MODE 4) = true ∧
     nextIs (exec (.canStartOfFrame 3) s) (fun t => (t.cans 3).pending == [p, { q with sof := some 1000000 }]) = true ∧
     (let r := { q with sof := some 999000 }
      let v := canCh true { pending := [p, r] }
      nextIs (exec (.canFrameEnd 3 true false 0 0) v) (fun t => (t.cans 3).pending == [p]) = true ∧ canOneShot (frame 4) = false ∧
      nextIs (exec (.canFrameEnd 3 false true 8 0) v) (fun t => (t.cans 3).pending == [p, q] && (t.cans 3).errFrames == 1) = true) ∧
     nextIs (exec (.canBusOff 3) (s.setBit F.CAN_CFG_AUTO_REC false 3)) (fun t => (t.cans 3).busState == 2 && (t.cans 3).pending == [] && raised t K.CAN_BUS_OFF 3) = true) ∧
    nextIs (exec (.canBusIntegration 3) ((inMode 2).setBit F.CAN_CFG_EN true 3)) (fun t => (t.cans 3).busState == 0) = true ∧
    same (exec (.canFrameEnd 3 true false 0 0) (canCh true {})) (canCh true {}) = true ∧
    same (exec (.canStartOfFrame 3) (inMode 2)) (inMode 2) = true := by
  decide +kernel

/-- A frame without a match; one for a slot, one for the queue with room and full. -/
theorem meets_can_receiving :
    (canCh true {}).canFormat 3 0 = true ∧ canLenOk 0 0 = true ∧
    (let s := (canCh true {}).setBit F.CAN_CFG_LOOPBACK true 3
     same (exec (.canFrameRx 3 (frame 0) 500 0) s) s = true) ∧
    (let s := (canCh true {}).setBit F.CAN_FILTER_EN false 3 15
     s.canFilter 3 (frame 9) = none ∧ nextIs (exec (.canFrameRx 3 (frame 9) 500 0) s) (fun t => (t.cans 3).rxq == []) = true) ∧
    (canCh false {}).canFilter 3 (frame 0) = some 15 ∧
    nextIs (exec (.canFrameRx 3 (frame 0) 500 0) (canCh false { rxSlots := [(2, { count := 63 })] }))
      (fun t => ((t.cans 3).rxSlots.get 2 {}).frame == some (frame 0) && ((t.cans 3).rxSlots.get 2 {}).count == 63) = true ∧
    nextIs (exec (.canFrameRx 3 (frame 0) 500 0) ((canCh true {}).setFld F.CAN_RXCTL_PROD 255 3))
      (fun t => t.fld F.CAN_RXCTL_PROD 3 == 0 && (t.cans 3).rxq.get 255 0 % 2 ^ 192 / 2 ^ 128 == 999500) = true ∧
    nextIs (exec (.canFrameRx 3 (frame 0) 500 0) (((canCh true {}).setFld F.CAN_RXCTL_PROD 0 3).setBit F.CAN_RXCTL_PROD_PHASE
      (!(canCh true {}).bit F.CAN_RXCTL_CONS_PHASE 3) 3)) (fun t => (t.cans 3).rxLost == 1 && raised t K.CAN_RX_LOST 3) = true := by
  decide +kernel

/-- CAN_TX of a frame without data on a channel that takes part, and on a disabled one. -/
theorem meets_can_tx :
    nextIs (exec (.canTx s0 3 16 9) (canCh true {})) (fun t => running t && (t.cans 3).pending.map (·.frame.id) == [9]) = true ∧
    nextIs (exec (.canTx s0 3 16 9) (inMode 2)) (fun t => ended 7 t && (t.cans 3).pending == []) = true := by
  decide +kernel

/-! ### Field inputs and outputs -/

/-- The last down frame sent, the slots it opened, and the island's answer on its way. -/
def down (en : Bool) (l : Nat) : DownFrame := { start := 999500, seq := 3, level := l, ofs := [], enable := en, lane := 0 }
def linked (f : FioSt) : State := let s := (inMode 2).setFld F.SYS_BOOT_STAGE 7; { s with fio := { f with powered := true } }
def slots (f : FioSt) (d : DownFrame) : State := linked { f with sent := some d, hubSlots := [d], islSlots := [d] }

/-- The CRC-16 of R394 over the nine digits of its check value, in both orders of a frame's two CRC bytes. -/
theorem test_crc16 : crc16 [0x31, 0x32, 0x33, 0x34, 0x35, 0x36, 0x37, 0x38, 0x39] = 0x29B1 := by decide +kernel

/-- A first frame and one after another; good and bad answers, with and without LOST; slots without one; no link. -/
theorem meets_isolation_hub :
    (linked {}).hubUp = true ∧ nextIs (exec .isoDownFrame (linked {})) (fun t => t.fio.sent.map (·.seq) == some 0 && t.fio.hubSlots.length == 1) = true ∧
    (let d := { down true 0 with start := 998000, seq := 65535 }
     let s := slots {} d
     (s.fio.hubSlots ++ s.fio.islSlots).all (fun f => decide (s.nextSlot < f.start + 2200)) = true ∧
     nextIs (exec .isoDownFrame s) (fun t => (t.fio.sent.map fun f => (f.seq, f.start)) == some (0, 1000000)) = true) ∧
    (let s := fun (st : Nat) (bad : Nat) => slots { ups := [(999500, ⟨9, 3, st⟩)], upGood := 7, upBad := bad, isoLost := true } (down true 0)
     copyCause 2 none (upBytes ⟨9, 3, 0⟩ 0 5 0 24) (some []) = 0 ∧ copyCause 2 none (upBytes ⟨9, 3, 0⟩ 0 5 0 24) (some [1]) = 2 ∧
     nextIs (exec (.isoUpFrame (some []) none 0 5 0 24) (s 0 2)) (fun t => t.fio.linkOk && t.fio.rb == 5 && t.fio.upGood == 8 && !t.fio.isoLost) = true ∧
     nextIs (exec (.isoUpFrame none (some []) 0 5 0 24) (s 4 2)) (fun t => t.fio.isoLost && t.fio.upGood == 0 && t.fio.upSeq == 9) = true ∧
     nextIs (exec (.isoUpFrame none (some [1]) 0 5 0 24) (s 0 2)) (fun t => t.fio.slotSeen && t.fio.rb == 0 && t.fio.bad0 == 1 && t.fio.bad1 == 1) = true) ∧
    nextIs (exec .isoUpSlotTimeout (slots { upBad := 2, linkOk := true } (down true 0)))
      (fun t => !t.fio.linkOk && t.fio.upBad == 3 && t.fio.isoLost && t.fio.hubSlots == []) = true ∧
    nextIs (exec .isoUpSlotTimeout (slots { upBad := 1 } (down true 0))) (fun t => t.fio.upBad == 2 && !t.fio.isoLost) = true ∧
    same (exec .isoDownFrame idle) idle = true ∧ same (exec .isoUpSlotTimeout idle) idle = true ∧
    same (exec (.isoUpFrame none none 0 0 0 0) idle) idle = true := by
  decide +kernel

/-- The eighth good down frame, one while the island drives, a bad one; the third bad slot; a switching, a shutdown, a retry; the supply. -/
theorem meets_field_island :
    nextIs (exec (.islandDownFrame (some []) none) (slots { downGood := 7, islandLost := true } (down true 0)))
      (fun t => t.fio.driving && t.fio.downGood == 8 && !t.fio.islandLost && t.fio.ups.length == 1 && t.fio.islSlots == []) = true ∧
    nextIs (exec (.islandDownFrame none (some [])) (slots { driving := true } (down true 0x8000)))
      (fun t => (t.isl 15).plan == [(999500 + switchDelay, true)]) = true ∧
    nextIs (exec (.islandDownFrame none none) (slots {} (down true 0))) (fun t => t.fio.ups == [] && t.fio.islSeen) = true ∧
    nextIs (exec .islandSlotTimeout (slots { downBad := 2, driving := true, outs := [(15, { on := true, level := true })] } (down true 0)))
      (fun t => t.fio.islandLost && !t.fio.driving && !(t.isl 15).on) = true ∧
    nextIs (exec (.islandSwitch 15) (linked { driving := true, outs := [(15, { plan := [(1000100, true)] })] })) (fun t => (t.isl 15).on) = true ∧
    nextIs (exec (.doShutdown 15) (linked { driving := true, outs := [(15, { on := true, level := true })] }))
      (fun t => !(t.isl 15).on && (t.isl 15).shut == some 1000000) = true ∧
    nextIs (exec (.doRetry 15) (linked { driving := true, outs := [(15, { level := true, shut := some 999000 })] }))
      (fun t => (t.isl 15).on && t.fio.retries == 1) = true ∧
    nextIs (exec (.doRetry 15) (linked { driving := true, outs := [(15, { level := true, cancelled := true, shut := some 999000 })] }))
      (fun t => !(t.isl 15).on && t.fio.retries == 0) = true ∧
    nextIs (exec .fieldSupplyLoss (linked {})) (fun t => !t.fio.powered) = true ∧
    nextIs (exec .fieldSupplyReturn idle) (fun t => t.fio.powered && t.fio.leftReset) = true ∧
    same (exec .fieldSupplyReturn (linked {})) (linked {}) = true ∧ same (exec (.islandDownFrame none none) idle) idle = true ∧
    same (exec .islandSlotTimeout idle) idle = true := by
  decide +kernel


/-! ### Further corners -/

/-- A driving group with leg 2 on from 10 to 40 ticks: an edge ahead, a turn-on that comes, and a trigger at the carrier's zero. -/
def drivingGroup : State :=
  group 4 { active := [(4, 160), (5, 640)], activeSet := true, level := [], levelAt := [(2, 16000000)], trigA := 16000000,
            sw := [(4, { pend := some ⟨16000016, true, .pulse⟩ })] }

/-- The edge, the turn-on and the trigger of that group. -/
theorem meets_driving_group :
    drivingGroup.gstate 31 = gDriving ∧ drivingGroup.carrierRuns 31 = true ∧ drivingGroup.threeLevel 31 = false ∧ drivingGroup.msgs = [] ∧
    (drivingGroup.nextEdge 31 2).isSome = true ∧ (drivingGroup.nextEdge 31 0).isNone = true ∧
    nextIs (exec (.pwmEdge 31 2) drivingGroup) (fun t => some ((t.grp 31).levelAt.get 2 0) == drivingGroup.nextEdge 31 2) = true ∧
    nextIs (exec (.deadTimeExpiry 31 4) drivingGroup) (fun t => (t.sw 31 4).pend.isNone) = true ∧
    (let s := drivingGroup.setFld F.PWMG_AUX_TA_SRC 1 31
     (s.trigInstant 31 false).isSome = true ∧ nextIs (exec (.triggerFire 31 false) s) (fun t => (t.grp 31).firedA.isSome) = true) := by
  decide +kernel

/-- A compare word posted by the active unit with COARSE 100 for PER 100, and one below PER. -/
theorem meets_compare_words :
    (let w := fun (v : Word24) => Post.output 0x27D0 v
     let s := fun (v : Word24) =>
       let s := (((inMode 2).setFld F.PWMG_CFG_PER 100 31).setLane 0 3 0 { posts := [w v] }).setLane 0 3 1 { posts := [w v] }
       { s with red := { s.red with pairs := [(3, { periods := [8], busy := true })] } }
     (s 1599).badCompare 0 3 = false ∧ nextIs (exec (.outputWord 0 3) (s 1599)) (fun t => (t.pair 0 3).outputs.length == 1) = true ∧
     (s 1600).badCompare 0 3 = true ∧ stops (exec (.outputWord 0 3) (s 1600)) .compareCoarse = true) := by
  decide +kernel

/-- A position half the sensor's range from the last, in a good frame and in one that is late. -/
theorem meets_serial_jump :
    (let f := fun (st : Nat) => ({ start := st, sample := st, cmd := 1 } : SerialFrame)
     let s := fun (st : Nat) => (channel 3 { frame := some (f st), xPrev := some 0 }).setFld F.FB_SERIAL_POSBITS 20 31
     let at_ := fun (st : Nat) => max (s st).now ((s st).lastSample 31 (f st) 0 0 + 8)
     (s 1000001).msgs = [] ∧ (s 1000001).fbMode 31 = 3 ∧
     (List.range 8).any (fun k => (s 1000001).serJump 31 (f 1000001) (at_ 1000001) ((s 1000001).readSsi 31 true (2 ^ (k + 16)))) = true ∧
     (List.range 8).any (fun k => !(s 1000001).serJump 31 (f 1000001) (at_ 1000001) ((s 1000001).readSsi 31 true (2 ^ (k + 16)))) = true) := by
  decide +kernel

/-- The low byte of a completion is its status (Table 03.4). -/
theorem test_completion_status (c : Cmd) (r : Result) (h : r.status < 2 ^ 8) : completionWord c r % 2 ^ 8 = r.status := by
  unfold completionWord
  split <;> omega

/-- The base point lies on the curve, and the halves of a signature are read as they are written. -/
theorem test_p256 : onCurve p256G = true ∧ half64 (pair64 p256G.1 p256G.2) false = p256G.1 ∧ half64 (pair64 p256G.1 p256G.2) true = p256G.2 := by
  decide +kernel
end Sys2Proof.Tests
end

section
/-!
PROOFS. Words of a Cybinth lane (R106, R118, R119): how numbers are aligned, the store form and what uses it, long words.
-/

namespace Sys2Proof.Machine

/-! ### Alignment of operands (R106) -/

/-- A data word's integer, from −2^23 to 2^23 − 1. -/
theorem word24_toInt_bounds (x : Word24) : -2 ^ 23 ≤ x.toInt ∧ x.toInt < 2 ^ 23 :=
  ⟨x.le_toInt, x.toInt_lt⟩

/-- An integer that fits in s8.47 is not changed by the wrap. -/
theorem wrap56_toInt {v : Int} (lo : -2 ^ 55 ≤ v) (hi : v < 2 ^ 55) : (wrap56 v).toInt = v :=
  BitVec.toInt_ofInt_eq_self (by decide) lo hi

theorem ext_toInt (x : Word24) : (ext x).toInt = x.toInt * 2 ^ 24 := by
  have hx := word24_toInt_bounds x
  exact wrap56_toInt (by omega) (by omega)

/-- Widening is sign extension and a shift by the 24 bits of a.w. -/
theorem ext_eq_shiftLeft (x : Word24) : ext x = x.signExtend 56 <<< 24 := by
  rw [ext, BitVec.ofInt_mul, ← BitVec.mul_twoPow_eq_shiftLeft]
  rfl

theorem ext_getLsbD (x : Word24) (i : Nat) (hi : i < 56) :
    (ext x).getLsbD i = if i < 24 then false else if i < 48 then x.getLsbD (i - 24) else x.msb := by
  rw [ext_eq_shiftLeft, BitVec.getLsbD_shiftLeft, BitVec.getLsbD_signExtend]
  have upper : i - 24 < 24 ↔ i < 48 := by omega
  have inside : i - 24 < 56 := by omega
  by_cases h24 : i < 24 <;> simp [h24, hi, upper, inside]

theorem ext_low (x : Word24) : (ext x).extractLsb' 0 24 = 0 := by
  refine BitVec.eq_of_getLsbD_eq fun i hi => ?_
  simp [hi, ext_getLsbD x i (by omega)]

theorem ext_upper (x : Word24) : (ext x).extractLsb' 24 24 = x := by
  refine BitVec.eq_of_getLsbD_eq fun i hi => ?_
  have h48 : 24 + i < 48 := by omega
  simp [hi, h48, ext_getLsbD x (24 + i) (by omega)]

theorem ext_guard (x : Word24) : (ext x).extractLsb' 48 8 = if x.msb then BitVec.allOnes 8 else 0 := by
  refine BitVec.eq_of_getLsbD_eq fun i hi => ?_
  have h24 : ¬ 48 + i < 24 := by omega
  cases h : x.msb <;> simp [hi, h, h24, -BitVec.reduceAllOnes, ext_getLsbD x (48 + i) (by omega)]

/-- Twice the product of two s.23 integers is at most 2^47 in size, well inside s8.47. -/
theorem product_toInt (x y : Word24) : (wrap56 (product x y)).toInt = product x y := by
  have hi : x.toInt * y.toInt ≤ 2 ^ 46 := BitVec.toInt_mul_toInt_le
  have lo : -2 ^ 46 ≤ x.toInt * y.toInt := BitVec.le_toInt_mul_toInt
  have two : product x y = 2 * (x.toInt * y.toInt) := Int.mul_assoc ..
  exact wrap56_toInt (by omega) (by omega)

/-- Settles O8: a data word widened is its sign extension shifted by 24, and the wrap leaves a product as it is. -/
theorem alignmentOfOperands : Obligations.AlignmentOfOperands := fun x y =>
  ⟨⟨ext_toInt x, ext_upper x, ext_low x, ext_guard x⟩, product_toInt x y, by
    rw [product_toInt]
    decide⟩

/-! ### The store form (R118) -/

/-- The rounded value of an accumulator, before it is limited to s.23. -/
def storeStep (a : Word56) : Int := (a.toInt + 2 ^ 23) / 2 ^ 24

theorem storeForm_eq (a : Word56) :
    storeForm a = if 2 ^ 23 - 1 < storeStep a then (0x7FFFFF, true)
      else if storeStep a < -(2 ^ 23) then (0x800000, true) else (BitVec.ofInt 24 (storeStep a), false) := rfl

theorem storeForm_toInt (a : Word56) :
    (storeForm a).1.toInt = max (-(2 ^ 23)) (min (2 ^ 23 - 1) (storeStep a)) := by
  have top : (0x7FFFFF : Word24).toInt = 2 ^ 23 - 1 := by decide
  have bottom : (0x800000 : Word24).toInt = -(2 ^ 23) := by decide
  rw [storeForm_eq]
  split
  case isTrue above => dsimp only; omega
  case isFalse notAbove =>
    split
    case isTrue below => dsimp only; omega
    case isFalse notBelow =>
      have inside : (BitVec.ofInt 24 (storeStep a)).toInt = storeStep a :=
        BitVec.toInt_ofInt_eq_self (by decide) (by omega) (by omega)
      dsimp only; omega

theorem storeForm_saturated_iff (a : Word56) :
    (storeForm a).2 = true ↔ (2 ^ 23 - 1 < storeStep a ∨ storeStep a < -(2 ^ 23)) := by
  rw [storeForm_eq]
  split
  case isTrue above => exact iff_of_true rfl (.inl above)
  case isFalse notAbove =>
    split
    case isTrue below => exact iff_of_true rfl (.inr below)
    case isFalse notBelow => exact iff_of_false Bool.false_ne_true (not_or.mpr ⟨notAbove, notBelow⟩)

/-! ### Reads of a lane after its updates -/

section LaneUpdates

variable (l : Lane) (n p : Fin 8) (v : Word56) (w : Word24) (q : BitVec 14) (b : Bool) (mem : LaneMem) (addr : Nat)
  (t : StoreAcc) (mv : Move)

@[simp] theorem Lane.setAcc_acc : (l.setAcc n v).acc n = v := SMap.get_set_same ..
@[simp] theorem Lane.setDat_dat : (l.setDat n w).dat n = w := SMap.get_set_same ..
@[simp] theorem Lane.setPtr_ptr : (l.setPtr n q).ptr n = q := SMap.get_set_same ..

@[simp] theorem Lane.setPtr_acc : (l.setPtr p q).acc n = l.acc n := rfl
@[simp] theorem Lane.setPtr_d : (l.setPtr p q).d = l.d := rfl
@[simp] theorem Lane.setPtr_q : (l.setPtr p q).q = l.q := rfl
@[simp] theorem Lane.setPtr_m : (l.setPtr p q).m = l.m := rfl
@[simp] theorem Lane.setPtr_x : (l.setPtr p q).x = l.x := rfl
@[simp] theorem Lane.setPtr_y : (l.setPtr p q).y = l.y := rfl
@[simp] theorem Lane.setPtr_delta : (l.setPtr p q).delta = l.delta := rfl
@[simp] theorem Lane.setPtr_word : (l.setPtr p q).word mem addr = l.word mem addr := rfl

@[simp] theorem Lane.stick_false : l.stick false = l := by simp [Lane.stick]
@[simp] theorem Lane.stick_acc : (l.stick b).acc n = l.acc n := rfl
@[simp] theorem Lane.stick_word : (l.stick b).word mem addr = l.word mem addr := rfl
@[simp] theorem Lane.stick_flagS : (l.stick b).flagS = (l.flagS || b) := rfl

@[simp] theorem Lane.seqNext_acc : l.seqNext.acc n = l.acc n := rfl
@[simp] theorem Lane.seqNext_ptr : l.seqNext.ptr n = l.ptr n := rfl
@[simp] theorem Lane.seqNext_d : l.seqNext.d = l.d := rfl
@[simp] theorem Lane.seqNext_q : l.seqNext.q = l.q := rfl
@[simp] theorem Lane.seqNext_m : l.seqNext.m = l.m := rfl
@[simp] theorem Lane.seqNext_x : l.seqNext.x = l.x := rfl
@[simp] theorem Lane.seqNext_y : l.seqNext.y = l.y := rfl
@[simp] theorem Lane.seqNext_delta : l.seqNext.delta = l.delta := rfl
@[simp] theorem Lane.seqNext_word : l.seqNext.word mem addr = l.word mem addr := rfl
@[simp] theorem Lane.seqNext_flagS : l.seqNext.flagS = l.flagS := rfl

/-- A move's update writes pointers only (R107). -/
theorem Lane.updMove_eq : l.updMove mv = { l with p := (l.updMove mv).p } := by
  cases mv with
  | none => rfl
  | load _ n u | store _ n u _ | coef _ n u => cases u <;> rfl

@[simp] theorem Lane.updMove_acc : (l.updMove mv).acc n = l.acc n := by
  rw [Lane.updMove_eq]; rfl
@[simp] theorem Lane.updMove_word : (l.updMove mv).word mem addr = l.word mem addr := by
  rw [Lane.updMove_eq]; rfl
@[simp] theorem Lane.updMove_flagS : (l.updMove mv).flagS = l.flagS := by rw [Lane.updMove_eq]

/-- A store writes the memories, with what is kept of their parity and stores, and the delta buffer only (R109, R131). -/
theorem Lane.store_eq : l.store t =
    { l with
      x := (l.store t).x, y := (l.store t).y, bankA := (l.store t).bankA, bankB := (l.store t).bankB
      badParity := (l.store t).badParity, xStored := (l.store t).xStored, yStored := (l.store t).yStored
      delta := (l.store t).delta } := by
  obtain ⟨mem, addr, w, dl⟩ := t
  unfold Lane.store
  cases mem <;> (dsimp only [Lane.writeWord]; split <;> rfl)

@[simp] theorem Lane.store_acc : (l.store t).acc n = l.acc n := by rw [Lane.store_eq]; rfl
@[simp] theorem Lane.store_d : (l.store t).d = l.d := by rw [Lane.store_eq]
@[simp] theorem Lane.store_q : (l.store t).q = l.q := by rw [Lane.store_eq]
@[simp] theorem Lane.store_m : (l.store t).m = l.m := by rw [Lane.store_eq]
@[simp] theorem Lane.store_flagS : (l.store t).flagS = l.flagS := by rw [Lane.store_eq]

@[simp] theorem Lane.writeWord_delta : (l.writeWord mem addr w).delta = l.delta := by
  cases mem <;> rfl

@[simp] theorem Lane.store_delta_of_off : (l.store ⟨mem, addr, w, false⟩).delta = l.delta := by
  simp [Lane.store]

theorem Lane.store_delta_of_room (room : l.delta.length < deltaCapacity) :
    (l.store ⟨mem, addr, w, true⟩).delta = l.delta ++ [⟨mem, addr, w⟩] := by
  simp [Lane.store, room]

/-- A store to one of the X and Y memories leaves the other alone. -/
@[simp] theorem Lane.store_y_x : (l.store ⟨.y, addr, w, b⟩).x = l.x := by
  unfold Lane.store
  dsimp only
  split <;> rfl

@[simp] theorem Lane.store_x_y : (l.store ⟨.x, addr, w, b⟩).y = l.y := by
  unfold Lane.store
  dsimp only
  split <;> rfl

/-- What a read of a memory finds after a store to it; the program memory is never stored to. -/
theorem Lane.store_word (hmem : mem ≠ .prog) (other : Nat) :
    (l.store ⟨mem, addr, w, b⟩).word mem other = if other = addr then w else l.word mem other := by
  unfold Lane.store
  cases mem with
  | prog => exact absurd rfl hmem
  | x | y | bankA | bankB => dsimp only; split <;> exact SMap.get_set ..

end LaneUpdates

/-! ### What is stored, posted and packed (R118) -/

/-- A Format A move that stores accumulator `n` at pointer `p`, with what it does beside its place in the program. -/
def Lane.storeAcc (l : Lane) (mem : LaneMem) (n p : Fin 8) (u : Upd) (dl : Bool) : Lane :=
  ((l.store ⟨mem, (l.ptr p).toNat, (storeForm (l.acc n)).1, dl⟩).stick (storeForm (l.acc n)).2).updMove (.store (.a n) p u dl)

/-- NOP writes no result (Table 04.6). -/
theorem Lane.writeAlu_nop (l : Lane) (f : FmtA) : l.writeAlu (aluOut .nop f l) = l := by
  simp [aluOut, Lane.writeAlu]

/-- PACK writes the store form to a data register (Table 04.6). -/
theorem Lane.writeAlu_pack (l : Lane) (f : FmtA) :
    l.writeAlu (aluOut .pack f l) = (l.setDat f.s2 (storeForm (l.acc f.s1)).1).stick (storeForm (l.acc f.s1)).2 := rfl

theorem Lane.run_nop_store_x (l : Lane) (bank : LaneMem) (n p : Fin 8) (u : Upd) (dl : Bool) :
    l.run bank (.fmtA .nop ⟨0, 0, 0, .store (.a n) p u dl, .none⟩) =
      (Lane.storeAcc { l with retired := l.retired + 1 } .x n p u dl).seqNext := by
  simp only [Lane.run, Lane.runA, Lane.writeAlu_nop, Lane.moveSat, Bool.or_false]
  rfl

theorem Lane.run_nop_store_y (l : Lane) (bank : LaneMem) (n p : Fin 8) (u : Upd) (dl : Bool) :
    l.run bank (.fmtA .nop ⟨0, 0, 0, .none, .store (.a n) p u dl⟩) =
      (Lane.storeAcc { l with retired := l.retired + 1 } .y n p u dl).seqNext := by
  simp only [Lane.run, Lane.runA, Lane.writeAlu_nop, Lane.moveSat, Bool.false_or]
  rfl

theorem Lane.run_pack (l : Lane) (bank : LaneMem) (n r : Fin 8) :
    l.run bank (.fmtA .pack ⟨0, n, r, .none, .none⟩) =
      ((Lane.setDat { l with retired := l.retired + 1 } r (storeForm (l.acc n)).1).stick (storeForm (l.acc n)).2).seqNext := by
  simp only [Lane.run, Lane.runA, Lane.writeAlu_pack, Lane.moveSat, Bool.or_false, Lane.stick_false]
  rfl

theorem Lane.storeAcc_word (l : Lane) {mem : LaneMem} (hmem : mem ≠ .prog) (n p : Fin 8) (u : Upd) (dl : Bool) :
    (l.storeAcc mem n p u dl).word mem (l.ptr p).toNat = (storeForm (l.acc n)).1 := by
  simp [Lane.storeAcc, Lane.store_word, hmem]

theorem Lane.storeAcc_flagS (l : Lane) (mem : LaneMem) (n p : Fin 8) (u : Upd) (dl : Bool) :
    (l.storeAcc mem n p u dl).flagS = (l.flagS || (storeForm (l.acc n)).2) := by
  simp [Lane.storeAcc]

theorem Lane.storeAcc_acc (l : Lane) (mem : LaneMem) (n p m : Fin 8) (u : Upd) (dl : Bool) :
    (l.storeAcc mem n p u dl).acc m = l.acc m := by
  simp [Lane.storeAcc]

/-- Settles O9: the store form in its three ranges, then each of the four instructions that use it. -/
theorem storeFormRoundsAndSaturates : Obligations.StoreFormRoundsAndSaturates := by
  refine ⟨fun a => ⟨storeForm_toInt a, storeForm_saturated_iff a⟩, fun l bank n r p u dl port => ?_⟩
  dsimp only
  rw [Lane.run_nop_store_x, Lane.run_nop_store_y, Lane.run_pack]
  refine ⟨Lane.storeAcc_word (mem := .x) { l with retired := l.retired + 1 } (by decide) n p u dl,
    Lane.storeAcc_word (mem := .y) { l with retired := l.retired + 1 } (by decide) n p u dl, Lane.setDat_dat .., rfl, ?_⟩
  simp only [List.forall_mem_cons, Lane.seqNext_flagS, Lane.seqNext_acc, Lane.storeAcc_flagS, Lane.storeAcc_acc]
  exact ⟨⟨rfl, rfl⟩, ⟨rfl, rfl⟩, ⟨rfl, rfl⟩, ⟨rfl, rfl⟩, List.forall_mem_nil _⟩

/-! ### Long words (R119) -/

/-- The third word of a long store holds a.g whole. -/
theorem guard_of_signExtend (g : BitVec 8) : (g.signExtend 24).extractLsb' 0 8 = g := by
  refine BitVec.eq_of_getLsbD_eq fun i hi => ?_
  have h24 : i < 24 := by omega
  rw [BitVec.getLsbD_extractLsb', Nat.zero_add, BitVec.getLsbD_signExtend]
  simp only [hi, h24, decide_true, Bool.true_and, if_true]

/-- The three words of an accumulator join to it again. -/
theorem longJoin_longWords (a : Word56) :
    longJoin (a.extractLsb' 0 24) (a.extractLsb' 24 24) ((a.extractLsb' 48 8).signExtend 24) = a := by
  have low : a.extractLsb' 24 24 ++ a.extractLsb' 0 24 = a.extractLsb' 0 48 :=
    BitVec.extractLsb'_append_extractLsb'_eq_extractLsb' rfl
  have whole : a.extractLsb' 48 8 ++ a.extractLsb' 0 48 = a.extractLsb' 0 56 :=
    BitVec.extractLsb'_append_extractLsb'_eq_extractLsb' rfl
  rw [longJoin, guard_of_signExtend, low, whole, BitVec.extractLsb'_eq_self]

/-- The addresses of a long access follow from the pointer, its anchor and its modifier (R107, R119). -/
theorem Lane.longAddr_congr {l l' : Lane} (hp : l'.p = l.p) (hq : l'.q = l.q) (hm : l'.m = l.m) (p : Fin 8) (i : Nat) :
    l'.longAddr p i = l.longAddr p i := by
  induction i with
  | zero => simp [Lane.longAddr, Lane.ptr, hp]
  | succ i ih => simp [Lane.longAddr, Lane.anchor, Lane.modi, ih, hq, hm]

/-- The stores of LST: an accumulator's words at three addresses, in order. -/
def Lane.storeLong (l : Lane) (mem : LaneMem) (addr : Nat → Nat) (a : Word56) (dl : Bool) : Lane :=
  ((l.store ⟨mem, addr 0, a.extractLsb' 0 24, dl⟩).store ⟨mem, addr 1, a.extractLsb' 24 24, dl⟩).store
    ⟨mem, addr 2, (a.extractLsb' 48 8).signExtend 24, dl⟩

theorem Lane.run_lst (l : Lane) (bank : LaneMem) (n p : Fin 8) (y dl : Bool) :
    l.run bank (.lst n p y dl) =
      ((Lane.storeLong { l with retired := l.retired + 1 } (if y then .y else .x) (fun i => (l.longAddr p i).toNat)
        (l.acc n) dl).setPtr p (l.longAddr p 3)).seqNext := rfl

section LongStore

variable (l : Lane) (mem : LaneMem) (addr : Nat → Nat) (a : Word56) (dl : Bool)

@[simp] theorem Lane.storeLong_acc (n : Fin 8) : (l.storeLong mem addr a dl).acc n = l.acc n := by simp [Lane.storeLong]
@[simp] theorem Lane.storeLong_d : (l.storeLong mem addr a dl).d = l.d := by simp [Lane.storeLong]
@[simp] theorem Lane.storeLong_q : (l.storeLong mem addr a dl).q = l.q := by simp [Lane.storeLong]
@[simp] theorem Lane.storeLong_m : (l.storeLong mem addr a dl).m = l.m := by simp [Lane.storeLong]
@[simp] theorem Lane.storeLong_y_x : (l.storeLong .y addr a dl).x = l.x := by simp [Lane.storeLong]
@[simp] theorem Lane.storeLong_x_y : (l.storeLong .x addr a dl).y = l.y := by simp [Lane.storeLong]
@[simp] theorem Lane.storeLong_delta_of_off : (l.storeLong mem addr a false).delta = l.delta := by simp [Lane.storeLong]

/-- With D, and room for three entries, the words enter the delta buffer in order (R119, R131). -/
theorem Lane.storeLong_delta_of_room (room : l.delta.length + 3 ≤ deltaCapacity) :
    (l.storeLong mem addr a true).delta = l.delta ++
      [⟨mem, addr 0, a.extractLsb' 0 24⟩, ⟨mem, addr 1, a.extractLsb' 24 24⟩,
        ⟨mem, addr 2, (a.extractLsb' 48 8).signExtend 24⟩] := by
  have first := l.store_delta_of_room (a.extractLsb' 0 24) mem (addr 0) (by omega)
  have second := Lane.store_delta_of_room _ (a.extractLsb' 24 24) mem (addr 1)
    (by rw [first, List.length_append, List.length_singleton]; omega)
  have third := Lane.store_delta_of_room _ ((a.extractLsb' 48 8).signExtend 24) mem (addr 2)
    (by rw [second, first]; simp only [List.length_append, List.length_singleton]; omega)
  rw [Lane.storeLong, third, second, first]
  simp

/-- At three addresses that are apart, each word of a long store is read where it was stored. -/
theorem Lane.storeLong_words (hmem : mem ≠ .prog) (h01 : addr 0 ≠ addr 1) (h02 : addr 0 ≠ addr 2) (h12 : addr 1 ≠ addr 2) :
    (l.storeLong mem addr a dl).word mem (addr 0) = a.extractLsb' 0 24 ∧
    (l.storeLong mem addr a dl).word mem (addr 1) = a.extractLsb' 24 24 ∧
    (l.storeLong mem addr a dl).word mem (addr 2) = (a.extractLsb' 48 8).signExtend 24 := by
  simp [Lane.storeLong, Lane.store_word, hmem, h01, h02, h12]

end LongStore

/-! #### What LST and LLD do (R119) -/

section LongRuns

variable (l : Lane) (bank : LaneMem) (n k p : Fin 8) (y dl : Bool)

theorem Lane.run_lst_ptr : (l.run bank (.lst n p y dl)).ptr p = l.longAddr p 3 := by
  rw [Lane.run_lst, Lane.seqNext_ptr, Lane.setPtr_ptr]

theorem Lane.run_lst_acc (j : Fin 8) : (l.run bank (.lst n p y dl)).acc j = l.acc j := by
  rw [Lane.run_lst, Lane.seqNext_acc, Lane.setPtr_acc, Lane.storeLong_acc]
  rfl

theorem Lane.run_lst_d : (l.run bank (.lst n p y dl)).d = l.d := by simp [Lane.run_lst]
theorem Lane.run_lst_q : (l.run bank (.lst n p y dl)).q = l.q := by simp [Lane.run_lst]
theorem Lane.run_lst_m : (l.run bank (.lst n p y dl)).m = l.m := by simp [Lane.run_lst]
theorem Lane.run_lst_y_x : (l.run bank (.lst n p true dl)).x = l.x := by simp [Lane.run_lst]
theorem Lane.run_lst_x_y : (l.run bank (.lst n p false dl)).y = l.y := by simp [Lane.run_lst]
theorem Lane.run_lst_delta_of_off : (l.run bank (.lst n p y false)).delta = l.delta := by simp [Lane.run_lst]

theorem Lane.run_lld_ptr : (l.run bank (.lld k p y)).ptr p = l.longAddr p 3 := Lane.setPtr_ptr ..

/-- LLD gives the accumulator the three words at its addresses, joined. -/
theorem Lane.run_lld_acc : (l.run bank (.lld k p y)).acc k =
    longJoin (l.word (if y then .y else .x) (l.longAddr p 0).toNat) (l.word (if y then .y else .x) (l.longAddr p 1).toNat)
      (l.word (if y then .y else .x) (l.longAddr p 2).toNat) :=
  Lane.setAcc_acc ..

/-- After a long store, the pointer put back, a long load reads at the addresses of the store. -/
theorem Lane.longAddr_after_lst (i : Nat) :
    Lane.longAddr { l.run bank (.lst n p y dl) with p := l.p } p i = l.longAddr p i := by
  refine Lane.longAddr_congr (l := l) ?_ ?_ ?_ p i
  · rfl
  · exact l.run_lst_q bank n p y dl
  · exact l.run_lst_m bank n p y dl

/-- With D, and room for three entries, LST adds its words to the delta buffer in order. -/
theorem Lane.run_lst_delta_of_room (room : l.delta.length + 3 ≤ deltaCapacity) :
    (l.run bank (.lst n p y true)).delta = l.delta ++
      [⟨if y then .y else .x, (l.longAddr p 0).toNat, (l.acc n).extractLsb' 0 24⟩,
        ⟨if y then .y else .x, (l.longAddr p 1).toNat, (l.acc n).extractLsb' 24 24⟩,
        ⟨if y then .y else .x, (l.longAddr p 2).toNat, ((l.acc n).extractLsb' 48 8).signExtend 24⟩] := by
  rw [Lane.run_lst, Lane.seqNext_delta, Lane.setPtr_delta]
  exact Lane.storeLong_delta_of_room _ _ (fun i => (l.longAddr p i).toNat) _ room

/-- After LST each word of the accumulator is read at its address, where the ring keeps the three apart. -/
theorem Lane.run_lst_words (apart : [0, 1, 2].Pairwise fun i j => l.longAddr p i ≠ l.longAddr p j) :
    (l.run bank (.lst n p y dl)).word (if y then .y else .x) (l.longAddr p 0).toNat = (l.acc n).extractLsb' 0 24 ∧
    (l.run bank (.lst n p y dl)).word (if y then .y else .x) (l.longAddr p 1).toNat = (l.acc n).extractLsb' 24 24 ∧
    (l.run bank (.lst n p y dl)).word (if y then .y else .x) (l.longAddr p 2).toNat =
      ((l.acc n).extractLsb' 48 8).signExtend 24 := by
  have hmem : (if y then .y else .x : LaneMem) ≠ .prog := by cases y <;> decide
  have ne {i j : Nat} (h : l.longAddr p i ≠ l.longAddr p j) : (l.longAddr p i).toNat ≠ (l.longAddr p j).toNat :=
    fun e => h (BitVec.eq_of_toNat_eq e)
  simp only [List.pairwise_cons, List.forall_mem_cons] at apart
  obtain ⟨⟨h01, h02, -⟩, ⟨h12, -⟩, -⟩ := apart
  simp only [Lane.run_lst, Lane.seqNext_word, Lane.setPtr_word]
  exact Lane.storeLong_words _ _ (fun i => (l.longAddr p i).toNat) _ dl hmem (ne h01) (ne h02) (ne h12)

/-- A long load at the addresses of a long store, the pointer put back, finds its words. -/
theorem Lane.run_lld_acc_after_lst (apart : [0, 1, 2].Pairwise fun i j => l.longAddr p i ≠ l.longAddr p j) :
    (Lane.run { l.run bank (.lst n p y dl) with p := l.p } bank (.lld k p y)).acc k = l.acc n := by
  obtain ⟨low, upper, guard⟩ := l.run_lst_words bank n p y dl apart
  rw [Lane.run_lld_acc, Lane.longAddr_after_lst, Lane.longAddr_after_lst, Lane.longAddr_after_lst]
  calc longJoin _ _ _ = longJoin ((l.acc n).extractLsb' 0 24) ((l.acc n).extractLsb' 24 24)
        (((l.acc n).extractLsb' 48 8).signExtend 24) := congr (congrArg₂ longJoin low upper) guard
    _ = l.acc n := longJoin_longWords _

end LongRuns

/-- Settles O10: LST is three stores in a row, whose words a long load at the same addresses joins again. -/
theorem longStoreThenLoadRestores : Obligations.LongStoreThenLoadRestores := by
  intro l bank n k p y dl
  refine ⟨rfl, fun _ => rfl, l.run_lst_ptr bank n p y dl, l.run_lld_ptr bank k p y, l.run_lld_acc bank k p y,
    l.run_lst_acc bank n p y dl, l.run_lst_d bank n p y dl, ?_, ?_, ?_, fun apart => ?_⟩
  · cases y with
    | false => exact l.run_lst_x_y bank n p dl
    | true => exact l.run_lst_y_x bank n p dl
  · rintro rfl
    exact l.run_lst_delta_of_off bank n p y
  · rintro rfl room
    exact l.run_lst_delta_of_room bank n p y room
  · obtain ⟨low, upper, guard⟩ := l.run_lst_words bank n p y dl apart
    exact ⟨low, upper, guard, l.run_lld_acc_after_lst bank n k p y dl apart⟩

end Sys2Proof.Machine
end

section
/-!
PROOFS. The length of a low pulse of RESET_N (R46, R448): below 1 µs, and from 1 µs to below 10 µs.
-/

namespace Sys2Proof.Machine

section ResetPulse
variable (ns : Nat) (st ra rb : Bool) (lands : Fin (2 ^ 32)) (s : State)

theorem exec_resetNRise : exec (.resetNRise ns st ra rb lands) s = execResetNRise ns st ra rb lands s := rfl

/-- Below 1 µs the pulse is ignored, whatever state the module is in. -/
theorem execResetNRise_of_short (short : ns < 1000) : execResetNRise ns st ra rb lands s = .next s := by
  have ignored : (!s.boot.resetLow || s.boot.stopped || decide (ns < 1000)) = true := by simp [short]
  exact if_pos ignored

/-- A pulse that is not ignored and falls short of the 10 µs of R46 stops by its name, and does not boot the module. -/
theorem execResetNRise_of_undefined (low : s.boot.resetLow = true) (runs : s.boot.stopped = false)
    (long : 1000 ≤ ns) (improper : ns < 10000) : execResetNRise ns st ra rb lands s = .fault .resetPulse := by
  have heeded : ¬ (!s.boot.resetLow || s.boot.stopped || decide (ns < 1000)) = true := by simp [low, runs, long]
  rw [execResetNRise, if_neg heeded, if_pos improper]

end ResetPulse

/-- Settles O15: the two ranges below the 10 µs of R46, each by the rule for its branch of RESET_N_RISE. -/
theorem resetPulseLengths : Obligations.ResetPulseLengths := by
  intro ns st ra rb lands s
  rw [exec_resetNRise]
  exact ⟨execResetNRise_of_short ns st ra rb lands s,
    fun long improper low runs => execResetNRise_of_undefined ns st ra rb lands s low runs long improper⟩

end Sys2Proof.Machine
end

section
/-!
PROOFS. The words of the lane instructions (Tables 04.4 to 04.8): decoding gives back what was encoded.
-/

namespace Sys2Proof

/-! ### Codes of the fields -/

theorem AOp.code_lt (op : AOp) : op.code < 2 ^ 6 := by cases op <;> decide
@[simp] theorem AOp.ofCode_code (op : AOp) : AOp.ofCode op.code = some op := by cases op <;> rfl
theorem Cond.code_lt (c : Cond) : c.code < 2 ^ 4 := by cases c <;> decide
@[simp] theorem Cond.ofCode_code (c : Cond) : Cond.ofCode c.code = some c := by cases c <;> rfl
theorem Upd.code_lt (u : Upd) : u.code < 2 ^ 2 := by cases u <;> decide
@[simp] theorem Upd.ofCode_code (u : Upd) : Upd.ofCode u.code = u := by cases u <;> rfl
theorem LdiCls.code_lt (c : LdiCls) : c.code < 2 ^ 2 := by cases c <;> decide
@[simp] theorem LdiCls.ofCode_code (c : LdiCls) : LdiCls.ofCode c.code = c := by cases c <;> rfl

@[simp] theorem reg3_val (n : Fin 8) : reg3 n.val = n := by
  apply Fin.ext
  simp [reg3]

theorem RegRef.code_lt (r : RegRef) : r.code < 2 ^ 4 := by
  cases r <;> simp [RegRef.code] <;> omega

@[simp] theorem RegRef.ofCode_code (r : RegRef) : RegRef.ofCode r.code = r := by
  cases r with
  | d n => simp [RegRef.code, RegRef.ofCode]
  | a n =>
    have : reg3 (8 + n.val) = n := Fin.ext (by simp only [reg3, Fin.val_ofNat]; omega)
    simp [RegRef.code, RegRef.ofCode, this]

theorem Move.code_lt (m : Move) : m.code < 2 ^ 16 := by
  cases m with
  | none => decide
  | load r p u | coef r p u =>
    have := r.code_lt; have := u.code_lt; have := p.isLt
    simp only [Move.code]; omega
  | store r p u d =>
    have := r.code_lt; have := u.code_lt; have := p.isLt; have := d.toNat_lt
    simp only [Move.code]; omega

/-- A move's word: its kind `k`, register, pointer, update and D (Table 04.5). -/
def moveWord (k : Nat) (r : RegRef) (p : Fin 8) (u : Upd) (d : Bool) : Nat :=
  k * 2 ^ 14 + r.code * 2 ^ 10 + p.val * 2 ^ 7 + u.code * 2 ^ 5 + d.toNat * 2 ^ 4

theorem bitsAt_moveWord {k : Nat} (hk : k < 4) (r : RegRef) (p : Fin 8) (u : Upd) (d : Bool) :
    bitsAt (moveWord k r p u d) 14 2 = k ∧ bitsAt (moveWord k r p u d) 10 4 = r.code ∧
    bitsAt (moveWord k r p u d) 7 3 = p.val ∧ bitsAt (moveWord k r p u d) 5 2 = u.code ∧
    bitsAt (moveWord k r p u d) 4 1 = d.toNat ∧ bitsAt (moveWord k r p u d) 0 4 = 0 := by
  have := r.code_lt; have := u.code_lt; have := p.isLt; have := d.toNat_lt
  simp only [bitsAt, moveWord]
  omega

theorem Move.code_load (r : RegRef) (p : Fin 8) (u : Upd) : (Move.load r p u).code = moveWord 1 r p u false := by
  simp [Move.code, moveWord]
theorem Move.code_coef (r : RegRef) (p : Fin 8) (u : Upd) : (Move.coef r p u).code = moveWord 3 r p u false := by
  simp [Move.code, moveWord]
theorem Move.code_store (r : RegRef) (p : Fin 8) (u : Upd) (d : Bool) : (Move.store r p u d).code = moveWord 2 r p u d := by
  simp [Move.code, moveWord]

theorem Move.ofCode_code (m : Move) : Move.ofCode m.code = some m := by
  cases m with
  | none => rfl
  | load r p u =>
    obtain ⟨kind, reg, ptr, upd, d, clear⟩ := bitsAt_moveWord (k := 1) (by omega) r p u false
    simp [Move.code_load, Move.ofCode, kind, reg, ptr, upd, d, clear]
  | coef r p u =>
    obtain ⟨kind, reg, ptr, upd, d, clear⟩ := bitsAt_moveWord (k := 3) (by omega) r p u false
    simp [Move.code_coef, Move.ofCode, kind, reg, ptr, upd, d, clear]
  | store r p u d =>
    obtain ⟨kind, reg, ptr, upd, delta, clear⟩ := bitsAt_moveWord (k := 2) (by omega) r p u d
    simp [Move.code_store, Move.ofCode, kind, reg, ptr, upd, delta, clear]

/-! ### Format A -/

theorem bitsAt_encodeLane_fmtA (op : AOp) (f : FmtA) :
    let w := encodeLane (.fmtA op f)
    bitsAt w 47 1 = 0 ∧ bitsAt w 41 6 = op.code ∧ bitsAt w 38 3 = f.dst.val ∧ bitsAt w 35 3 = f.s1.val ∧ bitsAt w 32 3 = f.s2.val ∧
      bitsAt w 16 16 = f.xm.code ∧ bitsAt w 0 16 = f.ym.code := by
  have := op.code_lt; have := f.dst.isLt; have := f.s1.isLt; have := f.s2.isLt; have := f.xm.code_lt; have := f.ym.code_lt
  simp only [bitsAt, encodeLane]
  omega

theorem decodeLane_of_formatA {w : Nat} (format : bitsAt w 47 1 = 0) : decodeLane w = decodeA w := if_pos format

/-- A word with these fields spells the Format A instruction that has them. -/
theorem decodeA_of_fields {w : Nat} {op : AOp} {f : FmtA} (code : bitsAt w 41 6 = op.code) (dst : bitsAt w 38 3 = f.dst.val)
    (s1 : bitsAt w 35 3 = f.s1.val) (s2 : bitsAt w 32 3 = f.s2.val) (xm : bitsAt w 16 16 = f.xm.code)
    (ym : bitsAt w 0 16 = f.ym.code) : decodeA w = some (.fmtA op f) := by
  simp only [decodeA, code, dst, s1, s2, xm, ym, Move.ofCode_code, AOp.ofCode_code, reg3_val]

theorem decodeLane_encodeLane_fmtA (op : AOp) (f : FmtA) : decodeLane (encodeLane (.fmtA op f)) = some (.fmtA op f) := by
  obtain ⟨format, code, dst, s1, s2, xm, ym⟩ := bitsAt_encodeLane_fmtA op f
  rw [decodeLane_of_formatA format]
  exact decodeA_of_fields code dst s1 s2 xm ym

/-! ### Format B -/

theorem ifClear_zero {n : Nat} (h : n = 0) (op : LaneOp) : ifClear n op = some op := if_pos h

theorem withCond_code {w reserved : Nat} {c : Cond} (f : Cond → LaneOp) (hc : bitsAt w 37 4 = c.code) (h : reserved = 0) :
    withCond w reserved f = some (f c) := by
  simp [withCond, hc, ifClear_zero h]

/-- A word with bit 47 and OP set is decoded as Format B. -/
theorem decodeLane_of_formatB {w : Nat} (format : bitsAt w 47 1 = 1) : decodeLane w = decodeB w := by
  simp [decodeLane, format]

theorem decodeLane_encodeLane_ldi (c : LdiCls) (r : Fin 8) (imm : Word24) :
    decodeLane (encodeLane (.ldi c r imm)) = some (.ldi c r imm) := by
  have ⟨format, op, reg, cls, clear, val⟩ :
      let w := encodeLane (.ldi c r imm)
      bitsAt w 47 1 = 1 ∧ bitsAt w 41 6 = 0x01 ∧ bitsAt w 38 3 = r.val ∧ bitsAt w 36 2 = c.code ∧ bitsAt w 24 12 = 0 ∧
        bitsAt w 0 24 = imm.toNat := by
    have := c.code_lt; have := r.isLt; have := imm.isLt
    simp only [bitsAt, encodeLane, formatB]; omega
  rw [decodeLane_of_formatB format]
  simp [decodeB, op, reg, cls, clear, val, ifClear_zero]

theorem decodeLane_encodeLane_shl (a : Fin 8) {n : Nat} (hn : n < 2 ^ 6) :
    decodeLane (encodeLane (.shl a n)) = some (.shl a n) := by
  have ⟨format, op, reg, count, clear⟩ :
      let w := encodeLane (.shl a n)
      bitsAt w 47 1 = 1 ∧ bitsAt w 41 6 = 0x02 ∧ bitsAt w 38 3 = a.val ∧ bitsAt w 32 6 = n ∧ bitsAt w 0 32 = 0 := by
    have := a.isLt
    simp only [bitsAt, encodeLane, formatB]; omega
  rw [decodeLane_of_formatB format]
  simp [decodeB, op, reg, count, clear, ifClear_zero]

theorem decodeLane_encodeLane_shr (a : Fin 8) {n : Nat} (hn : n < 2 ^ 6) :
    decodeLane (encodeLane (.shr a n)) = some (.shr a n) := by
  have ⟨format, op, reg, count, clear⟩ :
      let w := encodeLane (.shr a n)
      bitsAt w 47 1 = 1 ∧ bitsAt w 41 6 = 0x03 ∧ bitsAt w 38 3 = a.val ∧ bitsAt w 32 6 = n ∧ bitsAt w 0 32 = 0 := by
    have := a.isLt
    simp only [bitsAt, encodeLane, formatB]; omega
  rw [decodeLane_of_formatB format]
  simp [decodeB, op, reg, count, clear, ifClear_zero]

/-- The fields of BRA and CALL: the condition and the target. -/
theorem bitsAt_branch {w op t : Nat} {c : Cond} (hw : w = formatB op + c.code * 2 ^ 37 + t) (hop : op < 2 ^ 6) (ht : t < 2 ^ 13) :
    bitsAt w 47 1 = 1 ∧ bitsAt w 41 6 = op ∧ bitsAt w 37 4 = c.code ∧ bitsAt w 13 24 = 0 ∧ bitsAt w 0 13 = t := by
  have := c.code_lt
  simp only [bitsAt, hw, formatB]; omega

theorem decodeLane_encodeLane_bra (c : Cond) {t : Nat} (ht : t < 2 ^ 13) :
    decodeLane (encodeLane (.bra c t)) = some (.bra c t) := by
  obtain ⟨format, op, cond, clear, target⟩ := bitsAt_branch (encodeLane.eq_6 c t) (by decide) ht
  rw [decodeLane_of_formatB format]
  simp [decodeB, op, clear, target, withCond_code _ cond]

theorem decodeLane_encodeLane_call (c : Cond) {t : Nat} (ht : t < 2 ^ 13) :
    decodeLane (encodeLane (.call c t)) = some (.call c t) := by
  obtain ⟨format, op, cond, clear, target⟩ := bitsAt_branch (encodeLane.eq_7 c t) (by decide) ht
  rw [decodeLane_of_formatB format]
  simp [decodeB, op, clear, target, withCond_code _ cond]

theorem decodeLane_encodeLane_ret (c : Cond) : decodeLane (encodeLane (.ret c)) = some (.ret c) := by
  have ⟨format, op, cond, clear⟩ :
      let w := encodeLane (.ret c)
      bitsAt w 47 1 = 1 ∧ bitsAt w 41 6 = 0x06 ∧ bitsAt w 37 4 = c.code ∧ bitsAt w 0 37 = 0 := by
    have := c.code_lt
    simp only [bitsAt, encodeLane, formatB]; omega
  rw [decodeLane_of_formatB format]
  simp [decodeB, op, clear, withCond_code _ cond]

theorem decodeLane_encodeLane_loop_inl {n e : Nat} (hn : n < 2 ^ 16) (he : e < 2 ^ 13) :
    decodeLane (encodeLane (.loop (.inl n) e)) = some (.loop (.inl n) e) := by
  have ⟨format, op, src, count, clear, last⟩ :
      let w := encodeLane (.loop (.inl n) e)
      bitsAt w 47 1 = 1 ∧ bitsAt w 41 6 = 0x07 ∧ bitsAt w 40 1 = 0 ∧ bitsAt w 21 16 = n ∧ bitsAt w 13 8 = 0 ∧ bitsAt w 0 13 = e := by
    simp only [bitsAt, encodeLane, formatB]; omega
  rw [decodeLane_of_formatB format]
  simp [decodeB, op, src, count, clear, last, ifClear_zero]

theorem decodeLane_encodeLane_loop_inr (r : Fin 8) {e : Nat} (he : e < 2 ^ 13) :
    decodeLane (encodeLane (.loop (.inr r) e)) = some (.loop (.inr r) e) := by
  have ⟨format, op, src, reg, clear, last⟩ :
      let w := encodeLane (.loop (.inr r) e)
      bitsAt w 47 1 = 1 ∧ bitsAt w 41 6 = 0x07 ∧ bitsAt w 40 1 = 1 ∧ bitsAt w 37 3 = r.val ∧ bitsAt w 13 8 = 0 ∧ bitsAt w 0 13 = e := by
    have := r.isLt
    simp only [bitsAt, encodeLane, formatB]; omega
  rw [decodeLane_of_formatB format]
  simp [decodeB, op, src, reg, clear, last, ifClear_zero]

theorem decodeLane_encodeLane_post (r : RegRef) {p : Nat} (hp : p < 2 ^ 16) :
    decodeLane (encodeLane (.post r p)) = some (.post r p) := by
  have ⟨format, op, reg, clear, port⟩ :
      let w := encodeLane (.post r p)
      bitsAt w 47 1 = 1 ∧ bitsAt w 41 6 = 0x08 ∧ bitsAt w 37 4 = r.code ∧ bitsAt w 16 21 = 0 ∧ bitsAt w 0 16 = p := by
    have := r.code_lt
    simp only [bitsAt, encodeLane, formatB]; omega
  rw [decodeLane_of_formatB format]
  simp [decodeB, op, reg, clear, port, ifClear_zero]

theorem decodeLane_encodeLane_lst (a p : Fin 8) (y d : Bool) :
    decodeLane (encodeLane (.lst a p y d)) = some (.lst a p y d) := by
  have ⟨format, op, acc, ptr, mem, delta, clear⟩ :
      let w := encodeLane (.lst a p y d)
      bitsAt w 47 1 = 1 ∧ bitsAt w 41 6 = 0x09 ∧ bitsAt w 38 3 = a.val ∧ bitsAt w 35 3 = p.val ∧ bitsAt w 34 1 = y.toNat ∧
        bitsAt w 33 1 = d.toNat ∧ bitsAt w 0 33 = 0 := by
    have := a.isLt; have := p.isLt; have := y.toNat_lt; have := d.toNat_lt
    simp only [bitsAt, encodeLane, formatB]; omega
  rw [decodeLane_of_formatB format]
  simp [decodeB, op, acc, ptr, mem, delta, clear, ifClear_zero]

theorem decodeLane_encodeLane_lld (a p : Fin 8) (y : Bool) : decodeLane (encodeLane (.lld a p y)) = some (.lld a p y) := by
  have ⟨format, op, acc, ptr, mem, clear⟩ :
      let w := encodeLane (.lld a p y)
      bitsAt w 47 1 = 1 ∧ bitsAt w 41 6 = 0x0A ∧ bitsAt w 38 3 = a.val ∧ bitsAt w 35 3 = p.val ∧ bitsAt w 34 1 = y.toNat ∧
        bitsAt w 0 34 = 0 := by
    have := a.isLt; have := p.isLt; have := y.toNat_lt
    simp only [bitsAt, encodeLane, formatB]; omega
  rw [decodeLane_of_formatB format]
  simp [decodeB, op, acc, ptr, mem, clear, ifClear_zero]

theorem decodeLane_encodeLane_xfr (t : Bool) (d p : Fin 8) : decodeLane (encodeLane (.xfr t d p)) = some (.xfr t d p) := by
  have ⟨format, op, dir, reg, ptr, clear⟩ :
      let w := encodeLane (.xfr t d p)
      bitsAt w 47 1 = 1 ∧ bitsAt w 41 6 = 0x0B ∧ bitsAt w 40 1 = t.toNat ∧ bitsAt w 37 3 = d.val ∧ bitsAt w 34 3 = p.val ∧
        bitsAt w 0 34 = 0 := by
    have := d.isLt; have := p.isLt; have := t.toNat_lt
    simp only [bitsAt, encodeLane, formatB]; omega
  rw [decodeLane_of_formatB format]
  simp [decodeB, op, dir, reg, ptr, clear, ifClear_zero]

theorem decodeLane_encodeLane_addp (p : Fin 8) {o : Nat} (ho : o < 2 ^ 14) :
    decodeLane (encodeLane (.addp p o)) = some (.addp p o) := by
  have ⟨format, op, ptr, clear, offset⟩ :
      let w := encodeLane (.addp p o)
      bitsAt w 47 1 = 1 ∧ bitsAt w 41 6 = 0x0C ∧ bitsAt w 38 3 = p.val ∧ bitsAt w 14 24 = 0 ∧ bitsAt w 0 14 = o := by
    have := p.isLt
    simp only [bitsAt, encodeLane, formatB]; omega
  rw [decodeLane_of_formatB format]
  simp [decodeB, op, ptr, clear, offset, ifClear_zero]

/-! ### Every lane instruction -/

theorem decodeLane_encodeLane (op : LaneOp) (fits : op.wf = true) : decodeLane (encodeLane op) = some op := by
  cases op with
  | fmtA op f => exact decodeLane_encodeLane_fmtA op f
  | end_ => decide
  | ldi c r imm => exact decodeLane_encodeLane_ldi c r imm
  | shl a n => exact decodeLane_encodeLane_shl a (of_decide_eq_true fits)
  | shr a n => exact decodeLane_encodeLane_shr a (of_decide_eq_true fits)
  | bra c t => exact decodeLane_encodeLane_bra c (of_decide_eq_true fits)
  | call c t => exact decodeLane_encodeLane_call c (of_decide_eq_true fits)
  | ret c => exact decodeLane_encodeLane_ret c
  | loop count e =>
    cases count with
    | inl n =>
      obtain ⟨hn, he⟩ := Bool.and_eq_true_iff.mp fits
      exact decodeLane_encodeLane_loop_inl (of_decide_eq_true hn) (of_decide_eq_true he)
    | inr r => exact decodeLane_encodeLane_loop_inr r (of_decide_eq_true fits)
  | post r p => exact decodeLane_encodeLane_post r (of_decide_eq_true fits)
  | lst a p y d => exact decodeLane_encodeLane_lst a p y d
  | lld a p y => exact decodeLane_encodeLane_lld a p y
  | xfr t d p => exact decodeLane_encodeLane_xfr t d p
  | addp p o => exact decodeLane_encodeLane_addp p (of_decide_eq_true fits)

theorem encodeLane_lt (op : LaneOp) (fits : op.wf = true) : encodeLane op < 2 ^ 48 := by
  cases op with
  | fmtA op f =>
    have := op.code_lt
    have := f.dst.isLt; have := f.s1.isLt; have := f.s2.isLt; have := f.xm.code_lt; have := f.ym.code_lt
    simp only [encodeLane]; omega
  | end_ => decide
  | ldi c r imm =>
    have := c.code_lt; have := r.isLt; have := imm.isLt
    simp only [encodeLane, formatB]; omega
  | shl a n | shr a n | addp a n =>
    have := a.isLt; have := of_decide_eq_true fits
    simp only [encodeLane, formatB]; omega
  | bra c t | call c t =>
    have := c.code_lt; have := of_decide_eq_true fits
    simp only [encodeLane, formatB]; omega
  | ret c =>
    have := c.code_lt
    simp only [encodeLane, formatB]; omega
  | loop count e =>
    cases count with
    | inl n =>
      obtain ⟨hn, he⟩ := Bool.and_eq_true_iff.mp fits
      have := of_decide_eq_true hn; have := of_decide_eq_true he
      simp only [encodeLane, formatB]; omega
    | inr r =>
      have := r.isLt; have := of_decide_eq_true fits
      simp only [encodeLane, formatB]; omega
  | post r p =>
    have := r.code_lt; have := of_decide_eq_true fits
    simp only [encodeLane, formatB]; omega
  | lst a p y d =>
    have := a.isLt; have := p.isLt; have := y.toNat_lt; have := d.toNat_lt
    simp only [encodeLane, formatB]; omega
  | lld a p y =>
    have := a.isLt; have := p.isLt; have := y.toNat_lt
    simp only [encodeLane, formatB]; omega
  | xfr t d p =>
    have := t.toNat_lt; have := d.isLt; have := p.isLt
    simp only [encodeLane, formatB]; omega

theorem encodeLane_injective {op op' : LaneOp} (fits : op.wf = true) (fits' : op'.wf = true) (same : encodeLane op = encodeLane op') :
    op = op' := by
  have : some op = some op' := by rw [← decodeLane_encodeLane op fits, same, decodeLane_encodeLane op' fits']
  exact Option.some.inj this

end Sys2Proof

set_option Elab.async false

namespace Sys2Proof.Machine

/-- Settles O14: every instruction's word decodes to it, by the instruction's case; a word decoded to two instructions makes them one. -/
theorem decodeEncodeLane : Obligations.DecodeEncodeLane :=
  ⟨decodeLane_encodeLane, encodeLane_lt, fun _ _ fits fits' same => encodeLane_injective fits fits' same⟩

end Sys2Proof.Machine
end

section
/-!
PROOFS. What the Format A operations and the Format B instructions make of a copy's registers (R106 to R124).
-/

set_option Elab.async false

namespace Sys2Proof.Machine

/-! ### The flags N, Z, G and W -/

/-- The flags N, Z, G and W of a copy. -/
def Lane.nzgw (l : Lane) : Nzgw := ⟨l.flagN, l.flagZ, l.flagG, l.flagW⟩

section Flags

variable (l old : Lane) (b : Bool) (mv : Move) (t : StoreAcc) (ts : List StoreAcc) (r : Option (LaneMem × Nat × RegRef)) (n : Fin 8)

@[simp] theorem Lane.seqNext_nzgw : l.seqNext.nzgw = l.nzgw := rfl
@[simp] theorem Lane.stick_nzgw : (l.stick b).nzgw = l.nzgw := rfl
@[simp] theorem Lane.setFlags_nzgw (f : Nzgw) : (l.setFlags f).nzgw = f := rfl
@[simp] theorem Lane.updMove_nzgw : (l.updMove mv).nzgw = l.nzgw := by rw [Lane.updMove_eq]; rfl
@[simp] theorem Lane.store_nzgw : (l.store t).nzgw = l.nzgw := by rw [Lane.store_eq]; rfl

/-- A load changes the register it names and nothing else (R109). -/
theorem Lane.loadFrom_eq : l.loadFrom old r = { l with a := (l.loadFrom old r).a, d := (l.loadFrom old r).d } := by
  cases r with
  | none => rfl
  | some e =>
    obtain ⟨m, n, reg⟩ := e
    cases reg <;> rfl

@[simp] theorem Lane.loadFrom_nzgw : (l.loadFrom old r).nzgw = l.nzgw := by rw [Lane.loadFrom_eq]; rfl
@[simp] theorem Lane.loadFrom_flagS : (l.loadFrom old r).flagS = l.flagS := by rw [Lane.loadFrom_eq]

/-- Stores change what one store changes (R109, R131). -/
theorem Lane.stores_acc : (ts.foldl Lane.store l).acc n = l.acc n := by
  induction ts generalizing l with
  | nil => rfl
  | cons t ts ih => rw [List.foldl_cons, ih, Lane.store_acc]

theorem Lane.stores_nzgw : (ts.foldl Lane.store l).nzgw = l.nzgw := by
  induction ts generalizing l with
  | nil => rfl
  | cons t ts ih => rw [List.foldl_cons, ih, Lane.store_nzgw]

theorem Lane.stores_flagS : (ts.foldl Lane.store l).flagS = l.flagS := by
  induction ts generalizing l with
  | nil => rfl
  | cons t ts ih => rw [List.foldl_cons, ih, Lane.store_flagS]

end Flags

/-! ### A Format A instruction -/

section FormatA

variable (l : Lane) (bank : LaneMem) (op : AOp) (f : FmtA)

/-- Retiring counts the instruction; its result is formed from the registers before it (R112, R124). -/
theorem Lane.run_fmtA : l.run bank (.fmtA op f) = ({ l with retired := l.retired + 1 }.runA bank op f).seqNext := rfl

theorem aluOut_retired (k : Nat) : aluOut op f { l with retired := k } = aluOut op f l := rfl

theorem Lane.runA_nzgw : (l.runA bank op f).nzgw = (l.writeAlu (aluOut op f l)).nzgw := by
  simp [Lane.runA, Lane.stores_nzgw]

theorem Lane.runA_flagS :
    (l.runA bank op f).flagS = ((l.writeAlu (aluOut op f l)).flagS || (l.moveSat f.xm || l.moveSat f.ym)) := by
  simp [Lane.runA, Lane.stores_flagS]

/-- A move that loads no `a[n]` leaves it. -/
theorem Lane.loadFrom_acc_of_not_loadsAcc (old : Lane) (mem : LaneMem) (mv : Move) (n : Fin 8) (h : loadsAcc mv n = false) :
    (l.loadFrom old (old.moveRead bank mem mv)).acc n = l.acc n := by
  cases mv with
  | none | store => rfl
  | load r p u | coef r p u =>
    cases r with
    | d k => rfl
    | a k =>
      have hne : (n : Nat) ≠ k := fun e => by simp [loadsAcc, Fin.ext e.symm] at h
      exact SMap.get_set_ne hne

theorem Lane.runA_acc_of_not_loadsAcc (n : Fin 8) (hx : loadsAcc f.xm n = false) (hy : loadsAcc f.ym n = false) :
    (l.runA bank op f).acc n = (l.writeAlu (aluOut op f l)).acc n := by
  simp [Lane.runA, Lane.stores_acc, Lane.loadFrom_acc_of_not_loadsAcc, hx, hy]

/-- Without moves an operation writes its result and nothing else. -/
theorem Lane.runA_of_no_moves (hx : f.xm = .none) (hy : f.ym = .none) :
    l.runA bank op f = l.writeAlu (aluOut op f l) := by
  simp [Lane.runA, hx, hy, Lane.moveRead, Lane.moveStore, Lane.moveSat, Lane.updMove, Lane.loadFrom]

theorem Lane.run_fmtA_of_no_moves (hx : f.xm = .none) (hy : f.ym = .none) :
    l.run bank (.fmtA op f) = ({ l with retired := l.retired + 1 }.writeAlu (aluOut op f l)).seqNext := by
  rw [Lane.run_fmtA, Lane.runA_of_no_moves _ _ _ _ hx hy, aluOut_retired]

end FormatA

/-! ### The arithmetic operations (R113, R115, R120) -/

theorem max_eq_ite_of_le (a b : Int) : max a b = if b ≤ a then a else b := by
  rw [Int.max_def]; split <;> split <;> omega

/-- CLIP's limits are the ends of s.23 on the grid of the accumulator. -/
theorem clip56_fst (a : Int) : (clip56 a).1 = max (-(2 ^ 47)) (min a (2 ^ 47 - 2 ^ 24)) := by
  unfold clip56
  split
  · next above => simp only; omega
  · split <;> (simp only; omega)

/-- An arithmetic operation writes its exact integer, wrapped, with the flags of it (R113). -/
theorem aluOut_of_arithmeticResult {op : AOp} {f : FmtA} {l : Lane} {v : Int} (h : arithmeticResult op f l = some v) :
    ∃ st, aluOut op f l = .exact f.dst v st := by
  cases op <;>
    simp only [arithmeticResult, Option.some.injEq, reduceCtorEq] at h <;> subst h <;>
    simp only [aluOut, ext_toInt, product, rnd, clip56_fst, max_eq_ite_of_le, Int.min_def]
  case abs => exact ⟨_, by rw [Int.abs_eq_natAbs]; congr 1; split <;> omega⟩
  all_goals exact ⟨_, rfl⟩

theorem Lane.writeAlu_exact (l : Lane) (n : Fin 8) (v : Int) (st : Bool) :
    l.writeAlu (.exact n v st) = ((l.setAcc n (wrap56 v)).setFlags (flagsExact v)).stick st := rfl

/-- The true result lies outside s8.47 (R115). -/
theorem wraps56_eq (v : Int) : wraps56 v = decide (¬(-(2 ^ 55) ≤ v ∧ v < 2 ^ 55)) := by
  have bounds := (wrap56 v).le_toInt
  have bound := (wrap56 v).toInt_lt
  refine decide_eq_decide.mpr (not_congr ⟨fun h => h ▸ ⟨bounds, bound⟩, fun h => wrap56_toInt h.1 h.2⟩)

/-- Settles O5: the result reaches a[DST] and the flags, and no move or pointer update touches them. -/
theorem formatAArithmeticResult : Obligations.FormatAArithmeticResult := by
  intro op f l bank v hv
  obtain ⟨st, hst⟩ := aluOut_of_arithmeticResult hv
  have acc (hx : loadsAcc f.xm f.dst = false) (hy : loadsAcc f.ym f.dst = false) :
      (l.run bank (.fmtA op f)).acc f.dst = wrap56 v := by
    rw [Lane.run_fmtA, Lane.seqNext_acc, Lane.runA_acc_of_not_loadsAcc _ _ _ _ _ hx hy, aluOut_retired, hst]
    exact Lane.setAcc_acc ..
  have flags : (l.run bank (.fmtA op f)).nzgw = flagsExact v := by
    rw [Lane.run_fmtA, Lane.seqNext_nzgw, Lane.runA_nzgw, aluOut_retired, hst]; rfl
  have sticky : (l.run bank (.fmtA op f)).flagS = (((l.flagS || wraps56 v) || st) || (l.moveSat f.xm || l.moveSat f.ym)) := by
    rw [Lane.run_fmtA, Lane.seqNext_flagS, Lane.runA_flagS, aluOut_retired, hst]; rfl
  have hW : (l.run bank (.fmtA op f)).flagW = wraps56 v := congrArg Nzgw.w flags
  refine ⟨acc, congrArg Nzgw.n flags, congrArg Nzgw.z flags, congrArg Nzgw.g flags, hW.trans (wraps56_eq v), ?_, ?_⟩
  · intro h
    rw [hW] at h
    simp [sticky, h]
  · intro h
    simp [sticky, h]

/-- Settles O6: without moves only the destination, the flags, the program address and the count of instructions change. -/
theorem formatAFrame : Obligations.FormatAFrame := by
  intro op f l bank v hv hx hy
  obtain ⟨st, hst⟩ := aluOut_of_arithmeticResult hv
  have run : l.run bank (.fmtA op f) =
      ((({ l with retired := l.retired + 1 }.setAcc f.dst (wrap56 v)).setFlags (flagsExact v)).stick st).seqNext := by
    rw [Lane.run_fmtA_of_no_moves _ _ _ _ hx hy, hst, Lane.writeAlu_exact]
  rw [run]
  refine ⟨fun n hn => SMap.get_set_ne fun e => hn (Fin.ext e), ?_⟩
  repeat' constructor

/-! ### The other operations of Format A (R113) -/

theorem quot56_fst_bounds (a d : Int) : -(2 ^ 23) ≤ (quot56 a d).1 ∧ (quot56 a d).1 ≤ 2 ^ 23 - 1 := by
  unfold quot56
  split
  · dsimp only; split <;> omega
  · dsimp only; split
    · simp
    · split <;> (dsimp only; omega)

theorem quot56_fst_of_ne_zero (a : Int) {d : Int} (hd : d ≠ 0) :
    (quot56 a d).1 = max (-(2 ^ 23)) (min (2 ^ 23 - 1) (a.tdiv (2 * d))) := by
  simp only [quot56, hd, if_false]
  split
  · omega
  · split <;> (dsimp only; omega)

/-- A number of s.23 on the accumulator's grid fits. -/
theorem wrap56_grid {q : Int} (lo : -(2 ^ 23) ≤ q) (hi : q ≤ 2 ^ 23 - 1) : (wrap56 (q * 2 ^ 24)).toInt = q * 2 ^ 24 :=
  wrap56_toInt (by omega) (by omega)

/-- The bits found so far, and those the search adds, stay below the root; one step more lies beyond it. -/
theorem isqrtFrom_spec (n : Nat) : ∀ b r, r * r ≤ n → n < (r + 2 ^ b) * (r + 2 ^ b) →
    isqrtFrom n b r * isqrtFrom n b r ≤ n ∧ n < (isqrtFrom n b r + 1) * (isqrtFrom n b r + 1) := by
  intro b
  induction b with
  | zero => intro r lo hi; exact ⟨lo, hi⟩
  | succ b ih =>
    intro r lo hi
    unfold isqrtFrom
    split
    · next step =>
      refine ih _ step ?_
      have double : r + 2 ^ b + 2 ^ b = r + 2 ^ (b + 1) := by rw [Nat.pow_succ]; omega
      rwa [double]
    · next beyond => exact ih _ lo (Nat.lt_of_not_le beyond)

theorem isqrt_spec {n : Nat} (hn : n < 2 ^ 128) : isqrt n * isqrt n ≤ n ∧ n < (isqrt n + 1) * (isqrt n + 1) := by
  refine isqrtFrom_spec n 64 0 (by omega) ?_
  simpa [← Nat.pow_add] using hn

theorem isqrt_lt {n : Nat} (hn : n < 2 ^ 54) : isqrt n < 2 ^ 27 := by
  obtain ⟨lo, -⟩ := isqrt_spec (n := n) (by omega)
  by_contra h
  have : (2 ^ 27) * 2 ^ 27 ≤ isqrt n * isqrt n := Nat.mul_le_mul (by omega) (by omega)
  omega

theorem withUpper_getLsbD (a : Word56) (u : Word24) (i : Nat) :
    (withUpper a u).getLsbD i =
      if i < 48 then (if i < 24 then (a.extractLsb' 0 24).getLsbD i else u.getLsbD (i - 24))
      else (a.extractLsb' 48 8).getLsbD (i - 48) := by
  have whole : withUpper a u = (a.extractLsb' 48 8 ++ (u ++ a.extractLsb' 0 24) : BitVec (8 + (24 + 24))) := rfl
  rw [whole, BitVec.getLsbD_append, BitVec.getLsbD_append]

theorem withUpper_upper (a : Word56) (u : Word24) : (withUpper a u).extractLsb' 24 24 = u := by
  refine BitVec.eq_of_getLsbD_eq fun i hi => ?_
  have h48 : 24 + i < 48 := by omega
  simp [withUpper_getLsbD, hi, h48]

theorem withUpper_guard (a : Word56) (u : Word24) : (withUpper a u).extractLsb' 48 8 = a.extractLsb' 48 8 := by
  refine BitVec.eq_of_getLsbD_eq fun i hi => ?_
  simp [withUpper_getLsbD, hi]

theorem withUpper_low (a : Word56) (u : Word24) : (withUpper a u).extractLsb' 0 24 = a.extractLsb' 0 24 := by
  refine BitVec.eq_of_getLsbD_eq fun i hi => ?_
  have h48 : i < 48 := by omega
  simp [withUpper_getLsbD, hi, h48]

theorem Lane.writeAlu_bits (l : Lane) (n : Fin 8) (v : Word56) :
    l.writeAlu (.bits n v) = ((l.setAcc n v).setFlags (flagsOf v false)) := by
  simp [Lane.writeAlu, AluOut.bits]

theorem xor_one_ne (n : Fin 8) : (n : Nat) ≠ (n ^^^ 1 : Fin 8) := by decide +revert

theorem wrap56_self (a : Word56) : wrap56 a.toInt = a := BitVec.ofInt_toInt

/-- What QUOT, ROOT, TRIG and the logical operations leave in their accumulators. -/
theorem Lane.run_exact_acc {op : AOp} {f : FmtA} {l : Lane} {v : Int} {st : Bool} (bank : LaneMem)
    (h : aluOut op f l = .exact f.dst v st) (hx : f.xm = .none) (hy : f.ym = .none) :
    (l.run bank (.fmtA op f)).acc f.dst = wrap56 v ∧
    (l.run bank (.fmtA op f)).flagS = (l.flagS || wraps56 v || st) := by
  rw [Lane.run_fmtA_of_no_moves _ _ _ _ hx hy, h, Lane.writeAlu_exact]
  exact ⟨Lane.setAcc_acc .., rfl⟩

theorem Lane.run_logical {op : AOp} {f : FmtA} {l : Lane} {u : Word24} (bank : LaneMem)
    (h : aluOut op f l = .bits f.dst (withUpper (l.acc f.dst) u)) (hx : f.xm = .none) (hy : f.ym = .none) :
    ((l.run bank (.fmtA op f)).acc f.dst).extractLsb' 24 24 = u ∧
    ((l.run bank (.fmtA op f)).acc f.dst).extractLsb' 48 8 = (l.acc f.dst).extractLsb' 48 8 ∧
    ((l.run bank (.fmtA op f)).acc f.dst).extractLsb' 0 24 = (l.acc f.dst).extractLsb' 0 24 ∧
    (l.run bank (.fmtA op f)).flagW = false := by
  have acc : (l.run bank (.fmtA op f)).acc f.dst = withUpper (l.acc f.dst) u := by
    rw [Lane.run_fmtA_of_no_moves _ _ _ _ hx hy, h, Lane.writeAlu_bits]
    exact Lane.setAcc_acc ..
  rw [acc]
  refine ⟨withUpper_upper .., withUpper_guard .., withUpper_low .., ?_⟩
  rw [Lane.run_fmtA_of_no_moves _ _ _ _ hx hy, h, Lane.writeAlu_bits]
  rfl

theorem Lane.run_trig_accs (l : Lane) (bank : LaneMem) (f : FmtA) (hx : f.xm = .none) (hy : f.ym = .none) :
    (l.run bank (.fmtA .trig f)).acc f.dst = wrap56 (sine24 (l.dat f.s1).toNat * 2 ^ 24) ∧
    (l.run bank (.fmtA .trig f)).acc (f.dst ^^^ 1) = wrap56 (cosine24 (l.dat f.s1).toNat * 2 ^ 24) := by
  rw [Lane.run_fmtA_of_no_moves _ _ _ _ hx hy]
  exact ⟨(SMap.get_set_ne (xor_one_ne f.dst)).trans (SMap.get_set_same ..), SMap.get_set_same ..⟩

/-- The quotient, limited, for both kinds of divisor. -/
theorem Lane.run_quot (l : Lane) (bank : LaneMem) (f : FmtA) (hx : f.xm = .none) (hy : f.ym = .none) :
    ((l.run bank (.fmtA .quot f)).acc f.dst).toInt = (quot56 (l.acc f.dst).toInt (l.dat f.s1).toInt).1 * 2 ^ 24 := by
  obtain ⟨lo, hi⟩ := quot56_fst_bounds (l.acc f.dst).toInt (l.dat f.s1).toInt
  rw [(Lane.run_exact_acc bank rfl hx hy).1, wrap56_grid lo hi]

theorem Lane.run_root_of_nonneg (l : Lane) (bank : LaneMem) (f : FmtA) (hx : f.xm = .none) (hy : f.ym = .none)
    (h : 0 ≤ (l.acc f.dst).toInt) :
    ∃ n : Nat, ((l.run bank (.fmtA .root f)).acc f.dst).toInt = n * 2 ^ 24 ∧ (n : Int) * n ≤ (l.acc f.dst).toInt / 2 ∧
      (l.acc f.dst).toInt / 2 < (n + 1 : Int) * (n + 1) := by
  have top := (l.acc f.dst).toInt_lt
  obtain ⟨half, hhalf⟩ : ∃ m : Nat, (m : Int) = (l.acc f.dst).toInt / 2 := ⟨_, Int.toNat_of_nonneg (by omega)⟩
  have root : root56 (l.acc f.dst).toInt = ((isqrt half : Int), false) := by
    rw [root56, if_neg (by omega), ← hhalf, Int.toNat_natCast]
  have small : half < 2 ^ 54 := by omega
  obtain ⟨lo, hi⟩ := isqrt_spec (n := half) (by omega)
  have fits := isqrt_lt small
  refine ⟨isqrt half, ?_, ?_, ?_⟩
  · rw [(Lane.run_exact_acc bank rfl hx hy).1, root]
    exact wrap56_toInt (by omega) (by omega)
  · rw [← hhalf]; exact_mod_cast lo
  · rw [← hhalf]; exact_mod_cast hi

theorem Lane.run_root_of_neg (l : Lane) (bank : LaneMem) (f : FmtA) (hx : f.xm = .none) (hy : f.ym = .none)
    (h : (l.acc f.dst).toInt < 0) :
    (l.run bank (.fmtA .root f)).acc f.dst = 0 ∧ (l.run bank (.fmtA .root f)).flagS = true := by
  have root : root56 (l.acc f.dst).toInt = (0, true) := if_pos h
  obtain ⟨acc, sticky⟩ := Lane.run_exact_acc (op := .root) (l := l) bank rfl hx hy
  rw [root] at acc sticky
  exact ⟨acc, by rw [sticky]; simp⟩

theorem Lane.run_quot_by_zero_flagS (l : Lane) (bank : LaneMem) (f : FmtA) (hx : f.xm = .none) (hy : f.ym = .none)
    (h : l.dat f.s1 = 0) : (l.run bank (.fmtA .quot f)).flagS = true := by
  rw [(Lane.run_exact_acc bank rfl hx hy).2, h]
  simp [quot56]

/-- Settles O7: each operation by its own rule. -/
theorem formatAOtherResults : Obligations.FormatAOtherResults := by
  intro f l bank hx hy
  obtain ⟨andU, andG, andL, andW⟩ := Lane.run_logical (op := .and) (l := l) bank rfl hx hy
  obtain ⟨orU, orG, orL, orW⟩ := Lane.run_logical (op := .or) (l := l) bank rfl hx hy
  obtain ⟨xorU, xorG, xorL, xorW⟩ := Lane.run_logical (op := .xor) (l := l) bank rfl hx hy
  obtain ⟨sine, cosine⟩ := l.run_trig_accs bank f hx hy
  have plain (op : AOp) := l.run_fmtA_of_no_moves bank op f hx hy
  refine ⟨fun h => ?_, fun h => ⟨?_, l.run_quot_by_zero_flagS bank f hx hy h⟩, l.run_root_of_nonneg bank f hx hy,
    l.run_root_of_neg bank f hx hy, andU, orU, xorU, ?_, ?_, fun h => ?_, ?_, sine, cosine, ?_, ?_, ?_, ?_⟩
  · rw [l.run_quot bank f hx hy, quot56_fst_of_ne_zero]
    exact fun e => h (BitVec.eq_of_toInt_eq e)
  · rw [l.run_quot bank f hx hy, h]
    rfl
  · simp only [List.forall_mem_cons]
    exact ⟨⟨andG, andL, andW⟩, ⟨orG, orL, orW⟩, ⟨xorG, xorL, xorW⟩, List.forall_mem_nil _⟩
  · simp only [plain]; exact Lane.setDat_dat ..
  · simp only [plain]
    show (l.flagS || (storeForm (l.acc f.s1)).2) = true
    rw [h, Bool.or_true]
  · simp only [plain]; exact Lane.setDat_dat ..
  · simp only [plain, List.forall_mem_cons]
    exact ⟨⟨rfl, rfl⟩, ⟨rfl, rfl⟩, ⟨rfl, rfl⟩, List.forall_mem_nil _⟩
  · simp only [plain]; rfl
  · simp only [plain]
    show decide (wrap56 (l.acc f.dst).toInt = 0) = _
    rw [wrap56_self]
  · simp only [plain]; rfl

/-! ### Shifts, immediates and register moves (R114, R115) -/

section FormatB

variable (l : Lane) (n k : Fin 8) (v : Word24) (p : BitVec 14)

@[simp] theorem Lane.seqNext_dat : l.seqNext.dat n = l.dat n := rfl
@[simp] theorem Lane.seqNext_modi : l.seqNext.modi n = l.modi n := rfl
@[simp] theorem Lane.seqNext_anchor : l.seqNext.anchor n = l.anchor n := rfl
@[simp] theorem Lane.setModi_modi : (l.setModi n v).modi n = v := SMap.get_set_same ..
@[simp] theorem Lane.setPtrAnchor_ptr : (l.setPtrAnchor n p).ptr n = p := SMap.get_set_same ..
@[simp] theorem Lane.setPtrAnchor_anchor : (l.setPtrAnchor n p).anchor n = p := SMap.get_set_same ..

end FormatB

theorem wrap56_shiftLeft (a : Word56) (c : Nat) : wrap56 (a.toInt * 2 ^ c) = a <<< c := by
  rw [wrap56, BitVec.ofInt_mul, BitVec.ofInt_toInt, ← BitVec.mul_twoPow_eq_shiftLeft]
  congr 1
  apply BitVec.eq_of_toNat_eq
  simp [BitVec.toNat_ofInt, BitVec.toNat_twoPow]
  rfl

theorem wrap56_shiftRight (a : Word56) (c : Nat) : wrap56 (a.toInt / 2 ^ c) = a.sshiftRight c := by
  have floor : a.toInt / 2 ^ c = (a.sshiftRight c).toInt := by
    simp [BitVec.toInt_sshiftRight, Int.shiftRight_eq_div_pow]
  rw [floor, wrap56_self]

theorem ofNat_ptr_add (p : BitVec 14) (k : Nat) : BitVec.ofNat 14 (p.toNat + k) = p + BitVec.ofNat 14 k := by
  rw [BitVec.ofNat_add, BitVec.ofNat_toNat, BitVec.setWidth_eq]

/-- A pointer fits in a data register (Table 04.7). -/
theorem ptr_setWidth_toNat (p : BitVec 14) : (p.setWidth 24).toNat = p.toNat :=
  BitVec.toNat_setWidth_of_le (by decide)

/-- Settles O11: each instruction writes one register. -/
theorem shiftsAndRegisterMoves : Obligations.ShiftsAndRegisterMoves := by
  intro l bank n k c v off
  refine ⟨fun _ => ⟨?_, ?_, rfl, rfl, ?_⟩, ?_, ?_, ?_, ?_, ?_, ?_, ?_, ?_, ?_, ?_⟩
  · rw [← wrap56_shiftLeft]; exact Lane.setAcc_acc ..
  · rw [← wrap56_shiftRight]; exact Lane.setAcc_acc ..
  · rw [← wrap56_shiftLeft]; exact decide_eq_true_iff
  · exact Lane.setDat_dat ..
  · exact Lane.setAcc_acc ..
  · exact Lane.setModi_modi ..
  · exact Lane.setPtrAnchor_ptr ..
  · exact Lane.setPtrAnchor_anchor ..
  · rw [← ptr_setWidth_toNat]; exact congrArg BitVec.toNat (Lane.setDat_dat ..)
  · exact Lane.setPtrAnchor_ptr ..
  · exact Lane.setPtrAnchor_anchor ..
  · rw [← ofNat_ptr_add]; exact Lane.setPtrAnchor_ptr ..
  · rw [← ofNat_ptr_add]; exact Lane.setPtrAnchor_anchor ..

/-! ### Flow of control (R116, R122, R123) -/

/-- A copy's place in its program: its address, and the loops and calls under way. -/
def Lane.place (l : Lane) : Nat × List LoopRec × List Nat := (l.pc, l.loops, l.calls)

section Place

variable (l old : Lane) (b : Bool) (mv : Move) (t : StoreAcc) (ts : List StoreAcc) (r : Option (LaneMem × Nat × RegRef))

@[simp] theorem Lane.stick_place : (l.stick b).place = l.place := rfl
@[simp] theorem Lane.updMove_place : (l.updMove mv).place = l.place := by rw [Lane.updMove_eq]; rfl
@[simp] theorem Lane.loadFrom_place : (l.loadFrom old r).place = l.place := by rw [Lane.loadFrom_eq]; rfl
@[simp] theorem Lane.store_place : (l.store t).place = l.place := by rw [Lane.store_eq]; rfl

theorem Lane.stores_place : (ts.foldl Lane.store l).place = l.place := by
  induction ts generalizing l with
  | nil => rfl
  | cons t ts ih => rw [List.foldl_cons, ih, Lane.store_place]

theorem Lane.setAccs_place (es : List (Fin 8 × Word56)) :
    (es.foldl (fun l e => l.setAcc e.1 e.2) l).place = l.place := by
  induction es generalizing l with
  | nil => rfl
  | cons e es ih => exact ih _

@[simp] theorem Lane.writeAlu_place (o : AluOut) : (l.writeAlu o).place = l.place := by
  unfold Lane.writeAlu
  rw [Lane.stick_place, ← l.setAccs_place o.accs]
  cases o.dat <;> cases o.flags <;> rfl

theorem Lane.runA_place (bank : LaneMem) (op : AOp) (f : FmtA) : (l.runA bank op f).place = l.place := by
  simp [Lane.runA, Lane.stores_place]

end Place

/-- A Format A instruction goes on in sequence from its own address (R122). -/
theorem Lane.run_fmtA_place (l : Lane) (bank : LaneMem) (op : AOp) (f : FmtA) :
    (l.run bank (.fmtA op f)).pc = l.seqNext.pc ∧ (l.run bank (.fmtA op f)).loops = l.seqNext.loops := by
  have place : (({ l with retired := l.retired + 1 } : Lane).runA bank op f).place = l.place := Lane.runA_place ..
  have hpc := congrArg Prod.fst place
  have hloops := congrArg (·.2.1) place
  dsimp only [Lane.place] at hpc hloops
  rw [Lane.run_fmtA]
  constructor <;> simp only [Lane.seqNext, hpc, hloops]

/-- Where no loop ends, the loops stay as they are. -/
theorem retireLoops_of_none_ends {pc : Nat} {ls : List LoopRec} (h : ls.any (fun e => e.last == pc) = false) :
    retireLoops pc ls = (none, ls) := by
  induction ls with
  | nil => rfl
  | cons e es ih =>
    obtain ⟨he, hes⟩ := by simpa using h
    have rest : es.any (fun e => e.last == pc) = false := by simpa using hes
    simp [retireLoops, he, ih rest]

theorem Lane.seqNext_of_none_ends {l : Lane} (h : l.loops.any (fun e => e.last == l.pc) = false) :
    l.seqNext.pc = l.pc + 1 ∧ l.seqNext.loops = l.loops := by
  simp [Lane.seqNext, retireLoops_of_none_ends h]

theorem Lane.seqNext_of_repeat {l : Lane} {lp : LoopRec} {rest : List LoopRec} (h : l.loops = lp :: rest) (last : lp.last = l.pc)
    (left : 1 < lp.left) : l.seqNext.pc = lp.start ∧ l.seqNext.loops = { lp with left := lp.left - 1 } :: rest := by
  have more : ¬ lp.left ≤ 1 := by omega
  simp [Lane.seqNext, h, retireLoops, last, more]

theorem Lane.seqNext_of_loop_end {l : Lane} {lp : LoopRec} {rest : List LoopRec} (h : l.loops = lp :: rest) (last : lp.last = l.pc)
    (left : lp.left ≤ 1) (none : rest.any (fun e => e.last == l.pc) = false) :
    l.seqNext.pc = l.pc + 1 ∧ l.seqNext.loops = rest := by
  simp [Lane.seqNext, h, retireLoops, last, left, retireLoops_of_none_ends none]

/-- Settles O12: taken and untaken transfers, then the three ways on from an instruction in sequence. -/
theorem flowOfControl : Obligations.FlowOfControl := by
  refine ⟨fun l bank c target last n f op => ⟨fun holds => ?_, fun noEnd => ?_, rfl, rfl, fun pos => ?_⟩,
    fun l bank f op lp rest hl hlast => ?_⟩
  · refine ⟨?_, ?_, ?_, fun r rs hr => ?_⟩ <;> simp [Lane.run, Lane.jump, *]
  · obtain ⟨hpc, hloops⟩ := l.run_fmtA_place bank op f
    obtain ⟨next, loops⟩ := Lane.seqNext_of_none_ends noEnd
    refine ⟨hpc.trans next, hloops.trans loops, fun fails => ?_⟩
    simp only [Lane.run, fails, Bool.false_eq_true, if_false]
    exact ⟨next, next, rfl, next⟩
  · have nonzero : n ≠ 0 := by omega
    simp [Lane.run, Lane.beginLoop, Lane.loopCount, nonzero]
  · rw [(l.run_fmtA_place bank op f).1, (l.run_fmtA_place bank op f).2]
    exact ⟨Lane.seqNext_of_repeat hl hlast, Lane.seqNext_of_loop_end hl hlast⟩

/-! ### The copy's port (R130, R132, R133) -/

/-- Settles O13: POST, and END with and without a task that follows. -/
theorem postAndEndFillThePort : Obligations.PostAndEndFillThePort := by
  refine fun l bank r port => ⟨rfl, fun last => ?_, fun t ts more => ?_⟩
  · simp [Lane.run, Lane.endTask, Lane.finishPeriod, last]
  · simp [Lane.run, Lane.endTask, Lane.startTask, more]

end Sys2Proof.Machine
end

section
/-!
PROOFS. A step, the state after reset, and the three times of the hub (R45, R303 to R310).
-/

set_option Elab.async false

namespace Sys2Proof.Machine

/-! ### Steps and reset -/

/-- Settles O1: by the definition of a step. -/
theorem stepRunsFrontCommand : Obligations.StepRunsFrontCommand := by
  intro c rest s h
  rw [step, h]

theorem step_of_idle {s : State} (h : s.pending = []) : step s = .next s.tick := by
  rw [step, h]

/-- Every field of an object's layout lies in it and reads its reset value from the object's reset contents (Table 02.7). -/
theorem fieldReset_reads_reset (o : Obj) : ∀ f ∈ o.fields, f.obj = o ∧ getBits o.fieldReset f.lo f.width = f.reset := by
  cases o <;> decide +kernel

theorem resetVal_of_ne_fltSrc {o : Obj} (h : o ≠ .fltSrc) (e : Nat) : o.resetVal e = o.fieldReset := by
  cases o with
  | fltSrc => exact absurd rfl h
  | _ => rfl

theorem State.reset_obj (o : Obj) (i e : Nat) : State.reset.obj o i e = o.resetVal e := Nat.zero_xor _

/-- Settles O3: an object's entry at reset is what its fields' reset values make. -/
theorem resetLeavesLayoutValues : Obligations.ResetLeavesLayoutValues := by
  refine ⟨rfl, rfl, rfl, rfl, rfl, fun o f i e hf ho => ?_⟩
  obtain ⟨home, value⟩ := fieldReset_reads_reset o f hf
  rw [State.fld, State.reset_obj, home, resetVal_of_ne_fltSrc ho, value]

/-! ### PTP time (R307) -/

/-- Time passes in units that PTP time and its remainder hold together. -/
theorem TimeSt.ptpRun_exact (t : TimeSt) (k : Nat) (h : t.freq ≤ rateUnit) :
    ((t.ptpRun k).ptp * rateUnit + (t.ptpRun k).ptpAcc : Int) =
      t.ptp * rateUnit + t.ptpAcc + 163840 * k * (rateUnit - t.freq) := by
  have advance : 0 ≤ 163840 * (k : Int) * ((rateUnit : Int) - t.freq) + t.ptpAcc := by
    have : 0 ≤ (rateUnit : Int) - t.freq := by omega
    positivity
  obtain ⟨n, hn⟩ : ∃ n : Nat, (n : Int) = 163840 * (k : Int) * ((rateUnit : Int) - t.freq) + t.ptpAcc :=
    ⟨_, Int.toNat_of_nonneg advance⟩
  have whole : ((n / rateUnit * rateUnit + n % rateUnit : Nat) : Int) = n := by rw [Nat.div_add_mod']
  simp only [TimeSt.ptpRun, ← hn, Int.toNat_natCast]
  push_cast at whole ⊢
  linarith

theorem TimeSt.ptpRun_ptpAcc_lt (t : TimeSt) (k : Nat) : (t.ptpRun k).ptpAcc < rateUnit :=
  Nat.mod_lt _ (by decide)

/-! ### Motion time (R303, R310) -/

theorem clampNat_bounds {lo hi : Nat} (h : lo ≤ hi) (v : Nat) : lo ≤ clampNat v lo hi ∧ clampNat v lo hi ≤ hi := by
  unfold clampNat
  split
  · omega
  · split <;> omega

theorem State.mtTau_pos (s : State) : 1 ≤ s.mtTau := (clampNat_bounds (by decide) _).1

/-- The correction's three cases: at its upper limit, at its lower one, and between them (R310). -/
theorem State.mtCorr_cases (s : State) :
    s.mtCorr = ((s.slewPpm : Int), 10 ^ 6, true) ∨ s.mtCorr = (-(s.slewPpm : Int), 10 ^ 6, true) ∨
    (s.mtCorr = (s.mtDiff, ((s.mtTau * 400000 : Nat) : Int), false) ∧ s.mtDiff * 10 ^ 6 < s.slewPpm * s.mtTau * 400000 ∧
      -((s.slewPpm : Int) * s.mtTau * 400000) < s.mtDiff * 10 ^ 6) := by
  dsimp only [State.mtCorr]
  split
  · exact .inl rfl
  · next below =>
    split
    · exact .inr (.inl rfl)
    · next above => exact .inr (.inr ⟨rfl, by omega, by omega⟩)

/-- The denominator of the correction c is not 0. -/
theorem State.mtCorr_den_pos (s : State) : 0 < s.mtCorr.2.1 := by
  have := s.mtTau_pos
  obtain h | h | ⟨h, -⟩ := s.mtCorr_cases <;> rw [h] <;> simp only <;> omega

/-- |c| never exceeds SLEW (R310). -/
theorem State.mtCorr_bounds (s : State) :
    s.mtCorr.1 * 10 ^ 6 ≤ s.slewPpm * s.mtCorr.2.1 ∧ -(s.slewPpm * s.mtCorr.2.1 : Int) ≤ s.mtCorr.1 * 10 ^ 6 := by
  obtain h | h | ⟨h, below, above⟩ := s.mtCorr_cases
  · rw [h]; simp only; omega
  · rw [h]; simp only; omega
  · have lim : (s.slewPpm : Int) * (s.mtTau * 400000 : Nat) = s.slewPpm * s.mtTau * 400000 := by push_cast; ring
    rw [h]
    simp only [lim]
    omega

/-- A quotient rounded to either neighbour lies within one of the exact one. -/
theorem rounded_quotient (n m : Nat) (hm : 0 < m) (up : Prop) [Decidable up] :
    (n / m + if n % m ≠ 0 ∧ up then 1 else 0) * m ≤ n + m ∧ n ≤ (n / m + (if n % m ≠ 0 ∧ up then 1 else 0) + 1) * m := by
  have whole := Nat.div_add_mod' n m
  have part := Nat.mod_lt n hm
  split <;> constructor <;> simp only [Nat.add_mul] <;> omega

/-- With MT_SRC 1 a cycle's advance is r_ptp × (1 + c) to within one step of 2^-32 tick (R310). -/
theorem State.mtStep_of_src (s : State) (src : s.bit F.TIME_CFG_MT_SRC = true) (hf : s.time.freq ≤ rateUnit)
    (hc : 0 ≤ s.mtCorr.2.1 + s.mtCorr.1) :
    (s.mtStep : Int) * (rateUnit * s.mtCorr.2.1) ≤
      2 ^ 32 * (rateUnit - s.time.freq) * (s.mtCorr.2.1 + s.mtCorr.1) + rateUnit * s.mtCorr.2.1 ∧
    2 ^ 32 * (rateUnit - s.time.freq) * (s.mtCorr.2.1 + s.mtCorr.1) ≤ ((s.mtStep : Int) + 1) * (rateUnit * s.mtCorr.2.1) := by
  have den := s.mtCorr_den_pos
  have rate : 0 ≤ (rateUnit : Int) - s.time.freq := by omega
  obtain ⟨n, hn⟩ : ∃ n : Nat, (n : Int) = 2 ^ 32 * ((rateUnit : Int) - s.time.freq) * (s.mtCorr.2.1 + s.mtCorr.1) :=
    ⟨_, Int.toNat_of_nonneg (mul_nonneg (mul_nonneg (by positivity) rate) hc)⟩
  obtain ⟨m, hm⟩ : ∃ m : Nat, (m : Int) = s.mtCorr.2.1 := ⟨_, Int.toNat_of_nonneg den.le⟩
  have quotient : s.mtStep = n / (rateUnit * m) +
      if n % (rateUnit * m) ≠ 0 ∧ Config.mtRoundUp s.time.osc then 1 else 0 := by
    simp only [State.mtStep, src, if_true]
    rw [← hn, ← hm, Int.toNat_natCast, Int.toNat_natCast]
  have pos : 0 < rateUnit * m := Nat.mul_pos (by decide) (by omega)
  obtain ⟨lo, hi⟩ := rounded_quotient n (rateUnit * m) pos (Config.mtRoundUp s.time.osc = true)
  rw [← quotient] at lo hi
  rw [← hn, ← hm]
  exact ⟨by exact_mod_cast lo, by exact_mod_cast hi⟩

/-- A cycle moves time only, motion time by its advance (R303). -/
theorem State.cycle_spec (s : State) :
    s.cycle = { s with time := s.cycle.time } ∧ s.cycle.time.osc = s.time.osc + 1 ∧
    s.cycle.time.mt * 2 ^ 32 + s.cycle.time.mtFrac = s.time.mt * 2 ^ 32 + s.time.mtFrac + s.mtStep ∧
    s.cycle.time.mtFrac < 2 ^ 32 ∧ s.now ≤ s.cycle.now := by
  obtain ⟨v, hv⟩ : ∃ v, v = s.time.mt * 2 ^ 32 + s.time.mtFrac + s.mtStep := ⟨_, rfl⟩
  have mt : s.cycle.time.mt = v / 2 ^ 32 := by rw [hv]; rfl
  have frac : s.cycle.time.mtFrac = v % 2 ^ 32 := by rw [hv]; rfl
  refine ⟨rfl, rfl, ?_, ?_, ?_⟩
  · rw [mt, frac, ← hv]; exact Nat.div_add_mod' _ _
  · rw [frac]; exact Nat.mod_lt _ (by decide)
  · rw [State.now, State.now, mt]; omega

/-- Settles O2: an idle step, the advance of motion time, and the exact run of PTP time. -/
theorem timeRunsAtItsRates : Obligations.TimeRunsAtItsRates := by
  refine ⟨fun s idle => ⟨s.tick, step_of_idle idle, fun stands => ?_, fun runs => ?_⟩,
    fun s => ⟨fun src => ?_, fun src => ⟨s.mtCorr_bounds, s.mtStep_of_src src⟩⟩,
    fun t k h => ⟨t.ptpRun_exact k h, t.ptpRun_ptpAcc_lt k, rfl⟩⟩
  · rw [State.tick, stands]
    rfl
  · rw [State.tick, if_pos runs]
    exact s.drain.cycle_spec
  · rw [State.mtStep, src]
    rfl

end Sys2Proof.Machine
end

section
/-!
PROOFS. The queue of waiting commands: no operation of the model touches it (log entry 1).
-/

set_option Elab.async false

namespace Sys2Proof.Machine

@[simp] theorem foldl_pending {α : Type} (f : State → α → State) (h : ∀ s a, (f s a).pending = s.pending) (l : List α) (s : State) :
    (l.foldl f s).pending = s.pending := by
  induction l generalizing s with
  | nil => rfl
  | cons a l ih => rw [List.foldl_cons, ih, h]

@[simp] theorem State.forRange_pending (s : State) (n : Nat) (f : State → Nat → State) (h : ∀ s a, (f s a).pending = s.pending) :
    (s.forRange n f).pending = s.pending := by
  simp [State.forRange, h]

/-! ### Operations of Ops -/

@[simp] theorem State.satInc_pending (s : State) (cnt sat : Fld) (inst : Nat) (entry : Nat) : (s.satInc cnt sat inst entry).pending = s.pending := by
  simp -implicitDefEqProofs [State.satInc, apply_ite State.pending]

/-! ### Operations of Time -/

@[simp] theorem State.cycleTo_pending (s : State) (t : Nat) (k : Nat) : (s.cycleTo t k).pending = s.pending := by
  induction k generalizing s with
  | zero => rfl
  | succ k ih =>
    unfold State.cycleTo
    split
    · rfl
    · rw [ih, State.cycle_pending]

@[simp] theorem State.advanceTo_pending (s : State) (t : Nat) : (s.advanceTo t).pending = s.pending := by
  simp -implicitDefEqProofs [State.advanceTo, apply_ite State.pending]

@[simp] theorem State.align_pending (s : State) : s.align.pending = s.pending := by
  simp -implicitDefEqProofs [State.align, apply_ite State.pending]

@[simp] theorem State.ptpStep_pending (s : State) (o : Int) : (s.ptpStep o).pending = s.pending := by
  simp -implicitDefEqProofs [State.ptpStep]

@[simp] theorem State.servoTrim_pending (s : State) (o : Int) : (s.servoTrim o).pending = s.pending := by
  simp -implicitDefEqProofs [State.servoTrim, apply_ite State.pending]

@[simp] theorem State.servoUpdate_pending (s : State) (o : Int) : (s.servoUpdate o).pending = s.pending := by
  simp -implicitDefEqProofs [State.servoUpdate, apply_ite State.pending]

@[simp] theorem State.latchTime_pending (s : State) : s.latchTime.pending = s.pending := by
  simp -implicitDefEqProofs [State.latchTime]

/-! ### Operations of Pwm -/

@[simp] theorem State.drive_pending (s : State) (g k : Nat) (on : Bool) (t : Nat) : (s.drive g k on t).pending = s.pending := by
  simp -implicitDefEqProofs [State.drive, apply_ite State.pending]

@[simp] theorem State.cancel_pending (s : State) (g k : Nat) : (s.cancel g k).pending = s.pending := by
  simp -implicitDefEqProofs [State.cancel]

@[simp] theorem State.plan_pending (s : State) (g k t : Nat) (on : Bool) (kind : ChangeKind) : (s.plan g k t on kind).pending = s.pending := by
  simp -implicitDefEqProofs [State.plan]

@[simp] theorem State.countEaten_pending (s : State) (g : Nat) : (s.countEaten g).pending = s.pending := by
  simp -implicitDefEqProofs [State.countEaten]

@[simp] theorem State.countHeld_pending (s : State) (g : Nat) : (s.countHeld g).pending = s.pending := by
  simp -implicitDefEqProofs [State.countHeld]

@[simp] theorem State.makeChange_pending (s : State) (g k : Nat) (c : SwChange) (t : Nat) (delayed : Bool) : (s.makeChange g k c t delayed).pending = s.pending := by
  simp -implicitDefEqProofs [State.makeChange, apply_ite State.pending]

@[simp] theorem State.makeDue_pending (s : State) (g t : Nat) (on : Bool) (k : Nat) : (s.makeDue g t on k).pending = s.pending := by
  unfold State.makeDue
  (repeat' split) <;> simp -implicitDefEqProofs

@[simp] theorem State.makeNow_pending (s : State) (es : List (Nat × Nat)) (t : Nat) : (s.makeNow es t).pending = s.pending := by
  simp -implicitDefEqProofs [State.makeNow]

@[simp] theorem State.wantOff_pending (s : State) (g k t : Nat) : (s.wantOff g k t).pending = s.pending := by
  simp -implicitDefEqProofs [State.wantOff, apply_ite State.pending]

@[simp] theorem State.wantOn_pending (s : State) (g k t : Nat) : (s.wantOn g k t).pending = s.pending := by
  simp -implicitDefEqProofs [State.wantOn, apply_ite State.pending]

@[simp] theorem State.pairTo_pending (s : State) (g l : Nat) (lv : Bool) (t : Nat) : (s.pairTo g l lv t).pending = s.pending := by
  simp -implicitDefEqProofs [State.pairTo]

@[simp] theorem State.followLeg_pending (s : State) (g l t : Nat) (force : Bool) : (s.followLeg g l t force).pending = s.pending := by
  simp -implicitDefEqProofs [State.followLeg, apply_ite State.pending]

@[simp] theorem State.countTrigger_pending (s : State) (t16 g : Nat) (b : Bool) : (s.countTrigger t16 g b).pending = s.pending := by
  simp -implicitDefEqProofs [State.countTrigger, apply_ite State.pending]

@[simp] theorem State.countTriggers_pending (s : State) (t16 g : Nat) : (s.countTriggers t16 g).pending = s.pending := by
  simp -implicitDefEqProofs [State.countTriggers]

@[simp] theorem State.restTo_pending (s : State) (g t : Nat) (on : Bool) (k : Nat) : (s.restTo g t on k).pending = s.pending := by
  simp -implicitDefEqProofs [State.restTo, apply_ite State.pending]

@[simp] theorem State.enterRest_pending (s : State) (g st t : Nat) : (s.enterRest g st t).pending = s.pending := by
  simp -implicitDefEqProofs [State.enterRest]

@[simp] theorem State.enterState_pending (s : State) (g st : Nat) (waiting : Bool) : (s.enterState g st waiting).pending = s.pending := by
  simp -implicitDefEqProofs [State.enterState, apply_ite State.pending]

@[simp] theorem State.refreshGroup_pending (s : State) (g : Nat) : (s.refreshGroup g).pending = s.pending := by
  simp -implicitDefEqProofs [State.refreshGroup, apply_ite State.pending]

@[simp] theorem State.refreshGang_pending (s : State) (g : Nat) : (s.refreshGang g).pending = s.pending := by
  simp -implicitDefEqProofs [State.refreshGang]

@[simp] theorem State.refreshGroups_pending (s : State) : s.refreshGroups.pending = s.pending := by
  simp -implicitDefEqProofs [State.refreshGroups]

@[simp] theorem State.transferRegs_pending (s0 : State) (g : Nat) : (s0.transferRegs g).pending = s0.pending := by
  simp -implicitDefEqProofs [State.transferRegs]

@[simp] theorem State.startGroup_pending (s : State) (g : Nat) : (s.startGroup g).pending = s.pending := by
  simp -implicitDefEqProofs [State.startGroup, apply_ite State.pending]

@[simp] theorem State.followSet_pending (s : State) (g t16 : Nat) (moved : List Nat) (force : Bool) : (s.followSet g t16 moved force).pending = s.pending := by
  simp -implicitDefEqProofs [State.followSet, apply_ite State.pending]

@[simp] theorem State.transfer_pending (s : State) (gs : List Nat) : (s.transfer gs).pending = s.pending := by
  simp -implicitDefEqProofs [State.transfer]

@[simp] theorem State.releaseOne_pending (s : State) (g : Nat) : (s.releaseOne g).pending = s.pending := by
  simp -implicitDefEqProofs [State.releaseOne, apply_ite State.pending]

@[simp] theorem State.releaseGang_pending (s : State) (gs : List Nat) : (s.releaseGang gs).pending = s.pending := by
  simp -implicitDefEqProofs [State.releaseGang]

@[simp] theorem State.completeSet_pending (s : State) (g : Nat) : (s.completeSet g).pending = s.pending := by
  simp -implicitDefEqProofs [State.completeSet]

@[simp] theorem State.tryRelease_pending (s : State) (g : Nat) : (s.tryRelease g).pending = s.pending := by
  simp -implicitDefEqProofs [State.tryRelease, apply_ite State.pending]

@[simp] theorem State.postCompare_pending (s : State) (g c : Nat) (w : Word24) (poster : Nat) : (s.postCompare g c w poster).pending = s.pending := by
  simp -implicitDefEqProofs [State.postCompare, apply_ite State.pending]

@[simp] theorem State.endMarkSets_pending (s : State) (poster : Nat) : (s.endMarkSets poster).pending = s.pending := by
  simp -implicitDefEqProofs [State.endMarkSets]

@[simp] theorem State.dropGroup_pending (s : State) (g : Nat) : (s.dropGroup g).pending = s.pending := by
  simp -implicitDefEqProofs [State.dropGroup]

@[simp] theorem State.dropSets_pending (s : State) (poster : Nat) : (s.dropSets poster).pending = s.pending := by
  simp -implicitDefEqProofs [State.dropSets]

@[simp] theorem State.closeSets_pending (s : State) : s.closeSets.pending = s.pending := by
  simp -implicitDefEqProofs [State.closeSets]

@[simp] theorem State.transferBoundary_pending (s : State) : s.transferBoundary.pending = s.pending := by
  simp -implicitDefEqProofs [State.transferBoundary]

@[simp] theorem State.transferMid_pending (s : State) : s.transferMid.pending = s.pending := by
  simp -implicitDefEqProofs [State.transferMid]

@[simp] theorem State.latchTrip_pending (s : State) (g src time : Nat) : (s.latchTrip g src time).pending = s.pending := by
  simp -implicitDefEqProofs [State.latchTrip, apply_ite State.pending]

@[simp] theorem State.tripGroups_pending (s : State) (gs : List Nat) (src time : Nat) : (s.tripGroups gs src time).pending = s.pending := by
  simp -implicitDefEqProofs [State.tripGroups, apply_ite State.pending]

@[simp] theorem State.tripInput_pending (s : State) (n time : Nat) (gs : List Nat) : (s.tripInput n time gs).pending = s.pending := by
  simp -implicitDefEqProofs [State.tripInput, apply_ite State.pending]

@[simp] theorem State.tripNamed_pending (s : State) : s.tripNamed.pending = s.pending := by
  simp -implicitDefEqProofs [State.tripNamed, apply_ite State.pending]

@[simp] theorem State.idleGang_pending (s : State) (g : Nat) : (s.idleGang g).pending = s.pending := by
  simp -implicitDefEqProofs [State.idleGang, apply_ite State.pending]

@[simp] theorem State.resetGroup_pending (s : State) (g : Nat) : (s.resetGroup g).pending = s.pending := by
  simp -implicitDefEqProofs [State.resetGroup]

/-! ### Operations of Rings -/

@[simp] theorem State.setHead_pending (s : State) (r : Nat) (p : Pos) : (s.setHead r p).pending = s.pending := by
  simp -implicitDefEqProofs [State.setHead]

@[simp] theorem State.setTail_pending (s : State) (m : Nat) (p : Pos) : (s.setTail m p).pending = s.pending := by
  simp -implicitDefEqProofs [State.setTail]

@[simp] theorem State.hostWrite_pending (s : State) (addr len data : Nat) : (s.hostWrite addr len data).pending = s.pending := by
  simp -implicitDefEqProofs [State.hostWrite, apply_ite State.pending]

@[simp] theorem State.sendMessage_pending (s : State) (v : Nat) : (s.sendMessage v).pending = s.pending := by
  simp -implicitDefEqProofs [State.sendMessage]

@[simp] theorem State.signalled_pending (s : State) (m : Nat) : (s.signalled m).pending = s.pending := by
  simp -implicitDefEqProofs [State.signalled]

@[simp] theorem State.signalCq_pending (s : State) (m : Nat) : (s.signalCq m).pending = s.pending := by
  simp -implicitDefEqProofs [State.signalCq, apply_ite State.pending]

@[simp] theorem State.sendHeld_pending (s : State) (v : Nat) : (s.sendHeld v).pending = s.pending := by
  simp -implicitDefEqProofs [State.sendHeld, apply_ite State.pending]

@[simp] theorem State.putEntry_pending (s : State) (m ph data : Nat) (now : Bool) : (s.putEntry m ph data now).pending = s.pending := by
  simp -implicitDefEqProofs [State.putEntry, apply_ite State.pending]

@[simp] theorem State.putCompletion_pending (s : State) (c : Cmd) (r : Result) : (s.putCompletion c r).pending = s.pending := by
  simp -implicitDefEqProofs [State.putCompletion, apply_ite State.pending]

@[simp] theorem State.flushN_pending (s : State) (k : Nat) : (s.flushN k).pending = s.pending := by
  induction k generalizing s with
  | zero => rfl
  | succ k ih =>
    unfold State.flushN
    (repeat' split) <;> simp -implicitDefEqProofs [ih]

@[simp] theorem State.flushAll_pending (s : State) : s.flushAll.pending = s.pending := by
  simp -implicitDefEqProofs [State.flushAll, apply_ite State.pending]

@[simp] theorem State.finishCmd_pending (s : State) (ref : CmdRef) (o : Result) (need : Nat) : (s.finishCmd ref o need).pending = s.pending := by
  simp -implicitDefEqProofs [State.finishCmd, apply_ite State.pending]

@[simp] theorem State.noteEqFull_pending (s : State) : s.noteEqFull.pending = s.pending := by
  simp -implicitDefEqProofs [State.noteEqFull]

@[simp] theorem State.putEvent_pending (s : State) (e : EventRec) : (s.putEvent e).pending = s.pending := by
  simp -implicitDefEqProofs [State.putEvent, apply_ite State.pending]

@[simp] theorem State.putEvents_pending (s : State) (es : List EventRec) : (s.putEvents es).pending = s.pending := by
  simp -implicitDefEqProofs [State.putEvents]

/-! ### Operations of Fences -/

@[simp] theorem State.setFence_pending (s : State) (b : FenceId) (v : Bool) : (s.setFence b v).pending = s.pending := by
  unfold State.setFence
  split <;> simp -implicitDefEqProofs

@[simp] theorem State.noteRedundancy_pending (s : State) : s.noteRedundancy.pending = s.pending := by
  simp -implicitDefEqProofs [State.noteRedundancy, apply_ite State.pending]

@[simp] theorem State.fenceUnit_pending (s : State) (u : Nat) : (s.fenceUnit u).pending = s.pending := by
  simp -implicitDefEqProofs [State.fenceUnit]

@[simp] theorem State.dropUnsealed_pending (s : State) : s.dropUnsealed.pending = s.pending := by
  simp -implicitDefEqProofs [State.dropUnsealed]

@[simp] theorem State.abandonBuild_pending (s : State) : s.abandonBuild.pending = s.pending := by
  unfold State.abandonBuild
  split <;> simp -implicitDefEqProofs

@[simp] theorem State.startTakeover_pending (s : State) (u source stamp : Nat) : (s.startTakeover u source stamp).pending = s.pending := by
  simp -implicitDefEqProofs [State.startTakeover]

@[simp] theorem State.failTakeover_pending (s : State) (cause : Nat) : (s.failTakeover cause).pending = s.pending := by
  unfold State.failTakeover
  split <;> simp -implicitDefEqProofs

@[simp] theorem State.abandonSwap_pending (s : State) (cause position : Nat) (fence : Bool) : (s.abandonSwap cause position fence).pending = s.pending := by
  unfold State.abandonSwap
  split <;> simp -implicitDefEqProofs

/-! ### Operations of Collector -/

@[simp] theorem State.asOf_pending (s : State) (k : Kind) (stamp : Nat) : (s.asOf k stamp).pending = s.pending := by
  unfold State.asOf
  split <;> simp -implicitDefEqProofs

@[simp] theorem State.showBits_pending (s : State) (src : Nat) : (s.showBits src).pending = s.pending := by
  unfold State.showBits
  split <;> simp -implicitDefEqProofs

@[simp] theorem State.noteRec_pending (s : State) (m : Msg) (v : Verdict) : (s.noteRec m v).pending = s.pending := by
  simp -implicitDefEqProofs [State.noteRec, apply_ite State.pending]

@[simp] theorem State.latch_pending (s : State) (src : Nat) (v : Verdict) : (s.latch src v).pending = s.pending := by
  simp -implicitDefEqProofs [State.latch]

@[simp] theorem State.keepRecord_pending (s : State) (e : EventRec) : (s.keepRecord e).pending = s.pending := by
  simp -implicitDefEqProofs [State.keepRecord]

@[simp] theorem State.noteFirst_pending (s : State) (e : EventRec) : (s.noteFirst e).pending = s.pending := by
  simp -implicitDefEqProofs [State.noteFirst, apply_ite State.pending]

@[simp] theorem State.logEntry_pending (s : State) (e : EventRec) (message flags base : Nat) : (s.logEntry e message flags base).pending = s.pending := by
  simp -implicitDefEqProofs [State.logEntry, apply_ite State.pending]

@[simp] theorem State.markSimul_pending (s : State) (stamp : Nat) : (s.markSimul stamp).pending = s.pending := by
  simp -implicitDefEqProofs [State.markSimul]

@[simp] theorem State.dropFirst_pending (s : State) (stamp : Nat) : (s.dropFirst stamp).pending = s.pending := by
  simp -implicitDefEqProofs [State.dropFirst]

@[simp] theorem State.logEvent_pending (s : State) (m : Msg) (v : Verdict) (e : EventRec) (newLatch newProm first : Bool) : (s.logEvent m v e newLatch newProm first).pending = s.pending := by
  simp -implicitDefEqProofs [State.logEvent, apply_ite State.pending]

@[simp] theorem State.reactSwap_pending (s : State) (src stamp : Nat) : (s.reactSwap src stamp).pending = s.pending := by
  unfold State.reactSwap
  (repeat' split) <;> simp -implicitDefEqProofs [apply_ite State.pending]

@[simp] theorem State.reactSafe_pending (s : State) : s.reactSafe.pending = s.pending := by
  simp -implicitDefEqProofs [State.reactSafe]

@[simp] theorem State.frozenAt_pending (s : State) (seq : Nat) : (s.frozenAt seq).pending = s.pending := by
  simp -implicitDefEqProofs [State.frozenAt]

@[simp] theorem State.freezeAt_pending (s : State) (stamp : Nat) (copy : Bool) : (s.freezeAt stamp copy).pending = s.pending := by
  unfold State.freezeAt
  dsimp only
  split <;> simp -implicitDefEqProofs

@[simp] theorem State.noteFreeze_pending (s : State) (sev stamp : Nat) : (s.noteFreeze sev stamp).pending = s.pending := by
  simp -implicitDefEqProofs [State.noteFreeze, apply_ite State.pending]

theorem State.reactIncoming_pending {s t : State} {src : Nat} (h : s.reactIncoming src = some t) : t.pending = s.pending := by
  unfold State.reactIncoming at h
  split at h
  · split at h
    · rw [← Option.some.inj h, State.failTakeover_pending]
    · cases h
  · cases h

@[simp] theorem State.react_pending (s0 : State) (m : Msg) (sev : Nat) : (s0.react m sev).pending = s0.pending := by
  unfold State.react
  dsimp only
  (repeat' split) <;> simp -implicitDefEqProofs
  all_goals
    rw [State.reactIncoming_pending ‹_›]
    split <;> simp -implicitDefEqProofs

@[simp] theorem State.latchAsOf_pending (s : State) (m : Msg) (v : Verdict) : (s.latchAsOf m v).pending = s.pending := by
  simp -implicitDefEqProofs [State.latchAsOf]

@[simp] theorem State.collectNew_pending (s : State) (m : Msg) : (s.collectNew m).pending = s.pending := by
  simp -implicitDefEqProofs [State.collectNew, apply_ite State.pending]

@[simp] theorem State.collectOn_pending (s : State) (m : Msg) : (s.collectOn m).pending = s.pending := by
  simp -implicitDefEqProofs [State.collectOn, apply_ite State.pending]

@[simp] theorem State.collect_pending (s : State) (m : Msg) : (s.collect m).pending = s.pending := by
  unfold State.collect
  (repeat' split) <;> simp -implicitDefEqProofs

@[simp] theorem State.drainN_pending (s : State) (k : Nat) : (s.drainN k).pending = s.pending := by
  induction k generalizing s with
  | zero => rfl
  | succ k ih =>
    unfold State.drainN
    split
    · rfl
    · simp -implicitDefEqProofs [ih]

@[simp] theorem State.putLost_pending (s : State) : s.putLost.pending = s.pending := by
  simp -implicitDefEqProofs [State.putLost, apply_ite State.pending]

@[simp] theorem State.drain_pending (s : State) : s.drain.pending = s.pending := by
  simp -implicitDefEqProofs [State.drain]

@[simp] theorem State.until_pending (s : State) (t : Nat) : (s.until t).pending = s.pending := by
  simp -implicitDefEqProofs [State.until, apply_ite State.pending]

@[simp] theorem State.tick_pending (s : State) : s.tick.pending = s.pending := by
  simp -implicitDefEqProofs [State.tick, apply_ite State.pending]

@[simp] theorem State.logAck_pending (s : State) (src : Nat) : (s.logAck src).pending = s.pending := by
  simp -implicitDefEqProofs [State.logAck, apply_ite State.pending]

@[simp] theorem State.ackOne_pending (s : State) (src : Nat) : (s.ackOne src).pending = s.pending := by
  simp -implicitDefEqProofs [State.ackOne, apply_ite State.pending]

@[simp] theorem State.faultAck_pending (s : State) (src : Nat) (allInst all : Bool) : (s.faultAck src allInst all).1.pending = s.pending := by
  unfold State.faultAck
  (repeat' split) <;> simp -implicitDefEqProofs

/-! ### Operations of LatchCmp -/

@[simp] theorem State.inputTick_pending (s : State) : s.inputTick.pending = s.pending := by
  simp -implicitDefEqProofs [State.inputTick, apply_ite State.pending]

@[simp] theorem State.latchArm_pending (s : State) (n : Nat) (ref : CmdRef) : (s.latchArm n ref).1.pending = s.pending := by
  unfold State.latchArm
  dsimp only
  (repeat' split) <;> simp -implicitDefEqProofs

@[simp] theorem State.disarmLatch_pending (s : State) (n : Nat) (o : Result) : (s.disarmLatch n o).pending = s.pending := by
  unfold State.disarmLatch
  dsimp only
  (repeat' split) <;> simp -implicitDefEqProofs

@[simp] theorem State.abortLatch_pending (s : State) (n detail : Nat) : (s.abortLatch n detail).pending = s.pending := by
  simp -implicitDefEqProofs [State.abortLatch, apply_ite State.pending]

@[simp] theorem State.latchEdge_pending (s0 : State) (n : Nat) (rising : Bool) (held : Nat) : (s0.latchEdge n rising held).pending = s0.pending := by
  simp -implicitDefEqProofs [State.latchEdge, apply_ite State.pending]

@[simp] theorem State.enterLatch_pending (s : State) (n : Nat) (c : LatchCap) (c1 : Nat) : (s.enterLatch n c c1).pending = s.pending := by
  unfold State.enterLatch
  split <;> simp -implicitDefEqProofs

@[simp] theorem State.latchBoundary_pending (s : State) : s.latchBoundary.pending = s.pending := by
  simp -implicitDefEqProofs [State.latchBoundary, apply_ite State.pending]

@[simp] theorem State.latchFlush_pending (s : State) : s.latchFlush.pending = s.pending := by
  simp -implicitDefEqProofs [State.latchFlush]

@[simp] theorem State.compareArm_pending (s : State) (u dir count pos : Nat) (step : Int) (ref : CmdRef) (c : Nat) : (s.compareArm u dir count pos step ref c).1.pending = s.pending := by
  unfold State.compareArm
  dsimp only
  (repeat' split) <;> simp -implicitDefEqProofs

@[simp] theorem State.compareFire_pending (s : State) (u cNew t : Nat) : (s.compareFire u cNew t).pending = s.pending := by
  unfold State.compareFire
  dsimp only
  (repeat' split) <;> simp -implicitDefEqProofs

@[simp] theorem State.compareUnits_pending (s : State) (ch cOld cNew t : Nat) : (s.compareUnits ch cOld cNew t).pending = s.pending := by
  simp -implicitDefEqProofs [State.compareUnits, apply_ite State.pending]

@[simp] theorem State.disarmCmp_pending (s : State) (u : Nat) (o : Result) : (s.disarmCmp u o).pending = s.pending := by
  unfold State.disarmCmp
  dsimp only
  (repeat' split) <;> simp -implicitDefEqProofs

@[simp] theorem State.disarmUnits_pending (s : State) (p : Nat → Bool) (o : Result) : (s.disarmUnits p o).pending = s.pending := by
  simp -implicitDefEqProofs [State.disarmUnits, apply_ite State.pending]

/-! ### Operations of Feedback -/

@[simp] theorem State.moveCount_pending (s : State) (n : Nat) (dc : Int) (t : Nat) : (s.moveCount n dc t).pending = s.pending := by
  simp -implicitDefEqProofs [State.moveCount]

@[simp] theorem State.noteDir_pending (s : State) (n : Nat) (dc : Int) (t : Nat) : (s.noteDir n dc t).pending = s.pending := by
  simp -implicitDefEqProofs [State.noteDir, apply_ite State.pending]

@[simp] theorem State.countChange_pending (s : State) (n : Nat) (dc : Int) (t : Nat) : (s.countChange n dc t).pending = s.pending := by
  simp -implicitDefEqProofs [State.countChange, apply_ite State.pending]

@[simp] theorem State.quadStep_pending (s : State) (n d : Nat) : (s.quadStep n d).pending = s.pending := by
  simp -implicitDefEqProofs [State.quadStep, apply_ite State.pending]

@[simp] theorem State.hallChange_pending (s0 : State) (n h held : Nat) : (s0.hallChange n h held).pending = s0.pending := by
  unfold State.hallChange
  dsimp only
  (repeat' split) <;> simp -implicitDefEqProofs

@[simp] theorem State.indexCheck_pending (s : State) (n : Nat) : (s.indexCheck n).pending = s.pending := by
  simp -implicitDefEqProofs [State.indexCheck, apply_ite State.pending]

@[simp] theorem State.homeIndex_pending (s : State) (n : Nat) : (s.homeIndex n).pending = s.pending := by
  simp -implicitDefEqProofs [State.homeIndex]

@[simp] theorem State.indexNow_pending (s : State) (n : Nat) : (s.indexNow n).pending = s.pending := by
  simp -implicitDefEqProofs [State.indexNow, apply_ite State.pending]

@[simp] theorem State.indexTry_pending (s : State) (n : Nat) : (s.indexTry n).pending = s.pending := by
  simp -implicitDefEqProofs [State.indexTry, apply_ite State.pending]

@[simp] theorem State.quadChange_pending (s0 : State) (n : Nat) (a b : Bool) (held : Nat) : (s0.quadChange n a b held).pending = s0.pending := by
  simp -implicitDefEqProofs [State.quadChange, apply_ite State.pending]

@[simp] theorem State.indexEdge_pending (s0 : State) (n : Nat) (z : Bool) (held : Nat) : (s0.indexEdge n z held).pending = s0.pending := by
  simp -implicitDefEqProofs [State.indexEdge, apply_ite State.pending]

@[simp] theorem State.measureSpeed_pending (s : State) (n b : Nat) : (s.measureSpeed n b).pending = s.pending := by
  simp -implicitDefEqProofs [State.measureSpeed, apply_ite State.pending]

@[simp] theorem State.fbStatus_pending (s : State) (n : Nat) : (s.fbStatus n).pending = s.pending := by
  simp -implicitDefEqProofs [State.fbStatus]

@[simp] theorem State.measureFb_pending (s : State) (n b : Nat) : (s.measureFb n b).pending = s.pending := by
  simp -implicitDefEqProofs [State.measureFb, apply_ite State.pending]

@[simp] theorem State.startFrame_pending (s : State) (n : Nat) : (s.startFrame n).pending = s.pending := by
  simp -implicitDefEqProofs [State.startFrame]

@[simp] theorem State.frameStart_pending (s0 : State) (n : Nat) : (s0.frameStart n).pending = s0.pending := by
  simp -implicitDefEqProofs [State.frameStart, apply_ite State.pending]

@[simp] theorem State.follow_pending (s : State) (was b : Bool) (k : Kind) (n data : Nat) : (s.follow was b k n data).pending = s.pending := by
  simp -implicitDefEqProofs [State.follow, apply_ite State.pending]

@[simp] theorem State.badFrame_pending (s : State) (n kind : Nat) : (s.badFrame n kind).pending = s.pending := by
  simp -implicitDefEqProofs [State.badFrame]

@[simp] theorem State.validFrame_pending (s : State) (n : Nat) (r : Reply) (f : SerialFrame) : (s.validFrame n r f).pending = s.pending := by
  unfold State.validFrame
  dsimp only
  split <;> simp -implicitDefEqProofs

@[simp] theorem State.endFrame_pending (s : State) (n : Nat) (f : SerialFrame) (r : Reply) : (s.endFrame n f r).pending = s.pending := by
  simp -implicitDefEqProofs [State.endFrame, apply_ite State.pending]

@[simp] theorem State.frameComplete_pending (s0 : State) (n : Nat) (f : SerialFrame) (delay l : Nat) (r : Reply) : (s0.frameComplete n f delay l r).pending = s0.pending := by
  simp -implicitDefEqProofs [State.frameComplete]

@[simp] theorem State.frameFails_pending (s0 : State) (n : Nat) (f : SerialFrame) (endT kind : Nat) : (s0.frameFails n f endT kind).pending = s0.pending := by
  simp -implicitDefEqProofs [State.frameFails, apply_ite State.pending]

@[simp] theorem State.frameTimeout_pending (s : State) (n : Nat) (f : SerialFrame) : (s.frameTimeout n f).pending = s.pending := by
  simp -implicitDefEqProofs [State.frameTimeout]

@[simp] theorem State.frameHigh_pending (s : State) (n : Nat) (f : SerialFrame) : (s.frameHigh n f).pending = s.pending := by
  simp -implicitDefEqProofs [State.frameHigh]

@[simp] theorem State.reinitFb_pending (s : State) (n : Nat) : (s.reinitFb n).pending = s.pending := by
  simp -implicitDefEqProofs [State.reinitFb, apply_ite State.pending]

@[simp] theorem State.settleFb_pending (s : State) (n lands : Nat) : (s.settleFb n lands).pending = s.pending := by
  unfold State.settleFb
  (repeat' split) <;> simp -implicitDefEqProofs

@[simp] theorem State.preset_pending (s : State) (n : Nat) : (s.preset n).pending = s.pending := by
  simp -implicitDefEqProofs [State.preset]

@[simp] theorem State.fbCtrl_pending (s : State) (n : Nat) (preset armHome cntClr serGo : Bool) : (s.fbCtrl n preset armHome cntClr serGo).2.pending = s.pending := by
  unfold State.fbCtrl
  (repeat' split) <;> simp -implicitDefEqProofs

/-! ### Operations of SigmaDelta -/

@[simp] theorem State.emuCfg_pending (s : State) (e : Nat) : (s.emuCfg e).pending = s.pending := by
  simp -implicitDefEqProofs [State.emuCfg]

@[simp] theorem State.emuStep_pending (s0 : State) (e : Nat) : (s0.emuStep e).pending = s0.pending := by
  unfold State.emuStep
  dsimp only
  (repeat' split) <;> simp -implicitDefEqProofs

@[simp] theorem State.measureEmu_pending (s : State) (e : Nat) : (s.measureEmu e).pending = s.pending := by
  simp -implicitDefEqProofs [State.measureEmu]

@[simp] theorem State.sampleInputs_pending (s : State) (a b : Nat) (bits : SMap Nat) : (s.sampleInputs a b bits).pending = s.pending := by
  refine State.forRange_pending s 96 _ fun s i => ?_
  (repeat' split) <;> simp -implicitDefEqProofs

@[simp] theorem State.measureSd_pending (s : State) (i : Nat) : (s.measureSd i).pending = s.pending := by
  simp -implicitDefEqProofs [State.measureSd]

@[simp] theorem State.ocActivate_pending (s : State) (i line : Nat) : (s.ocActivate i line).pending = s.pending := by
  simp -implicitDefEqProofs [State.ocActivate, apply_ite State.pending]

@[simp] theorem State.ocRelease_pending (s : State) (i line : Nat) : (s.ocRelease i line).pending = s.pending := by
  simp -implicitDefEqProofs [State.ocRelease, apply_ite State.pending]

@[simp] theorem State.sdStuck_pending (s : State) (i line : Nat) : (s.sdStuck i line).pending = s.pending := by
  simp -implicitDefEqProofs [State.sdStuck, apply_ite State.pending]

@[simp] theorem State.sdStuckEnd_pending (s : State) (i line : Nat) : (s.sdStuckEnd i line).pending = s.pending := by
  simp -implicitDefEqProofs [State.sdStuckEnd, apply_ite State.pending]

@[simp] theorem State.measureInputs_pending (s : State) (b : Nat) : (s.measureInputs b).pending = s.pending := by
  simp -implicitDefEqProofs [State.measureInputs]

/-! ### Operations of PwmEvents -/

@[simp] theorem State.pwmEdge_pending (s : State) (g l : Nat) : (s.pwmEdge g l).pending = s.pending := by
  unfold State.pwmEdge
  (repeat' split) <;> simp -implicitDefEqProofs

@[simp] theorem State.levelFirst_pending (s : State) (g k t : Nat) (c : SwChange) : (s.levelFirst g k t c).pending = s.pending := by
  simp -implicitDefEqProofs [State.levelFirst, apply_ite State.pending]

@[simp] theorem State.changeDue_pending (s : State) (g k : Nat) (held : Bool) : (s.changeDue g k held).pending = s.pending := by
  unfold State.changeDue
  (repeat' split) <;> simp -implicitDefEqProofs [apply_ite State.pending]

@[simp] theorem State.deadTimeExpiry_pending (s : State) (g k : Nat) : (s.deadTimeExpiry g k).pending = s.pending := by
  simp -implicitDefEqProofs [State.deadTimeExpiry]

@[simp] theorem State.minPulseExpiry_pending (s : State) (g k : Nat) : (s.minPulseExpiry g k).pending = s.pending := by
  simp -implicitDefEqProofs [State.minPulseExpiry]

@[simp] theorem State.triggerFire_pending (s : State) (g : Nat) (b : Bool) : (s.triggerFire g b).pending = s.pending := by
  unfold State.triggerFire
  split <;> simp -implicitDefEqProofs

@[simp] theorem State.tripActive_pending (s : State) (n : Nat) : (s.tripActive n).pending = s.pending := by
  simp -implicitDefEqProofs [State.tripActive, apply_ite State.pending]

@[simp] theorem State.tripInactive_pending (s : State) (n : Nat) : (s.tripInactive n).pending = s.pending := by
  simp -implicitDefEqProofs [State.tripInactive, apply_ite State.pending]

@[simp] theorem State.tripAfterBlank_pending (s0 : State) (g n : Nat) : (s0.tripAfterBlank g n).pending = s0.pending := by
  unfold State.tripAfterBlank
  (repeat' split) <;> simp -implicitDefEqProofs [apply_ite State.pending]

@[simp] theorem State.tripUnnamed_pending (s : State) : s.tripUnnamed.pending = s.pending := by
  simp -implicitDefEqProofs [State.tripUnnamed, apply_ite State.pending]

@[simp] theorem State.settleTrips_pending (s : State) (lands : Nat) : (s.settleTrips lands).pending = s.pending := by
  simp -implicitDefEqProofs [State.settleTrips, apply_ite State.pending]

@[simp] theorem State.pwmCtrl_pending (s : State) (g : Nat) (en tripClr cntClr : Bool) : (s.pwmCtrl g en tripClr cntClr).1.pending = s.pending := by
  unfold State.pwmCtrl
  (repeat' split) <;> simp -implicitDefEqProofs

@[simp] theorem State.restartTriggers_pending (s : State) (g : Nat) : (s.restartTriggers g).pending = s.pending := by
  simp -implicitDefEqProofs [State.restartTriggers]

/-! ### Operations of Can -/

@[simp] theorem State.canState_pending (s : State) (c st : Nat) : (s.canState c st).pending = s.pending := by
  simp -implicitDefEqProofs [State.canState, apply_ite State.pending]

@[simp] theorem State.canErrors_pending (s : State) (c tec rec_ : Nat) : (s.canErrors c tec rec_).pending = s.pending := by
  simp -implicitDefEqProofs [State.canErrors, apply_ite State.pending]

@[simp] theorem State.rxqPut_pending (s : State) (c : Nat) (f : CanFrame) (sof : Nat) : (s.rxqPut c f sof).pending = s.pending := by
  simp -implicitDefEqProofs [State.rxqPut, apply_ite State.pending]

@[simp] theorem State.rxSlotPut_pending (s : State) (c k : Nat) (f : CanFrame) : (s.rxSlotPut c k f).pending = s.pending := by
  simp -implicitDefEqProofs [State.rxSlotPut]

@[simp] theorem State.canReceive_pending (s : State) (c : Nat) (f : CanFrame) (sof : Nat) : (s.canReceive c f sof).pending = s.pending := by
  unfold State.canReceive
  (repeat' split) <;> simp -implicitDefEqProofs

@[simp] theorem State.canTx_pending (s : State) (c v size : Nat) (ref : CmdRef) : (s.canTx c v size ref).1.pending = s.pending := by
  unfold State.canTx
  dsimp only
  (repeat' split) <;> simp -implicitDefEqProofs

@[simp] theorem State.canEnd_pending (s : State) (c : Nat) (p : CanPending) (o : Result) : (s.canEnd c p o).pending = s.pending := by
  unfold State.canEnd
  split <;> simp -implicitDefEqProofs

@[simp] theorem State.slotRequest_pending (s : State) (c d : Nat) : (s.slotRequest c d).pending = s.pending := by
  simp -implicitDefEqProofs [State.slotRequest, apply_ite State.pending]

@[simp] theorem State.postCan_pending (s : State) (c k : Nat) (w : Word24) : (s.postCan c k w).pending = s.pending := by
  simp -implicitDefEqProofs [State.postCan]

@[simp] theorem State.discardCan_pending (s : State) (c : Nat) : (s.discardCan c).pending = s.pending := by
  simp -implicitDefEqProofs [State.discardCan]

@[simp] theorem State.canBoundary_pending (s : State) : s.canBoundary.pending = s.pending := by
  simp -implicitDefEqProofs [State.canBoundary]

@[simp] theorem State.canSof_pending (s : State) (c : Nat) : (s.canSof c).pending = s.pending := by
  unfold State.canSof
  dsimp only
  (repeat' split) <;> simp -implicitDefEqProofs

@[simp] theorem State.canFrameEnd_pending (s : State) (c : Nat) (ok err : Bool) : (s.canFrameEnd c ok err).pending = s.pending := by
  unfold State.canFrameEnd
  dsimp only
  (repeat' split) <;> simp -implicitDefEqProofs

@[simp] theorem State.canBusOff_pending (s : State) (c : Nat) : (s.canBusOff c).pending = s.pending := by
  simp -implicitDefEqProofs [State.canBusOff, apply_ite State.pending]

@[simp] theorem State.resetCan_pending (s : State) (c : Nat) : (s.resetCan c).pending = s.pending := by
  simp -implicitDefEqProofs [State.resetCan]

@[simp] theorem State.measureCan_pending (s : State) (c : Nat) : (s.measureCan c).pending = s.pending := by
  simp -implicitDefEqProofs [State.measureCan]

@[simp] theorem State.canClear_pending (s : State) (c : Nat) : (s.canClear c).pending = s.pending := by
  simp -implicitDefEqProofs [State.canClear]

/-! ### Operations of Objects -/

@[simp] theorem State.setRw_pending (s : State) (o : Obj) (inst v : Nat) : (s.setRw o inst v).pending = s.pending := by
  simp -implicitDefEqProofs [State.setRw]

@[simp] theorem State.loadSnapshot_pending (s : State) (c : List SnapObj) : (s.loadSnapshot c).pending = s.pending := by
  refine foldl_pending _ (fun s e => ?_) c s
  (repeat' split) <;> simp -implicitDefEqProofs

/-! ### Operations of FieldIo -/

@[simp] theorem State.startPulses_pending (s : State) (f : Nat) : (s.startPulses f).pending = s.pending := by
  refine State.forRange_pending s 16 _ fun s u => ?_
  dsimp only
  (repeat' split) <;> simp -implicitDefEqProofs

@[simp] theorem State.diSample_pending (s : State) (i t : Nat) (raw : Bool) : (s.diSample i t raw).pending = s.pending := by
  simp -implicitDefEqProofs [State.diSample, apply_ite State.pending]

@[simp] theorem State.diWindow_pending (s : State) (w di : Nat) : (s.diWindow w di).pending = s.pending := by
  simp -implicitDefEqProofs [State.diWindow]

@[simp] theorem State.diMissed_pending (s : State) : s.diMissed.pending = s.pending := by
  simp -implicitDefEqProofs [State.diMissed]

@[simp] theorem State.diRestart_pending (s : State) : s.diRestart.pending = s.pending := by
  simp -implicitDefEqProofs [State.diRestart]

@[simp] theorem State.fioBoundary_pending (s : State) (b : Nat) : (s.fioBoundary b).pending = s.pending := by
  refine (foldl_pending _ (fun s c => ?_) _ _).trans ?_
  · split <;> simp -implicitDefEqProofs
  · simp -implicitDefEqProofs

@[simp] theorem State.postDo_pending (s : State) (c lane : Nat) (w : Word24) : (s.postDo c lane w).pending = s.pending := by
  unfold State.postDo
  (repeat' split) <;> simp -implicitDefEqProofs

@[simp] theorem State.extDrive_pending (s : State) (c t : Nat) (rb : Bool) : (s.extDrive c t rb).pending = s.pending := by
  simp -implicitDefEqProofs [State.extDrive, apply_ite State.pending]

@[simp] theorem State.doOverload_pending (s : State) (c t : Nat) (o rb : Bool) : (s.doOverload c t o rb).pending = s.pending := by
  simp -implicitDefEqProofs [State.doOverload, apply_ite State.pending]

@[simp] theorem State.fieldSupply_pending (s : State) (v : Nat) : (s.fieldSupply v).pending = s.pending := by
  simp -implicitDefEqProofs [State.fieldSupply, apply_ite State.pending]

@[simp] theorem State.badCopy_pending (s : State) (l : Nat) (up : Bool) (cause : Nat) : (s.badCopy l up cause).pending = s.pending := by
  simp -implicitDefEqProofs [State.badCopy]

@[simp] theorem State.laneFails_pending (s : State) (l : Nat) : (s.laneFails l).pending = s.pending := by
  simp -implicitDefEqProofs [State.laneFails, apply_ite State.pending]

@[simp] theorem State.laneSlot_pending (s : State) (l : Nat) (bad : Bool) : (s.laneSlot l bad).pending = s.pending := by
  simp -implicitDefEqProofs [State.laneSlot, apply_ite State.pending]

@[simp] theorem State.isoLose_pending (s : State) (cause : Nat) : (s.isoLose cause).pending = s.pending := by
  simp -implicitDefEqProofs [State.isoLose, apply_ite State.pending]

@[simp] theorem State.upSlotGood_pending (s : State) (lost : Bool) : (s.upSlotGood lost).pending = s.pending := by
  simp -implicitDefEqProofs [State.upSlotGood, apply_ite State.pending]

@[simp] theorem State.upData_pending (s : State) (f di rb ovl supply : Nat) : (s.upData f di rb ovl supply).pending = s.pending := by
  simp -implicitDefEqProofs [State.upData]

@[simp] theorem State.isoUp_pending (s : State) (e0 e1 : Option (List Byte)) (di rb limit supply : Nat) : (s.isoUp e0 e1 di rb limit supply).pending = s.pending := by
  unfold State.isoUp
  (repeat' split) <;> simp -implicitDefEqProofs [apply_ite State.pending]

@[simp] theorem State.isoUpTimeout_pending (s0 : State) : s0.isoUpTimeout.pending = s0.pending := by
  unfold State.isoUpTimeout
  (repeat' split) <;> simp -implicitDefEqProofs [apply_ite State.pending]

@[simp] theorem State.islSet_pending (s : State) (c : Nat) (l : Bool) : (s.islSet c l).pending = s.pending := by
  simp -implicitDefEqProofs [State.islSet]

@[simp] theorem State.islAllOff_pending (s : State) : s.islAllOff.pending = s.pending := by
  simp -implicitDefEqProofs [State.islAllOff]

@[simp] theorem State.islandTake_pending (s : State) (fr : DownFrame) (lanes : Nat) : (s.islandTake fr lanes).pending = s.pending := by
  simp -implicitDefEqProofs [State.islandTake, apply_ite State.pending]

@[simp] theorem State.islandDown_pending (s : State) (e0 e1 : Option (List Byte)) : (s.islandDown e0 e1).pending = s.pending := by
  unfold State.islandDown
  (repeat' split) <;> simp -implicitDefEqProofs [apply_ite State.pending]

@[simp] theorem State.islandTimeout_pending (s0 : State) : s0.islandTimeout.pending = s0.pending := by
  unfold State.islandTimeout
  (repeat' split) <;> simp -implicitDefEqProofs [apply_ite State.pending]

@[simp] theorem State.closeSlots_pending (s : State) (next : Nat) : (s.closeSlots next).pending = s.pending := by
  simp -implicitDefEqProofs [State.closeSlots, apply_ite State.pending]

@[simp] theorem State.isoDown_pending (s0 : State) : s0.isoDown.pending = s0.pending := by
  simp -implicitDefEqProofs [State.isoDown]

@[simp] theorem State.islandSwitch_pending (s0 : State) (c : Nat) : (s0.islandSwitch c).pending = s0.pending := by
  unfold State.islandSwitch
  split <;> simp -implicitDefEqProofs

@[simp] theorem State.doShutdown_pending (s : State) (c : Nat) : (s.doShutdown c).pending = s.pending := by
  simp -implicitDefEqProofs [State.doShutdown, apply_ite State.pending]

@[simp] theorem State.doRetry_pending (s0 : State) (c : Nat) : (s0.doRetry c).pending = s0.pending := by
  unfold State.doRetry
  (repeat' split) <;> simp -implicitDefEqProofs [apply_ite State.pending]

@[simp] theorem State.islandOff_pending (s : State) : s.islandOff.pending = s.pending := by
  simp -implicitDefEqProofs [State.islandOff]

@[simp] theorem State.islandOn_pending (s : State) : s.islandOn.pending = s.pending := by
  simp -implicitDefEqProofs [State.islandOn, apply_ite State.pending]

@[simp] theorem State.measureFio_pending (s : State) (b : Nat) : (s.measureFio b).pending = s.pending := by
  simp -implicitDefEqProofs [State.measureFio]

@[simp] theorem State.fioClear_pending (s : State) : s.fioClear.pending = s.pending := by
  simp -implicitDefEqProofs [State.fioClear]

/-! ### Operations of Ptp -/

@[simp] theorem State.dropFrame_pending (s : State) (p : Nat) : (s.dropFrame p).pending = s.pending := by
  simp -implicitDefEqProofs [State.dropFrame]

@[simp] theorem State.fcsFrame_pending (s : State) (p : Nat) : (s.fcsFrame p).pending = s.pending := by
  simp -implicitDefEqProofs [State.fcsFrame]

@[simp] theorem State.ptpEmit_pending (s : State) (p : Nat) (m : PtpMsg) : (s.ptpEmit p m).pending = s.pending := by
  simp -implicitDefEqProofs [State.ptpEmit]

@[simp] theorem State.stampRx_pending (s : State) (p sub : Nat) (m : PtpMsg) : (s.stampRx p sub m).pending = s.pending := by
  simp -implicitDefEqProofs [State.stampRx]

@[simp] theorem State.takeTx_pending (s : State) (p mtype seqId : Nat) : (s.takeTx p mtype seqId).1.pending = s.pending := by
  unfold State.takeTx
  dsimp only
  (repeat' split) <;> simp -implicitDefEqProofs

@[simp] theorem State.txStamp_pending (s : State) (p mtype seqId sub : Nat) : (s.txStamp p mtype seqId sub).pending = s.pending := by
  simp -implicitDefEqProofs [State.txStamp, apply_ite State.pending]

@[simp] theorem State.oneStepStamp_pending (s : State) (p seqId sub : Nat) : (s.oneStepStamp p seqId sub).pending = s.pending := by
  simp -implicitDefEqProofs [State.oneStepStamp]

@[simp] theorem State.enterHoldover_pending (s : State) : s.enterHoldover.pending = s.pending := by
  simp -implicitDefEqProofs [State.enterHoldover]

@[simp] theorem State.enterSlave_pending (s : State) (p : Nat) : (s.enterSlave p).pending = s.pending := by
  simp -implicitDefEqProofs [State.enterSlave, apply_ite State.pending]

@[simp] theorem State.enterFree_pending (s : State) : s.enterFree.pending = s.pending := by
  simp -implicitDefEqProofs [State.enterFree, apply_ite State.pending]

@[simp] theorem State.setPortState_pending (s : State) (p st : Nat) (free : Bool) : (s.setPortState p st free).pending = s.pending := by
  simp -implicitDefEqProofs [State.setPortState, apply_ite State.pending]

@[simp] theorem State.setGm_pending (s : State) (gm : Nat) : (s.setGm gm).pending = s.pending := by
  simp -implicitDefEqProofs [State.setGm, apply_ite State.pending]

@[simp] theorem State.qualified_pending (s : State) (p : Nat) : (s.qualified p).pending = s.pending := by
  simp -implicitDefEqProofs [State.qualified, apply_ite State.pending]

@[simp] theorem State.noteGm_pending (s : State) : s.noteGm.pending = s.pending := by
  unfold State.noteGm
  dsimp only
  (repeat' split) <;> simp -implicitDefEqProofs

@[simp] theorem State.follow1588_pending (s : State) (p : Nat) (r : Recommend) : (s.follow1588 p r).pending = s.pending := by
  unfold State.follow1588
  dsimp only
  (repeat' split) <;> simp -implicitDefEqProofs

@[simp] theorem State.decide1588_pending (s : State) : s.decide1588.pending = s.pending := by
  simp -implicitDefEqProofs [State.decide1588]

@[simp] theorem State.portConfigured_pending (s : State) (p : Nat) : (s.portConfigured p).pending = s.pending := by
  simp -implicitDefEqProofs [State.portConfigured, apply_ite State.pending]

@[simp] theorem State.completeSync_pending (s : State) (p t1 t2 : Nat) (corr : Int) : (s.completeSync p t1 t2 corr).pending = s.pending := by
  simp -implicitDefEqProofs [State.completeSync]

@[simp] theorem State.syncRx_pending (s0 : State) (p : Nat) (m : PtpMsg) (sub : Nat) : (s0.syncRx p m sub).pending = s0.pending := by
  simp -implicitDefEqProofs [State.syncRx, apply_ite State.pending]

@[simp] theorem State.followUpRx_pending (s : State) (p : Nat) (m : PtpMsg) : (s.followUpRx p m).pending = s.pending := by
  unfold State.followUpRx
  (repeat' split) <;> simp -implicitDefEqProofs

@[simp] theorem State.setDelay_pending (s : State) (p : Nat) (twice : Int) : (s.setDelay p twice).pending = s.pending := by
  simp -implicitDefEqProofs [State.setDelay]

@[simp] theorem State.delayReqRx_pending (s : State) (p : Nat) (m : PtpMsg) (sub : Nat) : (s.delayReqRx p m sub).pending = s.pending := by
  simp -implicitDefEqProofs [State.delayReqRx, apply_ite State.pending]

@[simp] theorem State.delayRespRx_pending (s : State) (p : Nat) (m : PtpMsg) : (s.delayRespRx p m).pending = s.pending := by
  unfold State.delayRespRx
  split
  · rfl
  · have taken := s.takeTx_pending p mtDelayReq m.seqId
    split <;> simp_all -implicitDefEqProofs

@[simp] theorem State.pdelayReqRx_pending (s : State) (p : Nat) (m : PtpMsg) (sub : Nat) : (s.pdelayReqRx p m sub).pending = s.pending := by
  simp -implicitDefEqProofs [State.pdelayReqRx, apply_ite State.pending]

@[simp] theorem State.pdelayRespRx_pending (s : State) (p : Nat) (m : PtpMsg) (sub : Nat) : (s.pdelayRespRx p m sub).pending = s.pending := by
  unfold State.pdelayRespRx
  have taken := s.takeTx_pending p mtPdelayReq m.seqId
  (repeat' split) <;> simp_all -implicitDefEqProofs

@[simp] theorem State.pdelayFuRx_pending (s : State) (p : Nat) (m : PtpMsg) : (s.pdelayFuRx p m).pending = s.pending := by
  unfold State.pdelayFuRx
  split
  · rfl
  · dsimp only
    split
    · rfl
    · have taken := (s.setEths p { s.eths p with pdHalf := none }).takeTx_pending p mtPdelayReq m.seqId
      split <;> simp_all -implicitDefEqProofs

@[simp] theorem State.announceRx_pending (s : State) (p : Nat) (m : PtpMsg) : (s.announceRx p m).pending = s.pending := by
  simp -implicitDefEqProofs [State.announceRx, apply_ite State.pending]

@[simp] theorem State.ptpRx_pending (s0 : State) (p : Nat) (m : PtpMsg) (sub : Nat) : (s0.ptpRx p m sub).pending = s0.pending := by
  simp -implicitDefEqProofs [State.ptpRx, apply_ite State.pending]

@[simp] theorem State.announceTimeout_pending (s0 : State) (p : Nat) : (s0.announceTimeout p).pending = s0.pending := by
  simp -implicitDefEqProofs [State.announceTimeout, apply_ite State.pending]

@[simp] theorem State.ptpSend_pending (s : State) (p mtype : Nat) : (s.ptpSend p mtype).pending = s.pending := by
  simp -implicitDefEqProofs [State.ptpSend]

@[simp] theorem State.ptpInterval_pending (s0 : State) (p mtype : Nat) : (s0.ptpInterval p mtype).pending = s0.pending := by
  simp -implicitDefEqProofs [State.ptpInterval, apply_ite State.pending]

@[simp] theorem State.sendFollowUp_pending (s : State) (p seqId : Nat) : (s.sendFollowUp p seqId).pending = s.pending := by
  unfold State.sendFollowUp
  have taken := s.takeTx_pending p mtSync seqId
  split <;> simp_all -implicitDefEqProofs

@[simp] theorem State.sendPdelayFu_pending (s : State) (p seqId : Nat) : (s.sendPdelayFu p seqId).pending = s.pending := by
  unfold State.sendPdelayFu
  have taken := s.takeTx_pending p mtPdelayResp seqId
  split <;> simp_all -implicitDefEqProofs

/-! ### Operations of Network -/

@[simp] theorem State.linkChange_pending (s : State) (p : Nat) (up : Bool) (speed : Nat) : (s.linkChange p up speed).pending = s.pending := by
  simp -implicitDefEqProofs [State.linkChange, apply_ite State.pending]

@[simp] theorem State.portOff_pending (s : State) (p : Nat) : (s.portOff p).pending = s.pending := by
  simp -implicitDefEqProofs [State.portOff, apply_ite State.pending]

@[simp] theorem State.resetEth_pending (s : State) (p : Nat) : (s.resetEth p).pending = s.pending := by
  simp -implicitDefEqProofs [State.resetEth, apply_ite State.pending]

@[simp] theorem State.measureEth_pending (s0 : State) (p : Nat) : (s0.measureEth p).pending = s0.pending := by
  simp -implicitDefEqProofs [State.measureEth]

@[simp] theorem State.ethClear_pending (s : State) (p : Nat) : (s.ethClear p).pending = s.pending := by
  simp -implicitDefEqProofs [State.ethClear]

@[simp] theorem State.cycForm_pending (s : State) (a b srcSeq late : Nat) : (s.cycForm a b srcSeq late).pending = s.pending := by
  simp -implicitDefEqProofs [State.cycForm, apply_ite State.pending]

@[simp] theorem State.cycSend_pending (s0 : State) (t : Nat) : (s0.cycSend t).pending = s0.pending := by
  unfold State.cycSend
  dsimp only
  (repeat' split) <;> simp -implicitDefEqProofs

@[simp] theorem State.cycCount_pending (s : State) (r : Nat) (f : Fld) (b : Nat) : (s.cycCount r f b).pending = s.pending := by
  simp -implicitDefEqProofs [State.cycCount, apply_ite State.pending]

@[simp] theorem State.cycAccept_pending (s : State) (r : Nat) (f : CycFrame) : (s.cycAccept r f).pending = s.pending := by
  unfold State.cycAccept
  dsimp only
  (repeat' split) <;> simp -implicitDefEqProofs

@[simp] theorem State.cycReceive_pending (s0 : State) (p : Nat) (fcs : Bool) (payload : List (BitVec 8)) : (s0.cycReceive p fcs payload).pending = s0.pending := by
  unfold State.cycReceive
  (repeat' split) <;> simp -implicitDefEqProofs [apply_ite State.pending]

@[simp] theorem State.cycDeliver_pending (s : State) (r b : Nat) : (s.cycDeliver r b).pending = s.pending := by
  unfold State.cycDeliver
  dsimp only
  (repeat' split) <;> simp -implicitDefEqProofs

@[simp] theorem State.cycBoundary_pending (s : State) (b : Nat) : (s.cycBoundary b).pending = s.pending := by
  simp -implicitDefEqProofs [State.cycBoundary]

/-! ### Operations of MotionHub -/

@[simp] theorem State.deliver_pending (s : State) (a : Nat) (ref : CmdRef) (e : MotionEntry) : (s.deliver a ref e).1.pending = s.pending := by
  unfold State.deliver
  dsimp only
  (repeat' split) <;> simp -implicitDefEqProofs

@[simp] theorem State.motionCmd_pending (s : State) (d : Desc) (ref : CmdRef) : (s.motionCmd d ref).1.pending = s.pending := by
  simp -implicitDefEqProofs [State.motionCmd]

@[simp] theorem State.deliverEntries_pending (s : State) (a : Nat) : (s.deliverEntries a).pending = s.pending := by
  simp -implicitDefEqProofs [State.deliverEntries]

@[simp] theorem State.gearCmd_pending (s : State) (d : Desc) (ref : CmdRef) : (s.gearCmd d ref).1.pending = s.pending := by
  simp -implicitDefEqProofs [State.gearCmd]

@[simp] theorem State.camCmd_pending (s : State) (d : Desc) (ref : CmdRef) : (s.camCmd d ref).1.pending = s.pending := by
  unfold State.camCmd
  dsimp only
  (repeat' split) <;> simp -implicitDefEqProofs

@[simp] theorem State.disengageCmd_pending (s : State) (d : Desc) (ref : CmdRef) : (s.disengageCmd d ref).1.pending = s.pending := by
  simp -implicitDefEqProofs [State.disengageCmd]

@[simp] theorem State.camStageWrite_pending (s : State) (first len data : Nat) : (s.camStageWrite first len data).1.pending = s.pending := by
  unfold State.camStageWrite
  split <;> simp -implicitDefEqProofs

@[simp] theorem State.camCommit_pending (s : State) : s.camCommit.1.pending = s.pending := by
  unfold State.camCommit
  dsimp only
  (repeat' split) <;> simp -implicitDefEqProofs

@[simp] theorem State.camTick_pending (s : State) (a : Nat) : (s.camTick a).pending = s.pending := by
  simp -implicitDefEqProofs [State.camTick, apply_ite State.pending]

@[simp] theorem State.snapCaravan_pending (s : State) (g : Nat) : (s.snapCaravan g).pending = s.pending := by
  unfold State.snapCaravan
  (repeat' split) <;> simp -implicitDefEqProofs

@[simp] theorem State.caravanSeg_pending (s : State) (d : Desc) (data : Nat) (ref : CmdRef) : (s.caravanSeg d data ref).1.pending = s.pending := by
  unfold State.caravanSeg
  dsimp only
  (repeat' split) <;> simp -implicitDefEqProofs

@[simp] theorem State.endSegments_pending (s : State) (g : Nat) (o : Result) (need : Nat) : (s.endSegments g o need).pending = s.pending := by
  simp -implicitDefEqProofs [State.endSegments]

@[simp] theorem State.freeSegments_pending (s : State) (g need : Nat) (k : Nat) : (s.freeSegments g need k).pending = s.pending := by
  induction k generalizing s with
  | zero => rfl
  | succ k ih =>
    unfold State.freeSegments
    dsimp only
    (repeat' split) <;> simp -implicitDefEqProofs [ih]

@[simp] theorem State.takeSegAt_pending (s : State) (a word need : Nat) : (s.takeSegAt a word need).pending = s.pending := by
  unfold State.takeSegAt
  (repeat' split) <;> simp -implicitDefEqProofs [apply_ite State.pending]

@[simp] theorem State.settleAborting_pending (s : State) (g need : Nat) : (s.settleAborting g need).pending = s.pending := by
  simp -implicitDefEqProofs [State.settleAborting, apply_ite State.pending]

@[simp] theorem State.showCaravan_pending (s : State) (g : Nat) : (s.showCaravan g).pending = s.pending := by
  simp -implicitDefEqProofs [State.showCaravan]

@[simp] theorem State.takeDone_pending (s : State) (a word need : Nat) : (s.takeDone a word need).pending = s.pending := by
  unfold State.takeDone
  dsimp only
  split <;> simp -implicitDefEqProofs

@[simp] theorem State.takePub_pending (s : State) (a obj word : Nat) : (s.takePub a obj word).pending = s.pending := by
  unfold State.takePub
  split <;> simp -implicitDefEqProofs

@[simp] theorem State.takeFaults_pending (s : State) (a : Nat) (outer : Bool) (bits stamp : Nat) : (s.takeFaults a outer bits stamp).pending = s.pending := by
  simp -implicitDefEqProofs [State.takeFaults, apply_ite State.pending]

@[simp] theorem State.motionToConfigure_pending (s : State) (need : Nat) : (s.motionToConfigure need).pending = s.pending := by
  simp -implicitDefEqProofs [State.motionToConfigure]

@[simp] theorem State.motionFromConfigure_pending (s : State) : s.motionFromConfigure.pending = s.pending := by
  simp -implicitDefEqProofs [State.motionFromConfigure]

/-! ### Operations of InputRecord -/

@[simp] theorem State.keepPosns_pending (s : State) (axes : SMap AxisIn) : (s.keepPosns axes).pending = s.pending := by
  simp -implicitDefEqProofs [State.keepPosns, apply_ite State.pending]

/-! ### Operations of Survey -/

@[simp] theorem State.openEpoch_pending (s : State) : s.openEpoch.pending = s.pending := by
  simp -implicitDefEqProofs [State.openEpoch]

@[simp] theorem State.fixMap_pending (s : State) : s.fixMap.pending = s.pending := by
  simp -implicitDefEqProofs [State.fixMap]

@[simp] theorem State.writeRecord_pending (s : State) (h : HeadRec) : (s.writeRecord h).pending = s.pending := by
  simp -implicitDefEqProofs [State.writeRecord, apply_ite State.pending]

@[simp] theorem State.sealRecord_pending (s : State) (count epoch seq : Nat) (digest : List Nat) : (s.sealRecord count epoch seq digest).pending = s.pending := by
  simp -implicitDefEqProofs [State.sealRecord, apply_ite State.pending]

@[simp] theorem State.buildBoundary_pending (s : State) : s.buildBoundary.pending = s.pending := by
  simp -implicitDefEqProofs [State.buildBoundary, apply_ite State.pending]

@[simp] theorem State.sealBuild_pending (s : State) : s.sealBuild.pending = s.pending := by
  unfold State.sealBuild
  dsimp only
  (repeat' split) <;> simp -implicitDefEqProofs

@[simp] theorem State.readFull_pending (s : State) (pos : Nat) : (s.readFull pos).pending = s.pending := by
  unfold State.readFull
  (repeat' split) <;> simp -implicitDefEqProofs [apply_ite State.pending]

@[simp] theorem State.startBb_pending (s : State) : s.startBb.pending = s.pending := by
  unfold State.startBb
  (repeat' split) <;> simp -implicitDefEqProofs

@[simp] theorem State.finishBb_pending (s : State) : s.finishBb.pending = s.pending := by
  unfold State.finishBb
  split <;> simp -implicitDefEqProofs

@[simp] theorem State.checkBb_pending (s : State) : s.checkBb.pending = s.pending := by
  simp -implicitDefEqProofs [State.checkBb, apply_ite State.pending]

@[simp] theorem State.signed_pending (s : State) (nonce : Nat) : (s.signed nonce).2.pending = s.pending := by
  simp -implicitDefEqProofs [State.signed]

@[simp] theorem State.exportSetup_pending (s0 : State) : s0.exportSetup.1.pending = s0.pending := by
  unfold State.exportSetup
  dsimp only
  (repeat' split) <;> simp -implicitDefEqProofs

@[simp] theorem State.replayLoad_pending (s0 : State) : s0.replayLoad.1.pending = s0.pending := by
  unfold State.replayLoad
  dsimp only
  (repeat' split) <;> simp -implicitDefEqProofs

@[simp] theorem State.showSurvey_pending (s : State) : s.showSurvey.pending = s.pending := by
  simp -implicitDefEqProofs [State.showSurvey]

@[simp] theorem State.survClear_pending (s : State) : s.survClear.pending = s.pending := by
  simp -implicitDefEqProofs [State.survClear]

@[simp] theorem State.unfreeze_pending (s : State) : s.unfreeze.pending = s.pending := by
  simp -implicitDefEqProofs [State.unfreeze]

@[simp] theorem State.surveyFreeze_pending (s : State) (noCopy : Bool) : (s.surveyFreeze noCopy).1.pending = s.pending := by
  unfold State.surveyFreeze
  (repeat' split) <;> simp -implicitDefEqProofs

/-! ### Operations of Pairs -/

@[simp] theorem State.mirrorApply_pending (s : State) : s.mirrorApply.pending = s.pending := by
  unfold State.mirrorApply
  split <;> simp -implicitDefEqProofs

@[simp] theorem State.mirrorTo_pending (s : State) (q : Nat) (k : Nat) : (s.mirrorTo q k).pending = s.pending := by
  induction k generalizing s with
  | zero => rfl
  | succ k ih =>
    unfold State.mirrorTo
    split
    · rfl
    · rw [ih, State.mirrorApply_pending]

@[simp] theorem State.openCairn_pending (s0 : State) (u q : Nat) : (s0.openCairn u q).pending = s0.pending := by
  unfold State.openCairn
  dsimp only
  (repeat' split) <;> simp -implicitDefEqProofs

@[simp] theorem State.startPeriod_pending (s0 : State) (u l q : Nat) : (s0.startPeriod u l q).pending = s0.pending := by
  unfold State.startPeriod
  dsimp only
  (repeat' split) <;> simp -implicitDefEqProofs

@[simp] theorem State.dispatchNext_pending (s : State) (u l : Nat) : (s.dispatchNext u l).pending = s.pending := by
  unfold State.dispatchNext
  dsimp only
  (repeat' split) <;> simp -implicitDefEqProofs

@[simp] theorem State.dispatch_pending (s : State) (u l q : Nat) : (s.dispatch u l q).pending = s.pending := by
  simp -implicitDefEqProofs [State.dispatch]

@[simp] theorem State.dispatchUnit_pending (s : State) (u q : Nat) : (s.dispatchUnit u q).pending = s.pending := by
  simp -implicitDefEqProofs [State.dispatchUnit, apply_ite State.pending]

@[simp] theorem State.deltaOverflow_pending (s : State) (u l : Nat) : (s.deltaOverflow u l).pending = s.pending := by
  simp -implicitDefEqProofs [State.deltaOverflow]

@[simp] theorem State.takeDoneOf_pending (s : State) (a q : Nat) (w : Word24) (ws : List (Nat × Word24)) : (s.takeDoneOf a q w ws).pending = s.pending := by
  simp -implicitDefEqProofs [State.takeDoneOf]

@[simp] theorem State.postBox_pending (s : State) (l slot : Nat) (w : Word24) : (s.postBox l slot w).pending = s.pending := by
  simp -implicitDefEqProofs [State.postBox]

@[simp] theorem State.postSeal_pending (s : State) (q port : Nat) (w : Word24) : (s.postSeal q port w).pending = s.pending := by
  simp -implicitDefEqProofs [State.postSeal]

@[simp] theorem State.releaseWord_pending (l q : Nat) (ws : List (Nat × Word24)) (s : State) (e : Nat × Word24) : (State.releaseWord l q ws s e).pending = s.pending := by
  unfold State.releaseWord
  (repeat' split) <;> simp -implicitDefEqProofs [apply_ite State.pending]

@[simp] theorem State.releasePair_pending (s : State) (u l q : Nat) : (s.releasePair u l q).pending = s.pending := by
  simp -implicitDefEqProofs [State.releasePair, apply_ite State.pending]

@[simp] theorem State.addTrace_pending (s : State) (u l q : Nat) (p : Post) : (s.addTrace u l q p).pending = s.pending := by
  simp -implicitDefEqProofs [State.addTrace, apply_ite State.pending]

@[simp] theorem State.failMigrate_pending (s : State) (cause : Nat) : (s.failMigrate cause).pending = s.pending := by
  unfold State.failMigrate
  split <;> simp -implicitDefEqProofs

@[simp] theorem State.remap_pending (s : State) (m : SMap Nat) : (s.remap m).pending = s.pending := by
  simp -implicitDefEqProofs [State.remap]

@[simp] theorem State.mapStandby_pending (s : State) : s.mapStandby.pending = s.pending := by
  simp -implicitDefEqProofs [State.mapStandby]

@[simp] theorem State.movePlace_pending (s : State) (a b : Nat) : (s.movePlace a b).pending = s.pending := by
  simp -implicitDefEqProofs [State.movePlace]

@[simp] theorem State.setRetired_pending (s : State) (u l : Nat) (b : Bool) : (s.setRetired u l b).pending = s.pending := by
  simp -implicitDefEqProofs [State.setRetired, apply_ite State.pending]

@[simp] theorem State.noteLaneSpares_pending (s : State) (u was : Nat) : (s.noteLaneSpares u was).pending = s.pending := by
  simp -implicitDefEqProofs [State.noteLaneSpares, apply_ite State.pending]

@[simp] theorem State.restartWindow_pending (s : State) (at_ : Nat) : (s.restartWindow at_).pending = s.pending := by
  simp -implicitDefEqProofs [State.restartWindow]

@[simp] theorem State.endMigrate_pending (s : State) (m : MigrateSt) (q : Nat) : (s.endMigrate m q).pending = s.pending := by
  simp -implicitDefEqProofs [State.endMigrate]

@[simp] theorem State.compareTraces_pending (s : State) (pos q : Nat) : (s.compareTraces pos q).pending = s.pending := by
  unfold State.compareTraces
  (repeat' split) <;> simp -implicitDefEqProofs [apply_ite State.pending]

@[simp] theorem State.popPosts_pending (s : State) (u l : Nat) : (s.popPosts u l).pending = s.pending := by
  simp -implicitDefEqProofs [State.popPosts]

@[simp] theorem State.mismatch_pending (s : State) (u l : Nat) : (s.mismatch u l).pending = s.pending := by
  simp -implicitDefEqProofs [State.mismatch, apply_ite State.pending]

@[simp] theorem State.notePost_pending (s : State) (u l q : Nat) (w : Post) : (s.notePost u l q w).pending = s.pending := by
  simp -implicitDefEqProofs [State.notePost]

@[simp] theorem State.acceptOutput_pending (s : State) (u l q port : Nat) (w : Word24) : (s.acceptOutput u l q port w).pending = s.pending := by
  unfold State.acceptOutput
  (repeat' split) <;> simp -implicitDefEqProofs

@[simp] theorem State.acceptDelta_pending (s0 : State) (u l q : Nat) (e : DeltaEntry) : (s0.acceptDelta u l q e).pending = s0.pending := by
  unfold State.acceptDelta
  dsimp only
  (repeat' split) <;> simp -implicitDefEqProofs

@[simp] theorem State.noteSlack_pending (s : State) (u l q instr deltas : Nat) : (s.noteSlack u l q instr deltas).pending = s.pending := by
  simp -implicitDefEqProofs [State.noteSlack, apply_ite State.pending]

@[simp] theorem State.noteLane_pending (s : State) (u l q instr deltas : Nat) (sflag : Bool) : (s.noteLane u l q instr deltas sflag).pending = s.pending := by
  simp -implicitDefEqProofs [State.noteLane, apply_ite State.pending]

@[simp] theorem State.endPeriod_pending (s : State) (u l q : Nat) : (s.endPeriod u l q).pending = s.pending := by
  simp -implicitDefEqProofs [State.endPeriod, apply_ite State.pending]

@[simp] theorem State.acceptEnd_pending (s0 : State) (u l q instr : Nat) (sflag : Bool) (deltas : Nat) : (s0.acceptEnd u l q instr sflag deltas).pending = s0.pending := by
  simp -implicitDefEqProofs [State.acceptEnd, apply_ite State.pending]

@[simp] theorem State.acceptPost_pending (s : State) (u l q : Nat) (w : Post) : (s.acceptPost u l q w).pending = s.pending := by
  unfold State.acceptPost
  split <;> simp -implicitDefEqProofs

@[simp] theorem State.endWithheld_pending (s : State) (u l q : Nat) : (s.endWithheld u l q).pending = s.pending := by
  unfold State.endWithheld
  split <;> simp -implicitDefEqProofs

@[simp] theorem State.adoptTrace_pending (s0 : State) (t : Nat × Nat × Nat × List Post) : (s0.adoptTrace t).pending = s0.pending := by
  simp -implicitDefEqProofs [State.adoptTrace, apply_ite State.pending]

@[simp] theorem State.adopt_pending (s : State) : s.adopt.pending = s.pending := by
  unfold State.adopt
  (repeat' split) <;> simp -implicitDefEqProofs

@[simp] theorem State.takePost_pending (s0 : State) (u l : Nat) (k : PostKind) : (s0.takePost u l k).pending = s0.pending := by
  unfold State.takePost
  dsimp only
  (repeat' split) <;> simp -implicitDefEqProofs

/-! ### Operations of LaneOps -/

@[simp] theorem State.parityErrors_pending (s : State) (c : CopyId) (hits : List (LaneMem × Nat)) : (s.parityErrors c hits).pending = s.pending := by
  simp -implicitDefEqProofs [State.parityErrors]

@[simp] theorem State.showDebug_pending (s : State) : s.showDebug.pending = s.pending := by
  simp -implicitDefEqProofs [State.showDebug]

@[simp] theorem State.haltGroups_pending (s : State) (l : Nat) (b : Bool) : (s.haltGroups l b).pending = s.pending := by
  simp -implicitDefEqProofs [State.haltGroups]

@[simp] theorem State.haltCopy_pending (s : State) (l c : Nat) : (s.haltCopy l c).pending = s.pending := by
  simp -implicitDefEqProofs [State.haltCopy, apply_ite State.pending]

/-! ### Operations of Admission -/

@[simp] theorem State.showPlace_pending (s : State) (ts : List TaskAlloc) (pos lane : Nat) : (s.showPlace ts pos lane).pending = s.pending := by
  simp -implicitDefEqProofs [State.showPlace]

@[simp] theorem State.place_pending (s : State) : s.place.pending = s.pending := by
  simp -implicitDefEqProofs [State.place]

@[simp] theorem State.unplace_pending (s : State) : s.unplace.pending = s.pending := by
  simp -implicitDefEqProofs [State.unplace]

/-! ### Operations of Images -/

@[simp] theorem State.showSlots_pending (s : State) : s.showSlots.pending = s.pending := by
  simp -implicitDefEqProofs [State.showSlots]

@[simp] theorem State.showUnits_pending (s : State) : s.showUnits.pending = s.pending := by
  simp -implicitDefEqProofs [State.showUnits]

@[simp] theorem State.setLoaded_pending (s : State) (u : Nat) (b : Bool) : (s.setLoaded u b).pending = s.pending := by
  simp -implicitDefEqProofs [State.setLoaded, apply_ite State.pending]

@[simp] theorem State.setMaster_pending (s : State) (a b : SMap Word24) : (s.setMaster a b).pending = s.pending := by
  simp -implicitDefEqProofs [State.setMaster]

@[simp] theorem State.loadPair_pending (s : State) (u l : Nat) (prog : SMap Word48) (a b : SMap Word24) : (s.loadPair u l prog a b).pending = s.pending := by
  simp -implicitDefEqProofs [State.loadPair]

@[simp] theorem State.loadUnit_pending (s : State) (u n : Nat) (a b : SMap Word24) : (s.loadUnit u n a b).pending = s.pending := by
  simp -implicitDefEqProofs [State.loadUnit, apply_ite State.pending]

@[simp] theorem State.unloadUnit_pending (s : State) (u : Nat) : (s.unloadUnit u).pending = s.pending := by
  simp -implicitDefEqProofs [State.unloadUnit]

@[simp] theorem State.settlePending_pending (s : State) (n : Nat) : (s.settlePending n).pending = s.pending := by
  simp -implicitDefEqProofs [State.settlePending, apply_ite State.pending]

@[simp] theorem State.reloadUnit_pending (s : State) (u : Nat) (src : Bool) : (s.reloadUnit u src).pending = s.pending := by
  unfold State.reloadUnit
  (repeat' split) <;> simp -implicitDefEqProofs

@[simp] theorem State.reloadPair_pending (s : State) (u l : Nat) : (s.reloadPair u l).pending = s.pending := by
  unfold State.reloadPair
  split <;> simp -implicitDefEqProofs

@[simp] theorem State.imageWrite_pending (s : State) (n off len data : Nat) (last : Bool) : (s.imageWrite n off len data last).1.pending = s.pending := by
  unfold State.imageWrite
  (repeat' split) <;> simp -implicitDefEqProofs

/-! ### Operations of Redundancy -/

@[simp] theorem State.restoreCopy_pending (s : State) (u l pos c : Nat) : (s.restoreCopy u l pos c).pending = s.pending := by
  simp -implicitDefEqProofs [State.restoreCopy]

@[simp] theorem State.restorePair_pending (s : State) (u l pos : Nat) : (s.restorePair u l pos).pending = s.pending := by
  simp -implicitDefEqProofs [State.restorePair]

@[simp] theorem State.restoreUnit_pending (s : State) (u : Nat) : (s.restoreUnit u).pending = s.pending := by
  simp -implicitDefEqProofs [State.restoreUnit, apply_ite State.pending]

@[simp] theorem State.wakeFails_pending (s : State) (u : Nat) : (s.wakeFails u).pending = s.pending := by
  simp -implicitDefEqProofs [State.wakeFails]

@[simp] theorem State.restorationDone_pending (s : State) : s.restorationDone.pending = s.pending := by
  unfold State.restorationDone
  (repeat' split) <;> simp -implicitDefEqProofs

@[simp] theorem State.makeActive_pending (s : State) (u : Nat) : (s.makeActive u).pending = s.pending := by
  simp -implicitDefEqProofs [State.makeActive, apply_ite State.pending]

@[simp] theorem State.handover_pending (s : State) (t : TakeoverSt) : (s.handover t).pending = s.pending := by
  simp -implicitDefEqProofs [State.handover]

@[simp] theorem State.takeoverBoundary_pending (s : State) (reach : Bool) : (s.takeoverBoundary reach).pending = s.pending := by
  unfold State.takeoverBoundary
  (repeat' split) <;> simp -implicitDefEqProofs

@[simp] theorem State.swapBoundary_pending (s : State) : s.swapBoundary.pending = s.pending := by
  unfold State.swapBoundary
  (repeat' split) <;> simp -implicitDefEqProofs

@[simp] theorem State.migrateBoundary_pending (s : State) : s.migrateBoundary.pending = s.pending := by
  unfold State.migrateBoundary
  (repeat' split) <;> simp -implicitDefEqProofs

@[simp] theorem State.autoReload_pending (s : State) : s.autoReload.pending = s.pending := by
  unfold State.autoReload
  (repeat' split) <;> simp -implicitDefEqProofs

@[simp] theorem State.swapCmd_pending (s : State) (ref : CmdRef) : (s.swapCmd ref).1.pending = s.pending := by
  unfold State.swapCmd
  (repeat' split) <;> simp -implicitDefEqProofs

@[simp] theorem State.startMigrate_pending (s : State) (l pos spare : Nat) : (s.startMigrate l pos spare).pending = s.pending := by
  simp -implicitDefEqProofs [State.startMigrate]

@[simp] theorem State.redCtrl_pending (s : State) (migrate : Bool) (l : Nat) (unretire : Bool) (u : Nat) (clr : Bool) : (s.redCtrl migrate l unretire u clr).1.pending = s.pending := by
  unfold State.redCtrl
  (repeat' split) <;> simp -implicitDefEqProofs

@[simp] theorem State.evalLane_pending (s : State) (l ratio : Nat) : (s.evalLane l ratio).pending = s.pending := by
  simp -implicitDefEqProofs [State.evalLane, apply_ite State.pending]

@[simp] theorem State.autoMigrate_pending (s : State) : s.autoMigrate.pending = s.pending := by
  unfold State.autoMigrate
  dsimp only
  (repeat' split) <;> simp -implicitDefEqProofs

@[simp] theorem State.evalWindow_pending (s : State) : s.evalWindow.pending = s.pending := by
  simp -implicitDefEqProofs [State.evalWindow, apply_ite State.pending]

@[simp] theorem State.replaceRow_pending (s : State) (row : Nat) : (s.replaceRow row).pending = s.pending := by
  simp -implicitDefEqProofs [State.replaceRow, apply_ite State.pending]

@[simp] theorem State.showRed_pending (s : State) : s.showRed.pending = s.pending := by
  simp -implicitDefEqProofs [State.showRed]

@[simp] theorem State.showSpares_pending (s : State) : s.showSpares.pending = s.pending := by
  simp -implicitDefEqProofs [State.showSpares]

/-! ### Operations of ObjAccess -/

@[simp] theorem State.applyRw_pending (s : State) (w : Wr) : (s.applyRw w).pending = s.pending := by
  simp -implicitDefEqProofs [State.applyRw]

/-! ### Operations of Boot -/

@[simp] theorem State.moduleReset_pending (s : State) (cause : Nat) : (s.moduleReset cause).pending = s.pending := by
  simp -implicitDefEqProofs [State.moduleReset]

@[simp] theorem State.logicStops_pending (s : State) : s.logicStops.pending = s.pending := by
  simp -implicitDefEqProofs [State.logicStops]

@[simp] theorem State.setUnattested_pending (s : State) (b : Bool) : (s.setUnattested b).pending = s.pending := by
  simp -implicitDefEqProofs [State.setUnattested, apply_ite State.pending]

@[simp] theorem State.eraseKeys_pending (s : State) : s.eraseKeys.pending = s.pending := by
  simp -implicitDefEqProofs [State.eraseKeys]

@[simp] theorem State.setStage_pending (s : State) (n : Nat) : (s.setStage n).pending = s.pending := by
  simp -implicitDefEqProofs [State.setStage]

@[simp] theorem State.bootUnit_pending (s : State) (u n : Nat) (readOk : Bool) : (s.bootUnit u n readOk).pending = s.pending := by
  simp -implicitDefEqProofs [State.bootUnit, apply_ite State.pending]

@[simp] theorem State.bootImage_pending (s : State) (n : Nat) (readA readB : Bool) : (s.bootImage n readA readB).pending = s.pending := by
  simp -implicitDefEqProofs [State.bootImage, apply_ite State.pending]

@[simp] theorem State.chooseSlot_pending (s : State) (ns : List Nat) : (s.chooseSlot ns).1.pending = s.pending := by
  induction ns generalizing s with
  | nil => rfl
  | cons n ns ih =>
    unfold State.chooseSlot
    split
    · rfl
    · rw [ih, State.setSlot_pending]

@[simp] theorem State.bootUp_pending (s : State) (selfTest readA readB : Bool) (lands : Nat) : (s.bootUp selfTest readA readB lands).pending = s.pending := by
  unfold State.bootUp
  dsimp only
  (repeat' split) <;> simp -implicitDefEqProofs

/-! ### Operations of Resets -/

@[simp] theorem State.addJob_pending (s : State) (j : ResetJob) : (s.addJob j).pending = s.pending := by
  simp -implicitDefEqProofs [State.addJob]

@[simp] theorem State.stopPair_pending (s : State) (u l : Nat) : (s.stopPair u l).pending = s.pending := by
  simp -implicitDefEqProofs [State.stopPair]

@[simp] theorem State.unrestore_pending (s : State) (u : Nat) (lane : Option Nat) : (s.unrestore u lane).pending = s.pending := by
  simp -implicitDefEqProofs [State.unrestore]

@[simp] theorem State.resetFb_pending (s : State) (n : Nat) (ref : Option CmdRef) : (s.resetFb n ref).pending = s.pending := by
  simp -implicitDefEqProofs [State.resetFb]

@[simp] theorem State.resetPwm_pending (s : State) (g : Nat) (ref : Option CmdRef) : (s.resetPwm g ref).pending = s.pending := by
  simp -implicitDefEqProofs [State.resetPwm]

@[simp] theorem State.resetCanBlock_pending (s : State) (c : Nat) (ref : Option CmdRef) : (s.resetCanBlock c ref).pending = s.pending := by
  simp -implicitDefEqProofs [State.resetCanBlock]

@[simp] theorem State.resetEthBlock_pending (s : State) (p : Nat) (ref : Option CmdRef) : (s.resetEthBlock p ref).pending = s.pending := by
  simp -implicitDefEqProofs [State.resetEthBlock]

@[simp] theorem State.resetLanePair_pending (s : State) (u l : Nat) (ref : Option CmdRef) : (s.resetLanePair u l ref).1.pending = s.pending := by
  unfold State.resetLanePair
  split <;> simp -implicitDefEqProofs

@[simp] theorem State.resetUnit_pending (s : State) (u : Nat) (src : Bool) (ref : Option CmdRef) : (s.resetUnit u src ref).1.pending = s.pending := by
  unfold State.resetUnit
  (repeat' split) <;> simp -implicitDefEqProofs

@[simp] theorem State.reinit_pending (s : State) (j : ResetJob) (readOk : Bool) (lands : Nat) : (s.reinit j readOk lands).1.pending = s.pending := by
  unfold State.reinit
  (repeat' split) <;> simp -implicitDefEqProofs

@[simp] theorem State.lowerFence_pending (s : State) (b : FenceId) (readOk : Bool) (lands : Nat) : (s.lowerFence b readOk lands).pending = s.pending := by
  unfold State.lowerFence
  split
  · rfl
  · next j _ =>
    dsimp only
    split
    · refine (foldl_pending _ (fun s j => ?_) _ _).trans ?_
      · split <;> simp -implicitDefEqProofs
      · split <;> simp -implicitDefEqProofs
    · simp -implicitDefEqProofs

/-! ### Operations of Modes -/

@[simp] theorem State.replayConfig_pending (s : State) : s.replayConfig.pending = s.pending := by
  unfold State.replayConfig
  split <;> simp -implicitDefEqProofs

@[simp] theorem State.setMode_pending (s : State) (m : Nat) : (s.setMode m).pending = s.pending := by
  simp -implicitDefEqProofs [State.setMode, apply_ite State.pending]

theorem State.withSurv_pending (s : State) (v : SurvSt) : ({ s with surv := v } : State).pending = s.pending := rfl

/-- The loop at the end of REPLAY that gives every lane pair its banks back; the banks stand as variables, for no check should unfold
them. -/
theorem State.giveBanks_pending (s : State) (a b : SMap Word24) :
    (s.forRange 12 fun s l =>
      let put := fun (s : State) c =>
        s.setLane s.activeUnit l c { s.lane s.activeUnit l c with bankA := a, bankB := b }
      if s.fenced (.lane s.activeUnit l) then s else put (put s 0) 1).pending = s.pending := by
  refine State.forRange_pending s 12 _ fun s l => ?_
  split <;> simp -implicitDefEqProofs

@[simp] theorem State.leaveReplay_pending (s : State) : s.leaveReplay.pending = s.pending := by
  unfold State.leaveReplay
  split
  · rfl
  · refine (State.withSurv_pending _ _).trans ((State.giveBanks_pending _ _ _).trans ?_)
    exact (State.setFld_pending ..).trans (State.loadSnapshot_pending ..)

@[simp] theorem State.stopPeriods_pending (s : State) : s.stopPeriods.pending = s.pending := by
  simp -implicitDefEqProofs [State.stopPeriods, apply_ite State.pending]

@[simp] theorem State.enterConfigure_pending (s : State) : s.enterConfigure.pending = s.pending := by
  simp -implicitDefEqProofs [State.enterConfigure, apply_ite State.pending]

@[simp] theorem State.acceptDeparture_pending (s : State) (m : Nat) (ref : Option CmdRef) : (s.acceptDeparture m ref).pending = s.pending := by
  simp -implicitDefEqProofs [State.acceptDeparture, apply_ite State.pending]

@[simp] theorem State.clearRegions_pending (s : State) (u l pos : Nat) : (s.clearRegions u l pos).pending = s.pending := by
  simp -implicitDefEqProofs [State.clearRegions]

@[simp] theorem State.freshRed_pending (s : State) : s.freshRed.pending = s.pending := by
  simp -implicitDefEqProofs [State.freshRed, apply_ite State.pending]

@[simp] theorem State.replayLanes_pending (s : State) : s.replayLanes.pending = s.pending := by
  unfold State.replayLanes
  (repeat' split) <;> simp -implicitDefEqProofs [apply_ite State.pending]

@[simp] theorem State.leaveConfigure_pending (s : State) (m b : Nat) : (s.leaveConfigure m b).pending = s.pending := by
  unfold State.leaveConfigure
  (repeat' split) <;> simp -implicitDefEqProofs

@[simp] theorem State.modeRequest_pending (s : State) (m : Nat) (ref : Option CmdRef) : (s.modeRequest m ref).1.pending = s.pending := by
  unfold State.modeRequest
  (repeat' split) <;> simp -implicitDefEqProofs

@[simp] theorem State.safeBoundary_pending (s : State) : s.safeBoundary.pending = s.pending := by
  simp -implicitDefEqProofs [State.safeBoundary, apply_ite State.pending]

/-! ### Operations of Service -/

@[simp] theorem State.showSec_pending (s : State) : s.showSec.pending = s.pending := by
  simp -implicitDefEqProofs [State.showSec]

@[simp] theorem State.showSealed_pending (s : State) : s.showSealed.pending = s.pending := by
  simp -implicitDefEqProofs [State.showSealed]

@[simp] theorem State.secCfgkey_pending (s : State) (w : Wr) : (s.secCfgkey w).1.pending = s.pending := by
  unfold State.secCfgkey
  split <;> simp -implicitDefEqProofs

@[simp] theorem State.genIdCmd_pending (s : State) (ref : CmdRef) : (s.genIdCmd ref).1.pending = s.pending := by
  unfold State.genIdCmd
  (repeat' split) <;> simp -implicitDefEqProofs

@[simp] theorem State.openCmd_pending (s : State) (ref : CmdRef) : (s.openCmd ref).1.pending = s.pending := by
  unfold State.openCmd
  split <;> simp -implicitDefEqProofs

@[simp] theorem State.logErase_pending (s : State) : s.logErase.1.pending = s.pending := by
  unfold State.logErase
  (repeat' split) <;> simp -implicitDefEqProofs

@[simp] theorem State.secCtrl_pending (s : State) (genId openIt logErase : Bool) (code : Nat) (ref : CmdRef) : (s.secCtrl genId openIt logErase code ref).1.pending = s.pending := by
  unfold State.secCtrl
  (repeat' split) <;> simp -implicitDefEqProofs

@[simp] theorem State.finishAll_pending (s : State) (refs : List CmdRef) (o : Result) : (s.finishAll refs o).pending = s.pending := by
  simp -implicitDefEqProofs [State.finishAll]

@[simp] theorem State.keyGenDone_pending (s : State) : s.keyGenDone.pending = s.pending := by
  simp -implicitDefEqProofs [State.keyGenDone, apply_ite State.pending]

@[simp] theorem State.eraseDone_pending (s : State) : s.eraseDone.pending = s.pending := by
  simp -implicitDefEqProofs [State.eraseDone, apply_ite State.pending]

@[simp] theorem State.debugHalt_pending (s : State) : s.debugHalt.pending = s.pending := by
  simp -implicitDefEqProofs [State.debugHalt]

@[simp] theorem State.dropStepPosts_pending (s : State) (l : Nat) : (s.dropStepPosts l).pending = s.pending := by
  simp -implicitDefEqProofs [State.dropStepPosts, apply_ite State.pending]

@[simp] theorem State.debugResume_pending (s : State) : s.debugResume.pending = s.pending := by
  simp -implicitDefEqProofs [State.debugResume, apply_ite State.pending]

@[simp] theorem State.resumeBoundary_pending (s : State) : s.resumeBoundary.pending = s.pending := by
  simp -implicitDefEqProofs [State.resumeBoundary, apply_ite State.pending]

@[simp] theorem State.laneMemWrite_pending (s : State) (param off len data : Nat) : (s.laneMemWrite param off len data).pending = s.pending := by
  simp -implicitDefEqProofs [State.laneMemWrite]

@[simp] theorem State.attest_pending (s : State) (nonce hostAddr : Nat) : (s.attest nonce hostAddr).1.pending = s.pending := by
  unfold State.attest
  (repeat' split) <;> simp -implicitDefEqProofs

/-! ### Operations of ObjWrite -/

@[simp] theorem State.zeroFlds_pending (s : State) (inst : Nat) (fs : List Fld) : (s.zeroFlds inst fs).pending = s.pending := by
  simp -implicitDefEqProofs [State.zeroFlds]

@[simp] theorem State.slackClear_pending (s : State) (w : Wr) : (s.slackClear w).pending = s.pending := by
  simp -implicitDefEqProofs [State.slackClear]

@[simp] theorem State.bankSwap_pending (s : State) : s.bankSwap.pending = s.pending := by
  simp -implicitDefEqProofs [State.bankSwap]

@[simp] theorem State.pokeBank_pending (s : State) (u l : Nat) (bankB : Bool) (a : Nat) (v : Word24) : (s.pokeBank u l bankB a v).pending = s.pending := by
  simp -implicitDefEqProofs [State.pokeBank]

@[simp] theorem State.coefWrite_pending (s : State) (w : Wr) (bankB : Bool) : (s.coefWrite w bankB).1.pending = s.pending := by
  unfold State.coefWrite
  (repeat' split) <;> simp -implicitDefEqProofs [apply_ite State.pending]

@[simp] theorem State.fltCfg_pending (s : State) (w : Wr) : (s.fltCfg w).pending = s.pending := by
  simp -implicitDefEqProofs [State.fltCfg, apply_ite State.pending]

@[simp] theorem State.keepSrc_pending (s : State) (w : Wr) : (s.keepSrc w).pending = s.pending := by
  simp -implicitDefEqProofs [State.keepSrc]

@[simp] theorem State.fltSrc_pending (s : State) (w : Wr) : (s.fltSrc w).1.pending = s.pending := by
  unfold State.fltSrc
  dsimp only
  (repeat' split) <;> simp -implicitDefEqProofs

@[simp] theorem State.force_pending (s : State) (w : Wr) : (s.force w).1.pending = s.pending := by
  unfold State.force
  dsimp only
  split
  · rfl
  · refine (foldl_pending _ (fun t k => ?_) _ _).trans (State.applyRw_pending ..)
    (repeat' split) <;> simp -implicitDefEqProofs

@[simp] theorem State.canCfg_pending (s : State) (w : Wr) : (s.canCfg w).pending = s.pending := by
  simp -implicitDefEqProofs [State.canCfg, apply_ite State.pending]

@[simp] theorem State.replayWrite_pending (s : State) (w : Wr) : (s.replayWrite w).1.pending = s.pending := by
  unfold State.replayWrite
  dsimp only
  split <;> simp -implicitDefEqProofs

@[simp] theorem State.survCtrl_pending (s : State) (unfreeze clr : Bool) : (s.survCtrl unfreeze clr).pending = s.pending := by
  simp -implicitDefEqProofs [State.survCtrl, apply_ite State.pending]

/-! ### Operations of Commands -/

@[simp] theorem State.releaseAborts_pending (s : State) (p : CmdRef → Bool) : (s.releaseAborts p).pending = s.pending := by
  simp -implicitDefEqProofs [State.releaseAborts]

theorem State.canAbort_pending {s t : State} {ref self : CmdRef} (h : s.canAbort ref self = some t) : t.pending = s.pending := by
  obtain ⟨c, -, hc⟩ := List.exists_of_findSome?_eq_some h
  dsimp only at hc
  split at hc
  · cases hc
  · split at hc <;> (rw [← Option.some.inj hc]; simp -implicitDefEqProofs)

theorem State.abortMotion_pending {s t : State} {target self : CmdRef} (h : s.abortMotion target self = some t) :
    t.pending = s.pending := by
  unfold State.abortMotion at h
  split at h
  · cases h
  · dsimp only at h
    split at h <;> (rw [← Option.some.inj h]; simp -implicitDefEqProofs)

theorem State.abortCaravan_pending {s t : State} {target self : CmdRef} (h : s.abortCaravan target self = some t) :
    t.pending = s.pending := by
  obtain ⟨g, -, hg⟩ := List.exists_of_findSome?_eq_some h
  dsimp only at hg
  split at hg
  · rw [← Option.some.inj hg]; simp -implicitDefEqProofs
  · cases hg

theorem State.stopTarget_pending {s t : State} {op : Nat} {target self : CmdRef} (h : s.stopTarget op target self = some t) :
    t.pending = s.pending := by
  unfold State.stopTarget at h
  dsimp only at h
  split at h
  iterate 7 exact State.abortMotion_pending h
  · exact State.abortCaravan_pending h
  · obtain ⟨n, -, rfl⟩ := Option.map_eq_some_iff.mp h
    exact State.abortLatch_pending ..
  · obtain ⟨u, -, rfl⟩ := Option.map_eq_some_iff.mp h
    exact State.disarmCmp_pending ..
  · exact State.canAbort_pending h
  · cases h

theorem State.stopTarget_getD_pending (s : State) (op : Nat) (target self : CmdRef) :
    ((s.stopTarget op target self).getD s).pending = s.pending := by
  cases h : s.stopTarget op target self with
  | none => rfl
  | some t => exact State.stopTarget_pending h

@[simp] theorem State.abort_pending (s : State) (t self : CmdRef) : (s.abort t self).1.pending = s.pending := by
  unfold State.abort
  dsimp only
  (repeat' split) <;> simp -implicitDefEqProofs [State.stopTarget_getD_pending]

@[simp] theorem State.readCmd_pending (s : State) (d : Desc) (o : Obj) (i : Nat) : (s.readCmd d o i).1.pending = s.pending := by
  unfold State.readCmd
  (repeat' split) <;> simp -implicitDefEqProofs

@[simp] theorem State.noteApplied_pending (s : State) (c : Cmd) : (s.noteApplied c).pending = s.pending := by
  simp -implicitDefEqProofs [State.noteApplied]

@[simp] theorem State.flushDisabled_pending (s : State) : s.flushDisabled.pending = s.pending := by
  simp -implicitDefEqProofs [State.flushDisabled]

@[simp] theorem State.keepEarly_pending (s : State) (cs : List Cmd) : (s.keepEarly cs).pending = s.pending := by
  simp -implicitDefEqProofs [State.keepEarly]

@[simp] theorem State.failDesc_pending (s : State) (c : Cmd) (before after : List Cmd) (o : Result) : (s.failDesc c before after o).pending = s.pending := by
  simp -implicitDefEqProofs [State.failDesc]

@[simp] theorem State.readBuffer_pending (s : State) (d : Desc) : (s.readBuffer d).pending = s.pending := by
  simp -implicitDefEqProofs [State.readBuffer]

@[simp] theorem State.uploadWrite_pending (s : State) (off len data : Nat) : (s.uploadWrite off len data).1.pending = s.pending := by
  unfold State.uploadWrite
  split <;> simp -implicitDefEqProofs

@[simp] theorem State.logRead_pending (s : State) (first len addr : Nat) : (s.logRead first len addr).1.pending = s.pending := by
  unfold State.logRead
  (repeat' split) <;> simp -implicitDefEqProofs [apply_ite State.pending]

end Sys2Proof.Machine
end

section
/-!
PROOFS. The queue of waiting commands, continued: the operations that may stop, and the step over every command (log entry 1).
-/

set_option Elab.async false

namespace Sys2Proof.Machine

/-! ### Operations that may stop -/

/-- Every outcome that is no stop leaves the queue `q`; `g` takes the state from the outcome. -/
def LeavesQueue {α : Type} (q : List Instr) (g : α → State) (r : Except Fault α) : Prop := ∀ a, r = .ok a → (g a).pending = q

@[simp] theorem leavesQueue_ok {α : Type} {q : List Instr} {g : α → State} {a : α} :
    LeavesQueue q g (.ok a) ↔ (g a).pending = q :=
  ⟨fun h => h a rfl, fun h _ e => Except.ok.inj e ▸ h⟩

@[simp] theorem leavesQueue_error {α : Type} {q : List Instr} {g : α → State} {f : Fault} : LeavesQueue q g (.error f) :=
  fun _ e => nomatch e

/-- The same of a command's outcome. -/
def OutLeavesQueue (q : List Instr) (r : Out) : Prop := ∀ t, r = .next t → t.pending = q

@[simp] theorem outLeavesQueue_next {q : List Instr} {t : State} : OutLeavesQueue q (.next t) ↔ t.pending = q :=
  ⟨fun h => h t rfl, fun h _ e => Host.Outcome.next.inj e ▸ h⟩

@[simp] theorem outLeavesQueue_fault {q : List Instr} {f : Fault} : OutLeavesQueue q (.fault f) :=
  fun _ e => nomatch e

/-! ### Lane instructions -/

theorem State.runStd_queue (s : State) (n : Nat) (x : AxisIn) (t : TaskAlloc) (l : Lane) (b : Bool) :
    LeavesQueue s.pending Prod.snd (s.runStd n x t l b) := by
  unfold State.runStd
  dsimp only
  (repeat' split) <;> simp -implicitDefEqProofs

theorem State.stdPosts_queue (s : State) (c : CopyId) (op : LaneOp) : LeavesQueue s.pending Prod.snd (s.stdPosts c op) := by
  unfold State.stdPosts
  dsimp only
  split
  · split
    · exact s.runStd_queue _ _ _ _ _
    · simp
  · simp

theorem State.retire_queue (s : State) (c : CopyId) (op : LaneOp) : OutLeavesQueue s.pending (s.retire c op) := by
  unfold State.retire
  dsimp only
  split
  · simp
  · split
    · simp
    · next ps s1 posted =>
      have kept : s1.pending = s.pending := s.stdPosts_queue c op _ posted
      rw [outLeavesQueue_next]
      (repeat' split) <;> simp -implicitDefEqProofs [kept]

theorem State.retireIf_queue (s : State) (c : CopyId) (op : LaneOp) : OutLeavesQueue s.pending (s.retireIf c op) := by
  unfold State.retireIf
  (repeat' split)
  · simp -implicitDefEqProofs
  · exact s.retire_queue c op
  · simp

theorem State.stepCopy_queue (s : State) (l : Nat) (c : Fin 2) : LeavesQueue s.pending id (s.stepCopy l c) := by
  unfold State.stepCopy
  dsimp only
  (repeat' split) <;> first | exact leavesQueue_error | skip
  · simp
  · next op _ _ _ retired => exact leavesQueue_ok.mpr (s.retire_queue _ op _ retired)
  · simp

theorem State.debugStep_queue (s : State) : LeavesQueue s.pending id s.debugStep := by
  unfold State.debugStep
  split
  · simp
  · split
    · simp
    · next s1 first =>
      split
      · simp
      · next s2 second =>
        have h1 : s1.pending = s.pending := s.stepCopy_queue _ _ _ first
        have h2 : s2.pending = s1.pending := s1.stepCopy_queue _ _ _ second
        simp -implicitDefEqProofs [h1, h2]

theorem State.secDebug_queue (s : State) (halt step resume : Bool) : LeavesQueue s.pending id (s.secDebug halt step resume) := by
  have begun : (if halt then s.showDebug.debugHalt else s.showDebug).pending = s.pending := by
    split <;> simp -implicitDefEqProofs
  unfold State.secDebug
  dsimp only
  generalize (if halt then s.showDebug.debugHalt else s.showDebug) = s1 at begun ⊢
  have stepped : LeavesQueue s.pending id (if step then s1.debugStep else .ok s1) := by
    rw [← begun]
    split
    · exact s1.debugStep_queue
    · simp
  split
  · simp
  · next s2 h =>
    have kept : s2.pending = s.pending := stepped _ h
    rw [leavesQueue_ok]
    split <;> simp -implicitDefEqProofs [kept]

/-! ### Writes of objects -/

theorem State.sysReset_queue (s : State) (kind idx unit : Nat) (src : Bool) (ref : Option CmdRef) :
    LeavesQueue s.pending Prod.fst (s.sysReset kind idx unit src ref) := by
  unfold State.sysReset later
  (repeat' split) <;> simp -implicitDefEqProofs

theorem State.fbCtrlWrite_queue (s : State) (w : Wr) : LeavesQueue s.pending Prod.fst (s.fbCtrlWrite w) := by
  unfold State.fbCtrlWrite okWrite
  dsimp only
  have kept := (s.applyRw w).fbCtrl_pending w.inst (w.actBit F.FB_CTRL_PRESET) (w.actBit F.FB_CTRL_ARM_HOME)
    (w.actBit F.FB_CTRL_CNT_CLR) (w.actBit F.FB_CTRL_SER_GO)
  (repeat' split) <;> simp_all -implicitDefEqProofs

theorem State.exportWrite_queue (s : State) (w : Wr) : LeavesQueue s.pending Prod.fst (s.exportWrite w) := by
  unfold State.exportWrite okWrite answer
  dsimp only
  (repeat' split) <;> simp -implicitDefEqProofs

theorem State.objEffect_queue (s : State) (w : Wr) (param : Nat) (ref : CmdRef) (lands : Nat) :
    LeavesQueue s.pending Prod.fst (s.objEffect w param ref lands) := by
  unfold State.objEffect okWrite answer
  dsimp only
  (repeat' split) <;>
    simp -implicitDefEqProofs [State.sysReset_queue, State.fbCtrlWrite_queue, State.exportWrite_queue]
  next t opened => exact (State.secDebug_queue _ _ _ _ _ opened).trans (State.applyRw_pending ..)

theorem State.objWrite_queue (s : State) (w : Wr) (param : Nat) (ref : CmdRef) (lands : Nat) :
    LeavesQueue s.pending Prod.fst (s.objWrite w param ref lands) := by
  unfold State.objWrite answer
  (repeat' split) <;> simp -implicitDefEqProofs [State.objEffect_queue]

/-! ### Descriptors at their application -/

theorem State.withObj_queue (s : State) (id : Nat) (f : Obj → Nat → Applied) (h : ∀ o i, LeavesQueue s.pending Prod.fst (f o i)) :
    LeavesQueue s.pending Prod.fst (s.withObj id f) := by
  unfold State.withObj
  (repeat' split) <;> simp [h]

theorem State.effect_queue (s : State) (c : Cmd) (lands : Nat) : LeavesQueue s.pending Prod.fst (s.effect c lands) := by
  unfold State.effect okWrite atOnce
  dsimp only
  (repeat' split) <;>
    simp -implicitDefEqProofs [State.withObj_queue, State.objWrite_queue]

theorem State.apply_queue (s : State) (c : Cmd) (lands : Nat) : LeavesQueue s.pending id (s.apply c lands) := by
  unfold State.apply
  dsimp only
  split
  · simp -implicitDefEqProofs
  · have effect := State.effect_queue ((s.mapCmd (c.ring, c.index, c.phase) fun x =>
      { x with stage := .applied, appliedAt := if s.per.running then s.per.t0 else s.now
               appliedSeq := if s.per.running then s.per.seq else 0 }).noteApplied c) c lands
    split
    · simp
    · next applied =>
      have kept := effect _ applied
      simp -implicitDefEqProofs at kept
      simp -implicitDefEqProofs [kept]
    · next applied =>
      have kept := effect _ applied
      simp -implicitDefEqProofs at kept
      simp -implicitDefEqProofs [kept]

theorem State.applyChain_queue (s : State) (lands : Nat) (cs : List Cmd) : LeavesQueue s.pending id (s.applyChain lands cs) := by
  induction cs generalizing s with
  | nil => simp [State.applyChain]
  | cons c cs ih =>
    unfold State.applyChain
    split
    · simp
    · split
      · simp -implicitDefEqProofs
      · split
        · simp
        · next t applied =>
          have kept : t.pending = s.pending := s.apply_queue _ _ _ applied
          have rest := ih (t.enter c)
          rwa [State.enter_pending, kept] at rest

theorem State.takeRing_queue (s : State) (r k : Nat) : LeavesQueue s.pending id (s.takeRing r k) := by
  induction k generalizing s with
  | zero => simp [State.takeRing]
  | succ k ih =>
    unfold State.takeRing
    split
    · simp
    · split
      · simp
      · split
        · simp
        · next t applied =>
          have kept : t.pending = s.pending := s.applyChain_queue _ _ _ applied
          exact kept ▸ ih t

theorem State.takeRings_queue (s : State) (rs : List Nat) : LeavesQueue s.pending id (s.takeRings rs) := by
  induction rs generalizing s with
  | nil => simp [State.takeRings]
  | cons r rs ih =>
    unfold State.takeRings
    split
    · simp
    · next t taken =>
      have kept : t.pending = s.pending := ((s.atRing r).takeRing_queue r 33 _ taken).trans (s.atRing_pending r)
      exact kept ▸ ih t

theorem State.takeUpTo_queue (s : State) (last : Nat) : LeavesQueue s.pending id (s.takeUpTo last) := by
  unfold State.takeUpTo
  (repeat' split) <;> simp [State.takeRings_queue]

theorem State.applyNow_queue (s : State) (r lands k : Nat) : LeavesQueue s.pending id (s.applyNow r lands k) := by
  induction k generalizing s with
  | zero => simp [State.applyNow]
  | succ k ih =>
    unfold State.applyNow
    split
    · split
      · split
        · simp
        · next t applied =>
          have kept : t.pending = s.pending := s.applyChain_queue _ _ _ applied
          exact kept ▸ ih t
      · simp
    · simp

theorem State.configureApply_queue (s : State) (r lands : Nat) : LeavesQueue s.pending id (s.configureApply r lands) := by
  unfold State.configureApply
  dsimp only
  split
  · next c cs _ =>
    split
    · have applied := (s.until c.dueAt).applyChain_queue lands (c :: cs)
      rwa [State.until_pending] at applied
    · simp -implicitDefEqProofs
  · simp

theorem State.validate_queue (s : State) (r host : Nat) (e d : Option Nat) (at_ : Nat) :
    LeavesQueue s.pending id (s.validate r host e d at_) := by
  unfold State.validate
  dsimp only
  (repeat' split) <;> simp -implicitDefEqProofs

/-! ### Bulk transfers -/

theorem State.bulkEffect_queue (s : State) (d : Desc) (len data : Nat) (last : Bool) :
    LeavesQueue s.pending Prod.fst (s.bulkEffect d len data last) := by
  unfold State.bulkEffect
  dsimp only
  (repeat' split) <;> simp -implicitDefEqProofs

theorem State.bulkRun_queue (s : State) (c : Cmd) : LeavesQueue s.pending id (s.bulkRun c) := by
  unfold State.bulkRun
  split
  · simp
  · next t o ran =>
    have kept : t.pending = s.pending := s.bulkEffect_queue _ _ _ _ _ ran
    simp -implicitDefEqProofs [kept]

theorem State.bulkAbandon_queue (s : State) (c : Cmd) (blocks : Nat) : LeavesQueue s.pending id (s.bulkAbandon c blocks) := by
  have part (n : Nat) :
      LeavesQueue s.pending Prod.fst (if n = 0 then .ok (s, done) else s.bulkEffect c.desc n (c.data % 2 ^ (8 * n)) false) := by
    split
    · simp
    · exact s.bulkEffect_queue _ _ _ _
  unfold State.bulkAbandon
  dsimp only
  split
  · simp
  · next t o cut => exact leavesQueue_ok.mpr (part _ _ cut)

/-! ### Operations of HostRows -/

@[simp] theorem State.showLink_pending (s : State) (speed width : Nat) : (s.showLink speed width).pending = s.pending := by
  simp -implicitDefEqProofs [State.showLink]

@[simp] theorem State.linkLost_pending (s : State) : s.linkLost.pending = s.pending := by
  simp -implicitDefEqProofs [State.linkLost, apply_ite State.pending]

@[simp] theorem State.linkFound_pending (s : State) (speed width : Nat) : (s.linkFound speed width).pending = s.pending := by
  simp -implicitDefEqProofs [State.linkFound]

@[simp] theorem State.enableRing_pending (s : State) (r : Nat) : (s.enableRing r).pending = s.pending := by
  simp -implicitDefEqProofs [State.enableRing]

@[simp] theorem State.disableRing_pending (s : State) (r : Nat) : (s.disableRing r).pending = s.pending := by
  simp -implicitDefEqProofs [State.disableRing, apply_ite State.pending]

@[simp] theorem State.afterEqDoorbell_pending (s : State) : s.afterEqDoorbell.pending = s.pending := by
  simp -implicitDefEqProofs [State.afterEqDoorbell]

@[simp] theorem State.writeBar2_pending (s : State) (i v : Nat) : (s.writeBar2 i v).pending = s.pending := by
  simp -implicitDefEqProofs [State.writeBar2, apply_ite State.pending]

@[simp] theorem State.writeBar2Other_pending (s : State) (o size v : Nat) : (s.writeBar2Other o size v).pending = s.pending := by
  simp -implicitDefEqProofs [State.writeBar2Other, apply_ite State.pending]

@[simp] theorem State.busMasterOn_pending (s : State) : s.busMasterOn.pending = s.pending := by
  simp -implicitDefEqProofs [State.busMasterOn]

@[simp] theorem State.fetch_pending (s : State) (r : Nat) (d : Desc) : (s.fetch r d).pending = s.pending := by
  simp -implicitDefEqProofs [State.fetch, apply_ite State.pending]

@[simp] theorem State.cutTransfer_pending (s : State) (b blocks : Nat) : (s.cutTransfer b blocks).pending = s.pending := by
  unfold State.cutTransfer
  split
  · rfl
  · split
    · split
      · rfl
      · split
        · next t cut =>
          have kept : t.pending = s.pending := s.bulkAbandon_queue _ _ _ cut
          split <;> simp -implicitDefEqProofs [kept]
        · rfl
    · rfl

@[simp] theorem State.resetHost_pending (s : State) (b0 b1 : Nat) : (s.resetHost b0 b1).pending = s.pending := by
  simp -implicitDefEqProofs [State.resetHost, apply_ite State.pending]

/-! ### Operations of Boundary -/

@[simp] theorem State.measure_pending (s : State) (b : Nat) : (s.measure b).pending = s.pending := by
  simp -implicitDefEqProofs [State.measure]

@[simp] theorem State.writeIdleEvents_pending (s : State) : s.writeIdleEvents.pending = s.pending := by
  simp -implicitDefEqProofs [State.writeIdleEvents]

@[simp] theorem State.midPeriod_pending (s0 : State) : s0.midPeriod.pending = s0.pending := by
  simp -implicitDefEqProofs [State.midPeriod, apply_ite State.pending]

@[simp] theorem State.deadlineAt_pending (s : State) (u l : Nat) : (s.deadlineAt u l).pending = s.pending := by
  simp -implicitDefEqProofs [State.deadlineAt, apply_ite State.pending]

@[simp] theorem State.deadline_pending (s0 : State) : s0.deadline.pending = s0.pending := by
  simp -implicitDefEqProofs [State.deadline, apply_ite State.pending]

@[simp] theorem State.noteBehind_pending (s : State) : s.noteBehind.pending = s.pending := by
  unfold State.noteBehind
  dsimp only
  split
  · rfl
  · refine State.forRange_pending s 12 _ fun s l => ?_
    (repeat' split) <;> simp -implicitDefEqProofs

@[simp] theorem State.mailBoundary_pending (s : State) : s.mailBoundary.pending = s.pending := by
  unfold State.mailBoundary
  dsimp only
  rw [State.forRange_pending]
  intro s i
  (repeat' split) <;> simp -implicitDefEqProofs

@[simp] theorem State.nextPeriod_pending (s : State) : s.nextPeriod.pending = s.pending := by
  simp -implicitDefEqProofs [State.nextPeriod]

@[simp] theorem State.latchInputs_pending (s : State) (b : Nat) : (s.latchInputs b).pending = s.pending := by
  simp -implicitDefEqProofs [State.latchInputs]

@[simp] theorem State.dispatchTo_pending (s : State) (u : Nat) : (s.dispatchTo u).pending = s.pending := by
  simp -implicitDefEqProofs [State.dispatchTo, apply_ite State.pending]

@[simp] theorem State.dispatchPeriod_pending (s : State) : s.dispatchPeriod.pending = s.pending := by
  unfold State.dispatchPeriod
  dsimp only
  (repeat' split) <;> simp -implicitDefEqProofs

@[simp] theorem State.replayCommand_pending (s : State) (e : CmdEntry) : (s.replayCommand e).pending = s.pending := by
  unfold State.replayCommand
  (repeat' split) <;> simp -implicitDefEqProofs [apply_ite State.pending]

@[simp] theorem State.stopReplay_pending (s : State) (cause : Nat) : (s.stopReplay cause).pending = s.pending := by
  simp -implicitDefEqProofs [State.stopReplay]

@[simp] theorem State.replayRecord_pending (s : State) : s.replayRecord.1.pending = s.pending := by
  unfold State.replayRecord
  dsimp only
  (repeat' split) <;> simp -implicitDefEqProofs

@[simp] theorem State.emptyPeriod_pending (s : State) (h : HeadRec) : (s.emptyPeriod h).pending = s.pending := by
  simp -implicitDefEqProofs [State.emptyPeriod]

@[simp] theorem State.fileEvents_pending (s : State) (a n : Nat) : (s.fileEvents a n).pending = s.pending := by
  simp -implicitDefEqProofs [State.fileEvents]

@[simp] theorem State.writeEvents_pending (s : State) : s.writeEvents.pending = s.pending := by
  simp -implicitDefEqProofs [State.writeEvents, apply_ite State.pending]

@[simp] theorem State.pruneTraces_pending (s : State) : s.pruneTraces.pending = s.pending := by
  simp -implicitDefEqProofs [State.pruneTraces]

@[simp] theorem State.tickBoundary_pending (s : State) (b : Nat) : (s.tickBoundary b).pending = s.pending := by
  simp -implicitDefEqProofs [State.tickBoundary, apply_ite State.pending]

@[simp] theorem State.handovers_pending (s : State) (reach : Bool) : (s.handovers reach).pending = s.pending := by
  simp -implicitDefEqProofs [State.handovers]

@[simp] theorem State.openStep_pending (s : State) (o : OpenStep) : (s.openStep o).pending = s.pending := by
  simp -implicitDefEqProofs [State.openStep]

@[simp] theorem State.finishStep_pending (s : State) (o : OpenStep) : (s.finishStep o).pending = s.pending := by
  have latched : ((s.forRange 4 State.snapCaravan).forRange 40 fun s x => if s.outerHere x then s.deliverEntries x else s).pending =
      s.pending := by
    simp -implicitDefEqProofs [apply_ite State.pending]
  revert latched
  unfold State.finishStep
  dsimp only
  generalize ((s.forRange 4 State.snapCaravan).forRange 40 fun s x => if s.outerHere x then s.deliverEntries x else s) = s2
  intro latched
  have replayed := s2.replayRecord_pending
  (repeat' split) <;> simp_all -implicitDefEqProofs

@[simp] theorem State.measureNext_pending (s0 : State) : s0.measureNext.pending = s0.pending := by
  simp -implicitDefEqProofs [State.measureNext, apply_ite State.pending]

/-! ### Operations of PeriodRows -/

@[simp] theorem State.sealPost_pending (s : State) (p : SealPost) : (s.sealPost p).pending = s.pending := by
  unfold State.sealPost
  (repeat' split) <;> simp -implicitDefEqProofs [apply_ite State.pending]

@[simp] theorem State.sealPosts_pending (s : State) (q : Nat) : (s.sealPosts q).pending = s.pending := by
  simp -implicitDefEqProofs [State.sealPosts]

@[simp] theorem State.replayMismatch_pending (s : State) (seq pos : Nat) : (s.replayMismatch seq pos).pending = s.pending := by
  simp -implicitDefEqProofs [State.replayMismatch, apply_ite State.pending]

@[simp] theorem State.replaySeal_pending (s : State) (q : Nat) (digests : List Nat) (replayed : Bool) : (s.replaySeal q digests replayed).pending = s.pending := by
  unfold State.replaySeal
  (repeat' split) <;> simp -implicitDefEqProofs [apply_ite State.pending]

/-! ### Operations of BootEnd -/

@[simp] theorem State.skipRecord_pending (s : State) : s.skipRecord.pending = s.pending := by
  simp -implicitDefEqProofs [State.skipRecord]

theorem State.configRecord_pending {s t : State} {r : SnapObj} {lands : Nat} (h : s.configRecord r lands = some t) :
    t.pending = s.pending := by
  unfold State.configRecord at h
  (repeat' split at h) <;> simp only [Option.some.injEq, reduceCtorEq] at h <;> subst h
  · next wrote _ => exact s.objWrite_queue _ _ _ _ _ wrote
  · next wrote => exact s.objWrite_queue _ _ _ _ _ wrote

theorem State.configRecord_getD_pending (s : State) (r : SnapObj) (lands : Nat) :
    ((s.configRecord r lands).getD s.skipRecord).pending = s.pending := by
  cases h : s.configRecord r lands with
  | none => exact s.skipRecord_pending
  | some t => exact State.configRecord_pending h

@[simp] theorem State.applyConfig_pending (s : State) (lands : Nat) : (s.applyConfig lands).pending = s.pending := by
  unfold State.applyConfig
  split
  · rfl
  · exact foldl_pending _ (fun s r => s.configRecord_getD_pending r lands) _ s

@[simp] theorem State.dramDone_pending (s : State) (lands : Nat) : (s.dramDone lands).pending = s.pending := by
  simp -implicitDefEqProofs [State.dramDone, apply_ite State.pending]

/-! ### Operations of FaultRows -/

@[simp] theorem State.repair_pending (s : State) (kind place limit warn : Nat) : (s.repair kind place limit warn).pending = s.pending := by
  simp -implicitDefEqProofs [State.repair, apply_ite State.pending]

@[simp] theorem State.noteCorrection_pending (s : State) (kind place n : Nat) : (s.noteCorrection kind place n).pending = s.pending := by
  simp -implicitDefEqProofs [State.noteCorrection]

@[simp] theorem State.spareFor_pending (s : State) (e : ExtEvent) : (s.spareFor e).pending = s.pending := by
  simp -implicitDefEqProofs [State.spareFor, apply_ite State.pending]

@[simp] theorem State.deliverOne_pending (s : State) : s.deliverOne.pending = s.pending := by
  unfold State.deliverOne
  split <;> simp -implicitDefEqProofs

@[simp] theorem State.extEvent_pending (s : State) (e : ExtEvent) : (s.extEvent e).pending = s.pending := by
  simp -implicitDefEqProofs [State.extEvent]

@[simp] theorem State.upset_pending (s : State) (e : ExtEvent) : (s.upset e).pending = s.pending := by
  simp -implicitDefEqProofs [State.upset, apply_ite State.pending]

@[simp] theorem State.aliveToggle_pending (s0 : State) : s0.aliveToggle.pending = s0.pending := by
  simp -implicitDefEqProofs [State.aliveToggle, apply_ite State.pending]

/-! ### Operations of Electrical -/

@[simp] theorem State.refLoss_pending (s : State) : s.refLoss.pending = s.pending := by
  simp -implicitDefEqProofs [State.refLoss, apply_ite State.pending]

theorem State.finishRests_pending (n : Nat) (s : State) : (State.finishRests n s).pending = s.pending := by
  induction n generalizing s with
  | zero => rfl
  | succ n ih =>
    unfold State.finishRests
    split
    · rfl
    · rw [ih, State.makeChange_pending, State.until_pending]

@[simp] theorem State.timeStop_pending (s : State) : s.timeStop.pending = s.pending := by
  unfold State.timeStop
  split
  · simp -implicitDefEqProofs [State.finishRests_pending]
  · rfl

@[simp] theorem State.sag_pending (s : State) (u : Nat) : (s.sag u).pending = s.pending := by
  simp -implicitDefEqProofs [State.sag, apply_ite State.pending]

/-! ### Operations of SerialRows -/

@[simp] theorem State.frameEnds_pending (s : State) (n : Nat) : (s.frameEnds n).pending = s.pending := by
  simp -implicitDefEqProofs [State.frameEnds, apply_ite State.pending]

/-! ### Rings and registers -/

theorem State.writeRingCtrl_queue (s : State) (r v : Nat) : LeavesQueue s.pending id (s.writeRingCtrl r v) := by
  unfold State.writeRingCtrl
  dsimp only
  (repeat' split) <;> simp -implicitDefEqProofs

theorem State.writeCqCtrl_queue (s : State) (m v : Nat) : LeavesQueue s.pending id (s.writeCqCtrl m v) := by
  unfold State.writeCqCtrl
  dsimp only
  (repeat' split) <;> simp -implicitDefEqProofs

theorem State.writeCtrl_queue (s : State) (r : RingId) (v : Nat) : LeavesQueue s.pending id (s.writeCtrl r v) := by
  cases r with
  | cr n => exact s.writeRingCtrl_queue n v
  | bq b => exact s.writeRingCtrl_queue (16 + b) v
  | cq m => exact s.writeCqCtrl_queue m v
  | eq => exact s.writeCqCtrl_queue 16 v

theorem State.prodDoorbell_queue (s : State) (r : Nat) (p : Pos) : LeavesQueue s.pending id (s.prodDoorbell r p) := by
  unfold State.prodDoorbell
  (repeat' split) <;> simp -implicitDefEqProofs

theorem State.consDoorbell_queue (s : State) (m : Nat) (p : Pos) : LeavesQueue s.pending id (s.consDoorbell m p) := by
  unfold State.consDoorbell
  dsimp only
  (repeat' split) <;> simp -implicitDefEqProofs

theorem State.rearm_queue (s : State) (r : Nat) (p : Pos) (go : Bool) : LeavesQueue s.pending id (s.rearm r p go) := by
  unfold State.rearm
  dsimp only
  (repeat' split) <;> simp -implicitDefEqProofs

theorem State.writeBase_queue (s : State) (f en : Fld) (r : Nat) (high : Bool) (v : Nat) :
    LeavesQueue s.pending id (s.writeBase f en r high v) := by
  unfold State.writeBase
  (repeat' split) <;> simp -implicitDefEqProofs

theorem State.writeMod_queue (s : State) (m v : Nat) : LeavesQueue s.pending id (s.writeMod m v) := by
  unfold State.writeMod
  split <;> simp -implicitDefEqProofs

theorem State.writeRingReg_queue (s : State) (r o v : Nat) : LeavesQueue s.pending id (s.writeRingReg r o v) := by
  unfold State.writeRingReg
  (repeat' split) <;> simp [State.writeBase_queue, State.writeRingCtrl_queue, State.rearm_queue]

theorem State.writeCqReg_queue (s : State) (m o v : Nat) : LeavesQueue s.pending id (s.writeCqReg m o v) := by
  unfold State.writeCqReg
  (repeat' split) <;> simp [State.writeBase_queue, State.writeCqCtrl_queue, State.writeMod_queue]

/-- What follows an operation keeps the queue the operation left. -/
theorem leavesQueue_map {q : List Instr} {r : Except Fault State} {f : State → State} (h : LeavesQueue q id r)
    (hf : ∀ s, (f s).pending = s.pending) : LeavesQueue q id (r.map f) := by
  cases r with
  | error e => exact leavesQueue_error
  | ok t => exact leavesQueue_ok.mpr ((hf t).trans (h t rfl))

theorem State.writeDb_queue (s : State) (o v : Nat) : LeavesQueue s.pending id (s.writeDb o v) := by
  have events (p : Pos) := leavesQueue_map (s.consDoorbell_queue 16 p) State.afterEqDoorbell_pending
  unfold State.writeDb
  dsimp only
  (repeat' split) <;> simp [State.prodDoorbell_queue, State.consDoorbell_queue, events]

theorem State.writeBar0_queue (s : State) (o v : Nat) : LeavesQueue s.pending id (s.writeBar0 o v) := by
  unfold State.writeBar0
  (repeat' split) <;> simp [State.writeCqReg_queue, State.writeRingReg_queue, State.writeDb_queue]

theorem State.registerWrite_queue (s : State) (sp : RegSpace) (o size v : Nat) :
    LeavesQueue s.pending id (s.registerWrite sp o size v) := by
  unfold State.registerWrite
  (repeat' split) <;> simp [State.writeBar0_queue]

/-! ### Boundaries -/

theorem State.openRun_queue (s : State) (reach : Bool) : LeavesQueue s.pending id (s.openRun reach) := by
  unfold State.openRun
  dsimp only
  split
  · simp
  · simp -implicitDefEqProofs [apply_ite State.pending]

theorem State.openFirst_queue (s : State) (m : Nat) : LeavesQueue s.pending id (s.openFirst m) := by
  unfold State.openFirst
  dsimp only
  split <;> simp -implicitDefEqProofs

theorem State.closeStep_queue (s : State) (bits : SMap Nat) : LeavesQueue s.pending id (s.closeStep bits) := by
  unfold State.closeStep
  split
  · simp
  · next t taken =>
    have kept : t.pending = s.pending := s.takeUpTo_queue 15 _ taken
    split <;> simp -implicitDefEqProofs [kept]

theorem State.settled_queue (s : State) : LeavesQueue s.pending id s.settled := by
  unfold State.settled
  split
  · exact s.closeStep_queue []
  · simp

theorem State.boundary_queue (s : State) (bits : SMap Nat) (reach : Bool) : LeavesQueue s.pending id (s.boundary bits reach) := by
  unfold State.boundary
  split
  · simp
  · split
    · simp
    · next t opened =>
      have kept : t.pending = s.pending := by
        split at opened
        · rw [← Except.ok.inj opened]
        · split at opened
          · exact s.openRun_queue reach _ opened
          · split at opened
            · exact s.openFirst_queue _ _ opened
            · rw [← Except.ok.inj opened]
      exact kept ▸ t.closeStep_queue bits

theorem State.openFor_queue (s : State) : LeavesQueue s.pending id s.openFor := by
  unfold State.openFor
  split
  · simp
  · exact s.openRun_queue false

theorem State.cairnSeal_queue (s : State) : LeavesQueue s.pending id s.cairnSeal := by
  unfold State.cairnSeal
  dsimp only
  (repeat' split) <;> simp -implicitDefEqProofs

/-! ### Descriptors -/

theorem State.join_queue (s : State) (r : Nat) (d : Desc) (host : Nat) : LeavesQueue s.pending id (s.join r d host) :=
  (s.fetch_pending r d) ▸ (s.fetch r d).validate_queue r host none none 0

theorem State.reach_queue (s : State) (r lands : Nat) : LeavesQueue s.pending id (s.reach r lands) := by
  unfold State.reach
  split
  · split
    · simp
    · next t opened =>
      have kept : t.pending = s.pending := s.openFor_queue _ opened
      exact kept ▸ t.takeUpTo_queue r
  · exact s.applyNow_queue r lands 33

theorem State.runDesc_queue (s : State) (src : Src) (d : Desc) (host lands : Nat) :
    LeavesQueue s.pending id (s.runDesc src d host lands) := by
  unfold State.runDesc
  split
  · simp
  · split
    · simp
    · next t joined =>
      have kept : t.pending = s.pending := s.join_queue _ _ _ _ joined
      split
      · exact kept ▸ t.reach_queue _ lands
      · exact leavesQueue_ok.mpr kept

theorem State.runBulk_queue (s : State) (b : Nat) (src : BulkSrc) (d : Desc) (host : Nat) :
    LeavesQueue s.pending id (s.runBulk b src d host) := by
  unfold State.runBulk
  split
  · simp
  · split
    · simp
    · next t joined =>
      have kept : t.pending = s.pending := s.join_queue _ _ _ _ joined
      split
      · split
        · exact kept ▸ t.bulkRun_queue _
        · exact leavesQueue_ok.mpr kept
      · exact leavesQueue_ok.mpr kept

/-! ### Every command -/

theorem outOf_queue {q : List Instr} {r : Except Fault State} (h : LeavesQueue q id r) : OutLeavesQueue q (outOf r) := by
  cases r with
  | error e => exact outLeavesQueue_fault
  | ok t => exact outLeavesQueue_next.mpr (h t rfl)


theorem reached_queue (s : State) {r : Except Fault State} (h : LeavesQueue s.pending id r) :
    OutLeavesQueue s.pending (if s.reached then outOf r else .next s) := by
  split
  · exact outOf_queue h
  · simp

theorem execResetModule_queue (src : Src) (selfTest readA readB : Bool) (lands : Fin (2 ^ 32)) (s : State) :
    OutLeavesQueue s.pending (execResetModule src selfTest readA readB lands s) := by
  unfold execResetModule
  split
  · simp
  · next t ran =>
    have kept : t.pending = s.pending := s.runDesc_queue _ _ _ _ _ ran
    rw [outLeavesQueue_next]
    split <;> simp -implicitDefEqProofs [kept]

theorem execDescriptorValidated_queue (r : Fin 18) (host : Nat) (e d : Option (Fin 8)) (s : State) :
    OutLeavesQueue s.pending (execDescriptorValidated r host e d s) := by
  unfold execDescriptorValidated
  split
  · next validated => exact outLeavesQueue_next.mpr (s.validate_queue _ _ _ _ _ _ validated)
  · simp

theorem execConfigureApply_queue (r : Fin 16) (lands : Nat) (s : State) : OutLeavesQueue s.pending (execConfigureApply r lands s) := by
  unfold execConfigureApply
  split
  · next applied => exact outLeavesQueue_next.mpr (s.configureApply_queue _ _ _ applied)
  · simp

theorem execBulkTransferDone_queue (b : Fin 2) (s : State) : OutLeavesQueue s.pending (execBulkTransferDone b s) := by
  unfold execBulkTransferDone
  split
  · split
    · exact outOf_queue (s.bulkRun_queue _)
    · simp
  · simp

/-- No command touches the queue. -/
theorem exec_queue (i : Instr) (s : State) : OutLeavesQueue s.pending (exec i s) := by
  cases i with
  | laneNop | prod | padd | psub | prnd | addd | subd | adda | suba | copy | widen | neg | abs | zero | max | min |
    round | clip | cmp | tst | and | or | xor | quot | root | trig | padr | pack | high | end_ | ldi | shl | shr | bra |
    call | ret | loop | post | lst | lld | xfr | addp =>
    exact s.retireIf_queue _ _
  | objWrite | objRead | abort | swap | faultAck | movePos | moveVel | stop | quickStop | resume | gearEngage |
    camEngage | disengage | caravanSeg | latchArm | compareArm | canTx | surveyFreeze | attest | modeRequest |
    resetFbChannel | resetPwmGroup | resetCanChannel | resetEthPort | resetLanePair | resetUnit | slackClr | bankSwap |
    coefWrite | laneClr | pwmEn | tripClr | pwmCntClr | pwmAuxWrite | tripinWrite | fbCfgWrite | preset | armHome |
    fbCntClr | serGo | emuCfgWrite | csStatusClr | timeStatusClr | ethStatusClr | cycRxClr | canStatusClr | fioStatusClr
    | survClr | takeoversClr | canRxqRelease | camCommit | migrate | unretire | force | firstClr | fioDiCfgWrite |
    unfreeze | exportSetup | replayLoad | genId | open_ | logErase | cfgkeyWrite | halt | step | debugResume |
    lanememRead | lanememWrite =>
    exact outOf_queue (s.runDesc_queue _ _ _ _)
  | nop src =>
    change OutLeavesQueue s.pending (execNop src s)
    unfold execNop
    split
    · exact outOf_queue (s.runDesc_queue _ _ _ _)
    · exact outOf_queue (s.runBulk_queue _ _ _ _)
  | imageWrite | tableWrite | surveyRead | logRead =>
    exact outOf_queue (s.runBulk_queue _ _ _ _)
  | resetNLow | dramInitDone | pcieLinkUp | pePerstN | functionLevelReset | refClkLoss | timeBaseStop | supplyBelowRange
    | hifMtimeLoRead | descriptorFetch | msixHeldMessage | fenceLowered | keyGenDone | eraseDone | deltaWord | endMarker
    | bbCopyDone | mirrorApply | fullCairnRead | restorationDone | evalWindowEnd | dramScrub | aliveToggle | tripInput |
    tripAfterBlanking | overcurrentComparator | triggerFire | pwmEdge | deadTimeExpiry | minPulseExpiry | quadChange |
    hallChange | indexEdge | serialFrameStart | sdStuck | latchEdge | announceReceiptTimeout | cycFrameSend | cycFrameRx
    | canStartOfFrame | isoDownFrame | isoUpFrame | isoUpSlotTimeout | islandDownFrame | islandSlotTimeout |
    islandSwitch | doShutdown | doRetry | fieldSupplyLoss | pcieLinkDown | pePerstNRelease | busMasterEnable |
    fieldSupplyReturn | tripInputInactive | comparatorInactive | sdStuckEnd | vcoreSag =>
    refine outLeavesQueue_next.mpr ?_
    (repeat' split) <;> simp -implicitDefEqProofs
  | registerWrite => exact outOf_queue (s.registerWrite_queue _ _ _ _)
  | boundary => exact outOf_queue (s.boundary_queue _ _)
  | cairnSeal => exact outOf_queue (s.cairnSeal_queue)
  | deadline => exact outOf_queue (leavesQueue_map s.settled_queue State.deadline_pending)
  | midPeriodTransfer => exact outOf_queue (leavesQueue_map s.settled_queue State.midPeriod_pending)
  | measurementInstant => exact outOf_queue (leavesQueue_map s.settled_queue State.measureNext_pending)
  | crDoorbell => exact reached_queue s (s.prodDoorbell_queue _ _)
  | bqDoorbell => exact reached_queue s (s.prodDoorbell_queue _ _)
  | cqDoorbell => exact reached_queue s (s.consDoorbell_queue _ _)
  | eqDoorbell => exact reached_queue s (leavesQueue_map (s.consDoorbell_queue _ _) State.afterEqDoorbell_pending)
  | ringEnable => exact reached_queue s (s.writeCtrl_queue _ _)
  | ringDisable => exact reached_queue s (s.writeCtrl_queue _ _)
  | rearm => exact reached_queue s (s.rearm_queue _ _ _)
  | resetModule => exact execResetModule_queue _ _ _ _ _ _
  | descriptorValidated => exact execDescriptorValidated_queue _ _ _ _ _
  | configureApply => exact execConfigureApply_queue _ _ _
  | bulkTransferDone => exact execBulkTransferDone_queue _ _
  | resetNRise lowNs selfTest readA readB lands =>
    change OutLeavesQueue s.pending (execResetNRise lowNs selfTest readA readB lands s)
    unfold execResetNRise
    (repeat' split) <;> simp -implicitDefEqProofs
  | msixModTimer m =>
    change OutLeavesQueue s.pending (execMsixModTimer m s)
    unfold execMsixModTimer
    dsimp only
    (repeat' split) <;> simp -implicitDefEqProofs
  | outputWord u l =>
    change OutLeavesQueue s.pending (execOutputWord u l s)
    unfold execOutputWord
    (repeat' split) <;> simp -implicitDefEqProofs
  | faultEvent e =>
    change OutLeavesQueue s.pending (execFaultEvent e s)
    unfold execFaultEvent
    (repeat' split) <;> simp -implicitDefEqProofs
  | comparePulseEnd u =>
    change OutLeavesQueue s.pending (execComparePulseEnd u s)
    unfold execComparePulseEnd
    (repeat' split) <;> simp -implicitDefEqProofs
  | serialFrameComplete n head delay bits =>
    change OutLeavesQueue s.pending (execSerialFrameComplete n head delay bits s)
    unfold execSerialFrameComplete
    dsimp only
    (repeat' split) <;> simp -implicitDefEqProofs
  | karselTimeout n =>
    change OutLeavesQueue s.pending (execKarselTimeout n s)
    unfold execKarselTimeout
    (repeat' split) <;> simp -implicitDefEqProofs
  | emuStep e =>
    change OutLeavesQueue s.pending (execEmuStep e s)
    unfold execEmuStep
    (repeat' split) <;> simp -implicitDefEqProofs
  | syncReceived p m =>
    change OutLeavesQueue s.pending (execSyncReceived p m s)
    unfold execSyncReceived
    (repeat' split) <;> simp -implicitDefEqProofs
  | ptpMessageRx p mtype domain seqId src req body sub =>
    change OutLeavesQueue s.pending (execPtpMessageRx p mtype domain seqId src req body sub s)
    unfold execPtpMessageRx
    (repeat' split) <;> simp -implicitDefEqProofs
  | ptpMessageTx p mtype seqId =>
    change OutLeavesQueue s.pending (execPtpMessageTx p mtype seqId s)
    unfold execPtpMessageTx
    (repeat' split) <;> simp -implicitDefEqProofs
  | txTimestamp p mtype seqId =>
    change OutLeavesQueue s.pending (execTxTimestamp p mtype seqId s)
    unfold execTxTimestamp
    (repeat' split) <;> simp -implicitDefEqProofs
  | ethLinkChange p up speed =>
    change OutLeavesQueue s.pending (execEthLinkChange p up speed s)
    unfold execEthLinkChange
    (repeat' split) <;> simp -implicitDefEqProofs
  | ethFrameRx p fcs =>
    change OutLeavesQueue s.pending (execEthFrameRx p fcs s)
    unfold execEthFrameRx
    (repeat' split) <;> simp -implicitDefEqProofs
  | canFrameEnd c ok err tec recErr =>
    change OutLeavesQueue s.pending (execCanFrameEnd c ok err tec recErr s)
    unfold execCanFrameEnd
    dsimp only
    (repeat' split) <;> simp -implicitDefEqProofs
  | canFrameRx c f dur recErr =>
    change OutLeavesQueue s.pending (execCanFrameRx c f dur recErr s)
    unfold execCanFrameRx
    dsimp only
    (repeat' split) <;> simp -implicitDefEqProofs
  | canBusOff c =>
    change OutLeavesQueue s.pending (execCanBusOff c s)
    unfold execCanBusOff
    (repeat' split) <;> simp -implicitDefEqProofs
  | canBusIntegration c =>
    change OutLeavesQueue s.pending (execCanBusIntegration c s)
    unfold execCanBusIntegration
    dsimp only
    (repeat' split) <;> simp -implicitDefEqProofs
  | svcTckEdge level tms tdi trstN lands =>
    change OutLeavesQueue s.pending (execSvcTckEdge level tms tdi trstN lands s)
    unfold execSvcTckEdge
    (repeat' split) <;> simp -implicitDefEqProofs

/-- Settles O60: a step takes the front command, which leaves the rest of the queue as it was; an idle step leaves the empty queue. -/
theorem queueServedInOrder : Obligations.QueueServedInOrder := by
  intro s t h
  cases waiting : s.pending with
  | nil =>
    rw [step_of_idle waiting] at h
    rw [← Host.Outcome.next.inj h, State.tick_pending, waiting]
    rfl
  | cons c rest =>
    rw [stepRunsFrontCommand c rest s waiting] at h
    exact exec_queue c _ t h

end Sys2Proof.Machine
end

section
/-!
PROOFS. What operations leave unchanged: parts of the state, and the objects of the lowest codes, to which SYS and HIF belong.
-/

set_option Elab.async false

namespace Sys2Proof.Machine

/-! ### Folds -/

/-- What every step of a fold keeps, the fold keeps. -/
theorem foldl_keeps {α β : Type} (P : State → β) (f : State → α → State) (h : ∀ s a, P (f s a) = P s) (l : List α) (s : State) :
    P (l.foldl f s) = P s := by
  induction l generalizing s with
  | nil => rfl
  | cons a l ih => rw [List.foldl_cons, ih, h]

/-! ### Objects of low codes -/

/-- The contents of the entries of the objects with codes below `n`, in an object store. -/
def lowObjs (n : Nat) (m : SMap Nat) (o : Obj) (i e : Nat) : Nat :=
  if o.code < n ∧ i < 256 ∧ e < 65536 then m.get (objKey o i e) 0 ^^^ o.resetVal e else 0

theorem State.obj_eq_lowObjs (s : State) {n : Nat} {o : Obj} {i e : Nat} (ho : o.code < n) (hi : i < 256) (he : e < 65536) :
    s.obj o i e = lowObjs n s.objs o i e := (if_pos ⟨ho, hi, he⟩).symm

/-- A field of an object of low code, where the low objects are the same. -/
theorem State.fld_of_lowObjs {s t : State} {n : Nat} (h : lowObjs n t.objs = lowObjs n s.objs) (f : Fld) {i e : Nat}
    (ho : f.obj.code < n) (hi : i < 256) (he : e < 65536) : t.fld f i e = s.fld f i e := by
  rw [State.fld, State.fld, t.obj_eq_lowObjs ho hi he, s.obj_eq_lowObjs ho hi he, h]

/-- A write of an object of a code not below `n` misses the low objects, whatever its instance and entry. -/
@[simp] theorem State.setObj_lowObjs (s : State) {n : Nat} {o : Obj} (i e v : Nat) (h : n ≤ o.code) :
    lowObjs n (s.setObj o i e v).objs = lowObjs n s.objs := by
  funext o' i' e'
  unfold lowObjs
  split
  · next low =>
    have apart : objKey o' i' e' ≠ objKey o i e := by
      unfold objKey
      omega
    simp [State.setObj, SMap.get_set_ne apart]
  · rfl

@[simp] theorem State.setFld_lowObjs (s : State) {n : Nat} {f : Fld} (v i e : Nat) (h : n ≤ f.obj.code) :
    lowObjs n (s.setFld f v i e).objs = lowObjs n s.objs := s.setObj_lowObjs i e _ h

@[simp] theorem State.setBit_lowObjs (s : State) {n : Nat} {f : Fld} (b : Bool) (i e : Nat) (h : n ≤ f.obj.code) :
    lowObjs n (s.setBit f b i e).objs = lowObjs n s.objs := s.setObj_lowObjs i e _ h

@[simp] theorem State.setNth_lowObjs (s : State) {n : Nat} {f : Fld} (k : Nat) (b : Bool) (i e : Nat) (h : n ≤ f.obj.code) :
    lowObjs n (s.setNth f k b i e).objs = lowObjs n s.objs := s.setObj_lowObjs i e _ h

@[simp] theorem State.resetObj_lowObjs (s : State) {n : Nat} {o : Obj} (i e : Nat) (h : n ≤ o.code) :
    lowObjs n (s.resetObj o i e).objs = lowObjs n s.objs := s.setObj_lowObjs i e _ h

/-! ### Time -/

@[simp] theorem foldl_time {α : Type} (f : State → α → State) (h : ∀ s a, (f s a).time = s.time) (l : List α) (s : State) :
    (l.foldl f s).time = s.time := foldl_keeps State.time f h l s

@[simp] theorem State.forRange_time (s : State) (n : Nat) (f : State → Nat → State) (h : ∀ s a, (f s a).time = s.time) :
    (s.forRange n f).time = s.time := foldl_keeps State.time f h _ s

@[simp] theorem State.satInc_time (s : State) (cnt sat : Fld) (inst : Nat) (entry : Nat) : (s.satInc cnt sat inst entry).time = s.time := by
  simp -implicitDefEqProofs [State.satInc, apply_ite State.time]

@[simp] theorem State.drive_time (s : State) (g k : Nat) (on : Bool) (t : Nat) : (s.drive g k on t).time = s.time := by
  simp -implicitDefEqProofs [State.drive, apply_ite State.time]

@[simp] theorem State.cancel_time (s : State) (g k : Nat) : (s.cancel g k).time = s.time := by
  simp -implicitDefEqProofs [State.cancel]

@[simp] theorem State.plan_time (s : State) (g k t : Nat) (on : Bool) (kind : ChangeKind) : (s.plan g k t on kind).time = s.time := by
  simp -implicitDefEqProofs [State.plan]

@[simp] theorem State.countEaten_time (s : State) (g : Nat) : (s.countEaten g).time = s.time := by
  simp -implicitDefEqProofs [State.countEaten]

@[simp] theorem State.countHeld_time (s : State) (g : Nat) : (s.countHeld g).time = s.time := by
  simp -implicitDefEqProofs [State.countHeld]

@[simp] theorem State.makeChange_time (s : State) (g k : Nat) (c : SwChange) (t : Nat) (delayed : Bool) : (s.makeChange g k c t delayed).time = s.time := by
  simp -implicitDefEqProofs [State.makeChange, apply_ite State.time]

@[simp] theorem State.makeDue_time (s : State) (g t : Nat) (on : Bool) (k : Nat) : (s.makeDue g t on k).time = s.time := by
  unfold State.makeDue
  (repeat' split) <;> simp -implicitDefEqProofs

@[simp] theorem State.makeNow_time (s : State) (es : List (Nat × Nat)) (t : Nat) : (s.makeNow es t).time = s.time := by
  simp -implicitDefEqProofs [State.makeNow]

@[simp] theorem State.countTrigger_time (s : State) (t16 g : Nat) (b : Bool) : (s.countTrigger t16 g b).time = s.time := by
  simp -implicitDefEqProofs [State.countTrigger, apply_ite State.time]

@[simp] theorem State.countTriggers_time (s : State) (t16 g : Nat) : (s.countTriggers t16 g).time = s.time := by
  simp -implicitDefEqProofs [State.countTriggers]

@[simp] theorem State.restTo_time (s : State) (g t : Nat) (on : Bool) (k : Nat) : (s.restTo g t on k).time = s.time := by
  simp -implicitDefEqProofs [State.restTo, apply_ite State.time]

@[simp] theorem State.enterRest_time (s : State) (g st t : Nat) : (s.enterRest g st t).time = s.time := by
  simp -implicitDefEqProofs [State.enterRest]

@[simp] theorem State.enterState_time (s : State) (g st : Nat) (waiting : Bool) : (s.enterState g st waiting).time = s.time := by
  simp -implicitDefEqProofs [State.enterState, apply_ite State.time]

@[simp] theorem State.refreshGroup_time (s : State) (g : Nat) : (s.refreshGroup g).time = s.time := by
  simp -implicitDefEqProofs [State.refreshGroup, apply_ite State.time]

@[simp] theorem State.refreshGroups_time (s : State) : s.refreshGroups.time = s.time := by
  simp -implicitDefEqProofs [State.refreshGroups]

@[simp] theorem State.latchTrip_time (s : State) (g src time : Nat) : (s.latchTrip g src time).time = s.time := by
  simp -implicitDefEqProofs [State.latchTrip, apply_ite State.time]

@[simp] theorem State.tripGroups_time (s : State) (gs : List Nat) (src time : Nat) : (s.tripGroups gs src time).time = s.time := by
  simp -implicitDefEqProofs [State.tripGroups, apply_ite State.time]

@[simp] theorem State.tripInput_time (s : State) (n time : Nat) (gs : List Nat) : (s.tripInput n time gs).time = s.time := by
  simp -implicitDefEqProofs [State.tripInput, apply_ite State.time]

@[simp] theorem State.tripNamed_time (s : State) : s.tripNamed.time = s.time := by
  simp -implicitDefEqProofs [State.tripNamed, apply_ite State.time]

@[simp] theorem State.setFence_time (s : State) (b : FenceId) (v : Bool) : (s.setFence b v).time = s.time := by
  unfold State.setFence
  split <;> simp -implicitDefEqProofs

@[simp] theorem State.tripInactive_time (s : State) (n : Nat) : (s.tripInactive n).time = s.time := by
  simp -implicitDefEqProofs [State.tripInactive, apply_ite State.time]

@[simp] theorem State.settleTrips_time (s : State) (lands : Nat) : (s.settleTrips lands).time = s.time := by
  simp -implicitDefEqProofs [State.settleTrips, apply_ite State.time]

@[simp] theorem State.showCaravan_time (s : State) (g : Nat) : (s.showCaravan g).time = s.time := by
  simp -implicitDefEqProofs [State.showCaravan]

@[simp] theorem State.checkBb_time (s : State) : s.checkBb.time = s.time := by
  simp -implicitDefEqProofs [State.checkBb, apply_ite State.time]

@[simp] theorem State.showSurvey_time (s : State) : s.showSurvey.time = s.time := by
  simp -implicitDefEqProofs [State.showSurvey]

@[simp] theorem State.showSlots_time (s : State) : s.showSlots.time = s.time := by
  simp -implicitDefEqProofs [State.showSlots]

@[simp] theorem State.showUnits_time (s : State) : s.showUnits.time = s.time := by
  simp -implicitDefEqProofs [State.showUnits]

@[simp] theorem State.setLoaded_time (s : State) (u : Nat) (b : Bool) : (s.setLoaded u b).time = s.time := by
  simp -implicitDefEqProofs [State.setLoaded, apply_ite State.time]

@[simp] theorem State.setMaster_time (s : State) (a b : SMap Word24) : (s.setMaster a b).time = s.time := by
  simp -implicitDefEqProofs [State.setMaster]

@[simp] theorem State.loadPair_time (s : State) (u l : Nat) (prog : SMap Word48) (a b : SMap Word24) : (s.loadPair u l prog a b).time = s.time := by
  simp -implicitDefEqProofs [State.loadPair]

@[simp] theorem State.loadUnit_time (s : State) (u n : Nat) (a b : SMap Word24) : (s.loadUnit u n a b).time = s.time := by
  simp -implicitDefEqProofs [State.loadUnit, apply_ite State.time]

@[simp] theorem State.showRed_time (s : State) : s.showRed.time = s.time := by
  simp -implicitDefEqProofs [State.showRed]

@[simp] theorem State.showSpares_time (s : State) : s.showSpares.time = s.time := by
  simp -implicitDefEqProofs [State.showSpares]

@[simp] theorem State.setUnattested_time (s : State) (b : Bool) : (s.setUnattested b).time = s.time := by
  simp -implicitDefEqProofs [State.setUnattested, apply_ite State.time]

@[simp] theorem State.eraseKeys_time (s : State) : s.eraseKeys.time = s.time := by
  simp -implicitDefEqProofs [State.eraseKeys]

@[simp] theorem State.setStage_time (s : State) (n : Nat) : (s.setStage n).time = s.time := by
  simp -implicitDefEqProofs [State.setStage]

@[simp] theorem State.bootUnit_time (s : State) (u n : Nat) (readOk : Bool) : (s.bootUnit u n readOk).time = s.time := by
  simp -implicitDefEqProofs [State.bootUnit, apply_ite State.time]

@[simp] theorem State.bootImage_time (s : State) (n : Nat) (readA readB : Bool) : (s.bootImage n readA readB).time = s.time := by
  simp -implicitDefEqProofs [State.bootImage, apply_ite State.time]

@[simp] theorem State.showSec_time (s : State) : s.showSec.time = s.time := by
  simp -implicitDefEqProofs [State.showSec]

@[simp] theorem State.showSealed_time (s : State) : s.showSealed.time = s.time := by
  simp -implicitDefEqProofs [State.showSealed]

@[simp] theorem State.chooseSlot_time (s : State) (ns : List Nat) : (s.chooseSlot ns).1.time = s.time := by
  induction ns generalizing s with
  | nil => rfl
  | cons n ns ih =>
    unfold State.chooseSlot
    split
    · rfl
    · rw [ih, State.setSlot_time]

/-! ### The boot state -/

@[simp] theorem foldl_boot {α : Type} (f : State → α → State) (h : ∀ s a, (f s a).boot = s.boot) (l : List α) (s : State) :
    (l.foldl f s).boot = s.boot := foldl_keeps State.boot f h l s

@[simp] theorem State.forRange_boot (s : State) (n : Nat) (f : State → Nat → State) (h : ∀ s a, (f s a).boot = s.boot) :
    (s.forRange n f).boot = s.boot := foldl_keeps State.boot f h _ s

@[simp] theorem State.satInc_boot (s : State) (cnt sat : Fld) (inst : Nat) (entry : Nat) : (s.satInc cnt sat inst entry).boot = s.boot := by
  simp -implicitDefEqProofs [State.satInc, apply_ite State.boot]

@[simp] theorem State.drive_boot (s : State) (g k : Nat) (on : Bool) (t : Nat) : (s.drive g k on t).boot = s.boot := by
  simp -implicitDefEqProofs [State.drive, apply_ite State.boot]

@[simp] theorem State.cancel_boot (s : State) (g k : Nat) : (s.cancel g k).boot = s.boot := by
  simp -implicitDefEqProofs [State.cancel]

@[simp] theorem State.plan_boot (s : State) (g k t : Nat) (on : Bool) (kind : ChangeKind) : (s.plan g k t on kind).boot = s.boot := by
  simp -implicitDefEqProofs [State.plan]

@[simp] theorem State.countEaten_boot (s : State) (g : Nat) : (s.countEaten g).boot = s.boot := by
  simp -implicitDefEqProofs [State.countEaten]

@[simp] theorem State.countHeld_boot (s : State) (g : Nat) : (s.countHeld g).boot = s.boot := by
  simp -implicitDefEqProofs [State.countHeld]

@[simp] theorem State.makeChange_boot (s : State) (g k : Nat) (c : SwChange) (t : Nat) (delayed : Bool) : (s.makeChange g k c t delayed).boot = s.boot := by
  simp -implicitDefEqProofs [State.makeChange, apply_ite State.boot]

@[simp] theorem State.makeDue_boot (s : State) (g t : Nat) (on : Bool) (k : Nat) : (s.makeDue g t on k).boot = s.boot := by
  unfold State.makeDue
  (repeat' split) <;> simp -implicitDefEqProofs

@[simp] theorem State.makeNow_boot (s : State) (es : List (Nat × Nat)) (t : Nat) : (s.makeNow es t).boot = s.boot := by
  simp -implicitDefEqProofs [State.makeNow]

@[simp] theorem State.countTrigger_boot (s : State) (t16 g : Nat) (b : Bool) : (s.countTrigger t16 g b).boot = s.boot := by
  simp -implicitDefEqProofs [State.countTrigger, apply_ite State.boot]

@[simp] theorem State.countTriggers_boot (s : State) (t16 g : Nat) : (s.countTriggers t16 g).boot = s.boot := by
  simp -implicitDefEqProofs [State.countTriggers]

@[simp] theorem State.restTo_boot (s : State) (g t : Nat) (on : Bool) (k : Nat) : (s.restTo g t on k).boot = s.boot := by
  simp -implicitDefEqProofs [State.restTo, apply_ite State.boot]

@[simp] theorem State.enterRest_boot (s : State) (g st t : Nat) : (s.enterRest g st t).boot = s.boot := by
  simp -implicitDefEqProofs [State.enterRest]

@[simp] theorem State.enterState_boot (s : State) (g st : Nat) (waiting : Bool) : (s.enterState g st waiting).boot = s.boot := by
  simp -implicitDefEqProofs [State.enterState, apply_ite State.boot]

@[simp] theorem State.refreshGroup_boot (s : State) (g : Nat) : (s.refreshGroup g).boot = s.boot := by
  simp -implicitDefEqProofs [State.refreshGroup, apply_ite State.boot]

@[simp] theorem State.refreshGroups_boot (s : State) : s.refreshGroups.boot = s.boot := by
  simp -implicitDefEqProofs [State.refreshGroups]

@[simp] theorem State.latchTrip_boot (s : State) (g src time : Nat) : (s.latchTrip g src time).boot = s.boot := by
  simp -implicitDefEqProofs [State.latchTrip, apply_ite State.boot]

@[simp] theorem State.tripGroups_boot (s : State) (gs : List Nat) (src time : Nat) : (s.tripGroups gs src time).boot = s.boot := by
  simp -implicitDefEqProofs [State.tripGroups, apply_ite State.boot]

@[simp] theorem State.tripInput_boot (s : State) (n time : Nat) (gs : List Nat) : (s.tripInput n time gs).boot = s.boot := by
  simp -implicitDefEqProofs [State.tripInput, apply_ite State.boot]

@[simp] theorem State.tripNamed_boot (s : State) : s.tripNamed.boot = s.boot := by
  simp -implicitDefEqProofs [State.tripNamed, apply_ite State.boot]

@[simp] theorem State.setFence_boot (s : State) (b : FenceId) (v : Bool) : (s.setFence b v).boot = s.boot := by
  unfold State.setFence
  split <;> simp -implicitDefEqProofs

@[simp] theorem State.tripInactive_boot (s : State) (n : Nat) : (s.tripInactive n).boot = s.boot := by
  simp -implicitDefEqProofs [State.tripInactive, apply_ite State.boot]

@[simp] theorem State.settleTrips_boot (s : State) (lands : Nat) : (s.settleTrips lands).boot = s.boot := by
  simp -implicitDefEqProofs [State.settleTrips, apply_ite State.boot]

@[simp] theorem State.showCaravan_boot (s : State) (g : Nat) : (s.showCaravan g).boot = s.boot := by
  simp -implicitDefEqProofs [State.showCaravan]

@[simp] theorem State.checkBb_boot (s : State) : s.checkBb.boot = s.boot := by
  simp -implicitDefEqProofs [State.checkBb, apply_ite State.boot]

@[simp] theorem State.showSurvey_boot (s : State) : s.showSurvey.boot = s.boot := by
  simp -implicitDefEqProofs [State.showSurvey]

@[simp] theorem State.showUnits_boot (s : State) : s.showUnits.boot = s.boot := by
  simp -implicitDefEqProofs [State.showUnits]

@[simp] theorem State.setLoaded_boot (s : State) (u : Nat) (b : Bool) : (s.setLoaded u b).boot = s.boot := by
  simp -implicitDefEqProofs [State.setLoaded, apply_ite State.boot]

@[simp] theorem State.setMaster_boot (s : State) (a b : SMap Word24) : (s.setMaster a b).boot = s.boot := by
  simp -implicitDefEqProofs [State.setMaster]

@[simp] theorem State.loadPair_boot (s : State) (u l : Nat) (prog : SMap Word48) (a b : SMap Word24) : (s.loadPair u l prog a b).boot = s.boot := by
  simp -implicitDefEqProofs [State.loadPair]

@[simp] theorem State.showRed_boot (s : State) : s.showRed.boot = s.boot := by
  simp -implicitDefEqProofs [State.showRed]

@[simp] theorem State.showSpares_boot (s : State) : s.showSpares.boot = s.boot := by
  simp -implicitDefEqProofs [State.showSpares]

@[simp] theorem State.setUnattested_boot (s : State) (b : Bool) : (s.setUnattested b).boot = s.boot := by
  simp -implicitDefEqProofs [State.setUnattested, apply_ite State.boot]

@[simp] theorem State.eraseKeys_boot (s : State) : s.eraseKeys.boot = s.boot := by
  simp -implicitDefEqProofs [State.eraseKeys]

@[simp] theorem State.setStage_boot (s : State) (n : Nat) : (s.setStage n).boot = s.boot := by
  simp -implicitDefEqProofs [State.setStage]

@[simp] theorem State.showSec_boot (s : State) : s.showSec.boot = s.boot := by
  simp -implicitDefEqProofs [State.showSec]

@[simp] theorem State.showSealed_boot (s : State) : s.showSealed.boot = s.boot := by
  simp -implicitDefEqProofs [State.showSealed]

/-! ### The objects of SYS and HIF -/

@[simp] theorem foldl_low20 {α : Type} (f : State → α → State) (h : ∀ s a, lowObjs 20 (f s a).objs = lowObjs 20 s.objs) (l : List α) (s : State) :
    lowObjs 20 (l.foldl f s).objs = lowObjs 20 s.objs := foldl_keeps (fun s => lowObjs 20 s.objs) f h l s

@[simp] theorem State.forRange_low20 (s : State) (n : Nat) (f : State → Nat → State) (h : ∀ s a, lowObjs 20 (f s a).objs = lowObjs 20 s.objs) :
    lowObjs 20 (s.forRange n f).objs = lowObjs 20 s.objs := foldl_keeps (fun s => lowObjs 20 s.objs) f h _ s

@[simp] theorem State.satInc_low20 (s : State) (cnt sat : Fld) (inst entry : Nat) (hc : 20 ≤ cnt.obj.code) (hs : 20 ≤ sat.obj.code) :
    lowObjs 20 (s.satInc cnt sat inst entry).objs = lowObjs 20 s.objs := by
  simp -implicitDefEqProofs [State.satInc, apply_ite State.objs, apply_ite (lowObjs 20), hc, hs]

@[simp] theorem State.drive_low20 (s : State) (g k : Nat) (on : Bool) (t : Nat) : lowObjs 20 (s.drive g k on t).objs = lowObjs 20 s.objs := by
  simp -implicitDefEqProofs +decide [State.drive, apply_ite State.objs]

@[simp] theorem State.cancel_low20 (s : State) (g k : Nat) : lowObjs 20 (s.cancel g k).objs = lowObjs 20 s.objs := by
  simp -implicitDefEqProofs +decide [State.cancel]

@[simp] theorem State.plan_low20 (s : State) (g k t : Nat) (on : Bool) (kind : ChangeKind) : lowObjs 20 (s.plan g k t on kind).objs = lowObjs 20 s.objs := by
  simp -implicitDefEqProofs +decide [State.plan]

@[simp] theorem State.countEaten_low20 (s : State) (g : Nat) : lowObjs 20 (s.countEaten g).objs = lowObjs 20 s.objs := by
  simp -implicitDefEqProofs +decide [State.countEaten]

@[simp] theorem State.countHeld_low20 (s : State) (g : Nat) : lowObjs 20 (s.countHeld g).objs = lowObjs 20 s.objs := by
  simp -implicitDefEqProofs +decide [State.countHeld]

@[simp] theorem State.makeChange_low20 (s : State) (g k : Nat) (c : SwChange) (t : Nat) (delayed : Bool) : lowObjs 20 (s.makeChange g k c t delayed).objs = lowObjs 20 s.objs := by
  simp -implicitDefEqProofs +decide [State.makeChange, apply_ite State.objs, apply_ite (lowObjs 20)]

@[simp] theorem State.makeDue_low20 (s : State) (g t : Nat) (on : Bool) (k : Nat) : lowObjs 20 (s.makeDue g t on k).objs = lowObjs 20 s.objs := by
  unfold State.makeDue
  (repeat' split) <;> simp -implicitDefEqProofs +decide

@[simp] theorem State.makeNow_low20 (s : State) (es : List (Nat × Nat)) (t : Nat) : lowObjs 20 (s.makeNow es t).objs = lowObjs 20 s.objs := by
  simp -implicitDefEqProofs +decide [State.makeNow]

@[simp] theorem State.countTrigger_low20 (s : State) (t16 g : Nat) (b : Bool) : lowObjs 20 (s.countTrigger t16 g b).objs = lowObjs 20 s.objs := by
  simp -implicitDefEqProofs +decide [State.countTrigger, apply_ite State.objs]

@[simp] theorem State.countTriggers_low20 (s : State) (t16 g : Nat) : lowObjs 20 (s.countTriggers t16 g).objs = lowObjs 20 s.objs := by
  simp -implicitDefEqProofs +decide [State.countTriggers]

@[simp] theorem State.restTo_low20 (s : State) (g t : Nat) (on : Bool) (k : Nat) : lowObjs 20 (s.restTo g t on k).objs = lowObjs 20 s.objs := by
  simp -implicitDefEqProofs +decide [State.restTo, apply_ite State.objs, apply_ite (lowObjs 20)]

@[simp] theorem State.enterRest_low20 (s : State) (g st t : Nat) : lowObjs 20 (s.enterRest g st t).objs = lowObjs 20 s.objs := by
  simp -implicitDefEqProofs +decide [State.enterRest]

@[simp] theorem State.enterState_low20 (s : State) (g st : Nat) (waiting : Bool) : lowObjs 20 (s.enterState g st waiting).objs = lowObjs 20 s.objs := by
  simp -implicitDefEqProofs +decide [State.enterState, apply_ite State.objs, apply_ite (lowObjs 20)]

@[simp] theorem State.refreshGroup_low20 (s : State) (g : Nat) : lowObjs 20 (s.refreshGroup g).objs = lowObjs 20 s.objs := by
  simp -implicitDefEqProofs +decide [State.refreshGroup, apply_ite State.objs, apply_ite (lowObjs 20)]

@[simp] theorem State.refreshGroups_low20 (s : State) : lowObjs 20 s.refreshGroups.objs = lowObjs 20 s.objs := by
  simp -implicitDefEqProofs +decide [State.refreshGroups]

@[simp] theorem State.latchTrip_low20 (s : State) (g src time : Nat) : lowObjs 20 (s.latchTrip g src time).objs = lowObjs 20 s.objs := by
  simp -implicitDefEqProofs +decide [State.latchTrip, apply_ite State.objs, apply_ite (lowObjs 20)]

@[simp] theorem State.tripGroups_low20 (s : State) (gs : List Nat) (src time : Nat) : lowObjs 20 (s.tripGroups gs src time).objs = lowObjs 20 s.objs := by
  simp -implicitDefEqProofs +decide [State.tripGroups, apply_ite State.objs, apply_ite (lowObjs 20)]

@[simp] theorem State.tripInput_low20 (s : State) (n time : Nat) (gs : List Nat) : lowObjs 20 (s.tripInput n time gs).objs = lowObjs 20 s.objs := by
  simp -implicitDefEqProofs +decide [State.tripInput, apply_ite State.objs]

@[simp] theorem State.tripNamed_low20 (s : State) : lowObjs 20 s.tripNamed.objs = lowObjs 20 s.objs := by
  simp -implicitDefEqProofs +decide [State.tripNamed, apply_ite State.objs, apply_ite (lowObjs 20)]

@[simp] theorem State.tripInactive_low20 (s : State) (n : Nat) : lowObjs 20 (s.tripInactive n).objs = lowObjs 20 s.objs := by
  simp -implicitDefEqProofs +decide [State.tripInactive, apply_ite State.objs, apply_ite (lowObjs 20)]

@[simp] theorem State.settleTrips_low20 (s : State) (lands : Nat) : lowObjs 20 (s.settleTrips lands).objs = lowObjs 20 s.objs := by
  simp -implicitDefEqProofs +decide [State.settleTrips, apply_ite State.objs, apply_ite (lowObjs 20)]

@[simp] theorem State.showCaravan_low20 (s : State) (g : Nat) : lowObjs 20 (s.showCaravan g).objs = lowObjs 20 s.objs := by
  simp -implicitDefEqProofs +decide [State.showCaravan]

@[simp] theorem State.showSurvey_low20 (s : State) : lowObjs 20 s.showSurvey.objs = lowObjs 20 s.objs := by
  simp -implicitDefEqProofs +decide [State.showSurvey]

@[simp] theorem State.showRed_low20 (s : State) : lowObjs 20 s.showRed.objs = lowObjs 20 s.objs := by
  simp -implicitDefEqProofs +decide [State.showRed]

@[simp] theorem State.showSpares_low20 (s : State) : lowObjs 20 s.showSpares.objs = lowObjs 20 s.objs := by
  simp -implicitDefEqProofs +decide [State.showSpares]

@[simp] theorem State.showSec_low20 (s : State) : lowObjs 20 s.showSec.objs = lowObjs 20 s.objs := by
  simp -implicitDefEqProofs +decide [State.showSec]

@[simp] theorem State.showSealed_low20 (s : State) : lowObjs 20 s.showSealed.objs = lowObjs 20 s.objs := by
  simp -implicitDefEqProofs +decide [State.showSealed]


end Sys2Proof.Machine
end

section
/-!
PROOFS. Reset, boot, clock, supplies and the test access port (R45 to R56, R267, R440, R447).
-/

set_option Elab.async false

namespace Sys2Proof.Machine

/-! ### The test access port (R447) -/

/-- A rising edge takes the controller to the state TMS selects, whatever it captures or shifts. -/
theorem TapSt.rise_state (t : TapSt) (tms tdi : Bool) (lands : Nat) : (t.rise tms tdi lands).state = t.state.next tms := rfl

theorem TapSt.rise_tck (t : TapSt) (tms tdi : Bool) (lands : Nat) : (t.rise tms tdi lands).tck = true := rfl

theorem TapSt.rise_cells_of_captureDr {t : TapSt} (capture : t.state = .captureDr) (sampling : t.sampling = true)
    (tms tdi : Bool) (lands : Nat) : (t.rise tms tdi lands).cells = lands := by
  simp [TapSt.rise, capture, sampling]

theorem TapSt.fall_tck (t : TapSt) : t.fall.tck = false := rfl

/-- A falling edge leaves the controller's state. -/
theorem TapSt.fall_state (t : TapSt) : t.fall.state = t.state := by
  unfold TapSt.fall
  dsimp only
  split
  · rfl
  · split <;> rfl
  · rfl
  · rfl

/-- The port after an edge or a level of SVC_TCK. -/
def State.tapAfter (s : State) (level tms tdi trstN : Bool) (lands : Nat) : TapSt :=
  if !trstN then { s.tap with state := .reset, ir := 15, tdo := none, tck := level }
  else if s.tap.tck = level then s.tap
  else if level then s.tap.rise tms tdi (s.boundaryCells lands) else s.tap.fall

theorem exec_svcTckEdge (level tms tdi trstN : Bool) (lands : Fin (2 ^ 500)) (s : State) :
    exec (.svcTckEdge level tms tdi trstN lands) s = .next { s with tap := s.tapAfter level tms tdi trstN lands.val } := rfl

theorem State.tapAfter_tck (s : State) (level tms tdi trstN : Bool) (lands : Nat) :
    (s.tapAfter level tms tdi trstN lands).tck = level := by
  unfold State.tapAfter
  split
  · rfl
  · split
    · assumption
    · cases level
      · exact TapSt.fall_tck _
      · rfl

/-- Settles O18: a rising edge, a falling edge, a level that stays, and SVC_TRST_N low. -/
theorem testAccessPortFollowsTms : Obligations.TestAccessPortFollowsTms := by
  refine ⟨fun level tms tdi trstN lands s => ⟨_, exec_svcTckEdge .., rfl, s.tapAfter_tck .., fun low => ?_, fun high rising was => ?_,
    fun high falling => ?_⟩, fun st => by cases st <;> rfl⟩
  · simp [State.tapAfter, low]
  · have after : s.tapAfter level tms tdi trstN lands.val = s.tap.rise tms tdi (s.boundaryCells lands.val) := by
      simp [State.tapAfter, high, rising, was]
    refine ⟨?_, fun capture sampling => ?_⟩
    · rw [after]; rfl
    · rw [after]; exact TapSt.rise_cells_of_captureDr capture sampling ..
  · have after : s.tapAfter level tms tdi trstN lands.val = if s.tap.tck = false then s.tap else s.tap.fall := by
      simp [State.tapAfter, high, falling]
    rw [after]
    split
    · rfl
    · exact TapSt.fall_state _

/-! ### Module reset (R45, R55) -/

/-- The island after a reset drives no output. -/
theorem FioSt.afterReset_off (f : FioSt) : ∀ e ∈ f.afterReset.outs, e.2.on = false := by
  intro e he
  obtain ⟨mapped, -⟩ := List.mem_filter.mp he
  obtain ⟨e0, -, rfl⟩ := List.mem_map.mp mapped
  rfl

section ModuleReset

variable (s : State) (cause : Nat)

theorem State.moduleReset_msgs : (s.moduleReset cause).msgs = [] := rfl
theorem State.moduleReset_time : (s.moduleReset cause).time = {} := rfl
theorem State.moduleReset_per : (s.moduleReset cause).per = {} := rfl
theorem State.moduleReset_host : (s.moduleReset cause).host =
    { perst := s.host.perst, reads := s.host.reads, writes := s.host.writes, messages := s.host.messages } := rfl
theorem State.moduleReset_flt : (s.moduleReset cause).flt = { log := s.flt.log } := rfl
theorem State.moduleReset_fio : (s.moduleReset cause).fio = s.fio.afterReset := rfl
theorem State.moduleReset_boot_resetLow : (s.moduleReset cause).boot.resetLow = true := rfl
theorem State.moduleReset_boot_stopped : (s.moduleReset cause).boot.stopped = false := rfl
theorem State.moduleReset_stores : (s.moduleReset cause).groups = [] ∧ (s.moduleReset cause).lanes = [] ∧
    (s.moduleReset cause).fb = [] ∧ (s.moduleReset cause).emu = [] := ⟨rfl, rfl, rfl, rfl⟩
theorem State.moduleReset_mram : (s.moduleReset cause).sec.priv = s.sec.priv ∧
    (s.moduleReset cause).red.retiredA = s.red.retiredA ∧ (s.moduleReset cause).red.retiredB = s.red.retiredB ∧
    (s.moduleReset cause).tap = s.tap := by
  simp -implicitDefEqProofs [State.moduleReset]

/-- SYS.BOOT.CAUSE tells what reset the module; the boot's number, written after it, stands elsewhere. -/
theorem State.fld_cause_setBoot (t : State) (v : Nat) :
    ((t.setFld F.SYS_BOOT_CAUSE cause).setFld F.FLT_LOG_BOOT v).fld F.SYS_BOOT_CAUSE = cause % 2 ^ F.SYS_BOOT_CAUSE.width :=
  (State.fld_setFld_obj _ _ (by decide) (by decide) (by decide) (by decide) (by decide)).trans (State.fld_setFld_same ..)

theorem State.moduleReset_cause : (s.moduleReset cause).fld F.SYS_BOOT_CAUSE = cause % 2 ^ F.SYS_BOOT_CAUSE.width :=
  State.fld_cause_setBoot ..

/-- Module reset is left in CONFIGURE. -/
theorem State.moduleReset_mode : (s.moduleReset cause).mode = .configure := by
  have code : (s.moduleReset cause).fld F.SYS_MODE_MODE = 0 := by
    unfold State.moduleReset
    rw [State.fld_setFld_obj _ _ (by decide) (by decide) (by decide) (by decide) (by decide),
      State.fld_setFld_obj _ _ (by decide) (by decide) (by decide) (by decide) (by decide)]
    refine (State.fld_of_lowObjs (n := 20) (s := State.reset) ?_ _ (by decide) (by decide) (by decide)).trans (by decide)
    simp -implicitDefEqProofs +decide
  rw [State.mode, code]
  rfl

theorem State.moduleReset_inModuleReset : (s.moduleReset cause).inModuleReset = true := rfl

end ModuleReset

theorem exec_resetNLow_of_reset {s : State} (h : s.boot.resetLow = false ∨ s.boot.stopped = true) :
    exec .resetNLow s = .next (s.moduleReset 1) := by
  have enters : (s.boot.resetLow && !s.boot.stopped) = false := by
    obtain h | h := h <;> simp [h]
  show execResetNLow s = _
  rw [execResetNLow, enters]
  rfl

/-! ### Boot (R48 to R50) -/

theorem State.setStage_stage (s : State) (n : Nat) : (s.setStage n).fld F.SYS_BOOT_STAGE = n % 2 ^ F.SYS_BOOT_STAGE.width := by
  unfold State.setStage State.setBit
  rw [State.fld_setFld_obj _ _ (by decide) (by decide) (by decide) (by decide) (by decide),
    State.fld_setFld_obj _ _ (by decide) (by decide) (by decide) (by decide) (by decide), State.fld_setFld_same]

theorem State.setStage_ready (s : State) (n : Nat) : (s.setStage n).bit F.HIF_STATUS_RINGS_READY = (n == 7 || n == 8) :=
  State.bit_setBit_same _ _ _ _ _ rfl

/-- What the end of boot shows, once its stage is settled. -/
def State.bootShown (s : State) (lands : Nat) : State := ((s.showSlots.settleTrips lands).showSpares).showSurvey

section Shown

variable (s : State) (lands : Nat)

theorem State.bootShown_time : (s.bootShown lands).time = s.time := by simp -implicitDefEqProofs [State.bootShown]
theorem State.bootShown_boot : (s.bootShown lands).boot = s.boot := by simp -implicitDefEqProofs [State.bootShown, State.showSlots]

/-- The slots' states stand in SYS.BOOT beside the stage. -/
theorem State.showSlots_stage : s.showSlots.fld F.SYS_BOOT_STAGE = s.fld F.SYS_BOOT_STAGE := by
  simp -implicitDefEqProofs +decide [State.showSlots, State.fld_setFld_bits]

theorem State.bootShown_stage : (s.bootShown lands).fld F.SYS_BOOT_STAGE = s.fld F.SYS_BOOT_STAGE := by
  refine (State.fld_of_lowObjs (n := 20) (s := s.showSlots) ?_ _ (by decide) (by decide) (by decide)).trans s.showSlots_stage
  simp -implicitDefEqProofs [State.bootShown]

end Shown

section ResetLow

variable (s : State) (u n : Nat) (readA readB : Bool)

theorem State.loadUnit_resetLow (a b : SMap Word24) : (s.loadUnit u n a b).boot.resetLow = s.boot.resetLow := by
  unfold State.loadUnit
  dsimp only
  split <;> simp -implicitDefEqProofs

theorem State.bootUnit_resetLow : (s.bootUnit u n readA).boot.resetLow = s.boot.resetLow := by
  unfold State.bootUnit
  split
  · exact s.loadUnit_resetLow u n _ _
  · simp -implicitDefEqProofs

theorem State.bootImage_resetLow : (s.bootImage n readA readB).boot.resetLow = s.boot.resetLow := by
  unfold State.bootImage
  dsimp only
  split <;> simp -implicitDefEqProofs [State.bootUnit_resetLow]

theorem State.chooseSlot_resetLow (ns : List Nat) : (s.chooseSlot ns).1.boot.resetLow = s.boot.resetLow := by
  induction ns generalizing s with
  | nil => rfl
  | cons n ns ih =>
    unfold State.chooseSlot
    split
    · rfl
    · rw [ih]; rfl

end ResetLow

/-- The boot once the self-test has passed: the time base runs, and keys a marker names are gone. -/
def State.bootBegun (s : State) : State :=
  let s1 : State := { s with boot := { s.boot with resetLow := false, riseAt := s.now }, time := { s.time with running := true } }
  (if s.sec.marker then s1.eraseKeys else s1).setStage 2

theorem State.bootUp_of_failedTest (s : State) (readA readB : Bool) (lands : Nat) :
    s.bootUp false readA readB lands = ({ s with boot := { s.boot with resetLow := false } } : State).setStage 0xF := rfl

theorem State.bootUp_of_passedTest (s : State) (readA readB : Bool) (lands : Nat) :
    s.bootUp true readA readB lands = State.bootShown
      (match (s.bootBegun.chooseSlot s.bootBegun.slotOrder).2 with
       | some n => (s.bootBegun.chooseSlot s.bootBegun.slotOrder).1.bootImage n readA readB
       | none => ((s.bootBegun.chooseSlot s.bootBegun.slotOrder).1.setUnattested true).checkBb.setStage 8) lands := rfl

theorem State.bootBegun_time (s : State) : s.bootBegun.time.running = true := by
  unfold State.bootBegun
  dsimp only
  split <;> simp -implicitDefEqProofs

theorem State.bootBegun_boot (s : State) : s.bootBegun.boot = { s.boot with resetLow := false, riseAt := s.now } := by
  unfold State.bootBegun
  dsimp only
  split <;> simp -implicitDefEqProofs

/-- With the self-test passed the time base runs and the reset is over. -/
theorem State.bootUp_runs (s : State) (readA readB : Bool) (lands : Nat) :
    (s.bootUp true readA readB lands).time.running = true ∧ (s.bootUp true readA readB lands).boot.resetLow = false := by
  have begun : s.bootBegun.boot.resetLow = false := by rw [s.bootBegun_boot]
  rw [s.bootUp_of_passedTest, State.bootShown_time, State.bootShown_boot]
  constructor
  · split <;> simp -implicitDefEqProofs [State.bootBegun_time]
  · split
    · rw [State.bootImage_resetLow, State.chooseSlot_resetLow, begun]
    · simp -implicitDefEqProofs [State.chooseSlot_resetLow, begun]

/-- With no valid image in either slot the boot comes to stage 0x8, and no image runs. -/
theorem State.bootUp_of_noImage {s : State} (h0 : (s.slot 0).state ≠ 1) (h1 : (s.slot 1).state ≠ 1) (readA readB : Bool) (lands : Nat) :
    (s.bootUp true readA readB lands).fld F.SYS_BOOT_STAGE = 8 ∧
    (s.bootUp true readA readB lands).boot.running = s.boot.running := by
  have slots (n : Nat) : s.bootBegun.slot n = s.slot n := by rw [State.slot, State.slot, s.bootBegun_boot]
  have none : s.bootBegun.slotOrder = [] := by
    unfold State.slotOrder
    simp only [slots]
    split <;> simp [h0, h1]
  rw [s.bootUp_of_passedTest, none, State.bootShown_boot, State.bootShown_stage]
  refine ⟨State.setStage_stage .., ?_⟩
  simp -implicitDefEqProofs [State.chooseSlot, State.bootBegun_boot]

/-- The end of DRAM initialisation with the earlier stages done is stage 0x7. -/
theorem State.dramDone_of_waiting {s : State} (lands : Nat) (low : s.boot.resetLow = false) (notYet : s.boot.dramReady = false)
    (waits : s.boot.waitDram = true) :
    (s.dramDone lands).fld F.SYS_BOOT_STAGE = 7 ∧ (s.dramDone lands).bit F.HIF_STATUS_RINGS_READY = true := by
  obtain ⟨u, hu⟩ : ∃ u : State, lowObjs 20 (s.dramDone lands).objs = lowObjs 20 (u.setStage 7).objs := by
    unfold State.dramDone
    simp only [low, notYet, waits, Bool.or_self, Bool.false_eq_true, if_false, Bool.not_true]
    exact ⟨_, by simp -implicitDefEqProofs [apply_ite State.objs]; rfl⟩
  have same (f : Fld) (hf : f.obj.code < 20) : (s.dramDone lands).fld f = (u.setStage 7).fld f :=
    State.fld_of_lowObjs hu f hf (by decide) (by decide)
  exact ⟨(same _ (by decide)).trans (u.setStage_stage 7), by
    rw [State.bit, same _ (by decide)]; exact u.setStage_ready 7⟩

theorem State.dramDone_of_early {s : State} (lands : Nat) (low : s.boot.resetLow = false) (notYet : s.boot.dramReady = false)
    (early : s.boot.waitDram = false) : s.dramDone lands = { s with boot := { s.boot with dramReady := true } } := by
  simp [State.dramDone, low, notYet, early]

theorem execResetNRise_of_proper {s : State} {ns : Nat} (low : s.boot.resetLow = true) (runs : s.boot.stopped = false)
    (proper : 10000 ≤ ns) (st ra rb : Bool) (lands : Fin (2 ^ 32)) :
    exec (.resetNRise ns st ra rb lands) s = .next (s.bootUp st ra rb lands.val) := by
  have notShort : ¬ ns < 1000 := by omega
  have notUndefined : ¬ ns < 10000 := by omega
  show execResetNRise ns st ra rb lands s = _
  simp [execResetNRise, low, runs, notShort, notUndefined]

theorem exec_resetNRise_of_stopped {s : State} (stopped : s.boot.stopped = true) (ns : Nat) (st ra rb : Bool)
    (lands : Fin (2 ^ 32)) : exec (.resetNRise ns st ra rb lands) s = .next s := by
  show execResetNRise ns st ra rb lands s = _
  simp [execResetNRise, stopped]

/-- Settles O16: module reset, the boot after a proper pulse, and the end of DRAM initialisation. -/
theorem moduleResetAndBoot : Obligations.ModuleResetAndBoot := by
  refine ⟨fun s h => ?_, fun ns st ra rb lands s stopped => exec_resetNRise_of_stopped stopped ns st ra rb lands,
    fun ns st ra rb lands s low runs proper => ⟨_, execResetNRise_of_proper low runs proper st ra rb lands, ?_⟩,
    fun lands s low notYet => ⟨_, rfl, s.dramDone_of_waiting lands.val low notYet, s.dramDone_of_early lands.val low notYet⟩⟩
  · obtain ⟨groups, lanes, fb, -⟩ := s.moduleReset_stores 1
    obtain ⟨priv, retiredA, retiredB, tap⟩ := s.moduleReset_mram 1
    exact ⟨_, exec_resetNLow_of_reset h, s.moduleReset_inModuleReset 1, s.moduleReset_boot_stopped 1,
      by rw [s.moduleReset_host], s.moduleReset_msgs 1, by rw [s.moduleReset_flt], groups, lanes, fb,
      by rw [s.moduleReset_flt], priv, retiredA, retiredB, by rw [s.moduleReset_host],
      by rw [s.moduleReset_host], tap, s.moduleReset_pending 1, s.moduleReset_cause 1, s.moduleReset_mode 1⟩
  · refine ⟨?_, ?_, ?_⟩
    · cases st
      · rfl
      · exact (s.bootUp_runs ra rb lands.val).2
    · rintro rfl
      rw [s.bootUp_of_failedTest]
      exact ⟨State.setStage_stage .., State.setStage_ready ..⟩
    · rintro rfl
      exact ⟨(s.bootUp_runs ra rb lands.val).1, fun h0 h1 => State.bootUp_of_noImage h0 h1 ra rb lands.val⟩

/-! ### Clock and supplies (R52, R55, R267, R440) -/

/-- Once the logic has stopped the module is as in module reset. -/
theorem State.logicStops_eq (s : State) : s.logicStops =
    { (s.moduleReset (s.fld F.SYS_BOOT_CAUSE)).setFld F.FLT_LOG_BOOT (s.fld F.FLT_LOG_BOOT) with
      boot := { ((s.moduleReset (s.fld F.SYS_BOOT_CAUSE)).setFld F.FLT_LOG_BOOT (s.fld F.FLT_LOG_BOOT)).boot with stopped := true } } := rfl

theorem State.timeStop_of_lost {s : State} (runs : s.time.running = true) (lost : s.time.refLost = true) :
    s.timeStop = ({ State.finishRests 192 ({ s with time := { s.time with stopping := true } } : State).refreshGroups with
      time := { (State.finishRests 192 ({ s with time := { s.time with stopping := true } } : State).refreshGroups).time with
        running := false, stopping := false } } : State).refreshGroups := by
  simp [State.timeStop, runs, lost]

theorem State.finishRests_of_none {s : State} (h : s.firstRest = none) (n : Nat) : State.finishRests (n + 1) s = s := by
  rw [State.finishRests, h]

/-- A sag loses the unit named, and nothing else changes. -/
theorem State.sag_spec (s : State) (u : Fin 2) (low : s.boot.resetLow = false) :
    (if u = 0 then (s.sag u.val).red.lostA else (s.sag u.val).red.lostB) = true ∧
    (if u = 0 then (s.sag u.val).red.lostB = s.red.lostB else (s.sag u.val).red.lostA = s.red.lostA) ∧
    s.sag u.val = { s with red := (s.sag u.val).red } := by
  match u with
  | 0 => simp [State.sag, low]
  | 1 => simp [State.sag, low]

theorem State.refLoss_of_running {s : State} (runs : s.time.running = true) (held : s.time.refLost = false) :
    s.refLoss.time = { s.time with refLost := true } ∧
    s.refLoss.msgs = s.msgs ++ [{ source := sourceNo K.HUB_CHECK 0, data := 0, dlen := 1, stamp := s.now }] ∧
    s.refLoss = { s with time := s.refLoss.time, msgs := s.refLoss.msgs } := by
  have after : s.refLoss = ({ s with time := { s.time with refLost := true } } : State).raise K.HUB_CHECK 0 0 1 := by
    simp [State.refLoss, runs, held]
  rw [after]
  exact ⟨rfl, rfl, rfl⟩

theorem State.refLoss_of_idle {s : State} (h : s.time.running = false ∨ s.time.refLost = true) : s.refLoss = s := by
  obtain h | h := h <;> simp [State.refLoss, h]

theorem State.timeStop_of_idle {s : State} (h : s.time.running = false ∨ s.time.refLost = false) : s.timeStop = s := by
  obtain h | h := h <;> simp [State.timeStop, h]

theorem State.timeStop_time {s : State} (runs : s.time.running = true) (lost : s.time.refLost = true) :
    s.timeStop.time.running = false ∧ s.timeStop.time.stopping = false ∧
    (({ s with time := { s.time with stopping := true } } : State).refreshGroups.firstRest = none →
      s.timeStop.time = { s.time with running := false, stopping := false }) := by
  rw [State.timeStop_of_lost runs lost, State.refreshGroups_time]
  refine ⟨rfl, rfl, fun atRest => ?_⟩
  rw [State.finishRests_of_none atRest, State.refreshGroups_time]

/-- What holds once the logic has stopped (R55). -/
theorem State.logicStops_spec (s : State) :
    s.logicStops.inModuleReset = true ∧ s.logicStops.boot.stopped = true ∧ s.logicStops.groups = [] ∧ s.logicStops.lanes = [] ∧
    s.logicStops.fb = [] ∧ s.logicStops.emu = [] ∧ s.logicStops.msgs = [] ∧ s.logicStops.host.cmds = [] ∧
    (∀ e ∈ s.logicStops.fio.outs, e.2.on = false) ∧ s.logicStops.flt.log = s.flt.log ∧ s.logicStops.sec.priv = s.sec.priv ∧
    s.logicStops.tap = s.tap ∧ s.logicStops.pending = s.pending := by
  obtain ⟨groups, lanes, fb, emu⟩ := s.moduleReset_stores (s.fld F.SYS_BOOT_CAUSE)
  obtain ⟨priv, -, -, tap⟩ := s.moduleReset_mram (s.fld F.SYS_BOOT_CAUSE)
  have off : ∀ e ∈ (s.moduleReset (s.fld F.SYS_BOOT_CAUSE)).fio.outs, e.2.on = false := by
    rw [State.moduleReset_fio]; exact s.fio.afterReset_off
  have reset := s.moduleReset_inModuleReset (s.fld F.SYS_BOOT_CAUSE)
  unfold State.inModuleReset at reset ⊢
  rw [State.logicStops_eq]
  simp -implicitDefEqProofs only [State.setFld_boot, State.setFld_time, State.setFld_host, State.setFld_flt, State.setFld_per,
    State.setFld_groups, State.setFld_lanes, State.setFld_fb, State.setFld_emu, State.setFld_msgs, State.setFld_fio, State.setFld_sec,
    State.setFld_tap, State.setFld_pending, groups, lanes, fb, emu, priv, tap, State.moduleReset_msgs, State.moduleReset_host,
    State.moduleReset_pending, State.moduleReset_flt]
  rw [State.moduleReset_host, State.moduleReset_flt] at reset
  exact ⟨reset, trivial, trivial, trivial, trivial, trivial, trivial, trivial, off, trivial, trivial, trivial, trivial⟩

/-- Settles O17: loss of the clock, the stop of the time base, a sag, and the stop of the logic. -/
theorem clockAndSupplyEvents : Obligations.ClockAndSupplyEvents := by
  intro s
  refine ⟨fun runs held => ⟨s.refLoss, rfl, State.refLoss_of_running runs held⟩,
    fun idle => congrArg Host.Outcome.next (State.refLoss_of_idle idle),
    fun runs lost => ⟨s.timeStop, rfl, State.timeStop_time runs lost⟩,
    fun idle => congrArg Host.Outcome.next (State.timeStop_of_idle idle),
    fun u => ⟨fun low => ⟨s.sag u.val, rfl, s.sag_spec u low⟩, fun low => ?_⟩, fun low => ?_,
    fun low => ⟨s.logicStops, ?_, s.logicStops_spec⟩⟩
  · have same : s.sag u.val = s := by simp [State.sag, low]
    exact congrArg Host.Outcome.next same
  · show execSupplyBelowRange s = _
    simp [execSupplyBelowRange, low]
  · show execSupplyBelowRange s = _
    simp [execSupplyBelowRange, low]

end Sys2Proof.Machine
end

section
/-! Interrupt messages (R88, O24). -/

set_option Elab.async false

namespace Sys2Proof.Machine

theorem State.setCq_cq_same (s : State) (m : Nat) (v : CqSt) : (s.setCq m v).cq m = v := SMap.get_set_same ..

theorem State.setCq_cq_ne (s : State) {m k : Nat} (v : CqSt) (h : k ≠ m) : (s.setCq m v).cq k = s.cq k := SMap.get_set_ne h

theorem State.setRing_ring_same (s : State) (r : Nat) (v : RingSt) : (s.setRing r v).ring r = v := SMap.get_set_same ..

theorem State.setRing_ring_ne (s : State) {r k : Nat} (v : RingSt) (h : k ≠ r) : (s.setRing r v).ring k = s.ring k := SMap.get_set_ne h

theorem State.sendMessage_of_busMaster {s : State} (bus : s.host.busMaster = true) (v : Nat) :
    s.sendMessage v = { s with host := { s.host with
      writes := s.host.writes ++ [⟨(s.host.msix.get v {}).addr, 4, (s.host.msix.get v {}).data⟩]
      messages := s.host.messages ++ [v] } } := by
  simp only [State.sendMessage, State.hostWrite, bus, if_true]

theorem State.busMaster_of_canSignal {s : State} {v : Nat} (h : s.canSignal v = true) : s.host.busMaster = true := by
  simp only [State.canSignal, Bool.and_eq_true] at h
  exact h.1.1.1

theorem State.signalCq_of_canSignal {s : State} {m v : Nat} (hv : s.fld F.HIF_CQ_CTRL_VECTOR m = v) (can : s.canSignal v = true) :
    s.signalCq m = { s with host := { s.host with
      cqs := s.host.cqs.set m { s.cq m with unsignalled := 0, due := none } {}
      writes := s.host.writes ++ [⟨(s.host.msix.get v {}).addr, 4, (s.host.msix.get v {}).data⟩]
      messages := s.host.messages ++ [v] } } := by
  subst hv
  simp only [State.signalCq, can, if_true]
  exact State.sendMessage_of_busMaster (s := s.signalled m) (State.busMaster_of_canSignal can) _

theorem State.signalCq_of_held {s : State} {m v : Nat} (hv : s.fld F.HIF_CQ_CTRL_VECTOR m = v) (cannot : s.canSignal v = false) :
    s.signalCq m = { s with host := { s.host with
      cqs := s.host.cqs.set m { s.cq m with due := some v } {}
      pba := s.host.pba ||| 2 ^ v } } := by
  subst hv
  simp only [State.signalCq, cannot, Bool.false_eq_true, if_false]
  rfl

/-- The completion rings whose message a vector holds, signalled (R88). -/
def State.signalWaiting (s : State) (v n : Nat) : State :=
  s.forRange n fun s m => if (s.cq m).due = some v then s.signalled m else s

theorem State.signalled_eq (s : State) (m : Nat) :
    s.signalled m = { s with host := { s.host with cqs := (s.signalled m).host.cqs } } := rfl

theorem State.signalled_cq (s : State) (m k : Nat) :
    (s.signalled m).cq k = if k = m then { s.cq m with unsignalled := 0, due := none } else s.cq k := SMap.get_set ..

theorem State.forRange_succ (s : State) (n : Nat) (f : State → Nat → State) : s.forRange (n + 1) f = f (s.forRange n f) n := by
  simp only [State.forRange, List.range_succ, List.foldl_append, List.foldl_cons, List.foldl_nil]

theorem State.signalWaiting_spec (s : State) (v n : Nat) :
    (∃ cqs, s.signalWaiting v n = { s with host := { s.host with cqs := cqs } }) ∧
    ∀ k, (s.signalWaiting v n).cq k =
      if k < n ∧ (s.cq k).due = some v then { s.cq k with unsignalled := 0, due := none } else s.cq k := by
  induction n with
  | zero => exact ⟨⟨_, rfl⟩, fun k => by simp [State.signalWaiting, State.forRange]⟩
  | succ n ih =>
    obtain ⟨⟨cqs, hs⟩, hq⟩ := ih
    have step : s.signalWaiting v (n + 1) = if (s.cq n).due = some v then (s.signalWaiting v n).signalled n else s.signalWaiting v n := by
      have hn : (s.signalWaiting v n).cq n = s.cq n := by rw [hq]; exact if_neg fun h => Nat.lt_irrefl _ h.1
      rw [← hn]; exact State.forRange_succ ..
    rw [step]
    split
    · next due =>
      refine ⟨⟨_, by rw [State.signalled_eq, hs]⟩, fun k => ?_⟩
      rw [State.signalled_cq, hq n, hq k]
      grind
    · next due =>
      refine ⟨⟨_, hs⟩, fun k => ?_⟩
      rw [hq k]
      grind

theorem State.sendHeld_spec {s : State} {v : Nat} (bus : s.host.busMaster = true) : ∃ cqs : SMap CqSt,
    s.sendHeld v = { s with host := { s.host with
      cqs := cqs, pba := putBits s.host.pba v 1 0
      writes := s.host.writes ++ [⟨(s.host.msix.get v {}).addr, 4, (s.host.msix.get v {}).data⟩]
      messages := s.host.messages ++ [v] } } ∧
    ∀ k, cqs.get k {} = if k < 17 ∧ (s.cq k).due = some v then { s.cq k with unsignalled := 0, due := none } else s.cq k := by
  obtain ⟨⟨cqs, hs⟩, hq⟩ := s.signalWaiting_spec v 17
  rw [hs] at hq
  rw [State.signalWaiting] at hs
  refine ⟨cqs, ?_, hq⟩
  simp only [State.sendHeld, hs]
  exact State.sendMessage_of_busMaster (s := { s with host := { s.host with cqs := cqs, pba := putBits s.host.pba v 1 0 } }) bus v

theorem putBits_clears_bit (w v : Nat) : (putBits w v 1 0).testBit v = false := by
  have h := getBits_putBits_same w v 1 0
  simpa [getBits, Nat.testBit_eq_decide_div_mod_eq] using h

theorem exec_msixModTimer_of_due {s : State} {m : Fin 17} (time : s.fld F.HIF_CQ_MOD_TIME m.val ≠ 0) (waiting : 0 < (s.cq m.val).unsignalled) :
    exec (.msixModTimer m) s =
      .next ((s.until ((s.cq m.val).oldest + 400 * s.fld F.HIF_CQ_MOD_TIME m.val)).signalCq m.val) := by
  show execMsixModTimer m s = _
  simp only [execMsixModTimer, if_pos (And.intro time waiting)]

theorem exec_msixModTimer_of_none {s : State} {m : Fin 17} (h : s.fld F.HIF_CQ_MOD_TIME m.val = 0 ∨ (s.cq m.val).unsignalled = 0) :
    exec (.msixModTimer m) s = .next s := by
  show execMsixModTimer m s = _
  simp only [execMsixModTimer]
  rw [if_neg (by omega)]

theorem exec_msixHeldMessage (v : Fin 64) (s : State) :
    exec (.msixHeldMessage v) s = .next (if s.host.pba.testBit v.val && s.canSignal v.val then s.sendHeld v.val else s) := rfl

/-- Settles O24: a message that falls due is sent or held; a held one goes and signals the rings that wait for it. -/
theorem interruptMessages : Obligations.InterruptMessages := by
  unfold Obligations.InterruptMessages
  intro s
  refine ⟨fun m => ⟨fun time waiting => ⟨_, exec_msixModTimer_of_due time waiting, ?_⟩, exec_msixModTimer_of_none⟩,
    fun v pending can => ?_, fun v no => ?_⟩
  · generalize s.until _ = w
    cases can : w.canSignal (w.fld F.HIF_CQ_CTRL_VECTOR m.val) with
    | true =>
      rw [State.signalCq_of_canSignal rfl can]
      exact ⟨rfl, fun k hk => SMap.get_set_ne hk, fun _ => ⟨congrArg CqSt.unsignalled (SMap.get_set_same ..), rfl, rfl, rfl⟩, nofun⟩
    | false =>
      rw [State.signalCq_of_held rfl can]
      have same := State.setCq_cq_same w m.val { w.cq m.val with due := some (w.fld F.HIF_CQ_CTRL_VECTOR m.val) }
      exact ⟨rfl, fun k hk => SMap.get_set_ne hk, nofun, fun _ => ⟨(congrArg CqSt.unsignalled same).trans rfl, congrArg CqSt.due same, rfl, rfl⟩⟩
  · obtain ⟨cqs, sent, hq⟩ := State.sendHeld_spec (v := v.val) (State.busMaster_of_canSignal can)
    rw [exec_msixHeldMessage, pending, can, Bool.and_self, if_pos rfl, sent]
    refine ⟨_, rfl, rfl, putBits_clears_bit .., rfl, fun m hm => ?_⟩
    have cq := hq m
    split
    · next due => rw [if_pos ⟨hm, due⟩] at cq; exact ⟨congrArg CqSt.unsignalled cq, congrArg CqSt.due cq⟩
    · next due => rw [if_neg fun h => due h.2] at cq; exact cq
  · rw [exec_msixHeldMessage, if_neg (by rcases no with h | h <;> simp [h])]

end Sys2Proof.Machine
end

section
/-! Register writes (R68, R70, R71, O21). -/

set_option Elab.async false

namespace Sys2Proof.Machine

theorem exec_registerWrite (sp : RegSpace) (o : Fin 16384) (size : Fin 9) (v : Fin (2 ^ 32)) (s : State) :
    exec (.registerWrite sp o size v) s = outOf (s.registerWrite sp o.val size.val v.val) := rfl

/-- The objects in the order of their codes. -/
def objsByCode : List Obj :=
  [.sysPeriod, .sysSlack, .sysPlace, .sysMode, .sysCommission, .sysBoot, .sysReset, .sysFence, .hifId, .hifStatus, .hifLink,
    .hifRingCtrl, .hifRingState, .hifRingApplied, .hifCqCtrl, .hifCqMod, .hifEqLost, .hifDb, .hifRearm, .engIdent, .engBank,
    .engCoefA, .engCoefB, .engLane, .engTask, .axisCfg, .axisLimits, .axisComp, .axisStatus, .profLimits, .profStatus,
    .gearMaster, .camCommit, .camProf, .caravanCfg, .latchCfg, .latchResult, .cmpCfg, .cmpStatus, .pwmgCfg, .pwmgAux, .pwmTripin,
    .pwmgCtrl, .pwmgStatus, .fbCfg, .fbSerial, .fbCtrl, .fbStatus, .emuCfg, .emuStatus, .csClk, .csCfg, .csOc, .csStatus,
    .timeCfg, .timeStatus, .ethCfg, .ethStatus, .cycTx, .cycRx, .netMaster, .canCfg, .canTxslot, .canFilter, .canRxctl,
    .canStatus, .redCfg, .redCtrl, .redStatus, .redSpares, .fltRec, .fltPin, .fltForce, .fltFirst, .fltLog, .fltCfg, .fltSrc,
    .fioDiCfg, .fioDiTime, .fioDoCfg, .fioDoCmd, .fioStatus, .survCfg, .survStatus, .survCtrl, .survExport, .survReplay, .secId,
    .secCfgkey, .secCtrl, .secStatus, .secDebug, .hifRingBase, .hifCqBase, .hifCqTail, .sysPhase, .canRxq, .camStage,
    .caravanSegbuf, .survUpload, .survBb, .secLanemem]

theorem objsByCode_code (o : Obj) : objsByCode[o.code - 1]? = some o ∧ 0 < o.code := by
  cases o <;> exact ⟨rfl, by decide⟩

theorem Obj.code_injective {o o' : Obj} (h : o.code = o'.code) : o = o' := by
  have e := (objsByCode_code o).1
  rw [h, (objsByCode_code o').1] at e
  exact (Option.some.inj e).symm

theorem State.setObj_sameObjs (s : State) (o : Obj) {i e : Nat} (v : Nat) (hi : i < 256) (he : e < 65536) :
    SameObjs [o] s (s.setObj o i e v) := by
  intro o' j e' ho hj he'
  exact s.obj_setObj_ne _ fun h => ho (List.mem_singleton.mpr (Obj.code_injective (objKey_inj hj hi he' he h).1))

theorem State.setFld_sameObjs (s : State) (f : Fld) {i : Nat} (v : Nat) (hi : i < 256) : SameObjs [f.obj] s (s.setFld f v i) :=
  s.setObj_sameObjs _ _ hi (by decide)

section
variable {s : State} {v : Fin (2 ^ 32)}

theorem exec_registerWrite_bar0 (reached : s.reached = true) {o : Fin 16384} (aligned : o.val % 4 = 0) :
    exec (.registerWrite .bar0 o 4 v) s = outOf (s.writeBar0 o.val v.val) := by
  rw [exec_registerWrite, State.registerWrite, reached]
  simp [aligned]

theorem exec_registerWrite_bar2 (reached : s.reached = true) {o : Fin 16384} (aligned : o.val % 4 = 0) :
    exec (.registerWrite .bar2 o 4 v) s = .next (s.writeBar2 (o.val / 4) v.val) := by
  rw [exec_registerWrite, State.registerWrite, reached]
  simp [aligned, outOf]

/-- Words of a command ring's block reach `writeRingReg`. -/
theorem State.writeBar0_cr (n : Fin 16) (w : Nat) : s.writeBar0 (0x1000 + 0x20 * n.val) w = s.writeRingReg n.val 0 w := by
  have := n.isLt
  rw [State.writeBar0, if_neg (by omega), if_neg (by omega), if_pos (by omega)]
  congr 1 <;> omega

/-- The MOD word of a completion ring's block reaches `writeMod`. -/
theorem State.writeBar0_cqMod (m : Fin 16) (w : Nat) : s.writeBar0 (0x120C + 0x20 * m.val) w = s.writeMod m.val w := by
  have := m.isLt
  rw [State.writeBar0, if_neg (by omega), if_neg (by omega), if_neg (by omega), if_pos (by omega),
    show (0x120C + 0x20 * m.val - 0x1200) / 0x20 = m.val by omega, show (0x120C + 0x20 * m.val) % 0x20 = 0x0C by omega]
  rfl

theorem getBits_putBits_low (w v : Nat) (hv : v < 2 ^ 32) : getBits (putBits w 0 32 v) 0 32 = v := by
  rw [getBits_putBits_same, Nat.mod_eq_of_lt hv]

theorem putBits_lt {c lo w k : Nat} (v : Nat) (hc : c < 2 ^ k) (h : lo + w ≤ k) : putBits c lo w v < 2 ^ k := by
  refine Nat.lt_pow_two_of_testBit _ fun i hi => ?_
  rw [testBit_putBits, if_neg (by omega)]
  exact Nat.testBit_lt_two_pow (Nat.lt_of_lt_of_le hc (Nat.pow_le_pow_right (by decide) hi))

theorem State.fld_lt (s : State) (f : Fld) (i e : Nat) : s.fld f i e < 2 ^ f.width := Nat.mod_lt _ (Nat.two_pow_pos _)

theorem State.writeBase_low {r : Nat} (disabled : s.bit F.HIF_RING_CTRL_ENABLE r = false) {w : Nat} (hw : w % 2 ^ 12 = 0) :
    s.writeBase F.HIF_RING_BASE_ADDR F.HIF_RING_CTRL_ENABLE r false w =
      .ok (s.setFld F.HIF_RING_BASE_ADDR (putBits (s.fld F.HIF_RING_BASE_ADDR r) 0 32 w) r) := by
  rw [State.writeBase, disabled, if_neg nofun, if_neg nofun, if_neg (not_not_intro hw)]

theorem State.writeBase_enabled {r : Nat} (enabled : s.bit F.HIF_RING_CTRL_ENABLE r = true) (high : Bool) (w : Nat) :
    s.writeBase F.HIF_RING_BASE_ADDR F.HIF_RING_CTRL_ENABLE r high w = .error .ringSetup := by
  rw [State.writeBase, enabled, if_pos rfl]

/-- The two halves of BASE after its low half was written. -/
theorem State.base_halves (s : State) (r : Nat) {w : Nat} (hw : w < 2 ^ 32) :
    let t := s.setFld F.HIF_RING_BASE_ADDR (putBits (s.fld F.HIF_RING_BASE_ADDR r) 0 32 w) r
    getBits (t.fld F.HIF_RING_BASE_ADDR r) 0 32 = w ∧
    getBits (t.fld F.HIF_RING_BASE_ADDR r) 32 32 = getBits (s.fld F.HIF_RING_BASE_ADDR r) 32 32 := by
  dsimp only
  rw [State.fld_setFld_same, Nat.mod_eq_of_lt (putBits_lt _ (s.fld_lt ..) (by decide)), getBits_putBits_same,
    Nat.mod_eq_of_lt hw, getBits_putBits_ne _ _ (Or.inr (by decide))]
  exact ⟨rfl, rfl⟩

theorem State.writeBar2_eq (s : State) (i w : Nat) : s.writeBar2 i w = { s with host := { s.host with msix := (s.writeBar2 i w).host.msix } } := by
  unfold State.writeBar2
  split <;> rfl

theorem State.writeBar2Other_eq (s : State) (o size w : Nat) :
    s.writeBar2Other o size w = { s with host := { s.host with msix := (s.writeBar2Other o size w).host.msix } } := by
  unfold State.writeBar2Other
  split
  · rfl
  · generalize (List.range _) = l
    induction l generalizing s with
    | nil => rfl
    | cons i l ih => rw [List.foldl_cons, ih, State.writeBar2_eq]

/-- Word 2 of an MSI-X entry is its data. -/
theorem State.writeBar2_data (s : State) (e : Fin 64) (w : Nat) :
    s.writeBar2 (4 * e.val + 2) w =
      s.mapHost fun h => { h with msix := h.msix.set e.val { s.host.msix.get e.val {} with data := w } {} } := by
  have := e.isLt
  rw [State.writeBar2, if_neg (by omega)]
  simp only [show (4 * e.val + 2) / 4 = e.val by omega, show (4 * e.val + 2) % 4 = 2 by omega]

theorem State.writeBar0_status (s : State) (w : Nat) : s.writeBar0 (0x08 : Fin 16384).val w =
    if w / 2 ^ 10 ≠ 0 then .error .reservedField else .ok (if w.testBit 9 then s.setBit F.HIF_STATUS_FLR_SEEN false else s) := rfl

end

/-- Settles O21: each register write reaches its field. -/
theorem registerWrites : Obligations.RegisterWrites := by
  unfold Obligations.RegisterWrites
  intro v s reached
  refine ⟨fun o size odd => ?_, fun n disabled aligned => ?_, fun n enabled => ?_, fun m clear => ?_, fun low seen => ?_, fun high => ?_,
    fun o size odd => ?_, ?_, fun e => ?_, ?_, ?_, ?_, ?_, fun off => ?_⟩
  · rw [exec_registerWrite, State.registerWrite, reached]
    simp only [Bool.not_true, Bool.false_eq_true, if_false, if_pos odd]; rfl
  · rw [exec_registerWrite_bar0 reached (by show (0x1000 + 0x20 * n.val) % 4 = 0; omega)]
    refine ⟨_, ?_, (s.base_halves n.val v.isLt).1, (s.base_halves n.val v.isLt).2, s.setFld_sameObjs F.HIF_RING_BASE_ADDR (i := n.val) _ (by omega), rfl⟩
    rw [State.writeBar0_cr, State.writeRingReg, State.writeBase_low disabled aligned]; rfl
  · rw [exec_registerWrite_bar0 reached (by show (0x1000 + 0x20 * n.val) % 4 = 0; omega), State.writeBar0_cr, State.writeRingReg,
      State.writeBase_enabled enabled]; rfl
  · rw [exec_registerWrite_bar0 reached (by show (0x120C + 0x20 * m.val) % 4 = 0; omega), State.writeBar0_cqMod, State.writeMod,
      if_neg (not_not_intro clear)]
    exact ⟨_, rfl, State.obj_setObj_same .., rfl⟩
  · rw [exec_registerWrite_bar0 reached (by decide)]
    refine ⟨s.setBit F.HIF_STATUS_FLR_SEEN false, ?_, State.bit_setBit_same _ _ _ _ _ rfl, State.fld_setFld_bits _ _ _ _ rfl (Or.inl (by decide))⟩
    rw [State.writeBar0_status, if_neg (not_not_intro low), seen]; rfl
  · rw [exec_registerWrite_bar0 reached (by decide), State.writeBar0_status, if_pos high]; rfl
  · refine ⟨s.writeBar2Other o.val size.val v.val, ?_, State.writeBar2Other_eq ..⟩
    rw [exec_registerWrite, State.registerWrite, reached]
    simp only [Bool.not_true, Bool.false_eq_true, if_false, if_pos odd]; rfl
  · rw [exec_registerWrite_bar0 reached (by decide)]; rfl
  · refine ⟨s.writeBar2 (4 * e.val + 2) v.val, ?_, ?_⟩
    · rw [exec_registerWrite_bar2 reached (by show (16 * e.val + 8) % 4 = 0; omega)]
      rw [show (16 * e.val + 8) / 4 = 4 * e.val + 2 by omega]
    · rw [State.writeBar2_data]
      exact ⟨SMap.get_set_same .., fun k hk => SMap.get_set_ne hk, rfl⟩
  · rw [exec_registerWrite, State.registerWrite, reached]; rfl
  · rw [exec_registerWrite, State.registerWrite, reached]; rfl
  · rw [exec_registerWrite, State.registerWrite, reached]; rfl
  · rw [exec_registerWrite, State.registerWrite, reached]; rfl
  · rw [exec_registerWrite, State.registerWrite, reached, off]; rfl

end Sys2Proof.Machine
end

section
/-! Events of the link and the function-level reset (R48, R69, R71, R99, R444, O19). -/

set_option Elab.async false

namespace Sys2Proof.Machine

@[simp] theorem foldl_host {α : Type} (f : State → α → State) (h : ∀ s a, (f s a).host = s.host) (l : List α) (s : State) :
    (l.foldl f s).host = s.host := foldl_keeps State.host f h l s

@[simp] theorem State.forRange_host (s : State) (n : Nat) (f : State → Nat → State) (h : ∀ s a, (f s a).host = s.host) :
    (s.forRange n f).host = s.host := foldl_keeps State.host f h _ s

@[simp] theorem State.noteEqFull_host (s : State) : s.noteEqFull.host = s.host := by
  simp -implicitDefEqProofs [State.noteEqFull]

@[simp] theorem State.setFence_host (s : State) (b : FenceId) (v : Bool) : (s.setFence b v).host = s.host := by
  unfold State.setFence
  split <;> simp -implicitDefEqProofs

@[simp] theorem State.addJob_host (s : State) (j : ResetJob) : (s.addJob j).host = s.host := by
  simp -implicitDefEqProofs [State.addJob]

/-- HIF.LINK after a write shows the speed, the width and whether the link is up. -/
theorem State.showLink_shows (s : State) (speed width : Nat) :
    (s.showLink speed width).fld F.HIF_LINK_SPEED = speed % 2 ^ F.HIF_LINK_SPEED.width ∧
    (s.showLink speed width).fld F.HIF_LINK_WIDTH = width % 2 ^ F.HIF_LINK_WIDTH.width ∧
    (s.showLink speed width).bit F.HIF_LINK_DL_ACTIVE = (speed != 0) := by
  refine ⟨?_, ?_, State.bit_setBit_same _ _ _ _ _ rfl⟩ <;>
    simp -implicitDefEqProofs +decide only [State.showLink, State.setBit, State.fld_setFld_bits, State.fld_setFld_same]

theorem State.linkFound_spec (s : State) (speed width : Nat) :
    (s.linkFound speed width).host.linkUp = true ∧
    (s.linkFound speed width).objs = ((s.mapHost fun h => { h with linkUp := true }).showLink speed width).objs := ⟨rfl, rfl⟩

theorem State.linkLost_of_up {s : State} (up : s.host.linkUp = true) :
    s.linkLost = ((s.mapHost fun h => { h with linkUp := false }).showLink 0 0).raise K.HOST_LINK_DOWN := if_pos up

theorem State.linkLost_host (s : State) : s.linkLost.host = { s.host with linkUp := false } := by
  cases up : s.host.linkUp with
  | true => rw [State.linkLost_of_up up]; rfl
  | false => rw [State.linkLost, up, if_neg nofun, ← up]

/-! ### Function-level reset -/

theorem State.obj_resetObj_same (s : State) (o : Obj) (i e : Nat) : (s.resetObj o i e).obj o i e = o.resetVal e :=
  State.obj_setObj_same ..

theorem State.obj_resetObj_ne (s : State) {o o' : Obj} {i i' : Nat} (h : o' ≠ o ∨ i' ≠ i) (hi : i < 256) (hi' : i' < 256) :
    (s.resetObj o i).obj o' i' 0 = s.obj o' i' 0 := by
  refine s.obj_setObj_ne _ fun hk => ?_
  obtain ⟨code, inst, -⟩ := objKey_inj hi' hi (by decide) (by decide) hk
  exact h.elim (· (Obj.code_injective code)) (· inst)

/-- Entries that each round of a loop sets, and that no other round touches. -/
theorem State.forRange_sets {f : State → Nat → State} {o : Obj} {v : Nat} (sets : ∀ s r, (f s r).obj o r 0 = v)
    (keeps : ∀ s r k, r < 256 → k < 256 → k ≠ r → (f s r).obj o k 0 = s.obj o k 0) (s : State) {n : Nat} (hn : n ≤ 256) :
    ∀ k < n, (s.forRange n f).obj o k 0 = v := by
  induction n with
  | zero => exact fun k hk => absurd hk (Nat.not_lt_zero k)
  | succ n ih =>
    intro k hk
    rw [State.forRange_succ]
    by_cases h : k = n
    · rw [h, sets]
    · rw [keeps _ _ _ (by omega) (by omega) h, ih (by omega) k (by omega)]

/-- The set-up registers of a command or bulk ring at their reset values. -/
def State.clearRing (s : State) (r : Nat) : State :=
  ((s.resetObj .hifRingBase r).resetObj .hifRingCtrl r).resetObj .hifRingState r

/-- The set-up registers of a completion ring at their reset values. -/
def State.clearCq (s : State) (m : Nat) : State :=
  (((s.resetObj .hifCqBase m).resetObj .hifCqCtrl m).resetObj .hifCqMod m).resetObj .hifCqTail m

theorem State.clearRing_ctrl (s : State) (r : Nat) : (s.clearRing r).obj .hifRingCtrl r 0 = 0 := by
  have ne : objKey .hifRingCtrl r 0 ≠ objKey .hifRingState r 0 := by unfold objKey; simp [Obj.code]
  rw [State.clearRing, State.resetObj, State.obj_setObj_ne _ _ ne, State.obj_resetObj_same]
  rfl

theorem State.clearRing_ctrl_ne (s : State) (r k : Nat) (hr : r < 256) (hk : k < 256) (h : k ≠ r) :
    (s.clearRing r).obj .hifRingCtrl k 0 = s.obj .hifRingCtrl k 0 := by
  rw [State.clearRing, State.obj_resetObj_ne _ (Or.inr h) hr hk, State.obj_resetObj_ne _ (Or.inr h) hr hk,
    State.obj_resetObj_ne _ (Or.inr h) hr hk]

theorem State.clearCq_ctrl (s : State) (m : Nat) : (s.clearCq m).obj .hifCqCtrl m 0 = 0 := by
  have ne : ∀ o : Obj, o.code ≠ 15 → objKey .hifCqCtrl m 0 ≠ objKey o m 0 := by
    intro o h; unfold objKey; simp [Obj.code] at h ⊢; omega
  rw [State.clearCq, State.resetObj, State.obj_setObj_ne _ _ (ne _ (by decide)), State.resetObj, State.obj_setObj_ne _ _ (ne _ (by decide)),
    State.obj_resetObj_same]
  rfl

theorem State.clearCq_ctrl_ne (s : State) (m k : Nat) (hm : m < 256) (hk : k < 256) (h : k ≠ m) :
    (s.clearCq m).obj .hifCqCtrl k 0 = s.obj .hifCqCtrl k 0 := by
  rw [State.clearCq, State.obj_resetObj_ne _ (Or.inr h) hm hk, State.obj_resetObj_ne _ (Or.inr h) hm hk,
    State.obj_resetObj_ne _ (Or.inr h) hm hk, State.obj_resetObj_ne _ (Or.inr h) hm hk]

theorem State.clearCq_lowObjs (s : State) (m : Nat) : lowObjs 15 (s.clearCq m).objs = lowObjs 15 s.objs := by
  simp -implicitDefEqProofs +decide [State.clearCq]

/-- Every ring of the host function with its set-up registers at their reset values. -/
def State.clearRings (s : State) : State := (s.forRange 18 fun s r => s.clearRing r).forRange 17 fun s m => s.clearCq m

theorem State.clearRings_ringCtrl (s : State) (r : Nat) (hr : r < 18) : s.clearRings.obj .hifRingCtrl r 0 = 0 := by
  have keep : lowObjs 15 s.clearRings.objs = lowObjs 15 (s.forRange 18 State.clearRing).objs :=
    foldl_keeps (fun s => lowObjs 15 s.objs) _ State.clearCq_lowObjs _ _
  rw [State.obj_eq_lowObjs (n := 15) _ (by decide) (by omega) (by decide), keep, ← State.obj_eq_lowObjs _ (by decide) (by omega) (by decide)]
  exact State.forRange_sets State.clearRing_ctrl State.clearRing_ctrl_ne s (by decide) r hr

theorem State.clearRings_cqCtrl (s : State) (m : Nat) (hm : m < 17) : s.clearRings.obj .hifCqCtrl m 0 = 0 :=
  State.forRange_sets State.clearCq_ctrl State.clearCq_ctrl_ne _ (by decide) m hm

/-- What a function-level reset keeps of the host function. -/
def HostSt.afterReset (h : HostSt) : HostSt :=
  { perst := h.perst, linkUp := h.linkUp, mtimeHi := h.mtimeHi, writes := h.writes, reads := h.reads, messages := h.messages
    rings := (h.rings.map fun (e : Nat × RingSt) => (e.1, { gen := e.2.gen : RingSt })).filter
      fun (e : Nat × RingSt) => decide (e.2 ≠ ({} : RingSt)) }

/-- The host function reset, its rings cleared already. -/
def State.hostCleared (s : State) : State :=
  (({ s.resetObj .hifEqLost with host := s.host.afterReset }).setBit F.HIF_STATUS_FLR_SEEN true).noteEqFull

/-- A reset of the host function under way. -/
def State.hostJob (s : State) : State :=
  if s.boot.jobs.any (fun j => j.block == .host) then s else s.addJob { block := .host, kind := 0 }

theorem State.resetHost_eq (s : State) (b0 b1 : Nat) :
    s.resetHost b0 b1 = (((s.cutTransfer 0 b0).cutTransfer 1 b1).clearRings.hostCleared.hostJob).raise K.HOST_FLR := by
  unfold State.resetHost
  extract_lets s1 s2 s3 h rings lost s4 s5 s6
  have rings_cleared : s3 = s1.clearRings := rfl
  clear_value s3
  have cleared : s5 = s3.hostCleared := rfl
  clear_value s5
  have fenced : s6 = s5.hostJob := rfl
  rw [fenced, cleared, rings_cleared]

theorem State.hostJob_host (s : State) : s.hostJob.host = s.host := by
  unfold State.hostJob
  split
  · rfl
  · rw [State.addJob_host]

theorem State.addJob_fld (s : State) {j : ResetJob} {f : Fld} {i : Nat} (hf : f.obj.code ≠ 8) (hi : i < 256) (hj : j.block = .host) :
    (s.addJob j).fld f i = s.fld f i := by
  have objs : (s.addJob j).objs = (s.setFld F.SYS_FENCE_HOST 1).objs := by
    rw [State.addJob, hj]; rfl
  rw [← s.fld_setFld_obj (f := F.SYS_FENCE_HOST) 1 hf (by decide : 0 < 256) hi (by decide : 0 < 65536) (by decide : 0 < 65536)]
  rw [State.fld, State.obj, objs]
  rfl

theorem State.hostJob_fld (s : State) (f : Fld) {i : Nat} (hi : i < 256) (hf : f.obj.code ≠ 8) : s.hostJob.fld f i = s.fld f i := by
  unfold State.hostJob
  split
  · rfl
  · rw [State.addJob_fld _ hf hi rfl]

theorem State.noteEqFull_fld (s : State) (f : Fld) {i : Nat} (hi : i < 256) (hf : f.obj.code ≠ 10) : s.noteEqFull.fld f i = s.fld f i :=
  State.fld_setFld_obj _ _ hf (by decide) hi (by decide) (by decide)

theorem State.noteEqFull_flrSeen (s : State) : s.noteEqFull.bit F.HIF_STATUS_FLR_SEEN = s.bit F.HIF_STATUS_FLR_SEEN :=
  congrArg (· != 0) (s.fld_setFld_bits (f := F.HIF_STATUS_EQ_FULL) (g := F.HIF_STATUS_FLR_SEEN) _ 0 0 rfl (Or.inr (by decide)))

/-- Set-up registers keep their cleared contents through the rest of the reset. -/
theorem State.hostCleared_fld (s : State) (f : Fld) {i : Nat} (hi : i < 256) (hs : f.obj.code ≠ 10) (hl : f.obj.code ≠ 17) :
    s.hostCleared.fld f i = s.fld f i := by
  rw [State.hostCleared, State.noteEqFull_fld _ _ hi hs]
  have hlost : f.obj ≠ .hifEqLost := fun h => hl (by rw [h]; rfl)
  exact (State.fld_setFld_obj _ _ hs (by decide) hi (by decide) (by decide)).trans
    (congrArg (getBits · f.lo f.width) (s.obj_resetObj_ne (i := 0) (Or.inl hlost) (by decide) hi))

theorem State.hostCleared_flrSeen (s : State) : s.hostCleared.bit F.HIF_STATUS_FLR_SEEN = true := by
  rw [State.hostCleared, State.noteEqFull_flrSeen]
  exact State.bit_setBit_same _ _ _ _ _ rfl

theorem State.resetHost_host (s : State) (b0 b1 : Nat) :
    ∃ h : HostSt, (s.resetHost b0 b1).host = h.afterReset := ⟨_, by rw [State.resetHost_eq, State.raise_host, State.hostJob_host]; rfl⟩

theorem State.resetHost_flrSeen (s : State) (b0 b1 : Nat) : (s.resetHost b0 b1).bit F.HIF_STATUS_FLR_SEEN = true := by
  rw [State.resetHost_eq]
  generalize ((s.cutTransfer 0 b0).cutTransfer 1 b1).clearRings = t
  refine Eq.trans ?_ t.hostCleared_flrSeen
  exact congrArg (· != 0) (State.hostJob_fld _ F.HIF_STATUS_FLR_SEEN (by decide) (by decide))

theorem State.resetHost_enable (s : State) (b0 b1 : Nat) (f : Fld) {i : Nat} (hi : i < 18)
    (hf : f = F.HIF_RING_CTRL_ENABLE ∨ f = F.HIF_CQ_CTRL_ENABLE ∧ i < 17) : (s.resetHost b0 b1).bit f i = false := by
  have cleared : ∀ t : State, t.clearRings.fld f i = 0 := by
    intro t
    rcases hf with rfl | ⟨rfl, h⟩
    · exact congrArg (getBits · _ _) (t.clearRings_ringCtrl i hi)
    · exact congrArg (getBits · _ _) (t.clearRings_cqCtrl i h)
  have code : f.obj.code ≠ 8 ∧ f.obj.code ≠ 10 ∧ f.obj.code ≠ 17 := by rcases hf with rfl | ⟨rfl, -⟩ <;> decide
  obtain ⟨c8, c10, c17⟩ := code
  rw [State.resetHost_eq]
  specialize cleared ((s.cutTransfer 0 b0).cutTransfer 1 b1)
  revert cleared
  generalize ((s.cutTransfer 0 b0).cutTransfer 1 b1).clearRings = t
  intro cleared
  have kept : t.hostCleared.hostJob.fld f i = 0 := by
    rw [State.hostJob_fld _ _ (by omega) c8, State.hostCleared_fld _ _ (by omega) c10 c17, cleared]
  exact congrArg (· != 0) kept

/-! ### The events -/

theorem exec_pcieLinkUp (sp : Fin 4) (w : Fin 3) (s : State) : exec (.pcieLinkUp sp w) s =
    .next (if s.boot.resetLow || s.host.perst || s.host.linkUp then s else s.linkFound (sp.val + 1) (2 ^ w.val)) := rfl

theorem exec_pePerstN (b0 b1 : Nat) (s : State) : exec (.pePerstN b0 b1) s =
    .next (if s.host.perst then s
      else if s.boot.resetLow then s.mapHost fun h => { h with perst := true }
      else ((s.resetHost b0 b1).linkLost).mapHost fun h => { h with perst := true }) := rfl

theorem exec_hifMtimeLoRead (s : State) : exec .hifMtimeLoRead s =
    .next (if s.reached then s.mapHost fun h => { h with mtimeHi := s.now / 2 ^ 32 % 2 ^ 32, readData := some (s.readBar0 0x10) } else s) := rfl

theorem exec_busMasterEnable (s : State) : exec .busMasterEnable s = .next (if s.reached then s.busMasterOn else s) := rfl

theorem exec_functionLevelReset (b0 b1 : Nat) (s : State) :
    exec (.functionLevelReset b0 b1) s = .next (if s.reached then s.resetHost b0 b1 else s) := rfl

/-- Settles O19: what each event of the link shows, latches and sends, and what a function-level reset leaves. -/
theorem linkEvents : Obligations.LinkEvents := by
  unfold Obligations.LinkEvents
  refine ⟨fun s => ⟨fun sp w low perst down => ?_, fun up => ?_, fun b0 b1 low perst => ?_, ⟨_, rfl, rfl⟩, fun reached => ?_, fun reached => ?_⟩,
    fun b0 b1 s reached => ?_⟩
  · rw [exec_pcieLinkUp, low, perst, down]
    obtain ⟨speed, width, active⟩ := (s.mapHost fun h => { h with linkUp := true }).showLink_shows (sp.val + 1) (2 ^ w.val)
    refine ⟨_, rfl, rfl, speed.trans (Nat.mod_eq_of_lt ?_), width.trans (Nat.mod_eq_of_lt ?_), active⟩
    · exact (by decide : ∀ sp : Fin 4, sp.val + 1 < 2 ^ F.HIF_LINK_SPEED.width) sp
    · exact (by decide : ∀ w : Fin 3, 2 ^ w.val < 2 ^ F.HIF_LINK_WIDTH.width) w
  · obtain ⟨speed, width, active⟩ := (s.mapHost fun h => { h with linkUp := false }).showLink_shows 0 0
    exact ⟨_, rfl, s.linkLost_host, by rw [State.linkLost_of_up up]; exact speed, by rw [State.linkLost_of_up up]; exact width,
      by rw [State.linkLost_of_up up]; exact active, by rw [State.linkLost_of_up up]; rfl⟩
  · obtain ⟨h, host⟩ := s.resetHost_host b0 b1
    rw [exec_pePerstN, perst, low]
    refine ⟨_, rfl, rfl, ?_⟩
    simp -implicitDefEqProofs only [Bool.false_eq_true, if_false, State.mapHost, State.linkLost_host, host, HostSt.afterReset, and_self]
  · rw [exec_hifMtimeLoRead, reached]; exact ⟨_, rfl, rfl, rfl⟩
  · rw [exec_busMasterEnable, reached]; exact ⟨_, rfl, rfl⟩
  · obtain ⟨h, host⟩ := s.resetHost_host b0 b1
    rw [exec_functionLevelReset, reached]
    refine ⟨_, rfl, by rw [if_pos rfl, host]; rfl, by rw [if_pos rfl, host]; rfl, by rw [if_pos rfl, host]; rfl,
      by rw [if_pos rfl, host]; rfl, s.resetHost_flrSeen b0 b1, fun r hr => s.resetHost_enable b0 b1 _ hr (Or.inl rfl),
      fun m hm => s.resetHost_enable b0 b1 _ (Nat.lt_succ_of_lt hm) (Or.inr ⟨rfl, hm⟩), ?_⟩
    rw [if_pos rfl, State.resetHost_eq]
    exact ⟨_, List.mem_append_right _ (List.mem_singleton.mpr rfl), rfl⟩

end Sys2Proof.Machine
end

section
/-! A consumer doorbell frees entries, and completions that waited for one are written at once (R75): the refutation of O20. -/

set_option Elab.async false

namespace Sys2Proof.Machine

/-- Completion ring 0 full, 16 entries unconsumed; an ended descriptor of ring 0 waits for one. -/
def fullCqState : State :=
  let s := (State.reset.setObj .hifCqCtrl 0 0 0x14).setTail 0 (0, true)
  { s with boot := { s.boot with resetLow := false },
           host := { s.host with linkUp := true, perst := false,
                                 cmds := [{ ring := 0, index := 0, phase := false, desc := { opcode := 0x01 }, stage := .applied, outcome := some done }] } }

/-- The write position of a completion ring after a command that has a next state. -/
def tailAfter (m : Nat) : Out → Option Pos
  | .next t => some (t.tail m)
  | _ => none

theorem fullCqState_reached : fullCqState.reached = true := by decide +kernel

theorem fullCqState_completable : fullCqState.completable = [] := by decide +kernel

theorem fullCqState_tail : fullCqState.tail 0 = (0, true) := by decide +kernel

/-- The doorbell that frees entry 0 lets the waiting completion be written: the write position moves on. -/
theorem fullCqState_doorbell : tailAfter 0 (exec (.cqDoorbell 0 1 false) fullCqState) = some (1, true) := by decide +kernel

theorem State.tail_of_host_changed {s t : State} (h : t = { s with host := t.host }) (m : Nat) : t.tail m = s.tail m := by
  rw [h]; rfl

/-- The doorbell stays within what the hub has written. -/
theorem fullCqState_within :
    fullCqState.bit F.HIF_CQ_CTRL_ENABLE 0 = true ∧ 1 < fullCqState.cqSize 0 ∧
    posWithin (fullCqState.cqSize 0) ((fullCqState.cq 0).cons, (fullCqState.cq 0).consPhase) (1, false) = true ∧
    posDist (fullCqState.cqSize 0) ((fullCqState.cq 0).cons, (fullCqState.cq 0).consPhase) (1, false) ≤
      posDist (fullCqState.cqSize 0) ((fullCqState.cq 0).cons, (fullCqState.cq 0).consPhase) (fullCqState.tail 0) := by
  decide +kernel

/-- Refutes O20: with nothing to complete before a consumer doorbell, the doorbell frees an entry for a completion that waited; it is
written, and TAIL of the ring changes with it. -/
theorem not_ringsSetUpAndRung : ¬ Obligations.RingsSetUpAndRung := by
  unfold Obligations.RingsSetUpAndRung
  rintro ⟨-, -, consumer⟩
  obtain ⟨t, next, -, -, kept⟩ := ((consumer 1 false fullCqState fullCqState_reached).1 0).1 fullCqState_within
  obtain ⟨same, -, -⟩ := kept fullCqState_completable
  have tail := State.tail_of_host_changed same 0
  clear consumer same kept
  have moved := fullCqState_doorbell
  rw [next, tailAfter, tail.trans fullCqState_tail] at moved
  simp at moved

end Sys2Proof.Machine
end

section
/-!
Lane instructions as commands (R102, R130, R133, R140, R341, R430, O4).
-/

set_option Elab.async false

namespace Sys2Proof.Machine

/-! ### What an instruction of a lane leaves of the rest of the module -/

@[simp] theorem foldl_groups {α : Type} (f : State → α → State) (h : ∀ s a, (f s a).groups = s.groups) (l : List α) (s : State) :
    (l.foldl f s).groups = s.groups := foldl_keeps State.groups f h l s

@[simp] theorem State.forRange_groups (s : State) (n : Nat) (f : State → Nat → State) (h : ∀ s a, (f s a).groups = s.groups) :
    (s.forRange n f).groups = s.groups := foldl_keeps State.groups f h _ s

@[simp] theorem State.satInc_groups (s : State) (cnt sat : Fld) (inst : Nat) (entry : Nat) : (s.satInc cnt sat inst entry).groups = s.groups := by
  simp -implicitDefEqProofs [State.satInc, apply_ite State.groups]

@[simp] theorem State.noteRedundancy_groups (s : State) : s.noteRedundancy.groups = s.groups := by
  simp -implicitDefEqProofs [State.noteRedundancy, apply_ite State.groups]

@[simp] theorem State.abandonBuild_groups (s : State) : s.abandonBuild.groups = s.groups := by
  unfold State.abandonBuild
  split <;> simp -implicitDefEqProofs

@[simp] theorem State.deltaOverflow_groups (s : State) (u l : Nat) : (s.deltaOverflow u l).groups = s.groups := by
  simp -implicitDefEqProofs [State.deltaOverflow]

@[simp] theorem State.parityErrors_groups (s : State) (c : CopyId) (hits : List (LaneMem × Nat)) : (s.parityErrors c hits).groups = s.groups := by
  simp -implicitDefEqProofs [State.parityErrors]

@[simp] theorem foldl_fb {α : Type} (f : State → α → State) (h : ∀ s a, (f s a).fb = s.fb) (l : List α) (s : State) :
    (l.foldl f s).fb = s.fb := foldl_keeps State.fb f h l s

@[simp] theorem State.forRange_fb (s : State) (n : Nat) (f : State → Nat → State) (h : ∀ s a, (f s a).fb = s.fb) :
    (s.forRange n f).fb = s.fb := foldl_keeps State.fb f h _ s

@[simp] theorem State.satInc_fb (s : State) (cnt sat : Fld) (inst : Nat) (entry : Nat) : (s.satInc cnt sat inst entry).fb = s.fb := by
  simp -implicitDefEqProofs [State.satInc, apply_ite State.fb]

@[simp] theorem State.noteRedundancy_fb (s : State) : s.noteRedundancy.fb = s.fb := by
  simp -implicitDefEqProofs [State.noteRedundancy, apply_ite State.fb]

@[simp] theorem State.abandonBuild_fb (s : State) : s.abandonBuild.fb = s.fb := by
  unfold State.abandonBuild
  split <;> simp -implicitDefEqProofs

@[simp] theorem State.deltaOverflow_fb (s : State) (u l : Nat) : (s.deltaOverflow u l).fb = s.fb := by
  simp -implicitDefEqProofs [State.deltaOverflow]

@[simp] theorem State.parityErrors_fb (s : State) (c : CopyId) (hits : List (LaneMem × Nat)) : (s.parityErrors c hits).fb = s.fb := by
  simp -implicitDefEqProofs [State.parityErrors]

@[simp] theorem foldl_latchUnits {α : Type} (f : State → α → State) (h : ∀ s a, (f s a).latchUnits = s.latchUnits) (l : List α) (s : State) :
    (l.foldl f s).latchUnits = s.latchUnits := foldl_keeps State.latchUnits f h l s

@[simp] theorem State.forRange_latchUnits (s : State) (n : Nat) (f : State → Nat → State) (h : ∀ s a, (f s a).latchUnits = s.latchUnits) :
    (s.forRange n f).latchUnits = s.latchUnits := foldl_keeps State.latchUnits f h _ s

@[simp] theorem State.satInc_latchUnits (s : State) (cnt sat : Fld) (inst : Nat) (entry : Nat) : (s.satInc cnt sat inst entry).latchUnits = s.latchUnits := by
  simp -implicitDefEqProofs [State.satInc, apply_ite State.latchUnits]

@[simp] theorem State.noteRedundancy_latchUnits (s : State) : s.noteRedundancy.latchUnits = s.latchUnits := by
  simp -implicitDefEqProofs [State.noteRedundancy, apply_ite State.latchUnits]

@[simp] theorem State.abandonBuild_latchUnits (s : State) : s.abandonBuild.latchUnits = s.latchUnits := by
  unfold State.abandonBuild
  split <;> simp -implicitDefEqProofs

@[simp] theorem State.deltaOverflow_latchUnits (s : State) (u l : Nat) : (s.deltaOverflow u l).latchUnits = s.latchUnits := by
  simp -implicitDefEqProofs [State.deltaOverflow]

@[simp] theorem State.parityErrors_latchUnits (s : State) (c : CopyId) (hits : List (LaneMem × Nat)) : (s.parityErrors c hits).latchUnits = s.latchUnits := by
  simp -implicitDefEqProofs [State.parityErrors]

@[simp] theorem foldl_cmpUnits {α : Type} (f : State → α → State) (h : ∀ s a, (f s a).cmpUnits = s.cmpUnits) (l : List α) (s : State) :
    (l.foldl f s).cmpUnits = s.cmpUnits := foldl_keeps State.cmpUnits f h l s

@[simp] theorem State.forRange_cmpUnits (s : State) (n : Nat) (f : State → Nat → State) (h : ∀ s a, (f s a).cmpUnits = s.cmpUnits) :
    (s.forRange n f).cmpUnits = s.cmpUnits := foldl_keeps State.cmpUnits f h _ s

@[simp] theorem State.satInc_cmpUnits (s : State) (cnt sat : Fld) (inst : Nat) (entry : Nat) : (s.satInc cnt sat inst entry).cmpUnits = s.cmpUnits := by
  simp -implicitDefEqProofs [State.satInc, apply_ite State.cmpUnits]

@[simp] theorem State.noteRedundancy_cmpUnits (s : State) : s.noteRedundancy.cmpUnits = s.cmpUnits := by
  simp -implicitDefEqProofs [State.noteRedundancy, apply_ite State.cmpUnits]

@[simp] theorem State.abandonBuild_cmpUnits (s : State) : s.abandonBuild.cmpUnits = s.cmpUnits := by
  unfold State.abandonBuild
  split <;> simp -implicitDefEqProofs

@[simp] theorem State.deltaOverflow_cmpUnits (s : State) (u l : Nat) : (s.deltaOverflow u l).cmpUnits = s.cmpUnits := by
  simp -implicitDefEqProofs [State.deltaOverflow]

@[simp] theorem State.parityErrors_cmpUnits (s : State) (c : CopyId) (hits : List (LaneMem × Nat)) : (s.parityErrors c hits).cmpUnits = s.cmpUnits := by
  simp -implicitDefEqProofs [State.parityErrors]

@[simp] theorem foldl_fio {α : Type} (f : State → α → State) (h : ∀ s a, (f s a).fio = s.fio) (l : List α) (s : State) :
    (l.foldl f s).fio = s.fio := foldl_keeps State.fio f h l s

@[simp] theorem State.forRange_fio (s : State) (n : Nat) (f : State → Nat → State) (h : ∀ s a, (f s a).fio = s.fio) :
    (s.forRange n f).fio = s.fio := foldl_keeps State.fio f h _ s

@[simp] theorem State.satInc_fio (s : State) (cnt sat : Fld) (inst : Nat) (entry : Nat) : (s.satInc cnt sat inst entry).fio = s.fio := by
  simp -implicitDefEqProofs [State.satInc, apply_ite State.fio]

@[simp] theorem State.noteRedundancy_fio (s : State) : s.noteRedundancy.fio = s.fio := by
  simp -implicitDefEqProofs [State.noteRedundancy, apply_ite State.fio]

@[simp] theorem State.abandonBuild_fio (s : State) : s.abandonBuild.fio = s.fio := by
  unfold State.abandonBuild
  split <;> simp -implicitDefEqProofs

@[simp] theorem State.deltaOverflow_fio (s : State) (u l : Nat) : (s.deltaOverflow u l).fio = s.fio := by
  simp -implicitDefEqProofs [State.deltaOverflow]

@[simp] theorem State.parityErrors_fio (s : State) (c : CopyId) (hits : List (LaneMem × Nat)) : (s.parityErrors c hits).fio = s.fio := by
  simp -implicitDefEqProofs [State.parityErrors]

@[simp] theorem State.noteRedundancy_time (s : State) : s.noteRedundancy.time = s.time := by
  simp -implicitDefEqProofs [State.noteRedundancy, apply_ite State.time]

@[simp] theorem State.abandonBuild_time (s : State) : s.abandonBuild.time = s.time := by
  unfold State.abandonBuild
  split <;> simp -implicitDefEqProofs

@[simp] theorem State.deltaOverflow_time (s : State) (u l : Nat) : (s.deltaOverflow u l).time = s.time := by
  simp -implicitDefEqProofs [State.deltaOverflow]

@[simp] theorem State.parityErrors_time (s : State) (c : CopyId) (hits : List (LaneMem × Nat)) : (s.parityErrors c hits).time = s.time := by
  simp -implicitDefEqProofs [State.parityErrors]

@[simp] theorem State.satInc_host (s : State) (cnt sat : Fld) (inst : Nat) (entry : Nat) : (s.satInc cnt sat inst entry).host = s.host := by
  simp -implicitDefEqProofs [State.satInc, apply_ite State.host]

@[simp] theorem State.noteRedundancy_host (s : State) : s.noteRedundancy.host = s.host := by
  simp -implicitDefEqProofs [State.noteRedundancy, apply_ite State.host]

@[simp] theorem State.abandonBuild_host (s : State) : s.abandonBuild.host = s.host := by
  unfold State.abandonBuild
  split <;> simp -implicitDefEqProofs

@[simp] theorem State.deltaOverflow_host (s : State) (u l : Nat) : (s.deltaOverflow u l).host = s.host := by
  simp -implicitDefEqProofs [State.deltaOverflow]

@[simp] theorem State.parityErrors_host (s : State) (c : CopyId) (hits : List (LaneMem × Nat)) : (s.parityErrors c hits).host = s.host := by
  simp -implicitDefEqProofs [State.parityErrors]

@[simp] theorem foldl_lanes {α : Type} (f : State → α → State) (h : ∀ s a, (f s a).lanes = s.lanes) (l : List α) (s : State) :
    (l.foldl f s).lanes = s.lanes := foldl_keeps State.lanes f h l s

@[simp] theorem State.forRange_lanes (s : State) (n : Nat) (f : State → Nat → State) (h : ∀ s a, (f s a).lanes = s.lanes) :
    (s.forRange n f).lanes = s.lanes := foldl_keeps State.lanes f h _ s

@[simp] theorem State.satInc_lanes (s : State) (cnt sat : Fld) (inst : Nat) (entry : Nat) : (s.satInc cnt sat inst entry).lanes = s.lanes := by
  simp -implicitDefEqProofs [State.satInc, apply_ite State.lanes]

@[simp] theorem State.drive_lanes (s : State) (g k : Nat) (on : Bool) (t : Nat) : (s.drive g k on t).lanes = s.lanes := by
  simp -implicitDefEqProofs [State.drive, apply_ite State.lanes]

@[simp] theorem State.cancel_lanes (s : State) (g k : Nat) : (s.cancel g k).lanes = s.lanes := by
  simp -implicitDefEqProofs [State.cancel]

@[simp] theorem State.plan_lanes (s : State) (g k t : Nat) (on : Bool) (kind : ChangeKind) : (s.plan g k t on kind).lanes = s.lanes := by
  simp -implicitDefEqProofs [State.plan]

@[simp] theorem State.countEaten_lanes (s : State) (g : Nat) : (s.countEaten g).lanes = s.lanes := by
  simp -implicitDefEqProofs [State.countEaten]

@[simp] theorem State.countHeld_lanes (s : State) (g : Nat) : (s.countHeld g).lanes = s.lanes := by
  simp -implicitDefEqProofs [State.countHeld]

@[simp] theorem State.makeChange_lanes (s : State) (g k : Nat) (c : SwChange) (t : Nat) (delayed : Bool) : (s.makeChange g k c t delayed).lanes = s.lanes := by
  simp -implicitDefEqProofs [State.makeChange, apply_ite State.lanes]

@[simp] theorem State.makeDue_lanes (s : State) (g t : Nat) (on : Bool) (k : Nat) : (s.makeDue g t on k).lanes = s.lanes := by
  unfold State.makeDue
  (repeat' split) <;> simp -implicitDefEqProofs

@[simp] theorem State.makeNow_lanes (s : State) (es : List (Nat × Nat)) (t : Nat) : (s.makeNow es t).lanes = s.lanes := by
  simp -implicitDefEqProofs [State.makeNow]

@[simp] theorem State.countTrigger_lanes (s : State) (t16 g : Nat) (b : Bool) : (s.countTrigger t16 g b).lanes = s.lanes := by
  simp -implicitDefEqProofs [State.countTrigger, apply_ite State.lanes]

@[simp] theorem State.countTriggers_lanes (s : State) (t16 g : Nat) : (s.countTriggers t16 g).lanes = s.lanes := by
  simp -implicitDefEqProofs [State.countTriggers]

@[simp] theorem State.restTo_lanes (s : State) (g t : Nat) (on : Bool) (k : Nat) : (s.restTo g t on k).lanes = s.lanes := by
  simp -implicitDefEqProofs [State.restTo, apply_ite State.lanes]

@[simp] theorem State.enterRest_lanes (s : State) (g st t : Nat) : (s.enterRest g st t).lanes = s.lanes := by
  simp -implicitDefEqProofs [State.enterRest]

@[simp] theorem State.enterState_lanes (s : State) (g st : Nat) (waiting : Bool) : (s.enterState g st waiting).lanes = s.lanes := by
  simp -implicitDefEqProofs [State.enterState, apply_ite State.lanes]

@[simp] theorem State.refreshGroup_lanes (s : State) (g : Nat) : (s.refreshGroup g).lanes = s.lanes := by
  simp -implicitDefEqProofs [State.refreshGroup, apply_ite State.lanes]

@[simp] theorem State.refreshGroups_lanes (s : State) : s.refreshGroups.lanes = s.lanes := by
  simp -implicitDefEqProofs [State.refreshGroups]

@[simp] theorem State.noteRedundancy_lanes (s : State) : s.noteRedundancy.lanes = s.lanes := by
  simp -implicitDefEqProofs [State.noteRedundancy, apply_ite State.lanes]

@[simp] theorem State.abandonBuild_lanes (s : State) : s.abandonBuild.lanes = s.lanes := by
  unfold State.abandonBuild
  split <;> simp -implicitDefEqProofs

@[simp] theorem State.deltaOverflow_lanes (s : State) (u l : Nat) : (s.deltaOverflow u l).lanes = s.lanes := by
  simp -implicitDefEqProofs [State.deltaOverflow]

@[simp] theorem State.parityErrors_lanes (s : State) (c : CopyId) (hits : List (LaneMem × Nat)) : (s.parityErrors c hits).lanes = s.lanes := by
  simp -implicitDefEqProofs [State.parityErrors]

@[simp] theorem State.showDebug_lanes (s : State) : s.showDebug.lanes = s.lanes := by
  simp -implicitDefEqProofs [State.showDebug]

@[simp] theorem State.haltGroups_lanes (s : State) (l : Nat) (b : Bool) : (s.haltGroups l b).lanes = s.lanes := by
  simp -implicitDefEqProofs [State.haltGroups]

/-! ### The task of a copy -/

section
variable {l : Lane} {mv : Move} {old : Lane}

@[simp] theorem Lane.updMove_task : (l.updMove mv).task = l.task := by rw [Lane.updMove_eq]

@[simp] theorem Lane.store_task (t : StoreAcc) : (l.store t).task = l.task := by rw [Lane.store_eq]

@[simp] theorem Lane.loadFrom_task (r : Option (LaneMem × Nat × RegRef)) : (l.loadFrom old r).task = l.task := by rw [Lane.loadFrom_eq]

theorem Lane.stores_task (ts : List StoreAcc) : (ts.foldl Lane.store l).task = l.task := by
  induction ts generalizing l with
  | nil => rfl
  | cons t ts ih => rw [List.foldl_cons, ih, Lane.store_task]

theorem Lane.setAccs_task (es : List (Fin 8 × Word56)) : (es.foldl (fun l e => l.setAcc e.1 e.2) l).task = l.task := by
  induction es generalizing l with
  | nil => rfl
  | cons e es ih => rw [List.foldl_cons, ih]; rfl

@[simp] theorem Lane.writeAlu_task (o : AluOut) : (l.writeAlu o).task = l.task := by
  unfold Lane.writeAlu
  rw [← l.setAccs_task o.accs]
  cases o.dat <;> cases o.flags <;> rfl

theorem Lane.runA_task (bank : LaneMem) (op : AOp) (f : FmtA) : (l.runA bank op f).task = l.task := by
  rw [Lane.runA]
  simp only [Lane.updMove_task, show ∀ (l : Lane) b, (l.stick b).task = l.task from fun _ _ => rfl, Lane.stores_task, Lane.loadFrom_task,
    Lane.writeAlu_task]

/-- Only END ends a task (R130). -/
theorem Lane.run_task (bank : LaneMem) {op : LaneOp} (h : op ≠ .end_) : (l.run bank op).task = l.task := by
  cases op with
  | fmtA o f => exact Lane.runA_task bank o f
  | end_ => exact absurd rfl h
  | ldi c n imm => cases c <;> rfl
  | shl n k | shr n k => rfl
  | bra c t | ret c | call c t => simp only [Lane.run]; split <;> rfl
  | loop c last => simp only [Lane.run, Lane.beginLoop]; split <;> rfl
  | post reg port => rfl
  | lst a n y d => exact Lane.stores_task (l := { l with retired := l.retired + 1 }) _
  | lld n p y => rfl
  | xfr toD dn pn => cases toD <;> rfl
  | addp n off => rfl

end

/-! ### One instruction of one copy -/

theorem laneKey_injective {c c' : CopyId} (h : laneKey c'.unit c'.lane c'.copy = laneKey c.unit c.lane c.copy) : c' = c := by
  obtain ⟨u, l, k⟩ := c
  obtain ⟨u', l', k'⟩ := c'
  simp only [laneKey] at h
  simp only [CopyId.mk.injEq]
  refine ⟨Fin.ext ?_, Fin.ext ?_, Fin.ext ?_⟩ <;> omega

/-- Every lane command goes through `retireIf`. -/
theorem exec_of_laneOp {i : Instr} {c : CopyId} {op : LaneOp} (h : laneOpOf i = some (c, op)) (s : State) : exec i s = s.retireIf c op := by
  unfold laneOpOf at h
  split at h <;> cases h <;> rfl

/-- The state an instruction leaves before the copy itself changes: its parity errors, and a full delta buffer. -/
def State.beforeRun (s s1 : State) (c : CopyId) (op : LaneOp) : State :=
  let l := s.lane c.unit c.lane c.copy
  let s2 := s1.parityErrors c (l.parityHits (s.pairBank c.unit c.lane) op)
  if l.overflowed op && c.copy.val == 0 then s2.deltaOverflow c.unit c.lane else s2

/-- The copy after an instruction before which words of the standard program entered its port. -/
def State.ranLane (s : State) (c : CopyId) (op : LaneOp) (ps : List Post) : Lane :=
  { s.lane c.unit c.lane c.copy with posts := (s.lane c.unit c.lane c.copy).posts ++ ps }.run (s.pairBank c.unit c.lane) op

/-- The state after an instruction retired, from the state before the copy itself changes. -/
def State.afterRun (b : State) (c : CopyId) (l' : Lane) : State :=
  let s4 := b.setLane c.unit c.lane c.copy l'
  if l'.task.isNone then s4.setPair c.unit c.lane { s4.pair c.unit c.lane with lastDelta := s4.now } else s4

theorem State.retire_of_stdPosts {s s1 : State} {c : CopyId} {op : LaneOp} {ps : List Post}
    (defined : (s.lane c.unit c.lane c.copy).fault (s.pairBank c.unit c.lane) op = none) (std : s.stdPosts c op = .ok (ps, s1)) :
    s.retire c op = .next ((s.beforeRun s1 c op).afterRun c (s.ranLane c op ps)) := by
  simp only [State.retire, defined, std]
  rfl

theorem State.retire_of_fault {s : State} {c : CopyId} {op : LaneOp} {f : Fault}
    (undefined : (s.lane c.unit c.lane c.copy).fault (s.pairBank c.unit c.lane) op = some f) : s.retire c op = .fault f := by
  simp only [State.retire, undefined]

theorem State.retire_of_stdFault {s : State} {c : CopyId} {op : LaneOp} {f : Fault}
    (defined : (s.lane c.unit c.lane c.copy).fault (s.pairBank c.unit c.lane) op = none) (std : s.stdPosts c op = .error f) :
    s.retire c op = .fault f := by
  simp only [State.retire, defined, std]

theorem State.retires_iff {s : State} {c : CopyId} {op : LaneOp} : s.retires c op = true ↔
    s.copyRuns c = true ∧ s.atBreak c = false ∧ (s.lane c.unit c.lane c.copy).fault (s.pairBank c.unit c.lane) op = none := by
  simp [State.retires, and_assoc]

theorem State.retireIf_of_runs {s : State} {c : CopyId} (runs : s.copyRuns c = true) (free : s.atBreak c = false) (op : LaneOp) :
    s.retireIf c op = s.retire c op := by
  rw [State.retireIf, if_pos runs, free, if_neg nofun]

section
variable {b : State} {c : CopyId} {l' : Lane}

theorem State.afterRun_lanes : (b.afterRun c l').lanes = (b.setLane c.unit c.lane c.copy l').lanes := by
  unfold State.afterRun; dsimp only; split <;> rfl

theorem State.afterRun_lane : (b.afterRun c l').lane c.unit c.lane c.copy = l' := by
  rw [State.lane, State.afterRun_lanes]; exact State.lane_setLane_same ..

theorem State.afterRun_lane_ne {c' : CopyId} (h : c' ≠ c) : (b.afterRun c l').lane c'.unit c'.lane c'.copy = b.lane c'.unit c'.lane c'.copy := by
  rw [State.lane, State.afterRun_lanes]; exact State.lane_setLane_ne b l' fun k => h (laneKey_injective k)

theorem State.afterRun_of_task (h : l'.task.isNone = false) : b.afterRun c l' = b.setLane c.unit c.lane c.copy l' := by
  rw [State.afterRun, h]; rfl

theorem State.afterRun_eq : b.afterRun c l' = { b with lanes := (b.afterRun c l').lanes, red := (b.afterRun c l').red } := by
  unfold State.afterRun; dsimp only; split <;> rfl

end

section
variable (s s1 : State) (c : CopyId) (op : LaneOp)

theorem State.beforeRun_keeps {β : Type} (P : State → β) (parity : ∀ (s : State) hits, P (s.parityErrors c hits) = P s)
    (delta : ∀ (s : State), P (s.deltaOverflow c.unit c.lane) = P s) : P (s.beforeRun s1 c op) = P s1 := by
  unfold State.beforeRun
  dsimp only
  split
  · rw [delta, parity]
  · rw [parity]

theorem State.beforeRun_lanes : (s.beforeRun s1 c op).lanes = s1.lanes :=
  s.beforeRun_keeps s1 c op State.lanes (fun s h => s.parityErrors_lanes c h) fun s => s.deltaOverflow_lanes ..

theorem State.beforeRun_of_none {s : State} (s1 : State) {c : CopyId} {op : LaneOp}
    (clean : (s.lane c.unit c.lane c.copy).parityHits (s.pairBank c.unit c.lane) op = [])
    (room : (s.lane c.unit c.lane c.copy).overflowed op = false) : s.beforeRun s1 c op = s1 := by
  simp only [State.beforeRun, clean, room, Bool.false_and, Bool.false_eq_true, if_false, State.parityErrors, List.foldl_nil]

end

/-- What an instruction leaves but for the lanes and the bookkeeping of faults. -/
def State.outside (s : State) :=
  (s.groups, s.fb, s.latchUnits, s.cmpUnits, s.fio, s.time, s.host, s.pending)

theorem State.parityErrors_outside (s : State) (c : CopyId) (hits : List (LaneMem × Nat)) : (s.parityErrors c hits).outside = s.outside := by
  simp -implicitDefEqProofs only [State.outside, State.parityErrors_groups, State.parityErrors_fb, State.parityErrors_latchUnits,
    State.parityErrors_cmpUnits, State.parityErrors_fio, State.parityErrors_time, State.parityErrors_host, State.parityErrors_pending]

theorem State.deltaOverflow_outside (s : State) (u l : Nat) : (s.deltaOverflow u l).outside = s.outside := by
  simp -implicitDefEqProofs only [State.outside, State.deltaOverflow_groups, State.deltaOverflow_fb, State.deltaOverflow_latchUnits,
    State.deltaOverflow_cmpUnits, State.deltaOverflow_fio, State.deltaOverflow_time, State.deltaOverflow_host, State.deltaOverflow_pending]

theorem State.afterRun_outside (s s1 : State) (c : CopyId) (op : LaneOp) (l' : Lane) :
    ((s.beforeRun s1 c op).afterRun c l').outside = s1.outside := by
  rw [State.afterRun_eq]
  exact s.beforeRun_keeps s1 c op State.outside (fun s h => s.parityErrors_outside c h) fun s => s.deltaOverflow_outside ..

theorem State.stdPosts_of_ne_end (s : State) (c : CopyId) {op : LaneOp} (h : op ≠ .end_) : s.stdPosts c op = .ok ([], s) := by
  unfold State.stdPosts
  dsimp only
  split
  · exact absurd rfl h
  · rfl

theorem State.stdPosts_of_not_std {s : State} {c : CopyId}
    (h : s.stdTask c.unit ((s.lane c.unit c.lane c.copy).task.map TaskAlloc.kind |>.getD 0) = false) (op : LaneOp) :
    s.stdPosts c op = .ok ([], s) := by
  unfold State.stdPosts
  dsimp only
  split
  · next t _ _ task _ => rw [task] at h; rw [if_neg (by simpa using h)]
  · rfl

theorem State.ranLane_nil (s : State) (c : CopyId) (op : LaneOp) :
    s.ranLane c op [] = (s.lane c.unit c.lane c.copy).run (s.pairBank c.unit c.lane) op := by
  rw [State.ranLane, List.append_nil]

theorem State.haltCopy_halted (s : State) (l c : Nat) : ((s.haltCopy l c).lane s.activeUnit l c).halted = true := by
  have own : ((s.setLane s.activeUnit l c { s.lane s.activeUnit l c with halted := true }).lane s.activeUnit l c).halted = true := by
    rw [State.lane_setLane_same]
  refine Eq.trans (congrArg (fun ls : SMap Lane => (ls.get (laneKey s.activeUnit l c) {}).halted) ?_) own
  unfold State.haltCopy
  dsimp only
  split
  · rw [State.showDebug_lanes, State.haltGroups_lanes]
  · rfl

theorem State.runs_task {s : State} {c : CopyId} (runs : s.copyRuns c = true) : (s.lane c.unit c.lane c.copy).task.isNone = false := by
  simp only [State.copyRuns, Bool.and_eq_true] at runs
  rw [← Option.not_isSome, runs.1.1.1]; rfl

/-- Settles O4: a defined use retires on its copy, an undefined one stops by its name, a copy that does not run retires nothing. -/
theorem laneInstructionRetiresOrStops : Obligations.LaneInstructionRetiresOrStops := by
  unfold Obligations.LaneInstructionRetiresOrStops
  refine ⟨fun i c op s isOp retires noStd => ?_, fun i c op s isOp => ⟨fun stopped => ?_, fun runs atBreak => ?_⟩,
    fun i c op s f isOp runs free fault => ?_, fun c s retires => ?_⟩
  · obtain ⟨runs, free, defined⟩ := State.retires_iff.mp retires
    have std : s.stdPosts c op = .ok ([], s) := noStd.elim (s.stdPosts_of_ne_end c) (State.stdPosts_of_not_std · op)
    rw [exec_of_laneOp isOp, State.retireIf_of_runs runs free, State.retire_of_stdPosts defined std, State.ranLane_nil]
    have outside := s.afterRun_outside s c op ((s.lane c.unit c.lane c.copy).run (s.pairBank c.unit c.lane) op)
    simp only [State.outside, Prod.mk.injEq] at outside
    refine ⟨_, rfl, State.afterRun_lane, fun c' ne => ?_, fun clean room notEnd => ?_, outside⟩
    · rw [State.afterRun_lane_ne ne, State.lane, State.beforeRun_lanes]; rfl
    · rw [State.beforeRun_of_none s clean room,
        State.afterRun_of_task (by rw [Lane.run_task _ notEnd]; exact State.runs_task runs)]; rfl
  · rw [exec_of_laneOp isOp, State.retireIf, stopped]; rfl
  · rw [exec_of_laneOp isOp, State.retireIf, if_pos runs, if_pos atBreak]
    exact ⟨_, rfl, s.haltCopy_halted ..⟩
  · rw [exec_of_laneOp isOp, State.retireIf_of_runs runs free, State.retire_of_fault fault]
  · obtain ⟨runs, free, defined⟩ := State.retires_iff.mp retires
    rw [exec_of_laneOp rfl, State.retireIf_of_runs runs free]
    exact ⟨fun ps s1 std => ⟨_, State.retire_of_stdPosts defined std, State.afterRun_lane⟩, fun f std => State.retire_of_stdFault defined std⟩

end Sys2Proof.Machine
end

section
/-!
The application step's place among the rings bears on no command: every operation that a command's application uses is the same whatever
ring the open step has come to (R89). With it a ring that has nothing due when the step opens has nothing due when the step comes to it.
-/

set_option Elab.async false

namespace Sys2Proof.Machine

/-! ### The place of the application step -/

/-- The open application step of a period, come to a ring. -/
def PeriodSt.atRing (p : PeriodSt) (q : Nat) : PeriodSt := { p with step := p.step.map fun o => { o with ring := q } }

theorem State.atRing_eq (s : State) (q : Nat) : s.atRing q = { s with per := s.per.atRing q } := rfl

@[simp] theorem State.atRing_per (s : State) (q : Nat) : (s.atRing q).per = s.per.atRing q := rfl

@[simp] theorem PeriodSt.atRing_running (p : PeriodSt) (q : Nat) : (p.atRing q).running = p.running := rfl

@[simp] theorem PeriodSt.atRing_t0 (p : PeriodSt) (q : Nat) : (p.atRing q).t0 = p.t0 := rfl

@[simp] theorem PeriodSt.atRing_next (p : PeriodSt) (q : Nat) : (p.atRing q).next = p.next := rfl

@[simp] theorem PeriodSt.atRing_seq (p : PeriodSt) (q : Nat) : (p.atRing q).seq = p.seq := rfl

@[simp] theorem PeriodSt.atRing_count (p : PeriodSt) (q : Nat) : (p.atRing q).count = p.count := rfl

@[simp] theorem PeriodSt.atRing_sealed (p : PeriodSt) (q : Nat) : (p.atRing q).sealed = p.sealed := rfl

@[simp] theorem PeriodSt.atRing_phase (p : PeriodSt) (q : Nat) : (p.atRing q).phase = p.phase := rfl

@[simp] theorem PeriodSt.atRing_departing (p : PeriodSt) (q : Nat) : (p.atRing q).departing = p.departing := rfl

@[simp] theorem PeriodSt.atRing_departRef (p : PeriodSt) (q : Nat) : (p.atRing q).departRef = p.departRef := rfl

@[simp] theorem PeriodSt.atRing_midDone (p : PeriodSt) (q : Nat) : (p.atRing q).midDone = p.midDone := rfl

@[simp] theorem PeriodSt.atRing_deadlineDone (p : PeriodSt) (q : Nat) : (p.atRing q).deadlineDone = p.deadlineDone := rfl

@[simp] theorem PeriodSt.atRing_carrierFrom (p : PeriodSt) (q : Nat) : (p.atRing q).carrierFrom = p.carrierFrom := rfl

@[simp] theorem PeriodSt.atRing_measured (p : PeriodSt) (q : Nat) : (p.atRing q).measured = p.measured := rfl

@[simp] theorem PeriodSt.atRing_safe (p : PeriodSt) (q : Nat) : (p.atRing q).step.any (·.safe) = p.step.any (·.safe) := by
  cases h : p.step <;> simp [PeriodSt.atRing, h]

@[simp] theorem State.mk_atRing (pending : List Instr) (objs : SMap Nat) (msgs : List Msg) (boot : BootSt) (per : PeriodSt) (time : TimeSt) (host : HostSt) (flt : FltSt) (net : NetSt) (groups : SMap GroupSt) (lanes : SMap Lane) (red : RedSt) (fb : SMap FbSt) (emu : SMap EmuSt) (sd : SMap SdSt) (fio : FioSt) (motion : MotionSt) (latchUnits : SMap LatchSt) (cmpUnits : SMap CmpSt) (surv : SurvSt) (sec : SecSt) (tap : TapSt) (q : Nat) :
    State.mk pending objs msgs boot (per.atRing q) time host flt net groups lanes red fb emu sd fio motion latchUnits cmpUnits surv sec tap =
      (State.mk pending objs msgs boot per time host flt net groups lanes red fb emu sd fio motion latchUnits cmpUnits surv sec tap).atRing q := rfl

@[simp] theorem PeriodSt.mk_atRing (running : Bool) (t0 : Nat) (next : Nat) (seq : Nat) (count : Nat) (sealed : Nat) (phase : Nat) (departing : Option Nat) (departRef : Option CmdRef) (midDone : Bool) (deadlineDone : Bool) (carrierFrom : Nat) (measured : Option Nat) (step : Option OpenStep) (q : Nat) :
    PeriodSt.mk running t0 next seq count sealed phase departing departRef midDone deadlineDone carrierFrom measured (step.map fun o => { o with ring := q }) =
      (PeriodSt.mk running t0 next seq count sealed phase departing departRef midDone deadlineDone carrierFrom measured step).atRing q := rfl

@[simp] theorem PeriodSt.atRing_step (p : PeriodSt) (q : Nat) : (p.atRing q).step = p.step.map fun o => { o with ring := q } := rfl

@[simp] theorem ite_atRing {c : Prop} [Decidable c] (a b : State) (q : Nat) :
    (if c then a.atRing q else b.atRing q) = (if c then a else b).atRing q := (apply_ite (State.atRing · q) c a b).symm

theorem State.atRing_of_none {s : State} (h : s.per.step = none) (q : Nat) : s.atRing q = s := by
  have : s.per.atRing q = s.per := by simp only [PeriodSt.atRing, h, Option.map_none]; rw [← h]
  rw [State.atRing_eq, this]

@[simp] theorem foldl_atRing {α : Type} {f : State → α → State} {q : Nat} (h : ∀ s a, f (s.atRing q) a = (f s a).atRing q) (l : List α)
    (s : State) : l.foldl f (s.atRing q) = (l.foldl f s).atRing q := by
  induction l generalizing s with
  | nil => rfl
  | cons a l ih => rw [List.foldl_cons, h, ih, List.foldl_cons]

@[simp] theorem State.atRing_forRange (s : State) (n : Nat) {f : State → Nat → State} {q : Nat} (h : ∀ s a, f (s.atRing q) a = (f s a).atRing q) :
    (s.atRing q).forRange n f = (s.forRange n f).atRing q := foldl_atRing h _ s

@[simp] theorem except_map_ok {ε α β : Type} (f : α → β) (a : α) : Except.map f (.ok a : Except ε α) = .ok (f a) := rfl

@[simp] theorem except_map_error {ε α β : Type} (f : α → β) (e : ε) : Except.map f (.error e : Except ε α) = .error e := rfl

/-- What a command's outcome leaves, changed. -/
def mapOut (f : State → State) : Out → Out
  | .next t => .next (f t)
  | .fault e => .fault e
  | .refused r => .refused r

@[simp] theorem answer_atRing (s : State) (r : Result) (rq : Nat) :
    answer (s.atRing rq, r) = Except.map (fun x => (x.1.atRing rq, x.2)) (answer (s, r)) := rfl

/-! ### Operations of Ops -/

@[simp] theorem State.atRing_obj (s : State) (o : Obj) (inst entry : Nat) (rq : Nat) : (s.atRing rq).obj o inst entry = s.obj o inst entry := by
  simp -implicitDefEqProofs [State.obj]

@[simp] theorem State.atRing_setObj (s : State) (o : Obj) (inst entry v : Nat) (rq : Nat) :
    (s.atRing rq).setObj o inst entry v = (s.setObj o inst entry v).atRing rq := by
  simp -implicitDefEqProofs [State.setObj]

@[simp] theorem State.atRing_fld (s : State) (f : Fld) (inst : Nat) (entry : Nat) (rq : Nat) :
    (s.atRing rq).fld f inst entry = s.fld f inst entry := by
  simp -implicitDefEqProofs [State.fld]

@[simp] theorem State.atRing_bit (s : State) (f : Fld) (inst : Nat) (entry : Nat) (rq : Nat) :
    (s.atRing rq).bit f inst entry = s.bit f inst entry := by
  simp -implicitDefEqProofs [State.bit]

@[simp] theorem State.atRing_setFld (s : State) (f : Fld) (v : Nat) (inst : Nat) (entry : Nat) (rq : Nat) :
    (s.atRing rq).setFld f v inst entry = (s.setFld f v inst entry).atRing rq := by
  simp -implicitDefEqProofs [State.setFld]

@[simp] theorem State.atRing_setBit (s : State) (f : Fld) (b : Bool) (inst : Nat) (entry : Nat) (rq : Nat) :
    (s.atRing rq).setBit f b inst entry = (s.setBit f b inst entry).atRing rq := by
  simp -implicitDefEqProofs [State.setBit]

@[simp] theorem State.atRing_nth (s : State) (f : Fld) (n : Nat) (inst : Nat) (entry : Nat) (rq : Nat) :
    (s.atRing rq).nth f n inst entry = s.nth f n inst entry := by
  simp -implicitDefEqProofs [State.nth]

@[simp] theorem State.atRing_setNth (s : State) (f : Fld) (n : Nat) (b : Bool) (inst : Nat) (entry : Nat) (rq : Nat) :
    (s.atRing rq).setNth f n b inst entry = (s.setNth f n b inst entry).atRing rq := by
  simp -implicitDefEqProofs [State.setNth]

@[simp] theorem State.atRing_resetObj (s : State) (o : Obj) (inst : Nat) (entry : Nat) (rq : Nat) :
    (s.atRing rq).resetObj o inst entry = (s.resetObj o inst entry).atRing rq := by
  simp -implicitDefEqProofs [State.resetObj]

@[simp] theorem State.atRing_axisFb (s : State) (a : Nat) (rq : Nat) : (s.atRing rq).axisFb a = s.axisFb a := by
  simp -implicitDefEqProofs [State.axisFb]

@[simp] theorem State.atRing_rxCount (s : State) (r : Nat) (rq : Nat) : (s.atRing rq).rxCount r = s.rxCount r := by
  simp -implicitDefEqProofs [State.rxCount]

@[simp] theorem State.atRing_satInc (s : State) (cnt sat : Fld) (inst : Nat) (entry : Nat) (rq : Nat) :
    (s.atRing rq).satInc cnt sat inst entry = (s.satInc cnt sat inst entry).atRing rq := by
  simp -implicitDefEqProofs [State.satInc]

@[simp] theorem State.atRing_now (s : State) (rq : Nat) : (s.atRing rq).now = s.now := by
  simp -implicitDefEqProofs [State.now]

@[simp] theorem State.atRing_now16 (s : State) (rq : Nat) : (s.atRing rq).now16 = s.now16 := by
  simp -implicitDefEqProofs [State.now16]

@[simp] theorem State.atRing_mode (s : State) (rq : Nat) : (s.atRing rq).mode = s.mode := by
  simp -implicitDefEqProofs [State.mode]

@[simp] theorem State.atRing_send (s : State) (m : Msg) (rq : Nat) : (s.atRing rq).send m = (s.send m).atRing rq := by
  simp -implicitDefEqProofs [State.send]

@[simp] theorem State.atRing_raise (s : State) (k : Kind) (inst : Nat) (data : Nat) (dlen : Nat) (kind : Nat)     (addr : Nat) (rq : Nat) :
    (s.atRing rq).raise k inst data dlen kind addr = (s.raise k inst data dlen kind addr).atRing rq := by
  simp -implicitDefEqProofs [State.raise]

@[simp] theorem State.atRing_raiseAt (s : State) (stamp : Nat) (k : Kind) (inst : Nat) (data : Nat) (dlen : Nat)     (kind : Nat) (rq : Nat) :
    (s.atRing rq).raiseAt stamp k inst data dlen kind = (s.raiseAt stamp k inst data dlen kind).atRing rq := by
  simp -implicitDefEqProofs [State.raiseAt]

@[simp] theorem State.atRing_clearLive (s : State) (k : Kind) (inst : Nat) (rq : Nat) :
    (s.atRing rq).clearLive k inst = (s.clearLive k inst).atRing rq := by
  simp -implicitDefEqProofs [State.clearLive]

@[simp] theorem State.atRing_activeUnit (s : State) (rq : Nat) : (s.atRing rq).activeUnit = s.activeUnit := by
  simp -implicitDefEqProofs [State.activeUnit]

/-! ### Operations of Pwm -/

@[simp] theorem State.atRing_grp (s : State) (g : Nat) (rq : Nat) : (s.atRing rq).grp g = s.grp g := by
  simp -implicitDefEqProofs [State.grp]

@[simp] theorem State.atRing_setGrp (s : State) (g : Nat) (v : GroupSt) (rq : Nat) : (s.atRing rq).setGrp g v = (s.setGrp g v).atRing rq := by
  simp -implicitDefEqProofs [State.setGrp]

@[simp] theorem State.atRing_gstate (s : State) (g : Nat) (rq : Nat) : (s.atRing rq).gstate g = s.gstate g := by
  simp -implicitDefEqProofs [State.gstate]

@[simp] theorem State.atRing_gwaiting (s : State) (g : Nat) (rq : Nat) : (s.atRing rq).gwaiting g = s.gwaiting g := by
  simp -implicitDefEqProofs [State.gwaiting]

@[simp] theorem State.atRing_gper (s : State) (g : Nat) (rq : Nat) : (s.atRing rq).gper g = s.gper g := by
  simp -implicitDefEqProofs [State.gper]

@[simp] theorem State.atRing_gkind (s : State) (g : Nat) (rq : Nat) : (s.atRing rq).gkind g = s.gkind g := by
  simp -implicitDefEqProofs [State.gkind]

@[simp] theorem State.atRing_threeLevel (s : State) (g : Nat) (rq : Nat) : (s.atRing rq).threeLevel g = s.threeLevel g := by
  simp -implicitDefEqProofs [State.threeLevel]

@[simp] theorem State.atRing_dt16 (s : State) (g : Nat) (rq : Nat) : (s.atRing rq).dt16 g = s.dt16 g := by
  simp -implicitDefEqProofs [State.dt16]

@[simp] theorem State.atRing_minp16 (s : State) (g : Nat) (rq : Nat) : (s.atRing rq).minp16 g = s.minp16 g := by
  simp -implicitDefEqProofs [State.minp16]

@[simp] theorem State.atRing_gangOf (s : State) (g : Nat) (rq : Nat) : (s.atRing rq).gangOf g = s.gangOf g := by
  simp -implicitDefEqProofs [State.gangOf]

@[simp] theorem State.atRing_gangOf_fun (s : State) (rq : Nat) :
    (s.atRing rq).gangOf = s.gangOf :=
  funext fun _ => State.atRing_gangOf ..

@[simp] theorem State.atRing_ganged (s : State) (g : Nat) (rq : Nat) : (s.atRing rq).ganged g = s.ganged g := by
  simp -implicitDefEqProofs [State.ganged]

@[simp] theorem State.atRing_carrier (s : State) (g t16 : Nat) (rq : Nat) : (s.atRing rq).carrier g t16 = s.carrier g t16 := by
  simp -implicitDefEqProofs [State.carrier]

@[simp] theorem State.atRing_carrierRuns (s : State) (g : Nat) (rq : Nat) : (s.atRing rq).carrierRuns g = s.carrierRuns g := by
  simp -implicitDefEqProofs [State.carrierRuns]

@[simp] theorem State.atRing_cmp (s : State) (g c : Nat) (rq : Nat) : (s.atRing rq).cmp g c = s.cmp g c := by
  simp -implicitDefEqProofs [State.cmp]

@[simp] theorem State.atRing_legLevel (s : State) (g l x : Nat) (rq : Nat) : (s.atRing rq).legLevel g l x = s.legLevel g l x := by
  simp -implicitDefEqProofs [State.legLevel]

@[simp] theorem State.atRing_keepsOn (s : State) (g k x : Nat) (rq : Nat) : (s.atRing rq).keepsOn g k x = s.keepsOn g k x := by
  simp -implicitDefEqProofs [State.keepsOn]

@[simp] theorem State.atRing_legEdges (s : State) (g l : Nat) (rq : Nat) : (s.atRing rq).legEdges g l = s.legEdges g l := by
  simp -implicitDefEqProofs [State.legEdges]

@[simp] theorem State.atRing_sideEnd (s : State) (g k x : Nat) (rq : Nat) : (s.atRing rq).sideEnd g k x = s.sideEnd g k x := by
  simp -implicitDefEqProofs [State.sideEnd]

@[simp] theorem State.atRing_sw (s : State) (g k : Nat) (rq : Nat) : (s.atRing rq).sw g k = s.sw g k := by
  simp -implicitDefEqProofs [State.sw]

@[simp] theorem State.atRing_setSw (s : State) (g k : Nat) (v : Switch) (rq : Nat) : (s.atRing rq).setSw g k v = (s.setSw g k v).atRing rq := by
  simp -implicitDefEqProofs [State.setSw]

@[simp] theorem State.atRing_drive (s : State) (g k : Nat) (on : Bool) (t : Nat) (rq : Nat) :
    (s.atRing rq).drive g k on t = (s.drive g k on t).atRing rq := by
  simp -implicitDefEqProofs [State.drive]

@[simp] theorem State.atRing_cancel (s : State) (g k : Nat) (rq : Nat) : (s.atRing rq).cancel g k = (s.cancel g k).atRing rq := by
  simp -implicitDefEqProofs [State.cancel]

@[simp] theorem State.atRing_plan (s : State) (g k t : Nat) (on : Bool) (kind : ChangeKind) (rq : Nat) :
    (s.atRing rq).plan g k t on kind = (s.plan g k t on kind).atRing rq := by
  simp -implicitDefEqProofs [State.plan]

@[simp] theorem State.atRing_countEaten (s : State) (g : Nat) (rq : Nat) : (s.atRing rq).countEaten g = (s.countEaten g).atRing rq := by
  simp -implicitDefEqProofs [State.countEaten]

@[simp] theorem State.atRing_countHeld (s : State) (g : Nat) (rq : Nat) : (s.atRing rq).countHeld g = (s.countHeld g).atRing rq := by
  simp -implicitDefEqProofs [State.countHeld]

@[simp] theorem State.atRing_isInner (s : State) (g k : Nat) (rq : Nat) : (s.atRing rq).isInner g k = s.isInner g k := by
  simp -implicitDefEqProofs [State.isInner]

@[simp] theorem State.atRing_clearOf (s : State) (g : Nat) (e : Nat × Nat) (t : Nat) (rq : Nat) :
    (s.atRing rq).clearOf g e t = s.clearOf g e t := by
  simp -implicitDefEqProofs [State.clearOf]

@[simp] theorem State.atRing_changeAt (s : State) (g k : Nat) (c : SwChange) (rq : Nat) : (s.atRing rq).changeAt g k c = s.changeAt g k c := by
  simp -implicitDefEqProofs [State.changeAt]

@[simp] theorem State.atRing_suppressed (s : State) (g k t : Nat) (rq : Nat) : (s.atRing rq).suppressed g k t = s.suppressed g k t := by
  simp -implicitDefEqProofs [State.suppressed]

@[simp] theorem State.atRing_makeChange (s : State) (g k : Nat) (c : SwChange) (t : Nat) (delayed : Bool) (rq : Nat) :
    (s.atRing rq).makeChange g k c t delayed = (s.makeChange g k c t delayed).atRing rq := by
  simp -implicitDefEqProofs [State.makeChange]

@[simp] theorem State.atRing_makeDue (s : State) (g t : Nat) (on : Bool) (k : Nat) (rq : Nat) :
    (s.atRing rq).makeDue g t on k = (s.makeDue g t on k).atRing rq := by
  simp -implicitDefEqProofs [State.makeDue]
  (repeat' split) <;> simp_all -implicitDefEqProofs

@[simp] theorem State.atRing_makeNow (s : State) (es : List (Nat × Nat)) (t : Nat) (rq : Nat) :
    (s.atRing rq).makeNow es t = (s.makeNow es t).atRing rq := by
  simp -implicitDefEqProofs [State.makeNow]

@[simp] theorem State.atRing_trigPositions (s : State) (g src : Nat) (rq : Nat) : (s.atRing rq).trigPositions g src = s.trigPositions g src := by
  simp -implicitDefEqProofs [State.trigPositions]

@[simp] theorem State.atRing_trigSrc (s : State) (g : Nat) (b : Bool) (rq : Nat) : (s.atRing rq).trigSrc g b = s.trigSrc g b := by
  simp -implicitDefEqProofs [State.trigSrc]

@[simp] theorem State.atRing_trigPre (s : State) (g : Nat) (b : Bool) (rq : Nat) : (s.atRing rq).trigPre g b = s.trigPre g b := by
  simp -implicitDefEqProofs [State.trigPre]

@[simp] theorem State.atRing_trigFrom (s : State) (g : Nat) (b : Bool) (rq : Nat) : (s.atRing rq).trigFrom g b = s.trigFrom g b := by
  simp -implicitDefEqProofs [State.trigFrom]

@[simp] theorem State.atRing_passes (s : State) (g a b c : Nat) (rq : Nat) : (s.atRing rq).passes g a b c = s.passes g a b c := by
  simp -implicitDefEqProofs [State.passes]

@[simp] theorem State.atRing_countTrigger (s : State) (t16 g : Nat) (b : Bool) (rq : Nat) :
    (s.atRing rq).countTrigger t16 g b = (s.countTrigger t16 g b).atRing rq := by
  simp -implicitDefEqProofs [State.countTrigger]

@[simp] theorem State.atRing_countTriggers (s : State) (t16 g : Nat) (rq : Nat) :
    (s.atRing rq).countTriggers t16 g = (s.countTriggers t16 g).atRing rq := by
  simp -implicitDefEqProofs [State.countTriggers]

@[simp] theorem State.atRing_restLevel (s : State) (g st k : Nat) (rq : Nat) : (s.atRing rq).restLevel g st k = s.restLevel g st k := by
  simp -implicitDefEqProofs [State.restLevel]

@[simp] theorem State.atRing_restTo (s : State) (g t : Nat) (on : Bool) (k : Nat) (rq : Nat) :
    (s.atRing rq).restTo g t on k = (s.restTo g t on k).atRing rq := by
  simp -implicitDefEqProofs [State.restTo]

@[simp] theorem State.atRing_enterRest (s : State) (g st t : Nat) (rq : Nat) :
    (s.atRing rq).enterRest g st t = (s.enterRest g st t).atRing rq := by
  simp -implicitDefEqProofs [State.enterRest]

@[simp] theorem State.atRing_axisGroups (s : State) (a : Nat) (rq : Nat) : (s.atRing rq).axisGroups a = s.axisGroups a := by
  simp -implicitDefEqProofs [State.axisGroups]

@[simp] theorem State.atRing_axisOf (s : State) (g : Nat) (rq : Nat) : (s.atRing rq).axisOf g = s.axisOf g := by
  simp -implicitDefEqProofs [State.axisOf]

@[simp] theorem State.atRing_inCommission (s : State) (g : Nat) (rq : Nat) : (s.atRing rq).inCommission g = s.inCommission g := by
  simp -implicitDefEqProofs [State.inCommission]

@[simp] theorem State.atRing_faultHolds (s : State) (g : Nat) (rq : Nat) : (s.atRing rq).faultHolds g = s.faultHolds g := by
  simp -implicitDefEqProofs [State.faultHolds]

@[simp] theorem State.atRing_underHalt (s : State) (g : Nat) (rq : Nat) : (s.atRing rq).underHalt g = s.underHalt g := by
  simp -implicitDefEqProofs [State.underHalt]

@[simp] theorem State.atRing_heldSafe (s : State) (g : Nat) (rq : Nat) : (s.atRing rq).heldSafe g = s.heldSafe g := by
  simp -implicitDefEqProofs [State.heldSafe]

@[simp] theorem State.atRing_heldIdle (s : State) (g : Nat) (rq : Nat) : (s.atRing rq).heldIdle g = s.heldIdle g := by
  simp -implicitDefEqProofs [State.heldIdle]

@[simp] theorem State.atRing_wantState (s : State) (g : Nat) (rq : Nat) : (s.atRing rq).wantState g = s.wantState g := by
  simp -implicitDefEqProofs [State.wantState]

@[simp] theorem State.atRing_enterState (s : State) (g st : Nat) (waiting : Bool) (rq : Nat) :
    (s.atRing rq).enterState g st waiting = (s.enterState g st waiting).atRing rq := by
  simp -implicitDefEqProofs [State.enterState]

@[simp] theorem State.atRing_gangOrder (s : State) (g : Nat) (rq : Nat) : (s.atRing rq).gangOrder g = s.gangOrder g := by
  simp -implicitDefEqProofs [State.gangOrder]

@[simp] theorem State.atRing_refreshGroup (s : State) (g : Nat) (rq : Nat) : (s.atRing rq).refreshGroup g = (s.refreshGroup g).atRing rq := by
  simp -implicitDefEqProofs [State.refreshGroup]

@[simp] theorem State.atRing_refreshGang (s : State) (g : Nat) (rq : Nat) : (s.atRing rq).refreshGang g = (s.refreshGang g).atRing rq := by
  simp -implicitDefEqProofs [State.refreshGang]

@[simp] theorem State.atRing_refreshGroups (s : State) (rq : Nat) : (s.atRing rq).refreshGroups = s.refreshGroups.atRing rq := by
  simp -implicitDefEqProofs [State.refreshGroups]

@[simp] theorem State.atRing_dropGroup (s : State) (g : Nat) (rq : Nat) : (s.atRing rq).dropGroup g = (s.dropGroup g).atRing rq := by
  simp -implicitDefEqProofs [State.dropGroup]

@[simp] theorem State.atRing_dropSets (s : State) (poster : Nat) (rq : Nat) : (s.atRing rq).dropSets poster = (s.dropSets poster).atRing rq := by
  simp -implicitDefEqProofs [State.dropSets]

@[simp] theorem State.atRing_blanked (s : State) (g : Nat) (rq : Nat) : (s.atRing rq).blanked g = s.blanked g := by
  simp -implicitDefEqProofs [State.blanked]

@[simp] theorem State.atRing_latchTrip (s : State) (g src time : Nat) (rq : Nat) :
    (s.atRing rq).latchTrip g src time = (s.latchTrip g src time).atRing rq := by
  simp -implicitDefEqProofs [State.latchTrip]

@[simp] theorem State.atRing_tripGroups (s : State) (gs : List Nat) (src time : Nat) (rq : Nat) :
    (s.atRing rq).tripGroups gs src time = (s.tripGroups gs src time).atRing rq := by
  simp -implicitDefEqProofs [State.tripGroups]

@[simp] theorem State.atRing_tripTargets (s : State) (n : Nat) (rq : Nat) : (s.atRing rq).tripTargets n = s.tripTargets n := by
  simp -implicitDefEqProofs [State.tripTargets]

@[simp] theorem State.atRing_tripInput (s : State) (n time : Nat) (gs : List Nat) (rq : Nat) :
    (s.atRing rq).tripInput n time gs = (s.tripInput n time gs).atRing rq := by
  simp -implicitDefEqProofs [State.tripInput]

@[simp] theorem State.atRing_tripNamed (s : State) (rq : Nat) : (s.atRing rq).tripNamed = s.tripNamed.atRing rq := by
  simp -implicitDefEqProofs [State.tripNamed]

@[simp] theorem State.atRing_tripNamedBy (s : State) (n : Nat) (rq : Nat) : (s.atRing rq).tripNamedBy n = s.tripNamedBy n := by
  simp -implicitDefEqProofs [State.tripNamedBy]

@[simp] theorem State.atRing_idleGang (s : State) (g : Nat) (rq : Nat) : (s.atRing rq).idleGang g = (s.idleGang g).atRing rq := by
  simp -implicitDefEqProofs [State.idleGang]

@[simp] theorem State.atRing_resetGroup (s : State) (g : Nat) (rq : Nat) : (s.atRing rq).resetGroup g = (s.resetGroup g).atRing rq := by
  simp -implicitDefEqProofs [State.resetGroup]

/-! ### Operations of Rings -/

@[simp] theorem State.atRing_ringSize (s : State) (r : Nat) (rq : Nat) : (s.atRing rq).ringSize r = s.ringSize r := by
  simp -implicitDefEqProofs [State.ringSize]

@[simp] theorem State.atRing_cqSize (s : State) (m : Nat) (rq : Nat) : (s.atRing rq).cqSize m = s.cqSize m := by
  simp -implicitDefEqProofs [State.cqSize]

@[simp] theorem State.atRing_head (s : State) (r : Nat) (rq : Nat) : (s.atRing rq).head r = s.head r := by
  simp -implicitDefEqProofs [State.head]

@[simp] theorem State.atRing_tail (s : State) (m : Nat) (rq : Nat) : (s.atRing rq).tail m = s.tail m := by
  simp -implicitDefEqProofs [State.tail]

@[simp] theorem State.atRing_setTail (s : State) (m : Nat) (p : Pos) (rq : Nat) : (s.atRing rq).setTail m p = (s.setTail m p).atRing rq := by
  simp -implicitDefEqProofs [State.setTail]

@[simp] theorem State.atRing_ring (s : State) (r : Nat) (rq : Nat) : (s.atRing rq).ring r = s.ring r := by
  simp -implicitDefEqProofs [State.ring]

@[simp] theorem State.atRing_cq (s : State) (m : Nat) (rq : Nat) : (s.atRing rq).cq m = s.cq m := by
  simp -implicitDefEqProofs [State.cq]

@[simp] theorem State.atRing_setCq (s : State) (m : Nat) (v : CqSt) (rq : Nat) : (s.atRing rq).setCq m v = (s.setCq m v).atRing rq := by
  simp -implicitDefEqProofs [State.setCq]

@[simp] theorem State.atRing_ringCq (s : State) (r : Nat) (rq : Nat) : (s.atRing rq).ringCq r = s.ringCq r := by
  simp -implicitDefEqProofs [State.ringCq]

@[simp] theorem State.atRing_cqUsed (s : State) (m : Nat) (rq : Nat) : (s.atRing rq).cqUsed m = s.cqUsed m := by
  simp -implicitDefEqProofs [State.cqUsed]

@[simp] theorem State.atRing_hostWrite (s : State) (addr len data : Nat) (rq : Nat) :
    (s.atRing rq).hostWrite addr len data = (s.hostWrite addr len data).atRing rq := by
  simp -implicitDefEqProofs [State.hostWrite]

@[simp] theorem State.atRing_canSignal (s : State) (v : Nat) (rq : Nat) : (s.atRing rq).canSignal v = s.canSignal v := by
  simp -implicitDefEqProofs [State.canSignal]

@[simp] theorem State.atRing_sendMessage (s : State) (v : Nat) (rq : Nat) : (s.atRing rq).sendMessage v = (s.sendMessage v).atRing rq := by
  simp -implicitDefEqProofs [State.sendMessage]

@[simp] theorem State.atRing_signalled (s : State) (m : Nat) (rq : Nat) : (s.atRing rq).signalled m = (s.signalled m).atRing rq := by
  simp -implicitDefEqProofs [State.signalled]

@[simp] theorem State.atRing_signalCq (s : State) (m : Nat) (rq : Nat) : (s.atRing rq).signalCq m = (s.signalCq m).atRing rq := by
  simp -implicitDefEqProofs [State.signalCq]

@[simp] theorem State.atRing_putEntry (s : State) (m ph data : Nat) (now : Bool) (rq : Nat) :
    (s.atRing rq).putEntry m ph data now = (s.putEntry m ph data now).atRing rq := by
  simp -implicitDefEqProofs [State.putEntry]

@[simp] theorem State.atRing_putCompletion (s : State) (c : Cmd) (r : Result) (rq : Nat) :
    (s.atRing rq).putCompletion c r = (s.putCompletion c r).atRing rq := by
  simp -implicitDefEqProofs [State.putCompletion]

@[simp] theorem State.atRing_cqTakes (s : State) (m : Nat) (rq : Nat) : (s.atRing rq).cqTakes m = s.cqTakes m := by
  simp -implicitDefEqProofs [State.cqTakes]

@[simp] theorem State.atRing_mayComplete (s : State) (c : Cmd) (rq : Nat) : (s.atRing rq).mayComplete c = s.mayComplete c := by
  simp -implicitDefEqProofs [State.mayComplete]

@[simp] theorem State.atRing_mayComplete_fun (s : State) (rq : Nat) :
    (s.atRing rq).mayComplete = s.mayComplete :=
  funext fun _ => State.atRing_mayComplete ..

@[simp] theorem State.atRing_completable (s : State) (rq : Nat) : (s.atRing rq).completable = s.completable := by
  simp -implicitDefEqProofs [State.completable]

@[simp] theorem State.atRing_flushN (s : State) (k0 : Nat) (rq : Nat) : (s.atRing rq).flushN k0 = (s.flushN k0).atRing rq := by
  induction k0 generalizing s with
  | zero => rfl
  | succ k ih =>
    simp -implicitDefEqProofs only [State.flushN, State.atRing_completable]
    (repeat' split) <;> simp_all -implicitDefEqProofs

@[simp] theorem State.atRing_flushAll (s : State) (rq : Nat) : (s.atRing rq).flushAll = s.flushAll.atRing rq := by
  simp -implicitDefEqProofs [State.flushAll]

@[simp] theorem State.atRing_wrongMode (s : State) (rq : Nat) : (s.atRing rq).wrongMode = s.wrongMode := by
  simp -implicitDefEqProofs [State.wrongMode]

@[simp] theorem State.atRing_sealHere (s : State) (rq : Nat) : (s.atRing rq).sealHere = s.sealHere := by
  simp -implicitDefEqProofs [State.sealHere]

@[simp] theorem State.atRing_sealNext (s : State) (rq : Nat) : (s.atRing rq).sealNext = s.sealNext := by
  simp -implicitDefEqProofs [State.sealNext]

@[simp] theorem State.atRing_finishCmd (s : State) (ref : CmdRef) (o : Result) (need : Nat) (rq : Nat) :
    (s.atRing rq).finishCmd ref o need = (s.finishCmd ref o need).atRing rq := by
  simp -implicitDefEqProofs [State.finishCmd]

@[simp] theorem State.atRing_recordAt (s : State) (stamp : Nat) (rq : Nat) : (s.atRing rq).recordAt stamp = s.recordAt stamp := by
  simp -implicitDefEqProofs [State.recordAt]

/-! ### Operations of Fences -/

@[simp] theorem State.atRing_fenced (s : State) (b : FenceId) (rq : Nat) : (s.atRing rq).fenced b = s.fenced b := by
  simp -implicitDefEqProofs [State.fenced]

@[simp] theorem State.atRing_setFence (s : State) (b : FenceId) (v : Bool) (rq : Nat) :
    (s.atRing rq).setFence b v = (s.setFence b v).atRing rq := by
  unfold State.setFence
  split <;> simp -implicitDefEqProofs

@[simp] theorem State.atRing_standbyUnit (s : State) (rq : Nat) : (s.atRing rq).standbyUnit = s.standbyUnit := by
  simp -implicitDefEqProofs [State.standbyUnit]

@[simp] theorem State.atRing_unitLoaded (s : State) (u : Nat) (rq : Nat) : (s.atRing rq).unitLoaded u = s.unitLoaded u := by
  simp -implicitDefEqProofs [State.unitLoaded]

@[simp] theorem State.atRing_retired (s : State) (u : Nat) (rq : Nat) : (s.atRing rq).retired u = s.retired u := by
  simp -implicitDefEqProofs [State.retired]

@[simp] theorem State.atRing_pair (s : State) (u l : Nat) (rq : Nat) : (s.atRing rq).pair u l = s.pair u l := by
  simp -implicitDefEqProofs [State.pair]

@[simp] theorem State.atRing_setPair (s : State) (u l : Nat) (v : PairSt) (rq : Nat) :
    (s.atRing rq).setPair u l v = (s.setPair u l v).atRing rq := by
  simp -implicitDefEqProofs [State.setPair]

@[simp] theorem State.atRing_laneOf (s : State) (u pos : Nat) (rq : Nat) : (s.atRing rq).laneOf u pos = s.laneOf u pos := by
  simp -implicitDefEqProofs [State.laneOf]

@[simp] theorem State.atRing_posOf (s : State) (u l : Nat) (rq : Nat) : (s.atRing rq).posOf u l = s.posOf u l := by
  simp -implicitDefEqProofs [State.posOf]

@[simp] theorem State.atRing_lane (s : State) (u l c : Nat) (rq : Nat) : (s.atRing rq).lane u l c = s.lane u l c := by
  simp -implicitDefEqProofs [State.lane]

@[simp] theorem State.atRing_setLane (s : State) (u l c : Nat) (v : Lane) (rq : Nat) :
    (s.atRing rq).setLane u l c v = (s.setLane u l c v).atRing rq := by
  simp -implicitDefEqProofs [State.setLane]

@[simp] theorem State.atRing_standbyReady (s : State) (rq : Nat) : (s.atRing rq).standbyReady = s.standbyReady := by
  simp -implicitDefEqProofs [State.standbyReady]

@[simp] theorem State.atRing_formatsAgree (s : State) (rq : Nat) : (s.atRing rq).formatsAgree = s.formatsAgree := by
  simp -implicitDefEqProofs [State.formatsAgree]

@[simp] theorem State.atRing_canTakeOver (s : State) (rq : Nat) : (s.atRing rq).canTakeOver = s.canTakeOver := by
  simp -implicitDefEqProofs [State.canTakeOver]

@[simp] theorem State.atRing_redundant (s : State) (rq : Nat) : (s.atRing rq).redundant = s.redundant := by
  simp -implicitDefEqProofs [State.redundant]

@[simp] theorem State.atRing_loopMode (s : State) (rq : Nat) : (s.atRing rq).loopMode = s.loopMode := by
  simp -implicitDefEqProofs [State.loopMode]

@[simp] theorem State.atRing_lostMask (s : State) (rq : Nat) : (s.atRing rq).lostMask = s.lostMask := by
  simp -implicitDefEqProofs [State.lostMask]

@[simp] theorem State.atRing_noteRedundancy (s : State) (rq : Nat) : (s.atRing rq).noteRedundancy = s.noteRedundancy.atRing rq := by
  simp -implicitDefEqProofs [State.noteRedundancy]

@[simp] theorem State.atRing_fenceUnit (s : State) (u : Nat) (rq : Nat) : (s.atRing rq).fenceUnit u = (s.fenceUnit u).atRing rq := by
  simp -implicitDefEqProofs [State.fenceUnit]

@[simp] theorem State.atRing_dropUnsealed (s : State) (rq : Nat) : (s.atRing rq).dropUnsealed = s.dropUnsealed.atRing rq := by
  simp -implicitDefEqProofs [State.dropUnsealed]

@[simp] theorem State.atRing_abandonBuild (s : State) (rq : Nat) : (s.atRing rq).abandonBuild = s.abandonBuild.atRing rq := by
  simp -implicitDefEqProofs [State.abandonBuild]
  (repeat' split) <;> simp_all -implicitDefEqProofs

/-! ### Operations of Collector -/

@[simp] theorem State.atRing_latchOf (s : State) (src : Nat) (rq : Nat) : (s.atRing rq).latchOf src = s.latchOf src := by
  simp -implicitDefEqProofs [State.latchOf]

@[simp] theorem State.atRing_isLive (s : State) (src : Nat) (rq : Nat) : (s.atRing rq).isLive src = s.isLive src := by
  simp -implicitDefEqProofs [State.isLive]

@[simp] theorem State.atRing_showBits (s : State) (src : Nat) (rq : Nat) : (s.atRing rq).showBits src = (s.showBits src).atRing rq := by
  unfold State.showBits
  split <;> simp -implicitDefEqProofs

@[simp] theorem State.atRing_logsStamp (s : State) (w stamp : Nat) (rq : Nat) : (s.atRing rq).logsStamp w stamp = s.logsStamp w stamp := by
  simp -implicitDefEqProofs [State.logsStamp]

@[simp] theorem State.atRing_logAfter (s : State) (e : EventRec) (w : Nat) (rq : Nat) : (s.atRing rq).logAfter e w = s.logAfter e w := by
  simp -implicitDefEqProofs [State.logAfter]

@[simp] theorem State.atRing_logPut (s : State) (e : EventRec) (word : Nat) (k0 : Nat) (k1 : Nat) (k2 : SMap Nat) (rq : Nat) :
    (s.atRing rq).logPut e word k0 k1 k2 = s.logPut e word k0 k1 k2 := by
  induction k0 generalizing k1 k2 with
  | zero => rfl
  | succ k ih => simp -implicitDefEqProofs only [State.logPut, State.atRing_logAfter, ih]

@[simp] theorem State.atRing_logEntry (s : State) (e : EventRec) (message flags base : Nat) (rq : Nat) :
    (s.atRing rq).logEntry e message flags base = (s.logEntry e message flags base).atRing rq := by
  simp -implicitDefEqProofs [State.logEntry]

@[simp] theorem State.atRing_frozenAt (s : State) (seq : Nat) (rq : Nat) : (s.atRing rq).frozenAt seq = (s.frozenAt seq).atRing rq := by
  simp -implicitDefEqProofs [State.frozenAt]

@[simp] theorem State.atRing_postTicks (s : State) (rq : Nat) : (s.atRing rq).postTicks = s.postTicks := by
  simp -implicitDefEqProofs [State.postTicks]

@[simp] theorem State.atRing_freezeAt (s : State) (stamp : Nat) (copy : Bool) (rq : Nat) :
    (s.atRing rq).freezeAt stamp copy = (s.freezeAt stamp copy).atRing rq := by
  simp -implicitDefEqProofs [State.freezeAt]
  (repeat' split) <;> simp_all -implicitDefEqProofs

@[simp] theorem State.atRing_logAck (s : State) (src : Nat) (rq : Nat) : (s.atRing rq).logAck src = (s.logAck src).atRing rq := by
  simp -implicitDefEqProofs [State.logAck]

@[simp] theorem State.atRing_ackOne (s : State) (src : Nat) (rq : Nat) : (s.atRing rq).ackOne src = (s.ackOne src).atRing rq := by
  simp -implicitDefEqProofs [State.ackOne]

@[simp] theorem State.atRing_ackable (s : State) (src : Nat) (rq : Nat) : (s.atRing rq).ackable src = s.ackable src := by
  simp -implicitDefEqProofs [State.ackable]

@[simp] theorem State.atRing_ackable_fun (s : State) (rq : Nat) :
    (s.atRing rq).ackable = s.ackable :=
  funext fun _ => State.atRing_ackable ..

@[simp] theorem State.atRing_ackTargets (s : State) (src : Nat) (allInst all : Bool) (rq : Nat) :
    (s.atRing rq).ackTargets src allInst all = s.ackTargets src allInst all := by
  simp -implicitDefEqProofs [State.ackTargets]

@[simp] theorem State.atRing_faultAck (s : State) (src : Nat) (allInst all : Bool) (rq : Nat) :
    (s.atRing rq).faultAck src allInst all = ((s.faultAck src allInst all).1.atRing rq, (s.faultAck src allInst all).2) := by
  simp -implicitDefEqProofs [State.faultAck]
  (repeat' split) <;> simp_all -implicitDefEqProofs

@[simp] theorem State.atRing_tripPending (s : State) (rq : Nat) : (s.atRing rq).tripPending = s.tripPending := by
  simp -implicitDefEqProofs [State.tripPending]

/-! ### Operations of LatchCmp -/

@[simp] theorem State.atRing_latchUnit (s : State) (n : Nat) (rq : Nat) : (s.atRing rq).latchUnit n = s.latchUnit n := by
  simp -implicitDefEqProofs [State.latchUnit]

@[simp] theorem State.atRing_setLatchUnit (s : State) (n : Nat) (v : LatchSt) (rq : Nat) :
    (s.atRing rq).setLatchUnit n v = (s.setLatchUnit n v).atRing rq := by
  simp -implicitDefEqProofs [State.setLatchUnit]

@[simp] theorem State.atRing_cmpUnit (s : State) (u : Nat) (rq : Nat) : (s.atRing rq).cmpUnit u = s.cmpUnit u := by
  simp -implicitDefEqProofs [State.cmpUnit]

@[simp] theorem State.atRing_setCmpUnit (s : State) (u : Nat) (v : CmpSt) (rq : Nat) :
    (s.atRing rq).setCmpUnit u v = (s.setCmpUnit u v).atRing rq := by
  simp -implicitDefEqProofs [State.setCmpUnit]

@[simp] theorem State.atRing_armMode (s : State) (rq : Nat) : (s.atRing rq).armMode = s.armMode := by
  simp -implicitDefEqProofs [State.armMode]

@[simp] theorem State.atRing_sealAt (s : State) (t : Nat) (rq : Nat) : (s.atRing rq).sealAt t = s.sealAt t := by
  simp -implicitDefEqProofs [State.sealAt]

@[simp] theorem State.atRing_latchArm (s : State) (n : Nat) (ref : CmdRef) (rq : Nat) :
    (s.atRing rq).latchArm n ref = ((s.latchArm n ref).1.atRing rq, (s.latchArm n ref).2) := by
  simp -implicitDefEqProofs [State.latchArm]
  (repeat' split) <;> simp_all -implicitDefEqProofs

@[simp] theorem State.atRing_disarmLatch (s : State) (n : Nat) (o : Result) (rq : Nat) :
    (s.atRing rq).disarmLatch n o = (s.disarmLatch n o).atRing rq := by
  simp -implicitDefEqProofs [State.disarmLatch]
  (repeat' split) <;> simp_all -implicitDefEqProofs

@[simp] theorem State.atRing_abortLatch (s : State) (n detail : Nat) (rq : Nat) :
    (s.atRing rq).abortLatch n detail = (s.abortLatch n detail).atRing rq := by
  simp -implicitDefEqProofs [State.abortLatch]

@[simp] theorem State.atRing_enterLatch (s : State) (n : Nat) (c : LatchCap) (c1 : Nat) (rq : Nat) :
    (s.atRing rq).enterLatch n c c1 = (s.enterLatch n c c1).atRing rq := by
  unfold State.enterLatch
  split <;> simp -implicitDefEqProofs

@[simp] theorem State.atRing_latchFlush (s : State) (rq : Nat) : (s.atRing rq).latchFlush = s.latchFlush.atRing rq := by
  simp -implicitDefEqProofs [State.latchFlush]

@[simp] theorem State.atRing_compareArm (s : State) (u dir count pos : Nat) (step : Int) (ref : CmdRef) (c : Nat) (rq : Nat) :
    (s.atRing rq).compareArm u dir count pos step ref c =
      ((s.compareArm u dir count pos step ref c).1.atRing rq, (s.compareArm u dir count pos step ref c).2) := by
  simp -implicitDefEqProofs [State.compareArm]
  (repeat' split) <;> simp_all -implicitDefEqProofs

@[simp] theorem State.atRing_compareFire (s : State) (u cNew t : Nat) (rq : Nat) :
    (s.atRing rq).compareFire u cNew t = (s.compareFire u cNew t).atRing rq := by
  simp -implicitDefEqProofs [State.compareFire]
  (repeat' split) <;> simp_all -implicitDefEqProofs

@[simp] theorem State.atRing_compareUnits (s : State) (ch cOld cNew t : Nat) (rq : Nat) :
    (s.atRing rq).compareUnits ch cOld cNew t = (s.compareUnits ch cOld cNew t).atRing rq := by
  simp -implicitDefEqProofs [State.compareUnits]

@[simp] theorem State.atRing_disarmCmp (s : State) (u : Nat) (o : Result) (rq : Nat) :
    (s.atRing rq).disarmCmp u o = (s.disarmCmp u o).atRing rq := by
  simp -implicitDefEqProofs [State.disarmCmp]
  (repeat' split) <;> simp_all -implicitDefEqProofs

@[simp] theorem State.atRing_disarmUnits (s : State) (p : Nat → Bool) (o : Result) (rq : Nat) :
    (s.atRing rq).disarmUnits p o = (s.disarmUnits p o).atRing rq := by
  simp -implicitDefEqProofs [State.disarmUnits]

@[simp] theorem State.atRing_unitArmedOn (s : State) (ch : Nat) (rq : Nat) : (s.atRing rq).unitArmedOn ch = s.unitArmedOn ch := by
  simp -implicitDefEqProofs [State.unitArmedOn]

@[simp] theorem State.atRing_latchOwned (s : State) (ref : CmdRef) (rq : Nat) : (s.atRing rq).latchOwned ref = s.latchOwned ref := by
  simp -implicitDefEqProofs [State.latchOwned]

@[simp] theorem State.atRing_cmpOwned (s : State) (ref : CmdRef) (rq : Nat) : (s.atRing rq).cmpOwned ref = s.cmpOwned ref := by
  simp -implicitDefEqProofs [State.cmpOwned]

/-! ### Operations of Feedback -/

@[simp] theorem State.atRing_fbs (s : State) (n : Nat) (rq : Nat) : (s.atRing rq).fbs n = s.fbs n := by
  simp -implicitDefEqProofs [State.fbs]

@[simp] theorem State.atRing_setFbs (s : State) (n : Nat) (v : FbSt) (rq : Nat) : (s.atRing rq).setFbs n v = (s.setFbs n v).atRing rq := by
  simp -implicitDefEqProofs [State.setFbs]

@[simp] theorem State.atRing_fbMode (s : State) (n : Nat) (rq : Nat) : (s.atRing rq).fbMode n = s.fbMode n := by
  simp -implicitDefEqProofs [State.fbMode]

@[simp] theorem State.atRing_fbSerial (s : State) (n : Nat) (rq : Nat) : (s.atRing rq).fbSerial n = s.fbSerial n := by
  simp -implicitDefEqProofs [State.fbSerial]

@[simp] theorem State.atRing_fbInv (s : State) (n : Nat) (rq : Nat) : (s.atRing rq).fbInv n = s.fbInv n := by
  simp -implicitDefEqProofs [State.fbInv]

@[simp] theorem State.atRing_cprCh (s : State) (n : Nat) (rq : Nat) : (s.atRing rq).cprCh n = s.cprCh n := by
  simp -implicitDefEqProofs [State.cprCh]

@[simp] theorem State.atRing_moveCount (s : State) (n : Nat) (dc : Int) (t : Nat) (rq : Nat) :
    (s.atRing rq).moveCount n dc t = (s.moveCount n dc t).atRing rq := by
  simp -implicitDefEqProofs [State.moveCount]

@[simp] theorem State.atRing_hallUsed (s : State) (n h : Nat) (rq : Nat) : (s.atRing rq).hallUsed n h = s.hallUsed n h := by
  simp -implicitDefEqProofs [State.hallUsed]

@[simp] theorem State.atRing_serT (s : State) (n : Nat) (rq : Nat) : (s.atRing rq).serT n = s.serT n := by
  simp -implicitDefEqProofs [State.serT]

@[simp] theorem State.atRing_ssiBits (s : State) (n : Nat) (rq : Nat) : (s.atRing rq).ssiBits n = s.ssiBits n := by
  simp -implicitDefEqProofs [State.ssiBits]

@[simp] theorem State.atRing_startFrame (s : State) (n : Nat) (rq : Nat) : (s.atRing rq).startFrame n = (s.startFrame n).atRing rq := by
  simp -implicitDefEqProofs [State.startFrame]

@[simp] theorem State.atRing_follow (s : State) (was b : Bool) (k : Kind) (n data : Nat) (rq : Nat) :
    (s.atRing rq).follow was b k n data = (s.follow was b k n data).atRing rq := by
  simp -implicitDefEqProofs [State.follow]

@[simp] theorem State.atRing_reinitFb (s : State) (n : Nat) (rq : Nat) : (s.atRing rq).reinitFb n = (s.reinitFb n).atRing rq := by
  simp -implicitDefEqProofs [State.reinitFb]

@[simp] theorem State.atRing_settleFb (s : State) (n lands : Nat) (rq : Nat) :
    (s.atRing rq).settleFb n lands = (s.settleFb n lands).atRing rq := by
  simp -implicitDefEqProofs [State.settleFb]
  (repeat' split) <;> simp_all -implicitDefEqProofs

@[simp] theorem State.atRing_preset (s : State) (n : Nat) (rq : Nat) : (s.atRing rq).preset n = (s.preset n).atRing rq := by
  simp -implicitDefEqProofs [State.preset]

@[simp] theorem State.atRing_fbCtrl (s : State) (n : Nat) (preset armHome cntClr serGo : Bool) (rq : Nat) :
    (s.atRing rq).fbCtrl n preset armHome cntClr serGo =
      ((s.fbCtrl n preset armHome cntClr serGo).1, (s.fbCtrl n preset armHome cntClr serGo).2.atRing rq) := by
  unfold State.fbCtrl
  simp -implicitDefEqProofs only [State.atRing_unitArmedOn, State.atRing_mode, State.atRing_fbMode, State.atRing_fld]
  split
  · rfl
  · split
    · rfl
    · split
      · rfl
      · cases preset <;> cases armHome <;> cases cntClr <;> cases serGo <;> simp -implicitDefEqProofs

/-! ### Operations of SigmaDelta -/

@[simp] theorem State.atRing_emus (s : State) (e : Nat) (rq : Nat) : (s.atRing rq).emus e = s.emus e := by
  simp -implicitDefEqProofs [State.emus]

@[simp] theorem State.atRing_setEmus (s : State) (e : Nat) (v : EmuSt) (rq : Nat) : (s.atRing rq).setEmus e v = (s.setEmus e v).atRing rq := by
  simp -implicitDefEqProofs [State.setEmus]

@[simp] theorem State.atRing_emuSrc (s : State) (e : Nat) (rq : Nat) : (s.atRing rq).emuSrc e = s.emuSrc e := by
  simp -implicitDefEqProofs [State.emuSrc]

@[simp] theorem State.atRing_emuCount (s : State) (e : Nat) (rq : Nat) : (s.atRing rq).emuCount e = s.emuCount e := by
  simp -implicitDefEqProofs [State.emuCount]

@[simp] theorem State.atRing_emuCfg (s : State) (e : Nat) (rq : Nat) : (s.atRing rq).emuCfg e = (s.emuCfg e).atRing rq := by
  simp -implicitDefEqProofs [State.emuCfg]

@[simp] theorem State.atRing_sds (s : State) (i : Nat) (rq : Nat) : (s.atRing rq).sds i = s.sds i := by
  simp -implicitDefEqProofs [State.sds]

@[simp] theorem State.atRing_setSds (s : State) (i : Nat) (v : SdSt) (rq : Nat) : (s.atRing rq).setSds i v = (s.setSds i v).atRing rq := by
  simp -implicitDefEqProofs [State.setSds]

@[simp] theorem State.atRing_sdDiv (s : State) (c : Nat) (rq : Nat) : (s.atRing rq).sdDiv c = s.sdDiv c := by
  simp -implicitDefEqProofs [State.sdDiv]

/-! ### Operations of PwmEvents -/

@[simp] theorem State.atRing_tripInactive (s : State) (n : Nat) (rq : Nat) : (s.atRing rq).tripInactive n = (s.tripInactive n).atRing rq := by
  simp -implicitDefEqProofs [State.tripInactive]

@[simp] theorem State.atRing_tripUnnamed (s : State) (rq : Nat) : (s.atRing rq).tripUnnamed = s.tripUnnamed.atRing rq := by
  simp -implicitDefEqProofs [State.tripUnnamed]

@[simp] theorem State.atRing_settleTrips (s : State) (lands : Nat) (rq : Nat) :
    (s.atRing rq).settleTrips lands = (s.settleTrips lands).atRing rq := by
  simp -implicitDefEqProofs [State.settleTrips]

@[simp] theorem State.atRing_tripCause (s : State) (g : Nat) (rq : Nat) : (s.atRing rq).tripCause g = s.tripCause g := by
  simp -implicitDefEqProofs [State.tripCause]

@[simp] theorem State.atRing_pwmCtrl (s : State) (g : Nat) (en tripClr cntClr : Bool) (rq : Nat) :
    (s.atRing rq).pwmCtrl g en tripClr cntClr = ((s.pwmCtrl g en tripClr cntClr).1.atRing rq, (s.pwmCtrl g en tripClr cntClr).2) := by
  simp -implicitDefEqProofs [State.pwmCtrl]
  (repeat' split) <;> simp_all -implicitDefEqProofs

@[simp] theorem State.atRing_restartTriggers (s : State) (g : Nat) (rq : Nat) :
    (s.atRing rq).restartTriggers g = (s.restartTriggers g).atRing rq := by
  simp -implicitDefEqProofs [State.restartTriggers]

/-! ### Operations of Can -/

@[simp] theorem State.atRing_cans (s : State) (c : Nat) (rq : Nat) : (s.atRing rq).cans c = s.cans c := by
  simp -implicitDefEqProofs [State.cans]

@[simp] theorem State.atRing_setCans (s : State) (c : Nat) (v : CanSt) (rq : Nat) : (s.atRing rq).setCans c v = (s.setCans c v).atRing rq := by
  simp -implicitDefEqProofs [State.setCans]

@[simp] theorem State.atRing_canFormat (s : State) (c format : Nat) (rq : Nat) : (s.atRing rq).canFormat c format = s.canFormat c format := by
  simp -implicitDefEqProofs [State.canFormat]

@[simp] theorem State.atRing_canState (s : State) (c st : Nat) (rq : Nat) : (s.atRing rq).canState c st = (s.canState c st).atRing rq := by
  simp -implicitDefEqProofs [State.canState]

@[simp] theorem State.atRing_canTx (s : State) (c v size : Nat) (ref : CmdRef) (rq : Nat) :
    (s.atRing rq).canTx c v size ref = ((s.canTx c v size ref).1.atRing rq, (s.canTx c v size ref).2) := by
  simp -implicitDefEqProofs [State.canTx]
  (repeat' split) <;> simp_all -implicitDefEqProofs

@[simp] theorem State.atRing_canEnd (s : State) (c : Nat) (p : CanPending) (o : Result) (rq : Nat) :
    (s.atRing rq).canEnd c p o = (s.canEnd c p o).atRing rq := by
  unfold State.canEnd
  split <;> simp -implicitDefEqProofs

@[simp] theorem State.atRing_canAbort (s : State) (ref abortRef : CmdRef) (rq : Nat) :
    (s.atRing rq).canAbort ref abortRef = (s.canAbort ref abortRef).map (State.atRing · rq) := by
  simp -implicitDefEqProofs only [State.canAbort, List.map_findSome?]
  congr 1
  funext c
  simp -implicitDefEqProofs
  (repeat' split) <;> simp_all -implicitDefEqProofs

@[simp] theorem State.atRing_resetCan (s : State) (c : Nat) (rq : Nat) : (s.atRing rq).resetCan c = (s.resetCan c).atRing rq := by
  simp -implicitDefEqProofs [State.resetCan]

@[simp] theorem State.atRing_canClear (s : State) (c : Nat) (rq : Nat) : (s.atRing rq).canClear c = (s.canClear c).atRing rq := by
  simp -implicitDefEqProofs [State.canClear]

/-! ### Operations of Objects -/

@[simp] theorem State.atRing_objRead (s : State) (o : Obj) (inst : Nat) (rq : Nat) : (s.atRing rq).objRead o inst = s.objRead o inst := by
  simp -implicitDefEqProofs [State.objRead]

@[simp] theorem State.atRing_snapshot (s : State) (rq : Nat) : (s.atRing rq).snapshot = s.snapshot := by
  simp -implicitDefEqProofs [State.snapshot]

@[simp] theorem State.atRing_setRw (s : State) (o : Obj) (inst v : Nat) (rq : Nat) :
    (s.atRing rq).setRw o inst v = (s.setRw o inst v).atRing rq := by
  simp -implicitDefEqProofs [State.setRw]

@[simp] theorem State.atRing_loadSnapshot (s : State) (c : List SnapObj) (rq : Nat) :
    (s.atRing rq).loadSnapshot c = (s.loadSnapshot c).atRing rq := by
  refine foldl_atRing (fun s e => ?_) c s
  (repeat' split) <;> simp -implicitDefEqProofs

/-! ### Operations of FieldIo -/

@[simp] theorem State.atRing_dis (s : State) (i : Nat) (rq : Nat) : (s.atRing rq).dis i = s.dis i := by
  simp -implicitDefEqProofs [State.dis]

@[simp] theorem State.atRing_setDis (s : State) (i : Nat) (v : DiSt) (rq : Nat) : (s.atRing rq).setDis i v = (s.setDis i v).atRing rq := by
  simp -implicitDefEqProofs [State.setDis]

@[simp] theorem State.atRing_diRestart (s : State) (rq : Nat) : (s.atRing rq).diRestart = s.diRestart.atRing rq := by
  simp -implicitDefEqProofs [State.diRestart]

@[simp] theorem State.atRing_fioClear (s : State) (rq : Nat) : (s.atRing rq).fioClear = s.fioClear.atRing rq := by
  simp -implicitDefEqProofs [State.fioClear]

/-! ### Operations of Ptp -/

@[simp] theorem State.atRing_eths (s : State) (p : Nat) (rq : Nat) : (s.atRing rq).eths p = s.eths p := by
  simp -implicitDefEqProofs [State.eths]

@[simp] theorem State.atRing_setEths (s : State) (p : Nat) (v : EthSt) (rq : Nat) : (s.atRing rq).setEths p v = (s.setEths p v).atRing rq := by
  simp -implicitDefEqProofs [State.setEths]

@[simp] theorem State.atRing_portUp (s : State) (p : Nat) (rq : Nat) : (s.atRing rq).portUp p = s.portUp p := by
  simp -implicitDefEqProofs [State.portUp]

@[simp] theorem State.atRing_ptpPort (s : State) (p : Nat) (rq : Nat) : (s.atRing rq).ptpPort p = s.ptpPort p := by
  simp -implicitDefEqProofs [State.ptpPort]

@[simp] theorem State.atRing_ptpPort_fun (s : State) (rq : Nat) :
    (s.atRing rq).ptpPort = s.ptpPort :=
  funext fun _ => State.atRing_ptpPort ..

@[simp] theorem State.atRing_gptp (s : State) (rq : Nat) : (s.atRing rq).gptp = s.gptp := by
  simp -implicitDefEqProofs [State.gptp]

@[simp] theorem State.atRing_clockId (s : State) (rq : Nat) : (s.atRing rq).clockId = s.clockId := by
  simp -implicitDefEqProofs [State.clockId]

@[simp] theorem State.atRing_ownClock (s : State) (rq : Nat) : (s.atRing rq).ownClock = s.ownClock := by
  simp -implicitDefEqProofs [State.ownClock]

@[simp] theorem State.atRing_ptpTicks (s : State) (p mtype : Nat) (rq : Nat) : (s.atRing rq).ptpTicks p mtype = s.ptpTicks p mtype := by
  simp -implicitDefEqProofs [State.ptpTicks]

@[simp] theorem State.atRing_enterHoldover (s : State) (rq : Nat) : (s.atRing rq).enterHoldover = s.enterHoldover.atRing rq := by
  simp -implicitDefEqProofs [State.enterHoldover]

@[simp] theorem State.atRing_enterSlave (s : State) (p : Nat) (rq : Nat) : (s.atRing rq).enterSlave p = (s.enterSlave p).atRing rq := by
  simp -implicitDefEqProofs [State.enterSlave]

@[simp] theorem State.atRing_enterFree (s : State) (rq : Nat) : (s.atRing rq).enterFree = s.enterFree.atRing rq := by
  simp -implicitDefEqProofs [State.enterFree]

@[simp] theorem State.atRing_setPortState (s : State) (p st : Nat) (free : Bool) (rq : Nat) :
    (s.atRing rq).setPortState p st free = (s.setPortState p st free).atRing rq := by
  simp -implicitDefEqProofs [State.setPortState]

@[simp] theorem State.atRing_setGm (s : State) (gm : Nat) (rq : Nat) : (s.atRing rq).setGm gm = (s.setGm gm).atRing rq := by
  simp -implicitDefEqProofs [State.setGm]

@[simp] theorem State.atRing_compareOf (s : State) (x y : Rated) (rq : Nat) : (s.atRing rq).compareOf x y = s.compareOf x y := by
  simp -implicitDefEqProofs [State.compareOf]

@[simp] theorem State.atRing_beats (s : State) (x y : Rated) (rq : Nat) : (s.atRing rq).beats x y = s.beats x y := by
  simp -implicitDefEqProofs [State.beats]

@[simp] theorem State.atRing_qualifies (s : State) (p : Nat) (f : Foreign) (rq : Nat) : (s.atRing rq).qualifies p f = s.qualifies p f := by
  simp -implicitDefEqProofs [State.qualifies]

@[simp] theorem State.atRing_qualifies_fun (s : State) (p : Nat) (rq : Nat) :
    (s.atRing rq).qualifies p = s.qualifies p :=
  funext fun _ => State.atRing_qualifies ..

@[simp] theorem State.atRing_best (s : State) (xs : List Rated) (rq : Nat) : (s.atRing rq).best xs = s.best xs := by
  simp -implicitDefEqProofs [State.best]

@[simp] theorem State.atRing_bestOn (s : State) (p : Nat) (rq : Nat) : (s.atRing rq).bestOn p = s.bestOn p := by
  simp -implicitDefEqProofs [State.bestOn]

@[simp] theorem State.atRing_bestOfAll (s : State) (rq : Nat) : (s.atRing rq).bestOfAll = s.bestOfAll := by
  simp -implicitDefEqProofs [State.bestOfAll]

@[simp] theorem State.atRing_recommend (s : State) (p : Nat) (all : Option Rated) (rq : Nat) :
    (s.atRing rq).recommend p all = s.recommend p all := by
  simp -implicitDefEqProofs [State.recommend]

@[simp] theorem State.atRing_follow1588 (s : State) (p : Nat) (k0 : Recommend) (rq : Nat) :
    (s.atRing rq).follow1588 p k0 = (s.follow1588 p k0).atRing rq := by
  unfold State.follow1588
  split <;> simp -implicitDefEqProofs

@[simp] theorem State.atRing_noteGm (s : State) (rq : Nat) : (s.atRing rq).noteGm = s.noteGm.atRing rq := by
  simp -implicitDefEqProofs [State.noteGm]
  (repeat' split) <;> simp_all -implicitDefEqProofs

@[simp] theorem State.atRing_decide1588 (s : State) (rq : Nat) : (s.atRing rq).decide1588 = s.decide1588.atRing rq := by
  simp -implicitDefEqProofs [State.decide1588]

@[simp] theorem State.atRing_portConfigured (s : State) (p : Nat) (rq : Nat) :
    (s.atRing rq).portConfigured p = (s.portConfigured p).atRing rq := by
  simp -implicitDefEqProofs [State.portConfigured]

/-! ### Operations of Network -/

@[simp] theorem State.atRing_crx (s : State) (r : Nat) (rq : Nat) : (s.atRing rq).crx r = s.crx r := by
  simp -implicitDefEqProofs [State.crx]

@[simp] theorem State.atRing_portOff (s : State) (p : Nat) (rq : Nat) : (s.atRing rq).portOff p = (s.portOff p).atRing rq := by
  simp -implicitDefEqProofs [State.portOff]

@[simp] theorem State.atRing_resetEth (s : State) (p : Nat) (rq : Nat) : (s.atRing rq).resetEth p = (s.resetEth p).atRing rq := by
  simp -implicitDefEqProofs [State.resetEth]

@[simp] theorem State.atRing_ethClear (s : State) (p : Nat) (rq : Nat) : (s.atRing rq).ethClear p = (s.ethClear p).atRing rq := by
  simp -implicitDefEqProofs [State.ethClear]

@[simp] theorem State.atRing_cycWord (s : State) (r w : Nat) (rq : Nat) : (s.atRing rq).cycWord r w = s.cycWord r w := by
  simp -implicitDefEqProofs [State.cycWord]

@[simp] theorem State.atRing_netMaster (s : State) (m : Nat) (rq : Nat) : (s.atRing rq).netMaster m = s.netMaster m := by
  simp -implicitDefEqProofs [State.netMaster]

/-! ### Operations of MotionHub -/

@[simp] theorem State.atRing_axis (s : State) (a : Nat) (rq : Nat) : (s.atRing rq).axis a = s.axis a := by
  simp -implicitDefEqProofs [State.axis]

@[simp] theorem State.atRing_setAxis (s : State) (a : Nat) (v : AxisSt) (rq : Nat) : (s.atRing rq).setAxis a v = (s.setAxis a v).atRing rq := by
  simp -implicitDefEqProofs [State.setAxis]

@[simp] theorem State.atRing_hubAx (s : State) (a : Nat) (rq : Nat) : (s.atRing rq).hubAx a = s.hubAx a := by
  simp -implicitDefEqProofs [State.hubAx]

@[simp] theorem State.atRing_setHub (s : State) (a : Nat) (h : AxisHub) (rq : Nat) : (s.atRing rq).setHub a h = (s.setHub a h).atRing rq := by
  simp -implicitDefEqProofs [State.setHub]

@[simp] theorem State.atRing_caravan (s : State) (g : Nat) (rq : Nat) : (s.atRing rq).caravan g = s.caravan g := by
  simp -implicitDefEqProofs [State.caravan]

@[simp] theorem State.atRing_setCaravan (s : State) (g : Nat) (v : CaravanSt) (rq : Nat) :
    (s.atRing rq).setCaravan g v = (s.setCaravan g v).atRing rq := by
  simp -implicitDefEqProofs [State.setCaravan]

@[simp] theorem State.atRing_axisSpdExp (s : State) (a : Nat) (rq : Nat) : (s.atRing rq).axisSpdExp a = s.axisSpdExp a := by
  simp -implicitDefEqProofs [State.axisSpdExp]

@[simp] theorem State.atRing_axisHasFb (s : State) (a : Nat) (rq : Nat) : (s.atRing rq).axisHasFb a = s.axisHasFb a := by
  simp -implicitDefEqProofs [State.axisHasFb]

@[simp] theorem State.atRing_axisPresent (s : State) (a : Nat) (rq : Nat) : (s.atRing rq).axisPresent a = s.axisPresent a := by
  simp -implicitDefEqProofs [State.axisPresent]

@[simp] theorem State.atRing_hasOuter (s : State) (a : Nat) (rq : Nat) : (s.atRing rq).hasOuter a = s.hasOuter a := by
  simp -implicitDefEqProofs [State.hasOuter]

@[simp] theorem State.atRing_outerPhase (s : State) (a : Nat) (rq : Nat) : (s.atRing rq).outerPhase a = s.outerPhase a := by
  simp -implicitDefEqProofs [State.outerPhase]

@[simp] theorem State.atRing_motionMode (s : State) (rq : Nat) : (s.atRing rq).motionMode = s.motionMode := by
  simp -implicitDefEqProofs [State.motionMode]

@[simp] theorem State.atRing_profLimits (s : State) (a : Nat) (rq : Nat) : (s.atRing rq).profLimits a = s.profLimits a := by
  simp -implicitDefEqProofs [State.profLimits]

@[simp] theorem State.atRing_motionDue (s : State) (a : Nat) (rq : Nat) : (s.atRing rq).motionDue a = s.motionDue a := by
  simp -implicitDefEqProofs [State.motionDue]

@[simp] theorem State.atRing_deliver (s : State) (a : Nat) (ref : CmdRef) (e : MotionEntry) (rq : Nat) :
    (s.atRing rq).deliver a ref e = ((s.deliver a ref e).1.atRing rq, (s.deliver a ref e).2) := by
  simp -implicitDefEqProofs [State.deliver]
  (repeat' split) <;> simp_all -implicitDefEqProofs

@[simp] theorem State.atRing_motionCmd (s : State) (d : Desc) (ref : CmdRef) (rq : Nat) :
    (s.atRing rq).motionCmd d ref = ((s.motionCmd d ref).1.atRing rq, (s.motionCmd d ref).2) := by
  simp -implicitDefEqProofs [State.motionCmd]

@[simp] theorem State.atRing_deliveryOf (s : State) (ref : CmdRef) (rq : Nat) : (s.atRing rq).deliveryOf ref = s.deliveryOf ref := by
  simp -implicitDefEqProofs [State.deliveryOf]

@[simp] theorem State.atRing_abortMotion (s : State) (target abort : CmdRef) (rq : Nat) :
    (s.atRing rq).abortMotion target abort = (s.abortMotion target abort).map (State.atRing · rq) := by
  simp -implicitDefEqProofs [State.abortMotion]
  (repeat' split) <;> simp_all -implicitDefEqProofs

@[simp] theorem State.atRing_abortDue (s : State) (target : CmdRef) (rq : Nat) : (s.atRing rq).abortDue target = s.abortDue target := by
  simp -implicitDefEqProofs [State.abortDue]

@[simp] theorem State.atRing_masterKind (s : State) (a : Nat) (rq : Nat) : (s.atRing rq).masterKind a = s.masterKind a := by
  simp -implicitDefEqProofs [State.masterKind]

@[simp] theorem State.atRing_masterIndex (s : State) (a : Nat) (rq : Nat) : (s.atRing rq).masterIndex a = s.masterIndex a := by
  simp -implicitDefEqProofs [State.masterIndex]

@[simp] theorem State.atRing_masterValue (s : State) (a : Nat) (rq : Nat) : (s.atRing rq).masterValue a = s.masterValue a := by
  simp -implicitDefEqProofs [State.masterValue]

@[simp] theorem State.atRing_profValid (s : State) (p : Nat) (rq : Nat) : (s.atRing rq).profValid p = s.profValid p := by
  simp -implicitDefEqProofs [State.profValid]

@[simp] theorem State.atRing_gearCmd (s : State) (d : Desc) (ref : CmdRef) (rq : Nat) :
    (s.atRing rq).gearCmd d ref = ((s.gearCmd d ref).1.atRing rq, (s.gearCmd d ref).2) := by
  simp -implicitDefEqProofs [State.gearCmd]

@[simp] theorem State.atRing_camCmd (s : State) (d : Desc) (ref : CmdRef) (rq : Nat) :
    (s.atRing rq).camCmd d ref = ((s.camCmd d ref).1.atRing rq, (s.camCmd d ref).2) := by
  simp -implicitDefEqProofs [State.camCmd]
  (repeat' split) <;> simp_all -implicitDefEqProofs

@[simp] theorem State.atRing_disengageCmd (s : State) (d : Desc) (ref : CmdRef) (rq : Nat) :
    (s.atRing rq).disengageCmd d ref = ((s.disengageCmd d ref).1.atRing rq, (s.disengageCmd d ref).2) := by
  simp -implicitDefEqProofs [State.disengageCmd]

@[simp] theorem State.atRing_camsOf (s : State) (a : Nat) (rq : Nat) : (s.atRing rq).camsOf a = s.camsOf a := by
  simp -implicitDefEqProofs [State.camsOf]

@[simp] theorem State.atRing_profEngaged (s : State) (p : Nat) (rq : Nat) : (s.atRing rq).profEngaged p = s.profEngaged p := by
  simp -implicitDefEqProofs [State.profEngaged]

@[simp] theorem State.atRing_camCommit (s : State) (rq : Nat) : (s.atRing rq).camCommit = (s.camCommit.1.atRing rq, s.camCommit.2) := by
  simp -implicitDefEqProofs [State.camCommit]
  (repeat' split) <;> simp_all -implicitDefEqProofs

@[simp] theorem State.atRing_member (s : State) (g j : Nat) (rq : Nat) : (s.atRing rq).member g j = s.member g j := by
  simp -implicitDefEqProofs [State.member]

@[simp] theorem State.atRing_member_fun (s : State) (g : Nat) (rq : Nat) :
    (s.atRing rq).member g = s.member g :=
  funext fun _ => State.atRing_member ..

@[simp] theorem State.atRing_members (s : State) (g : Nat) (rq : Nat) : (s.atRing rq).members g = s.members g := by
  simp -implicitDefEqProofs [State.members]

@[simp] theorem State.atRing_segDue (s : State) (g : Nat) (rq : Nat) : (s.atRing rq).segDue g = s.segDue g := by
  simp -implicitDefEqProofs [State.segDue]

@[simp] theorem State.atRing_caravanSeg (s : State) (d : Desc) (data : Nat) (ref : CmdRef) (rq : Nat) :
    (s.atRing rq).caravanSeg d data ref = ((s.caravanSeg d data ref).1.atRing rq, (s.caravanSeg d data ref).2) := by
  simp -implicitDefEqProofs [State.caravanSeg]
  (repeat' split) <;> simp_all -implicitDefEqProofs

@[simp] theorem State.atRing_endSegments (s : State) (g : Nat) (o : Result) (need : Nat) (rq : Nat) :
    (s.atRing rq).endSegments g o need = (s.endSegments g o need).atRing rq := by
  simp -implicitDefEqProofs [State.endSegments]

@[simp] theorem State.atRing_abortCaravan (s : State) (target abort : CmdRef) (rq : Nat) :
    (s.atRing rq).abortCaravan target abort = (s.abortCaravan target abort).map (State.atRing · rq) := by
  simp -implicitDefEqProofs only [State.abortCaravan, List.map_findSome?]
  congr 1
  funext c
  simp -implicitDefEqProofs

@[simp] theorem State.atRing_motionToConfigure (s : State) (need : Nat) (rq : Nat) :
    (s.atRing rq).motionToConfigure need = (s.motionToConfigure need).atRing rq := by
  simp -implicitDefEqProofs [State.motionToConfigure]

/-! ### Operations of InputRecord -/

@[simp] theorem State.atRing_rxWords (s : State) (id : Nat) (rq : Nat) : (s.atRing rq).rxWords id = s.rxWords id := by
  simp -implicitDefEqProofs [State.rxWords]

@[simp] theorem State.atRing_entryWords (s : State) (id : Nat) (rq : Nat) : (s.atRing rq).entryWords id = s.entryWords id := by
  simp -implicitDefEqProofs [State.entryWords]

@[simp] theorem State.atRing_unitImg (s : State) (u : Nat) (rq : Nat) : (s.atRing rq).unitImg u = s.unitImg u := by
  simp -implicitDefEqProofs [State.unitImg]

@[simp] theorem State.atRing_taskOf (s : State) (u kind : Nat) (f : Fld) (rq : Nat) : (s.atRing rq).taskOf u kind f = s.taskOf u kind f := by
  simp -implicitDefEqProofs [State.taskOf]

/-! ### Operations of Survey -/

@[simp] theorem State.atRing_headOf (s : State) (count : Nat) (rq : Nat) : (s.atRing rq).headOf count = s.headOf count := by
  simp -implicitDefEqProofs [State.headOf]

@[simp] theorem State.atRing_tasksAt (s : State) (pos : Nat) (rq : Nat) : (s.atRing rq).tasksAt pos = s.tasksAt pos := by
  simp -implicitDefEqProofs [State.tasksAt]

@[simp] theorem State.atRing_bbArea (s : State) (a : Nat) (rq : Nat) : (s.atRing rq).bbArea a = s.bbArea a := by
  simp -implicitDefEqProofs [State.bbArea]

@[simp] theorem State.atRing_setBb (s : State) (a : Nat) (v : BbArea) (rq : Nat) : (s.atRing rq).setBb a v = (s.setBb a v).atRing rq := by
  simp -implicitDefEqProofs [State.setBb]

@[simp] theorem State.atRing_anchor (s : State) (rq : Nat) : (s.atRing rq).anchor = s.anchor := by
  simp -implicitDefEqProofs [State.anchor]

@[simp] theorem State.atRing_bbTarget (s : State) (rq : Nat) : (s.atRing rq).bbTarget = s.bbTarget := by
  simp -implicitDefEqProofs [State.bbTarget]

@[simp] theorem State.atRing_bbReady (s : State) (rq : Nat) : (s.atRing rq).bbReady = s.bbReady := by
  simp -implicitDefEqProofs [State.bbReady]

@[simp] theorem State.atRing_bbWorn (s : State) (rq : Nat) : (s.atRing rq).bbWorn = s.bbWorn := by
  simp -implicitDefEqProofs [State.bbWorn]

@[simp] theorem State.atRing_startBb (s : State) (rq : Nat) : (s.atRing rq).startBb = s.startBb.atRing rq := by
  simp -implicitDefEqProofs [State.startBb]
  (repeat' split) <;> simp_all -implicitDefEqProofs

@[simp] theorem State.atRing_statement (s : State) (nonce : Nat) (rq : Nat) : (s.atRing rq).statement nonce = s.statement nonce := by
  simp -implicitDefEqProofs [State.statement]

@[simp] theorem State.atRing_signed (s : State) (nonce : Nat) (rq : Nat) :
    (s.atRing rq).signed nonce = ((s.signed nonce).1, (s.signed nonce).2.atRing rq) := by
  simp -implicitDefEqProofs [State.signed]

@[simp] theorem State.atRing_bbPieces (s : State) (nsect : Nat) (higher : Bool) (rq : Nat) :
    (s.atRing rq).bbPieces nsect higher = s.bbPieces nsect higher := by
  simp -implicitDefEqProofs [State.bbPieces]

@[simp] theorem State.atRing_exportSetup (s0 : State) (rq : Nat) :
    (s0.atRing rq).exportSetup = (s0.exportSetup.1.atRing rq, s0.exportSetup.2) := by
  simp -implicitDefEqProofs [State.exportSetup]
  (repeat' split) <;> simp_all -implicitDefEqProofs

@[simp] theorem State.atRing_replaySource (s : State) (rq : Nat) : (s.atRing rq).replaySource = s.replaySource := by
  simp -implicitDefEqProofs [State.replaySource]

@[simp] theorem State.atRing_replayLoad (s0 : State) (rq : Nat) : (s0.atRing rq).replayLoad = (s0.replayLoad.1.atRing rq, s0.replayLoad.2) := by
  simp -implicitDefEqProofs [State.replayLoad]
  (repeat' split) <;> simp_all -implicitDefEqProofs

@[simp] theorem State.atRing_survClear (s : State) (rq : Nat) : (s.atRing rq).survClear = s.survClear.atRing rq := by
  simp -implicitDefEqProofs [State.survClear]

@[simp] theorem State.atRing_unfreeze (s : State) (rq : Nat) : (s.atRing rq).unfreeze = s.unfreeze.atRing rq := by
  simp -implicitDefEqProofs [State.unfreeze]

@[simp] theorem State.atRing_surveyFreeze (s : State) (noCopy : Bool) (rq : Nat) :
    (s.atRing rq).surveyFreeze noCopy = ((s.surveyFreeze noCopy).1.atRing rq, (s.surveyFreeze noCopy).2) := by
  simp -implicitDefEqProofs [State.surveyFreeze]
  (repeat' split) <;> simp_all -implicitDefEqProofs

/-! ### Operations of StdTasks -/

@[simp] theorem State.atRing_stdTask (s : State) (u kind : Nat) (rq : Nat) : (s.atRing rq).stdTask u kind = s.stdTask u kind := by
  simp -implicitDefEqProofs [State.stdTask]

@[simp] theorem State.atRing_axisEnv (s : State) (a : Nat) (x : AxisIn) (coef : Nat → Int) (ownSpd : Option Int) (rq : Nat) :
    (s.atRing rq).axisEnv a x coef ownSpd = s.axisEnv a x coef ownSpd := by
  simp -implicitDefEqProofs [State.axisEnv]

@[simp] theorem State.atRing_curEnv (s : State) (a : Nat) (x : AxisIn) (coef : Nat → Int) (ownIq : Option Int) (rq : Nat) :
    (s.atRing rq).curEnv a x coef ownIq = s.curEnv a x coef ownIq := by
  simp -implicitDefEqProofs [State.curEnv]

@[simp] theorem State.atRing_outerPosts (s : State) (a : Nat) (same : Bool) (r : OuterResult) (rq : Nat) :
    (s.atRing rq).outerPosts a same r = s.outerPosts a same r := by
  simp -implicitDefEqProofs [State.outerPosts]

@[simp] theorem State.atRing_currentPosts (_s : State) (a : Nat) (same : Bool) (r : CurResult) (rq : Nat) :
    (_s.atRing rq).currentPosts a same r = _s.currentPosts a same r := by
  simp -implicitDefEqProofs [State.currentPosts]

@[simp] theorem State.atRing_runStd (s : State) (n : Nat) (x : AxisIn) (t : TaskAlloc) (l : Lane) (bankB : Bool) (rq : Nat) :
    (s.atRing rq).runStd n x t l bankB = Except.map (fun x => (x.1, x.2.atRing rq)) (s.runStd n x t l bankB) := by
  simp -implicitDefEqProofs [State.runStd]
  (repeat' split) <;> simp_all -implicitDefEqProofs

/-! ### Operations of Pairs -/

@[simp] theorem State.atRing_secondary (s : State) (u l : Nat) (rq : Nat) : (s.atRing rq).secondary u l = s.secondary u l := by
  simp -implicitDefEqProofs [State.secondary]

@[simp] theorem State.atRing_catchUp (s : State) (u q : Nat) (rq : Nat) : (s.atRing rq).catchUp u q = s.catchUp u q := by
  simp -implicitDefEqProofs [State.catchUp]

@[simp] theorem State.atRing_builds (s : State) (u l : Nat) (rq : Nat) : (s.atRing rq).builds u l = s.builds u l := by
  simp -implicitDefEqProofs [State.builds]

@[simp] theorem State.atRing_countsFor (s : State) (u l q : Nat) (rq : Nat) : (s.atRing rq).countsFor u l q = s.countsFor u l q := by
  simp -implicitDefEqProofs [State.countsFor]

@[simp] theorem State.atRing_live (s : State) (u l q : Nat) (rq : Nat) : (s.atRing rq).live u l q = s.live u l q := by
  simp -implicitDefEqProofs [State.live]

@[simp] theorem State.atRing_runOrder (s : State) (pos phase : Nat) (rq : Nat) : (s.atRing rq).runOrder pos phase = s.runOrder pos phase := by
  simp -implicitDefEqProofs [State.runOrder]

@[simp] theorem State.atRing_pairBank (s : State) (u l : Nat) (rq : Nat) : (s.atRing rq).pairBank u l = s.pairBank u l := by
  simp -implicitDefEqProofs [State.pairBank]

@[simp] theorem State.atRing_deltaOverflow (s : State) (u l : Nat) (rq : Nat) :
    (s.atRing rq).deltaOverflow u l = (s.deltaOverflow u l).atRing rq := by
  simp -implicitDefEqProofs [State.deltaOverflow]

@[simp] theorem State.atRing_failMigrate (s : State) (cause : Nat) (rq : Nat) :
    (s.atRing rq).failMigrate cause = (s.failMigrate cause).atRing rq := by
  simp -implicitDefEqProofs [State.failMigrate]
  (repeat' split) <;> simp_all -implicitDefEqProofs

@[simp] theorem State.atRing_standbyMap (s : State) (u : Nat) (rq : Nat) : (s.atRing rq).standbyMap u = s.standbyMap u := by
  simp -implicitDefEqProofs [State.standbyMap]

@[simp] theorem State.atRing_setRetired (s : State) (u l : Nat) (b : Bool) (rq : Nat) :
    (s.atRing rq).setRetired u l b = (s.setRetired u l b).atRing rq := by
  simp -implicitDefEqProofs [State.setRetired]

@[simp] theorem State.atRing_mismatch (s : State) (u l : Nat) (rq : Nat) : (s.atRing rq).mismatch u l = (s.mismatch u l).atRing rq := by
  simp -implicitDefEqProofs [State.mismatch]

/-! ### Operations of LaneOps -/

@[simp] theorem State.atRing_parityErrors (s : State) (c : CopyId) (hits : List (LaneMem × Nat)) (rq : Nat) :
    (s.atRing rq).parityErrors c hits = (s.parityErrors c hits).atRing rq := by
  simp -implicitDefEqProofs [State.parityErrors]

@[simp] theorem State.atRing_stdPosts (s : State) (c : CopyId) (op : LaneOp) (rq : Nat) :
    (s.atRing rq).stdPosts c op = Except.map (fun x => (x.1, x.2.atRing rq)) (s.stdPosts c op) := by
  simp -implicitDefEqProofs [State.stdPosts]
  (repeat' split) <;> simp_all -implicitDefEqProofs

@[simp] theorem State.atRing_beforeRun (s s1 : State) (c : CopyId) (op : LaneOp) (rq : Nat) :
    (s.atRing rq).beforeRun (s1.atRing rq) c op = (s.beforeRun s1 c op).atRing rq := by
  simp -implicitDefEqProofs only [State.beforeRun, State.atRing_lane, State.atRing_pairBank, State.atRing_parityErrors,
    State.atRing_deltaOverflow, ite_atRing]

@[simp] theorem State.atRing_ranLane (s : State) (c : CopyId) (op : LaneOp) (ps : List Post) (rq : Nat) :
    (s.atRing rq).ranLane c op ps = s.ranLane c op ps := by
  simp -implicitDefEqProofs only [State.ranLane, State.atRing_lane, State.atRing_pairBank]

@[simp] theorem State.atRing_afterRun (b : State) (c : CopyId) (l : Lane) (rq : Nat) :
    (b.atRing rq).afterRun c l = (b.afterRun c l).atRing rq := by
  unfold State.afterRun
  dsimp only
  split <;> rfl

@[simp] theorem State.atRing_retire (s : State) (c : CopyId) (op : LaneOp) (rq : Nat) :
    (s.atRing rq).retire c op = mapOut (State.atRing · rq) (s.retire c op) := by
  have lanes := State.atRing_lane s c.unit c.lane c.copy rq
  have banks := State.atRing_pairBank s c.unit c.lane rq
  cases undefined : (s.lane c.unit c.lane c.copy).fault (s.pairBank c.unit c.lane) op with
  | some f => rw [State.retire_of_fault undefined, State.retire_of_fault (by rw [lanes, banks, undefined])]; rfl
  | none =>
    have defined : ((s.atRing rq).lane c.unit c.lane c.copy).fault ((s.atRing rq).pairBank c.unit c.lane) op = none := by
      rw [lanes, banks, undefined]
    have posted := State.atRing_stdPosts s c op rq
    cases std : s.stdPosts c op with
    | error f => rw [State.retire_of_stdFault undefined std, State.retire_of_stdFault defined (by rw [posted, std]; rfl)]; rfl
    | ok r =>
      rw [State.retire_of_stdPosts undefined std, State.retire_of_stdPosts defined (by rw [posted, std]; rfl), State.atRing_beforeRun,
        State.atRing_ranLane, State.atRing_afterRun]
      rfl

@[simp] theorem State.atRing_debugLane (s : State) (rq : Nat) : (s.atRing rq).debugLane = s.debugLane := by
  simp -implicitDefEqProofs [State.debugLane]

@[simp] theorem State.atRing_groupsOfLane (s : State) (l : Nat) (rq : Nat) : (s.atRing rq).groupsOfLane l = s.groupsOfLane l := by
  simp -implicitDefEqProofs [State.groupsOfLane]

@[simp] theorem State.atRing_showDebug (s : State) (rq : Nat) : (s.atRing rq).showDebug = s.showDebug.atRing rq := by
  simp -implicitDefEqProofs [State.showDebug]

@[simp] theorem State.atRing_haltGroups (s : State) (l : Nat) (b : Bool) (rq : Nat) :
    (s.atRing rq).haltGroups l b = (s.haltGroups l b).atRing rq := by
  simp -implicitDefEqProofs [State.haltGroups]

@[simp] theorem State.atRing_haltCopy (s : State) (l c : Nat) (rq : Nat) : (s.atRing rq).haltCopy l c = (s.haltCopy l c).atRing rq := by
  simp -implicitDefEqProofs [State.haltCopy]

/-! ### Operations of Admission -/

@[simp] theorem State.atRing_window (s : State) (rq : Nat) : (s.atRing rq).window = s.window := by
  simp -implicitDefEqProofs [State.window]

@[simp] theorem State.atRing_kOf (s : State) (rq : Nat) : (s.atRing rq).kOf = s.kOf := by
  simp -implicitDefEqProofs [State.kOf]

@[simp] theorem State.atRing_kindPresent (s : State) (kind : Nat) (rq : Nat) : (s.atRing rq).kindPresent kind = s.kindPresent kind := by
  simp -implicitDefEqProofs [State.kindPresent]

@[simp] theorem State.atRing_figure (s : State) (f : Fld) (t : TaskAlloc) (rq : Nat) : (s.atRing rq).figure f t = s.figure f t := by
  simp -implicitDefEqProofs [State.figure]

@[simp] theorem State.atRing_figure_fun (s : State) (f : Fld) (rq : Nat) :
    (s.atRing rq).figure f = s.figure f :=
  funext fun _ => State.atRing_figure ..

@[simp] theorem State.atRing_loadAt (s : State) (ts : List TaskAlloc) (pos phase : Nat) (rq : Nat) :
    (s.atRing rq).loadAt ts pos phase = s.loadAt ts pos phase := by
  simp -implicitDefEqProofs [State.loadAt]

@[simp] theorem State.atRing_peakAt (s : State) (ts : List TaskAlloc) (pos : Nat) (rq : Nat) : (s.atRing rq).peakAt ts pos = s.peakAt ts pos := by
  simp -implicitDefEqProofs [State.peakAt]

@[simp] theorem State.atRing_activeLanes (s : State) (rq : Nat) : (s.atRing rq).activeLanes = s.activeLanes := by
  simp -implicitDefEqProofs [State.activeLanes]

@[simp] theorem State.atRing_placeCurrent (s : State) (n : Nat) (ts : List TaskAlloc) (a : Nat) (rq : Nat) :
    (s.atRing rq).placeCurrent n ts a = s.placeCurrent n ts a := by
  simp -implicitDefEqProofs [State.placeCurrent]

@[simp] theorem State.atRing_placeCurrent_fun (s : State) (n : Nat) (rq : Nat) :
    (s.atRing rq).placeCurrent n = s.placeCurrent n :=
  funext fun _ => funext fun _ => State.atRing_placeCurrent ..

@[simp] theorem State.atRing_placeOuter (s : State) (n limit : Nat) (ts : List TaskAlloc) (a : Nat) (rq : Nat) :
    (s.atRing rq).placeOuter n limit ts a = s.placeOuter n limit ts a := by
  simp -implicitDefEqProofs [State.placeOuter]

@[simp] theorem State.atRing_placeOuter_fun (s : State) (n : Nat) (limit : Nat) (rq : Nat) :
    (s.atRing rq).placeOuter n limit = s.placeOuter n limit :=
  funext fun _ => funext fun _ => State.atRing_placeOuter ..

@[simp] theorem State.atRing_loadLimit (s : State) (rq : Nat) : (s.atRing rq).loadLimit = s.loadLimit := by
  simp -implicitDefEqProofs [State.loadLimit]

@[simp] theorem State.atRing_placement (s : State) (rq : Nat) : (s.atRing rq).placement = s.placement := by
  simp -implicitDefEqProofs [State.placement]

@[simp] theorem State.atRing_total (s : State) (f : Fld) (ts : List TaskAlloc) (rq : Nat) : (s.atRing rq).total f ts = s.total f ts := by
  simp -implicitDefEqProofs [State.total]

@[simp] theorem State.atRing_periodOk (s : State) (rq : Nat) : (s.atRing rq).periodOk = s.periodOk := by
  simp -implicitDefEqProofs [State.periodOk]

@[simp] theorem State.atRing_loadsOk (s : State) (ts : List TaskAlloc) (rq : Nat) : (s.atRing rq).loadsOk ts = s.loadsOk ts := by
  simp -implicitDefEqProofs [State.loadsOk]

@[simp] theorem State.atRing_midOk (s : State) (ts : List TaskAlloc) (rq : Nat) : (s.atRing rq).midOk ts = s.midOk ts := by
  simp -implicitDefEqProofs [State.midOk]

@[simp] theorem State.atRing_limitsOk (s : State) (ts : List TaskAlloc) (rq : Nat) : (s.atRing rq).limitsOk ts = s.limitsOk ts := by
  simp -implicitDefEqProofs [State.limitsOk]

@[simp] theorem State.atRing_mapOk (s : State) (kind : Nat) (rq : Nat) : (s.atRing rq).mapOk kind = s.mapOk kind := by
  simp -implicitDefEqProofs [State.mapOk]

@[simp] theorem State.atRing_axisOk (s : State) (a : Nat) (rq : Nat) : (s.atRing rq).axisOk a = s.axisOk a := by
  simp -implicitDefEqProofs [State.axisOk]

@[simp] theorem State.atRing_masterChain (s : State) (a : Nat) (k0 : Nat) (rq : Nat) : (s.atRing rq).masterChain a k0 = s.masterChain a k0 := by
  induction k0 generalizing a with
  | zero => rfl
  | succ k ih => simp -implicitDefEqProofs only [State.masterChain, State.atRing_masterKind, State.atRing_masterIndex, ih]

@[simp] theorem State.atRing_masterOk (s : State) (a : Nat) (rq : Nat) : (s.atRing rq).masterOk a = s.masterOk a := by
  simp -implicitDefEqProofs [State.masterOk]

@[simp] theorem State.atRing_caravanOk (s : State) (g : Nat) (rq : Nat) : (s.atRing rq).caravanOk g = s.caravanOk g := by
  simp -implicitDefEqProofs [State.caravanOk]

@[simp] theorem State.atRing_agree (s : State) (fs : List Fld) (g h : Nat) (rq : Nat) : (s.atRing rq).agree fs g h = s.agree fs g h := by
  simp -implicitDefEqProofs [State.agree]

@[simp] theorem State.atRing_groupOk (s : State) (g : Nat) (rq : Nat) : (s.atRing rq).groupOk g = s.groupOk g := by
  simp -implicitDefEqProofs [State.groupOk]

@[simp] theorem State.atRing_gangLed (s : State) (lead : Nat) (rq : Nat) : (s.atRing rq).gangLed lead = s.gangLed lead := by
  simp -implicitDefEqProofs [State.gangLed]

@[simp] theorem State.atRing_gangOk (s : State) (g : Nat) (rq : Nat) : (s.atRing rq).gangOk g = s.gangOk g := by
  simp -implicitDefEqProofs [State.gangOk]

@[simp] theorem State.atRing_axisGangOk (s : State) (a : Nat) (rq : Nat) : (s.atRing rq).axisGangOk a = s.axisGangOk a := by
  simp -implicitDefEqProofs [State.axisGangOk]

@[simp] theorem State.atRing_frameBound (s : State) (n : Nat) (rq : Nat) : (s.atRing rq).frameBound n = s.frameBound n := by
  simp -implicitDefEqProofs [State.frameBound]

@[simp] theorem State.atRing_fbOk (s : State) (n : Nat) (rq : Nat) : (s.atRing rq).fbOk n = s.fbOk n := by
  simp -implicitDefEqProofs [State.fbOk]

@[simp] theorem State.atRing_axisInputsOk (s : State) (a : Nat) (rq : Nat) : (s.atRing rq).axisInputsOk a = s.axisInputsOk a := by
  simp -implicitDefEqProofs [State.axisInputsOk]

@[simp] theorem State.atRing_sdOk (s : State) (i : Nat) (rq : Nat) : (s.atRing rq).sdOk i = s.sdOk i := by
  simp -implicitDefEqProofs [State.sdOk]

@[simp] theorem State.atRing_sdOk_fun (s : State) (rq : Nat) :
    (s.atRing rq).sdOk = s.sdOk :=
  funext fun _ => State.atRing_sdOk ..

@[simp] theorem State.atRing_emuOk (s : State) (e : Nat) (rq : Nat) : (s.atRing rq).emuOk e = s.emuOk e := by
  simp -implicitDefEqProofs [State.emuOk]

@[simp] theorem State.atRing_emuOk_fun (s : State) (rq : Nat) :
    (s.atRing rq).emuOk = s.emuOk :=
  funext fun _ => State.atRing_emuOk ..

@[simp] theorem State.atRing_canOk (s : State) (c : Nat) (rq : Nat) : (s.atRing rq).canOk c = s.canOk c := by
  simp -implicitDefEqProofs [State.canOk]

@[simp] theorem State.atRing_placeMap (s : State) (rq : Nat) : (s.atRing rq).placeMap = s.placeMap := by
  simp -implicitDefEqProofs [State.placeMap]

@[simp] theorem State.atRing_redundancyOk (s : State) (ts : List TaskAlloc) (rq : Nat) : (s.atRing rq).redundancyOk ts = s.redundancyOk ts := by
  simp -implicitDefEqProofs [State.redundancyOk]

@[simp] theorem State.atRing_admits (s : State) (rq : Nat) : (s.atRing rq).admits = s.admits := by
  simp -implicitDefEqProofs [State.admits]

@[simp] theorem State.atRing_unplace (s : State) (rq : Nat) : (s.atRing rq).unplace = s.unplace.atRing rq := by
  simp -implicitDefEqProofs [State.unplace]

/-! ### Operations of Images -/

@[simp] theorem State.atRing_slot (s : State) (n : Nat) (rq : Nat) : (s.atRing rq).slot n = s.slot n := by
  simp -implicitDefEqProofs [State.slot]

@[simp] theorem State.atRing_setSlot (s : State) (n : Nat) (v : SlotSt) (rq : Nat) : (s.atRing rq).setSlot n v = (s.setSlot n v).atRing rq := by
  simp -implicitDefEqProofs [State.setSlot]

@[simp] theorem State.atRing_showSlots (s : State) (rq : Nat) : (s.atRing rq).showSlots = s.showSlots.atRing rq := by
  simp -implicitDefEqProofs [State.showSlots]

@[simp] theorem State.atRing_imageOk (s : State) (n : Nat) (rq : Nat) : (s.atRing rq).imageOk n = s.imageOk n := by
  simp -implicitDefEqProofs [State.imageOk]

@[simp] theorem State.atRing_masterBank (s : State) (bankB : Bool) (rq : Nat) : (s.atRing rq).masterBank bankB = s.masterBank bankB := by
  simp -implicitDefEqProofs [State.masterBank]

@[simp] theorem State.atRing_reloadSlot (s : State) (src : Bool) (rq : Nat) : (s.atRing rq).reloadSlot src = s.reloadSlot src := by
  simp -implicitDefEqProofs [State.reloadSlot]

@[simp] theorem State.atRing_otherSlot (s : State) (rq : Nat) : (s.atRing rq).otherSlot = s.otherSlot := by
  simp -implicitDefEqProofs [State.otherSlot]

/-! ### Operations of Redundancy -/

@[simp] theorem State.atRing_offersEnough (s : State) (rq : Nat) : (s.atRing rq).offersEnough = s.offersEnough := by
  simp -implicitDefEqProofs [State.offersEnough]

@[simp] theorem State.atRing_unitBusy (s : State) (rq : Nat) : (s.atRing rq).unitBusy = s.unitBusy := by
  simp -implicitDefEqProofs [State.unitBusy]

@[simp] theorem State.atRing_overHalf (s : State) (rq : Nat) : (s.atRing rq).overHalf = s.overHalf := by
  simp -implicitDefEqProofs [State.overHalf]

@[simp] theorem State.atRing_swapCmd (s : State) (ref : CmdRef) (rq : Nat) :
    (s.atRing rq).swapCmd ref = ((s.swapCmd ref).1.atRing rq, (s.swapCmd ref).2) := by
  simp -implicitDefEqProofs [State.swapCmd]
  (repeat' split) <;> simp_all -implicitDefEqProofs

@[simp] theorem State.atRing_spareLane (s : State) (rq : Nat) : (s.atRing rq).spareLane = s.spareLane := by
  simp -implicitDefEqProofs [State.spareLane]

@[simp] theorem State.atRing_startMigrate (s : State) (l pos spare : Nat) (rq : Nat) :
    (s.atRing rq).startMigrate l pos spare = (s.startMigrate l pos spare).atRing rq := by
  simp -implicitDefEqProofs [State.startMigrate]

@[simp] theorem State.atRing_redCtrl (s : State) (migrate : Bool) (l : Nat) (unretire : Bool) (u : Nat) (clr : Bool) (rq : Nat) :
    (s.atRing rq).redCtrl migrate l unretire u clr =
      ((s.redCtrl migrate l unretire u clr).1.atRing rq, (s.redCtrl migrate l unretire u clr).2) := by
  unfold State.redCtrl
  simp -implicitDefEqProofs only [State.atRing_loopMode, State.atRing_mode, State.atRing_spareLane, State.atRing_red, State.atRing_unitBusy,
    State.atRing_posOf, State.atRing_activeUnit, State.atRing_tasksAt, State.atRing_retired, State.atRing_wrongMode, State.atRing_startMigrate]
  (repeat' split) <;> simp -implicitDefEqProofs

/-! ### Operations of ObjAccess -/

@[simp] theorem State.atRing_laneMemRead (s : State) (param off len : Nat) (rq : Nat) :
    (s.atRing rq).laneMemRead param off len = s.laneMemRead param off len := by
  simp -implicitDefEqProofs [State.laneMemRead]

@[simp] theorem State.atRing_debugHalted (s : State) (rq : Nat) : (s.atRing rq).debugHalted = s.debugHalted := by
  simp -implicitDefEqProofs [State.debugHalted]

@[simp] theorem State.atRing_readEntries (s : State) (o : Obj) (inst off len : Nat) (rq : Nat) :
    (s.atRing rq).readEntries o inst off len = s.readEntries o inst off len := by
  simp -implicitDefEqProofs [State.readEntries]

@[simp] theorem State.atRing_readObject (s : State) (o : Obj) (inst off len param : Nat) (rq : Nat) :
    (s.atRing rq).readObject o inst off len param = s.readObject o inst off len param := by
  simp -implicitDefEqProofs [State.readObject]

@[simp] theorem Wr.entry_atRing (w : Wr) (s : State) (e : Nat) (rq : Nat) : Wr.entry w (s.atRing rq) e = Wr.entry w s e := by
  simp -implicitDefEqProofs [Wr.entry]

@[simp] theorem Wr.newFld_atRing (w : Wr) (s : State) (f : Fld) (e : Nat) (rq : Nat) : Wr.newFld w (s.atRing rq) f e = Wr.newFld w s f e := by
  simp -implicitDefEqProofs [Wr.newFld]

@[simp] theorem Wr.changes_atRing (w : Wr) (s : State) (rq : Nat) : Wr.changes w (s.atRing rq) = Wr.changes w s := by
  simp -implicitDefEqProofs [Wr.changes]

@[simp] theorem State.atRing_applyRw (s : State) (w : Wr) (rq : Nat) : (s.atRing rq).applyRw w = (s.applyRw w).atRing rq := by
  simp -implicitDefEqProofs [State.applyRw]

@[simp] theorem State.atRing_modeIs (s : State) (k0 : WriteIn) (rq : Nat) : (s.atRing rq).modeIs k0 = s.modeIs k0 := by
  simp -implicitDefEqProofs [State.modeIs]

@[simp] theorem State.atRing_writeAllowed (s : State) (w : Wr) (rq : Nat) : (s.atRing rq).writeAllowed w = s.writeAllowed w := by
  simp -implicitDefEqProofs [State.writeAllowed]

@[simp] theorem State.atRing_laneFenced (s : State) (l : Nat) (rq : Nat) : (s.atRing rq).laneFenced l = s.laneFenced l := by
  simp -implicitDefEqProofs [State.laneFenced]

@[simp] theorem State.atRing_writeFenced (s : State) (w : Wr) (rq : Nat) : (s.atRing rq).writeFenced w = s.writeFenced w := by
  simp -implicitDefEqProofs [State.writeFenced]

/-! ### Operations of Boot -/

@[simp] theorem State.atRing_moduleReset (s : State) (cause : Nat) (rq : Nat) :
    (s.atRing rq).moduleReset cause = (s.moduleReset cause).atRing rq := by
  exact (State.atRing_of_none rfl rq).symm

@[simp] theorem State.atRing_setUnattested (s : State) (b : Bool) (rq : Nat) : (s.atRing rq).setUnattested b = (s.setUnattested b).atRing rq := by
  simp -implicitDefEqProofs [State.setUnattested]

/-! ### Operations of Resets -/

@[simp] theorem State.atRing_addJob (s : State) (j : ResetJob) (rq : Nat) : (s.atRing rq).addJob j = (s.addJob j).atRing rq := by
  simp -implicitDefEqProofs [State.addJob]

@[simp] theorem State.atRing_stopPair (s : State) (u l : Nat) (rq : Nat) : (s.atRing rq).stopPair u l = (s.stopPair u l).atRing rq := by
  simp -implicitDefEqProofs [State.stopPair]

@[simp] theorem State.atRing_pairActive (s : State) (u l : Nat) (rq : Nat) : (s.atRing rq).pairActive u l = s.pairActive u l := by
  simp -implicitDefEqProofs [State.pairActive]

@[simp] theorem State.atRing_unrestore (s : State) (u : Nat) (lane : Option Nat) (rq : Nat) :
    (s.atRing rq).unrestore u lane = (s.unrestore u lane).atRing rq := by
  simp -implicitDefEqProofs [State.unrestore]

@[simp] theorem State.atRing_resetFb (s : State) (n : Nat) (ref : Option CmdRef) (rq : Nat) :
    (s.atRing rq).resetFb n ref = (s.resetFb n ref).atRing rq := by
  simp -implicitDefEqProofs [State.resetFb]

@[simp] theorem State.atRing_resetPwm (s : State) (g : Nat) (ref : Option CmdRef) (rq : Nat) :
    (s.atRing rq).resetPwm g ref = (s.resetPwm g ref).atRing rq := by
  simp -implicitDefEqProofs [State.resetPwm]

@[simp] theorem State.atRing_resetCanBlock (s : State) (c : Nat) (ref : Option CmdRef) (rq : Nat) :
    (s.atRing rq).resetCanBlock c ref = (s.resetCanBlock c ref).atRing rq := by
  simp -implicitDefEqProofs [State.resetCanBlock]

@[simp] theorem State.atRing_resetEthBlock (s : State) (p : Nat) (ref : Option CmdRef) (rq : Nat) :
    (s.atRing rq).resetEthBlock p ref = (s.resetEthBlock p ref).atRing rq := by
  simp -implicitDefEqProofs [State.resetEthBlock]

@[simp] theorem State.atRing_resetLanePair (s : State) (u l : Nat) (ref : Option CmdRef) (rq : Nat) :
    (s.atRing rq).resetLanePair u l ref = ((s.resetLanePair u l ref).1.atRing rq, (s.resetLanePair u l ref).2) := by
  simp -implicitDefEqProofs [State.resetLanePair]
  (repeat' split) <;> simp_all -implicitDefEqProofs

@[simp] theorem State.atRing_resetUnit (s : State) (u : Nat) (src : Bool) (ref : Option CmdRef) (rq : Nat) :
    (s.atRing rq).resetUnit u src ref = ((s.resetUnit u src ref).1.atRing rq, (s.resetUnit u src ref).2) := by
  simp -implicitDefEqProofs [State.resetUnit]
  (repeat' split) <;> simp_all -implicitDefEqProofs

@[simp] theorem later_atRing (s : State) (rq : Nat) : later (s.atRing rq) = Except.map (fun x => (x.1.atRing rq, x.2)) (later s) := by
  rfl

@[simp] theorem State.atRing_sysReset (s : State) (kind idx unit : Nat) (src : Bool) (ref : Option CmdRef) (rq : Nat) :
    (s.atRing rq).sysReset kind idx unit src ref = Except.map (fun x => (x.1.atRing rq, x.2)) (s.sysReset kind idx unit src ref) := by
  unfold State.sysReset
  (repeat' split) <;> simp -implicitDefEqProofs

/-! ### Operations of Modes -/

@[simp] theorem State.atRing_changeListed (s : State) (m : Nat) (rq : Nat) : (s.atRing rq).changeListed m = s.changeListed m := by
  simp -implicitDefEqProofs [State.changeListed]

@[simp] theorem State.atRing_unitsReady (s : State) (rq : Nat) : (s.atRing rq).unitsReady = s.unitsReady := by
  simp -implicitDefEqProofs [State.unitsReady]

@[simp] theorem State.atRing_commissionOk (s : State) (rq : Nat) : (s.atRing rq).commissionOk = s.commissionOk := by
  simp -implicitDefEqProofs [State.commissionOk]

@[simp] theorem State.atRing_replayConfig (s : State) (rq : Nat) : (s.atRing rq).replayConfig = s.replayConfig.atRing rq := by
  simp -implicitDefEqProofs [State.replayConfig]
  (repeat' split) <;> simp_all -implicitDefEqProofs

@[simp] theorem State.atRing_modeRefusal (s : State) (m : Nat) (rq : Nat) : (s.atRing rq).modeRefusal m = s.modeRefusal m := by
  have replayed : (if m = 4 then (s.atRing rq).replayConfig else s.atRing rq) = (if m = 4 then s.replayConfig else s).atRing rq := by
    simp -implicitDefEqProofs
  simp -implicitDefEqProofs only [State.modeRefusal, replayed, State.atRing_mode, State.atRing_fld, State.atRing_per, PeriodSt.atRing_safe,
    State.atRing_changeListed, State.atRing_unitsReady, State.atRing_surv, State.atRing_admits, State.atRing_commissionOk,
    State.atRing_tripPending, State.atRing_sec]

@[simp] theorem State.atRing_setMode (s : State) (m : Nat) (rq : Nat) : (s.atRing rq).setMode m = (s.setMode m).atRing rq := by
  simp -implicitDefEqProofs [State.setMode]

@[simp] theorem State.atRing_leaveReplay (s : State) (rq : Nat) : (s.atRing rq).leaveReplay = s.leaveReplay.atRing rq := by
  simp -implicitDefEqProofs [State.leaveReplay]
  (repeat' split) <;> simp_all -implicitDefEqProofs

@[simp] theorem State.atRing_stopPeriods (s : State) (rq : Nat) : (s.atRing rq).stopPeriods = s.stopPeriods.atRing rq := by
  unfold State.stopPeriods
  extract_lets t0 tp t1 t2 tb tr s0 sp s1 s2 sb sr
  have begun : t0 = s0.atRing rq := by simp -implicitDefEqProofs [t0, s0]
  have stopped : t1 = s1.atRing rq := by
    show ({ t0 with per := { t0.per with running := false, step := none } } : State) = _
    rw [begun]; rfl
  have dropped : t2 = s2.atRing rq := by
    show (State.forRange t1 2 fun s u => s.forRange 12 fun s l => s.stopPair u l).dropUnsealed = _
    rw [stopped]; simp -implicitDefEqProofs [s2]
  have abandoned : tb = sb.atRing rq := by
    show t2.abandonBuild = _
    rw [dropped, State.atRing_abandonBuild]
  have red : tr = sr := by
    show t2.red = _
    rw [dropped]; rfl
  rw [abandoned, red]
  rfl

@[simp] theorem State.atRing_enterConfigure (s : State) (rq : Nat) : (s.atRing rq).enterConfigure = s.enterConfigure.atRing rq := by
  simp -implicitDefEqProofs [State.enterConfigure]

@[simp] theorem State.atRing_acceptDeparture (s : State) (m : Nat) (ref : Option CmdRef) (rq : Nat) :
    (s.atRing rq).acceptDeparture m ref = (s.acceptDeparture m ref).atRing rq := by
  simp -implicitDefEqProofs [State.acceptDeparture]

@[simp] theorem State.atRing_modeRequest (s : State) (m : Nat) (ref : Option CmdRef) (rq : Nat) :
    (s.atRing rq).modeRequest m ref = ((s.modeRequest m ref).1.atRing rq, (s.modeRequest m ref).2) := by
  simp -implicitDefEqProofs [State.modeRequest]
  (repeat' split) <;> simp_all -implicitDefEqProofs

/-! ### Operations of Service -/

@[simp] theorem State.atRing_secCfgkey (s : State) (w : Wr) (rq : Nat) :
    (s.atRing rq).secCfgkey w = ((s.secCfgkey w).1.atRing rq, (s.secCfgkey w).2) := by
  simp -implicitDefEqProofs [State.secCfgkey]
  (repeat' split) <;> simp_all -implicitDefEqProofs

@[simp] theorem State.atRing_genIdCmd (s : State) (ref : CmdRef) (rq : Nat) :
    (s.atRing rq).genIdCmd ref = ((s.genIdCmd ref).1.atRing rq, (s.genIdCmd ref).2) := by
  simp -implicitDefEqProofs [State.genIdCmd]
  (repeat' split) <;> simp_all -implicitDefEqProofs

@[simp] theorem State.atRing_openCmd (s : State) (ref : CmdRef) (rq : Nat) :
    (s.atRing rq).openCmd ref = ((s.openCmd ref).1.atRing rq, (s.openCmd ref).2) := by
  simp -implicitDefEqProofs [State.openCmd]
  (repeat' split) <;> simp_all -implicitDefEqProofs

@[simp] theorem State.atRing_logErase (s : State) (rq : Nat) : (s.atRing rq).logErase = (s.logErase.1.atRing rq, s.logErase.2) := by
  simp -implicitDefEqProofs [State.logErase]
  (repeat' split) <;> simp_all -implicitDefEqProofs

@[simp] theorem State.atRing_secCtrl (s : State) (genId openIt logErase : Bool) (code : Nat) (ref : CmdRef) (rq : Nat) :
    (s.atRing rq).secCtrl genId openIt logErase code ref =
      ((s.secCtrl genId openIt logErase code ref).1.atRing rq, (s.secCtrl genId openIt logErase code ref).2) := by
  unfold State.secCtrl
  (repeat' split) <;> simp -implicitDefEqProofs

@[simp] theorem State.atRing_debugHalt (s : State) (rq : Nat) : (s.atRing rq).debugHalt = s.debugHalt.atRing rq := by
  simp -implicitDefEqProofs [State.debugHalt]

@[simp] theorem State.atRing_stepCopy (s : State) (l : Nat) (c : Fin 2) (rq : Nat) :
    (s.atRing rq).stepCopy l c = Except.map (State.atRing · rq) (s.stepCopy l c) := by
  unfold State.stepCopy
  simp -implicitDefEqProofs only [State.atRing_activeUnit, State.atRing_lane, State.atRing_retire]
  split
  · rfl
  · split
    · rfl
    · split
      · rfl
      · cases s.retire _ _ <;> rfl

@[simp] theorem State.atRing_dropStepPosts (s : State) (l : Nat) (rq : Nat) : (s.atRing rq).dropStepPosts l = (s.dropStepPosts l).atRing rq := by
  simp -implicitDefEqProofs [State.dropStepPosts]

@[simp] theorem State.atRing_debugStep (s : State) (rq : Nat) : (s.atRing rq).debugStep = Except.map (State.atRing · rq) s.debugStep := by
  unfold State.debugStep
  simp -implicitDefEqProofs only [State.atRing_debugHalted, State.atRing_debugLane, State.atRing_stepCopy]
  split
  · rfl
  · cases s.stepCopy s.debugLane 0 with
    | error f => rfl
    | ok s1 =>
      simp -implicitDefEqProofs only [except_map_ok, State.atRing_stepCopy]
      cases s1.stepCopy s.debugLane 1 with
      | error f => rfl
      | ok s2 => simp -implicitDefEqProofs only [except_map_ok, State.atRing_dropStepPosts]

@[simp] theorem State.atRing_debugResume (s : State) (rq : Nat) : (s.atRing rq).debugResume = s.debugResume.atRing rq := by
  simp -implicitDefEqProofs [State.debugResume]

@[simp] theorem State.atRing_secDebug (s : State) (halt step resume : Bool) (rq : Nat) :
    (s.atRing rq).secDebug halt step resume = Except.map (State.atRing · rq) (s.secDebug halt step resume) := by
  unfold State.secDebug
  have begun : (if halt then (s.atRing rq).showDebug.debugHalt else (s.atRing rq).showDebug) =
      (if halt then s.showDebug.debugHalt else s.showDebug).atRing rq := by simp -implicitDefEqProofs
  dsimp only
  rw [begun]
  generalize (if halt then s.showDebug.debugHalt else s.showDebug) = t
  have stepped : (if step then (t.atRing rq).debugStep else .ok (t.atRing rq)) =
      Except.map (State.atRing · rq) (if step then t.debugStep else .ok t) := by cases step <;> simp -implicitDefEqProofs
  rw [stepped]
  cases (if step then t.debugStep else .ok t) with
  | error f => rfl
  | ok u => simp -implicitDefEqProofs

@[simp] theorem State.atRing_laneMemWrite (s : State) (param off len data : Nat) (rq : Nat) :
    (s.atRing rq).laneMemWrite param off len data = (s.laneMemWrite param off len data).atRing rq := by
  simp -implicitDefEqProofs [State.laneMemWrite]

@[simp] theorem State.atRing_attest (s : State) (nonce hostAddr : Nat) (rq : Nat) :
    (s.atRing rq).attest nonce hostAddr = ((s.attest nonce hostAddr).1.atRing rq, (s.attest nonce hostAddr).2) := by
  simp -implicitDefEqProofs [State.attest]
  (repeat' split) <;> simp_all -implicitDefEqProofs

/-! ### Operations of ObjWrite -/

@[simp] theorem okWrite_atRing (s : State) (rq : Nat) : okWrite (s.atRing rq) = Except.map (fun x => (x.1.atRing rq, x.2)) (okWrite s) := by
  rfl

@[simp] theorem State.atRing_zeroFlds (s : State) (inst : Nat) (fs : List Fld) (rq : Nat) :
    (s.atRing rq).zeroFlds inst fs = (s.zeroFlds inst fs).atRing rq := by
  simp -implicitDefEqProofs [State.zeroFlds]

@[simp] theorem State.atRing_slackClear (s : State) (w : Wr) (rq : Nat) : (s.atRing rq).slackClear w = (s.slackClear w).atRing rq := by
  simp -implicitDefEqProofs [State.slackClear]

@[simp] theorem State.atRing_bankSwap (s : State) (rq : Nat) : (s.atRing rq).bankSwap = s.bankSwap.atRing rq := by
  simp -implicitDefEqProofs [State.bankSwap]

@[simp] theorem State.atRing_pokeBank (s : State) (u l : Nat) (bankB : Bool) (a : Nat) (v : Word24) (rq : Nat) :
    (s.atRing rq).pokeBank u l bankB a v = (s.pokeBank u l bankB a v).atRing rq := by
  simp -implicitDefEqProofs [State.pokeBank]

@[simp] theorem State.atRing_coefWrite (s : State) (w : Wr) (bankB : Bool) (rq : Nat) :
    (s.atRing rq).coefWrite w bankB = ((s.coefWrite w bankB).1.atRing rq, (s.coefWrite w bankB).2) := by
  simp -implicitDefEqProofs [State.coefWrite]
  (repeat' split) <;> simp_all -implicitDefEqProofs

@[simp] theorem State.atRing_fltCfg (s : State) (w : Wr) (rq : Nat) : (s.atRing rq).fltCfg w = (s.fltCfg w).atRing rq := by
  simp -implicitDefEqProofs [State.fltCfg]

@[simp] theorem State.atRing_keepSrc (s : State) (w : Wr) (rq : Nat) : (s.atRing rq).keepSrc w = (s.keepSrc w).atRing rq := by
  simp -implicitDefEqProofs [State.keepSrc]

@[simp] theorem State.atRing_fltSrc (s : State) (w : Wr) (rq : Nat) : (s.atRing rq).fltSrc w = ((s.fltSrc w).1.atRing rq, (s.fltSrc w).2) := by
  simp -implicitDefEqProofs [State.fltSrc]
  (repeat' split) <;> simp_all -implicitDefEqProofs

@[simp] theorem State.atRing_forced (s : State) (k : Nat) (rq : Nat) : (s.atRing rq).forced k = s.forced k := by
  simp -implicitDefEqProofs [State.forced]

@[simp] theorem State.atRing_force (s : State) (w : Wr) (rq : Nat) : (s.atRing rq).force w = ((s.force w).1.atRing rq, (s.force w).2) := by
  unfold State.force
  simp -implicitDefEqProofs only [State.atRing_applyRw, Wr.newFld_atRing, State.atRing_forced, State.atRing_now]
  split
  · rfl
  · refine Prod.ext (foldl_atRing (fun t k => ?_) _ _) (Eq.refl done)
    (repeat' split) <;> simp -implicitDefEqProofs

@[simp] theorem State.atRing_canCfg (s : State) (w : Wr) (rq : Nat) : (s.atRing rq).canCfg w = (s.canCfg w).atRing rq := by
  simp -implicitDefEqProofs [State.canCfg]

@[simp] theorem State.atRing_fbCtrlWrite (s : State) (w : Wr) (rq : Nat) :
    (s.atRing rq).fbCtrlWrite w = Except.map (fun x => (x.1.atRing rq, x.2)) (s.fbCtrlWrite w) := by
  unfold State.fbCtrlWrite
  simp -implicitDefEqProofs only [State.atRing_applyRw, State.atRing_fld, State.atRing_fbCtrl]
  generalize (s.applyRw w).fbCtrl _ _ _ _ _ = x
  obtain ⟨o, t⟩ := x
  cases o with
  | some o => rfl
  | none =>
    dsimp only
    split
    · rfl
    · rw [okWrite_atRing]

@[simp] theorem State.atRing_exportWrite (s : State) (w : Wr) (rq : Nat) :
    (s.atRing rq).exportWrite w = Except.map (fun x => (x.1.atRing rq, x.2)) (s.exportWrite w) := by
  simp -implicitDefEqProofs [State.exportWrite]
  (repeat' split) <;> simp_all -implicitDefEqProofs

@[simp] theorem State.atRing_replayWrite (s : State) (w : Wr) (rq : Nat) :
    (s.atRing rq).replayWrite w = ((s.replayWrite w).1.atRing rq, (s.replayWrite w).2) := by
  simp -implicitDefEqProofs [State.replayWrite]
  (repeat' split) <;> simp_all -implicitDefEqProofs

@[simp] theorem State.atRing_survCtrl (s : State) (unfreeze clr : Bool) (rq : Nat) :
    (s.atRing rq).survCtrl unfreeze clr = (s.survCtrl unfreeze clr).atRing rq := by
  simp -implicitDefEqProofs [State.survCtrl]

@[simp] theorem ite_except_map {ε α β : Type} {c : Prop} [Decidable c] (f : α → β) (a b : Except ε α) :
    (if c then Except.map f a else Except.map f b) = Except.map f (if c then a else b) := (apply_ite (Except.map f) c a b).symm

@[simp] theorem State.atRing_objEffect (s : State) (w : Wr) (param : Nat) (ref : CmdRef) (lands : Nat) (rq : Nat) :
    (s.atRing rq).objEffect w param ref lands = Except.map (fun x => (x.1.atRing rq, x.2)) (s.objEffect w param ref lands) := by
  unfold State.objEffect
  simp -implicitDefEqProofs
  generalize w.obj = o
  split
  case h_1 => split <;> simp -implicitDefEqProofs
  case h_24 => split <;> simp -implicitDefEqProofs
  case h_41 => cases (s.applyRw w).secDebug _ _ _ <;> simp -implicitDefEqProofs
  all_goals simp -implicitDefEqProofs

@[simp] theorem State.atRing_objWrite (s : State) (w : Wr) (param : Nat) (ref : CmdRef) (lands : Nat) (rq : Nat) :
    (s.atRing rq).objWrite w param ref lands = Except.map (fun x => (x.1.atRing rq, x.2)) (s.objWrite w param ref lands) := by
  unfold State.objWrite
  simp -implicitDefEqProofs
  (repeat' split) <;> simp_all -implicitDefEqProofs

@[simp] theorem State.atRing_objRead_ (s : State) (o : Obj) (inst off len param : Nat) (rq : Nat) :
    (s.atRing rq).objRead_ o inst off len param = s.objRead_ o inst off len param := by
  simp -implicitDefEqProofs [State.objRead_]

/-! ### Operations of Commands -/

@[simp] theorem State.atRing_ringIndex (s : State) (r i : Nat) (rq : Nat) : (s.atRing rq).ringIndex r i = s.ringIndex r i := by
  simp -implicitDefEqProofs [State.ringIndex]

@[simp] theorem State.atRing_abortTarget (s : State) (param : Nat) (rq : Nat) : (s.atRing rq).abortTarget param = s.abortTarget param := by
  simp -implicitDefEqProofs [State.abortTarget]

@[simp] theorem State.atRing_unfetched (s : State) (t : CmdRef) (rq : Nat) : (s.atRing rq).unfetched t = s.unfetched t := by
  simp -implicitDefEqProofs [State.unfetched]

@[simp] theorem State.atRing_discarded (s : State) (t : CmdRef) (rq : Nat) : (s.atRing rq).discarded t = s.discarded t := by
  simp -implicitDefEqProofs [State.discarded]

@[simp] theorem State.atRing_mapCmd (s : State) (t : CmdRef) (f : Cmd → Cmd) (rq : Nat) :
    (s.atRing rq).mapCmd t f = (s.mapCmd t f).atRing rq := by
  simp -implicitDefEqProofs [State.mapCmd]

@[simp] theorem State.atRing_stopTarget (s : State) (op : Nat) (t self : CmdRef) (rq : Nat) :
    (s.atRing rq).stopTarget op t self = (s.stopTarget op t self).map (State.atRing · rq) := by
  unfold State.stopTarget
  split <;> simp -implicitDefEqProofs only [State.atRing_abortMotion, State.atRing_abortCaravan, State.atRing_latchOwned, State.atRing_abortLatch,
    State.atRing_cmpOwned, State.atRing_disarmCmp, State.atRing_canAbort, Option.map_map, Option.map_none, Function.comp_def]

@[simp] theorem State.atRing_abort (s : State) (t self : CmdRef) (rq : Nat) :
    (s.atRing rq).abort t self = ((s.abort t self).1.atRing rq, (s.abort t self).2) := by
  unfold State.abort
  simp -implicitDefEqProofs
  (repeat' split) <;> simp_all -implicitDefEqProofs

@[simp] theorem State.atRing_readCmd (s : State) (d : Desc) (o : Obj) (i : Nat) (rq : Nat) :
    (s.atRing rq).readCmd d o i = ((s.readCmd d o i).1.atRing rq, (s.readCmd d o i).2) := by
  unfold State.readCmd
  simp -implicitDefEqProofs
  (repeat' split) <;> simp_all -implicitDefEqProofs

theorem State.atRing_withObj (s : State) (id : Nat) {f g : Obj → Nat → Applied} {rq : Nat}
    (h : ∀ o i, f o i = Except.map (fun x => (x.1.atRing rq, x.2)) (g o i)) :
    (s.atRing rq).withObj id f = Except.map (fun x => (x.1.atRing rq, x.2)) (s.withObj id g) := by
  unfold State.withObj
  split
  · rfl
  · split
    · rfl
    · exact h _ _

@[simp] theorem State.atRing_effect (s : State) (c : Cmd) (lands : Nat) (rq : Nat) :
    (s.atRing rq).effect c lands = Except.map (fun x => (x.1.atRing rq, x.2)) (s.effect c lands) := by
  unfold State.effect
  dsimp only
  generalize c.desc.opcode = op
  split
  case h_1 => simp -implicitDefEqProofs
  case h_4 => simp -implicitDefEqProofs
  case h_21 => simp -implicitDefEqProofs
  all_goals
    refine State.atRing_withObj s _ fun o i => ?_
    simp -implicitDefEqProofs [atOnce]
  split <;> rfl

@[simp] theorem State.atRing_noteApplied (s : State) (c : Cmd) (rq : Nat) : (s.atRing rq).noteApplied c = (s.noteApplied c).atRing rq := by
  simp -implicitDefEqProofs [State.noteApplied]

@[simp] theorem State.atRing_apply (s : State) (c : Cmd) (lands : Nat) (rq : Nat) :
    (s.atRing rq).apply c lands = Except.map (State.atRing · rq) (s.apply c lands) := by
  unfold State.apply
  simp -implicitDefEqProofs
  generalize State.noteApplied _ c = t
  cases c.withdrawn with
  | some det => rfl
  | none =>
    cases t.effect c lands with
    | error f => rfl
    | ok x =>
      obtain ⟨u, o⟩ := x
      cases o <;> simp -implicitDefEqProofs

@[simp] theorem State.atRing_roomFor (s : State) (c : Cmd) (rq : Nat) : (s.atRing rq).roomFor c = s.roomFor c := by
  simp -implicitDefEqProofs [State.roomFor]

@[simp] theorem State.atRing_chainRoom (s : State) (k0 : List Cmd) (rq : Nat) : (s.atRing rq).chainRoom k0 = s.chainRoom k0 := by
  induction k0 generalizing s with
  | nil => rfl
  | cons c cs ih =>
    cases cs with
    | nil => simp -implicitDefEqProofs [State.chainRoom]
    | cons d ds =>
      simp -implicitDefEqProofs only [State.chainRoom, State.atRing_roomFor, State.atRing_apply]
      cases s.apply c 0 with
      | error f => rfl
      | ok t => simp -implicitDefEqProofs only [except_map_ok, ih]

@[simp] theorem State.atRing_waiting (s : State) (r rq : Nat) : (s.atRing rq).waiting r = s.waiting r := rfl

/-- What a ring has due does not depend on the ring the step has come to. -/
@[simp] theorem State.atRing_dueChain (s : State) (r t rq : Nat) : (s.atRing rq).dueChain r t = s.dueChain r t := by
  simp -implicitDefEqProofs only [State.dueChain, State.atRing_waiting, State.atRing_chainRoom]

theorem State.atRing_atRing (s : State) (r rq : Nat) : (s.atRing rq).atRing r = s.atRing r := by
  simp -implicitDefEqProofs only [State.atRing_eq, PeriodSt.atRing, Option.map_map, Function.comp_def]

end Sys2Proof.Machine
end

section
/-!
A descriptor at its application (R75, R81, R89, R91): what the hub holds once it has fetched and validated it, and the state its action
starts from. Every statement about a descriptor command goes through `runDesc_of_effect`.
-/

set_option Elab.async false

namespace Sys2Proof.Machine

/-! ### Objects that stay -/

theorem SameObjs.refl (os : List Obj) (s : State) : SameObjs os s s := fun _ _ _ _ _ _ => rfl

theorem SameObjs.trans {os : List Obj} {s t u : State} (h : SameObjs os s t) (h' : SameObjs os t u) : SameObjs os s u :=
  fun o i e ho hi he => (h' o i e ho hi he).trans (h o i e ho hi he)

theorem SameObjs.mono {os os' : List Obj} {s t : State} (h : SameObjs os s t) (sub : os ⊆ os') : SameObjs os' s t :=
  fun o i e ho hi he => h o i e (fun m => ho (sub m)) hi he

theorem SameObjs.of_objs {s t : State} (h : t.objs = s.objs) (os : List Obj) : SameObjs os s t := by
  intro o i e _ _ _
  simp only [State.obj, h]

theorem SameObjs.fld {os : List Obj} {s t : State} (h : SameObjs os s t) {f : Fld} (hf : f.obj ∉ os) {i : Nat} (hi : i < 256) :
    t.fld f i = s.fld f i := by
  simp only [State.fld, h f.obj i 0 hf hi (by decide)]

theorem SameObjs.bit {os : List Obj} {s t : State} (h : SameObjs os s t) {f : Fld} (hf : f.obj ∉ os) {i : Nat} (hi : i < 256) :
    t.bit f i = s.bit f i := by
  simp only [State.bit, h.fld hf hi]

theorem State.setBit_sameObjs (s : State) (f : Fld) {i : Nat} (b : Bool) (hi : i < 256) : SameObjs [f.obj] s (s.setBit f b i) :=
  s.setFld_sameObjs f _ hi

theorem State.setHead_sameObjs (s : State) {r : Nat} (p : Pos) (hr : r < 256) : SameObjs [.hifRingState] s (s.setHead r p) :=
  (s.setFld_sameObjs F.HIF_RING_STATE_HEAD p.1 hr).trans (State.setBit_sameObjs _ F.HIF_RING_STATE_HEAD_PHASE p.2 hr)

theorem State.noteApplied_sameObjs (s : State) {c : Cmd} (hr : c.ring < 256) : SameObjs [.hifRingApplied] s (s.noteApplied c) :=
  ((s.setFld_sameObjs F.HIF_RING_APPLIED_NEXT _ hr).trans (State.setBit_sameObjs _ F.HIF_RING_APPLIED_NEXT_PHASE _ hr)).trans
    (State.setBit_sameObjs _ F.HIF_RING_APPLIED_VALID _ hr)

@[simp] theorem State.setHead_host (s : State) (r : Nat) (p : Pos) : (s.setHead r p).host = s.host := rfl

@[simp] theorem State.noteApplied_host (s : State) (c : Cmd) : (s.noteApplied c).host = s.host := rfl

/-! ### References -/

theorem Cmd.is_iff {c : Cmd} {ref : CmdRef} : c.is ref = true ↔ c.ring = ref.1 ∧ c.index = ref.2.1 ∧ c.phase = ref.2.2 := by
  simp [Cmd.is, and_assoc]

theorem State.ringIndex_mod (s : State) (r : Nat) {i : Nat} (hi : i < 4096) : s.ringIndex r i % 2 ^ 12 = i := by
  simp only [State.ringIndex]
  omega

/-- The command the hub holds once it has fetched and validated a descriptor. -/
def State.heldAt (s : State) (r index : Nat) (phase : Bool) (d : Desc) (host : Nat) : Cmd :=
  { ring := r, index := s.ringIndex r index, phase := phase, desc := d, stage := .valid, validAt := 0, data := descData d host }

/-- The same for the descriptor of a source. -/
def State.held (s : State) (src : Src) (d : Desc) (host : Nat := 0) : Cmd := s.heldAt src.ring.val src.index.val src.phase d host

/-! ### Nothing that ends stays to be applied -/

/-- No command of a reference waits for its application. -/
def noneAwaits (ref : CmdRef) (cs : List Cmd) : Prop := ∀ c ∈ cs, (c.is ref && c.stage == .valid) = false

theorem noneAwaits_endCmd {ref : CmdRef} {cs : List Cmd} (h : noneAwaits ref cs) (ref' : CmdRef) (o : Result) (need : Nat) :
    noneAwaits ref (cs.map (endCmd ref' o need)) := by
  intro c hc
  obtain ⟨x, hx, rfl⟩ := List.mem_map.mp hc
  have hx := h x hx
  simp only [endCmd]
  split
  · exact Bool.and_eq_false_iff.mpr (Or.inr rfl)
  · split
    · exact hx
    · exact hx

theorem dropFirst_subset (r : Nat) (cs : List Cmd) : dropFirst r cs ⊆ cs := by
  induction cs with
  | nil => exact fun _ h => h
  | cons c cs ih =>
    simp only [dropFirst]
    split
    · exact List.subset_cons_self c cs
    · exact List.cons_subset_cons c ih

@[simp] theorem State.hostWrite_cmds (s : State) (addr len data : Nat) : (s.hostWrite addr len data).host.cmds = s.host.cmds := by
  unfold State.hostWrite
  split <;> rfl

@[simp] theorem State.sendMessage_cmds (s : State) (v : Nat) : (s.sendMessage v).host.cmds = s.host.cmds := State.hostWrite_cmds ..

@[simp] theorem State.signalCq_cmds (s : State) (m : Nat) : (s.signalCq m).host.cmds = s.host.cmds := by
  unfold State.signalCq
  dsimp only
  split
  · exact State.sendMessage_cmds ..
  · rfl

@[simp] theorem State.putEntry_cmds (s : State) (m ph data : Nat) (now : Bool) : (s.putEntry m ph data now).host.cmds = s.host.cmds := by
  unfold State.putEntry
  extract_lets t s1 s2 q s3
  have written : s3.host.cmds = s.host.cmds := State.hostWrite_cmds ..
  split
  · exact (State.signalCq_cmds ..).trans written
  · exact written

/-- What a completion's status leaves on its ring (R85, R94). -/
def State.haltedBy (s : State) (c : Cmd) (o : Result) : State :=
  if 0x80 ≤ o.status then
    ((s.setBit F.HIF_RING_STATE_HALTED true c.ring).setFld F.HIF_RING_STATE_HALT_INDEX c.index c.ring).setBit
      F.HIF_RING_STATE_HALT_PHASE c.phase c.ring
  else s

@[simp] theorem State.haltedBy_host (s : State) (c : Cmd) (o : Result) : (s.haltedBy c o).host = s.host := by
  unfold State.haltedBy
  split
  · rw [State.setBit_host, State.setFld_host, State.setBit_host]
  · rfl

theorem State.putCompletion_eq (s : State) (c : Cmd) (o : Result) : s.putCompletion c o =
    (s.putEntry (s.ringCq c.ring) 15 (completionWord c o) (c.desc.irqNow || decide (0x80 ≤ o.status))).haltedBy c o := rfl

@[simp] theorem State.putCompletion_cmds (s : State) (c : Cmd) (o : Result) : (s.putCompletion c o).host.cmds = s.host.cmds := by
  rw [State.putCompletion_eq, State.haltedBy_host, State.putEntry_cmds]

theorem State.flushN_cmds_subset (s : State) (k : Nat) : (s.flushN k).host.cmds ⊆ s.host.cmds := by
  induction k generalizing s with
  | zero => exact fun _ h => h
  | succ k ih =>
    unfold State.flushN
    split
    · exact fun _ h => h
    · split
      · exact fun _ h => h
      · exact fun x hx => dropFirst_subset _ _ (State.putCompletion_cmds _ _ _ ▸ ih _ hx)

theorem State.flushAll_cmds_subset (s : State) : s.flushAll.host.cmds ⊆ s.host.cmds := by
  unfold State.flushAll
  split
  · exact s.flushN_cmds_subset _
  · exact fun _ h => h

theorem State.finishCmd_noneAwaits {s : State} {ref : CmdRef} (h : noneAwaits ref s.host.cmds) (ref' : CmdRef) (o : Result) (need : Nat) :
    noneAwaits ref (s.finishCmd ref' o need).host.cmds := by
  unfold State.finishCmd
  dsimp only
  split
  · exact noneAwaits_endCmd h ref' o need
  · exact fun c hc => noneAwaits_endCmd h ref' o need c (State.flushAll_cmds_subset _ hc)

theorem State.failDesc_noneAwaits {s : State} {ref : CmdRef} (h : noneAwaits ref s.host.cmds) (c : Cmd) (before after : List Cmd) (o : Result) :
    noneAwaits ref (s.failDesc c before after o).host.cmds := by
  have flushed : ∀ (l : List Cmd) (u : State), noneAwaits ref u.host.cmds → noneAwaits ref
      (l.foldl (fun s x => s.finishCmd (x.ring, x.index, x.phase) { status := 0x09, detail := 0 } s.sealHere) u).host.cmds := by
    intro l
    induction l with
    | nil => exact fun _ hu => hu
    | cons x xs ih => exact fun u hu => ih _ (State.finishCmd_noneAwaits hu _ _ _)
  have fewer : noneAwaits ref (s.host.cmds.filter fun x => !after.any fun y => y.is (x.ring, x.index, x.phase)) :=
    fun x hx => h x (List.mem_of_mem_filter hx)
  exact fun x hx => State.finishCmd_noneAwaits (flushed _ _ fewer) _ o 0 x (State.flushAll_cmds_subset _ hx)

/-! ### The descriptor fetched and validated -/

/-- The command the hub has fetched and not yet validated. -/
def State.fetchedAt (s : State) (r index : Nat) (phase : Bool) (d : Desc) (withdrawn : Option Nat) : Cmd :=
  { ring := r, index := s.ringIndex r index, phase := phase, desc := d, withdrawn := withdrawn }

section
variable {s : State} {r index host : Nat} {phase : Bool} {d : Desc}

theorem State.fetch_of_mayFetch (may : s.mayFetch r = true) (head : s.head r = (index, phase)) :
    s.fetch r d = { (s.setHead r (posNext (s.ringSize r) (index, phase))) with
      host := { s.host with
        cmds := s.host.cmds ++ [s.fetchedAt r index phase d ((s.host.early.find? fun e => e.1 == s.refAt r index phase).map (·.2))]
        early := s.host.early.filter fun e => e.1 != s.refAt r index phase
        reads := s.host.reads ++ [(s.fld F.HIF_RING_BASE_ADDR r + 64 * index, 64)] } } := by
  simp only [State.fetch, may, head, Bool.not_true, Bool.false_eq_true, if_false]
  rfl

theorem State.atHead_iff : s.atHead r index phase = true ↔ s.mayFetch r = true ∧ s.head r = (index, phase) ∧
    ∀ c ∈ s.host.cmds, c.ring = r → c.stage = .fetched → c.flush = true := by
  simp [State.atHead, and_assoc]

theorem State.validate_of_oldest {before after : List Cmd} {c : Cmd} {at_ : Nat}
    (order : s.host.cmds.filter (fun c => c.ring == r && !c.flush) = before ++ c :: after) (passed : ∀ x ∈ before, x.stage ≠ .fetched)
    (fetched : c.stage = .fetched) :
    s.validate r host none none at_ = match s.descError c before none none with
      | some o => .ok (s.failDesc c before after o)
      | none => if descReserved c.desc r then .error .reservedField
        else .ok ((if descReads c.desc then s.readBuffer c.desc else s).mapCmd (c.ring, c.index, c.phase)
          fun x => { x with stage := .valid, validAt := at_, data := descData c.desc host }) := by
  have first : (before ++ c :: after).takeWhile (·.stage != .fetched) = before := by
    rw [List.takeWhile_append_of_pos (by simpa using passed)]
    simp [fetched]
  simp only [State.validate, order, first, List.drop_left]
  cases error : s.descError c before none none with
  | some o => simp
  | none => simp

/-- What the hub reads of host memory for a descriptor (R76, R77). -/
def State.fetchReads (s : State) (r index : Nat) (d : Desc) : List (Nat × Nat) :=
  s.host.reads ++ [(s.fld F.HIF_RING_BASE_ADDR r + 64 * index, 64)] ++ if descReads d then [(d.hostAddr, d.length)] else []

/-- The withdrawal that waits for a descriptor (R97). -/
def State.withdrawal (s : State) (ref : CmdRef) : Option Nat := (s.host.early.find? fun e => e.1 == ref).map (·.2)

theorem mapCmd_append {cs : List Cmd} {c : Cmd} {ref : CmdRef} (new : ∀ x ∈ cs, x.is ref = false) (is : c.is ref = true) (f : Cmd → Cmd) :
    ((cs ++ [c]).map fun x => if x.is ref then f x else x) = cs ++ [f c] := by
  have same : (cs.map fun x => if x.is ref then f x else x) = cs :=
    (List.map_congr_left fun x hx => by simp [new x hx]).trans (List.map_id _)
  rw [List.map_append, same]
  simp [is]

theorem State.descBadLength_of_checked {c : Cmd} {before : List Cmd} {descErr dataErr : Option Nat}
    (checked : s.descError c before descErr dataErr = none) : descBadLength c.desc = false := by
  unfold State.descError at checked
  dsimp only at checked
  split at checked
  · exact absurd checked (by simp)
  · cases bad : descBadLength c.desc
    · rfl
    · rw [bad] at checked
      split at checked
      · exact absurd checked (by simp)
      · split at checked <;> simp at checked

/-- A descriptor that awaits its application after it was fetched and validated passed every check (R76, R81). -/
theorem State.join_of_awaits (head : s.atHead r index phase = true) (clear : ∀ c ∈ s.host.cmds, c.ring = r → c.stage = .applied)
    (new : ∀ c ∈ s.host.cmds, c.is (s.refAt r index phase) = false) (awaits : (s.joined r d host).awaits (s.refAt r index phase) = true) :
    s.join r d host = .ok { (s.setHead r (posNext (s.ringSize r) (index, phase))) with
      host := { s.host with
        cmds := s.host.cmds ++ [{ s.heldAt r index phase d host with withdrawn := s.withdrawal (s.refAt r index phase) }]
        early := s.host.early.filter fun e => e.1 != s.refAt r index phase
        reads := s.fetchReads r index d } } ∧ descBadLength d = false := by
  obtain ⟨may, at_, unfetched⟩ := State.atHead_iff.mp head
  have fetch := State.fetch_of_mayFetch (d := d) may at_
  generalize found : (s.fetchedAt r index phase d ((s.host.early.find? fun e => e.1 == s.refAt r index phase).map (·.2))) = c at fetch
  have order : (s.fetch r d).host.cmds.filter (fun c => c.ring == r && !c.flush) =
      s.host.cmds.filter (fun c => c.ring == r && !c.flush) ++ c :: [] := by
    rw [fetch, List.filter_append, ← found]
    simp [State.fetchedAt]
  have passed : ∀ x ∈ s.host.cmds.filter (fun c => c.ring == r && !c.flush), x.stage ≠ .fetched := by
    intro x hx
    obtain ⟨hx, mine⟩ := List.mem_filter.mp hx
    rw [clear x hx (by simp_all)]
    decide
  have validate := State.validate_of_oldest (host := host) (at_ := 0) order passed (by rw [← found]; rfl)
  have joins : s.join r d host = (s.fetch r d).validate r host none none 0 := rfl
  rw [← joins] at validate
  have none_ : noneAwaits (s.refAt r index phase) (s.fetch r d).host.cmds := by
    intro x hx
    rw [fetch] at hx
    rcases List.mem_append.mp hx with old | last
    · rw [new x old, Bool.false_and]
    · rw [List.mem_singleton.mp last, ← found]
      exact Bool.and_eq_false_iff.mpr (Or.inr rfl)
  have waits : ∀ t : State, noneAwaits (s.refAt r index phase) t.host.cmds → t.awaits (s.refAt r index phase) = false := by
    intro t ht
    exact List.any_eq_false.mpr fun x hx => by rw [ht x hx]; decide
  have joined : s.joined r d host = match s.join r d host with | .ok t => t | .error _ => s := rfl
  cases error : (s.fetch r d).descError c (s.host.cmds.filter fun c => c.ring == r && !c.flush) none none with
  | some o =>
    rw [validate, error] at joined
    rw [joined, waits _ (State.failDesc_noneAwaits none_ _ _ _ _)] at awaits
    exact Bool.noConfusion awaits
  | none =>
    cases reserved : descReserved c.desc r with
    | true =>
      rw [validate, error] at joined
      simp only [reserved, if_true] at joined
      rw [joined, waits s fun x hx => by rw [new x hx, Bool.false_and]] at awaits
      exact Bool.noConfusion awaits
    | false =>
      have desc : c.desc = d := by rw [← found]; rfl
      refine ⟨?_, desc ▸ State.descBadLength_of_checked error⟩
      rw [validate, error]
      simp only [reserved, Bool.false_eq_true, if_false]
      have mapped := mapCmd_append new (c := c) (by rw [← found]; simp [Cmd.is, State.fetchedAt, State.refAt])
        fun x => { x with stage := .valid, validAt := 0, data := descData c.desc host }
      have place : (c.ring, c.index, c.phase) = s.refAt r index phase := by rw [← found]; rfl
      rw [place, fetch, desc]
      rw [desc] at mapped
      have kept : { c with desc := d, stage := .valid, validAt := 0, data := descData d host } =
          { s.heldAt r index phase d host with withdrawn := s.withdrawal (s.refAt r index phase) } := by rw [← found]; rfl
      rw [kept] at mapped
      cases reads : descReads d <;>
        simp -implicitDefEqProofs only [State.mapCmd, State.readBuffer, State.fetchReads, reads, mapped, if_true, if_false, Bool.false_eq_true,
          List.append_nil]

end

/-! ### A descriptor of a command ring at its application -/

/-- The state in which the hub holds a source's descriptor, fetched and validated. -/
def State.fetchedFor (s : State) (src : Src) (d : Desc) (host : Nat := 0) : State :=
  { (s.setHead src.ring.val (posNext (s.ringSize src.ring.val) (src.index.val, src.phase))) with
    host := { s.host with cmds := s.host.cmds ++ [s.held src d host], reads := s.fetchReads src.ring.val src.index.val d } }

section
variable {s : State} {src : Src} {d : Desc} {host : Nat}

/-- What `atApplication` says, taken apart. -/
structure AtApplication (s : State) (src : Src) (d : Desc) (host : Nat) : Prop where
  head : s.atHead src.ring.val src.index.val src.phase = true
  clear : ∀ c ∈ s.host.cmds, c.ring = src.ring.val → c.stage = .applied
  new : ∀ c ∈ s.host.cmds, c.is (s.refOf src) = false
  joins : s.join src.ring.val d host = .ok (s.fetchedFor src d host)
  room : (s.fetchedFor src d host).roomFor (s.held src d host) = true
  unchained : d.chain = false
  untimed : d.applyAtEn = false
  length : descBadLength d = false
  runs : s.boot.resetLow = false
  step : (s.fetchedFor src d host).stepAt src.ring.val = true

theorem State.waiting_nil_iff (s : State) (r : Nat) : s.waiting r = [] ↔ ∀ c ∈ s.host.cmds, c.ring = r → c.stage = .applied := by
  simp [State.waiting]

theorem State.fetchedFor_waiting (clear : ∀ c ∈ s.host.cmds, c.ring = src.ring.val → c.stage = .applied) :
    (s.fetchedFor src d host).waiting src.ring.val = [s.held src d host] := by
  have before : s.waiting src.ring.val = [] := (s.waiting_nil_iff _).mpr clear
  have split : (s.fetchedFor src d host).waiting src.ring.val = s.waiting src.ring.val ++ [s.held src d host] := by
    simp only [State.waiting, State.fetchedFor, List.filter_append]
    congr 1
    simp [State.held, State.heldAt]
  rw [split, before, List.nil_append]

theorem atApplication_iff (h : s.atApplication src d host = true) : AtApplication s src d host := by
  unfold State.atApplication at h
  extract_lets r ref t at h
  simp only [Bool.and_eq_true, Bool.not_eq_true', List.isEmpty_iff, List.all_eq_true, bne_iff_ne] at h
  obtain ⟨⟨⟨⟨⟨⟨⟨⟨⟨head, empty⟩, early⟩, awaits⟩, new⟩, room⟩, unchained⟩, untimed⟩, runs⟩, step⟩ := h
  have clear := (s.waiting_nil_iff r).mp empty
  have new : ∀ c ∈ s.host.cmds, c.is ref = false := fun c hc => by simpa using List.any_eq_false.mp new c hc
  have unwithdrawn : s.withdrawal ref = none := by
    rw [State.withdrawal, List.find?_eq_none.mpr fun e he => by simpa using early e he]
    rfl
  have kept : (s.host.early.filter fun e => e.1 != ref) = s.host.early := List.filter_eq_self.mpr fun e he => by simpa using early e he
  obtain ⟨joins, length⟩ := State.join_of_awaits head clear new awaits
  rw [show s.refAt src.ring.val src.index.val src.phase = ref from rfl, unwithdrawn, kept] at joins
  have joins : s.join src.ring.val d host = .ok (s.fetchedFor src d host) := joins
  have joined : t = s.fetchedFor src d host := by
    show State.joined s src.ring.val d host = _
    rw [State.joined, joins]
  rw [joined] at step room
  exact { head, clear, new, joins, unchained, untimed, length, runs, step
          room := room _ (by rw [State.fetchedFor_waiting clear]; exact List.mem_singleton_self _) }

/-! ### From its application to its end -/

theorem State.held_is (s : State) (src : Src) (d : Desc) (host : Nat) : (s.held src d host).is (s.refOf src) = true := by
  simp [Cmd.is, State.held, State.heldAt, State.refOf, State.refAt]

theorem State.find_held (new : ∀ c ∈ s.host.cmds, c.is (s.refOf src) = false) :
    (s.fetchedFor src d host).host.cmds.find? (·.is (s.refOf src)) = some (s.held src d host) := by
  simp only [State.fetchedFor, List.find?_append]
  rw [List.find?_eq_none.mpr fun c hc => by rw [new c hc]; decide]
  simp [s.held_is src d host]

/-- The state in which the descriptor's ring has come to its turn. -/
def State.turnOf (s : State) (src : Src) (d : Desc) (host : Nat := 0) : State :=
  if s.per.running then (s.fetchedFor src d host).atRing src.ring.val else s.fetchedFor src d host

theorem State.turnOf_host (s : State) (src : Src) (d : Desc) (host : Nat) : (s.turnOf src d host).host = (s.fetchedFor src d host).host := by
  unfold State.turnOf
  split <;> rfl

theorem State.turnOf_roomFor (s : State) (src : Src) (d : Desc) (host : Nat) (c : Cmd) :
    (s.turnOf src d host).roomFor c = (s.fetchedFor src d host).roomFor c := by
  unfold State.turnOf
  split
  · exact State.atRing_roomFor ..
  · rfl

theorem AtApplication.begun_eq (h : AtApplication s src d host) : s.begun src d host =
    ((s.turnOf src d host).mapCmd (s.refOf src) fun x =>
      { x with stage := .applied, appliedAt := if s.per.running then s.per.t0 else s.now
               appliedSeq := if s.per.running then s.per.seq else 0 }).noteApplied (s.held src d host) := by
  have joined : s.joined src.ring.val d host = s.fetchedFor src d host := by rw [State.joined, h.joins]
  unfold State.begun
  dsimp only
  rw [joined]
  rfl

/-- A command's state after its effect: its outcome is recorded where its action has ended. -/
def State.ended (t : State) (ref : CmdRef) (need : Nat) : Option Result → State
  | some o => t.finishCmd ref o need
  | none => t

theorem AtApplication.apply_eq (h : AtApplication s src d host) (lands : Nat) : (s.turnOf src d host).apply (s.held src d host) lands =
    match (s.begun src d host).effect (s.held src d host) lands with
    | .error f => .error f
    | .ok (t, o) => .ok (t.ended (s.refOf src) (s.begun src d host).sealHere o) := by
  have begun := h.begun_eq
  have per : (s.turnOf src d host).per.running = s.per.running ∧ (s.turnOf src d host).per.t0 = s.per.t0 ∧
      (s.turnOf src d host).per.seq = s.per.seq ∧ (s.turnOf src d host).now = s.now := by
    unfold State.turnOf
    split <;> exact ⟨rfl, rfl, rfl, rfl⟩
  obtain ⟨running, t0, seq, now⟩ := per
  unfold State.apply
  rw [running, t0, seq, now]
  rw [show ((s.held src d host).ring, (s.held src d host).index, (s.held src d host).phase) = s.refOf src from rfl]
  extract_lets ref at_ seq s1
  have at_begun : s1 = s.begun src d host := begun.symm
  rw [at_begun]
  clear_value s1
  have unwithdrawn : (s.held src d host).withdrawn = none := rfl
  rw [unwithdrawn]
  cases (s.begun src d host).effect (s.held src d host) lands with
  | error f => rfl
  | ok r => obtain ⟨t, o⟩ := r; cases o <;> rfl

theorem AtApplication.undeparted (h : AtApplication s src d host) : (s.per.departing.isSome && !s.per.running) = false := by
  cases running : s.per.running with
  | true => simp
  | false =>
    have step := h.step
    rw [State.stepAt, if_neg (by show ¬ s.per.running = true; simp [running])] at step
    simp only [State.applying, Bool.and_eq_true] at step
    obtain ⟨⟨_, departing⟩, _⟩ := step
    have departing : s.per.departing.isNone = true := departing
    simpa using departing

theorem AtApplication.applyChain_eq (h : AtApplication s src d host) (lands : Nat) :
    (s.turnOf src d host).applyChain lands [s.held src d host] =
    match (s.begun src d host).effect (s.held src d host) lands with
    | .error f => .error f
    | .ok (t, o) => .ok ((t.ended (s.refOf src) (s.begun src d host).sealHere o).enter (s.held src d host)) := by
  have same : (s.turnOf src d host).boot = s.boot ∧ (s.turnOf src d host).per.departing = s.per.departing ∧
      (s.turnOf src d host).per.running = s.per.running := by
    unfold State.turnOf
    split <;> exact ⟨rfl, rfl, rfl⟩
  obtain ⟨boot, departing, running⟩ := same
  have find : (s.turnOf src d host).host.cmds.find? (·.is (s.refOf src)) = some (s.held src d host) := by
    rw [State.turnOf_host, State.find_held h.new]
  unfold State.applyChain
  rw [boot, departing, running, h.runs, h.undeparted]
  rw [show ((s.held src d host).ring, (s.held src d host).index, (s.held src d host).phase) = s.refOf src from rfl, find]
  simp only [Bool.false_eq_true, if_false, Option.getD_some, h.apply_eq]
  cases (s.begun src d host).effect (s.held src d host) lands with
  | error f => rfl
  | ok r => rfl

theorem State.takeRing_of_nil {t : State} {r : Nat} (h : t.waiting r = []) (k : Nat) : t.takeRing r k = .ok t := by
  cases k with
  | zero => rfl
  | succ k => simp [State.takeRing, State.dueChain, h, chainAt]

theorem State.applyNow_of_nil {t : State} {r : Nat} (h : t.waiting r = []) (lands k : Nat) : t.applyNow r lands k = .ok t := by
  cases k with
  | zero => rfl
  | succ k => simp [State.applyNow, h, chainAt]

/-- The descriptor is all its ring has due (R78, R90). -/
theorem AtApplication.due (h : AtApplication s src d host) (t : Nat) :
    (s.turnOf src d host).dueChain src.ring.val t = some [s.held src d host] := by
  have waits : (s.turnOf src d host).waiting src.ring.val = [s.held src d host] := by
    rw [State.waiting, State.turnOf_host]
    exact State.fetchedFor_waiting h.clear
  have room : (s.turnOf src d host).chainRoom [s.held src d host] = true := by
    rw [State.chainRoom, State.turnOf_roomFor, h.room]
  have chain : chainAt [s.held src d host] = some [s.held src d host] := by
    simp [chainAt, State.held, State.heldAt, h.unchained]
  have tick : (s.held src d host).dueAt = 0 := by simp [Cmd.dueAt, State.held, State.heldAt, h.untimed]
  have inTime : (s.held src d host).inTime t = true := by simp [Cmd.inTime, State.held, State.heldAt]
  simp [State.dueChain, waits, chain, tick, inTime, room]

theorem State.takeRing_of_none {t : State} {r : Nat} (h : t.dueChain r t.per.t0 = none) (k : Nat) : t.takeRing r k = .ok t := by
  cases k with
  | zero => rfl
  | succ k => simp [State.takeRing, h]

/-- Rings that have nothing due leave the step to the ring that follows them (R89). -/
theorem State.takeRings_of_none {t : State} {qs : List Nat} (none_ : ∀ q ∈ qs, t.dueChain q t.per.t0 = none) (r : Nat) :
    t.takeRings (qs ++ [r]) = (t.atRing r).takeRing r 33 := by
  induction qs generalizing t with
  | nil =>
    simp only [List.nil_append, State.takeRings]
    cases (t.atRing r).takeRing r 33 <;> rfl
  | cons q qs ih =>
    have idle : (t.atRing q).takeRing q 33 = .ok (t.atRing q) :=
      State.takeRing_of_none ((State.atRing_dueChain ..).trans (none_ q (List.mem_cons_self ..))) 33
    simp only [List.cons_append, State.takeRings, idle]
    rw [ih fun x hx => (State.atRing_dueChain ..).trans (none_ x (List.mem_cons_of_mem _ hx)), State.atRing_atRing]

/-- A ring that may fetch is served, its completion ring takes an entry, and the hub writes host memory (R69, R75). -/
theorem State.mayFetch_imp {r : Nat} (h : s.mayFetch r = true) :
    s.served = true ∧ s.host.busMaster = true ∧ s.cqTakes (s.ringCq r) = true := by
  simp only [State.mayFetch, Bool.and_eq_true, decide_eq_true_eq] at h
  obtain ⟨⟨⟨⟨⟨⟨⟨⟨served, bus⟩, _⟩, _⟩, _⟩, _⟩, enabled⟩, room⟩, _⟩ := h
  exact ⟨served, bus, by simp only [State.cqTakes, enabled, Bool.true_and, decide_eq_true_eq]; omega⟩

theorem State.served_of_sameObjs {os : List Obj} {t : State} (h : SameObjs os s t) (status : Obj.hifStatus ∉ os) (fence : Obj.sysFence ∉ os) :
    t.served = s.served := by
  simp only [State.served, State.fenced, h.bit (f := F.HIF_STATUS_RINGS_READY) status (show 0 < 256 by decide),
    h.bit (f := F.SYS_FENCE_HOST) fence (show 0 < 256 by decide)]

theorem State.fetchedFor_sameObjs (s : State) (src : Src) (d : Desc) (host : Nat) :
    SameObjs [.hifRingState] s (s.fetchedFor src d host) := by
  have objs : (s.fetchedFor src d host).objs = (s.setHead src.ring.val (posNext (s.ringSize src.ring.val) (src.index.val, src.phase))).objs := rfl
  have ring : src.ring.val < 256 := Nat.lt_trans src.ring.isLt (by decide)
  exact (s.setHead_sameObjs _ ring).trans (SameObjs.of_objs objs _)

theorem AtApplication.served (h : AtApplication s src d host) : (s.fetchedFor src d host).served = true := by
  rw [State.served_of_sameObjs (s.fetchedFor_sameObjs src d host) (by decide) (by decide)]
  exact (State.mayFetch_imp (State.atHead_iff.mp h.head).1).1

/-- What the ring's turn goes on with once a chain of it is applied. -/
def State.goOn (running : Bool) (r lands : Nat) (t : State) : Except Fault State :=
  if running then t.takeRing r 32 else t.applyNow r lands 32

theorem State.goOn_of_nil {t : State} {r : Nat} (h : t.waiting r = []) (running : Bool) (lands : Nat) : t.goOn running r lands = .ok t := by
  cases running with
  | true => exact State.takeRing_of_nil h 32
  | false => exact State.applyNow_of_nil h lands 32

/-- In the open application step the descriptor's turn comes after the rings before it, which have nothing due (R89). -/
theorem AtApplication.reach_running (h : AtApplication s src d host) (running : s.per.running = true) (lands : Nat) :
    (s.fetchedFor src d host).reach src.ring.val lands =
      (s.turnOf src d host).applyChain 0 [s.held src d host] >>= fun t => t.takeRing src.ring.val 32 := by
  have turn : s.turnOf src d host = (s.fetchedFor src d host).atRing src.ring.val := by rw [State.turnOf, if_pos running]
  have step := h.step
  rw [State.stepAt, if_pos (show (s.fetchedFor src d host).per.running = true from running)] at step
  cases isOpen : (s.fetchedFor src d host).per.step with
  | none => rw [isOpen] at step; exact Bool.noConfusion step
  | some o =>
    rw [isOpen] at step
    simp only [Option.any_some, Bool.and_eq_true, decide_eq_true_eq, List.all_eq_true, Option.isNone_iff_eq_none] at step
    obtain ⟨⟨come, room⟩, idle⟩ := step
    have rings : List.range' o.ring (src.ring.val + 1 - o.ring) = List.range' o.ring (src.ring.val - o.ring) ++ [src.ring.val] := by
      rw [show src.ring.val + 1 - o.ring = src.ring.val - o.ring + 1 by omega, List.range'_1_concat,
        show o.ring + (src.ring.val - o.ring) = src.ring.val by omega]
    have take : (s.turnOf src d host).takeRing src.ring.val 33 =
        (s.turnOf src d host).applyChain 0 [s.held src d host] >>= fun t => t.takeRing src.ring.val 32 := by
      have open_ : (s.turnOf src d host).per.step.isSome = true := by rw [turn]; simp [State.atRing, isOpen]
      have space : (s.turnOf src d host).stepRoom = 32 - o.entries.length := by rw [turn]; simp [State.stepRoom, State.atRing, isOpen]
      simp only [State.takeRing, open_, if_true, h.due, space, List.length_singleton]
      rw [if_neg (by omega)]
      cases (s.turnOf src d host).applyChain 0 [s.held src d host] <;> rfl
    have up : (s.fetchedFor src d host).takeUpTo src.ring.val = (s.turnOf src d host).takeRing src.ring.val 33 := by
      simp only [State.takeUpTo, isOpen, h.served, if_true, rings]
      rw [State.takeRings_of_none idle, ← turn]
    have opened : (s.fetchedFor src d host).openFor = .ok (s.fetchedFor src d host) := by simp [State.openFor, isOpen]
    rw [State.reach, if_pos (show (s.fetchedFor src d host).per.running = true from running), opened]
    exact up.trans take

/-- In CONFIGURE the descriptor is applied at once (R91). -/
theorem AtApplication.reach_configure (h : AtApplication s src d host) (running : s.per.running = false) (lands : Nat) :
    (s.fetchedFor src d host).reach src.ring.val lands =
      (s.turnOf src d host).applyChain lands [s.held src d host] >>= fun t => t.applyNow src.ring.val lands 32 := by
  have turn : s.turnOf src d host = s.fetchedFor src d host := by rw [State.turnOf, if_neg (by simp [running])]
  have idle : ¬ (s.fetchedFor src d host).per.running = true := by
    show ¬ s.per.running = true
    simp [running]
  have step := h.step
  rw [State.stepAt, if_neg idle] at step
  have waits := State.fetchedFor_waiting (d := d) (host := host) h.clear
  have alone : chainAt [s.held src d host] = some [s.held src d host] := by simp [chainAt, State.held, State.heldAt, h.unchained]
  have tick : (s.held src d host).dueAt = 0 := by simp [Cmd.dueAt, State.held, State.heldAt, h.untimed]
  rw [State.reach, if_neg idle, State.applyNow, step, if_pos rfl, waits, alone, turn]
  simp only [tick, Nat.zero_le, State.chainRoom, h.room, and_self, if_true]
  cases (s.fetchedFor src d host).applyChain lands [s.held src d host] <;> rfl

theorem AtApplication.reach_eq (h : AtApplication s src d host) (lands : Nat) : (s.fetchedFor src d host).reach src.ring.val lands =
    (s.turnOf src d host).applyChain (if s.per.running then 0 else lands) [s.held src d host] >>=
      State.goOn s.per.running src.ring.val lands := by
  cases running : s.per.running with
  | true => exact h.reach_running running lands
  | false => exact h.reach_configure running lands

theorem AtApplication.runDesc_reach (h : AtApplication s src d host) (lands : Nat) :
    s.runDesc src d host lands = (s.fetchedFor src d host).reach src.ring.val lands := by
  have awaits : (s.fetchedFor src d host).awaits (s.refAt src.ring.val src.index.val src.phase) = true := by
    refine List.any_eq_true.mpr ⟨s.held src d host, List.mem_append_right _ (List.mem_singleton_self _), ?_⟩
    rw [show s.refAt src.ring.val src.index.val src.phase = s.refOf src from rfl, s.held_is src d host]
    rfl
  simp only [State.runDesc, h.head, Bool.not_true, Bool.false_eq_true, if_false, h.joins, awaits, if_true]

/-- A descriptor at its application ends with its effect (R75, R81, R84, R89, R91). -/
theorem AtApplication.runDesc_of_effect (h : AtApplication s src d host) (lands : Nat) {t : State} {o : Option Result}
    (effect : (s.begun src d host).effect (s.held src d host) (if s.per.running then 0 else lands) = .ok (t, o))
    (clear : (t.ended (s.refOf src) (s.begun src d host).sealHere o).waiting src.ring.val = []) :
    s.runDesc src d host lands = .ok ((t.ended (s.refOf src) (s.begun src d host).sealHere o).enter (s.held src d host)) := by
  rw [h.runDesc_reach, h.reach_eq, h.applyChain_eq, effect]
  exact State.goOn_of_nil (t := (t.ended (s.refOf src) (s.begun src d host).sealHere o).enter (s.held src d host)) clear _ lands

/-- An undefined use of a descriptor stops by its name. -/
theorem AtApplication.runDesc_of_error (h : AtApplication s src d host) (lands : Nat) {f : Fault}
    (effect : (s.begun src d host).effect (s.held src d host) (if s.per.running then 0 else lands) = .error f) :
    s.runDesc src d host lands = .error f := by
  rw [h.runDesc_reach, h.reach_eq, h.applyChain_eq, effect]
  rfl

/-- A descriptor that does not stand at HEAD of its ring changes nothing. -/
theorem State.runDesc_of_behind (behind : s.atHead src.ring.val src.index.val src.phase = false) (lands : Nat) :
    s.runDesc src d host lands = .ok s := by simp [State.runDesc, behind]

end

end Sys2Proof.Machine
end

section
/-!
The state a descriptor's action starts from, and the end of a command (R71, R84, R89): what they leave as it was, and what the hub then
holds of the descriptor.
-/

set_option Elab.async false

namespace Sys2Proof.Machine

section
variable {s : State} {src : Src} {d : Desc} {host : Nat}

/-! ### The state an action starts from -/

/-- The held command as its action begins. -/
def State.heldApplied (s : State) (src : Src) (d : Desc) (host : Nat := 0) : Cmd :=
  { s.held src d host with stage := .applied, appliedAt := if s.per.running then s.per.t0 else s.now
                           appliedSeq := if s.per.running then s.per.seq else 0 }

theorem AtApplication.turnOf_mapCmd (h : AtApplication s src d host) (f : Cmd → Cmd) : (s.turnOf src d host).mapCmd (s.refOf src) f =
    { s with objs := (s.turnOf src d host).objs
             host := { s.host with cmds := s.host.cmds ++ [f (s.held src d host)], reads := s.fetchReads src.ring.val src.index.val d }
             per := { s.per with step := (s.turnOf src d host).per.step } } := by
  have cmds := mapCmd_append h.new (s.held_is src d host) f
  unfold State.turnOf State.mapCmd
  split <;> rw [show (State.host _).cmds = s.host.cmds ++ [s.held src d host] from rfl, cmds] <;> rfl

/-- The action begins in the state before it but for what the hub shows and holds of the descriptor. -/
theorem AtApplication.begun_frame (h : AtApplication s src d host) : s.begun src d host =
    { s with objs := (s.begun src d host).objs
             host := { s.host with cmds := s.host.cmds ++ [s.heldApplied src d host], reads := s.fetchReads src.ring.val src.index.val d }
             per := { s.per with step := (s.begun src d host).per.step } } := by
  rw [h.begun_eq, h.turnOf_mapCmd]
  rfl

theorem AtApplication.ring_lt (_ : AtApplication s src d host) : src.ring.val < 256 := Nat.lt_trans src.ring.isLt (by decide)

theorem AtApplication.begun_sameObjs (h : AtApplication s src d host) : SameObjs [.hifRingApplied, .hifRingState] s (s.begun src d host) := by
  have turn : (s.turnOf src d host).objs = (s.fetchedFor src d host).objs := by unfold State.turnOf; split <;> rfl
  have fetched := (s.fetchedFor_sameObjs src d host).trans (SameObjs.of_objs turn _)
  rw [h.begun_eq, h.turnOf_mapCmd]
  have noted := State.noteApplied_sameObjs { s with
    objs := (s.turnOf src d host).objs
    host := { s.host with cmds := s.host.cmds ++ [s.heldApplied src d host], reads := s.fetchReads src.ring.val src.index.val d }
    per := { s.per with step := (s.turnOf src d host).per.step } } (c := s.held src d host) h.ring_lt
  exact ((fetched.trans (SameObjs.of_objs rfl _)).mono (by decide)).trans (noted.mono (by decide))

/-- `b` is the state a descriptor's action starts from, the descriptor being at its application. -/
structure Begun (s : State) (src : Src) (d : Desc) (host : Nat) (b : State) : Prop where
  eq : s.begun src d host = b
  here : AtApplication s src d host

theorem begun_of (h : s.atApplication src d host = true) : ∃ b, Begun s src d host b := ⟨_, rfl, atApplication_iff h⟩

section
variable {b : State}

theorem Begun.frame (h : Begun s src d host b) : b =
    { s with objs := b.objs
             host := { s.host with cmds := s.host.cmds ++ [s.heldApplied src d host], reads := s.fetchReads src.ring.val src.index.val d }
             per := { s.per with step := b.per.step } } := by
  obtain ⟨rfl, here⟩ := h
  exact here.begun_frame

theorem Begun.same (h : Begun s src d host b) : SameObjs [.hifRingApplied, .hifRingState] s b := by
  obtain ⟨rfl, here⟩ := h
  exact here.begun_sameObjs

theorem Begun.cmds (h : Begun s src d host b) : b.host.cmds = s.host.cmds ++ [s.heldApplied src d host] := by rw [h.frame]

theorem Begun.pending (h : Begun s src d host b) : b.pending = s.pending := by rw [h.frame]

theorem Begun.msgs (h : Begun s src d host b) : b.msgs = s.msgs := by rw [h.frame]

theorem Begun.boot (h : Begun s src d host b) : b.boot = s.boot := by rw [h.frame]

theorem Begun.time (h : Begun s src d host b) : b.time = s.time := by rw [h.frame]

theorem Begun.flt (h : Begun s src d host b) : b.flt = s.flt := by rw [h.frame]

theorem Begun.net (h : Begun s src d host b) : b.net = s.net := by rw [h.frame]

theorem Begun.groups (h : Begun s src d host b) : b.groups = s.groups := by rw [h.frame]

theorem Begun.lanes (h : Begun s src d host b) : b.lanes = s.lanes := by rw [h.frame]

theorem Begun.red (h : Begun s src d host b) : b.red = s.red := by rw [h.frame]

theorem Begun.fb (h : Begun s src d host b) : b.fb = s.fb := by rw [h.frame]

theorem Begun.emu (h : Begun s src d host b) : b.emu = s.emu := by rw [h.frame]

theorem Begun.sd (h : Begun s src d host b) : b.sd = s.sd := by rw [h.frame]

theorem Begun.fio (h : Begun s src d host b) : b.fio = s.fio := by rw [h.frame]

theorem Begun.motion (h : Begun s src d host b) : b.motion = s.motion := by rw [h.frame]

theorem Begun.latchUnits (h : Begun s src d host b) : b.latchUnits = s.latchUnits := by rw [h.frame]

theorem Begun.cmpUnits (h : Begun s src d host b) : b.cmpUnits = s.cmpUnits := by rw [h.frame]

theorem Begun.surv (h : Begun s src d host b) : b.surv = s.surv := by rw [h.frame]

theorem Begun.sec (h : Begun s src d host b) : b.sec = s.sec := by rw [h.frame]

theorem Begun.tap (h : Begun s src d host b) : b.tap = s.tap := by rw [h.frame]

theorem Begun.running (h : Begun s src d host b) : b.per.running = s.per.running := by rw [h.frame]

theorem Begun.now (h : Begun s src d host b) : b.now = s.now := by rw [h.frame]; rfl

end

/-! ### The descriptor while its action runs, and at its end -/

/-- The hub holds the applied descriptor of a reference, its action not ended, and nothing else of its ring waits to be applied. -/
def State.carries (t : State) (ref : CmdRef) : Prop :=
  (∃ c ∈ t.host.cmds, c.is ref = true ∧ c.stage = .applied ∧ c.outcome = none) ∧ ∀ c ∈ t.host.cmds, c.ring = ref.1 → c.stage = .applied

theorem State.carries_of_cmds {t u : State} {ref : CmdRef} (h : t.carries ref) (cmds : u.host.cmds = t.host.cmds) : u.carries ref := by
  unfold State.carries
  rw [cmds]
  exact h

theorem Begun.carries {b : State} (h : Begun s src d host b) : b.carries (s.refOf src) := by
  unfold State.carries
  rw [h.cmds]
  refine ⟨⟨_, List.mem_append_right _ (List.mem_singleton_self _), ?_, rfl, rfl⟩, fun c hc mine => ?_⟩
  · exact s.held_is src d host
  · rcases List.mem_append.mp hc with old | last
    · exact h.here.clear c old mine
    · rw [List.mem_singleton.mp last]
      rfl

theorem State.refOf_index (s : State) (src : Src) {c : Cmd} (is : c.is (s.refOf src) = true) :
    c.ring = src.ring.val ∧ c.index % 2 ^ 12 = src.index.val ∧ c.phase = src.phase := by
  obtain ⟨ring, index, phase⟩ := Cmd.is_iff.mp is
  exact ⟨ring, by rw [index]; exact s.ringIndex_mod _ src.index.isLt, phase⟩

/-- Commands whose outcome a command's end records. -/
theorem endCmd_stage {ref : CmdRef} {o : Result} {need : Nat} {c : Cmd} (h : c.stage = .applied) : (endCmd ref o need c).stage = .applied := by
  unfold endCmd
  split
  · rfl
  · split <;> exact h

theorem endCmd_ring (ref : CmdRef) (o : Result) (need : Nat) (c : Cmd) : (endCmd ref o need c).ring = c.ring := by
  unfold endCmd
  split
  · rfl
  · split <;> rfl

/-- The state after a command's end while periods run: outcomes are recorded, and the completions wait for their seals (R23, R84). -/
def State.closed (t : State) (ref : CmdRef) (o : Result) (need : Nat) (c : Cmd) : State :=
  { t with host := { t.host with cmds := t.host.cmds.map (endCmd ref o need) }
           per := (t.enter c).per }

theorem State.ended_closed {t : State} (running : t.per.running = true) (ref : CmdRef) (need : Nat) (o : Result) (c : Cmd) :
    (t.ended ref need (some o)).enter c = t.closed ref o need c := by
  simp only [State.ended, State.finishCmd]
  rw [if_pos running]
  rfl

theorem State.closed_endedWith {t : State} (carried : t.carries (s.refOf src)) (o : Result) (need : Nat) (c : Cmd) :
    (t.closed (s.refOf src) o need c).endedWith src o.status := by
  obtain ⟨⟨x, hx, is, _, open_⟩, _⟩ := carried
  obtain ⟨ring, index, phase⟩ := s.refOf_index src is
  refine ⟨_, List.mem_map.mpr ⟨x, hx, rfl⟩, ?_⟩
  simp only [endCmd, is, open_, Option.isNone_none, Bool.and_self, if_true]
  exact ⟨ring, index, phase, o, rfl, rfl⟩

theorem State.closed_outcome {t : State} (carried : t.carries (s.refOf src)) (o : Result) (need : Nat) (c : Cmd) :
    ∃ x ∈ (t.closed (s.refOf src) o need c).host.cmds, x.outcome = some o := by
  obtain ⟨⟨x, hx, is, _, open_⟩, _⟩ := carried
  exact ⟨_, List.mem_map.mpr ⟨x, hx, rfl⟩, by simp [endCmd, is, open_]⟩

theorem State.enter_sameObjs (t : State) (c : Cmd) (os : List Obj) : SameObjs os t (t.enter c) := SameObjs.of_objs (t.enter_objs c) os

theorem State.enter_runsOn {t : State} (carried : t.carries (s.refOf src)) (c : Cmd) : (t.enter c).runsOn src := by
  obtain ⟨⟨x, hx, is, stage, open_⟩, _⟩ := carried
  obtain ⟨ring, index, phase⟩ := s.refOf_index src is
  exact ⟨x, hx, ring, index, phase, stage, open_⟩

theorem State.ended_clear {t : State} {ref : CmdRef} (clear : ∀ c ∈ t.host.cmds, c.ring = ref.1 → c.stage = .applied) (need : Nat)
    (o : Option Result) : (t.ended ref need o).waiting ref.1 = [] := by
  rw [State.waiting_nil_iff]
  cases o with
  | none => exact clear
  | some o =>
    have recorded : ∀ c ∈ t.host.cmds.map (endCmd ref o need), c.ring = ref.1 → c.stage = .applied := by
      intro c hc mine
      obtain ⟨x, hx, rfl⟩ := List.mem_map.mp hc
      exact endCmd_stage (clear x hx ((endCmd_ring ..).symm.trans mine))
    simp only [State.ended, State.finishCmd]
    split
    · exact recorded
    · exact fun c hc => recorded c (State.flushAll_cmds_subset _ hc)

section
variable {b : State}

/-- A descriptor at its application ends with its effect. -/
theorem Begun.runDesc (h : Begun s src d host b) (lands : Nat) {t : State} {o : Option Result}
    (effect : b.effect (s.held src d host) (if s.per.running then 0 else lands) = .ok (t, o))
    (clear : ∀ c ∈ t.host.cmds, c.ring = src.ring.val → c.stage = .applied) :
    s.runDesc src d host lands = .ok ((t.ended (s.refOf src) b.sealHere o).enter (s.held src d host)) := by
  obtain ⟨rfl, here⟩ := h
  exact here.runDesc_of_effect lands effect (State.ended_clear clear _ _)

theorem Begun.runDesc_error (h : Begun s src d host b) (lands : Nat) {f : Fault}
    (effect : b.effect (s.held src d host) (if s.per.running then 0 else lands) = .error f) : s.runDesc src d host lands = .error f := by
  obtain ⟨rfl, here⟩ := h
  exact here.runDesc_of_error lands effect

/-- A command whose action ends at once while periods run (R84, R89). -/
theorem Begun.ends (h : Begun s src d host b) (running : s.per.running = true) (lands : Nat) {t : State} {o : Result}
    (effect : b.effect (s.held src d host) 0 = .ok (t, some o)) (going : t.per.running = true) (carried : t.carries (s.refOf src)) :
    s.runDesc src d host lands = .ok (t.closed (s.refOf src) o b.sealHere (s.held src d host)) ∧
      (t.closed (s.refOf src) o b.sealHere (s.held src d host)).endedWith src o.status := by
  rw [h.runDesc lands (by rw [if_pos running, effect]) carried.2, State.ended_closed going]
  exact ⟨rfl, State.closed_endedWith carried _ _ _⟩

/-- A command whose action runs on (R84, R89). -/
theorem Begun.runs_on (h : Begun s src d host b) (lands : Nat) {t : State}
    (effect : b.effect (s.held src d host) (if s.per.running then 0 else lands) = .ok (t, none)) (carried : t.carries (s.refOf src)) :
    s.runDesc src d host lands = .ok (t.enter (s.held src d host)) ∧ (t.enter (s.held src d host)).runsOn src := by
  rw [h.runDesc lands effect carried.2]
  exact ⟨rfl, State.enter_runsOn carried _⟩

/-- An action that changes the named objects only, beside what `s'` tells, leaves nothing else but what the hub shows and holds of its
descriptor. -/
theorem Begun.closed_notedIn (h : Begun s src d host b) {t s' : State} {os : List Obj} (same : SameObjs os b t) (objs : s'.objs = s.objs)
    (hub : s'.host = s.host) (frame : t = { s' with objs := t.objs, host := b.host, per := { s'.per with step := b.per.step } })
    (o : Result) (need : Nat) : s'.notedIn (t.closed (s.refOf src) o need (s.held src d host)) os := by
  refine ⟨?_, ?_⟩
  · have begun := h.same.mono (List.cons_subset_cons _ (List.cons_subset_cons _ (List.nil_subset os)))
    have noted := same.mono (List.subset_cons_of_subset Obj.hifRingApplied (List.subset_cons_of_subset Obj.hifRingState (List.Subset.refl os)))
    exact ((SameObjs.of_objs objs.symm _).trans (begun.trans noted)).trans (SameObjs.of_objs rfl _)
  · rw [frame, h.frame, hub]
    rfl

/-- An action that leaves the state it starts from. -/
theorem Begun.notedIn (h : Begun s src d host b) (o : Result) (need : Nat) :
    s.notedIn (b.closed (s.refOf src) o need (s.held src d host)) [] :=
  h.closed_notedIn (s' := s) (SameObjs.refl _ _) rfl rfl (by rw [h.frame]) o need

end

end

end Sys2Proof.Machine
end

section
/-!
Completions (R75, R84, R85, R94): writing them changes the hub's side of the rings and nothing else.
-/

set_option Elab.async false

namespace Sys2Proof.Machine

/-- `t` differs from `s` by entries the hub wrote on completion rings at most: the commands held, host memory, messages, the completion
rings' counts and tails, and what a halted ring shows. -/
def State.completedInto (s t : State) : Prop :=
  SameObjs [.hifRingState, .hifCqTail] s t ∧
  t = { s with objs := t.objs, host := { s.host with
    cmds := t.host.cmds, writes := t.host.writes, heldWrites := t.host.heldWrites, messages := t.host.messages, pba := t.host.pba
    cqs := t.host.cqs } }

namespace State.completedInto

theorem refl (s : State) : s.completedInto s := ⟨SameObjs.refl _ s, rfl⟩

theorem trans {s t u : State} (h : s.completedInto t) (h' : t.completedInto u) : s.completedInto u := by
  obtain ⟨objs, frame⟩ := h
  obtain ⟨objs', frame'⟩ := h'
  refine ⟨objs.trans objs', ?_⟩
  rw [frame', frame]

theorem of_objs {s t : State} (objs : SameObjs [.hifRingState, .hifCqTail] s t) (frame : t = { s with objs := t.objs }) :
    s.completedInto t := by
  refine ⟨objs, ?_⟩
  rw [frame]

end State.completedInto

variable (s : State)

theorem State.hostWrite_completedInto (addr len data : Nat) : s.completedInto (s.hostWrite addr len data) := by
  unfold State.hostWrite
  split <;> exact ⟨SameObjs.of_objs rfl _, rfl⟩

theorem State.setCq_completedInto (m : Nat) (v : CqSt) : s.completedInto (s.setCq m v) := ⟨SameObjs.of_objs rfl _, rfl⟩

theorem State.setFld_completedInto {f : Fld} (hf : f.obj ∈ [Obj.hifRingState, .hifCqTail]) (v : Nat) {i : Nat} (hi : i < 256) :
    s.completedInto (s.setFld f v i) :=
  .of_objs ((s.setFld_sameObjs f v hi).mono fun _ h => List.mem_singleton.mp h ▸ hf) rfl

theorem State.setBit_completedInto {f : Fld} (hf : f.obj ∈ [Obj.hifRingState, .hifCqTail]) (b : Bool) {i : Nat} (hi : i < 256) :
    s.completedInto (s.setBit f b i) := s.setFld_completedInto hf _ hi

theorem State.setTail_completedInto {m : Nat} (p : Pos) (hm : m < 256) : s.completedInto (s.setTail m p) :=
  (s.setFld_completedInto (f := F.HIF_CQ_TAIL_INDEX) (by decide) _ hm).trans
    (State.setBit_completedInto _ (f := F.HIF_CQ_TAIL_PHASE) (by decide) _ hm)

theorem State.sendMessage_completedInto (v : Nat) : s.completedInto (s.sendMessage v) :=
  (s.hostWrite_completedInto _ _ _).trans ⟨SameObjs.of_objs rfl _, rfl⟩

theorem State.signalCq_completedInto (m : Nat) : s.completedInto (s.signalCq m) := by
  unfold State.signalCq
  dsimp only
  split
  · exact (s.setCq_completedInto m _).trans (State.sendMessage_completedInto _ _)
  · exact ⟨SameObjs.of_objs rfl _, rfl⟩

/-- An entry written and counted, before its signal (R74, R88). -/
def State.wroteEntry (s : State) (m ph data : Nat) : State :=
  let t := s.tail m
  ((s.hostWrite (s.fld F.HIF_CQ_BASE_ADDR m + 32 * t.1) 32 (data + t.2.toNat * 2 ^ ph)).setTail m (posNext (s.cqSize m) t)).setCq m
    { s.cq m with unsignalled := (s.cq m).unsignalled + 1, oldest := if (s.cq m).unsignalled = 0 then s.now else (s.cq m).oldest }

theorem State.putEntry_eq (m ph data : Nat) (now : Bool) : s.putEntry m ph data now =
    if now || decide (max 1 (s.fld F.HIF_CQ_MOD_COUNT m) ≤ (s.cq m).unsignalled + 1) then (s.wroteEntry m ph data).signalCq m
    else s.wroteEntry m ph data := rfl

theorem State.wroteEntry_completedInto {m : Nat} (hm : m < 256) (ph data : Nat) : s.completedInto (s.wroteEntry m ph data) := by
  unfold State.wroteEntry
  extract_lets t
  have written := s.hostWrite_completedInto (s.fld F.HIF_CQ_BASE_ADDR m + 32 * t.1) 32 (data + t.2.toNat * 2 ^ ph)
  generalize s.hostWrite (s.fld F.HIF_CQ_BASE_ADDR m + 32 * t.1) 32 (data + t.2.toNat * 2 ^ ph) = w at written
  exact (written.trans (w.setTail_completedInto _ hm)).trans (State.setCq_completedInto _ _ _)

theorem State.putEntry_completedInto {m : Nat} (hm : m < 256) (ph data : Nat) (now : Bool) : s.completedInto (s.putEntry m ph data now) := by
  have written := s.wroteEntry_completedInto hm ph data
  rw [State.putEntry_eq]
  split
  · exact written.trans (State.signalCq_completedInto _ _)
  · exact written

theorem State.haltedBy_completedInto {c : Cmd} (hr : c.ring < 256) (o : Result) : s.completedInto (s.haltedBy c o) := by
  unfold State.haltedBy
  split
  · exact ((s.setBit_completedInto (f := F.HIF_RING_STATE_HALTED) (by decide) _ hr).trans
      (State.setFld_completedInto _ (f := F.HIF_RING_STATE_HALT_INDEX) (by decide) _ hr)).trans
      (State.setBit_completedInto _ (f := F.HIF_RING_STATE_HALT_PHASE) (by decide) _ hr)
  · exact .refl s

theorem State.ringCq_lt (r : Nat) : s.ringCq r < 256 := Nat.lt_of_lt_of_le (s.fld_lt F.HIF_RING_CTRL_CQ r 0) (by decide)

theorem State.putCompletion_completedInto {c : Cmd} (hr : c.ring < 256) (o : Result) : s.completedInto (s.putCompletion c o) := by
  rw [State.putCompletion_eq]
  exact (s.putEntry_completedInto (s.ringCq_lt _) _ _ _).trans (State.haltedBy_completedInto _ hr o)

/-- The command whose completion is written next stands first on one of the rings. -/
theorem sealedFirst_mem {cs : List Cmd} {c : Cmd} : ∀ {a : Option Cmd}, cs.foldl sealedFirst a = some c → c ∈ cs ∨ a = some c := by
  induction cs with
  | nil => exact fun h => Or.inr h
  | cons x xs ih =>
    intro a h
    rcases ih h with later | now
    · exact Or.inl (List.mem_cons_of_mem _ later)
    · cases a with
      | none => exact Or.inl (Option.some.inj now ▸ List.mem_cons_self ..)
      | some y =>
        simp only [sealedFirst] at now
        split at now
        · exact Or.inl (Option.some.inj now ▸ List.mem_cons_self ..)
        · exact Or.inr now

theorem State.completable_ring {c : Cmd} (h : c ∈ s.completable) : c.ring < 18 := by
  obtain ⟨r, hr, found⟩ := List.mem_filterMap.mp (List.mem_of_mem_filter h)
  have ring := List.find?_some found
  simp only [beq_iff_eq] at ring
  rw [ring]
  exact List.mem_range.mp hr

theorem State.flushN_completedInto (k : Nat) : s.completedInto (s.flushN k) := by
  induction k generalizing s with
  | zero => exact .refl s
  | succ k ih =>
    unfold State.flushN
    split
    · exact .refl s
    case _ c next =>
      have ring : c.ring < 18 := by
        rcases sealedFirst_mem next with mem | none_
        · exact s.completable_ring mem
        · exact absurd none_ (by simp)
      split
      · exact .refl s
      · have dropped : s.completedInto { s with host := { s.host with cmds := Machine.dropFirst c.ring s.host.cmds } } := ⟨SameObjs.of_objs rfl _, rfl⟩
        exact (dropped.trans (State.putCompletion_completedInto _ (Nat.lt_trans ring (by decide)) _)).trans (ih _)

theorem State.flushAll_completedInto : s.completedInto s.flushAll := by
  unfold State.flushAll
  split
  · exact s.flushN_completedInto _
  · exact .refl s

theorem State.finishCmd_completedInto (ref : CmdRef) (o : Result) (need : Nat) : s.completedInto (s.finishCmd ref o need) := by
  unfold State.finishCmd
  dsimp only
  have recorded : s.completedInto { s with host := { s.host with cmds := s.host.cmds.map (endCmd ref o need) } } :=
    ⟨SameObjs.of_objs rfl _, rfl⟩
  split
  · exact recorded
  · exact recorded.trans (State.flushAll_completedInto _)

end Sys2Proof.Machine
end

section
/-!
A lone command's completion (R75, R84, R88), and bulk descriptors at their turn (R71, R83).
-/

set_option Elab.async false

namespace Sys2Proof.Machine

/-! ### The completion of a lone command -/

theorem filterMap_range_ring {n : Nat} {c : Cmd} (h : c.ring < n) :
    ((List.range n).filterMap fun r => [c].find? fun x => x.ring == r) = [c] := by
  induction n with
  | zero => omega
  | succ n ih =>
    rw [List.range_succ, List.filterMap_append]
    by_cases last : c.ring = n
    · have before : ((List.range n).filterMap fun r => [c].find? fun x => x.ring == r) = [] := by
        refine List.filterMap_eq_nil_iff.mpr fun r hr => ?_
        have := List.mem_range.mp hr
        simp [List.find?, show (c.ring == r) = false by simpa using by omega]
      rw [before]
      simp [List.find?, last]
    · rw [ih (by omega)]
      simp [List.find?, show (c.ring == n) = false by simpa using last]

section
variable {s : State} {c : Cmd} {o : Result}

theorem State.completable_single (cmds : s.host.cmds = [c]) (ring : c.ring < 18) :
    s.completable = if s.mayComplete c then [c] else [] := by
  unfold State.completable
  rw [cmds, filterMap_range_ring ring]
  cases may : s.mayComplete c <;> simp [may]

theorem State.flushAll_nil (cmds : s.host.cmds = []) : s.flushAll = s := by simp [State.flushAll, cmds]

/-- The only command held completes when it may (R75). -/
theorem State.flushAll_single (cmds : s.host.cmds = [c]) (ring : c.ring < 18) (outcome : c.outcome = some o) (may : s.mayComplete c = true) :
    s.flushAll = ({ s with host := { s.host with cmds := [] } } : State).putCompletion c o := by
  have first : s.completable.foldl sealedFirst none = some c := by rw [State.completable_single cmds ring, may]; rfl
  have rest : Machine.dropFirst c.ring s.host.cmds = [] := by rw [cmds]; simp [Machine.dropFirst]
  unfold State.flushAll
  rw [cmds, show ([c].any fun c => c.outcome.isSome) = true by simp [outcome], if_pos rfl]
  simp only [List.length_singleton, State.flushN, first, outcome, rest]

theorem State.flushAll_waits (cmds : s.host.cmds = [c]) (ring : c.ring < 18) (may : s.mayComplete c = false) : s.flushAll = s := by
  have first : s.completable.foldl sealedFirst none = none := by rw [State.completable_single cmds ring, may]; rfl
  unfold State.flushAll
  split
  · rw [cmds]
    simp only [List.length_singleton, State.flushN, first]
  · rfl

/-- The entry the hub writes on a completion ring (R74). -/
def State.entryAt (s : State) (m ph data : Nat) : HostWrite :=
  ⟨s.fld F.HIF_CQ_BASE_ADDR m + 32 * (s.tail m).1, 32, data + (s.tail m).2.toNat * 2 ^ ph⟩

theorem State.wroteEntry_writes (bus : s.host.busMaster = true) (m ph data : Nat) :
    (s.wroteEntry m ph data).host.writes = s.host.writes ++ [s.entryAt m ph data] := by
  have written : (s.hostWrite (s.fld F.HIF_CQ_BASE_ADDR m + 32 * (s.tail m).1) 32 (data + (s.tail m).2.toNat * 2 ^ ph)).host.writes =
      s.host.writes ++ [s.entryAt m ph data] := by
    unfold State.hostWrite
    rw [if_pos bus]
    rfl
  exact written

theorem State.hostWrite_writes (s : State) (addr len data : Nat) : s.host.writes <+: (s.hostWrite addr len data).host.writes := by
  unfold State.hostWrite
  split
  · exact List.prefix_append _ _
  · exact List.prefix_refl _

theorem State.signalCq_writes (s : State) (m : Nat) : s.host.writes <+: (s.signalCq m).host.writes := by
  unfold State.signalCq
  dsimp only
  split
  · exact (s.signalled m).hostWrite_writes ..
  · exact List.prefix_refl _

theorem State.putEntry_writes (bus : s.host.busMaster = true) (m ph data : Nat) (now : Bool) :
    s.host.writes ++ [s.entryAt m ph data] <+: (s.putEntry m ph data now).host.writes := by
  have written := State.wroteEntry_writes bus m ph data
  rw [State.putEntry_eq]
  split
  · rw [← written]
    exact State.signalCq_writes ..
  · rw [written]

theorem State.putCompletion_writes (bus : s.host.busMaster = true) (c : Cmd) (o : Result) :
    s.host.writes ++ [s.entryAt (s.ringCq c.ring) 15 (completionWord c o)] <+: (s.putCompletion c o).host.writes := by
  rw [State.putCompletion_eq, State.haltedBy_host]
  exact State.putEntry_writes bus ..

/-- A completion's low byte is its status (R84). -/
theorem completionWord_status (c : Cmd) {o : Result} (h : o.status < 256) (p : Nat) : (completionWord c o + p * 2 ^ 15) % 2 ^ 8 = o.status := by
  simp only [completionWord]
  generalize (if c.ring < 16 then c.ring else c.ring - 16) = r
  generalize (if c.ring < 16 then 0 else 1) = k
  omega

end

/-! ### A bulk descriptor at its turn -/

section
variable {s : State} {b : Fin 2} {src : BulkSrc} {d : Desc} {host : Nat}

/-- The command the hub holds of a bulk descriptor. -/
def State.bulkHeld (s : State) (b : Fin 2) (src : BulkSrc) (d : Desc) (host : Nat := 0) : Cmd :=
  { s.heldAt (16 + b.val) src.index.val src.phase d host with
    withdrawn := s.withdrawal (s.refAt (16 + b.val) src.index.val src.phase) }

/-- The state in which the hub holds a bulk descriptor, fetched and validated, and no other. -/
def State.fetchedBulk (s : State) (b : Fin 2) (src : BulkSrc) (d : Desc) (host : Nat := 0) : State :=
  { (s.setHead (16 + b.val) (posNext (s.ringSize (16 + b.val)) (src.index.val, src.phase))) with
    host := { s.host with
      cmds := [s.bulkHeld b src d host]
      early := s.host.early.filter fun e => e.1 != s.refAt (16 + b.val) src.index.val src.phase
      reads := s.fetchReads (16 + b.val) src.index.val d } }

theorem State.fetchedBulk_sameObjs (s : State) (b : Fin 2) (src : BulkSrc) (d : Desc) (host : Nat) :
    SameObjs [.hifRingState] s (s.fetchedBulk b src d host) := by
  have objs : (s.fetchedBulk b src d host).objs =
    (s.setHead (16 + b.val) (posNext (s.ringSize (16 + b.val)) (src.index.val, src.phase))).objs := rfl
  have ring : 16 + b.val < 256 := by omega
  exact (s.setHead_sameObjs _ ring).trans (SameObjs.of_objs objs _)

theorem State.fetchedBulk_frame (s : State) (b : Fin 2) (src : BulkSrc) (d : Desc) (host : Nat) : s.fetchedBulk b src d host =
    { s with objs := (s.fetchedBulk b src d host).objs, host := (s.fetchedBulk b src d host).host } := rfl

theorem State.runBulk_of_atBulk (h : s.atBulk b.val src d host = true) (none_ : s.host.cmds = []) :
    s.mayFetch (16 + b.val) = true ∧
    s.runBulk b.val src d host = (s.fetchedBulk b src d host).bulkRun (s.bulkHeld b src d host) := by
  simp only [State.atBulk, Bool.and_eq_true] at h
  obtain ⟨⟨head, _⟩, awaits⟩ := h
  obtain ⟨joins, -⟩ := State.join_of_awaits (host := host) (d := d) head (by simp [none_]) (by simp [none_]) awaits
  rw [none_, List.nil_append] at joins
  have joins : s.join (16 + b.val) d host = .ok (s.fetchedBulk b src d host) := joins
  have oldest : (s.fetchedBulk b src d host).bulkOf b.val = some (s.bulkHeld b src d host) := by
    simp [State.bulkOf, State.fetchedBulk, State.bulkHeld, State.heldAt]
  have is : (s.bulkHeld b src d host).is (s.refAt (16 + b.val) src.index.val src.phase) = true := by
    simp [Cmd.is, State.bulkHeld, State.heldAt, State.refAt]
  refine ⟨(State.atHead_iff.mp head).1, ?_⟩
  simp only [State.runBulk, head, Bool.not_true, Bool.false_eq_true, if_false, joins, oldest, is, if_true]

/-- A completion ring's side of what a ring's completion needs is as it was. -/
theorem State.cqTakes_of_same {os : List Obj} {t : State} (same : SameObjs os s t) (cqs : t.host.cqs = s.host.cqs)
    (ctrl : Obj.hifCqCtrl ∉ os) (tail : Obj.hifCqTail ∉ os) {m : Nat} (hm : m < 256) : t.cqTakes m = s.cqTakes m := by
  have cq : t.cq m = s.cq m := by simp only [State.cq, cqs]
  have size : t.cqSize m = s.cqSize m := by simp only [State.cqSize, same.fld (f := F.HIF_CQ_CTRL_SIZE_LOG2) ctrl hm]
  have tail_ : t.tail m = s.tail m := by
    simp only [State.tail, same.fld (f := F.HIF_CQ_TAIL_INDEX) tail hm, same.bit (f := F.HIF_CQ_TAIL_PHASE) tail hm]
  have used : t.cqUsed m = s.cqUsed m := by rw [State.cqUsed, cq, size, tail_]; rfl
  rw [State.cqTakes, same.bit (f := F.HIF_CQ_CTRL_ENABLE) ctrl hm, used, size]
  rfl

theorem State.entryAt_of_same {os : List Obj} {t : State} (same : SameObjs os s t) (base : Obj.hifCqBase ∉ os) (tail : Obj.hifCqTail ∉ os)
    {m : Nat} (hm : m < 256) (ph data : Nat) : t.entryAt m ph data = s.entryAt m ph data := by
  simp only [State.entryAt, State.tail, same.fld (f := F.HIF_CQ_BASE_ADDR) base hm, same.fld (f := F.HIF_CQ_TAIL_INDEX) tail hm,
    same.bit (f := F.HIF_CQ_TAIL_PHASE) tail hm]

theorem State.ringCq_of_same {os : List Obj} {t : State} (same : SameObjs os s t) (ctrl : Obj.hifRingCtrl ∉ os) {r : Nat} (hr : r < 256) :
    t.ringCq r = s.ringCq r := same.fld (f := F.HIF_RING_CTRL_CQ) ctrl hr

/-- A bulk descriptor whose transfer has ended. -/
def Cmd.transferred (c : Cmd) (o : Result) : Cmd := { c with stage := .applied, outcome := some o, sealNeed := 0 }

/-- The state in which a bulk descriptor's transfer has ended, its completion still to be written. -/
def State.transferred (t : State) (c : Cmd) (o : Result) : State :=
  { (t.noteApplied c) with host := { t.host with cmds := [c.transferred o] } }

/-- The same with the command taken from those held, its completion about to be written. -/
def State.taken (t : State) (c : Cmd) (o : Result) : State :=
  { (t.transferred c o) with host := { (t.transferred c o).host with cmds := [] } }

theorem State.transferred_sameObjs (t : State) {c : Cmd} (ring : c.ring < 256) (o : Result) :
    SameObjs [.hifRingApplied] t (t.transferred c o) := by
  have objs : (t.transferred c o).objs = (t.noteApplied c).objs := rfl
  exact (t.noteApplied_sameObjs ring).trans (SameObjs.of_objs objs _)

/-- The end of the only transfer under way: its ring shows it done, and its completion is written when it may be (R71, R83). -/
theorem State.bulkRun_single {t u : State} {c : Cmd} {o : Result} (effect : t.bulkEffect c.desc c.desc.length c.data c.desc.last = .ok (u, o))
    (cmds : u.host.cmds = [c]) (outcome : c.outcome = none) (ring : c.ring < 18) :
    t.bulkRun c = .ok (u.transferred c o).flushAll := by
  have is : c.is (c.ring, c.index, c.phase) = true := by simp [Cmd.is]
  have ended : (((u.mapCmd (c.ring, c.index, c.phase) fun x => { x with stage := .applied }).noteApplied c).finishCmd
      (c.ring, c.index, c.phase) o 0) = if u.per.running then u.transferred c o else (u.transferred c o).flushAll := by
    have mapped : ((u.mapCmd (c.ring, c.index, c.phase) fun x => { x with stage := .applied }).noteApplied c).host.cmds.map
        (endCmd (c.ring, c.index, c.phase) o 0) = [c.transferred o] := by
      rw [State.noteApplied_host]
      simp only [State.mapCmd, cmds, List.map_cons, List.map_nil, is, if_true]
      simp only [endCmd, Cmd.is, beq_self_eq_true, outcome, Option.isNone_none, Bool.and_self, if_true, Cmd.transferred]
    unfold State.finishCmd
    dsimp only
    rw [mapped]
    rfl
  simp only [State.bulkRun, effect]
  rw [ended]
  cases u.per.running with
  | true => rfl
  | false =>
    simp only [Bool.false_eq_true, if_false]
    have held : (u.transferred c o).host.cmds = [c.transferred o] := rfl
    have ring' : (c.transferred o).ring < 18 := ring
    cases may : (u.transferred c o).mayComplete (c.transferred o) with
    | true => rw [State.flushAll_single held ring' rfl may, State.flushAll_nil (State.putCompletion_cmds ..)]
    | false => rw [State.flushAll_waits held ring' may, State.flushAll_waits held ring' may]

/-- Where its completion ring takes an entry the completion is written (R75, R84). -/
theorem State.flush_transferred {u : State} {c : Cmd} {o : Result} (ring : c.ring < 18) (waits : c.waits = none)
    (takes : u.cqTakes (u.ringCq c.ring) = true) :
    (u.transferred c o).flushAll = (u.taken c o).putCompletion (c.transferred o) o := by
  have same := u.transferred_sameObjs (c := c) (Nat.lt_trans ring (by decide)) o
  have takes' : (u.transferred c o).cqTakes ((u.transferred c o).ringCq c.ring) = true := by
    rw [State.ringCq_of_same same (by decide) (Nat.lt_trans ring (by decide)),
      State.cqTakes_of_same same rfl (by decide) (by decide) (u.ringCq_lt _), takes]
  refine State.flushAll_single rfl ring rfl ?_
  simp only [State.mayComplete, Cmd.transferred, takes', waits, Option.isSome_some, Nat.zero_le, decide_true, Bool.or_true, Bool.and_self,
    Option.all_none]

theorem State.noteApplied_valid (t : State) (c : Cmd) : (t.noteApplied c).bit F.HIF_RING_APPLIED_VALID c.ring = true :=
  State.bit_setBit_same _ F.HIF_RING_APPLIED_VALID true c.ring 0 rfl

theorem State.taken_sameObjs (t : State) {c : Cmd} (ring : c.ring < 256) (o : Result) : SameObjs [.hifRingApplied] t (t.taken c o) := by
  have objs : (t.taken c o).objs = (t.transferred c o).objs := rfl
  exact (t.transferred_sameObjs ring o).trans (SameObjs.of_objs objs _)

theorem State.taken_valid (t : State) (c : Cmd) (o : Result) : (t.taken c o).bit F.HIF_RING_APPLIED_VALID c.ring = true := by
  have objs : (t.taken c o).objs = (t.noteApplied c).objs := rfl
  simp only [State.bit, State.fld, State.obj, objs]
  exact t.noteApplied_valid c

/-- What the end of a transfer leaves of the state its effect made (R71, R83, R84). -/
structure BulkEnded (s u v : State) (b : Fin 2) (status : Nat) : Prop where
  shown : v.bit F.HIF_RING_APPLIED_VALID (16 + b.val) = true
  cmds : v.host.cmds = []
  wrote : s.wroteCompletion v (16 + b.val) status
  frame : v = { u with objs := v.objs, host := v.host }
  writes : u.host.writes <+: v.host.writes

theorem State.bulkRun_ends {c : Cmd} {u t : State} {o : Result} {os : List Obj} (ring : c.ring = 16 + b.val) (outcome : c.outcome = none)
    (waits : c.waits = none) (bus : s.host.busMaster = true) (takes : s.cqTakes (s.ringCq (16 + b.val)) = true)
    (effect : t.bulkEffect c.desc c.desc.length c.data c.desc.last = .ok (u, o)) (status : o.status < 256)
    (same : SameObjs os s u) (hif : ∀ x ∈ [Obj.hifRingCtrl, .hifCqCtrl, .hifCqTail, .hifCqBase], x ∉ os)
    (cmds : u.host.cmds = [c]) (cqs : u.host.cqs = s.host.cqs) (master : u.host.busMaster = s.host.busMaster)
    (writes : s.host.writes <+: u.host.writes) : ∃ v, t.bulkRun c = .ok v ∧ BulkEnded s u v b o.status := by
  have hb : 16 + b.val < 256 := by omega
  have ring18 : c.ring < 18 := by omega
  have cq : u.ringCq c.ring = s.ringCq (16 + b.val) := by rw [ring]; exact State.ringCq_of_same same (hif _ (by decide)) hb
  have takes' : u.cqTakes (u.ringCq c.ring) = true := by
    rw [cq, State.cqTakes_of_same same cqs (hif _ (by decide)) (hif _ (by decide)) (s.ringCq_lt _), takes]
  refine ⟨_, State.bulkRun_single effect cmds outcome ring18, ?_⟩
  rw [State.flush_transferred ring18 waits takes']
  have noted := u.taken_sameObjs (c := c) (by omega) o
  have valid := u.taken_valid c o
  have place : (u.taken c o).entryAt ((u.taken c o).ringCq c.ring) 15 (completionWord (c.transferred o) o) =
      s.entryAt (s.ringCq (16 + b.val)) 15 (completionWord (c.transferred o) o) := by
    rw [State.ringCq_of_same noted (by decide) (by omega), cq,
      State.entryAt_of_same noted (by decide) (by decide) (s.ringCq_lt _),
      State.entryAt_of_same same (hif _ (by decide)) (hif _ (by decide)) (s.ringCq_lt _)]
  have written := State.putCompletion_writes (s := u.taken c o) (master.trans bus) (c.transferred o) o
  rw [show (c.transferred o).ring = c.ring from rfl, place] at written
  have entry := (u.taken c o).putCompletion_completedInto (c := c.transferred o) (show c.ring < 256 by omega) o
  have none_ := (u.taken c o).putCompletion_cmds (c.transferred o) o
  generalize (u.taken c o).putCompletion (c.transferred o) o = v at written entry none_ ⊢
  have written : u.host.writes ++ [s.entryAt (s.ringCq (16 + b.val)) 15 (completionWord (c.transferred o) o)] <+: v.host.writes := written
  obtain ⟨objs, frame⟩ := entry
  exact {
    shown := by
      have kept := objs.bit (f := F.HIF_RING_APPLIED_VALID) (i := 16 + b.val) (by decide) hb
      rw [kept, ← ring]
      exact valid
    cmds := none_
    wrote := by
      obtain ⟨own, own_⟩ := writes
      obtain ⟨more, more_⟩ := written
      refine ⟨s.entryAt (s.ringCq (16 + b.val)) 15 (completionWord (c.transferred o) o), ?_, rfl, rfl, completionWord_status _ status _⟩
      rw [← more_, ← own_, List.append_assoc, List.append_assoc, List.drop_left]
      simp
    frame := by rw [frame]; rfl
    writes := (List.prefix_append _ _).trans written }

end

end Sys2Proof.Machine
end

section
/-! The statement of NOP and OBJ_READ (R71, R79, R80, R91). -/

set_option Elab.async false

namespace Sys2Proof.Machine

theorem exec_nop_inl (src : Src) (s : State) : exec (.nop (.inl src)) s = outOf (s.runDesc src (srcDesc src 0x01 0) 0 0) := rfl

theorem exec_nop_inr (b : Fin 2) (src : BulkSrc) (s : State) :
    exec (.nop (.inr (b, src))) s = outOf (s.runBulk b.val src (bulkDesc src 0x01 0) 0) := rfl

theorem exec_objRead (src : Src) (id off len : Fin 65536) (hostAddr : Fin (2 ^ 64)) (s : State) :
    exec (.objRead src id off len hostAddr) s =
      outOf (s.runDesc src { srcDesc src 0x03 id.val with offset := off.val, length := len.val, hostAddr := hostAddr.val } 0 0) := rfl

section
variable {s : State} {src : Src} {d : Desc} {host : Nat}

theorem State.effect_nop {t : State} {c : Cmd} (op : c.desc.opcode = 0x01) (lands : Nat) : t.effect c lands = .ok (t, some done) := by
  simp only [State.effect, op]
  rfl

theorem State.withObj_of {t : State} {id i : Nat} {o : Obj} (named : objOf id = some o) (inst : instOf? id o = some i)
    (f : Obj → Nat → Applied) : t.withObj id f = f o i := by
  simp only [State.withObj, named, inst]

theorem State.effect_objRead {t : State} {c : Cmd} {o : Obj} {i : Nat} (op : c.desc.opcode = 0x03) (named : objOf c.desc.objId = some o)
    (inst : instOf? c.desc.objId o = some i) (lands : Nat) : t.effect c lands = .ok (t.readCmd c.desc o i) := by
  simp only [State.effect, op]
  exact State.withObj_of named inst _

/-- A read of an object other than SEC.LANEMEM returns its bytes (R80). -/
theorem State.readCmd_of_ne {t : State} {d : Desc} {o : Obj} (i : Nat) (h : o ≠ .secLanemem) : t.readCmd d o i =
    if d.length ≤ 8 then (t, some { done with result := t.readObject o i d.offset d.length d.param })
    else (t.hostWrite d.hostAddr d.length (t.readObject o i d.offset d.length d.param), some done) := by
  unfold State.readCmd State.objRead_
  split
  case h_1 r heq =>
    split at heq
    · exact absurd rfl h
    · simp at heq
  case h_2 r v heq =>
    split at heq
    · exact absurd rfl h
    · cases heq
      rfl

theorem Begun.valid {b : State} (h : Begun s src d host b) : b.bit F.HIF_RING_APPLIED_VALID src.ring.val = true := by
  rw [← h.eq, h.here.begun_eq]
  exact State.noteApplied_valid _ (s.held src d host)

theorem State.noteApplied_next (t : State) (c : Cmd) : (t.noteApplied c).fld F.HIF_RING_APPLIED_NEXT c.ring =
    (posNext (t.ringSize c.ring) (c.index % 2 ^ 12, c.phase)).1 % 2 ^ 12 := by
  unfold State.noteApplied
  extract_lets p
  have valid := State.fld_setFld_bits ((t.setFld F.HIF_RING_APPLIED_NEXT p.1 c.ring).setBit F.HIF_RING_APPLIED_NEXT_PHASE p.2 c.ring)
    (f := F.HIF_RING_APPLIED_VALID) (g := F.HIF_RING_APPLIED_NEXT) true.toNat c.ring 0 rfl (Or.inl (by decide))
  have phase := State.fld_setFld_bits (t.setFld F.HIF_RING_APPLIED_NEXT p.1 c.ring)
    (f := F.HIF_RING_APPLIED_NEXT_PHASE) (g := F.HIF_RING_APPLIED_NEXT) p.2.toNat c.ring 0 rfl (Or.inl (by decide))
  exact valid.trans (phase.trans (State.fld_setFld_same ..))

theorem State.ringSize_of_same {os : List Obj} {t : State} (same : SameObjs os s t) (ctrl : Obj.hifRingCtrl ∉ os) {r : Nat} (hr : r < 256) :
    t.ringSize r = s.ringSize r := by
  simp only [State.ringSize, same.fld (f := F.HIF_RING_CTRL_SIZE_LOG2) ctrl hr]

theorem Begun.next {b : State} (h : Begun s src d host b) : b.fld F.HIF_RING_APPLIED_NEXT src.ring.val =
    (posNext (s.ringSize src.ring.val) (src.index.val, src.phase)).1 % 2 ^ 12 := by
  have turn : SameObjs [.hifRingState] s ((s.turnOf src d host).mapCmd (s.refOf src) fun x =>
      { x with stage := .applied, appliedAt := if s.per.running then s.per.t0 else s.now
               appliedSeq := if s.per.running then s.per.seq else 0 }) := by
    have objs : (s.turnOf src d host).objs = (s.fetchedFor src d host).objs := by unfold State.turnOf; split <;> rfl
    exact (s.fetchedFor_sameObjs src d host).trans (SameObjs.of_objs objs _)
  rw [← h.eq, h.here.begun_eq]
  refine (State.noteApplied_next _ (s.held src d host)).trans ?_
  rw [State.ringSize_of_same turn (by decide) (show (s.held src d host).ring < 256 from h.here.ring_lt)]
  have index : (s.held src d host).index % 2 ^ 12 = src.index.val := s.ringIndex_mod _ src.index.isLt
  rw [index]
  rfl

theorem AtApplication.ring_served (h : AtApplication s src d host) : s.host.busMaster = true :=
  (State.mayFetch_imp (State.atHead_iff.mp h.head).1).2.1

/-! ### NOP -/

theorem exec_nop_running (h : s.atApplication src (srcDesc src 0x01 0) = true) (running : s.per.running = true) :
    ∃ t, exec (.nop (.inl src)) s = .next t ∧ t.endedWith src 0x00 ∧ s.notedIn t [] := by
  obtain ⟨b, h⟩ := begun_of h
  obtain ⟨runs, ended⟩ := h.ends running 0 (State.effect_nop rfl 0) (h.running.trans running) h.carries
  exact ⟨_, by rw [exec_nop_inl, runs]; rfl, ended, h.notedIn _ _⟩

theorem State.ended_completedInto (t : State) (ref : CmdRef) (need : Nat) (o : Option Result) : t.completedInto (t.ended ref need o) := by
  cases o with
  | none => exact .refl t
  | some o => exact t.finishCmd_completedInto ref o need

theorem exec_nop_configure (h : s.atApplication src (srcDesc src 0x01 0) = true) :
    ∃ t, exec (.nop (.inl src)) s = .next t ∧ t.bit F.HIF_RING_APPLIED_VALID src.ring.val = true ∧
      t.fld F.HIF_RING_APPLIED_NEXT src.ring.val = (posNext (s.ringSize src.ring.val) (src.index.val, src.phase)).1 % 2 ^ 12 := by
  obtain ⟨b, h⟩ := begun_of h
  have runs := h.runDesc 0 (State.effect_nop rfl _) h.carries.2
  have completed := b.ended_completedInto (s.refOf src) b.sealHere (some done)
  generalize b.ended (s.refOf src) b.sealHere (some done) = u at completed runs
  have entered := completed.1.trans (u.enter_sameObjs (s.held src (srcDesc src 0x01 0)) _)
  have valid := entered.bit (f := F.HIF_RING_APPLIED_VALID) (by decide) h.here.ring_lt
  have next := entered.fld (f := F.HIF_RING_APPLIED_NEXT) (by decide) h.here.ring_lt
  exact ⟨_, by rw [exec_nop_inl, runs]; rfl, valid.trans h.valid, next.trans h.next⟩

theorem exec_nop_bulk {b : Fin 2} {bs : BulkSrc} (h : s.atBulk b.val bs (bulkDesc bs 0x01 0) = true) (none_ : s.host.cmds = []) :
    ∃ t, exec (.nop (.inr (b, bs))) s = .next t ∧ t.bit F.HIF_RING_APPLIED_VALID (16 + b.val) = true ∧ t.host.cmds = [] ∧
      s.wroteCompletion t (16 + b.val) 0x00 := by
  obtain ⟨may, runs⟩ := State.runBulk_of_atBulk h none_
  obtain ⟨_, bus, takes⟩ := State.mayFetch_imp may
  have effect : (s.fetchedBulk b bs (bulkDesc bs 0x01 0)).bulkEffect (bulkDesc bs 0x01 0) (bulkDesc bs 0x01 0).length
      (s.bulkHeld b bs (bulkDesc bs 0x01 0)).data (bulkDesc bs 0x01 0).last = .ok (s.fetchedBulk b bs (bulkDesc bs 0x01 0), done) := rfl
  obtain ⟨v, ran, ended⟩ := State.bulkRun_ends (c := s.bulkHeld b bs (bulkDesc bs 0x01 0)) rfl rfl rfl bus takes effect (by decide)
    (s.fetchedBulk_sameObjs b bs _ 0) (by decide) rfl rfl rfl (List.prefix_refl _)
  exact ⟨v, by rw [exec_nop_inr, runs, ran]; rfl, ended.shown, ended.cmds, ended.wrote⟩

theorem State.runBulk_of_behind {b : Nat} {bs : BulkSrc} (behind : s.atHead (16 + b) bs.index.val bs.phase = false) :
    s.runBulk b bs d host = .ok s := by simp [State.runBulk, behind]

/-! ### OBJ_READ -/

theorem exec_objRead_running {id off len : Fin 65536} {hostAddr : Fin (2 ^ 64)} {o : Obj} {i : Nat}
    (hd : d = { srcDesc src 0x03 id.val with offset := off.val, length := len.val, hostAddr := hostAddr.val })
    (h : s.atApplication src d = true) (running : s.per.running = true) (named : objOf id.val = some o) (inst : instOf? id.val o = some i)
    (ordinary : o ≠ .secLanemem) :
    ∃ t, exec (.objRead src id off len hostAddr) s = .next t ∧ t.endedWith src 0x00 ∧ t.objs = (s.begun src d).objs ∧
      (len.val ≤ 8 → ∃ c ∈ t.host.cmds, ∃ r, c.outcome = some r ∧ r.result = (s.begun src d).readObject o i off.val len.val 0) ∧
      (8 < len.val → s.wroteHost t hostAddr.val len.val ((s.begun src d).readObject o i off.val len.val 0)) := by
  obtain ⟨b, h⟩ := begun_of h
  rw [h.eq]
  have effect : b.effect (s.held src d) 0 = .ok (b.readCmd d o i) :=
    State.effect_objRead (by rw [hd]; rfl) (by rw [hd]; exact named) (by rw [hd]; exact inst) 0
  have bus : b.host.busMaster = true := by rw [h.frame]; exact h.here.ring_served
  have fields : d.length = len.val ∧ d.offset = off.val ∧ d.param = 0 ∧ d.hostAddr = hostAddr.val := by rw [hd]; exact ⟨rfl, rfl, rfl, rfl⟩
  obtain ⟨length, offset, param, addr⟩ := fields
  rw [State.readCmd_of_ne i ordinary, length, offset, param, addr] at effect
  generalize b.readObject o i off.val len.val 0 = bytes at effect ⊢
  have start : exec (.objRead src id off len hostAddr) s = outOf (s.runDesc src d 0 0) := by rw [exec_objRead, ← hd]
  by_cases short : len.val ≤ 8
  · rw [if_pos short] at effect
    obtain ⟨runs, ended⟩ := h.ends running 0 effect (h.running.trans running) h.carries
    obtain ⟨x, hx, outcome⟩ := State.closed_outcome h.carries { done with result := bytes } b.sealHere (s.held src d)
    exact ⟨_, by rw [start, runs]; rfl, ended, rfl, fun _ => ⟨x, hx, _, outcome, rfl⟩, fun long => absurd short (by omega)⟩
  · rw [if_neg short] at effect
    have written : b.hostWrite hostAddr.val len.val bytes =
        { b with host := { b.host with writes := b.host.writes ++ [⟨hostAddr.val, len.val, bytes⟩] } } := by
      rw [State.hostWrite, if_pos bus]
    rw [written] at effect
    obtain ⟨runs, ended⟩ := h.ends running 0 effect (h.running.trans running) (State.carries_of_cmds h.carries rfl)
    exact ⟨_, by rw [start, runs]; rfl, ended, rfl, fun s' => absurd s' short, fun _ => Or.inl ⟨h.here.ring_served,
      by rw [h.frame]; exact List.mem_append_right _ (List.mem_singleton_self _)⟩⟩

end

/-- Settles O25: NOP and OBJ_READ leave the state they start from; the rest is what the end of a command leaves. -/
theorem nopAndObjRead : Obligations.NopAndObjRead := by
  unfold Obligations.NopAndObjRead
  refine ⟨fun src s => ⟨exec_nop_running, fun h _ => exec_nop_configure h, fun behind => ?_, fun b bs => ⟨exec_nop_bulk, fun behind => ?_⟩⟩, ?_⟩
  · rw [exec_nop_inl, State.runDesc_of_behind behind]
    rfl
  · rw [exec_nop_inr, State.runBulk_of_behind behind]
    rfl
  · intro src id off len hostAddr o i s d
    exact exec_objRead_running rfl

end Sys2Proof.Machine
end

section
/-! The statements of descriptors fetched, validated and applied (R72, R75 to R81, R83, R91, R94). -/

set_option Elab.async false

namespace Sys2Proof.Machine

theorem exec_descriptorFetch (r : Fin 18) (d : Desc) (s : State) : exec (.descriptorFetch r d) s = .next (s.fetch r.val d) := rfl

theorem exec_descriptorValidated (r : Fin 18) (host : Nat) (s : State) :
    exec (.descriptorValidated r host none none) s = outOf (s.validate r.val host none none s.now) := rfl

theorem exec_configureApply (r : Fin 16) (lands : Nat) (s : State) : exec (.configureApply r lands) s = outOf (s.configureApply r.val lands) := rfl

theorem exec_bulkTransferDone (b : Fin 2) (s : State) : exec (.bulkTransferDone b) s =
    match s.bulkOf b.val with
    | some c => if s.served then outOf (s.bulkRun c) else .next s
    | none => .next s := rfl

/-! ### Fetch -/

theorem posNext_lt {n : Nat} {p : Pos} (h : p.1 < n) : (posNext n p).1 < n := by
  unfold posNext
  split
  · assumption
  · exact Nat.lt_of_le_of_lt (Nat.zero_le _) h

theorem State.head_setHead (s : State) (r : Nat) {p : Pos} (h : p.1 < 4096) : (s.setHead r p).head r = p := by
  have index : (s.setHead r p).fld F.HIF_RING_STATE_HEAD r = p.1 := by
    have phase := State.fld_setFld_bits (s.setFld F.HIF_RING_STATE_HEAD p.1 r) (f := F.HIF_RING_STATE_HEAD_PHASE)
      (g := F.HIF_RING_STATE_HEAD) p.2.toNat r 0 rfl (Or.inl (by decide))
    exact phase.trans ((State.fld_setFld_same ..).trans (Nat.mod_eq_of_lt h))
  have phase : (s.setHead r p).bit F.HIF_RING_STATE_HEAD_PHASE r = p.2 := State.bit_setBit_same _ _ _ _ _ rfl
  rw [State.head, index, phase]

section
variable {s : State} {r : Fin 18} {d : Desc}

theorem exec_descriptorFetch_of_mayFetch (may : s.mayFetch r.val = true) :
    ∃ t c, exec (.descriptorFetch r d) s = .next t ∧ t.host.cmds = s.host.cmds ++ [c] ∧
      c.ring = r.val ∧ c.index % 2 ^ 12 = (s.head r.val).1 % 2 ^ 12 ∧ c.phase = (s.head r.val).2 ∧ c.desc = d ∧ c.stage = .fetched ∧
      c.outcome = none ∧ t.host.reads = s.host.reads ++ [(s.fld F.HIF_RING_BASE_ADDR r.val + 64 * (s.head r.val).1, 64)] ∧
      (s.ringSize r.val ≤ 4096 → (s.head r.val).1 < s.ringSize r.val → t.head r.val = posNext (s.ringSize r.val) (s.head r.val)) ∧
      SameObjs [.hifRingState] s t := by
  have fetch := State.fetch_of_mayFetch (d := d) may (index := (s.head r.val).1) (phase := (s.head r.val).2) rfl
  have head := fun h => s.head_setHead r.val (p := posNext (s.ringSize r.val) ((s.head r.val).1, (s.head r.val).2)) h
  have same := s.setHead_sameObjs (posNext (s.ringSize r.val) ((s.head r.val).1, (s.head r.val).2)) (show r.val < 256 by omega)
  generalize s.setHead r.val (posNext (s.ringSize r.val) ((s.head r.val).1, (s.head r.val).2)) = u at fetch head same
  refine ⟨_, s.fetchedAt r.val (s.head r.val).1 (s.head r.val).2 d
    ((s.host.early.find? fun e => e.1 == s.refAt r.val (s.head r.val).1 (s.head r.val).2).map (·.2)),
    by rw [exec_descriptorFetch, fetch], rfl, rfl, ?_, rfl, rfl, rfl, rfl, rfl, fun small inside => ?_, ?_⟩
  · simp only [State.fetchedAt, State.ringIndex]
    omega
  · exact head (Nat.lt_of_lt_of_le (posNext_lt inside) small)
  · exact same.trans (SameObjs.of_objs rfl _)

theorem exec_descriptorFetch_of_not (may : s.mayFetch r.val = false) : exec (.descriptorFetch r d) s = .next s := by
  rw [exec_descriptorFetch, State.fetch, may]
  rfl

/-! ### Validation -/

section
variable {host : Nat} {c : Cmd}

/-- The validation of the only descriptor held (R76, R81). -/
theorem State.validate_single (cmds : s.host.cmds = [c]) (ring : c.ring = r.val) (flush : c.flush = false) (fetched : c.stage = .fetched)
    (at_ : Nat) : s.validate r.val host none none at_ = match s.descError c [] none none with
      | some o => .ok (s.failDesc c [] [] o)
      | none => if descReserved c.desc r.val then .error .reservedField
        else .ok ((if descReads c.desc then s.readBuffer c.desc else s).mapCmd (c.ring, c.index, c.phase)
          fun x => { x with stage := .valid, validAt := at_, data := descData c.desc host }) := by
  have order : s.host.cmds.filter (fun c => c.ring == r.val && !c.flush) = [] ++ c :: [] := by
    rw [cmds]
    simp [ring, flush]
  exact State.validate_of_oldest order (by simp) fetched

theorem exec_descriptorValidated_of_valid (cmds : s.host.cmds = [c]) (ring : c.ring = r.val) (flush : c.flush = false)
    (fetched : c.stage = .fetched) (right : s.descError c [] none none = none) (unreserved : descReserved c.desc r.val = false) :
    ∃ t, exec (.descriptorValidated r host none none) s = .next t ∧
      t = { s with host := { s.host with reads := t.host.reads,
                                         cmds := [{ c with stage := .valid, validAt := s.now, data := descData c.desc host }] } } ∧
      t.host.reads = s.host.reads ++ (if descReads c.desc then [(c.desc.hostAddr, c.desc.length)] else []) := by
  have mapped := mapCmd_append (cs := []) (c := c) (ref := (c.ring, c.index, c.phase)) (by simp) (by simp [Cmd.is])
    fun x => { x with stage := .valid, validAt := s.now, data := descData c.desc host }
  rw [List.nil_append, ← cmds] at mapped
  rw [exec_descriptorValidated, State.validate_single cmds ring flush fetched, right, unreserved]
  simp only [Bool.false_eq_true, if_false, outOf]
  cases descReads c.desc with
  | true =>
    refine ⟨_, rfl, ?_, rfl⟩
    simp -implicitDefEqProofs only [State.mapCmd, State.readBuffer, mapped, if_true, List.nil_append]
  | false =>
    refine ⟨_, rfl, ?_, (List.append_nil _).symm⟩
    simp -implicitDefEqProofs only [State.mapCmd, mapped, Bool.false_eq_true, if_false, List.nil_append]

theorem exec_descriptorValidated_of_reserved (cmds : s.host.cmds = [c]) (ring : c.ring = r.val) (flush : c.flush = false)
    (fetched : c.stage = .fetched) (right : s.descError c [] none none = none) (reserved : descReserved c.desc r.val = true) :
    exec (.descriptorValidated r host none none) s = .fault .reservedField := by
  rw [exec_descriptorValidated, State.validate_single cmds ring flush fetched, right, reserved]
  rfl

/-- The state in which a lone descriptor's error is recorded and its ring stopped, its completion still to be written (R94). -/
def State.failed (s : State) (c : Cmd) (o : Result) : State :=
  { (s.setRing c.ring { s.ring c.ring with err := true, dropped := [] }) with
    host := { (s.setRing c.ring { s.ring c.ring with err := true, dropped := [] }).host with cmds := [c.transferred o] } }

theorem State.finishCmd_running {t : State} (running : t.per.running = true) (ref : CmdRef) (o : Result) (need : Nat) :
    t.finishCmd ref o need = { t with host := { t.host with cmds := t.host.cmds.map (endCmd ref o need) } } := by
  unfold State.finishCmd
  dsimp only
  rw [if_pos running]

theorem State.failDesc_single (cmds : s.host.cmds = [c]) (outcome : c.outcome = none) (running : s.per.running = true) (o : Result) :
    s.failDesc c [] [] o = (s.failed c o).flushAll := by
  have ended : [c].map (endCmd (c.ring, c.index, c.phase) o 0) = [c.transferred o] := by
    simp [endCmd, Cmd.is, outcome, Cmd.transferred]
  have keep : s.keepEarly [] = s := by simp [State.keepEarly]
  simp -implicitDefEqProofs only [State.failDesc, keep, List.drop_nil, List.any_nil, Bool.not_false, List.filter_true, List.foldl_nil,
    List.map_nil]
  refine congrArg State.flushAll ?_
  refine (State.finishCmd_running (by exact running) _ _ _).trans ?_
  simp -implicitDefEqProofs only [State.setRing, cmds, ended, State.failed]
  rfl

theorem State.failed_sameObjs (s : State) (c : Cmd) (o : Result) : SameObjs [] s (s.failed c o) := SameObjs.of_objs rfl _

theorem State.failed_err (s : State) (c : Cmd) (o : Result) : ((s.failed c o).ring c.ring).err = true := by
  have rings : (s.failed c o).ring c.ring = (s.setRing c.ring { s.ring c.ring with err := true, dropped := [] }).ring c.ring := rfl
  rw [rings, State.setRing_ring_same]

/-- A descriptor error's completion halts its ring there (R94). -/
theorem State.haltedBy_shows (t : State) (c : Cmd) {o : Result} (bad : 0x80 ≤ o.status) :
    (t.haltedBy c o).bit F.HIF_RING_STATE_HALTED c.ring = true ∧ (t.haltedBy c o).fld F.HIF_RING_STATE_HALT_INDEX c.ring = c.index % 2 ^ 12 ∧
      (t.haltedBy c o).bit F.HIF_RING_STATE_HALT_PHASE c.ring = c.phase := by
  rw [State.haltedBy, if_pos bad]
  generalize halted : t.setBit F.HIF_RING_STATE_HALTED true c.ring = u
  generalize index : u.setFld F.HIF_RING_STATE_HALT_INDEX c.index c.ring = v
  have phase := fun (f : Fld) (obj : f.obj = .hifRingState) (low : f.lo + f.width ≤ F.HIF_RING_STATE_HALT_PHASE.lo ∨
      F.HIF_RING_STATE_HALT_PHASE.lo + F.HIF_RING_STATE_HALT_PHASE.width ≤ f.lo) =>
    v.fld_setFld_bits (f := F.HIF_RING_STATE_HALT_PHASE) (g := f) c.phase.toNat c.ring 0 obj low
  refine ⟨?_, ?_, State.bit_setBit_same _ _ _ _ _ rfl⟩
  · have kept := phase F.HIF_RING_STATE_HALTED rfl (by decide)
    have before := u.fld_setFld_bits (f := F.HIF_RING_STATE_HALT_INDEX) (g := F.HIF_RING_STATE_HALTED) c.index c.ring 0 rfl (by decide)
    have set := t.bit_setBit_same F.HIF_RING_STATE_HALTED true c.ring 0 rfl
    rw [halted] at set
    rw [index] at before
    simp only [State.bit, State.setBit, kept, before] at set ⊢
    exact set
  · have kept := phase F.HIF_RING_STATE_HALT_INDEX rfl (by decide)
    have set := u.fld_setFld_same F.HIF_RING_STATE_HALT_INDEX c.index c.ring 0
    rw [index] at set
    exact kept.trans set

theorem State.putCompletion_rings (t : State) {c : Cmd} (ring : c.ring < 256) (o : Result) :
    (t.putCompletion c o).host.rings = t.host.rings := by
  rw [(t.putCompletion_completedInto ring o).2]

theorem descError_of_foreign {t : State} {c : Cmd} (foreign : c.desc.opcode ∉ ringOpcodes c.ring) (before : List Cmd) :
    t.descError c before none none = some { status := 0x80, detail := c.desc.opcode } := by
  simp [State.descError, foreign]

/-- A descriptor whose opcode its ring does not take ends with its error, and its ring stops fetching (R79, R81, R94). -/
theorem State.validate_of_foreign (cmds : s.host.cmds = [c]) (ring : c.ring = r.val) (flush : c.flush = false) (fetched : c.stage = .fetched)
    (running : s.per.running = true) (foreign : c.desc.opcode ∉ ringOpcodes r.val) (outcome : c.outcome = none) (at_ : Nat) :
    s.validate r.val host none none at_ = .ok (s.failed c { status := 0x80, detail := c.desc.opcode }).flushAll := by
  rw [State.validate_single cmds ring flush fetched, descError_of_foreign (by rw [ring]; exact foreign)]
  simp only [State.failDesc_single cmds outcome running]

theorem exec_descriptorValidated_of_foreign (cmds : s.host.cmds = [c]) (ring : c.ring = r.val) (flush : c.flush = false)
    (fetched : c.stage = .fetched) (running : s.per.running = true) (foreign : c.desc.opcode ∉ ringOpcodes r.val)
    (outcome : c.outcome = none) (waits : c.waits = none) :
    (s.bit F.HIF_CQ_CTRL_ENABLE (s.ringCq r.val) = false →
      ∃ t, exec (.descriptorValidated r host none none) s = .next t ∧ (t.ring r.val).err = true ∧
        ∃ x ∈ t.host.cmds, x.outcome = some { status := 0x80, detail := c.desc.opcode } ∧ x.desc = c.desc) ∧
    (s.cqTakes (s.ringCq r.val) = true →
      ∃ t, exec (.descriptorValidated r host none none) s = .next t ∧ (t.ring r.val).err = true ∧ t.host.cmds = [] ∧
        t.bit F.HIF_RING_STATE_HALTED r.val = true ∧ t.fld F.HIF_RING_STATE_HALT_INDEX r.val = c.index % 2 ^ 12 ∧
        t.bit F.HIF_RING_STATE_HALT_PHASE r.val = c.phase) := by
  have validated := State.validate_of_foreign (host := host) cmds ring flush fetched running foreign outcome s.now
  have err := s.failed_err c { status := 0x80, detail := c.desc.opcode }
  have same := s.failed_sameObjs c { status := 0x80, detail := c.desc.opcode }
  have ring18 : (c.transferred { status := 0x80, detail := c.desc.opcode }).ring < 18 := by rw [show (c.transferred _).ring = c.ring from rfl, ring]; exact r.isLt
  have takes : (s.failed c { status := 0x80, detail := c.desc.opcode }).cqTakes ((s.failed c { status := 0x80, detail := c.desc.opcode }).ringCq c.ring) =
      s.cqTakes (s.ringCq r.val) := by
    rw [State.ringCq_of_same same (by decide) (by omega), State.cqTakes_of_same same rfl (by decide) (by decide) (s.ringCq_lt _), ring]
  have may : (s.failed c { status := 0x80, detail := c.desc.opcode }).mayComplete (c.transferred { status := 0x80, detail := c.desc.opcode }) =
      s.cqTakes (s.ringCq r.val) := by
    rw [← takes]
    simp only [State.mayComplete, Cmd.transferred, waits, Option.isSome_some, Nat.zero_le, decide_true, Bool.or_true, Bool.true_and,
      Option.all_none, Bool.and_true]
  rw [exec_descriptorValidated, validated]
  refine ⟨fun disabled => ?_, fun enabled => ?_⟩
  · rw [State.flushAll_waits rfl ring18 (by rw [may, State.cqTakes, disabled, Bool.false_and])]
    exact ⟨_, rfl, ring ▸ err, _, List.mem_singleton_self _, rfl, rfl⟩
  · rw [State.flushAll_single rfl ring18 rfl (by rw [may, enabled])]
    refine ⟨_, rfl, ?_, State.putCompletion_cmds .., ?_⟩
    · have kept := State.putCompletion_rings ({ (s.failed c { status := 0x80, detail := c.desc.opcode }) with
        host := { (s.failed c { status := 0x80, detail := c.desc.opcode }).host with cmds := [] } } : State)
        (c := c.transferred { status := 0x80, detail := c.desc.opcode }) (Nat.lt_trans ring18 (by decide)) { status := 0x80, detail := c.desc.opcode }
      rw [State.ring, kept, ← ring]
      exact err
    · rw [State.putCompletion_eq]
      have halts := fun t : State => t.haltedBy_shows (c.transferred { status := 0x80, detail := c.desc.opcode })
        (o := { status := 0x80, detail := c.desc.opcode }) (Nat.le_refl _)
      rw [← ring]
      exact halts _

end

end

/-- Settles O22: a ring that may fetch takes the descriptor at HEAD, and the only descriptor held is validated by what `descError` finds. -/
theorem descriptorsFetchedAndValidated : Obligations.DescriptorsFetchedAndValidated := by
  unfold Obligations.DescriptorsFetchedAndValidated
  refine ⟨fun r d s => ⟨exec_descriptorFetch_of_mayFetch, exec_descriptorFetch_of_not⟩, ?_⟩
  intro r host s c cmds ring flush fetched
  refine ⟨exec_descriptorValidated_of_valid cmds ring flush fetched, exec_descriptorValidated_of_reserved cmds ring flush fetched, ?_⟩
  exact exec_descriptorValidated_of_foreign cmds ring flush fetched

end Sys2Proof.Machine
end

section
/-! The collector takes the events on their way (R366): what that leaves as it was. -/

set_option Elab.async false

namespace Sys2Proof.Machine

@[simp] theorem State.drive_host (s : State) (g k : Nat) (on : Bool) (t : Nat) : (s.drive g k on t).host = s.host := by
  simp -implicitDefEqProofs [State.drive, apply_ite State.host]

@[simp] theorem State.cancel_host (s : State) (g k : Nat) : (s.cancel g k).host = s.host := by
  simp -implicitDefEqProofs [State.cancel]

@[simp] theorem State.plan_host (s : State) (g k t : Nat) (on : Bool) (kind : ChangeKind) : (s.plan g k t on kind).host = s.host := by
  simp -implicitDefEqProofs [State.plan]

@[simp] theorem State.countEaten_host (s : State) (g : Nat) : (s.countEaten g).host = s.host := by
  simp -implicitDefEqProofs [State.countEaten]

@[simp] theorem State.countHeld_host (s : State) (g : Nat) : (s.countHeld g).host = s.host := by
  simp -implicitDefEqProofs [State.countHeld]

@[simp] theorem State.makeChange_host (s : State) (g k : Nat) (c : SwChange) (t : Nat) (delayed : Bool) : (s.makeChange g k c t delayed).host = s.host := by
  simp -implicitDefEqProofs [State.makeChange, apply_ite State.host]

@[simp] theorem State.makeDue_host (s : State) (g t : Nat) (on : Bool) (k : Nat) : (s.makeDue g t on k).host = s.host := by
  unfold State.makeDue
  (repeat' split) <;> simp -implicitDefEqProofs

@[simp] theorem State.makeNow_host (s : State) (es : List (Nat × Nat)) (t : Nat) : (s.makeNow es t).host = s.host := by
  simp -implicitDefEqProofs [State.makeNow]

@[simp] theorem State.countTrigger_host (s : State) (t16 g : Nat) (b : Bool) : (s.countTrigger t16 g b).host = s.host := by
  simp -implicitDefEqProofs [State.countTrigger, apply_ite State.host]

@[simp] theorem State.countTriggers_host (s : State) (t16 g : Nat) : (s.countTriggers t16 g).host = s.host := by
  simp -implicitDefEqProofs [State.countTriggers]

@[simp] theorem State.restTo_host (s : State) (g t : Nat) (on : Bool) (k : Nat) : (s.restTo g t on k).host = s.host := by
  simp -implicitDefEqProofs [State.restTo, apply_ite State.host]

@[simp] theorem State.enterRest_host (s : State) (g st t : Nat) : (s.enterRest g st t).host = s.host := by
  simp -implicitDefEqProofs [State.enterRest]

@[simp] theorem State.enterState_host (s : State) (g st : Nat) (waiting : Bool) : (s.enterState g st waiting).host = s.host := by
  simp -implicitDefEqProofs [State.enterState, apply_ite State.host]

@[simp] theorem State.refreshGroup_host (s : State) (g : Nat) : (s.refreshGroup g).host = s.host := by
  simp -implicitDefEqProofs [State.refreshGroup, apply_ite State.host]

@[simp] theorem State.refreshGroups_host (s : State) : s.refreshGroups.host = s.host := by
  simp -implicitDefEqProofs [State.refreshGroups]

@[simp] theorem State.fenceUnit_host (s : State) (u : Nat) : (s.fenceUnit u).host = s.host := by
  simp -implicitDefEqProofs [State.fenceUnit]

@[simp] theorem State.dropUnsealed_host (s : State) : s.dropUnsealed.host = s.host := by
  simp -implicitDefEqProofs [State.dropUnsealed]

@[simp] theorem State.startTakeover_host (s : State) (u source stamp : Nat) : (s.startTakeover u source stamp).host = s.host := by
  simp -implicitDefEqProofs [State.startTakeover]

@[simp] theorem State.failTakeover_host (s : State) (cause : Nat) : (s.failTakeover cause).host = s.host := by
  unfold State.failTakeover
  split <;> simp -implicitDefEqProofs

@[simp] theorem State.abandonSwap_host (s : State) (cause position : Nat) (fence : Bool) : (s.abandonSwap cause position fence).host = s.host := by
  unfold State.abandonSwap
  split <;> simp -implicitDefEqProofs

@[simp] theorem State.asOf_host (s : State) (k : Kind) (stamp : Nat) : (s.asOf k stamp).host = s.host := by
  unfold State.asOf
  split <;> simp -implicitDefEqProofs

@[simp] theorem State.showBits_host (s : State) (src : Nat) : (s.showBits src).host = s.host := by
  unfold State.showBits
  split <;> simp -implicitDefEqProofs

@[simp] theorem State.noteRec_host (s : State) (m : Msg) (v : Verdict) : (s.noteRec m v).host = s.host := by
  simp -implicitDefEqProofs [State.noteRec, apply_ite State.host]

@[simp] theorem State.latch_host (s : State) (src : Nat) (v : Verdict) : (s.latch src v).host = s.host := by
  simp -implicitDefEqProofs [State.latch]

@[simp] theorem State.keepRecord_host (s : State) (e : EventRec) : (s.keepRecord e).host = s.host := by
  simp -implicitDefEqProofs [State.keepRecord]

@[simp] theorem State.noteFirst_host (s : State) (e : EventRec) : (s.noteFirst e).host = s.host := by
  simp -implicitDefEqProofs [State.noteFirst, apply_ite State.host]

@[simp] theorem State.logEntry_host (s : State) (e : EventRec) (message flags base : Nat) : (s.logEntry e message flags base).host = s.host := by
  simp -implicitDefEqProofs [State.logEntry, apply_ite State.host]

@[simp] theorem State.markSimul_host (s : State) (stamp : Nat) : (s.markSimul stamp).host = s.host := by
  simp -implicitDefEqProofs [State.markSimul]

@[simp] theorem State.dropFirst_host (s : State) (stamp : Nat) : (s.dropFirst stamp).host = s.host := by
  simp -implicitDefEqProofs [State.dropFirst]

@[simp] theorem State.logEvent_host (s : State) (m : Msg) (v : Verdict) (e : EventRec) (newLatch newProm first : Bool) : (s.logEvent m v e newLatch newProm first).host = s.host := by
  simp -implicitDefEqProofs [State.logEvent, apply_ite State.host]

@[simp] theorem State.reactSwap_host (s : State) (src stamp : Nat) : (s.reactSwap src stamp).host = s.host := by
  unfold State.reactSwap
  (repeat' split) <;> simp -implicitDefEqProofs [apply_ite State.host]

@[simp] theorem State.reactSafe_host (s : State) : s.reactSafe.host = s.host := by
  simp -implicitDefEqProofs [State.reactSafe]

@[simp] theorem State.frozenAt_host (s : State) (seq : Nat) : (s.frozenAt seq).host = s.host := by
  simp -implicitDefEqProofs [State.frozenAt]

@[simp] theorem State.freezeAt_host (s : State) (stamp : Nat) (copy : Bool) : (s.freezeAt stamp copy).host = s.host := by
  unfold State.freezeAt
  dsimp only
  split <;> simp -implicitDefEqProofs

@[simp] theorem State.noteFreeze_host (s : State) (sev stamp : Nat) : (s.noteFreeze sev stamp).host = s.host := by
  simp -implicitDefEqProofs [State.noteFreeze, apply_ite State.host]

theorem State.reactIncoming_host {s t : State} {src : Nat} (h : s.reactIncoming src = some t) : t.host = s.host := by
  unfold State.reactIncoming at h
  split at h
  · split at h
    · rw [← Option.some.inj h, State.failTakeover_host]
    · cases h
  · cases h

@[simp] theorem State.react_host (s0 : State) (m : Msg) (sev : Nat) : (s0.react m sev).host = s0.host := by
  unfold State.react
  dsimp only
  (repeat' split) <;> simp -implicitDefEqProofs
  all_goals
    rw [State.reactIncoming_host ‹_›]
    split <;> simp -implicitDefEqProofs

@[simp] theorem State.latchAsOf_host (s : State) (m : Msg) (v : Verdict) : (s.latchAsOf m v).host = s.host := by
  simp -implicitDefEqProofs [State.latchAsOf]

@[simp] theorem State.collectNew_host (s : State) (m : Msg) : (s.collectNew m).host = s.host := by
  simp -implicitDefEqProofs [State.collectNew, apply_ite State.host]

@[simp] theorem State.collectOn_host (s : State) (m : Msg) : (s.collectOn m).host = s.host := by
  simp -implicitDefEqProofs [State.collectOn, apply_ite State.host]

@[simp] theorem State.collect_host (s : State) (m : Msg) : (s.collect m).host = s.host := by
  unfold State.collect
  (repeat' split) <;> simp -implicitDefEqProofs

@[simp] theorem State.drainN_host (s : State) (k : Nat) : (s.drainN k).host = s.host := by
  induction k generalizing s with
  | zero => rfl
  | succ k ih =>
    unfold State.drainN
    split
    · rfl
    · simp -implicitDefEqProofs [ih]

@[simp] theorem State.drain_host (s : State) : s.drain.host = s.host := by
  simp -implicitDefEqProofs [State.drain]

@[simp] theorem State.takeFaults_host (s : State) (a : Nat) (outer : Bool) (bits stamp : Nat) : (s.takeFaults a outer bits stamp).host = s.host := by
  simp -implicitDefEqProofs [State.takeFaults, apply_ite State.host]

@[simp] theorem State.applyRw_host (s : State) (w : Wr) : (s.applyRw w).host = s.host := by
  simp -implicitDefEqProofs [State.applyRw]

@[simp] theorem State.keepSrc_host (s : State) (w : Wr) : (s.keepSrc w).host = s.host := by
  simp -implicitDefEqProofs [State.keepSrc]

@[simp] theorem State.fltSrc_host (s : State) (w : Wr) : (s.fltSrc w).1.host = s.host := by
  unfold State.fltSrc
  dsimp only
  (repeat' split) <;> simp -implicitDefEqProofs

@[simp] theorem State.sealPost_host (s : State) (p : SealPost) : (s.sealPost p).host = s.host := by
  unfold State.sealPost
  (repeat' split) <;> simp -implicitDefEqProofs [apply_ite State.host]

@[simp] theorem State.sealPosts_host (s : State) (q : Nat) : (s.sealPosts q).host = s.host := by
  simp -implicitDefEqProofs [State.sealPosts]

@[simp] theorem foldl_per {α : Type} (f : State → α → State) (h : ∀ s a, (f s a).per = s.per) (l : List α) (s : State) :
    (l.foldl f s).per = s.per := foldl_keeps State.per f h l s

@[simp] theorem State.forRange_per (s : State) (n : Nat) (f : State → Nat → State) (h : ∀ s a, (f s a).per = s.per) :
    (s.forRange n f).per = s.per := foldl_keeps State.per f h _ s

@[simp] theorem State.satInc_per (s : State) (cnt sat : Fld) (inst : Nat) (entry : Nat) : (s.satInc cnt sat inst entry).per = s.per := by
  simp -implicitDefEqProofs [State.satInc, apply_ite State.per]

@[simp] theorem State.drive_per (s : State) (g k : Nat) (on : Bool) (t : Nat) : (s.drive g k on t).per = s.per := by
  simp -implicitDefEqProofs [State.drive, apply_ite State.per]

@[simp] theorem State.cancel_per (s : State) (g k : Nat) : (s.cancel g k).per = s.per := by
  simp -implicitDefEqProofs [State.cancel]

@[simp] theorem State.plan_per (s : State) (g k t : Nat) (on : Bool) (kind : ChangeKind) : (s.plan g k t on kind).per = s.per := by
  simp -implicitDefEqProofs [State.plan]

@[simp] theorem State.countEaten_per (s : State) (g : Nat) : (s.countEaten g).per = s.per := by
  simp -implicitDefEqProofs [State.countEaten]

@[simp] theorem State.countHeld_per (s : State) (g : Nat) : (s.countHeld g).per = s.per := by
  simp -implicitDefEqProofs [State.countHeld]

@[simp] theorem State.makeChange_per (s : State) (g k : Nat) (c : SwChange) (t : Nat) (delayed : Bool) : (s.makeChange g k c t delayed).per = s.per := by
  simp -implicitDefEqProofs [State.makeChange, apply_ite State.per]

@[simp] theorem State.makeDue_per (s : State) (g t : Nat) (on : Bool) (k : Nat) : (s.makeDue g t on k).per = s.per := by
  unfold State.makeDue
  (repeat' split) <;> simp -implicitDefEqProofs

@[simp] theorem State.makeNow_per (s : State) (es : List (Nat × Nat)) (t : Nat) : (s.makeNow es t).per = s.per := by
  simp -implicitDefEqProofs [State.makeNow]

@[simp] theorem State.countTrigger_per (s : State) (t16 g : Nat) (b : Bool) : (s.countTrigger t16 g b).per = s.per := by
  simp -implicitDefEqProofs [State.countTrigger, apply_ite State.per]

@[simp] theorem State.countTriggers_per (s : State) (t16 g : Nat) : (s.countTriggers t16 g).per = s.per := by
  simp -implicitDefEqProofs [State.countTriggers]

@[simp] theorem State.restTo_per (s : State) (g t : Nat) (on : Bool) (k : Nat) : (s.restTo g t on k).per = s.per := by
  simp -implicitDefEqProofs [State.restTo, apply_ite State.per]

@[simp] theorem State.enterRest_per (s : State) (g st t : Nat) : (s.enterRest g st t).per = s.per := by
  simp -implicitDefEqProofs [State.enterRest]

@[simp] theorem State.enterState_per (s : State) (g st : Nat) (waiting : Bool) : (s.enterState g st waiting).per = s.per := by
  simp -implicitDefEqProofs [State.enterState, apply_ite State.per]

@[simp] theorem State.refreshGroup_per (s : State) (g : Nat) : (s.refreshGroup g).per = s.per := by
  simp -implicitDefEqProofs [State.refreshGroup, apply_ite State.per]

@[simp] theorem State.refreshGroups_per (s : State) : s.refreshGroups.per = s.per := by
  simp -implicitDefEqProofs [State.refreshGroups]

@[simp] theorem State.setFence_per (s : State) (b : FenceId) (v : Bool) : (s.setFence b v).per = s.per := by
  unfold State.setFence
  split <;> simp -implicitDefEqProofs

@[simp] theorem State.noteRedundancy_per (s : State) : s.noteRedundancy.per = s.per := by
  simp -implicitDefEqProofs [State.noteRedundancy, apply_ite State.per]

@[simp] theorem State.fenceUnit_per (s : State) (u : Nat) : (s.fenceUnit u).per = s.per := by
  simp -implicitDefEqProofs [State.fenceUnit]

@[simp] theorem State.dropUnsealed_per (s : State) : s.dropUnsealed.per = s.per := by
  simp -implicitDefEqProofs [State.dropUnsealed]

@[simp] theorem State.abandonBuild_per (s : State) : s.abandonBuild.per = s.per := by
  unfold State.abandonBuild
  split <;> simp -implicitDefEqProofs

@[simp] theorem State.startTakeover_per (s : State) (u source stamp : Nat) : (s.startTakeover u source stamp).per = s.per := by
  simp -implicitDefEqProofs [State.startTakeover]

@[simp] theorem State.failTakeover_per (s : State) (cause : Nat) : (s.failTakeover cause).per = s.per := by
  unfold State.failTakeover
  split <;> simp -implicitDefEqProofs

@[simp] theorem State.abandonSwap_per (s : State) (cause position : Nat) (fence : Bool) : (s.abandonSwap cause position fence).per = s.per := by
  unfold State.abandonSwap
  split <;> simp -implicitDefEqProofs

@[simp] theorem State.asOf_per (s : State) (k : Kind) (stamp : Nat) : (s.asOf k stamp).per = s.per := by
  unfold State.asOf
  split <;> simp -implicitDefEqProofs

@[simp] theorem State.showBits_per (s : State) (src : Nat) : (s.showBits src).per = s.per := by
  unfold State.showBits
  split <;> simp -implicitDefEqProofs

@[simp] theorem State.noteRec_per (s : State) (m : Msg) (v : Verdict) : (s.noteRec m v).per = s.per := by
  simp -implicitDefEqProofs [State.noteRec, apply_ite State.per]

@[simp] theorem State.latch_per (s : State) (src : Nat) (v : Verdict) : (s.latch src v).per = s.per := by
  simp -implicitDefEqProofs [State.latch]

@[simp] theorem State.keepRecord_per (s : State) (e : EventRec) : (s.keepRecord e).per = s.per := by
  simp -implicitDefEqProofs [State.keepRecord]

@[simp] theorem State.noteFirst_per (s : State) (e : EventRec) : (s.noteFirst e).per = s.per := by
  simp -implicitDefEqProofs [State.noteFirst, apply_ite State.per]

@[simp] theorem State.logEntry_per (s : State) (e : EventRec) (message flags base : Nat) : (s.logEntry e message flags base).per = s.per := by
  simp -implicitDefEqProofs [State.logEntry, apply_ite State.per]

@[simp] theorem State.markSimul_per (s : State) (stamp : Nat) : (s.markSimul stamp).per = s.per := by
  simp -implicitDefEqProofs [State.markSimul]

@[simp] theorem State.dropFirst_per (s : State) (stamp : Nat) : (s.dropFirst stamp).per = s.per := by
  simp -implicitDefEqProofs [State.dropFirst]

@[simp] theorem State.logEvent_per (s : State) (m : Msg) (v : Verdict) (e : EventRec) (newLatch newProm first : Bool) : (s.logEvent m v e newLatch newProm first).per = s.per := by
  simp -implicitDefEqProofs [State.logEvent, apply_ite State.per]

@[simp] theorem State.reactSwap_per (s : State) (src stamp : Nat) : (s.reactSwap src stamp).per = s.per := by
  unfold State.reactSwap
  (repeat' split) <;> simp -implicitDefEqProofs [apply_ite State.per]

@[simp] theorem State.reactSafe_per (s : State) : s.reactSafe.per = s.per := by
  simp -implicitDefEqProofs [State.reactSafe]

@[simp] theorem State.frozenAt_per (s : State) (seq : Nat) : (s.frozenAt seq).per = s.per := by
  simp -implicitDefEqProofs [State.frozenAt]

@[simp] theorem State.freezeAt_per (s : State) (stamp : Nat) (copy : Bool) : (s.freezeAt stamp copy).per = s.per := by
  unfold State.freezeAt
  dsimp only
  split <;> simp -implicitDefEqProofs

@[simp] theorem State.noteFreeze_per (s : State) (sev stamp : Nat) : (s.noteFreeze sev stamp).per = s.per := by
  simp -implicitDefEqProofs [State.noteFreeze, apply_ite State.per]

theorem State.reactIncoming_per {s t : State} {src : Nat} (h : s.reactIncoming src = some t) : t.per = s.per := by
  unfold State.reactIncoming at h
  split at h
  · split at h
    · rw [← Option.some.inj h, State.failTakeover_per]
    · cases h
  · cases h

@[simp] theorem State.react_per (s0 : State) (m : Msg) (sev : Nat) : (s0.react m sev).per = s0.per := by
  unfold State.react
  dsimp only
  (repeat' split) <;> simp -implicitDefEqProofs
  all_goals
    rw [State.reactIncoming_per ‹_›]
    split <;> simp -implicitDefEqProofs

@[simp] theorem State.latchAsOf_per (s : State) (m : Msg) (v : Verdict) : (s.latchAsOf m v).per = s.per := by
  simp -implicitDefEqProofs [State.latchAsOf]

@[simp] theorem State.collectNew_per (s : State) (m : Msg) : (s.collectNew m).per = s.per := by
  simp -implicitDefEqProofs [State.collectNew, apply_ite State.per]

@[simp] theorem State.collectOn_per (s : State) (m : Msg) : (s.collectOn m).per = s.per := by
  simp -implicitDefEqProofs [State.collectOn, apply_ite State.per]

@[simp] theorem State.collect_per (s : State) (m : Msg) : (s.collect m).per = s.per := by
  unfold State.collect
  (repeat' split) <;> simp -implicitDefEqProofs

@[simp] theorem State.drainN_per (s : State) (k : Nat) : (s.drainN k).per = s.per := by
  induction k generalizing s with
  | zero => rfl
  | succ k ih =>
    unfold State.drainN
    split
    · rfl
    · simp -implicitDefEqProofs [ih]

@[simp] theorem State.drain_per (s : State) : s.drain.per = s.per := by
  simp -implicitDefEqProofs [State.drain]

@[simp] theorem State.takeFaults_per (s : State) (a : Nat) (outer : Bool) (bits stamp : Nat) : (s.takeFaults a outer bits stamp).per = s.per := by
  simp -implicitDefEqProofs [State.takeFaults, apply_ite State.per]

@[simp] theorem State.applyRw_per (s : State) (w : Wr) : (s.applyRw w).per = s.per := by
  simp -implicitDefEqProofs [State.applyRw]

@[simp] theorem State.keepSrc_per (s : State) (w : Wr) : (s.keepSrc w).per = s.per := by
  simp -implicitDefEqProofs [State.keepSrc]

@[simp] theorem State.fltSrc_per (s : State) (w : Wr) : (s.fltSrc w).1.per = s.per := by
  unfold State.fltSrc
  dsimp only
  (repeat' split) <;> simp -implicitDefEqProofs

@[simp] theorem State.sealPost_per (s : State) (p : SealPost) : (s.sealPost p).per = s.per := by
  unfold State.sealPost
  (repeat' split) <;> simp -implicitDefEqProofs [apply_ite State.per]

@[simp] theorem State.sealPosts_per (s : State) (q : Nat) : (s.sealPosts q).per = s.per := by
  simp -implicitDefEqProofs [State.sealPosts]

@[simp] theorem State.fenceUnit_time (s : State) (u : Nat) : (s.fenceUnit u).time = s.time := by
  simp -implicitDefEqProofs [State.fenceUnit]

@[simp] theorem State.dropUnsealed_time (s : State) : s.dropUnsealed.time = s.time := by
  simp -implicitDefEqProofs [State.dropUnsealed]

@[simp] theorem State.startTakeover_time (s : State) (u source stamp : Nat) : (s.startTakeover u source stamp).time = s.time := by
  simp -implicitDefEqProofs [State.startTakeover]

@[simp] theorem State.failTakeover_time (s : State) (cause : Nat) : (s.failTakeover cause).time = s.time := by
  unfold State.failTakeover
  split <;> simp -implicitDefEqProofs

@[simp] theorem State.abandonSwap_time (s : State) (cause position : Nat) (fence : Bool) : (s.abandonSwap cause position fence).time = s.time := by
  unfold State.abandonSwap
  split <;> simp -implicitDefEqProofs

@[simp] theorem State.asOf_time (s : State) (k : Kind) (stamp : Nat) : (s.asOf k stamp).time = s.time := by
  unfold State.asOf
  split <;> simp -implicitDefEqProofs

@[simp] theorem State.showBits_time (s : State) (src : Nat) : (s.showBits src).time = s.time := by
  unfold State.showBits
  split <;> simp -implicitDefEqProofs

@[simp] theorem State.noteRec_time (s : State) (m : Msg) (v : Verdict) : (s.noteRec m v).time = s.time := by
  simp -implicitDefEqProofs [State.noteRec, apply_ite State.time]

@[simp] theorem State.latch_time (s : State) (src : Nat) (v : Verdict) : (s.latch src v).time = s.time := by
  simp -implicitDefEqProofs [State.latch]

@[simp] theorem State.keepRecord_time (s : State) (e : EventRec) : (s.keepRecord e).time = s.time := by
  simp -implicitDefEqProofs [State.keepRecord]

@[simp] theorem State.noteFirst_time (s : State) (e : EventRec) : (s.noteFirst e).time = s.time := by
  simp -implicitDefEqProofs [State.noteFirst, apply_ite State.time]

@[simp] theorem State.logEntry_time (s : State) (e : EventRec) (message flags base : Nat) : (s.logEntry e message flags base).time = s.time := by
  simp -implicitDefEqProofs [State.logEntry, apply_ite State.time]

@[simp] theorem State.markSimul_time (s : State) (stamp : Nat) : (s.markSimul stamp).time = s.time := by
  simp -implicitDefEqProofs [State.markSimul]

@[simp] theorem State.dropFirst_time (s : State) (stamp : Nat) : (s.dropFirst stamp).time = s.time := by
  simp -implicitDefEqProofs [State.dropFirst]

@[simp] theorem State.logEvent_time (s : State) (m : Msg) (v : Verdict) (e : EventRec) (newLatch newProm first : Bool) : (s.logEvent m v e newLatch newProm first).time = s.time := by
  simp -implicitDefEqProofs [State.logEvent, apply_ite State.time]

@[simp] theorem State.reactSwap_time (s : State) (src stamp : Nat) : (s.reactSwap src stamp).time = s.time := by
  unfold State.reactSwap
  (repeat' split) <;> simp -implicitDefEqProofs [apply_ite State.time]

@[simp] theorem State.reactSafe_time (s : State) : s.reactSafe.time = s.time := by
  simp -implicitDefEqProofs [State.reactSafe]

@[simp] theorem State.frozenAt_time (s : State) (seq : Nat) : (s.frozenAt seq).time = s.time := by
  simp -implicitDefEqProofs [State.frozenAt]

@[simp] theorem State.freezeAt_time (s : State) (stamp : Nat) (copy : Bool) : (s.freezeAt stamp copy).time = s.time := by
  unfold State.freezeAt
  dsimp only
  split <;> simp -implicitDefEqProofs

@[simp] theorem State.noteFreeze_time (s : State) (sev stamp : Nat) : (s.noteFreeze sev stamp).time = s.time := by
  simp -implicitDefEqProofs [State.noteFreeze, apply_ite State.time]

theorem State.reactIncoming_time {s t : State} {src : Nat} (h : s.reactIncoming src = some t) : t.time = s.time := by
  unfold State.reactIncoming at h
  split at h
  · split at h
    · rw [← Option.some.inj h, State.failTakeover_time]
    · cases h
  · cases h

@[simp] theorem State.react_time (s0 : State) (m : Msg) (sev : Nat) : (s0.react m sev).time = s0.time := by
  unfold State.react
  dsimp only
  (repeat' split) <;> simp -implicitDefEqProofs
  all_goals
    rw [State.reactIncoming_time ‹_›]
    split <;> simp -implicitDefEqProofs

@[simp] theorem State.latchAsOf_time (s : State) (m : Msg) (v : Verdict) : (s.latchAsOf m v).time = s.time := by
  simp -implicitDefEqProofs [State.latchAsOf]

@[simp] theorem State.collectNew_time (s : State) (m : Msg) : (s.collectNew m).time = s.time := by
  simp -implicitDefEqProofs [State.collectNew, apply_ite State.time]

@[simp] theorem State.collectOn_time (s : State) (m : Msg) : (s.collectOn m).time = s.time := by
  simp -implicitDefEqProofs [State.collectOn, apply_ite State.time]

@[simp] theorem State.collect_time (s : State) (m : Msg) : (s.collect m).time = s.time := by
  unfold State.collect
  (repeat' split) <;> simp -implicitDefEqProofs

@[simp] theorem State.drainN_time (s : State) (k : Nat) : (s.drainN k).time = s.time := by
  induction k generalizing s with
  | zero => rfl
  | succ k ih =>
    unfold State.drainN
    split
    · rfl
    · simp -implicitDefEqProofs [ih]

@[simp] theorem State.drain_time (s : State) : s.drain.time = s.time := by
  simp -implicitDefEqProofs [State.drain]

@[simp] theorem State.takeFaults_time (s : State) (a : Nat) (outer : Bool) (bits stamp : Nat) : (s.takeFaults a outer bits stamp).time = s.time := by
  simp -implicitDefEqProofs [State.takeFaults, apply_ite State.time]

@[simp] theorem State.applyRw_time (s : State) (w : Wr) : (s.applyRw w).time = s.time := by
  simp -implicitDefEqProofs [State.applyRw]

@[simp] theorem State.keepSrc_time (s : State) (w : Wr) : (s.keepSrc w).time = s.time := by
  simp -implicitDefEqProofs [State.keepSrc]

@[simp] theorem State.fltSrc_time (s : State) (w : Wr) : (s.fltSrc w).1.time = s.time := by
  unfold State.fltSrc
  dsimp only
  (repeat' split) <;> simp -implicitDefEqProofs

@[simp] theorem State.sealPost_time (s : State) (p : SealPost) : (s.sealPost p).time = s.time := by
  unfold State.sealPost
  (repeat' split) <;> simp -implicitDefEqProofs [apply_ite State.time]

@[simp] theorem State.sealPosts_time (s : State) (q : Nat) : (s.sealPosts q).time = s.time := by
  simp -implicitDefEqProofs [State.sealPosts]

@[simp] theorem State.noteRedundancy_boot (s : State) : s.noteRedundancy.boot = s.boot := by
  simp -implicitDefEqProofs [State.noteRedundancy, apply_ite State.boot]

@[simp] theorem State.fenceUnit_boot (s : State) (u : Nat) : (s.fenceUnit u).boot = s.boot := by
  simp -implicitDefEqProofs [State.fenceUnit]

@[simp] theorem State.dropUnsealed_boot (s : State) : s.dropUnsealed.boot = s.boot := by
  simp -implicitDefEqProofs [State.dropUnsealed]

@[simp] theorem State.abandonBuild_boot (s : State) : s.abandonBuild.boot = s.boot := by
  unfold State.abandonBuild
  split <;> simp -implicitDefEqProofs

@[simp] theorem State.startTakeover_boot (s : State) (u source stamp : Nat) : (s.startTakeover u source stamp).boot = s.boot := by
  simp -implicitDefEqProofs [State.startTakeover]

@[simp] theorem State.failTakeover_boot (s : State) (cause : Nat) : (s.failTakeover cause).boot = s.boot := by
  unfold State.failTakeover
  split <;> simp -implicitDefEqProofs

@[simp] theorem State.abandonSwap_boot (s : State) (cause position : Nat) (fence : Bool) : (s.abandonSwap cause position fence).boot = s.boot := by
  unfold State.abandonSwap
  split <;> simp -implicitDefEqProofs

@[simp] theorem State.asOf_boot (s : State) (k : Kind) (stamp : Nat) : (s.asOf k stamp).boot = s.boot := by
  unfold State.asOf
  split <;> simp -implicitDefEqProofs

@[simp] theorem State.showBits_boot (s : State) (src : Nat) : (s.showBits src).boot = s.boot := by
  unfold State.showBits
  split <;> simp -implicitDefEqProofs

@[simp] theorem State.noteRec_boot (s : State) (m : Msg) (v : Verdict) : (s.noteRec m v).boot = s.boot := by
  simp -implicitDefEqProofs [State.noteRec, apply_ite State.boot]

@[simp] theorem State.latch_boot (s : State) (src : Nat) (v : Verdict) : (s.latch src v).boot = s.boot := by
  simp -implicitDefEqProofs [State.latch]

@[simp] theorem State.keepRecord_boot (s : State) (e : EventRec) : (s.keepRecord e).boot = s.boot := by
  simp -implicitDefEqProofs [State.keepRecord]

@[simp] theorem State.noteFirst_boot (s : State) (e : EventRec) : (s.noteFirst e).boot = s.boot := by
  simp -implicitDefEqProofs [State.noteFirst, apply_ite State.boot]

@[simp] theorem State.logEntry_boot (s : State) (e : EventRec) (message flags base : Nat) : (s.logEntry e message flags base).boot = s.boot := by
  simp -implicitDefEqProofs [State.logEntry, apply_ite State.boot]

@[simp] theorem State.markSimul_boot (s : State) (stamp : Nat) : (s.markSimul stamp).boot = s.boot := by
  simp -implicitDefEqProofs [State.markSimul]

@[simp] theorem State.dropFirst_boot (s : State) (stamp : Nat) : (s.dropFirst stamp).boot = s.boot := by
  simp -implicitDefEqProofs [State.dropFirst]

@[simp] theorem State.logEvent_boot (s : State) (m : Msg) (v : Verdict) (e : EventRec) (newLatch newProm first : Bool) : (s.logEvent m v e newLatch newProm first).boot = s.boot := by
  simp -implicitDefEqProofs [State.logEvent, apply_ite State.boot]

@[simp] theorem State.reactSwap_boot (s : State) (src stamp : Nat) : (s.reactSwap src stamp).boot = s.boot := by
  unfold State.reactSwap
  (repeat' split) <;> simp -implicitDefEqProofs [apply_ite State.boot]

@[simp] theorem State.reactSafe_boot (s : State) : s.reactSafe.boot = s.boot := by
  simp -implicitDefEqProofs [State.reactSafe]

@[simp] theorem State.frozenAt_boot (s : State) (seq : Nat) : (s.frozenAt seq).boot = s.boot := by
  simp -implicitDefEqProofs [State.frozenAt]

@[simp] theorem State.freezeAt_boot (s : State) (stamp : Nat) (copy : Bool) : (s.freezeAt stamp copy).boot = s.boot := by
  unfold State.freezeAt
  dsimp only
  split <;> simp -implicitDefEqProofs

@[simp] theorem State.noteFreeze_boot (s : State) (sev stamp : Nat) : (s.noteFreeze sev stamp).boot = s.boot := by
  simp -implicitDefEqProofs [State.noteFreeze, apply_ite State.boot]

theorem State.reactIncoming_boot {s t : State} {src : Nat} (h : s.reactIncoming src = some t) : t.boot = s.boot := by
  unfold State.reactIncoming at h
  split at h
  · split at h
    · rw [← Option.some.inj h, State.failTakeover_boot]
    · cases h
  · cases h

@[simp] theorem State.react_boot (s0 : State) (m : Msg) (sev : Nat) : (s0.react m sev).boot = s0.boot := by
  unfold State.react
  dsimp only
  (repeat' split) <;> simp -implicitDefEqProofs
  all_goals
    rw [State.reactIncoming_boot ‹_›]
    split <;> simp -implicitDefEqProofs

@[simp] theorem State.latchAsOf_boot (s : State) (m : Msg) (v : Verdict) : (s.latchAsOf m v).boot = s.boot := by
  simp -implicitDefEqProofs [State.latchAsOf]

@[simp] theorem State.collectNew_boot (s : State) (m : Msg) : (s.collectNew m).boot = s.boot := by
  simp -implicitDefEqProofs [State.collectNew, apply_ite State.boot]

@[simp] theorem State.collectOn_boot (s : State) (m : Msg) : (s.collectOn m).boot = s.boot := by
  simp -implicitDefEqProofs [State.collectOn, apply_ite State.boot]

@[simp] theorem State.collect_boot (s : State) (m : Msg) : (s.collect m).boot = s.boot := by
  unfold State.collect
  (repeat' split) <;> simp -implicitDefEqProofs

@[simp] theorem State.drainN_boot (s : State) (k : Nat) : (s.drainN k).boot = s.boot := by
  induction k generalizing s with
  | zero => rfl
  | succ k ih =>
    unfold State.drainN
    split
    · rfl
    · simp -implicitDefEqProofs [ih]

@[simp] theorem State.drain_boot (s : State) : s.drain.boot = s.boot := by
  simp -implicitDefEqProofs [State.drain]

@[simp] theorem State.takeFaults_boot (s : State) (a : Nat) (outer : Bool) (bits stamp : Nat) : (s.takeFaults a outer bits stamp).boot = s.boot := by
  simp -implicitDefEqProofs [State.takeFaults, apply_ite State.boot]

@[simp] theorem State.applyRw_boot (s : State) (w : Wr) : (s.applyRw w).boot = s.boot := by
  simp -implicitDefEqProofs [State.applyRw]

@[simp] theorem State.keepSrc_boot (s : State) (w : Wr) : (s.keepSrc w).boot = s.boot := by
  simp -implicitDefEqProofs [State.keepSrc]

@[simp] theorem State.fltSrc_boot (s : State) (w : Wr) : (s.fltSrc w).1.boot = s.boot := by
  unfold State.fltSrc
  dsimp only
  (repeat' split) <;> simp -implicitDefEqProofs

@[simp] theorem State.sealPost_boot (s : State) (p : SealPost) : (s.sealPost p).boot = s.boot := by
  unfold State.sealPost
  (repeat' split) <;> simp -implicitDefEqProofs [apply_ite State.boot]

@[simp] theorem State.sealPosts_boot (s : State) (q : Nat) : (s.sealPosts q).boot = s.boot := by
  simp -implicitDefEqProofs [State.sealPosts]

end Sys2Proof.Machine
end

section
/-!
OBJ_WRITE at its application (R10, R11, R60, R80): what reaches the object, and what of the module its checks depend on.
-/

set_option Elab.async false

namespace Sys2Proof.Machine

section
variable {s : State} {src : Src} {d : Desc} {host : Nat}

/-! ### The state an action starts from, once more -/

theorem State.fenced_of_same {os : List Obj} {t : State} (same : SameObjs os s t) (fence : Obj.sysFence ∉ os) (f : FenceId) :
    t.fenced f = s.fenced f := by
  have entry : t.obj .sysFence 0 0 = s.obj .sysFence 0 0 := same _ 0 0 fence (by decide) (by decide)
  have fld : ∀ g : Fld, g.obj = .sysFence → t.fld g = s.fld g := fun g hg => by simp only [State.fld, hg, entry]
  cases f <;> simp only [State.fenced, State.nth, State.bit]
  case lane u l => split <;> rw [fld _ rfl]
  case unit u => split <;> rw [fld _ rfl]
  all_goals rw [fld _ rfl]

theorem State.mode_of_same {os : List Obj} {t : State} (same : SameObjs os s t) (mode : Obj.sysMode ∉ os) : t.mode = s.mode := by
  have entry : t.obj .sysMode 0 0 = s.obj .sysMode 0 0 := same _ 0 0 mode (by decide) (by decide)
  simp only [State.mode, State.fld, show F.SYS_MODE_MODE.obj = .sysMode from rfl, entry]

section
variable {b : State}

theorem Begun.mode (h : Begun s src d host b) : b.mode = s.mode := State.mode_of_same h.same (by decide)

theorem Begun.fenced (h : Begun s src d host b) (f : FenceId) : b.fenced f = s.fenced f := State.fenced_of_same h.same (by decide) f

theorem Begun.loopMode (h : Begun s src d host b) : b.loopMode = s.loopMode := by simp only [State.loopMode, h.mode]

theorem Begun.obj (h : Begun s src d host b) {o : Obj} (ho : o ∉ [Obj.hifRingApplied, .hifRingState]) {i e : Nat}
    (hi : i < 256) (he : e < 65536) : b.obj o i e = s.obj o i e := h.same o i e ho hi he

end

/-! ### A write at its application -/

/-- The data an OBJ_WRITE carries, inline or from its host buffer (R77). -/
theorem held_data {id off len data param : Nat} (carried : len ≤ 32 ∨ host = data) :
    (s.held src (wrDesc src id off len data param) host).data = data % 2 ^ (8 * len) := by
  have bytes : (s.held src (wrDesc src id off len data param) host).data =
      (if decide (32 < len) then host else if 32 < len then 0 else data % 2 ^ (8 * len)) % 2 ^ (8 * len) := rfl
  rw [bytes]
  by_cases long : 32 < len
  · rw [if_pos (by simpa using long), carried.resolve_left (by omega)]
  · rw [if_neg (by simpa using long), if_neg long, Nat.mod_mod]

/-- What the OBJ_WRITE of a range writes. -/
def wrOf (o : Obj) (i off len data : Nat) : Wr := { obj := o, inst := i, off := off, len := len, data := data % 2 ^ (8 * len) }

theorem State.effect_objWrite (t : State) {id off len data param i : Nat} {o : Obj} (named : objOf id = some o)
    (inst : instOf? id o = some i) (carried : len ≤ 32 ∨ host = data) (lands : Nat) :
    t.effect (s.held src (wrDesc src id off len data param) host) lands =
      t.objWrite (wrOf o i off len data) param (s.refOf src) lands := by
  have op : (s.held src (wrDesc src id off len data param) host).desc.opcode = 0x02 := rfl
  simp only [State.effect, op]
  rw [held_data carried]
  exact State.withObj_of named inst _

section
variable {t : State} {w : Wr} {param lands : Nat} {ref : CmdRef}

theorem State.objWrite_of_reserved (reserved : w.reserved = true) : t.objWrite w param ref lands = .error .reservedField := by
  rw [State.objWrite, if_pos reserved]

theorem State.objWrite_of_wrongMode (reserved : w.reserved = false) (allowed : t.writeAllowed w = false) :
    t.objWrite w param ref lands = .ok (t, some t.wrongMode) := by
  simp only [State.objWrite, reserved, allowed, Bool.false_eq_true, if_false, Bool.not_false, if_true]
  rfl

theorem State.objWrite_of_fenced {k : Nat} (reserved : w.reserved = false) (allowed : t.writeAllowed w = true) (fenced : t.writeFenced w = some k) :
    t.objWrite w param ref lands = .ok (t, some (blockReset k)) := by
  simp only [State.objWrite, reserved, allowed, fenced, Bool.false_eq_true, if_false, Bool.not_true]
  rfl

theorem State.objWrite_of_allowed (reserved : w.reserved = false) (allowed : t.writeAllowed w = true) (free : t.writeFenced w = none) :
    t.objWrite w param ref lands = t.objEffect w param ref lands := by
  simp only [State.objWrite, reserved, allowed, free, Bool.false_eq_true, if_false, Bool.not_true]

/-- Objects whose writes are allowed in every mode. -/
theorem State.writeAllowed_always (net : w.obj.netClass = false) (always : w.obj.writeIn = .always) : t.writeAllowed w = true := by
  unfold State.writeAllowed
  rw [net]
  simp only [Bool.false_eq_true, if_false]
  split
  · rename_i o heq; rw [heq] at always; exact absurd always (by decide)
  · rename_i o heq; rw [heq] at always; exact absurd always (by decide)
  · rw [always]; rfl

/-- Objects of classes 0x8 and 0x9: a write that changes no RW field is allowed in every mode (R308). -/
theorem State.writeAllowed_net (net : w.obj.netClass = true) (same : w.changes t = false) : t.writeAllowed w = true := by
  unfold State.writeAllowed
  rw [net, same]
  simp

/-- A write that touches no RW bit and clears no W1C bit changes nothing. -/
theorem Wr.entry_of_action {e : Nat} (rw_ : w.obj.accMask .rw &&& w.mask e = 0) (w1c : w.obj.accMask .w1c &&& w.bits e = 0) :
    w.entry t e = t.obj w.obj w.inst e := by
  simp [Wr.entry, rw_, w1c]

/-- A write that reaches neither an RW field nor a W1C bit written 1: an action and nothing else. -/
def Wr.actionOnly (w : Wr) : Bool := w.touched.all fun e => w.obj.accMask .rw &&& w.mask e == 0 && w.obj.accMask .w1c &&& w.bits e == 0

theorem Wr.changes_of_action (acts : w.actionOnly = true) : w.changes t = false := by
  simp only [Wr.changes, List.any_eq_false]
  intro e he
  have acts := List.all_eq_true.mp acts e he
  simp only [Bool.and_eq_true, beq_iff_eq] at acts
  simp [Wr.entry_of_action acts.1 acts.2]

theorem State.writeFenced_none (block : w.block = none) (debug : w.obj ≠ .secDebug) (mem : w.obj ≠ .secLanemem) : t.writeFenced w = none := by
  simp only [State.writeFenced, block, debug, mem, false_and, if_false]

theorem State.writeFenced_block {f : FenceId} {k : Nat} (block : w.block = some (f, k)) :
    t.writeFenced w = if t.fenced f then some k else none := by
  simp only [State.writeFenced, block]

end

/-! ### What a write's RW fields become (R10, R80) -/

theorem Obj.entries_le (o : Obj) : o.entries ≤ 65536 := by cases o <;> decide

theorem Wr.touched_lt {w : Wr} {e : Nat} (h : e ∈ w.touched) : e < w.obj.entries := by
  unfold Wr.touched at h
  dsimp only at h
  split at h
  · exact absurd h List.not_mem_nil
  · obtain ⟨i, _, hi⟩ := List.mem_filterMap.mp h
    split at hi
    · cases hi
      assumption
    · exact absurd hi (by simp)

theorem Wr.touched_lt_65536 {w : Wr} {e : Nat} (h : e ∈ w.touched) : e < 65536 := Nat.lt_of_lt_of_le (Wr.touched_lt h) w.obj.entries_le

theorem Wr.touched_nodup (w : Wr) : w.touched.Nodup := by
  unfold Wr.touched
  dsimp only
  split
  · exact List.nodup_nil
  · refine List.Nodup.filterMap (fun i j e hi hj => ?_) List.nodup_range
    simp only [Option.mem_def] at hi hj
    split at hi
    · split at hj
      · have first := Option.some.inj hi
        have second := Option.some.inj hj
        omega
      · exact absurd hj (by simp)
    · exact absurd hi (by simp)

theorem State.setObj_obj_eq (t : State) (o : Obj) {i e e' : Nat} (v : Nat) (hi : i < 256) (he : e < 65536) (he' : e' < 65536) :
    (t.setObj o i e v).obj o i e' = if e' = e then v else t.obj o i e' := by
  split
  case isTrue h => rw [h, State.obj_setObj_same]
  case isFalse h => exact t.obj_setObj_ne v fun k => h (objKey_inj hi hi he' he k).2.2

theorem Wr.entry_congr {w : Wr} {t u : State} {e : Nat} (h : u.obj w.obj w.inst e = t.obj w.obj w.inst e) : w.entry u e = w.entry t e := by
  unfold Wr.entry
  rw [h]

theorem State.foldl_entry (w : Wr) (hi : w.inst < 256) (es : List Nat) (he : ∀ e ∈ es, e < 65536) (nodup : es.Nodup) (t : State)
    {e : Nat} (small : e < 65536) :
    (es.foldl (fun s e => s.setObj w.obj w.inst e (w.entry s e)) t).obj w.obj w.inst e =
      if e ∈ es then w.entry t e else t.obj w.obj w.inst e := by
  induction es generalizing t with
  | nil => simp
  | cons x xs ih =>
    obtain ⟨fresh, nodup⟩ := List.nodup_cons.mp nodup
    have hx : x < 65536 := he x (List.mem_cons_self ..)
    have same := State.setObj_obj_eq t w.obj (e' := e) (w.entry t x) hi hx small
    rw [List.foldl_cons, ih (fun y hy => he y (List.mem_cons_of_mem _ hy)) nodup]
    by_cases last : e = x
    · subst last
      rw [if_neg fresh, same, if_pos rfl, if_pos (List.mem_cons_self ..)]
    · rw [if_neg last] at same
      rw [Wr.entry_congr same, same]
      simp [last]

/-- After a write each touched entry has taken its bits, and every other entry of the object is as it was. -/
theorem State.applyRw_obj (t : State) {w : Wr} (hi : w.inst < 256) {e : Nat} (he : e < 65536) :
    (t.applyRw w).obj w.obj w.inst e = if e ∈ w.touched then w.entry t e else t.obj w.obj w.inst e :=
  State.foldl_entry w hi w.touched (fun _ => Wr.touched_lt_65536) w.touched_nodup t he

theorem foldl_sameObjs {os : List Obj} {α : Type} {f : State → α → State} (l : List α) (h : ∀ s, ∀ a ∈ l, SameObjs os s (f s a)) (s : State) :
    SameObjs os s (l.foldl f s) := by
  induction l generalizing s with
  | nil => exact SameObjs.refl _ _
  | cons a l ih =>
    exact (h s a (List.mem_cons_self ..)).trans (ih (fun s x hx => h s x (List.mem_cons_of_mem _ hx)) _)

theorem State.applyRw_sameObjs (t : State) {w : Wr} (hi : w.inst < 256) : SameObjs [w.obj] t (t.applyRw w) :=
  foldl_sameObjs _ (fun s _ he => s.setObj_sameObjs _ _ hi (Wr.touched_lt_65536 he)) t

/-- A write changes nothing but its object. -/
theorem State.applyRw_frame (t : State) (w : Wr) : t.applyRw w = { t with objs := (t.applyRw w).objs } := by
  have fold : ∀ (es : List Nat) (t : State), es.foldl (fun s e => s.setObj w.obj w.inst e (w.entry s e)) t =
      { t with objs := (es.foldl (fun s e => s.setObj w.obj w.inst e (w.entry s e)) t).objs } := by
    intro es
    induction es with
    | nil => exact fun _ => rfl
    | cons e es ih =>
      intro t
      rw [List.foldl_cons, ih]
      rfl
  exact fold w.touched t

theorem State.setFld_sameObjs_at (t : State) (f : Fld) {i e : Nat} (v : Nat) (hi : i < 256) (he : e < 65536) :
    SameObjs [f.obj] t (t.setFld f v i e) := t.setObj_sameObjs _ _ hi he

section
variable {id off len data i : Nat} {o : Obj} {b : State}

/-- The state in which an action has ended while periods run. -/
def State.actedTo (s : State) (src : Src) (d : Desc) (host : Nat) (b t : State) (r : Result) : State :=
  t.closed (s.refOf src) r b.sealHere (s.held src d host)

/-- An OBJ_WRITE whose action ends at once (R80). -/
theorem Begun.write_ends (h : Begun s src (wrDesc src id off len data) data b) (running : s.per.running = true)
    (named : objOf id = some o ∧ instOf? id o = some i) {t : State} {r : Result}
    (effect : b.objWrite (wrOf o i off len data) 0 (s.refOf src) 0 = .ok (t, some r))
    (going : t.per.running = true) (carried : t.carries (s.refOf src)) :
    s.runWrite src id off len data = .next (s.actedTo src (wrDesc src id off len data) data b t r) ∧
      (s.actedTo src (wrDesc src id off len data) data b t r).endedWith src r.status := by
  rw [← State.effect_objWrite _ named.1 named.2 (Or.inr rfl)] at effect
  obtain ⟨runs, ended⟩ := h.ends running 0 effect going carried
  exact ⟨by rw [State.runWrite, runs]; rfl, ended⟩

/-- What an action that passes the checks of R80, and ends at once, does to every state. -/
structure Acts (o : Obj) (i off len data : Nat) (f : State → State) : Prop where
  effect : ∀ (b : State) (ref : CmdRef), b.objEffect (wrOf o i off len data) 0 ref 0 = .ok (f b, some done)
  reserved : (wrOf o i off len data).reserved = false
  per : ∀ b, (f b).per = b.per
  host : ∀ b, (f b).host = b.host

/-- Such an action while periods run. -/
theorem Begun.acts {f : State → State} (h : Begun s src (wrDesc src id off len data) data b) (running : s.per.running = true)
    (acts : Acts o i off len data f) (named : objOf id = some o ∧ instOf? id o = some i)
    (allowed : b.writeAllowed (wrOf o i off len data) = true) (free : b.writeFenced (wrOf o i off len data) = none) :
    s.runWrite src id off len data = .next (s.actedTo src (wrDesc src id off len data) data b (f b) done) ∧
      (s.actedTo src (wrDesc src id off len data) data b (f b) done).endedWith src 0x00 := by
  refine h.write_ends running named ((State.objWrite_of_allowed acts.reserved allowed free).trans (acts.effect b _)) ?_ ?_
  · rw [acts.per]
    exact h.running.trans running
  · exact State.carries_of_cmds h.carries (by rw [acts.host])

theorem Begun.acted_notedIn {d : Desc} {host : Nat} (h : Begun s src d host b) {t s' : State} {os : List Obj} (same : SameObjs os b t)
    (objs : s'.objs = s.objs) (hub : s'.host = s.host)
    (frame : t = { s' with objs := t.objs, host := b.host, per := { s'.per with step := b.per.step } }) (r : Result) :
    s'.notedIn (s.actedTo src d host b t r) os := h.closed_notedIn same objs hub frame r _

end

end

end Sys2Proof.Machine
end

section
/-! The statement of the counters' clears (R32, R139, R356, R372, R457). -/

set_option Elab.async false

namespace Sys2Proof.Machine

section
variable {s : State} {src : Src}

theorem exec_slackClr (src : Src) (e : Fin 24) (s : State) : exec (.slackClr src e) s = s.runWrite src 0x0002 (16 * e.val + 10) 1 0x02 := rfl
theorem exec_laneClr (src : Src) (e : Fin 24) (s : State) : exec (.laneClr src e) s = s.runWrite src (0xF004 + 64 * e.val) 4 1 0x02 := rfl
theorem exec_csStatusClr (src : Src) (i : Fin 96) (s : State) :
    exec (.csStatusClr src i) s = s.runWrite src (0x4002 + 64 * (i.val % 48) + 32 * (i.val / 48)) 8 1 0x04 := rfl
theorem exec_timeStatusClr (src : Src) (s : State) : exec (.timeStatusClr src) s = s.runWrite src 0x8001 2 1 0x02 := rfl
theorem exec_ethStatusClr (src : Src) (p : Fin 3) (s : State) :
    exec (.ethStatusClr src p) s = s.runWrite src (0x8041 + 64 * p.val) 1 1 0x40 := rfl
theorem exec_cycRxClr (src : Src) (r : Fin 16) (s : State) : exec (.cycRxClr src r) s = s.runWrite src (0x8400 + 64 * r.val) 14 1 0x08 := rfl
theorem exec_canStatusClr (src : Src) (c : Fin 4) (s : State) : exec (.canStatusClr src c) s = s.runWrite src (0x9002 + 64 * c.val) 8 1 0x04 := rfl
theorem exec_fioStatusClr (src : Src) (s : State) : exec (.fioStatusClr src) s = s.runWrite src 0xA003 13 1 0x08 := rfl
theorem exec_survClr (src : Src) (s : State) : exec (.survClr src) s = s.runWrite src 0xC002 0 1 0x02 := rfl
theorem exec_takeoversClr (src : Src) (s : State) : exec (.takeoversClr src) s = s.runWrite src 0xD002 0 1 0x80 := rfl
theorem exec_firstClr (src : Src) (hi : Fin 128) (s : State) : exec (.firstClr src hi) s = s.runWrite src 0xB000 2 1 (0x80 + hi.val) := rfl

theorem okWrite_eq (t : State) : okWrite t = .ok (t, some done) := rfl

theorem State.bit_of_zero {t : State} {f : Fld} {i e : Nat} (zero : t.fld f i e = 0) : t.bit f i e = false := by
  rw [State.bit, zero]
  rfl

theorem State.acted_fld {d : Desc} {host : Nat} (b t : State) (r : Result) (f : Fld) (i e : Nat) :
    (s.actedTo src d host b t r).fld f i e = t.fld f i e := rfl

theorem State.acted_bit {d : Desc} {host : Nat} (b t : State) (r : Result) (f : Fld) (i e : Nat) :
    (s.actedTo src d host b t r).bit f i e = t.bit f i e := rfl

/-! ### Clears of counters that stand in the state's own fields -/

theorem csStatus_id (i : Fin 96) : objOf (0x4002 + 64 * (i.val % 48) + 32 * (i.val / 48)) = some .csStatus ∧
    instOf? (0x4002 + 64 * (i.val % 48) + 32 * (i.val / 48)) .csStatus = some i.val := by decide +revert +kernel

theorem State.objEffect_csStatus {t : State} {w : Wr} (obj : w.obj = .csStatus) (param : Nat) (ref : CmdRef) (lands : Nat) :
    t.objEffect w param ref lands = okWrite (if w.actBit F.CS_STATUS_CLR then
      t.setSds w.inst { t.sds w.inst with ocCnt := 0, staleCnt := 0, ocSat := false, staleSat := false } else t) := by
  simp only [State.objEffect, obj]

/-- The counters of a sigma-delta input cleared. -/
def State.sdCleared (s : State) (i : Nat) : State :=
  s.setSds i { s.sds i with ocCnt := 0, staleCnt := 0, ocSat := false, staleSat := false }

theorem csStatus_acts (i : Nat) : Acts .csStatus i 8 1 0x04 (State.sdCleared · i) where
  effect b ref := by
    have clr : (wrOf .csStatus i 8 1 0x04).actBit F.CS_STATUS_CLR = true := show (wrOf .csStatus 0 8 1 0x04).actBit _ = true by decide +kernel
    rw [State.objEffect_csStatus rfl, if_pos clr]
    rfl
  reserved := show (wrOf .csStatus 0 8 1 0x04).reserved = false by decide +kernel
  per _ := rfl
  host _ := rfl

theorem csStatusClr_clears (running : s.per.running = true) (i : Fin 96)
    (acts : s.atApplication src (wrDesc src (0x4002 + 64 * (i.val % 48) + 32 * (i.val / 48)) 8 1 0x04) 0x04 = true) :
    ∃ t, exec (.csStatusClr src i) s = .next t ∧ t.endedWith src 0x00 ∧ ({ s with sd := t.sd } : State).notedIn t [] ∧
      (t.sds i.val).ocCnt = 0 ∧ (t.sds i.val).staleCnt = 0 ∧ ∀ k, k ≠ i.val → t.sds k = s.sds k := by
  obtain ⟨b, h⟩ := begun_of acts
  obtain ⟨runs, ended⟩ := h.acts running (csStatus_acts i.val) (csStatus_id i) (State.writeAllowed_always rfl rfl)
    (State.writeFenced_none rfl (Obj.noConfusion ·) (Obj.noConfusion ·))
  refine ⟨_, runs, ended, h.acted_notedIn (SameObjs.of_objs (by rfl) _) (by rfl) (by rfl) ?_ _, ?_, ?_, fun k hk => ?_⟩
  · rw [h.frame]
    rfl
  · exact congrArg SdSt.ocCnt (SMap.get_set_same ..)
  · exact congrArg SdSt.staleCnt (SMap.get_set_same ..)
  · exact (SMap.get_set_ne hk).trans (by rw [h.sd]; rfl)

/-! ### The other clears whose counters are not objects -/

theorem timeStatus_acts : Acts .timeStatus 0 2 1 0x02 fun b => { b with time := { b.time with steps := 0, stepsSat := false } } where
  effect b ref := by
    have clr : (wrOf .timeStatus 0 2 1 0x02).actBit F.TIME_STATUS_CLR = true := by decide +kernel
    have effect : b.objEffect (wrOf .timeStatus 0 2 1 0x02) 0 ref 0 = okWrite (if (wrOf .timeStatus 0 2 1 0x02).actBit F.TIME_STATUS_CLR then
      { b with time := { b.time with steps := 0, stepsSat := false } } else b) := rfl
    rw [effect, if_pos clr]
    rfl
  reserved := by decide +kernel
  per _ := rfl
  host _ := rfl

theorem timeStatusClr_clears (running : s.per.running = true) (acts : s.atApplication src (wrDesc src 0x8001 2 1 0x02) 0x02 = true) :
    ∃ t, exec (.timeStatusClr src) s = .next t ∧ t.endedWith src 0x00 ∧
      ({ s with time := { s.time with steps := 0, stepsSat := false } } : State).notedIn t [] := by
  obtain ⟨b, h⟩ := begun_of acts
  have same : (wrOf .timeStatus 0 2 1 0x02).changes b = false := Wr.changes_of_action (by decide +kernel)
  obtain ⟨runs, ended⟩ := h.acts running timeStatus_acts (by decide +kernel) (State.writeAllowed_net rfl same)
    (State.writeFenced_none rfl (Obj.noConfusion ·) (Obj.noConfusion ·))
  refine ⟨_, runs, ended, h.acted_notedIn (SameObjs.of_objs (by rfl) _) (by rfl) (by rfl) ?_ _⟩
  rw [h.frame]

theorem ethStatus_id (p : Fin 3) : objOf (0x8041 + 64 * p.val) = some .ethStatus ∧
    instOf? (0x8041 + 64 * p.val) .ethStatus = some p.val := by decide +revert +kernel

theorem ethStatus_acts (p : Nat) : Acts .ethStatus p 1 1 0x40 (State.ethClear · p) where
  effect b ref := by
    have clr : (wrOf .ethStatus p 1 1 0x40).actBit F.ETH_STATUS_CLR = true := show (wrOf .ethStatus 0 1 1 0x40).actBit _ = true by decide +kernel
    have effect : b.objEffect (wrOf .ethStatus p 1 1 0x40) 0 ref 0 =
      okWrite (if (wrOf .ethStatus p 1 1 0x40).actBit F.ETH_STATUS_CLR then b.ethClear p else b) := rfl
    rw [effect, if_pos clr]
    rfl
  reserved := show (wrOf .ethStatus 0 1 1 0x40).reserved = false by decide +kernel
  per _ := rfl
  host _ := rfl

theorem ethStatusClr_clears (running : s.per.running = true) (p : Fin 3)
    (acts : s.atApplication src (wrDesc src (0x8041 + 64 * p.val) 1 1 0x40) 0x40 = true) (free : s.fenced (.eth p.val) = false) :
    ∃ t, exec (.ethStatusClr src p) s = .next t ∧ t.endedWith src 0x00 ∧ ({ s with net := t.net } : State).notedIn t [] ∧
      (t.eths p.val).dropped = 0 ∧ (t.eths p.val).fcsErr = 0 ∧ (t.eths p.val).txqOvf = false := by
  obtain ⟨b, h⟩ := begun_of acts
  have same : (wrOf .ethStatus p.val 1 1 0x40).changes b = false := Wr.changes_of_action
    (show (wrOf .ethStatus 0 1 1 0x40).actionOnly = true by decide +kernel)
  obtain ⟨runs, ended⟩ := h.acts running (ethStatus_acts p.val) (ethStatus_id p) (State.writeAllowed_net rfl same)
    ((State.writeFenced_block rfl).trans (if_neg (by rw [h.fenced]; exact Bool.eq_false_iff.mp free)))
  refine ⟨_, runs, ended, h.acted_notedIn (SameObjs.of_objs (by rfl) _) (by rfl) (by rfl) ?_ _, ?_, ?_, ?_⟩
  · rw [h.frame]
    rfl
  · exact congrArg EthSt.dropped (SMap.get_set_same ..)
  · exact congrArg EthSt.fcsErr (SMap.get_set_same ..)
  · exact congrArg EthSt.txqOvf (SMap.get_set_same ..)

theorem canStatus_id (c : Fin 4) : objOf (0x9002 + 64 * c.val) = some .canStatus ∧
    instOf? (0x9002 + 64 * c.val) .canStatus = some c.val := by decide +revert +kernel

theorem canStatus_acts (c : Nat) : Acts .canStatus c 8 1 0x04 (State.canClear · c) where
  effect b ref := by
    have clr : (wrOf .canStatus c 8 1 0x04).actBit F.CAN_STATUS_CLR = true := show (wrOf .canStatus 0 8 1 0x04).actBit _ = true by decide +kernel
    have effect : b.objEffect (wrOf .canStatus c 8 1 0x04) 0 ref 0 =
      okWrite (if (wrOf .canStatus c 8 1 0x04).actBit F.CAN_STATUS_CLR then b.canClear c else b) := rfl
    rw [effect, if_pos clr]
    rfl
  reserved := show (wrOf .canStatus 0 8 1 0x04).reserved = false by decide +kernel
  per _ := rfl
  host _ := rfl

theorem canStatusClr_clears (running : s.per.running = true) (c : Fin 4)
    (acts : s.atApplication src (wrDesc src (0x9002 + 64 * c.val) 8 1 0x04) 0x04 = true) (free : s.fenced (.can c.val) = false) :
    ∃ t, exec (.canStatusClr src c) s = .next t ∧ t.endedWith src 0x00 ∧ ({ s with net := t.net } : State).notedIn t [] ∧
      (t.cans c.val).errFrames = 0 ∧ (t.cans c.val).rxLost = 0 ∧ (t.cans c.val).pending = (s.cans c.val).pending := by
  obtain ⟨b, h⟩ := begun_of acts
  have same : (wrOf .canStatus c.val 8 1 0x04).changes b = false := Wr.changes_of_action
    (show (wrOf .canStatus 0 8 1 0x04).actionOnly = true by decide +kernel)
  obtain ⟨runs, ended⟩ := h.acts running (canStatus_acts c.val) (canStatus_id c) (State.writeAllowed_net rfl same)
    ((State.writeFenced_block rfl).trans (if_neg (by rw [h.fenced]; exact Bool.eq_false_iff.mp free)))
  have net := h.net
  refine ⟨_, runs, ended, h.acted_notedIn (SameObjs.of_objs (by rfl) _) (by rfl) (by rfl) ?_ _, ?_, ?_, ?_⟩
  · rw [h.frame]
    rfl
  · exact congrArg CanSt.errFrames (SMap.get_set_same ..)
  · exact congrArg CanSt.rxLost (SMap.get_set_same ..)
  · refine (congrArg CanSt.pending (SMap.get_set_same ..)).trans ?_
    simp only [State.cans, net]

theorem fioStatus_acts : Acts .fioStatus 0 13 1 0x08 State.fioClear where
  effect b ref := by
    have clr : (wrOf .fioStatus 0 13 1 0x08).actBit F.FIO_STATUS_CLR = true := by decide +kernel
    have effect : b.objEffect (wrOf .fioStatus 0 13 1 0x08) 0 ref 0 =
      okWrite (if (wrOf .fioStatus 0 13 1 0x08).actBit F.FIO_STATUS_CLR then b.fioClear else b) := rfl
    rw [effect, if_pos clr]
    rfl
  reserved := by decide +kernel
  per _ := rfl
  host _ := rfl

theorem fioStatusClr_clears (running : s.per.running = true) (acts : s.atApplication src (wrDesc src 0xA003 13 1 0x08) 0x08 = true) :
    ∃ t, exec (.fioStatusClr src) s = .next t ∧ t.endedWith src 0x00 ∧
      ({ s with fio := { s.fio with bad0 := 0, bad1 := 0, retries := 0, sat := 0 } } : State).notedIn t [] := by
  obtain ⟨b, h⟩ := begun_of acts
  obtain ⟨runs, ended⟩ := h.acts running fioStatus_acts (by decide +kernel) (State.writeAllowed_always rfl rfl)
    (State.writeFenced_none rfl (Obj.noConfusion ·) (Obj.noConfusion ·))
  refine ⟨_, runs, ended, h.acted_notedIn (SameObjs.of_objs (by rfl) _) (by rfl) (by rfl) ?_ _⟩
  rw [h.frame]
  rfl

theorem survCtrl_clr_acts : Acts .survCtrl 0 0 1 0x02 State.survClear where
  effect b ref := by
    have acts : (wrOf .survCtrl 0 0 1 0x02).actBit F.SURV_CTRL_UNFREEZE = false ∧ (wrOf .survCtrl 0 0 1 0x02).actBit F.SURV_CTRL_CLR = true := by
      decide +kernel
    have effect : b.objEffect (wrOf .survCtrl 0 0 1 0x02) 0 ref 0 =
      okWrite (b.survCtrl ((wrOf .survCtrl 0 0 1 0x02).actBit F.SURV_CTRL_UNFREEZE) ((wrOf .survCtrl 0 0 1 0x02).actBit F.SURV_CTRL_CLR)) := rfl
    rw [effect, acts.1, acts.2]
    rfl
  reserved := by decide +kernel
  per _ := rfl
  host _ := rfl

theorem survClr_clears (running : s.per.running = true) (acts : s.atApplication src (wrDesc src 0xC002 0 1 0x02) 0x02 = true) :
    ∃ t, exec (.survClr src) s = .next t ∧ t.endedWith src 0x00 ∧
      ({ s with surv := { s.surv with fcAbandoned := 0, fcSat := false, bbSkip := false } } : State).notedIn t [] := by
  obtain ⟨b, h⟩ := begun_of acts
  obtain ⟨runs, ended⟩ := h.acts running survCtrl_clr_acts (by decide +kernel) (State.writeAllowed_always rfl rfl)
    (State.writeFenced_none rfl (Obj.noConfusion ·) (Obj.noConfusion ·))
  refine ⟨_, runs, ended, h.acted_notedIn (SameObjs.of_objs (by rfl) _) (by rfl) (by rfl) ?_ _⟩
  rw [h.frame]
  rfl

theorem redCtrl_clr_acts : Acts .redCtrl 0 0 1 0x80 fun b => { b with red := { b.red with takeovers := 0, takeoversSat := false } } where
  effect b ref := by
    have acts : (wrOf .redCtrl 0 0 1 0x80).actBit F.RED_CTRL_MIGRATE = false ∧ (wrOf .redCtrl 0 0 1 0x80).actBit F.RED_CTRL_UNRETIRE = false ∧
        (wrOf .redCtrl 0 0 1 0x80).actBit F.RED_CTRL_CLR = true := by decide +kernel
    obtain ⟨migrate, unretire, clr⟩ := acts
    have effect : b.objEffect (wrOf .redCtrl 0 0 1 0x80) 0 ref 0 =
      answer (b.redCtrl ((wrOf .redCtrl 0 0 1 0x80).actBit F.RED_CTRL_MIGRATE) ((wrOf .redCtrl 0 0 1 0x80).act F.RED_CTRL_LANE)
        ((wrOf .redCtrl 0 0 1 0x80).actBit F.RED_CTRL_UNRETIRE) ((wrOf .redCtrl 0 0 1 0x80).act F.RED_CTRL_UNIT)
        ((wrOf .redCtrl 0 0 1 0x80).actBit F.RED_CTRL_CLR)) := rfl
    rw [effect, migrate, unretire, clr]
    rfl
  reserved := by decide +kernel
  per _ := rfl
  host _ := rfl

theorem takeoversClr_clears (running : s.per.running = true) (acts : s.atApplication src (wrDesc src 0xD002 0 1 0x80) 0x80 = true) :
    ∃ t, exec (.takeoversClr src) s = .next t ∧ t.endedWith src 0x00 ∧
      ({ s with red := { s.red with takeovers := 0, takeoversSat := false } } : State).notedIn t [] := by
  obtain ⟨b, h⟩ := begun_of acts
  obtain ⟨runs, ended⟩ := h.acts running redCtrl_clr_acts (by decide +kernel) (State.writeAllowed_always rfl rfl)
    (State.writeFenced_none rfl (Obj.noConfusion ·) (Obj.noConfusion ·))
  refine ⟨_, runs, ended, h.acted_notedIn (SameObjs.of_objs (by rfl) _) (by rfl) (by rfl) ?_ _⟩
  rw [h.frame]

/-! ### Clears of counters that stand in objects -/

/-- Nothing but objects differs. -/
def State.objsOnly (s t : State) : Prop := t = { s with objs := t.objs }

theorem State.objsOnly.trans {s t u : State} (h : s.objsOnly t) (h' : t.objsOnly u) : s.objsOnly u := by
  unfold State.objsOnly at h h' ⊢
  rw [h', h]

theorem State.objsOnly.per {s t : State} (h : s.objsOnly t) : t.per = s.per := by rw [h]
theorem State.objsOnly.host {s t : State} (h : s.objsOnly t) : t.host = s.host := by rw [h]

theorem State.objsOnly.frame {s t b : State} {d : Desc} {host : Nat} (h : b.objsOnly t) (hb : Begun s src d host b) :
    t = { s with objs := t.objs, host := b.host, per := { s.per with step := b.per.step } } := by
  unfold State.objsOnly at h
  rw [h, hb.frame]

theorem State.setFld_objsOnly (s : State) (f : Fld) (v i e : Nat) : s.objsOnly (s.setFld f v i e) := rfl
theorem State.setBit_objsOnly (s : State) (f : Fld) (v : Bool) (i e : Nat) : s.objsOnly (s.setBit f v i e) := rfl

theorem State.applyRw_objsOnly (s : State) (w : Wr) : s.objsOnly (s.applyRw w) := s.applyRw_frame w

theorem State.zeroFlds_objsOnly (s : State) (i : Nat) (fs : List Fld) : s.objsOnly (s.zeroFlds i fs) := by
  induction fs generalizing s with
  | nil => rfl
  | cons f fs ih => exact (s.setFld_objsOnly f 0 i 0).trans (ih _)

theorem State.zeroFlds_sameObjs (s : State) {o : Obj} {i : Nat} (hi : i < 256) (fs : List Fld) (h : ∀ f ∈ fs, f.obj = o) :
    SameObjs [o] s (s.zeroFlds i fs) :=
  foldl_sameObjs fs (fun t f hf => h f hf ▸ t.setFld_sameObjs f 0 hi) s

/-- An entry of SYS.SLACK cleared. -/
def State.slackCleared (s : State) (e : Nat) : State :=
  ((s.setFld F.SYS_SLACK_MINSLACK 0x7FFFF 0 e).setFld F.SYS_SLACK_LATE 0 0 e).setBit F.SYS_SLACK_LATE_SAT false 0 e

theorem State.slackCleared_objsOnly (s : State) (e : Nat) : s.objsOnly (s.slackCleared e) :=
  ((s.setFld_objsOnly ..).trans (State.setFld_objsOnly ..)).trans (State.setBit_objsOnly ..)

theorem State.slackCleared_sameObjs (s : State) {e : Nat} (he : e < 65536) : SameObjs [.sysSlack] s (s.slackCleared e) :=
  ((s.setFld_sameObjs_at F.SYS_SLACK_MINSLACK _ (by decide) he).trans (State.setFld_sameObjs_at _ F.SYS_SLACK_LATE _ (by decide) he)).trans
    (State.setFld_sameObjs_at _ F.SYS_SLACK_LATE_SAT _ (by decide) he)

theorem State.slackCleared_shows (s : State) (e : Nat) : (s.slackCleared e).fld F.SYS_SLACK_MINSLACK 0 e = 0x7FFFF ∧
    (s.slackCleared e).fld F.SYS_SLACK_LATE 0 e = 0 ∧ (s.slackCleared e).bit F.SYS_SLACK_LATE_SAT 0 e = false ∧
    (s.slackCleared e).fld F.SYS_SLACK_BUSY 0 e = s.fld F.SYS_SLACK_BUSY 0 e := by
  unfold State.slackCleared
  generalize least : s.setFld F.SYS_SLACK_MINSLACK 0x7FFFF 0 e = t
  generalize late : t.setFld F.SYS_SLACK_LATE 0 0 e = u
  have keep : ∀ f : Fld, f.obj = .sysSlack → f.lo + f.width ≤ 80 → (u.setBit F.SYS_SLACK_LATE_SAT false 0 e).fld f 0 e = u.fld f 0 e :=
    fun f obj low => u.fld_setFld_bits (f := F.SYS_SLACK_LATE_SAT) _ 0 e obj (Or.inl low)
  have keep' : ∀ f : Fld, f.obj = .sysSlack → f.lo + f.width ≤ 64 → u.fld f 0 e = t.fld f 0 e :=
    fun f obj low => late ▸ t.fld_setFld_bits (f := F.SYS_SLACK_LATE) 0 0 e obj (Or.inl low)
  have busy : t.fld F.SYS_SLACK_BUSY 0 e = s.fld F.SYS_SLACK_BUSY 0 e :=
    least ▸ s.fld_setFld_bits (f := F.SYS_SLACK_MINSLACK) _ 0 e rfl (Or.inl (by decide))
  refine ⟨?_, ?_, State.bit_setBit_same _ _ _ _ _ rfl, ?_⟩
  · rw [keep _ rfl (by decide), keep' _ rfl (by decide), ← least, State.fld_setFld_same]
    decide
  · rw [keep _ rfl (by decide), ← late, State.fld_setFld_same]
    decide
  · rw [keep _ rfl (by decide), keep' _ rfl (by decide), busy]

theorem sysSlack_touched (e : Fin 24) : ((wrOf .sysSlack 0 (16 * e.val + 10) 1 0x02).touched.filter fun k =>
    (wrOf .sysSlack 0 (16 * e.val + 10) 1 0x02).actBit F.SYS_SLACK_CLR k) = [e.val] := by decide +revert +kernel

theorem sysSlack_reserved (e : Fin 24) : (wrOf .sysSlack 0 (16 * e.val + 10) 1 0x02).reserved = false := by decide +revert +kernel

theorem State.slackClear_single (s : State) {w : Wr} {e : Nat} (one : (w.touched.filter fun k => w.actBit F.SYS_SLACK_CLR k) = [e]) :
    s.slackClear w = s.slackCleared e := by
  rw [State.slackClear, one, List.foldl_cons, List.foldl_nil, State.slackCleared]

theorem sysSlack_acts (e : Fin 24) : Acts .sysSlack 0 (16 * e.val + 10) 1 0x02 (State.slackCleared · e.val) where
  effect b ref := by
    have effect : b.objEffect (wrOf .sysSlack 0 (16 * e.val + 10) 1 0x02) 0 ref 0 =
      okWrite (b.slackClear (wrOf .sysSlack 0 (16 * e.val + 10) 1 0x02)) := rfl
    rw [effect, State.slackClear_single _ (sysSlack_touched e)]
    exact okWrite_eq _
  reserved := sysSlack_reserved e
  per b := (b.slackCleared_objsOnly _).per
  host b := (b.slackCleared_objsOnly _).host

theorem sysSlack_id : objOf 0x0002 = some .sysSlack ∧ instOf? 0x0002 .sysSlack = some 0 := by decide +kernel

theorem slackClr_clears (running : s.per.running = true) (e : Fin 24)
    (acts : s.atApplication src (wrDesc src 0x0002 (16 * e.val + 10) 1 0x02) 0x02 = true) :
    ∃ t, exec (.slackClr src e) s = .next t ∧ t.endedWith src 0x00 ∧
      s.notedIn t [.sysSlack] ∧ t.fld F.SYS_SLACK_MINSLACK 0 e.val = 0x7FFFF ∧ t.fld F.SYS_SLACK_LATE 0 e.val = 0 ∧
      t.bit F.SYS_SLACK_LATE_SAT 0 e.val = false ∧ t.fld F.SYS_SLACK_BUSY 0 e.val = s.fld F.SYS_SLACK_BUSY 0 e.val := by
  obtain ⟨b, h⟩ := begun_of acts
  obtain ⟨runs, ended⟩ := h.acts running (sysSlack_acts e) sysSlack_id (State.writeAllowed_always rfl rfl)
    (State.writeFenced_none rfl (Obj.noConfusion ·) (Obj.noConfusion ·))
  have he : e.val < 65536 := by omega
  obtain ⟨least, late, sat, busy⟩ := b.slackCleared_shows e.val
  have before : b.fld F.SYS_SLACK_BUSY 0 e.val = s.fld F.SYS_SLACK_BUSY 0 e.val := by
    simp only [State.fld, h.obj (o := F.SYS_SLACK_BUSY.obj) (by decide) (show 0 < 256 by decide) he]
  exact ⟨_, runs, ended, h.acted_notedIn (b.slackCleared_sameObjs he) rfl rfl ((b.slackCleared_objsOnly e.val).frame h) _,
    (State.acted_fld ..).trans least, (State.acted_fld ..).trans late, (State.acted_bit ..).trans sat, (State.acted_fld ..).trans (busy.trans before)⟩

theorem engLane_id (e : Fin 24) : objOf (0xF004 + 64 * e.val) = some .engLane ∧
    instOf? (0xF004 + 64 * e.val) .engLane = some e.val := by decide +revert +kernel

theorem engLane_acts (e : Nat) : Acts .engLane e 4 1 0x02 (State.zeroFlds · e [F.ENG_LANE_PARITY, F.ENG_LANE_PARITY_SAT]) where
  effect b ref := by
    have clr : (wrOf .engLane e 4 1 0x02).actBit F.ENG_LANE_CLR = true := show (wrOf .engLane 0 4 1 0x02).actBit _ = true by decide +kernel
    have effect : b.objEffect (wrOf .engLane e 4 1 0x02) 0 ref 0 = okWrite (if (wrOf .engLane e 4 1 0x02).actBit F.ENG_LANE_CLR then
      b.zeroFlds e [F.ENG_LANE_PARITY, F.ENG_LANE_PARITY_SAT] else b) := rfl
    rw [effect, if_pos clr]
    rfl
  reserved := show (wrOf .engLane 0 4 1 0x02).reserved = false by decide +kernel
  per b := (b.zeroFlds_objsOnly ..).per
  host b := (b.zeroFlds_objsOnly ..).host

/-- Zeroed fields read 0: no field of the list is written again with another value. -/
theorem State.zeroFlds_fld (s : State) {o : Obj} {i : Nat} (fs : List Fld) (h : ∀ f ∈ fs, f.obj = o) (g : Fld) (hg : g.obj = o)
    (apart : ∀ f ∈ fs, f = g ∨ g.lo + g.width ≤ f.lo ∨ f.lo + f.width ≤ g.lo) (zero : g ∈ fs ∨ s.fld g i = 0) :
    (s.zeroFlds i fs).fld g i = 0 := by
  induction fs generalizing s with
  | nil => exact zero.resolve_left List.not_mem_nil
  | cons f fs ih =>
    have first : f = g ∨ s.fld g i = 0 ∨ g ∈ fs := by
      rcases zero with mem | zero
      · exact (List.mem_cons.mp mem).imp Eq.symm Or.inr
      · exact Or.inr (Or.inl zero)
    refine ih (s.setFld f 0 i) (fun x hx => h x (List.mem_cons_of_mem _ hx)) (fun x hx => apart x (List.mem_cons_of_mem _ hx)) ?_
    rcases apart f (List.mem_cons_self ..) with same | disjoint
    · subst same
      exact Or.inr (by rw [State.fld_setFld_same]; exact Nat.zero_mod _)
    · rcases first with same | zero | mem
      · subst same
        exact Or.inr (by rw [State.fld_setFld_same]; exact Nat.zero_mod _)
      · exact Or.inr ((s.fld_setFld_bits 0 i 0 (hg.trans (h f (List.mem_cons_self ..)).symm) disjoint).trans zero)
      · exact Or.inl mem

theorem laneClr_clears (running : s.per.running = true) (e : Fin 24)
    (acts : s.atApplication src (wrDesc src (0xF004 + 64 * e.val) 4 1 0x02) 0x02 = true) :
    ∃ t, exec (.laneClr src e) s = .next t ∧ t.endedWith src 0x00 ∧
      s.notedIn t [.engLane] ∧ t.fld F.ENG_LANE_PARITY e.val = 0 ∧ t.bit F.ENG_LANE_PARITY_SAT e.val = false := by
  obtain ⟨b, h⟩ := begun_of acts
  obtain ⟨runs, ended⟩ := h.acts running (engLane_acts e.val) (engLane_id e) (State.writeAllowed_always rfl rfl)
    (State.writeFenced_none rfl (Obj.noConfusion ·) (Obj.noConfusion ·))
  have zero := fun g => b.zeroFlds_fld (i := e.val) [F.ENG_LANE_PARITY, F.ENG_LANE_PARITY_SAT] (o := .engLane) (by decide) g
  exact ⟨_, runs, ended, h.acted_notedIn (b.zeroFlds_sameObjs (by omega) _ (by decide)) rfl rfl ((b.zeroFlds_objsOnly ..).frame h) _,
    (State.acted_fld ..).trans (zero F.ENG_LANE_PARITY rfl (by decide) (Or.inl (by decide))),
    (State.acted_bit ..).trans (State.bit_of_zero (zero F.ENG_LANE_PARITY_SAT rfl (by decide) (Or.inl (by decide))))⟩

theorem cycRx_id (r : Fin 16) : objOf (0x8400 + 64 * r.val) = some .cycRx ∧
    instOf? (0x8400 + 64 * r.val) .cycRx = some r.val := by decide +revert +kernel

/-- The counters of CYC.RX. -/
def cycRxCounters : List Fld := [F.CYC_RX_LATE_CNT, F.CYC_RX_DUP_CNT, F.CYC_RX_DIFF_CNT, F.CYC_RX_SAT]

theorem cycRx_acts (r : Nat) : Acts .cycRx r 14 1 0x08 fun b => (b.applyRw (wrOf .cycRx r 14 1 0x08)).zeroFlds r cycRxCounters where
  effect b ref := by
    have clr : (wrOf .cycRx r 14 1 0x08).actBit F.CYC_RX_CLR = true := show (wrOf .cycRx 0 14 1 0x08).actBit _ = true by decide +kernel
    have effect : b.objEffect (wrOf .cycRx r 14 1 0x08) 0 ref 0 =
      okWrite (if (wrOf .cycRx r 14 1 0x08).actBit F.CYC_RX_CLR then
        (b.applyRw (wrOf .cycRx r 14 1 0x08)).zeroFlds r cycRxCounters else b.applyRw (wrOf .cycRx r 14 1 0x08)) := rfl
    rw [effect, if_pos clr]
    exact okWrite_eq _
  reserved := show (wrOf .cycRx 0 14 1 0x08).reserved = false by decide +kernel
  per b := ((b.applyRw_objsOnly _).trans (State.zeroFlds_objsOnly ..)).per
  host b := ((b.applyRw_objsOnly _).trans (State.zeroFlds_objsOnly ..)).host

theorem cycRxClr_clears (running : s.per.running = true) (r : Fin 16)
    (acts : s.atApplication src (wrDesc src (0x8400 + 64 * r.val) 14 1 0x08) 0x08 = true) :
    ∃ t, exec (.cycRxClr src r) s = .next t ∧ t.endedWith src 0x00 ∧
      s.notedIn t [.cycRx] ∧ t.fld F.CYC_RX_LATE_CNT r.val = 0 ∧ t.fld F.CYC_RX_DUP_CNT r.val = 0 ∧ t.fld F.CYC_RX_DIFF_CNT r.val = 0 ∧
      t.fld F.CYC_RX_SAT r.val = 0 := by
  obtain ⟨b, h⟩ := begun_of acts
  have same : (wrOf .cycRx r.val 14 1 0x08).changes b = false := Wr.changes_of_action
    (show (wrOf .cycRx 0 14 1 0x08).actionOnly = true by decide +kernel)
  obtain ⟨runs, ended⟩ := h.acts running (cycRx_acts r.val) (cycRx_id r) (State.writeAllowed_net rfl same)
    (State.writeFenced_none rfl (Obj.noConfusion ·) (Obj.noConfusion ·))
  have hr : r.val < 256 := by omega
  have zero : ∀ g ∈ cycRxCounters, State.fld ((b.applyRw (wrOf .cycRx r.val 14 1 0x08)).zeroFlds r.val cycRxCounters) g r.val = 0 :=
    fun g hg => State.zeroFlds_fld _ cycRxCounters (o := .cycRx) (by decide) g ((by decide : ∀ g ∈ cycRxCounters, g.obj = .cycRx) g hg)
      ((by decide : ∀ g ∈ cycRxCounters, ∀ f ∈ cycRxCounters, f = g ∨ g.lo + g.width ≤ f.lo ∨ f.lo + f.width ≤ g.lo) g hg) (Or.inl hg)
  have same : SameObjs [.cycRx] b ((b.applyRw (wrOf .cycRx r.val 14 1 0x08)).zeroFlds r.val cycRxCounters) :=
    (b.applyRw_sameObjs (w := wrOf .cycRx r.val 14 1 0x08) hr).trans (State.zeroFlds_sameObjs _ hr cycRxCounters (show ∀ f ∈ cycRxCounters, f.obj = .cycRx by decide))
  exact ⟨_, runs, ended, h.acted_notedIn same rfl rfl (((b.applyRw_objsOnly _).trans (State.zeroFlds_objsOnly ..)).frame h) _,
    (State.acted_fld ..).trans (zero _ (by decide)), (State.acted_fld ..).trans (zero _ (by decide)),
    (State.acted_fld ..).trans (zero _ (by decide)), (State.acted_fld ..).trans (zero _ (by decide))⟩

/-! ### FIRST_CLR, whose byte holds fields of FLT.CFG too -/

/-- The write of the byte of FLT.CFG that holds FIRST_CLR. -/
abbrev firstWrite (hi : Nat) : Wr := wrOf .fltCfg 0 2 1 (0x80 + hi)

theorem firstWrite_bits (hi : Fin 128) : (firstWrite hi.val).reserved = false ∧ (firstWrite hi.val).actBit F.FLT_CFG_FIRST_CLR = true ∧
    (firstWrite hi.val).touched = [0] ∧ (firstWrite hi.val).mask 0 = 0xFF0000 ∧
    (firstWrite hi.val).bits 0 = (0x80 + hi.val) * 65536 := by decide +revert +kernel

theorem fltCfg_masks : Obj.accMask .fltCfg .rw = 0x7FFFFF ∧ Obj.accMask .fltCfg .w1c = 0 := by decide +kernel

/-- What the byte's bit `i` becomes: the seven fields' bits take those of `hi`, every other bit stands. -/
theorem firstWrite_entry (t : State) (hi : Fin 128) (i : Nat) :
    ((firstWrite hi.val).entry t 0).testBit i = if 16 ≤ i ∧ i < 23 then hi.val.testBit (i - 16) else (t.obj .fltCfg 0 0).testBit i := by
  obtain ⟨_, _, _, mask, bits⟩ := firstWrite_bits hi
  have entry : (firstWrite hi.val).entry t 0 = (t.obj .fltCfg 0 0 ^^^ (t.obj .fltCfg 0 0 &&& 127 * 2 ^ 16)) |||
      ((0x80 + hi.val) * 2 ^ 16 &&& 127 * 2 ^ 16) := by
    show ((t.obj .fltCfg 0 0 ^^^ (t.obj .fltCfg 0 0 &&& (Obj.accMask .fltCfg .rw &&& (firstWrite hi.val).mask 0))) |||
      ((firstWrite hi.val).bits 0 &&& (Obj.accMask .fltCfg .rw &&& (firstWrite hi.val).mask 0))) ^^^
      (t.obj .fltCfg 0 0 &&& (Obj.accMask .fltCfg .w1c &&& (firstWrite hi.val).bits 0)) = _
    rw [mask, bits, fltCfg_masks.1, fltCfg_masks.2]
    simp
  have seven : (127 : Nat) = 2 ^ 7 - 1 := rfl
  have low : (0x80 + hi.val).testBit (i - 16) = if i - 16 < 7 then hi.val.testBit (i - 16) else (0x80 + hi.val).testBit (i - 16) := by
    split
    · rename_i h
      rw [show 0x80 + hi.val = 2 ^ 7 + hi.val from rfl, Nat.testBit_two_pow_add_gt h]
    · rfl
  rw [entry, Nat.testBit_or, Nat.testBit_xor, Nat.testBit_and, Nat.testBit_and, Nat.testBit_mul_two_pow, Nat.testBit_mul_two_pow, seven,
    Nat.testBit_two_pow_sub_one, low]
  by_cases above : 16 ≤ i
  · by_cases below : i < 23
    · have : i - 16 < 7 := by omega
      simp [above, below, this]
    · have : ¬ i - 16 < 7 := by omega
      simp [below, this]
  · simp [above]

theorem firstWrite_same (t : State) (hi : Fin 128) (same : hi.val = getBits (t.obj .fltCfg 0 0) 16 7) :
    (firstWrite hi.val).changes t = false := by
  have entry : (firstWrite hi.val).entry t 0 = t.obj (firstWrite hi.val).obj (firstWrite hi.val).inst 0 := Nat.eq_of_testBit_eq fun i => by
    rw [firstWrite_entry]
    show _ = (t.obj .fltCfg 0 0).testBit i
    split
    · rename_i h
      rw [same, getBits, Nat.testBit_mod_two_pow, Nat.testBit_div_two_pow]
      simp [show i - 16 < 7 by omega, show i - 16 + 16 = i by omega]
    · rfl
  rw [Wr.changes, (firstWrite_bits hi).2.2.1]
  simp [entry]

theorem firstClr_allowed {b : State} (hi : Fin 128) (h : b.mode = .hold ∨ hi.val = getBits (b.obj .fltCfg 0 0) 16 7) :
    b.writeAllowed (firstWrite hi.val) = true := by
  have allowed : b.writeAllowed (firstWrite hi.val) = (b.modeIs .hold || !(firstWrite hi.val).changes b) := rfl
  rw [allowed]
  rcases h with hold | same
  · simp [State.modeIs, hold]
  · simp [firstWrite_same b hi same]

/-- FLT.FIRST and FLT.CFG after FIRST_CLR. -/
def State.firstCleared (s : State) (hi : Nat) : State := (s.applyRw (firstWrite hi)).setBit F.FLT_FIRST_VALID false

theorem State.firstCleared_objsOnly (s : State) (hi : Nat) : s.objsOnly (s.firstCleared hi) :=
  (s.applyRw_objsOnly _).trans (State.setBit_objsOnly ..)

theorem State.firstCleared_sameObjs (s : State) (hi : Nat) : SameObjs [.fltCfg, .fltFirst] s (s.firstCleared hi) :=
  ((s.applyRw_sameObjs (w := firstWrite hi) (show 0 < 256 by decide)).mono (show [Obj.fltCfg] ⊆ _ by decide)).trans
    ((State.setBit_sameObjs _ F.FLT_FIRST_VALID _ (by decide)).mono (show [Obj.fltFirst] ⊆ _ by decide))

theorem State.firstCleared_aliveEn (s : State) (hi : Fin 128) : (s.firstCleared hi.val).bit F.FLT_CFG_ALIVE_EN = hi.val.testBit 6 := by
  have entry : (s.firstCleared hi.val).obj .fltCfg 0 0 = (firstWrite hi.val).entry s 0 := by
    have stands : (s.firstCleared hi.val).obj .fltCfg 0 0 = (s.applyRw (firstWrite hi.val)).obj .fltCfg 0 0 :=
      State.setBit_sameObjs _ F.FLT_FIRST_VALID false (i := 0) (by decide) .fltCfg 0 0 (by decide) (by decide) (by decide)
    have written := s.applyRw_obj (w := firstWrite hi.val) (e := 0) (show 0 < 256 by decide) (by decide)
    rw [(firstWrite_bits hi).2.2.1] at written
    exact stands.trans written
  have bit := firstWrite_entry s hi 22
  rw [← entry, if_pos (by decide), Nat.testBit_eq_decide_div_mod_eq] at bit
  have shown : (s.firstCleared hi.val).bit F.FLT_CFG_ALIVE_EN = ((s.firstCleared hi.val).obj .fltCfg 0 0 / 2 ^ 22 % 2 != 0) := rfl
  rw [shown, ← bit]
  rcases Nat.mod_two_eq_zero_or_one ((s.firstCleared hi.val).obj .fltCfg 0 0 / 2 ^ 22) with h | h <;> rw [h] <;> rfl

/-- ALIVE low while ALIVE_EN is 0. -/
def State.aliveHeld (s : State) : State :=
  { s with flt := { s.flt with alive := if s.bit F.FLT_CFG_ALIVE_EN then s.flt.alive else false } }

theorem State.aliveHeld_eq (s : State) :
    s.aliveHeld = if s.bit F.FLT_CFG_ALIVE_EN then s else { s with flt := { s.flt with alive := false } } := by
  unfold State.aliveHeld
  split <;> rfl

theorem State.fltCfg_of_clr (s : State) {w : Wr} (clr : w.actBit F.FLT_CFG_FIRST_CLR = true) :
    s.fltCfg w = ((s.applyRw w).setBit F.FLT_FIRST_VALID false).aliveHeld := by
  simp only [State.fltCfg, clr, if_true]
  exact (State.aliveHeld_eq _).symm

theorem State.fltCfg_firstClr (s : State) (hi : Fin 128) : s.fltCfg (firstWrite hi.val) = (s.firstCleared hi.val).aliveHeld :=
  s.fltCfg_of_clr (firstWrite_bits hi).2.1

theorem State.aliveHeld_per (s : State) : s.aliveHeld.per = s.per := rfl
theorem State.aliveHeld_host (s : State) : s.aliveHeld.host = s.host := rfl
theorem State.aliveHeld_bit (s : State) (f : Fld) (i e : Nat) : s.aliveHeld.bit f i e = s.bit f i e := rfl
theorem State.aliveHeld_sameObjs (s : State) (os : List Obj) : SameObjs os s s.aliveHeld := SameObjs.of_objs rfl os

theorem firstClr_acts (hi : Fin 128) : Acts .fltCfg 0 2 1 (0x80 + hi.val) fun b => (b.firstCleared hi.val).aliveHeld where
  effect b ref := by
    have effect : b.objEffect (firstWrite hi.val) 0 ref 0 = okWrite (b.fltCfg (firstWrite hi.val)) := rfl
    rw [effect, State.fltCfg_firstClr]
    exact okWrite_eq _
  reserved := (firstWrite_bits hi).1
  per b := (State.aliveHeld_per _).trans (b.firstCleared_objsOnly _).per
  host b := (State.aliveHeld_host _).trans (b.firstCleared_objsOnly _).host

theorem fltCfg_id : objOf 0xB000 = some .fltCfg ∧ instOf? 0xB000 .fltCfg = some 0 := by decide +kernel

theorem firstClr_clears (running : s.per.running = true) (hi : Fin 128)
    (acts : s.atApplication src (wrDesc src 0xB000 2 1 (0x80 + hi.val)) (0x80 + hi.val) = true)
    (may : s.mode = .hold ∨ hi.val = getBits (s.obj .fltCfg 0 0) 16 7) :
    ∃ t, exec (.firstClr src hi) s = .next t ∧ t.endedWith src 0x00 ∧ t.bit F.FLT_FIRST_VALID = false ∧
      t.bit F.FLT_CFG_ALIVE_EN = hi.val.testBit 6 ∧
      ({ s with flt := { s.flt with alive := t.flt.alive } } : State).notedIn t [.fltCfg, .fltFirst] := by
  obtain ⟨b, h⟩ := begun_of acts
  rw [← h.mode, ← h.obj (o := .fltCfg) (by decide) (show 0 < 256 by decide) (show 0 < 65536 by decide)] at may
  obtain ⟨runs, ended⟩ := h.acts running (firstClr_acts hi) fltCfg_id (firstClr_allowed hi may)
    (State.writeFenced_none rfl (Obj.noConfusion ·) (Obj.noConfusion ·))
  have cleared : (b.firstCleared hi.val).bit F.FLT_FIRST_VALID = false := State.bit_setBit_same _ _ _ _ _ rfl
  have aliveEn := b.firstCleared_aliveEn hi
  have same := b.firstCleared_sameObjs hi.val
  have frame := (b.firstCleared_objsOnly hi.val).frame h
  generalize b.firstCleared hi.val = c at runs ended cleared aliveEn same frame
  refine ⟨_, runs, ended, (State.acted_bit ..).trans ((c.aliveHeld_bit ..).trans cleared),
    (State.acted_bit ..).trans ((c.aliveHeld_bit ..).trans aliveEn),
    h.acted_notedIn (same.trans (c.aliveHeld_sameObjs _)) (by rfl) (by rfl) ?_ _⟩
  rw [State.aliveHeld, frame]
  rfl

/-- Settles O38. -/
theorem countersClear : Obligations.CountersClear := by
  unfold Obligations.CountersClear
  intro src s running acts
  exact ⟨slackClr_clears running, laneClr_clears running, csStatusClr_clears running, timeStatusClr_clears running,
    ethStatusClr_clears running, cycRxClr_clears running, canStatusClr_clears running, fioStatusClr_clears running,
    survClr_clears running, takeoversClr_clears running, firstClr_clears running⟩

end

end Sys2Proof.Machine
end

section
/-! A write at a fenced CAN channel in CONFIGURE (R60): the refutation of O26. -/

set_option Elab.async false

namespace Sys2Proof.Machine

/-- CONFIGURE, CAN channel 0 fenced while its reset runs. -/
def fencedCan : State := Tests.idle.setNth F.SYS_FENCE_CAN 0 true

/-- A write of 3 to LEN of CAN.TXSLOT of channel 0. -/
abbrev txslotWrite : Wr := { obj := .canTxslot, inst := 0, off := 6, len := 1, data := 3 % 2 ^ (8 * 1) }

theorem fencedCan_atApplication : fencedCan.atApplication Tests.s0 (wrDesc Tests.s0 0x9005 6 1 3) 3 = true := by decide +kernel

theorem fencedCan_configure : fencedCan.per.running = false ∧ txslotWrite.reserved = false ∧ 0 ∈ txslotWrite.touched := by decide +kernel

theorem fencedCan_writes : txslotWrite.entry (fencedCan.begun Tests.s0 (wrDesc Tests.s0 0x9005 6 1 3) 3) 0 = 3 * 2 ^ 48 := by decide +kernel

/-- An entry of CAN.TXSLOT of channel 0 after a command that has a next state. -/
def txslotAfter : Out → Option Nat
  | .next t => some (t.obj .canTxslot 0 0)
  | _ => none

/-- BLOCK_RESET: the write changes no object. -/
theorem fencedCan_blocked : txslotAfter (exec (.objWrite Tests.s0 0x9005 6 1 3 0) fencedCan) = some 0 := by decide +kernel

/-- Refutes O26: in CONFIGURE, as in every mode, a write at a fenced CAN channel ends BLOCK_RESET, and its RW fields do not take the bytes
written. -/
theorem not_objWriteSetsFields : ¬ Obligations.ObjWriteSetsFields := by
  unfold Obligations.ObjWriteSetsFields
  intro h
  obtain ⟨idle, reserved, touched⟩ := fencedCan_configure
  obtain ⟨-, configure, -⟩ := h Tests.s0 0x9005 6 1 3 0 .canTxslot 0 fencedCan fencedCan_atApplication (by decide) (by decide)
  obtain ⟨t, next, ⟨taken, -⟩, -⟩ := configure idle reserved ⟨by decide, Obj.noConfusion⟩
  have after := fencedCan_blocked
  rw [next] at after
  have written := taken 0 touched
  rw [show t.obj .canTxslot 0 0 = 0 from Option.some.inj after] at written
  exact absurd (written.trans fencedCan_writes) (by decide)

end Sys2Proof.Machine
end

section
/-! The statements of ABORT and SWAP (R97, R349, R350). -/

set_option Elab.async false

namespace Sys2Proof.Machine

section
variable {s b : State} {src : Src} {d : Desc} {host : Nat}

/-! ### ABORT at its application -/

theorem State.effect_abort (t : State) (op : d.opcode = 0x04) (lands : Nat) :
    t.effect (s.held src d host) lands = .ok (t.abort (t.abortTarget d.param) (s.refOf src)) := by
  have held : (s.held src d host).desc.opcode = 0x04 := op
  simp only [State.effect, held]
  rfl

/-- The descriptor an ABORT waits for: the hub keeps it with the ABORT. -/
def State.waitFor (s : State) (t self : CmdRef) : State := s.mapCmd self fun c => { c with waits := some t }

variable {t : CmdRef}

theorem State.abort_of_nothing (unheld : b.host.cmds.find? (·.is t) = none) (fetched : b.unfetched t = false) (kept : b.discarded t = false)
    (self : CmdRef) : b.abort t self = (b, some { status := 0x03, detail := 0 }) := by
  simp only [State.abort, unheld, fetched, kept, Bool.or_self, Bool.false_eq_true, if_false]

theorem State.abort_of_unfetched (unheld : b.host.cmds.find? (·.is t) = none) (ahead : b.unfetched t = true ∨ b.discarded t = true)
    {self : CmdRef} (own : t.1 = self.1) :
    b.abort t self = ({ b with host := { b.host with early := b.host.early ++ [(t, refDetail self)] } }, some { status := 0x02, detail := 0x01 }) := by
  have ahead : (b.unfetched t || b.discarded t) = true := by simpa using ahead
  simp only [State.abort, unheld, ahead, own, if_true]

/-- A held command withdrawn. -/
def Cmd.withdraw (c : Cmd) (detail : Nat) : Cmd := { c with withdrawn := some (c.withdrawn.getD detail) }

theorem State.abort_of_unapplied {c : Cmd} {self : CmdRef} (held : b.host.cmds.find? (·.is t) = some c) (stage : c.stage ≠ .applied)
    (other : t.1 ≠ self.1) : b.abort t self = ((b.mapCmd t (Cmd.withdraw · (refDetail self))).waitFor t self, none) := by
  have ne : t ≠ self := fun h => other (by rw [h])
  simp only [State.abort, held, ne, stage, other, if_false, if_true, ne_eq, not_false_eq_true]
  rfl

theorem State.abort_of_ended {c : Cmd} {self : CmdRef} (held : b.host.cmds.find? (·.is t) = some c) (stage : c.stage = .applied)
    (out : c.outcome.isSome = true) (ne : t ≠ self) : b.abort t self = (b.waitFor t self, some { status := 0x03, detail := 0 }) := by
  simp only [State.abort, held, ne, stage, out, if_false, if_true, ne_eq, not_true_eq_false]
  rfl

/-- A change of commands that leaves ring, position, stage and outcome leaves what the hub carries. -/
theorem State.carries_mapCmd {ref : CmdRef} (h : b.carries ref) (r : CmdRef) {f : Cmd → Cmd}
    (same : ∀ c, (f c).ring = c.ring ∧ (f c).index = c.index ∧ (f c).phase = c.phase ∧ (f c).stage = c.stage ∧ (f c).outcome = c.outcome) :
    (b.mapCmd r f).carries ref := by
  obtain ⟨⟨c, hc, is, stage, open_⟩, clear⟩ := h
  have keeps : ∀ x : Cmd, (if x.is r then f x else x).ring = x.ring ∧ (if x.is r then f x else x).index = x.index ∧
      (if x.is r then f x else x).phase = x.phase ∧ (if x.is r then f x else x).stage = x.stage ∧
      (if x.is r then f x else x).outcome = x.outcome := fun x => by
    split
    · exact same x
    · exact ⟨rfl, rfl, rfl, rfl, rfl⟩
  refine ⟨⟨_, List.mem_map.mpr ⟨c, hc, rfl⟩, ?_, ?_, ?_⟩, fun x hx mine => ?_⟩
  · obtain ⟨ring, index, phase, -, -⟩ := keeps c
    rw [Cmd.is_iff, ring, index, phase]
    exact Cmd.is_iff.mp is
  · exact (keeps c).2.2.2.1.trans stage
  · exact (keeps c).2.2.2.2.trans open_
  · obtain ⟨y, hy, rfl⟩ := List.mem_map.mp hx
    obtain ⟨ring, -, -, stage, -⟩ := keeps y
    exact stage.trans (clear y hy (ring.symm.trans mine))

theorem State.carries_waitFor {ref : CmdRef} (h : b.carries ref) (t self : CmdRef) : (b.waitFor t self).carries ref :=
  State.carries_mapCmd h self fun _ => ⟨rfl, rfl, rfl, rfl, rfl⟩

/-! ### The statement -/

theorem Begun.abort_nothing (h : Begun s src d 0 b) (op : d.opcode = 0x04) (running : s.per.running = true)
    (unheld : b.host.cmds.find? (·.is (b.abortTarget d.param)) = none) (fetched : b.unfetched (b.abortTarget d.param) = false)
    (kept : b.discarded (b.abortTarget d.param) = false) :
    ∃ u, outOf (s.runDesc src d 0 0) = .next u ∧ u.endedWith src 0x03 ∧ s.notedIn u [] := by
  have effect := State.effect_abort (s := s) (src := src) (host := 0) b op 0
  rw [State.abort_of_nothing unheld fetched kept] at effect
  obtain ⟨runs, ended⟩ := h.ends running 0 effect (h.running.trans running) h.carries
  exact ⟨_, by rw [runs]; rfl, ended, h.notedIn _ _⟩

theorem Begun.abort_unfetched (h : Begun s src d 0 b) (op : d.opcode = 0x04) (running : s.per.running = true)
    (unheld : b.host.cmds.find? (·.is (b.abortTarget d.param)) = none)
    (ahead : b.unfetched (b.abortTarget d.param) = true ∨ b.discarded (b.abortTarget d.param) = true)
    (own : (b.abortTarget d.param).1 = src.ring.val) :
    ∃ u, outOf (s.runDesc src d 0 0) = .next u ∧ u.endedWith src 0x02 ∧ ∃ det, (b.abortTarget d.param, det) ∈ u.host.early := by
  have effect := State.effect_abort (s := s) (src := src) (host := 0) b op 0
  rw [State.abort_of_unfetched unheld ahead (self := s.refOf src) own] at effect
  obtain ⟨runs, ended⟩ := h.ends running 0 effect (h.running.trans running) (State.carries_of_cmds h.carries rfl)
  exact ⟨_, by rw [runs]; rfl, ended, _, List.mem_append_right _ (List.mem_singleton_self _)⟩

theorem Begun.find_first (h : Begun s src d host b) {c : Cmd} (only : s.host.cmds = [c]) (is : c.is t = true) :
    b.host.cmds.find? (·.is t) = some c := by
  rw [h.cmds, only]
  exact List.find?_cons_of_pos (p := fun c : Cmd => c.is t) is

theorem Begun.abort_unapplied (h : Begun s src d 0 b) (op : d.opcode = 0x04) {c : Cmd} (only : s.host.cmds = [c])
    (is : c.is (b.abortTarget d.param) = true) (stage : c.stage ≠ .applied) (other : (b.abortTarget d.param).1 ≠ src.ring.val) :
    ∃ u, outOf (s.runDesc src d 0 0) = .next u ∧ u.runsOn src ∧ ∃ x ∈ u.host.cmds, x.is (b.abortTarget d.param) = true ∧
      x.desc = c.desc ∧ x.withdrawn.isSome = true ∧ x.stage = c.stage := by
  have effect := State.effect_abort (s := s) (src := src) (host := 0) b op (if s.per.running then 0 else 0)
  rw [State.abort_of_unapplied (h.find_first only is) stage (self := s.refOf src) other] at effect
  have carried : ((b.mapCmd (b.abortTarget d.param) (Cmd.withdraw · (refDetail (s.refOf src)))).waitFor (b.abortTarget d.param)
      (s.refOf src)).carries (s.refOf src) :=
    State.carries_waitFor (State.carries_mapCmd h.carries (f := (Cmd.withdraw · (refDetail (s.refOf src)))) _
      fun _ => ⟨rfl, rfl, rfl, rfl, rfl⟩) _ _
  obtain ⟨runs, on⟩ := h.runs_on 0 effect carried
  refine ⟨_, by rw [runs]; rfl, on, ?_⟩
  have mem : c ∈ b.host.cmds := by
    rw [h.cmds, only]
    exact List.mem_cons_self ..
  have apart : (c.withdraw (refDetail (s.refOf src))).is (s.refOf src) = false := by
    have ring := (Cmd.is_iff.mp is).1
    refine Bool.eq_false_iff.mpr fun mine => other ?_
    exact ring.symm.trans (Cmd.is_iff.mp mine).1
  refine ⟨c.withdraw (refDetail (s.refOf src)), List.mem_map.mpr ⟨c.withdraw (refDetail (s.refOf src)), List.mem_map.mpr ⟨c, mem, ?_⟩, ?_⟩,
    is, rfl, rfl, rfl⟩
  · exact if_pos is
  · exact if_neg (by rw [apart]; decide)

theorem Begun.abort_ended (h : Begun s src d 0 b) (op : d.opcode = 0x04) (running : s.per.running = true) {c : Cmd} (only : s.host.cmds = [c])
    (is : c.is (b.abortTarget d.param) = true) (stage : c.stage = .applied) (out : c.outcome.isSome = true) :
    ∃ u, outOf (s.runDesc src d 0 0) = .next u ∧ u.endedWith src 0x03 := by
  have ne : b.abortTarget d.param ≠ s.refOf src := fun same => by
    have new := h.here.new c (by rw [only]; exact List.mem_singleton_self _)
    rw [← same, is] at new
    exact absurd new (by decide)
  have effect := State.effect_abort (s := s) (src := src) (host := 0) b op 0
  rw [State.abort_of_ended (h.find_first only is) stage out ne] at effect
  obtain ⟨runs, ended⟩ := h.ends running 0 effect (h.running.trans running) (State.carries_waitFor h.carries _ _)
  exact ⟨_, by rw [runs]; rfl, ended⟩

theorem exec_abort (src : Src) (ring : Fin 16) (index : Fin 4096) (phase : Bool) (s : State) : exec (.abort src ring index phase) s =
    outOf (s.runDesc src { srcDesc src 0x04 0 with param := ring.val + index.val * 2 ^ 16 + phase.toNat * 2 ^ 28 } 0 0) := rfl

/-- The ring an ABORT's PARAM names. -/
theorem abortTarget_ring (b : State) (ring : Fin 16) (index : Fin 4096) (phase : Bool) :
    (b.abortTarget (ring.val + index.val * 2 ^ 16 + phase.toNat * 2 ^ 28)).1 = ring.val := by
  show (ring.val + index.val * 2 ^ 16 + phase.toNat * 2 ^ 28) % 2 ^ 4 = ring.val
  omega

/-- Settles O27. -/
theorem abortWithdraws : Obligations.AbortWithdraws := by
  unfold Obligations.AbortWithdraws
  intro src ring index phase s d b t acts running
  obtain ⟨b', h⟩ := begun_of acts
  rw [exec_abort, show b = b' from h.eq, show t = b'.abortTarget d.param by rw [← h.eq]]
  have named : (b'.abortTarget d.param).1 = ring.val := abortTarget_ring b' ring index phase
  exact ⟨h.abort_nothing rfl running,
    fun unheld ahead own => h.abort_unfetched rfl running unheld ahead (named.trans (congrArg Fin.val own)),
    fun c only is stage _ other => h.abort_unapplied rfl only is stage (fun same => other (Fin.ext (named.symm.trans same))),
    fun c only is stage out => h.abort_ended rfl running only is stage out⟩

end

end Sys2Proof.Machine
end

section
/-! The statements of SWAP and FAULT_ACK (R349, R350, R374, R375). -/

set_option Elab.async false

namespace Sys2Proof.Machine

section
variable {s b : State} {src : Src} {d : Desc} {host : Nat}

/-- A command whose action ends at once, while periods run, with the hub's commands as they were. -/
theorem Begun.ends_at_once (h : Begun s src d host b) (running : s.per.running = true) (lands : Nat) {t : State} {o : Result}
    (effect : b.effect (s.held src d host) 0 = .ok (t, some o)) (per : t.per = b.per) (hub : t.host = b.host) :
    outOf (s.runDesc src d host lands) = .next (s.actedTo src d host b t o) ∧ (s.actedTo src d host b t o).endedWith src o.status := by
  obtain ⟨runs, ended⟩ := h.ends running lands effect (by rw [per, h.running, running]) (State.carries_of_cmds h.carries (by rw [hub]))
  exact ⟨by rw [runs]; rfl, ended⟩

theorem State.acted_red (b t : State) (r : Result) : (s.actedTo src d host b t r).red = t.red := rfl
theorem State.acted_flt (b t : State) (r : Result) : (s.actedTo src d host b t r).flt = t.flt := rfl

/-! ### SWAP -/

theorem State.effect_swap (t : State) (lands : Nat) :
    t.effect (s.held src (srcDesc src 0x05 0xD002)) lands = .ok (t.swapCmd (s.refOf src)) := by
  have held : (s.held src (srcDesc src 0x05 0xD002)).desc.opcode = 0x05 := rfl
  simp only [State.effect, held]
  exact State.withObj_of (show objOf 0xD002 = some .redCtrl by decide +kernel) (show instOf? 0xD002 .redCtrl = some 0 by decide +kernel) _

theorem State.noteRedundancy_swap (s : State) : s.noteRedundancy.red.swap = s.red.swap := by
  unfold State.noteRedundancy State.raise State.clearLive State.send
  dsimp only
  split
  · rfl
  · split <;> rfl

/-- The state in which a planned swap has been started. -/
def State.swapStarted (s : State) (ref : CmdRef) : State :=
  State.noteRedundancy { s.abandonBuild with
    red := { s.red with swap := some { owner := ref, incoming := s.standbyUnit, atCount := s.per.count }, traces := [] } }

theorem State.swapCmd_of_ready {ref : CmdRef} (loop : b.loopMode = true) (ready : b.standbyReady = true) (offers : b.offersEnough = true)
    (formats : b.formatsAgree = true) (idle : b.unitBusy = false) (time : b.overHalf = false) (mirror : b.red.mirrorOk = true) :
    b.swapCmd ref = (b.swapStarted ref, some (done (result := (b.per.seq + 2) % 2 ^ 32))) := by
  have whole : (b.overHalf || !b.red.mirrorOk) = false := by rw [time, mirror]; rfl
  rw [State.swapCmd, loop, ready, offers, formats, idle, whole, State.swapStarted]
  have red : b.abandonBuild.red = b.red := by unfold State.abandonBuild; split <;> rfl
  simp only [Bool.not_true, Bool.or_self, Bool.false_eq_true, if_false]

theorem exec_swap (src : Src) (s : State) : exec (.swap src) s = outOf (s.runDesc src (srcDesc src 0x05 0xD002) 0 0) := rfl

/-- Settles O28. -/
theorem swapStartsThePlannedSwap : Obligations.SwapStartsThePlannedSwap := by
  unfold Obligations.SwapStartsThePlannedSwap
  intro src s d b acts running
  obtain ⟨b', h⟩ := begun_of acts
  rw [exec_swap, show b = b' from h.eq]
  have effect := State.effect_swap (s := s) (src := src) b' 0
  refine ⟨fun loop ready offers formats idle time mirror => ?_, fun loop => ?_⟩
  · rw [State.swapCmd_of_ready loop ready offers formats idle time mirror] at effect
    obtain ⟨runs, ended⟩ := h.ends_at_once running 0 effect (by rw [State.swapStarted]; simp) (by rw [State.swapStarted]; simp)
    refine ⟨_, runs, ended, ?_⟩
    rw [State.acted_red, State.swapStarted, State.noteRedundancy_swap, h.frame]
  · rw [State.swapCmd, loop] at effect
    obtain ⟨runs, ended⟩ := h.ends_at_once running 0 effect rfl rfl
    exact ⟨_, runs, ended, by rw [State.acted_red, h.red]⟩

/-! ### FAULT_ACK -/

theorem State.effect_faultAck (t : State) {source : Nat} (small : source < 65536) (allInst all : Bool) (lands : Nat) :
    t.effect (s.held src { srcDesc src 0x06 0xB004 with param := source + allInst.toNat * 2 ^ 16 + all.toNat * 2 ^ 17 }) lands =
      .ok (atOnce (t.faultAck source allInst all)) := by
  have held : (s.held src { srcDesc src 0x06 0xB004 with param := source + allInst.toNat * 2 ^ 16 + all.toNat * 2 ^ 17 }).desc.opcode = 0x06 := rfl
  have param : (s.held src { srcDesc src 0x06 0xB004 with param := source + allInst.toNat * 2 ^ 16 + all.toNat * 2 ^ 17 }).desc.param =
    source + allInst.toNat * 2 ^ 16 + all.toNat * 2 ^ 17 := rfl
  simp only [State.effect, held, param]
  have bit : ∀ (n k : Nat) (v : Bool), n / 2 ^ k % 2 = v.toNat → n.testBit k = v := by
    intro n k v value
    rw [Nat.testBit_eq_decide_div_mod_eq, value]
    cases v <;> rfl
  have flags := And.intro (Bool.toNat_le allInst) (Bool.toNat_le all)
  have number : (source + allInst.toNat * 2 ^ 16 + all.toNat * 2 ^ 17) % 2 ^ 16 = source := by omega
  rw [number, bit _ 16 allInst (by omega), bit _ 17 all (by omega)]
  exact State.withObj_of (show objOf 0xB004 = some .fltRec by decide +kernel) (show instOf? 0xB004 .fltRec = some 0 by decide +kernel) _

theorem State.logEntry_latched (s : State) (e : EventRec) (m f p : Nat) : (s.logEntry e m f p).flt.latched = s.flt.latched := by
  simp -implicitDefEqProofs [State.logEntry, apply_ite State.flt]

theorem State.logAck_latched (s : State) (x : Nat) : (s.logAck x).flt.latched = s.flt.latched := by
  unfold State.logAck
  split
  · exact State.logEntry_latched ..
  · rfl

theorem State.showBits_flt (s : State) (x : Nat) : (s.showBits x).flt = s.flt := by
  unfold State.showBits
  split <;> simp -implicitDefEqProofs

@[simp] theorem State.logAck_per (s : State) (x : Nat) : (s.logAck x).per = s.per := by unfold State.logAck; split <;> simp
@[simp] theorem State.logAck_host (s : State) (x : Nat) : (s.logAck x).host = s.host := by unfold State.logAck; split <;> simp

/-- An acknowledged latch is gone; periods and the hub's commands stand. -/
theorem State.ackOne_clears (s : State) (x : Nat) : (s.ackOne x).flt.latched = s.flt.latched.filter (·.source != x) ∧
    (s.ackOne x).per = s.per ∧ (s.ackOne x).host = s.host := by
  have shown : ∀ t : State, (t.showBits x).flt.latched = t.flt.latched ∧ (t.showBits x).per = t.per ∧ (t.showBits x).host = t.host :=
    fun t => ⟨by rw [State.showBits_flt], by simp, by simp⟩
  have logged : (s.logAck x).flt.latched = s.flt.latched ∧ (s.logAck x).per = s.per ∧ (s.logAck x).host = s.host :=
    ⟨State.logAck_latched .., by simp, by simp⟩
  obtain ⟨latched, per, hub⟩ := logged
  obtain ⟨flt', per', hub'⟩ := shown { s.logAck x with flt := { (s.logAck x).flt with
    latched := (s.logAck x).flt.latched.filter (·.source != x)
    releasing := (s.logAck x).flt.releasing ++ (if s.per.running then (s.latchOf x).toList else []) } }
  have ends : ∀ (c : Bool) (t u : State), t.flt = u.flt → t.per = u.per → t.host = u.host →
      (if c then u else t).flt = u.flt ∧ (if c then u else t).per = u.per ∧ (if c then u else t).host = u.host := by
    intro c t u flt per hub
    cases c
    · exact ⟨flt, per, hub⟩
    · exact ⟨rfl, rfl, rfl⟩
  unfold State.ackOne
  obtain ⟨flt'', per'', hub''⟩ := ends _ _ _ (State.resetObj_flt _ .fltRec 0 (kindOf x)) (State.resetObj_per ..) (State.resetObj_host ..)
  exact ⟨(congrArg FltSt.latched flt'').trans (flt'.trans (by rw [← latched])), per''.trans (per'.trans per), hub''.trans (hub'.trans hub)⟩

theorem State.ackAll_clears (xs : List Nat) (s : State) : (∀ r, r ∈ (xs.foldl State.ackOne s).flt.latched ↔ r ∈ s.flt.latched ∧ r.source ∉ xs) ∧
    (xs.foldl State.ackOne s).per = s.per ∧ (xs.foldl State.ackOne s).host = s.host := by
  induction xs generalizing s with
  | nil => exact ⟨fun r => by simp, rfl, rfl⟩
  | cons x xs ih =>
    obtain ⟨latched, per, hub⟩ := s.ackOne_clears x
    obtain ⟨rest, per', hub'⟩ := ih (s.ackOne x)
    refine ⟨fun r => ?_, per'.trans per, hub'.trans hub⟩
    rw [List.foldl_cons, rest, latched]
    simp [and_assoc]

theorem State.isLive_of_flt {os : List Obj} {t : State} (same : SameObjs os s t) (force : Obj.fltForce ∉ os) (flt : t.flt = s.flt) {x : Nat}
    (small : x < 65536) : t.isLive x = s.isLive x := by
  have entry : t.obj .fltForce 0 (kindOf x) = s.obj .fltForce 0 (kindOf x) :=
    same _ 0 _ force (by decide) (Nat.lt_of_le_of_lt (Nat.div_le_self ..) small)
  simp only [State.isLive, State.bit, State.fld, flt, show F.FLT_FORCE_FORCE.obj = .fltForce from rfl,
    show F.FLT_FORCE_INST.obj = .fltForce from rfl, entry]

theorem State.faultAck_live {x : Nat} (live : b.isLive x = true) : b.faultAck x false false = (b, { status := 0x07, detail := 0x1 }) := by
  simp [State.faultAck, live]

/-- The acknowledgement of one source number that is not live. -/
theorem State.faultAck_clears {x : Nat} (gone : b.isLive x = false) (kind : kindOf x ≠ K.HUB_CHECK) (running : b.per.running = true) :
    ((b.faultAck x false false).2.status = 0x00) ∧ (∀ r, r ∈ (b.faultAck x false false).1.flt.latched ↔ r ∈ b.flt.latched ∧ r.source ≠ x) ∧
    (b.faultAck x false false).1.per = b.per ∧ (b.faultAck x false false).1.host = b.host := by
  have targets : ∀ y, y ∈ (b.ackTargets x false false).filter b.ackable ↔ y = x ∧ ∃ r ∈ b.flt.latched, r.source = x := by
    intro y
    simp only [State.ackTargets, List.mem_filter, List.mem_map, Bool.false_or, Bool.false_and, beq_iff_eq]
    constructor
    · rintro ⟨⟨⟨r, hr, rfl⟩, same⟩, -⟩
      exact ⟨same, r, hr, same⟩
    · rintro ⟨rfl, r, hr, same⟩
      exact ⟨⟨⟨r, hr, same⟩, rfl⟩, by simp [State.ackable, gone, kind]⟩
  obtain ⟨latched, per, hub⟩ := State.ackAll_clears ((b.ackTargets x false false).filter b.ackable) b
  rw [show b.faultAck x false false = (((b.ackTargets x false false).filter b.ackable).foldl State.ackOne b, _) by
    simp only [State.faultAck, gone, kind, running, Bool.not_false, Bool.true_and, Bool.false_eq_true, if_false, if_true, beq_iff_eq]
    rfl]
  refine ⟨rfl, fun r => ?_, per, hub⟩
  rw [latched, targets]
  constructor
  · exact fun ⟨mem, other⟩ => ⟨mem, fun same => other ⟨same, r, mem, same⟩⟩
  · exact fun ⟨mem, other⟩ => ⟨mem, fun same => other same.1⟩

theorem exec_faultAck (src : Src) (source : Fin 65536) (allInst all : Bool) (s : State) : exec (.faultAck src source allInst all) s =
    outOf (s.runDesc src { srcDesc src 0x06 0xB004 with param := source.val + allInst.toNat * 2 ^ 16 + all.toNat * 2 ^ 17 } 0 0) := rfl

/-- Settles O29. -/
theorem faultAckClearsTheLatch : Obligations.FaultAckClearsTheLatch := by
  unfold Obligations.FaultAckClearsTheLatch
  intro src source s d acts running kind
  obtain ⟨b, h⟩ := begun_of acts
  have live : b.isLive source.val = s.isLive source.val := State.isLive_of_flt h.same (by decide) h.flt source.isLt
  have effect := State.effect_faultAck (s := s) (src := src) b source.isLt false false 0
  rw [exec_faultAck, ← live]
  refine ⟨fun gone => ?_, fun held => ?_⟩
  · obtain ⟨status, latched, per, hub⟩ := State.faultAck_clears gone kind (h.running.trans running)
    obtain ⟨runs, ended⟩ := h.ends_at_once running 0 effect per hub
    rw [← h.flt]
    refine ⟨_, runs, status ▸ ended, fun r hr => ((latched r).mp hr).2, fun r hr other => (latched r).mpr ⟨hr, other⟩⟩
  · rw [State.faultAck_live held] at effect
    obtain ⟨runs, ended⟩ := h.ends_at_once running 0 effect rfl rfl
    exact ⟨_, runs, ended, by rw [State.acted_flt, h.flt]⟩

end

end Sys2Proof.Machine
end

section
/-! The statements of motion and engagement commands (R176 to R218). -/

set_option Elab.async false

namespace Sys2Proof.Machine

section
variable {s b : State} {src : Src} {d : Desc} {host a n : Nat} {ref : CmdRef} {e : MotionEntry}

/-! ### Delivery (R178, R463) -/

@[simp] theorem State.hubAx_setHub_same (s : State) (a : Nat) (v : AxisHub) : (s.setHub a v).hubAx a = v := by
  simp [State.hubAx, State.setHub]

theorem State.hubAx_setHub_ne (s : State) {a k : Nat} (v : AxisHub) (h : k ≠ a) : (s.setHub a v).hubAx k = s.hubAx k := by
  simp [State.hubAx, State.axis, State.setHub, State.setAxis, SMap.get_set_ne h]

theorem Begun.hubAx (h : Begun s src d host b) (k : Nat) : b.hubAx k = s.hubAx k := by simp only [State.hubAx, State.axis, h.motion]

/-- The axis with a command queued under a delivery number. -/
def AxisHub.queued (h : AxisHub) (n : Nat) (ref : CmdRef) (e : MotionEntry) : AxisHub :=
  { h with next := (n + 1) % 64, entries := h.entries ++ [e], held := h.held ++ [{ num := n, owner := ref, opcode := e.opcode }] }

theorem State.deliver_queues (motion : b.motionMode = true) (outer : b.hasOuter a = true) (room : (b.hubAx a).entries.length < 4)
    (free : (b.hubAx a).takeNum = some n) : b.deliver a ref e =
      (b.setHub a ((b.hubAx a).queued n ref { e with num := n, limits := b.profLimits a }), none) := by
  have room : ¬ 4 ≤ (b.hubAx a).entries.length := by omega
  simp only [State.deliver, motion, outer, free, room, Bool.not_true, Bool.false_eq_true, if_false]
  rfl

theorem State.deliver_wrongMode (motion : b.motionMode = false) : b.deliver a ref e = (b, some b.wrongMode) := by
  simp only [State.deliver, motion, Bool.not_false, if_true]

/-- A refused command's number is free again. -/
theorem State.deliver_refused (motion : b.motionMode = true) (none_ : b.hasOuter a = false ∨ 4 ≤ (b.hubAx a).entries.length)
    (free : (b.hubAx a).takeNum = some n) :
    ∃ detail, b.deliver a ref e = (b.setHub a { b.hubAx a with next := (n + 1) % 64 }, some (refused detail)) := by
  simp only [State.deliver, motion, free, Bool.not_true, Bool.false_eq_true, if_false]
  cases outer : b.hasOuter a with
  | false => exact ⟨0x1, by simp⟩
  | true =>
    have full := none_.resolve_left (by simp [outer])
    exact ⟨0x8, by simp [full]⟩

/-! ### A motion command at its application -/

theorem Begun.queues (h : Begun s src d 0 b) (effect : ∀ lands, b.effect (s.held src d) lands = .ok (b.deliver a (s.refOf src) e))
    (motion : b.motionMode = true) (outer : b.hasOuter a = true) (room : (s.hubAx a).entries.length < 4)
    (free : (s.hubAx a).takeNum = some n) :
    ∃ t, outOf (s.runDesc src d 0 0) = .next t ∧ t.runsOn src ∧
      t.hubAx a = (s.hubAx a).queued n (s.refOf src) { e with num := n, limits := b.profLimits a } ∧ ∀ k, k ≠ a → t.hubAx k = s.hubAx k := by
  have queued := effect (if s.per.running then 0 else 0)
  rw [← h.hubAx] at room free
  rw [State.deliver_queues motion outer room free] at queued
  obtain ⟨runs, on⟩ := h.runs_on 0 queued (State.carries_of_cmds h.carries rfl)
  refine ⟨_, by rw [runs]; rfl, on, ?_, fun k hk => ?_⟩
  · rw [← h.hubAx]
    exact State.hubAx_setHub_same ..
  · rw [← h.hubAx]
    exact State.hubAx_setHub_ne _ _ hk

theorem Begun.motion_wrongMode (h : Begun s src d 0 b) (running : s.per.running = true)
    (effect : ∀ lands, b.effect (s.held src d) lands = .ok (b.deliver a (s.refOf src) e)) (motion : b.motionMode = false) :
    ∃ t, outOf (s.runDesc src d 0 0) = .next t ∧ t.endedWith src 0x06 ∧ t.motion = s.motion := by
  have refusal := effect 0
  rw [State.deliver_wrongMode motion] at refusal
  obtain ⟨runs, ended⟩ := h.ends_at_once running 0 refusal rfl rfl
  exact ⟨_, runs, ended, h.motion⟩

theorem Begun.motion_refused (h : Begun s src d 0 b) (running : s.per.running = true)
    (effect : ∀ lands, b.effect (s.held src d) lands = .ok (b.deliver a (s.refOf src) e)) (motion : b.motionMode = true)
    (none_ : b.hasOuter a = false ∨ 4 ≤ (s.hubAx a).entries.length) (free : (s.hubAx a).takeNum = some n) :
    ∃ t, outOf (s.runDesc src d 0 0) = .next t ∧ t.endedWith src 0x07 ∧ t.hubAx a = { s.hubAx a with next := (n + 1) % 64 } ∧
      ∀ k, k ≠ a → t.hubAx k = s.hubAx k := by
  have refusal := effect 0
  rw [← h.hubAx] at none_ free
  obtain ⟨detail, eq⟩ := State.deliver_refused (ref := s.refOf src) (e := e) motion none_ free
  rw [eq] at refusal
  obtain ⟨runs, ended⟩ := h.ends_at_once running 0 refusal rfl rfl
  refine ⟨_, runs, ended, ?_, fun k hk => ?_⟩
  · rw [← h.hubAx]
    exact State.hubAx_setHub_same ..
  · rw [← h.hubAx]
    exact State.hubAx_setHub_ne _ _ hk

/-! ### The descriptors of motion commands -/

theorem axisProf_id (a : Fin 40) : objOf (axisProf a) = some .profLimits ∧ instOf? (axisProf a) .profLimits = some a.val ∧
    idInst (axisProf a) = a.val := by decide +revert +kernel

theorem axisGear_id (a : Fin 40) : objOf (axisGear a) = some .gearMaster ∧ instOf? (axisGear a) .gearMaster = some a.val ∧
    idInst (axisGear a) = a.val := by decide +revert +kernel

/-- What MOVE_POS, MOVE_VEL, STOP, QUICK_STOP and RESUME queue. -/
def motionEntry (d : Desc) : MotionEntry :=
  { opcode := d.opcode, mode := if d.opcode = 0x10 then d.param % 8 else 0
    target := if d.opcode = 0x10 then d.inline % 2 ^ 48 else 0
    speed := if d.opcode = 0x10 ∨ d.opcode = 0x11 then getBits d.inline 64 24 else 0 }

theorem motionEntry_speed (d : Desc) (h : d.opcode = 0x10 ∨ d.opcode = 0x11) : (motionEntry d).speed = getBits d.inline 64 24 := if_pos h

theorem motionEntry_move (d : Desc) (h : d.opcode = 0x10) : (motionEntry d).mode = d.param % 8 ∧ (motionEntry d).target = d.inline % 2 ^ 48 :=
  ⟨if_pos h, if_pos h⟩

theorem getBits_above (v : Nat) {x k w : Nat} (hv : v < 2 ^ k) (hx : x < 2 ^ w) : getBits (v + x * 2 ^ k) k w = x := by
  rw [getBits, Nat.add_mul_div_right _ _ (Nat.two_pow_pos k), Nat.div_eq_of_lt hv, Nat.zero_add, Nat.mod_eq_of_lt hx]

theorem mod_below {v k w : Nat} (x : Nat) (hv : v < 2 ^ w) (hw : w ≤ k) : (v + x * 2 ^ k) % 2 ^ w = v := by
  obtain ⟨j, rfl⟩ := Nat.exists_eq_add_of_le hw
  rw [Nat.pow_add, Nat.mul_left_comm, Nat.add_mul_mod_self_left, Nat.mod_eq_of_lt hv]

theorem State.effect_motion (t : State) {a : Fin 40} (op : d.opcode ∈ [0x10, 0x11, 0x12, 0x13, 0x14]) (id : d.objId = axisProf a) (lands : Nat) :
    t.effect (s.held src d) lands = .ok (t.deliver a.val (s.refOf src) (motionEntry d)) := by
  obtain ⟨named, inst, index⟩ := axisProf_id a
  have runs : t.effect (s.held src d) lands = t.withObj d.objId fun _ _ => .ok (t.motionCmd d (s.refOf src)) := by
    have held : (s.held src d).desc = d := rfl
    simp only [List.mem_cons, List.not_mem_nil, or_false] at op
    rcases op with op | op | op | op | op <;> simp only [State.effect, held, op] <;> rfl
  rw [runs, id, State.withObj_of named inst, State.motionCmd, id, index, motionEntry]

theorem Begun.motion_command {cmd : Instr} {a : Fin 40} {m tg sp : Nat} (h : Begun s src d 0 b) (running : s.per.running = true)
    (runs : exec cmd s = outOf (s.runDesc src d 0 0)) (op : d.opcode ∈ [0x10, 0x11, 0x12, 0x13, 0x14]) (id : d.objId = axisProf a)
    (mode : (motionEntry d).mode = m) (target : (motionEntry d).target = tg) (speed : (motionEntry d).speed = sp) :
    (b.motionMode = true → b.hasOuter a.val = true → (s.hubAx a.val).entries.length < 4 → ∀ n, (s.hubAx a.val).takeNum = some n →
      ∃ t e, exec cmd s = .next t ∧ t.runsOn src ∧ (t.hubAx a.val).entries = (s.hubAx a.val).entries ++ [e] ∧
        e.opcode = d.opcode ∧ e.mode = m ∧ e.target = tg ∧ e.speed = sp ∧ e.num = n ∧ e.limits = b.profLimits a.val ∧
        (∃ h ∈ (t.hubAx a.val).held, h.num = n ∧ h.owner = s.refOf src) ∧ ∀ k, k ≠ a.val → t.hubAx k = s.hubAx k) ∧
    (b.motionMode = false → ∃ t, exec cmd s = .next t ∧ t.endedWith src 0x06 ∧ t.motion = s.motion) ∧
    (b.motionMode = true → b.hasOuter a.val = false ∨ 4 ≤ (s.hubAx a.val).entries.length → ∀ n, (s.hubAx a.val).takeNum = some n →
      ∃ t, exec cmd s = .next t ∧ t.endedWith src 0x07 ∧ t.hubAx a.val = { s.hubAx a.val with next := (n + 1) % 64 } ∧
        ∀ k, k ≠ a.val → t.hubAx k = s.hubAx k) := by
  have effect := State.effect_motion (s := s) (src := src) b op id
  rw [runs]
  refine ⟨fun motion outer room n free => ?_, h.motion_wrongMode running effect,
    fun motion none_ n free => h.motion_refused running effect motion none_ free⟩
  obtain ⟨t, next, on, hub, others⟩ := h.queues effect motion outer room free
  refine ⟨t, { motionEntry d with num := n, limits := b.profLimits a.val }, next, on, by rw [hub]; rfl, rfl, mode, target, speed, rfl, rfl,
    ⟨⟨n, s.refOf src, d.opcode, false⟩, ?_, rfl, rfl⟩, others⟩
  rw [hub]
  exact List.mem_append_right _ (List.mem_singleton_self _)

theorem exec_movePos (src : Src) (a : Fin 40) (target : Fin (2 ^ 48)) (speed : Fin (2 ^ 24)) (mode : Fin 8) (s : State) :
    exec (.movePos src a target speed mode) s =
      outOf (s.runDesc src { srcDesc src 0x10 (axisProf a) with param := mode.val, inline := target.val + speed.val * 2 ^ 64 } 0 0) := rfl

theorem exec_moveVel (src : Src) (a : Fin 40) (speed : Fin (2 ^ 24)) (s : State) :
    exec (.moveVel src a speed) s = outOf (s.runDesc src { srcDesc src 0x11 (axisProf a) with inline := speed.val * 2 ^ 64 } 0 0) := rfl

/-- Settles O30. -/
theorem motionCommandsQueue : Obligations.MotionCommandsQueue := by
  unfold Obligations.MotionCommandsQueue
  intro src a target speed mode s cmd d op m tg sp mem acts running b
  obtain ⟨b', h⟩ := begun_of acts
  rw [show b = b' from h.eq]

  simp only [List.mem_cons, List.not_mem_nil, or_false, Prod.mk.injEq] at mem
  rcases mem with ⟨rfl, rfl, rfl, rfl, rfl, rfl⟩ | ⟨rfl, rfl, rfl, rfl, rfl, rfl⟩ | ⟨rfl, rfl, rfl, rfl, rfl, rfl⟩ |
    ⟨rfl, rfl, rfl, rfl, rfl, rfl⟩ | ⟨rfl, rfl, rfl, rfl, rfl, rfl⟩
  · have low : target.val < 2 ^ 64 := Nat.lt_trans target.isLt (by decide)
    exact h.motion_command running (exec_movePos ..) (by simp [srcDesc]) rfl
      ((motionEntry_move _ rfl).1.trans (Nat.mod_eq_of_lt mode.isLt))
      ((motionEntry_move _ rfl).2.trans (mod_below _ target.isLt (by decide)))
      ((motionEntry_speed _ (Or.inl rfl)).trans (getBits_above _ low speed.isLt))
  · have alone : speed.val * 2 ^ 64 = 0 + speed.val * 2 ^ 64 := (Nat.zero_add _).symm
    refine h.motion_command running (exec_moveVel ..) (by simp [srcDesc]) rfl rfl rfl ((motionEntry_speed _ (Or.inr rfl)).trans ?_)
    exact (congrArg (getBits · 64 24) alone).trans (getBits_above 0 (by decide) speed.isLt)
  · exact h.motion_command running rfl (by simp [srcDesc]) rfl rfl rfl rfl
  · exact h.motion_command running rfl (by simp [srcDesc]) rfl rfl rfl rfl
  · exact h.motion_command running rfl (by simp [srcDesc]) rfl rfl rfl rfl

/-! ### Engagement -/

/-- What GEAR_ENGAGE queues at an axis whose master is of kind `k`. -/
def gearEntry (k : Nat) (d : Desc) : MotionEntry :=
  { opcode := 0x18
    engage := some (.gear (sint 32 (d.inline % 2 ^ 32)) (getBits d.inline 32 32) (getBits d.inline 64 32) (d.param.testBit 0)
      (getBits d.param 1 2) (getBits d.inline 96 48))
    bad := if getBits d.inline 32 32 = 0 then 0x4 else if k = 0 ∨ k = 5 then 0xC else 0 }

theorem State.effect_gear (t : State) {a : Fin 40} (op : d.opcode = 0x18) (id : d.objId = axisGear a) (lands : Nat) :
    t.effect (s.held src d) lands = .ok (t.deliver a.val (s.refOf src) (gearEntry (t.masterKind a.val) d)) := by
  obtain ⟨named, inst, index⟩ := axisGear_id a
  have held : (s.held src d).desc = d := rfl
  have runs : t.effect (s.held src d) lands = t.withObj d.objId fun _ _ => .ok (t.gearCmd d (s.refOf src)) := by
    simp only [State.effect, held, op]
    rfl
  rw [runs, id, State.withObj_of named inst, State.gearCmd, id, index, gearEntry]

theorem State.effect_disengage (t : State) {a : Fin 40} (op : d.opcode = 0x1A) (id : d.objId = axisGear a) (lands : Nat) :
    t.effect (s.held src d) lands = .ok (t.deliver a.val (s.refOf src) { opcode := 0x1A, mode := d.param % 2 }) := by
  obtain ⟨named, inst, index⟩ := axisGear_id a
  have held : (s.held src d).desc = d := rfl
  have runs : t.effect (s.held src d) lands = t.withObj d.objId fun _ _ => .ok (t.disengageCmd d (s.refOf src)) := by
    simp only [State.effect, held, op]
    rfl
  rw [runs, id, State.withObj_of named inst, State.disengageCmd, id, index]

theorem State.effect_cam (t : State) {a : Fin 40} (op : d.opcode = 0x19) (id : d.objId = axisGear a) (lands : Nat) :
    t.effect (s.held src d) lands = .ok (t.camCmd d (s.refOf src)) := by
  obtain ⟨named, inst, index⟩ := axisGear_id a
  have held : (s.held src d).desc = d := rfl
  have runs : t.effect (s.held src d) lands = t.withObj d.objId fun _ _ => .ok (t.camCmd d (s.refOf src)) := by
    simp only [State.effect, held, op]
    rfl
  rw [runs, id, State.withObj_of named inst]

/-- What CAM_ENGAGE queues. -/
def State.camEntry (t : State) (d : Desc) : MotionEntry :=
  { opcode := 0x19
    engage := some (.cam (d.param.testBit 8) (sint 48 (d.inline % 2 ^ 48)) (getBits d.inline 128 16)
      (sint 32 (t.fld F.CAM_PROF_YSCALE (d.param % 2 ^ 6))) (sint 24 (t.fld F.CAM_PROF_RISE (d.param % 2 ^ 6)))
      (t.bit F.CAM_PROF_CYCLIC (d.param % 2 ^ 6)))
    bad := 0 }

/-- The axis with a cam engaged. -/
def AxisHub.withCam (h : AxisHub) (n : Nat) (c : CamHub) : AxisHub := { h with cams := h.cams ++ [(n, c)] }

/-- CAM_ENGAGE of a valid profile at an axis with a master (R216, R218). -/
theorem State.camCmd_queues {a : Fin 40} (id : d.objId = axisGear a) (valid : b.profValid (d.param % 2 ^ 6) = true)
    (master : b.masterKind a.val ≠ 0) (motion : b.motionMode = true) (outer : b.hasOuter a.val = true)
    (room : (b.hubAx a.val).entries.length < 4) (free : (b.hubAx a.val).takeNum = some n) :
    ∃ c : CamHub, ∃ k v, b.camCmd d ref = ((b.setHub a.val v).setHub a.val
        (((b.hubAx a.val).queued n ref { b.camEntry d with num := n, limits := b.profLimits a.val }).withCam k c), none) ∧
      c.profile = d.param % 2 ^ 6 ∧ (d.param.testBit 9 = true → c.xOrg = sint 48 (getBits d.inline 64 48)) := by
  have queued := State.deliver_queues (ref := ref) (e := b.camEntry d) motion outer room free

  simp only [State.camCmd, id, (axisGear_id a).2.2, valid, master, Bool.not_true, Bool.false_eq_true, if_false]
  rw [← State.camEntry, queued]
  simp only [Option.isSome_none, Bool.false_eq_true, false_or, ne_eq, not_true_eq_false, if_false, State.hubAx_setHub_same]
  exact ⟨_, _, _, rfl, rfl, fun xmode => by simp only [xmode, if_true]⟩

/-- A command queued, as the statement tells it. -/
theorem Begun.engages (h : Begun s src d 0 b) (effect : ∀ lands, b.effect (s.held src d) lands = .ok (b.deliver a (s.refOf src) e))
    (motion : b.motionMode = true) (outer : b.hasOuter a = true) (room : (s.hubAx a).entries.length < 4)
    (free : (s.hubAx a).takeNum.isSome = true) :
    ∃ t e', outOf (s.runDesc src d 0 0) = .next t ∧ t.runsOn src ∧ (t.hubAx a).entries = (s.hubAx a).entries ++ [e'] ∧
      e'.opcode = e.opcode ∧ e'.engage = e.engage ∧ e'.mode = e.mode ∧ e'.bad = e.bad := by
  obtain ⟨n, free⟩ := Option.isSome_iff_exists.mp free
  obtain ⟨t, next, on, hub, -⟩ := h.queues effect motion outer room free
  exact ⟨t, { e with num := n, limits := b.profLimits a }, next, on, by rw [hub]; rfl, rfl, rfl, rfl, rfl⟩

theorem gear_fields {num den ramp pos : Nat} (hn : num < 2 ^ 32) (hd : den < 2 ^ 32) (hr : ramp < 2 ^ 32) (hp : pos < 2 ^ 48) :
    (num + den * 2 ^ 32 + ramp * 2 ^ 64 + pos * 2 ^ 96) % 2 ^ 32 = num ∧
    getBits (num + den * 2 ^ 32 + ramp * 2 ^ 64 + pos * 2 ^ 96) 32 32 = den ∧
    getBits (num + den * 2 ^ 32 + ramp * 2 ^ 64 + pos * 2 ^ 96) 64 32 = ramp ∧
    getBits (num + den * 2 ^ 32 + ramp * 2 ^ 64 + pos * 2 ^ 96) 96 48 = pos := by
  simp only [getBits]
  omega

theorem gear_start (en : Bool) {dir : Nat} (hd : dir < 4) :
    (en.toNat + dir * 2).testBit 0 = en ∧ getBits (en.toNat + dir * 2) 1 2 = dir := by
  have low := Bool.toNat_le en
  refine ⟨?_, by simp only [getBits]; omega⟩
  rw [Nat.testBit_zero, show (en.toNat + dir * 2) % 2 = en.toNat by omega]
  cases en <;> rfl

theorem gearEntry_engage (k : Nat) {num den ramp pos dir : Nat} {en : Bool} (hn : num < 2 ^ 32) (hd : den < 2 ^ 32) (hr : ramp < 2 ^ 32)
    (hp : pos < 2 ^ 48) (hdir : dir < 4) (param : d.param = en.toNat + dir * 2)
    (inline : d.inline = num + den * 2 ^ 32 + ramp * 2 ^ 64 + pos * 2 ^ 96) :
    (gearEntry k d).engage = some (.gear (sint 32 num) den ramp en dir pos) ∧ (den = 0 → (gearEntry k d).bad = 0x4) := by
  obtain ⟨n, dn, r, p⟩ := gear_fields hn hd hr hp
  obtain ⟨start, direction⟩ := gear_start en hdir
  rw [gearEntry, param, inline, n, dn, r, p, start, direction]
  exact ⟨rfl, fun zero => if_pos zero⟩

theorem cam_fields {off org blend : Nat} (ho : off < 2 ^ 48) (hx : org < 2 ^ 48) (hb : blend < 2 ^ 16) :
    (off + org * 2 ^ 64 + blend * 2 ^ 128) % 2 ^ 48 = off ∧ getBits (off + org * 2 ^ 64 + blend * 2 ^ 128) 64 48 = org ∧
    getBits (off + org * 2 ^ 64 + blend * 2 ^ 128) 128 16 = blend := by
  simp only [getBits]
  omega

theorem testBit_of_div {n k : Nat} {v : Bool} (value : n / 2 ^ k % 2 = v.toNat) : n.testBit k = v := by
  rw [Nat.testBit_eq_decide_div_mod_eq, value]
  cases v <;> rfl

theorem cam_param (y x : Bool) {p : Nat} (hp : p < 64) : (p + y.toNat * 2 ^ 8 + x.toNat * 2 ^ 9) % 2 ^ 6 = p ∧
    (p + y.toNat * 2 ^ 8 + x.toNat * 2 ^ 9).testBit 8 = y ∧ (p + y.toNat * 2 ^ 8 + x.toNat * 2 ^ 9).testBit 9 = x := by
  have flags := And.intro (Bool.toNat_le y) (Bool.toNat_le x)
  exact ⟨by omega, testBit_of_div (by omega), testBit_of_div (by omega)⟩

theorem State.camEntry_engage (t : State) {p off org blend : Nat} {y x : Bool} (hp : p < 64) (ho : off < 2 ^ 48) (hx : org < 2 ^ 48)
    (hb : blend < 2 ^ 16) (param : d.param = p + y.toNat * 2 ^ 8 + x.toNat * 2 ^ 9)
    (inline : d.inline = off + org * 2 ^ 64 + blend * 2 ^ 128) :
    (t.camEntry d).engage = some (.cam y (sint 48 off) blend (sint 32 (t.fld F.CAM_PROF_YSCALE p)) (sint 24 (t.fld F.CAM_PROF_RISE p))
      (t.bit F.CAM_PROF_CYCLIC p)) := by
  obtain ⟨o, -, bl⟩ := cam_fields ho hx hb
  obtain ⟨prof, ymode, -⟩ := cam_param y x hp
  rw [State.camEntry, param, inline, o, bl, prof, ymode]

theorem Begun.cam_engages {a : Fin 40} {p off org blend : Nat} {y x : Bool} (h : Begun s src d 0 b) (op : d.opcode = 0x19)
    (id : d.objId = axisGear a) (hp : p < 64) (ho : off < 2 ^ 48) (hx : org < 2 ^ 48) (hb : blend < 2 ^ 16)
    (param : d.param = p + y.toNat * 2 ^ 8 + x.toNat * 2 ^ 9) (inline : d.inline = off + org * 2 ^ 64 + blend * 2 ^ 128)
    (motion : b.motionMode = true) (outer : b.hasOuter a.val = true) (room : (s.hubAx a.val).entries.length < 4)
    (free : (s.hubAx a.val).takeNum.isSome = true) (valid : b.profValid p = true) (master : b.masterKind a.val ≠ 0) :
    ∃ t e, outOf (s.runDesc src d 0 0) = .next t ∧ t.runsOn src ∧ (t.hubAx a.val).entries = (s.hubAx a.val).entries ++ [e] ∧
      e.opcode = 0x19 ∧ e.engage = some (.cam y (sint 48 off) blend (sint 32 (b.fld F.CAM_PROF_YSCALE p))
        (sint 24 (b.fld F.CAM_PROF_RISE p)) (b.bit F.CAM_PROF_CYCLIC p)) ∧
      ∃ c, (t.hubAx a.val).cam = some c ∧ c.profile = p ∧ (x = true → c.xOrg = sint 48 org) := by
  obtain ⟨n, free⟩ := Option.isSome_iff_exists.mp free
  obtain ⟨-, origin, -⟩ := cam_fields ho hx hb
  obtain ⟨prof, -, xmode⟩ := cam_param y x hp
  have effect := State.effect_cam (s := s) (src := src) b op id (if s.per.running then 0 else 0)
  rw [← h.hubAx] at room free
  obtain ⟨c, k, v, queued, cprof, corg⟩ := State.camCmd_queues (ref := s.refOf src) id (by rw [param, prof]; exact valid) master motion outer room free
  rw [queued] at effect
  obtain ⟨runs, on⟩ := h.runs_on 0 effect (State.carries_of_cmds h.carries rfl)
  have hub := State.hubAx_setHub_same (b.setHub a.val v) a.val
    (((b.hubAx a.val).queued n (s.refOf src) { b.camEntry d with num := n, limits := b.profLimits a.val }).withCam k c)
  refine ⟨_, { b.camEntry d with num := n, limits := b.profLimits a.val }, by rw [runs]; rfl, on, ?_, rfl,
    b.camEntry_engage hp ho hx hb param inline, c, ?_, by rw [cprof, param, prof], fun xm => ?_⟩
  · rw [← h.hubAx]
    exact congrArg AxisHub.entries hub
  · refine (congrArg AxisHub.cam hub).trans ?_
    simp [AxisHub.cam, AxisHub.withCam]
  · rw [param, xmode] at corg
    rw [corg xm, inline, origin]

theorem exec_gearEngage (src : Src) (a : Fin 40) (num den ramp : Fin (2 ^ 32)) (startEn : Bool) (startDir : Fin 4) (startPos : Fin (2 ^ 48))
    (s : State) : exec (.gearEngage src a num den ramp startEn startDir startPos) s = outOf (s.runDesc src { srcDesc src 0x18 (axisGear a) with
      param := startEn.toNat + startDir.val * 2
      inline := num.val + den.val * 2 ^ 32 + ramp.val * 2 ^ 64 + startPos.val * 2 ^ 96 } 0 0) := rfl

theorem exec_camEngage (src : Src) (a : Fin 40) (profile : Fin 64) (ymode xmode : Bool) (offset xOrg : Fin (2 ^ 48)) (blend : Fin (2 ^ 16))
    (s : State) : exec (.camEngage src a profile ymode xmode offset xOrg blend) s = outOf (s.runDesc src { srcDesc src 0x19 (axisGear a) with
      param := profile.val + ymode.toNat * 2 ^ 8 + xmode.toNat * 2 ^ 9
      inline := offset.val + xOrg.val * 2 ^ 64 + blend.val * 2 ^ 128 } 0 0) := rfl

theorem exec_disengage (src : Src) (a : Fin 40) (stop : Bool) (s : State) : exec (.disengage src a stop) s =
    outOf (s.runDesc src { srcDesc src 0x1A (axisGear a) with param := stop.toNat } 0 0) := rfl

/-- Settles O31. -/
theorem engagementCommandsQueue : Obligations.EngagementCommandsQueue := by
  unfold Obligations.EngagementCommandsQueue
  intro src a s running ready
  refine ⟨?_, ?_, ?_⟩
  · intro num den ramp startEn startDir startPos d acts room
    obtain ⟨b, h⟩ := begun_of acts
    rw [h.eq] at room
    obtain ⟨motion, outer, few, free⟩ := room
    rw [exec_gearEngage]
    obtain ⟨t, e, next, on, entries, op, engage, -, bad⟩ := h.engages (fun lands => State.effect_gear b rfl rfl lands) motion outer few free
    obtain ⟨fields, zero⟩ := gearEntry_engage (d := d) (b.masterKind a.val) num.isLt den.isLt ramp.isLt startPos.isLt startDir.isLt rfl rfl
    exact ⟨t, e, next, on, entries, op, engage.trans fields, fun hd => bad.trans (zero hd)⟩
  · intro profile ymode xmode offset xOrg blend d b acts room valid master
    obtain ⟨b', h⟩ := begun_of acts
    rw [show b = b' from h.eq] at room valid master ⊢
    obtain ⟨motion, outer, few, free⟩ := room
    rw [exec_camEngage]
    exact h.cam_engages rfl rfl profile.isLt offset.isLt xOrg.isLt blend.isLt rfl rfl motion outer few free valid master
  · intro stop d acts room
    obtain ⟨b, h⟩ := begun_of acts
    rw [h.eq] at room
    obtain ⟨motion, outer, few, free⟩ := room
    rw [exec_disengage]
    obtain ⟨t, e, next, on, entries, op, -, mode, -⟩ := h.engages (fun lands => State.effect_disengage b rfl rfl lands) motion outer few free
    refine ⟨t, e, next, on, entries, op, mode.trans ?_⟩
    exact Nat.mod_eq_of_lt (Nat.lt_of_le_of_lt (Bool.toNat_le stop) (by decide))

end

end Sys2Proof.Machine
end

section
/-! The statements of CARAVAN_SEG and of the latch and compare units (R220, R229 to R236). -/

set_option Elab.async false

namespace Sys2Proof.Machine

section
variable {s b : State} {src : Src} {d : Desc} {host : Nat}

/-! ### CARAVAN_SEG -/

theorem caravan_id (g : Fin 4) : objOf (0x6005 + 64 * g.val) = some .caravanSegbuf ∧
    instOf? (0x6005 + 64 * g.val) .caravanSegbuf = some g.val ∧ idInst (0x6005 + 64 * g.val) = g.val := by decide +revert +kernel

/-- The descriptor of a CARAVAN_SEG. -/
def segDesc (src : Src) (g : Fin 4) (len : Nat) : Desc := { srcDesc src 0x1B (0x6005 + 64 * g.val) with length := len, indirect := true }

theorem segDesc_fields (src : Src) (g : Fin 4) (len : Nat) : (segDesc src g len).opcode = 0x1B ∧
    (segDesc src g len).objId = 0x6005 + 64 * g.val ∧ (segDesc src g len).length = len := ⟨rfl, rfl, rfl⟩

theorem segDesc_held (g : Fin 4) (len data : Nat) : (s.held src (segDesc src g len) data).desc = segDesc src g len ∧
    (s.held src (segDesc src g len) data).data = data % 2 ^ (8 * len) := ⟨rfl, rfl⟩

theorem State.effect_caravanSeg (t : State) (g : Fin 4) (len data lands : Nat) :
    t.effect (s.held src (segDesc src g len) data) lands =
      if t.motionMode && len == 24 + 16 * (t.members g.val).length && segReserved (data % 2 ^ (8 * len)) (t.members g.val).length then
        .error .reservedField
      else .ok (t.caravanSeg (segDesc src g len) (data % 2 ^ (8 * len)) (s.refOf src)) := by
  obtain ⟨named, inst, index⟩ := caravan_id g
  obtain ⟨op, id, length⟩ := segDesc_fields src g len
  obtain ⟨desc, bytes⟩ := segDesc_held (s := s) (src := src) g len data
  simp only [State.effect, desc, bytes, op, id, length, index]
  exact State.withObj_of named inst _

/-- The state in which a segment has joined its group's queue. -/
theorem State.caravanSeg_queues {g : Fin 4} {len v : Nat} {ref : CmdRef} (motion : b.motionMode = true)
    (length : len = 24 + 16 * (b.members g.val).length) (type : v % 4 ≠ 3) (path : getBits v 32 24 ≠ 0) :
    ∃ c : CaravanSt, b.caravanSeg (segDesc src g len) v ref = (b.setCaravan g.val c, none) ∧
      c.queue = (b.caravan g.val).queue ++ [segmentOf v (b.members g.val).length (b.caravan g.val).nextSeq ref] ∧
      c.nextSeq = ((b.caravan g.val).nextSeq + 1) % 2 ^ 8 := by
  obtain ⟨-, id, size⟩ := segDesc_fields src g len
  have fits : ¬ (len ≠ 24 + 16 * (b.members g.val).length ∨ v % 4 = 3 ∨ getBits v 32 24 = 0) := by
    rintro (h | h | h)
    · exact h length
    · exact type h
    · exact path h
  simp only [State.caravanSeg, id, size, (caravan_id g).2.2, motion, Bool.not_true, Bool.false_eq_true, if_false, if_neg fits]
  exact ⟨_, rfl, rfl, rfl⟩

theorem State.caravanSeg_refused {g : Fin 4} {len v : Nat} {ref : CmdRef} (motion : b.motionMode = true)
    (bad : len ≠ 24 + 16 * (b.members g.val).length ∨ v % 4 = 3 ∨ getBits v 32 24 = 0) :
    b.caravanSeg (segDesc src g len) v ref = (b, some (refused 0x4)) := by
  obtain ⟨-, id, size⟩ := segDesc_fields src g len
  simp only [State.caravanSeg, id, size, (caravan_id g).2.2, motion, Bool.not_true, Bool.false_eq_true, if_false, if_pos bad]

@[simp] theorem State.caravan_setCaravan_same (s : State) (g : Nat) (c : CaravanSt) : (s.setCaravan g c).caravan g = c := by
  simp [State.caravan, State.setCaravan]

theorem exec_caravanSeg (src : Src) (g : Fin 4) (len : Fin 153) (data : Fin (2 ^ 1216)) (s : State) :
    exec (.caravanSeg src g len data) s = outOf (s.runDesc src (segDesc src g len.val) data.val 0) := rfl

theorem Begun.seg_refused {g : Fin 4} {len data : Nat} (h : Begun s src (segDesc src g len) data b) (running : s.per.running = true)
    (motion : b.motionMode = true)
    (sound : ¬ (len = 24 + 16 * (b.members g.val).length ∧ segReserved (data % 2 ^ (8 * len)) (b.members g.val).length = true))
    (bad : len ≠ 24 + 16 * (b.members g.val).length ∨ data % 2 ^ (8 * len) % 4 = 3 ∨ getBits (data % 2 ^ (8 * len)) 32 24 = 0) :
    ∃ t, outOf (s.runDesc src (segDesc src g len) data 0) = .next t ∧ t.endedWith src 0x07 ∧ t.motion = s.motion := by
  have effect := State.effect_caravanSeg (s := s) (src := src) b g len data 0
  rw [if_neg (by simpa [motion] using sound), State.caravanSeg_refused motion bad] at effect
  obtain ⟨runs, ended⟩ := h.ends_at_once running 0 effect rfl rfl
  exact ⟨_, runs, ended, h.motion⟩

theorem segmentOf_fields (v m seq : Nat) (ref : CmdRef) : (segmentOf v m seq ref).seq = seq ∧ (segmentOf v m seq ref).owner = ref ∧
    (segmentOf v m seq ref).type = v % 4 ∧ (segmentOf v m seq ref).len = getBits v 32 24 := by
  refine ⟨rfl, rfl, ?_, rfl⟩
  show v / 2 ^ (8 * 0) % 2 ^ 2 = v % 4
  rw [Nat.mul_zero, Nat.pow_zero, Nat.div_one]
  rfl

theorem Begun.caravan (h : Begun s src d host b) (g : Nat) : b.caravan g = s.caravan g := by simp only [State.caravan, h.motion]

theorem Begun.seg_queues {g : Fin 4} {len data : Nat} (h : Begun s src (segDesc src g len) data b)
    (motion : b.motionMode = true) (length : len = 24 + 16 * (b.members g.val).length)
    (sound : segReserved (data % 2 ^ (8 * len)) (b.members g.val).length = false) (type : data % 2 ^ (8 * len) % 4 ≠ 3)
    (path : getBits (data % 2 ^ (8 * len)) 32 24 ≠ 0) :
    ∃ t q, outOf (s.runDesc src (segDesc src g len) data 0) = .next t ∧ t.runsOn src ∧
      (t.caravan g.val).queue = (s.caravan g.val).queue ++ [q] ∧ q.seq = (s.caravan g.val).nextSeq ∧ q.owner = s.refOf src ∧
      q.type = data % 2 ^ (8 * len) % 4 ∧ q.len = getBits (data % 2 ^ (8 * len)) 32 24 ∧
      (t.caravan g.val).nextSeq = ((s.caravan g.val).nextSeq + 1) % 2 ^ 8 := by
  obtain ⟨c, queues, queue, next⟩ := State.caravanSeg_queues (src := src) (ref := s.refOf src) motion length type path
  have effect : ∀ lands, b.effect (s.held src (segDesc src g len) data) lands = .ok (b.setCaravan g.val c, none) := fun lands => by
    rw [State.effect_caravanSeg, if_neg (by simp [sound]), queues]
  obtain ⟨runs, on⟩ := h.runs_on 0 (effect _) (State.carries_of_cmds h.carries rfl)
  have group := State.caravan_setCaravan_same b g.val c
  rw [h.caravan] at queue next
  obtain ⟨seq, owner, kind, path⟩ := segmentOf_fields (data % 2 ^ (8 * len)) (b.members g.val).length (s.caravan g.val).nextSeq (s.refOf src)
  exact ⟨(b.setCaravan g.val c).enter (s.held src (segDesc src g len) data), _, by rw [runs]; rfl, on,
    (congrArg CaravanSt.queue group).trans queue, seq, owner, kind, path, (congrArg CaravanSt.nextSeq group).trans next⟩

/-- Settles O32. -/
theorem caravanSegQueues : Obligations.CaravanSegQueues := by
  unfold Obligations.CaravanSegQueues
  intro src g len data s d b v acts running motion
  obtain ⟨b', h⟩ := begun_of acts
  rw [show b = b' from h.eq] at motion ⊢
  rw [exec_caravanSeg]
  refine ⟨fun length reserved => ?_, fun length sound bad => ?_, fun length sound type path => ?_, fun length => ?_⟩
  · have effect : ∀ lands, b'.effect (s.held src (segDesc src g len.val) data.val) lands = .error .reservedField := fun lands => by
      rw [State.effect_caravanSeg, if_pos]
      simp only [motion, Bool.true_and, Bool.and_eq_true, beq_iff_eq]
      exact ⟨length, reserved⟩
    rw [show s.runDesc src (segDesc src g len.val) data.val 0 = .error .reservedField from h.runDesc_error 0 (effect _)]
    rfl
  · exact h.seg_refused running motion (fun both => absurd both.2 (by rw [sound]; decide)) (Or.inr bad)
  · exact h.seg_queues motion length sound type path
  · exact h.seg_refused running motion (fun both => length both.1) (Or.inl length)

/-! ### Arming of latch units -/

theorem latchCfg_id (n : Fin 8) : objOf (0x7000 + 64 * n.val) = some .latchCfg ∧ instOf? (0x7000 + 64 * n.val) .latchCfg = some n.val := by
  decide +revert +kernel

theorem State.effect_latchArm (t : State) (n : Fin 8) (lands : Nat) :
    t.effect (s.held src (srcDesc src 0x1C (0x7000 + 64 * n.val))) lands = .ok (t.latchArm n.val (s.refOf src)) := by
  have held : (s.held src (srcDesc src 0x1C (0x7000 + 64 * n.val))).desc.opcode = 0x1C := rfl
  simp only [State.effect, held]
  exact State.withObj_of (latchCfg_id n).1 (latchCfg_id n).2 _

/-- The state in which a latch unit is armed for a command. -/
def State.latchArmed (s : State) (n : Nat) (ref : CmdRef) : State :=
  ((s.setLatchUnit n { s.latchUnit n with owner := some ref, armed := true, since := s.now, abort := none, after := false }).setBit
    F.LATCH_RESULT_VALID false n).setFld F.LATCH_RESULT_EXTRA 0 n

theorem State.latchArm_arms {n : Nat} {ref : CmdRef} (mode : b.armMode = true) (free : b.fenced (.fb (b.fld F.LATCH_CFG_FB n)) = false)
    (edge : b.fld F.LATCH_CFG_EDGE n ≠ 0) (idle : (b.latchUnit n).owner = none) : b.latchArm n ref = (b.latchArmed n ref, none) := by
  simp only [State.latchArm, mode, free, edge, idle, Bool.not_true, Bool.false_eq_true, if_false]
  rfl

theorem State.latchArm_wrongMode {n : Nat} {ref : CmdRef} (mode : b.armMode = false) : b.latchArm n ref = (b, some b.wrongMode) := by
  simp only [State.latchArm, mode, Bool.not_false, if_true]

theorem State.latchArm_fenced {n : Nat} {ref : CmdRef} (mode : b.armMode = true) (fenced : b.fenced (.fb (b.fld F.LATCH_CFG_FB n)) = true) :
    b.latchArm n ref = (b, some (blockReset 1)) := by
  simp only [State.latchArm, mode, fenced, Bool.not_true, Bool.false_eq_true, if_false, if_true]

@[simp] theorem State.latchUnit_setLatchUnit_same (s : State) (n : Nat) (v : LatchSt) : (s.setLatchUnit n v).latchUnit n = v := by
  simp [State.latchUnit, State.setLatchUnit]

theorem State.latchArmed_shows (s : State) (n : Nat) (ref : CmdRef) : ((s.latchArmed n ref).latchUnit n).armed = true ∧
    ((s.latchArmed n ref).latchUnit n).owner = some ref ∧ (s.latchArmed n ref).bit F.LATCH_RESULT_VALID n = false ∧
    (s.latchArmed n ref).fld F.LATCH_RESULT_EXTRA n = 0 ∧ (s.latchArmed n ref).host = s.host := by
  unfold State.latchArmed
  generalize unit : s.setLatchUnit n { s.latchUnit n with owner := some ref, armed := true, since := s.now, abort := none, after := false } = u
  have shown : u.latchUnit n = { s.latchUnit n with owner := some ref, armed := true, since := s.now, abort := none, after := false } := by
    rw [← unit, State.latchUnit_setLatchUnit_same]
  have units : ((u.setBit F.LATCH_RESULT_VALID false n).setFld F.LATCH_RESULT_EXTRA 0 n).latchUnit n = u.latchUnit n := by
    rw [State.latchUnit, State.setFld_latchUnits, State.setBit_latchUnits, State.latchUnit]
  refine ⟨by rw [units, shown], by rw [units, shown], ?_, ?_, ?_⟩
  · have valid : (u.setBit F.LATCH_RESULT_VALID false n).bit F.LATCH_RESULT_VALID n = false := State.bit_setBit_same _ _ _ _ _ rfl
    rw [State.bit, State.fld_setFld_bits (f := F.LATCH_RESULT_EXTRA) (g := F.LATCH_RESULT_VALID) _ 0 n 0 rfl (by decide)]
    exact valid
  · rw [State.fld_setFld_same]
    exact Nat.zero_mod _
  · rw [State.setFld_host, State.setBit_host, ← unit]
    rfl

theorem exec_latchArm (src : Src) (n : Fin 8) (s : State) :
    exec (.latchArm src n) s = outOf (s.runDesc src (srcDesc src 0x1C (0x7000 + 64 * n.val)) 0 0) := rfl

theorem Begun.latchUnit (h : Begun s src d host b) (n : Nat) : b.latchUnit n = s.latchUnit n := by simp only [State.latchUnit, h.latchUnits]

theorem State.entered_fld (t : State) (c : Cmd) (f : Fld) (i e : Nat) : (t.enter c).fld f i e = t.fld f i e := rfl
theorem State.entered_bit (t : State) (c : Cmd) (f : Fld) (i e : Nat) : (t.enter c).bit f i e = t.bit f i e := rfl
theorem State.entered_latchUnit (t : State) (c : Cmd) (n : Nat) : (t.enter c).latchUnit n = t.latchUnit n := rfl
theorem State.entered_cmpUnit (t : State) (c : Cmd) (n : Nat) : (t.enter c).cmpUnit n = t.cmpUnit n := rfl

section
variable {n : Fin 8}

theorem Begun.latchArm_arms (h : Begun s src (srcDesc src 0x1C (0x7000 + 64 * n.val)) 0 b) (mode : b.armMode = true)
    (free : b.fenced (.fb (b.fld F.LATCH_CFG_FB n.val)) = false) (edge : b.fld F.LATCH_CFG_EDGE n.val ≠ 0)
    (idle : (s.latchUnit n.val).owner = none) :
    ∃ t, exec (.latchArm src n) s = .next t ∧ t.runsOn src ∧ (t.latchUnit n.val).armed = true ∧
      (t.latchUnit n.val).owner = some (s.refOf src) ∧ t.bit F.LATCH_RESULT_VALID n.val = false ∧
      t.fld F.LATCH_RESULT_EXTRA n.val = 0 := by
  rw [← h.latchUnit] at idle
  have effect := fun lands => State.effect_latchArm (s := s) (src := src) b n lands
  rw [State.latchArm_arms mode free edge idle] at effect
  obtain ⟨armed, owner, valid, extra, hub⟩ := b.latchArmed_shows n.val (s.refOf src)
  generalize b.latchArmed n.val (s.refOf src) = u at *
  obtain ⟨runs, on⟩ := h.runs_on 0 (effect _) (State.carries_of_cmds h.carries (by rw [hub]))
  refine ⟨_, by rw [exec_latchArm, runs]; rfl, on, ?_⟩
  rw [State.entered_latchUnit, State.entered_fld, State.entered_bit]
  exact ⟨armed, owner, valid, extra⟩

theorem Begun.latchArm_wrongMode (h : Begun s src (srcDesc src 0x1C (0x7000 + 64 * n.val)) 0 b) (running : s.per.running = true)
    (mode : b.armMode = false) : ∃ t, exec (.latchArm src n) s = .next t ∧ t.endedWith src 0x06 ∧ t.latchUnits = s.latchUnits := by
  have effect := State.effect_latchArm (s := s) (src := src) b n 0
  rw [State.latchArm_wrongMode mode] at effect
  obtain ⟨runs, ended⟩ := h.ends_at_once running 0 effect rfl rfl
  exact ⟨_, runs, ended, h.latchUnits⟩

theorem Begun.latchArm_fenced (h : Begun s src (srcDesc src 0x1C (0x7000 + 64 * n.val)) 0 b) (running : s.per.running = true)
    (mode : b.armMode = true) (fenced : b.fenced (.fb (b.fld F.LATCH_CFG_FB n.val)) = true) :
    ∃ t, exec (.latchArm src n) s = .next t ∧ t.endedWith src 0x04 ∧ t.latchUnits = s.latchUnits := by
  have effect := State.effect_latchArm (s := s) (src := src) b n 0
  rw [State.latchArm_fenced mode fenced] at effect
  obtain ⟨runs, ended⟩ := h.ends_at_once running 0 effect rfl rfl
  exact ⟨_, runs, ended, h.latchUnits⟩

end

/-! ### Several fields of an entry at once -/

/-- Fields of an object take values, one after the other. -/
def State.setFlds (s : State) (i : Nat) (l : List (Fld × Nat)) : State := l.foldl (fun s e => s.setFld e.1 e.2 i) s

theorem State.setFlds_objsOnly (s : State) (i : Nat) (l : List (Fld × Nat)) : s.objsOnly (s.setFlds i l) := by
  induction l generalizing s with
  | nil => rfl
  | cons e l ih => exact (s.setFld_objsOnly e.1 e.2 i 0).trans (ih _)

/-- Fields whose bits do not meet. -/
def Fld.apart (f g : Fld) : Prop := g.lo + g.width ≤ f.lo ∨ f.lo + f.width ≤ g.lo

theorem State.setFlds_fld_apart (s : State) {o : Obj} (i : Nat) (l : List (Fld × Nat)) (h : ∀ e ∈ l, e.1.obj = o) {g : Fld} (hg : g.obj = o)
    (apart : ∀ e ∈ l, e.1.apart g) : (s.setFlds i l).fld g i = s.fld g i := by
  induction l generalizing s with
  | nil => rfl
  | cons e l ih =>
    refine (ih (s.setFld e.1 e.2 i) (fun x hx => h x (List.mem_cons_of_mem _ hx)) (fun x hx => apart x (List.mem_cons_of_mem _ hx))).trans ?_
    exact s.fld_setFld_bits e.2 i 0 (hg.trans (h e (List.mem_cons_self ..)).symm) (apart e (List.mem_cons_self ..))

theorem State.setFlds_fld (s : State) {o : Obj} (i : Nat) (l : List (Fld × Nat)) (h : ∀ e ∈ l, e.1.obj = o)
    (apart : l.Pairwise fun e x => x.1.apart e.1) : ∀ e ∈ l, (s.setFlds i l).fld e.1 i = e.2 % 2 ^ e.1.width := by
  induction l generalizing s with
  | nil => exact fun e he => absurd he List.not_mem_nil
  | cons x l ih =>
    obtain ⟨first, rest⟩ := List.pairwise_cons.mp apart
    intro e he
    rcases List.mem_cons.mp he with rfl | later
    · refine ((s.setFld e.1 e.2 i).setFlds_fld_apart i l (fun y hy => h y (List.mem_cons_of_mem _ hy)) (h e (List.mem_cons_self ..)) first).trans ?_
      exact State.fld_setFld_same ..
    · exact ih (s.setFld x.1 x.2 i) (fun y hy => h y (List.mem_cons_of_mem _ hy)) rest e later

/-! ### Arming of compare units -/

theorem cmpCfg_id (u : Fin 16) : objOf (0x7002 + 64 * u.val) = some .cmpCfg ∧ instOf? (0x7002 + 64 * u.val) .cmpCfg = some u.val := by
  decide +revert +kernel

/-- What CMP.STATUS of a unit takes when it is armed. -/
def cmpArming (behind_ count pos : Nat) : List (Fld × Nat) :=
  [(F.CMP_STATUS_ARMED, 1), (F.CMP_STATUS_COMPARE_BEHIND, behind_), (F.CMP_STATUS_REMAIN, count), (F.CMP_STATUS_POS, pos)]

/-- The state in which a compare unit is armed for a command. -/
def State.cmpArmed (s : State) (u dir count pos : Nat) (step : Int) (ref : CmdRef) (c : Nat) : State :=
  (s.setCmpUnit u { s.cmpUnit u with owner := some ref, dir := dir, step := step }).setFlds u
    (cmpArming (behind dir (s32diff c pos)).toNat count pos)

theorem State.compareArm_arms {u dir count pos c : Nat} {step : Int} {ref : CmdRef} (mode : b.armMode = true)
    (free : b.fenced (.fb (b.fld F.CMP_CFG_FB u)) = false) (hdir : dir ≠ 0) (hcount : count ≠ 0) (idle : (b.cmpUnit u).owner = none) :
    b.compareArm u dir count pos step ref c = (b.cmpArmed u dir count pos step ref c, none) := by
  have some_ : ¬ (dir = 0 ∨ count = 0) := not_or.mpr ⟨hdir, hcount⟩
  simp only [State.compareArm, mode, free, if_neg some_, idle, Bool.not_true, Bool.false_eq_true, if_false]
  rfl

@[simp] theorem State.cmpUnit_setCmpUnit_same (s : State) (u : Nat) (v : CmpSt) : (s.setCmpUnit u v).cmpUnit u = v := by
  simp [State.cmpUnit, State.setCmpUnit]

theorem State.bit_of_one {t : State} {f : Fld} {i e : Nat} (one : t.fld f i e = 1) : t.bit f i e = true := by
  rw [State.bit, one]
  rfl

theorem State.cmpArmed_shows (s : State) {u dir count pos c : Nat} {step : Int} {ref : CmdRef} (hcount : count < 2 ^ 16)
    (hpos : pos < 2 ^ 32) :
    ((s.cmpArmed u dir count pos step ref c).cmpUnit u).owner = some ref ∧ ((s.cmpArmed u dir count pos step ref c).cmpUnit u).dir = dir ∧
    ((s.cmpArmed u dir count pos step ref c).cmpUnit u).step = step ∧ (s.cmpArmed u dir count pos step ref c).bit F.CMP_STATUS_ARMED u = true ∧
    (s.cmpArmed u dir count pos step ref c).fld F.CMP_STATUS_REMAIN u = count ∧
    (s.cmpArmed u dir count pos step ref c).fld F.CMP_STATUS_POS u = pos ∧ (s.cmpArmed u dir count pos step ref c).host = s.host := by
  unfold State.cmpArmed
  generalize unit : s.setCmpUnit u { s.cmpUnit u with owner := some ref, dir := dir, step := step } = v
  have shown : v.cmpUnit u = { s.cmpUnit u with owner := some ref, dir := dir, step := step } := by
    rw [← unit, State.cmpUnit_setCmpUnit_same]
  have hub : v.host = s.host := by
    rw [← unit]
    rfl
  generalize (behind dir (s32diff c pos)).toNat = back
  have only := v.setFlds_objsOnly u (cmpArming back count pos)
  have units : (v.setFlds u (cmpArming back count pos)).cmpUnit u = v.cmpUnit u := by
    rw [State.cmpUnit, only, State.cmpUnit]
  have objs : ∀ e ∈ cmpArming back count pos, e.1.obj = Obj.cmpStatus := by
    simp only [cmpArming, List.forall_mem_cons]
    exact ⟨rfl, rfl, rfl, rfl, fun _ h => absurd h List.not_mem_nil⟩
  have apart : (cmpArming back count pos).Pairwise fun e x => x.1.apart e.1 := by
    simp only [cmpArming, List.pairwise_cons, List.forall_mem_cons, Fld.apart, List.Pairwise.nil, and_true]
    decide
  have flds := v.setFlds_fld u (cmpArming back count pos) objs apart
  rw [units, shown]
  have member : ∀ e ∈ [(F.CMP_STATUS_ARMED, 1), (F.CMP_STATUS_REMAIN, count), (F.CMP_STATUS_POS, pos)], e ∈ cmpArming back count pos := by
    simp [cmpArming]
  have armed := flds (F.CMP_STATUS_ARMED, 1) (member _ (by simp))
  have remain := flds (F.CMP_STATUS_REMAIN, count) (member _ (by simp))
  have posn := flds (F.CMP_STATUS_POS, pos) (member _ (by simp))
  exact ⟨rfl, rfl, rfl, State.bit_of_one armed, remain.trans (Nat.mod_eq_of_lt hcount), posn.trans (Nat.mod_eq_of_lt hpos), only.host.trans hub⟩

/-- The descriptor of a COMPARE_ARM. -/
def armDesc (src : Src) (u : Fin 16) (param inline : Nat) : Desc :=
  { srcDesc src 0x1D (0x7002 + 64 * u.val) with param := param, inline := inline }

theorem State.effect_compareArm (t : State) (u : Fin 16) (param inline lands : Nat) :
    t.effect (s.held src (armDesc src u param inline)) lands =
      .ok (t.compareArm u.val (param % 4) (getBits param 16 16) (getBits inline 0 32) (sint 32 (getBits inline 32 32)) (s.refOf src)
        (t.fbs (t.fld F.CMP_CFG_FB u.val)).count) := by
  have held : (s.held src (armDesc src u param inline)).desc = armDesc src u param inline := rfl
  have fields : (armDesc src u param inline).opcode = 0x1D ∧ (armDesc src u param inline).objId = 0x7002 + 64 * u.val ∧
    (armDesc src u param inline).param = param ∧ (armDesc src u param inline).inline = inline := ⟨rfl, rfl, rfl, rfl⟩
  obtain ⟨op, id, par, inl⟩ := fields
  simp only [State.effect, held, op, id, par, inl]
  exact State.withObj_of (cmpCfg_id u).1 (cmpCfg_id u).2 _

theorem arm_param {dir count : Nat} (hd : dir < 4) (hc : count < 2 ^ 16) :
    (dir + count * 2 ^ 16) % 4 = dir ∧ getBits (dir + count * 2 ^ 16) 16 16 = count := by
  simp only [getBits]
  omega

theorem arm_inline {pos step : Nat} (hp : pos < 2 ^ 32) (hs : step < 2 ^ 32) :
    getBits (pos + step * 2 ^ 32) 0 32 = pos ∧ getBits (pos + step * 2 ^ 32) 32 32 = step := by
  simp only [getBits]
  omega

theorem Begun.cmpUnit (h : Begun s src d host b) (u : Nat) : b.cmpUnit u = s.cmpUnit u := by simp only [State.cmpUnit, h.cmpUnits]

theorem exec_compareArm (src : Src) (u : Fin 16) (pos step : Fin (2 ^ 32)) (count : Fin (2 ^ 16)) (dir : Fin 4) (s : State) :
    exec (.compareArm src u pos step count dir) s =
      outOf (s.runDesc src (armDesc src u (dir.val + count.val * 2 ^ 16) (pos.val + step.val * 2 ^ 32)) 0 0) := rfl

theorem Begun.compareArm_arms {u : Fin 16} {pos step : Fin (2 ^ 32)} {count : Fin (2 ^ 16)} {dir : Fin 4}
    (h : Begun s src (armDesc src u (dir.val + count.val * 2 ^ 16) (pos.val + step.val * 2 ^ 32)) 0 b) (mode : b.armMode = true)
    (free : b.fenced (.fb (b.fld F.CMP_CFG_FB u.val)) = false) (hdir : dir.val ≠ 0) (hcount : count.val ≠ 0)
    (idle : (s.cmpUnit u.val).owner = none) :
    ∃ t, exec (.compareArm src u pos step count dir) s = .next t ∧ t.runsOn src ∧ (t.cmpUnit u.val).owner = some (s.refOf src) ∧
      (t.cmpUnit u.val).dir = dir.val ∧ (t.cmpUnit u.val).step = sint 32 step.val ∧ t.bit F.CMP_STATUS_ARMED u.val = true ∧
      t.fld F.CMP_STATUS_REMAIN u.val = count.val ∧ t.fld F.CMP_STATUS_POS u.val = pos.val := by
  rw [← h.cmpUnit] at idle
  obtain ⟨direction, number⟩ := arm_param dir.isLt count.isLt
  obtain ⟨position, increment⟩ := arm_inline pos.isLt step.isLt
  have effect := fun lands => State.effect_compareArm (s := s) (src := src) b u (dir.val + count.val * 2 ^ 16) (pos.val + step.val * 2 ^ 32) lands
  rw [direction, number, position, increment, State.compareArm_arms mode free hdir hcount idle] at effect
  obtain ⟨owner, way, by_, armed, remain, at_, hub⟩ := b.cmpArmed_shows (u := u.val) (dir := dir.val) (step := sint 32 step.val) (ref := s.refOf src)
    (c := (b.fbs (b.fld F.CMP_CFG_FB u.val)).count) count.isLt pos.isLt
  generalize b.cmpArmed u.val dir.val count.val pos.val (sint 32 step.val) (s.refOf src) (b.fbs (b.fld F.CMP_CFG_FB u.val)).count = v at *
  obtain ⟨runs, on⟩ := h.runs_on 0 (effect _) (State.carries_of_cmds h.carries (by rw [hub]))
  refine ⟨_, by rw [exec_compareArm, runs]; rfl, on, ?_⟩
  rw [State.entered_cmpUnit, State.entered_fld, State.entered_fld, State.entered_bit]
  exact ⟨owner, way, by_, armed, remain, at_⟩

/-! ### Edges at latch units and the end of a compare pulse -/

theorem exec_latchEdge (n : Fin 8) (held : Fin 256) (rising : Bool) (s : State) :
    exec (.latchEdge ⟨n, held⟩ rising) s = .next (s.latchEdge n.val rising held.val) := rfl

theorem exec_comparePulseEnd (u : Fin 16) (s : State) : exec (.comparePulseEnd u) s =
    match (s.cmpUnit u.val).pulse with
    | none => .next s
    | some p => .next ((s.until (p + s.pulseTicks u.val)).setCmpUnit u.val
        { (s.until (p + s.pulseTicks u.val)).cmpUnit u.val with pulse := none }) := rfl

theorem State.inputTick_of_unmeasured (free : s.per.measured ≠ some s.now) : s.inputTick = s := by
  rw [State.inputTick, if_neg (by simpa using free)]

/-- Whether an edge of this direction is one of the unit (R229). -/
def State.edgeFits (s : State) (n : Nat) (rising : Bool) : Bool :=
  if rising then (s.fld F.LATCH_CFG_EDGE n).testBit 0 else (s.fld F.LATCH_CFG_EDGE n).testBit 1

section
variable {n held : Nat} {rising : Bool}

theorem State.latchEdge_short (free : s.per.measured ≠ some s.now) (short : held < s.fld F.LATCH_CFG_FILTER n) :
    s.latchEdge n rising held = s := by
  simp only [State.latchEdge, State.inputTick_of_unmeasured free, if_pos short]

/-- A level that has held for FILTER ticks. -/
theorem State.latchEdge_long (free : s.per.measured ≠ some s.now) (long : s.fld F.LATCH_CFG_FILTER n ≤ held) :
    s.latchEdge n rising held =
      if (s.latchUnit n).armed then
        if !s.edgeFits n rising || s.now - held < (s.latchUnit n).since then s
        else if (s.latchUnit n).abort.any fun e => decide (e.2 ≤ s.now - held) then s.disarmLatch n {}
        else s.setLatchUnit n { s.latchUnit n with
          owner := none, armed := false, abort := none, after := true
          caps := (s.latchUnit n).caps ++ [s.latchCap n (s.now - held) rising] }
      else if (s.latchUnit n).after then s.setFld F.LATCH_RESULT_EXTRA (min 0xFFFF (s.fld F.LATCH_RESULT_EXTRA n + 1)) n
      else s := by
  simp only [State.latchEdge, State.inputTick_of_unmeasured free, if_neg (Nat.not_lt.mpr long)]
  rfl

theorem State.latchCap_fields (s : State) (n tl : Nat) (rising : Bool) : (s.latchCap n tl rising).time = tl ∧
    (s.latchCap n tl rising).rising = rising ∧ (s.latchCap n tl rising).owner = (s.latchUnit n).owner := by
  simp only [State.latchCap]
  split <;> exact ⟨rfl, rfl, rfl⟩

theorem State.finishCmd_latchUnits (s : State) (ref : CmdRef) (o : Result) (need : Nat) : (s.finishCmd ref o need).latchUnits = s.latchUnits := by
  rw [(s.finishCmd_completedInto ref o need).2]

theorem State.disarmLatch_clears (armed : (s.latchUnit n).armed = true) (o : Result) :
    ((s.disarmLatch n o).latchUnit n).armed = false ∧ ((s.disarmLatch n o).latchUnit n).caps = (s.latchUnit n).caps ∧
    ((s.disarmLatch n o).latchUnit n).owner = none := by
  have unit : (s.disarmLatch n o).latchUnit n = { s.latchUnit n with armed := false, owner := none, abort := none } := by
    have set_ := State.latchUnit_setLatchUnit_same s n { s.latchUnit n with armed := false, owner := none, abort := none }
    simp only [State.disarmLatch, armed, if_true]
    split
    · rw [State.latchUnit, State.finishCmd_latchUnits]
      exact set_
    · exact set_
  rw [unit]
  exact ⟨rfl, rfl, rfl⟩

end

section
variable (free : s.per.measured ≠ some s.now) (n : Fin 8) (rising : Bool) (held : Fin 256)
include free

theorem latchEdge_early (short : held.val < s.fld F.LATCH_CFG_FILTER n.val) : exec (.latchEdge ⟨n, held⟩ rising) s = .next s := by
  rw [exec_latchEdge, State.latchEdge_short free short]

variable (long : s.fld F.LATCH_CFG_FILTER n.val ≤ held.val)
include long

theorem latchEdge_captures (armed : (s.latchUnit n.val).armed = true) (edge : s.edgeFits n.val rising = true)
    (since : (s.latchUnit n.val).since ≤ s.now - held.val) (aborted : (s.latchUnit n.val).abort = none) :
    ∃ t c, exec (.latchEdge ⟨n, held⟩ rising) s = .next t ∧ (t.latchUnit n.val).armed = false ∧
      (t.latchUnit n.val).caps = (s.latchUnit n.val).caps ++ [c] ∧ c.time = s.now - held.val ∧ c.rising = rising ∧
      c.owner = (s.latchUnit n.val).owner ∧ t = { s with latchUnits := t.latchUnits } := by
  obtain ⟨time, way, owner⟩ := s.latchCap_fields n.val (s.now - held.val) rising
  rw [exec_latchEdge, State.latchEdge_long free long, if_pos armed, if_neg (by simpa [edge] using since), aborted, if_neg (by simp)]
  refine ⟨_, s.latchCap n.val (s.now - held.val) rising, rfl, ?_, ?_, time, way, owner, rfl⟩
  · rw [State.latchUnit_setLatchUnit_same]
  · rw [State.latchUnit_setLatchUnit_same]

theorem latchEdge_aborted (e : Nat × Nat) (armed : (s.latchUnit n.val).armed = true) (edge : s.edgeFits n.val rising = true)
    (since : (s.latchUnit n.val).since ≤ s.now - held.val) (aborted : (s.latchUnit n.val).abort = some e) (earlier : e.2 ≤ s.now - held.val) :
    ∃ t, exec (.latchEdge ⟨n, held⟩ rising) s = .next t ∧ (t.latchUnit n.val).armed = false ∧
      (t.latchUnit n.val).caps = (s.latchUnit n.val).caps ∧ (t.latchUnit n.val).owner = none := by
  rw [exec_latchEdge, State.latchEdge_long free long, if_pos armed, if_neg (by simpa [edge] using since), aborted,
    if_pos (by simpa using earlier)]
  exact ⟨_, rfl, State.disarmLatch_clears armed {}⟩

theorem latchEdge_other (armed : (s.latchUnit n.val).armed = true)
    (none_ : s.edgeFits n.val rising = false ∨ s.now - held.val < (s.latchUnit n.val).since) :
    exec (.latchEdge ⟨n, held⟩ rising) s = .next s := by
  rw [exec_latchEdge, State.latchEdge_long free long, if_pos armed, if_pos (by simpa using none_)]

theorem latchEdge_extra (armed : (s.latchUnit n.val).armed = false) (after : (s.latchUnit n.val).after = true) :
    ∃ t, exec (.latchEdge ⟨n, held⟩ rising) s = .next t ∧
      t.fld F.LATCH_RESULT_EXTRA n.val = min 0xFFFF (s.fld F.LATCH_RESULT_EXTRA n.val + 1) ∧ t.latchUnits = s.latchUnits ∧
      SameObjs [.latchResult] s t ∧ t = { s with objs := t.objs } := by
  rw [exec_latchEdge, State.latchEdge_long free long, armed, if_neg (by decide), if_pos after]
  refine ⟨_, rfl, ?_, State.setFld_latchUnits .., s.setFld_sameObjs F.LATCH_RESULT_EXTRA _ (Nat.lt_trans n.isLt (by decide)),
    s.setFld_objsOnly ..⟩
  rw [State.fld_setFld_same]
  exact Nat.mod_eq_of_lt (Nat.lt_of_le_of_lt (Nat.min_le_left ..) (by decide))

end

/-- Settles O33. -/
theorem latchAndCompareUnits : Obligations.LatchAndCompareUnits := by
  unfold Obligations.LatchAndCompareUnits
  refine ⟨fun src s running => ⟨?_, ?_⟩, fun s free => ⟨?_, fun u => ⟨fun none_ => ?_, fun p pulse => ?_⟩⟩⟩
  · intro n d b acts
    obtain ⟨b', h⟩ := begun_of acts
    rw [show b = b' from h.eq]
    exact ⟨h.latchArm_arms, h.latchArm_wrongMode running, h.latchArm_fenced running⟩
  · intro u pos step count dir d b acts
    obtain ⟨b', h⟩ := begun_of acts
    rw [show b = b' from h.eq]
    exact Begun.compareArm_arms h
  · intro n rising held u fits
    exact ⟨latchEdge_early free n rising held, fun long => ⟨latchEdge_captures free n rising held long, fun e => latchEdge_aborted free n rising held long e,
      latchEdge_other free n rising held long, latchEdge_extra free n rising held long⟩⟩
  · rw [exec_comparePulseEnd, none_]
  · rw [exec_comparePulseEnd, pulse]
    refine ⟨_, rfl, ?_, rfl⟩
    rw [State.cmpUnit_setCmpUnit_same]

end

end Sys2Proof.Machine
end

section
/-! The statements of SURVEY_FREEZE and ATTEST (R406, R407, R423). -/

set_option Elab.async false

namespace Sys2Proof.Machine

section
variable {s b : State} {src : Src} {d : Desc} {host : Nat}

/-! ### SURVEY_FREEZE -/

/-- The descriptor of a SURVEY_FREEZE. -/
def freezeDesc (src : Src) (noCopy : Bool) : Desc := { srcDesc src 0x24 0xC002 with param := noCopy.toNat }

theorem State.effect_surveyFreeze (t : State) (noCopy : Bool) (lands : Nat) :
    t.effect (s.held src (freezeDesc src noCopy)) lands = .ok (atOnce (t.surveyFreeze noCopy)) := by
  have held : (s.held src (freezeDesc src noCopy)).desc = freezeDesc src noCopy := rfl
  have fields : (freezeDesc src noCopy).opcode = 0x24 ∧ (freezeDesc src noCopy).objId = 0xC002 ∧ (freezeDesc src noCopy).param = noCopy.toNat :=
    ⟨rfl, rfl, rfl⟩
  obtain ⟨op, id, param⟩ := fields
  have bit : noCopy.toNat.testBit 0 = noCopy := by cases noCopy <;> rfl
  simp only [State.effect, held, op, id, param, bit]
  exact State.withObj_of (show objOf 0xC002 = some .survCtrl by decide +kernel) (show instOf? 0xC002 .survCtrl = some 0 by decide +kernel) _

/-- What a freeze leaves of the survey: its trigger, and the state that counts down unless POST has passed. -/
theorem State.freezeAt_surv (s : State) (stamp : Nat) (copy : Bool) : ∃ state, (state = 1 ∨ state = 2) ∧
    ((∀ x ∈ s.surv.ring, x.mtime < (s.recordAt stamp).2.1 + s.postTicks) → state = 1) ∧
    (s.freezeAt stamp copy).surv = { s.surv with state := state, trigSeq := s.recordSeq stamp, trigTime := (s.recordAt stamp).2.1
                                                 trigEpoch := (s.recordAt stamp).2.2, bbDue := copy } := by
  simp only [State.freezeAt]
  split
  case h_1 x found =>
    refine ⟨2, Or.inr rfl, fun early => ?_, rfl⟩
    have mem := List.mem_of_find?_eq_some found
    have late := List.find?_some found
    simp only [Bool.and_eq_true, decide_eq_true_eq] at late
    have := early x mem
    omega
  case h_2 => exact ⟨1, Or.inl rfl, fun _ => rfl, rfl⟩

theorem State.surveyFreeze_of_idle {noCopy : Bool} (mode : (b.loopMode || b.mode == .service) = true) (recording : b.surv.state = 0) :
    b.surveyFreeze noCopy = (b.freezeAt b.per.t0 (b.bit F.SURV_CFG_BB_EN && !noCopy),
      done (result := (b.freezeAt b.per.t0 (b.bit F.SURV_CFG_BB_EN && !noCopy)).surv.trigSeq)) := by
  simp only [State.surveyFreeze, mode, recording, Bool.not_true, Bool.false_eq_true, if_false, ne_eq, not_true_eq_false]

theorem State.surveyFreeze_refused {noCopy : Bool} (mode : (b.loopMode || b.mode == .service) = true) (recording : b.surv.state ≠ 0) :
    b.surveyFreeze noCopy = (b, refused 0x1) := by
  simp only [State.surveyFreeze, mode, Bool.not_true, Bool.false_eq_true, if_false, if_pos recording]

theorem Begun.recordAt (h : Begun s src d host b) (stamp : Nat) : b.recordAt stamp = s.recordAt stamp := by
  rw [h.frame]
  rfl

theorem Begun.postTicks (h : Begun s src d host b) : b.postTicks = s.postTicks := by
  have post : b.fld F.SURV_CFG_POST = s.fld F.SURV_CFG_POST := h.same.fld (by decide) (by decide)
  rw [State.postTicks, post, State.postTicks]

theorem exec_surveyFreeze (src : Src) (noCopy : Bool) (s : State) :
    exec (.surveyFreeze src noCopy) s = outOf (s.runDesc src (freezeDesc src noCopy) 0 0) := rfl

theorem State.acted_surv (b t : State) (r : Result) : (s.actedTo src d host b t r).surv = t.surv := rfl

theorem Begun.freezes {noCopy : Bool} (h : Begun s src (freezeDesc src noCopy) 0 b) (running : s.per.running = true)
    (mode : (b.loopMode || b.mode == .service) = true) (recording : s.surv.state = 0) :
    ∃ t, exec (.surveyFreeze src noCopy) s = .next t ∧ t.endedWith src 0x00 ∧ (t.surv.state = 1 ∨ t.surv.state = 2) ∧
      ((∀ x ∈ s.surv.ring, x.mtime < (s.recordAt s.per.t0).2.1 + s.postTicks) → t.surv.state = 1) ∧
      t.surv.trigSeq = s.recordSeq s.per.t0 ∧ t.surv.trigTime = (s.recordAt s.per.t0).2.1 ∧ (noCopy = true → t.surv.bbDue = false) := by
  rw [← h.surv] at recording
  have effect := State.effect_surveyFreeze (s := s) (src := src) b noCopy 0
  rw [State.surveyFreeze_of_idle mode recording] at effect
  obtain ⟨runs, ended⟩ := h.ends_at_once running 0 effect (State.freezeAt_per ..) (State.freezeAt_host ..)
  have t0 : b.per.t0 = s.per.t0 := by rw [h.frame]
  obtain ⟨state, one, early, surv⟩ := b.freezeAt_surv b.per.t0 (b.bit F.SURV_CFG_BB_EN && !noCopy)
  rw [h.surv, h.postTicks, t0, h.recordAt] at early
  refine ⟨_, runs, ended, ?_⟩
  rw [State.acted_surv, surv, State.recordSeq, t0, h.recordAt]
  exact ⟨one, early, rfl, rfl, fun none_ => by simp [none_]⟩

theorem Begun.freeze_refused {noCopy : Bool} (h : Begun s src (freezeDesc src noCopy) 0 b) (running : s.per.running = true)
    (mode : (b.loopMode || b.mode == .service) = true) (recording : s.surv.state ≠ 0) :
    ∃ t, exec (.surveyFreeze src noCopy) s = .next t ∧ t.endedWith src 0x07 ∧ t.surv.state = s.surv.state := by
  rw [← h.surv] at recording ⊢
  have effect := State.effect_surveyFreeze (s := s) (src := src) b noCopy 0
  rw [State.surveyFreeze_refused mode recording] at effect
  obtain ⟨runs, ended⟩ := h.ends_at_once running 0 effect rfl rfl
  exact ⟨_, runs, ended, rfl⟩

/-! ### ATTEST -/

/-- The descriptor of an ATTEST. -/
def attestDesc (src : Src) (nonce hostAddr : Nat) : Desc :=
  { srcDesc src 0x28 0xE000 with length := 32, inline := nonce, hostAddr := hostAddr }

theorem State.effect_attest (t : State) (nonce hostAddr lands : Nat) :
    t.effect (s.held src (attestDesc src nonce hostAddr)) lands = .ok (atOnce (t.attest nonce hostAddr)) := by
  have held : (s.held src (attestDesc src nonce hostAddr)).desc = attestDesc src nonce hostAddr := rfl
  have fields : (attestDesc src nonce hostAddr).opcode = 0x28 ∧ (attestDesc src nonce hostAddr).objId = 0xE000 ∧
    (attestDesc src nonce hostAddr).inline = nonce ∧ (attestDesc src nonce hostAddr).hostAddr = hostAddr := ⟨rfl, rfl, rfl, rfl⟩
  obtain ⟨op, id, inline, addr⟩ := fields
  simp only [State.effect, held, op, id, inline, addr]
  exact State.withObj_of (show objOf 0xE000 = some .secId by decide +kernel) (show instOf? 0xE000 .secId = some 0 by decide +kernel) _

/-- The state after a statement has been signed and written (R423). -/
def State.attested (s : State) (nonce hostAddr : Nat) : State :=
  State.hostWrite { s with sec := { s.sec with drbg := s.sec.drbg + 1 } } hostAddr 224 (natOf (s.signed nonce).1)

theorem State.attest_signs {nonce hostAddr : Nat} (key : b.sec.priv.isSome = true) (closed : b.sec.opened = false) :
    b.attest nonce hostAddr = (b.attested nonce hostAddr, done) := by
  have held : b.sec.priv.isNone = false := by
    rw [Option.isNone_eq_false_iff]
    exact key
  simp only [State.attest, held, closed, Bool.false_eq_true, if_false]
  rfl

theorem State.hostWrite_per (s : State) (addr len data : Nat) : (s.hostWrite addr len data).per = s.per := by
  unfold State.hostWrite
  split <;> rfl

theorem State.hostWrite_wrote (s : State) (addr len data : Nat) : s.wroteHost (s.hostWrite addr len data) addr len data := by
  unfold State.wroteHost State.hostWrite
  split
  · rename_i on
    exact Or.inl ⟨on, List.mem_append_right _ (List.mem_singleton_self _)⟩
  · rename_i off
    exact Or.inr ⟨by simpa using off, List.mem_append_right _ (List.mem_singleton_self _)⟩

theorem State.wroteHost_of {t u : State} {addr len data : Nat} (h : b.wroteHost t addr len data) (bus : s.host.busMaster = b.host.busMaster)
    (writes : u.host.writes = t.host.writes) (heldWrites : u.host.heldWrites = t.host.heldWrites) : s.wroteHost u addr len data := by
  unfold State.wroteHost at h ⊢
  rw [bus, writes, heldWrites]
  exact h

theorem exec_attest (src : Src) (nonce : Fin (2 ^ 256)) (hostAddr : Fin (2 ^ 64)) (s : State) :
    exec (.attest src nonce hostAddr) s = outOf (s.runDesc src (attestDesc src nonce.val hostAddr.val) 0 0) := rfl

theorem Begun.attest_refused {nonce hostAddr : Nat} (h : Begun s src (attestDesc src nonce hostAddr) 0 b) (running : s.per.running = true)
    (key : s.sec.priv = none) : ∃ t, outOf (s.runDesc src (attestDesc src nonce hostAddr) 0 0) = .next t ∧ t.endedWith src 0x07 ∧
      t.host.writes = s.host.writes := by
  have effect := State.effect_attest (s := s) (src := src) b nonce hostAddr 0
  have refusal : b.attest nonce hostAddr = (b, refused 0x1) := by
    rw [State.attest, h.sec, key]
    rfl
  rw [refusal] at effect
  obtain ⟨runs, ended⟩ := h.ends_at_once running 0 effect rfl rfl
  have writes : b.host.writes = s.host.writes := by rw [h.frame]
  exact ⟨_, runs, ended, writes⟩

theorem Begun.attests {nonce hostAddr : Nat} (h : Begun s src (attestDesc src nonce hostAddr) 0 b) (running : s.per.running = true)
    (key : s.sec.priv.isSome = true) (closed : s.sec.opened = false) :
    ∃ t, outOf (s.runDesc src (attestDesc src nonce hostAddr) 0 0) = .next t ∧ t.endedWith src 0x00 ∧
      s.wroteHost t hostAddr 224 (natOf (b.signed nonce).1) := by
  rw [← h.sec] at key closed
  have effect := State.effect_attest (s := s) (src := src) b nonce hostAddr 0
  rw [State.attest_signs key closed] at effect
  have wrote : b.wroteHost (b.attested nonce hostAddr) hostAddr 224 (natOf (b.signed nonce).1) :=
    State.wroteHost_of (State.hostWrite_wrote { b with sec := { b.sec with drbg := b.sec.drbg + 1 } } ..) rfl rfl rfl
  have per : (b.attested nonce hostAddr).per = b.per := State.hostWrite_per ..
  have cmds : (b.attested nonce hostAddr).host.cmds = b.host.cmds := State.hostWrite_cmds ..
  have bus : s.host.busMaster = b.host.busMaster := by rw [h.frame]
  generalize b.attested nonce hostAddr = u at *
  obtain ⟨runs, ended⟩ := h.ends running 0 effect (by rw [per, h.running, running]) (State.carries_of_cmds h.carries cmds)
  exact ⟨_, by rw [runs]; rfl, ended, State.wroteHost_of wrote bus rfl rfl⟩

/-- Settles O34. -/
theorem freezeAndAttest : Obligations.FreezeAndAttest := by
  unfold Obligations.FreezeAndAttest
  intro src s running
  constructor
  · intro noCopy d b acts mode
    obtain ⟨b', h⟩ := begun_of acts
    rw [show b = b' from h.eq] at mode
    exact ⟨Begun.freezes h running mode, Begun.freeze_refused h running mode⟩
  · intro nonce hostAddr d acts
    obtain ⟨b, h⟩ := begun_of acts
    rw [exec_attest, h.eq]
    exact ⟨Begun.attest_refused h running, Begun.attests h running⟩

end

end Sys2Proof.Machine
end

section
/-! The statement of the bulk descriptors (R82, R83, R213, R377, R412, R414). -/

set_option Elab.async false

namespace Sys2Proof.Machine

section
variable {s u : State} {b : Fin 2} {src : BulkSrc} {d : Desc} {host : Nat}

/-- A bulk descriptor at its turn runs whole: its completion carries the status of its effect. -/
theorem State.runBulk_ends {o : Result} {os : List Obj} (at_ : s.atBulk b.val src d host = true) (none_ : s.host.cmds = [])
    (effect : (s.fetchedBulk b src d host).bulkEffect d d.length (descData d host) d.last = .ok (u, o)) (status : o.status < 256)
    (same : SameObjs os (s.fetchedBulk b src d host) u) (hif : ∀ x ∈ [Obj.hifRingCtrl, .hifCqCtrl, .hifCqTail, .hifCqBase], x ∉ os)
    (cmds : u.host.cmds = (s.fetchedBulk b src d host).host.cmds) (cqs : u.host.cqs = s.host.cqs)
    (master : u.host.busMaster = s.host.busMaster) (writes : s.host.writes <+: u.host.writes) :
    ∃ v, outOf (s.runBulk b.val src d host) = .next v ∧ BulkEnded s u v b o.status := by
  obtain ⟨may, runs⟩ := State.runBulk_of_atBulk at_ none_
  obtain ⟨-, bus, takes⟩ := State.mayFetch_imp may
  have all : SameObjs (.hifRingState :: os) s u := ((s.fetchedBulk_sameObjs b src d host).mono (by simp)).trans (same.mono (by simp))
  have hif' : ∀ x ∈ [Obj.hifRingCtrl, .hifCqCtrl, .hifCqTail, .hifCqBase], x ∉ Obj.hifRingState :: os := fun x hx mem => by
    rcases List.mem_cons.mp mem with rfl | mem
    · exact absurd hx (by decide)
    · exact hif x hx mem
  obtain ⟨v, run, ended⟩ := State.bulkRun_ends (c := s.bulkHeld b src d host) rfl rfl rfl bus takes effect status all hif' cmds cqs master writes
  exact ⟨v, by rw [runs, run]; rfl, ended⟩

/-- An effect that leaves the hub's side as it was. -/
theorem State.runBulk_ends_quiet {o : Result} {os : List Obj} (at_ : s.atBulk b.val src d host = true) (none_ : s.host.cmds = [])
    (effect : (s.fetchedBulk b src d host).bulkEffect d d.length (descData d host) d.last = .ok (u, o)) (status : o.status < 256)
    (same : SameObjs os (s.fetchedBulk b src d host) u) (hif : ∀ x ∈ [Obj.hifRingCtrl, .hifCqCtrl, .hifCqTail, .hifCqBase], x ∉ os)
    (hub : u.host = (s.fetchedBulk b src d host).host) :
    ∃ v, outOf (s.runBulk b.val src d host) = .next v ∧ BulkEnded s u v b o.status :=
  State.runBulk_ends at_ none_ effect status same hif (by rw [hub]) (by rw [hub]; rfl) (by rw [hub]; rfl)
    (by rw [hub]; exact List.prefix_rfl)

/-- An effect that writes to host memory. -/
theorem State.runBulk_ends_write {addr len data : Nat} {o : Result} (at_ : s.atBulk b.val src d host = true) (none_ : s.host.cmds = [])
    (effect : (s.fetchedBulk b src d host).bulkEffect d d.length (descData d host) d.last =
      .ok ((s.fetchedBulk b src d host).hostWrite addr len data, o)) (status : o.status < 256) :
    ∃ v, outOf (s.runBulk b.val src d host) = .next v ∧
      BulkEnded s ((s.fetchedBulk b src d host).hostWrite addr len data) v b o.status ∧ s.wroteHost v addr len data := by
  obtain ⟨may, -⟩ := State.runBulk_of_atBulk at_ none_
  obtain ⟨-, bus, -⟩ := State.mayFetch_imp may
  have written : (s.fetchedBulk b src d host).hostWrite addr len data = { s.fetchedBulk b src d host with
      host := { (s.fetchedBulk b src d host).host with writes := s.host.writes ++ [⟨addr, len, data⟩] } } := by
    rw [State.hostWrite, if_pos (show (s.fetchedBulk b src d host).host.busMaster = true from bus)]
    rfl
  obtain ⟨v, runs, ended⟩ := State.runBulk_ends (os := []) at_ none_ effect status
    (by rw [written]; exact SameObjs.of_objs rfl _) (by decide) (by rw [written]) (by rw [written]; rfl) (by rw [written]; rfl)
    (by rw [written]; exact List.prefix_append ..)
  have mem : (⟨addr, len, data⟩ : HostWrite) ∈ ((s.fetchedBulk b src d host).hostWrite addr len data).host.writes := by
    rw [written]
    exact List.mem_append_right _ (List.mem_singleton_self _)
  exact ⟨v, runs, ended, Or.inl ⟨bus, ended.writes.subset mem⟩⟩

/-- The statement's form of a bulk descriptor's end. -/
theorem BulkEnded.tells {v : State} {status : Nat} (h : BulkEnded s u v b status) : v.bit F.HIF_RING_APPLIED_VALID (16 + b.val) = true ∧
    v.host.cmds = [] ∧ s.wroteCompletion v (16 + b.val) status := ⟨h.shown, h.cmds, h.wrote⟩

/-! ### IMAGE_WRITE (R82) -/

theorem State.showSlots_sameObjs (s : State) : SameObjs [.sysBoot] s s.showSlots := by
  unfold State.showSlots
  exact ((((s.setFld_sameObjs F.SYS_BOOT_SLOT0_STATE _ (by decide)).trans (State.setFld_sameObjs _ F.SYS_BOOT_SLOT1_STATE _ (by decide))).trans
    (State.setFld_sameObjs _ F.SYS_BOOT_SLOT0_GEN _ (by decide))).trans (State.setFld_sameObjs _ F.SYS_BOOT_SLOT1_GEN _ (by decide)))

theorem State.showSlots_objsOnly (s : State) : s.objsOnly s.showSlots := by
  unfold State.showSlots
  exact (((s.setFld_objsOnly ..).trans (State.setFld_objsOnly ..)).trans (State.setFld_objsOnly ..)).trans (State.setFld_objsOnly ..)

/-- What an image write does to a state whose boot state is that of `s`: the slots, and what shows them. -/
structure ImageWrite (s : State) (n off len data : Nat) (last : Bool) (f : State → State) (r : Result) : Prop where
  eq : ∀ t : State, t.boot = s.boot → t.imageWrite n off len data last = (f t, r)
  status : r.status < 256
  same : ∀ t, SameObjs [.sysBoot] t (f t)
  host : ∀ t, (f t).host = t.host
  boot : ∀ t, t.boot = s.boot → (f t).boot = (f s).boot
  here : s.boot.running = some n → r.status = 0x07 ∧ (f s).boot = s.boot

/-- The slot after an image write that fits it. -/
def State.slotWritten (s : State) (n off len data : Nat) (last : Bool) : SlotSt :=
  let bytes := (List.range len).foldl (fun (m : SMap Byte) i => m.set (off + i) (BitVec.ofNat 8 (data / 2 ^ (8 * i))) 0) (s.slot n).bytes
  let first := if off = 0 then { s.slot n with bytes := bytes, state := 0, failed := false } else { s.slot n with bytes := bytes }
  let gen := match s.boot.running with
    | some r => (s.slot r).gen + 1
    | none => 1
  if last then { first with state := 2, failed := false, gen := gen } else first

theorem State.imageWrite_does (s : State) (n off len data : Nat) (last : Bool) : ∃ f r, ImageWrite s n off len data last f r := by
  by_cases here : s.boot.running = some n
  · refine ⟨id, refused 0x1, fun t same => ?_, show 0x07 < 256 by decide, fun _ => SameObjs.refl _ _, fun _ => rfl, fun _ same => same,
      fun _ => ⟨rfl, rfl⟩⟩
    rw [State.imageWrite, same, if_pos here]
    rfl
  · by_cases beyond : 2 ^ 20 < off + len
    · refine ⟨id, refused 0x2, fun t same => ?_, show 0x07 < 256 by decide, fun _ => SameObjs.refl _ _, fun _ => rfl, fun _ same => same,
        fun running => absurd running here⟩
      rw [State.imageWrite, same, if_neg here, if_pos beyond]
      rfl
    · have shows : ∀ v : State, v.showSlots.boot = v.boot := fun v => by rw [v.showSlots_objsOnly]
      refine ⟨fun t => (t.setSlot n (s.slotWritten n off len data last)).showSlots, done, fun t same => ?_, show 0 < 256 by decide,
        fun t => (SameObjs.of_objs (t := t.setSlot n (s.slotWritten n off len data last)) rfl _).trans (State.showSlots_sameObjs _),
        fun t => (State.showSlots_objsOnly _).host, fun t same => ?_, fun running => absurd running here⟩
      · have written : t.slotWritten n off len data last = s.slotWritten n off len data last := by
          simp only [State.slotWritten, State.slot, same]
        rw [State.imageWrite, same, if_neg here, if_neg beyond, ← written, State.slotWritten, same] <;> rfl
      · rw [shows, shows, State.setSlot, State.setSlot, same]

/-- The fields of a transfer's descriptor that its effect reads. -/
theorem bulkIn_fields (src : BulkSrc) (op id param len : Nat) (last : Bool) : (bulkIn src op id param len last).opcode = op ∧
    (bulkIn src op id param len last).objId = id ∧ (bulkIn src op id param len last).param = param ∧
    (bulkIn src op id param len last).length = len ∧ (bulkIn src op id param len last).last = last := ⟨rfl, rfl, rfl, rfl, rfl⟩

theorem descData_image (src : BulkSrc) (param len host : Nat) (last : Bool) :
    descData (bulkIn src 0x40 0 param len last) host = host % 2 ^ (8 * len) := rfl

theorem descData_table (src : BulkSrc) (id param len host : Nat) (last : Bool) :
    descData (bulkIn src 0x41 id param len last) host = host % 2 ^ (8 * len) := rfl

theorem image_param {block slot : Nat} (hb : block < 2 ^ 24) (hs : slot < 2) :
    getBits (block + slot * 2 ^ 31) 31 1 = slot ∧ (block + slot * 2 ^ 31) % 2 ^ 24 = block := by
  simp only [getBits]
  omega

theorem exec_imageWrite (src : BulkSrc) (slot : Fin 2) (block : Fin (2 ^ 24)) (len : Fin 4097) (last : Bool) (data : Nat) (s : State) :
    exec (.imageWrite src slot block len last data) s =
      outOf (s.runBulk 0 src (bulkIn src 0x40 0 (block.val + slot.val * 2 ^ 31) len.val last) data) := rfl

theorem imageWrite_ends (none_ : s.host.cmds = []) (slot : Fin 2) (block : Fin (2 ^ 24)) (len : Fin 4097) (last : Bool) (data : Nat)
    (at_ : s.atBulk 0 src (bulkIn src 0x40 0 (block.val + slot.val * 2 ^ 31) len.val last) data = true)
    (small : last = true → s.genOverflow = false) :
    ∃ t, exec (.imageWrite src slot block len last data) s = .next t ∧
      (t.bit F.HIF_RING_APPLIED_VALID (16 + 0) = true ∧ t.host.cmds = [] ∧
        s.wroteCompletion t (16 + 0) (s.imageWrite slot.val (block.val * 64) len.val (data % 2 ^ (8 * len.val)) last).2.status) ∧
      t.boot = (s.imageWrite slot.val (block.val * 64) len.val (data % 2 ^ (8 * len.val)) last).1.boot ∧
      (s.boot.running = some slot.val →
        (s.imageWrite slot.val (block.val * 64) len.val (data % 2 ^ (8 * len.val)) last).2.status = 0x07 ∧ t.boot = s.boot) := by
  have at_ : s.atBulk (0 : Fin 2).val src (bulkIn src 0x40 0 (block.val + slot.val * 2 ^ 31) len.val last) data = true := at_
  obtain ⟨op, id, param, length, lst⟩ := bulkIn_fields src 0x40 0 (block.val + slot.val * 2 ^ 31) len.val last
  have held := descData_image src (block.val + slot.val * 2 ^ 31) len.val data last
  obtain ⟨chosen, position⟩ := image_param block.isLt slot.isLt
  have fresh : (last && (s.fetchedBulk 0 src (bulkIn src 0x40 0 (block.val + slot.val * 2 ^ 31) len.val last) data).genOverflow) = false := by
    cases last with
    | false => rfl
    | true => exact small rfl
  rw [exec_imageWrite]
  generalize bulkIn src 0x40 0 (block.val + slot.val * 2 ^ 31) len.val last = d at *
  generalize data % 2 ^ (8 * len.val) = v at *
  obtain ⟨f, r, write⟩ := s.imageWrite_does slot.val (block.val * 64) len.val v last
  have effect : (s.fetchedBulk 0 src d data).bulkEffect d d.length (descData d data) d.last = .ok (f (s.fetchedBulk 0 src d data), r) := by
    simp only [State.bulkEffect, op, param, length, lst, held, fresh, chosen, position, Bool.false_eq_true, if_false]
    exact congrArg Except.ok (write.eq _ rfl)
  obtain ⟨t, runs, ended⟩ := State.runBulk_ends_quiet at_ none_ effect write.status (write.same _) (by decide) (write.host _)
  have shown : t.boot = (f s).boot := (congrArg State.boot ended.frame).trans (write.boot _ rfl)
  rw [write.eq s rfl]
  exact ⟨t, runs, ended.tells, shown, fun here => ⟨(write.here here).1, shown.trans (write.here here).2⟩⟩

/-! ### TABLE_WRITE (R213, R414) -/

theorem exec_tableWrite (src : BulkSrc) (upload : Bool) (first : Fin (2 ^ 32)) (len : Fin 4097) (last : Bool) (data : Nat) (s : State) :
    exec (.tableWrite src upload first len last data) s =
      outOf (s.runBulk 0 src (bulkIn src 0x41 (if upload then 0xC005 else 0x6002) first.val len.val last) data) := rfl

theorem camStage_id : objOf 0x6002 = some .camStage ∧ (instOf? 0x6002 .camStage).isSome = true := by decide +kernel
theorem survUpload_id : objOf 0xC005 = some .survUpload ∧ (instOf? 0xC005 .survUpload).isSome = true := by decide +kernel
theorem survExport_id : objOf 0xC003 = some .survExport ∧ (instOf? 0xC003 .survExport).isSome = true := by decide +kernel
theorem fltLog_id : objOf 0xB006 = some .fltLog ∧ (instOf? 0xB006 .fltLog).isSome = true := by decide +kernel

/-- Consecutive entries written: each holds its value, every other entry its old one. -/
theorem SMap.get_foldl_set {α : Type} [DecidableEq α] (d : α) (first : Nat) (v : Nat → α) (n : Nat) (m : SMap α) (k : Nat) :
    ((List.range n).foldl (fun m i => m.set (first + i) (v i) d) m).get k d =
      if first ≤ k ∧ k < first + n then v (k - first) else m.get k d := by
  induction n with
  | zero => simp
  | succ n ih =>
    rw [List.range_succ, List.foldl_append, List.foldl_cons, List.foldl_nil, SMap.get_set, ih]
    by_cases last : k = first + n
    · rw [if_pos last, if_pos (by omega), last, Nat.add_sub_cancel_left]
    · rw [if_neg last]
      by_cases inside : first ≤ k ∧ k < first + n
      · rw [if_pos inside, if_pos (by omega)]
      · rw [if_neg inside, if_neg (by omega)]

/-- Cam points written into the staging area. -/
def stagedPoints (m : SMap Word24) (first n data : Nat) : SMap Word24 :=
  (List.range n).foldl (fun m i => m.set (first + i) (BitVec.ofNat 24 (getBits data (32 * i) 24)) 0) m

/-- The state in which they stand there. -/
def State.camStaged (s : State) (first n data : Nat) : State :=
  { s with motion := { s.motion with camStage := stagedPoints s.motion.camStage first n data } }

theorem State.camStageWrite_of_fits {first len data : Nat} (whole : len % 4 = 0) (fits : first + len / 4 ≤ 32768) :
    s.camStageWrite first len data = (s.camStaged first (len / 4) data, done) := by
  rw [State.camStageWrite, if_neg (by omega)]
  rfl

section
variable (none_ : s.host.cmds = []) (first : Fin (2 ^ 15)) (len : Fin 4097) (data : Nat)
  (at_ : s.atBulk 0 src (bulkIn src 0x41 0x6002 first.val len.val false) data = true) (whole : len.val % 4 = 0)
include none_ at_ whole

theorem tableWrite_stages (fits : first.val + len.val / 4 ≤ 32768)
    (clean : ((List.range (len.val / 4)).all fun i => getBits (data % 2 ^ (8 * len.val)) (32 * i + 24) 8 == 0) = true) :
    ∃ t, exec (.tableWrite src false ⟨first.val, by omega⟩ len false data) s = .next t ∧
      (t.bit F.HIF_RING_APPLIED_VALID (16 + 0) = true ∧ t.host.cmds = [] ∧ s.wroteCompletion t (16 + 0) 0x00) ∧
      (∀ k < len.val / 4, t.motion.camStage.get (first.val + k) 0 = BitVec.ofNat 24 (getBits (data % 2 ^ (8 * len.val)) (32 * k) 24)) ∧
      ∀ k, k < first.val ∨ first.val + len.val / 4 ≤ k → t.motion.camStage.get k 0 = s.motion.camStage.get k 0 := by
  have at_ : s.atBulk (0 : Fin 2).val src (bulkIn src 0x41 0x6002 first.val len.val false) data = true := at_
  obtain ⟨op, id, param, length, lst⟩ := bulkIn_fields src 0x41 0x6002 first.val len.val false
  have held := descData_table src 0x6002 first.val len.val data false
  have position : first.val % 2 ^ 15 = first.val := Nat.mod_eq_of_lt first.isLt
  rw [exec_tableWrite, if_neg (by decide)]
  show ∃ t, outOf (s.runBulk 0 src (bulkIn src 0x41 0x6002 first.val len.val false) data) = .next t ∧ _
  generalize bulkIn src 0x41 0x6002 first.val len.val false = d at *
  generalize data % 2 ^ (8 * len.val) = v at *
  have zero : ¬ (len.val % 4 = 0 ∧ ((List.range (len.val / 4)).any fun i => getBits v (32 * i + 24) 8 != 0) = true) := by
    rintro ⟨-, dirty⟩
    obtain ⟨i, hi, ne⟩ := List.any_eq_true.mp dirty
    have eq := List.all_eq_true.mp clean i hi
    simp only [bne_iff_ne, beq_iff_eq] at ne eq
    exact ne eq
  have effect : (s.fetchedBulk 0 src d data).bulkEffect d d.length (descData d data) d.last =
      .ok ((s.fetchedBulk 0 src d data).camStaged first.val (len.val / 4) v, done) := by
    simp only [State.bulkEffect, op, id, param, length, held, camStage_id.1, camStage_id.2, position, if_true, and_self]
    rw [if_neg zero, State.camStageWrite_of_fits whole fits]
  obtain ⟨t, runs, ended⟩ := State.runBulk_ends_quiet (os := []) at_ none_ effect (by decide) (SameObjs.of_objs rfl _) (by decide) rfl
  have stage : ∀ k, t.motion.camStage.get k 0 = if first.val ≤ k ∧ k < first.val + len.val / 4 then
      BitVec.ofNat 24 (getBits v (32 * (k - first.val)) 24) else s.motion.camStage.get k 0 := fun k => by
    rw [ended.frame]
    exact SMap.get_foldl_set 0 first.val (fun i => BitVec.ofNat 24 (getBits v (32 * i) 24)) (len.val / 4) s.motion.camStage k
  refine ⟨t, runs, ended.tells, fun k hk => ?_, fun k hk => ?_⟩
  · rw [stage, if_pos (by omega), Nat.add_sub_cancel_left]
  · rw [stage, if_neg (by omega)]

theorem tableWrite_reserved
    (dirty : ((List.range (len.val / 4)).all fun i => getBits (data % 2 ^ (8 * len.val)) (32 * i + 24) 8 == 0) = false) :
    exec (.tableWrite src false ⟨first.val, by omega⟩ len false data) s = .fault .reservedField := by
  have at_ : s.atBulk (0 : Fin 2).val src (bulkIn src 0x41 0x6002 first.val len.val false) data = true := at_
  obtain ⟨op, id, param, length, lst⟩ := bulkIn_fields src 0x41 0x6002 first.val len.val false
  have held := descData_table src 0x6002 first.val len.val data false
  rw [exec_tableWrite, if_neg (by decide)]
  show outOf (s.runBulk 0 src (bulkIn src 0x41 0x6002 first.val len.val false) data) = _
  generalize bulkIn src 0x41 0x6002 first.val len.val false = d at *
  generalize data % 2 ^ (8 * len.val) = v at *
  have some_ : len.val % 4 = 0 ∧ ((List.range (len.val / 4)).any fun i => getBits v (32 * i + 24) 8 != 0) = true := by
    obtain ⟨i, hi, ne⟩ := List.all_eq_false.mp dirty
    exact ⟨whole, List.any_eq_true.mpr ⟨i, hi, by simpa using ne⟩⟩
  have effect : (s.fetchedBulk 0 src d data).bulkEffect d d.length (descData d data) d.last = .error .reservedField := by
    simp only [State.bulkEffect, op, id, length, held, camStage_id.1, if_true]
    rw [if_pos some_]
  have runs := (State.runBulk_of_atBulk at_ none_).2
  have stops : (s.fetchedBulk 0 src d data).bulkRun (s.bulkHeld 0 src d data) = .error .reservedField := by
    rw [State.bulkRun, show (s.bulkHeld 0 src d data).desc = d from rfl, show (s.bulkHeld 0 src d data).data = descData d data from rfl, effect]
  rw [show s.runBulk 0 src d data = .error .reservedField from runs.trans stops]
  rfl

end

/-- The state in which bytes of an uploaded file stand, and no record before them (R414). -/
theorem State.uploadWrite_ends (s : State) (off len data : Nat) : SameObjs [] s (s.uploadWrite off len data).1 ∧
    (s.uploadWrite off len data).1.host = s.host ∧
    (s.uploadWrite off len data).2.status = if s.mode = .configure then 0x00 else 0x06 := by
  unfold State.uploadWrite
  by_cases mode : s.mode = .configure
  · rw [if_neg (by simp [mode]), if_pos mode]
    exact ⟨SameObjs.of_objs rfl _, rfl, rfl⟩
  · rw [if_pos (by simpa using mode), if_neg mode]
    exact ⟨SameObjs.refl _ _, rfl, rfl⟩

theorem tableWrite_uploads (none_ : s.host.cmds = []) (first : Fin (2 ^ 32)) (len : Fin 4097) (data : Nat)
    (at_ : s.atBulk 0 src (bulkIn src 0x41 0xC005 first.val len.val false) data = true) :
    ∃ t, exec (.tableWrite src true first len false data) s = .next t ∧ t.bit F.HIF_RING_APPLIED_VALID (16 + 0) = true ∧
      t.host.cmds = [] ∧ s.wroteCompletion t (16 + 0) (if s.mode = .configure then 0x00 else 0x06) := by
  have at_ : s.atBulk (0 : Fin 2).val src (bulkIn src 0x41 0xC005 first.val len.val false) data = true := at_
  obtain ⟨op, id, param, length, lst⟩ := bulkIn_fields src 0x41 0xC005 first.val len.val false
  have held := descData_table src 0xC005 first.val len.val data false
  rw [exec_tableWrite, if_pos rfl]
  generalize bulkIn src 0x41 0xC005 first.val len.val false = d at *
  generalize data % 2 ^ (8 * len.val) = v at *
  have other : ¬ some Obj.survUpload = some .camStage := by decide
  have effect : (s.fetchedBulk 0 src d data).bulkEffect d d.length (descData d data) d.last =
      .ok ((s.fetchedBulk 0 src d data).uploadWrite (first.val * 64) len.val v) := by
    simp only [State.bulkEffect, op, id, param, length, held, if_neg other, survUpload_id.1, survUpload_id.2, if_true, and_self]
  obtain ⟨same, hub, status⟩ := (s.fetchedBulk 0 src d data).uploadWrite_ends (first.val * 64) len.val v
  rw [State.mode_of_same (s.fetchedBulk_sameObjs 0 src d data) (by decide)] at status
  generalize (s.fetchedBulk 0 src d data).uploadWrite (first.val * 64) len.val v = r at *
  have small : r.2.status < 256 := by rw [status]; split <;> decide
  obtain ⟨t, runs, ended⟩ := State.runBulk_ends_quiet (u := r.1) (o := r.2) at_ none_ effect small same (by decide) hub
  rw [status] at ended
  exact ⟨t, runs, ended.tells⟩

/-! ### SURVEY_READ and LOG_READ (R377, R412) -/

/-- The fields of a transfer that carries data out. -/
theorem bulkOut_fields (src : BulkSrc) (op id param len addr : Nat) :
    ({ bulkDesc src op id with param := param, length := len, hostAddr := addr } : Desc).opcode = op ∧
    ({ bulkDesc src op id with param := param, length := len, hostAddr := addr } : Desc).objId = id ∧
    ({ bulkDesc src op id with param := param, length := len, hostAddr := addr } : Desc).param = param ∧
    ({ bulkDesc src op id with param := param, length := len, hostAddr := addr } : Desc).length = len ∧
    ({ bulkDesc src op id with param := param, length := len, hostAddr := addr } : Desc).hostAddr = addr := ⟨rfl, rfl, rfl, rfl, rfl⟩

theorem State.surveyRead_of_same {t : State} (export_ : t.fld F.SURV_EXPORT_SIZE = s.fld F.SURV_EXPORT_SIZE) (surv : t.surv = s.surv)
    (off len : Nat) : t.surveyRead off len = s.surveyRead off len := by
  simp only [State.surveyRead, export_, surv]

theorem State.surveyRead_status (s : State) (off len : Nat) : (s.surveyRead off len).1.status < 256 ∧
    (s.surv.export_ = none → (s.surveyRead off len).1.status = 0x07) := by
  unfold State.surveyRead
  cases s.surv.export_ with
  | none => exact ⟨show 7 < 256 by decide, fun _ => rfl⟩
  | some ps =>
    refine ⟨?_, fun none_ => absurd none_ (by simp)⟩
    dsimp only
    split
    · exact show 7 < 256 by decide
    · split
      · exact show 0 < 256 by decide
      · exact show 7 < 256 by decide

theorem exec_surveyRead (src : BulkSrc) (block : Fin (2 ^ 32)) (len : Fin 4097) (hostAddr : Fin (2 ^ 64)) (s : State) :
    exec (.surveyRead src block len hostAddr) s =
      outOf (s.runBulk 1 src { bulkDesc src 0x48 0xC003 with param := block.val, length := len.val, hostAddr := hostAddr.val } 0) := rfl

theorem exec_logRead (src : BulkSrc) (first : Fin 16384) (len : Fin 4097) (hostAddr : Fin (2 ^ 64)) (s : State) :
    exec (.logRead src first len hostAddr) s =
      outOf (s.runBulk 1 src { bulkDesc src 0x49 0xB006 with param := first.val, length := len.val, hostAddr := hostAddr.val } 0) := rfl

theorem surveyRead_ends (none_ : s.host.cmds = []) (block : Fin (2 ^ 32)) (len : Fin 4097) (hostAddr : Fin (2 ^ 64))
    (at_ : s.atBulk 1 src { bulkDesc src 0x48 0xC003 with param := block.val, length := len.val, hostAddr := hostAddr.val } = true) :
    ∃ t, exec (.surveyRead src block len hostAddr) s = .next t ∧ (t.bit F.HIF_RING_APPLIED_VALID (16 + 1) = true ∧ t.host.cmds = [] ∧
        s.wroteCompletion t (16 + 1) (s.surveyRead (block.val * 64) len.val).1.status) ∧ t.surv = s.surv ∧
      (s.surv.export_ = none → (s.surveyRead (block.val * 64) len.val).1.status = 0x07) ∧
      ((s.surveyRead (block.val * 64) len.val).2 ≠ [] →
        s.wroteHost t hostAddr.val (s.surveyRead (block.val * 64) len.val).2.length (natOf (s.surveyRead (block.val * 64) len.val).2)) := by
  obtain ⟨op, id, param, length, addr⟩ := bulkOut_fields src 0x48 0xC003 block.val len.val hostAddr.val
  obtain ⟨status, absent⟩ := s.surveyRead_status (block.val * 64) len.val
  rw [exec_surveyRead]
  generalize ({ bulkDesc src 0x48 0xC003 with param := block.val, length := len.val, hostAddr := hostAddr.val } : Desc) = d at *
  have at_ : s.atBulk (1 : Fin 2).val src d = true := at_
  have read := State.surveyRead_of_same (t := s.fetchedBulk 1 src d) ((s.fetchedBulk_sameObjs 1 src d 0).fld (by decide) (by decide)) rfl
    (block.val * 64) len.val
  have effect : (s.fetchedBulk 1 src d).bulkEffect d d.length (descData d 0) d.last =
      .ok (if (s.surveyRead (block.val * 64) len.val).2.isEmpty then s.fetchedBulk 1 src d
        else (s.fetchedBulk 1 src d).hostWrite hostAddr.val (s.surveyRead (block.val * 64) len.val).2.length
          (natOf (s.surveyRead (block.val * 64) len.val).2), (s.surveyRead (block.val * 64) len.val).1) := by
    simp only [State.bulkEffect, op, id, param, length, addr, survExport_id.1, survExport_id.2, if_true, and_self, read]
  cases bytes : (s.surveyRead (block.val * 64) len.val).2 with
  | nil =>
    rw [bytes, List.isEmpty_nil, if_pos rfl] at effect
    obtain ⟨t, runs, ended⟩ := State.runBulk_ends_quiet (os := []) at_ none_ effect status (SameObjs.refl _ _) (by decide) rfl
    exact ⟨t, runs, ended.tells, by rw [ended.frame]; rfl, absent, fun ne => absurd rfl ne⟩
  | cons x xs =>
    rw [bytes, List.isEmpty_cons, if_neg (by decide)] at effect
    obtain ⟨t, runs, ended, wrote⟩ := State.runBulk_ends_write at_ none_ effect status
    refine ⟨t, runs, ended.tells, ?_, absent, fun _ => wrote⟩
    rw [ended.frame]
    show (State.hostWrite _ _ _ _).surv = s.surv
    unfold State.hostWrite
    split <;> rfl

/-- The log entries a LOG_READ writes. -/
def State.logBytes (s : State) (first n : Nat) : Nat :=
  (List.range n).foldl (fun v i => v + s.flt.log.get ((first + i) % 16384) 0 * 2 ^ (512 * i)) 0

theorem State.logRead_whole {first len addr : Nat} (whole : len % 64 = 0) (some_ : len ≠ 0) :
    s.logRead first len addr = (s.hostWrite addr len (s.logBytes first (len / 64)), done (result := (first + len / 64) % 16384)) := by
  rw [State.logRead, if_neg (by omega)]
  simp only [show ¬ len / 64 = 0 by omega, if_false]
  rfl

theorem State.logRead_part {first len addr : Nat} (part : len % 64 ≠ 0) : s.logRead first len addr = (s, refused 0x1) := by
  rw [State.logRead, if_pos part]

theorem logRead_ends (none_ : s.host.cmds = []) (first : Fin 16384) (len : Fin 4097) (hostAddr : Fin (2 ^ 64))
    (at_ : s.atBulk 1 src { bulkDesc src 0x49 0xB006 with param := first.val, length := len.val, hostAddr := hostAddr.val } = true) :
    (len.val % 64 = 0 → len.val ≠ 0 → ∃ t, exec (.logRead src first len hostAddr) s = .next t ∧
      (t.bit F.HIF_RING_APPLIED_VALID (16 + 1) = true ∧ t.host.cmds = [] ∧ s.wroteCompletion t (16 + 1) 0x00) ∧
      s.wroteHost t hostAddr.val len.val (s.logBytes first.val (len.val / 64))) ∧
    (len.val % 64 ≠ 0 → ∃ t, exec (.logRead src first len hostAddr) s = .next t ∧
      t.bit F.HIF_RING_APPLIED_VALID (16 + 1) = true ∧ t.host.cmds = [] ∧ s.wroteCompletion t (16 + 1) 0x07) := by
  obtain ⟨op, id, param, length, addr⟩ := bulkOut_fields src 0x49 0xB006 first.val len.val hostAddr.val
  have position : first.val % 2 ^ 14 = first.val := Nat.mod_eq_of_lt first.isLt
  rw [exec_logRead]
  generalize ({ bulkDesc src 0x49 0xB006 with param := first.val, length := len.val, hostAddr := hostAddr.val } : Desc) = d at *
  have at_ : s.atBulk (1 : Fin 2).val src d = true := at_
  have effect : (s.fetchedBulk 1 src d).bulkEffect d d.length (descData d 0) d.last =
      .ok ((s.fetchedBulk 1 src d).logRead first.val len.val hostAddr.val) := by
    simp only [State.bulkEffect, op, id, param, length, addr, fltLog_id.1, fltLog_id.2, if_true, and_self, position]
  refine ⟨fun whole some_ => ?_, fun part => ?_⟩
  · rw [State.logRead_whole whole some_] at effect
    obtain ⟨t, runs, ended, wrote⟩ := State.runBulk_ends_write at_ none_ effect (show 0 < 256 by decide)
    exact ⟨t, runs, ended.tells, wrote⟩
  · rw [State.logRead_part part] at effect
    obtain ⟨t, runs, ended⟩ := State.runBulk_ends_quiet (os := []) at_ none_ effect (show 7 < 256 by decide) (SameObjs.refl _ _) (by decide) rfl
    exact ⟨t, runs, ended.tells⟩

/-- Settles O35. -/
theorem bulkDescriptorsRunWhole : Obligations.BulkDescriptorsRunWhole := by
  unfold Obligations.BulkDescriptorsRunWhole
  intro src s none_ ended
  refine ⟨imageWrite_ends none_, ?_, tableWrite_uploads none_, surveyRead_ends none_, logRead_ends none_⟩
  intro first len data d v at_ whole fits
  exact ⟨tableWrite_stages none_ first len data at_ whole fits, tableWrite_reserved none_ first len data at_ whole⟩

end

end Sys2Proof.Machine
end

section
/-! What a write's RW fields hold after it, field by field (R10, R80). -/

set_option Elab.async false

namespace Sys2Proof.Machine

section
variable {w : Wr} {t : State} {f : Fld} {e : Nat}

/-- The RW bits of entry `e` that the write covers. -/
def Wr.covered (w : Wr) (e : Nat) : Nat := w.obj.accMask .rw &&& w.mask e

/-- Without W1C bits a covered RW bit takes the bit written, and every other bit stands. -/
theorem Wr.entry_testBit (w1c : w.obj.accMask .w1c = 0) (i : Nat) :
    (w.entry t e).testBit i = if (w.covered e).testBit i then (w.bits e).testBit i else (t.obj w.obj w.inst e).testBit i := by
  simp only [Wr.entry, ← Wr.covered.eq_1, w1c, Nat.zero_and, Nat.and_zero, Nat.xor_zero, Nat.testBit_or, Nat.testBit_xor, Nat.testBit_and]
  cases (w.covered e).testBit i <;> simp

theorem getBits_testBit (c lo n i : Nat) : (getBits c lo n).testBit i = (decide (i < n) && c.testBit (lo + i)) := by
  rw [getBits, Nat.testBit_mod_two_pow, Nat.testBit_div_two_pow, Nat.add_comm]

/-- A write of the first bytes of an entry holds its data. -/
theorem Wr.bits_low (off : w.off = 0) (fits : 8 * w.len ≤ w.obj.entryBits) (small : w.data < 2 ^ (8 * w.len)) : w.bits 0 = w.data := by
  rw [Wr.bits, off, Nat.mul_zero, Nat.mul_zero, Nat.pow_zero, Nat.mul_one, Nat.div_one, Nat.mod_eq_of_lt (a := w.data) small,
    Nat.mod_eq_of_lt (small.trans_le (Nat.pow_le_pow_right (by decide) fits))]

/-- A write of one whole 32-bit entry. -/
theorem Wr.bits_word {k : Nat} (bits : w.obj.entryBits = 32) (off : w.off = 4 * k) (len : w.len = 4) : w.bits k = w.data % 2 ^ 32 := by
  rw [Wr.bits, bits, off, len, show 8 * (4 * k) = 32 * k by omega, Nat.mul_div_cancel _ (Nat.two_pow_pos _)]
  exact Nat.mod_mod _ _

theorem Wr.mask_word {k : Nat} (bits : w.obj.entryBits = 32) (off : w.off = 4 * k) (len : w.len = 4) : w.mask k = 2 ^ 32 - 1 := by
  rw [Wr.mask, bits, off, len, show 8 * (4 * k) = 32 * k by omega, Nat.mul_div_cancel _ (Nat.two_pow_pos _)]
  rfl

theorem Wr.touched_word {k : Nat} (bits : w.obj.entryBits = 32) (off : w.off = 4 * k) (len : w.len = 4) (fits : k < w.obj.entries) :
    w.touched = [k] := by
  have count : (8 * (4 * k + 4) + 32 - 1) / 32 - k = 1 := by omega
  have from_ : 8 * (4 * k) / 32 = k := by omega
  simp only [Wr.touched, bits, off, len, from_, count]
  rw [if_neg (by decide)]
  simp [fits]

theorem Wr.reserved_of_within {e m : Nat} (touched : w.touched = [e])
    (fields : w.obj.accMask .ro + w.obj.accMask .rw + w.obj.accMask .w1c + w.obj.accMask .wo = m) (within : w.bits e &&& m = w.bits e) :
    w.reserved = false := by
  simp only [Wr.reserved, touched, fields, List.any_cons, List.any_nil, within, Nat.xor_self, bne_self_eq_false, Bool.or_self, Bool.and_false]

/-- A field whose bits are all covered takes the value written. -/
theorem Wr.newFld_covered (w1c : w.obj.accMask .w1c = 0) (whole : getBits (w.covered e) f.lo f.width = 2 ^ f.width - 1) :
    w.newFld t f e = w.act f e := by
  refine Nat.eq_of_testBit_eq fun i => ?_
  rw [Wr.newFld, Wr.act, getBits_testBit, getBits_testBit, Wr.entry_testBit w1c]
  by_cases small : i < f.width
  · have bit := congrArg (·.testBit i) whole
    simp only [getBits_testBit, Nat.testBit_two_pow_sub_one, small, decide_true, Bool.true_and] at bit
    rw [bit, if_pos rfl]
  · simp [small]

/-- A field none of whose bits is covered stands. -/
theorem Wr.newFld_outside (w1c : w.obj.accMask .w1c = 0) (none_ : getBits (w.covered e) f.lo f.width = 0) :
    w.newFld t f e = getBits (t.obj w.obj w.inst e) f.lo f.width := by
  refine Nat.eq_of_testBit_eq fun i => ?_
  rw [Wr.newFld, getBits_testBit, getBits_testBit, Wr.entry_testBit w1c]
  by_cases small : i < f.width
  · have bit := congrArg (·.testBit i) none_
    simp only [getBits_testBit, Nat.zero_testBit, small, decide_true, Bool.true_and] at bit
    rw [bit, if_neg (by simp)]
  · simp [small]

theorem State.applyRw_fld (t : State) {w : Wr} (hi : w.inst < 256) {f : Fld} (obj : f.obj = w.obj) {e : Nat} (he : e < 65536) :
    (t.applyRw w).fld f w.inst e = if e ∈ w.touched then w.newFld t f e else t.fld f w.inst e := by
  simp only [State.fld, obj, State.applyRw_obj t hi he, Wr.newFld]
  split <;> rfl

/-- After the write a covered field of a touched entry holds what was written. -/
theorem State.applyRw_fld_covered (t : State) {w : Wr} (hi : w.inst < 256) {f : Fld} (obj : f.obj = w.obj) {e : Nat} (touched : e ∈ w.touched)
    (w1c : w.obj.accMask .w1c = 0) (whole : getBits (w.covered e) f.lo f.width = 2 ^ f.width - 1) :
    (t.applyRw w).fld f w.inst e = w.act f e := by
  rw [State.applyRw_fld t hi obj (Wr.touched_lt_65536 touched), if_pos touched, Wr.newFld_covered w1c whole]

theorem State.applyRw_fld_outside (t : State) {w : Wr} (hi : w.inst < 256) {f : Fld} (obj : f.obj = w.obj) {e : Nat} (he : e < 65536)
    (w1c : w.obj.accMask .w1c = 0) (none_ : getBits (w.covered e) f.lo f.width = 0) :
    (t.applyRw w).fld f w.inst e = t.fld f w.inst e := by
  rw [State.applyRw_fld t hi obj he, Wr.newFld_outside w1c none_, State.fld, obj]
  split <;> rfl

/-- A write to another object leaves a field. -/
theorem State.applyRw_fld_other (t : State) {w : Wr} (hi : w.inst < 256) {f : Fld} (other : f.obj ≠ w.obj) {i e : Nat} (small : i < 256)
    (he : e < 65536 := by decide) : (t.applyRw w).fld f i e = t.fld f i e := by
  have same := t.applyRw_sameObjs hi f.obj i e (by simpa using other) small he
  rw [State.fld, State.fld, same]

end

section
variable {t : State} {w : Wr}

/-- A write of an object that chapters let be written in the loop modes, in one of them. -/
theorem State.writeAllowed_loops (writeIn : w.obj.writeIn = .loops) (cfg : w.obj ≠ .caravanCfg) (loop : t.loopMode = true) :
    t.writeAllowed w = true := by
  have net : w.obj.netClass = false := by revert writeIn; cases w.obj <;> simp [Obj.writeIn, Obj.netClass]
  rw [State.writeAllowed, net, if_neg (by decide)]
  split
  · simp_all [Obj.writeIn]
  · simp_all
  · simp [writeIn, State.modeIs, loop]

theorem State.writeAllowed_configure (configure : t.mode = .configure) (notService : w.obj.writeIn ≠ .service) (cfg : w.obj ≠ .caravanCfg) :
    t.writeAllowed w = true := by
  rw [State.writeAllowed, configure]
  split
  · simp
  · split
    · simp [State.modeIs, configure]
    · simp_all
    · rename_i o _ _
      cases hm : w.obj.writeIn <;> simp_all [State.modeIs]

end

section
variable {s b : State} {src : Src} {id off len data i : Nat} {o : Obj}

/-- An OBJ_WRITE whose effect is an undefined use stops by its name. -/
theorem Begun.write_faults (h : Begun s src (wrDesc src id off len data) data b) (named : objOf id = some o ∧ instOf? id o = some i) {f : Fault}
    (effect : b.objWrite (wrOf o i off len data) 0 (s.refOf src) 0 = .error f) : s.runWrite src id off len data = .fault f := by
  rw [← State.effect_objWrite _ named.1 named.2 (Or.inr rfl)] at effect
  rw [State.runWrite, h.runDesc_error 0 (by rw [ite_self, effect])]
  rfl

end

end Sys2Proof.Machine
end

section
/-! The statement of FB.CTRL's actions (R276, R289, R457). -/

set_option Elab.async false

namespace Sys2Proof.Machine

section
variable {s b v : State} {src : Src} {d : Desc} {host : Nat}

/-! ### What FB.CTRL does on the state its RW fields have been set in -/

theorem State.forRange_none (s : State) (n : Nat) (f : State → Nat → State) (h : ∀ k < n, f s k = s) : s.forRange n f = s := by
  induction n with
  | zero => rfl
  | succ n ih => rw [State.forRange_succ, ih fun k hk => h k (by omega), h n (by omega)]

/-- A count that no armed compare unit follows moves alone. -/
theorem State.compareUnits_of_unarmed {n : Nat} (unarmed : v.unitArmedOn n = false) (old new t : Nat) : v.compareUnits n old new t = v := by
  refine v.forRange_none 16 _ fun u hu => if_neg ?_
  simp only [State.unitArmedOn, Bool.or_eq_false_iff, List.any_eq_false, List.mem_range] at unarmed
  have := unarmed.2 u hu
  simp_all

theorem uint32_moved (count v : Nat) (hv : v < 2 ^ 32) : uint 32 ((count : Int) + s32diff v count) = v := by
  have mod : (s32diff v count) % 2 ^ 32 = ((v : Int) - count) % 2 ^ 32 := by
    have small : uint 32 ((v : Int) - count) % 2 ^ 32 = uint 32 ((v : Int) - count) := by
      rw [uint]
      omega
    have value : (uint 32 ((v : Int) - count) : Int) = ((v : Int) - count) % 2 ^ 32 := by
      rw [uint]
      omega
    rw [s32diff, sint, small, value]
    split <;> omega
  rw [uint]
  omega

theorem State.unitArmedOn_setFbs (n m : Nat) (c : FbSt) : (v.setFbs n c).unitArmedOn m = v.unitArmedOn m := rfl

theorem State.moveCount_of_unarmed {n : Nat} (unarmed : v.unitArmedOn n = false) (dc : Int) (t : Nat) :
    v.moveCount n dc t = v.setFbs n { v.fbs n with count := uint 32 ((v.fbs n).count + dc), sum := (v.fbs n).sum + dc } := by
  rw [State.moveCount]
  exact State.compareUnits_of_unarmed ((State.unitArmedOn_setFbs ..).trans unarmed) _ _ _

/-- PRESET of a channel no unit is armed on sets its count, and touches no other channel (R289). -/
theorem State.preset_of_unarmed {n : Nat} (unarmed : v.unitArmedOn n = false) (small : v.fld F.FB_CTRL_PRESET_VAL n < 2 ^ 32) :
    v.preset n = { v with fb := (v.preset n).fb } ∧ ((v.preset n).fbs n).count = v.fld F.FB_CTRL_PRESET_VAL n ∧
      ((v.preset n).fbs n).referenced = false ∧ ∀ k, k ≠ n → (v.preset n).fbs k = v.fbs k := by
  have moved := fun c => State.moveCount_of_unarmed ((State.unitArmedOn_setFbs (v := v) n n c).trans unarmed)
  rw [State.preset]
  rw [moved]
  refine ⟨rfl, ?_, ?_, fun k hk => ?_⟩
  · rw [State.fbs_setFbs_same, State.fbs_setFbs_same]
    exact uint32_moved _ _ small
  · rw [State.fbs_setFbs_same, State.fbs_setFbs_same]
  · rw [State.fbs_setFbs_ne _ _ hk, State.fbs_setFbs_ne _ _ hk]

/-! ### A write of FB.CTRL while periods run -/

abbrev fbWrite (n len data : Nat) : Wr := wrOf .fbCtrl n 0 len data

theorem fbCtrl_id (n : Fin 32) : objOf (0x3002 + 64 * n.val) = some .fbCtrl ∧ instOf? (0x3002 + 64 * n.val) .fbCtrl = some n.val := by
  decide +revert +kernel

theorem fbWrite_allowed {n : Fin 32} {len data : Nat} (loop : b.loopMode = true) (free : b.fenced (.fb n.val) = false)
    (reserved : (fbWrite n.val len data).reserved = false) (ref : CmdRef) :
    b.objWrite (fbWrite n.val len data) 0 ref 0 = b.fbCtrlWrite (fbWrite n.val len data) := by
  rw [State.objWrite_of_allowed reserved (State.writeAllowed_loops rfl (Obj.noConfusion ·) loop)
    ((State.writeFenced_block rfl).trans (if_neg (Bool.eq_false_iff.mp free)))]
  rfl

section
variable {n : Fin 32} {len data : Nat}

/-- A write of FB.CTRL that passes the checks of R80, while periods run. -/
theorem Begun.fbWrite_ends (h : Begun s src (wrDesc src (0x3002 + 64 * n.val) 0 len data) data b) (running : s.per.running = true)
    (loop : s.loopMode = true) (free : s.fenced (.fb n.val) = false) (reserved : (fbWrite n.val len data).reserved = false)
    {t : State} {r : Result} (effect : b.fbCtrlWrite (fbWrite n.val len data) = .ok (t, some r)) (per : t.per = b.per) (hub : t.host = b.host) :
    s.runWrite src (0x3002 + 64 * n.val) 0 len data = .next (s.actedTo src (wrDesc src (0x3002 + 64 * n.val) 0 len data) data b t r) ∧
      (s.actedTo src (wrDesc src (0x3002 + 64 * n.val) 0 len data) data b t r).endedWith src r.status := by
  refine h.write_ends running (fbCtrl_id n) ((fbWrite_allowed ?_ ?_ reserved _).trans effect) ?_ ?_
  · rw [h.loopMode, loop]
  · rw [h.fenced, free]
  · rw [per, h.running, running]
  · exact State.carries_of_cmds h.carries (by rw [hub])

/-- A refused write changes nothing (R289). -/
theorem Begun.fbWrite_refused (h : Begun s src (wrDesc src (0x3002 + 64 * n.val) 0 len data) data b) (running : s.per.running = true)
    (loop : s.loopMode = true) (free : s.fenced (.fb n.val) = false) (reserved : (fbWrite n.val len data).reserved = false)
    {r : Result} (effect : b.fbCtrlWrite (fbWrite n.val len data) = .ok (b, some r)) :
    ∃ t, s.runWrite src (0x3002 + 64 * n.val) 0 len data = .next t ∧ t.endedWith src r.status ∧ s.notedIn t [] := by
  obtain ⟨runs, ended⟩ := h.fbWrite_ends running loop free reserved effect rfl rfl
  refine ⟨_, runs, ended, h.acted_notedIn (SameObjs.refl _ _) rfl rfl ?_ _⟩
  rw [h.frame]

/-- A write that acts on the feedback channels, beside its RW fields, changes nothing else. -/
theorem Begun.fbWrite_only (h : Begun s src (wrDesc src (0x3002 + 64 * n.val) 0 len data) data b) (fb : SMap FbSt) (r : Result) {u : State}
    (acted : u = s.actedTo src (wrDesc src (0x3002 + 64 * n.val) 0 len data) data b { b.applyRw (fbWrite n.val len data) with fb := fb } r) :
    ({ s with fb := u.fb } : State).notedIn u [.fbCtrl] := by
  have small : (fbWrite n.val len data).inst < 256 := show n.val < 256 by omega
  have noted := h.acted_notedIn (s' := { s with fb := fb }) (t := { b.applyRw (fbWrite n.val len data) with fb := fb })
    (b.applyRw_sameObjs small) rfl rfl (by rw [b.applyRw_objsOnly (fbWrite n.val len data), h.frame]) r
  have same : u.fb = fb := by rw [acted]; rfl
  rw [same, acted]
  exact noted

end

/-! ### What each action finds and does -/

theorem Begun.fbWritten (h : Begun s src d host b) (n : Fin 32) (len data : Nat) :
    SameObjs [.hifRingApplied, .hifRingState, .fbCtrl] s (b.applyRw (fbWrite n.val len data)) :=
  (h.same.mono (by decide)).trans ((b.applyRw_sameObjs (w := fbWrite n.val len data) (show n.val < 256 by omega)).mono
    (show [Obj.fbCtrl] ⊆ _ by decide))

theorem any_range_congr {n : Nat} {p q : Nat → Bool} (h : ∀ k < n, p k = q k) : (List.range n).any p = (List.range n).any q := by
  rw [Bool.eq_iff_iff, List.any_eq_true, List.any_eq_true]
  refine exists_congr fun k => and_congr_right fun hk => ?_
  rw [h k (List.mem_range.mp hk)]

theorem State.unitArmedOn_of_same {os : List Obj} (same : SameObjs os s v) (units : v.latchUnits = s.latchUnits)
    (latch : Obj.latchCfg ∉ os) (cmp : Obj.cmpCfg ∉ os) (status : Obj.cmpStatus ∉ os) (ch : Nat) : v.unitArmedOn ch = s.unitArmedOn ch := by
  have unit : ∀ n, v.latchUnit n = s.latchUnit n := fun n => by rw [State.latchUnit, units, State.latchUnit]
  simp only [State.unitArmedOn, unit]
  congr 1
  · refine any_range_congr fun n hn => ?_
    rw [same.fld (f := F.LATCH_CFG_FB) latch (by omega)]
  · refine any_range_congr fun u hu => ?_
    rw [same.fld (f := F.CMP_CFG_FB) cmp (by omega), same.bit (f := F.CMP_STATUS_ARMED) status (by omega)]

theorem Begun.fbWritten_armed (h : Begun s src d host b) (n : Fin 32) (len data ch : Nat) :
    (b.applyRw (fbWrite n.val len data)).unitArmedOn ch = s.unitArmedOn ch :=
  State.unitArmedOn_of_same (h.fbWritten n len data) (by rw [b.applyRw_objsOnly (fbWrite n.val len data), h.latchUnits]) (by decide) (by decide)
    (by decide) ch

theorem State.fbCtrlWrite_refused {w : Wr} {o : Result} {t : State}
    (acts : (b.applyRw w).fbCtrl w.inst (w.actBit F.FB_CTRL_PRESET) (w.actBit F.FB_CTRL_ARM_HOME) (w.actBit F.FB_CTRL_CNT_CLR)
      (w.actBit F.FB_CTRL_SER_GO) = (some o, t)) : b.fbCtrlWrite w = .ok (b, some o) := by
  simp only [State.fbCtrlWrite, acts]

theorem State.fbCtrlWrite_acts {w : Wr} {t : State}
    (acts : (b.applyRw w).fbCtrl w.inst (w.actBit F.FB_CTRL_PRESET) (w.actBit F.FB_CTRL_ARM_HOME) (w.actBit F.FB_CTRL_CNT_CLR)
      (w.actBit F.FB_CTRL_SER_GO) = (none, t)) :
    b.fbCtrlWrite w = if w.actBit F.FB_CTRL_SER_GO ∧ (b.applyRw w).fld F.FB_CTRL_SER_CMD w.inst ≠ 2 ∧
      (b.applyRw w).fld F.FB_CTRL_SER_CMD w.inst ≠ 3 then .error .reservedCode else .ok (t, some done) := by
  simp only [State.fbCtrlWrite, acts, okWrite_eq]

theorem State.fbCtrl_preset (v : State) (n : Nat) : v.fbCtrl n true false false false =
    if v.unitArmedOn n then (some (refused 0x2), v)
    else if v.mode == .commission || v.mode == .run then (some (refused 0x3), v) else (none, v.preset n) := rfl

theorem State.fbCtrl_armHome (v : State) (n : Nat) : v.fbCtrl n false true false false =
    if v.fld F.FB_CFG_REREF n != 2 then (some (refused 0x4), v)
    else (none, v.setFbs n { v.fbs n with homeArmed := some v.now, homed := false }) := by
  simp [State.fbCtrl]

theorem State.fbCtrl_cntClr (v : State) (n : Nat) : v.fbCtrl n false false true false =
    (none, v.setFbs n { v.fbs n with quadErr := 0, badFrames := 0, slips := 0, skipped := 0, sat := 0 }) := rfl

theorem State.fbCtrl_serGo (v : State) (n : Nat) : v.fbCtrl n false false false true =
    if v.fbMode n != 4 then (some (refused 0x4), v)
    else (none, v.setFbs n { v.fbs n with regValid := false, go := some (v.fld F.FB_CTRL_SER_CMD n, v.fld F.FB_CTRL_SER_ARG n) }) := by
  simp [State.fbCtrl]

/-! ### The bits of each action -/

/-- What a write of FB.CTRL asks for. -/
def Wr.asks (w : Wr) (preset armHome cntClr serGo : Bool) : Prop :=
  w.reserved = false ∧ w.actBit F.FB_CTRL_PRESET = preset ∧ w.actBit F.FB_CTRL_ARM_HOME = armHome ∧ w.actBit F.FB_CTRL_CNT_CLR = cntClr ∧
    w.actBit F.FB_CTRL_SER_GO = serGo

theorem armHome_asks (n : Nat) (cmd : Fin 8) : (fbWrite n 1 (0x02 + cmd.val * 2 ^ 4)).asks false true false false :=
  show (fbWrite 0 1 (0x02 + cmd.val * 2 ^ 4)).asks false true false false by unfold Wr.asks; decide +revert +kernel

theorem cntClr_asks (n : Nat) (cmd : Fin 8) : (fbWrite n 1 (0x04 + cmd.val * 2 ^ 4)).asks false false true false :=
  show (fbWrite 0 1 (0x04 + cmd.val * 2 ^ 4)).asks false false true false by unfold Wr.asks; decide +revert +kernel

theorem serGo_bits (cmd : Fin 8) (arg : Fin 256) : (fbWrite 0 2 (0x08 + cmd.val * 2 ^ 4 + arg.val * 2 ^ 8)).asks false false false true ∧
    (fbWrite 0 2 (0x08 + cmd.val * 2 ^ 4 + arg.val * 2 ^ 8)).act F.FB_CTRL_SER_CMD = cmd.val ∧
    (fbWrite 0 2 (0x08 + cmd.val * 2 ^ 4 + arg.val * 2 ^ 8)).act F.FB_CTRL_SER_ARG = arg.val := by unfold Wr.asks; decide +revert +kernel

theorem and_split (a m x y : Nat) {k : Nat} (ha : a < 2 ^ k) (hm : m < 2 ^ k) : (a + x * 2 ^ k) &&& (m + y * 2 ^ k) = (a &&& m) + (x &&& y) * 2 ^ k := by
  refine Nat.eq_of_testBit_eq fun i => ?_
  have ham : a &&& m < 2 ^ k := Nat.and_lt_two_pow a hm
  rw [Nat.testBit_and, Nat.add_comm a, Nat.add_comm m, Nat.add_comm (a &&& m), Nat.mul_comm x, Nat.mul_comm y, Nat.mul_comm (x &&& y),
    Nat.testBit_two_pow_mul_add _ ha, Nat.testBit_two_pow_mul_add _ hm, Nat.testBit_two_pow_mul_add _ ham]
  split <;> rw [Nat.testBit_and]

theorem preset_low (cmd : Fin 8) (arg : Fin 256) : 1 + cmd.val * 2 ^ 4 + arg.val * 2 ^ 8 &&& 0xFF7F = 1 + cmd.val * 2 ^ 4 + arg.val * 2 ^ 8 := by
  decide +revert +kernel

theorem presetData_within (cmd : Fin 8) (arg : Fin 256) (val : Fin (2 ^ 32)) :
    1 + cmd.val * 2 ^ 4 + arg.val * 2 ^ 8 + val.val * 2 ^ 32 &&& (0xFF7F + 0xFFFFFFFF * 2 ^ 32) =
      1 + cmd.val * 2 ^ 4 + arg.val * 2 ^ 8 + val.val * 2 ^ 32 := by
  rw [and_split _ _ _ _ (by omega) (by decide), preset_low, show (0xFFFFFFFF : Nat) = 2 ^ 32 - 1 from rfl, Nat.and_two_pow_sub_one_eq_mod,
    Nat.mod_eq_of_lt val.isLt]

theorem presetData_small (cmd : Fin 8) (arg : Fin 256) (val : Fin (2 ^ 32)) :
    1 + cmd.val * 2 ^ 4 + arg.val * 2 ^ 8 + val.val * 2 ^ 32 < 2 ^ 64 := by omega

theorem presetData_bits (cmd : Fin 8) (arg : Fin 256) (val : Fin (2 ^ 32)) :
    getBits (1 + cmd.val * 2 ^ 4 + arg.val * 2 ^ 8 + val.val * 2 ^ 32) 0 1 = 1 ∧
    getBits (1 + cmd.val * 2 ^ 4 + arg.val * 2 ^ 8 + val.val * 2 ^ 32) 1 1 = 0 ∧
    getBits (1 + cmd.val * 2 ^ 4 + arg.val * 2 ^ 8 + val.val * 2 ^ 32) 2 1 = 0 ∧
    getBits (1 + cmd.val * 2 ^ 4 + arg.val * 2 ^ 8 + val.val * 2 ^ 32) 3 1 = 0 ∧
    getBits (1 + cmd.val * 2 ^ 4 + arg.val * 2 ^ 8 + val.val * 2 ^ 32) 32 32 = val.val := by
  simp only [getBits]
  omega

theorem presetWrite_asks (n : Nat) {data : Nat} {val : Nat} (small : data < 2 ^ 64) (within : data &&& (0xFF7F + 0xFFFFFFFF * 2 ^ 32) = data)
    (bits : getBits data 0 1 = 1 ∧ getBits data 1 1 = 0 ∧ getBits data 2 1 = 0 ∧ getBits data 3 1 = 0 ∧ getBits data 32 32 = val) :
    (fbWrite n 8 data).asks true false false false ∧ (fbWrite n 8 data).act F.FB_CTRL_PRESET_VAL = val := by
  have data' : (fbWrite n 8 data).data = data := Nat.mod_eq_of_lt small
  have all : (fbWrite n 8 data).bits 0 = data := (Wr.bits_low rfl (show 8 * 8 ≤ 64 by decide) (by rw [data']; exact small)).trans data'
  have acts : ∀ f : Fld, (fbWrite n 8 data).act f = getBits data f.lo f.width := fun f => by rw [Wr.act, all]
  obtain ⟨b0, b1, b2, b3, v⟩ := bits
  have flag : ∀ (f : Fld) {x : Nat}, getBits data f.lo f.width = x → (fbWrite n 8 data).actBit f = (x != 0) := fun f x h => by
    rw [Wr.actBit, acts, h]
  refine ⟨⟨Wr.reserved_of_within (show (fbWrite 0 8 0).touched = [0] by decide +kernel) (m := 0xFF7F + 0xFFFFFFFF * 2 ^ 32)
    (show Obj.accMask .fbCtrl .ro + Obj.accMask .fbCtrl .rw + Obj.accMask .fbCtrl .w1c + Obj.accMask .fbCtrl .wo = _ by decide +kernel)
    (by rw [all, within]), flag F.FB_CTRL_PRESET b0, flag F.FB_CTRL_ARM_HOME b1, flag F.FB_CTRL_CNT_CLR b2, flag F.FB_CTRL_SER_GO b3⟩,
    (acts F.FB_CTRL_PRESET_VAL).trans v⟩

/-! ### The four actions -/

theorem exec_preset (src : Src) (n : Fin 32) (cmd : Fin 8) (arg : Fin 256) (val : Fin (2 ^ 32)) (s : State) :
    exec (.preset src n cmd arg val) s =
      s.runWrite src (0x3002 + 64 * n.val) 0 8 (0x01 + cmd.val * 2 ^ 4 + arg.val * 2 ^ 8 + val.val * 2 ^ 32) := rfl
theorem exec_armHome (src : Src) (n : Fin 32) (cmd : Fin 8) (s : State) :
    exec (.armHome src n cmd) s = s.runWrite src (0x3002 + 64 * n.val) 0 1 (0x02 + cmd.val * 2 ^ 4) := rfl
theorem exec_fbCntClr (src : Src) (n : Fin 32) (cmd : Fin 8) (s : State) :
    exec (.fbCntClr src n cmd) s = s.runWrite src (0x3002 + 64 * n.val) 0 1 (0x04 + cmd.val * 2 ^ 4) := rfl
theorem exec_serGo (src : Src) (n : Fin 32) (cmd : Fin 8) (arg : Fin 256) (s : State) :
    exec (.serGo src n cmd arg) s = s.runWrite src (0x3002 + 64 * n.val) 0 2 (0x08 + cmd.val * 2 ^ 4 + arg.val * 2 ^ 8) := rfl

theorem State.acted_fbs (b t : State) (r : Result) (k : Nat) : (s.actedTo src d host b t r).fbs k = t.fbs k := rfl

theorem State.applyRw_fbs (s : State) (w : Wr) (k : Nat) : (s.applyRw w).fbs k = s.fbs k := by rw [State.fbs, s.applyRw_objsOnly w, State.fbs]
theorem State.applyRw_now (s : State) (w : Wr) : (s.applyRw w).now = s.now := by
  rw [s.applyRw_objsOnly w]
  rfl

theorem Begun.fbs (h : Begun s src d host b) (k : Nat) : b.fbs k = s.fbs k := by rw [State.fbs, h.fb, State.fbs]

section
variable {n : Fin 32} {len data : Nat} (running : s.per.running = true) (loop : s.loopMode = true) (free : s.fenced (.fb n.val) = false)
  (acts : s.atApplication src (wrDesc src (0x3002 + 64 * n.val) 0 len data) data = true)
include running loop free acts

theorem fbPreset_sets {val : Nat} (asks : (fbWrite n.val len data).asks true false false false)
    (value : (fbWrite n.val len data).act F.FB_CTRL_PRESET_VAL = val) (touched : 0 ∈ (fbWrite n.val len data).touched)
    (whole : getBits ((fbWrite n.val len data).covered 0) 32 32 = 2 ^ 32 - 1) :
    (s.unitArmedOn n.val = true ∨ s.mode = .commission ∨ s.mode = .run →
      ∃ t, s.runWrite src (0x3002 + 64 * n.val) 0 len data = .next t ∧ t.endedWith src 0x07 ∧ s.notedIn t []) ∧
    (s.unitArmedOn n.val = false → s.mode = .hold → ∃ t, s.runWrite src (0x3002 + 64 * n.val) 0 len data = .next t ∧ t.endedWith src 0x00 ∧
      (t.fbs n.val).count = val ∧ (t.fbs n.val).referenced = false ∧ ∀ k, k ≠ n.val → t.fbs k = s.fbs k) := by
  obtain ⟨b, h⟩ := begun_of acts
  obtain ⟨reserved, p, a, c, g⟩ := asks
  have armed := h.fbWritten_armed n len data n.val
  have mode := State.mode_of_same (h.fbWritten n len data) (by decide)
  have effect := State.fbCtrl_preset (b.applyRw (fbWrite n.val len data)) n.val
  rw [armed, mode] at effect
  refine ⟨fun busy => ?_, fun idle hold => ?_⟩
  · by_cases unit : s.unitArmedOn n.val = true
    · rw [if_pos unit] at effect
      exact h.fbWrite_refused running loop free reserved (State.fbCtrlWrite_refused (by rw [p, a, c, g]; exact effect))
    · rw [if_neg unit, if_pos (by simpa using busy.resolve_left unit)] at effect
      exact h.fbWrite_refused running loop free reserved (State.fbCtrlWrite_refused (by rw [p, a, c, g]; exact effect))
  · rw [idle, hold] at effect
    have small : (fbWrite n.val len data).inst < 256 := show n.val < 256 by omega
    have written : (b.applyRw (fbWrite n.val len data)).fld F.FB_CTRL_PRESET_VAL n.val = val :=
      (State.applyRw_fld_covered b small rfl touched rfl whole).trans value
    obtain ⟨only, count, ref, others⟩ := State.preset_of_unarmed (v := b.applyRw (fbWrite n.val len data)) (armed.trans idle)
      (written.trans_lt (value ▸ Nat.mod_lt _ (by decide)))
    have done_ := State.fbCtrlWrite_acts (w := fbWrite n.val len data) (by rw [p, a, c, g]; exact effect)
    rw [g, if_neg (fun h => Bool.noConfusion h.1)] at done_
    obtain ⟨runs, ended⟩ := h.fbWrite_ends running loop free reserved done_ (by rw [only, State.applyRw_frame])
      (by rw [only, State.applyRw_frame])
    refine ⟨_, runs, ended, (congrArg FbSt.count (State.acted_fbs ..)).trans (count.trans written),
      (congrArg FbSt.referenced (State.acted_fbs ..)).trans ref, fun k hk => ?_⟩
    rw [State.acted_fbs, others k hk, State.applyRw_fbs, h.fbs]

theorem fbArmHome_arms (asks : (fbWrite n.val len data).asks false true false false) :
    (s.fld F.FB_CFG_REREF n.val ≠ 2 →
      ∃ t, s.runWrite src (0x3002 + 64 * n.val) 0 len data = .next t ∧ t.endedWith src 0x07 ∧ s.notedIn t []) ∧
    (s.fld F.FB_CFG_REREF n.val = 2 → ∃ t, s.runWrite src (0x3002 + 64 * n.val) 0 len data = .next t ∧ t.endedWith src 0x00 ∧
      ({ s with fb := t.fb } : State).notedIn t [.fbCtrl] ∧
      t.fbs n.val = { s.fbs n.val with homeArmed := some s.now, homed := false } ∧ ∀ k, k ≠ n.val → t.fbs k = s.fbs k) := by
  obtain ⟨b, h⟩ := begun_of acts
  obtain ⟨reserved, p, a, c, g⟩ := asks
  have effect := State.fbCtrl_armHome (b.applyRw (fbWrite n.val len data)) n.val
  have reref : (b.applyRw (fbWrite n.val len data)).fld F.FB_CFG_REREF n.val = s.fld F.FB_CFG_REREF n.val :=
    (h.fbWritten n len data).fld (by decide) (by omega)
  rw [reref] at effect
  refine ⟨fun other => ?_, fun two => ?_⟩
  · rw [if_pos (by simpa using other)] at effect
    exact h.fbWrite_refused running loop free reserved (State.fbCtrlWrite_refused (by rw [p, a, c, g]; exact effect))
  · rw [if_neg (by simp [two])] at effect
    have done_ := State.fbCtrlWrite_acts (w := fbWrite n.val len data) (by rw [p, a, c, g]; exact effect)
    rw [g, if_neg (fun h => Bool.noConfusion h.1)] at done_
    obtain ⟨runs, ended⟩ := h.fbWrite_ends running loop free reserved done_ (State.applyRw_objsOnly ..).per (State.applyRw_objsOnly ..).host
    refine ⟨_, runs, ended, h.fbWrite_only _ _ rfl, ?_, fun k hk => ?_⟩
    · rw [State.acted_fbs, State.fbs_setFbs_same, State.applyRw_fbs, State.applyRw_now, h.fbs, h.now]
    · rw [State.acted_fbs, State.fbs_setFbs_ne _ _ hk, State.applyRw_fbs, h.fbs]

theorem fbCntClr_clears (asks : (fbWrite n.val len data).asks false false true false) :
    ∃ t, s.runWrite src (0x3002 + 64 * n.val) 0 len data = .next t ∧ t.endedWith src 0x00 ∧
      ({ s with fb := t.fb } : State).notedIn t [.fbCtrl] ∧
      t.fbs n.val = { s.fbs n.val with quadErr := 0, badFrames := 0, slips := 0, skipped := 0, sat := 0 } ∧
      ∀ k, k ≠ n.val → t.fbs k = s.fbs k := by
  obtain ⟨b, h⟩ := begun_of acts
  obtain ⟨reserved, p, a, c, g⟩ := asks
  have effect := State.fbCtrl_cntClr (b.applyRw (fbWrite n.val len data)) n.val
  have done_ := State.fbCtrlWrite_acts (w := fbWrite n.val len data) (by rw [p, a, c, g]; exact effect)
  rw [g, if_neg (fun h => Bool.noConfusion h.1)] at done_
  obtain ⟨runs, ended⟩ := h.fbWrite_ends running loop free reserved done_ (State.applyRw_objsOnly ..).per (State.applyRw_objsOnly ..).host
  refine ⟨_, runs, ended, h.fbWrite_only _ _ rfl, ?_, fun k hk => ?_⟩
  · rw [State.acted_fbs, State.fbs_setFbs_same, State.applyRw_fbs, h.fbs]
  · rw [State.acted_fbs, State.fbs_setFbs_ne _ _ hk, State.applyRw_fbs, h.fbs]

theorem fbSerGo_sends {cmd arg : Nat} (asks : (fbWrite n.val len data).asks false false false true)
    (values : (fbWrite n.val len data).act F.FB_CTRL_SER_CMD = cmd ∧ (fbWrite n.val len data).act F.FB_CTRL_SER_ARG = arg)
    (touched : 0 ∈ (fbWrite n.val len data).touched) (whole : getBits ((fbWrite n.val len data).covered 0) 4 3 = 2 ^ 3 - 1 ∧
      getBits ((fbWrite n.val len data).covered 0) 8 8 = 2 ^ 8 - 1) :
    (s.fld F.FB_CFG_MODE n.val ≠ 4 →
      ∃ t, s.runWrite src (0x3002 + 64 * n.val) 0 len data = .next t ∧ t.endedWith src 0x07 ∧ s.notedIn t []) ∧
    (s.fld F.FB_CFG_MODE n.val = 4 → cmd = 2 ∨ cmd = 3 → ∃ t, s.runWrite src (0x3002 + 64 * n.val) 0 len data = .next t ∧
      t.endedWith src 0x00 ∧ ({ s with fb := t.fb } : State).notedIn t [.fbCtrl] ∧
      t.fbs n.val = { s.fbs n.val with regValid := false, go := some (cmd, arg) } ∧ t.fld F.FB_CTRL_SER_CMD n.val = cmd ∧
      t.fld F.FB_CTRL_SER_ARG n.val = arg) ∧
    (s.fld F.FB_CFG_MODE n.val = 4 → cmd ≠ 2 → cmd ≠ 3 → s.runWrite src (0x3002 + 64 * n.val) 0 len data = .fault .reservedCode) := by
  obtain ⟨b, h⟩ := begun_of acts
  obtain ⟨reserved, p, a, c, g⟩ := asks
  have small : (fbWrite n.val len data).inst < 256 := show n.val < 256 by omega
  have effect := State.fbCtrl_serGo (b.applyRw (fbWrite n.val len data)) n.val
  have mode : (b.applyRw (fbWrite n.val len data)).fbMode n.val = s.fld F.FB_CFG_MODE n.val :=
    (h.fbWritten n len data).fld (by decide) (by omega)
  have hcmd : (b.applyRw (fbWrite n.val len data)).fld F.FB_CTRL_SER_CMD n.val = cmd :=
    (State.applyRw_fld_covered b small rfl touched rfl whole.1).trans values.1
  have harg : (b.applyRw (fbWrite n.val len data)).fld F.FB_CTRL_SER_ARG n.val = arg :=
    (State.applyRw_fld_covered b small rfl touched rfl whole.2).trans values.2
  have hcmd' : (b.applyRw (fbWrite n.val len data)).fld F.FB_CTRL_SER_CMD (fbWrite n.val len data).inst = cmd := hcmd
  rw [mode, hcmd, harg] at effect
  refine ⟨fun other => ?_, fun four valid => ?_, fun four two three => ?_⟩
  · rw [if_pos (by simpa using other)] at effect
    exact h.fbWrite_refused running loop free reserved (State.fbCtrlWrite_refused (by rw [p, a, c, g]; exact effect))
  · rw [if_neg (by simp [four])] at effect
    have done_ := State.fbCtrlWrite_acts (w := fbWrite n.val len data) (by rw [p, a, c, g]; exact effect)
    rw [hcmd', if_neg (fun h => valid.elim h.2.1 h.2.2)] at done_
    obtain ⟨runs, ended⟩ := h.fbWrite_ends running loop free reserved done_ (State.applyRw_objsOnly ..).per (State.applyRw_objsOnly ..).host
    refine ⟨_, runs, ended, h.fbWrite_only _ _ rfl, ?_, (State.acted_fld ..).trans hcmd, (State.acted_fld ..).trans harg⟩
    rw [State.acted_fbs, State.fbs_setFbs_same, State.applyRw_fbs, h.fbs]
  · rw [if_neg (by simp [four])] at effect
    have fault := State.fbCtrlWrite_acts (w := fbWrite n.val len data) (by rw [p, a, c, g]; exact effect)
    rw [hcmd', if_pos ⟨g, two, three⟩] at fault
    exact h.write_faults (fbCtrl_id n) ((fbWrite_allowed (by rw [h.loopMode, loop]) (by rw [h.fenced, free]) reserved (s.refOf src)).trans fault)

end

end

theorem fbPreset_covered (n : Nat) (data : Nat) : 0 ∈ (fbWrite n 8 data).touched ∧ getBits ((fbWrite n 8 data).covered 0) 32 32 = 2 ^ 32 - 1 :=
  show 0 ∈ (fbWrite 0 8 0).touched ∧ getBits ((fbWrite 0 8 0).covered 0) 32 32 = 2 ^ 32 - 1 by decide +kernel

theorem fbSerGo_covered (n : Nat) (data : Nat) : 0 ∈ (fbWrite n 2 data).touched ∧ getBits ((fbWrite n 2 data).covered 0) 4 3 = 2 ^ 3 - 1 ∧
    getBits ((fbWrite n 2 data).covered 0) 8 8 = 2 ^ 8 - 1 :=
  show 0 ∈ (fbWrite 0 2 0).touched ∧ getBits ((fbWrite 0 2 0).covered 0) 4 3 = 2 ^ 3 - 1 ∧
    getBits ((fbWrite 0 2 0).covered 0) 8 8 = 2 ^ 8 - 1 by decide +kernel

theorem serGo_asks (n : Nat) (cmd : Fin 8) (arg : Fin 256) :
    (fbWrite n 2 (0x08 + cmd.val * 2 ^ 4 + arg.val * 2 ^ 8)).asks false false false true ∧
    (fbWrite n 2 (0x08 + cmd.val * 2 ^ 4 + arg.val * 2 ^ 8)).act F.FB_CTRL_SER_CMD = cmd.val ∧
    (fbWrite n 2 (0x08 + cmd.val * 2 ^ 4 + arg.val * 2 ^ 8)).act F.FB_CTRL_SER_ARG = arg.val := serGo_bits cmd arg

/-- Settles O41. -/
theorem feedbackControls : Obligations.FeedbackControls := by
  unfold Obligations.FeedbackControls
  intro src n s running loop free acts only
  refine ⟨fun cmd arg val acted => ?_, fun cmd acted => ?_, fun cmd acted => ?_, fun cmd arg acted => ?_⟩
  · obtain ⟨asks, value⟩ := presetWrite_asks n.val (presetData_small cmd arg val) (presetData_within cmd arg val) (presetData_bits cmd arg val)
    obtain ⟨touched, whole⟩ := fbPreset_covered n.val (1 + cmd.val * 2 ^ 4 + arg.val * 2 ^ 8 + val.val * 2 ^ 32)
    rw [exec_preset]
    exact fbPreset_sets running loop free acted asks value touched whole
  · rw [exec_armHome]
    exact fbArmHome_arms running loop free acted (armHome_asks n.val cmd)
  · rw [exec_fbCntClr]
    exact fbCntClr_clears running loop free acted (cntClr_asks n.val cmd)
  · obtain ⟨asks, values⟩ := serGo_asks n.val cmd arg
    obtain ⟨touched, whole⟩ := fbSerGo_covered n.val (0x08 + cmd.val * 2 ^ 4 + arg.val * 2 ^ 8)
    rw [exec_serGo]
    exact fbSerGo_sends running loop free acted asks values touched whole

end Sys2Proof.Machine
end

section
/-! The statement of the banks and the cam store (R136, R137, R214, R458). -/

set_option Elab.async false

namespace Sys2Proof.Machine

section
variable {s b v : State} {src : Src} {d : Desc} {host : Nat}

/-! ### BANK_SWAP -/

theorem engBank_id : objOf 0xF001 = some .engBank ∧ instOf? 0xF001 .engBank = some 0 := by decide +kernel

theorem engBank_acts : Acts .engBank 0 0 1 0x02 State.bankSwap where
  effect b ref := by
    have swap : (wrOf .engBank 0 0 1 0x02).actBit F.ENG_BANK_SWAP = true := by decide +kernel
    have effect : b.objEffect (wrOf .engBank 0 0 1 0x02) 0 ref 0 =
      okWrite (if (wrOf .engBank 0 0 1 0x02).actBit F.ENG_BANK_SWAP then b.bankSwap else b) := rfl
    rw [effect, if_pos swap]
    rfl
  reserved := by decide +kernel
  per b := (((b.setBit_objsOnly ..).trans (State.setFld_objsOnly ..))).per
  host b := (((b.setBit_objsOnly ..).trans (State.setFld_objsOnly ..))).host

theorem exec_bankSwap (src : Src) (s : State) : exec (.bankSwap src) s = s.runWrite src 0xF001 0 1 0x02 := rfl

theorem State.bankSwap_shows (s : State) : s.bankSwap.bit F.ENG_BANK_IN_FORCE = !s.bit F.ENG_BANK_IN_FORCE ∧
    s.bankSwap.fld F.ENG_BANK_SWAP_SEQ = s.per.seq % 2 ^ 32 := by
  unfold State.bankSwap
  refine ⟨?_, State.fld_setFld_same ..⟩
  have apart := (s.setBit F.ENG_BANK_IN_FORCE !s.bit F.ENG_BANK_IN_FORCE).fld_setFld_bits (f := F.ENG_BANK_SWAP_SEQ) (g := F.ENG_BANK_IN_FORCE)
    s.per.seq 0 0 rfl (by decide)
  rw [State.bit, apart, ← State.bit]
  exact State.bit_setBit_same _ _ _ _ _ rfl

theorem bankSwap_swaps (running : s.per.running = true) (loop : s.loopMode = true)
    (acts : s.atApplication src (wrDesc src 0xF001 0 1 0x02) 0x02 = true) :
    ∃ t, exec (.bankSwap src) s = .next t ∧ t.endedWith src 0x00 ∧ t.bit F.ENG_BANK_IN_FORCE = !s.bit F.ENG_BANK_IN_FORCE ∧
      t.fld F.ENG_BANK_SWAP_SEQ = s.per.seq % 2 ^ 32 ∧ s.notedIn t [.engBank] := by
  obtain ⟨b, h⟩ := begun_of acts
  obtain ⟨runs, ended⟩ := h.acts running engBank_acts engBank_id (State.writeAllowed_loops rfl (Obj.noConfusion ·) (by rw [h.loopMode, loop]))
    (State.writeFenced_none rfl (Obj.noConfusion ·) (Obj.noConfusion ·))
  obtain ⟨bank, seq⟩ := b.bankSwap_shows
  have only : b.objsOnly b.bankSwap := (b.setBit_objsOnly ..).trans (State.setFld_objsOnly ..)
  have same : SameObjs [.engBank] b b.bankSwap :=
    (State.setBit_sameObjs _ F.ENG_BANK_IN_FORCE _ (by decide)).trans (State.setFld_sameObjs_at _ F.ENG_BANK_SWAP_SEQ _ (by decide) (by decide))
  refine ⟨_, runs, ended, (State.acted_bit ..).trans (bank.trans ?_), (State.acted_fld ..).trans (seq.trans ?_),
    h.acted_notedIn same rfl rfl (only.frame h) _⟩
  · rw [h.same.bit (by decide) (by decide)]
  · rw [h.frame]

/-! ### The words of a COEF_WRITE -/

theorem wordsData_from (ws : List Word24) (k v : Nat) : (ws.zipIdx k).foldl (fun v e => v + e.1.toNat * 2 ^ (32 * e.2)) v =
    v + 2 ^ (32 * k) * Nat.ofDigits (2 ^ 32) (ws.map BitVec.toNat) := by
  induction ws generalizing k v with
  | nil => simp
  | cons w ws ih =>
    rw [List.zipIdx_cons, List.foldl_cons, ih, List.map_cons, Nat.ofDigits_cons, Nat.mul_succ, Nat.pow_add]
    ring

theorem wordsData_eq (ws : List Word24) : wordsData ws = Nat.ofDigits (2 ^ 32) (ws.map BitVec.toNat) := by
  have := wordsData_from ws 0 0
  rw [Nat.mul_zero, Nat.pow_zero, Nat.one_mul, Nat.zero_add] at this
  exact this

theorem words_small (ws : List Word24) : ∀ x ∈ ws.map BitVec.toNat, x < 2 ^ 32 := by
  intro x hx
  obtain ⟨w, -, rfl⟩ := List.mem_map.mp hx
  exact w.isLt.trans (by decide)

theorem wordsData_lt (ws : List Word24) : wordsData ws < 2 ^ (8 * (4 * ws.length)) := by
  have := Nat.ofDigits_lt_base_pow_length (b := 2 ^ 32) (by decide) (words_small ws)
  rw [← wordsData_eq, List.length_map, ← Nat.pow_mul] at this
  rwa [show 8 * (4 * ws.length) = 32 * ws.length by omega]

theorem wordsData_word (ws : List Word24) {i : Nat} (h : i < ws.length) : wordsData ws / 2 ^ (32 * i) % 2 ^ 32 = ws[i].toNat := by
  have small : ws[i].toNat < 2 ^ 32 := words_small ws _ (List.mem_map_of_mem (List.getElem_mem h))
  rw [wordsData_eq, Nat.pow_mul, Nat.ofDigits_div_pow_eq_ofDigits_drop i (by decide) _ (words_small ws), ← List.map_drop, List.drop_eq_getElem_cons h,
    List.map_cons, Nat.ofDigits_cons, Nat.add_mul_mod_self_left, Nat.mod_eq_of_lt small]

/-- The write of coefficient words from word `first` of a bank's object. -/
abbrev coefWr (o : Obj) (first : Nat) (ws : List Word24) : Wr := wrOf o 0 (4 * first) (4 * ws.length) (wordsData ws)

section
variable {o : Obj} {first : Nat} {ws : List Word24}

/-- A write of whole 32-bit entries touches them in their order. -/
theorem Wr.touched_words {w : Wr} {first n : Nat} (bits : w.obj.entryBits = 32) (off : w.off = 4 * first) (len : w.len = 4 * n)
    (fits : first + n ≤ w.obj.entries) : w.touched = List.range' first n := by
  have count : (8 * (4 * first + 4 * n) + 32 - 1) / 32 - first = n := by omega
  have from_ : 8 * (4 * first) / 32 = first := by omega
  simp only [Wr.touched, bits, off, len, count, from_]
  by_cases none_ : n = 0
  · rw [if_pos (Or.inr (by omega)), none_]
    rfl
  · rw [if_neg (by omega), List.range'_eq_map_range, ← List.filterMap_eq_map]
    refine List.filterMap_congr fun i hi => ?_
    have := List.mem_range.mp hi
    exact if_pos (by omega)

theorem coefWr_touched (bits : o.entryBits = 32) (fits : first + ws.length ≤ o.entries) :
    (coefWr o first ws).touched = List.range' first ws.length := Wr.touched_words bits rfl rfl fits

theorem coefWr_bits (bits : o.entryBits = 32) {i : Nat} (h : i < ws.length) : (coefWr o first ws).bits (first + i) = ws[i].toNat := by
  have data : (coefWr o first ws).data % 2 ^ (8 * (coefWr o first ws).len) = wordsData ws := by
    show wordsData ws % 2 ^ (8 * (4 * ws.length)) % 2 ^ (8 * (4 * ws.length)) = _
    rw [Nat.mod_mod, Nat.mod_eq_of_lt (wordsData_lt ws)]
  rw [Wr.bits, data]
  show wordsData ws * 2 ^ (8 * (4 * first)) / 2 ^ (o.entryBits * (first + i)) % 2 ^ o.entryBits = _
  rw [bits, show 8 * (4 * first) = 32 * first by omega, Nat.mul_add 32, Nat.pow_add, Nat.mul_comm (2 ^ (32 * first)),
    Nat.mul_div_mul_right _ _ (Nat.two_pow_pos _), wordsData_word ws h]

theorem coefWr_mask (bits : o.entryBits = 32) {i : Nat} (h : i < ws.length) : (coefWr o first ws).mask (first + i) = 2 ^ 32 - 1 := by
  show (2 ^ (8 * (4 * ws.length)) - 1) * 2 ^ (8 * (4 * first)) / 2 ^ (o.entryBits * (first + i)) % 2 ^ o.entryBits = _
  rw [bits, show 8 * (4 * first) = 32 * first by omega, Nat.mul_add 32, Nat.pow_add, Nat.mul_comm (2 ^ (32 * first)),
    Nat.mul_div_mul_right _ _ (Nat.two_pow_pos _)]
  refine Nat.eq_of_testBit_eq fun k => ?_
  rw [Nat.testBit_mod_two_pow, Nat.testBit_div_two_pow, Nat.testBit_two_pow_sub_one, Nat.testBit_two_pow_sub_one]
  by_cases hk : k < 32
  · simp [hk, show k + 32 * i < 8 * (4 * ws.length) by omega]
  · simp [hk]

/-- The word field of a bank's object (Table 04.9). -/
abbrev coefFld (bankB : Bool) : Fld := if bankB then F.ENG_COEF_B_WORD else F.ENG_COEF_A_WORD
abbrev coefObj (bankB : Bool) : Obj := if bankB then .engCoefB else .engCoefA

theorem coefWr_reserved (bankB : Bool) (fits : first + ws.length ≤ 4096) : (coefWr (coefObj bankB) first ws).reserved = false := by
  have fields : (coefObj bankB).accMask .ro + (coefObj bankB).accMask .rw + (coefObj bankB).accMask .w1c + (coefObj bankB).accMask .wo =
      2 ^ 24 - 1 := by cases bankB <;> decide +kernel
  have bits : (coefObj bankB).entryBits = 32 := by cases bankB <;> rfl
  have entries : (coefObj bankB).entries = 4096 := by cases bankB <;> rfl
  rw [Wr.reserved, coefWr_touched bits (by rw [entries]; exact fits)]
  show (!(coefObj bankB).fields.isEmpty && (List.range' first ws.length).any _) = false
  rw [Bool.and_eq_false_iff]
  refine Or.inr (List.any_eq_false.mpr fun e he => ?_)
  obtain ⟨i, hi, rfl⟩ := List.mem_range'.mp he
  rw [Nat.one_mul, coefWr_bits bits hi]
  show ¬ (_ ^^^ (_ &&& ((coefObj bankB).accMask .ro + (coefObj bankB).accMask .rw + (coefObj bankB).accMask .w1c +
    (coefObj bankB).accMask .wo)) != 0) = true
  rw [fields, Nat.and_two_pow_sub_one_eq_mod, Nat.mod_eq_of_lt ws[i].isLt]
  simp

/-- After the write the object holds the words, and its other words stand. -/
theorem coefWr_sets (v : State) (bankB : Bool) (fits : first + ws.length ≤ 4096) :
    (∀ i (h : i < ws.length), (v.applyRw (coefWr (coefObj bankB) first ws)).fld (coefFld bankB) 0 (first + i) = ws[i].toNat) ∧
    ∀ a < 4096, (a < first ∨ first + ws.length ≤ a) →
      (v.applyRw (coefWr (coefObj bankB) first ws)).fld (coefFld bankB) 0 a = v.fld (coefFld bankB) 0 a := by
  have bits : (coefObj bankB).entryBits = 32 := by cases bankB <;> rfl
  have entries : (coefObj bankB).entries = 4096 := by cases bankB <;> rfl
  have obj : (coefFld bankB).obj = coefObj bankB := by cases bankB <;> rfl
  have place : (coefFld bankB).lo = 0 ∧ (coefFld bankB).width = 24 := by cases bankB <;> exact ⟨rfl, rfl⟩
  have masks : (coefObj bankB).accMask .rw = 2 ^ 24 - 1 ∧ (coefObj bankB).accMask .w1c = 0 := by cases bankB <;> decide +kernel
  have touched := coefWr_touched (first := first) (ws := ws) bits (by rw [entries]; exact fits)
  refine ⟨fun i h => ?_, fun a ha out => ?_⟩
  · refine (v.applyRw_fld_covered (w := coefWr (coefObj bankB) first ws) (show 0 < 256 by decide) obj
      (by rw [touched]; exact List.mem_range'.mpr ⟨i, h, by omega⟩) masks.2 ?_).trans ?_
    · rw [Wr.covered, coefWr_mask bits h, place.1, place.2]
      show getBits ((coefObj bankB).accMask .rw &&& _) 0 24 = _
      rw [masks.1]
      decide
    · rw [Wr.act, coefWr_bits bits h, place.1, place.2, getBits, Nat.pow_zero, Nat.div_one, Nat.mod_eq_of_lt ws[i].isLt]
  · have outside : a ∉ (coefWr (coefObj bankB) first ws).touched := by
      rw [touched]
      intro inside
      obtain ⟨i, hi, rfl⟩ := List.mem_range'.mp inside
      omega
    have stands := v.applyRw_fld (w := coefWr (coefObj bankB) first ws) (show 0 < 256 by decide) obj (e := a) (by omega)
    rw [if_neg outside] at stands
    exact stands

end

/-! ### The banks of the lane pairs -/

/-- `t` differs from `s` by the lanes only. -/
def State.lanesOnly (s t : State) : Prop := t = { s with lanes := t.lanes }

theorem State.lanesOnly.trans {s t u : State} (h : s.lanesOnly t) (h' : t.lanesOnly u) : s.lanesOnly u := by
  unfold State.lanesOnly at *
  rw [h', h]

theorem State.pokeBank_lanesOnly (s : State) (u l : Nat) (bankB : Bool) (a : Nat) (x : Word24) : s.lanesOnly (s.pokeBank u l bankB a x) := rfl

theorem foldl_lanesOnly {α : Type} {f : State → α → State} (h : ∀ (s : State) a, s.lanesOnly (f s a)) (l : List α) (s : State) :
    s.lanesOnly (l.foldl f s) := by
  induction l generalizing s with
  | nil => rfl
  | cons a l ih => exact (h s a).trans (ih _)

/-- A bank of a lane's copy. -/
def Lane.bankOf (x : Lane) (bankB : Bool) : SMap Word24 := if bankB then x.bankB else x.bankA

/-- A copy with a word of a bank written. -/
def Lane.poked (x : Lane) (bankB : Bool) (a : Nat) (w : Word24) : Lane :=
  if bankB then { x with bankB := x.bankB.set a w 0, badParity := x.badParity.filter (· != (.bankB, a)) }
  else { x with bankA := x.bankA.set a w 0, badParity := x.badParity.filter (· != (.bankA, a)) }

theorem Lane.poked_bankOf (x : Lane) (bankB : Bool) (a : Nat) (w : Word24) : (x.poked bankB a w).bankOf bankB = (x.bankOf bankB).set a w 0 := by
  cases bankB <;> rfl

/-- A word written to a bank of a lane pair reaches both copies, and no other lane. -/
theorem State.pokeBank_lane (s : State) {u l u' l' c' : Nat} (hl : l < 12) (hl' : l' < 12) (hc' : c' < 2) (bankB : Bool) (a : Nat) (w : Word24) :
    (s.pokeBank u l bankB a w).lane u' l' c' = if u' = u ∧ l' = l then (s.lane u' l' c').poked bankB a w else s.lane u' l' c' := by
  have step : s.pokeBank u l bankB a w = (s.setLane u l 0 ((s.lane u l 0).poked bankB a w)).setLane u l 1
      (((s.setLane u l 0 ((s.lane u l 0).poked bankB a w)).lane u l 1).poked bankB a w) := rfl
  have other : ∀ c, c < 2 → ¬ ((u' = u ∧ l' = l) ∧ c' = c) → laneKey u' l' c' ≠ laneKey u l c := fun c hc h key => h (by
    simp only [laneKey] at key
    omega)
  have first : laneKey u l 1 ≠ laneKey u l 0 := by simp [laneKey]
  rw [step, State.lane_setLane_ne _ _ first]
  by_cases here : u' = u ∧ l' = l
  · obtain ⟨rfl, rfl⟩ := here
    rw [if_pos ⟨rfl, rfl⟩]
    obtain rfl | rfl : c' = 0 ∨ c' = 1 := by omega
    · rw [State.lane_setLane_ne _ _ first.symm, State.lane_setLane_same]
    · rw [State.lane_setLane_same]
  · rw [if_neg here, State.lane_setLane_ne _ _ (other 1 (by decide) fun h => here h.1), State.lane_setLane_ne _ _ (other 0 (by decide) fun h => here h.1)]

theorem State.pokeBank_bank (s : State) {u l u' l' c' : Nat} (hl : l < 12) (hl' : l' < 12) (hc' : c' < 2) (bankB : Bool) (a : Nat) (w : Word24) :
    ((s.pokeBank u l bankB a w).lane u' l' c').bankOf bankB =
      if u' = u ∧ l' = l then ((s.lane u' l' c').bankOf bankB).set a w 0 else (s.lane u' l' c').bankOf bankB := by
  rw [s.pokeBank_lane hl hl' hc']
  split
  · exact Lane.poked_bankOf ..
  · rfl

/-- The words written to the bank of a lane pair, of both copies, where its unit is loaded and it is not fenced (R136). -/
def State.pokePair (s : State) (bankB : Bool) (word : Nat → Word24) (es : List Nat) (p : Nat) : State :=
  if !s.unitLoaded (p / 12) || s.fenced (.unit (p / 12)) || s.fenced (.lane (p / 12) (p % 12)) then s
  else es.foldl (fun s e => s.pokeBank (p / 12) (p % 12) bankB e (word e)) s

theorem State.pokePair_lanesOnly (s : State) (bankB : Bool) (word : Nat → Word24) (es : List Nat) (p : Nat) :
    s.lanesOnly (s.pokePair bankB word es p) := by
  unfold State.pokePair
  split
  · rfl
  · exact foldl_lanesOnly (fun s e => s.pokeBank_lanesOnly ..) es s

theorem State.pokeWords_bank (s : State) {u l u' l' c' : Nat} (hl : l < 12) (hl' : l' < 12) (hc' : c' < 2) (bankB : Bool) (word : Nat → Word24)
    (es : List Nat) (a : Nat) :
    (((es.foldl (fun s e => s.pokeBank u l bankB e (word e)) s).lane u' l' c').bankOf bankB).get a 0 =
      if (u' = u ∧ l' = l) ∧ a ∈ es then word a else ((s.lane u' l' c').bankOf bankB).get a 0 := by
  induction es generalizing s with
  | nil => simp
  | cons e es ih =>
    rw [List.foldl_cons, ih, s.pokeBank_bank hl hl' hc']
    by_cases here : u' = u ∧ l' = l
    · by_cases last : a = e
      · subst last
        simp [here]
      · simp [here, last, SMap.get_set]
    · simp [here]

/-- The words reach every lane pair that takes them. -/
theorem State.pokePairs_bank (s : State) (bankB : Bool) (word : Nat → Word24) (es : List Nat) {u l c : Nat} (hl : l < 12) (hc : c < 2)
    (loaded : s.unitLoaded u = true) (unit : s.fenced (.unit u) = false) (pair : s.fenced (.lane u l) = false) (n : Nat) {a : Nat} (ha : a ∈ es) :
    s.lanesOnly (s.forRange n fun s p => s.pokePair bankB word es p) ∧
    (12 * u + l < n → (((s.forRange n fun s p => s.pokePair bankB word es p).lane u l c).bankOf bankB).get a 0 = word a) := by
  induction n with
  | zero => exact ⟨rfl, fun h => absurd h (by omega)⟩
  | succ n ih =>
    rw [State.forRange_succ]
    generalize s.forRange n (fun s p => s.pokePair bankB word es p) = t at ih
    obtain ⟨only, words⟩ := ih
    refine ⟨only.trans (t.pokePair_lanesOnly ..), fun h => ?_⟩
    unfold State.pokePair
    by_cases mine : 12 * u + l = n
    · have place : n / 12 = u ∧ n % 12 = l := by omega
      rw [place.1, place.2, only]
      show (((if !s.unitLoaded u || s.fenced (.unit u) || s.fenced (.lane u l) then _ else _ : State).lane u l c).bankOf bankB).get a 0 = _
      rw [loaded, unit, pair, if_neg (by decide), State.pokeWords_bank _ hl hl hc, if_pos ⟨⟨rfl, rfl⟩, ha⟩]
    · have before := words (by omega)
      split
      · exact before
      · rw [State.pokeWords_bank _ (Nat.mod_lt _ (by decide)) hl hc, if_neg (by omega), before]

/-! ### COEF_WRITE -/

/-- The state in which a bank's words have been written. -/
def State.coefWritten (s : State) (w : Wr) (bankB : Bool) : State :=
  (s.applyRw w).forRange 24 fun t p => t.pokePair bankB (fun e => BitVec.ofNat 24 ((s.applyRw w).fld (coefFld bankB) 0 e)) w.touched p

theorem State.coefWrite_eq (s : State) (w : Wr) (bankB : Bool) : s.coefWrite w bankB =
    if s.bit F.ENG_BANK_IN_FORCE == bankB then (s, refused 0x1)
    else if s.bit F.ENG_IDENT_DIFFER then (s, refused 0x2) else (s.coefWritten w bankB, done) := rfl

theorem coef_id (bankB : Bool) : objOf (if bankB then 0xF003 else 0xF002) = some (coefObj bankB) ∧
    instOf? (if bankB then 0xF003 else 0xF002) (coefObj bankB) = some 0 := by cases bankB <;> decide +kernel

theorem State.objEffect_coef (s : State) (bankB : Bool) (first : Nat) (ws : List Word24) (ref : CmdRef) :
    s.objEffect (coefWr (coefObj bankB) first ws) 0 ref 0 = answer (s.coefWrite (coefWr (coefObj bankB) first ws) bankB) := by
  cases bankB <;> rfl

/-- The descriptor's check of its range keeps a write within its object (R81). -/
theorem AtApplication.fits {id off len data : Nat} {o : Obj} (h : AtApplication s src (wrDesc src id off len data) host)
    (named : namedObj id = some o) : off + len ≤ o.size := by
  have ok := h.length
  simp only [descBadLength, Bool.or_eq_false_iff] at ok
  have size := ok.2
  rw [show usesObject (wrDesc src id off len data).opcode = true from rfl, Bool.true_and] at size
  have named' : namedObj (wrDesc src id off len data).objId = some o := named
  rw [named', Option.any_some, decide_eq_false_iff_not] at size
  have : ¬ o.size < off + len := size
  omega

theorem exec_coefWrite (src : Src) (bankB : Bool) (first : Fin 4096) (words : List Word24) (s : State) :
    exec (.coefWrite src bankB first words) s =
      s.runWrite src (if bankB then 0xF003 else 0xF002) (4 * first.val) (4 * words.length) (wordsData words) := rfl

theorem State.coefWritten_lanesOnly (s : State) (w : Wr) (bankB : Bool) : (s.applyRw w).lanesOnly (s.coefWritten w bankB) :=
  foldl_lanesOnly (fun t p => t.pokePair_lanesOnly bankB _ w.touched p) _ _

/-- Every lane pair that takes the words has them in its bank. -/
theorem State.coefWritten_bank (s : State) (bankB : Bool) {first : Nat} {ws : List Word24} (fits : first + ws.length ≤ 4096) {u l c i : Nat}
    (hi : i < ws.length) (hu : u < 2) (hl : l < 12) (hc : c < 2) (loaded : s.unitLoaded u = true) (unit : s.fenced (.unit u) = false)
    (pair : s.fenced (.lane u l) = false) :
    (((s.coefWritten (coefWr (coefObj bankB) first ws) bankB).lane u l c).bankOf bankB).get (first + i) 0 = ws[i] := by
  have bits : (coefObj bankB).entryBits = 32 := by cases bankB <;> rfl
  have entries : (coefObj bankB).entries = 4096 := by cases bankB <;> rfl
  have fence : Obj.sysFence ∉ [coefObj bankB] := by cases bankB <;> decide
  have touched := coefWr_touched (first := first) (ws := ws) bits (by rw [entries]; exact fits)
  have same := s.applyRw_sameObjs (w := coefWr (coefObj bankB) first ws) (show 0 < 256 by decide)
  have loaded' : (s.applyRw (coefWr (coefObj bankB) first ws)).unitLoaded u = true := by
    rw [s.applyRw_objsOnly (coefWr (coefObj bankB) first ws)]
    exact loaded
  have poked := (State.pokePairs_bank (s.applyRw (coefWr (coefObj bankB) first ws)) bankB
    (fun e => BitVec.ofNat 24 ((s.applyRw (coefWr (coefObj bankB) first ws)).fld (coefFld bankB) 0 e)) (coefWr (coefObj bankB) first ws).touched
    (a := first + i) hl hc loaded' (by rw [State.fenced_of_same same fence, unit]) (by rw [State.fenced_of_same same fence, pair]) 24
    (by rw [touched]; exact List.mem_range'.mpr ⟨i, hi, by omega⟩)).2 (by omega)
  refine Eq.trans ?_ (poked.trans ?_)
  · rfl
  · rw [(coefWr_sets s bankB fits).1 i hi, BitVec.ofNat_toNat, BitVec.setWidth_eq]

theorem coefWrite_answers (running : s.per.running = true) (loop : s.loopMode = true) (bankB : Bool) (first : Fin 4096) (ws : List Word24)
    (acts : s.atApplication src (wrDesc src (if bankB then 0xF003 else 0xF002) (4 * first.val) (4 * ws.length) (wordsData ws)) (wordsData ws) = true) :
    (s.bit F.ENG_BANK_IN_FORCE = bankB ∨ s.bit F.ENG_IDENT_DIFFER = true →
      ∃ t, exec (.coefWrite src bankB first ws) s = .next t ∧ t.endedWith src 0x07 ∧ s.notedIn t []) ∧
    (s.bit F.ENG_BANK_IN_FORCE = !bankB → s.bit F.ENG_IDENT_DIFFER = false →
      ∃ t, exec (.coefWrite src bankB first ws) s = .next t ∧ t.endedWith src 0x00 ∧
        ({ s with lanes := t.lanes } : State).notedIn t [coefObj bankB] ∧
        (∀ i (h : i < ws.length), t.fld (coefFld bankB) 0 (first.val + i) = ws[i].toNat) ∧
        (∀ a < 4096, (a < first.val ∨ first.val + ws.length ≤ a) → t.fld (coefFld bankB) 0 a = s.fld (coefFld bankB) 0 a) ∧
        (∀ (u : Fin 2) (l : Fin 12) (c : Fin 2) (i : Nat) (h : i < ws.length), s.unitLoaded u.val = true →
          s.fenced (.unit u.val) = false → s.fenced (.lane u.val l.val) = false →
          ((t.lane u l c).bankOf bankB).get (first.val + i) 0 = ws[i])) := by
  obtain ⟨b, h⟩ := begun_of acts
  have named : namedObj (if bankB then 0xF003 else 0xF002) = some (coefObj bankB) := by
    rw [namedObj, (coef_id bankB).1]
  have fits : first.val + ws.length ≤ 4096 := by
    have := h.here.fits named
    have size : (coefObj bankB).size = 16384 := by cases bankB <;> rfl
    omega
  have allowed : b.writeAllowed (coefWr (coefObj bankB) first ws) = true :=
    State.writeAllowed_loops (by cases bankB <;> rfl) (by cases bankB <;> exact (Obj.noConfusion ·)) (by rw [h.loopMode, loop])
  have free : b.writeFenced (coefWr (coefObj bankB) first ws) = none :=
    State.writeFenced_none (by cases bankB <;> rfl) (by cases bankB <;> exact (Obj.noConfusion ·)) (by cases bankB <;> exact (Obj.noConfusion ·))
  have effect := (State.objWrite_of_allowed (t := b) (param := 0) (ref := s.refOf src) (lands := 0) (coefWr_reserved bankB fits) allowed free).trans
    (State.objEffect_coef b bankB first ws _)
  rw [State.coefWrite_eq, h.same.bit (f := F.ENG_BANK_IN_FORCE) (by decide) (by decide),
    h.same.bit (f := F.ENG_IDENT_DIFFER) (by decide) (by decide)] at effect
  rw [exec_coefWrite]
  have refused_ : ∀ {r : Result}, b.objWrite (coefWr (coefObj bankB) first ws) 0 (s.refOf src) 0 = .ok (b, some r) →
      ∃ t, s.runWrite src (if bankB then 0xF003 else 0xF002) (4 * first.val) (4 * ws.length) (wordsData ws) = .next t ∧
        t.endedWith src r.status ∧ s.notedIn t [] := fun effect => by
    obtain ⟨runs, ended⟩ := h.write_ends running (coef_id bankB) effect (by rw [h.running, running]) h.carries
    refine ⟨_, runs, ended, h.acted_notedIn (SameObjs.refl _ _) rfl rfl ?_ _⟩
    rw [h.frame]
  refine ⟨fun bad => ?_, fun bank differ => ?_⟩
  · by_cases force : s.bit F.ENG_BANK_IN_FORCE = bankB
    · rw [force, if_pos (by simp)] at effect
      exact refused_ effect
    · rw [if_neg (by simpa using force), bad.resolve_left force] at effect
      exact refused_ effect
  · rw [bank, differ, if_neg (by cases bankB <;> decide), if_neg (by decide)] at effect
    have lanes := b.coefWritten_lanesOnly (coefWr (coefObj bankB) first ws) bankB
    have objs := b.applyRw_objsOnly (coefWr (coefObj bankB) first ws)
    obtain ⟨words, others⟩ := coefWr_sets b bankB fits
    have banks := fun (u : Fin 2) (l : Fin 12) (c : Fin 2) (i : Nat) (hi : i < ws.length) =>
      b.coefWritten_bank bankB fits hi u.isLt l.isLt c.isLt
    generalize b.coefWritten (coefWr (coefObj bankB) first ws) bankB = t at effect lanes banks
    have reads : ∀ a, t.fld (coefFld bankB) 0 a = (b.applyRw (coefWr (coefObj bankB) first ws)).fld (coefFld bankB) 0 a := fun a => by
      rw [lanes]
      rfl
    have same : SameObjs [coefObj bankB] b t := fun o i e ho hi he => by
      rw [lanes]
      exact b.applyRw_sameObjs (show 0 < 256 by decide) o i e ho hi he
    obtain ⟨runs, ended⟩ := h.write_ends running (coef_id bankB) (t := t) (r := done) effect
      (by rw [lanes, objs]; exact h.running.trans running) (State.carries_of_cmds h.carries (by rw [lanes, objs]))
    have outside : (coefFld bankB).obj ∉ [Obj.hifRingApplied, .hifRingState] := by cases bankB <;> decide
    refine ⟨_, runs, ended, h.acted_notedIn (s' := { s with lanes := t.lanes }) same rfl rfl ?_ _, fun i hi => ?_, fun a ha out => ?_,
      fun u l c i hi loaded unit pair => ?_⟩
    · rw [lanes, objs, h.frame]
    · exact (State.acted_fld ..).trans ((reads _).trans (words i hi))
    · refine (State.acted_fld ..).trans ((reads _).trans ((others a ha out).trans ?_))
      rw [State.fld, State.fld, h.same _ 0 a outside (by decide) (by omega)]
    · exact banks u l c i hi (by rw [State.unitLoaded, h.red]; exact loaded) (by rw [h.fenced, unit]) (by rw [h.fenced, pair])

/-! ### CAM_COMMIT -/

/-- The object store is the same from key `k` on. -/
def State.sameFrom (k : Nat) (s t : State) : Prop := ∀ j, k ≤ j → t.objs.get j 0 = s.objs.get j 0

theorem State.sameFrom.trans {k : Nat} {s t u : State} (h : State.sameFrom k s t) (h' : State.sameFrom k t u) : State.sameFrom k s u :=
  fun j hj => (h' j hj).trans (h j hj)

theorem State.setObj_sameFrom (s : State) {k : Nat} (o : Obj) {i e : Nat} (x : Nat) (before : objKey o i e < k) :
    State.sameFrom k s (s.setObj o i e x) := fun j hj => SMap.get_set_ne (by omega)

theorem objKey_lt {o : Obj} {i e n : Nat} (code : o.code < n) (hi : i < 256) (he : e < 65536) : objKey o i e < n * 2 ^ 24 := by
  unfold objKey
  omega

theorem State.setFld_sameFrom (s : State) {n : Nat} (f : Fld) (x : Nat) {i : Nat} (code : f.obj.code < n) (hi : i < 256) :
    State.sameFrom (n * 2 ^ 24) s (s.setFld f x i) := s.setObj_sameFrom _ _ (objKey_lt code hi (by decide))

theorem State.setBit_sameFrom (s : State) {n : Nat} (f : Fld) (x : Bool) {i : Nat} (code : f.obj.code < n) (hi : i < 256) :
    State.sameFrom (n * 2 ^ 24) s (s.setBit f x i) := s.setFld_sameFrom f _ code hi

theorem State.applyRw_sameFrom (s : State) {n : Nat} {w : Wr} (hi : w.inst < 256) (code : w.obj.code < n) :
    State.sameFrom (n * 2 ^ 24) s (s.applyRw w) := by
  have fold : ∀ (es : List Nat) (t : State), (∀ e ∈ es, e < 65536) →
      State.sameFrom (n * 2 ^ 24) t (es.foldl (fun s e => s.setObj w.obj w.inst e (w.entry s e)) t) := by
    intro es
    induction es with
    | nil => exact fun _ _ _ _ => rfl
    | cons e es ih =>
      intro t he
      exact (t.setObj_sameFrom _ _ (objKey_lt code hi (he e (List.mem_cons_self ..)))).trans (ih _ fun x hx => he x (List.mem_cons_of_mem _ hx))
  exact fold _ s fun e he => Wr.touched_lt_65536 he

/-- What a descriptor leaves of the store before its own effect stands in the rings' objects. -/
theorem Begun.sameFrom (h : Begun s src d host b) : State.sameFrom (15 * 2 ^ 24) s b := by
  have turn : (s.turnOf src d host).objs = (s.fetchedFor src d host).objs := by unfold State.turnOf; split <;> rfl
  have ring := h.here.ring_lt
  have head : State.sameFrom (15 * 2 ^ 24) s (s.setHead src.ring.val (posNext (s.ringSize src.ring.val) (src.index.val, src.phase))) :=
    (s.setFld_sameFrom F.HIF_RING_STATE_HEAD _ (by decide) ring).trans (State.setBit_sameFrom _ F.HIF_RING_STATE_HEAD_PHASE _ (by decide) ring)
  have noted : ∀ t : State, State.sameFrom (15 * 2 ^ 24) t (t.noteApplied (s.held src d host)) := fun t =>
    ((t.setFld_sameFrom F.HIF_RING_APPLIED_NEXT _ (by decide) ring).trans
      (State.setBit_sameFrom _ F.HIF_RING_APPLIED_NEXT_PHASE _ (by decide) ring)).trans
      (State.setBit_sameFrom _ F.HIF_RING_APPLIED_VALID _ (by decide) ring)
  intro j hj
  rw [← h.eq, h.here.begun_eq]
  refine (noted _ j hj).trans ?_
  show (s.turnOf src d host).objs.get j 0 = _
  rw [turn]
  exact head j hj

theorem State.camProf_of_sameFrom {t : State} (same : State.sameFrom (34 * 2 ^ 24) s t) (f : Fld) (obj : f.obj = .camProf) (p : Nat) :
    t.fld f p = s.fld f p := by
  have above : 34 * 2 ^ 24 ≤ objKey .camProf p 0 := by
    simp only [objKey, Obj.code]
    omega
  simp only [State.fld, State.obj, obj, same _ above]

theorem camCommit_id : objOf 0x6003 = some .camCommit ∧ instOf? 0x6003 .camCommit = some 0 := by decide +kernel

theorem camData_bits (first count : Fin (2 ^ 16)) : first.val + count.val * 2 ^ 16 + 2 ^ 32 < 2 ^ 40 ∧
    getBits (first.val + count.val * 2 ^ 16 + 2 ^ 32) 0 16 = first.val ∧ getBits (first.val + count.val * 2 ^ 16 + 2 ^ 32) 16 16 = count.val ∧
    getBits (first.val + count.val * 2 ^ 16 + 2 ^ 32) 32 1 = 1 ∧ (first.val + count.val * 2 ^ 16 + 2 ^ 32) % 2 ^ 33 = first.val + count.val * 2 ^ 16 + 2 ^ 32 := by
  simp only [getBits]
  omega

abbrev camWr (data : Nat) : Wr := wrOf .camCommit 0 0 5 data

theorem camWr_bits {data : Nat} (small : data < 2 ^ 40) : (camWr data).bits 0 = data := by
  have data' : (camWr data).data = data := Nat.mod_eq_of_lt small
  exact (Wr.bits_low rfl (show 8 * 5 ≤ 64 by decide) (by rw [data']; exact small)).trans data'

theorem camWr_touched (data : Nat) : (camWr data).touched = [0] ∧ getBits ((camWr data).covered 0) 0 16 = 2 ^ 16 - 1 ∧
    getBits ((camWr data).covered 0) 16 16 = 2 ^ 16 - 1 :=
  show (camWr 0).touched = [0] ∧ getBits ((camWr 0).covered 0) 0 16 = 2 ^ 16 - 1 ∧ getBits ((camWr 0).covered 0) 16 16 = 2 ^ 16 - 1 by decide +kernel

/-- An engaged cam uses a point of a range of the store (R214). -/
def State.camHit (s : State) (first n : Nat) : Prop :=
  ∃ a < 40, ∃ c ∈ s.camsOf a, first < s.fld F.CAM_PROF_FIRST c.profile + s.fld F.CAM_PROF_N c.profile ∧ s.fld F.CAM_PROF_FIRST c.profile < first + n

/-- Points of the staging area copied into a cam store. -/
def copiedPoints (stage store : SMap Word24) (first n : Nat) : SMap Word24 :=
  (List.range n).foldl (fun m i => m.set (first + i) (stage.get (first + i) 0) 0) store

/-- The state in which staged points are in the store. -/
def State.camCopied (s : State) (first n : Nat) : State :=
  { s with motion := { s.motion with camStore := copiedPoints s.motion.camStage s.motion.camStore first n } }

theorem copiedPoints_get (stage store : SMap Word24) (first n k : Nat) :
    (copiedPoints stage store first n).get k 0 = if first ≤ k ∧ k < first + n then stage.get k 0 else store.get k 0 := by
  rw [copiedPoints, SMap.get_foldl_set (v := fun i => stage.get (first + i) 0)]
  split
  · rename_i h
    rw [Nat.add_sub_cancel' h.1]
  · rfl

section
variable {first count : Nat} (hfirst : v.fld F.CAM_COMMIT_FIRST = first) (hcount : v.fld F.CAM_COMMIT_COUNT = count)
include hfirst hcount

theorem State.camCommit_eq (hit : Bool) (here : hit = true ↔ v.camHit first (max 1 count)) : v.camCommit =
    if hit then (v, refused 0x1) else if 32768 < first + max 1 count then (v, refused 0x2) else (v.camCopied first (max 1 count), done) := by
  have same : ((List.range 40).any fun a => (v.camsOf a).any fun c =>
      decide (first < v.fld F.CAM_PROF_FIRST c.profile + v.fld F.CAM_PROF_N c.profile ∧ v.fld F.CAM_PROF_FIRST c.profile < first + max 1 count)) = hit := by
    rw [Bool.eq_iff_iff, here]
    simp only [List.any_eq_true, List.mem_range, decide_eq_true_eq, State.camHit]
  simp only [State.camCommit, hfirst, hcount, same]
  rfl

end

theorem State.objEffect_cam (s : State) {data : Nat} (go : (camWr data).actBit F.CAM_COMMIT_GO = true) (ref : CmdRef) {r : State × Result}
    (acts : (s.applyRw (camWr data)).camCommit = r) :
    s.objEffect (camWr data) 0 ref 0 = if r.2.status = 0x00 then answer r else answer (s, r.2) := by
  have effect : s.objEffect (camWr data) 0 ref 0 = if (camWr data).actBit F.CAM_COMMIT_GO then
      (let r := (s.applyRw (camWr data)).camCommit; if r.2.status = 0x00 then answer r else answer (s, r.2))
    else okWrite (s.applyRw (camWr data)) := rfl
  rw [effect, if_pos go, acts]

theorem camWr_reserved {data : Nat} (small : data < 2 ^ 40) (within : data % 2 ^ 33 = data) : (camWr data).reserved = false :=
  Wr.reserved_of_within (m := 2 ^ 33 - 1) (camWr_touched data).1
    (show Obj.accMask .camCommit .ro + Obj.accMask .camCommit .rw + Obj.accMask .camCommit .w1c + Obj.accMask .camCommit .wo = _ by decide +kernel)
    (by rw [camWr_bits small, Nat.and_two_pow_sub_one_eq_mod, within])

theorem exec_camCommit (src : Src) (first count : Fin (2 ^ 16)) (s : State) :
    exec (.camCommit src first count) s = s.runWrite src 0x6003 0 5 (first.val + count.val * 2 ^ 16 + 2 ^ 32) := rfl

theorem camCommit_answers (running : s.per.running = true) (loop : s.loopMode = true) {data first count : Nat} (small : data < 2 ^ 40)
    (hfirst : getBits data 0 16 = first) (hcount : getBits data 16 16 = count) (go : getBits data 32 1 = 1) (within : data % 2 ^ 33 = data)
    (acts : s.atApplication src (wrDesc src 0x6003 0 5 data) data = true) :
    (¬s.camHit first (max 1 count) → first + max 1 count ≤ 32768 → ∃ t, s.runWrite src 0x6003 0 5 data = .next t ∧ t.endedWith src 0x00 ∧
      ({ s with motion := { s.motion with camStore := t.motion.camStore } } : State).notedIn t [.camCommit] ∧
      (∀ i < max 1 count, t.motion.camStore.get (first + i) 0 = s.motion.camStage.get (first + i) 0) ∧
      ∀ k, (k < first ∨ first + max 1 count ≤ k) → t.motion.camStore.get k 0 = s.motion.camStore.get k 0) ∧
    (s.camHit first (max 1 count) ∨ 32768 < first + max 1 count →
      ∃ t, s.runWrite src 0x6003 0 5 data = .next t ∧ t.endedWith src 0x07 ∧ s.notedIn t []) := by
  obtain ⟨b, h⟩ := begun_of acts
  obtain ⟨touched, whole, whole'⟩ := camWr_touched data
  have bits := camWr_bits small
  have only := b.applyRw_objsOnly (camWr data)
  have hfirst' : (b.applyRw (camWr data)).fld F.CAM_COMMIT_FIRST = first :=
    (State.applyRw_fld_covered b (w := camWr data) (show 0 < 256 by decide) rfl (by rw [touched]; exact List.mem_singleton_self 0) rfl whole).trans
      (by rw [Wr.act, bits]; exact hfirst)
  have hcount' : (b.applyRw (camWr data)).fld F.CAM_COMMIT_COUNT = count :=
    (State.applyRw_fld_covered b (w := camWr data) (show 0 < 256 by decide) rfl (by rw [touched]; exact List.mem_singleton_self 0) rfl whole').trans
      (by rw [Wr.act, bits]; exact hcount)
  have prof := State.camProf_of_sameFrom (s := s) (t := b.applyRw (camWr data))
    (State.sameFrom.trans (fun j hj => h.sameFrom j (by omega)) (b.applyRw_sameFrom (w := camWr data) (show 0 < 256 by decide) (show 33 < 34 by decide)))
  have cams : ∀ a, (b.applyRw (camWr data)).camsOf a = s.camsOf a := fun a => by
    rw [only, h.frame]
    rfl
  have hit : (b.applyRw (camWr data)).camHit first (max 1 count) ↔ s.camHit first (max 1 count) := by
    simp only [State.camHit, cams, prof F.CAM_PROF_FIRST rfl, prof F.CAM_PROF_N rfl]
  have goes : (camWr data).actBit F.CAM_COMMIT_GO = true := by
    rw [Wr.actBit, Wr.act, bits]
    show (getBits data 32 1 != 0) = true
    rw [go]
    rfl
  have allowed : b.writeAllowed (camWr data) = true := State.writeAllowed_loops rfl (Obj.noConfusion ·) (by rw [h.loopMode, loop])
  have free : b.writeFenced (camWr data) = none := State.writeFenced_none rfl (Obj.noConfusion ·) (Obj.noConfusion ·)
  have effect := fun {r : State × Result} (acts : (b.applyRw (camWr data)).camCommit = r) =>
    (State.objWrite_of_allowed (t := b) (param := 0) (ref := s.refOf src) (lands := 0) (camWr_reserved small within) allowed free).trans
      (State.objEffect_cam b goes _ acts)
  have refused_ : ∀ {r : Result}, b.objWrite (camWr data) 0 (s.refOf src) 0 = .ok (b, some r) →
      ∃ t, s.runWrite src 0x6003 0 5 data = .next t ∧ t.endedWith src r.status ∧ s.notedIn t [] := fun effect => by
    obtain ⟨runs, ended⟩ := h.write_ends running camCommit_id effect (by rw [h.running, running]) h.carries
    refine ⟨_, runs, ended, h.acted_notedIn (SameObjs.refl _ _) rfl rfl ?_ _⟩
    rw [h.frame]
  refine ⟨fun miss within_ => ?_, fun bad => ?_⟩
  · have written := State.camCommit_eq hfirst' hcount' false (by simpa using hit.not.mpr miss)
    rw [if_neg (by decide), if_neg (by omega)] at written
    obtain ⟨runs, ended⟩ := h.write_ends running camCommit_id (effect written)
      ((congrArg PeriodSt.running only.per).trans (h.running.trans running)) (State.carries_of_cmds h.carries (congrArg HostSt.cmds only.host))
    have stage : (b.applyRw (camWr data)).motion = s.motion := by rw [only, h.motion]
    have store : ((b.applyRw (camWr data)).camCopied first (max 1 count)).motion.camStore =
        copiedPoints s.motion.camStage s.motion.camStore first (max 1 count) := by
      rw [State.camCopied, stage]
    refine ⟨_, runs, ended, ?_, fun i hi => ?_, fun k out => ?_⟩
    · refine h.acted_notedIn (s' := { s with motion := { s.motion with camStore := ((b.applyRw (camWr data)).camCopied first (max 1 count)).motion.camStore } })
        (t := (b.applyRw (camWr data)).camCopied first (max 1 count))
        ((b.applyRw_sameObjs (w := camWr data) (show 0 < 256 by decide)).trans (SameObjs.of_objs rfl _)) rfl rfl ?_ done
      rw [store, State.camCopied, stage, only, h.frame]
    · refine (congrArg (·.get (first + i) 0) store).trans ?_
      rw [copiedPoints_get, if_pos (by omega)]
    · refine (congrArg (·.get k 0) store).trans ?_
      rw [copiedPoints_get, if_neg (by omega)]
  · by_cases here : s.camHit first (max 1 count)
    · have answer_ := State.camCommit_eq hfirst' hcount' true (by simpa using hit.mpr here)
      rw [if_pos rfl] at answer_
      exact refused_ (effect answer_)
    · have answer_ := State.camCommit_eq hfirst' hcount' false (by simpa using hit.not.mpr here)
      rw [if_neg (by decide), if_pos (bad.resolve_left here)] at answer_
      exact refused_ (effect answer_)

/-- Settles O39. -/
theorem banksAndCamStore : Obligations.BanksAndCamStore := by
  unfold Obligations.BanksAndCamStore
  intro src s running loop
  refine ⟨fun acts => bankSwap_swaps running loop acts, fun bankB first words => ?_, fun first count => ?_⟩
  · intro o f d acts
    obtain ⟨no, yes⟩ := coefWrite_answers running loop bankB first words acts
    refine ⟨no, fun bank differ => ?_⟩
    obtain ⟨t, runs, ended, noted, wrote, others, banks⟩ := yes bank differ
    refine ⟨t, runs, ended, noted, wrote, others, fun u l c i hi loaded unit pair => ?_⟩
    have := banks u l c i hi loaded unit pair
    cases bankB <;> exact this
  · intro data n hit acts
    obtain ⟨small, hfirst, hcount, go, within⟩ := camData_bits first count
    rw [exec_camCommit]
    exact camCommit_answers running loop small hfirst hcount go within acts

end

end Sys2Proof.Machine
end

section
/-! States of the PWM groups: what bringing a group into the state its conditions select changes (R253, R264 to R266). -/

set_option Elab.async false

namespace Sys2Proof.Machine

section
variable {s t u b : State} {src : Src} {d : Desc} {host : Nat}

/-! ### Outputs -/

/-- `t` differs from `s` by what the hub keeps of the PWM groups only. -/
def State.groupsOnly (s t : State) : Prop := t = { s with groups := t.groups }

theorem State.groupsOnly.refl (s : State) : s.groupsOnly s := rfl

theorem State.groupsOnly.trans (h : s.groupsOnly t) (h' : t.groupsOnly u) : s.groupsOnly u := by
  unfold State.groupsOnly at *
  rw [h', h]

theorem State.groupsOnly.fld (h : s.groupsOnly t) (f : Fld) (i : Nat) : t.fld f i = s.fld f i := by
  unfold State.groupsOnly at h
  rw [h]
  rfl

theorem foldl_groupsOnly {α : Type} {f : State → α → State} (h : ∀ (s : State) a, s.groupsOnly (f s a)) (l : List α) (s : State) :
    s.groupsOnly (l.foldl f s) := by
  induction l generalizing s with
  | nil => rfl
  | cons a l ih => exact (h s a).trans (ih _)

theorem State.setGrp_groupsOnly (s : State) (g : Nat) (v : GroupSt) : s.groupsOnly (s.setGrp g v) := rfl
theorem State.cancel_groupsOnly (s : State) (g k : Nat) : s.groupsOnly (s.cancel g k) := rfl
theorem State.plan_groupsOnly (s : State) (g k t : Nat) (on : Bool) (kind : ChangeKind) : s.groupsOnly (s.plan g k t on kind) := rfl

theorem State.drive_groupsOnly (s : State) (g k : Nat) (on : Bool) (t : Nat) : s.groupsOnly (s.drive g k on t) := by
  unfold State.drive
  dsimp only
  split
  · rfl
  · exact s.setGrp_groupsOnly _ _

theorem State.countTrigger_groupsOnly (s : State) (t g : Nat) (b : Bool) : s.groupsOnly (s.countTrigger t g b) := by
  unfold State.countTrigger
  dsimp only
  split
  · rfl
  · exact s.setGrp_groupsOnly _ _

theorem State.countTriggers_groupsOnly (s : State) (t g : Nat) : s.groupsOnly (s.countTriggers t g) :=
  (s.countTrigger_groupsOnly t g false).trans (State.countTrigger_groupsOnly ..)

theorem State.sw_setSw_same (s : State) (g k : Nat) (v : Switch) : (s.setSw g k v).sw g k = v := by
  rw [State.sw, State.setSw, State.grp_setGrp_same]
  exact SMap.get_set_same ..

theorem State.sw_setSw_ne (s : State) {g k h j : Nat} (v : Switch) (ne : ¬ (h = g ∧ j = k)) : (s.setSw g k v).sw h j = s.sw h j := by
  rw [State.sw, State.setSw]
  by_cases same : h = g
  · subst same
    rw [State.grp_setGrp_same]
    exact SMap.get_set_ne fun hj => ne ⟨rfl, hj⟩
  · rw [State.grp_setGrp_ne _ _ same, State.sw]

theorem State.drive_pend (s : State) (g k : Nat) (on : Bool) (t h j : Nat) : ((s.drive g k on t).sw h j).pend = (s.sw h j).pend := by
  unfold State.drive
  dsimp only
  split
  · rfl
  · by_cases same : h = g ∧ j = k
    · obtain ⟨rfl, rfl⟩ := same
      rw [State.sw_setSw_same]
      cases on <;> rfl
    · rw [State.sw_setSw_ne _ _ same]

/-! ### Ordered changes (R265) -/

/-- What is still to come of an output is a step of an ordered change. -/
def State.orderedAt (s : State) (g k : Nat) : Prop := ∀ c, (s.sw g k).pend = some c → c.kind = .ordered

theorem State.cancel_pend (s : State) (g k : Nat) : ((s.cancel g k).sw g k).pend = none := by rw [State.cancel, State.sw_setSw_same]

theorem State.orderedAt_cancel {k j : Nat} {g h : Nat} (ordered : s.orderedAt h j) : (s.cancel g k).orderedAt h j := by
  intro c hc
  by_cases same : h = g ∧ j = k
  · obtain ⟨rfl, rfl⟩ := same
    rw [State.cancel_pend] at hc
    exact absurd hc (by simp)
  · rw [State.cancel, State.sw_setSw_ne _ _ same] at hc
    exact ordered c hc

/-- A step of an ordered change counts nothing. -/
theorem State.makeChange_ordered (s : State) (g k : Nat) {c : SwChange} (kind : c.kind = .ordered) (t : Nat) (delayed : Bool) :
    s.makeChange g k c t delayed = (s.cancel g k).drive g k c.on t := by
  simp [State.makeChange, kind]

theorem State.makeDue_ordered {g k : Nat} (ordered : s.orderedAt g k) (t : Nat) (on : Bool) :
    s.groupsOnly (s.makeDue g t on k) ∧ ∀ h j, s.orderedAt h j → (s.makeDue g t on k).orderedAt h j := by
  unfold State.makeDue
  split
  · exact ⟨rfl, fun _ _ => id⟩
  · rename_i c pend
    split
    · exact ⟨rfl, fun _ _ => id⟩
    · rename_i e d' _
      split
      · rw [s.makeChange_ordered g k (ordered c pend)]
        refine ⟨(s.cancel_groupsOnly g k).trans (State.drive_groupsOnly ..), fun h j before c' hc => ?_⟩
        rw [State.drive_pend] at hc
        exact State.orderedAt_cancel before c' hc
      · exact ⟨rfl, fun _ _ => id⟩

theorem foldl_makeDue_ordered (g t : Nat) (on : Bool) (ks : List Nat) (s : State) (ordered : ∀ k ∈ ks, s.orderedAt g k) :
    s.groupsOnly ((ks.map fun k => (g, k)).foldl (fun s e => s.makeDue e.1 t on e.2) s) ∧
      ∀ j, s.orderedAt g j → ((ks.map fun k => (g, k)).foldl (fun s e => s.makeDue e.1 t on e.2) s).orderedAt g j := by
  induction ks generalizing s with
  | nil => exact ⟨rfl, fun _ => id⟩
  | cons k ks ih =>
    obtain ⟨only, keeps⟩ := State.makeDue_ordered (ordered k (List.mem_cons_self ..)) t on
    obtain ⟨only', keeps'⟩ := ih (s.makeDue g t on k) fun j hj => keeps g j (ordered j (List.mem_cons_of_mem _ hj))
    exact ⟨only.trans only', fun j hj => keeps' j (keeps g j hj)⟩

theorem State.makeNow_ordered {g : Nat} (ks : List Nat) (ordered : ∀ k ∈ ks, s.orderedAt g k) (t : Nat) :
    s.groupsOnly (s.makeNow (ks.map fun k => (g, k)) t) := by
  obtain ⟨only, keeps⟩ := foldl_makeDue_ordered g t false ks s ordered
  exact only.trans (foldl_makeDue_ordered g t true ks _ fun k hk => keeps k (ordered k hk)).1

theorem State.restTo_ordered (s : State) (g t : Nat) (on : Bool) (k : Nat) : s.groupsOnly (s.restTo g t on k) ∧ (s.restTo g t on k).orderedAt g k ∧
    ∀ j, s.orderedAt g j → (s.restTo g t on k).orderedAt g j := by
  unfold State.restTo
  split
  · exact ⟨rfl, fun c hc => absurd (hc.symm.trans (s.cancel_pend g k)) (by simp), fun j => State.orderedAt_cancel⟩
  · have here : (s.plan g k t on .ordered).orderedAt g k := fun c hc => by
      rw [State.plan, State.sw_setSw_same] at hc
      obtain rfl := Option.some.inj hc
      rfl
    refine ⟨rfl, here, fun j before c hc => ?_⟩
    by_cases same : j = k
    · subst same
      exact here c hc
    · rw [State.plan, State.sw_setSw_ne _ _ fun h => same h.2] at hc
      exact before c hc

theorem foldl_restTo (g t : Nat) (level : State → Nat → Bool) (ks : List Nat) (s : State) :
    s.groupsOnly (ks.foldl (fun s k => s.restTo g t (level s k) k) s) ∧
      (∀ k ∈ ks, (ks.foldl (fun s k => s.restTo g t (level s k) k) s).orderedAt g k) ∧
      ∀ j, s.orderedAt g j → (ks.foldl (fun s k => s.restTo g t (level s k) k) s).orderedAt g j := by
  induction ks generalizing s with
  | nil => exact ⟨rfl, fun _ h => absurd h List.not_mem_nil, fun _ => id⟩
  | cons k ks ih =>
    obtain ⟨only, here, keeps⟩ := s.restTo_ordered g t (level s k) k
    obtain ⟨only', each, keeps'⟩ := ih (s.restTo g t (level s k) k)
    refine ⟨only.trans only', fun j hj => ?_, fun j hj => keeps' j (keeps j hj)⟩
    rcases List.mem_cons.mp hj with rfl | later
    · exact keeps' _ here
    · exact each j later

/-- The ordered change into a rest level changes nothing but what the hub keeps of its groups: it counts nothing. -/
theorem State.enterRest_groupsOnly (s : State) (g st t : Nat) : s.groupsOnly (s.enterRest g st t) := by
  obtain ⟨only, each, _⟩ := foldl_restTo g t (fun s k => s.restLevel g st k) (List.range 6) (s.countTriggers t g)
  exact (((s.countTriggers_groupsOnly t g).trans only).trans (State.makeNow_ordered _ each t)).trans (State.setGrp_groupsOnly ..)

/-! ### States -/

/-- `t` differs from `s` by STATE and WAITING of groups of a list, and by what the hub keeps of the groups. -/
structure State.shownIn (s t : State) (gs : List Nat) : Prop where
  frame : t = { s with objs := t.objs, groups := t.groups }
  same : SameObjs [.pwmgStatus] s t
  fld : ∀ (f : Fld) (h : Nat), f.obj = .pwmgStatus → h < 256 →
    (h ∉ gs ∨ (F.PWMG_STATUS_STATE.apart f ∧ F.PWMG_STATUS_WAITING.apart f)) → t.fld f h = s.fld f h

namespace State.shownIn

theorem of_groupsOnly (h : s.groupsOnly t) (gs : List Nat) : s.shownIn t gs where
  frame := by
    unfold State.groupsOnly at h
    rw [h]
  same := SameObjs.of_objs (by unfold State.groupsOnly at h; rw [h]) _
  fld f g _ _ _ := by
    unfold State.groupsOnly at h
    rw [h]
    rfl

theorem trans {gs : List Nat} (h : s.shownIn t gs) (h' : t.shownIn u gs) : s.shownIn u gs where
  frame := by rw [h'.frame, h.frame]
  same := h.same.trans h'.same
  fld f g obj hg out := (h'.fld f g obj hg out).trans (h.fld f g obj hg out)

theorem mono {gs gs' : List Nat} (h : s.shownIn t gs) (sub : gs ⊆ gs') : s.shownIn t gs' where
  frame := h.frame
  same := h.same
  fld f g obj hg out := h.fld f g obj hg (out.imp_left fun no yes => no (sub yes))

theorem setFld (s : State) {f : Fld} (here : f = F.PWMG_STATUS_STATE ∨ f = F.PWMG_STATUS_WAITING) (v : Nat) {g : Nat} (hg : g < 256) :
    s.shownIn (s.setFld f v g) [g] where
  frame := rfl
  same := by
    rcases here with rfl | rfl
    · exact s.setFld_sameObjs_at F.PWMG_STATUS_STATE v hg (by decide)
    · exact s.setFld_sameObjs_at F.PWMG_STATUS_WAITING v hg (by decide)
  fld f' h obj hh out := by
    have same : f.obj = .pwmgStatus := by rcases here with rfl | rfl <;> rfl
    by_cases inst : h = g
    · subst inst
      obtain ⟨state, waiting⟩ := out.resolve_left fun no => no (List.mem_singleton_self _)
      refine s.fld_setFld_bits v h 0 (obj.trans same.symm) ?_
      rcases here with rfl | rfl
      · exact state.symm.symm
      · exact waiting
    · exact s.fld_setFld_entry v fun key => inst (objKey_inj hh hg (by decide) (by decide) key).2.1

end State.shownIn

/-- STATE and WAITING of a group set. -/
def State.marked (s : State) (g st : Nat) (w : Bool) : State := (s.setFld F.PWMG_STATUS_STATE st g).setBit F.PWMG_STATUS_WAITING w g

theorem State.enterState_groupsOnly (s : State) (g st : Nat) (w : Bool) : (s.marked g st w).groupsOnly (s.enterState g st w) := by
  unfold State.enterState
  dsimp only
  split
  · exact foldl_groupsOnly (fun s k => s.cancel_groupsOnly g k) _ _
  · exact State.enterRest_groupsOnly ..

theorem State.enterState_shown (s : State) {g : Nat} (hg : g < 256) (st : Nat) (w : Bool) : s.shownIn (s.enterState g st w) [g] :=
  ((State.shownIn.setFld s (Or.inl rfl) st hg).trans
    (State.shownIn.setFld (s.setFld F.PWMG_STATUS_STATE st g) (Or.inr rfl) w.toNat hg)).trans (.of_groupsOnly (s.enterState_groupsOnly g st w) _)

/-- Bringing a group into the state its conditions select shows its STATE and WAITING, and nothing else. -/
theorem State.refreshGroup_shown (s : State) {g : Nat} (hg : g < 256) : s.shownIn (s.refreshGroup g) [g] := by
  unfold State.refreshGroup
  dsimp only
  split
  · split
    · exact .of_groupsOnly (State.groupsOnly.refl _) _
    · exact s.enterState_shown hg _ _
  · split
    · exact State.shownIn.setFld s (Or.inr rfl) _ hg
    · exact s.enterState_shown hg _ _

theorem State.enterState_gstate (s : State) {g st : Nat} (small : st < 8) (w : Bool) : (s.enterState g st w).gstate g = st := by
  have kept : (s.marked g st w).fld F.PWMG_STATUS_STATE g = (s.setFld F.PWMG_STATUS_STATE st g).fld F.PWMG_STATUS_STATE g :=
    State.fld_setFld_bits _ _ _ _ rfl (by decide)
  rw [State.gstate, (s.enterState_groupsOnly g st w).fld, kept, State.fld_setFld_same]
  exact Nat.mod_eq_of_lt small

/-- A group that is not to drive does not, once brought into its state. -/
theorem State.refreshGroup_rests {g : Nat} (want : s.wantState g ≠ gDriving) (small : s.wantState g < 8) :
    (s.refreshGroup g).gstate g ≠ gDriving := by
  unfold State.refreshGroup
  dsimp only
  rw [if_neg want]
  split
  · rename_i here
    have stays : (s.setBit F.PWMG_STATUS_WAITING false g).gstate g = s.gstate g := State.fld_setFld_bits _ _ _ _ rfl (by decide)
    rw [stays, here]
    exact want
  · rw [State.enterState_gstate _ small]
    exact want

theorem State.wantState_of_idle {g : Nat} (idle : (s.gangOf g).any s.heldIdle = true) : s.wantState g ≠ gDriving ∧ s.wantState g < 8 := by
  unfold State.wantState
  rw [idle]
  split
  · decide
  · split
    · decide
    · split
      · decide
      · rw [if_pos (Bool.or_true _)]
        decide

/-- A group acts as one with itself. -/
theorem State.self_mem_gangOf (s : State) {g : Nat} (hg : g < 32) : g ∈ s.gangOf g := by
  unfold State.gangOf
  split
  · rename_i gang
    simp [hg, gang]
  · split
    · simp only [outerOf, innerOf, List.mem_cons, List.not_mem_nil, or_false]
      omega
    · exact List.mem_singleton_self _

theorem State.gangOf_lt (s : State) {g h : Nat} (hg : g < 32) (mem : h ∈ s.gangOf g) : h < 32 := by
  unfold State.gangOf at mem
  split at mem
  · exact List.mem_range.mp (List.mem_filter.mp mem).1
  · split at mem
    · simp only [outerOf, innerOf, List.mem_cons, List.not_mem_nil, or_false] at mem
      omega
    · rw [List.mem_singleton.mp mem]
      exact hg

theorem State.mem_gangOrder (s : State) (g h : Nat) : h ∈ s.gangOrder g ↔ h ∈ s.gangOf g := by
  simp only [State.gangOrder, List.mem_append, List.mem_filter, beq_iff_eq]
  refine ⟨fun h => h.elim And.left And.left, fun mem => ?_⟩
  rcases Nat.mod_two_eq_zero_or_one h with even | odd
  · exact Or.inr ⟨mem, even⟩
  · exact Or.inl ⟨mem, odd⟩

theorem State.heldIdle_of_disabled {g : Nat} (disabled : s.bit F.PWMG_CTRL_EN g = false) : s.heldIdle g = true := by
  simp [State.heldIdle, disabled]

/-- Bringing groups into their states leaves a group of them that is disabled at rest. -/
theorem State.refresh_list (gs : List Nat) (small : ∀ h ∈ gs, h < 256) (s : State) :
    s.shownIn (gs.foldl State.refreshGroup s) gs ∧
      ∀ g < 32, s.bit F.PWMG_CTRL_EN g = false → (g ∈ gs ∨ s.gstate g ≠ gDriving) → (gs.foldl State.refreshGroup s).gstate g ≠ gDriving := by
  induction gs generalizing s with
  | nil => exact ⟨.of_groupsOnly (State.groupsOnly.refl _) _, fun g _ _ h => h.resolve_left List.not_mem_nil⟩
  | cons h gs ih =>
    have hh := small h (List.mem_cons_self ..)
    have first := s.refreshGroup_shown hh
    obtain ⟨shown, rests⟩ := ih (fun k hk => small k (List.mem_cons_of_mem _ hk)) (s.refreshGroup h)
    refine ⟨(first.mono (by simp)).trans (shown.mono (List.subset_cons_self ..)), fun g hg disabled place => ?_⟩
    refine rests g hg ?_ ?_
    · rw [first.same.bit (by decide) (by omega), disabled]
    · by_cases here : g = h
      · subst here
        obtain ⟨want, low⟩ := State.wantState_of_idle (s := s) (g := g)
          (List.any_eq_true.mpr ⟨g, s.self_mem_gangOf hg, State.heldIdle_of_disabled disabled⟩)
        exact Or.inr (State.refreshGroup_rests want low)
      · rcases place with mem | idle
        · exact Or.inl ((List.mem_cons.mp mem).resolve_left here)
        · refine Or.inr ?_
          rw [State.gstate, first.fld F.PWMG_STATUS_STATE g rfl (by omega) (Or.inl fun mem => here (List.mem_singleton.mp mem))]
          exact idle

theorem State.refreshGang_shown (s : State) {g : Nat} (hg : g < 32) : s.shownIn (s.refreshGang g) (s.gangOf g) :=
  (State.refresh_list _ (fun h mem => by have := s.gangOf_lt hg ((s.mem_gangOrder g h).mp mem); omega) s).1.mono
    fun _ mem => (s.mem_gangOrder g _).mp mem

theorem State.refreshGang_rests (s : State) {g : Nat} (hg : g < 32) (disabled : s.bit F.PWMG_CTRL_EN g = false) :
    (s.refreshGang g).gstate g ≠ gDriving :=
  (State.refresh_list _ (fun h mem => by have := s.gangOf_lt hg ((s.mem_gangOrder g h).mp mem); omega) s).2 g hg disabled
    (Or.inl ((s.mem_gangOrder g g).mpr (s.self_mem_gangOf hg)))

end

end Sys2Proof.Machine
end

section
/-! The statement of the PWM groups' controls (R253, R258 to R264, R457). -/

set_option Elab.async false

namespace Sys2Proof.Machine

section
variable {s t u b v : State} {src : Src} {d : Desc} {host : Nat}

/-! ### PWMG.CTRL -/

abbrev ctrlWr (g data : Nat) : Wr := wrOf .pwmgCtrl g 0 1 data

theorem pwmCtrl_id (g : Fin 32) : objOf (0x2002 + 64 * g.val) = some .pwmgCtrl ∧ instOf? (0x2002 + 64 * g.val) .pwmgCtrl = some g.val := by
  decide +revert +kernel

/-- What a write of PWMG.CTRL asks for. -/
def Wr.controls (w : Wr) (en tripClr cntClr : Bool) : Prop :=
  w.reserved = false ∧ (w.act F.PWMG_CTRL_EN != 0) = en ∧ w.actBit F.PWMG_CTRL_TRIP_CLR = tripClr ∧ w.actBit F.PWMG_CTRL_CNT_CLR = cntClr

theorem ctrlWr_controls (g : Nat) (en : Bool) : (ctrlWr g en.toNat).controls en false false ∧ (ctrlWr g (en.toNat + 0x02)).controls en true false ∧
    (ctrlWr g (en.toNat + 0x04)).controls en false true :=
  show (ctrlWr 0 en.toNat).controls en false false ∧ (ctrlWr 0 (en.toNat + 0x02)).controls en true false ∧
    (ctrlWr 0 (en.toNat + 0x04)).controls en false true by unfold Wr.controls; decide +revert +kernel

theorem ctrlWr_covered (g data : Nat) : getBits ((ctrlWr g data).covered 0) 0 1 = 2 ^ 1 - 1 :=
  show getBits ((ctrlWr 0 0).covered 0) 0 1 = 2 ^ 1 - 1 by decide +kernel

theorem State.objEffect_pwmCtrl (t : State) {g data : Nat} {en tripClr cntClr : Bool} (controls : (ctrlWr g data).controls en tripClr cntClr)
    (ref : CmdRef) : t.objEffect (ctrlWr g data) 0 ref 0 = answer (t.pwmCtrl g en tripClr cntClr) := by
  obtain ⟨-, hen, htrip, hcnt⟩ := controls
  have effect : t.objEffect (ctrlWr g data) 0 ref 0 = answer (t.pwmCtrl g ((ctrlWr g data).newFld t F.PWMG_CTRL_EN != 0)
    ((ctrlWr g data).actBit F.PWMG_CTRL_TRIP_CLR) ((ctrlWr g data).actBit F.PWMG_CTRL_CNT_CLR)) := rfl
  rw [effect, Wr.newFld_covered rfl (ctrlWr_covered g data), hen, htrip, hcnt]

/-- The cause of a trip is read from objects and inputs that a descriptor's own bookkeeping leaves alone. -/
theorem Begun.tripCause (h : Begun s src d host b) (g : Fin 32) : b.tripCause g.val = s.tripCause g.val := by
  have nth : ∀ (f : Fld) (n i : Nat), f.obj ∉ [Obj.hifRingApplied, .hifRingState] → i < 256 → b.nth f n i = s.nth f n i := fun f n i out hi => by
    rw [State.nth, State.nth, h.same.fld out hi]
  have sds : ∀ i, b.sds i = s.sds i := fun i => by rw [State.sds, h.sd, State.sds]
  simp only [State.tripCause, sds]
  congr 1
  · exact any_range_congr fun n _ => by rw [nth F.PWMG_CFG_TRIP_MASK n g.val (by decide) (by omega), nth F.PWM_TRIPIN_LIVE n 0 (by decide) (by decide)]
  · exact any_range_congr fun i hi => by rw [nth F.CS_OC_TRIP_MASK g.val i (by decide) (by omega)]

section
variable {g : Fin 32} {data : Nat} {en tripClr cntClr : Bool}

theorem Begun.ctrl_ends (h : Begun s src (wrDesc src (0x2002 + 64 * g.val) 0 1 data) data b) (running : s.per.running = true)
    (loop : s.loopMode = true) (free : s.fenced (.pwm g.val) = false) (controls : (ctrlWr g.val data).controls en tripClr cntClr) {t : State}
    {r : Result} (acts : b.pwmCtrl g.val en tripClr cntClr = (t, r)) (per : t.per = b.per) (hub : t.host = b.host) :
    s.runWrite src (0x2002 + 64 * g.val) 0 1 data = .next (s.actedTo src (wrDesc src (0x2002 + 64 * g.val) 0 1 data) data b t r) ∧
      (s.actedTo src (wrDesc src (0x2002 + 64 * g.val) 0 1 data) data b t r).endedWith src r.status := by
  refine h.write_ends running (pwmCtrl_id g) ?_ ?_ ?_
  · rw [State.objWrite_of_allowed controls.1 (State.writeAllowed_loops rfl (Obj.noConfusion ·) (by rw [h.loopMode, loop]))
      ((State.writeFenced_block rfl).trans (if_neg (Bool.eq_false_iff.mp ((h.fenced _).trans free))))]
    exact (State.objEffect_pwmCtrl b controls _).trans (by rw [acts]; rfl)
  · rw [per, h.running, running]
  · exact State.carries_of_cmds h.carries (by rw [hub])

end

/-! ### What the three writes change -/

/-- EN of a group set, and the counters and flags a write clears. -/
def State.ctrlSet (s : State) (g : Nat) (en tripClr cntClr : Bool) : State :=
  let s1 := s.setBit F.PWMG_CTRL_EN en g
  let s2 := if tripClr then (s1.setBit F.PWMG_STATUS_TRIPPED false g).setFld F.PWMG_STATUS_TRIP_SRC 0xFF g else s1
  if cntClr then s2.zeroFlds g [F.PWMG_STATUS_PULSE_EATEN, F.PWMG_STATUS_PULSE_HELD, F.PWMG_STATUS_LATE_CNT, F.PWMG_STATUS_DISCARDED,
    F.PWMG_STATUS_EATEN_SAT, F.PWMG_STATUS_HELD_SAT, F.PWMG_STATUS_LATE_SAT, F.PWMG_STATUS_DISC_SAT, F.PWMG_STATUS_BADCMD] else s2

theorem State.pwmCtrl_eq (s : State) (g : Nat) (en tripClr cntClr : Bool) : s.pwmCtrl g en tripClr cntClr =
    if tripClr && s.tripCause g then (s, refused 0x1) else ((s.ctrlSet g en tripClr cntClr).refreshGang g, done) := rfl

theorem State.ctrlSet_objsOnly (s : State) (g : Nat) (en tripClr cntClr : Bool) : s.objsOnly (s.ctrlSet g en tripClr cntClr) := by
  cases tripClr <;> cases cntClr
  · exact rfl
  · exact (s.setBit_objsOnly ..).trans (State.zeroFlds_objsOnly ..)
  · exact rfl
  · exact (((s.setBit_objsOnly ..).trans (State.setBit_objsOnly ..)).trans (State.setFld_objsOnly ..)).trans (State.zeroFlds_objsOnly ..)

theorem State.setFld_sameObjs_of (s : State) {f : Fld} {os : List Obj} (mem : f.obj ∈ os) (x : Nat) {i : Nat} (hi : i < 256) :
    SameObjs os s (s.setFld f x i) := (s.setFld_sameObjs_at f x hi (by decide)).mono (by simpa using mem)

theorem State.ctrlSet_sameObjs (s : State) {g : Nat} (hg : g < 256) (en tripClr cntClr : Bool) :
    SameObjs [.pwmgCtrl, .pwmgStatus] s (s.ctrlSet g en tripClr cntClr) := by
  have first : SameObjs [.pwmgCtrl, .pwmgStatus] s (s.setBit F.PWMG_CTRL_EN en g) := s.setFld_sameObjs_of (by decide) _ hg
  have trip : ∀ t : State, SameObjs [.pwmgCtrl, .pwmgStatus] t ((t.setBit F.PWMG_STATUS_TRIPPED false g).setFld F.PWMG_STATUS_TRIP_SRC 0xFF g) := fun t =>
    (t.setFld_sameObjs_of (f := F.PWMG_STATUS_TRIPPED) (by decide) _ hg).trans (State.setFld_sameObjs_of _ (f := F.PWMG_STATUS_TRIP_SRC) (by decide) _ hg)
  have zero : ∀ t : State, SameObjs [.pwmgCtrl, .pwmgStatus] t (t.zeroFlds g [F.PWMG_STATUS_PULSE_EATEN, F.PWMG_STATUS_PULSE_HELD,
      F.PWMG_STATUS_LATE_CNT, F.PWMG_STATUS_DISCARDED, F.PWMG_STATUS_EATEN_SAT, F.PWMG_STATUS_HELD_SAT, F.PWMG_STATUS_LATE_SAT,
      F.PWMG_STATUS_DISC_SAT, F.PWMG_STATUS_BADCMD]) := fun t =>
    (t.zeroFlds_sameObjs (o := .pwmgStatus) hg _ (by decide)).mono (by decide)
  cases tripClr <;> cases cntClr
  · exact first
  · exact first.trans (zero _)
  · exact first.trans (trip _)
  · exact (first.trans (trip _)).trans (zero _)

/-- The group after a write that is not refused, brought with its gang into the states they select. -/
def State.ctrlDone (s : State) (g : Nat) (en tripClr cntClr : Bool) : State := (s.ctrlSet g en tripClr cntClr).refreshGang g

section
variable {g : Nat} (hg : g < 32) (en tripClr cntClr : Bool)
include hg

theorem State.ctrlDone_frame (s : State) : s.ctrlDone g en tripClr cntClr =
    { s with objs := (s.ctrlDone g en tripClr cntClr).objs, groups := (s.ctrlDone g en tripClr cntClr).groups } := by
  have shown := (s.ctrlSet g en tripClr cntClr).refreshGang_shown hg
  have only := s.ctrlSet_objsOnly g en tripClr cntClr
  unfold State.ctrlDone
  rw [shown.frame, only]

theorem State.ctrlDone_en (s : State) : (s.ctrlDone g en tripClr cntClr).bit F.PWMG_CTRL_EN g = en ∧
    ∀ h < 32, h ≠ g → (s.ctrlDone g en tripClr cntClr).bit F.PWMG_CTRL_EN h = s.bit F.PWMG_CTRL_EN h := by
  have shown := ((s.ctrlSet g en tripClr cntClr).refreshGang_shown hg).same
  have rest : SameObjs [.pwmgStatus] (s.setBit F.PWMG_CTRL_EN en g) (s.ctrlSet g en tripClr cntClr) := by
    have trip : ∀ t : State, SameObjs [.pwmgStatus] t ((t.setBit F.PWMG_STATUS_TRIPPED false g).setFld F.PWMG_STATUS_TRIP_SRC 0xFF g) := fun t =>
      (t.setFld_sameObjs_of (f := F.PWMG_STATUS_TRIPPED) (by decide) _ (by omega)).trans
        (State.setFld_sameObjs_of _ (f := F.PWMG_STATUS_TRIP_SRC) (by decide) _ (by omega))
    cases tripClr <;> cases cntClr
    · exact SameObjs.refl _ _
    · exact State.zeroFlds_sameObjs _ (by omega) _ (by decide)
    · exact trip _
    · exact (trip _).trans (State.zeroFlds_sameObjs _ (by omega) _ (by decide))
  have all := rest.trans shown
  refine ⟨?_, fun h hh ne => ?_⟩
  · rw [State.ctrlDone, all.bit (by decide) (by omega)]
    exact State.bit_setBit_same _ _ _ _ _ rfl
  · rw [State.ctrlDone, all.bit (by decide) (by omega), State.bit, State.bit]
    exact congrArg (· != 0) (s.fld_setFld_entry _ fun key => ne (objKey_inj (by omega) (by omega) (by decide) (by decide) key).2.1)

/-- Fields of PWMG.STATUS but STATE and WAITING stand as the write has set them. -/
theorem State.ctrlDone_status (s : State) (f : Fld) (obj : f.obj = .pwmgStatus)
    (apart : F.PWMG_STATUS_STATE.apart f ∧ F.PWMG_STATUS_WAITING.apart f) :
    (s.ctrlDone g en tripClr cntClr).fld f g = (s.ctrlSet g en tripClr cntClr).fld f g :=
  ((s.ctrlSet g en tripClr cntClr).refreshGang_shown hg).fld f g obj (by omega) (Or.inr apart)

end

theorem State.setEn_status (s : State) {g : Nat} (hg : g < 256) (en : Bool) {f : Fld} (obj : f.obj = .pwmgStatus) {h : Nat} (hh : h < 256) :
    (s.setBit F.PWMG_CTRL_EN en g).fld f h = s.fld f h :=
  (s.setFld_sameObjs_at F.PWMG_CTRL_EN en.toNat hg (by decide)).fld (by rw [obj]; decide) hh

theorem State.ctrlDone_gstate (s : State) {g : Nat} (hg : g < 32) (en : Bool) : (en = false → (s.ctrlDone g en false false).gstate g ≠ gDriving) ∧
    ∀ h < 32, h ∉ s.gangOf g → (s.ctrlDone g en false false).gstate h = s.gstate h := by
  have gang : (s.ctrlSet g en false false).gangOf g = s.gangOf g := by
    have same := s.ctrlSet_sameObjs (g := g) (by omega) en false false
    have cfg : ∀ (f : Fld) (h : Nat), f.obj = .pwmgCfg → h < 256 → (s.ctrlSet g en false false).fld f h = s.fld f h :=
      fun f h obj hh => same.fld (by rw [obj]; decide) hh
    simp only [State.gangOf, State.threeLevel, State.gkind, State.bit, cfg F.PWMG_CFG_GANG_EN g rfl (by omega), cfg F.PWMG_CFG_LEAD g rfl (by omega),
      cfg F.PWMG_CFG_KIND g rfl (by omega)]
    congr 1
    refine List.filter_congr fun h hh => ?_
    have := List.mem_range.mp hh
    rw [cfg F.PWMG_CFG_GANG_EN h rfl (by omega), cfg F.PWMG_CFG_LEAD h rfl (by omega)]
  refine ⟨fun off => ?_, fun h hh out => ?_⟩
  · subst off
    have disabled : (s.ctrlSet g false false false).bit F.PWMG_CTRL_EN g = false := s.bit_setBit_same F.PWMG_CTRL_EN false g 0 rfl
    rw [State.ctrlDone]
    exact State.refreshGang_rests _ hg disabled
  · have shown := (s.ctrlSet g en false false).refreshGang_shown hg
    rw [gang] at shown
    have set : (s.ctrlSet g en false false).fld F.PWMG_STATUS_STATE h = s.fld F.PWMG_STATUS_STATE h := s.setEn_status (by omega) en rfl (by omega)
    rw [State.ctrlDone, State.gstate, shown.fld F.PWMG_STATUS_STATE h rfl (by omega) (Or.inl out), set, State.gstate]

theorem State.ctrlSet_trip (s : State) (g : Nat) (hg : g < 256) (en : Bool) : (s.ctrlSet g en true false).fld F.PWMG_STATUS_TRIPPED g = 0 ∧
    (s.ctrlSet g en true false).fld F.PWMG_STATUS_TRIP_SRC g = 0xFF ∧
    (s.ctrlSet g en true false).fld F.PWMG_STATUS_TRIP_TIME g = s.fld F.PWMG_STATUS_TRIP_TIME g := by
  have set : s.ctrlSet g en true false = ((s.setBit F.PWMG_CTRL_EN en g).setFld F.PWMG_STATUS_TRIPPED 0 g).setFld F.PWMG_STATUS_TRIP_SRC 0xFF g := rfl
  have status := fun f obj => s.setEn_status hg en (f := f) obj hg
  rw [set]
  generalize s.setBit F.PWMG_CTRL_EN en g = v at status
  refine ⟨?_, State.fld_setFld_same .., ?_⟩
  · rw [State.fld_setFld_bits (f := F.PWMG_STATUS_TRIP_SRC) (g := F.PWMG_STATUS_TRIPPED) _ _ _ _ rfl (by decide), State.fld_setFld_same]
    rfl
  · rw [State.fld_setFld_bits (f := F.PWMG_STATUS_TRIP_SRC) (g := F.PWMG_STATUS_TRIP_TIME) _ _ _ _ rfl (by decide),
      State.fld_setFld_bits (f := F.PWMG_STATUS_TRIPPED) (g := F.PWMG_STATUS_TRIP_TIME) _ _ _ _ rfl (by decide), status _ rfl]

theorem State.zeroFlds_apart (s : State) {o : Obj} (i : Nat) (fs : List Fld) (h : ∀ f ∈ fs, f.obj = o) {g : Fld} (hg : g.obj = o)
    (apart : ∀ f ∈ fs, f.apart g) : (s.zeroFlds i fs).fld g i = s.fld g i := by
  induction fs generalizing s with
  | nil => rfl
  | cons f fs ih =>
    exact (ih (s.setFld f 0 i) (fun x hx => h x (List.mem_cons_of_mem _ hx)) fun x hx => apart x (List.mem_cons_of_mem _ hx)).trans
      (s.fld_setFld_bits 0 i 0 (hg.trans (h f (List.mem_cons_self ..)).symm) (apart f (List.mem_cons_self ..)))

end

end Sys2Proof.Machine
end

section
/-! Trips of the PWM groups: what they change (R253, R260 to R263). -/

set_option Elab.async false

namespace Sys2Proof.Machine

section
variable {s t u : State}

/-- `t` differs from `s` by PWMG.STATUS, by what the hub keeps of the groups, and by the messages on their way. -/
structure State.trippedInto (s t : State) : Prop where
  frame : t = { s with objs := t.objs, groups := t.groups, msgs := t.msgs }
  same : SameObjs [.pwmgStatus] s t

namespace State.trippedInto

theorem refl (s : State) : s.trippedInto s := ⟨rfl, SameObjs.refl _ _⟩

theorem trans (h : s.trippedInto t) (h' : t.trippedInto u) : s.trippedInto u :=
  ⟨by rw [h'.frame, h.frame], h.same.trans h'.same⟩

theorem of_shownIn {gs : List Nat} (h : s.shownIn t gs) : s.trippedInto t := ⟨by rw [h.frame], h.same⟩

theorem setFld (s : State) {f : Fld} (obj : f.obj = .pwmgStatus) (x : Nat) {g : Nat} (hg : g < 256) : s.trippedInto (s.setFld f x g) :=
  ⟨rfl, s.setFld_sameObjs_of (by rw [obj]; decide) x hg⟩

theorem setBit (s : State) {f : Fld} (obj : f.obj = .pwmgStatus) (x : Bool) {g : Nat} (hg : g < 256) : s.trippedInto (s.setBit f x g) :=
  setFld s obj _ hg

theorem send (s : State) (m : Msg) : s.trippedInto (s.send m) := ⟨rfl, SameObjs.of_objs rfl _⟩

theorem foldl {α : Type} {f : State → α → State} (l : List α) (h : ∀ (s : State), ∀ a ∈ l, s.trippedInto (f s a)) (s : State) :
    s.trippedInto (l.foldl f s) := by
  induction l generalizing s with
  | nil => exact refl s
  | cons a l ih => exact (h s a (List.mem_cons_self ..)).trans (ih (fun s x hx => h s x (List.mem_cons_of_mem _ hx)) _)

theorem forRange {n : Nat} {f : State → Nat → State} (h : ∀ (s : State), ∀ k < n, s.trippedInto (f s k)) (s : State) :
    s.trippedInto (s.forRange n f) := foldl _ (fun s k hk => h s k (List.mem_range.mp hk)) s

end State.trippedInto

theorem State.refreshGroups_trippedInto (s : State) : s.trippedInto s.refreshGroups :=
  (State.trippedInto.forRange (fun t k hk => .of_shownIn (t.refreshGroup_shown (show 2 * k + 1 < 256 by omega))) s).trans
    (State.trippedInto.forRange (fun t k hk => .of_shownIn (t.refreshGroup_shown (show 2 * k < 256 by omega))) _)

theorem State.latchTrip_trippedInto (s : State) {g : Nat} (hg : g < 256) (src time : Nat) : s.trippedInto (s.latchTrip g src time) := by
  unfold State.latchTrip
  split
  · exact .refl s
  · exact ((State.trippedInto.setBit s rfl _ hg).trans (.setFld _ rfl _ hg)).trans (.setFld _ rfl _ hg)

theorem State.tripGroups_trippedInto (s : State) {gs : List Nat} (small : ∀ g ∈ gs, g < 32) (src time : Nat) :
    s.trippedInto (s.tripGroups gs src time) := by
  have each : ∀ (src : Nat) (l : List Nat) (t : State), (∀ g ∈ l, g < 32) → t.trippedInto (l.foldl (fun s g => s.latchTrip g src time) t) :=
    fun src l t h => State.trippedInto.foldl l (fun t g hg => t.latchTrip_trippedInto (by have := h g hg; omega) src time) t
  have all : ∀ g ∈ gs.flatMap s.gangOf, g < 32 := fun g hg => by
    obtain ⟨h, hh, mem⟩ := List.mem_flatMap.mp hg
    exact s.gangOf_lt (small h hh) mem
  unfold State.tripGroups
  dsimp only
  split
  · exact (each src gs s small).trans (each 0x80 _ _ all)
  · exact ((each src gs s small).trans (each 0x80 _ _ all)).trans (State.refreshGroups_trippedInto _)

theorem State.tripInput_trippedInto (s : State) (n time : Nat) {gs : List Nat} (small : ∀ g ∈ gs, g < 32) :
    s.trippedInto (s.tripInput n time gs) := by
  unfold State.tripInput
  dsimp only
  split
  · exact s.tripGroups_trippedInto small n time
  · exact (s.tripGroups_trippedInto small n time).trans (State.trippedInto.send _ _)

theorem State.tripTargets_lt (s : State) {n g : Nat} (mem : g ∈ s.tripTargets n) : g < 32 :=
  List.mem_range.mp (List.mem_filter.mp mem).1

theorem State.tripNamed_trippedInto (s : State) : s.trippedInto s.tripNamed := by
  refine State.trippedInto.forRange (fun t n _ => ?_) s
  split
  · exact t.tripInput_trippedInto n _ fun g hg => t.tripTargets_lt (List.mem_filter.mp hg).1
  · exact .refl t

/-! ### The filters of the trip inputs settle (R260, R261) -/

theorem State.nth_setNth_ne (s : State) {f : Fld} {n m : Nat} (x : Bool) (i e : Nat) (ne : m ≠ n) : (s.setNth f n x i e).nth f m i e = s.nth f m i e := by
  have low : s.fld f i e < 2 ^ f.width := s.fld_lt f i e
  simp only [State.nth, State.setNth, State.fld_setFld_same, Nat.testBit_mod_two_pow, testBit_putBits]
  rw [if_neg (by omega)]
  by_cases inside : m < f.width
  · simp [inside]
  · simp [inside, Nat.testBit_lt_two_pow (low.trans_le (Nat.pow_le_pow_right (by decide) (by omega : f.width ≤ m)))]

theorem State.setNth_now (s : State) (f : Fld) (n : Nat) (x : Bool) : (s.setNth f n x).now = s.now := rfl

theorem State.fld_setNth_apart (s : State) {f g : Fld} (n : Nat) (x : Bool) (obj : g.obj = f.obj) (apart : f.apart g) :
    (s.setNth f n x).fld g 0 0 = s.fld g 0 0 := s.fld_setFld_bits _ _ _ obj apart

/-- What the first `k` inputs show once their filters have settled on the lands. -/
structure State.settledTo (s t : State) (lands k : Nat) : Prop where
  frame : t = { s with objs := t.objs, msgs := t.msgs }
  same : SameObjs [.pwmTripin] s t
  actHigh : t.fld F.PWM_TRIPIN_ACT_HIGH 0 0 = s.fld F.PWM_TRIPIN_ACT_HIGH 0 0
  filter : t.fld F.PWM_TRIPIN_FILTER 0 0 = s.fld F.PWM_TRIPIN_FILTER 0 0
  live : ∀ n < k, t.nth F.PWM_TRIPIN_LIVE n = (lands.testBit n == s.nth F.PWM_TRIPIN_ACT_HIGH n)

/-- One input settles. -/
def State.settleTrip (s : State) (lands n : Nat) : State :=
  if lands.testBit n == s.nth F.PWM_TRIPIN_ACT_HIGH n then s.setNth F.PWM_TRIPIN_LIVE n true else s.tripInactive n

theorem State.settleTrip_eq (s : State) (lands : Nat) {n : Nat} (hn : n < 32) (runs : s.boot.resetLow = false) :
    ∃ t, (t = s ∨ t = s.setNth F.PWM_TRIPIN_LIVE n (lands.testBit n == s.nth F.PWM_TRIPIN_ACT_HIGH n)) ∧
      (s.settleTrip lands n = t ∨ ∃ m, s.settleTrip lands n = t.send m) ∧
      t.nth F.PWM_TRIPIN_LIVE n = (lands.testBit n == s.nth F.PWM_TRIPIN_ACT_HIGH n) := by
  unfold State.settleTrip State.tripInactive
  cases active : (lands.testBit n == s.nth F.PWM_TRIPIN_ACT_HIGH n)
  · cases live : s.nth F.PWM_TRIPIN_LIVE n
    · exact ⟨s, Or.inl rfl, Or.inl (by simp), live⟩
    · refine ⟨s.setNth F.PWM_TRIPIN_LIVE n false, Or.inr rfl,
        Or.inr ⟨{ source := sourceNo K.TRIP_INPUT n, on := false, off := true, stamp := s.now }, ?_⟩, s.nth_setNth_same _ _ _ _ _ hn⟩
      rw [if_neg (by decide), runs, if_pos (by decide), State.clearLive, State.setNth_now]
  · exact ⟨s.setNth F.PWM_TRIPIN_LIVE n true, Or.inr rfl, Or.inl (if_pos rfl), s.nth_setNth_same _ _ _ _ _ hn⟩

theorem State.settleTrip_settled {lands k : Nat} (hk : k < 32) (runs : s.boot.resetLow = false) (h : s.settledTo t lands k) :
    s.settledTo (t.settleTrip lands k) lands (k + 1) := by
  obtain ⟨v, made, sent, live⟩ := t.settleTrip_eq lands hk (by rw [h.frame]; exact runs)
  have act : t.nth F.PWM_TRIPIN_ACT_HIGH k = s.nth F.PWM_TRIPIN_ACT_HIGH k := by rw [State.nth, h.actHigh, State.nth]
  rw [act] at made live
  have settled : s.settledTo v lands (k + 1) := by
    rcases made with rfl | rfl
    · refine { h with live := fun n hn => ?_ }
      by_cases last : n = k
      · rw [last, live]
      · exact h.live n (by omega)
    · refine ⟨?_, h.same.trans (t.setFld_sameObjs_at F.PWM_TRIPIN_LIVE _ (by decide) (by decide)), ?_, ?_, fun n hn => ?_⟩
      · rw [h.frame]
        rfl
      · rw [t.fld_setNth_apart (f := F.PWM_TRIPIN_LIVE) (g := F.PWM_TRIPIN_ACT_HIGH) _ _ rfl (by unfold Fld.apart; decide), h.actHigh]
      · rw [t.fld_setNth_apart (f := F.PWM_TRIPIN_LIVE) (g := F.PWM_TRIPIN_FILTER) _ _ rfl (by unfold Fld.apart; decide), h.filter]
      · by_cases last : n = k
        · rw [last, live]
        · rw [State.nth_setNth_ne _ _ _ _ last]
          exact h.live n (by omega)
  rcases sent with same | ⟨m, same⟩
  · rw [same]
    exact settled
  · rw [same]
    exact ⟨by rw [settled.frame]; rfl, settled.same.trans (SameObjs.of_objs rfl _), settled.actHigh, settled.filter, settled.live⟩

theorem State.settleTrips_settled (lands : Nat) (runs : s.boot.resetLow = false) :
    ∃ u, s.settledTo u lands 32 ∧ s.settleTrips lands = u.tripNamed := by
  have steps : ∀ k ≤ 32, s.settledTo (s.forRange k fun s n => s.settleTrip lands n) lands k := by
    intro k
    induction k with
    | zero => exact fun _ => ⟨rfl, SameObjs.refl _ _, rfl, rfl, fun n hn => absurd hn (by omega)⟩
    | succ k ih =>
      intro hk
      rw [State.forRange_succ]
      exact State.settleTrip_settled (by omega) runs (ih (by omega))
  exact ⟨_, steps 32 (Nat.le_refl _), rfl⟩

end

end Sys2Proof.Machine
end

section
/-! The statement of the PWM groups' controls (R253, R258 to R264, R457). -/

set_option Elab.async false

namespace Sys2Proof.Machine

section
variable {s b : State} {src : Src} {d : Desc} {host : Nat}

theorem exec_pwmEn (src : Src) (g : Fin 32) (en : Bool) (s : State) :
    exec (.pwmEn src g en) s = s.runWrite src (0x2002 + 64 * g.val) 0 1 en.toNat := rfl
theorem exec_tripClr (src : Src) (g : Fin 32) (en : Bool) (s : State) :
    exec (.tripClr src g en) s = s.runWrite src (0x2002 + 64 * g.val) 0 1 (en.toNat + 0x02) := rfl
theorem exec_pwmCntClr (src : Src) (g : Fin 32) (en : Bool) (s : State) :
    exec (.pwmCntClr src g en) s = s.runWrite src (0x2002 + 64 * g.val) 0 1 (en.toNat + 0x04) := rfl
theorem exec_pwmAuxWrite (src : Src) (g : Fin 32) (v : Fin (2 ^ 112)) (s : State) :
    exec (.pwmAuxWrite src g v) s = s.runWrite src (0x2001 + 64 * g.val) 0 14 v.val := rfl

theorem State.acted_gstate (b t : State) (r : Result) (g : Nat) : (s.actedTo src d host b t r).gstate g = t.gstate g := by
  rw [State.gstate, State.acted_fld, State.gstate]

section
variable {g : Fin 32} {en : Bool} (running : s.per.running = true) (loop : s.loopMode = true) (free : s.fenced (.pwm g.val) = false)
include running loop free

theorem pwmEn_sets (acts : s.atApplication src (wrDesc src (0x2002 + 64 * g.val) 0 1 en.toNat) en.toNat = true) :
    ∃ t, exec (.pwmEn src g en) s = .next t ∧ t.endedWith src 0x00 ∧ t.bit F.PWMG_CTRL_EN g.val = en ∧
      (en = false → t.gstate g.val ≠ gDriving) ∧
      ∀ h < 32, h ≠ g.val → t.bit F.PWMG_CTRL_EN h = s.bit F.PWMG_CTRL_EN h ∧ (h ∉ s.gangOf g.val → t.gstate h = s.gstate h) := by
  obtain ⟨b, h⟩ := begun_of acts
  have frame := b.ctrlDone_frame g.isLt en false false
  obtain ⟨set, others⟩ := State.ctrlDone_en g.isLt en false false b
  obtain ⟨rests, apart⟩ := b.ctrlDone_gstate g.isLt en
  have acted := b.pwmCtrl_eq g.val en false false
  rw [if_neg (by simp), ← State.ctrlDone] at acted
  obtain ⟨runs, ended⟩ := h.ctrl_ends running loop free (ctrlWr_controls g.val en).1 acted (by rw [frame]) (by rw [frame])
  have gang : b.gangOf g.val = s.gangOf g.val := by
    have cfg : ∀ (f : Fld) (k : Nat), f.obj = .pwmgCfg → k < 256 → b.fld f k = s.fld f k := fun f k obj hk => h.same.fld (by rw [obj]; decide) hk
    simp only [State.gangOf, State.threeLevel, State.gkind, State.bit, cfg F.PWMG_CFG_GANG_EN g.val rfl (by omega),
      cfg F.PWMG_CFG_LEAD g.val rfl (by omega), cfg F.PWMG_CFG_KIND g.val rfl (by omega)]
    congr 1
    refine List.filter_congr fun k hk => ?_
    have := List.mem_range.mp hk
    rw [cfg F.PWMG_CFG_GANG_EN k rfl (by omega), cfg F.PWMG_CFG_LEAD k rfl (by omega)]
  refine ⟨_, runs, ended, (State.acted_bit ..).trans set, fun off => ?_, fun k hk ne => ⟨?_, fun out => ?_⟩⟩
  · rw [State.acted_gstate]
    exact rests off
  · rw [State.acted_bit, others k hk ne, h.same.bit (by decide) (by omega)]
  · rw [State.acted_gstate, apart k hk (by rw [gang]; exact out), State.gstate, h.same.fld (by decide) (by omega), State.gstate]

theorem tripClr_clears (acts : s.atApplication src (wrDesc src (0x2002 + 64 * g.val) 0 1 (en.toNat + 0x02)) (en.toNat + 0x02) = true) :
    (s.tripCause g.val = true → ∃ t, exec (.tripClr src g en) s = .next t ∧ t.endedWith src 0x07 ∧ s.notedIn t []) ∧
    (s.tripCause g.val = false → ∃ t, exec (.tripClr src g en) s = .next t ∧ t.endedWith src 0x00 ∧
      t.bit F.PWMG_STATUS_TRIPPED g.val = false ∧ t.fld F.PWMG_STATUS_TRIP_SRC g.val = 0xFF ∧ t.bit F.PWMG_CTRL_EN g.val = en ∧
      t.fld F.PWMG_STATUS_TRIP_TIME g.val = s.fld F.PWMG_STATUS_TRIP_TIME g.val ∧ t.flt = s.flt) := by
  obtain ⟨b, h⟩ := begun_of acts
  have acted := b.pwmCtrl_eq g.val en true false
  rw [h.tripCause g, Bool.true_and] at acted
  refine ⟨fun cause => ?_, fun cleared => ?_⟩
  · rw [cause, if_pos rfl] at acted
    obtain ⟨runs, ended⟩ := h.ctrl_ends running loop free (ctrlWr_controls g.val en).2.1 acted rfl rfl
    refine ⟨_, runs, ended, h.acted_notedIn (SameObjs.refl _ _) rfl rfl ?_ _⟩
    rw [h.frame]
  · rw [cleared, if_neg (by decide), ← State.ctrlDone] at acted
    have frame := b.ctrlDone_frame g.isLt en true false
    obtain ⟨set, -⟩ := State.ctrlDone_en g.isLt en true false b
    have status := State.ctrlDone_status g.isLt en true false b
    obtain ⟨tripped, source, time⟩ := b.ctrlSet_trip g.val (by omega) en
    obtain ⟨runs, ended⟩ := h.ctrl_ends running loop free (ctrlWr_controls g.val en).2.1 acted (by rw [frame]) (by rw [frame])
    refine ⟨_, runs, ended, State.bit_of_zero ?_, ?_, (State.acted_bit ..).trans set, ?_, (State.acted_flt ..).trans ?_⟩
    · rw [State.acted_fld, status _ rfl (by unfold Fld.apart; decide), tripped]
    · rw [State.acted_fld, status _ rfl (by unfold Fld.apart; decide), source]
    · rw [State.acted_fld, status _ rfl (by unfold Fld.apart; decide), time, h.same.fld (by decide) (by omega)]
    · rw [frame, h.flt]

theorem pwmCntClr_clears (acts : s.atApplication src (wrDesc src (0x2002 + 64 * g.val) 0 1 (en.toNat + 0x04)) (en.toNat + 0x04) = true) :
    ∃ t, exec (.pwmCntClr src g en) s = .next t ∧ t.endedWith src 0x00 ∧
      t.fld F.PWMG_STATUS_PULSE_EATEN g.val = 0 ∧ t.fld F.PWMG_STATUS_PULSE_HELD g.val = 0 ∧ t.fld F.PWMG_STATUS_LATE_CNT g.val = 0 ∧
      t.fld F.PWMG_STATUS_DISCARDED g.val = 0 ∧ t.bit F.PWMG_STATUS_BADCMD g.val = false ∧
      t.bit F.PWMG_STATUS_TRIPPED g.val = s.bit F.PWMG_STATUS_TRIPPED g.val := by
  obtain ⟨b, h⟩ := begun_of acts
  have acted := b.pwmCtrl_eq g.val en false true
  rw [if_neg (by simp), ← State.ctrlDone] at acted
  have frame := b.ctrlDone_frame g.isLt en false true
  have status := State.ctrlDone_status g.isLt en false true b
  obtain ⟨runs, ended⟩ := h.ctrl_ends running loop free (ctrlWr_controls g.val en).2.2 acted (by rw [frame]) (by rw [frame])
  have cleared : b.ctrlSet g.val en false true = (b.setBit F.PWMG_CTRL_EN en g.val).zeroFlds g.val
    [F.PWMG_STATUS_PULSE_EATEN, F.PWMG_STATUS_PULSE_HELD, F.PWMG_STATUS_LATE_CNT, F.PWMG_STATUS_DISCARDED, F.PWMG_STATUS_EATEN_SAT,
      F.PWMG_STATUS_HELD_SAT, F.PWMG_STATUS_LATE_SAT, F.PWMG_STATUS_DISC_SAT, F.PWMG_STATUS_BADCMD] := rfl
  rw [cleared] at status
  have zero := fun f mem => (b.setBit F.PWMG_CTRL_EN en g.val).zeroFlds_fld (o := .pwmgStatus) (i := g.val)
    [F.PWMG_STATUS_PULSE_EATEN, F.PWMG_STATUS_PULSE_HELD, F.PWMG_STATUS_LATE_CNT, F.PWMG_STATUS_DISCARDED, F.PWMG_STATUS_EATEN_SAT,
      F.PWMG_STATUS_HELD_SAT, F.PWMG_STATUS_LATE_SAT, F.PWMG_STATUS_DISC_SAT, F.PWMG_STATUS_BADCMD] (by decide) f (by revert mem; revert f; decide)
    (by revert mem; revert f; decide) (Or.inl mem)
  have tripped := (b.setBit F.PWMG_CTRL_EN en g.val).zeroFlds_apart (o := .pwmgStatus) g.val
    [F.PWMG_STATUS_PULSE_EATEN, F.PWMG_STATUS_PULSE_HELD, F.PWMG_STATUS_LATE_CNT, F.PWMG_STATUS_DISCARDED, F.PWMG_STATUS_EATEN_SAT,
      F.PWMG_STATUS_HELD_SAT, F.PWMG_STATUS_LATE_SAT, F.PWMG_STATUS_DISC_SAT, F.PWMG_STATUS_BADCMD] (by decide) (g := F.PWMG_STATUS_TRIPPED) rfl
    (by unfold Fld.apart; decide)
  refine ⟨_, runs, ended, ?_, ?_, ?_, ?_, State.bit_of_zero ?_, ?_⟩
  · rw [State.acted_fld, status _ rfl (by unfold Fld.apart; decide), zero _ (by decide)]
  · rw [State.acted_fld, status _ rfl (by unfold Fld.apart; decide), zero _ (by decide)]
  · rw [State.acted_fld, status _ rfl (by unfold Fld.apart; decide), zero _ (by decide)]
  · rw [State.acted_fld, status _ rfl (by unfold Fld.apart; decide), zero _ (by decide)]
  · rw [State.acted_fld, status _ rfl (by unfold Fld.apart; decide), zero _ (by decide)]
  · rw [State.acted_bit, State.bit, status _ rfl (by unfold Fld.apart; decide), tripped, b.setEn_status (by omega) en rfl (by omega),
      h.same.fld (by decide) (by omega), State.bit]

end

/-! ### PWMG.AUX -/

abbrev auxWr (g data : Nat) : Wr := wrOf .pwmgAux g 0 14 data

/-- The whole of PWMG.AUX. -/
abbrev auxFld : Fld := ⟨.pwmgAux, 0, 112, .rw, 0⟩

theorem pwmgAux_id (g : Fin 32) : objOf (0x2001 + 64 * g.val) = some .pwmgAux ∧ instOf? (0x2001 + 64 * g.val) .pwmgAux = some g.val := by
  decide +revert +kernel

theorem auxWr_touched (g data : Nat) : (auxWr g data).touched = [0] ∧ getBits ((auxWr g data).covered 0) 0 112 = 2 ^ 112 - 1 :=
  show (auxWr 0 0).touched = [0] ∧ getBits ((auxWr 0 0).covered 0) 0 112 = 2 ^ 112 - 1 by decide +kernel

theorem auxWr_bits (g : Nat) {data : Nat} (small : data < 2 ^ 112) : (auxWr g data).bits 0 = data := by
  have data' : (auxWr g data).data = data := Nat.mod_eq_of_lt small
  exact (Wr.bits_low rfl (show 8 * 14 ≤ 128 by decide) (by rw [data']; exact small)).trans data'

theorem auxWr_reserved (g : Nat) {data : Nat} (small : data < 2 ^ 112) : (auxWr g data).reserved = false :=
  Wr.reserved_of_within (m := 2 ^ 112 - 1) (auxWr_touched g data).1
    (show Obj.accMask .pwmgAux .ro + Obj.accMask .pwmgAux .rw + Obj.accMask .pwmgAux .w1c + Obj.accMask .pwmgAux .wo = _ by decide +kernel)
    (by rw [auxWr_bits g small, Nat.and_two_pow_sub_one_eq_mod, Nat.mod_eq_of_lt small])

theorem State.acted_grp (b t : State) (r : Result) (g : Nat) : (s.actedTo src d host b t r).grp g = t.grp g := rfl

theorem auxActs (g data : Nat) (small : data < 2 ^ 112) : Acts .pwmgAux g 0 14 data fun b => (b.applyRw (auxWr g data)).restartTriggers g where
  effect _ _ := rfl
  reserved := auxWr_reserved g small
  per b := (b.applyRw_objsOnly _).per
  host b := (b.applyRw_objsOnly _).host

theorem State.applyRw_grp (s : State) (w : Wr) (g : Nat) : (s.applyRw w).grp g = s.grp g := by rw [State.grp, s.applyRw_objsOnly w, State.grp]
theorem State.applyRw_now16 (s : State) (w : Wr) : (s.applyRw w).now16 = s.now16 := by
  rw [State.now16, s.applyRw_objsOnly w, State.now16]

theorem pwmAuxWrite_restarts {g : Fin 32} (v : Fin (2 ^ 112)) (running : s.per.running = true) (loop : s.loopMode = true)
    (free : s.fenced (.pwm g.val) = false) (acts : s.atApplication src (wrDesc src (0x2001 + 64 * g.val) 0 14 v.val) v.val = true) :
    ∃ t, exec (.pwmAuxWrite src g v) s = .next t ∧ t.endedWith src 0x00 ∧ getBits (t.obj .pwmgAux g.val 0) 0 112 = v.val ∧
      t.grp g.val = { s.grp g.val with trigA := s.now16, trigB := s.now16, countA := 0, countB := 0 } ∧
      ({ s with groups := t.groups } : State).notedIn t [.pwmgAux] ∧ ∀ h, h ≠ g.val → t.grp h = s.grp h := by
  obtain ⟨b, h⟩ := begun_of acts
  obtain ⟨runs, ended⟩ := h.acts running (auxActs g.val v.val v.isLt) (pwmgAux_id g)
    (State.writeAllowed_loops rfl (Obj.noConfusion ·) (by rw [h.loopMode, loop]))
    ((State.writeFenced_block rfl).trans (if_neg (Bool.eq_false_iff.mp ((h.fenced _).trans free))))
  obtain ⟨touched, whole⟩ := auxWr_touched g.val v.val
  have small : (auxWr g.val v.val).inst < 256 := show g.val < 256 by omega
  have only := b.applyRw_objsOnly (auxWr g.val v.val)
  have value : (b.applyRw (auxWr g.val v.val)).fld auxFld g.val = v.val :=
    (b.applyRw_fld_covered (w := auxWr g.val v.val) small rfl (by rw [touched]; exact List.mem_singleton_self 0) rfl whole).trans
      (by rw [Wr.act, auxWr_bits _ v.isLt, getBits, Nat.pow_zero, Nat.div_one, Nat.mod_eq_of_lt v.isLt])
  have now : b.now16 = s.now16 := by rw [State.now16, h.time, State.now16]
  have grp : ∀ k, b.grp k = s.grp k := fun k => by rw [State.grp, h.groups, State.grp]
  refine ⟨_, runs, ended, (State.acted_fld (f := auxFld) (i := g.val) (e := 0) ..).trans value, ?_, ?_, fun k hk => ?_⟩
  · rw [State.acted_grp, State.restartTriggers, State.grp_setGrp_same, State.applyRw_grp, State.applyRw_now16, grp, now]
  · refine h.acted_notedIn (s' := { s with groups := ((b.applyRw (auxWr g.val v.val)).restartTriggers g.val).groups })
      (t := (b.applyRw (auxWr g.val v.val)).restartTriggers g.val) ((b.applyRw_sameObjs small).trans (SameObjs.of_objs rfl _)) rfl rfl ?_ done
    rw [State.restartTriggers, only, h.frame]
    rfl
  · rw [State.acted_grp, State.restartTriggers, State.grp_setGrp_ne _ _ hk, State.applyRw_grp, grp]

/-! ### PWM.TRIPIN -/

abbrev tripWr (data : Nat) : Wr := wrOf .pwmTripin 0 0 5 data

theorem pwmTripin_id : objOf 0x2800 = some .pwmTripin ∧ instOf? 0x2800 .pwmTripin = some 0 := by decide +kernel

theorem tripData_bits (hi : Fin (2 ^ 32)) (filter : Fin 256) : hi.val + filter.val * 2 ^ 32 < 2 ^ 40 ∧
    getBits (hi.val + filter.val * 2 ^ 32) 0 32 = hi.val ∧ getBits (hi.val + filter.val * 2 ^ 32) 32 8 = filter.val := by
  simp only [getBits]
  omega

theorem tripWr_touched (data : Nat) : (tripWr data).touched = [0] ∧ getBits ((tripWr data).covered 0) 0 32 = 2 ^ 32 - 1 ∧
    getBits ((tripWr data).covered 0) 32 8 = 2 ^ 8 - 1 :=
  show (tripWr 0).touched = [0] ∧ getBits ((tripWr 0).covered 0) 0 32 = 2 ^ 32 - 1 ∧ getBits ((tripWr 0).covered 0) 32 8 = 2 ^ 8 - 1 by
    decide +kernel

theorem tripWr_bits {data : Nat} (small : data < 2 ^ 40) : (tripWr data).bits 0 = data := by
  have data' : (tripWr data).data = data := Nat.mod_eq_of_lt small
  exact (Wr.bits_low rfl (show 8 * 5 ≤ 96 by decide) (by rw [data']; exact small)).trans data'

theorem tripWr_reserved {data : Nat} (small : data < 2 ^ 40) : (tripWr data).reserved = false := by
  have within : data &&& (2 ^ 40 - 1 + (2 ^ 32 - 1) * 2 ^ 64) = data := by
    have split := and_split data (2 ^ 40 - 1) 0 (2 ^ 32 - 1) (k := 64) (by omega) (by decide)
    rwa [Nat.zero_mul, Nat.add_zero, Nat.zero_and, Nat.zero_mul, Nat.add_zero, Nat.and_two_pow_sub_one_eq_mod, Nat.mod_eq_of_lt small] at split
  exact Wr.reserved_of_within (m := 2 ^ 40 - 1 + (2 ^ 32 - 1) * 2 ^ 64) (tripWr_touched data).1
    (show Obj.accMask .pwmTripin .ro + Obj.accMask .pwmTripin .rw + Obj.accMask .pwmTripin .w1c + Obj.accMask .pwmTripin .wo = _ by decide +kernel)
    (by rw [tripWr_bits small, within])

/-- A descriptor applied in CONFIGURE: what its effect has made stands but for its completion and the commands the hub holds. -/
theorem Begun.configured (h : Begun s src d host b) (lands : Nat) {t : State} {o : Option Result}
    (effect : b.effect (s.held src d host) (if s.per.running then 0 else lands) = .ok (t, o)) (hub : t.host = b.host) :
    ∃ u, outOf (s.runDesc src d host lands) = .next u ∧ SameObjs [.hifRingState, .hifCqTail] t u := by
  have runs := h.runDesc lands effect (State.carries_of_cmds h.carries (by rw [hub])).2
  refine ⟨_, by rw [runs]; rfl, ?_⟩
  exact (t.ended_completedInto (s.refOf src) b.sealHere o).1.trans (State.enter_sameObjs _ _ _)

theorem Begun.configured_frame (h : Begun s src d host b) (lands : Nat) {t : State} {o : Option Result}
    (effect : b.effect (s.held src d host) (if s.per.running then 0 else lands) = .ok (t, o)) (hub : t.host = b.host) :
    ∃ u, outOf (s.runDesc src d host lands) = .next u ∧ u = { t with objs := u.objs, host := u.host, per := u.per } := by
  have runs := h.runDesc lands effect (State.carries_of_cmds h.carries (by rw [hub])).2
  refine ⟨_, by rw [runs]; rfl, ?_⟩
  have frame := (t.ended_completedInto (s.refOf src) b.sealHere o).2
  generalize t.ended (s.refOf src) b.sealHere o = v at frame
  rw [frame]
  rfl

theorem exec_tripinWrite (src : Src) (hi : Fin (2 ^ 32)) (filter : Fin 256) (lands : Fin (2 ^ 32)) (s : State) :
    exec (.tripinWrite src hi filter lands) s = outOf (s.runDesc src (wrDesc src 0x2800 0 5 (hi.val + filter.val * 2 ^ 32)) 0 lands.val) := rfl

theorem tripinWrite_settles {data hi filter lands : Nat} (configure : s.mode = .configure) (idle : s.per.running = false) (small : data < 2 ^ 40)
    (hhi : getBits data 0 32 = hi) (hfilter : getBits data 32 8 = filter) (hlands : lands < 2 ^ 32)
    (acts : s.atApplication src (wrDesc src 0x2800 0 5 data) = true) :
    ∃ t, outOf (s.runDesc src (wrDesc src 0x2800 0 5 data) 0 lands) = .next t ∧ t.fld F.PWM_TRIPIN_ACT_HIGH = hi ∧
      t.fld F.PWM_TRIPIN_FILTER = filter ∧ ∀ n < 32, t.nth F.PWM_TRIPIN_LIVE n = (lands.testBit n == hi.testBit n) := by
  obtain ⟨b, h⟩ := begun_of acts
  have only := b.applyRw_objsOnly (tripWr data)
  obtain ⟨touched, whole, whole'⟩ := tripWr_touched data
  have mem : 0 ∈ (tripWr data).touched := by rw [touched]; exact List.mem_singleton_self 0
  have act : (b.applyRw (tripWr data)).fld F.PWM_TRIPIN_ACT_HIGH 0 0 = hi :=
    (b.applyRw_fld_covered (w := tripWr data) (show 0 < 256 by decide) rfl mem rfl whole).trans (by rw [Wr.act, tripWr_bits small]; exact hhi)
  have fil : (b.applyRw (tripWr data)).fld F.PWM_TRIPIN_FILTER 0 0 = filter :=
    (b.applyRw_fld_covered (w := tripWr data) (show 0 < 256 by decide) rfl mem rfl whole').trans (by rw [Wr.act, tripWr_bits small]; exact hfilter)
  have runs : (b.applyRw (tripWr data)).boot.resetLow = false := by
    rw [only, h.boot]
    exact h.here.runs
  obtain ⟨u, settled, named⟩ := State.settleTrips_settled (lands % 2 ^ 32) runs
  rw [Nat.mod_eq_of_lt hlands] at settled named
  have shown := u.tripNamed_trippedInto
  rw [← named] at shown
  have effect : b.effect (s.held src (wrDesc src 0x2800 0 5 data) 0) (if s.per.running then 0 else lands) =
      .ok ((b.applyRw (tripWr data)).settleTrips lands, some done) := by
    rw [idle, if_neg (by decide), State.effect_objWrite b pwmTripin_id.1 pwmTripin_id.2 (Or.inl (by decide)) lands]
    rw [State.objWrite_of_allowed (tripWr_reserved small) (State.writeAllowed_configure (h.mode.trans configure) (show WriteIn.config ≠ .service by decide) (Obj.noConfusion ·))
      (State.writeFenced_none rfl (Obj.noConfusion ·) (Obj.noConfusion ·))]
    have acts : b.objEffect (tripWr data) 0 (s.refOf src) lands = okWrite ((b.applyRw (tripWr data)).settleTrips (lands % 2 ^ 32)) := rfl
    rw [Nat.mod_eq_of_lt hlands] at acts
    exact acts
  obtain ⟨t, ran, same⟩ := h.configured lands effect (by rw [shown.frame, settled.frame, only])
  have fld : ∀ f : Fld, f.obj = .pwmTripin → t.fld f 0 0 = u.fld f 0 0 := fun f obj =>
    (same.fld (i := 0) (by rw [obj]; decide) (by decide)).trans (shown.same.fld (by rw [obj]; decide) (by decide))
  refine ⟨t, ran, ?_, ?_, fun n hn => ?_⟩
  · rw [fld _ rfl, settled.actHigh, act]
  · rw [fld _ rfl, settled.filter, fil]
  · rw [State.nth, fld _ rfl, ← State.nth, settled.live n hn, State.nth, act]

/-- Settles O40. -/
theorem pwmGroupControls : Obligations.PwmGroupControls := by
  unfold Obligations.PwmGroupControls
  intro src g s ctrl
  refine ⟨fun running loop free => ⟨fun en acts => pwmEn_sets running loop free acts, fun en acts => tripClr_clears running loop free acts,
    fun en acts => pwmCntClr_clears running loop free acts, fun v acts => pwmAuxWrite_restarts v running loop free acts⟩,
    fun configure idle hi filter lands acts => ?_⟩
  obtain ⟨small, hhi, hfilter⟩ := tripData_bits hi filter
  rw [exec_tripinWrite]
  exact tripinWrite_settles configure idle small hhi hfilter lands.isLt acts

end

end Sys2Proof.Machine
end

section
/-! The statement of FORCE, MIGRATE and UNRETIRE (R354 to R356, R371). -/

set_option Elab.async false

namespace Sys2Proof.Machine

section
variable {s b : State} {src : Src} {d : Desc} {host : Nat}

/-! ### FORCE -/

abbrev forceWr (k data : Nat) : Wr := wrOf .fltForce 0 (4 * k) 4 data

theorem fltForce_id : objOf 0xB002 = some .fltForce ∧ instOf? 0xB002 .fltForce = some 0 := by decide +kernel

theorem forceData_bits (inst : Fin 128) (on : Bool) : (on.toNat + inst.val * 2 ^ 8) % 2 ^ 32 = on.toNat + inst.val * 2 ^ 8 ∧
    getBits (on.toNat + inst.val * 2 ^ 8) 0 1 = on.toNat ∧ getBits (on.toNat + inst.val * 2 ^ 8) 8 7 = inst.val ∧
    on.toNat + inst.val * 2 ^ 8 &&& 0x7F01 = on.toNat + inst.val * 2 ^ 8 := by decide +revert +kernel

theorem force_masks : Obj.accMask .fltForce .ro + Obj.accMask .fltForce .rw + Obj.accMask .fltForce .w1c + Obj.accMask .fltForce .wo = 0x7F01 ∧
    Obj.accMask .fltForce .rw = 0x7F01 ∧ Obj.accMask .fltForce .w1c = 0 := by decide +kernel

section
variable {k data : Nat}

theorem forceWr_touched (hk : k < 128) : (forceWr k data).touched = [k] := Wr.touched_word rfl rfl rfl hk

theorem forceWr_bits (small : data % 2 ^ 32 = data) : (forceWr k data).bits k = data := by
  refine (Wr.bits_word rfl rfl rfl).trans ?_
  show data % 2 ^ (8 * 4) % 2 ^ 32 = data
  rw [Nat.mod_mod, small]

theorem forceWr_covered : (forceWr k data).covered k = 0x7F01 := by
  rw [Wr.covered, Wr.mask_word rfl rfl rfl]
  show Obj.accMask .fltForce .rw &&& (2 ^ 32 - 1) = 0x7F01
  rw [force_masks.2.1]
  rfl

theorem forceWr_reserved (hk : k < 128) (small : data % 2 ^ 32 = data) (within : data &&& 0x7F01 = data) : (forceWr k data).reserved = false :=
  Wr.reserved_of_within (forceWr_touched hk) force_masks.1 (by rw [forceWr_bits small, within])

/-- FLT.FORCE of a kind after the write. -/
theorem State.force_fields (v : State) (hk : k < 128) (small : data % 2 ^ 32 = data) :
    (v.applyRw (forceWr k data)).fld F.FLT_FORCE_FORCE 0 k = getBits data 0 1 ∧ (v.applyRw (forceWr k data)).fld F.FLT_FORCE_INST 0 k = getBits data 8 7 := by
  have mem : k ∈ (forceWr k data).touched := by rw [forceWr_touched hk]; exact List.mem_singleton_self k
  have field := fun (f : Fld) obj whole => v.applyRw_fld_covered (w := forceWr k data) (f := f) (show 0 < 256 by decide) obj mem force_masks.2.2 whole
  refine ⟨(field F.FLT_FORCE_FORCE rfl ?_).trans ?_, (field F.FLT_FORCE_INST rfl ?_).trans ?_⟩
  · rw [forceWr_covered]
    decide
  · rw [Wr.act, forceWr_bits small]
    rfl
  · rw [forceWr_covered]
    decide
  · rw [Wr.act, forceWr_bits small]
    rfl

/-- What a written entry does to the collector: a number newly forced has an onset, one no longer forced shows its real condition. -/
def State.forceStep (v : State) (stamp : Nat) (old new : Option Nat) : State :=
  if old = new then v
  else
    let t := match old with
      | some src => v.showBits src
      | none => v
    match new with
    | some src => t.send { source := src, stamp := stamp, forced := true }
    | none => t

theorem State.force_eq (v : State) (hk : k < 128) (small : data % 2 ^ 32 = data) {r : KindRow} (row : kindRow k = some r) :
    v.force (forceWr k data) = if r.instances ≤ getBits data 8 7 then (v, refused 0x3)
      else ((v.applyRw (forceWr k data)).forceStep v.now (v.forced k) ((v.applyRw (forceWr k data)).forced k), done) := by
  have inst : (forceWr k data).newFld v F.FLT_FORCE_INST k = getBits data 8 7 := by
    rw [Wr.newFld_covered force_masks.2.2 (by rw [forceWr_covered]; decide), Wr.act, forceWr_bits small]
    rfl
  have named : (forceWr k data).namesReservedKind = false := by simp [Wr.namesReservedKind, forceWr_touched hk, row]
  simp only [State.force, named, forceWr_touched hk, List.any_cons, List.any_nil, row, inst, Bool.or_false]
  by_cases large : r.instances ≤ getBits data 8 7
  · rw [if_pos (decide_eq_true large), if_pos large]
  · rw [if_neg (by simpa using large), if_neg large]
    rfl

theorem State.forceStep_keeps (v : State) (stamp : Nat) (old new : Option Nat) : (v.forceStep stamp old new).per = v.per ∧
    (v.forceStep stamp old new).host = v.host := by
  have bits : ∀ src, (v.showBits src).per = v.per ∧ (v.showBits src).host = v.host := fun src => ⟨State.showBits_per v src, State.showBits_host v src⟩
  unfold State.forceStep
  dsimp only
  split
  · exact ⟨rfl, rfl⟩
  · cases old <;> cases new
    · exact ⟨rfl, rfl⟩
    · exact ⟨rfl, rfl⟩
    · exact bits _
    · exact bits _

theorem State.setNth_sameObjs (s : State) (f : Fld) (n : Nat) (x : Bool) {i e : Nat} (hi : i < 256) (he : e < 65536) :
    SameObjs [f.obj] s (s.setNth f n x i e) := s.setFld_sameObjs_at f _ hi he

/-- The collector's bits of a source number stand in FLT.REC and FLT.PIN. -/
theorem State.showBits_sameObjs (s : State) {src : Nat} (small : kindOf src < 65536) : SameObjs [.fltRec, .fltPin] s (s.showBits src) := by
  have rec_ : ∀ (t : State) (f : Fld) (v : Nat), f.obj = .fltRec → SameObjs [.fltRec, .fltPin] t (t.setFld f v 0 (kindOf src)) := fun t f v obj =>
    (t.setFld_sameObjs_at f v (by decide) small).mono (by rw [obj]; decide)
  have pin : ∀ (t : State) (f : Fld) (v : Nat), f.obj = .fltPin → SameObjs [.fltRec, .fltPin] t (t.setFld f v) := fun t f v obj =>
    (t.setFld_sameObjs_at f v (by decide) (by decide)).mono (by rw [obj]; decide)
  have shown := fun v w x y => (((rec_ s F.FLT_REC_INST_LATCH v rfl).trans (rec_ _ F.FLT_REC_INST_LIVE w rfl)).trans
    (rec_ _ F.FLT_REC_LATCHED x rfl)).trans (rec_ _ F.FLT_REC_LIVE y rfl)
  unfold State.showBits
  dsimp only
  split
  · exact shown _ _ _ _
  · exact ((shown _ _ _ _).trans (pin _ F.FLT_PIN_LATCH _ rfl)).trans (pin _ F.FLT_PIN_LIVE _ rfl)

theorem State.forceStep_fld (v : State) (stamp : Nat) {old : Option Nat} (small : ∀ src, old = some src → kindOf src < 65536) (new : Option Nat)
    {f : Fld} (obj : f.obj = .fltForce) {k : Nat} (hk : k < 128) : (v.forceStep stamp old new).fld f 0 k = v.fld f 0 k := by
  have bits : ∀ src, old = some src → (v.showBits src).fld f 0 k = v.fld f 0 k := fun src here => by
    rw [State.fld, State.fld, obj, v.showBits_sameObjs (small src here) _ 0 k (by decide) (by decide) (by omega)]
  unfold State.forceStep
  dsimp only
  split
  · rfl
  · cases old <;> cases new
    · rfl
    · rfl
    · exact bits _ rfl
    · exact bits _ rfl

theorem State.forced_small (s : State) {k : Nat} (hk : k < 128) : ∀ src, s.forced k = some src → kindOf src < 65536 := by
  intro src here
  have inst : s.fld F.FLT_FORCE_INST 0 k < 2 ^ 7 := s.fld_lt F.FLT_FORCE_INST 0 k
  unfold State.forced at here
  split at here
  · obtain rfl := Option.some.inj here
    show (128 * k + s.fld F.FLT_FORCE_INST 0 k) / 128 < 65536
    omega
  · exact absurd here (by simp)

theorem State.forceStep_from_none (v : State) (stamp : Nat) : v.forceStep stamp none none = v ∧
    ∀ src, v.forceStep stamp none (some src) = v.send { source := src, stamp := stamp, forced := true } :=
  ⟨rfl, fun _ => rfl⟩

end

theorem exec_force (src : Src) (k inst : Fin 128) (on : Bool) (s : State) :
    exec (.force src k inst on) s = s.runWrite src 0xB002 (4 * k.val) 4 (on.toNat + inst.val * 2 ^ 8) := rfl

theorem State.acted_msgs (b t : State) (r : Result) : (s.actedTo src d host b t r).msgs = t.msgs := rfl

theorem Begun.forced (h : Begun s src d host b) {k : Nat} (hk : k < 128) : b.forced k = s.forced k := by
  have entry : b.obj .fltForce 0 k = s.obj .fltForce 0 k := h.same _ 0 k (by decide) (by decide) (by omega)
  have fld : ∀ f : Fld, f.obj = .fltForce → b.fld f 0 k = s.fld f 0 k := fun f obj => by rw [State.fld, State.fld, obj, entry]
  rw [State.forced, State.bit, fld _ rfl, fld _ rfl, State.forced, State.bit]

theorem force_answers (running : s.per.running = true) (k inst : Fin 128) (on : Bool) {r : KindRow} (row : kindRow k.val = some r)
    (acts : s.atApplication src (wrDesc src 0xB002 (4 * k.val) 4 (on.toNat + inst.val * 2 ^ 8)) (on.toNat + inst.val * 2 ^ 8) = true) :
    (inst.val < r.instances → ∃ t, exec (.force src k inst on) s = .next t ∧ t.endedWith src 0x00 ∧
      t.bit F.FLT_FORCE_FORCE 0 k.val = on ∧ t.fld F.FLT_FORCE_INST 0 k.val = inst.val ∧
      (on = true → s.forced k.val = none → { source := sourceNo k.val inst.val, stamp := s.now, forced := true : Msg } ∈ t.msgs) ∧
      (on = false → s.forced k.val = none → t.msgs = s.msgs)) ∧
    (r.instances ≤ inst.val → ∃ t, exec (.force src k inst on) s = .next t ∧ t.endedWith src 0x07 ∧ s.notedIn t []) := by
  obtain ⟨b, h⟩ := begun_of acts
  obtain ⟨small, hon, hinst, within⟩ := forceData_bits inst on
  rw [exec_force]
  generalize on.toNat + inst.val * 2 ^ 8 = data at small hon hinst within acts h
  have effect := State.objWrite_of_allowed (t := b) (param := 0) (ref := s.refOf src) (lands := 0) (forceWr_reserved k.isLt small within)
    (State.writeAllowed_always rfl rfl) (State.writeFenced_none rfl (Obj.noConfusion ·) (Obj.noConfusion ·))
  have asked : b.objEffect (forceWr k.val data) 0 (s.refOf src) 0 = answer (b.force (forceWr k.val data)) := rfl
  rw [asked, b.force_eq k.isLt small row, hinst] at effect
  refine ⟨fun fits => ?_, fun large => ?_⟩
  · rw [if_neg (by omega), h.forced k.isLt] at effect
    obtain ⟨on_, inst_⟩ := b.force_fields k.isLt small
    have only := b.applyRw_objsOnly (forceWr k.val data)
    have number : (b.applyRw (forceWr k.val data)).forced k.val = if on then some (sourceNo k.val inst.val) else none := by
      rw [State.forced, State.bit, on_, inst_, hon, hinst]
      cases on <;> rfl
    obtain ⟨per, hub⟩ := (b.applyRw (forceWr k.val data)).forceStep_keeps b.now (s.forced k.val) ((b.applyRw (forceWr k.val data)).forced k.val)
    have objs : ∀ f : Fld, f.obj = .fltForce → ((b.applyRw (forceWr k.val data)).forceStep b.now (s.forced k.val)
        ((b.applyRw (forceWr k.val data)).forced k.val)).fld f 0 k.val = (b.applyRw (forceWr k.val data)).fld f 0 k.val := fun f obj =>
      State.forceStep_fld _ _ (s.forced_small k.isLt) _ obj k.isLt
    have none_ := (b.applyRw (forceWr k.val data)).forceStep_from_none b.now
    obtain ⟨runs, ended⟩ := h.write_ends running fltForce_id effect (by rw [per, only.per, h.running, running])
      (State.carries_of_cmds h.carries (by rw [hub, only.host]))
    refine ⟨_, runs, ended, ?_, ?_, fun yes fresh => ?_, fun no fresh => ?_⟩
    · rw [State.acted_bit, State.bit, objs _ rfl, on_, hon]
      cases on <;> rfl
    · rw [State.acted_fld, objs _ rfl, inst_, hinst]
    · rw [State.acted_msgs, number, fresh, yes, if_pos rfl, none_.2, h.now]
      exact List.mem_append_right _ (List.mem_singleton_self _)
    · rw [State.acted_msgs, number, fresh, no, if_neg (by decide), none_.1, only, h.msgs]
  · rw [if_pos large] at effect
    obtain ⟨runs, ended⟩ := h.write_ends running fltForce_id effect (by rw [h.running, running]) h.carries
    refine ⟨_, runs, ended, h.acted_notedIn (SameObjs.refl _ _) rfl rfl ?_ _⟩
    rw [h.frame]

/-! ### MIGRATE and UNRETIRE -/

abbrev redWr (data : Nat) : Wr := wrOf .redCtrl 0 0 1 data

theorem redCtrl_id : objOf 0xD002 = some .redCtrl ∧ instOf? 0xD002 .redCtrl = some 0 := by decide +kernel

theorem migrate_bits (l : Fin 16) : (redWr (0x01 + l.val * 2)).reserved = false ∧ (redWr (0x01 + l.val * 2)).actBit F.RED_CTRL_MIGRATE = true ∧
    (redWr (0x01 + l.val * 2)).act F.RED_CTRL_LANE = l.val ∧ (redWr (0x01 + l.val * 2)).actBit F.RED_CTRL_UNRETIRE = false ∧
    (redWr (0x01 + l.val * 2)).actBit F.RED_CTRL_CLR = false := by decide +revert +kernel

theorem unretire_bits (u : Fin 2) (l : Fin 16) : (redWr (0x20 + l.val * 2 + u.val * 2 ^ 6)).reserved = false ∧
    (redWr (0x20 + l.val * 2 + u.val * 2 ^ 6)).actBit F.RED_CTRL_MIGRATE = false ∧
    (redWr (0x20 + l.val * 2 + u.val * 2 ^ 6)).act F.RED_CTRL_LANE = l.val ∧
    (redWr (0x20 + l.val * 2 + u.val * 2 ^ 6)).actBit F.RED_CTRL_UNRETIRE = true ∧
    (redWr (0x20 + l.val * 2 + u.val * 2 ^ 6)).act F.RED_CTRL_UNIT = u.val ∧
    (redWr (0x20 + l.val * 2 + u.val * 2 ^ 6)).actBit F.RED_CTRL_CLR = false := by decide +revert +kernel

theorem redWr_effect (t : State) (data : Nat) (reserved : (redWr data).reserved = false) (ref : CmdRef) (lands : Nat) :
    t.objWrite (redWr data) 0 ref lands = answer (t.redCtrl ((redWr data).actBit F.RED_CTRL_MIGRATE) ((redWr data).act F.RED_CTRL_LANE)
      ((redWr data).actBit F.RED_CTRL_UNRETIRE) ((redWr data).act F.RED_CTRL_UNIT) ((redWr data).actBit F.RED_CTRL_CLR)) := by
  rw [State.objWrite_of_allowed reserved (State.writeAllowed_always rfl rfl) (State.writeFenced_none rfl (Obj.noConfusion ·) (Obj.noConfusion ·))]
  rfl

theorem State.noteRedundancy_migrate (s : State) : s.noteRedundancy.red.migrate = s.red.migrate := by
  unfold State.noteRedundancy State.raise State.clearLive State.send
  dsimp only
  split
  · rfl
  · split <;> rfl

theorem State.redCtrl_wrongMode {v : State} {migrate unretire clr : Bool} {l u : Nat}
    (wrong : ((migrate && !v.loopMode) || (unretire && v.mode != .configure)) = true) :
    v.redCtrl migrate l unretire u clr = (v, v.wrongMode) := by
  unfold State.redCtrl
  exact if_pos wrong

theorem exec_migrate (src : Src) (l : Fin 16) (s : State) : exec (.migrate src l) s = s.runWrite src 0xD002 0 1 (0x01 + l.val * 2) := rfl
theorem exec_unretire (src : Src) (u : Fin 2) (l : Fin 16) (s : State) :
    exec (.unretire src u l) s = s.runWrite src 0xD002 0 1 (0x20 + l.val * 2 + u.val * 2 ^ 6) := rfl

/-- What a write of RED.CTRL answers in a mode its action is not for. -/
theorem Begun.red_wrongMode {data : Nat} (h : Begun s src (wrDesc src 0xD002 0 1 data) data b) (running : s.per.running = true)
    (effect : b.objWrite (redWr data) 0 (s.refOf src) 0 = .ok (b, some b.wrongMode)) :
    ∃ t, s.runWrite src 0xD002 0 1 data = .next t ∧ t.endedWith src 0x06 ∧ s.notedIn t [] := by
  obtain ⟨runs, ended⟩ := h.write_ends running redCtrl_id effect (by rw [h.running, running]) h.carries
  refine ⟨_, runs, ended, h.acted_notedIn (SameObjs.refl _ _) rfl rfl ?_ _⟩
  rw [h.frame]

theorem Begun.activeUnit (h : Begun s src d host b) : b.activeUnit = s.activeUnit := h.same.fld (by decide) (by decide)

theorem Begun.posOf (h : Begun s src d host b) (u l : Nat) : b.posOf u l = s.posOf u l := by
  simp only [State.posOf, State.laneOf, h.red]

theorem Begun.spareLane (h : Begun s src d host b) : b.spareLane = s.spareLane := by
  simp only [State.spareLane, h.activeUnit, State.retired, h.red, h.posOf, h.fenced]

theorem migrate_starts (running : s.per.running = true) (l : Fin 16)
    (acts : s.atApplication src (wrDesc src 0xD002 0 1 (0x01 + l.val * 2)) (0x01 + l.val * 2) = true) :
    (∀ sp p, s.loopMode = true → s.spareLane = some sp → s.red.mirrorOk = true → s.unitBusy = false →
      s.posOf s.activeUnit l.val = some p → s.tasksAt p ≠ [] →
      ∃ t, exec (.migrate src l) s = .next t ∧ t.endedWith src 0x00 ∧
        t.red.migrate = some { unit := s.activeUnit, source := l.val, spare := sp, pos := p, atCount := s.per.count }) ∧
    (s.loopMode = false → ∃ t, exec (.migrate src l) s = .next t ∧ t.endedWith src 0x06 ∧ s.notedIn t []) := by
  obtain ⟨b, h⟩ := begun_of acts
  obtain ⟨reserved, migrate, lane, unretire, clr⟩ := migrate_bits l
  have effect := redWr_effect b (0x01 + l.val * 2) reserved (s.refOf src) 0
  rw [migrate, lane, unretire, clr] at effect
  rw [exec_migrate]
  refine ⟨fun sp p loop spare mirror idle pos tasks => ?_, fun loop => ?_⟩
  · have busy : b.unitBusy = false := by rw [State.unitBusy, h.red]; exact idle
    have tasksAt : b.tasksAt p = s.tasksAt p := by rw [State.tasksAt, h.red, State.tasksAt]
    have nonempty : (s.tasksAt p).isEmpty = false := by simpa using tasks
    have starts : b.redCtrl true l.val false ((redWr (0x01 + l.val * 2)).act F.RED_CTRL_UNIT) false = (b.startMigrate l.val p sp, done) := by
      simp only [State.redCtrl, h.loopMode, loop, h.spareLane, spare, h.red, mirror, busy, h.activeUnit, h.posOf, pos, tasksAt, nonempty,
        Option.all_some, Option.isNone_some, Bool.not_true, Bool.and_false, Bool.false_and, Bool.or_self, Bool.false_eq_true, if_false]
    rw [starts] at effect
    have per : (b.startMigrate l.val p sp).per = b.per := by rw [State.startMigrate]; simp
    have hub : (b.startMigrate l.val p sp).host = b.host := by rw [State.startMigrate]; simp
    obtain ⟨runs, ended⟩ := h.write_ends running redCtrl_id effect (by rw [per, h.running, running])
      (State.carries_of_cmds h.carries (by rw [hub]))
    refine ⟨_, runs, ended, ?_⟩
    rw [State.acted_red, State.startMigrate, State.noteRedundancy_migrate, h.activeUnit]
    rw [show b.per.count = s.per.count by rw [h.frame]]
  · have wrong : b.redCtrl true l.val false ((redWr (0x01 + l.val * 2)).act F.RED_CTRL_UNIT) false = (b, b.wrongMode) := by
      exact State.redCtrl_wrongMode (by rw [h.loopMode, loop]; rfl)
    rw [wrong] at effect
    exact h.red_wrongMode running effect

/-- A lane pair's bit set among those retired. -/
theorem State.retired_setRetired (s : State) (u l : Nat) (x : Bool) (hu : u < 2) :
    (s.setRetired u l x).retired u = putBits (s.retired u) l 1 x.toNat ∧ (s.setRetired u l x).retired (1 - u) = s.retired (1 - u) := by
  obtain rfl | rfl : u = 0 ∨ u = 1 := by omega
  · exact ⟨rfl, rfl⟩
  · exact ⟨rfl, rfl⟩

theorem State.setRetired_host (s : State) (u l : Nat) (x : Bool) : (s.setRetired u l x).host = s.host := by
  unfold State.setRetired
  split <;> rfl

theorem unretire_clears (u : Fin 2) (l : Fin 16)
    (acts : s.atApplication src (wrDesc src 0xD002 0 1 (0x20 + l.val * 2 + u.val * 2 ^ 6)) (0x20 + l.val * 2 + u.val * 2 ^ 6) = true) :
    (s.mode = .configure → (s.retired u.val).testBit l.val = true → ∃ t, exec (.unretire src u l) s = .next t ∧
      (t.retired u.val).testBit l.val = false ∧
      (∀ k, k ≠ l.val → (t.retired u.val).testBit k = (s.retired u.val).testBit k) ∧ t.retired (1 - u.val) = s.retired (1 - u.val)) ∧
    (s.mode ≠ .configure → s.per.running = true → ∃ t, exec (.unretire src u l) s = .next t ∧ t.endedWith src 0x06 ∧ s.notedIn t []) := by
  obtain ⟨b, h⟩ := begun_of acts
  obtain ⟨reserved, migrate, lane, unretire, unit, clr⟩ := unretire_bits u l
  have effect := redWr_effect b (0x20 + l.val * 2 + u.val * 2 ^ 6) reserved (s.refOf src) 0
  rw [migrate, lane, unretire, unit, clr] at effect
  rw [exec_unretire]
  have retired : ∀ k, b.retired k = s.retired k := fun k => by rw [State.retired, h.red, State.retired]
  refine ⟨fun configure set => ?_, fun other running => ?_⟩
  · have cleared : b.redCtrl false l.val true u.val false = (b.setRetired u.val l.val false, done) := by
      simp only [State.redCtrl, h.mode, configure, retired, set, Bool.false_and, bne_self_eq_false, Bool.and_false, Bool.or_self, Bool.false_eq_true,
        if_false, Bool.not_true, if_true]
    rw [cleared] at effect
    rw [← State.effect_objWrite b redCtrl_id.1 redCtrl_id.2 (Or.inr rfl) 0] at effect
    obtain ⟨t, ran, frame⟩ := h.configured_frame 0 (by rw [ite_self]; exact effect) (State.setRetired_host ..)
    have kept : ∀ k, t.retired k = (b.setRetired u.val l.val false).retired k := fun k => by rw [State.retired, frame, State.retired]
    obtain ⟨mine, others⟩ := b.retired_setRetired u.val l.val false u.isLt
    refine ⟨t, ran, ?_, fun k hk => ?_, ?_⟩
    · rw [kept, mine, testBit_putBits, if_pos (by omega), Nat.sub_self]
      rfl
    · rw [kept, mine, testBit_putBits, if_neg (by omega), retired]
    · rw [kept, others, retired]
  · have wrong : b.redCtrl false l.val true u.val false = (b, b.wrongMode) := by
      have mode : (s.mode != .configure) = true := by simpa using other
      exact State.redCtrl_wrongMode (by rw [h.mode, mode]; rfl)
    rw [wrong] at effect
    exact h.red_wrongMode running effect

/-- Settles O43. -/
theorem forceMigrateUnretire : Obligations.ForceMigrateUnretire := by
  unfold Obligations.ForceMigrateUnretire
  intro src s
  refine ⟨fun running k inst on => ?_, fun running l acts => migrate_starts running l acts, fun u l acts => unretire_clears u l acts⟩
  intro data acts
  exact ⟨fun r row => (force_answers running k inst on row acts).1, fun r row => (force_answers running k inst on row acts).2⟩

end

end Sys2Proof.Machine
end

section
/-! The statement of the writes that restart their unit (R270, R271, R292, R331, R383). -/

set_option Elab.async false

namespace Sys2Proof.Machine

section
variable {s t u : State}

/-! ### Feedback channels started afresh -/

/-- Only the feedback channels and the events on their way differ. -/
def State.fbOnly (s t : State) : Prop := t = { s with fb := t.fb, msgs := t.msgs }

theorem State.fbOnly.trans (h : s.fbOnly t) (h' : t.fbOnly u) : s.fbOnly u := by
  rw [State.fbOnly, h', h]

theorem State.fbOnly.objs (h : s.fbOnly t) : t.objs = s.objs := by rw [h]
theorem State.fbOnly.host (h : s.fbOnly t) : t.host = s.host := by rw [h]
theorem State.fbOnly.fld (h : s.fbOnly t) (f : Fld) (i e : Nat) : t.fld f i e = s.fld f i e := by simp only [State.fld, State.obj, h.objs]

theorem State.setFbs_fbOnly (s : State) (n : Nat) (c : FbSt) : s.fbOnly (s.setFbs n c) := rfl
theorem State.raise_fbOnly (s : State) (k : Kind) (n data dlen : Nat) : s.fbOnly (s.raise k n data dlen) := rfl
theorem State.raise_fbs (s : State) (k : Kind) (n data dlen m : Nat) : (s.raise k n data dlen).fbs m = s.fbs m := rfl

theorem State.follow_fbOnly (s : State) (was now : Bool) (k : Kind) (n data : Nat) : s.fbOnly (s.follow was now k n data) := by
  unfold State.follow
  split_ifs <;> exact rfl

theorem State.startFrame_fbOnly (s : State) (n : Nat) : s.fbOnly (s.startFrame n) := rfl

theorem State.startFrame_quadErr (s : State) (n : Nat) : ((s.startFrame n).fbs n).quadErr = (s.fbs n).quadErr := by
  rw [State.startFrame, State.fbs_setFbs_same]

/-- A channel started afresh keeps its counters, and begins a frame when it is a serial one. -/
theorem State.reinitFb_starts (s : State) (n : Nat) : s.fbOnly (s.reinitFb n) ∧ ((s.reinitFb n).fbs n).quadErr = (s.fbs n).quadErr ∧
    (s.fbMode n = 1 → ((s.reinitFb n).fbs n).count = 0) := by
  have cleared := ((s.follow_fbOnly (s.fbs n).hallBad false K.HALL_INVALID n 0).trans (State.follow_fbOnly _ (s.fbs n).lost false K.SERIAL_LOST n 0)).trans
    (State.follow_fbOnly _ (s.fbs n).alarm false K.SENSOR_ALARM n 0)
  rw [State.reinitFb]
  generalize ((s.follow (s.fbs n).hallBad false K.HALL_INVALID n 0).follow (s.fbs n).lost false K.SERIAL_LOST n 0).follow (s.fbs n).alarm false
    K.SENSOR_ALARM n 0 = s1 at cleared
  split
  next serial =>
    refine ⟨(cleared.trans (s1.setFbs_fbOnly ..)).trans (State.startFrame_fbOnly ..), ?_, fun mode => ?_⟩
    · rw [State.startFrame_quadErr, State.fbs_setFbs_same]
    · rw [State.fbSerial, State.fbMode, (s1.setFbs_fbOnly ..).fld, cleared.fld, ← State.fbMode, mode] at serial
      exact absurd serial (by decide)
  next => exact ⟨cleared.trans (s1.setFbs_fbOnly ..), by rw [State.fbs_setFbs_same], fun _ => by rw [State.fbs_setFbs_same]⟩

/-- A channel takes the levels of its lands. -/
theorem State.settleFb_takes (s : State) (n lands : Nat) : s.fbOnly (s.settleFb n lands) ∧
    ((s.settleFb n lands).fbs n).quadErr = (s.fbs n).quadErr ∧
    (s.fbMode n = 1 → ((s.settleFb n lands).fbs n).count = (s.fbs n).count ∧ ((s.settleFb n lands).fbs n).levels = lands % 8) := by
  rw [State.settleFb]
  split
  next mode => exact ⟨s.setFbs_fbOnly .., by rw [State.fbs_setFbs_same], fun _ => by rw [State.fbs_setFbs_same]; exact ⟨rfl, rfl⟩⟩
  next mode =>
    have other : s.fbMode n ≠ 1 := by rw [mode]; decide
    split
    · exact ⟨s.setFbs_fbOnly .., by rw [State.fbs_setFbs_same], fun h => absurd h other⟩
    · exact ⟨(s.setFbs_fbOnly ..).trans (State.raise_fbOnly ..), by rw [State.raise_fbs, State.fbs_setFbs_same], fun h => absurd h other⟩
  next other _ => exact ⟨rfl, rfl, fun h => absurd h other⟩

end

section
variable {s b : State} {src : Src} {d : Desc} {host : Nat}

/-- An undefined use in a descriptor's effect stops the step, whatever the levels of the lands. -/
theorem Begun.configured_faults (h : Begun s src d host b) (lands : Nat) {f : Fault}
    (effect : b.effect (s.held src d host) (if s.per.running then 0 else lands) = .error f) :
    outOf (s.runDesc src d host lands) = .fault f := by
  rw [h.runDesc_error lands effect]
  rfl

theorem Begun.configured_both (h : Begun s src d host b) (lands : Nat) {t : State} {o : Option Result}
    (effect : b.effect (s.held src d host) (if s.per.running then 0 else lands) = .ok (t, o)) (hub : t.host = b.host) :
    ∃ u, outOf (s.runDesc src d host lands) = .next u ∧ SameObjs [.hifRingState, .hifCqTail] t u ∧
      u = { t with objs := u.objs, host := u.host, per := u.per } := by
  obtain ⟨u, ran, same⟩ := h.configured lands effect hub
  obtain ⟨v, ran', frame⟩ := h.configured_frame lands effect hub
  obtain rfl : u = v := by injection ran.symm.trans ran'
  exact ⟨u, ran, same, frame⟩

section
variable {id len data n lands : Nat} {o : Obj}

/-- A write that starts a feedback channel afresh, in CONFIGURE. -/
theorem fbCfg_starts (named : objOf id = some o ∧ instOf? id o = some n) (hn : n < 32) (short : len ≤ 32) (kind : o = .fbCfg ∨ o = .fbSerial)
    (touched : 0 ∈ (wrOf o n 0 len data).touched) (configure : s.mode = .configure) (idle : s.per.running = false) (free : s.fenced (.fb n) = false)
    (levels : getBits lands (32 + 3 * n) 3 < 8)
    (acts : s.atApplication src (wrDesc src id 0 len data) = true) :
    ((wrOf o n 0 len data).reserved = true → outOf (s.runDesc src (wrDesc src id 0 len data) 0 lands) = .fault .reservedField) ∧
    ((wrOf o n 0 len data).reserved = false → ∃ t, outOf (s.runDesc src (wrDesc src id 0 len data) 0 lands) = .next t ∧
      t.obj o n 0 = (wrOf o n 0 len data).entry s 0 ∧ (t.fbs n).quadErr = (s.fbs n).quadErr ∧
      (t.fld F.FB_CFG_MODE n = 1 → (t.fbs n).count = 0 ∧ (t.fbs n).levels = getBits lands (32 + 3 * n) 3)) := by
  obtain ⟨b, h⟩ := begun_of acts
  have effect := b.effect_objWrite (s := s) (src := src) (host := 0) (off := 0) (data := data) (param := 0) named.1 named.2 (Or.inl short) lands
  refine ⟨fun reserved => h.configured_faults lands ?_, fun reserved => ?_⟩
  · rw [idle, if_neg (by decide), effect, State.objWrite_of_reserved reserved]
  have written : b.objWrite (wrOf o n 0 len data) 0 (s.refOf src) lands =
      okWrite (((b.applyRw (wrOf o n 0 len data)).reinitFb n).settleFb n (getBits lands (32 + 3 * n) 3)) := by
    rw [State.objWrite_of_allowed reserved (State.writeAllowed_configure (h.mode.trans configure)
      (show o.writeIn ≠ .service by obtain rfl | rfl := kind <;> decide) (show o ≠ .caravanCfg by obtain rfl | rfl := kind <;> decide))
      ((State.writeFenced_block (f := .fb n) (k := 1) (by obtain rfl | rfl := kind <;> rfl)).trans
        (if_neg (Bool.eq_false_iff.mp ((h.fenced _).trans free))))]
    obtain rfl | rfl := kind <;> rfl
  obtain ⟨only, err, count⟩ := (b.applyRw (wrOf o n 0 len data)).reinitFb_starts n
  obtain ⟨only', err', takes⟩ := ((b.applyRw (wrOf o n 0 len data)).reinitFb n).settleFb_takes n (getBits lands (32 + 3 * n) 3)
  have started := only.trans only'
  generalize ((b.applyRw (wrOf o n 0 len data)).reinitFb n).settleFb n (getBits lands (32 + 3 * n) 3) = v at written err' takes started
  have small : (wrOf o n 0 len data).inst < 256 := show n < 256 by omega
  have run : b.effect (s.held src (wrDesc src id 0 len data) 0) (if s.per.running then 0 else lands) = .ok (v, some done) := by
    rw [idle, if_neg (by decide), effect, written]
    rfl
  have hub : v.host = b.host := by rw [started.host, (b.applyRw_objsOnly _).host]
  obtain ⟨t, ran, same, frame⟩ := h.configured_both lands run hub
  have fbs : ∀ k, t.fbs k = v.fbs k := fun k => by rw [frame, State.fbs, State.fbs]
  have own : o ∉ [Obj.hifRingState, .hifCqTail] := by obtain rfl | rfl := kind <;> decide
  have own' : o ∉ [Obj.hifRingApplied, .hifRingState] := by obtain rfl | rfl := kind <;> decide
  have obj : v.obj o n 0 = (wrOf o n 0 len data).entry s 0 := by
    rw [State.obj, started.objs, ← State.obj]
    refine (b.applyRw_obj small (by decide)).trans ?_
    rw [if_pos touched]
    exact Wr.entry_congr (h.obj own' (show n < 256 by omega) (by decide))
  refine ⟨t, ran, ?_, ?_, fun mode => ?_⟩
  · rw [same o n 0 own (by omega) (by decide), obj]
  · rw [fbs, err', err, State.applyRw_fbs, h.fbs]
  · have mode' : (b.applyRw (wrOf o n 0 len data)).fbMode n = 1 := by
      rw [← mode, same.fld (by decide) (by omega), started.fld, State.fbMode]
    have mode'' : ((b.applyRw (wrOf o n 0 len data)).reinitFb n).fbMode n = 1 := by
      rw [State.fbMode, only.fld, ← State.fbMode, mode']
    obtain ⟨kept, took⟩ := takes mode''
    rw [fbs, kept, took, count mode', Nat.mod_eq_of_lt levels]
    exact ⟨rfl, rfl⟩

end

theorem fbCfg_id (n : Fin 32) : (objOf (0x3000 + 64 * n.val) = some .fbCfg ∧ instOf? (0x3000 + 64 * n.val) .fbCfg = some n.val) ∧
    (objOf (0x3001 + 64 * n.val) = some .fbSerial ∧ instOf? (0x3001 + 64 * n.val) .fbSerial = some n.val) := by decide +revert +kernel

theorem fbCfg_touched (n data : Nat) : 0 ∈ (wrOf .fbCfg n 0 32 data).touched ∧ 0 ∈ (wrOf .fbSerial n 0 16 data).touched :=
  show 0 ∈ (wrOf .fbCfg 0 0 32 0).touched ∧ 0 ∈ (wrOf .fbSerial 0 0 16 0).touched by decide +kernel

theorem fbLands_bits (n : Fin 32) (a b z : Bool) : getBits ((a.toNat + b.toNat * 2 + z.toNat * 4) * 2 ^ (32 + 3 * n.val)) (32 + 3 * n.val) 3 =
    a.toNat + b.toNat * 2 + z.toNat * 4 ∧ a.toNat + b.toNat * 2 + z.toNat * 4 < 8 := by
  have small : a.toNat + b.toNat * 2 + z.toNat * 4 < 8 := by cases a <;> cases b <;> cases z <;> decide
  rw [getBits, Nat.mul_div_cancel _ (Nat.two_pow_pos _)]
  exact ⟨Nat.mod_eq_of_lt small, small⟩

theorem exec_fbCfgWrite (src : Src) (n : Fin 32) (serial : Bool) (v : Fin (2 ^ 256)) (x y z : Bool) (s : State) :
    exec (.fbCfgWrite src n serial v x y z) s = outOf (s.runDesc src
      (if serial then wrDesc src (0x3001 + 64 * n.val) 0 16 v.val else wrDesc src (0x3000 + 64 * n.val) 0 32 v.val) 0
      ((x.toNat + y.toNat * 2 + z.toNat * 4) * 2 ^ (32 + 3 * n.val))) := rfl

theorem fbCfgWrite_starts (configure : s.mode = .configure) (idle : s.per.running = false) (n : Fin 32) (serial : Bool) (v : Fin (2 ^ 256))
    (x y z : Bool) :
    let d := if serial then wrDesc src (0x3001 + 64 * n.val) 0 16 v.val else wrDesc src (0x3000 + 64 * n.val) 0 32 v.val
    let w : Wr := { obj := if serial then .fbSerial else .fbCfg, inst := n.val, off := 0, len := if serial then 16 else 32, data := d.inline }
    s.atApplication src d = true → s.fenced (.fb n.val) = false →
    (w.reserved = true → exec (.fbCfgWrite src n serial v x y z) s = .fault .reservedField) ∧
    (w.reserved = false → ∃ t, exec (.fbCfgWrite src n serial v x y z) s = .next t ∧ t.obj w.obj n.val 0 = w.entry s 0 ∧
      (t.fbs n.val).quadErr = (s.fbs n.val).quadErr ∧
      (t.fld F.FB_CFG_MODE n.val = 1 → (t.fbs n.val).count = 0 ∧ (t.fbs n.val).levels = x.toNat + y.toNat * 2 + z.toNat * 4)) := by
  intro d w acts free
  obtain ⟨bits, small⟩ := fbLands_bits n x y z
  rw [exec_fbCfgWrite]
  cases serial with
  | false =>
    have shows := fbCfg_starts (fbCfg_id n).1 n.isLt (by decide) (Or.inl rfl) (fbCfg_touched n.val v.val).1 configure idle free
      (by rw [bits]; exact small) acts
    rw [bits] at shows
    exact shows
  | true =>
    have shows := fbCfg_starts (fbCfg_id n).2 n.isLt (by decide) (Or.inr rfl) (fbCfg_touched n.val v.val).2 configure idle free
      (by rw [bits]; exact small) acts
    rw [bits] at shows
    exact shows

/-! ### Emulation outputs -/

theorem State.emus_setEmus_ne (s : State) {n m : Nat} (v : EmuSt) (h : m ≠ n) : (s.setEmus n v).emus m = s.emus m := by
  rw [State.emus, State.setEmus, SMap.get_set_ne h, State.emus]

theorem State.emus_setEmus_same (s : State) (n : Nat) (v : EmuSt) : (s.setEmus n v).emus n = v := SMap.get_set_same ..

theorem State.emuCfg_starts (s : State) (e : Nat) : s.emuCfg e = { s with emu := (s.emuCfg e).emu } ∧ ((s.emuCfg e).emus e).e0 = 0 ∧
    (s.fld F.EMU_CFG_MODE e ≠ 3 → ((s.emuCfg e).emus e).counter = 0) ∧ ∀ k, k ≠ e → (s.emuCfg e).emus k = s.emus k := by
  refine ⟨rfl, ?_, fun mode => ?_, fun k hk => State.emus_setEmus_ne _ _ hk⟩
  · rw [State.emuCfg, State.emus_setEmus_same]
  · rw [State.emuCfg, State.emus_setEmus_same]
    exact if_neg mode

theorem emuCfg_id (e : Fin 8) : objOf (0x3800 + 64 * e.val) = some .emuCfg ∧ instOf? (0x3800 + 64 * e.val) .emuCfg = some e.val := by
  decide +revert +kernel

theorem emuCfg_touched (e data : Nat) : 0 ∈ (wrOf .emuCfg e 0 8 data).touched :=
  show 0 ∈ (wrOf .emuCfg 0 0 8 0).touched by decide +kernel

theorem exec_emuCfgWrite (src : Src) (e : Fin 8) (v : Fin (2 ^ 64)) (s : State) :
    exec (.emuCfgWrite src e v) s = s.runWrite src (0x3800 + 64 * e.val) 0 8 v.val := rfl

theorem State.runWrite_eq (s : State) (src : Src) (id off len data : Nat) :
    s.runWrite src id off len data = outOf (s.runDesc src (wrDesc src id off len data) data 0) := rfl

/-- A write that starts an emulation output afresh, in CONFIGURE. -/
theorem emuCfgWrite_starts (configure : s.mode = .configure) (e : Fin 8) (v : Fin (2 ^ 64)) :
    let d := wrDesc src (0x3800 + 64 * e.val) 0 8 v.val
    let w : Wr := { obj := .emuCfg, inst := e.val, off := 0, len := 8, data := v.val }
    s.atApplication src d v.val = true →
    (w.reserved = true → exec (.emuCfgWrite src e v) s = .fault .reservedField) ∧
    (w.reserved = false → ∃ t, exec (.emuCfgWrite src e v) s = .next t ∧ t.obj .emuCfg e.val 0 = w.entry s 0 ∧
      (t.emus e.val).e0 = 0 ∧ (t.fld F.EMU_CFG_MODE e.val ≠ 3 → (t.emus e.val).counter = 0) ∧ ∀ k, k ≠ e.val → t.emus k = s.emus k) := by
  intro d w acts
  have hw : w = wrOf .emuCfg e.val 0 8 v.val := by rw [wrOf, show v.val % 2 ^ (8 * 8) = v.val from Nat.mod_eq_of_lt v.isLt]
  rw [hw, exec_emuCfgWrite, State.runWrite_eq]
  obtain ⟨b, h⟩ := begun_of acts
  have effect := b.effect_objWrite (s := s) (src := src) (host := v.val) (off := 0) (data := v.val) (len := 8) (param := 0)
    (emuCfg_id e).1 (emuCfg_id e).2 (Or.inr rfl) 0
  refine ⟨fun reserved => h.configured_faults 0 ?_, fun reserved => ?_⟩
  · rw [ite_self, effect, State.objWrite_of_reserved reserved]
  generalize wr : wrOf .emuCfg e.val 0 8 v.val = w' at effect reserved
  obtain ⟨only, e0, count, others⟩ := (b.applyRw w').emuCfg_starts e.val
  have obj : w'.obj = .emuCfg ∧ w'.inst = e.val := by rw [← wr]; exact ⟨rfl, rfl⟩
  have small : w'.inst < 256 := by rw [obj.2]; omega
  have run : b.effect (s.held src (wrDesc src (0x3800 + 64 * e.val) 0 8 v.val) v.val) (if s.per.running then 0 else 0) =
      .ok ((b.applyRw w').emuCfg e.val, some done) := by
    rw [ite_self, effect, State.objWrite_of_allowed reserved (State.writeAllowed_configure (h.mode.trans configure) (by rw [obj.1]; decide)
      (by rw [obj.1]; decide)) (State.writeFenced_none (by rw [← wr]; rfl) (by rw [obj.1]; decide) (by rw [obj.1]; decide)), ← wr]
    exact rfl
  have written := b.applyRw_objsOnly w'
  obtain ⟨t, ran, same, frame⟩ := h.configured_both 0 run (by rw [only]; exact written.host)
  have emus : ∀ k, t.emus k = ((b.applyRw w').emuCfg e.val).emus k := fun k => by rw [frame, State.emus, State.emus]
  have fld : t.fld F.EMU_CFG_MODE e.val = (b.applyRw w').fld F.EMU_CFG_MODE e.val := by
    rw [same.fld (by decide) (by omega), only, State.fld, State.fld]
    rfl
  refine ⟨t, ran, ?_, ?_, fun mode => ?_, fun k hk => ?_⟩
  · rw [same .emuCfg e.val 0 (by decide) (by omega) (by decide), only]
    have entry := b.applyRw_obj small (e := 0) (by decide)
    rw [if_pos (by rw [← wr]; exact emuCfg_touched _ _), obj.1, obj.2] at entry
    refine entry.trans (Wr.entry_congr ?_)
    rw [obj.1, obj.2]
    exact h.obj (by decide) (by omega) (by decide)
  · rw [emus, e0]
  · rw [emus, count (by rw [← fld]; exact mode)]
  · rw [emus, others k hk, State.emus, written, State.emus, h.emu]

/-! ### Debounce of the field inputs -/

theorem State.dis_setDis_same (s : State) (n : Nat) (v : DiSt) : (s.setDis n v).dis n = v := SMap.get_set_same ..

theorem State.dis_setDis_ne (s : State) {n m : Nat} (v : DiSt) (h : m ≠ n) : (s.setDis n v).dis m = s.dis m := by
  rw [State.dis, State.setDis, SMap.get_set_ne h, State.dis]

/-- Every input's filter starts again. -/
theorem State.diRestart_starts (s : State) : s.diRestart = { s with fio := s.diRestart.fio } ∧
    ∀ k < 32, (s.diRestart.dis k).run = 0 ∧ (s.diRestart.dis k).known = false := by
  have upto : ∀ n, let t := s.forRange n fun s i => s.setDis i { s.dis i with known := false, run := 0 }
      t = { s with fio := t.fio } ∧ ∀ k < n, (t.dis k).run = 0 ∧ (t.dis k).known = false := by
    intro n
    induction n with
    | zero => exact ⟨rfl, fun k hk => absurd hk (Nat.not_lt_zero k)⟩
    | succ n ih =>
      obtain ⟨frame, restarted⟩ := ih
      dsimp only
      rw [State.forRange_succ]
      generalize s.forRange n (fun s i => s.setDis i { s.dis i with known := false, run := 0 }) = t at frame restarted
      refine ⟨by rw [State.setDis, frame], fun k hk => ?_⟩
      by_cases here : k = n
      · rw [here, State.dis_setDis_same]
        exact ⟨rfl, rfl⟩
      · rw [State.dis_setDis_ne _ _ here]
        exact restarted k (by omega)
  exact upto 32

abbrev diWr (i data : Nat) : Wr := wrOf .fioDiCfg 0 (4 * i) 4 data

theorem fioDiCfg_id : objOf 0xA000 = some .fioDiCfg ∧ instOf? 0xA000 .fioDiCfg = some 0 := by decide +kernel

theorem fioDiCfg_masks : Obj.accMask .fioDiCfg .ro + Obj.accMask .fioDiCfg .rw + Obj.accMask .fioDiCfg .w1c + Obj.accMask .fioDiCfg .wo = 2 ^ 18 - 1 ∧
    Obj.accMask .fioDiCfg .rw = 2 ^ 18 - 1 ∧ Obj.accMask .fioDiCfg .w1c = 0 := by decide +kernel

theorem diData_bits (deb : Fin (2 ^ 16)) (pulsed inv : Bool) : deb.val + pulsed.toNat * 2 ^ 16 + inv.toNat * 2 ^ 17 < 2 ^ 18 ∧
    getBits (deb.val + pulsed.toNat * 2 ^ 16 + inv.toNat * 2 ^ 17) 0 16 = deb.val ∧
    getBits (deb.val + pulsed.toNat * 2 ^ 16 + inv.toNat * 2 ^ 17) 16 1 = pulsed.toNat ∧
    getBits (deb.val + pulsed.toNat * 2 ^ 16 + inv.toNat * 2 ^ 17) 17 1 = inv.toNat := by
  have hp := pulsed.toNat_lt
  have hi := inv.toNat_lt
  simp only [getBits]
  omega

section
variable {i data : Nat}

theorem diWr_bits (small : data < 2 ^ 18) : (diWr i data).bits i = data := by
  refine (Wr.bits_word rfl rfl rfl).trans ?_
  show data % 2 ^ (8 * 4) % 2 ^ 32 = data
  rw [Nat.mod_mod, Nat.mod_eq_of_lt (by omega)]

theorem diWr_covered : (diWr i data).covered i = 2 ^ 18 - 1 := by
  rw [Wr.covered, Wr.mask_word rfl rfl rfl]
  show Obj.accMask .fioDiCfg .rw &&& (2 ^ 32 - 1) = _
  rw [fioDiCfg_masks.2.1]
  rfl

theorem diWr_reserved (hi : i < 32) (small : data < 2 ^ 18) : (diWr i data).reserved = false :=
  Wr.reserved_of_within (Wr.touched_word rfl rfl rfl hi) fioDiCfg_masks.1
    (by rw [diWr_bits small, Nat.and_two_pow_sub_one_eq_mod, Nat.mod_eq_of_lt small])

theorem diWr_field (v : State) (hi : i < 32) (small : data < 2 ^ 18) {f : Fld} (obj : f.obj = .fioDiCfg)
    (whole : getBits (2 ^ 18 - 1) f.lo f.width = 2 ^ f.width - 1) : (v.applyRw (diWr i data)).fld f 0 i = getBits data f.lo f.width := by
  have mem : i ∈ (diWr i data).touched := by
    rw [show (diWr i data).touched = [i] from Wr.touched_word rfl rfl rfl hi]
    exact List.mem_singleton_self i
  refine (v.applyRw_fld_covered (w := diWr i data) (show 0 < 256 by decide) obj mem fioDiCfg_masks.2.2 (by rw [diWr_covered, whole])).trans ?_
  rw [Wr.act, diWr_bits small]

end

theorem exec_fioDiCfgWrite (src : Src) (i : Fin 32) (deb : Fin (2 ^ 16)) (pulsed inv : Bool) (s : State) :
    exec (.fioDiCfgWrite src i deb pulsed inv) s =
      s.runWrite src 0xA000 (4 * i.val) 4 (deb.val + pulsed.toNat * 2 ^ 16 + inv.toNat * 2 ^ 17) := rfl

theorem fioDiCfgWrite_restarts {i data deb : Nat} {pulsed inv : Bool} (configure : s.mode = .configure) (hi : i < 32) (small : data < 2 ^ 18)
    (hdeb : getBits data 0 16 = deb) (hpulsed : getBits data 16 1 = pulsed.toNat) (hinv : getBits data 17 1 = inv.toNat)
    (acts : s.atApplication src (wrDesc src 0xA000 (4 * i) 4 data) data = true) :
    ∃ t, s.runWrite src 0xA000 (4 * i) 4 data = .next t ∧ t.fld F.FIO_DI_CFG_DEB 0 i = deb ∧ t.bit F.FIO_DI_CFG_PULSED 0 i = pulsed ∧
      t.bit F.FIO_DI_CFG_INV 0 i = inv ∧ ∀ k < 32, (t.dis k).run = 0 ∧ (t.dis k).known = false := by
  rw [State.runWrite_eq]
  obtain ⟨b, h⟩ := begun_of acts
  obtain ⟨only, restarted⟩ := (b.applyRw (diWr i data)).diRestart_starts
  have written := b.applyRw_objsOnly (diWr i data)
  have run : b.effect (s.held src (wrDesc src 0xA000 (4 * i) 4 data) data) (if s.per.running then 0 else 0) =
      .ok ((b.applyRw (diWr i data)).diRestart, some done) := by
    rw [ite_self, State.effect_objWrite b fioDiCfg_id.1 fioDiCfg_id.2 (Or.inr rfl) 0, State.objWrite_of_allowed (diWr_reserved hi small)
      (State.writeAllowed_configure (h.mode.trans configure) (show WriteIn.config ≠ .service by decide) (Obj.noConfusion ·))
      (State.writeFenced_none rfl (Obj.noConfusion ·) (Obj.noConfusion ·))]
    exact rfl
  obtain ⟨t, ran, same, frame⟩ := h.configured_both 0 run (by rw [only]; exact written.host)
  have objs : (b.applyRw (diWr i data)).diRestart.objs = (b.applyRw (diWr i data)).objs := by rw [only]
  have fld : ∀ f : Fld, f.obj = .fioDiCfg → t.fld f 0 i = (b.applyRw (diWr i data)).fld f 0 i := fun f obj => by
    rw [State.fld, same f.obj 0 i (by rw [obj]; decide) (by decide) (by omega), State.obj, objs, State.fld, State.obj]
  have bit : ∀ (f : Fld) (x : Bool), t.fld f 0 i = x.toNat → t.bit f 0 i = x := fun f x value => by rw [State.bit, value]; cases x <;> rfl
  refine ⟨t, ran, ?_, bit _ _ ?_, bit _ _ ?_, fun k hk => ?_⟩
  · exact (fld _ rfl).trans ((diWr_field b hi small rfl (by decide)).trans hdeb)
  · exact (fld _ rfl).trans ((diWr_field b hi small rfl (by decide)).trans hpulsed)
  · exact (fld _ rfl).trans ((diWr_field b hi small rfl (by decide)).trans hinv)
  · rw [show t.dis k = (b.applyRw (diWr i data)).diRestart.dis k by rw [frame, State.dis, State.dis]]
    exact restarted k hk

/-! ### The receive queue of a CAN channel -/

abbrev rxqWr (c data : Nat) : Wr := wrOf .canRxctl c 2 2 data

theorem canRxctl_id (c : Fin 4) : objOf (0x9004 + 64 * c.val) = some .canRxctl ∧ instOf? (0x9004 + 64 * c.val) .canRxctl = some c.val := by
  decide +revert +kernel

theorem rxqWr_values (c : Nat) (cons : Fin 256) (phase : Bool) :
    (rxqWr c (cons.val + phase.toNat * 2 ^ 8)).reserved = false ∧ (rxqWr c (cons.val + phase.toNat * 2 ^ 8)).act F.CAN_RXCTL_CONS = cons.val ∧
      (rxqWr c (cons.val + phase.toNat * 2 ^ 8)).act F.CAN_RXCTL_CONS_PHASE = phase.toNat :=
  show (rxqWr 0 (cons.val + phase.toNat * 2 ^ 8)).reserved = false ∧ (rxqWr 0 (cons.val + phase.toNat * 2 ^ 8)).act F.CAN_RXCTL_CONS = cons.val ∧
      (rxqWr 0 (cons.val + phase.toNat * 2 ^ 8)).act F.CAN_RXCTL_CONS_PHASE = phase.toNat by decide +revert +kernel

theorem rxqWr_covered (c data : Nat) : 0 ∈ (rxqWr c data).touched ∧ getBits ((rxqWr c data).covered 0) 16 8 = 2 ^ 8 - 1 ∧
    getBits ((rxqWr c data).covered 0) 24 1 = 2 ^ 1 - 1 ∧ getBits ((rxqWr c data).covered 0) 0 8 = 0 :=
  show 0 ∈ (rxqWr 0 0).touched ∧ getBits ((rxqWr 0 0).covered 0) 16 8 = 2 ^ 8 - 1 ∧
    getBits ((rxqWr 0 0).covered 0) 24 1 = 2 ^ 1 - 1 ∧ getBits ((rxqWr 0 0).covered 0) 0 8 = 0 by decide +kernel

theorem exec_canRxqRelease (src : Src) (c : Fin 4) (cons : Fin 256) (phase : Bool) (s : State) :
    exec (.canRxqRelease src c cons phase) s = s.runWrite src (0x9004 + 64 * c.val) 2 2 (cons.val + phase.toNat * 2 ^ 8) := rfl

section
variable {c : Fin 4} {data : Nat}

theorem rxqActs (c : Fin 4) (reserved : (rxqWr c.val data).reserved = false) : Acts .canRxctl c.val 2 2 data fun b => b.applyRw (rxqWr c.val data) where
  effect _ _ := rfl
  reserved := reserved
  per b := (b.applyRw_objsOnly _).per
  host b := (b.applyRw_objsOnly _).host

theorem canRxqRelease_moves {cons : Nat} {phase : Bool} (running : s.per.running = true) (free : s.fenced (.can c.val) = false)
    (reserved : (rxqWr c.val data).reserved = false) (hcons : (rxqWr c.val data).act F.CAN_RXCTL_CONS = cons)
    (hphase : (rxqWr c.val data).act F.CAN_RXCTL_CONS_PHASE = phase.toNat)
    (acts : s.atApplication src (wrDesc src (0x9004 + 64 * c.val) 2 2 data) data = true) :
    ∃ t, s.runWrite src (0x9004 + 64 * c.val) 2 2 data = .next t ∧ t.endedWith src 0x00 ∧ t.fld F.CAN_RXCTL_CONS c.val = cons ∧
      t.bit F.CAN_RXCTL_CONS_PHASE c.val = phase ∧ t.fld F.CAN_RXCTL_PROD c.val = s.fld F.CAN_RXCTL_PROD c.val ∧ s.notedIn t [.canRxctl] := by
  obtain ⟨b, h⟩ := begun_of acts
  obtain ⟨runs, ended⟩ := h.acts running (rxqActs c reserved) (canRxctl_id c) (State.writeAllowed_always rfl rfl)
    ((State.writeFenced_block rfl).trans (if_neg (Bool.eq_false_iff.mp ((h.fenced _).trans free))))
  obtain ⟨mem, whole, whole', none_⟩ := rxqWr_covered c.val data
  have small : (rxqWr c.val data).inst < 256 := show c.val < 256 by omega
  have w1c : (rxqWr c.val data).obj.accMask .w1c = 0 := show Obj.accMask .canRxctl .w1c = 0 by decide +kernel
  have phase' : (b.applyRw (rxqWr c.val data)).fld F.CAN_RXCTL_CONS_PHASE c.val = phase.toNat :=
    (b.applyRw_fld_covered (w := rxqWr c.val data) small rfl mem w1c whole').trans hphase
  refine ⟨_, runs, ended, ?_, ?_, ?_, ?_⟩
  · exact (State.acted_fld (f := F.CAN_RXCTL_CONS) (i := c.val) (e := 0) ..).trans
      ((b.applyRw_fld_covered (w := rxqWr c.val data) small rfl mem w1c whole).trans hcons)
  · rw [State.acted_bit, State.bit, phase']
    cases phase <;> rfl
  · exact ((State.acted_fld (f := F.CAN_RXCTL_PROD) (i := c.val) (e := 0) ..).trans
      (b.applyRw_fld_outside (w := rxqWr c.val data) small rfl (by decide) w1c none_)).trans (h.same.fld (by decide) (by omega))
  · exact h.acted_notedIn (s' := s) (b.applyRw_sameObjs small) rfl rfl (State.objsOnly.frame (b.applyRw_objsOnly _) h) done

theorem canRxqRelease_fenced (running : s.per.running = true) (fenced : s.fenced (.can c.val) = true) (reserved : (rxqWr c.val data).reserved = false)
    (acts : s.atApplication src (wrDesc src (0x9004 + 64 * c.val) 2 2 data) data = true) :
    ∃ t, s.runWrite src (0x9004 + 64 * c.val) 2 2 data = .next t ∧ t.endedWith src 0x04 ∧ s.notedIn t [] := by
  obtain ⟨b, h⟩ := begun_of acts
  have effect : b.objWrite (rxqWr c.val data) 0 (s.refOf src) 0 = .ok (b, some (blockReset 3)) := by
    rw [State.objWrite_of_fenced reserved (State.writeAllowed_always rfl rfl)
      ((State.writeFenced_block rfl).trans (if_pos ((h.fenced _).trans fenced)))]
  obtain ⟨runs, ended⟩ := h.write_ends running (canRxctl_id c) effect (by rw [h.running, running]) h.carries
  exact ⟨_, runs, ended, h.acted_notedIn (s' := s) (t := b) (SameObjs.refl _ _) rfl rfl (State.objsOnly.frame rfl h) _⟩

end

/-- Settles O42. -/
theorem configurationWrites : Obligations.ConfigurationWrites := by
  unfold Obligations.ConfigurationWrites
  refine fun src s => ⟨fun configure idle n serial v x y z => fbCfgWrite_starts configure idle n serial v x y z,
    fun configure e v => emuCfgWrite_starts configure e v, fun configure i deb pulsed inv => ?_, fun running c cons phase => ?_⟩
  · obtain ⟨small, hdeb, hpulsed, hinv⟩ := diData_bits deb pulsed inv
    rw [exec_fioDiCfgWrite]
    exact fioDiCfgWrite_restarts configure i.isLt small hdeb hpulsed hinv
  · obtain ⟨reserved, hcons, hphase⟩ := rxqWr_values c.val cons phase
    rw [exec_canRxqRelease]
    exact fun acts => ⟨fun free => canRxqRelease_moves running free reserved hcons hphase acts,
      fun fenced => canRxqRelease_fenced running fenced reserved acts⟩

end

end Sys2Proof.Machine
end

section
/-! The statement of UNFREEZE, EXPORT_SETUP and REPLAY_LOAD (R408, R412, R414). -/

set_option Elab.async false

namespace Sys2Proof.Machine

section
variable {s b : State} {src : Src} {d : Desc} {host : Nat}

/-! ### UNFREEZE -/

theorem unfreeze_acts : Acts .survCtrl 0 0 1 0x01 State.unfreeze where
  effect b ref := by
    have acts : (wrOf .survCtrl 0 0 1 0x01).actBit F.SURV_CTRL_UNFREEZE = true ∧ (wrOf .survCtrl 0 0 1 0x01).actBit F.SURV_CTRL_CLR = false := by
      decide +kernel
    have effect : b.objEffect (wrOf .survCtrl 0 0 1 0x01) 0 ref 0 =
      okWrite (b.survCtrl ((wrOf .survCtrl 0 0 1 0x01).actBit F.SURV_CTRL_UNFREEZE) ((wrOf .survCtrl 0 0 1 0x01).actBit F.SURV_CTRL_CLR)) := rfl
    rw [effect, acts.1, acts.2]
    rfl
  reserved := by decide +kernel
  per _ := rfl
  host _ := rfl

theorem unfreeze_records (running : s.per.running = true) (acts : s.atApplication src (wrDesc src 0xC002 0 1 0x01) 0x01 = true) :
    ∃ t, exec (.unfreeze src) s = .next t ∧ t.endedWith src 0x00 ∧
      ({ s with surv := { s.surv with state := 0, bbDue := false } } : State).notedIn t [] := by
  obtain ⟨b, h⟩ := begun_of acts
  obtain ⟨runs, ended⟩ := h.acts running unfreeze_acts (by decide +kernel) (State.writeAllowed_always rfl rfl)
    (State.writeFenced_none rfl (Obj.noConfusion ·) (Obj.noConfusion ·))
  refine ⟨_, runs, ended, h.acted_notedIn (SameObjs.of_objs (by rfl) _) (by rfl) (by rfl) ?_ _⟩
  rw [h.frame]
  rfl

end

/-! ### EXPORT_SETUP -/

/-- The export file withdrawn. -/
def State.exportCleared (s : State) : State := { s.setBit F.SURV_EXPORT_READY false with surv := { s.surv with export_ := none } }

/-- The export file made of its pieces, when they stand and can be signed (R412). -/
def State.exportMade (s : State) (pieces : Option (List Piece)) : State × Result :=
  if s.bit F.SURV_EXPORT_SIGN && s.sec.priv.isNone then (s, { status := 0x07, detail := 0x5 })
  else
    match pieces with
    | none => (s, { status := 0x07, detail := 0x4 })
    | some ps =>
      let r := if s.bit F.SURV_EXPORT_SIGN then
          let st := s.signed (sha256 (ps.flatMap (·.bytes)))
          (ps ++ [⟨.fixed, sectionBytes 4 st.1⟩], st.2)
        else (ps, s)
      (((({ r.2 with surv := { r.2.surv with export_ := some r.1 } }).setBit F.SURV_EXPORT_READY true).setFld F.SURV_EXPORT_SIZE
        ((r.1.map fun p : Piece => p.bytes.length).foldl (· + ·) 0)), { status := 0x00 })

theorem State.exportSetup_made (s : State) : ∃ pieces, s.exportSetup = s.exportCleared.exportMade pieces := ⟨_, rfl⟩

/-- What an EXPORT_SETUP changes: SURV.EXPORT, the survey's file and the generator of the signatures. -/
def State.exportOnly (s t : State) : Prop :=
  t = { s with objs := t.objs, surv := t.surv, sec := t.sec } ∧ SameObjs [.survExport] s t ∧
    ∀ f : Fld, f.obj = .survExport → F.SURV_EXPORT_READY.apart f → F.SURV_EXPORT_SIZE.apart f → t.fld f = s.fld f

theorem State.exportOnly.trans {s t u : State} (h : s.exportOnly t) (h' : t.exportOnly u) : s.exportOnly u := by
  obtain ⟨frame, same, fields⟩ := h
  obtain ⟨frame', same', fields'⟩ := h'
  exact ⟨by rw [frame', frame], same.trans same', fun f obj ready size => (fields' f obj ready size).trans (fields f obj ready size)⟩

theorem State.exportOnly_of_objs {s t : State} (frame : t = { s with surv := t.surv, sec := t.sec }) : s.exportOnly t := by
  refine ⟨by rw [frame], SameObjs.of_objs (by rw [frame]) _, fun f _ _ _ => ?_⟩
  rw [frame]
  rfl

theorem State.exportOnly_set {s : State} (f : Fld) (v : Nat) (obj : f.obj = .survExport)
    (off : ∀ g : Fld, F.SURV_EXPORT_READY.apart g → F.SURV_EXPORT_SIZE.apart g → f.apart g) : s.exportOnly (s.setFld f v) := by
  refine ⟨?_, ?_, fun g here ready size => s.fld_setFld_bits _ _ _ (here.trans obj.symm) (off g ready size)⟩
  · have only := s.setFld_objsOnly f v 0 0
    generalize s.setFld f v 0 0 = t at only
    rw [only]
  · have same := s.setFld_sameObjs_at f v (i := 0) (e := 0) (by decide) (by decide)
    rwa [obj] at same

theorem State.exportOnly_ready (s : State) (v : Bool) : s.exportOnly (s.setBit F.SURV_EXPORT_READY v) :=
  State.exportOnly_set F.SURV_EXPORT_READY _ rfl fun _ ready _ => ready

theorem State.exportOnly_size (s : State) (v : Nat) : s.exportOnly (s.setFld F.SURV_EXPORT_SIZE v) :=
  State.exportOnly_set F.SURV_EXPORT_SIZE _ rfl fun _ _ size => size

theorem State.exportCleared_only (s : State) : s.exportOnly s.exportCleared :=
  (s.exportOnly_ready false).trans (State.exportOnly_of_objs rfl)

/-- An export file that was made: ready, with the size of its pieces. -/
def State.exportStands (s : State) : Prop := s.bit F.SURV_EXPORT_READY = true ∧ ∃ ps, s.surv.export_ = some ps ∧
  s.fld F.SURV_EXPORT_SIZE = (ps.map fun p : Piece => p.bytes.length).foldl (· + ·) 0 % 2 ^ 64

/-- No export file. -/
def State.exportNone (s : State) : Prop := s.bit F.SURV_EXPORT_READY = false ∧ s.surv.export_ = none

theorem State.exportCleared_none (s : State) : s.exportCleared.exportNone := ⟨s.bit_setBit_same F.SURV_EXPORT_READY false 0 0 rfl, rfl⟩

theorem State.exportShown_stands (v : State) (ps : List Piece) : v.exportOnly (((({ v with surv := { v.surv with export_ := some ps } }).setBit
    F.SURV_EXPORT_READY true).setFld F.SURV_EXPORT_SIZE ((ps.map fun p : Piece => p.bytes.length).foldl (· + ·) 0))) ∧
    (((({ v with surv := { v.surv with export_ := some ps } }).setBit F.SURV_EXPORT_READY true).setFld F.SURV_EXPORT_SIZE
      ((ps.map fun p : Piece => p.bytes.length).foldl (· + ·) 0))).exportStands := by
  have file : v.exportOnly { v with surv := { v.surv with export_ := some ps } } := State.exportOnly_of_objs rfl
  have hu : ({ v with surv := { v.surv with export_ := some ps } } : State).surv.export_ = some ps := rfl
  generalize ({ v with surv := { v.surv with export_ := some ps } } : State) = u at file hu
  refine ⟨(file.trans (u.exportOnly_ready true)).trans (State.exportOnly_size ..), ?_, ps, hu, State.fld_setFld_same ..⟩
  rw [State.bit, State.fld_setFld_bits (f := F.SURV_EXPORT_SIZE) (g := F.SURV_EXPORT_READY) _ _ _ _ rfl (Or.inl (by decide)), ← State.bit,
    u.bit_setBit_same F.SURV_EXPORT_READY _ _ _ rfl]

theorem State.exportMade_shows (s : State) (cleared : s.exportNone) (pieces : Option (List Piece)) : s.exportOnly (s.exportMade pieces).1 ∧
    (((s.exportMade pieces).2.status = 0x00 ∧ (s.exportMade pieces).1.exportStands) ∨
      ((s.exportMade pieces).2.status = 0x07 ∧ (s.exportMade pieces).1.exportNone)) ∧
    (s.bit F.SURV_EXPORT_SIGN = true → s.sec.priv = none → (s.exportMade pieces).1.surv.export_ = none) := by
  have same : s.exportOnly s := State.exportOnly_of_objs rfl
  unfold State.exportMade
  by_cases unsigned : (s.bit F.SURV_EXPORT_SIGN && s.sec.priv.isNone) = true
  · rw [if_pos unsigned]
    exact ⟨same, Or.inr ⟨rfl, cleared⟩, fun _ _ => cleared.2⟩
  rw [if_neg unsigned]
  cases pieces with
  | none => exact ⟨same, Or.inr ⟨rfl, cleared⟩, fun _ _ => cleared.2⟩
  | some ps =>
    dsimp only
    have noKey : s.bit F.SURV_EXPORT_SIGN = true → s.sec.priv = none → False := fun sign none_ => unsigned (by rw [sign, none_]; rfl)
    by_cases sign : s.bit F.SURV_EXPORT_SIGN = true
    · rw [if_pos sign]
      have signing : s.exportOnly (s.signed (sha256 (ps.flatMap (·.bytes)))).2 := State.exportOnly_of_objs rfl
      obtain ⟨only, stands⟩ := (s.signed (sha256 (ps.flatMap (·.bytes)))).2.exportShown_stands
        (ps ++ [⟨.fixed, sectionBytes 4 (s.signed (sha256 (ps.flatMap (·.bytes)))).1⟩])
      exact ⟨signing.trans only, Or.inl ⟨rfl, stands⟩, fun sign none_ => (noKey sign none_).elim⟩
    · rw [if_neg sign]
      obtain ⟨only, stands⟩ := s.exportShown_stands ps
      exact ⟨only, Or.inl ⟨rfl, stands⟩, fun here _ => absurd here sign⟩

theorem State.exportSetup_shows (s : State) : s.exportOnly s.exportSetup.1 ∧
    ((s.exportSetup.2.status = 0x00 ∧ s.exportSetup.1.exportStands) ∨ (s.exportSetup.2.status = 0x07 ∧ s.exportSetup.1.exportNone)) ∧
    (s.bit F.SURV_EXPORT_SIGN = true → s.sec.priv = none → s.exportSetup.1.surv.export_ = none) := by
  obtain ⟨pieces, made⟩ := s.exportSetup_made
  obtain ⟨only, ends, unsigned⟩ := s.exportCleared.exportMade_shows s.exportCleared_none pieces
  have cleared := s.exportCleared_only
  rw [← made] at only ends unsigned
  refine ⟨cleared.trans only, ends, fun sign none_ => unsigned ?_ none_⟩
  rw [State.bit, cleared.2.2 F.SURV_EXPORT_SIGN rfl (Or.inr (by decide)) (Or.inl (by decide)), ← State.bit, sign]

section
variable {s b : State} {src : Src} {d : Desc} {host data : Nat}

abbrev exportWr (data : Nat) : Wr := wrOf .survExport 0 0 16 data

theorem survExport_named : objOf 0xC003 = some .survExport ∧ instOf? 0xC003 .survExport = some 0 := by decide +kernel

theorem survExport_masks : Obj.accMask .survExport .ro + Obj.accMask .survExport .rw + Obj.accMask .survExport .w1c + Obj.accMask .survExport .wo =
    0x1F + (2 ^ 160 - 1) * 2 ^ 32 ∧ Obj.accMask .survExport .w1c = 0 := by decide +kernel

theorem exportWr_covered (data : Nat) : (exportWr data).touched = [0] ∧ getBits ((exportWr data).covered 0) 0 2 = 2 ^ 2 - 1 ∧
    getBits ((exportWr data).covered 0) 4 1 = 2 ^ 1 - 1 ∧ getBits ((exportWr data).covered 0) 64 32 = 2 ^ 32 - 1 ∧
    getBits ((exportWr data).covered 0) 96 32 = 2 ^ 32 - 1 :=
  show (exportWr 0).touched = [0] ∧ getBits ((exportWr 0).covered 0) 0 2 = 2 ^ 2 - 1 ∧ getBits ((exportWr 0).covered 0) 4 1 = 2 ^ 1 - 1 ∧
    getBits ((exportWr 0).covered 0) 64 32 = 2 ^ 32 - 1 ∧ getBits ((exportWr 0).covered 0) 96 32 = 2 ^ 32 - 1 by decide +kernel

/-- The word that an EXPORT_SETUP writes. -/
structure ExportData (data kind sign first last : Nat) : Prop where
  small : data < 2 ^ 128
  within : data &&& (0x1F + (2 ^ 160 - 1) * 2 ^ 32) = data
  kind : getBits data 0 2 = kind
  setup : getBits data 2 1 = 1
  sign : getBits data 4 1 = sign
  first : getBits data 64 32 = first
  last : getBits data 96 32 = last

theorem exportData_low (kind : Fin 4) (sign : Bool) : kind.val + 0x04 + sign.toNat * 2 ^ 4 &&& 0x1F = kind.val + 0x04 + sign.toNat * 2 ^ 4 := by
  decide +revert +kernel

theorem exportData_within (kind : Fin 4) (sign : Bool) {rest : Nat} (small : rest < 2 ^ 160) :
    kind.val + 0x04 + sign.toNat * 2 ^ 4 + rest * 2 ^ 32 &&& (0x1F + (2 ^ 160 - 1) * 2 ^ 32) = kind.val + 0x04 + sign.toNat * 2 ^ 4 + rest * 2 ^ 32 := by
  have hs := sign.toNat_lt
  rw [and_split _ _ _ _ (by omega) (by decide), exportData_low, Nat.and_two_pow_sub_one_eq_mod, Nat.mod_eq_of_lt small]

theorem exportData_of (kind : Fin 4) (sign : Bool) (epoch first last : Fin (2 ^ 32)) :
    ExportData (kind.val + 0x04 + sign.toNat * 2 ^ 4 + epoch.val * 2 ^ 32 + first.val * 2 ^ 64 + last.val * 2 ^ 96)
      kind.val sign.toNat first.val last.val := by
  have hs := sign.toNat_lt
  have rest : kind.val + 0x04 + sign.toNat * 2 ^ 4 + epoch.val * 2 ^ 32 + first.val * 2 ^ 64 + last.val * 2 ^ 96 =
      kind.val + 0x04 + sign.toNat * 2 ^ 4 + (epoch.val + first.val * 2 ^ 32 + last.val * 2 ^ 64) * 2 ^ 32 := by omega
  refine ⟨by omega, ?_, ?_, ?_, ?_, ?_, ?_⟩
  · rw [rest]
    exact exportData_within kind sign (by omega)
  all_goals simp only [getBits]; omega

section
variable {kind sign first last : Nat} (w : ExportData data kind sign first last)
include w

theorem ExportData.bits : (exportWr data).bits 0 = data := by
  have data' : (exportWr data).data = data := Nat.mod_eq_of_lt w.small
  exact (Wr.bits_low rfl (show 8 * 16 ≤ 192 by decide) (by rw [data']; exact w.small)).trans data'

theorem ExportData.reserved : (exportWr data).reserved = false :=
  Wr.reserved_of_within (exportWr_covered data).1 survExport_masks.1 (by rw [w.bits, w.within])

theorem ExportData.act (f : Fld) : (exportWr data).act f = getBits data f.lo f.width := by rw [Wr.act, w.bits]

theorem ExportData.applied (v : State) : (v.applyRw (exportWr data)).fld F.SURV_EXPORT_KIND = kind ∧
    (v.applyRw (exportWr data)).fld F.SURV_EXPORT_SIGN = sign ∧ (v.applyRw (exportWr data)).fld F.SURV_EXPORT_FIRST = first ∧
    (v.applyRw (exportWr data)).fld F.SURV_EXPORT_LAST = last := by
  obtain ⟨touched, hkind, hsign, hfirst, hlast⟩ := exportWr_covered data
  have field := fun (f : Fld) (obj : f.obj = .survExport) (whole : getBits ((exportWr data).covered 0) f.lo f.width = 2 ^ f.width - 1) =>
    (v.applyRw_fld_covered (w := exportWr data) (show 0 < 256 by decide) obj (e := 0) (by rw [touched]; exact List.mem_singleton_self 0)
      survExport_masks.2 whole).trans (w.act f)
  exact ⟨(field F.SURV_EXPORT_KIND rfl hkind).trans w.kind, (field F.SURV_EXPORT_SIGN rfl hsign).trans w.sign,
    (field F.SURV_EXPORT_FIRST rfl hfirst).trans w.first, (field F.SURV_EXPORT_LAST rfl hlast).trans w.last⟩

theorem ExportData.effect (v : State) (ref : CmdRef) : v.objEffect (exportWr data) 0 ref 0 =
    if kind = 3 then .error .reservedCode else answer (v.applyRw (exportWr data)).exportSetup := by
  have setup : (exportWr data).actBit F.SURV_EXPORT_SETUP = true := by
    rw [Wr.actBit, w.act, show getBits data F.SURV_EXPORT_SETUP.lo F.SURV_EXPORT_SETUP.width = 1 from w.setup]
    rfl
  have effect : v.objEffect (exportWr data) 0 ref 0 = v.exportWrite (exportWr data) := rfl
  rw [effect, State.exportWrite, setup, (w.applied v).1]
  rfl

theorem exportSetup_reserved (three : kind = 3) (acts : s.atApplication src (wrDesc src 0xC003 0 16 data) data = true) :
    s.runWrite src 0xC003 0 16 data = .fault .reservedCode := by
  obtain ⟨b, h⟩ := begun_of acts
  refine h.write_faults survExport_named ?_
  rw [State.objWrite_of_allowed w.reserved (State.writeAllowed_always rfl rfl) (State.writeFenced_none rfl (Obj.noConfusion ·) (Obj.noConfusion ·)),
    w.effect, if_pos three]

theorem exportSetup_answers (running : s.per.running = true) (named : kind ≠ 3)
    (acts : s.atApplication src (wrDesc src 0xC003 0 16 data) data = true) :
    ∃ t, s.runWrite src 0xC003 0 16 data = .next t ∧ t.fld F.SURV_EXPORT_KIND = kind ∧ t.fld F.SURV_EXPORT_FIRST = first ∧
      t.fld F.SURV_EXPORT_LAST = last ∧ ((t.endedWith src 0x00 ∧ t.exportStands) ∨ (t.endedWith src 0x07 ∧ t.exportNone)) ∧
      (sign = 1 → s.sec.priv = none → t.surv.export_ = none) := by
  obtain ⟨b, h⟩ := begun_of acts
  have written := b.applyRw_objsOnly (exportWr data)
  obtain ⟨hkind, hsign, hfirst, hlast⟩ := w.applied b
  obtain ⟨⟨frame, same, fields⟩, ends, unsigned⟩ := (b.applyRw (exportWr data)).exportSetup_shows
  have effect : b.objWrite (exportWr data) 0 (s.refOf src) 0 =
      .ok ((b.applyRw (exportWr data)).exportSetup.1, some (b.applyRw (exportWr data)).exportSetup.2) := by
    rw [State.objWrite_of_allowed w.reserved (State.writeAllowed_always rfl rfl) (State.writeFenced_none rfl (Obj.noConfusion ·) (Obj.noConfusion ·)),
      w.effect, if_neg named, answer]
  generalize (b.applyRw (exportWr data)).exportSetup = r at frame fields ends unsigned effect
  obtain ⟨runs, ended⟩ := h.write_ends running survExport_named effect (by rw [frame, written.per, h.running, running])
    (State.carries_of_cmds h.carries (by rw [frame]; exact congrArg _ written.host))
  have field : ∀ f : Fld, f.obj = .survExport → F.SURV_EXPORT_READY.apart f → F.SURV_EXPORT_SIZE.apart f →
      (s.actedTo src (wrDesc src 0xC003 0 16 data) data b r.1 r.2).fld f = (b.applyRw (exportWr data)).fld f := fun f obj ready size => by
    rw [State.acted_fld, fields f obj ready size]
  have stands : r.1.exportStands → (s.actedTo src (wrDesc src 0xC003 0 16 data) data b r.1 r.2).exportStands := fun here => by
    unfold State.exportStands
    rw [State.acted_bit, State.acted_fld, State.acted_surv]
    exact here
  have none_ : r.1.exportNone → (s.actedTo src (wrDesc src 0xC003 0 16 data) data b r.1 r.2).exportNone := fun here => by
    unfold State.exportNone
    rw [State.acted_bit, State.acted_surv]
    exact here
  refine ⟨_, runs, ?_, ?_, ?_, ?_, fun signed key => ?_⟩
  · rw [field _ rfl (Or.inl (by decide)) (Or.inl (by decide)), hkind]
  · rw [field _ rfl (Or.inr (by decide)) (Or.inl (by decide)), hfirst]
  · rw [field _ rfl (Or.inr (by decide)) (Or.inl (by decide)), hlast]
  · obtain ⟨status, here⟩ | ⟨status, here⟩ := ends
    · rw [status] at ended
      exact Or.inl ⟨ended, stands here⟩
    · rw [status] at ended
      exact Or.inr ⟨ended, none_ here⟩
  · rw [State.acted_surv]
    exact unsigned (State.bit_of_one (hsign.trans signed)) (by rw [written, h.sec, key])

end

end

/-! ### REPLAY_LOAD -/

/-- What loading a replay changes: SURV.REPLAY but for its RW fields, and the replay loaded. -/
def State.replayOnly (s t : State) : Prop :=
  t = { s with objs := t.objs, surv := { s.surv with replay := t.surv.replay } } ∧
    t.fld F.SURV_REPLAY_FIRST = s.fld F.SURV_REPLAY_FIRST

theorem State.replayOnly_set {s : State} (f : Fld) (v : Nat) (obj : f.obj = .survReplay) (off : f.apart F.SURV_REPLAY_FIRST) :
    s.replayOnly (s.setFld f v) := by
  refine ⟨?_, s.fld_setFld_bits _ _ _ obj.symm off⟩
  have only := s.setFld_objsOnly f v 0 0
  generalize s.setFld f v 0 0 = t at only
  rw [only]

theorem State.replayOnly.trans {s t u : State} (h : s.replayOnly t) (h' : t.replayOnly u) : s.replayOnly u := by
  obtain ⟨frame, first⟩ := h
  obtain ⟨frame', first'⟩ := h'
  exact ⟨by rw [frame', frame], first'.trans first⟩

theorem State.replayOnly_surv (s : State) (r : Option ReplaySt) : s.replayOnly { s with surv := { s.surv with replay := r } } := ⟨rfl, rfl⟩

/-- The replay of before withdrawn. -/
def State.replayCleared (s : State) : State :=
  { ((s.setBit F.SURV_REPLAY_LOADED false).setFld F.SURV_REPLAY_STATE 0).setFld F.SURV_REPLAY_STOP 0 with surv := { s.surv with replay := none } }

theorem State.replayCleared_only (s : State) : s.replayOnly s.replayCleared :=
  (((State.replayOnly_set F.SURV_REPLAY_LOADED _ rfl (Or.inr (by decide))).trans
    (State.replayOnly_set F.SURV_REPLAY_STATE _ rfl (Or.inr (by decide)))).trans
    (State.replayOnly_set F.SURV_REPLAY_STOP _ rfl (Or.inr (by decide)))).trans (State.replayOnly_surv ..)

/-- A replay loads with status 0, and then stands. -/
theorem State.replayLoad_loads (s : State) (loads : s.replayLoad.2.status = 0x00) : s.replayOnly s.replayLoad.1 ∧
    s.replayLoad.1.bit F.SURV_REPLAY_LOADED = true ∧ s.replayLoad.1.surv.replay.isSome = true := by
  have cleared := s.replayCleared_only
  have load : s.replayLoad = match s.replayCleared.replaySource with
    | some (h, c, rs) =>
      if c.prog = (s.replayCleared.unitImg s.replayCleared.activeUnit).prog then
        ({ s.replayCleared.setBit F.SURV_REPLAY_LOADED true with
           surv := { s.replayCleared.surv with replay := some { hdr := h, cairn := c, records := rs, words := c.words } } }, { status := 0x00 })
      else (s.replayCleared, { status := 0x07, detail := 0x4 })
    | none => (s.replayCleared, { status := 0x07, detail := 0x4 }) := rfl
  rw [load] at loads ⊢
  generalize s.replayCleared = u at loads cleared
  split at loads
  next h c rs source =>
    split at loads
    next same =>
      rw [if_pos same]
      exact ⟨(cleared.trans (State.replayOnly_set F.SURV_REPLAY_LOADED _ rfl (Or.inr (by decide)))).trans (State.replayOnly_surv ..),
        State.bit_setBit_same u F.SURV_REPLAY_LOADED true 0 0 rfl, rfl⟩
    next => exact absurd loads (show ¬(7 = 0) by decide)
  next => exact absurd loads (show ¬(7 = 0) by decide)

section
variable {s b : State} {src : Src} {d : Desc} {host data first : Nat}

abbrev replayWr (data : Nat) : Wr := wrOf .survReplay 0 0 16 data

theorem survReplay_named : objOf 0xC004 = some .survReplay ∧ instOf? 0xC004 .survReplay = some 0 := by decide +kernel

theorem survReplay_masks : Obj.accMask .survReplay .ro + Obj.accMask .survReplay .rw + Obj.accMask .survReplay .w1c + Obj.accMask .survReplay .wo =
    0xFF + (2 ^ 96 - 1 + 0xFFFFFFFF00F1FFFFFFFFFFFF * 2 ^ 96) * 2 ^ 32 ∧ Obj.accMask .survReplay .w1c = 0 := by decide +kernel

theorem replayWr_covered (data : Nat) : (replayWr data).touched = [0] ∧ getBits ((replayWr data).covered 0) 64 32 = 2 ^ 32 - 1 :=
  show (replayWr 0).touched = [0] ∧ getBits ((replayWr 0).covered 0) 64 32 = 2 ^ 32 - 1 by decide +kernel

theorem replayData_low (upload : Bool) : upload.toNat &&& 0xFF = upload.toNat := by decide +revert +kernel

theorem replayData_within (upload : Bool) {rest : Nat} (small : rest < 2 ^ 96) :
    upload.toNat + rest * 2 ^ 32 &&& (0xFF + (2 ^ 96 - 1 + 0xFFFFFFFF00F1FFFFFFFFFFFF * 2 ^ 96) * 2 ^ 32) = upload.toNat + rest * 2 ^ 32 := by
  have hu := upload.toNat_lt
  have high := and_split rest (2 ^ 96 - 1) 0 0xFFFFFFFF00F1FFFFFFFFFFFF small (by decide)
  rw [Nat.zero_mul, Nat.add_zero, Nat.zero_and, Nat.zero_mul, Nat.add_zero, Nat.and_two_pow_sub_one_eq_mod, Nat.mod_eq_of_lt small] at high
  rw [and_split _ _ _ _ (by omega) (by decide), replayData_low, high]

theorem replayData_of (upload : Bool) (epoch first last : Fin (2 ^ 32)) :
    upload.toNat + epoch.val * 2 ^ 32 + first.val * 2 ^ 64 + last.val * 2 ^ 96 < 2 ^ 128 ∧
    upload.toNat + epoch.val * 2 ^ 32 + first.val * 2 ^ 64 + last.val * 2 ^ 96 &&&
      (0xFF + (2 ^ 96 - 1 + 0xFFFFFFFF00F1FFFFFFFFFFFF * 2 ^ 96) * 2 ^ 32) =
        upload.toNat + epoch.val * 2 ^ 32 + first.val * 2 ^ 64 + last.val * 2 ^ 96 ∧
    getBits (upload.toNat + epoch.val * 2 ^ 32 + first.val * 2 ^ 64 + last.val * 2 ^ 96) 64 32 = first.val := by
  have hu := upload.toNat_lt
  have rest : upload.toNat + epoch.val * 2 ^ 32 + first.val * 2 ^ 64 + last.val * 2 ^ 96 =
      upload.toNat + (epoch.val + first.val * 2 ^ 32 + last.val * 2 ^ 64) * 2 ^ 32 := by omega
  refine ⟨by omega, ?_, ?_⟩
  · rw [rest]
    exact replayData_within upload (by omega)
  · simp only [getBits]
    omega

theorem replayLoad_answers (configure : s.mode = .configure) (small : data < 2 ^ 128)
    (within : data &&& (0xFF + (2 ^ 96 - 1 + 0xFFFFFFFF00F1FFFFFFFFFFFF * 2 ^ 96) * 2 ^ 32) = data) (hfirst : getBits data 64 32 = first)
    (acts : s.atApplication src (wrDesc src 0xC004 0 16 data) data = true) {r : State × Result}
    (load : ((s.begun src (wrDesc src 0xC004 0 16 data) data).applyRw
      { obj := .survReplay, inst := 0, off := 0, len := 16, data := data }).replayLoad = r) :
    (r.2.status = 0x00 → ∃ t, s.runWrite src 0xC004 0 16 data = .next t ∧ t.bit F.SURV_REPLAY_LOADED = true ∧
      t.surv.replay = r.1.surv.replay ∧ t.surv.replay.isSome = true ∧ t.fld F.SURV_REPLAY_FIRST = first) ∧
    (r.2.status ≠ 0x00 → ∃ t, s.runWrite src 0xC004 0 16 data = .next t ∧ t.surv.replay = s.surv.replay ∧
      t.obj .survReplay 0 0 = s.obj .survReplay 0 0) := by
  obtain ⟨b, h⟩ := begun_of acts
  have data' : (replayWr data).data = data := Nat.mod_eq_of_lt small
  have bits : (replayWr data).bits 0 = data := (Wr.bits_low rfl (show 8 * 16 ≤ 224 by decide) (by rw [data']; exact small)).trans data'
  have reserved : (replayWr data).reserved = false :=
    Wr.reserved_of_within (replayWr_covered data).1 survReplay_masks.1 (by rw [bits, within])
  obtain ⟨touched, whole⟩ := replayWr_covered data
  have written := b.applyRw_objsOnly (replayWr data)
  have first' : (b.applyRw (replayWr data)).fld F.SURV_REPLAY_FIRST = first :=
    ((b.applyRw_fld_covered (w := replayWr data) (show 0 < 256 by decide) rfl (e := 0) (by rw [touched]; exact List.mem_singleton_self 0)
      survReplay_masks.2 whole).trans (by rw [Wr.act, bits]; rfl)).trans hfirst
  have hw : ({ obj := .survReplay, inst := 0, off := 0, len := 16, data := data } : Wr) = replayWr data := by rw [replayWr, wrOf, Nat.mod_eq_of_lt small]
  rw [h.eq, hw] at load
  have effect : b.effect (s.held src (wrDesc src 0xC004 0 16 data) data) (if s.per.running then 0 else 0) =
      answer (if r.2.status = 0x00 then r else (b, r.2)) := by
    rw [ite_self, State.effect_objWrite b survReplay_named.1 survReplay_named.2 (Or.inr rfl) 0, State.objWrite_of_allowed reserved
      (State.writeAllowed_configure (h.mode.trans configure) (show WriteIn.config ≠ .service by decide) (Obj.noConfusion ·))
      (State.writeFenced_none rfl (Obj.noConfusion ·) (Obj.noConfusion ·)), ← load]
    exact rfl
  rw [State.runWrite_eq]
  refine ⟨fun loads => ?_, fun fails => ?_⟩
  · rw [if_pos loads] at effect
    obtain ⟨⟨frame, kept⟩, loaded, stands⟩ := State.replayLoad_loads (b.applyRw (replayWr data)) (by rw [load, loads])
    rw [load] at frame kept loaded stands
    obtain ⟨t, ran, same, ends⟩ := h.configured_both 0 effect (by rw [frame]; exact written.host)
    have surv : t.surv = r.1.surv := by rw [ends]
    refine ⟨t, ran, ?_, by rw [surv], by rw [surv, stands], ?_⟩
    · rw [same.bit (by decide) (by decide), loaded]
    · rw [same.fld (by decide) (by decide), kept, first']
  · rw [if_neg fails] at effect
    obtain ⟨t, ran, same, ends⟩ := h.configured_both 0 effect rfl
    refine ⟨t, ran, by rw [ends]; exact congrArg _ h.surv, ?_⟩
    rw [same .survReplay 0 0 (by decide) (by decide) (by decide)]
    exact h.obj (by decide) (by decide) (by decide)

theorem exec_exportSetup (src : Src) (kind : Fin 4) (sign : Bool) (epoch first last : Fin (2 ^ 32)) (s : State) :
    exec (.exportSetup src kind sign epoch first last) s = s.runWrite src 0xC003 0 16
      (kind.val + 0x04 + sign.toNat * 2 ^ 4 + epoch.val * 2 ^ 32 + first.val * 2 ^ 64 + last.val * 2 ^ 96) := rfl

theorem exec_replayLoad (src : Src) (upload : Bool) (epoch first last : Fin (2 ^ 32)) (s : State) :
    exec (.replayLoad src upload epoch first last) s = s.runWrite src 0xC004 0 16
      (upload.toNat + epoch.val * 2 ^ 32 + first.val * 2 ^ 64 + last.val * 2 ^ 96) := rfl

/-- Settles O44. -/
theorem surveyActions : Obligations.SurveyActions := by
  unfold Obligations.SurveyActions
  refine fun src s => ⟨fun running acts => unfreeze_records running acts, fun running kind sign epoch first last => ?_,
    fun configure upload epoch first last => ?_⟩
  · have word := exportData_of kind sign epoch first last
    rw [exec_exportSetup]
    generalize kind.val + 0x04 + sign.toNat * 2 ^ 4 + epoch.val * 2 ^ 32 + first.val * 2 ^ 64 + last.val * 2 ^ 96 = data at word
    refine fun acts => ⟨fun three => exportSetup_reserved word three acts, fun named => ?_⟩
    obtain ⟨t, ran, hkind, hfirst, hlast, ends, unsigned⟩ := exportSetup_answers word running named acts
    exact ⟨t, ran, hkind, hfirst, hlast, ends, fun signed key => unsigned (by rw [signed]; rfl) key⟩
  · obtain ⟨small, within, hfirst⟩ := replayData_of upload epoch first last
    rw [exec_replayLoad]
    generalize upload.toNat + epoch.val * 2 ^ 32 + first.val * 2 ^ 64 + last.val * 2 ^ 96 = data at small within hfirst
    exact fun acts => replayLoad_answers configure small within hfirst acts rfl

end

end Sys2Proof.Machine
end

section
/-! The statement of the keys and the opening of service (R425 to R429). -/

set_option Elab.async false

namespace Sys2Proof.Machine

section
variable {s b : State} {src : Src} {d : Desc} {host data : Nat}

/-! ### SEC.CTRL -/

abbrev secWr (data : Nat) : Wr := wrOf .secCtrl 0 0 4 data

theorem secCtrl_named : objOf 0xE002 = some .secCtrl ∧ instOf? 0xE002 .secCtrl = some 0 := by decide +kernel

theorem secCtrl_masks : Obj.accMask .secCtrl .ro + Obj.accMask .secCtrl .rw + Obj.accMask .secCtrl .w1c + Obj.accMask .secCtrl .wo =
    0x7 + (2 ^ 16 - 1) * 2 ^ 16 := by decide +kernel

/-- What a write of SEC.CTRL asks for. -/
structure SecAsks (data : Nat) (genId openIt logErase : Bool) (code : Nat) : Prop where
  reserved : (secWr data).reserved = false
  genId : (secWr data).actBit F.SEC_CTRL_GEN_ID = genId
  openIt : (secWr data).actBit F.SEC_CTRL_OPEN = openIt
  logErase : (secWr data).actBit F.SEC_CTRL_LOG_ERASE = logErase
  code : (secWr data).act F.SEC_CTRL_CODE = code

theorem secData_bits (genId openIt logErase : Bool) (code : Fin (2 ^ 16)) :
    genId.toNat + openIt.toNat * 2 + logErase.toNat * 4 + code.val * 2 ^ 16 < 2 ^ 32 ∧
    getBits (genId.toNat + openIt.toNat * 2 + logErase.toNat * 4 + code.val * 2 ^ 16) 0 1 = genId.toNat ∧
    getBits (genId.toNat + openIt.toNat * 2 + logErase.toNat * 4 + code.val * 2 ^ 16) 1 1 = openIt.toNat ∧
    getBits (genId.toNat + openIt.toNat * 2 + logErase.toNat * 4 + code.val * 2 ^ 16) 2 1 = logErase.toNat ∧
    getBits (genId.toNat + openIt.toNat * 2 + logErase.toNat * 4 + code.val * 2 ^ 16) 16 16 = code.val := by
  have hg := genId.toNat_lt
  have ho := openIt.toNat_lt
  have hl := logErase.toNat_lt
  simp only [getBits]
  omega

theorem secData_low (genId openIt logErase : Bool) : genId.toNat + openIt.toNat * 2 + logErase.toNat * 4 &&& 0x7 =
    genId.toNat + openIt.toNat * 2 + logErase.toNat * 4 := by decide +revert +kernel

theorem secAsks_of (genId openIt logErase : Bool) (code : Fin (2 ^ 16)) :
    SecAsks (genId.toNat + openIt.toNat * 2 + logErase.toNat * 4 + code.val * 2 ^ 16) genId openIt logErase code.val := by
  have hg := genId.toNat_lt
  have ho := openIt.toNat_lt
  have hl := logErase.toNat_lt
  have within : genId.toNat + openIt.toNat * 2 + logErase.toNat * 4 + code.val * 2 ^ 16 &&& (0x7 + (2 ^ 16 - 1) * 2 ^ 16) =
      genId.toNat + openIt.toNat * 2 + logErase.toNat * 4 + code.val * 2 ^ 16 := by
    rw [and_split _ _ _ _ (by omega) (by decide), secData_low, Nat.and_two_pow_sub_one_eq_mod, Nat.mod_eq_of_lt code.isLt]
  obtain ⟨small, hgen, hopen, hlog, hcode⟩ := secData_bits genId openIt logErase code
  generalize genId.toNat + openIt.toNat * 2 + logErase.toNat * 4 + code.val * 2 ^ 16 = data at small within hgen hopen hlog hcode
  have data' : (secWr data).data = data := Nat.mod_eq_of_lt small
  have bits : (secWr data).bits 0 = data := (Wr.bits_low rfl (show 8 * 4 ≤ 32 by decide) (by rw [data']; exact small)).trans data'
  have flag : ∀ (f : Fld) (x : Bool), getBits data f.lo f.width = x.toNat → (secWr data).actBit f = x := fun f x h => by
    rw [Wr.actBit, Wr.act, bits, h]
    cases x <;> rfl
  exact ⟨Wr.reserved_of_within (show (secWr 0).touched = [0] by decide +kernel) secCtrl_masks (by rw [bits, within]),
    flag _ _ hgen, flag _ _ hopen, flag _ _ hlog, by rw [Wr.act, bits]; exact hcode⟩

section
variable {genId openIt logErase : Bool} {code : Nat} (asks : SecAsks data genId openIt logErase code)
include asks

theorem SecAsks.effect (v : State) : v.effect (s.held src (wrDesc src 0xE002 0 4 data) data) 0 =
    .ok (v.secCtrl genId openIt logErase code (s.refOf src)) := by
  have effect : v.objEffect (secWr data) 0 (s.refOf src) 0 = .ok (v.secCtrl ((secWr data).actBit F.SEC_CTRL_GEN_ID)
    ((secWr data).actBit F.SEC_CTRL_OPEN) ((secWr data).actBit F.SEC_CTRL_LOG_ERASE) ((secWr data).act F.SEC_CTRL_CODE) (s.refOf src)) := rfl
  rw [State.effect_objWrite v secCtrl_named.1 secCtrl_named.2 (Or.inr rfl) 0, State.objWrite_of_allowed asks.reserved
    (State.writeAllowed_always rfl rfl) (State.writeFenced_none rfl (Obj.noConfusion ·) (Obj.noConfusion ·)), effect,
    asks.genId, asks.openIt, asks.logErase, asks.code]

/-- An action of SEC.CTRL under another CODE is refused. -/
theorem secCtrl_refused (running : s.per.running = true) (other : code ≠ 0xA5C3)
    (acts : s.atApplication src (wrDesc src 0xE002 0 4 data) data = true) :
    ∃ t, s.runWrite src 0xE002 0 4 data = .next t ∧ t.endedWith src 0x07 ∧ s.notedIn t [] := by
  obtain ⟨b, h⟩ := begun_of acts
  have effect : b.effect (s.held src (wrDesc src 0xE002 0 4 data) data) 0 = .ok (b, some (refused 0x3)) := by
    rw [asks.effect, State.secCtrl, if_pos (Or.inl other)]
  obtain ⟨runs, ended⟩ := h.ends running 0 effect (by rw [h.running, running]) h.carries
  exact ⟨_, by rw [State.runWrite, runs]; rfl, ended, h.acted_notedIn (s' := s) (t := b) (SameObjs.refl _ _) rfl rfl (State.objsOnly.frame rfl h) _⟩

end

section
variable {code : Nat}

/-- GEN_ID in CONFIGURE, with no key (R426). -/
theorem genId_runs (asks : SecAsks data true false false 0xA5C3) (configure : s.mode = .configure) (closed : s.sec.opened = false)
    (absent : s.bit F.SEC_ID_PRESENT = false) (acts : s.atApplication src (wrDesc src 0xE002 0 4 data) data = true) :
    ∃ t, s.runWrite src 0xE002 0 4 data = .next t ∧ t.runsOn src ∧ t.sec = { s.sec with genId := s.sec.genId ++ [s.refOf src] } := by
  obtain ⟨b, h⟩ := begun_of acts
  have effect : b.effect (s.held src (wrDesc src 0xE002 0 4 data) data) (if s.per.running then 0 else 0) =
      .ok ({ b with sec := { b.sec with genId := b.sec.genId ++ [s.refOf src] } }, none) := by
    rw [ite_self, asks.effect, State.secCtrl, if_neg (by decide), if_pos rfl, State.genIdCmd, h.mode, configure, if_neg (by decide), h.sec, closed,
      h.same.bit (by decide) (by decide), absent]
    rfl
  obtain ⟨runs, on_⟩ := h.runs_on 0 effect (State.carries_of_cmds h.carries rfl)
  refine ⟨_, by rw [State.runWrite, runs]; rfl, on_, ?_⟩
  show { b.sec with genId := b.sec.genId ++ [s.refOf src] } = _
  rw [h.sec]

theorem State.setUnattested_shows (v : State) : (v.setUnattested true).sec = { v.sec with unattested := true } ∧
    (v.setUnattested true).bit F.SYS_MODE_UNATTESTED = true ∧ (∀ m ∈ v.msgs, m ∈ (v.setUnattested true).msgs) ∧
    (v.setUnattested true).host = v.host := by
  have shown := State.bit_setBit_same ({ v with sec := { v.sec with unattested := true } } : State) F.SYS_MODE_UNATTESTED true 0 0 rfl
  unfold State.setUnattested
  dsimp only
  split_ifs with raises falls
  · exact ⟨rfl, shown, fun m hm => List.mem_append_left _ hm, rfl⟩
  · exact absurd falls (by simp)
  · exact ⟨rfl, shown, fun m hm => hm, rfl⟩

theorem State.openCmd_opens (v : State) (ref : CmdRef) (allowed : (v.mode == .configure || v.mode == .hold) = true) : ∃ t, v.openCmd ref = (t, none) ∧
    t.sec = { v.sec with opened := true, marker := true, opening := v.sec.opening ++ [ref], unattested := true } ∧
    t.bit F.SYS_MODE_UNATTESTED = true ∧ (∃ m ∈ t.msgs, m.source = sourceNo K.SERVICE_OPEN 0) ∧ t.host = v.host := by
  refine ⟨_, by rw [State.openCmd, allowed, if_neg (by decide)], ?_⟩
  obtain ⟨sec, shown, kept, hub⟩ := State.setUnattested_shows
    (({ v with sec := { v.sec with opened := true, marker := true, opening := v.sec.opening ++ [ref] } } : State).raise K.SERVICE_OPEN)
  exact ⟨sec, shown, ⟨_, kept _ (List.mem_append_right _ (List.mem_singleton_self _)), rfl⟩, hub⟩

/-- OPEN in CONFIGURE (R427). -/
theorem open_opens (asks : SecAsks data false true false 0xA5C3) (configure : s.mode = .configure)
    (acts : s.atApplication src (wrDesc src 0xE002 0 4 data) data = true) :
    ∃ t, s.runWrite src 0xE002 0 4 data = .next t ∧ t.runsOn src ∧ t.sec.opened = true ∧ t.sec.unattested = true ∧
      t.sec.opening = s.sec.opening ++ [s.refOf src] ∧ t.bit F.SYS_MODE_UNATTESTED = true ∧ ∃ m ∈ t.msgs, m.source = sourceNo K.SERVICE_OPEN 0 := by
  obtain ⟨b, h⟩ := begun_of acts
  obtain ⟨v, opens, sec, shown, raised, hub⟩ := b.openCmd_opens (s.refOf src) (by rw [h.mode, configure]; rfl)
  have effect : b.effect (s.held src (wrDesc src 0xE002 0 4 data) data) (if s.per.running then 0 else 0) = .ok (v, none) := by
    rw [ite_self, asks.effect, State.secCtrl, if_neg (by decide), if_neg (by decide), if_pos rfl, opens]
  obtain ⟨runs, on_⟩ := h.runs_on 0 effect (State.carries_of_cmds h.carries (by rw [hub]))
  refine ⟨_, by rw [State.runWrite, runs]; rfl, on_, ?_⟩
  have sec' : (v.enter (s.held src (wrDesc src 0xE002 0 4 data) data)).sec = v.sec := rfl
  have msgs : (v.enter (s.held src (wrDesc src 0xE002 0 4 data) data)).msgs = v.msgs := rfl
  rw [sec', msgs, State.entered_bit, sec, h.sec]
  exact ⟨rfl, rfl, rfl, shown, raised⟩

/-! ### The fault log erased -/

theorem logWord_kind (stamp seq boot : Nat) :
    getBits (eventWord { source := 0, kind := 0xFD, severity := 0, simul := false, stamp := stamp, seq := seq, data := 0 } + 0 * 2 ^ 256 +
      0 * 2 ^ 320 + 0 * 2 ^ 328 + boot * 2 ^ 336) 16 8 = 0xFD := by
  simp only [getBits, eventWord, Bool.toNat_false]
  omega

/-- An empty log takes its one entry. -/
theorem State.logErased_holds {v : State} (log : v.flt.log = []) (next : v.fld F.FLT_LOG_NEXT = 0) (wrapped : v.bit F.FLT_LOG_WRAPPED = false)
    (stamp seq : Nat) :
    let t := v.logEntry { source := 0, kind := 0xFD, severity := 0, simul := false, stamp := stamp, seq := seq, data := 0 } 0 0 0
    t.fld F.FLT_LOG_NEXT = 1 ∧ t.bit F.FLT_LOG_WRAPPED = false ∧ getBits (t.flt.log.get 0 0) 16 8 = 0xFD ∧ ∀ k, k ≠ 0 → t.flt.log.get k 0 = 0 := by
  dsimp only
  unfold State.logEntry
  dsimp only
  rw [next, if_neg (by decide), if_pos (Or.inl rfl), log]
  have word := logWord_kind stamp seq (v.fld F.FLT_LOG_BOOT)
  generalize eventWord _ + _ + _ + _ + _ = w at word ⊢
  generalize hu : ({ v with flt := { v.flt with log := SMap.set [] 0 w 0 } } : State) = u
  have hlog : u.flt.log = SMap.set [] 0 w 0 := by rw [← hu]
  have objs : u.objs = v.objs := by rw [← hu]
  have wrapped' : u.bit F.FLT_LOG_WRAPPED = false := ((SameObjs.of_objs objs []).bit (by decide) (by decide)).trans wrapped
  generalize min (_ : Nat) _ = total
  refine ⟨?_, ?_, ?_, fun k hk => ?_⟩
  · rw [State.fld_setFld_bits (f := F.FLT_LOG_TOTAL) (g := F.FLT_LOG_NEXT) _ _ _ _ rfl (Or.inl (by decide)), State.fld_setFld_same]
    rfl
  · rw [State.bit, State.fld_setFld_bits (f := F.FLT_LOG_TOTAL) (g := F.FLT_LOG_WRAPPED) _ _ _ _ rfl (Or.inl (by decide)),
      State.fld_setFld_bits (f := F.FLT_LOG_NEXT) (g := F.FLT_LOG_WRAPPED) _ _ _ _ rfl (Or.inr (by decide))]
    exact wrapped'
  · rw [State.setFld_flt, State.setFld_flt, hlog, SMap.get_set_same, word]
  · rw [State.setFld_flt, State.setFld_flt, hlog, SMap.get_set_ne hk]
    rfl

/-- The fault log emptied. -/
def State.logEmptied (v : State) : State := (({ v with flt := { v.flt with log := [] } }).setFld F.FLT_LOG_NEXT 0).setBit F.FLT_LOG_WRAPPED false

theorem State.logEmptied_empty (v : State) : v.logEmptied.flt.log = [] ∧ v.logEmptied.fld F.FLT_LOG_NEXT = 0 ∧
    v.logEmptied.bit F.FLT_LOG_WRAPPED = false ∧ v.logEmptied.host = v.host := by
  unfold State.logEmptied
  generalize hu : ({ v with flt := { v.flt with log := [] } } : State) = u
  have log : u.flt.log = [] := by rw [← hu]
  have hub : u.host = v.host := by rw [← hu]
  refine ⟨log, ?_, State.bit_setBit_same _ F.FLT_LOG_WRAPPED false 0 0 rfl, hub⟩
  rw [State.setBit, State.fld_setFld_bits (f := F.FLT_LOG_WRAPPED) (g := F.FLT_LOG_NEXT) _ _ _ _ rfl (Or.inl (by decide)), State.fld_setFld_same]
  rfl

theorem State.logErase_erases {v : State} (configure : v.mode = .configure) (id : v.bit F.SEC_ID_PRESENT = true) (key : v.bit F.SEC_CFGKEY_PRESENT = true)
    (attested : v.sec.unattested = false) : ∃ stamp seq, v.logErase = (v.logEmptied.logEntry
      { source := 0, kind := 0xFD, severity := 0, simul := false, stamp := stamp, seq := seq, data := 0 } 0 0 0, done) := by
  refine ⟨v.now, v.per.seq, ?_⟩
  rw [State.logErase, configure, id, key, attested, if_neg (by decide), if_neg (by decide), State.logEmptied]

/-- LOG_ERASE in CONFIGURE, with both keys (R429). -/
theorem logErase_erases (asks : SecAsks data false false true 0xA5C3) (configure : s.mode = .configure) (id : s.bit F.SEC_ID_PRESENT = true)
    (key : s.bit F.SEC_CFGKEY_PRESENT = true) (attested : s.sec.unattested = false)
    (acts : s.atApplication src (wrDesc src 0xE002 0 4 data) data = true) :
    ∃ t, s.runWrite src 0xE002 0 4 data = .next t ∧ t.fld F.FLT_LOG_NEXT = 1 ∧ t.bit F.FLT_LOG_WRAPPED = false ∧
      getBits (t.flt.log.get 0 0) 16 8 = 0xFD ∧ ∀ k, k ≠ 0 → t.flt.log.get k 0 = 0 := by
  obtain ⟨b, h⟩ := begun_of acts
  obtain ⟨stamp, seq, erased⟩ := State.logErase_erases (v := b) (h.mode.trans configure) ((h.same.bit (by decide) (by decide)).trans id)
    ((h.same.bit (by decide) (by decide)).trans key) (by rw [h.sec, attested])
  obtain ⟨empty, next, wrapped, hub⟩ := b.logEmptied_empty
  obtain ⟨hnext, hwrapped, hkind, hrest⟩ := State.logErased_holds empty next wrapped stamp seq
  have hub' := b.logEmptied.logEntry_host { source := 0, kind := 0xFD, severity := 0, simul := false, stamp := stamp, seq := seq, data := 0 } 0 0 0
  generalize b.logEmptied.logEntry { source := 0, kind := 0xFD, severity := 0, simul := false, stamp := stamp, seq := seq, data := 0 } 0 0 0 = v
    at erased hnext hwrapped hkind hrest hub'
  have effect : b.effect (s.held src (wrDesc src 0xE002 0 4 data) data) (if s.per.running then 0 else 0) = .ok (v, some done) := by
    rw [ite_self, asks.effect, State.secCtrl, if_neg (by decide), if_neg (by decide), if_neg (by decide), if_pos rfl, erased]
  rw [State.runWrite_eq]
  obtain ⟨t, ran, same, frame⟩ := h.configured_both 0 effect (by rw [hub', hub])
  have flt : t.flt = v.flt := by rw [frame]
  refine ⟨t, ran, ?_, ?_, by rw [flt, hkind], fun k hk => by rw [flt, hrest k hk]⟩
  · rw [same.fld (by decide) (by decide), hnext]
  · rw [same.bit (by decide) (by decide), hwrapped]

end

/-! ### SEC.CFGKEY -/

abbrev cfgkeyWr (data : Nat) : Wr := wrOf .secCfgkey 0 0 68 data

theorem secCfgkey_named : objOf 0xE001 = some .secCfgkey ∧ instOf? 0xE001 .secCfgkey = some 0 := by decide +kernel

theorem secCfgkey_masks : Obj.accMask .secCfgkey .ro + Obj.accMask .secCfgkey .rw + Obj.accMask .secCfgkey .w1c + Obj.accMask .secCfgkey .wo =
    2 ^ 545 - 1 ∧ Obj.accMask .secCfgkey .w1c = 0 := by decide +kernel

theorem cfgkeyWr_covered (data : Nat) : (cfgkeyWr data).touched = [0] ∧ getBits ((cfgkeyWr data).covered 0) F.SEC_CFGKEY_KEY.lo F.SEC_CFGKEY_KEY.width = 2 ^ F.SEC_CFGKEY_KEY.width - 1 ∧
    getBits ((cfgkeyWr data).covered 0) F.SEC_CFGKEY_KEY_ID.lo F.SEC_CFGKEY_KEY_ID.width = 2 ^ F.SEC_CFGKEY_KEY_ID.width - 1 :=
  show (cfgkeyWr 0).touched = [0] ∧ getBits ((cfgkeyWr 0).covered 0) F.SEC_CFGKEY_KEY.lo F.SEC_CFGKEY_KEY.width = 2 ^ F.SEC_CFGKEY_KEY.width - 1 ∧
    getBits ((cfgkeyWr 0).covered 0) F.SEC_CFGKEY_KEY_ID.lo F.SEC_CFGKEY_KEY_ID.width = 2 ^ F.SEC_CFGKEY_KEY_ID.width - 1 by decide +kernel

theorem cfgkeyData_bits (key : Fin (2 ^ 512)) (keyId : Fin (2 ^ 32)) : key.val + keyId.val * 2 ^ 512 < 2 ^ 544 ∧
    getBits (key.val + keyId.val * 2 ^ 512) F.SEC_CFGKEY_KEY.lo F.SEC_CFGKEY_KEY.width = key.val ∧
    getBits (key.val + keyId.val * 2 ^ 512) F.SEC_CFGKEY_KEY_ID.lo F.SEC_CFGKEY_KEY_ID.width = keyId.val := by
  simp only [getBits, F.SEC_CFGKEY_KEY, F.SEC_CFGKEY_KEY_ID]
  omega

section
variable {key keyId : Nat}

theorem cfgkeyWr_bits (small : data < 2 ^ 544) : (cfgkeyWr data).bits 0 = data := by
  have data' : (cfgkeyWr data).data = data := Nat.mod_eq_of_lt small
  exact (Wr.bits_low rfl (show 8 * 68 ≤ 576 by decide) (by rw [data']; exact small)).trans data'

theorem cfgkeyWr_reserved (small : data < 2 ^ 544) : (cfgkeyWr data).reserved = false :=
  Wr.reserved_of_within (cfgkeyWr_covered data).1 secCfgkey_masks.1
    (by rw [cfgkeyWr_bits small, Nat.and_two_pow_sub_one_eq_mod, Nat.mod_eq_of_lt (Nat.lt_trans small (Nat.pow_lt_pow_right (by decide) (by decide)))])

/-- A write of SEC.CFGKEY takes its key, or is refused (R425). -/
theorem State.secCfgkey_takes (v : State) (small : data < 2 ^ 544) (hid : getBits data F.SEC_CFGKEY_KEY_ID.lo F.SEC_CFGKEY_KEY_ID.width = keyId) :
    (v.bit F.SEC_CFGKEY_PRESENT = true ∨ v.sec.opened = true ∨ keyId = 0 → v.secCfgkey (cfgkeyWr data) = (v, refused 0x1)) ∧
    (v.bit F.SEC_CFGKEY_PRESENT = false → v.sec.opened = false → keyId ≠ 0 →
      v.secCfgkey (cfgkeyWr data) = ((v.applyRw (cfgkeyWr data)).setBit F.SEC_CFGKEY_PRESENT true, done)) := by
  have id : (cfgkeyWr data).newFld v F.SEC_CFGKEY_KEY_ID = keyId := by
    rw [Wr.newFld_covered secCfgkey_masks.2 (cfgkeyWr_covered data).2.2, Wr.act, cfgkeyWr_bits small]
    exact hid
  unfold State.secCfgkey
  rw [id]
  refine ⟨fun stops => if_pos ?_, fun absent closed named => if_neg ?_⟩
  · obtain present | opened | none_ := stops
    · rw [present, Bool.true_or, Bool.true_or]
    · rw [opened, Bool.or_true, Bool.true_or]
    · rw [none_, beq_self_eq_true, Bool.or_true]
  · rw [absent, closed, beq_false_of_ne named]
    decide

theorem State.secCfgkey_shows (v : State) (small : data < 2 ^ 544) (hkey : getBits data F.SEC_CFGKEY_KEY.lo F.SEC_CFGKEY_KEY.width = key) (hid : getBits data F.SEC_CFGKEY_KEY_ID.lo F.SEC_CFGKEY_KEY_ID.width = keyId) :
    ((v.applyRw (cfgkeyWr data)).setBit F.SEC_CFGKEY_PRESENT true).fld F.SEC_CFGKEY_KEY = key ∧
    ((v.applyRw (cfgkeyWr data)).setBit F.SEC_CFGKEY_PRESENT true).fld F.SEC_CFGKEY_KEY_ID = keyId ∧
    ((v.applyRw (cfgkeyWr data)).setBit F.SEC_CFGKEY_PRESENT true).bit F.SEC_CFGKEY_PRESENT = true := by
  obtain ⟨touched, whole, whole'⟩ := cfgkeyWr_covered data
  have field := fun (f : Fld) (obj : f.obj = .secCfgkey) (whole : getBits ((cfgkeyWr data).covered 0) f.lo f.width = 2 ^ f.width - 1) =>
    (v.applyRw_fld_covered (w := cfgkeyWr data) (show 0 < 256 by decide) obj (e := 0) (by rw [touched]; exact List.mem_singleton_self 0)
      secCfgkey_masks.2 whole).trans (by rw [Wr.act, cfgkeyWr_bits small])
  have key' := field F.SEC_CFGKEY_KEY rfl whole
  have id' := field F.SEC_CFGKEY_KEY_ID rfl whole'
  generalize v.applyRw (cfgkeyWr data) = u at key' id'
  refine ⟨?_, ?_, u.bit_setBit_same F.SEC_CFGKEY_PRESENT _ _ _ rfl⟩
  · rw [State.setBit, State.fld_setFld_bits (f := F.SEC_CFGKEY_PRESENT) (g := F.SEC_CFGKEY_KEY) _ _ _ _ rfl (Or.inl (by decide))]
    exact key'.trans hkey
  · rw [State.setBit, State.fld_setFld_bits (f := F.SEC_CFGKEY_PRESENT) (g := F.SEC_CFGKEY_KEY_ID) _ _ _ _ rfl (Or.inl (by decide))]
    exact id'.trans hid

theorem cfgkey_effect (v : State) (small : data < 2 ^ 544) (configure : v.mode = .configure) :
    v.effect (s.held src (wrDesc src 0xE001 0 68 data) data) 0 = answer (v.secCfgkey (cfgkeyWr data)) := by
  rw [State.effect_objWrite v secCfgkey_named.1 secCfgkey_named.2 (Or.inr rfl) 0, State.objWrite_of_allowed (cfgkeyWr_reserved small)
    (State.writeAllowed_configure configure (show WriteIn.config ≠ .service by decide) (Obj.noConfusion ·))
    (State.writeFenced_none rfl (Obj.noConfusion ·) (Obj.noConfusion ·))]
  exact rfl

theorem cfgkeyWrite_takes (configure : s.mode = .configure) (small : data < 2 ^ 544) (hkey : getBits data F.SEC_CFGKEY_KEY.lo F.SEC_CFGKEY_KEY.width = key)
    (hid : getBits data F.SEC_CFGKEY_KEY_ID.lo F.SEC_CFGKEY_KEY_ID.width = keyId) (acts : s.atApplication src (wrDesc src 0xE001 0 68 data) data = true) :
    (s.bit F.SEC_CFGKEY_PRESENT = false → s.sec.opened = false → keyId ≠ 0 → ∃ t, s.runWrite src 0xE001 0 68 data = .next t ∧
      t.fld F.SEC_CFGKEY_KEY = key ∧ t.fld F.SEC_CFGKEY_KEY_ID = keyId ∧ t.bit F.SEC_CFGKEY_PRESENT = true) ∧
    (s.bit F.SEC_CFGKEY_PRESENT = true ∨ s.sec.opened = true ∨ keyId = 0 →
      ∃ t, s.runWrite src 0xE001 0 68 data = .next t ∧ t.obj .secCfgkey 0 0 = s.obj .secCfgkey 0 0) := by
  obtain ⟨b, h⟩ := begun_of acts
  have effect := cfgkey_effect (s := s) (src := src) b small (h.mode.trans configure)
  have present : b.bit F.SEC_CFGKEY_PRESENT = s.bit F.SEC_CFGKEY_PRESENT := h.same.bit (by decide) (by decide)
  obtain ⟨refuses, takes⟩ := b.secCfgkey_takes small hid
  obtain ⟨key', id', present'⟩ := b.secCfgkey_shows small hkey hid
  have hub : ((b.applyRw (cfgkeyWr data)).setBit F.SEC_CFGKEY_PRESENT true).host = b.host :=
    (State.setBit_host ..).trans (b.applyRw_objsOnly (cfgkeyWr data)).host
  rw [present, h.sec] at refuses takes
  rw [State.runWrite_eq]
  refine ⟨fun absent closed named => ?_, fun stops => ?_⟩
  · rw [takes absent closed named] at effect
    generalize (b.applyRw (cfgkeyWr data)).setBit F.SEC_CFGKEY_PRESENT true = v at effect key' id' present' hub
    obtain ⟨t, ran, same⟩ := h.configured 0 (by rw [ite_self]; exact effect) hub
    exact ⟨t, ran, (same.fld (by decide) (by decide)).trans key', (same.fld (by decide) (by decide)).trans id',
      (same.bit (by decide) (by decide)).trans present'⟩
  · rw [refuses stops] at effect
    obtain ⟨t, ran, same⟩ := h.configured 0 (by rw [ite_self]; exact effect) rfl
    refine ⟨t, ran, ?_⟩
    rw [same .secCfgkey 0 0 (by decide) (by decide) (by decide)]
    exact h.obj (by decide) (by decide) (by decide)

end

end

/-! ### Generation and erasure end -/

section
variable {s : State}

theorem State.finishAll_completedInto (s : State) (refs : List CmdRef) (o : Result) : s.completedInto (s.finishAll refs o) := by
  unfold State.finishAll
  induction refs generalizing s with
  | nil => exact .refl s
  | cons r refs ih => exact (s.finishCmd_completedInto r o _).trans (ih _)

theorem State.completedInto.sec {s t : State} (h : s.completedInto t) : t.sec = s.sec := by rw [h.2]

/-- SEC.ID with a new pair. -/
def State.idShown (v : State) (pub : Nat) : State :=
  (((v.setFld F.SEC_ID_PUBKEY pub).setFld F.SEC_ID_ENDORSE 0).setFld F.SEC_ID_PRESENT 1).setFld F.SEC_ID_ORIGIN 1

theorem State.idShown_shows (v : State) (pub : Nat) : (v.idShown pub).fld F.SEC_ID_PUBKEY = pub % 2 ^ 512 ∧
    (v.idShown pub).bit F.SEC_ID_PRESENT = true ∧ (v.idShown pub).sec = v.sec := by
  unfold State.idShown
  refine ⟨?_, ?_, by simp -implicitDefEqProofs only [State.setFld_sec]⟩
  · rw [State.fld_setFld_bits (f := F.SEC_ID_ORIGIN) (g := F.SEC_ID_PUBKEY) _ _ _ _ rfl (Or.inl (by decide)),
      State.fld_setFld_bits (f := F.SEC_ID_PRESENT) (g := F.SEC_ID_PUBKEY) _ _ _ _ rfl (Or.inl (by decide)),
      State.fld_setFld_bits (f := F.SEC_ID_ENDORSE) (g := F.SEC_ID_PUBKEY) _ _ _ _ rfl (Or.inl (by decide)), State.fld_setFld_same,
      show F.SEC_ID_PUBKEY.width = 512 from rfl]
  · refine State.bit_of_one ?_
    rw [State.fld_setFld_bits (f := F.SEC_ID_ORIGIN) (g := F.SEC_ID_PRESENT) _ _ _ _ rfl (Or.inl (by decide)), State.fld_setFld_same]
    rfl

theorem State.keyGenDone_installs (pending : s.sec.genId ≠ []) (closed : s.sec.opened = false) : s.keyGenDone.sec.genId = [] ∧
    s.keyGenDone.sec.priv = some (newKeyPair s.sec.drbg).1 ∧ s.keyGenDone.fld F.SEC_ID_PUBKEY = (newKeyPair s.sec.drbg).2 % 2 ^ 512 ∧
    s.keyGenDone.bit F.SEC_ID_PRESENT = true ∧ s.keyGenDone.sec.drbg = s.sec.drbg + 1 := by
  have installs : s.keyGenDone = (({ s with sec := { s.sec with genId := [], drbg := s.sec.drbg + 1, priv := some (newKeyPair s.sec.drbg).1 } } : State).idShown
      (newKeyPair s.sec.drbg).2).finishAll s.sec.genId done := by
    rw [State.keyGenDone, if_neg (by rw [List.isEmpty_iff]; exact pending), closed]
    rfl
  rw [installs]
  generalize hv : ({ s with sec := { s.sec with genId := [], drbg := s.sec.drbg + 1, priv := some (newKeyPair s.sec.drbg).1 } } : State) = v
  obtain ⟨pub, present, sec⟩ := v.idShown_shows (newKeyPair s.sec.drbg).2
  generalize v.idShown (newKeyPair s.sec.drbg).2 = u at pub present sec
  have finished := u.finishAll_completedInto s.sec.genId done
  rw [finished.sec, sec, ← hv, finished.1.fld (by decide) (by decide), finished.1.bit (by decide) (by decide)]
  exact ⟨rfl, rfl, pub, present, rfl⟩

theorem State.eraseDone_erases (pending : s.sec.opening ≠ []) : s.eraseDone.sec.priv = none ∧ s.eraseDone.sec.erased = true ∧
    s.eraseDone.sec.opening = [] ∧ s.eraseDone.bit F.SEC_ID_PRESENT = false ∧ s.eraseDone.bit F.SEC_CFGKEY_PRESENT = false ∧
    s.eraseDone.fld F.SEC_CFGKEY_KEY = 0 := by
  have erases : s.eraseDone = ({ s.eraseKeys with sec := { s.eraseKeys.sec with erased := true, opening := [] } } : State).finishAll s.sec.opening done := by
    rw [State.eraseDone, if_neg (by rw [List.isEmpty_iff]; exact pending)]
  have id : s.eraseKeys.obj .secId 0 0 = Obj.resetVal .secId 0 := by
    rw [State.eraseKeys, State.obj_resetObj_ne (o := .secCfgkey) (o' := .secId) _ (Or.inl (by decide)) (by decide) (by decide), State.obj_resetObj_same]
  have key : s.eraseKeys.obj .secCfgkey 0 0 = Obj.resetVal .secCfgkey 0 := State.obj_resetObj_same ..
  generalize hv : ({ s.eraseKeys with sec := { s.eraseKeys.sec with erased := true, opening := [] } } : State) = v at erases
  have objs : v.objs = s.eraseKeys.objs := by rw [← hv]
  have finished := v.finishAll_completedInto s.sec.opening done
  have fld : ∀ f : Fld, f.obj ∉ [Obj.hifRingState, .hifCqTail] → s.eraseDone.fld f = getBits (s.eraseKeys.obj f.obj 0 0) f.lo f.width := fun f out => by
    rw [erases, finished.1.fld out (by decide), State.fld, State.obj, objs, ← State.obj]
  have sec : s.eraseDone.sec = v.sec := by rw [erases, finished.sec]
  refine ⟨?_, ?_, ?_, ?_, ?_, ?_⟩
  · rw [sec, ← hv]
    rfl
  · rw [sec, ← hv]
  · rw [sec, ← hv]
  · refine State.bit_of_zero ((fld F.SEC_ID_PRESENT (by decide)).trans ?_)
    show getBits (s.eraseKeys.obj .secId 0 0) 1088 1 = 0
    rw [id]
    decide +kernel
  · refine State.bit_of_zero ((fld F.SEC_CFGKEY_PRESENT (by decide)).trans ?_)
    show getBits (s.eraseKeys.obj .secCfgkey 0 0) 544 1 = 0
    rw [key]
    decide +kernel
  · refine (fld F.SEC_CFGKEY_KEY (by decide)).trans ?_
    show getBits (s.eraseKeys.obj .secCfgkey 0 0) 0 512 = 0
    rw [key]
    decide +kernel

theorem exec_genId (src : Src) (code : Fin (2 ^ 16)) (s : State) :
    exec (.genId src code) s = s.runWrite src 0xE002 0 4 (0x01 + code.val * 2 ^ 16) := rfl
theorem exec_open (src : Src) (code : Fin (2 ^ 16)) (s : State) :
    exec (.open_ src code) s = s.runWrite src 0xE002 0 4 (0x02 + code.val * 2 ^ 16) := rfl
theorem exec_logErase (src : Src) (code : Fin (2 ^ 16)) (s : State) :
    exec (.logErase src code) s = s.runWrite src 0xE002 0 4 (0x04 + code.val * 2 ^ 16) := rfl
theorem exec_cfgkeyWrite (src : Src) (key : Fin (2 ^ 512)) (keyId : Fin (2 ^ 32)) (s : State) :
    exec (.cfgkeyWrite src key keyId) s = s.runWrite src 0xE001 0 68 (key.val + keyId.val * 2 ^ 512) := rfl
theorem exec_keyGenDone (s : State) : exec .keyGenDone s = .next s.keyGenDone := rfl
theorem exec_eraseDone (s : State) : exec .eraseDone s = .next s.eraseDone := rfl

theorem genIdAsks (code : Fin (2 ^ 16)) : SecAsks (0x01 + code.val * 2 ^ 16) true false false code.val := secAsks_of true false false code
theorem openAsks (code : Fin (2 ^ 16)) : SecAsks (0x02 + code.val * 2 ^ 16) false true false code.val := by
  have asks := secAsks_of false true false code
  rwa [show false.toNat + true.toNat * 2 + false.toNat * 4 = 2 from rfl] at asks
theorem logEraseAsks (code : Fin (2 ^ 16)) : SecAsks (0x04 + code.val * 2 ^ 16) false false true code.val := by
  have asks := secAsks_of false false true code
  rwa [show false.toNat + false.toNat * 2 + true.toNat * 4 = 4 from rfl] at asks

/-- CODE of the protected actions (R426). -/
theorem code_val : (0xA5C3 : Fin (2 ^ 16)).val = 0xA5C3 := by decide

/-- Settles O45. -/
theorem keysAndOpening : Obligations.KeysAndOpening := by
  unfold Obligations.KeysAndOpening
  intro src s acts
  refine ⟨fun code other running => ⟨fun here => ?_, fun here => ?_, fun here => ?_⟩, fun configure => ⟨fun here closed absent => ?_, fun here => ?_,
    fun here id key attested => ?_, fun key keyId here => ?_⟩, fun pending closed => ?_, fun none_ => ?_, fun pending => ?_, fun none_ => ?_⟩
  · rw [exec_genId]
    exact secCtrl_refused (genIdAsks code) running other here
  · rw [exec_open]
    exact secCtrl_refused (openAsks code) running other here
  · rw [exec_logErase]
    exact secCtrl_refused (logEraseAsks code) running other here
  · rw [exec_genId, code_val]
    exact genId_runs (code_val ▸ genIdAsks 0xA5C3) configure closed absent here
  · rw [exec_open, code_val]
    exact open_opens (code_val ▸ openAsks 0xA5C3) configure here
  · rw [exec_logErase, code_val]
    exact logErase_erases (code_val ▸ logEraseAsks 0xA5C3) configure id key attested here
  · obtain ⟨small, hkey, hid⟩ := cfgkeyData_bits key keyId
    rw [exec_cfgkeyWrite]
    exact cfgkeyWrite_takes configure small hkey hid here
  · exact ⟨_, exec_keyGenDone s, State.keyGenDone_installs pending closed⟩
  · rw [exec_keyGenDone, State.keyGenDone, none_]
    rfl
  · exact ⟨_, exec_eraseDone s, State.eraseDone_erases pending⟩
  · rw [exec_eraseDone, State.eraseDone, none_]
    rfl

end

end Sys2Proof.Machine
end

section
/-! The statement of service access to halted lane pairs (R430, R431). -/

set_option Elab.async false

namespace Sys2Proof.Machine

/-! ### What HALT, STEP and RESUME of a pair leave -/

section
variable {s t u : State} {l : Nat}

/-- What the debug actions may change: SEC.DEBUG.HALTED, PWMG.STATUS, the groups, the lanes and what the hub keeps of halts. -/
structure State.debuggedInto (s t : State) : Prop where
  frame : t = { s with objs := t.objs, groups := t.groups, msgs := t.msgs, lanes := t.lanes, sec := t.sec }
  same : SameObjs [.secDebug, .pwmgStatus] s t
  fields : ∀ f : Fld, f.obj = .secDebug → F.SEC_DEBUG_HALTED.apart f → t.fld f = s.fld f

theorem State.haltGroups_trippedInto (s : State) (l : Nat) (b : Bool) : s.trippedInto (s.haltGroups l b) := by
  refine (State.trippedInto.foldl _ (fun t g _ => ?_) s).trans (State.refreshGroups_trippedInto _)
  have counted := t.countTriggers_groupsOnly t.now16 g
  exact ⟨by rw [counted]; rfl, SameObjs.of_objs (by rw [counted]; rfl) _⟩

namespace State.debuggedInto

theorem refl (s : State) : s.debuggedInto s := ⟨rfl, SameObjs.refl _ _, fun _ _ _ => rfl⟩

theorem trans (h : s.debuggedInto t) (h' : t.debuggedInto u) : s.debuggedInto u :=
  ⟨by rw [h'.frame, h.frame], h.same.trans h'.same, fun f obj off => (h'.fields f obj off).trans (h.fields f obj off)⟩

theorem of_objs (objs : t.objs = s.objs) (frame : t = { s with objs := t.objs, groups := t.groups, msgs := t.msgs, lanes := t.lanes, sec := t.sec }) :
    s.debuggedInto t := ⟨frame, SameObjs.of_objs objs _, fun f _ _ => by rw [State.fld, State.obj, objs, ← State.obj, State.fld]⟩

theorem setLane (s : State) (u l c : Nat) (v : Lane) : s.debuggedInto (s.setLane u l c v) := of_objs rfl rfl

theorem showDebug (s : State) : s.debuggedInto s.showDebug := by
  unfold State.showDebug
  refine ⟨?_, (s.setBit_sameObjs _ _ (by decide)).mono (by decide), fun f obj off => s.fld_setFld_bits _ _ _ obj off⟩
  have only := s.setBit_objsOnly F.SEC_DEBUG_HALTED (s.sec.halted.testBit s.debugLane) 0 0
  generalize s.setBit F.SEC_DEBUG_HALTED (s.sec.halted.testBit s.debugLane) 0 0 = t at only
  rw [only]

theorem of_trippedInto (h : s.trippedInto t) : s.debuggedInto t :=
  ⟨by rw [h.frame], h.same.mono (by decide), fun f obj _ => h.same.fld (by rw [obj]; decide) (by decide)⟩

theorem haltGroups (s : State) (l : Nat) (b : Bool) : s.debuggedInto (s.haltGroups l b) := of_trippedInto (s.haltGroups_trippedInto l b)

theorem activeUnit (h : s.debuggedInto t) : t.activeUnit = s.activeUnit := h.same.fld (by decide) (by decide)

theorem debugLane (h : s.debuggedInto t) : t.debugLane = s.debugLane := by
  rw [State.debugLane, State.debugLane, h.fields F.SEC_DEBUG_LANE rfl (Or.inl (by decide))]

end State.debuggedInto

/-! ### HALT -/

theorem State.haltCopy_debuggedInto (s : State) (l c : Nat) : s.debuggedInto (s.haltCopy l c) := by
  have halts : s.debuggedInto (s.setLane s.activeUnit l c { s.lane s.activeUnit l c with halted := true }) := .setLane s _ _ _ _
  unfold State.haltCopy
  dsimp only
  generalize s.setLane s.activeUnit l c { s.lane s.activeUnit l c with halted := true } = v at halts
  split
  · have marks : v.debuggedInto { v with sec := { v.sec with halted := v.sec.halted ||| 2 ^ l } } := .of_objs rfl rfl
    exact ((halts.trans marks).trans (State.debuggedInto.haltGroups _ l true)).trans (State.debuggedInto.showDebug _)
  · exact halts

theorem State.haltGroups_sec (s : State) (l : Nat) (b : Bool) : (s.haltGroups l b).sec = s.sec := by rw [(s.haltGroups_trippedInto l b).frame]

theorem State.haltCopy_lanes (s : State) (l c : Nat) :
    (s.haltCopy l c).lanes = (s.setLane s.activeUnit l c { s.lane s.activeUnit l c with halted := true }).lanes := by
  unfold State.haltCopy
  dsimp only
  split
  · rw [State.showDebug_lanes, State.haltGroups_lanes]
  · rfl

theorem laneKey_copies (u l : Nat) : laneKey u l 1 ≠ laneKey u l 0 := by unfold laneKey; omega

/-- A copy that halts marks its pair halted when the other copy is. -/
theorem State.haltCopy_sec (s : State) (l c : Nat) (other : laneKey s.activeUnit l (1 - c) ≠ laneKey s.activeUnit l c) :
    (s.haltCopy l c).sec.halted.testBit l = (s.sec.halted.testBit l || (s.lane s.activeUnit l (1 - c)).halted) := by
  have sec : ∀ (t : State) b, (t.haltGroups l b).showDebug.sec = t.sec := fun t b => by
    rw [State.showDebug, State.setBit_sec, State.haltGroups_sec]
  unfold State.haltCopy
  dsimp only
  rw [State.lane_setLane_ne _ _ other]
  cases halted : s.sec.halted.testBit l <;> cases there : (s.lane s.activeUnit l (1 - c)).halted
  · exact halted
  · rw [if_pos (by decide), sec, Nat.testBit_or, Nat.testBit_two_pow_self, Bool.or_true]
    rfl
  · exact halted
  · exact halted

/-- SEC.DEBUG.HALTED shows the pair it names. -/
def State.debugShown (s : State) : Prop := s.bit F.SEC_DEBUG_HALTED = s.sec.halted.testBit s.debugLane

theorem State.showDebug_shown (s : State) : s.showDebug.debugShown := by
  rw [State.debugShown, (State.debuggedInto.showDebug s).debugLane, State.showDebug, State.setBit_sec,
    s.bit_setBit_same F.SEC_DEBUG_HALTED _ 0 0 rfl]

theorem State.debugShown_of (shown : s.debugShown) (h : s.debuggedInto t) (objs : t.objs = s.objs) (sec : t.sec = s.sec) : t.debugShown := by
  rw [State.debugShown, h.debugLane, sec, State.bit, State.fld, State.obj, objs, ← State.obj, ← State.fld, ← State.bit, shown]

theorem State.haltCopy_shown (shown : s.debugShown) (l c : Nat) : (s.haltCopy l c).debugShown := by
  unfold State.haltCopy
  dsimp only
  split
  · exact State.showDebug_shown _
  · exact State.debugShown_of shown (.setLane s _ _ _ _) rfl rfl

/-- HALT of the pair that SEC.DEBUG names: both copies halted, and the pair marked. -/
theorem State.debugHalt_halts (s : State) (shown : s.debugShown) : s.debuggedInto s.debugHalt ∧ s.debugHalt.sec.halted.testBit s.debugLane = true ∧
    (s.debugHalt.lane s.activeUnit s.debugLane 0).halted = true ∧ (s.debugHalt.lane s.activeUnit s.debugLane 1).halted = true ∧
    s.debugHalt.debugShown := by
  have first := s.haltCopy_debuggedInto s.debugLane 0
  have second := (s.haltCopy s.debugLane 0).haltCopy_debuggedInto s.debugLane 1
  have halted := s.haltCopy_halted s.debugLane 0
  have halted' := (s.haltCopy s.debugLane 0).haltCopy_halted s.debugLane 1
  have keys := laneKey_copies s.activeUnit s.debugLane
  have bit := (s.haltCopy s.debugLane 0).haltCopy_sec s.debugLane 1 (by rw [first.activeUnit]; exact keys.symm)
  rw [first.activeUnit] at halted' bit
  have kept : (((s.haltCopy s.debugLane 0).haltCopy s.debugLane 1).lane s.activeUnit s.debugLane 0).halted = true := by
    rw [State.lane, State.haltCopy_lanes, ← State.lane, first.activeUnit, State.lane_setLane_ne _ _ keys.symm]
    exact halted
  exact ⟨first.trans second, by rw [State.debugHalt, bit, halted, Bool.or_true], kept, halted', State.haltCopy_shown (State.haltCopy_shown shown _ _) _ _⟩

/-! ### STEP -/

/-- A lane whose next instruction is defined, is not END and raises nothing. -/
structure Lane.steps (v : Lane) (bank : LaneMem) (op : LaneOp) : Prop where
  task : v.task.isSome = true
  pc : v.pc < 8192
  decodes : decodeLane (v.prog.get v.pc 0).toNat = some op
  notEnd : op ≠ .end_
  defined : v.fault bank op = none
  clean : v.parityHits bank op = []
  room : v.overflowed op = false

theorem State.activeUnit_lt (s : State) : s.activeUnit < 2 := s.fld_lt F.SYS_MODE_ACTIVE_UNIT 0 0

theorem State.stepCopy_steps {v : State} {op : LaneOp} {c : Fin 2} (hl : l < 12)
    (steps : (v.lane v.activeUnit l c).steps (v.pairBank v.activeUnit l) op) :
    v.stepCopy l c = .ok (v.setLane v.activeUnit l c ((v.lane v.activeUnit l c).run (v.pairBank v.activeUnit l) op)) := by
  have hu : (Fin.ofNat 2 v.activeUnit).val = v.activeUnit := Nat.mod_eq_of_lt v.activeUnit_lt
  have hl' : (Fin.ofNat 12 l).val = l := Nat.mod_eq_of_lt hl
  obtain ⟨task, pc, decodes, notEnd, defined, clean, room⟩ := steps
  have none_ : (v.lane v.activeUnit l c).task.isNone = false := by rw [← Option.not_isSome, task]; rfl
  have retires : v.retire { unit := Fin.ofNat 2 v.activeUnit, lane := Fin.ofNat 12 l, copy := c } op =
      .next (v.setLane v.activeUnit l c ((v.lane v.activeUnit l c).run (v.pairBank v.activeUnit l) op)) := by
    rw [State.retire_of_stdPosts (by rw [hu, hl']; exact defined) (v.stdPosts_of_ne_end _ notEnd),
      State.beforeRun_of_none v (by rw [hu, hl']; exact clean) (by rw [hu, hl']; exact room), State.ranLane_nil,
      State.afterRun_of_task (by rw [Lane.run_task _ notEnd, hu, hl', none_]), hu, hl']
  unfold State.stepCopy
  dsimp only
  rw [none_, if_neg (by decide), if_neg (by omega)]
  simp only [decodes, retires]

/-- STEP of a halted pair whose copies agree. -/
theorem State.debugStep_steps {op : LaneOp} (halted : s.debugHalted = true)
    (agree : s.lane s.activeUnit s.debugLane 0 = s.lane s.activeUnit s.debugLane 1)
    (steps : (s.lane s.activeUnit s.debugLane 0).steps (s.pairBank s.activeUnit s.debugLane) op) :
    ∃ t, s.debugStep = .ok t ∧ s.debuggedInto t ∧ ∀ c < 2, t.lane s.activeUnit s.debugLane c =
      { (s.lane s.activeUnit s.debugLane 0).run (s.pairBank s.activeUnit s.debugLane) op with posts := [] } := by
  have hl : s.debugLane < 12 := by unfold State.debugLane; omega
  generalize hl' : s.debugLane = l at *
  have first : s.stepCopy l 0 = .ok (s.setLane s.activeUnit l 0 ((s.lane s.activeUnit l 0).run (s.pairBank s.activeUnit l) op)) :=
    s.stepCopy_steps (c := 0) hl steps
  have keys := laneKey_copies s.activeUnit l
  generalize hran : (s.lane s.activeUnit l 0).run (s.pairBank s.activeUnit l) op = ran at first
  have unit : (s.setLane s.activeUnit l 0 ran).activeUnit = s.activeUnit := rfl
  have bank : (s.setLane s.activeUnit l 0 ran).pairBank s.activeUnit l = s.pairBank s.activeUnit l := rfl
  have own : (s.setLane s.activeUnit l 0 ran).lane s.activeUnit l 0 = ran := State.lane_setLane_same ..
  have other : (s.setLane s.activeUnit l 0 ran).lane s.activeUnit l 1 = s.lane s.activeUnit l 0 := by rw [State.lane_setLane_ne _ _ keys, agree]
  have halfway : s.debuggedInto (s.setLane s.activeUnit l 0 ran) := .setLane s _ _ _ _
  generalize s.setLane s.activeUnit l 0 ran = v at first unit bank own other halfway
  have second := v.stepCopy_steps (c := 1) (op := op) hl (by
    rw [unit, bank, show v.lane s.activeUnit l (1 : Fin 2).val = s.lane s.activeUnit l 0 from other]; exact steps)
  rw [unit, bank, show v.lane s.activeUnit l (1 : Fin 2).val = s.lane s.activeUnit l 0 from other, hran] at second
  have own' : (v.setLane s.activeUnit l 1 ran).lane s.activeUnit l 0 = ran := by rw [State.lane_setLane_ne _ _ keys.symm, own]
  have other' : (v.setLane s.activeUnit l 1 ran).lane s.activeUnit l 1 = ran := State.lane_setLane_same ..
  have unit' : (v.setLane s.activeUnit l 1 ran).activeUnit = s.activeUnit := unit
  have both : s.debuggedInto (v.setLane s.activeUnit l 1 ran) := halfway.trans (.setLane v _ _ _ _)
  replace second : v.stepCopy l 1 = .ok (v.setLane s.activeUnit l 1 ran) := second
  generalize v.setLane s.activeUnit l 1 ran = w at second own' other' unit' both
  have drops : w.dropStepPosts l = (w.setLane s.activeUnit l 0 { ran with posts := [] }).setLane s.activeUnit l 1 { ran with posts := [] } := by
    unfold State.dropStepPosts
    dsimp only
    rw [unit', own', other', if_pos rfl, State.lane_setLane_ne _ _ keys, other', own']
  refine ⟨w.dropStepPosts l, ?_, ?_, ?_⟩
  · simp only [State.debugStep, halted, Bool.not_true, Bool.false_eq_true, if_false, hl', first, second]
  · rw [drops]
    exact (both.trans (.setLane w _ _ _ _)).trans (.setLane _ _ _ _ _)
  · intro c hc
    obtain rfl | rfl : c = 0 ∨ c = 1 := by omega
    · rw [drops, State.lane_setLane_ne _ _ keys.symm, State.lane_setLane_same]
    · rw [drops, State.lane_setLane_same]

end

/-! ### Writes of SEC.DEBUG -/

section
variable {s b : State} {src : Src} {d : Desc} {host data : Nat}

abbrev dbgWr (data : Nat) : Wr := wrOf .secDebug 0 0 1 data

theorem secDebug_named : objOf 0xE004 = some .secDebug ∧ instOf? 0xE004 .secDebug = some 0 := by decide +kernel

/-- What a write of SEC.DEBUG's first byte asks for. -/
structure DbgAsks (data l : Nat) (brk halt step resume : Bool) : Prop where
  reserved : (dbgWr data).reserved = false
  halt : (dbgWr data).actBit F.SEC_DEBUG_HALT = halt
  step : (dbgWr data).actBit F.SEC_DEBUG_STEP = step
  resume : (dbgWr data).actBit F.SEC_DEBUG_RESUME = resume
  lane : (dbgWr data).act F.SEC_DEBUG_LANE = l
  brk : (dbgWr data).act F.SEC_DEBUG_BREAK_EN = brk.toNat

theorem dbgWr_covered (data : Nat) : 0 ∈ (dbgWr data).touched ∧
    getBits ((dbgWr data).covered 0) F.SEC_DEBUG_LANE.lo F.SEC_DEBUG_LANE.width = 2 ^ F.SEC_DEBUG_LANE.width - 1 ∧
    getBits ((dbgWr data).covered 0) F.SEC_DEBUG_BREAK_EN.lo F.SEC_DEBUG_BREAK_EN.width = 2 ^ F.SEC_DEBUG_BREAK_EN.width - 1 :=
  show 0 ∈ (dbgWr 0).touched ∧
    getBits ((dbgWr 0).covered 0) F.SEC_DEBUG_LANE.lo F.SEC_DEBUG_LANE.width = 2 ^ F.SEC_DEBUG_LANE.width - 1 ∧
    getBits ((dbgWr 0).covered 0) F.SEC_DEBUG_BREAK_EN.lo F.SEC_DEBUG_BREAK_EN.width = 2 ^ F.SEC_DEBUG_BREAK_EN.width - 1 by decide +kernel

theorem dbgWr_w1c : Obj.accMask .secDebug .w1c = 0 := by decide +kernel

theorem haltAsks (l : Fin 12) (brk : Bool) : DbgAsks (l.val + 0x10 + brk.toNat * 2 ^ 7) l.val brk true false false := by
  constructor <;> decide +revert +kernel
theorem stepAsks (l : Fin 12) (brk : Bool) : DbgAsks (l.val + 0x20 + brk.toNat * 2 ^ 7) l.val brk false true false := by
  constructor <;> decide +revert +kernel
theorem resumeAsks (l : Fin 12) (brk : Bool) : DbgAsks (l.val + 0x40 + brk.toNat * 2 ^ 7) l.val brk false false true := by
  constructor <;> decide +revert +kernel

theorem Begun.laneFenced (h : Begun s src d host b) (l : Nat) : b.laneFenced l = s.laneFenced l := by
  rw [State.laneFenced, State.laneFenced, h.fenced, h.fenced, h.activeUnit]

theorem State.writeAllowed_service {t : State} {w : Wr} (service : t.mode = .service) (writeIn : w.obj.writeIn = .service) : t.writeAllowed w = true := by
  have net : w.obj.netClass = false := by revert writeIn; cases w.obj <;> simp [Obj.writeIn, Obj.netClass]
  rw [State.writeAllowed, net, if_neg (by decide)]
  split
  · simp_all [Obj.writeIn]
  · simp_all [Obj.writeIn]
  · simp [writeIn, State.modeIs, service]

section
variable {l : Nat} {brk halt step resume : Bool} (asks : DbgAsks data l brk halt step resume)
include asks

theorem DbgAsks.newLane (v : State) : (dbgWr data).newFld v F.SEC_DEBUG_LANE = l := by
  rw [Wr.newFld_covered dbgWr_w1c (dbgWr_covered data).2.1, asks.lane]

theorem DbgAsks.applied (v : State) : (v.applyRw (dbgWr data)).fld F.SEC_DEBUG_LANE = l ∧
    (v.applyRw (dbgWr data)).fld F.SEC_DEBUG_BREAK_EN = brk.toNat := by
  obtain ⟨touched, whole, whole'⟩ := dbgWr_covered data
  exact ⟨(v.applyRw_fld_covered (w := dbgWr data) (show 0 < 256 by decide) rfl touched dbgWr_w1c whole).trans asks.lane,
    (v.applyRw_fld_covered (w := dbgWr data) (show 0 < 256 by decide) rfl touched dbgWr_w1c whole').trans asks.brk⟩

theorem DbgAsks.writeFenced (v : State) (acts : (halt || step || resume) = true) :
    v.writeFenced (dbgWr data) = if v.laneFenced l then some 5 else none := by
  have debug : v.writeFenced (dbgWr data) =
      if Obj.secDebug = .secDebug ∧ [F.SEC_DEBUG_HALT, F.SEC_DEBUG_STEP, F.SEC_DEBUG_RESUME].any ((dbgWr data).actBit ·) = true ∧
        v.laneFenced ((dbgWr data).newFld v F.SEC_DEBUG_LANE) = true then some 5
      else if Obj.secDebug = .secLanemem ∧ v.laneFenced (v.fld F.SEC_DEBUG_LANE) = true then some 5 else none := rfl
  have any : [F.SEC_DEBUG_HALT, F.SEC_DEBUG_STEP, F.SEC_DEBUG_RESUME].any ((dbgWr data).actBit ·) = true := by
    rw [List.any_cons, List.any_cons, List.any_cons, List.any_nil, asks.halt, asks.step, asks.resume, Bool.or_false, ← Bool.or_assoc, acts]
  rw [debug, any, asks.newLane, if_neg (c := Obj.secDebug = .secLanemem ∧ _) (fun h => Obj.noConfusion h.1)]
  by_cases fenced : v.laneFenced l = true
  · rw [if_pos ⟨rfl, rfl, fenced⟩, if_pos fenced]
  · rw [if_neg (fun h => fenced h.2.2), if_neg fenced]

theorem DbgAsks.objWrite {v t : State} (acts : (halt || step || resume) = true) (service : v.mode = .service) (free : v.laneFenced l = false)
    (does : (v.applyRw (dbgWr data)).secDebug halt step resume = .ok t) (ref : CmdRef) : v.objWrite (dbgWr data) 0 ref 0 = .ok (t, some done) := by
  rw [State.objWrite_of_allowed asks.reserved (State.writeAllowed_service service rfl) (by rw [asks.writeFenced v acts, free]; rfl)]
  rw [← asks.halt, ← asks.step, ← asks.resume] at does
  simp only [State.objEffect, does]
  rfl

theorem dbgWrite_fenced (acts : (halt || step || resume) = true) (running : s.per.running = true) (service : s.mode = .service)
    (fenced : s.laneFenced l = true) (here : s.atApplication src (wrDesc src 0xE004 0 1 data) data = true) :
    ∃ t, s.runWrite src 0xE004 0 1 data = .next t ∧ t.endedWith src 0x04 ∧ s.notedIn t [] := by
  obtain ⟨b, h⟩ := begun_of here
  have effect : b.objWrite (dbgWr data) 0 (s.refOf src) 0 = .ok (b, some (blockReset 5)) := by
    rw [State.objWrite_of_fenced asks.reserved (State.writeAllowed_service (h.mode.trans service) rfl)
      (by rw [asks.writeFenced b acts, h.laneFenced, fenced]; rfl)]
  obtain ⟨runs, ended⟩ := h.write_ends running secDebug_named effect (by rw [h.running, running]) h.carries
  exact ⟨_, runs, ended, h.acted_notedIn (s' := s) (t := b) (SameObjs.refl _ _) rfl rfl (State.objsOnly.frame rfl h) _⟩

end

theorem State.acted_sec (b t : State) (r : Result) : (s.actedTo src d host b t r).sec = t.sec := rfl
theorem State.acted_lanes (b t : State) (r : Result) : (s.actedTo src d host b t r).lanes = t.lanes := rfl
theorem State.acted_lane (b t : State) (r : Result) (u l c : Nat) : (s.actedTo src d host b t r).lane u l c = t.lane u l c := rfl

/-- Three actions in turn, the second of which may stop. -/
def actInTurn (f : State → State) (g : State → Except Fault State) (k : State → State) (first second third : Bool) (v : State) : Except Fault State :=
  match (if second then g (if first then f v else v) else .ok (if first then f v else v)) with
  | .error e => .error e
  | .ok t => .ok (if third then k t else t)

theorem actInTurn_second {f k : State → State} {g : State → Except Fault State} {v t : State} (h : g v = .ok t) :
    actInTurn f g k false true false v = .ok t := by
  simp only [actInTurn, Bool.false_eq_true, if_false, if_true, h]

theorem State.secDebug_inTurn (v : State) (halt step resume : Bool) : v.secDebug halt step resume =
    actInTurn State.debugHalt State.debugStep State.debugResume halt step resume v.showDebug := rfl

theorem State.secDebug_halt (v : State) : v.secDebug true false false = .ok v.showDebug.debugHalt := by
  simp only [State.secDebug_inTurn, actInTurn, Bool.false_eq_true, if_false, if_true]

theorem State.secDebug_resume (v : State) : v.secDebug false false true = .ok v.showDebug.debugResume := by
  simp only [State.secDebug_inTurn, actInTurn, Bool.false_eq_true, if_false, if_true]

theorem State.secDebug_step {v t : State} (steps : v.showDebug.debugStep = .ok t) : v.secDebug false true false = .ok t :=
  (v.secDebug_inTurn false true false).trans (actInTurn_second steps)

/-- The state a debug action starts from: the write's fields set, SEC.DEBUG showing the pair it names. -/
structure DbgState (s b v : State) (l : Nat) (brk : Bool) : Prop where
  lane : v.debugLane = l
  unit : v.activeUnit = s.activeUnit
  sec : v.sec = s.sec
  lanes : v.lanes = s.lanes
  bank : ∀ u k, v.pairBank u k = s.pairBank u k
  shown : v.debugShown
  named : v.fld F.SEC_DEBUG_LANE = l
  brk : v.fld F.SEC_DEBUG_BREAK_EN = brk.toNat
  per : v.per = b.per
  host : v.host = b.host

theorem State.pairBank_of {t u : State} (red : u.red = t.red) (bit : u.bit F.ENG_BANK_IN_FORCE = t.bit F.ENG_BANK_IN_FORCE) (x y : Nat) :
    u.pairBank x y = t.pairBank x y := by
  have head : u.headOf = t.headOf := funext fun count => by rw [State.headOf, State.headOf, red]
  simp only [State.pairBank, State.pair, red, bit, head]

theorem DbgAsks.state {l : Nat} {brk halt step resume : Bool} (asks : DbgAsks data l brk halt step resume) (h : Begun s src d host b) (hl : l < 12) :
    DbgState s b (b.applyRw (dbgWr data)).showDebug l brk := by
  obtain ⟨named, brk'⟩ := asks.applied b
  have only := b.applyRw_objsOnly (dbgWr data)
  have same := b.applyRw_sameObjs (w := dbgWr data) (show 0 < 256 by decide)
  generalize b.applyRw (dbgWr data) = x at named brk' only same
  have shows := State.debuggedInto.showDebug x
  have frame : x.objsOnly x.showDebug := x.setBit_objsOnly ..
  have all := only.trans frame
  have sames : SameObjs [.secDebug, .pwmgStatus] b x.showDebug := (same.mono (show [Obj.secDebug] ⊆ _ by decide)).trans shows.same
  have lane : x.debugLane = l := by rw [State.debugLane, named]; omega
  have bank : x.showDebug.bit F.ENG_BANK_IN_FORCE = s.bit F.ENG_BANK_IN_FORCE := (sames.bit (by decide) (by decide)).trans (h.same.bit (by decide) (by decide))
  have shown := x.showDebug_shown
  have named' := shows.fields F.SEC_DEBUG_LANE rfl (Or.inl (by decide))
  have brk'' := shows.fields F.SEC_DEBUG_BREAK_EN rfl (Or.inl (by decide))
  have unit : x.showDebug.activeUnit = s.activeUnit := (sames.fld (by decide) (by decide)).trans (h.same.fld (by decide) (by decide))
  have lane' := shows.debugLane
  generalize x.showDebug = y at all bank shown named' brk'' unit lane'
  exact ⟨lane'.trans lane, unit, by rw [all, h.sec], by rw [all, h.lanes], State.pairBank_of (by rw [all, h.red]) bank, shown, named'.trans named,
    brk''.trans brk', by rw [all], by rw [all]⟩

section
variable {l : Nat} {brk : Bool}

theorem halt_halts (asks : DbgAsks data l brk true false false) (running : s.per.running = true) (service : s.mode = .service) (hl : l < 12)
    (free : s.laneFenced l = false) (here : s.atApplication src (wrDesc src 0xE004 0 1 data) data = true) :
    ∃ t, s.runWrite src 0xE004 0 1 data = .next t ∧ t.endedWith src 0x00 ∧ t.sec.halted.testBit l = true ∧
      (t.lane s.activeUnit l 0).halted = true ∧ (t.lane s.activeUnit l 1).halted = true ∧ t.fld F.SEC_DEBUG_LANE = l ∧
      t.bit F.SEC_DEBUG_BREAK_EN = brk ∧ t.bit F.SEC_DEBUG_HALTED = true := by
  obtain ⟨b, h⟩ := begun_of here
  have state := asks.state h hl
  obtain ⟨into, bit, lane0, lane1, shown⟩ := (b.applyRw (dbgWr data)).showDebug.debugHalt_halts state.shown
  have effect := asks.objWrite (v := b) rfl (h.mode.trans service) ((h.laneFenced l).trans free) (State.secDebug_halt _) (s.refOf src)
  generalize (b.applyRw (dbgWr data)).showDebug = y at state into bit lane0 lane1 shown effect
  rw [state.lane] at bit lane0 lane1
  rw [state.unit] at lane0 lane1
  have lane := into.debugLane.trans state.lane
  have named := (into.fields F.SEC_DEBUG_LANE rfl (Or.inl (by decide))).trans state.named
  have brk' := (into.fields F.SEC_DEBUG_BREAK_EN rfl (Or.inl (by decide))).trans state.brk
  have per : y.debugHalt.per = b.per := by rw [into.frame, state.per]
  have hub : y.debugHalt.host = b.host := by rw [into.frame, state.host]
  generalize y.debugHalt = t at effect bit lane0 lane1 shown lane named brk' per hub
  obtain ⟨runs, ended⟩ := h.write_ends running secDebug_named effect (by rw [per, h.running, running]) (State.carries_of_cmds h.carries (by rw [hub]))
  refine ⟨_, runs, ended, by rw [State.acted_sec, bit], by rw [State.acted_lane, lane0], by rw [State.acted_lane, lane1], by rw [State.acted_fld, named], ?_, ?_⟩
  · rw [State.acted_bit, State.bit, brk']
    cases brk <;> rfl
  · rw [State.acted_bit, shown, lane, bit]

end


section
variable {l : Nat} {brk : Bool}

theorem resume_resumes (asks : DbgAsks data l brk false false true) (running : s.per.running = true) (service : s.mode = .service) (hl : l < 12)
    (free : s.laneFenced l = false) (here : s.atApplication src (wrDesc src 0xE004 0 1 data) data = true) :
    ∃ t, s.runWrite src 0xE004 0 1 data = .next t ∧ t.endedWith src 0x00 ∧
      (s.sec.halted.testBit l = true → t.sec = { s.sec with resume := s.sec.resume ||| 2 ^ l }) ∧
      (s.sec.halted.testBit l = false → t.sec = s.sec) := by
  obtain ⟨b, h⟩ := begun_of here
  have state := asks.state h hl
  have effect := asks.objWrite (v := b) rfl (h.mode.trans service) ((h.laneFenced l).trans free) (State.secDebug_resume _) (s.refOf src)
  generalize (b.applyRw (dbgWr data)).showDebug = y at state effect
  have halted : y.debugHalted = s.sec.halted.testBit l := by rw [State.debugHalted, state.lane, state.sec]
  have per : y.debugResume.per = b.per := by rw [← state.per]; unfold State.debugResume; split <;> rfl
  have hub : y.debugResume.host = b.host := by rw [← state.host]; unfold State.debugResume; split <;> rfl
  have marks : y.debugHalted = true → y.debugResume.sec = { y.sec with resume := y.sec.resume ||| 2 ^ y.debugLane } := fun on_ => by
    rw [State.debugResume, if_pos on_]
  have stays : y.debugHalted = false → y.debugResume.sec = y.sec := fun off => by rw [State.debugResume, off]; rfl
  rw [halted, state.sec, state.lane] at marks
  rw [halted, state.sec] at stays
  generalize y.debugResume = t at effect per hub marks stays
  obtain ⟨runs, ended⟩ := h.write_ends running secDebug_named effect (by rw [per, h.running, running]) (State.carries_of_cmds h.carries (by rw [hub]))
  exact ⟨_, runs, ended, fun on_ => by rw [State.acted_sec, marks on_], fun off => by rw [State.acted_sec, stays off]⟩

theorem step_unhalted (asks : DbgAsks data l brk false true false) (running : s.per.running = true) (service : s.mode = .service) (hl : l < 12)
    (free : s.laneFenced l = false) (here : s.atApplication src (wrDesc src 0xE004 0 1 data) data = true)
    (unhalted : s.sec.halted.testBit l = false) :
    ∃ t, s.runWrite src 0xE004 0 1 data = .next t ∧ t.endedWith src 0x00 ∧ t.lanes = s.lanes := by
  obtain ⟨b, h⟩ := begun_of here
  have state := asks.state h hl
  have off : (b.applyRw (dbgWr data)).showDebug.debugHalted = false := by rw [State.debugHalted, state.lane, state.sec, unhalted]
  have effect := asks.objWrite (v := b) rfl (h.mode.trans service) ((h.laneFenced l).trans free)
    (State.secDebug_step (t := (b.applyRw (dbgWr data)).showDebug) (by rw [State.debugStep, off]; rfl)) (s.refOf src)
  generalize (b.applyRw (dbgWr data)).showDebug = y at state effect
  obtain ⟨runs, ended⟩ := h.write_ends running secDebug_named effect (by rw [state.per, h.running, running])
    (State.carries_of_cmds h.carries (by rw [state.host]))
  exact ⟨_, runs, ended, by rw [State.acted_lanes, state.lanes]⟩

theorem step_steps (asks : DbgAsks data l brk false true false) (running : s.per.running = true) (service : s.mode = .service) (hl : l < 12)
    (free : s.laneFenced l = false) (here : s.atApplication src (wrDesc src 0xE004 0 1 data) data = true) {op : LaneOp}
    (halted : s.sec.halted.testBit l = true) (agree : s.lane s.activeUnit l 0 = s.lane s.activeUnit l 1)
    (steps : (s.lane s.activeUnit l 0).steps (s.pairBank s.activeUnit l) op) :
    ∃ t, s.runWrite src 0xE004 0 1 data = .next t ∧ t.endedWith src 0x00 ∧ ∀ c < 2,
      t.lane s.activeUnit l c = { (s.lane s.activeUnit l 0).run (s.pairBank s.activeUnit l) op with posts := [] } := by
  obtain ⟨b, h⟩ := begun_of here
  have state := asks.state h hl
  have lane : ∀ c, (b.applyRw (dbgWr data)).showDebug.lane s.activeUnit l c = s.lane s.activeUnit l c := fun c => by
    rw [State.lane, state.lanes, ← State.lane]
  obtain ⟨t, stepped, into, ran⟩ := State.debugStep_steps (s := (b.applyRw (dbgWr data)).showDebug) (op := op)
    (by rw [State.debugHalted, state.lane, state.sec, halted]) (by rw [state.lane, state.unit, lane, lane, agree])
    (by rw [state.lane, state.unit, lane, state.bank]; exact steps)
  have effect := asks.objWrite (v := b) rfl (h.mode.trans service) ((h.laneFenced l).trans free) (State.secDebug_step stepped) (s.refOf src)
  rw [state.lane, state.unit, lane, state.bank] at ran
  obtain ⟨runs, ended⟩ := h.write_ends running secDebug_named effect (by rw [into.frame, state.per, h.running, running])
    (State.carries_of_cmds h.carries (by rw [into.frame]; exact congrArg _ state.host))
  exact ⟨_, runs, ended, fun c hc => by rw [State.acted_lane, ran c hc]⟩

end


/-! ### SEC.LANEMEM -/

section
variable {off len : Nat}

theorem secLanemem_named : objOf 0xE005 = some .secLanemem ∧ instOf? 0xE005 .secLanemem = some 0 := by decide +kernel

theorem laneMemParam_bits (space : Fin 4) (first : Fin 16384) (lee : Bool) : getBits (laneMemParam space first lee) 0 2 = space.val ∧
    getBits (laneMemParam space first lee) 2 14 = first.val := by
  have hl := lee.toNat_lt
  simp only [getBits, laneMemParam]
  omega

theorem Begun.debugLane (h : Begun s src d host b) : b.debugLane = s.debugLane := by
  rw [State.debugLane, State.debugLane, h.same.fld (by decide) (by decide)]

theorem Begun.debugHalted (h : Begun s src d host b) : b.debugHalted = s.debugHalted := by
  rw [State.debugHalted, State.debugHalted, h.sec, h.debugLane]

theorem Begun.laneMemRead (h : Begun s src d host b) (param off len : Nat) : b.laneMemRead param off len = s.laneMemRead param off len := by
  simp only [State.laneMemRead, State.lane, h.lanes, h.activeUnit, h.debugLane]

theorem State.readCmd_lanemem {t : State} (service : t.mode = .service) (i : Nat) (short : d.length ≤ 8) : t.readCmd d .secLanemem i =
    if t.debugHalted then (t, some { done with result := t.laneMemRead d.param d.offset d.length }) else (t, some (refused 0x1)) := by
  have allowed : (t.mode != .service) = false := by rw [service]; rfl
  cases halted : t.debugHalted <;>
    simp only [State.readCmd, State.objRead_, State.readObject, allowed, halted, short, Bool.false_eq_true, if_false, if_true]

theorem exec_lanememRead (src : Src) (space : Fin 4) (first : Fin 16384) (lee : Bool) (off len : Fin 4097) (hostAddr : Fin (2 ^ 64)) (s : State) :
    exec (.lanememRead src space first lee off len hostAddr) s = outOf (s.runDesc src { srcDesc src 0x03 0xE005 with
      param := laneMemParam space first lee, offset := off.val, length := len.val, hostAddr := hostAddr.val } 0 0) := rfl

theorem lanememRead_answers (hd : d.opcode = 0x03 ∧ d.objId = 0xE005) (short : d.length ≤ 8) (running : s.per.running = true) (service : s.mode = .service)
    (here : s.atApplication src d = true) :
    (s.debugHalted = true → ∃ t, outOf (s.runDesc src d 0 0) = .next t ∧ t.endedWith src 0x00 ∧ s.notedIn t [] ∧
      ∃ c ∈ t.host.cmds, ∃ r, c.outcome = some r ∧ r.result = s.laneMemRead d.param d.offset d.length) ∧
    (s.debugHalted = false → ∃ t, outOf (s.runDesc src d 0 0) = .next t ∧ t.endedWith src 0x07 ∧ s.notedIn t []) := by
  obtain ⟨b, h⟩ := begun_of here
  have effect : b.effect (s.held src d 0) 0 = .ok (b.readCmd d .secLanemem 0) :=
    State.effect_objRead hd.1 (by rw [show (s.held src d 0).desc.objId = 0xE005 from hd.2]; exact secLanemem_named.1)
      (by rw [show (s.held src d 0).desc.objId = 0xE005 from hd.2]; exact secLanemem_named.2) 0
  rw [State.readCmd_lanemem (h.mode.trans service) 0 short, h.debugHalted, h.laneMemRead] at effect
  refine ⟨fun halted => ?_, fun unhalted => ?_⟩
  · rw [if_pos halted] at effect
    obtain ⟨runs, ended⟩ := h.ends running 0 effect (by rw [h.running, running]) h.carries
    obtain ⟨x, hx, outcome⟩ := State.closed_outcome h.carries { done with result := s.laneMemRead d.param d.offset d.length } b.sealHere (s.held src d)
    exact ⟨_, by rw [runs]; rfl, ended, h.acted_notedIn (s' := s) (t := b) (SameObjs.refl _ _) rfl rfl (State.objsOnly.frame rfl h) _,
      x, hx, _, outcome, rfl⟩
  · rw [unhalted, if_neg (by decide)] at effect
    obtain ⟨runs, ended⟩ := h.ends running 0 effect (by rw [h.running, running]) h.carries
    exact ⟨_, by rw [runs]; rfl, ended, h.acted_notedIn (s' := s) (t := b) (SameObjs.refl _ _) rfl rfl (State.objsOnly.frame rfl h) _⟩

abbrev memWr (off len data : Nat) : Wr := wrOf .secLanemem 0 off len data

theorem memWr_reserved (off len data : Nat) : (memWr off len data).reserved = false := rfl

theorem memWr_fenced (v : State) (off len data : Nat) :
    v.writeFenced (memWr off len data) = if v.laneFenced (v.fld F.SEC_DEBUG_LANE) then some 5 else none := by
  have mem : v.writeFenced (memWr off len data) =
      if Obj.secLanemem = .secDebug ∧ [F.SEC_DEBUG_HALT, F.SEC_DEBUG_STEP, F.SEC_DEBUG_RESUME].any ((memWr off len data).actBit ·) = true ∧
        v.laneFenced ((memWr off len data).newFld v F.SEC_DEBUG_LANE) = true then some 5
      else if Obj.secLanemem = .secLanemem ∧ v.laneFenced (v.fld F.SEC_DEBUG_LANE) = true then some 5 else none := rfl
  rw [mem, if_neg (fun h => Obj.noConfusion h.1)]
  by_cases fenced : v.laneFenced (v.fld F.SEC_DEBUG_LANE) = true
  · rw [if_pos ⟨rfl, fenced⟩, if_pos fenced]
  · rw [if_neg (fun h => fenced h.2), if_neg fenced]

theorem memWr_effect (v : State) (param off len data : Nat) (ref : CmdRef) : v.objEffect (memWr off len data) param ref 0 =
    if v.debugHalted then okWrite (v.laneMemWrite param off len (data % 2 ^ (8 * len))) else answer (v, refused 0x1) := rfl

end


section
variable {off len : Nat}

theorem State.laneMemWrite_lanes (v : State) (param off len data : Nat) :
    v.laneMemWrite param off len data = { v with lanes := (v.laneMemWrite param off len data).lanes } := rfl

theorem laneWord_joins (data : Nat) :
    data / 2 ^ (8 * 0) % 2 ^ 8 + data / 2 ^ (8 * 1) % 2 ^ 8 * 2 ^ 8 + data / 2 ^ (8 * 2) % 2 ^ 8 * 2 ^ 16 = data % 2 ^ 24 := by omega

/-- The words of a lane that a write of SEC.LANEMEM reaches. -/
def Lane.poke (l : Lane) (space first low len data : Nat) : Lane :=
  (List.range ((low + len + 3) / 4)).foldl (fun (l : Lane) i =>
    let old := l.memWord space (first + i)
    let byte := fun (b : Nat) =>
      if low ≤ 4 * i + b ∧ 4 * i + b < low + len then data / 2 ^ (8 * (4 * i + b - low)) % 2 ^ 8 else old / 2 ^ (8 * b) % 2 ^ 8
    l.setMemWord space (first + i) (byte 0 + byte 1 * 2 ^ 8 + byte 2 * 2 ^ 16)) l

theorem State.laneMemWrite_pokes (v : State) (param off len data : Nat) : v.laneMemWrite param off len data =
    ((v.setLane v.activeUnit v.debugLane 0 ((v.lane v.activeUnit v.debugLane 0).poke (getBits param 0 2) (getBits param 2 14 + off / 4) (off % 4)
      len data)).setLane v.activeUnit v.debugLane 1 (((v.setLane v.activeUnit v.debugLane 0 ((v.lane v.activeUnit v.debugLane 0).poke
      (getBits param 0 2) (getBits param 2 14 + off / 4) (off % 4) len data)).lane v.activeUnit v.debugLane 1).poke (getBits param 0 2)
      (getBits param 2 14 + off / 4) (off % 4) len data)) := rfl

/-- A whole word of the X space. -/
theorem Lane.poke_x (l : Lane) {first : Nat} (data : Nat) (hf : first < 2 ^ 14) :
    (l.poke 1 first 0 4 data).x.get first 0 = BitVec.ofNat 24 data := by
  have one : l.poke 1 first 0 4 data = l.setMemWord 1 (first + 0)
      (data / 2 ^ (8 * 0) % 2 ^ 8 + data / 2 ^ (8 * 1) % 2 ^ 8 * 2 ^ 8 + data / 2 ^ (8 * 2) % 2 ^ 8 * 2 ^ 16) := rfl
  rw [one, laneWord_joins, Nat.add_zero, Lane.setMemWord, if_pos hf, SMap.get_set_same]
  exact BitVec.eq_of_toNat_eq (by rw [BitVec.toNat_ofNat, BitVec.toNat_ofNat, Nat.mod_mod])

theorem State.laneMemWrite_x (v : State) {param first data : Nat} (space : getBits param 0 2 = 1) (at_ : getBits param 2 14 = first) (hf : first < 2 ^ 14) :
    ∀ c < 2, ((v.laneMemWrite param 0 4 data).lane v.activeUnit v.debugLane c).x.get first 0 = BitVec.ofNat 24 data := by
  have keys := laneKey_copies v.activeUnit v.debugLane
  intro c hc
  rw [State.laneMemWrite_pokes, space, at_]
  obtain rfl | rfl : c = 0 ∨ c = 1 := by omega
  · rw [State.lane_setLane_ne _ _ keys.symm, State.lane_setLane_same]
    exact Lane.poke_x _ _ hf
  · rw [State.lane_setLane_same]
    exact Lane.poke_x _ _ hf

theorem exec_lanememWrite (src : Src) (space : Fin 4) (first : Fin 16384) (off len : Fin 4097) (data : Nat) (s : State) :
    exec (.lanememWrite src space first off len data) s =
      outOf (s.runDesc src (wrDesc src 0xE005 off.val len.val data (laneMemParam space first false)) data 0) := rfl

theorem lanememWrite_effect (v : State) (param : Nat) (service : v.mode = .service) :
    v.effect (s.held src (wrDesc src 0xE005 off len data param) data) 0 =
      if v.laneFenced (v.fld F.SEC_DEBUG_LANE) then .ok (v, some (blockReset 5))
      else if v.debugHalted then .ok (v.laneMemWrite param off len (data % 2 ^ (8 * len)), some done) else .ok (v, some (refused 0x1)) := by
  rw [State.effect_objWrite v secLanemem_named.1 secLanemem_named.2 (Or.inr rfl) 0]
  have allowed : v.writeAllowed (memWr off len data) = true := State.writeAllowed_service service rfl
  have fence := memWr_fenced v off len data
  cases fenced : v.laneFenced (v.fld F.SEC_DEBUG_LANE)
  · rw [fenced] at fence
    rw [State.objWrite_of_allowed (memWr_reserved off len data) allowed (fence.trans (if_neg (by decide))), memWr_effect,
      if_neg (c := false = true) (by decide)]
    rfl
  · rw [fenced] at fence
    rw [State.objWrite_of_fenced (memWr_reserved off len data) allowed (fence.trans (if_pos rfl)), if_pos rfl]

theorem lanememWrite_answers {param : Nat} (running : s.per.running = true) (service : s.mode = .service)
    (here : s.atApplication src (wrDesc src 0xE005 off len data param) data = true) :
    (s.laneFenced (s.fld F.SEC_DEBUG_LANE) = true → ∃ t, outOf (s.runDesc src (wrDesc src 0xE005 off len data param) data 0) = .next t ∧
      t.endedWith src 0x04 ∧ s.notedIn t []) ∧
    (s.laneFenced (s.fld F.SEC_DEBUG_LANE) = false → s.debugHalted = true →
      ∃ t, outOf (s.runDesc src (wrDesc src 0xE005 off len data param) data 0) = .next t ∧ t.endedWith src 0x00 ∧
        ({ s with lanes := t.lanes } : State).notedIn t [] ∧
        (∀ first, getBits param 0 2 = 1 → getBits param 2 14 = first → first < 2 ^ 14 → off = 0 → len = 4 → ∀ c < 2,
          (t.lane s.activeUnit s.debugLane c).x.get first 0 = BitVec.ofNat 24 data)) ∧
    (s.laneFenced (s.fld F.SEC_DEBUG_LANE) = false → s.debugHalted = false →
      ∃ t, outOf (s.runDesc src (wrDesc src 0xE005 off len data param) data 0) = .next t ∧ t.endedWith src 0x07 ∧ s.notedIn t []) := by
  obtain ⟨b, h⟩ := begun_of here
  have effect := lanememWrite_effect (s := s) (src := src) (off := off) (len := len) (data := data) b param (h.mode.trans service)
  have lane : b.fld F.SEC_DEBUG_LANE = s.fld F.SEC_DEBUG_LANE := h.same.fld (by decide) (by decide)
  rw [lane, h.laneFenced, h.debugHalted] at effect
  refine ⟨fun fenced => ?_, fun free halted => ?_, fun free unhalted => ?_⟩
  · rw [if_pos fenced] at effect
    obtain ⟨runs, ended⟩ := h.ends running 0 effect (by rw [h.running, running]) h.carries
    exact ⟨_, by rw [runs]; rfl, ended, h.acted_notedIn (s' := s) (t := b) (SameObjs.refl _ _) rfl rfl (State.objsOnly.frame rfl h) _⟩
  · rw [if_neg (by rw [free]; decide), if_pos halted] at effect
    have lanes := b.laneMemWrite_lanes param off len (data % 2 ^ (8 * len))
    have word : ∀ first, getBits param 0 2 = 1 → getBits param 2 14 = first → first < 2 ^ 14 → off = 0 → len = 4 → ∀ c < 2,
        ((b.laneMemWrite param off len (data % 2 ^ (8 * len))).lane s.activeUnit s.debugLane c).x.get first 0 = BitVec.ofNat 24 data := by
      rintro first space at_ hf rfl rfl c hc
      rw [← h.activeUnit, ← h.debugLane, b.laneMemWrite_x space at_ hf c hc]
      exact BitVec.eq_of_toNat_eq (by rw [BitVec.toNat_ofNat, BitVec.toNat_ofNat]; omega)
    generalize b.laneMemWrite param off len (data % 2 ^ (8 * len)) = t at effect lanes word
    obtain ⟨runs, ended⟩ := h.ends running 0 effect (by rw [lanes, h.running, running]) (State.carries_of_cmds h.carries (by rw [lanes]))
    refine ⟨_, by rw [runs]; rfl, ended, h.acted_notedIn (s' := { s with lanes := t.lanes }) (t := t) (SameObjs.of_objs (by rw [lanes]) _) rfl rfl ?_ _, word⟩
    rw [lanes, h.frame]
  · rw [if_neg (by rw [free]; decide), if_neg (by rw [unhalted]; decide)] at effect
    obtain ⟨runs, ended⟩ := h.ends running 0 effect (by rw [h.running, running]) h.carries
    exact ⟨_, by rw [runs]; rfl, ended, h.acted_notedIn (s' := s) (t := b) (SameObjs.refl _ _) rfl rfl (State.objsOnly.frame rfl h) _⟩

end

theorem exec_halt (src : Src) (l : Fin 16) (brk : Bool) (s : State) :
    exec (.halt src l brk) s = s.runWrite src 0xE004 0 1 (l.val + 0x10 + brk.toNat * 2 ^ 7) := rfl
theorem exec_stepLane (src : Src) (l : Fin 16) (brk : Bool) (s : State) :
    exec (.step src l brk) s = s.runWrite src 0xE004 0 1 (l.val + 0x20 + brk.toNat * 2 ^ 7) := rfl
theorem exec_debugResume (src : Src) (l : Fin 16) (brk : Bool) (s : State) :
    exec (.debugResume src l brk) s = s.runWrite src 0xE004 0 1 (l.val + 0x40 + brk.toNat * 2 ^ 7) := rfl

/-- Settles O46. -/
theorem serviceDebug : Obligations.ServiceDebug := by
  unfold Obligations.ServiceDebug
  intro src s running service acts
  refine ⟨fun l brk => ?_, fun space first lee off len hostAddr short => ?_, fun space first off len data here => ?_⟩
  · dsimp only
    refine ⟨fun fenced here => ?_, fun free here => ?_, fun free here => ?_, fun free here => ⟨fun unhalted => ?_, ?_⟩⟩
    · rw [exec_halt]
      exact dbgWrite_fenced (haltAsks l brk) rfl running service fenced here
    · rw [exec_halt]
      exact halt_halts (haltAsks l brk) running service l.isLt free here
    · rw [exec_debugResume]
      exact resume_resumes (resumeAsks l brk) running service l.isLt free here
    · rw [exec_stepLane]
      exact step_unhalted (stepAsks l brk) running service l.isLt free here unhalted
    · intro op halted agree task pc decodes notEnd defined clean room
      rw [exec_stepLane]
      exact step_steps (stepAsks l brk) running service l.isLt free here halted agree ⟨task, pc, decodes, notEnd, defined, clean, room⟩
  · intro d here
    rw [exec_lanememRead]
    exact lanememRead_answers (d := d) ⟨rfl, rfl⟩ short running service here
  · rw [exec_lanememWrite]
    obtain ⟨fenced, writes, unhalted⟩ := lanememWrite_answers running service here
    refine ⟨fenced, fun free halted => ?_, unhalted⟩
    obtain ⟨t, ran, ended, noted, word⟩ := writes free halted
    obtain ⟨hspace, hfirst⟩ := laneMemParam_bits space first false
    exact ⟨t, ran, ended, noted, fun one zero four => word first.val (hspace.trans one) hfirst first.isLt zero four⟩


end

end Sys2Proof.Machine
end

section
/-! The statement of the fault collector (R102, R361, R362, R368, R370, R372, R378). -/

set_option Elab.async false

namespace Sys2Proof.Machine

/-! ### What a reaction leaves of the collector -/

@[simp] theorem foldl_flt {α : Type} (f : State → α → State) (h : ∀ s a, (f s a).flt = s.flt) (l : List α) (s : State) :
    (l.foldl f s).flt = s.flt := foldl_keeps State.flt f h l s

@[simp] theorem State.forRange_flt (s : State) (n : Nat) (f : State → Nat → State) (h : ∀ s a, (f s a).flt = s.flt) :
    (s.forRange n f).flt = s.flt := foldl_keeps State.flt f h _ s

@[simp] theorem State.setFence_flt (s : State) (b : FenceId) (v : Bool) : (s.setFence b v).flt = s.flt := by
  unfold State.setFence
  split <;> simp -implicitDefEqProofs

@[simp] theorem State.noteRedundancy_flt (s : State) : s.noteRedundancy.flt = s.flt := by
  simp -implicitDefEqProofs [State.noteRedundancy, apply_ite State.flt]

@[simp] theorem State.fenceUnit_flt (s : State) (u : Nat) : (s.fenceUnit u).flt = s.flt := by
  simp -implicitDefEqProofs [State.fenceUnit]

@[simp] theorem State.dropUnsealed_flt (s : State) : s.dropUnsealed.flt = s.flt := by
  simp -implicitDefEqProofs [State.dropUnsealed]

@[simp] theorem State.abandonBuild_flt (s : State) : s.abandonBuild.flt = s.flt := by
  unfold State.abandonBuild
  split <;> simp -implicitDefEqProofs

@[simp] theorem State.startTakeover_flt (s : State) (u source stamp : Nat) : (s.startTakeover u source stamp).flt = s.flt := by
  simp -implicitDefEqProofs [State.startTakeover]

@[simp] theorem State.failTakeover_flt (s : State) (cause : Nat) : (s.failTakeover cause).flt = s.flt := by
  unfold State.failTakeover
  split <;> simp -implicitDefEqProofs

@[simp] theorem State.abandonSwap_flt (s : State) (cause position : Nat) (fence : Bool) : (s.abandonSwap cause position fence).flt = s.flt := by
  unfold State.abandonSwap
  split <;> simp -implicitDefEqProofs


theorem State.asOf_flt (s : State) (k : Kind) (stamp : Nat) : (s.asOf k stamp).flt = s.flt := by
  unfold State.asOf
  split <;> rfl

theorem State.noteFirst_flt (s : State) (e : EventRec) : (s.noteFirst e).flt = s.flt := by
  unfold State.noteFirst
  split_ifs
  · exact foldl_flt _ (fun s x => s.setFld_flt _ _ _ _) _ _
  · exact State.setBit_flt ..
  · rfl

theorem State.noteRec_flt (s : State) (m : Msg) (v : Verdict) : (s.noteRec m v).flt = s.flt := by
  simp -implicitDefEqProofs [State.noteRec, apply_ite State.flt, State.satInc]

theorem State.noteFreeze_flt (s : State) (sev stamp : Nat) : (s.noteFreeze sev stamp).flt = s.flt := by
  unfold State.noteFreeze State.freezeAt
  split
  · dsimp only
    split <;> rfl
  · rfl

/-- What the collector keeps of an event besides its log: the latches, the history, the stamps and the interval. -/
structure State.keepsFaults (s t : State) : Prop where
  latched : t.flt.latched = s.flt.latched
  history : t.flt.history = s.flt.history
  interval : t.flt.interval = s.flt.interval

namespace State.keepsFaults
variable {s t u : State}

theorem of_flt (h : t.flt = s.flt) : s.keepsFaults t := ⟨by rw [h], by rw [h], by rw [h]⟩
theorem trans (h : s.keepsFaults t) (h' : t.keepsFaults u) : s.keepsFaults u :=
  ⟨h'.latched.trans h.latched, h'.history.trans h.history, h'.interval.trans h.interval⟩

theorem keepRecord (s : State) (e : EventRec) : s.keepsFaults (s.keepRecord e) := ⟨rfl, rfl, rfl⟩
theorem markSimul (s : State) (stamp : Nat) : s.keepsFaults (s.markSimul stamp) := ⟨rfl, rfl, rfl⟩
theorem dropFirst (s : State) (stamp : Nat) : s.keepsFaults (s.dropFirst stamp) := ⟨rfl, rfl, rfl⟩
theorem reactSafe (s : State) : s.keepsFaults s.reactSafe := ⟨rfl, rfl, rfl⟩

theorem logEntry (s : State) (e : EventRec) (message flags base : Nat) : s.keepsFaults (s.logEntry e message flags base) := by
  unfold State.logEntry
  dsimp only
  generalize (if e.kind = 0xFD ∨ e.kind = 0xFE then _ else _ : SMap Nat) = log
  have logs : s.keepsFaults { s with flt := { s.flt with log := log } } := ⟨rfl, rfl, rfl⟩
  generalize ({ s with flt := { s.flt with log := log } } : State) = v at logs
  have next : v.keepsFaults (v.setFld F.FLT_LOG_NEXT (s.fld F.FLT_LOG_NEXT + 1)) := of_flt (State.setFld_flt ..)
  generalize v.setFld F.FLT_LOG_NEXT (s.fld F.FLT_LOG_NEXT + 1) = w at next
  split
  · exact (logs.trans next).trans ((of_flt (State.setBit_flt ..)).trans (of_flt (State.setFld_flt ..)))
  · exact (logs.trans next).trans (of_flt (State.setFld_flt ..))

theorem logEvent (s : State) (m : Msg) (v : Verdict) (e : EventRec) (x y z : Bool) : s.keepsFaults (s.logEvent m v e x y z) := by
  unfold State.logEvent
  split
  · exact logEntry ..
  · exact of_flt rfl

theorem reactSwap (s : State) (src stamp : Nat) : s.keepsFaults (s.reactSwap src stamp) := by
  refine of_flt ?_
  unfold State.reactSwap
  dsimp only
  split
  · split
    · exact State.failTakeover_flt ..
    · rfl
  · split
    · split
      · exact State.abandonSwap_flt ..
      · exact State.startTakeover_flt ..
    · split
      · exact State.startTakeover_flt ..
      · have fenced := State.fenceUnit_flt s (s.namedUnit src)
        generalize s.fenceUnit (s.namedUnit src) = x at fenced ⊢
        exact fenced

theorem reactIncoming {src : Nat} (h : s.reactIncoming src = some t) : s.keepsFaults t := by
  unfold State.reactIncoming at h
  split at h
  · split at h
    · cases h
      exact of_flt (State.failTakeover_flt ..)
    · cases h
  · cases h

theorem react (s : State) (m : Msg) (sev : Nat) : s.keepsFaults (s.react m sev) := by
  unfold State.react
  have frozen : s.keepsFaults (s.noteFreeze sev m.stamp) := of_flt (s.noteFreeze_flt ..)
  generalize s.noteFreeze sev m.stamp = v at frozen
  have safe : v.keepsFaults (if sev = 5 then v.reactSafe else v) := by
    split
    · exact reactSafe v
    · exact ⟨rfl, rfl, rfl⟩
  dsimp only
  generalize (if sev = 5 then v.reactSafe else v) = w at safe
  have groups : ∀ x : State, x.keepsFaults (if 3 ≤ sev then x.refreshGroups else x).noteRedundancy := fun x => by
    refine trans ?_ (of_flt (State.noteRedundancy_flt _))
    split
    · exact of_flt (by rw [x.refreshGroups_trippedInto.frame])
    · exact of_flt rfl
  refine (frozen.trans safe).trans (trans ?_ (groups _))
  split
  next x incoming => exact reactIncoming incoming
  next =>
    split
    · exact reactSwap ..
    · exact of_flt rfl

end State.keepsFaults


section
variable {s : State} {m : Msg}

/-- A source's latch stands after it latches. -/
theorem State.latch_latches (s : State) (src : Nat) (v : Verdict) : ∃ x ∈ (s.latch src v).flt.latched, x.source = src := by
  refine ⟨_, List.mem_append_right _ (List.mem_singleton_self _), ?_⟩
  dsimp only
  split <;> rfl

/-- A source's first event of a tick latches it and joins the history. -/
theorem State.collectNew_latches (s : State) (m : Msg) : (∃ x ∈ (s.collectNew m).flt.latched, x.source = m.source) ∧
    (s.collectNew m).flt.history = s.flt.history ++ [(m.source, s.flt.interval)] ∧ (s.collectNew m).flt.interval = s.flt.interval := by
  have latch : ∀ (v : State) (w : Verdict), (∃ x ∈ (v.latchAsOf m w).flt.latched, x.source = m.source) ∧
      (v.latchAsOf m w).flt.history = v.flt.history ∧ (v.latchAsOf m w).flt.interval = v.flt.interval := fun v w =>
    ⟨State.latch_latches (v.asOf (kindOf m.source) m.stamp) m.source w, rfl, rfl⟩
  unfold State.collectNew
  dsimp only
  generalize hu : ({ s with
    flt := { s.flt with history := s.flt.history ++ [(m.source, s.flt.interval)], stamps := s.flt.stamps ++ [(m.source, m.stamp)] } } : State) = u
  have history : u.flt.history = s.flt.history ++ [(m.source, s.flt.interval)] ∧ u.flt.interval = s.flt.interval := by rw [← hu]; exact ⟨rfl, rfl⟩
  generalize (s.asOf (kindOf m.source) m.stamp).verdict m.source = v
  obtain ⟨latched, history', interval'⟩ := latch u v
  generalize u.latchAsOf m v = w at latched history' interval'
  have shown : w.keepsFaults ((w.noteRec m v).showBits m.source) := .of_flt (by rw [State.showBits_flt, State.noteRec_flt])
  generalize (w.noteRec m v).showBits m.source = x at shown
  generalize s.recordOf m v.sev (s.simulOf m) = e
  have firsts : x.keepsFaults (if m.source = 0 ∧ m.kind = 0xFF then x.noteFirst e else (x.noteFirst e).keepRecord e) := by
    split
    · exact .of_flt (x.noteFirst_flt e)
    · exact .trans (.of_flt (x.noteFirst_flt e)) (.keepRecord _ e)
  generalize (if m.source = 0 ∧ m.kind = 0xFF then x.noteFirst e else (x.noteFirst e).keepRecord e) = y at firsts
  have marks : y.keepsFaults (if s.simulOf m = true then y.markSimul m.stamp else y) := by
    split
    · exact .markSimul ..
    · exact ⟨rfl, rfl, rfl⟩
  generalize (if s.simulOf m = true then y.markSimul m.stamp else y) = z at marks
  have drops : z.keepsFaults (if (s.simulOf m && x.isFirst e) = true then z.dropFirst m.stamp else z) := by
    split
    · exact .dropFirst ..
    · exact ⟨rfl, rfl, rfl⟩
  generalize (if (s.simulOf m && x.isFirst e) = true then z.dropFirst m.stamp else z) = z' at drops
  have ends := (((shown.trans firsts).trans marks).trans drops).trans
    ((State.keepsFaults.logEvent z' m v e (s.latchOf m.source).isNone (v.promoted && !(s.latchOf m.source).any (·.promoted)) (x.isFirst e)).trans
      (.react _ m v.sev))
  rw [ends.latched, ends.history, ends.interval, history', interval', history.1, history.2]
  exact ⟨latched, rfl, rfl⟩

/-- An event with an onset of a listed kind latches its source number (R361, R368, R370). -/
theorem State.collect_latches {row : KindRow} (known : kindRow (kindOf m.source) = some row) (on_ : m.on = true) (first : s.repeated m = false)
    (onset : row.live = false ∨ m.forced = true ∨ s.isLive m.source = false) : (∃ x ∈ (s.collect m).flt.latched, x.source = m.source) ∧
    (s.collect m).flt.history = s.flt.history ++ [(m.source, s.flt.interval)] ∧ (s.collect m).flt.interval = s.flt.interval := by
  have takes : s.collectOn m = s.collectNew m := if_neg (by rw [first]; decide)
  have collects : s.collect m = s.collectNew m ∨ s.collect m = (s.setLive m.source true).collectNew m := by
    have again : (s.setLive m.source true).collectOn m = (s.setLive m.source true).collectNew m := if_neg (by
      rw [show (s.setLive m.source true).repeated m = s.repeated m from rfl, first]
      decide)
    simp only [State.collect, known, on_, if_true, takes, again]
    obtain off | forced | dead := onset
    · exact Or.inl (by rw [off]; rfl)
    · exact Or.inl (by rw [forced]; cases row.live <;> rfl)
    · rw [dead]
      cases row.live
      · exact Or.inl rfl
      · cases m.forced
        · exact Or.inr rfl
        · exact Or.inl rfl
  obtain now | later := collects
  · rw [now]
    exact s.collectNew_latches m
  · rw [later]
    exact (s.setLive m.source true).collectNew_latches m

theorem State.collect_clears {row : KindRow} (known : kindRow (kindOf m.source) = some row) (off : m.on = false) :
    (s.collect m).msgs = s.msgs ∧ m.source ∉ (s.collect m).flt.live ∧ (s.collect m).flt.latched = s.flt.latched ∧
      (s.collect m).flt.history = s.flt.history := by
  have clears : s.collect m = (s.setLive m.source false).showBits m.source := by
    simp only [State.collect, known, off, Bool.false_eq_true, if_false]
  have msgs : ∀ t : State, (t.showBits m.source).msgs = t.msgs := fun t => by
    unfold State.showBits
    split <;> simp -implicitDefEqProofs
  rw [clears, msgs, State.showBits_flt]
  refine ⟨rfl, ?_, rfl, rfl⟩
  show m.source ∉ s.flt.live.filter (· != m.source) ++ []
  simp

end


section
variable {s : State} {m : Msg}

theorem State.deliverOne_nil (none_ : s.msgs = []) : s.deliverOne = s := by simp only [State.deliverOne, none_]

theorem State.deliverOne_cons {r : List Msg} (front : s.msgs = m :: r) : s.deliverOne = ({ s with msgs := r } : State).collect m := by
  simp only [State.deliverOne, front]

theorem State.drain_of_nil (none_ : s.msgs = []) : s.drain = s := by
  unfold State.drain
  rw [none_]
  simp only [State.drainN, none_]

/-! ### Events of sources outside the other commands -/

theorem kindOf_sourceNo (k : Kind) {i : Nat} (hi : i < 128) : kindOf (sourceNo k i) = k := by
  rw [kindOf, sourceNo, Nat.mul_add_div (by decide), Nat.div_eq_of_lt hi, Nat.add_zero]

theorem hubCheck_row : ∃ row, kindRow K.HUB_CHECK = some row ∧ row.live = false ∧ row.instances ≤ 128 := ⟨_, rfl, rfl, by decide⟩

theorem hubCheck_collects {e : ExtEvent} (ok : ExtEvent.ok e = true) (none_ : s.msgs = []) (kind : e.kind = K.HUB_CHECK)
    (first : (sourceNo K.HUB_CHECK e.inst, s.now) ∉ s.flt.stamps) : (∃ x ∈ (s.extEvent e).flt.latched, x.source = sourceNo K.HUB_CHECK e.inst) ∧
    (s.extEvent e).flt.history = s.flt.history ++ [(sourceNo K.HUB_CHECK e.inst, s.flt.interval)] := by
  obtain ⟨row, known, unlive, few⟩ := hubCheck_row
  have small : e.inst < 128 := by
    simp only [ExtEvent.ok, kind, known, Bool.and_eq_true, Option.any_some, decide_eq_true_eq] at ok
    omega
  have spare : s.spareFor e = s := by
    unfold State.spareFor
    dsimp only
    rw [kind, if_neg (by decide), if_neg (by decide), if_neg (by decide)]
  have ext : s.extEvent e = s.collect { source := sourceNo K.HUB_CHECK e.inst, kind := e.sub.val, addr := e.addr.val, data := e.data.val, dlen := e.dlen.val
                                        stamp := s.now } := by
    rw [State.extEvent, spare, State.drain_of_nil none_, kind]
  rw [ext]
  have once : s.repeated { source := sourceNo K.HUB_CHECK e.inst, kind := e.sub.val, addr := e.addr.val, data := e.data.val, dlen := e.dlen.val
                           stamp := s.now } = false := by
    rw [State.repeated, List.contains_eq_mem]
    exact decide_eq_false first
  obtain ⟨latched, history, -⟩ := State.collect_latches (by rw [kindOf_sourceNo _ small, known]) rfl once (Or.inl unlive)
  exact ⟨latched, history⟩

/-! ### A disturbed word of a lane memory (R102) -/

theorem laneKey_ne {u l c u' l' c' : Nat} (hl : l < 12) (hc : c < 2) (hl' : l' < 12) (hc' : c' < 2) (other : (u, l, c) ≠ (u', l', c')) :
    laneKey u l c ≠ laneKey u' l' c' := by
  intro same
  unfold laneKey at same
  exact other (by rw [show u = u' by omega, show l = l' by omega, show c = c' by omega])

theorem State.upset_marks {e : ExtEvent} (inst : e.inst < 24) (at_ : e.addr.val < (upsetMem e.sub.val).size) : s.upset e = { s with lanes := (s.upset e).lanes } ∧
    (upsetMem e.sub.val, e.addr.val) ∈ ((s.upset e).lane (e.inst / 12) (e.inst % 12) (e.sub.val % 2)).badParity ∧
    ∀ u l c, l < 12 → c < 2 → (u, l, c) ≠ (e.inst / 12, e.inst % 12, e.sub.val % 2) → (s.upset e).lane u l c = s.lane u l c := by
  have disturbs : ∃ v : Lane, (upsetMem e.sub.val, e.addr.val) ∈ v.badParity ∧
      s.upset e = s.setLane (e.inst / 12) (e.inst % 12) (e.sub.val % 2) v := by
    unfold State.upset
    dsimp only
    rw [if_pos ⟨at_, inst⟩]
    refine ⟨_, ?_, rfl⟩
    dsimp only
    split
    next there => exact List.contains_iff_mem.mp there
    next => exact List.mem_append_right _ (List.mem_singleton_self _)
  obtain ⟨v, bad, upsets⟩ := disturbs
  rw [upsets]
  refine ⟨rfl, by rw [State.lane_setLane_same]; exact bad, fun u l c hl hc other => ?_⟩
  exact State.lane_setLane_ne _ _ (laneKey_ne hl hc (by omega) (by omega) other)

end

theorem exec_faultEvent_none (s : State) : exec (.faultEvent none) s = .next s.deliverOne := rfl
theorem exec_faultEvent_some (s : State) (e : ExtEvent) : exec (.faultEvent (some e)) s =
    .next (if s.boot.resetLow then s else if e.kind = K.LANE_PARITY then s.upset e else if ExtEvent.ok e then s.extEvent e else s) := rfl
theorem exec_aliveToggle (s : State) : exec .aliveToggle s = .next s.aliveToggle := rfl

/-- Settles O51. -/
theorem eventsReachTheCollector : Obligations.EventsReachTheCollector := by
  unfold Obligations.EventsReachTheCollector
  refine fun s => ⟨fun none_ => ?_, fun m r row front known => ⟨fun on_ first onset => ?_, fun off => ?_⟩, fun e => ⟨fun stops => ?_, fun runs ok none_ kind first => ?_,
    fun runs kind inst at_ => ?_⟩, fun stands => ?_, fun stage running => ?_⟩
  · rw [exec_faultEvent_none, State.deliverOne_nil none_]
  · obtain ⟨latched, history, interval⟩ := State.collect_latches (s := { s with msgs := r }) known on_ first onset
    exact ⟨_, by rw [exec_faultEvent_none, State.deliverOne_cons front], latched, history, interval, State.collect_time _ _⟩
  · obtain ⟨msgs, dead, latched, history⟩ := State.collect_clears (s := { s with msgs := r }) known off
    exact ⟨_, by rw [exec_faultEvent_none, State.deliverOne_cons front], msgs, dead, latched, history⟩
  · rw [exec_faultEvent_some]
    obtain low | ⟨notOk, kind⟩ := stops
    · rw [if_pos low]
    · rw [if_neg kind, notOk, if_neg (c := false = true) (by decide), ite_self]
  · rw [exec_faultEvent_some, runs, if_neg (by decide), if_neg (by rw [kind]; decide), if_pos ok]
    exact ⟨_, rfl, hubCheck_collects ok none_ kind first⟩
  · rw [exec_faultEvent_some, runs, if_neg (by decide), if_pos kind]
    exact ⟨_, rfl, State.upset_marks inst at_⟩
  · rw [exec_aliveToggle, State.aliveToggle, if_pos (stands.imp_right fun off => by rw [off]; rfl)]
  · intro half w
    refine ⟨_, by rw [exec_aliveToggle, State.aliveToggle, if_neg (by rw [stage, running]; decide)], rfl, fun safe => ?_⟩
    have runs : w.aliveRuns = false := by rw [State.aliveRuns, safe, Bool.not_true, Bool.and_false]
    show (w.aliveRuns && decide (w.now / half % 2 = 1)) = false
    rw [runs, Bool.false_and]


end Sys2Proof.Machine
end

section
/-! The statement of the seal of cairns, the mirror and the black box copy (R23, R338, R339, R410). -/

set_option Elab.async false

namespace Sys2Proof.Machine

@[simp] theorem foldl_red {α : Type} (f : State → α → State) (h : ∀ s a, (f s a).red = s.red) (l : List α) (s : State) :
    (l.foldl f s).red = s.red := foldl_keeps State.red f h l s

@[simp] theorem State.forRange_red (s : State) (n : Nat) (f : State → Nat → State) (h : ∀ s a, (f s a).red = s.red) :
    (s.forRange n f).red = s.red := foldl_keeps State.red f h _ s

@[simp] theorem State.satInc_red (s : State) (cnt sat : Fld) (inst : Nat) (entry : Nat) : (s.satInc cnt sat inst entry).red = s.red := by
  simp -implicitDefEqProofs [State.satInc, apply_ite State.red]

@[simp] theorem State.setTail_red (s : State) (m : Nat) (p : Pos) : (s.setTail m p).red = s.red := by
  simp -implicitDefEqProofs [State.setTail]

@[simp] theorem State.hostWrite_red (s : State) (addr len data : Nat) : (s.hostWrite addr len data).red = s.red := by
  simp -implicitDefEqProofs [State.hostWrite, apply_ite State.red]

@[simp] theorem State.sendMessage_red (s : State) (v : Nat) : (s.sendMessage v).red = s.red := by
  simp -implicitDefEqProofs [State.sendMessage]

@[simp] theorem State.signalled_red (s : State) (m : Nat) : (s.signalled m).red = s.red := by
  simp -implicitDefEqProofs [State.signalled]

@[simp] theorem State.signalCq_red (s : State) (m : Nat) : (s.signalCq m).red = s.red := by
  simp -implicitDefEqProofs [State.signalCq, apply_ite State.red]

@[simp] theorem State.putEntry_red (s : State) (m ph data : Nat) (now : Bool) : (s.putEntry m ph data now).red = s.red := by
  simp -implicitDefEqProofs [State.putEntry, apply_ite State.red]

@[simp] theorem State.noteEqFull_red (s : State) : s.noteEqFull.red = s.red := by
  simp -implicitDefEqProofs [State.noteEqFull]

@[simp] theorem State.putEvent_red (s : State) (e : EventRec) : (s.putEvent e).red = s.red := by
  simp -implicitDefEqProofs [State.putEvent, apply_ite State.red]

@[simp] theorem State.putEvents_red (s : State) (es : List EventRec) : (s.putEvents es).red = s.red := by
  simp -implicitDefEqProofs [State.putEvents]

@[simp] theorem State.showCaravan_red (s : State) (g : Nat) : (s.showCaravan g).red = s.red := by
  simp -implicitDefEqProofs [State.showCaravan]

@[simp] theorem State.takeFaults_red (s : State) (a : Nat) (outer : Bool) (bits stamp : Nat) : (s.takeFaults a outer bits stamp).red = s.red := by
  simp -implicitDefEqProofs [State.takeFaults, apply_ite State.red]

@[simp] theorem State.startBb_red (s : State) : s.startBb.red = s.red := by
  unfold State.startBb
  (repeat' split) <;> simp -implicitDefEqProofs

@[simp] theorem State.showSurvey_red (s : State) : s.showSurvey.red = s.red := by
  simp -implicitDefEqProofs [State.showSurvey]

@[simp] theorem State.showRed_red (s : State) : s.showRed.red = s.red := by
  simp -implicitDefEqProofs [State.showRed]

@[simp] theorem State.showSpares_red (s : State) : s.showSpares.red = s.red := by
  simp -implicitDefEqProofs [State.showSpares]

@[simp] theorem State.showSec_red (s : State) : s.showSec.red = s.red := by
  simp -implicitDefEqProofs [State.showSec]

@[simp] theorem State.showSealed_red (s : State) : s.showSealed.red = s.red := by
  simp -implicitDefEqProofs [State.showSealed]

@[simp] theorem State.writeEvents_red (s : State) : s.writeEvents.red = s.red := by
  simp -implicitDefEqProofs [State.writeEvents, apply_ite State.red]

@[simp] theorem State.sealPost_red (s : State) (p : SealPost) : (s.sealPost p).red = s.red := by
  unfold State.sealPost
  (repeat' split) <;> simp -implicitDefEqProofs [apply_ite State.red]

@[simp] theorem State.replayMismatch_red (s : State) (seq pos : Nat) : (s.replayMismatch seq pos).red = s.red := by
  simp -implicitDefEqProofs [State.replayMismatch, apply_ite State.red]

@[simp] theorem State.replaySeal_red (s : State) (q : Nat) (digests : List Nat) (replayed : Bool) : (s.replaySeal q digests replayed).red = s.red := by
  unfold State.replaySeal
  (repeat' split) <;> simp -implicitDefEqProofs [apply_ite State.red]


@[simp] theorem State.per_hostWrite (s : State) (addr len data : Nat) : (s.hostWrite addr len data).per = s.per := s.hostWrite_per addr len data

@[simp] theorem State.setTail_per (s : State) (m : Nat) (p : Pos) : (s.setTail m p).per = s.per := by
  simp -implicitDefEqProofs [State.setTail]

@[simp] theorem State.sendMessage_per (s : State) (v : Nat) : (s.sendMessage v).per = s.per := by
  simp -implicitDefEqProofs [State.sendMessage]

@[simp] theorem State.signalled_per (s : State) (m : Nat) : (s.signalled m).per = s.per := by
  simp -implicitDefEqProofs [State.signalled]

@[simp] theorem State.signalCq_per (s : State) (m : Nat) : (s.signalCq m).per = s.per := by
  simp -implicitDefEqProofs [State.signalCq, apply_ite State.per]

@[simp] theorem State.putEntry_per (s : State) (m ph data : Nat) (now : Bool) : (s.putEntry m ph data now).per = s.per := by
  simp -implicitDefEqProofs [State.putEntry, apply_ite State.per]

@[simp] theorem State.noteEqFull_per (s : State) : s.noteEqFull.per = s.per := by
  simp -implicitDefEqProofs [State.noteEqFull]

@[simp] theorem State.putEvent_per (s : State) (e : EventRec) : (s.putEvent e).per = s.per := by
  simp -implicitDefEqProofs [State.putEvent, apply_ite State.per]

@[simp] theorem State.putEvents_per (s : State) (es : List EventRec) : (s.putEvents es).per = s.per := by
  simp -implicitDefEqProofs [State.putEvents]

@[simp] theorem State.showCaravan_per (s : State) (g : Nat) : (s.showCaravan g).per = s.per := by
  simp -implicitDefEqProofs [State.showCaravan]

@[simp] theorem State.startBb_per (s : State) : s.startBb.per = s.per := by
  unfold State.startBb
  (repeat' split) <;> simp -implicitDefEqProofs

@[simp] theorem State.showSurvey_per (s : State) : s.showSurvey.per = s.per := by
  simp -implicitDefEqProofs [State.showSurvey]

@[simp] theorem State.showRed_per (s : State) : s.showRed.per = s.per := by
  simp -implicitDefEqProofs [State.showRed]

@[simp] theorem State.showSpares_per (s : State) : s.showSpares.per = s.per := by
  simp -implicitDefEqProofs [State.showSpares]

@[simp] theorem State.showSec_per (s : State) : s.showSec.per = s.per := by
  simp -implicitDefEqProofs [State.showSec]

@[simp] theorem State.showSealed_per (s : State) : s.showSealed.per = s.per := by
  simp -implicitDefEqProofs [State.showSealed]

@[simp] theorem State.writeEvents_per (s : State) : s.writeEvents.per = s.per := by
  simp -implicitDefEqProofs [State.writeEvents, apply_ite State.per]

@[simp] theorem State.replayMismatch_per (s : State) (seq pos : Nat) : (s.replayMismatch seq pos).per = s.per := by
  simp -implicitDefEqProofs [State.replayMismatch, apply_ite State.per]

@[simp] theorem State.replaySeal_per (s : State) (q : Nat) (digests : List Nat) (replayed : Bool) : (s.replaySeal q digests replayed).per = s.per := by
  unfold State.replaySeal
  (repeat' split) <;> simp -implicitDefEqProofs [apply_ite State.per]


@[simp] theorem foldl_surv {α : Type} (f : State → α → State) (h : ∀ s a, (f s a).surv = s.surv) (l : List α) (s : State) :
    (l.foldl f s).surv = s.surv := foldl_keeps State.surv f h l s

@[simp] theorem State.forRange_surv (s : State) (n : Nat) (f : State → Nat → State) (h : ∀ s a, (f s a).surv = s.surv) :
    (s.forRange n f).surv = s.surv := foldl_keeps State.surv f h _ s

@[simp] theorem State.satInc_surv (s : State) (cnt sat : Fld) (inst : Nat) (entry : Nat) : (s.satInc cnt sat inst entry).surv = s.surv := by
  simp -implicitDefEqProofs [State.satInc, apply_ite State.surv]

@[simp] theorem State.takeFaults_surv (s : State) (a : Nat) (outer : Bool) (bits stamp : Nat) : (s.takeFaults a outer bits stamp).surv = s.surv := by
  simp -implicitDefEqProofs [State.takeFaults, apply_ite State.surv]

@[simp] theorem State.sealPost_surv (s : State) (p : SealPost) : (s.sealPost p).surv = s.surv := by
  unfold State.sealPost
  (repeat' split) <;> simp -implicitDefEqProofs [apply_ite State.surv]

@[simp] theorem State.sealPosts_surv (s : State) (q : Nat) : (s.sealPosts q).surv = s.surv := by
  simp -implicitDefEqProofs [State.sealPosts]

@[simp] theorem State.replayMismatch_surv (s : State) (seq pos : Nat) : (s.replayMismatch seq pos).surv = s.surv := by
  simp -implicitDefEqProofs [State.replayMismatch, apply_ite State.surv]

@[simp] theorem State.replaySeal_surv (s : State) (q : Nat) (digests : List Nat) (replayed : Bool) : (s.replaySeal q digests replayed).surv = s.surv := by
  unfold State.replaySeal
  (repeat' split) <;> simp -implicitDefEqProofs [apply_ite State.surv]


theorem State.sealPosts_red (s : State) (q : Nat) : (s.sealPosts q).red = { s.red with sealPosts := (s.sealPosts q).red.sealPosts } := by
  have posted := foldl_red State.sealPost State.sealPost_red (s.red.sealPosts.filter fun p => p.count == q) s
  unfold State.sealPosts
  dsimp only
  generalize (s.red.sealPosts.filter fun p => p.count == q).foldl State.sealPost s = v at posted
  rw [posted]

section
variable {s : State}

/-- What follows a seal leaves the seal, the cairns, the period, the freeze that waits for its copy and the areas as they are. -/
structure State.keepsSeal (s t : State) : Prop where
  count : t.red.sealedCount = s.red.sealedCount
  seq : t.red.sealedSeq = s.red.sealedSeq
  cairns : t.red.cairns = s.red.cairns
  per : t.per = s.per
  due : t.surv.bbDue = s.surv.bbDue
  areas : t.surv.bb = s.surv.bb

namespace State.keepsSeal
variable {t u : State}

theorem trans (h : s.keepsSeal t) (h' : t.keepsSeal u) : s.keepsSeal u :=
  ⟨h'.count.trans h.count, h'.seq.trans h.seq, h'.cairns.trans h.cairns, h'.per.trans h.per, h'.due.trans h.due, h'.areas.trans h.areas⟩

theorem of_fields (red : t.red = s.red) (per : t.per = s.per) (surv : t.surv = s.surv) : s.keepsSeal t :=
  ⟨by rw [red], by rw [red], by rw [red], per, by rw [surv], by rw [surv]⟩

theorem sealRecord (s : State) (count epoch seq : Nat) (digest : List Nat) : s.keepsSeal (s.sealRecord count epoch seq digest) := by
  unfold State.sealRecord
  dsimp only
  split
  · exact ⟨rfl, rfl, rfl, rfl, rfl, rfl⟩
  · exact ⟨rfl, rfl, rfl, rfl, rfl, rfl⟩

theorem replaySeal (s : State) (q : Nat) (digests : List Nat) (replayed : Bool) : s.keepsSeal (s.replaySeal q digests replayed) :=
  of_fields (State.replaySeal_red ..) (State.replaySeal_per ..) (State.replaySeal_surv ..)

theorem sealPosts (s : State) (q : Nat) : s.keepsSeal (s.sealPosts q) := by
  have red := s.sealPosts_red q
  refine ⟨?_, ?_, ?_, State.sealPosts_per .., ?_, ?_⟩
  · rw [red]
  · rw [red]
  · rw [red]
  · rw [State.sealPosts_surv]
  · rw [State.sealPosts_surv]

theorem bbWorn (h : s.keepsSeal t) : t.bbWorn = s.bbWorn := by simp only [State.bbWorn, State.bbArea, h.areas]

end State.keepsSeal

/-- The state in which a whole cairn has been sealed (R338). -/
def State.sealedAt (s : State) (q : Nat) (c : CairnSt) : State :=
  { s.mapCairn q sealCairn with red := { (s.mapCairn q sealCairn).red with sealedCount := q, sealedSeq := c.seq }
                                per := { (s.mapCairn q sealCairn).per with sealed := q } }

/-- What a seal brings about: the record's digests, the comparison of REPLAY, and the words that waited. -/
def State.afterSeal (s : State) (q : Nat) (h : HeadRec) (c : CairnSt) : State :=
  ((if s.surveyed then s.sealRecord q h.body.epoch h.body.seq (cairnDigests c) else s).replaySeal q (cairnDigests c) (!h.areas.isEmpty)).sealPosts q

theorem State.afterSeal_keeps (s : State) (q : Nat) (h : HeadRec) (c : CairnSt) : s.keepsSeal (s.afterSeal q h c) := by
  unfold State.afterSeal
  have recorded : s.keepsSeal (if s.surveyed then s.sealRecord q h.body.epoch h.body.seq (cairnDigests c) else s) := by
    split
    · exact .sealRecord ..
    · exact .of_fields rfl rfl rfl
  exact (recorded.trans (.replaySeal ..)).trans (.sealPosts ..)

theorem State.adopt_of_none (none_ : s.red.takeover = none) : s.adopt = s := by simp only [State.adopt, none_]

theorem State.cairnSeal_waits {k : Nat} {c : CairnSt} {h : HeadRec} (none_ : s.red.takeover = none) (cairn : s.cairnOf (s.red.sealedCount + 1) = some (k, c))
    (head : s.headOf (s.red.sealedCount + 1) = some h) (whole : s.cairnWhole h c = false) : s.cairnSeal = .ok s := by
  simp only [State.cairnSeal, State.adopt_of_none none_, cairn, head, whole, Bool.not_false, if_true]

theorem State.cairnSeal_none (none_ : s.red.takeover = none) (cairn : s.cairnOf (s.red.sealedCount + 1) = none) : s.cairnSeal = .ok s := by
  simp only [State.cairnSeal, State.adopt_of_none none_, cairn]

theorem State.cairnSeal_seals {k : Nat} {c : CairnSt} {h : HeadRec} (none_ : s.red.takeover = none) (cairn : s.cairnOf (s.red.sealedCount + 1) = some (k, c))
    (head : s.headOf (s.red.sealedCount + 1) = some h) (room : s.surv.bbDue = false ∨ s.bbWorn = false) (whole : s.cairnWhole h c = true) :
    ∃ t, s.cairnSeal = .ok t ∧ t.red.sealedCount = s.red.sealedCount + 1 ∧ t.per.sealed = s.red.sealedCount + 1 ∧ t.red.sealedSeq = c.seq ∧
      ∃ e ∈ t.red.cairns, e.2 = { c with sealSeq := c.seq, check := crc32 (cairnBytes c), sealed := true } := by
  have after := (s.sealedAt (s.red.sealedCount + 1) c).afterSeal_keeps (s.red.sealedCount + 1) h c
  have seals : s.cairnSeal = (let v := (s.sealedAt (s.red.sealedCount + 1) c).afterSeal (s.red.sealedCount + 1) h c
      if v.bbReady && v.bbWorn then .error .counterOverflow
      else .ok (((if v.bbReady then v.startBb else v).writeEvents.showSealed).flushAll)) := by
    simp only [State.cairnSeal, State.adopt_of_none none_, cairn, head, whole, Bool.not_true, Bool.false_eq_true, if_false]
    rfl
  have due : (s.sealedAt (s.red.sealedCount + 1) c).surv = s.surv := rfl
  generalize (s.sealedAt (s.red.sealedCount + 1) c).afterSeal (s.red.sealedCount + 1) h c = v at after seals
  have free : (v.bbReady && v.bbWorn) = false := by
    obtain off | unworn := room
    · rw [State.bbReady, after.due, due, off, Bool.false_and, Bool.false_and]
    · rw [after.bbWorn, State.bbWorn, State.bbArea, State.bbArea, due, ← State.bbArea, ← State.bbArea, ← State.bbWorn, unworn, Bool.and_false]
  dsimp only at seals
  rw [free, if_neg (by decide)] at seals
  have copied : (if v.bbReady then v.startBb else v).red = v.red ∧ (if v.bbReady then v.startBb else v).per = v.per := by
    split
    · exact ⟨State.startBb_red v, State.startBb_per v⟩
    · exact ⟨rfl, rfl⟩
  generalize (if v.bbReady then v.startBb else v) = w at copied seals
  have flushed := (w.writeEvents.showSealed).flushAll_completedInto
  have red : (w.writeEvents.showSealed).flushAll.red = v.red := by
    rw [flushed.2, State.showSealed_red, State.writeEvents_red, copied.1]
  have per : (w.writeEvents.showSealed).flushAll.per = v.per := by
    rw [flushed.2, State.showSealed_per, State.writeEvents_per, copied.2]
  refine ⟨_, seals, ?_, ?_, ?_, ?_⟩
  · rw [red, after.count]
    rfl
  · rw [per, after.per]
    rfl
  · rw [red, after.seq]
    rfl
  · rw [red, after.cairns]
    have mem := List.mem_of_find?_eq_some cairn
    have fits := List.find?_some cairn
    simp only [Bool.and_eq_true, beq_iff_eq] at fits
    refine ⟨(k, sealCairn c), List.mem_map.mpr ⟨(k, c), mem, if_pos fits⟩, rfl⟩

end


section
variable {s : State}

theorem State.sealBuild_none (none_ : s.surv.build = none) : s.sealBuild = s := by simp only [State.sealBuild, none_]

theorem State.mirrorApply_none (none_ : s.red.cairns.find? (fun e => e.2.count == s.red.mirrorCount + 1 && e.2.sealed) = none) : s.mirrorApply = s := by
  simp only [State.mirrorApply, none_]

theorem State.mirrorApply_applies {e : Nat × CairnSt} (next : s.red.cairns.find? (fun e => e.2.count == s.red.mirrorCount + 1 && e.2.sealed) = some e)
    (idle : s.surv.build = none) : s.mirrorApply.red.mirrorCount = e.2.count ∧ s.mirrorApply.red.mirrorSeq = e.2.seq ∧
      s.mirrorApply.red.mirror = e.2.entries.foldl s.mirrorEntry s.red.mirror ∧ s.mirrorApply.red.cairns = s.red.cairns := by
  have applies : s.mirrorApply = ({ s with
      red := { s.red with mirror := e.2.entries.foldl s.mirrorEntry s.red.mirror, mirrorCount := e.2.count, mirrorSeq := e.2.seq }
      surv := { s.surv with build := none } } : State).sealBuild := by
    simp only [State.mirrorApply, next, idle, Option.map_none]
  rw [applies, State.sealBuild_none rfl]
  exact ⟨rfl, rfl, rfl, rfl⟩

theorem State.finishBb_none (none_ : s.surv.bbCopy = none) : s.finishBb = s := by simp only [State.finishBb, none_]

theorem State.finishBb_finishes {a : Nat} {body : List Byte} (copy : s.surv.bbCopy = some (a, body)) : s.finishBb.surv.bbCopy = none ∧
    s.finishBb.bbArea a = { s.bbArea a with state := 2, len := body.length, crc := crc32 body, body := body } ∧
    ∀ k, k ≠ a → s.finishBb.bbArea k = s.bbArea k := by
  have areas : s.finishBb.surv.bb = s.surv.bb.set a { s.bbArea a with state := 2, len := body.length, crc := crc32 body, body := body } {} := by
    simp only [State.finishBb, copy]
    rfl
  have closed : s.finishBb.surv.bbCopy = none := by simp only [State.finishBb, copy]
  refine ⟨closed, ?_, fun k other => ?_⟩
  · rw [State.bbArea, areas, SMap.get_set_same]
  · rw [State.bbArea, areas, SMap.get_set_ne other, State.bbArea]

end

theorem exec_cairnSeal (s : State) : exec .cairnSeal s = outOf s.cairnSeal := rfl
theorem exec_mirrorApply (s : State) : exec .mirrorApply s = .next s.mirrorApply := rfl
theorem exec_bbCopyDone (s : State) : exec .bbCopyDone s = .next s.finishBb := rfl

/-- Settles O48. -/
theorem cairnsSealAndMirror : Obligations.CairnsSealAndMirror := by
  unfold Obligations.CairnsSealAndMirror
  refine fun s => ⟨fun k c h none_ cairn head room => ⟨fun whole => ?_, fun whole => ?_⟩, fun none_ cairn => ?_, fun e next idle => ?_, fun none_ => ?_,
    fun a body copy => ?_, fun none_ => ?_⟩
  · obtain ⟨t, seals, count, sealed, seq, cairns⟩ := State.cairnSeal_seals none_ cairn head room whole
    exact ⟨t, by rw [exec_cairnSeal, seals]; rfl, count, sealed, seq, cairns⟩
  · rw [exec_cairnSeal, State.cairnSeal_waits none_ cairn head whole]
    rfl
  · rw [exec_cairnSeal, State.cairnSeal_none none_ cairn]
    rfl
  · exact ⟨_, exec_mirrorApply s, State.mirrorApply_applies next idle⟩
  · rw [exec_mirrorApply, State.mirrorApply_none none_]
  · exact ⟨_, exec_bbCopyDone s, State.finishBb_finishes copy⟩
  · rw [exec_bbCopyDone, State.finishBb_none none_]


end Sys2Proof.Machine
end

section
/-! Objects that the collector and what it brings about may change (R361 to R376, R348 to R351). -/

set_option Elab.async false

namespace Sys2Proof.Machine

/-- Objects that an event reaching the collector may change. -/
def collectorObjs : List Obj := [.fltRec, .fltPin, .fltFirst, .fltLog, .sysMode, .sysFence, .pwmgStatus]

section
variable {s t : State}

theorem State.setFld_collector (s : State) {f : Fld} (mem : f.obj ∈ collectorObjs) (v : Nat) {e : Nat} (he : e < 65536) :
    SameObjs collectorObjs s (s.setFld f v 0 e) := (s.setFld_sameObjs_at f v (by decide) he).mono (by simpa using mem)

theorem State.setFence_collector (s : State) (u : Nat) (v : Bool) : SameObjs collectorObjs s (s.setFence (.unit u) v) :=
  s.setFld_collector (by split <;> decide) _ (by decide)

theorem foldl_objs {α : Type} (f : State → α → State) (h : ∀ s a, (f s a).objs = s.objs) (l : List α) (s : State) :
    (l.foldl f s).objs = s.objs := by
  induction l generalizing s with
  | nil => rfl
  | cons a l ih => rw [List.foldl_cons, ih, h]

theorem State.fenceUnit_objs (s : State) (u : Nat) : (s.fenceUnit u).objs = (s.setFence (.unit u) true).objs := by
  unfold State.fenceUnit
  generalize s.setFence (.unit u) true = v
  unfold State.forRange
  rw [foldl_objs]
  intro t l
  simp only [State.setLane_objs, State.setPair_objs]

theorem State.fenceUnit_collector (s : State) (u : Nat) : SameObjs collectorObjs s (s.fenceUnit u) :=
  (s.setFence_collector u true).trans (.of_objs (s.fenceUnit_objs u) _)

theorem State.noteRedundancy_collector (s : State) : SameObjs collectorObjs s s.noteRedundancy := by
  have shown : SameObjs collectorObjs s (s.setBit F.SYS_MODE_REDUNDANT s.redundant) := s.setFld_collector (by decide) _ (by decide)
  unfold State.noteRedundancy
  dsimp only
  generalize s.setBit F.SYS_MODE_REDUNDANT s.redundant = v at shown
  split_ifs
  · exact shown.trans (.of_objs rfl _)
  · exact shown.trans (.of_objs rfl _)
  · exact shown

theorem State.failTakeover_collector (s : State) (cause : Nat) : SameObjs collectorObjs s (s.failTakeover cause) := by
  unfold State.failTakeover
  split
  · exact .refl _ s
  next t _ =>
    have fenced := (s.fenceUnit_collector 0).trans ((s.fenceUnit 0).fenceUnit_collector 1)
    dsimp only
    generalize (s.fenceUnit 0).fenceUnit 1 = v at fenced
    refine fenced.trans (.of_objs ?_ _)
    rw [State.raise_objs]

theorem State.abandonSwap_collector (s : State) (cause position : Nat) (fence : Bool) :
    SameObjs collectorObjs s (s.abandonSwap cause position fence) := by
  unfold State.abandonSwap
  split
  · exact .refl _ s
  next w _ =>
    dsimp only
    have fenced := (s.fenceUnit_collector w.incoming).trans
      ((s.fenceUnit w.incoming).setFence_collector w.incoming (fence || s.fenced (.unit w.incoming)))
    generalize (s.fenceUnit w.incoming).setFence (.unit w.incoming) (fence || s.fenced (.unit w.incoming)) = v at fenced
    refine (fenced.trans (.of_objs ?_ _)).trans (State.noteRedundancy_collector _)
    rw [State.raise_objs]

theorem State.startTakeover_collector (s : State) (u source stamp : Nat) : SameObjs collectorObjs s (s.startTakeover u source stamp) := by
  have built : SameObjs collectorObjs s s.abandonBuild := by
    unfold State.abandonBuild
    split
    · exact .refl _ s
    · exact .of_objs rfl _
  have fenced := built.trans (s.abandonBuild.fenceUnit_collector u)
  refine fenced.trans (.of_objs ?_ _)
  simp -implicitDefEqProofs only [State.startTakeover, State.dropUnsealed]

theorem State.reactSwap_collector (s : State) (src stamp : Nat) : SameObjs collectorObjs s (s.reactSwap src stamp) := by
  unfold State.reactSwap
  dsimp only
  split
  · split
    · exact State.failTakeover_collector _ _
    · exact .refl _ s
  · split
    · split
      · exact State.abandonSwap_collector _ _ _ _
      · exact State.startTakeover_collector _ _ _ _
    · split
      · exact State.startTakeover_collector _ _ _ _
      · have fenced := s.fenceUnit_collector (s.namedUnit src)
        generalize s.fenceUnit (s.namedUnit src) = x at fenced ⊢
        exact fenced.trans (.of_objs rfl _)

theorem State.reactIncoming_collector {src : Nat} (h : s.reactIncoming src = some t) : SameObjs collectorObjs s t := by
  unfold State.reactIncoming at h
  split at h
  · split at h
    · cases h
      exact State.failTakeover_collector _ _
    · cases h
  · cases h

theorem State.noteFreeze_objs (s : State) (sev stamp : Nat) : (s.noteFreeze sev stamp).objs = s.objs := by
  unfold State.noteFreeze State.freezeAt
  split
  · dsimp only
    split <;> rfl
  · rfl

theorem State.react_collector (s : State) (m : Msg) (sev : Nat) : SameObjs collectorObjs s (s.react m sev) := by
  unfold State.react
  have frozen : SameObjs collectorObjs s (s.noteFreeze sev m.stamp) := .of_objs (s.noteFreeze_objs ..) _
  generalize s.noteFreeze sev m.stamp = v at frozen
  have safe : SameObjs collectorObjs v (if sev = 5 then v.reactSafe else v) := by
    split <;> exact .of_objs rfl _
  dsimp only
  generalize (if sev = 5 then v.reactSafe else v) = w at safe
  have groups : ∀ x : State, SameObjs collectorObjs x (if 3 ≤ sev then x.refreshGroups else x).noteRedundancy := fun x => by
    refine SameObjs.trans ?_ (State.noteRedundancy_collector _)
    split
    · exact x.refreshGroups_trippedInto.same.mono (by decide)
    · exact .refl _ x
  refine ((frozen.trans safe).trans ?_).trans (groups _)
  split
  next x incoming => exact State.reactIncoming_collector incoming
  next =>
    split
    · exact State.reactSwap_collector _ _ _
    · exact .refl _ w

theorem State.noteFirst_collector (s : State) (e : EventRec) : SameObjs collectorObjs s (s.noteFirst e) := by
  unfold State.noteFirst
  split_ifs
  · refine foldl_sameObjs _ (fun s x mem => s.setFld_collector ?_ _ (by decide)) s
    simp only [List.mem_cons, List.not_mem_nil, or_false] at mem
    rcases mem with rfl | rfl | rfl | rfl | rfl | rfl | rfl <;> exact of_decide_eq_true rfl
  · exact s.setFld_collector (f := F.FLT_FIRST_SIMUL) (by decide) _ (by decide)
  · exact .refl _ s

/-- One field of the record of a kind. -/
theorem State.setFld_rec (s : State) {f : Fld} (obj : f.obj = .fltRec) (v : Nat) {k : Nat} (hk : k < 65536) :
    SameObjs collectorObjs s (s.setFld f v 0 k) := s.setFld_collector (by rw [obj]; decide) v hk

theorem State.noteRec_collector (s : State) (m : Msg) (v : Verdict) (small : kindOf m.source < 65536) : SameObjs collectorObjs s (s.noteRec m v) := by
  have when : ∀ (t : State) (f : Fld) (b : Bool), f.obj = .fltRec →
      SameObjs collectorObjs t (if b then t.setBit f true 0 (kindOf m.source) else t) := fun t f b obj => by
    split
    · exact t.setFld_rec obj _ small
    · exact .refl _ t
  have first : SameObjs collectorObjs s (if s.fld F.FLT_REC_COUNT 0 (kindOf m.source) = 0 then
      (s.setFld F.FLT_REC_FIRST m.stamp 0 (kindOf m.source)).setFld F.FLT_REC_FIRST_INST (instOf m.source) 0 (kindOf m.source) else s) := by
    split
    · exact (s.setFld_rec rfl _ small).trans (State.setFld_rec _ rfl _ small)
    · exact .refl _ s
  unfold State.noteRec
  dsimp only
  generalize (if s.fld F.FLT_REC_COUNT 0 (kindOf m.source) = 0 then _ else s) = a at first
  have last := ((first.trans (a.setFld_rec (f := F.FLT_REC_LAST) rfl m.stamp small)).trans
    (State.setFld_rec _ (f := F.FLT_REC_LAST_INST) rfl (instOf m.source) small)).trans
    (State.setFld_rec _ (f := F.FLT_REC_LAST_ADDR) rfl m.addr small)
  generalize ((a.setFld F.FLT_REC_LAST m.stamp 0 _).setFld F.FLT_REC_LAST_INST _ 0 _).setFld F.FLT_REC_LAST_ADDR _ 0 _ = b at last
  have counted : SameObjs collectorObjs b (b.satInc F.FLT_REC_COUNT F.FLT_REC_COUNT_SAT 0 (kindOf m.source)) := by
    unfold State.satInc
    dsimp only
    have set_ := b.setFld_rec (f := F.FLT_REC_COUNT) rfl
      (if b.fld F.FLT_REC_COUNT 0 (kindOf m.source) < 2 ^ F.FLT_REC_COUNT.width - 1 then b.fld F.FLT_REC_COUNT 0 (kindOf m.source) + 1
        else 2 ^ F.FLT_REC_COUNT.width - 1) small
    generalize (if b.fld F.FLT_REC_COUNT 0 (kindOf m.source) < 2 ^ F.FLT_REC_COUNT.width - 1 then _ else _) = n at set_ ⊢
    generalize b.setFld F.FLT_REC_COUNT n 0 (kindOf m.source) = c at set_ ⊢
    by_cases top : n = 2 ^ F.FLT_REC_COUNT.width - 1
    · rw [if_pos top]
      exact set_.trans (c.setFld_rec (f := F.FLT_REC_COUNT_SAT) rfl _ small)
    · rw [if_neg top]
      exact set_
  generalize b.satInc F.FLT_REC_COUNT F.FLT_REC_COUNT_SAT 0 (kindOf m.source) = c at counted
  exact ((((last.trans counted).trans (when c _ _ rfl)).trans (when _ _ _ rfl)).trans (when _ _ _ rfl)).trans
    ((when _ _ _ rfl).trans (State.setFld_rec _ rfl _ small))

theorem State.logEntry_collector (s : State) (e : EventRec) (message flags base : Nat) :
    SameObjs collectorObjs s (s.logEntry e message flags base) := by
  have log : ∀ (t : State) (f : Fld) (v : Nat), f.obj = .fltLog → SameObjs collectorObjs t (t.setFld f v) := fun t f v obj =>
    t.setFld_collector (by rw [obj]; decide) v (by decide)
  unfold State.logEntry
  dsimp only
  generalize eq : ({ s with flt := _ } : State) = a
  have same : SameObjs collectorObjs s a := by
    rw [← eq]
    exact .of_objs rfl _
  have next := same.trans (log a F.FLT_LOG_NEXT (s.fld F.FLT_LOG_NEXT + 1) rfl)
  generalize a.setFld F.FLT_LOG_NEXT (s.fld F.FLT_LOG_NEXT + 1) = b at next
  have wrapped : SameObjs collectorObjs b (if s.fld F.FLT_LOG_NEXT = 16383 then b.setBit F.FLT_LOG_WRAPPED true else b) := by
    split
    · exact log b F.FLT_LOG_WRAPPED _ rfl
    · exact .refl _ b
  exact (next.trans wrapped).trans (log _ F.FLT_LOG_TOTAL _ rfl)

theorem State.logEvent_collector (s : State) (m : Msg) (v : Verdict) (e : EventRec) (x y z : Bool) :
    SameObjs collectorObjs s (s.logEvent m v e x y z) := by
  unfold State.logEvent
  split
  · exact State.logEntry_collector _ _ _ _ _
  · exact .refl _ s

theorem State.collectNew_collector (s : State) (m : Msg) (small : kindOf m.source < 65536) : SameObjs collectorObjs s (s.collectNew m) := by
  unfold State.collectNew
  dsimp only
  generalize eq : ({ s with flt := _ } : State).latchAsOf m _ = a
  have latched : SameObjs collectorObjs s a := by
    rw [← eq]
    exact .of_objs rfl _
  have noted := fun v => (latched.trans (a.noteRec_collector m v small)).trans ((State.showBits_sameObjs (a.noteRec m v) small).mono (by decide))
  specialize noted ((s.asOf (kindOf m.source) m.stamp).verdict m.source)
  generalize (a.noteRec m _).showBits m.source = b at noted
  refine (SameObjs.trans ?_ (State.logEvent_collector _ _ _ _ _ _ _)).trans (State.react_collector _ _ _)
  generalize s.recordOf m ((s.asOf (kindOf m.source) m.stamp).verdict m.source).sev (s.simulOf m) = e
  have first := noted.trans (b.noteFirst_collector e)
  generalize b.noteFirst e = c at first ⊢
  have recorded : SameObjs collectorObjs s (if m.source = 0 ∧ m.kind = 0xFF then c else c.keepRecord e) := by
    split <;> exact first.trans (.of_objs rfl _)
  generalize (if m.source = 0 ∧ m.kind = 0xFF then c else c.keepRecord e) = d at recorded ⊢
  have marked : SameObjs collectorObjs s (if s.simulOf m = true then d.markSimul m.stamp else d) := by
    split <;> exact recorded.trans (.of_objs rfl _)
  generalize (if s.simulOf m = true then d.markSimul m.stamp else d) = g at marked ⊢
  split <;> exact marked.trans (.of_objs rfl _)

theorem kindRow_lt {k : Kind} {r : KindRow} (known : kindRow k = some r) : k < 65536 :=
  (List.getElem?_eq_some_iff.mp known).1.trans_le (of_decide_eq_true rfl)

/-- An event that reaches the collector changes the collector's objects only, and those of the reactions. -/
theorem State.collect_collector (s : State) (m : Msg) : SameObjs collectorObjs s (s.collect m) := by
  unfold State.collect
  split
  · exact .refl _ s
  next r known =>
    have taken : ∀ t : State, SameObjs collectorObjs s t → SameObjs collectorObjs s (t.collectOn m) := fun t h => by
      unfold State.collectOn
      split
      · exact h
      · exact h.trans (t.collectNew_collector m (kindRow_lt known))
    have live : ∀ b, SameObjs collectorObjs s (s.setLive m.source b) := fun b => .of_objs rfl _
    split_ifs
    · exact taken s (.refl _ s)
    · exact live true
    · exact taken _ (live true)
    · exact taken s (.refl _ s)
    · exact (live false).trans ((State.showBits_sameObjs _ (kindRow_lt known)).mono (by decide))

theorem State.drainN_collector (k : Nat) (s : State) : SameObjs collectorObjs s (s.drainN k) := by
  induction k generalizing s with
  | zero => exact .refl _ s
  | succ k ih =>
    unfold State.drainN
    split
    · exact .refl _ s
    next m r _ =>
      have front : SameObjs collectorObjs s { s with msgs := r } := .of_objs rfl _
      exact (front.trans (State.collect_collector _ m)).trans (ih _)

theorem State.drain_collector (s : State) : SameObjs collectorObjs s s.drain := s.drainN_collector _

theorem State.cycleTo_objs (t k : Nat) (s : State) : (s.cycleTo t k).objs = s.objs := by
  induction k generalizing s with
  | zero => rfl
  | succ k ih =>
    unfold State.cycleTo
    split
    · rfl
    · rw [ih]
      rfl

theorem State.until_collector (s : State) (t : Nat) : SameObjs collectorObjs s (s.until t) := by
  have moved : ∀ v : State, (v.advanceTo t).objs = v.objs := fun v => by
    unfold State.advanceTo
    split_ifs
    · rfl
    · exact State.cycleTo_objs ..
    · rfl
  unfold State.until
  split
  · exact s.drain_collector.trans (.of_objs (moved _) _)
  · exact s.drain_collector

end

end Sys2Proof.Machine
end

section
/-! What a trip latches in the groups it names (R253, R261). -/

set_option Elab.async false

namespace Sys2Proof.Machine

section
variable {s t u : State}

/-- A group that has tripped keeps its trip and its cause. -/
def State.keepsTrip (s t : State) (g : Nat) : Prop := s.bit F.PWMG_STATUS_TRIPPED g = true →
  t.bit F.PWMG_STATUS_TRIPPED g = true ∧ t.fld F.PWMG_STATUS_TRIP_SRC g = s.fld F.PWMG_STATUS_TRIP_SRC g ∧
    t.fld F.PWMG_STATUS_TRIP_TIME g = s.fld F.PWMG_STATUS_TRIP_TIME g

/-- A group has latched a trip, with its cause if it had none. -/
def State.latches (s t : State) (g src time : Nat) : Prop := t.bit F.PWMG_STATUS_TRIPPED g = true ∧
  (s.bit F.PWMG_STATUS_TRIPPED g = false → t.fld F.PWMG_STATUS_TRIP_SRC g = src % 256 ∧ t.fld F.PWMG_STATUS_TRIP_TIME g = time % 2 ^ 64)

namespace State.keepsTrip

variable {g : Nat}

theorem of_fld (h : ∀ f : Fld, f.obj = .pwmgStatus → (F.PWMG_STATUS_STATE.apart f ∧ F.PWMG_STATUS_WAITING.apart f) → t.fld f g = s.fld f g) :
    s.keepsTrip t g := fun tripped =>
  ⟨by rw [State.bit, h _ rfl (by unfold Fld.apart; decide), ← State.bit, tripped], h _ rfl (by unfold Fld.apart; decide),
    h _ rfl (by unfold Fld.apart; decide)⟩

theorem refl (s : State) : s.keepsTrip s g := fun tripped => ⟨tripped, rfl, rfl⟩

theorem trans (h : s.keepsTrip t g) (h' : t.keepsTrip u g) : s.keepsTrip u g := fun tripped =>
  ⟨(h' (h tripped).1).1, (h' (h tripped).1).2.1.trans (h tripped).2.1, (h' (h tripped).1).2.2.trans (h tripped).2.2⟩

end State.keepsTrip

theorem State.latches.keep {g src time : Nat} (h : s.latches t g src time) (h' : t.keepsTrip u g) : s.latches u g src time := by
  obtain ⟨tripped, cause, at_⟩ := h' h.1
  exact ⟨tripped, fun first => ⟨cause.trans (h.2 first).1, at_.trans (h.2 first).2⟩⟩

theorem State.latchTrip_latches (s : State) (g src time : Nat) : s.latches (s.latchTrip g src time) g src time := by
  have set_ : (s.setBit F.PWMG_STATUS_TRIPPED true g).bit F.PWMG_STATUS_TRIPPED g = true := s.bit_setBit_same _ _ _ _ (by decide)
  unfold State.latchTrip State.latches
  split
  next tripped => exact ⟨tripped, fun no => absurd tripped (by rw [no]; decide)⟩
  · generalize s.setBit F.PWMG_STATUS_TRIPPED true g = v at set_ ⊢
    have time_ : ∀ f : Fld, f.obj = .pwmgStatus → (f.lo + f.width ≤ F.PWMG_STATUS_TRIP_TIME.lo ∨ F.PWMG_STATUS_TRIP_TIME.lo +
        F.PWMG_STATUS_TRIP_TIME.width ≤ f.lo) → ((v.setFld F.PWMG_STATUS_TRIP_SRC src g).setFld F.PWMG_STATUS_TRIP_TIME time g).fld f g =
          (v.setFld F.PWMG_STATUS_TRIP_SRC src g).fld f g := fun f obj apart => State.fld_setFld_bits _ _ _ _ obj apart
    have cause : (v.setFld F.PWMG_STATUS_TRIP_SRC src g).bit F.PWMG_STATUS_TRIPPED g = v.bit F.PWMG_STATUS_TRIPPED g :=
      congrArg (· != 0) (v.fld_setFld_bits (f := F.PWMG_STATUS_TRIP_SRC) (g := F.PWMG_STATUS_TRIPPED) _ _ _ rfl (by decide))
    refine ⟨?_, fun _ => ⟨(time_ _ rfl (by decide)).trans (v.fld_setFld_same ..), State.fld_setFld_same ..⟩⟩
    rw [State.bit, time_ _ rfl (by decide), ← State.bit, cause, set_]

theorem State.latchTrip_other (s : State) {g h : Nat} (hg : g < 256) (hh : h < 256) (ne : g ≠ h) (src time : Nat) (f : Fld) :
    (s.latchTrip h src time).fld f g = s.fld f g := by
  have other : ∀ (v : State) (f f' : Fld) (x : Nat), (v.setFld f x h).fld f' g = v.fld f' g := fun v f f' x =>
    v.fld_setFld_entry _ fun key => ne (objKey_inj hg hh (by decide) (by decide) key).2.1
  unfold State.latchTrip
  split
  · rfl
  · rw [other, other, State.setBit, other]

theorem State.latchTrip_keeps (s : State) {g h : Nat} (hg : g < 256) (hh : h < 256) (src time : Nat) : s.keepsTrip (s.latchTrip h src time) g := by
  by_cases ne : g = h
  · intro tripped
    rw [← ne, State.latchTrip, if_pos tripped]
    exact ⟨tripped, rfl, rfl⟩
  · exact .of_fld fun f _ _ => s.latchTrip_other hg hh ne src time f

/-- Groups that latch one after another: those of the list have latched, and every group keeps what it had. -/
theorem State.latchAll (gs : List Nat) (small : ∀ h ∈ gs, h < 256) (src time : Nat) (s : State) {g : Nat} (hg : g < 256) :
    s.keepsTrip (gs.foldl (fun s g => s.latchTrip g src time) s) g ∧
      (g ∈ gs → s.latches (gs.foldl (fun s g => s.latchTrip g src time) s) g src time) := by
  induction gs generalizing s with
  | nil => exact ⟨.refl s, fun mem => absurd mem List.not_mem_nil⟩
  | cons h gs ih =>
    have hh := small h (List.mem_cons_self ..)
    obtain ⟨keeps, latched⟩ := ih (fun k hk => small k (List.mem_cons_of_mem _ hk)) (s.latchTrip h src time)
    refine ⟨(s.latchTrip_keeps hg hh src time).trans keeps, fun mem => ?_⟩
    by_cases here : g = h
    · rw [← here] at keeps ⊢
      exact (s.latchTrip_latches g src time).keep keeps
    · obtain ⟨tripped, cause⟩ := latched ((List.mem_cons.mp mem).resolve_left here)
      refine ⟨tripped, fun idle => cause ?_⟩
      rw [State.bit, s.latchTrip_other hg hh here, ← State.bit, idle]


theorem State.refreshed_keepsTrip (l : List Nat) (p : Nat → Nat) (small : ∀ k ∈ l, p k < 256) (s : State) {g : Nat} (hg : g < 256) :
    s.keepsTrip (l.foldl (fun t k => t.refreshGroup (p k)) s) g := by
  induction l generalizing s with
  | nil => exact .refl s
  | cons k l ih =>
    have shown := s.refreshGroup_shown (small k (List.mem_cons_self ..))
    rw [List.foldl_cons]
    generalize s.refreshGroup (p k) = t at shown ⊢
    exact State.keepsTrip.trans (.of_fld fun f obj apart => shown.fld f g obj hg (Or.inr apart))
      (ih (fun k hk => small k (List.mem_cons_of_mem _ hk)) t)

theorem State.refreshGroups_keepsTrip (s : State) {g : Nat} (hg : g < 256) : s.keepsTrip s.refreshGroups g := by
  unfold State.refreshGroups State.forRange
  have low : ∀ k ∈ List.range 16, k < 16 := fun k hk => List.mem_range.mp hk
  have inner := State.refreshed_keepsTrip (List.range 16) (fun k => 2 * k + 1) (fun k hk => by have := low k hk; omega) s hg
  exact inner.trans (State.refreshed_keepsTrip (List.range 16) (fun k => 2 * k) (fun k hk => by have := low k hk; omega) _ hg)

theorem State.tripGroups_keepsTrip (s : State) {gs : List Nat} (small : ∀ h ∈ gs, h < 32) (src time : Nat) {g : Nat} (hg : g < 256) :
    s.keepsTrip (s.tripGroups gs src time) g := by
  have all : ∀ h ∈ gs.flatMap s.gangOf, h < 256 := fun h hh => by
    obtain ⟨k, hk, inGang⟩ := List.mem_flatMap.mp hh
    have := s.gangOf_lt (small k hk) inGang
    omega
  have first := (State.latchAll gs (fun h hh => by have := small h hh; omega) src time s hg).1
  have both := first.trans (State.latchAll _ all 0x80 time _ hg).1
  unfold State.tripGroups
  dsimp only
  split
  · exact both
  · exact both.trans (State.refreshGroups_keepsTrip _ hg)

theorem State.tripInput_keepsTrip (s : State) {gs : List Nat} (small : ∀ h ∈ gs, h < 32) (n time : Nat) {g : Nat} (hg : g < 256) :
    s.keepsTrip (s.tripInput n time gs) g := by
  have kept := s.tripGroups_keepsTrip small n time hg
  unfold State.tripInput
  dsimp only
  split <;> exact kept

/-- The groups that trip have latched their cause. -/
theorem State.tripGroups_latches (s : State) {gs : List Nat} (small : ∀ h ∈ gs, h < 32) (src time : Nat) {g : Nat} (mem : g ∈ gs) :
    s.latches (s.tripGroups gs src time) g src time := by
  have hg : g < 256 := by have := small g mem; omega
  have all : ∀ h ∈ gs.flatMap s.gangOf, h < 256 := fun h hh => by
    obtain ⟨k, hk, inGang⟩ := List.mem_flatMap.mp hh
    have := s.gangOf_lt (small k hk) inGang
    omega
  have first := (State.latchAll gs (fun h hh => by have := small h hh; omega) src time s hg).2 mem
  unfold State.tripGroups
  dsimp only
  rw [if_neg (fun none_ => List.not_mem_nil (List.isEmpty_iff.mp none_ ▸ mem))]
  exact (first.keep (State.latchAll _ all 0x80 time _ hg).1).keep (State.refreshGroups_keepsTrip _ hg)

/-- A trip input trips the groups given, and raises its event. -/
theorem State.tripInput_latches (s : State) {gs : List Nat} (small : ∀ h ∈ gs, h < 32) (n time : Nat) {g : Nat} (mem : g ∈ gs) :
    s.latches (s.tripInput n time gs) g n time ∧ ∃ m ∈ (s.tripInput n time gs).msgs, m.source = sourceNo K.TRIP_INPUT n := by
  have latched := s.tripGroups_latches small n time mem
  unfold State.tripInput
  dsimp only
  rw [if_neg (fun none_ => List.not_mem_nil (List.isEmpty_iff.mp none_ ▸ mem))]
  exact ⟨latched, _, List.mem_append_right _ (List.mem_singleton_self _), rfl⟩

theorem State.tripInput_nil (s : State) (n time : Nat) : s.tripInput n time [] = s := rfl

/-- What decides whether a group is blanked. -/
theorem State.blanked_of_same {os : List Obj} (same : SameObjs os s t) (cfg : Obj.pwmgCfg ∉ os) (aux : Obj.pwmgAux ∉ os) (status : Obj.pwmgStatus ∉ os)
    (per : t.per = s.per) (time : t.time = s.time) (groups : t.groups = s.groups) {g : Nat} (hg : g < 256) : t.blanked g = s.blanked g := by
  have base : s.fld F.PWMG_CFG_BLANK_GRP g < 256 := (s.fld_lt F.PWMG_CFG_BLANK_GRP g 0).trans_le (by decide)
  have of_cfg : ∀ (f : Fld), f.obj = .pwmgCfg → ∀ k < 256, t.fld f k = s.fld f k := fun f obj k hk => same.fld (by rw [obj]; exact cfg) hk
  have of_aux : ∀ (f : Fld), f.obj = .pwmgAux → ∀ k < 256, t.fld f k = s.fld f k := fun f obj k hk => same.fld (by rw [obj]; exact aux) hk
  have state : ∀ k < 256, t.gstate k = s.gstate k := fun k hk => same.fld status hk
  simp only [State.blanked, State.carrierRuns, State.carrier, State.gper, State.now16, State.ganged, State.threeLevel, State.bit, State.grp, per, time, groups,
    of_cfg F.PWMG_CFG_BLANK_EN rfl _ hg, of_cfg F.PWMG_CFG_BLANK_GRP rfl _ hg, of_cfg F.PWMG_CFG_BLANK_SEL rfl _ hg, of_cfg F.PWMG_CFG_GANG_EN rfl _ base,
    State.gkind, of_cfg F.PWMG_CFG_KIND rfl _ base, of_cfg F.PWMG_CFG_PER rfl _ base, of_cfg F.PWMG_CFG_PHASE rfl _ base, of_aux F.PWMG_AUX_X1_START rfl _ base,
    of_aux F.PWMG_AUX_X1_END rfl _ base, of_aux F.PWMG_AUX_X0_START rfl _ base, of_aux F.PWMG_AUX_X0_END rfl _ base, state _ base]
  rfl

/-- LIVE of an input says nothing of which groups are blanked. -/
theorem State.tripTargets_setLive (s : State) (n k : Nat) (x : Bool) : (s.setNth F.PWM_TRIPIN_LIVE k x).tripTargets n = s.tripTargets n := by
  have same := s.setNth_sameObjs F.PWM_TRIPIN_LIVE k x (i := 0) (e := 0) (by decide) (by decide)
  have per : (s.setNth F.PWM_TRIPIN_LIVE k x).per = s.per := State.setNth_per ..
  have time : (s.setNth F.PWM_TRIPIN_LIVE k x).time = s.time := State.setNth_time ..
  have groups : (s.setNth F.PWM_TRIPIN_LIVE k x).groups = s.groups := State.setNth_groups ..
  generalize s.setNth F.PWM_TRIPIN_LIVE k x = t at same per time groups
  refine List.filter_congr fun g mem => ?_
  have hg : g < 256 := by have := List.mem_range.mp mem; omega
  rw [State.blanked_of_same same (by decide) (by decide) (by decide) per time groups hg, State.nth, same.fld (by decide) hg, ← State.nth]


end


section
variable {s : State}

theorem State.tripActive_acts {n : Nat} (awake : s.boot.resetLow = false) (idle : s.nth F.PWM_TRIPIN_LIVE n = false) :
    s.tripActive n = (s.setNth F.PWM_TRIPIN_LIVE n true).tripInput n (if s.time.running then s.now - s.fld F.PWM_TRIPIN_FILTER else s.now)
      ((s.tripTargets n).filter fun g => !s.bit F.PWMG_STATUS_TRIPPED g) := by
  unfold State.tripActive
  rw [awake, idle, if_neg (by decide)]
  dsimp only
  rw [State.tripTargets_setLive]

theorem State.tripActive_ignored {n : Nat} (ignored : s.boot.resetLow = true ∨ s.nth F.PWM_TRIPIN_LIVE n = true) : s.tripActive n = s := by
  unfold State.tripActive
  rw [if_pos (by simpa using ignored)]

theorem State.tripInactive_ignored {n : Nat} (ignored : s.boot.resetLow = true ∨ s.nth F.PWM_TRIPIN_LIVE n = false) : s.tripInactive n = s := by
  unfold State.tripInactive
  rw [if_neg (by rcases ignored with h | h <;> simp [h])]

theorem State.tripInactive_ends {n : Nat} (awake : s.boot.resetLow = false) (live : s.nth F.PWM_TRIPIN_LIVE n = true) :
    s.tripInactive n = (s.setNth F.PWM_TRIPIN_LIVE n false).send { source := sourceNo K.TRIP_INPUT n, on := false, off := true, stamp := s.now } := by
  unfold State.tripInactive
  rw [awake, live, if_pos (by decide), State.clearLive, State.setNth_now]

theorem State.send_adds {t : State} {f : Fld} {n : Nat} (x : Bool) (set_ : t.nth f n = x) (msgs : t.msgs = s.msgs) (groups : t.groups = s.groups) (m : Msg) :
    (t.send m).nth f n = x ∧ (t.send m).groups = s.groups ∧ (t.send m).msgs = s.msgs ++ [m] :=
  ⟨set_, groups, congrArg (· ++ [m]) msgs⟩

theorem State.tripInactive_shows {n : Nat} (hn : n < 32) (awake : s.boot.resetLow = false) (live : s.nth F.PWM_TRIPIN_LIVE n = true) :
    (s.tripInactive n).nth F.PWM_TRIPIN_LIVE n = false ∧ (s.tripInactive n).groups = s.groups ∧
      (s.tripInactive n).msgs = s.msgs ++ [{ source := sourceNo K.TRIP_INPUT n, on := false, off := true, stamp := s.now }] := by
  rw [State.tripInactive_ends awake live]
  exact State.send_adds false (s.nth_setNth_same _ _ _ _ _ hn) (State.setNth_msgs ..) (State.setNth_groups ..) _

theorem State.tripInput_live (s : State) (n time : Nat) {gs : List Nat} (small : ∀ g ∈ gs, g < 32) (k : Nat) :
    (s.tripInput n time gs).nth F.PWM_TRIPIN_LIVE k = s.nth F.PWM_TRIPIN_LIVE k := by
  rw [State.nth, (s.tripInput_trippedInto n time small).same.fld (by decide) (by decide), ← State.nth]

/-- An input that becomes active trips the groups it names, but for those blanked and those tripped already. -/
theorem State.tripActive_trips {n : Nat} (hn : n < 32) (awake : s.boot.resetLow = false) (idle : s.nth F.PWM_TRIPIN_LIVE n = false) :
    (s.tripActive n).nth F.PWM_TRIPIN_LIVE n = true ∧
      (∀ g ∈ s.tripTargets n, (s.tripActive n).bit F.PWMG_STATUS_TRIPPED g = true ∧
        (s.bit F.PWMG_STATUS_TRIPPED g = false → (s.tripActive n).fld F.PWMG_STATUS_TRIP_SRC g = n ∧
          (s.tripActive n).fld F.PWMG_STATUS_TRIP_TIME g = (if s.time.running then s.now - s.fld F.PWM_TRIPIN_FILTER else s.now) % 2 ^ 64)) ∧
      ((∃ g ∈ s.tripTargets n, s.bit F.PWMG_STATUS_TRIPPED g = false) → ∃ m ∈ (s.tripActive n).msgs, m.source = sourceNo K.TRIP_INPUT n) ∧
      ((∀ g ∈ s.tripTargets n, s.bit F.PWMG_STATUS_TRIPPED g = true) → (s.tripActive n).msgs = s.msgs ∧ (s.tripActive n).groups = s.groups) := by
  have live : (s.setNth F.PWM_TRIPIN_LIVE n true).nth F.PWM_TRIPIN_LIVE n = true := s.nth_setNth_same _ _ _ _ _ hn
  have same := s.setNth_sameObjs F.PWM_TRIPIN_LIVE n true (i := 0) (e := 0) (by decide) (by decide)
  have msgs : (s.setNth F.PWM_TRIPIN_LIVE n true).msgs = s.msgs := State.setNth_msgs ..
  have groups : (s.setNth F.PWM_TRIPIN_LIVE n true).groups = s.groups := State.setNth_groups ..
  rw [State.tripActive_acts awake idle]
  generalize s.setNth F.PWM_TRIPIN_LIVE n true = t at live same msgs groups ⊢
  generalize (if s.time.running then s.now - s.fld F.PWM_TRIPIN_FILTER else s.now) = time
  have sound : ∀ g ∈ s.tripTargets n, g < 32 := fun g => s.tripTargets_lt
  have small : ∀ g ∈ (s.tripTargets n).filter fun g => !s.bit F.PWMG_STATUS_TRIPPED g, g < 32 := fun g mem => sound g (List.mem_filter.mp mem).1
  have bits : ∀ g < 32, t.bit F.PWMG_STATUS_TRIPPED g = s.bit F.PWMG_STATUS_TRIPPED g := fun g hg => same.bit (by decide) (by omega)
  have hits : ∀ g ∈ s.tripTargets n, s.bit F.PWMG_STATUS_TRIPPED g = false → g ∈ (s.tripTargets n).filter fun g => !s.bit F.PWMG_STATUS_TRIPPED g :=
    fun g mem idle => List.mem_filter.mpr ⟨mem, by rw [idle]; rfl⟩
  refine ⟨by rw [t.tripInput_live n time small, live], fun g mem => ?_, fun ⟨g, mem, idle⟩ => (t.tripInput_latches small n time (hits g mem idle)).2,
    fun all => ?_⟩
  · cases idle : s.bit F.PWMG_STATUS_TRIPPED g
    · obtain ⟨tripped, cause⟩ := (t.tripInput_latches small n time (hits g mem idle)).1
      obtain ⟨src, at_⟩ := cause (by rw [bits g (sound g mem), idle])
      exact ⟨tripped, fun _ => ⟨src.trans (Nat.mod_eq_of_lt (by omega)), at_⟩⟩
    · exact ⟨(State.tripInput_keepsTrip t small n time (by have := sound g mem; omega) (by rw [bits g (sound g mem), idle])).1, fun no => absurd no (by decide)⟩
  · have none_ : ((s.tripTargets n).filter fun g => !s.bit F.PWMG_STATUS_TRIPPED g) = [] :=
      List.filter_eq_nil_iff.mpr fun g mem => by rw [all g mem]; decide
    rw [none_, State.tripInput_nil]
    exact ⟨msgs, groups⟩

theorem State.tripAfterBlank_none {g n : Nat} (none_ : s.blankEnd g = none) : s.tripAfterBlank g n = s := by
  simp only [State.tripAfterBlank, none_]

theorem State.tripAfterBlank_some {g n e : Nat} (ends : s.blankEnd g = some e) : s.tripAfterBlank g n =
    (if (s.until e).nth F.PWM_TRIPIN_LIVE n && (s.until e).nth F.PWMG_CFG_TRIP_MASK n g && !(s.until e).bit F.PWMG_STATUS_TRIPPED g &&
      !(s.until e).blanked g then (s.until e).tripInput n (s.until e).now [g] else s.until e) := by
  simp only [State.tripAfterBlank, ends]

end

theorem exec_tripInput (n : Fin 32) (s : State) : exec (.tripInput n) s = .next (s.tripActive n.val) := rfl
theorem exec_tripInputInactive (n : Fin 32) (s : State) : exec (.tripInputInactive n) s = .next (s.tripInactive n.val) := rfl
theorem exec_tripAfterBlanking (g n : Fin 32) (s : State) : exec (.tripAfterBlanking g n) s = .next (s.tripAfterBlank g.val n.val) := rfl

/-- Settles O53. -/
theorem tripInputsTrip : Obligations.TripInputsTrip := by
  unfold Obligations.TripInputsTrip
  refine fun n s => ⟨fun ignored => ?_, fun awake idle => ?_, fun awake live => ?_, fun ignored => ?_, fun g => ⟨fun none_ => ?_, fun e ends => ⟨?_, ?_⟩⟩⟩
  · rw [exec_tripInput, State.tripActive_ignored ignored]
  · exact ⟨_, exec_tripInput n s, State.tripActive_trips n.isLt awake idle⟩
  · exact ⟨_, exec_tripInputInactive n s, State.tripInactive_shows n.isLt awake live⟩
  · rw [exec_tripInputInactive, State.tripInactive_ignored ignored]
  · rw [exec_tripAfterBlanking, State.tripAfterBlank_none none_]
  · intro live named idle open_
    refine ⟨_, exec_tripAfterBlanking g n s, ?_⟩
    rw [State.tripAfterBlank_some ends, live, named, idle, open_, if_pos (by decide)]
    obtain ⟨tripped, cause⟩ := ((s.until e).tripInput_latches (gs := [g.val]) (fun h mem => by rw [List.mem_singleton.mp mem]; exact g.isLt) n.val
      (s.until e).now (List.mem_singleton_self _)).1
    exact ⟨tripped, (cause idle).1.trans (Nat.mod_eq_of_lt (by omega)), (cause idle).2⟩
  · intro idle
    rw [exec_tripAfterBlanking, State.tripAfterBlank_some ends, idle, if_neg (by simp)]


end Sys2Proof.Machine
end

section
/-! Emulation outputs, overcurrent comparators and stuck inputs (R292, R299, R300). -/

set_option Elab.async false

namespace Sys2Proof.Machine

section
variable {s : State}

theorem State.sds_setSds_same (s : State) (i : Nat) (v : SdSt) : (s.setSds i v).sds i = v := SMap.get_set_same ..

theorem State.emuStep_steps {e : Nat} (first : (s.emus e).lastStep = none) (moves : s32diff (s.emuTarget e) (s.emus e).counter ≠ 0)
    (own : s.fld F.EMU_CFG_MODE e ≠ 3) : s.emuStep e = s.setEmus e { s.emus e with
      counter := uint 32 ((s.emus e).counter + (if s32diff (s.emuTarget e) (s.emus e).counter < 0 then -1 else 1)), lastStep := some s.now } := by
  simp only [State.emuStep, first, if_neg (not_or.mpr ⟨moves, own⟩)]

/-- The counter that shows the source's count never steps by itself. -/
theorem State.emuStep_mirrors {e : Nat} (he : e < 256) (mirrors : s.fld F.EMU_CFG_MODE e = 3) : s.emuStep e = s := by
  have kept : ∀ t, (s.until t).fld F.EMU_CFG_MODE e = 3 := fun t => ((s.until_collector t).fld (by decide) he).trans mirrors
  unfold State.emuStep
  dsimp only
  split
  · exact if_pos (Or.inr (kept _))
  · exact if_pos (Or.inr mirrors)

theorem State.emuStep_stands {e : Nat} (first : (s.emus e).lastStep = none) (there : s32diff (s.emuTarget e) (s.emus e).counter = 0) : s.emuStep e = s := by
  simp only [State.emuStep, first, there, true_or, if_true]

theorem State.ocActivate_ignored {i line : Nat}
    (ignored : s.boot.resetLow = true ∨ s.ocOn i = false ∨ (s.sds i).ocActive = true ∨ s.ocSteady i line true = false) : s.ocActivate i line = s := by
  unfold State.ocActivate
  exact if_pos (by rcases ignored with h | h | h | h <;> simp [h])

theorem State.ocActivate_acts {i line : Nat} (awake : s.boot.resetLow = false) (on_ : s.ocOn i = true) (idle : (s.sds i).ocActive = false)
    (steady : s.ocSteady i line true = true) : ∃ v : SdSt, ∃ d : Nat, v.ocActive = true ∧ ((s.sds i).ocCnt < 0xFFFF → v.ocCnt = (s.sds i).ocCnt + 1) ∧
      s.ocActivate i line = ((s.setSds i v).raise K.OVERCURRENT i d 1).tripGroups (s.ocGroups i) (0x20 + i) s.now := by
  unfold State.ocActivate
  rw [awake, on_, steady]
  dsimp only
  rw [idle, if_neg (by decide)]
  exact ⟨_, _, rfl, fun low => if_pos low, rfl⟩

theorem foldl_msgs {α : Type} {f : State → α → State} (l : List α) (h : ∀ s, ∀ a ∈ l, (f s a).msgs = s.msgs) (s : State) :
    (l.foldl f s).msgs = s.msgs := by
  induction l generalizing s with
  | nil => rfl
  | cons a l ih => rw [List.foldl_cons, ih (fun s x hx => h s x (List.mem_cons_of_mem _ hx)), h s a (List.mem_cons_self ..)]

theorem State.latchTrip_msgs (s : State) (g src time : Nat) : (s.latchTrip g src time).msgs = s.msgs := by
  unfold State.latchTrip
  split
  · rfl
  · rw [State.setFld_msgs, State.setFld_msgs, State.setBit_msgs]

/-- A trip by itself sends no message. -/
theorem State.tripGroups_msgs (s : State) (gs : List Nat) (src time : Nat) : (s.tripGroups gs src time).msgs = s.msgs := by
  have latched : ∀ (l : List Nat) (src : Nat) (t : State), (l.foldl (fun s g => s.latchTrip g src time) t).msgs = t.msgs :=
    fun l src t => foldl_msgs l (fun t g _ => t.latchTrip_msgs g src time) t
  have shown : ∀ (p : Nat → Nat) (small : ∀ k < 16, p k < 256) (t : State), (t.forRange 16 fun t k => t.refreshGroup (p k)).msgs = t.msgs :=
    fun p small t => foldl_msgs _ (fun t k mem => by rw [(t.refreshGroup_shown (small k (List.mem_range.mp mem))).frame]) t
  unfold State.tripGroups
  dsimp only
  split
  · rw [latched, latched]
  · unfold State.refreshGroups
    rw [shown (fun k => 2 * k) (fun k hk => by omega), shown (fun k => 2 * k + 1) (fun k hk => by omega), latched, latched]

theorem State.ocGroups_lt {i g : Nat} (mem : g ∈ s.ocGroups i) : g < 32 := List.mem_range.mp (List.mem_filter.mp mem).1

/-- A comparator that becomes active counts, raises OVERCURRENT and trips its groups. -/
theorem State.ocActivate_trips {i line : Nat} (hi : i < 96) (awake : s.boot.resetLow = false) (on_ : s.ocOn i = true) (idle : (s.sds i).ocActive = false)
    (steady : s.ocSteady i line true = true) : ((s.ocActivate i line).sds i).ocActive = true ∧
      ((s.sds i).ocCnt < 0xFFFF → ((s.ocActivate i line).sds i).ocCnt = (s.sds i).ocCnt + 1) ∧
      (∃ m ∈ (s.ocActivate i line).msgs, m.source = sourceNo K.OVERCURRENT i) ∧
      ∀ g ∈ s.ocGroups i, (s.ocActivate i line).bit F.PWMG_STATUS_TRIPPED g = true ∧
        (s.bit F.PWMG_STATUS_TRIPPED g = false → (s.ocActivate i line).fld F.PWMG_STATUS_TRIP_SRC g = 0x20 + i) := by
  obtain ⟨v, d, active, count, acts⟩ := State.ocActivate_acts awake on_ idle steady
  have small : ∀ g ∈ s.ocGroups i, g < 32 := fun g => State.ocGroups_lt
  have tripped := ((s.setSds i v).raise K.OVERCURRENT i d 1).tripGroups_trippedInto small (0x20 + i) s.now
  have latched := fun g mem => ((s.setSds i v).raise K.OVERCURRENT i d 1).tripGroups_latches small (0x20 + i) s.now (g := g) mem
  have kept := ((s.setSds i v).raise K.OVERCURRENT i d 1).tripGroups_msgs (s.ocGroups i) (0x20 + i) s.now
  rw [acts]
  generalize ((s.setSds i v).raise K.OVERCURRENT i d 1).tripGroups (s.ocGroups i) (0x20 + i) s.now = t at tripped latched kept
  have input : t.sds i = v := by
    have sd : t.sd = (s.setSds i v).sd := by rw [tripped.frame]; rfl
    rw [State.sds, sd, ← State.sds, s.sds_setSds_same]
  refine ⟨by rw [input, active], fun low => by rw [input, count low], ⟨{ source := sourceNo K.OVERCURRENT i, data := d, dlen := 1, stamp := s.now }, ?_, rfl⟩,
    fun g mem => ?_⟩
  · rw [kept]
    exact List.mem_append_right _ (List.mem_singleton_self _)
  · obtain ⟨tripped, cause⟩ := latched g mem
    exact ⟨tripped, fun idle => (cause idle).1.trans (Nat.mod_eq_of_lt (by omega))⟩

theorem State.ocRelease_ignored {i line : Nat} (ignored : (s.sds i).ocActive = false ∨ s.ocSteady i line false = false) : s.ocRelease i line = s := by
  unfold State.ocRelease
  exact if_pos (by rcases ignored with h | h <;> simp [h])

theorem State.ocRelease_ends {i line : Nat} (active : (s.sds i).ocActive = true) (steady : s.ocSteady i line false = true) :
    s.ocRelease i line = (s.setSds i { s.sds i with ocActive := false }).clearLive K.OVERCURRENT i := by
  unfold State.ocRelease
  exact if_neg (by simp [active, steady])

theorem State.sdStuck_ignored {i line : Nat} (ignored : s.sdSame i line (s.fld F.CS_CFG_STUCK i) = false ∨ (s.sds i).stuck = true) : s.sdStuck i line = s := by
  unfold State.sdStuck
  exact if_pos (by rcases ignored with h | h <;> simp [h])

theorem State.sdStuck_raises {i line : Nat} (awake : s.boot.resetLow = false) (on_ : s.bit F.CS_CFG_EN i = true) (some_ : s.fld F.CS_CFG_STUCK i ≠ 0)
    (moved : (s.sds i).stuck = false) (same : s.sdSame i line (s.fld F.CS_CFG_STUCK i) = true) :
    s.sdStuck i line = (s.setSds i { s.sds i with stuck := true }).raise K.SD_STUCK i (s.sdBitsNow i line 1) 1 := by
  unfold State.sdStuck
  exact if_neg (by simp [awake, on_, some_, moved, same])

theorem State.sdStuckEnd_ignored {i line : Nat} (ignored : (s.sds i).stuck = false ∨ s.sdSame i line 2 = true) : s.sdStuckEnd i line = s := by
  unfold State.sdStuckEnd
  exact if_neg (by rcases ignored with h | h <;> simp [h])

theorem State.sdStuckEnd_ends {i line : Nat} (stuck : (s.sds i).stuck = true) (differs : s.sdSame i line 2 = false) :
    s.sdStuckEnd i line = (s.setSds i { s.sds i with stuck := false }).clearLive K.SD_STUCK i := by
  unfold State.sdStuckEnd
  exact if_pos (by simp [stuck, differs])

end

theorem exec_emuStep (e : Fin 8) (s : State) : exec (.emuStep e) s =
    (if s32diff (s.emuTarget e.val) (s.emus e.val).counter = -(2 ^ 31) then .fault .emuLag else .next (s.emuStep e.val)) := rfl
theorem exec_overcurrentComparator (i : Fin 96) (line : Nat) (s : State) : exec (.overcurrentComparator i line) s = .next (s.ocActivate i.val line) := rfl
theorem exec_comparatorInactive (i : Fin 96) (line : Nat) (s : State) : exec (.comparatorInactive i line) s = .next (s.ocRelease i.val line) := rfl
theorem exec_sdStuck (i : Fin 96) (line : Nat) (s : State) : exec (.sdStuck i line) s = .next (s.sdStuck i.val line) := rfl
theorem exec_sdStuckEnd (n : SdLine) (s : State) : exec (.sdStuckEnd n) s = .next (s.sdStuckEnd n.n.val n.line) := rfl

/-- Settles O55. -/
theorem emulationAndCurrentEvents : Obligations.EmulationAndCurrentEvents := by
  unfold Obligations.EmulationAndCurrentEvents
  refine fun s => ⟨fun e => ⟨fun lag => ?_, fun stands near => ?_, fun near moves own first => ?_⟩, fun i line => ⟨fun awake on_ idle steady => ?_,
    fun ignored => ?_, fun active steady => ?_, fun ignored => ?_⟩, fun i line => ⟨fun awake on_ some_ moved same => ?_, fun ignored => ?_,
    fun stuck differs => ?_, fun ignored => ?_⟩⟩
  · rw [exec_emuStep, if_pos lag]
  · rw [exec_emuStep, if_neg near]
    rcases stands with mirrors | ⟨there, first⟩
    · rw [State.emuStep_mirrors (by omega) mirrors]
    · rw [State.emuStep_stands first there]
  · refine ⟨_, by rw [exec_emuStep, if_neg near, State.emuStep_steps first moves own], ?_⟩
    rw [State.emus_setEmus_same]
    exact ⟨rfl, rfl, rfl, fun k other => s.emus_setEmus_ne _ other⟩
  · exact ⟨_, exec_overcurrentComparator i line s, State.ocActivate_trips i.isLt awake on_ idle steady⟩
  · rw [exec_overcurrentComparator, State.ocActivate_ignored ignored]
  · refine ⟨_, exec_comparatorInactive i line s, ?_⟩
    rw [State.ocRelease_ends active steady]
    exact ⟨congrArg SdSt.ocActive (s.sds_setSds_same i _), rfl, rfl⟩
  · rw [exec_comparatorInactive, State.ocRelease_ignored ignored]
  · refine ⟨_, exec_sdStuck i line s, ?_⟩
    rw [State.sdStuck_raises awake on_ some_ moved same]
    exact ⟨congrArg SdSt.stuck (s.sds_setSds_same i _), rfl, rfl⟩
  · rw [exec_sdStuck, State.sdStuck_ignored ignored]
  · refine ⟨_, exec_sdStuckEnd ⟨i, line⟩ s, ?_⟩
    rw [State.sdStuckEnd_ends stuck differs]
    exact ⟨congrArg SdSt.stuck (s.sds_setSds_same i _), rfl⟩
  · rw [exec_sdStuckEnd, State.sdStuckEnd_ignored ignored]

end Sys2Proof.Machine
end

section
/-! A serial frame that completes while the time base stands (R267, R283): the refutation of O54. -/

set_option Elab.async false

namespace Sys2Proof.Machine

/-- The SSI frame of channel 0, sampled one tick before the present one. -/
def standingFrame : SerialFrame := { start := 999999, sample := 999999, cmd := 1 }

/-- CONFIGURE, the time base standing at tick 1000000, with a frame of SSI channel 0 in progress. -/
def standing : State :=
  let s := Tests.idle.setFld F.FB_CFG_MODE 3 0
  { s with time := { s.time with running := false }, fb := [(0, { frame := some standingFrame })] }

theorem standing_meets : standing.per.measured ≠ some standing.now ∧ standing.boot.resetLow = false ∧ standing.fenced (.fb 0) = false := by decide +kernel

theorem standing_frame : (standing.fbs 0).frame = some standingFrame ∧ standing.msgs = [] ∧ standing.fbMode 0 = 3 := by decide +kernel

/-- The instant eight ticks after the frame's last sample, which a standing time base does not reach, lies after the measurement instant. -/
theorem standing_late : standing.serJump 0 standingFrame (max standing.now (standing.lastSample 0 standingFrame 0 0 + 8)) (standing.readSsi 0 true 0) = false ∧
    standing.frameLate standingFrame (max standing.now (standing.lastSample 0 standingFrame 0 0 + 8)) = true := by decide +kernel

/-- The run of bad frames of channel 0 after a command that has a next state. -/
def badRunAfter : Out → Option Nat
  | .next t => some (t.fbs 0).badRun
  | _ => none

theorem standing_valid : badRunAfter (exec (.serialFrameComplete 0 true 0 0) standing) = some 0 ∧ (standing.fbs 0).badRun = 0 := by decide +kernel

/-- Refutes O54: while the time base stands the instant at which the frame would complete is not reached, and the frame is judged at the tick
that stands: it is valid, not late. -/
theorem not_feedbackEvents : ¬ Obligations.FeedbackEvents := by
  unfold Obligations.FeedbackEvents
  intro h
  obtain ⟨unmeasured, awake, free⟩ := standing_meets
  obtain ⟨frame, quiet, ssi⟩ := standing_frame
  obtain ⟨near, late⟩ := standing_late
  obtain ⟨-, -, -, -, -, -, ends⟩ := h 0 standing unmeasured awake free
  obtain ⟨-, -, judged⟩ := ends standingFrame frame quiet
  obtain ⟨t, next, -, bad⟩ := (judged true 0 ssi).1 near
  have after := standing_valid.1
  rw [next] at after
  have counted : (t.fbs 0).badRun = (standing.fbs 0).badRun + 1 := (bad (Or.inr late)).1
  rw [standing_valid.2, show (t.fbs 0).badRun = 0 from Option.some.inj after] at counted
  exact absurd counted (by decide)

end Sys2Proof.Machine
end

section
/-! Edges, dead times, held pulses and triggers of the PWM generator (R242, R247 to R249, R252, R259, R265). -/

set_option Elab.async false

namespace Sys2Proof.Machine

section
variable {s t u : State} {g : Nat}

/-- Time runs on to an instant with no event on its way: nothing but time changes. -/
theorem State.until_of_nil (none_ : s.msgs = []) (t : Nat) : s.until t = { s with time := (s.until t).time } := by
  have moved : ∀ k (v : State), v.cycleTo t k = { v with time := (v.cycleTo t k).time } := by
    intro k
    induction k with
    | zero => exact fun v => rfl
    | succ k ih =>
      intro v
      unfold State.cycleTo
      split
      · rfl
      · rw [ih v.cycle]
        rfl
  unfold State.until
  rw [State.drain_of_nil none_]
  split
  · unfold State.advanceTo
    split_ifs
    · rfl
    · exact moved _ s
    · rfl
  · rfl

/-- Of what the hub keeps of the groups only the switches of group `g` differ. -/
structure State.switchesOf (s t : State) (g : Nat) : Prop where
  other : ∀ h, h ≠ g → t.grp h = s.grp h
  level : (t.grp g).level = (s.grp g).level
  levelAt : (t.grp g).levelAt = (s.grp g).levelAt

namespace State.switchesOf

theorem of_groups (h : t.groups = s.groups) : s.switchesOf t g :=
  ⟨fun k _ => by rw [State.grp, h, State.grp], by rw [State.grp, h, State.grp], by rw [State.grp, h, State.grp]⟩

theorem refl (s : State) : s.switchesOf s g := of_groups rfl

theorem trans (h : s.switchesOf t g) (h' : t.switchesOf u g) : s.switchesOf u g :=
  ⟨fun k ne => (h'.other k ne).trans (h.other k ne), h'.level.trans h.level, h'.levelAt.trans h.levelAt⟩

theorem setSw (s : State) (g k : Nat) (v : Switch) : s.switchesOf (s.setSw g k v) g := by
  refine ⟨fun h ne => s.grp_setGrp_ne _ ne, ?_, ?_⟩ <;> rw [State.setSw, State.grp_setGrp_same]

theorem drive (s : State) (g k : Nat) (on : Bool) (t : Nat) : s.switchesOf (s.drive g k on t) g := by
  unfold State.drive
  dsimp only
  split
  · exact refl s
  · exact setSw ..

theorem wantOff (s : State) (g k t : Nat) : s.switchesOf (s.wantOff g k t) g := by
  unfold State.wantOff
  dsimp only
  split_ifs
  · exact setSw ..
  · exact refl s
  · exact setSw ..
  · exact setSw ..

theorem wantOn (s : State) (g k t : Nat) : s.switchesOf (s.wantOn g k t) g := by
  unfold State.wantOn
  split
  · exact setSw ..
  · exact setSw ..

theorem pairTo (s : State) (g l : Nat) (lv : Bool) (t : Nat) : s.switchesOf (s.pairTo g l lv t) g := (wantOff ..).trans (wantOn ..)

theorem makeChange (s : State) (g k : Nat) (c : SwChange) (t : Nat) (delayed : Bool) : s.switchesOf (s.makeChange g k c t delayed) g := by
  have cancelled : s.switchesOf (s.cancel g k) g := setSw ..
  unfold State.makeChange
  dsimp only
  split
  · exact cancelled.trans (of_groups (State.satInc_groups ..))
  · refine (cancelled.trans ?_).trans (drive ..)
    split
    · exact of_groups (State.satInc_groups ..)
    · exact refl _

theorem makeDue (s : State) (g t : Nat) (on : Bool) (k : Nat) : s.switchesOf (s.makeDue g t on k) g := by
  unfold State.makeDue
  split
  · exact refl s
  · split
    · exact refl s
    · split
      · exact makeChange ..
      · exact refl s

theorem makeDues (t : Nat) (on : Bool) (ks : List Nat) (s : State) :
    s.switchesOf ((ks.map fun k => (g, k)).foldl (fun s e => s.makeDue e.1 t on e.2) s) g := by
  induction ks generalizing s with
  | nil => exact refl s
  | cons k ks ih => exact (makeDue s g t on k).trans (ih _)

theorem makeNow (s : State) (ks : List Nat) (t : Nat) : s.switchesOf (s.makeNow (ks.map fun k => (g, k)) t) g := (makeDues ..).trans (makeDues ..)

end State.switchesOf

/-- A group whose leg `l` follows level `lv` from the instant `t` on. -/
def GroupSt.following (G : GroupSt) (l : Nat) (lv : Bool) (t : Nat) : GroupSt := { G with level := G.level.set l lv false, levelAt := G.levelAt.set l t 0 }

theorem State.followLeg_two (two : s.threeLevel g = false) (l t : Nat) (force : Bool) : ∃ p : Bool, s.followLeg g l t force =
    (let v := s.setGrp g ((s.grp g).following l (s.legLevel g l (s.carrier g t)) t)
     if p then (v.pairTo g l (s.legLevel g l (s.carrier g t)) t).makeNow ([2 * l, 2 * l + 1].map fun k => (g, k)) t else v) := by
  unfold State.followLeg
  rw [two, if_neg (by decide)]
  exact ⟨_, rfl⟩

/-- The level a two-level leg is commanded at an instant is what it follows. -/
theorem State.followLeg_follows (two : s.threeLevel g = false) (l t : Nat) (force : Bool) :
    ((s.followLeg g l t force).grp g).levelAt.get l 0 = t ∧ ((s.followLeg g l t force).grp g).level.get l false = s.legLevel g l (s.carrier g t) ∧
      ∀ h, h ≠ g → (s.followLeg g l t force).grp h = s.grp h := by
  obtain ⟨p, follows⟩ := State.followLeg_two two l t force
  have here := s.grp_setGrp_same g ((s.grp g).following l (s.legLevel g l (s.carrier g t)) t)
  have kept : ∀ h, h ≠ g → (s.setGrp g ((s.grp g).following l (s.legLevel g l (s.carrier g t)) t)).grp h = s.grp h := fun h ne => s.grp_setGrp_ne _ ne
  generalize s.setGrp g ((s.grp g).following l (s.legLevel g l (s.carrier g t)) t) = v at follows here kept
  have only : v.switchesOf (s.followLeg g l t force) g := by
    rw [follows]
    cases p
    · exact .refl v
    · exact (State.switchesOf.pairTo ..).trans (.makeNow ..)
  refine ⟨?_, ?_, fun h ne => (only.other h ne).trans (kept h ne)⟩
  · rw [only.levelAt, here]
    exact SMap.get_set_same ..
  · rw [only.level, here]
    exact SMap.get_set_same ..

theorem State.pwmEdge_rests {l : Nat} (rests : s.gstate g ≠ gDriving ∨ s.carrierRuns g = false ∨ s.nextEdge g l = none) : s.pwmEdge g l = s := by
  unfold State.pwmEdge
  split
  next drives =>
    rcases rests with h | h | h
    · exact absurd drives.1 h
    · exact absurd drives.2 (by rw [h]; decide)
    · simp only [h]
  next => rfl

theorem State.pwmEdge_follows {l e : Nat} (drives : s.gstate g = gDriving) (runs : s.carrierRuns g = true) (edge : s.nextEdge g l = some e) :
    s.pwmEdge g l = (s.until (e / 16)).followLeg g l e false := by
  unfold State.pwmEdge
  rw [if_pos ⟨drives, runs⟩]
  simp only [edge]

/-! ### One change of an output -/

/-- Where the carrier's side of an output ends does not depend on the switches. -/
theorem State.suppressed_cancel (s : State) (g k t : Nat) : (s.cancel g k).suppressed g k t = s.suppressed g k t := by
  have active : ∀ h, ((s.cancel g k).grp h).active = (s.grp h).active := fun h => by
    by_cases same : h = g
    · rw [same, State.cancel, State.setSw, State.grp_setGrp_same]
    · rw [State.cancel, State.setSw, State.grp_setGrp_ne _ _ same]
  have cmp : ∀ h c, (s.cancel g k).cmp h c = s.cmp h c := fun h c => by rw [State.cmp, active, State.cmp]
  have fld : ∀ (f : Fld) h, (s.cancel g k).fld f h = s.fld f h := fun f h => rfl
  simp only [State.suppressed, State.sideEnd, State.keepsOn, State.legEdges, State.legLevel, State.threeLevel, State.gkind, State.gper, State.carrier,
    State.minp16, cmp, fld]
  rfl

theorem State.satInc_cnt (s : State) {cnt sat : Fld} (obj : cnt.obj = sat.obj) (apart : cnt.lo + cnt.width ≤ sat.lo ∨ sat.lo + sat.width ≤ cnt.lo) (g : Nat) :
    (s.satInc cnt sat g).fld cnt g = min (s.fld cnt g + 1) (2 ^ cnt.width - 1) := by
  have low := s.fld_lt cnt g 0
  have value : (if s.fld cnt g < 2 ^ cnt.width - 1 then s.fld cnt g + 1 else 2 ^ cnt.width - 1) = min (s.fld cnt g + 1) (2 ^ cnt.width - 1) := by
    split <;> omega
  unfold State.satInc
  dsimp only
  rw [value]
  have set_ := s.fld_setFld_same cnt (min (s.fld cnt g + 1) (2 ^ cnt.width - 1)) g 0
  rw [Nat.mod_eq_of_lt (by omega)] at set_
  generalize s.setFld cnt (min (s.fld cnt g + 1) (2 ^ cnt.width - 1)) g = v at set_
  split
  · rw [State.setBit, State.fld_setFld_bits _ _ _ _ obj apart, set_]
  · exact set_

/-- A switch driven to a level stands there. -/
theorem State.drive_drives (s : State) (g k : Nat) (on : Bool) (t : Nat) : ((s.drive g k on t).sw g k).on = on ∧
    ((s.sw g k).on ≠ on → (if on then ((s.drive g k on t).sw g k).onAt else ((s.drive g k on t).sw g k).offAt) = t) := by
  unfold State.drive
  dsimp only
  split
  next same => exact ⟨same, fun no => absurd same no⟩
  next => cases on <;> exact ⟨by rw [State.sw_setSw_same]; rfl, fun _ => by rw [State.sw_setSw_same]; rfl⟩

theorem State.drive_sw (s : State) {g k j : Nat} (on : Bool) (t : Nat) (ne : j ≠ k) : (s.drive g k on t).sw g j = s.sw g j := by
  unfold State.drive
  dsimp only
  split
  · rfl
  · exact s.sw_setSw_ne _ fun same => ne same.2

theorem State.cancel_on (s : State) (g k : Nat) : ((s.cancel g k).sw g k).on = (s.sw g k).on := by rw [State.cancel, State.sw_setSw_same]

theorem State.cancel_sw (s : State) {g k j : Nat} (ne : j ≠ k) : (s.cancel g k).sw g j = s.sw g j := s.sw_setSw_ne _ fun same => ne same.2

theorem State.sw_of_groups (h : t.groups = s.groups) (g k : Nat) : t.sw g k = s.sw g k := by rw [State.sw, State.grp, h, State.sw, State.grp]

/-- A change of an output is made: it is no longer to come, and a suppressed pulse, a held turn-off and an edge put off are counted. -/
theorem State.makeChange_makes (s : State) (g k : Nat) (c : SwChange) (e : Nat) (d : Bool) :
    ((s.makeChange g k c e d).sw g k).pend = none ∧ (∀ j, j ≠ k → (s.makeChange g k c e d).sw g j = s.sw g j) ∧
      (c.on = true → c.kind = .pulse → s.suppressed g k e = true → ((s.makeChange g k c e d).sw g k).on = (s.sw g k).on ∧
        (s.makeChange g k c e d).fld F.PWMG_STATUS_PULSE_EATEN g = min (s.fld F.PWMG_STATUS_PULSE_EATEN g + 1) 0xFFFF) ∧
      (¬(c.on = true ∧ c.kind = .pulse ∧ s.suppressed g k e = true) → ((s.makeChange g k c e d).sw g k).on = c.on ∧
        ((s.sw g k).on ≠ c.on → (if c.on then ((s.makeChange g k c e d).sw g k).onAt else ((s.makeChange g k c e d).sw g k).offAt) = e) ∧
        (s.makeChange g k c e d).fld F.PWMG_STATUS_PULSE_HELD g =
          (if c.kind = .held ∨ (d = true ∧ c.kind = .pulse) then min (s.fld F.PWMG_STATUS_PULSE_HELD g + 1) 0xFFFF else s.fld F.PWMG_STATUS_PULSE_HELD g)) := by
  have off : ((s.cancel g k).sw g k).pend = none := s.cancel_pend g k
  have others : ∀ j, j ≠ k → (s.cancel g k).sw g j = s.sw g j := fun j ne => s.cancel_sw ne
  have on_ : ((s.cancel g k).sw g k).on = (s.sw g k).on := s.cancel_on g k
  have shown : ∀ f : Fld, (s.cancel g k).fld f g = s.fld f g := (s.cancel_groupsOnly g k).fld (i := g)
  have sup := s.suppressed_cancel g k e
  unfold State.makeChange
  dsimp only
  rw [sup]
  generalize s.cancel g k = v at off others on_ shown
  split
  next yes =>
    obtain ⟨⟨on1, pulse⟩, suppressed⟩ : (c.on = true ∧ c.kind = .pulse) ∧ s.suppressed g k e = true := by
      simpa only [Bool.and_eq_true, beq_iff_eq] using yes
    have same : ∀ j, (v.countEaten g).sw g j = v.sw g j := fun j => State.sw_of_groups (State.satInc_groups ..) g j
    refine ⟨by rw [same, off], fun j ne => by rw [same, others j ne], fun _ _ _ => ⟨by rw [same, on_], ?_⟩, fun no => absurd ⟨on1, pulse, suppressed⟩ no⟩
    rw [State.countEaten, v.satInc_cnt (cnt := F.PWMG_STATUS_PULSE_EATEN) (sat := F.PWMG_STATUS_EATEN_SAT) rfl (by decide), shown]
    rfl
  next no =>
    have counts : c.kind = .held ∨ (d = true ∧ c.kind = .pulse) ↔ (c.kind == .held || (d && c.kind == .pulse)) = true := by
      simp only [Bool.or_eq_true, Bool.and_eq_true, beq_iff_eq]
    have counted : (if c.kind == .held || (d && c.kind == .pulse) then v.countHeld g else v).groups = v.groups ∧
        (if c.kind == .held || (d && c.kind == .pulse) then v.countHeld g else v).fld F.PWMG_STATUS_PULSE_HELD g =
          (if c.kind = .held ∨ (d = true ∧ c.kind = .pulse) then min (s.fld F.PWMG_STATUS_PULSE_HELD g + 1) 0xFFFF
            else s.fld F.PWMG_STATUS_PULSE_HELD g) := by
      by_cases held : c.kind = .held ∨ (d = true ∧ c.kind = .pulse)
      · rw [if_pos held, if_pos (counts.mp held), ← shown]
        exact ⟨State.satInc_groups .., v.satInc_cnt (cnt := F.PWMG_STATUS_PULSE_HELD) (sat := F.PWMG_STATUS_HELD_SAT) rfl (by decide) g⟩
      · rw [if_neg held, if_neg fun yes => held (counts.mpr yes)]
        exact ⟨rfl, shown _⟩
    generalize (if c.kind == .held || (d && c.kind == .pulse) then v.countHeld g else v) = w at counted
    obtain ⟨groups, held⟩ := counted
    have same := fun j => State.sw_of_groups groups g j
    obtain ⟨drives, at_⟩ := w.drive_drives g k c.on e
    refine ⟨by rw [State.drive_pend, same, off], fun j ne => by rw [State.drive_sw _ _ _ ne, same, others j ne], fun on1 pulse suppressed => ?_,
      fun _ => ⟨drives, fun ne => at_ (by rw [same, on_]; exact ne), ?_⟩⟩
    · exact absurd (by rw [on1, pulse, suppressed]; decide) no
    · rw [(w.drive_groupsOnly g k c.on e).fld, held]

/-! ### Changes that fall due -/

theorem State.changeDue_none {k : Nat} (held : Bool) (none_ : (s.sw g k).pend = none) : s.changeDue g k held = s := by
  simp only [State.changeDue, none_]

theorem State.changeDue_other {k : Nat} {held : Bool} {c : SwChange} (pend : (s.sw g k).pend = some c)
    (other : s.changeAt g k c = none ∨ (c.kind == .held) ≠ held) : s.changeDue g k held = s := by
  unfold State.changeDue
  simp only [pend]
  cases at_ : s.changeAt g k c with
  | none => rfl
  | some p => exact if_pos (other.resolve_left (by rw [at_]; exact Option.some_ne_none p))

theorem State.changeDue_at {k e : Nat} {held d : Bool} {c : SwChange} (pend : (s.sw g k).pend = some c) (at_ : s.changeAt g k c = some (e, d))
    (kind : (c.kind == .held) = held) : s.changeDue g k held = (let w := (s.until (tickOf e)).levelFirst g k e c
      if (w.sw g k).pend = some c then w.makeChange g k c e d else w) := by
  simp only [State.changeDue, pend, at_, kind, ne_eq, not_true_eq_false, if_false]

theorem State.levelFirst_other {k t : Nat} {c : SwChange} (other : c.on = false ∨ c.kind ≠ .pulse) : s.levelFirst g k t c = s := by
  unfold State.levelFirst
  rw [if_neg (by rcases other with h | h <;> simp [h])]

theorem State.triggerFire_none {b : Bool} (none_ : s.trigInstant g b = none) : s.triggerFire g b = s := by
  simp only [State.triggerFire, none_]

/-- A trigger notes its instant, and leaves the other as it was. -/
theorem State.triggerFire_fires {b : Bool} {e : Nat} (at_ : s.trigInstant g b = some e) (quiet : s.msgs = []) :
    (if b then ((s.triggerFire g b).grp g).firedB else ((s.triggerFire g b).grp g).firedA) = some (tickOf e) ∧
      (if b then ((s.triggerFire g b).grp g).firedA = (s.grp g).firedA else ((s.triggerFire g b).grp g).firedB = (s.grp g).firedB) ∧
      (s.triggerFire g b).objs = s.objs := by
  have still := s.until_of_nil quiet (tickOf e)
  have groups : (s.until (tickOf e)).grp g = s.grp g := by rw [still]; rfl
  have objs : (s.until (tickOf e)).objs = s.objs := by rw [still]
  unfold State.triggerFire
  simp only [at_]
  rw [State.grp_setGrp_same, groups]
  exact ⟨by cases b <;> rfl, by cases b <;> rfl, objs⟩

end

theorem exec_pwmEdge (g : Fin 32) (l : Fin 3) (s : State) : exec (.pwmEdge g l) s = .next (s.pwmEdge g.val l.val) := rfl
theorem exec_triggerFire (g : Fin 32) (b : Bool) (s : State) : exec (.triggerFire g b) s = .next (s.triggerFire g.val b) := rfl

theorem exec_change (g : Fin 32) (k : Fin 6) (held : Bool) (s : State) :
    (if held then exec (.minPulseExpiry g k) s else exec (.deadTimeExpiry g k) s) = .next (s.changeDue g.val k.val held) := by
  cases held <;> rfl

/-- Settles O52. -/
theorem pwmChangesFallDue : Obligations.PwmChangesFallDue := by
  unfold Obligations.PwmChangesFallDue
  refine fun g s quiet => ⟨fun l => ⟨fun rests => ?_, fun e drives runs edge two => ?_⟩, fun k held => ⟨fun none_ => ?_, fun c pend => ⟨fun other => ?_,
    fun e d at_ kind => ?_⟩⟩, fun b => ⟨fun none_ => ?_, fun e at_ => ?_⟩⟩
  · rw [exec_pwmEdge, State.pwmEdge_rests rests]
  · have still := s.until_of_nil quiet (e / 16)
    have same : ∀ h, (s.until (e / 16)).grp h = s.grp h := fun h => by rw [still]; rfl
    have level : (s.until (e / 16)).legLevel g.val l.val ((s.until (e / 16)).carrier g.val e) = s.legLevel g.val l.val (s.carrier g.val e) := by
      rw [still]
      rfl
    obtain ⟨levelAt, follows, others⟩ := State.followLeg_follows (s := s.until (e / 16)) (g := g.val) (by rw [still]; exact two) l.val e false
    exact ⟨_, by rw [exec_pwmEdge, State.pwmEdge_follows drives runs edge], levelAt, follows.trans level, fun h ne => (others h ne).trans (same h)⟩
  · rw [exec_change, State.changeDue_none held none_]
  · rw [exec_change, State.changeDue_other pend other]
  · rw [exec_change, State.changeDue_at pend at_ kind]
    have still := s.until_of_nil quiet (tickOf e)
    have same : ((s.until (tickOf e)).sw g.val k.val).pend = some c := by rw [still]; exact pend
    refine ⟨fun other => ?_, fun gone => ?_, fun stays => ?_⟩
    · rw [State.levelFirst_other other]
      exact ⟨rfl, same⟩
    · dsimp only
      rw [if_neg gone]
    · dsimp only
      rw [if_pos stays]
      generalize (s.until (tickOf e)).levelFirst g.val k.val e c = w at stays
      obtain ⟨done, others, eaten, made⟩ := w.makeChange_makes g.val k.val c e d
      exact ⟨_, rfl, done, (State.switchesOf.makeChange w g.val k.val c e d).other, others, eaten, made⟩
  · rw [exec_triggerFire, State.triggerFire_none none_]
  · exact ⟨_, exec_triggerFire g b s, State.triggerFire_fires at_ quiet⟩

end Sys2Proof.Machine
end

section
/-! Sets of the PWM groups: what collecting and releasing them leaves unchanged (R27, R254, R256). -/

set_option Elab.async false

namespace Sys2Proof.Machine

@[simp] theorem State.wantOff_low20 (s : State) (g k t : Nat) : lowObjs 20 (s.wantOff g k t).objs = lowObjs 20 s.objs := by
  simp -implicitDefEqProofs +decide [State.wantOff, apply_ite State.objs, apply_ite (lowObjs 20)]

@[simp] theorem State.wantOn_low20 (s : State) (g k t : Nat) : lowObjs 20 (s.wantOn g k t).objs = lowObjs 20 s.objs := by
  simp -implicitDefEqProofs +decide [State.wantOn, apply_ite State.objs, apply_ite (lowObjs 20)]

@[simp] theorem State.pairTo_low20 (s : State) (g l : Nat) (lv : Bool) (t : Nat) : lowObjs 20 (s.pairTo g l lv t).objs = lowObjs 20 s.objs := by
  simp -implicitDefEqProofs +decide [State.pairTo]

@[simp] theorem State.followLeg_low20 (s : State) (g l t : Nat) (force : Bool) : lowObjs 20 (s.followLeg g l t force).objs = lowObjs 20 s.objs := by
  simp -implicitDefEqProofs +decide [State.followLeg, apply_ite State.objs, apply_ite (lowObjs 20)]

@[simp] theorem State.transferRegs_low20 (s0 : State) (g : Nat) : lowObjs 20 (s0.transferRegs g).objs = lowObjs 20 s0.objs := by
  simp -implicitDefEqProofs +decide [State.transferRegs]

@[simp] theorem State.startGroup_low20 (s : State) (g : Nat) : lowObjs 20 (s.startGroup g).objs = lowObjs 20 s.objs := by
  simp -implicitDefEqProofs +decide [State.startGroup, apply_ite State.objs, apply_ite (lowObjs 20)]

@[simp] theorem State.followSet_low20 (s : State) (g t16 : Nat) (moved : List Nat) (force : Bool) : lowObjs 20 (s.followSet g t16 moved force).objs = lowObjs 20 s.objs := by
  simp -implicitDefEqProofs +decide [State.followSet, apply_ite State.objs, apply_ite (lowObjs 20)]

@[simp] theorem State.transfer_low20 (s : State) (gs : List Nat) : lowObjs 20 (s.transfer gs).objs = lowObjs 20 s.objs := by
  simp -implicitDefEqProofs +decide [State.transfer]

@[simp] theorem State.releaseOne_low20 (s : State) (g : Nat) : lowObjs 20 (s.releaseOne g).objs = lowObjs 20 s.objs := by
  simp -implicitDefEqProofs +decide [State.releaseOne, apply_ite State.objs, apply_ite (lowObjs 20)]

@[simp] theorem State.releaseGang_low20 (s : State) (gs : List Nat) : lowObjs 20 (s.releaseGang gs).objs = lowObjs 20 s.objs := by
  simp -implicitDefEqProofs +decide [State.releaseGang]

@[simp] theorem State.completeSet_low20 (s : State) (g : Nat) : lowObjs 20 (s.completeSet g).objs = lowObjs 20 s.objs := by
  simp -implicitDefEqProofs +decide [State.completeSet]

@[simp] theorem State.tryRelease_low20 (s : State) (g : Nat) : lowObjs 20 (s.tryRelease g).objs = lowObjs 20 s.objs := by
  simp -implicitDefEqProofs +decide [State.tryRelease, apply_ite State.objs, apply_ite (lowObjs 20)]

@[simp] theorem State.endMarkSets_low20 (s : State) (poster : Nat) : lowObjs 20 (s.endMarkSets poster).objs = lowObjs 20 s.objs := by
  simp -implicitDefEqProofs +decide [State.endMarkSets]

@[simp] theorem State.drive_red (s : State) (g k : Nat) (on : Bool) (t : Nat) : (s.drive g k on t).red = s.red := by
  simp -implicitDefEqProofs [State.drive, apply_ite State.red]

@[simp] theorem State.cancel_red (s : State) (g k : Nat) : (s.cancel g k).red = s.red := by
  simp -implicitDefEqProofs [State.cancel]

@[simp] theorem State.plan_red (s : State) (g k t : Nat) (on : Bool) (kind : ChangeKind) : (s.plan g k t on kind).red = s.red := by
  simp -implicitDefEqProofs [State.plan]

@[simp] theorem State.countEaten_red (s : State) (g : Nat) : (s.countEaten g).red = s.red := by
  simp -implicitDefEqProofs [State.countEaten]

@[simp] theorem State.countHeld_red (s : State) (g : Nat) : (s.countHeld g).red = s.red := by
  simp -implicitDefEqProofs [State.countHeld]

@[simp] theorem State.makeChange_red (s : State) (g k : Nat) (c : SwChange) (t : Nat) (delayed : Bool) : (s.makeChange g k c t delayed).red = s.red := by
  simp -implicitDefEqProofs [State.makeChange, apply_ite State.red]

@[simp] theorem State.makeDue_red (s : State) (g t : Nat) (on : Bool) (k : Nat) : (s.makeDue g t on k).red = s.red := by
  unfold State.makeDue
  (repeat' split) <;> simp -implicitDefEqProofs

@[simp] theorem State.makeNow_red (s : State) (es : List (Nat × Nat)) (t : Nat) : (s.makeNow es t).red = s.red := by
  simp -implicitDefEqProofs [State.makeNow]

@[simp] theorem State.wantOff_red (s : State) (g k t : Nat) : (s.wantOff g k t).red = s.red := by
  simp -implicitDefEqProofs [State.wantOff, apply_ite State.red]

@[simp] theorem State.wantOn_red (s : State) (g k t : Nat) : (s.wantOn g k t).red = s.red := by
  simp -implicitDefEqProofs [State.wantOn, apply_ite State.red]

@[simp] theorem State.pairTo_red (s : State) (g l : Nat) (lv : Bool) (t : Nat) : (s.pairTo g l lv t).red = s.red := by
  simp -implicitDefEqProofs [State.pairTo]

@[simp] theorem State.followLeg_red (s : State) (g l t : Nat) (force : Bool) : (s.followLeg g l t force).red = s.red := by
  simp -implicitDefEqProofs [State.followLeg, apply_ite State.red]

@[simp] theorem State.countTrigger_red (s : State) (t16 g : Nat) (b : Bool) : (s.countTrigger t16 g b).red = s.red := by
  simp -implicitDefEqProofs [State.countTrigger, apply_ite State.red]

@[simp] theorem State.countTriggers_red (s : State) (t16 g : Nat) : (s.countTriggers t16 g).red = s.red := by
  simp -implicitDefEqProofs [State.countTriggers]

@[simp] theorem State.transferRegs_red (s0 : State) (g : Nat) : (s0.transferRegs g).red = s0.red := by
  simp -implicitDefEqProofs [State.transferRegs]

@[simp] theorem State.startGroup_red (s : State) (g : Nat) : (s.startGroup g).red = s.red := by
  simp -implicitDefEqProofs [State.startGroup, apply_ite State.red]

@[simp] theorem State.followSet_red (s : State) (g t16 : Nat) (moved : List Nat) (force : Bool) : (s.followSet g t16 moved force).red = s.red := by
  simp -implicitDefEqProofs [State.followSet, apply_ite State.red]

@[simp] theorem State.transfer_red (s : State) (gs : List Nat) : (s.transfer gs).red = s.red := by
  simp -implicitDefEqProofs [State.transfer]

@[simp] theorem State.releaseOne_red (s : State) (g : Nat) : (s.releaseOne g).red = s.red := by
  simp -implicitDefEqProofs [State.releaseOne, apply_ite State.red]

@[simp] theorem State.releaseGang_red (s : State) (gs : List Nat) : (s.releaseGang gs).red = s.red := by
  simp -implicitDefEqProofs [State.releaseGang]

@[simp] theorem State.completeSet_red (s : State) (g : Nat) : (s.completeSet g).red = s.red := by
  simp -implicitDefEqProofs [State.completeSet]

@[simp] theorem State.tryRelease_red (s : State) (g : Nat) : (s.tryRelease g).red = s.red := by
  simp -implicitDefEqProofs [State.tryRelease, apply_ite State.red]

@[simp] theorem State.postCompare_red (s : State) (g c : Nat) (w : Word24) (poster : Nat) : (s.postCompare g c w poster).red = s.red := by
  simp -implicitDefEqProofs [State.postCompare, apply_ite State.red]

@[simp] theorem State.endMarkSets_red (s : State) (poster : Nat) : (s.endMarkSets poster).red = s.red := by
  simp -implicitDefEqProofs [State.endMarkSets]

@[simp] theorem State.dropGroup_red (s : State) (g : Nat) : (s.dropGroup g).red = s.red := by
  simp -implicitDefEqProofs [State.dropGroup]

@[simp] theorem State.dropSets_red (s : State) (poster : Nat) : (s.dropSets poster).red = s.red := by
  simp -implicitDefEqProofs [State.dropSets]

@[simp] theorem State.wantOff_lanes (s : State) (g k t : Nat) : (s.wantOff g k t).lanes = s.lanes := by
  simp -implicitDefEqProofs [State.wantOff, apply_ite State.lanes]

@[simp] theorem State.wantOn_lanes (s : State) (g k t : Nat) : (s.wantOn g k t).lanes = s.lanes := by
  simp -implicitDefEqProofs [State.wantOn, apply_ite State.lanes]

@[simp] theorem State.pairTo_lanes (s : State) (g l : Nat) (lv : Bool) (t : Nat) : (s.pairTo g l lv t).lanes = s.lanes := by
  simp -implicitDefEqProofs [State.pairTo]

@[simp] theorem State.followLeg_lanes (s : State) (g l t : Nat) (force : Bool) : (s.followLeg g l t force).lanes = s.lanes := by
  simp -implicitDefEqProofs [State.followLeg, apply_ite State.lanes]

@[simp] theorem State.transferRegs_lanes (s0 : State) (g : Nat) : (s0.transferRegs g).lanes = s0.lanes := by
  simp -implicitDefEqProofs [State.transferRegs]

@[simp] theorem State.startGroup_lanes (s : State) (g : Nat) : (s.startGroup g).lanes = s.lanes := by
  simp -implicitDefEqProofs [State.startGroup, apply_ite State.lanes]

@[simp] theorem State.followSet_lanes (s : State) (g t16 : Nat) (moved : List Nat) (force : Bool) : (s.followSet g t16 moved force).lanes = s.lanes := by
  simp -implicitDefEqProofs [State.followSet, apply_ite State.lanes]

@[simp] theorem State.transfer_lanes (s : State) (gs : List Nat) : (s.transfer gs).lanes = s.lanes := by
  simp -implicitDefEqProofs [State.transfer]

@[simp] theorem State.releaseOne_lanes (s : State) (g : Nat) : (s.releaseOne g).lanes = s.lanes := by
  simp -implicitDefEqProofs [State.releaseOne, apply_ite State.lanes]

@[simp] theorem State.releaseGang_lanes (s : State) (gs : List Nat) : (s.releaseGang gs).lanes = s.lanes := by
  simp -implicitDefEqProofs [State.releaseGang]

@[simp] theorem State.completeSet_lanes (s : State) (g : Nat) : (s.completeSet g).lanes = s.lanes := by
  simp -implicitDefEqProofs [State.completeSet]

@[simp] theorem State.tryRelease_lanes (s : State) (g : Nat) : (s.tryRelease g).lanes = s.lanes := by
  simp -implicitDefEqProofs [State.tryRelease, apply_ite State.lanes]

@[simp] theorem State.postCompare_lanes (s : State) (g c : Nat) (w : Word24) (poster : Nat) : (s.postCompare g c w poster).lanes = s.lanes := by
  simp -implicitDefEqProofs [State.postCompare, apply_ite State.lanes]

@[simp] theorem State.dropGroup_lanes (s : State) (g : Nat) : (s.dropGroup g).lanes = s.lanes := by
  simp -implicitDefEqProofs [State.dropGroup]

@[simp] theorem State.dropSets_lanes (s : State) (poster : Nat) : (s.dropSets poster).lanes = s.lanes := by
  simp -implicitDefEqProofs [State.dropSets]


end Sys2Proof.Machine
end

section
/-! Words of a pair's copies: what accepting them keeps (R22, R131 to R134, R336 to R339). -/

set_option Elab.async false

namespace Sys2Proof.Machine

/-- `t` has the lane pairs of `s`: their copies, what the hub keeps of them, the cairns, who computes which position, and their slack. -/
structure State.keepsPairs (s t : State) : Prop where
  lanes : t.lanes = s.lanes
  pairs : t.red.pairs = s.red.pairs
  cairns : t.red.cairns = s.red.cairns
  map : t.red.map = s.red.map
  takeover : t.red.takeover = s.red.takeover
  swap : t.red.swap = s.red.swap
  migrate : t.red.migrate = s.red.migrate
  active : t.activeUnit = s.activeUnit
  slack : ∀ e < 256, t.obj .sysSlack 0 e = s.obj .sysSlack 0 e

namespace State.keepsPairs

variable {s t u : State}

theorem refl (s : State) : s.keepsPairs s := ⟨rfl, rfl, rfl, rfl, rfl, rfl, rfl, rfl, fun _ _ => rfl⟩

theorem trans (h : s.keepsPairs t) (h' : t.keepsPairs u) : s.keepsPairs u :=
  ⟨h'.lanes.trans h.lanes, h'.pairs.trans h.pairs, h'.cairns.trans h.cairns, h'.map.trans h.map, h'.takeover.trans h.takeover, h'.swap.trans h.swap,
    h'.migrate.trans h.migrate, h'.active.trans h.active, fun e he => (h'.slack e he).trans (h.slack e he)⟩

theorem of_same {os : List Obj} (same : SameObjs os s t) (mode : Obj.sysMode ∉ os) (slack : Obj.sysSlack ∉ os) (lanes : t.lanes = s.lanes)
    (red : t.red = s.red) : s.keepsPairs t :=
  ⟨lanes, by rw [red], by rw [red], by rw [red], by rw [red], by rw [red], by rw [red], same.fld mode (by decide),
    fun e he => same .sysSlack 0 e slack (by decide) (by omega)⟩

theorem of_fields (objs : t.objs = s.objs) (lanes : t.lanes = s.lanes) (red : t.red = s.red) : s.keepsPairs t :=
  of_same (os := []) (.of_objs objs _) (by simp) (by simp) lanes red

theorem foldl {α : Type} {f : State → α → State} (h : ∀ (s : State) a, s.keepsPairs (f s a)) (l : List α) (s : State) : s.keepsPairs (l.foldl f s) := by
  induction l generalizing s with
  | nil => exact refl s
  | cons a l ih => exact (h s a).trans (ih _)

theorem finishCmd (s : State) (ref : CmdRef) (o : Result) (need : Nat) : s.keepsPairs (s.finishCmd ref o need) := by
  obtain ⟨same, frame⟩ := s.finishCmd_completedInto ref o need
  exact of_same same (by decide) (by decide) (by rw [frame]) (by rw [frame])

theorem setHub (s : State) (a : Nat) (h : AxisHub) : s.keepsPairs (s.setHub a h) := of_fields rfl rfl rfl
theorem setCaravan (s : State) (g : Nat) (v : CaravanSt) : s.keepsPairs (s.setCaravan g v) := of_fields rfl rfl rfl

theorem takeDone (s : State) (a word need : Nat) : s.keepsPairs (s.takeDone a word need) := by
  unfold State.takeDone
  dsimp only
  split
  · exact refl s
  · exact (setHub ..).trans (finishCmd ..)

theorem takePub (s : State) (a obj word : Nat) : s.keepsPairs (s.takePub a obj word) := by
  unfold State.takePub
  dsimp only
  split <;> exact of_fields rfl rfl rfl

theorem takeDoneOf (s : State) (a q : Nat) (w : Word24) (ws : List (Nat × Word24)) : s.keepsPairs (s.takeDoneOf a q w ws) :=
  ((setHub ..).trans (takeDone ..)).trans (setHub ..)

theorem endSegments (s : State) (g : Nat) (o : Result) (need : Nat) : s.keepsPairs (s.endSegments g o need) :=
  (setCaravan s g { s.caravan g with queue := [], started := false, aborting := false, aborts := [] }).trans
    (foldl (fun s (q : Segment) => finishCmd s q.owner o need) _ _)

theorem freeSegments (g need k : Nat) (s : State) : s.keepsPairs (s.freeSegments g need k) := by
  induction k generalizing s with
  | zero => exact refl s
  | succ k ih =>
    unfold State.freeSegments
    dsimp only
    split
    · exact refl s
    · split
      · exact ((setCaravan ..).trans (finishCmd ..)).trans (ih _)
      · exact refl s

theorem takeSegAt (s : State) (a word need : Nat) : s.keepsPairs (s.takeSegAt a word need) := by
  unfold State.takeSegAt
  split
  · exact refl s
  · dsimp only
    split_ifs
    · exact refl s
    · exact refl s
    · exact (setCaravan ..).trans (endSegments ..)
    · exact (setCaravan ..).trans (freeSegments ..)

theorem postDo (s : State) (c lane : Nat) (w : Word24) : s.keepsPairs (s.postDo c lane w) := by
  unfold State.postDo
  split
  · split
    · exact refl s
    · exact of_fields rfl rfl rfl
  · exact of_fields rfl rfl rfl

theorem postBox (s : State) (l slot : Nat) (w : Word24) : s.keepsPairs (s.postBox l slot w) :=
  ⟨rfl, rfl, rfl, rfl, rfl, rfl, rfl, rfl, fun _ _ => rfl⟩

theorem postSeal (s : State) (q port : Nat) (w : Word24) : s.keepsPairs (s.postSeal q port w) := by
  unfold State.postSeal
  exact ⟨rfl, rfl, rfl, rfl, rfl, rfl, rfl, rfl, fun _ _ => rfl⟩

/-- A word released to its block leaves the lane pairs as they are. -/
theorem releaseWord (l q : Nat) (ws : List (Nat × Word24)) (s : State) (e : Nat × Word24) : s.keepsPairs (State.releaseWord l q ws s e) := by
  unfold State.releaseWord
  dsimp only
  split
  · split_ifs
    · exact refl s
    · exact postBox ..
    · exact refl s
    · exact postBox ..
    · exact refl s
    · exact postSeal ..
  · exact of_fields rfl rfl rfl
  · split
    · exact takeDoneOf ..
    · exact postSeal ..
  · split_ifs
    · exact takeSegAt ..
    · exact (takePub ..).trans (postSeal ..)
    · exact takePub ..
  · exact of_fields rfl rfl rfl
  · split <;> exact of_fields rfl rfl rfl
  · exact postDo ..
  · exact postBox ..
  · exact refl s

theorem raise (s : State) (k : Kind) (i d n kd a : Nat) : s.keepsPairs (s.raise k i d n kd a) := of_fields rfl rfl rfl

theorem noteRedundancy (s : State) : s.keepsPairs s.noteRedundancy := by
  have shown : s.keepsPairs (s.setBit F.SYS_MODE_REDUNDANT s.redundant) :=
    ⟨rfl, rfl, rfl, rfl, rfl, rfl, rfl, s.fld_setFld_bits (f := F.SYS_MODE_REDUNDANT) (g := F.SYS_MODE_ACTIVE_UNIT) _ _ _ rfl (by decide),
      fun e he => s.setFld_sameObjs_at F.SYS_MODE_REDUNDANT _ (by decide) (by decide) .sysSlack 0 e (by decide) (by decide) (by omega)⟩
  unfold State.noteRedundancy
  dsimp only
  generalize s.setBit F.SYS_MODE_REDUNDANT s.redundant = v at shown
  split_ifs
  · exact ⟨shown.lanes, rfl, rfl, rfl, rfl, rfl, rfl, shown.active, shown.slack⟩
  · exact ⟨shown.lanes, rfl, rfl, rfl, rfl, rfl, rfl, shown.active, shown.slack⟩
  · exact shown

theorem thenRedundancy (h : s.keepsPairs t) : s.keepsPairs t.noteRedundancy := h.trans (noteRedundancy t)

theorem sealBuild (s : State) : s.keepsPairs s.sealBuild := by
  unfold State.sealBuild
  split
  · exact refl s
  · dsimp only
    split
    · split
      · exact refl s
      · exact thenRedundancy ⟨rfl, rfl, rfl, rfl, rfl, rfl, rfl, rfl, fun _ _ => rfl⟩
    · exact refl s

theorem thenSealed (h : s.keepsPairs t) : s.keepsPairs t.sealBuild := h.trans (sealBuild t)

theorem mirrorApply (s : State) : s.keepsPairs s.mirrorApply := by
  unfold State.mirrorApply
  split
  · exact refl s
  · exact thenSealed ⟨rfl, rfl, rfl, rfl, rfl, rfl, rfl, rfl, fun _ _ => rfl⟩

theorem mirrorTo (q k : Nat) (s : State) : s.keepsPairs (s.mirrorTo q k) := by
  induction k generalizing s with
  | zero => exact refl s
  | succ k ih =>
    unfold State.mirrorTo
    split
    · exact refl s
    · exact (mirrorApply s).trans (ih _)

end State.keepsPairs

end Sys2Proof.Machine
end

section
/-! Words of a pair's copies are compared before they are accepted (R22, R101, R132, R337). -/

set_option Elab.async false

namespace Sys2Proof.Machine

/-- `t` has what `s` says of who computes which position, its cairns, and its lane copies. -/
structure State.keepsRoles (s t : State) : Prop where
  lanes : t.lanes = s.lanes
  cairns : t.red.cairns = s.red.cairns
  map : t.red.map = s.red.map
  takeover : t.red.takeover = s.red.takeover
  swap : t.red.swap = s.red.swap
  migrate : t.red.migrate = s.red.migrate
  active : t.activeUnit = s.activeUnit

namespace State.keepsRoles

variable {s t v : State}

theorem of_keepsPairs (h : s.keepsPairs t) : s.keepsRoles t := ⟨h.lanes, h.cairns, h.map, h.takeover, h.swap, h.migrate, h.active⟩

theorem trans (h : s.keepsRoles t) (h' : t.keepsRoles v) : s.keepsRoles v :=
  ⟨h'.lanes.trans h.lanes, h'.cairns.trans h.cairns, h'.map.trans h.map, h'.takeover.trans h.takeover, h'.swap.trans h.swap, h'.migrate.trans h.migrate,
    h'.active.trans h.active⟩

theorem setPair (s : State) (u l : Nat) (p : PairSt) : s.keepsRoles (s.setPair u l p) := ⟨rfl, rfl, rfl, rfl, rfl, rfl, rfl⟩

theorem lane (h : s.keepsRoles t) (u l c : Nat) : t.lane u l c = s.lane u l c := by rw [State.lane, h.lanes, State.lane]

theorem cairnOf (h : s.keepsRoles t) (q : Nat) : t.cairnOf q = s.cairnOf q := by rw [State.cairnOf, h.cairns, State.cairnOf]

theorem builds (h : s.keepsRoles t) (u l : Nat) : t.builds u l = s.builds u l := by
  simp only [State.builds, State.secondary, h.swap, h.migrate, h.takeover, h.active]

theorem posOfPair (h : s.keepsRoles t) (u l : Nat) : t.posOfPair u l = s.posOfPair u l := by
  simp only [State.posOfPair, State.posOf, State.laneOf, h.migrate, h.map]

end State.keepsRoles

theorem State.keepsPairs.pair {s t : State} (h : s.keepsPairs t) (u l : Nat) : t.pair u l = s.pair u l := by rw [State.pair, h.pairs, State.pair]

section
variable {s : State} {u l : Nat}

theorem laneKey_copies_ne (u l : Nat) : laneKey u l 0 ≠ laneKey u l 1 := by unfold laneKey; omega

/-- The first word of each copy is taken away. -/
theorem State.popPosts_pops (s : State) (u l : Nat) : ((s.popPosts u l).lane u l 0).posts = (s.lane u l 0).posts.tail ∧
    ((s.popPosts u l).lane u l 1).posts = (s.lane u l 1).posts.tail := by
  unfold State.popPosts
  dsimp only
  rw [State.lane_setLane_same, State.lane_setLane_ne _ _ (laneKey_copies_ne u l), State.lane_setLane_same,
    State.lane_setLane_ne _ _ (laneKey_copies_ne u l).symm]
  exact ⟨rfl, rfl⟩

theorem State.popPosts_red (s : State) (u l : Nat) : (s.popPosts u l).red = s.red := rfl
theorem State.popPosts_objs (s : State) (u l : Nat) : (s.popPosts u l).objs = s.objs := rfl

theorem State.addTrace_untraced (swap : s.red.swap = none) (migrate : s.red.migrate = none) (q : Nat) (w : Post) : s.addTrace u l q w = s := by
  unfold State.addTrace
  rw [if_neg]
  rw [State.traced, swap, migrate]
  exact Bool.false_ne_true

/-- Where no swap and no migration compares it, an accepted word enters its pair's digest. -/
theorem State.notePost_digests (swap : s.red.swap = none) (migrate : s.red.migrate = none) (q : Nat) (w : Post) :
    s.notePost u l q w = s.setPair u l { s.pair u l with digest := crc64 (s.pair u l).digest (postBytes w) } := by
  unfold State.notePost
  exact State.addTrace_untraced (s := s.setPair u l _) swap migrate q w

/-- Releasing a pair's words keeps the pair but for the number of the period whose words are released. -/
theorem State.releasePair_releases (s : State) (u l q : Nat) : ∃ v, s.keepsPairs v ∧
    (s.releasePair u l q = v ∨ s.releasePair u l q = v.setPair u l { s.pair u l with outCount := q }) := by
  unfold State.releasePair
  dsimp only
  split_ifs
  · exact ⟨s, .refl s, Or.inl rfl⟩
  · exact ⟨_, State.keepsPairs.foldl (fun s e => .releaseWord _ _ _ s e) _ s, Or.inr rfl⟩
  · exact ⟨_, State.keepsPairs.foldl (fun s e => .releaseWord _ _ _ s e) _ s, Or.inr rfl⟩
  · exact ⟨s, .refl s, Or.inl rfl⟩

theorem State.releasePair_keeps (s : State) (u l q : Nat) : s.keepsRoles (s.releasePair u l q) ∧
    ((s.releasePair u l q).pair u l).deltas = (s.pair u l).deltas ∧ ((s.releasePair u l q).pair u l).periods = (s.pair u l).periods := by
  obtain ⟨v, keeps, same | same⟩ := s.releasePair_releases u l q
  · rw [same, keeps.pair]
    exact ⟨.of_keepsPairs keeps, rfl, rfl⟩
  · rw [same, State.pair_setPair_same]
    exact ⟨(State.keepsRoles.of_keepsPairs keeps).trans (.setPair ..), rfl, rfl⟩

/-! ### What the hub does with the words that stand first -/

variable {a b : Post} {r0 r1 : List Post} {q : Nat} {ps : List Nat}

/-- The words that stand first, of the period the pair runs. -/
structure State.standFirst (s : State) (u l : Nat) (a b : Post) (r0 r1 : List Post) (q : Nat) (ps : List Nat) : Prop where
  takeover : s.red.takeover = none
  swap : s.red.swap = none
  migrate : s.red.migrate = none
  windward : (s.lane u l 0).posts = a :: r0
  leeward : (s.lane u l 1).posts = b :: r1
  periods : (s.pair u l).periods = q :: ps
  compared : (s.pair u l).withheld = false

theorem State.standFirst.takePost (h : s.standFirst u l a b r0 r1 q ps) (k : PostKind) : s.takePost u l k =
    (if a.kind ≠ k then s else if a = b then (s.popPosts u l).acceptPost u l q a else (s.popPosts u l).mismatch u l) := by
  unfold State.takePost
  rw [State.adopt_of_none h.takeover]
  dsimp only
  rw [h.windward, h.leeward, h.periods]
  dsimp only
  rw [h.compared, if_neg (by decide)]

/-- Words that differ are withheld. -/
theorem State.standFirst.mismatch (h : s.standFirst u l a b r0 r1 q ps) : ∃ t, (s.popPosts u l).mismatch u l = t ∧ (t.pair u l).withheld = true ∧
    (t.pair u l).outputs = (s.pair u l).outputs ∧ (t.lane u l 0).posts = r0 ∧ (t.lane u l 1).posts = r1 ∧
      ∃ m ∈ t.msgs, m.source = sourceNo K.LANE_MISMATCH (12 * u + l) := by
  obtain ⟨pop0, pop1⟩ := s.popPosts_pops u l
  have red := s.popPosts_red u l
  rw [h.windward] at pop0
  rw [h.leeward] at pop1
  unfold State.mismatch
  rw [if_neg (by rw [red, h.migrate]; exact Bool.false_ne_true)]
  dsimp only
  have pair : (s.popPosts u l).pair u l = s.pair u l := by rw [State.pair, red, State.pair]
  generalize s.popPosts u l = v at pop0 pop1 pair
  have held := v.pair_setPair_same u l { v.pair u l with withheld := true }
  have lanes : ∀ c, (v.setPair u l { v.pair u l with withheld := true }).lane u l c = v.lane u l c := fun c => rfl
  generalize v.setPair u l { v.pair u l with withheld := true } = w at held lanes ⊢
  have dropped : ∀ p : Bool, (if p then w.dropSets l else w).red = w.red ∧ (if p then w.dropSets l else w).lanes = w.lanes := fun p => by
    split
    · exact ⟨State.dropSets_red .., State.dropSets_lanes ..⟩
    · exact ⟨rfl, rfl⟩
  specialize dropped (v.live u l ((v.pair u l).periods.headD 0))
  generalize (if v.live u l ((v.pair u l).periods.headD 0) then w.dropSets l else w) = x at dropped ⊢
  have pairX : x.pair u l = { v.pair u l with withheld := true } := by rw [State.pair, dropped.1, ← State.pair, held]
  have laneX : ∀ c, x.lane u l c = v.lane u l c := fun c => by rw [State.lane, dropped.2, ← State.lane, lanes]
  refine ⟨_, rfl, ?_, ?_, ?_, ?_, _, List.mem_append_right _ (List.mem_singleton_self _), rfl⟩
  · exact congrArg PairSt.withheld pairX
  · exact (congrArg PairSt.outputs pairX).trans (show (v.pair u l).outputs = _ by rw [pair])
  · exact (congrArg Lane.posts (laneX 0)).trans pop0
  · exact (congrArg Lane.posts (laneX 1)).trans pop1


/-- The state in which a word of both copies is taken from their ports and enters the digest. -/
theorem State.standFirst.noted (h : s.standFirst u l a b r0 r1 q ps) (w : Post) : ∃ v, (s.popPosts u l).notePost u l q w = v ∧
    (v.lane u l 0).posts = r0 ∧ (v.lane u l 1).posts = r1 ∧ (s.popPosts u l).keepsRoles v ∧
      v.pair u l = { s.pair u l with digest := crc64 (s.pair u l).digest (postBytes w) } ∧ v.red.cairns = s.red.cairns := by
  obtain ⟨pop0, pop1⟩ := s.popPosts_pops u l
  rw [h.windward] at pop0
  rw [h.leeward] at pop1
  have notes := State.notePost_digests (s := s.popPosts u l) (u := u) (l := l) h.swap h.migrate q w
  refine ⟨_, notes, pop0, pop1, .setPair .., ?_, rfl⟩
  rw [State.pair_setPair_same]
  rfl

theorem State.deltaOverflow_keeps (s : State) (u l : Nat) : (s.deltaOverflow u l).red.pairs = s.red.pairs ∧ (s.deltaOverflow u l).lanes = s.lanes := by
  have built : s.abandonBuild.red = s.red ∧ s.abandonBuild.lanes = s.lanes := by
    unfold State.abandonBuild
    split <;> exact ⟨rfl, rfl⟩
  unfold State.deltaOverflow
  dsimp only
  generalize s.abandonBuild = b at built
  generalize eq : ({ b.raise K.DELTA_OVERFLOW (12 * u + l) with red := _ } : State) = v
  have red : v.red.pairs = s.red.pairs ∧ v.lanes = s.lanes := by
    rw [← eq, ← built.1]
    exact ⟨rfl, built.2⟩
  exact ⟨(State.keepsPairs.noteRedundancy v).pairs.trans red.1, (State.keepsPairs.noteRedundancy v).lanes.trans red.2⟩

theorem State.popPosts_roles (s : State) (u l : Nat) (q : Nat) : (s.popPosts u l).builds u l = s.builds u l ∧ (s.popPosts u l).posOfPair u l = s.posOfPair u l ∧
    (s.popPosts u l).cairnOf q = s.cairnOf q := ⟨rfl, rfl, rfl⟩

/-- An output word joins its pair's outputs. -/
theorem State.standFirst.output {port : Nat} {w : Word24} (h : s.standFirst u l a b r0 r1 q ps) :
    ∃ t, (s.popPosts u l).acceptPost u l q (.output port w) = t ∧ (t.pair u l).outputs = (s.pair u l).outputs ++ [(port, w)] ∧
      (t.pair u l).digest = crc64 (s.pair u l).digest (postBytes (.output port w)) ∧ (t.lane u l 0).posts = r0 ∧ (t.lane u l 1).posts = r1 ∧
      t.red.cairns = s.red.cairns := by
  obtain ⟨v, notes, lane0, lane1, -, pair, cairns⟩ := h.noted (.output port w)
  simp only [State.acceptPost]
  rw [notes]
  unfold State.acceptOutput
  dsimp only
  have joined := v.pair_setPair_same u l { v.pair u l with outputs := (v.pair u l).outputs ++ [(port, w)] }
  have lanes : (v.setPair u l { v.pair u l with outputs := (v.pair u l).outputs ++ [(port, w)] }).lanes = v.lanes := rfl
  have kept : (v.setPair u l { v.pair u l with outputs := (v.pair u l).outputs ++ [(port, w)] }).red.cairns = v.red.cairns := rfl
  generalize v.setPair u l { v.pair u l with outputs := (v.pair u l).outputs ++ [(port, w)] } = x at joined lanes kept ⊢
  have collected : ∀ y : State, y.red = x.red → y.lanes = x.lanes → (y.pair u l).outputs = (s.pair u l).outputs ++ [(port, w)] ∧
      (y.pair u l).digest = crc64 (s.pair u l).digest (postBytes (.output port w)) ∧ (y.lane u l 0).posts = r0 ∧ (y.lane u l 1).posts = r1 ∧
      y.red.cairns = s.red.cairns := fun y red lanes' => by
    have pairY : y.pair u l = x.pair u l := by rw [State.pair, red, State.pair]
    have laneY : ∀ c, y.lane u l c = v.lane u l c := fun c => by rw [State.lane, lanes', lanes, State.lane]
    rw [pairY, joined, pair, laneY, laneY, red, kept, cairns]
    exact ⟨rfl, rfl, lane0, lane1, rfl⟩
  refine ⟨_, rfl, ?_⟩
  split
  · split
    · exact collected _ (State.postCompare_red ..) (State.postCompare_lanes ..)
    · exact collected x rfl rfl
  · exact collected x rfl rfl

theorem State.mapCairn_maps {k : Nat} {c : CairnSt} (cairn : s.cairnOf q = some (k, c)) (f : CairnSt → CairnSt) : ∃ x ∈ (s.mapCairn q f).red.cairns, x.2 = f c := by
  have fits := List.find?_some cairn
  simp only [Bool.and_eq_true, beq_iff_eq] at fits
  exact ⟨(k, f c), List.mem_map.mpr ⟨(k, c), List.mem_of_find?_eq_some cairn, if_pos fits⟩, rfl⟩

/-- A delta word counts among the pair's, and enters the cairn the pair builds. -/
theorem State.standFirst.delta {e : DeltaEntry} (h : s.standFirst u l a b r0 r1 q ps) :
    ∃ t, (s.popPosts u l).acceptPost u l q (.delta e) = t ∧ (t.lane u l 0).posts = r0 ∧ (t.pair u l).deltas = (s.pair u l).deltas + 1 ∧
      ∀ k c, s.builds u l = true → s.cairnOf q = some (k, c) → c.entries.length < 3248 →
        ∃ x ∈ t.red.cairns, x.2 = { c with entries := c.entries ++ [⟨l, (s.posOfPair u l).getD 0, e⟩] } := by
  obtain ⟨v, notes, lane0, -, roles, pair, -⟩ := h.noted (.delta e)
  obtain ⟨builds, pos, cairn⟩ := s.popPosts_roles u l q
  simp only [State.acceptPost]
  rw [notes]
  unfold State.acceptDelta
  dsimp only
  have mirrored := State.keepsPairs.mirrorTo (q - 2) 4 v
  obtain ⟨released, deltas, -⟩ := (v.mirrorTo (q - 2) 4).releasePair_keeps u l q
  have all := roles.trans ((State.keepsRoles.of_keepsPairs mirrored).trans released)
  have rolesV := (State.keepsRoles.of_keepsPairs mirrored).trans released
  rw [mirrored.pair, pair] at deltas
  generalize (v.mirrorTo (q - 2) 4).releasePair u l q = x at deltas all rolesV ⊢
  have posts : (x.lane u l 0).posts = r0 := by rw [rolesV.lane, lane0]
  rw [all.builds, builds, all.cairnOf, cairn, all.posOfPair, pos]
  have counted := x.pair_setPair_same u l { x.pair u l with deltas := (x.pair u l).deltas + 1, lastDelta := x.now }
  have kept : (x.setPair u l { x.pair u l with deltas := (x.pair u l).deltas + 1, lastDelta := x.now }).red.cairns = x.red.cairns := rfl
  have lanes : (x.setPair u l { x.pair u l with deltas := (x.pair u l).deltas + 1, lastDelta := x.now }).lanes = x.lanes := rfl
  generalize x.setPair u l { x.pair u l with deltas := (x.pair u l).deltas + 1, lastDelta := x.now } = y at counted kept lanes ⊢
  have same : ∀ z : State, z.red.pairs = y.red.pairs → z.lanes = y.lanes → (z.lane u l 0).posts = r0 ∧ (z.pair u l).deltas = (s.pair u l).deltas + 1 :=
    fun z pairs lanes' => by
      rw [State.pair, pairs, ← State.pair, counted, State.lane, lanes', lanes, ← State.lane, posts]
      exact ⟨rfl, congrArg (· + 1) deltas⟩
  refine ⟨_, rfl, ?_⟩
  cases counts : s.builds u l
  · rw [Bool.not_false, if_pos rfl]
    exact ⟨(same y rfl rfl).1, (same y rfl rfl).2, fun k c no => absurd no (by decide)⟩
  · rw [Bool.not_true, if_neg (by decide)]
    cases open_ : s.cairnOf q with
    | none => exact ⟨(same y rfl rfl).1, (same y rfl rfl).2, fun k c _ no => absurd no (by simp)⟩
    | some kc =>
      obtain ⟨k, c⟩ := kc
      dsimp only
      split
      next full =>
        have over_ := y.deltaOverflow_keeps u l
        refine ⟨(same _ over_.1 over_.2).1, (same _ over_.1 over_.2).2, fun k' c' _ here room => ?_⟩
        obtain ⟨-, rfl⟩ := Prod.mk.inj (Option.some.inj here)
        omega
      next room =>
        refine ⟨(same _ rfl rfl).1, (same _ rfl rfl).2, fun k' c' _ here _ => ?_⟩
        obtain ⟨-, rfl⟩ := Prod.mk.inj (Option.some.inj here)
        have openY : y.cairnOf q = some (k, c) := by rw [State.cairnOf, kept, ← State.cairnOf, all.cairnOf, cairn, open_]
        exact State.mapCairn_maps openY _


end


/-! ### End markers -/

/-- `t` has what `s` says of the end of a pair's period: its number, those that wait, and the slack. -/
structure State.keepsEnd (s t : State) (u l : Nat) : Prop where
  done : (t.pair u l).done = (s.pair u l).done
  periods : (t.pair u l).periods = (s.pair u l).periods
  swap : t.red.swap = s.red.swap
  migrate : t.red.migrate = s.red.migrate
  slack : ∀ e < 256, t.obj .sysSlack 0 e = s.obj .sysSlack 0 e

namespace State.keepsEnd

variable {s t v : State} {u l : Nat}

theorem refl (s : State) : s.keepsEnd s u l := ⟨rfl, rfl, rfl, rfl, fun _ _ => rfl⟩

theorem trans (h : s.keepsEnd t u l) (h' : t.keepsEnd v u l) : s.keepsEnd v u l :=
  ⟨h'.done.trans h.done, h'.periods.trans h.periods, h'.swap.trans h.swap, h'.migrate.trans h.migrate, fun e he => (h'.slack e he).trans (h.slack e he)⟩

theorem of_keepsPairs (h : s.keepsPairs t) : s.keepsEnd t u l :=
  ⟨by rw [h.pair], by rw [h.pair], h.swap, h.migrate, h.slack⟩

theorem setPair (s : State) (p : PairSt) (done : p.done = (s.pair u l).done) (periods : p.periods = (s.pair u l).periods) : s.keepsEnd (s.setPair u l p) u l :=
  ⟨by rw [State.pair_setPair_same, done], by rw [State.pair_setPair_same, periods], rfl, rfl, fun _ _ => rfl⟩

theorem of_red (red : t.red = s.red) (slack : ∀ e < 256, t.obj .sysSlack 0 e = s.obj .sysSlack 0 e) : s.keepsEnd t u l :=
  ⟨by rw [State.pair, red, State.pair], by rw [State.pair, red, State.pair], by rw [red], by rw [red], slack⟩

theorem openCairn (s : State) (q : Nat) : s.keepsEnd (s.openCairn u q) u l := by
  have mirrored : s.keepsEnd (s.mirrorTo (q - 4) 4) u l := of_keepsPairs (.mirrorTo _ _ s)
  unfold State.openCairn
  dsimp only
  generalize s.mirrorTo (q - 4) 4 = v at mirrored
  split
  · exact mirrored
  · split
    · exact mirrored
    · exact mirrored.trans ⟨rfl, rfl, rfl, rfl, fun _ _ => rfl⟩

theorem startPeriod (s : State) (q : Nat) : s.keepsEnd (s.startPeriod u l q) u l := by
  have opened : s.keepsEnd (if s.builds u l then s.openCairn u q else s) u l := by
    split
    · exact openCairn s q
    · exact refl s
  unfold State.startPeriod
  dsimp only
  generalize (if s.builds u l then s.openCairn u q else s) = v at opened
  split
  · exact opened.trans ⟨by rw [State.pair_setPair_same], by rw [State.pair_setPair_same], rfl, rfl, fun _ _ => rfl⟩
  · exact opened

theorem dispatchNext (s : State) : s.keepsEnd (s.dispatchNext u l) u l := by
  unfold State.dispatchNext
  dsimp only
  split
  · exact refl s
  · split
    · exact refl s
    · exact startPeriod ..

/-- The period of a pair ends: the next that waits stands first. -/
theorem endPeriod (s : State) (q : Nat) : (s.setPair u l { s.pair u l with periods := (s.pair u l).periods.tail, busy := false, done := q }).keepsEnd
    (s.endPeriod u l q) u l := by
  unfold State.endPeriod
  dsimp only
  generalize s.setPair u l { s.pair u l with periods := (s.pair u l).periods.tail, busy := false, done := q } = v
  have next := dispatchNext (u := u) (l := l) v
  generalize v.dispatchNext u l = x at next
  split
  · have set_ := setPair (u := u) (l := l) x { x.pair u l with behind := false } rfl rfl
    generalize x.setPair u l { x.pair u l with behind := false } = y at set_ ⊢
    exact next.trans (set_.trans (of_red rfl fun _ _ => rfl))
  · exact next

theorem endMarkSets (s : State) (poster : Nat) : s.keepsEnd (s.endMarkSets poster) u l :=
  of_red (State.endMarkSets_red ..) fun e he => by
    rw [State.obj_eq_lowObjs _ (n := 20) (by decide) (by decide) (by omega), State.obj_eq_lowObjs s (n := 20) (by decide) (by decide) (by omega),
      State.endMarkSets_low20]

theorem compareTraces (swap : s.red.swap = none) (migrate : s.red.migrate = none) (pos q : Nat) : s.compareTraces pos q = s := by
  unfold State.compareTraces
  rw [swap, migrate]

end State.keepsEnd

section
variable {s : State} {u l : Nat}

theorem State.setPair_roles (s : State) (u l : Nat) (p : PairSt) : (s.setPair u l p).red.swap = s.red.swap ∧ (s.setPair u l p).red.migrate = s.red.migrate :=
  ⟨rfl, rfl⟩

/-- SYS.SLACK of a pair's completed period. -/
def State.slackShown (s : State) (e busy slack least instr : Nat) : State :=
  (((s.setFld F.SYS_SLACK_BUSY busy 0 e).setFld F.SYS_SLACK_SLACK slack 0 e).setFld F.SYS_SLACK_MINSLACK least 0 e).setFld F.SYS_SLACK_INSTR instr 0 e

theorem State.slackShown_shows (s : State) (e busy slack least instr : Nat) :
    (s.slackShown e busy slack least instr).fld F.SYS_SLACK_INSTR 0 e = instr % 2 ^ 32 ∧ (s.slackShown e busy slack least instr).red = s.red := by
  unfold State.slackShown
  refine ⟨State.fld_setFld_same .., ?_⟩
  rw [State.setFld_red, State.setFld_red, State.setFld_red, State.setFld_red]

theorem State.noteSlack_eq (s : State) (u l q instr deltas : Nat) : ∃ busy slack least : Nat, ∃ sum : Int, s.noteSlack u l q instr deltas =
    (if u = s.activeUnit then (s.slackShown (12 * u + l) busy slack least instr).setPair u l { s.pair u l with
        sumWork := (s.pair u l).sumWork + instr + deltas + 1, sumBusy := (s.pair u l).sumBusy + busy, leastSlack := min (s.pair u l).leastSlack sum }
      else s.slackShown (12 * u + l) busy slack least instr) := ⟨_, _, _, _, rfl⟩

/-- The slack of a completed period shows the instructions retired. -/
theorem State.noteSlack_notes (s : State) (u l q instr deltas : Nat) :
    (s.noteSlack u l q instr deltas).fld F.SYS_SLACK_INSTR 0 (12 * u + l) = instr % 2 ^ 32 ∧
      ((s.noteSlack u l q instr deltas).pair u l).periods = (s.pair u l).periods ∧ (s.noteSlack u l q instr deltas).red.swap = s.red.swap ∧
      (s.noteSlack u l q instr deltas).red.migrate = s.red.migrate := by
  obtain ⟨busy, slack, least, sum, notes⟩ := s.noteSlack_eq u l q instr deltas
  obtain ⟨shown, red⟩ := s.slackShown_shows (12 * u + l) busy slack least instr
  generalize s.slackShown (12 * u + l) busy slack least instr = x at notes shown red
  generalize s.noteSlack u l q instr deltas = y at notes ⊢
  by_cases active : u = s.activeUnit
  · rw [if_pos active] at notes
    have pair : y.pair u l = _ := (congrArg (State.pair · u l) notes).trans (x.pair_setPair_same ..)
    have objs : y.objs = x.objs := (congrArg State.objs notes).trans (State.setPair_objs ..)
    have roles : y.red.swap = x.red.swap ∧ y.red.migrate = x.red.migrate := 
      ⟨(congrArg (·.red.swap) notes).trans (x.setPair_roles ..).1, (congrArg (·.red.migrate) notes).trans (x.setPair_roles ..).2⟩
    refine ⟨?_, by rw [pair], by rw [roles.1, red], by rw [roles.2, red]⟩
    rw [State.fld, State.obj, objs, ← State.obj, ← State.fld, shown]
  · rw [if_neg active] at notes
    subst notes
    exact ⟨shown, by rw [State.pair, red, State.pair], by rw [red], by rw [red]⟩

theorem State.noteLane_eq (s : State) (u l q instr deltas : Nat) (sflag : Bool) : ∃ beyond : Bool, s.noteLane u l q instr deltas sflag =
    (let v := ((s.setFld F.ENG_LANE_DELTAS deltas (12 * u + l)).setFld F.ENG_LANE_SFLAG sflag.toNat (12 * u + l)).setFld F.ENG_LANE_OVR beyond.toNat
        (12 * u + l)
      if beyond then v.raise K.TASK_OVERRUN (12 * u + l) else v) := ⟨_, rfl⟩

theorem State.noteLane_keeps (hu : u < 2) (hl : l < 12) (s : State) (q instr deltas : Nat) (sflag : Bool) :
    s.keepsEnd (s.noteLane u l q instr deltas sflag) u l := by
  have set_ : ∀ (f : Fld) (x : Nat) (v : State), f.obj = .engLane → v.keepsEnd (v.setFld f x (12 * u + l)) u l := fun f x v obj =>
    .of_red rfl fun e he => v.setFld_sameObjs_at f x (by omega) (by decide) .sysSlack 0 e (by rw [obj]; decide) (by decide) (by omega)
  obtain ⟨beyond, notes⟩ := s.noteLane_eq u l q instr deltas sflag
  have all := (set_ F.ENG_LANE_DELTAS deltas s rfl).trans ((set_ F.ENG_LANE_SFLAG sflag.toNat _ rfl).trans (set_ F.ENG_LANE_OVR beyond.toNat _ rfl))
  rw [notes]
  generalize ((s.setFld F.ENG_LANE_DELTAS deltas (12 * u + l)).setFld F.ENG_LANE_SFLAG sflag.toNat (12 * u + l)).setFld F.ENG_LANE_OVR beyond.toNat
    (12 * u + l) = v at all
  split
  · exact all.trans (.of_red rfl fun _ _ => rfl)
  · exact all


end


section
variable {s : State} {u l : Nat} {a b : Post} {r0 r1 : List Post} {q : Nat} {ps : List Nat}

theorem State.keepsEnd.mapCairn (s : State) (q : Nat) (f : CairnSt → CairnSt) : s.keepsEnd (s.mapCairn q f) u l :=
  ⟨rfl, rfl, rfl, rfl, fun _ _ => rfl⟩

/-- An end marker ends the period that the pair runs, and shows its instructions. -/
theorem State.acceptEnd_ends (hu : u < 2) (hl : l < 12) (s : State) (swap : s.red.swap = none) (migrate : s.red.migrate = none)
    (periods : (s.pair u l).periods = q :: ps) (n d : Nat) (f : Bool) : ((s.acceptEnd u l q n f d).pair u l).done = q ∧
      ((s.acceptEnd u l q n f d).pair u l).periods = ps ∧ (s.acceptEnd u l q n f d).fld F.SYS_SLACK_INSTR 0 (12 * u + l) = n % 2 ^ 32 := by
  obtain ⟨roles, -, waits⟩ := s.releasePair_keeps u l q
  rw [periods] at waits
  have noSwap : (s.releasePair u l q).red.swap = none := roles.swap.trans swap
  have noMigrate : (s.releasePair u l q).red.migrate = none := roles.migrate.trans migrate
  unfold State.acceptEnd
  dsimp only
  generalize s.releasePair u l q = r at waits noSwap noMigrate
  have stamped : r.keepsEnd (r.setPair u l { r.pair u l with lastDelta := r.now }) u l := .setPair r _ rfl rfl
  generalize r.setPair u l { r.pair u l with lastDelta := r.now } = v at stamped ⊢
  obtain ⟨shown, same, swap', migrate'⟩ := v.noteSlack_notes u l q n d
  have lane := State.noteLane_keeps hu hl (v.noteSlack u l q n d) q n d f
  generalize v.noteSlack u l q n d = w at shown same swap' migrate' lane
  generalize w.noteLane u l q n d f = x at lane ⊢
  have listed : ∀ g : CairnSt → CairnSt, x.keepsEnd (if x.builds u l && !(x.pair u l).withheld then x.mapCairn q g else x) u l := fun g => by
    split
    · exact .mapCairn ..
    · exact .refl x
  specialize listed fun c => { c with lanes := c.lanes ++ [{ lane := l, pos := (x.posOfPair u l).getD 0, sflag := f
                                                             count := (c.entries.filter (·.lane == l)).length
                                                             digest := if (x.tasksAt ((x.posOfPair u l).getD 0)).isEmpty then 0 else (x.pair u l).digest }] }
  generalize (if x.builds u l && !(x.pair u l).withheld then _ else x) = y at listed ⊢
  have toY := lane.trans listed
  have endsY : (y.setPair u l { y.pair u l with periods := (y.pair u l).periods.tail, busy := false, done := q }).keepsEnd (y.endPeriod u l q) u l :=
    State.keepsEnd.endPeriod y q
  have done : ((y.endPeriod u l q).pair u l).done = q := by rw [endsY.done, State.pair_setPair_same]
  have rest : ((y.endPeriod u l q).pair u l).periods = ps := by
    rw [endsY.periods, State.pair_setPair_same, toY.periods, same, stamped.periods, waits]
    rfl
  have ended : w.red.swap = none ∧ w.red.migrate = none :=
    ⟨swap'.trans (stamped.swap.trans noSwap), migrate'.trans (stamped.migrate.trans noMigrate)⟩
  have still : (y.endPeriod u l q).red.swap = none ∧ (y.endPeriod u l q).red.migrate = none :=
    ⟨endsY.swap.trans ((y.setPair_roles ..).1.trans (toY.swap.trans ended.1)), endsY.migrate.trans ((y.setPair_roles ..).2.trans (toY.migrate.trans ended.2))⟩
  have slack : ∀ e < 256, (y.endPeriod u l q).obj .sysSlack 0 e = w.obj .sysSlack 0 e := fun e he => by
    rw [endsY.slack e he, State.obj, State.setPair_objs, ← State.obj, toY.slack e he]
  generalize y.endPeriod u l q = z at done rest still slack ⊢
  have marked : z.keepsEnd (if v.countsFor u l q && !(v.pair u l).late then z.endMarkSets l else z) u l := by
    split
    · exact .endMarkSets ..
    · exact .refl z
  generalize (if v.countsFor u l q && !(v.pair u l).late then z.endMarkSets l else z) = m at marked ⊢
  rw [State.keepsEnd.compareTraces (marked.swap.trans still.1) (marked.migrate.trans still.2)]
  exact ⟨marked.done.trans done, marked.periods.trans rest, by
    have kept : m.obj F.SYS_SLACK_INSTR.obj 0 (12 * u + l) = w.obj F.SYS_SLACK_INSTR.obj 0 (12 * u + l) :=
      (marked.slack _ (by omega)).trans (slack _ (by omega))
    rw [State.fld, kept, ← State.fld, shown]⟩

theorem State.standFirst.endMark {n d : Nat} {f : Bool} (hu : u < 2) (hl : l < 12) (h : s.standFirst u l a b r0 r1 q ps) :
    ∃ t, (s.popPosts u l).acceptPost u l q (.endMark n f d) = t ∧ (t.pair u l).done = q ∧ (t.pair u l).periods = ps ∧
      t.fld F.SYS_SLACK_INSTR 0 (12 * u + l) = n % 2 ^ 32 := by
  obtain ⟨v, notes, -, -, roles, pair, -⟩ := h.noted (.endMark n f d)
  simp only [State.acceptPost]
  rw [notes]
  exact ⟨_, rfl, v.acceptEnd_ends hu hl (roles.swap.trans h.swap) (roles.migrate.trans h.migrate) (by rw [pair]; exact h.periods) n d f⟩

theorem State.badCompare_of_ne (h : s.standFirst u l a b r0 r1 q ps) (differ : a ≠ b ∨ a.kind ≠ .output) : s.badCompare u l = false := by
  unfold State.badCompare
  rw [h.windward, h.leeward, h.periods]
  cases a with
  | output port w =>
    have ne : (Post.output port w == b) = false := beq_eq_false_iff_ne.mpr (differ.resolve_right fun no => no rfl)
    simp only [ne, Bool.false_and]
  | delta e => rfl
  | endMark n f d => rfl

end

theorem exec_outputWord (u : Fin 2) (l : Fin 12) (s : State) : exec (.outputWord u l) s =
    (if s.badCompare u.val l.val then .fault .compareCoarse else .next (s.takePost u.val l.val .output)) := rfl
theorem exec_deltaWord (u : Fin 2) (l : Fin 12) (s : State) : exec (.deltaWord u l) s = .next (s.takePost u.val l.val .delta) := rfl
theorem exec_endMarker (u : Fin 2) (l : Fin 12) (s : State) : exec (.endMarker u l) s = .next (s.takePost u.val l.val .endMark) := rfl

/-- Settles O49. -/
theorem pairWordsCompared : Obligations.PairWordsCompared := by
  unfold Obligations.PairWordsCompared
  intro u l s a b r0 r1 q ps takeover swap migrate windward leeward periods compared run
  have h : s.standFirst u.val l.val a b r0 r1 q ps := ⟨takeover, swap, migrate, windward, leeward, periods, compared⟩
  have runs : ∀ k, a ≠ b ∨ a.kind ≠ .output ∨ k ≠ .output → run k = .next (s.takePost u.val l.val k) := fun k other => by
    cases k with
    | output =>
      have fine : s.badCompare u.val l.val = false := State.badCompare_of_ne h (by
        rcases other with ne | ne | ne
        · exact Or.inl ne
        · exact Or.inr ne
        · exact absurd rfl ne)
      exact (exec_outputWord u l s).trans (by rw [fine]; rfl)
    | delta => exact exec_deltaWord u l s
    | endMark => exact exec_endMarker u l s
  refine ⟨fun k other => ?_, fun differ => ?_, fun same port w out => ⟨fun bad => ?_, fun fine => ?_⟩, fun same e delta => ?_, fun same n f d mark => ?_⟩
  · have kinds : a.kind ≠ .output ∨ k ≠ .output := by
      by_cases out : a.kind = .output
      · exact Or.inr fun k_ => other (out.trans k_.symm)
      · exact Or.inl out
    rw [runs k (Or.inr kinds), h.takePost, if_pos other]
  · rw [runs a.kind (Or.inl differ), h.takePost, if_neg (fun no => no rfl), if_neg differ]
    obtain ⟨t, taken, shows⟩ := h.mismatch
    exact ⟨t, by rw [taken], shows⟩
  · rw [exec_outputWord, if_pos bad]
  · obtain ⟨t, taken, shows⟩ := h.output (port := port) (w := w)
    refine ⟨t, ?_, by rw [out]; exact shows⟩
    rw [exec_outputWord, fine, if_neg (by decide), h.takePost, if_neg (by rw [out]; exact fun no => no rfl), if_pos same, out, taken]
  · obtain ⟨t, taken, shows⟩ := h.delta (e := e)
    refine ⟨t, ?_, shows⟩
    rw [exec_deltaWord, h.takePost, if_neg (by rw [delta]; exact fun no => no rfl), if_pos same, delta, taken]
  · obtain ⟨t, taken, shows⟩ := h.endMark (n := n) (d := d) (f := f) u.isLt l.isLt
    refine ⟨t, ?_, shows⟩
    rw [exec_endMarker, h.takePost, if_neg (by rw [mark]; exact fun no => no rfl), if_pos same, mark, taken]


end Sys2Proof.Machine
end

section
/-! Restoration, evaluation windows, full-cairn reads and scrubbed rows (R342, R343, R352, R357, R404). -/

set_option Elab.async false

namespace Sys2Proof.Machine

/-- `t` has the takeover, the planned swap and the migration of `s`. -/
structure State.keepsMoves (s t : State) : Prop where
  takeover : t.red.takeover = s.red.takeover
  swap : t.red.swap = s.red.swap
  migrate : t.red.migrate = s.red.migrate

namespace State.keepsMoves

variable {s t v : State}

theorem refl (s : State) : s.keepsMoves s := ⟨rfl, rfl, rfl⟩

theorem trans (h : s.keepsMoves t) (h' : t.keepsMoves v) : s.keepsMoves v :=
  ⟨h'.takeover.trans h.takeover, h'.swap.trans h.swap, h'.migrate.trans h.migrate⟩

theorem of_keepsPairs (h : s.keepsPairs t) : s.keepsMoves t := ⟨h.takeover, h.swap, h.migrate⟩

theorem setPair (s : State) (u l : Nat) (p : PairSt) : s.keepsMoves (s.setPair u l p) := ⟨rfl, rfl, rfl⟩

theorem openCairn (s : State) (u q : Nat) : s.keepsMoves (s.openCairn u q) := by
  have mirrored : s.keepsMoves (s.mirrorTo (q - 4) 4) := of_keepsPairs (.mirrorTo _ _ s)
  unfold State.openCairn
  dsimp only
  generalize s.mirrorTo (q - 4) 4 = v at mirrored
  split
  · exact mirrored
  · split
    · exact mirrored
    · exact mirrored.trans ⟨rfl, rfl, rfl⟩

theorem startPeriod (s : State) (u l q : Nat) : s.keepsMoves (s.startPeriod u l q) := by
  have opened : s.keepsMoves (if s.builds u l then s.openCairn u q else s) := by
    split
    · exact openCairn s u q
    · exact refl s
  unfold State.startPeriod
  dsimp only
  generalize (if s.builds u l then s.openCairn u q else s) = v at opened
  split
  · exact opened.trans ⟨rfl, rfl, rfl⟩
  · exact opened

theorem dispatchNext (s : State) (u l : Nat) : s.keepsMoves (s.dispatchNext u l) := by
  unfold State.dispatchNext
  dsimp only
  split
  · exact refl s
  · split
    · exact refl s
    · exact startPeriod ..

theorem restorePair (s : State) (u l pos : Nat) : s.keepsMoves (s.restorePair u l pos) := by
  unfold State.restorePair
  dsimp only
  have copied : s.keepsMoves ((s.restoreCopy u l pos 0).restoreCopy u l pos 1) := ⟨rfl, rfl, rfl⟩
  generalize (s.restoreCopy u l pos 0).restoreCopy u l pos 1 = v at copied
  exact (copied.trans (setPair v u l _)).trans (dispatchNext _ u l)

theorem restoreUnit (s : State) (u : Nat) : s.keepsMoves (s.restoreUnit u) := by
  unfold State.restoreUnit State.forRange
  generalize List.range 10 = ps
  induction ps generalizing s with
  | nil => exact refl s
  | cons p ps ih =>
    rw [List.foldl_cons]
    refine trans ?_ (ih _)
    split
    · exact restorePair ..
    · exact refl s

end State.keepsMoves

section
variable {s : State}

theorem State.restorationDone_none (takeover : s.red.takeover = none) (swap : s.red.swap = none) (migrate : s.red.migrate = none) : s.restorationDone = s := by
  simp only [State.restorationDone, takeover, swap, migrate]

theorem State.restorationDone_takeover {k : TakeoverSt} (takeover : s.red.takeover = some k) (first : k.restored = false)
    (free : s.fenced (.unit k.incoming) = false) (whole : s.unitLost k.incoming = false) : s.restorationDone.red.takeover =
      some { k with restored := true, lastSealed := s.red.sealedCount, sealedSeq := s.red.sealedSeq } := by
  simp only [State.restorationDone, takeover, first, free, whole, Bool.or_false, Bool.false_eq_true, if_false]
  exact (State.keepsMoves.restoreUnit _ k.incoming).takeover

theorem State.restorationDone_lost {k : TakeoverSt} (takeover : s.red.takeover = some k) (first : k.restored = false)
    (free : s.fenced (.unit k.incoming) = false) (lost : s.unitLost k.incoming = true) : s.restorationDone = s.wakeFails k.incoming := by
  simp only [State.restorationDone, takeover, first, free, lost, Bool.or_false, Bool.false_eq_true, if_false, if_true]

theorem State.restorationDone_swap {w : SwapSt} (takeover : s.red.takeover = none) (swap : s.red.swap = some w) (first : w.restored = false)
    (free : s.fenced (.unit w.incoming) = false) (whole : s.unitLost w.incoming = false) : s.restorationDone.red.swap = some { w with restored := true } := by
  simp only [State.restorationDone, takeover, swap, first, free, whole, Bool.or_false, Bool.false_eq_true, if_false]
  exact (State.keepsMoves.restoreUnit _ w.incoming).swap

theorem State.restorationDone_migrate {m : MigrateSt} (takeover : s.red.takeover = none) (swap : s.red.swap = none) (migrate : s.red.migrate = some m)
    (first : m.restored = false) (free : s.fenced (.lane m.unit m.spare) = false) : s.restorationDone.red.migrate = some { m with restored := true } := by
  simp only [State.restorationDone, takeover, swap, migrate, first, free, Bool.or_false, Bool.false_eq_true, if_false]
  exact (State.keepsMoves.restorePair _ m.unit m.spare m.pos).migrate

theorem State.fenceUnit_msgs (s : State) (u : Nat) : (s.fenceUnit u).msgs = s.msgs := by
  have fence : (s.setFence (.unit u) true).msgs = s.msgs := State.setBit_msgs ..
  unfold State.fenceUnit
  generalize s.setFence (.unit u) true = v at fence
  unfold State.forRange
  rw [← fence, foldl_msgs]
  intro t l _
  simp only [State.setLane_msgs, State.setPair_msgs]

/-- A wake-up that fails fences its unit, and says so. -/
theorem State.wakeFails_fences (s : State) {u : Nat} (hu : u < 2) : (s.wakeFails u).fenced (.unit u) = true ∧
    ∃ m ∈ (s.wakeFails u).msgs, m.source = sourceNo K.UNIT_READBACK u := by
  have objs := (s.raise K.UNIT_READBACK u u 1).fenceUnit_objs u
  have msgs : (s.wakeFails u).msgs = (s.raise K.UNIT_READBACK u u 1).msgs := State.fenceUnit_msgs ..
  have raised : ({ source := sourceNo K.UNIT_READBACK u, data := u, dlen := 1, stamp := s.now } : Msg) ∈ (s.wakeFails u).msgs := by
    rw [msgs]
    exact List.mem_append_right _ (List.mem_singleton_self _)
  refine ⟨?_, _, raised, rfl⟩
  unfold State.wakeFails
  generalize s.raise K.UNIT_READBACK u u 1 = v at objs ⊢
  have fenced : (v.setFence (.unit u) true).fenced (.unit u) = true := by
    obtain rfl | rfl : u = 0 ∨ u = 1 := by omega
    · exact v.bit_setBit_same F.SYS_FENCE_UNIT_A true 0 0 rfl
    · exact v.bit_setBit_same F.SYS_FENCE_UNIT_B true 0 0 rfl
  have same : (v.fenceUnit u).fenced (.unit u) = (v.setFence (.unit u) true).fenced (.unit u) :=
    State.fenced_of_same (SameObjs.of_objs objs []) (by simp) _
  exact same.trans fenced

/-! ### Full-cairn reads (R404) -/

theorem State.noteRedundancy_surv (s : State) : s.noteRedundancy.surv = s.surv := by
  have shown : (s.setBit F.SYS_MODE_REDUNDANT s.redundant).surv = s.surv := State.setBit_surv ..
  unfold State.noteRedundancy
  dsimp only
  generalize s.setBit F.SYS_MODE_REDUNDANT s.redundant = v at shown
  split_ifs <;> exact shown

theorem State.abandonBuild_none (s : State) : s.abandonBuild.surv.build = none := by
  unfold State.abandonBuild
  split
  · assumption
  · rfl

theorem State.sealBuild_build (s : State) : s.sealBuild.surv.build = s.surv.build ∨ s.sealBuild.surv.build = none := by
  unfold State.sealBuild
  split
  · exact Or.inl rfl
  · dsimp only
    split
    · split
      · exact Or.inl rfl
      · rw [State.noteRedundancy_surv]
        exact Or.inr rfl
    · exact Or.inl rfl

theorem State.readFull_none {pos : Nat} (none_ : s.surv.build = none) : s.readFull pos = s := by simp only [State.readFull, none_]

/-- A position whose turn has come is read. -/
theorem State.readFull_reads {pos : Nat} {bd : FcBuild} (build : s.surv.build = some bd) (here : s.laneOf s.activeUnit pos < 12)
    (tasks : s.tasksAt pos ≠ []) (idle : (s.pair s.activeUnit (s.laneOf s.activeUnit pos)).periods = [])
    (done : s.per.count ≤ (s.pair s.activeUnit (s.laneOf s.activeUnit pos)).done) (unread : bd.read.any (·.pos == pos) = false)
    (time : s.now + 200 + (4 * (s.xTop pos + s.yTop pos) + 4) / 5 < s.per.next) : s.readFull pos =
      (let w := s.lane s.activeUnit (s.laneOf s.activeUnit pos) 0
        let v := s.lane s.activeUnit (s.laneOf s.activeUnit pos) 1
        if ((List.range (s.xTop pos)).all fun i => w.x.get i 0 == v.x.get i 0) && (List.range (s.yTop pos)).all fun i => w.y.get i 0 == v.y.get i 0 then
          ({ s with surv := { s.surv with build := some { bd with read := bd.read ++ ([⟨pos, s.per.count, w.x, w.y⟩] : List FcPos) } } } : State).sealBuild
        else (s.abandonBuild).raise K.LANE_MISMATCH (12 * s.activeUnit + s.laneOf s.activeUnit pos)
          (s.activeUnit + s.laneOf s.activeUnit pos * 2 ^ 8) 1 1) := by
  have skips : ¬(12 ≤ s.laneOf s.activeUnit pos ∨ (s.tasksAt pos).isEmpty = true ∨
      (!(s.pair s.activeUnit (s.laneOf s.activeUnit pos)).periods.isEmpty) = true ∨
      (s.pair s.activeUnit (s.laneOf s.activeUnit pos)).done < s.per.count ∨ bd.read.any (·.pos == pos) = true ∨
      s.per.next ≤ s.now + 200 + (4 * (s.xTop pos + s.yTop pos) + 4) / 5) := by
    simp only [idle, unread, List.isEmpty_iff, tasks, List.isEmpty_nil, Bool.not_true, Bool.false_eq_true, false_or, not_or]
    omega
  unfold State.readFull
  simp only [build]
  rw [if_neg skips]

/-! ### Evaluation windows (R352) -/

theorem State.pair_setPair_ne (s : State) {u l u' l' : Nat} (p : PairSt) (ne : 12 * u' + l' ≠ 12 * u + l) : (s.setPair u l p).pair u' l' = s.pair u' l' :=
  SMap.get_set_ne ne

/-- One lane pair's criteria set its ratio, and no other's. -/
theorem State.evalLane_sets (s : State) (l ratio : Nat) : ((s.evalLane l ratio).pair s.activeUnit l).ratio = ratio ∧
    (∀ k, k ≠ l → (s.evalLane l ratio).pair s.activeUnit k = s.pair s.activeUnit k) ∧ (s.evalLane l ratio).activeUnit = s.activeUnit ∧
      (s.evalLane l ratio).per = s.per := by
  have shows : ∃ p : PairSt, ∃ m : Msg, ∃ ages : Prop, ∃ _ : Decidable ages, p.ratio = ratio ∧
      s.evalLane l ratio = (if ages then (s.setPair s.activeUnit l p).send m else s.setPair s.activeUnit l p) := ⟨_, _, _, _, rfl, rfl⟩
  obtain ⟨p, m, ages, _, ratio_, made⟩ := shows
  have same : (s.setPair s.activeUnit l p).pair s.activeUnit l = p := s.pair_setPair_same ..
  have other : ∀ k, k ≠ l → (s.setPair s.activeUnit l p).pair s.activeUnit k = s.pair s.activeUnit k := fun k ne => s.pair_setPair_ne p (by omega)
  rw [made]
  split
  · exact ⟨(congrArg PairSt.ratio same).trans ratio_, other, rfl, rfl⟩
  · rw [same]
    exact ⟨ratio_, other, rfl, rfl⟩

theorem State.evalLanes_set (ls : List Nat) (nodup : ls.Nodup) (ratio : Nat → Nat) (s : State) :
    (∀ l ∈ ls, (((ls.map fun l => (l, ratio l)).foldl (fun s e => s.evalLane e.1 e.2) s).pair s.activeUnit l).ratio = ratio l) ∧
      (∀ k, k ∉ ls → ((ls.map fun l => (l, ratio l)).foldl (fun s e => s.evalLane e.1 e.2) s).pair s.activeUnit k = s.pair s.activeUnit k) ∧
      ((ls.map fun l => (l, ratio l)).foldl (fun s e => s.evalLane e.1 e.2) s).activeUnit = s.activeUnit ∧
      ((ls.map fun l => (l, ratio l)).foldl (fun s e => s.evalLane e.1 e.2) s).per = s.per := by
  induction ls generalizing s with
  | nil => exact ⟨fun l mem => absurd mem List.not_mem_nil, fun k _ => rfl, rfl, rfl⟩
  | cons l ls ih =>
    obtain ⟨fresh, rest⟩ := List.nodup_cons.mp nodup
    obtain ⟨set_, others, active, per⟩ := s.evalLane_sets l (ratio l)
    obtain ⟨sets, keeps, active', per'⟩ := ih rest (s.evalLane l (ratio l))
    rw [active] at sets keeps active'
    rw [List.map_cons, List.foldl_cons]
    refine ⟨fun k mem => ?_, fun k out => ?_, active', per'.trans per⟩
    · rcases List.mem_cons.mp mem with rfl | later
      · rw [keeps k fresh, set_]
      · exact sets k later
    · rw [keeps k fun mem => out (List.mem_cons_of_mem _ mem), others k fun same => out (same ▸ List.mem_cons_self ..)]

/-- A lane pair at the start of a window. -/
def PairSt.startWindow (p : PairSt) : PairSt := { p with sumWork := 0, sumBusy := 0, leastSlack := 2 ^ 19 - 1 }

/-- The pairs of the first `n` entries start a window. -/
theorem State.startWindows (n : Nat) (s : State) : let t := s.forRange n fun s e => s.setPair (e / 12) (e % 12) (s.pair (e / 12) (e % 12)).startWindow
    t.red.windowStart = s.red.windowStart ∧
      ∀ e, t.red.pairs.get e {} = if e < n then (s.red.pairs.get e {}).startWindow else s.red.pairs.get e {} := by
  induction n with
  | zero => exact ⟨rfl, fun e => (if_neg (Nat.not_lt_zero e)).symm⟩
  | succ n ih =>
    obtain ⟨start, pairs⟩ := ih
    dsimp only
    rw [State.forRange_succ]
    generalize (s.forRange n fun s e => s.setPair (e / 12) (e % 12) (s.pair (e / 12) (e % 12)).startWindow) = t at start pairs
    refine ⟨start, fun e => ?_⟩
    have key : 12 * (n / 12) + n % 12 = n := Nat.div_add_mod n 12
    have pair : t.pair (n / 12) (n % 12) = s.red.pairs.get n {} := by rw [State.pair, key, pairs, if_neg (Nat.lt_irrefl n)]
    rw [State.setPair, key, pair]
    by_cases last : e = n
    · rw [last, SMap.get_set_same, if_pos (Nat.lt_succ_self n)]
    · rw [SMap.get_set_ne last, pairs]
      exact if_congr (by omega) rfl rfl

/-- The next window starts: its sums are none. -/
theorem State.restartWindow_starts (s : State) (at_ : Nat) : (s.restartWindow at_).red.windowStart = at_ ∧ ∀ u l, u < 2 → l < 12 →
    (s.restartWindow at_).pair u l = (s.pair u l).startWindow := by
  obtain ⟨start, pairs⟩ := State.startWindows 24 { s with red := { s.red with windowStart := at_ } }
  exact ⟨start, fun u l hu hl => (pairs (12 * u + l)).trans (if_pos (by omega))⟩

/-- A migration that starts by itself leaves the pairs and the window as they are. -/
theorem State.autoMigrate_keeps (s : State) : s.autoMigrate.red.pairs = s.red.pairs ∧ s.autoMigrate.red.windowStart = s.red.windowStart ∧
    s.autoMigrate.activeUnit = s.activeUnit := by
  have starts : ∀ l pos spare, (s.startMigrate l pos spare).red.pairs = s.red.pairs ∧ (s.startMigrate l pos spare).red.windowStart = s.red.windowStart ∧
      (s.startMigrate l pos spare).activeUnit = s.activeUnit := fun l pos spare => by
    have built : s.abandonBuild.objs = s.objs := by
      unfold State.abandonBuild
      split <;> rfl
    unfold State.startMigrate
    dsimp only
    generalize s.abandonBuild = b at built
    generalize eq : ({ b with red := _ } : State) = v
    have kept : v.red.pairs = s.red.pairs ∧ v.red.windowStart = s.red.windowStart ∧ v.objs = s.objs := by
      rw [← eq]
      exact ⟨rfl, rfl, built⟩
    have window : v.noteRedundancy.red.windowStart = v.red.windowStart := by
      unfold State.noteRedundancy
      dsimp only
      have red : (v.setBit F.SYS_MODE_REDUNDANT v.redundant).red = v.red := State.setBit_red ..
      generalize v.setBit F.SYS_MODE_REDUNDANT v.redundant = w at red
      split_ifs
      · rfl
      · rfl
      · rw [red]
    have active : v.activeUnit = s.activeUnit := (SameObjs.of_objs kept.2.2 []).fld (by simp) (by decide)
    exact ⟨(State.keepsPairs.noteRedundancy v).pairs.trans kept.1, window.trans kept.2.1, (State.keepsPairs.noteRedundancy v).active.trans active⟩
  unfold State.autoMigrate
  dsimp only
  split
  · split
    · split
      · exact starts ..
      · exact ⟨rfl, rfl, rfl⟩
    · exact ⟨rfl, rfl, rfl⟩
  · exact ⟨rfl, rfl, rfl⟩

theorem State.loadedLanes_lt {l : Nat} (mem : l ∈ s.loadedLanes) : l < 12 := List.mem_range.mp (List.mem_filter.mp mem).1

/-- A window that closes gives every loaded lane pair its ratio, and the next one starts. -/
theorem State.evalWindow_closes (closes : s.per.running = true ∧ s.red.windowStart + 2 ^ (s.fld F.RED_CFG_EVAL_LOG2 + 12) ≤ s.per.count) :
    s.evalWindow.red.windowStart = s.per.count ∧ ∀ l ∈ s.loadedLanes, (s.evalWindow.pair s.activeUnit l).ratio = s.windowRatio l ∧
      (s.evalWindow.pair s.activeUnit l).sumWork = 0 ∧ (s.evalWindow.pair s.activeUnit l).sumBusy = 0 := by
  obtain ⟨ratios, -, -, -⟩ := State.evalLanes_set s.loadedLanes (List.Nodup.filter _ List.nodup_range) s.windowRatio s
  unfold State.evalWindow
  dsimp only
  rw [if_pos (by rw [closes.1, decide_eq_true closes.2]; rfl)]
  generalize ((s.loadedLanes.map fun l => (l, s.windowRatio l)).foldl (fun s e => s.evalLane e.1 e.2) s) = v at ratios
  obtain ⟨start, pairs⟩ := v.restartWindow_starts s.per.count
  generalize v.restartWindow s.per.count = w at start pairs
  obtain ⟨same, window, -⟩ := w.autoMigrate_keeps
  refine ⟨window.trans start, fun l mem => ?_⟩
  have pair : w.autoMigrate.pair s.activeUnit l = (v.pair s.activeUnit l).startWindow := by
    rw [State.pair, same, ← State.pair, pairs _ _ s.activeUnit_lt (State.loadedLanes_lt mem)]
  rw [pair]
  exact ⟨ratios l mem, rfl, rfl⟩

theorem State.evalWindow_open (open_ : ¬(s.per.running = true ∧ s.red.windowStart + 2 ^ (s.fld F.RED_CFG_EVAL_LOG2 + 12) ≤ s.per.count)) :
    s.evalWindow = s := by
  unfold State.evalWindow
  exact if_neg fun yes => open_ (by simpa using yes)

/-! ### Rows that a scrub pass names (R357) -/

theorem State.replaceRow_replaces {row : Nat} (free : ((s.repairsOf 1).filter fun r => r / 2 ^ 16 == row / 2 ^ 16).length < 64) :
    (s.replaceRow row).red = { s.red with repairs := s.red.repairs ++ [(1, row)] } := by
  unfold State.replaceRow
  dsimp only
  rw [if_pos free]
  split <;> rfl

theorem State.replaceRow_full {row : Nat} (full : 64 ≤ ((s.repairsOf 1).filter fun r => r / 2 ^ 16 == row / 2 ^ 16).length) : s.replaceRow row = s := by
  unfold State.replaceRow
  exact if_neg (by omega)

end

theorem exec_restorationDone (s : State) : exec .restorationDone s = .next s.restorationDone := rfl
theorem exec_evalWindowEnd (s : State) : exec .evalWindowEnd s = .next s.evalWindow := rfl
theorem exec_fullCairnRead (pos : Fin 10) (s : State) : exec (.fullCairnRead pos) s = .next (s.readFull pos.val) := rfl
theorem exec_dramScrub_one (row : Fin 32 × Fin 65536) (s : State) : exec (.dramScrub [row]) s = .next (s.replaceRow (row.1.val * 2 ^ 16 + row.2.val)) := rfl

/-- The read of a position whose copies differ is given up; one whose copies agree joins the build. -/
theorem State.readFull_ends {s : State} {pos : Nat} {bd : FcBuild} (build : s.surv.build = some bd) (here : s.laneOf s.activeUnit pos < 12)
    (tasks : s.tasksAt pos ≠ []) (idle : (s.pair s.activeUnit (s.laneOf s.activeUnit pos)).periods = [])
    (done : s.per.count ≤ (s.pair s.activeUnit (s.laneOf s.activeUnit pos)).done) (unread : bd.read.any (·.pos == pos) = false)
    (time : s.now + 200 + (4 * (s.xTop pos + s.yTop pos) + 4) / 5 < s.per.next) :
    ((∃ i < s.xTop pos, (s.lane s.activeUnit (s.laneOf s.activeUnit pos) 0).x.get i 0 ≠ (s.lane s.activeUnit (s.laneOf s.activeUnit pos) 1).x.get i 0) →
      (s.readFull pos).surv.build = none ∧ ∃ m ∈ (s.readFull pos).msgs, kindOf m.source = K.LANE_MISMATCH) ∧
    ((s.lane s.activeUnit (s.laneOf s.activeUnit pos) 0).x = (s.lane s.activeUnit (s.laneOf s.activeUnit pos) 1).x →
      (s.lane s.activeUnit (s.laneOf s.activeUnit pos) 0).y = (s.lane s.activeUnit (s.laneOf s.activeUnit pos) 1).y →
        ∀ bd', (s.readFull pos).surv.build = some bd' → bd'.read = bd.read ++ [⟨pos, s.per.count, (s.lane s.activeUnit (s.laneOf s.activeUnit pos) 0).x,
          (s.lane s.activeUnit (s.laneOf s.activeUnit pos) 0).y⟩]) := by
  have reads := State.readFull_reads build here tasks idle done unread time
  dsimp only at reads
  generalize (s.lane s.activeUnit (s.laneOf s.activeUnit pos) 0) = w at reads ⊢
  generalize (s.lane s.activeUnit (s.laneOf s.activeUnit pos) 1) = v at reads ⊢
  refine ⟨fun ⟨i, hi, differ⟩ => ?_, fun sameX sameY bd' found => ?_⟩
  · rw [if_neg] at reads
    · rw [reads]
      exact ⟨s.abandonBuild_none, _, List.mem_append_right _ (List.mem_singleton_self _),
        kindOf_sourceNo _ (by have := s.activeUnit_lt; omega)⟩
    · intro same
      obtain ⟨same, -⟩ := Bool.and_eq_true_iff.mp same
      exact differ (beq_iff_eq.mp (List.all_eq_true.mp same i (List.mem_range.mpr hi)))
  · rw [sameX, sameY, if_pos (by simp)] at reads
    rw [reads] at found
    rcases State.sealBuild_build ({ s with surv := { s.surv with build := some { bd with
        read := bd.read ++ ([⟨pos, s.per.count, v.x, v.y⟩] : List FcPos) } } } : State) with kept | dropped
    · rw [kept] at found
      rw [← Option.some.inj found, sameX, sameY]
    · rw [dropped] at found
      exact absurd found (by simp)

/-- Settles O50. -/
theorem restorationAndWindows : Obligations.RestorationAndWindows := by
  unfold Obligations.RestorationAndWindows
  refine fun s => ⟨fun k takeover first free => ⟨fun whole => ?_, fun lost small => ?_⟩, fun w takeover swap first free whole => ?_,
    fun m takeover swap migrate first free => ?_, fun takeover swap migrate => ?_, ⟨fun closes => ?_, fun open_ => ?_⟩,
    fun pos => ⟨fun none_ => ?_, fun bd build here tasks idle done unread time => ?_⟩, fun row => ⟨fun free => ?_, fun full => ?_, rfl⟩⟩
  · exact ⟨_, exec_restorationDone s, State.restorationDone_takeover takeover first free whole⟩
  · exact ⟨_, by rw [exec_restorationDone, State.restorationDone_lost takeover first free lost], s.wakeFails_fences small⟩
  · exact ⟨_, exec_restorationDone s, State.restorationDone_swap takeover swap first free whole⟩
  · exact ⟨_, exec_restorationDone s, State.restorationDone_migrate takeover swap migrate first free⟩
  · rw [exec_restorationDone, State.restorationDone_none takeover swap migrate]
  · exact ⟨_, exec_evalWindowEnd s, State.evalWindow_closes closes⟩
  · rw [exec_evalWindowEnd, State.evalWindow_open open_]
  · rw [exec_fullCairnRead, State.readFull_none none_]
  · obtain ⟨differ, agree⟩ := State.readFull_ends build here tasks idle done unread time
    exact ⟨fun d => ⟨_, exec_fullCairnRead pos s, differ d⟩, fun sameX sameY => ⟨_, exec_fullCairnRead pos s, agree sameX sameY⟩⟩
  · refine ⟨_, exec_dramScrub_one row s, State.replaceRow_replaces ?_⟩
    rw [show (row.1.val * 2 ^ 16 + row.2.val) / 2 ^ 16 = row.1.val by omega]
    exact free
  · rw [exec_dramScrub_one, State.replaceRow_full]
    rw [show (row.1.val * 2 ^ 16 + row.2.val) / 2 ^ 16 = row.1.val by omega]
    exact full

end Sys2Proof.Machine
end

section
/-! The bytes of the isolation link's frames read back as they were formed (R393, R394). -/

set_option Elab.async false

namespace Sys2Proof.Machine

/-! ### Numbers in bytes -/

@[simp] theorem bytesOf_length (n v : Nat) : (bytesOf n v).length = n := by simp [bytesOf]

theorem bytesOf_succ (n v : Nat) : bytesOf (n + 1) v = BitVec.ofNat 8 v :: bytesOf n (v / 256) := by
  simp only [bytesOf, List.range_succ_eq_map, List.map_cons, List.map_map, Nat.mul_zero, Nat.pow_zero, Nat.div_one]
  congr 1
  refine List.map_congr_left fun i _ => ?_
  rw [Function.comp_apply, Nat.mul_succ, Nat.add_comm, Nat.pow_add, Nat.div_div_eq_div_mul]

theorem natOf_bytesOf (n v : Nat) : natOf (bytesOf n v) = v % 2 ^ (8 * n) := by
  induction n generalizing v with
  | zero => rw [Nat.mul_zero, Nat.pow_zero, Nat.mod_one]; rfl
  | succ n ih =>
    have rest : natOf (bytesOf (n + 1) v) = v % 2 ^ 8 + 2 ^ 8 * natOf (bytesOf n (v / 2 ^ 8)) := by
      rw [bytesOf_succ]
      exact congrArg (· + _) (BitVec.toNat_ofNat v 8)
    rw [rest, ih, Nat.mul_succ, Nat.add_comm (8 * n), Nat.pow_add, Nat.mod_mul]

theorem rdNat_bytesOf (n v : Nat) : rdNat (bytesOf n v) 0 n = v % 2 ^ (8 * n) := by
  rw [rdNat, List.drop_zero, List.take_of_length_le (by simp), natOf_bytesOf]

theorem rdNat_first (n v : Nat) (r : List Byte) : rdNat (bytesOf n v ++ r) 0 n = v % 2 ^ (8 * n) := by
  rw [rdNat, List.drop_zero, List.take_append_of_le_length (by simp), List.take_of_length_le (by simp), natOf_bytesOf]

theorem rdNat_skip (k v : Nat) (r : List Byte) {off n : Nat} (h : k ≤ off) : rdNat (bytesOf k v ++ r) off n = rdNat r (off - k) n := by
  rw [rdNat, List.drop_append, List.drop_of_length_le (by simpa using h), List.nil_append, bytesOf_length, rdNat]

theorem rdNat_append (a r : List Byte) {off n : Nat} (h : off + n ≤ a.length) : rdNat (a ++ r) off n = rdNat a off n := by
  rw [rdNat, List.drop_append_of_le_length (by omega), List.take_append_of_le_length (by rw [List.length_drop]; omega), rdNat]

/-! ### The check of a frame -/

theorem crc16Byte_lt {c : Nat} (b : Byte) (h : c < 2 ^ 16) : crc16Byte c b < 2 ^ 16 := by
  have start : c ^^^ b.toNat * 2 ^ 8 < 2 ^ 16 := Nat.xor_lt_two_pow h (by have := b.isLt; omega)
  refine List.foldlRecOn (motive := (· < 2 ^ 16)) _ _ start fun c _ _ _ => ?_
  have shifted : 2 * c % 2 ^ 16 < 2 ^ 16 := Nat.mod_lt _ (by decide)
  split
  next => exact Nat.xor_lt_two_pow shifted (by decide)
  next => exact shifted

theorem crc16_lt (bs : List Byte) : crc16 bs < 2 ^ 16 :=
  List.foldlRecOn (motive := (· < 2 ^ 16)) _ _ (by decide) fun _ small b _ => crc16Byte_lt b small

theorem onLane_undisturbed (frame : List Byte) : onLane frame [] = frame := by
  simp [onLane]

/-- An undisturbed copy of a frame of its type, under the SEQ that is due, is good. -/
theorem copyCause_good {body : List Byte} {type seq : Nat} {want : Option Nat} (length : body.length = 45) (typed : rdNat body 0 1 = type)
    (numbered : rdNat body 1 2 = seq) (due : want = none ∨ want = some seq) : copyCause type want (frameBytes body) (some []) = 0 := by
  have crc : rdNat (frameBytes body) 45 2 = crc16 body := by
    rw [rdNat, frameBytes, List.drop_append_of_le_length (by omega), List.drop_of_length_le (by omega), List.nil_append]
    refine Eq.trans ?_ (Nat.mod_eq_of_lt (crc16_lt body))
    rw [List.take_of_length_le (by simp), natOf_bytesOf]
  have here : rdNat (frameBytes body) 0 1 = type := (rdNat_append _ _ (by omega)).trans typed
  have seqHere : rdNat (frameBytes body) 1 2 = seq := (rdNat_append _ _ (by omega)).trans numbered
  have taken : (frameBytes body).take 45 = body := by
    rw [frameBytes, List.take_append_of_le_length (by omega), List.take_of_length_le (by omega)]
  simp only [copyCause, onLane_undisturbed, crc, here, seqHere, taken, ne_eq, not_true_eq_false, if_false]
  refine if_neg ?_
  rcases due with rfl | rfl
  · simp
  · simp

/-! ### Digits of a word -/

/-- The number whose digits of `w` bits are `x 0`, `x 1`, …, `n` of them. -/
def digitsOf (w : Nat) (x : Nat → Nat) (n : Nat) : Nat := (List.range n).foldl (fun m c => m + x c * 2 ^ (w * c)) 0

theorem digitsOf_succ (w : Nat) (x : Nat → Nat) (n : Nat) : digitsOf w x (n + 1) = digitsOf w x n + x n * 2 ^ (w * n) := by
  rw [digitsOf, List.range_succ, List.foldl_append]
  rfl

theorem digitsOf_lt {w : Nat} {x : Nat → Nat} (small : ∀ c, x c < 2 ^ w) (n : Nat) : digitsOf w x n < 2 ^ (w * n) := by
  induction n with
  | zero => exact Nat.two_pow_pos _
  | succ n ih =>
    rw [digitsOf_succ, Nat.mul_succ, Nat.pow_add]
    calc _ < (x n + 1) * 2 ^ (w * n) := by rw [Nat.succ_mul]; omega
      _ ≤ 2 ^ w * 2 ^ (w * n) := Nat.mul_le_mul_right _ (small n)
      _ = _ := Nat.mul_comm ..

theorem digitsOf_digit {w : Nat} {x : Nat → Nat} (small : ∀ c, x c < 2 ^ w) {n c : Nat} (h : c < n) :
    digitsOf w x n / 2 ^ (w * c) % 2 ^ w = x c := by
  induction n with
  | zero => exact absurd h (Nat.not_lt_zero c)
  | succ n ih =>
    rw [digitsOf_succ]
    rcases Nat.lt_or_eq_of_le (Nat.lt_succ_iff.mp h) with below | rfl
    · obtain ⟨d, rfl⟩ := Nat.exists_eq_add_of_lt below
      have split : x (c + d + 1) * 2 ^ (w * (c + d + 1)) = 2 ^ (w * c) * (2 ^ w * (2 ^ (w * d) * x (c + d + 1))) := by
        rw [show w * (c + d + 1) = w * c + (w + w * d) by ring, Nat.pow_add, Nat.pow_add]
        ring
      rw [split, Nat.add_mul_div_left _ _ (Nat.two_pow_pos _), Nat.add_mul_mod_self_left]
      exact ih below
    · rw [Nat.mul_comm (x c), Nat.add_mul_div_left _ _ (Nat.two_pow_pos _), Nat.div_eq_of_lt (digitsOf_lt small c), Nat.zero_add,
        Nat.mod_eq_of_lt (small c)]

/-- The number whose bits are `b 0`, `b 1`, …, `n` of them. -/
def maskOf (b : Nat → Bool) (n : Nat) : Nat := (List.range n).foldl (fun m c => if b c then m + 2 ^ c else m) 0

theorem maskOf_eq (b : Nat → Bool) (n : Nat) : maskOf b n = digitsOf 1 (fun c => (b c).toNat) n := by
  refine congrArg (fun f => (List.range n).foldl f 0) (funext fun m => funext fun c => ?_)
  show (if b c then m + 2 ^ c else m) = m + (b c).toNat * 2 ^ (1 * c)
  cases b c <;> simp

theorem maskOf_testBit (b : Nat → Bool) {n c : Nat} (h : c < n) : (maskOf b n).testBit c = b c := by
  have digit := digitsOf_digit (w := 1) (x := fun c => (b c).toNat) (fun c => (b c).toNat_lt) h
  rw [← maskOf_eq, Nat.one_mul] at digit
  rw [Nat.testBit_eq_decide_div_mod_eq]
  cases hb : b c <;> rw [hb] at digit <;> simp_all

/-! ### Down frames -/

/-- Level and OFS of an output in a down frame. -/
def DownFrame.output (fr : DownFrame) (c : Nat) : Nat := (fr.level.testBit c).toNat + 2 * (fr.ofs.get c 0 % 8)

theorem DownFrame.output_lt (fr : DownFrame) (c : Nat) : fr.output c < 2 ^ 4 := by
  have := (fr.level.testBit c).toNat_lt
  unfold DownFrame.output
  omega

/-- The 45 bytes of a down frame before its CRC. -/
def downBody (fr : DownFrame) : List Byte :=
  bytesOf 1 1 ++ bytesOf 2 fr.seq ++ bytesOf 8 (digitsOf 4 fr.output 16) ++ bytesOf 1 (fr.enable.toNat + 2 * fr.lane) ++ bytesOf 33 0

theorem downBytes_eq (fr : DownFrame) : downBytes fr = frameBytes (downBody fr) := rfl

theorem downBody_length (fr : DownFrame) : (downBody fr).length = 45 := by
  simp only [downBody, List.length_append, bytesOf_length]

theorem downBody_type (fr : DownFrame) : rdNat (downBody fr) 0 1 = 1 := by
  simp only [downBody, List.append_assoc, rdNat_first]
  rfl

theorem downBody_seq (fr : DownFrame) : rdNat (downBody fr) 1 2 = fr.seq % 2 ^ 16 := by
  simp only [downBody, List.append_assoc]
  rw [rdNat_skip _ _ _ (by decide), rdNat_first]

theorem downBody_out (fr : DownFrame) : rdNat (downBody fr) 3 8 = digitsOf 4 fr.output 16 := by
  simp only [downBody, List.append_assoc]
  rw [rdNat_skip _ _ _ (by decide), rdNat_skip _ _ _ (by decide), rdNat_first]
  exact Nat.mod_eq_of_lt (digitsOf_lt fr.output_lt 16)

theorem downBody_ctrl (fr : DownFrame) : rdNat (downBody fr) 11 1 = (fr.enable.toNat + 2 * fr.lane) % 2 ^ 8 := by
  simp only [downBody, List.append_assoc]
  rw [rdNat_skip _ _ _ (by decide), rdNat_skip _ _ _ (by decide), rdNat_skip _ _ _ (by decide), rdNat_first]

theorem rdNat_downBytes (fr : DownFrame) {off n : Nat} (h : off + n ≤ 45) : rdNat (downBytes fr) off n = rdNat (downBody fr) off n :=
  rdNat_append _ _ ((downBody_length fr).symm ▸ h)

theorem copyCause_down {fr : DownFrame} {w : Option Nat} (small : fr.seq < 2 ^ 16) (due : w = none ∨ w = some fr.seq) :
    copyCause 1 w (downBytes fr) (some []) = 0 :=
  copyCause_good (downBody_length fr) (downBody_type fr) ((downBody_seq fr).trans (Nat.mod_eq_of_lt small)) due

theorem SMap.get_foldl_range (v : Nat → Nat) (n : Nat) {c : Nat} (h : c < n) :
    ((List.range n).foldl (fun m c => SMap.set m c (v c) 0) ([] : SMap Nat)).get c 0 = v c := by
  induction n with
  | zero => exact absurd h (Nat.not_lt_zero c)
  | succ n ih =>
    rw [List.range_succ, List.foldl_append, List.foldl_cons, List.foldl_nil]
    rcases Nat.lt_or_eq_of_le (Nat.lt_succ_iff.mp h) with below | rfl
    · rw [SMap.get_set_ne (Nat.ne_of_lt below), ih below]
    · exact SMap.get_set_same ..

/-- A down frame reads back as it was sent. -/
theorem downOf_downBytes {fr : DownFrame} (x : Nat) (seq : fr.seq < 2 ^ 16) (lane : fr.lane < 2) :
    let g := downOf x (downBytes fr)
    g.start = x ∧ g.seq = fr.seq ∧ g.enable = fr.enable ∧ g.lane = fr.lane ∧
    ∀ c < 16, g.level.testBit c = fr.level.testBit c ∧ g.ofs.get c 0 = fr.ofs.get c 0 % 8 := by
  have out : rdNat (downBytes fr) 3 8 = digitsOf 4 fr.output 16 := (rdNat_downBytes fr (by decide)).trans (downBody_out fr)
  have ctrl : rdNat (downBytes fr) 11 1 = fr.enable.toNat + 2 * fr.lane :=
    (rdNat_downBytes fr (by decide)).trans ((downBody_ctrl fr).trans (Nat.mod_eq_of_lt (by have := fr.enable.toNat_lt; omega)))
  have output : ∀ c < 16, digitsOf 4 fr.output 16 / 2 ^ (4 * c) % 2 ^ 4 = fr.output c := fun c hc => digitsOf_digit fr.output_lt hc
  have bit := fun c => (fr.level.testBit c).toNat_lt
  refine ⟨rfl, ?_, ?_, ?_, fun c hc => ⟨?_, ?_⟩⟩
  · exact (rdNat_downBytes fr (by decide)).trans ((downBody_seq fr).trans (Nat.mod_eq_of_lt seq))
  · show (rdNat (downBytes fr) 11 1).testBit 0 = fr.enable
    rw [ctrl, Nat.testBit_eq_decide_div_mod_eq]
    cases fr.enable <;> simp
  · show ((rdNat (downBytes fr) 11 1).testBit 1).toNat = fr.lane
    have half : (fr.enable.toNat + 2 * fr.lane) / 2 ^ 1 % 2 = fr.lane := by have := fr.enable.toNat_lt; omega
    rw [ctrl, Nat.testBit_eq_decide_div_mod_eq, half]
    obtain h | h : fr.lane = 0 ∨ fr.lane = 1 := by omega
    · rw [h]; rfl
    · rw [h]; rfl
  · refine (maskOf_testBit (fun c => (rdNat (downBytes fr) 3 8).testBit (4 * c)) hc).trans ?_
    have low : digitsOf 4 fr.output 16 / 2 ^ (4 * c) % 2 = (fr.level.testBit c).toNat := by
      have := output c hc
      rw [DownFrame.output] at this
      generalize digitsOf 4 fr.output 16 / 2 ^ (4 * c) = d at this ⊢
      have := bit c
      omega
    rw [out, Nat.testBit_eq_decide_div_mod_eq, low]
    cases fr.level.testBit c <;> rfl
  · refine (SMap.get_foldl_range (fun c => rdNat (downBytes fr) 3 8 / 2 ^ (4 * c + 1) % 8) 16 hc).trans ?_
    rw [out, Nat.pow_succ, ← Nat.div_div_eq_div_mul]
    have := output c hc
    rw [DownFrame.output] at this
    generalize digitsOf 4 fr.output 16 / 2 ^ (4 * c) = d at this ⊢
    have := bit c
    omega

/-! ### Up frames -/

/-- The 45 bytes of an up frame before its CRC. -/
def upBody (h : UpHead) (di rb ovl supply : Nat) : List Byte :=
  bytesOf 1 2 ++ bytesOf 2 h.seq ++ bytesOf 2 h.echo ++ bytesOf 20 di ++ bytesOf 2 rb ++ bytesOf 2 ovl ++ bytesOf 1 supply
    ++ bytesOf 1 h.status ++ bytesOf 14 0

section
variable (h : UpHead) (di rb ovl supply : Nat)

theorem upBytes_eq : upBytes h di rb ovl supply = frameBytes (upBody h di rb ovl supply) := rfl

theorem upBody_length : (upBody h di rb ovl supply).length = 45 := by
  simp only [upBody, List.length_append, bytesOf_length]

theorem upBody_type : rdNat (upBody h di rb ovl supply) 0 1 = 2 := by
  simp only [upBody, List.append_assoc, rdNat_first]
  rfl

theorem upBody_seq : rdNat (upBody h di rb ovl supply) 1 2 = h.seq % 2 ^ 16 := by
  simp only [upBody, List.append_assoc]
  rw [rdNat_skip _ _ _ (by decide), rdNat_first]

theorem upBody_rb : rdNat (upBody h di rb ovl supply) 25 2 = rb % 2 ^ 16 := by
  simp only [upBody, List.append_assoc]
  rw [rdNat_skip _ _ _ (by decide), rdNat_skip _ _ _ (by decide), rdNat_skip _ _ _ (by decide), rdNat_skip _ _ _ (by decide), rdNat_first]

theorem upBody_supply : rdNat (upBody h di rb ovl supply) 29 1 = supply % 2 ^ 8 := by
  simp only [upBody, List.append_assoc]
  rw [rdNat_skip _ _ _ (by decide), rdNat_skip _ _ _ (by decide), rdNat_skip _ _ _ (by decide), rdNat_skip _ _ _ (by decide),
    rdNat_skip _ _ _ (by decide), rdNat_skip _ _ _ (by decide), rdNat_first]

theorem rdNat_upBytes {off n : Nat} (fits : off + n ≤ 45) : rdNat (upBytes h di rb ovl supply) off n = rdNat (upBody h di rb ovl supply) off n :=
  rdNat_append _ _ ((upBody_length h di rb ovl supply).symm ▸ fits)

theorem copyCause_up {h : UpHead} {w : Option Nat} (small : h.seq < 2 ^ 16) (due : w = none ∨ w = some h.seq) :
    copyCause 2 w (upBytes h di rb ovl supply) (some []) = 0 :=
  copyCause_good (upBody_length ..) (upBody_type ..) ((upBody_seq ..).trans (Nat.mod_eq_of_lt small)) due
end
end Sys2Proof.Machine
end

section
/-! The field island (R380, R388, R390, R394, R395). -/

set_option Elab.async false

namespace Sys2Proof.Machine

namespace State
variable (s : State)

theorem isl_setIsl_same (c : Nat) (v : IslandDo) : (s.setIsl c v).isl c = v := SMap.get_set_same ..

theorem isl_setIsl_ne {c k : Nat} (v : IslandDo) (h : k ≠ c) : (s.setIsl c v).isl k = s.isl k := by
  rw [isl, setIsl, SMap.get_set_ne h, isl]

/-- `t` is `s` but for the island's outputs. -/
def outsOnly (s t : State) : Prop := t = { s with fio := { s.fio with outs := t.fio.outs } }

theorem setIsl_outsOnly (c : Nat) (v : IslandDo) : s.outsOnly (s.setIsl c v) := rfl

theorem outsOnly.trans {s t u : State} (h : s.outsOnly t) (h' : t.outsOnly u) : s.outsOnly u := by
  rw [outsOnly] at *
  rw [h', h]

theorem outsOnly.frame {s t : State} (h : s.outsOnly t) : t = { s with fio := t.fio } := by rw [h]

theorem outsOnly.fio {s t : State} (h : s.outsOnly t) : t.fio = { s.fio with outs := t.fio.outs } := congrArg State.fio h

/-- What every island output becomes, when each is set by itself. -/
theorem forRange_outs {f : State → Nat → State} {g : Nat → IslandDo → IslandDo} (sets : ∀ (s : State) c, f s c = s ∧ g c (s.isl c) = s.isl c ∨
    f s c = s.setIsl c (g c (s.isl c))) (n : Nat) : s.outsOnly (s.forRange n f) ∧
    ∀ k, (s.forRange n f).isl k = if k < n then g k (s.isl k) else s.isl k := by
  induction n with
  | zero => exact ⟨rfl, fun k => rfl⟩
  | succ n ih =>
    obtain ⟨only, outs⟩ := ih
    rw [State.forRange_succ]
    generalize s.forRange n f = t at only outs
    have here : t.outsOnly (f t n) ∧ (f t n).isl n = g n (t.isl n) ∧ ∀ k, k ≠ n → (f t n).isl k = t.isl k := by
      obtain ⟨same, fixed⟩ | set := sets t n
      · rw [same]
        exact ⟨rfl, fixed.symm, fun _ _ => rfl⟩
      · rw [set]
        exact ⟨rfl, isl_setIsl_same .., fun _ hk => isl_setIsl_ne _ _ hk⟩
    obtain ⟨step, this, others⟩ := here
    refine ⟨only.trans step, fun k => ?_⟩
    by_cases at_ : k = n
    · rw [at_, this, outs, if_neg (Nat.lt_irrefl n), if_pos (Nat.lt_succ_self n)]
    · rw [others k at_, outs]
      exact if_congr (by omega) rfl rfl

/-! ### Down frames -/

/-- What the island puts into the up frame that answers a down frame (Table 13.8); `lanes` are the lanes whose copy was bad. -/
def answer (s : State) (fr : DownFrame) (lanes : Nat) : UpHead :=
  let good := if fr.enable then min 8 (s.fio.downGood + 1) else 0
  { seq := s.fio.islandSeq, echo := fr.seq, status := lanes + (s.fio.islandLost && good != 8).toNat * 4 + s.fio.leftReset.toNat * 8 }

/-- What the island takes over from a good down frame, but for its outputs (R395). -/
def downTaken (s : State) (fr : DownFrame) (lanes : Nat) : State :=
  let good := if fr.enable then min 8 (s.fio.downGood + 1) else 0
  let driving := (s.fio.driving || good == 8) && !(s.fio.islandLost && good != 8)
  let lost := s.fio.islandLost && good != 8
  { s with fio := { s.fio with
    downBad := 0, downGood := good, islandLost := lost, driving := driving, islSlots := s.fio.islSlots.tail, islSeen := false
    downLast := some (fr.start, fr.seq), enable := fr.enable, islandSeq := (s.fio.islandSeq + 1) % 2 ^ 16, leftReset := false
    ups := s.fio.ups ++ [(fr.start, s.answer fr lanes)] } }

end State

/-- An output's switchings after a down frame that wants the level `l` from the instant `t` (R388). -/
def IslandDo.planned (v : IslandDo) (t : Nat) (l : Bool) : IslandDo :=
  if l = (v.plan.getLast?.map (·.2)).getD v.level then v else { v with plan := v.plan ++ [(t, l)] }

/-- When a down frame switches an output, and to which level it does. -/
def DownFrame.switchAt (fr : DownFrame) (c : Nat) : Nat := fr.start + switchDelay + ofsTicks * fr.ofs.get c 0

theorem IslandDo.planned_on (v : IslandDo) (t : Nat) (l : Bool) : (v.planned t l).on = v.on := by
  rw [planned]
  split <;> rfl

theorem IslandDo.planned_first {v : IslandDo} {t : Nat} {l : Bool} (none_ : v.plan = []) (h : l ≠ v.level) : (v.planned t l).plan = [(t, l)] := by
  simp only [planned, none_, List.getLast?_nil, Option.map_none, Option.getD_none, if_neg h, List.nil_append]

namespace State
variable (s : State)

theorem islandTake_outs (fr : DownFrame) (lanes : Nat) : (s.downTaken fr lanes).outsOnly (s.islandTake fr lanes) ∧
    ∀ k < 16, (s.islandTake fr lanes).isl k =
      (s.isl k).planned (fr.switchAt k) ((s.downTaken fr lanes).fio.driving && fr.enable && fr.level.testBit k) := by
  obtain ⟨only, outs⟩ := (s.downTaken fr lanes).forRange_outs (f := fun t c =>
      let v := t.isl c
      let l := (s.downTaken fr lanes).fio.driving && fr.enable && fr.level.testBit c
      let cur := (v.plan.getLast?.map (·.2)).getD v.level
      if l = cur then t else t.setIsl c { v with plan := v.plan ++ [(fr.start + switchDelay + ofsTicks * fr.ofs.get c 0, l)] })
    (g := fun c v => v.planned (fr.switchAt c) ((s.downTaken fr lanes).fio.driving && fr.enable && fr.level.testBit c)) (fun t c => by
      dsimp only
      rw [IslandDo.planned]
      split
      · exact Or.inl ⟨rfl, rfl⟩
      · exact Or.inr rfl) 16
  exact ⟨only, fun k hk => (outs k).trans (if_pos hk)⟩

/-- The first good copy of a down frame in its slot is taken over (R394). -/
theorem islandDown_takes {fr : DownFrame} {r : List DownFrame} {e0 e1 : Option (List Byte)} (slot : s.fio.islSlots = fr :: r)
    (powered : s.fio.powered = true) (seen : s.fio.islSeen = false) (inTime : s.now ≤ fr.start + 2200) :
    let g0 := s.laneUsed 0 && (s.downCauses fr e0 e1).1 == 0
    let g1 := s.laneUsed 1 && (s.downCauses fr e0 e1).2 == 0
    (g0 = true ∨ g1 = true → ∃ lanes, s.islandDown e0 e1 = s.islandTake (downOf fr.start (usedCopy (downBytes fr) fr.lane g0 g1 e0 e1)) lanes) ∧
    (g0 = false → g1 = false → s.islandDown e0 e1 = { s with fio := { s.fio with islSeen := true } }) := by
  have closed : (!s.fio.powered || s.fio.islSeen || decide (fr.start + 2200 < s.now)) = false := by
    rw [powered, seen, decide_eq_false (Nat.not_lt.mpr inTime)]
    rfl
  simp only [islandDown, slot, closed, Bool.false_eq_true, if_false]
  refine ⟨fun good => ⟨_, if_neg ?_⟩, fun b0 b1 => if_pos ?_⟩
  · rcases good with g | g <;> simp [g]
  · simp [b0, b1]

/-! ### Slots without a good down frame -/

/-- A bad slot as the island counts it (R395). -/
def slotMissed (s : State) (r : List DownFrame) : State :=
  let bad := min 3 (s.fio.downBad + 1)
  { s with fio := { s.fio with downBad := bad, downGood := 0, islSlots := r, islSeen := false
                               downLast := if bad = 3 then none else s.fio.downLast } }

/-- The island lost: no output is driven (R395). -/
def islandLoses (s : State) : State := { s with fio := { s.fio with islandLost := true, driving := false, enable := false } }

theorem islandTimeout_eq {fr : DownFrame} {r : List DownFrame} (slot : s.fio.islSlots = fr :: r) (powered : s.fio.powered = true) :
    s.islandTimeout = if 2 ≤ (s.until (fr.start + 2200)).fio.downBad then ((s.until (fr.start + 2200)).slotMissed r).islandLoses.islAllOff
      else (s.until (fr.start + 2200)).slotMissed r := by
  simp only [islandTimeout, slot, powered, Bool.not_true, Bool.false_eq_true, if_false]
  exact if_congr (by omega) rfl rfl

theorem islAllOff_outs : s.outsOnly s.islAllOff ∧ ∀ k < 16, (s.islAllOff.isl k).on = false := by
  obtain ⟨only, outs⟩ := s.forRange_outs (f := fun t c => t.setIsl c { t.isl c with on := false, plan := [], level := false })
    (g := fun _ v => { v with on := false, plan := [], level := false }) (fun _ _ => Or.inr rfl) 16
  refine ⟨only, fun k hk => ?_⟩
  rw [islAllOff, outs, if_pos hk]

theorem islandOff_outs : s.islandOff = { s with fio := s.islandOff.fio } ∧ s.islandOff.fio.powered = false ∧ s.islandOff.fio.driving = false ∧
    ∀ k < 16, s.islandOff.isl k = {} := by
  obtain ⟨only, outs⟩ := State.forRange_outs
    { s with fio := { s.fio with powered := false, driving := false, islandLost := false, downBad := 0, downGood := 0
                                 islandSeq := 0, enable := false, ups := [], islSeen := false, downLast := none } }
    (f := fun t c => t.setIsl c {}) (g := fun _ _ => {}) (fun _ _ => Or.inr rfl) 16
  refine ⟨only.frame, ?_, ?_, fun k hk => (outs k).trans (if_pos hk)⟩
  · rw [islandOff, only]
  · rw [islandOff, only]

/-- A slot that is over without a good down frame, no event on its way. -/
theorem islandTimeout_counts {fr : DownFrame} {r : List DownFrame} (slot : s.fio.islSlots = fr :: r) (powered : s.fio.powered = true)
    (quiet : s.msgs = []) : let t := s.islandTimeout
    t.fio.downGood = 0 ∧ t.fio.downBad = min 3 (s.fio.downBad + 1) ∧ t.fio.islSlots = r ∧
      (2 ≤ s.fio.downBad → t.fio.islandLost = true ∧ t.fio.driving = false ∧ t.fio.downLast = none ∧ ∀ c < 16, (t.isl c).on = false) ∧
      (s.fio.downBad < 2 → ∀ c < 16, t.isl c = s.isl c) := by
  dsimp only
  rw [s.islandTimeout_eq slot powered, s.until_of_nil quiet]
  by_cases third : 2 ≤ s.fio.downBad
  · obtain ⟨only, off⟩ := islAllOff_outs (slotMissed { s with time := (s.until (fr.start + 2200)).time } r).islandLoses
    rw [if_pos third]
    have count : min 3 (s.fio.downBad + 1) = 3 := by omega
    exact ⟨by rw [only.fio]; rfl, by rw [only.fio]; rfl, by rw [only.fio]; rfl, fun _ => ⟨by rw [only.fio]; rfl, by rw [only.fio]; rfl,
      by rw [only.fio]; exact if_pos count, off⟩, fun less => absurd third (by omega)⟩
  · rw [if_neg third]
    exact ⟨rfl, rfl, rfl, fun h => absurd h third, fun _ _ _ => rfl⟩

/-! ### Switching, shutdown and retry -/

theorem until_time {s : State} (quiet : s.msgs = []) (x : Nat) : ∃ tm, s.until x = { s with time := tm } := ⟨_, s.until_of_nil quiet x⟩

theorem islandSwitch_switches {c : Nat} {e : Nat × Bool} {r : List (Nat × Bool)} (due : (s.isl c).plan = e :: r) (quiet : s.msgs = []) :
    ((s.islandSwitch c).isl c).plan = r ∧ ((s.islandSwitch c).isl c).level = e.2 ∧
      ((s.islandSwitch c).isl c).on = (e.2 && (s.isl c).shut.isNone) ∧ ∀ k, k ≠ c → (s.islandSwitch c).isl k = s.isl k := by
  obtain ⟨tm, later⟩ := until_time quiet e.1
  simp only [islandSwitch, due, later, islSet, isl_setIsl_same]
  refine ⟨trivial, trivial, rfl, fun k hk => ?_⟩
  rw [isl_setIsl_ne _ _ hk, isl_setIsl_ne _ _ hk]
  rfl

theorem doShutdown_off {c : Nat} (on : (s.isl c).on = true) : s.outsOnly (s.doShutdown c) ∧ ((s.doShutdown c).isl c).on = false ∧
    ((s.doShutdown c).isl c).shut = some s.now ∧ ∀ k, k ≠ c → (s.doShutdown c).isl k = s.isl k := by
  simp only [doShutdown, on, if_true, isl_setIsl_same]
  exact ⟨rfl, trivial, trivial, fun k hk => isl_setIsl_ne _ _ hk⟩

theorem doRetry_retries {c x : Nat} (shut : (s.isl c).shut = some x) (quiet : s.msgs = []) :
    ((s.isl c).level = true → (s.isl c).cancelled = false → s.fio.driving = true → ((s.doRetry c).isl c).on = true ∧
      ((s.doRetry c).isl c).shut = none ∧ (s.fio.retries < 0xFFFF → (s.doRetry c).fio.retries = s.fio.retries + 1)) ∧
    ((s.isl c).level = false ∨ (s.isl c).cancelled = true → ((s.doRetry c).isl c).on = (s.isl c).on ∧
      ((s.doRetry c).isl c).shut = some x ∧ (s.doRetry c).fio.retries = s.fio.retries) := by
  obtain ⟨tm, later⟩ := until_time quiet (x + retryTicks * ((s.isl c).retries + 1))
  have same : isl { s with time := tm } c = s.isl c := rfl
  simp only [doRetry, shut, later, same]
  refine ⟨fun level kept driving => ?_, fun no => ?_⟩
  · have turned := isl_setIsl_same { s with time := tm } c { s.isl c with on := true, shut := none, retries := 0 }
    simp only [level, kept, driving, Bool.not_false, Bool.and_self, if_true] at turned ⊢
    refine ⟨?_, ?_, fun room => ?_⟩
    · exact congrArg IslandDo.on turned
    · exact congrArg IslandDo.shut turned
    · simp only [satNat, room, if_true]
  · have stays : ((s.isl c).level && !(s.isl c).cancelled && s.fio.driving) = false := by
      rcases no with h | h <;> simp [h]
    simp only [stays, Bool.false_eq_true, if_false, isl_setIsl_same]
    exact ⟨trivial, trivial, rfl⟩
end State

/-! ### The obligation -/

theorem downOf_start (x : Nat) (bs : List Byte) : (downOf x bs).start = x := rfl

/-- What a good down frame leaves of the island (R388, R393, R395). -/
theorem State.islandTake_takes (s : State) {fr : DownFrame} {r : List DownFrame} (g : DownFrame) (at_ : g.start = fr.start) (lanes : Nat)
    (slot : s.fio.islSlots = fr :: r) : let t := s.islandTake g lanes
    ∃ h, t = { s with fio := t.fio } ∧ t.fio.downBad = 0 ∧ t.fio.islSlots = r ∧
      t.fio.downLast = some (fr.start, g.seq) ∧ t.fio.downGood = (if g.enable then min 8 (s.fio.downGood + 1) else 0) ∧
      t.fio.ups = s.fio.ups ++ [(fr.start, h)] ∧ h.seq = s.fio.islandSeq ∧ h.echo = g.seq ∧
      t.fio.islandSeq = (s.fio.islandSeq + 1) % 2 ^ 16 ∧ t.fio.islandLost = (s.fio.islandLost && t.fio.downGood != 8) ∧
      (t.fio.downGood = 8 → t.fio.driving = true) ∧ (s.fio.driving = false → t.fio.downGood ≠ 8 → t.fio.driving = false) ∧
      (∀ c < 16, (t.isl c).on = (s.isl c).on) ∧
      (s.fio.driving = true → s.fio.islandLost = false → g.enable = true → ∀ c < 16, (s.isl c).plan = [] →
        g.level.testBit c ≠ (s.isl c).level →
        (t.isl c).plan = [(fr.start + switchDelay + ofsTicks * g.ofs.get c 0, g.level.testBit c)]) := by
  obtain ⟨only, outs⟩ := s.islandTake_outs g lanes
  have frame : s.islandTake g lanes = { s with fio := (s.islandTake g lanes).fio } := only.frame
  dsimp only
  generalize s.islandTake g lanes = t at only outs frame
  rw [← at_]
  refine ⟨s.answer g lanes, frame, ?_⟩
  rw [only.fio]
  refine ⟨rfl, congrArg List.tail slot, rfl, rfl, rfl, rfl, rfl, rfl, rfl, fun eight => ?_, fun off less => ?_, fun c hc => ?_,
    fun driving kept enable c hc idle differs => ?_⟩
  · have good : (if g.enable then min 8 (s.fio.downGood + 1) else 0) = 8 := eight
    simp [downTaken, good]
  · have good : ((if g.enable then min 8 (s.fio.downGood + 1) else 0) == 8) = false := beq_false_of_ne less
    simp [downTaken, good, off]
  · rw [outs c hc, IslandDo.planned_on]
  · have drives : (s.downTaken g lanes).fio.driving = true := by simp [downTaken, driving, kept]
    rw [outs c hc, drives, enable, Bool.true_and, Bool.true_and, IslandDo.planned_first idle differs, DownFrame.switchAt]

/-- Settles O59: a frame reads back from its bytes; each output is set by itself, so a fold over them is known output by output. -/
theorem fieldIsland : Obligations.FieldIsland := by
  unfold Obligations.FieldIsland
  refine ⟨fun fr x seq lane => downOf_downBytes x seq lane, fun s => ⟨fun e0 e1 => ⟨fun none_ => ?_, fun fr r slot powered seen inTime => ?_⟩,
    fun none_ => ?_, fun fr r slot powered quiet => ⟨_, rfl, s.islandTimeout_counts slot powered quiet⟩,
    fun c => ⟨fun none_ => ?_, fun e r due quiet => ⟨_, rfl, s.islandSwitch_switches due quiet⟩, fun off => ?_, fun on => ?_, fun none_ => ?_,
      fun x shut quiet => ?_⟩, ?_, fun powered => ?_, fun unpowered => ?_⟩⟩
  · refine congrArg Host.Outcome.next ?_
    rcases none_ with none_ | off
    · rw [State.islandDown, none_]
    · rw [State.islandDown]
      split
      · rfl
      · exact if_pos (by rw [off]; rfl)
  · obtain ⟨takes, misses⟩ := s.islandDown_takes (e0 := e0) (e1 := e1) slot powered seen inTime
    refine ⟨fun good => ?_, fun b0 b1 => congrArg Host.Outcome.next (misses b0 b1)⟩
    obtain ⟨lanes, taken⟩ := takes good
    obtain ⟨h, facts⟩ := s.islandTake_takes _ (downOf_start fr.start _) lanes slot
    exact ⟨_, h, congrArg Host.Outcome.next taken, facts⟩
  · exact congrArg Host.Outcome.next (by rw [State.islandTimeout, none_])
  · exact congrArg Host.Outcome.next (by rw [State.islandSwitch, none_])
  · exact congrArg Host.Outcome.next (by rw [State.doShutdown, off]; rfl)
  · obtain ⟨only, off, at_, others⟩ := s.doShutdown_off on
    exact ⟨_, rfl, off, at_, only.frame, others⟩
  · exact congrArg Host.Outcome.next (by rw [State.doRetry, none_])
  · obtain ⟨retries, stays⟩ := s.doRetry_retries shut quiet
    exact ⟨fun level kept driving => ⟨_, rfl, retries level kept driving⟩, fun no => ⟨_, rfl, stays no⟩⟩
  · obtain ⟨frame, off, idle, outs⟩ := s.islandOff_outs
    exact ⟨_, rfl, off, idle, outs, frame⟩
  · exact congrArg Host.Outcome.next (if_pos powered)
  · exact congrArg Host.Outcome.next (if_neg (by rw [unpowered]; decide))
end Sys2Proof.Machine
end

section
/-! The hub's end of the isolation link (R386 to R388, R393 to R396). -/

set_option Elab.async false

namespace Sys2Proof.Machine

/-! ### What the hub knows of the link -/

namespace State

/-- The field I/O state but for the inputs, the outputs as the hub sees them, the supply's debounce and the counts and slots of the lanes. -/
def link (s : State) : FioSt :=
  { s.fio with di := [], changes := [], dos := [], rbHist := [], supplyBad := 0, supplyGood := 0, supplyLive := false
               ovl := 0, failed := 0, slots0 := [], slots1 := [], bad0 := 0, bad1 := 0, sat := 0 }

theorem link_of_fio {s t : State} (h : t.fio = s.fio) : t.link = s.link := by rw [link, h, link]

variable (s : State)

theorem setFld_link (f : Fld) (v inst entry : Nat) : (s.setFld f v inst entry).link = s.link := link_of_fio (State.setFld_fio ..)

theorem setDis_link (i : Nat) (v : DiSt) : (s.setDis i v).link = s.link := rfl

theorem setDos_link (c : Nat) (v : DoSt) : (s.setDos c v).link = s.link := rfl

theorem send_link (m : Msg) : (s.send m).link = s.link := rfl

theorem forRange_link {n : Nat} {f : State → Nat → State} (h : ∀ s a, (f s a).link = s.link) : (s.forRange n f).link = s.link :=
  foldl_keeps link f h _ s

theorem setBit_link (f : Fld) (b : Bool) (i e : Nat) : (s.setBit f b i e).link = s.link := link_of_fio (State.setBit_fio ..)

theorem raise_link (k : Kind) (i d n kd a : Nat) : (s.raise k i d n kd a).link = s.link := send_link ..

theorem badCopy_link (l : Nat) (up : Bool) (cause : Nat) : (s.badCopy l up cause).link = s.link := by
  simp only [badCopy]
  split <;> rfl

theorem spareShown_link (l : Nat) : ((s.setBit F.RED_SPARES_ISO_SPARE true).raise K.ISO_SPARE 0 l 1).link = s.link :=
  (raise_link ..).trans (setBit_link ..)

theorem laneFails_link (l : Nat) : (s.laneFails l).link = s.link := by
  rw [laneFails]
  dsimp only
  split
  · rfl
  · rw [spareShown_link]
    rfl

theorem laneSlot_link (l : Nat) (bad : Bool) : (s.laneSlot l bad).link = s.link := by
  simp only [laneSlot]
  split
  · rfl
  · have noted : ∀ h : List Bool, link { s with fio := if l = 0 then { s.fio with slots0 := h } else { s.fio with slots1 := h } } = s.link := by
      intro h
      split <;> rfl
    generalize (bad && _ : Bool) = fail
    cases fail with
    | true =>
      simp only [if_true]
      rw [laneFails_link]
      exact noted []
    | false =>
      simp only [Bool.false_eq_true, if_false]
      exact noted _

theorem diSample_link (i t : Nat) (raw : Bool) : (s.diSample i t raw).link = s.link := by
  simp only [diSample]
  split
  · rfl
  · split
    · rfl
    · split
      · exact setFld_link ..
      · rfl

theorem diWindow_link (w di : Nat) : (s.diWindow w di).link = s.link :=
  s.forRange_link fun s _ => s.forRange_link fun s _ => s.diSample_link ..

theorem diMissed_link : s.diMissed.link = s.link := s.forRange_link fun _ _ => rfl

theorem diRestart_link : s.diRestart.link = s.link := s.forRange_link fun _ _ => rfl

theorem extDrive_link (c t : Nat) (rb : Bool) : (s.extDrive c t rb).link = s.link := by
  simp only [extDrive]
  split
  · split
    · rfl
    · split <;> split <;> rfl
  · split
    · rfl
    · split <;> split <;> rfl

theorem doOverload_link (c t : Nat) (o rb : Bool) : (s.doOverload c t o rb).link = s.link := by
  simp only [doOverload]
  split
  · rfl
  · split <;> rfl

theorem fieldSupply_link (v : Nat) : (s.fieldSupply v).link = { s.link with supply := v } := by
  simp only [fieldSupply]
  generalize (if (decide (v < 96) || decide (150 < v)) = true then min 8 (s.fio.supplyBad + 1) else 0) = bad
  generalize (if (decide (98 ≤ v) && decide (v ≤ 148)) = true then min 8 (s.fio.supplyGood + 1) else 0) = good
  split
  · rfl
  · split <;> rfl

theorem upData_link (f di rb ovl supply : Nat) : (s.upData f di rb ovl supply).link = { s.link with rb := rb % 2 ^ 16, supply := supply % 256 } := by
  simp only [upData]
  rw [fieldSupply_link]
  have kept : ∀ (w t : Nat), ((s.diWindow w di).forRange 16 fun s c =>
      (s.doOverload c t (ovl.testBit c) (rb.testBit c)).extDrive c t (rb.testBit c)).link = s.link := fun w t =>
    (forRange_link _ fun s c => (extDrive_link ..).trans (doOverload_link ..)).trans (s.diWindow_link w di)
  exact congrArg (fun f : FioSt => { f with rb := rb % 2 ^ 16, supply := supply % 256 }) (kept _ _)

end State

/-- What a good slot makes of the link, its frame with LOST or without (R395). -/
def FioSt.slotGood (f : FioSt) (lost : Bool) : FioSt :=
  { f with upBad := 0, upGood := if lost then 0 else min 8 (f.upGood + 1), linkOk := true
           isoLost := lost || (f.isoLost && !decide (f.upGood + 1 ≥ 8)) }

namespace State
variable (s : State)

theorem isoLose_link (cause : Nat) : (s.isoLose cause).link = { s.link with isoLost := true } := by
  simp only [isoLose]
  split
  next lost => exact congrArg (fun b => { s.link with isoLost := b }) lost
  next => rfl

theorem upSlotGood_link (lost : Bool) : (s.upSlotGood lost).link = s.link.slotGood lost := by
  cases lost with
  | true => exact (isoLose_link _ 2).trans rfl
  | false =>
    simp only [upSlotGood, Bool.false_eq_true, if_false]
    have lost : ∀ b, b = (s.fio.isoLost && !decide (s.fio.upGood + 1 ≥ 8)) →
        ({ s.link with upBad := 0, upGood := min 8 (s.fio.upGood + 1), linkOk := true, isoLost := b } : FioSt) = s.link.slotGood false :=
      fun b hb => congrArg (fun b => ({ s.link with upBad := 0, upGood := min 8 (s.fio.upGood + 1), linkOk := true, isoLost := b } : FioSt))
        (hb.trans (Bool.false_or _).symm)
    split
    next ends =>
      have full : s.fio.upGood + 1 ≥ 8 := by have := ends.1; omega
      exact lost false (by rw [decide_eq_true full, Bool.not_true, Bool.and_false])
    next stays =>
      refine lost s.fio.isoLost ?_
      cases held : s.fio.isoLost with
      | false => rfl
      | true =>
        have few : ¬s.fio.upGood + 1 ≥ 8 := fun full => stays ⟨Nat.min_eq_left full, held⟩
        rw [decide_eq_false few]
        rfl

/-- The hub takes over the up frame of the slot that began at `start`, with SEQ `seq` (R393). -/
def upTaken (s : State) (start : Nat) (r : List DownFrame) (seq : Nat) : State :=
  { s with fio := { s.fio.upGone start with hubSlots := r, slotSeen := false, upSeq := seq, upWant := some ((seq + 1) % 2 ^ 16) } }

theorem upTaken_link (start : Nat) (r : List DownFrame) (seq : Nat) : (s.upTaken start r seq).link =
    { s.link.upGone start with hubSlots := r, slotSeen := false, upSeq := seq, upWant := some ((seq + 1) % 2 ^ 16) } := rfl

section
variable {fr : DownFrame} {r : List DownFrame} {h : UpHead} {x : Nat} {e0 e1 : Option (List Byte)} {di rb limit supply : Nat}

/-- A good copy of an up frame in its slot is taken over with its contents (R393 to R395). -/
theorem isoUp_good (slot : s.fio.hubSlots = fr :: r) (answer : s.fio.ups.find? (·.1 == fr.start) = some (x, h)) (inTime : s.now ≤ fr.start + 2200) :
    let frame := upBytes h di rb (limit ||| s.shutMask) supply
    let g0 := s.laneUsed 0 && (s.upCauses frame e0 e1).1 == 0
    let g1 := s.laneUsed 1 && (s.upCauses frame e0 e1).2 == 0
    let rx := usedCopy frame s.fio.activeLane g0 g1 e0 e1
    g0 = true ∨ g1 = true → ∃ (t : State) (b0 b1 : Bool), t.link = s.link ∧ s.isoUp e0 e1 di rb limit supply =
      ((((t.upTaken fr.start r (rdNat rx 1 2)).upSlotGood ((rdNat rx 30 1).testBit 2)).upData fr.start (rdNat rx 5 20) (rdNat rx 25 2)
        (rdNat rx 27 2) (rdNat rx 29 1)).laneSlot 0 b0).laneSlot 1 b1 := by
  intro frame g0 g1 rx good
  have taken : (!g0 && !g1) = false := by rcases good with g | g <;> simp [g]
  have counted : ∀ (s : State) (c : Bool) l up cause, (if c then s.badCopy l up cause else s).link = s.link := by
    intro s c l up cause
    cases c with
    | true => exact badCopy_link ..
    | false => rfl
  simp only [isoUp, slot, answer, if_neg (Nat.not_lt.mpr inTime)]
  refine ⟨_, _, _, ?_, if_neg (Bool.eq_false_iff.mp taken)⟩
  exact (counted _ _ _ _ _).trans ((counted _ _ _ _ _).trans ((counted _ _ _ _ _).trans (counted _ _ _ _ _)))

/-- The copies of an up frame that are bad on the lanes in use are counted (R394). -/
def countBad (s : State) (c : Nat × Nat) : State :=
  let a := if s.laneUsed 0 then s.badCopy 0 true c.1 else s
  if s.laneUsed 1 then a.badCopy 1 true c.2 else a

/-- The slot's up frame came with bad copies only (R394). -/
theorem isoUp_bad (slot : s.fio.hubSlots = fr :: r) (answer : s.fio.ups.find? (·.1 == fr.start) = some (x, h)) (inTime : s.now ≤ fr.start + 2200) :
    let c := s.upCauses (upBytes h di rb (limit ||| s.shutMask) supply) e0 e1
    (s.laneUsed 0 && c.1 == 0) = false → (s.laneUsed 1 && c.2 == 0) = false →
    s.isoUp e0 e1 di rb limit supply =
      { s.countBad c with fio := { (s.countBad c).fio.upGone fr.start with slotSeen := true } } := by
  intro c bad0 bad1
  have all : ∀ (used : Bool) (c : Nat), (used && c == 0) = false → (used && c != 0) = used := by
    intro used c
    cases used <;> cases hc : c == 0 <;> simp_all
  have a0 := all _ _ bad0
  have a1 := all _ _ bad1
  simp only [isoUp, slot, answer, if_neg (Nat.not_lt.mpr inTime)]
  refine (if_pos (by rw [bad0, bad1]; rfl)).trans ?_
  rw [a0, a1]
  rfl
end

theorem satNat_counts {top v : Nat} (sat : Bool) (h : v < top) : (satNat top v sat).1 = v + 1 := by
  simp only [satNat, if_pos h]

theorem badCopy_first (up : Bool) (cause : Nat) : (s.fio.bad0 < 0xFFFF → (s.badCopy 0 up cause).fio.bad0 = s.fio.bad0 + 1) ∧
    (s.badCopy 0 up cause).fio.bad1 = s.fio.bad1 ∧ (s.badCopy 0 up cause).fio.di = s.fio.di :=
  ⟨satNat_counts (s.fio.sat.testBit 0), rfl, rfl⟩

theorem badCopy_second (up : Bool) (cause : Nat) : (s.fio.bad1 < 0xFFFF → (s.badCopy 1 up cause).fio.bad1 = s.fio.bad1 + 1) ∧
    (s.badCopy 1 up cause).fio.bad0 = s.fio.bad0 ∧ (s.badCopy 1 up cause).fio.di = s.fio.di :=
  ⟨satNat_counts (s.fio.sat.testBit 1), rfl, rfl⟩

/-- A bad copy counts on its lane (R394). -/
theorem countBad_counts (c : Nat × Nat) : (s.laneUsed 0 = true → s.fio.bad0 < 0xFFFF → (s.countBad c).fio.bad0 = s.fio.bad0 + 1) ∧
    (s.laneUsed 1 = true → s.fio.bad1 < 0xFFFF → (s.countBad c).fio.bad1 = s.fio.bad1 + 1) ∧ (s.countBad c).fio.di = s.fio.di ∧
    (s.countBad c).link = s.link := by
  obtain ⟨count0, kept0, di0⟩ := s.badCopy_first true c.1
  cases u0 : s.laneUsed 0 with
  | false =>
    obtain ⟨count, kept, di⟩ := s.badCopy_second true c.2
    cases u1 : s.laneUsed 1 with
    | false => simp [countBad, u0, u1]
    | true => simpa [countBad, u0, u1, badCopy_link] using ⟨count, di⟩
  | true =>
    obtain ⟨count, kept, di⟩ := (s.badCopy 0 true c.1).badCopy_second true c.2
    rw [kept0] at count
    cases u1 : s.laneUsed 1 with
    | false => simpa [countBad, u0, u1, badCopy_link] using ⟨count0, di0⟩
    | true => simpa [countBad, u0, u1, badCopy_link, kept, di, di0] using ⟨count0, count⟩

/-! ### Slots without a good up frame -/

/-- The slot counted as bad, its frame no longer awaited (R395). -/
def upMissed (s : State) (fr : DownFrame) (r : List DownFrame) : State :=
  let f := s.fio.upGone fr.start
  let bad := min 3 (s.fio.upBad + 1)
  { s with fio := { f with
      upBad := bad, upGood := 0, linkOk := false, hubSlots := r, slotSeen := false, upWant := if bad = 3 then none else f.upWant
      rbHist := ((fr.start - ofsTicks, none) :: f.rbHist).take 64 } }

/-- What a slot without a good up frame leaves of the link, but for ISO_LOST (R395). -/
def missedLink (f : FioSt) (fr : DownFrame) (r : List DownFrame) : FioSt :=
  { f.upGone fr.start with
      upBad := min 3 (f.upBad + 1), upGood := 0, linkOk := false, hubSlots := r, slotSeen := false
      upWant := if min 3 (f.upBad + 1) = 3 then none else (f.upGone fr.start).upWant }

theorem upMissed_link (fr : DownFrame) (r : List DownFrame) : (s.upMissed fr r).link = missedLink s.link fr r := rfl

/-- A slot that is over counts both its copies as bad, unless its bad copies came (R394). -/
def slotCounted (s : State) : State :=
  if s.fio.slotSeen then s else
    let a := if s.laneUsed 0 then s.badCopy 0 true 1 else s
    if a.laneUsed 1 then a.badCopy 1 true 1 else a

theorem slotCounted_link : s.slotCounted.link = s.link := by
  have first : (if s.laneUsed 0 then s.badCopy 0 true 1 else s).link = s.link := by
    split
    · exact badCopy_link ..
    · rfl
  rw [slotCounted]
  split
  · rfl
  · dsimp only
    generalize (if s.laneUsed 0 then s.badCopy 0 true 1 else s) = a at first
    split
    · exact (badCopy_link ..).trans first
    · exact first

theorem isoUpTimeout_eq {fr : DownFrame} {r : List DownFrame} (slot : s.fio.hubSlots = fr :: r) :
    let t := (s.until (fr.start + 2200)).slotCounted
    let u := ((t.upMissed fr r).diMissed.laneSlot 0 false).laneSlot 1 false
    s.isoUpTimeout = if min 3 (t.fio.upBad + 1) = 3 then (u.isoLose 1).diRestart else u := by
  rw [isoUpTimeout, slot]
  rfl

/-- What the end of a slot without a good up frame leaves of the link (R395). -/
theorem isoUpTimeout_link {fr : DownFrame} {r : List DownFrame} (slot : s.fio.hubSlots = fr :: r) (quiet : s.msgs = []) :
    s.isoUpTimeout.link = if 2 ≤ s.fio.upBad then { missedLink s.link fr r with isoLost := true } else missedLink s.link fr r := by
  obtain ⟨tm, later⟩ := until_time quiet (fr.start + 2200)
  have same : (s.until (fr.start + 2200)).slotCounted.link = s.link := by rw [later]; exact slotCounted_link _
  have eq := s.isoUpTimeout_eq slot
  generalize (s.until (fr.start + 2200)).slotCounted = t at same eq
  have bad : t.link.upBad = s.link.upBad := congrArg FioSt.upBad same
  replace bad : t.fio.upBad = s.fio.upBad := bad
  have kept : (((t.upMissed fr r).diMissed.laneSlot 0 false).laneSlot 1 false).link = missedLink s.link fr r := by
    rw [laneSlot_link, laneSlot_link, diMissed_link, upMissed_link, same]
  rw [eq]
  by_cases third : 2 ≤ s.fio.upBad
  · rw [if_pos third, if_pos (by rw [bad]; omega), diRestart_link, isoLose_link, kept]
  · rw [if_neg third, if_neg (by rw [bad]; omega), kept]

/-! ### Down frames -/

theorem startPulses_eq (f : Nat) : ∃ u, s.startPulses f = { s with cmpUnits := u } := by
  have upto : ∀ n, ∃ u, (s.forRange n fun s u =>
      let v := s.cmpUnit u
      match v.fire with
      | some t => if t < f then s.setCmpUnit u { v with fire := none, pulse := some f } else s
      | none => s) = { s with cmpUnits := u } := by
    intro n
    induction n with
    | zero => exact ⟨_, rfl⟩
    | succ n ih =>
      obtain ⟨u, same⟩ := ih
      rw [State.forRange_succ, same]
      dsimp only
      split
      · split
        · exact ⟨_, rfl⟩
        · exact ⟨_, rfl⟩
      · exact ⟨_, rfl⟩
  exact upto 16

theorem forRange_dos {f : State → Nat → State} (h : ∀ s c, ∃ v, f s c = s.setDos c v) (n : Nat) :
    ∃ d, s.forRange n f = { s with fio := { s.fio with dos := d } } := by
  induction n with
  | zero => exact ⟨_, rfl⟩
  | succ n ih =>
    obtain ⟨d, same⟩ := ih
    obtain ⟨v, set⟩ := h (s.forRange n f) n
    rw [State.forRange_succ, set, same]
    exact ⟨_, rfl⟩

/-- No slot is over by the start of the next frame. -/
theorem closeSlots_open {next : Nat} (h : ∀ f ∈ s.fio.hubSlots ++ s.fio.islSlots, next < f.start + 2200) : s.closeSlots next = s := by
  have past : ∀ l : List DownFrame, (∀ f ∈ l, next < f.start + 2200) → (l.head?.any fun f => decide (f.start + 2200 ≤ next)) = false := by
    intro l hl
    cases l with
    | nil => rfl
    | cons f r => exact decide_eq_false (Nat.not_le.mpr (hl f (List.mem_cons_self ..)))
  have hub := past s.fio.hubSlots fun f hf => h f (List.mem_append_left _ hf)
  have isl := past s.fio.islSlots fun f hf => h f (List.mem_append_right _ hf)
  refine State.forRange_none _ _ _ fun k _ => ?_
  dsimp only
  simp only [isl, hub, Bool.false_eq_true, if_false]

/-- The frame of the slot at `next`, with what is known at its start (R386, R388, R393). -/
def frameAt (s : State) (next : Nat) : DownFrame :=
  let out := (List.range 16).map fun c => s.doLevel c next
  { start := next, seq := s.slotSeq next
    level := maskOf (fun c => (out.getD c (false, 0)).1) 16
    ofs := (List.range 16).foldl (fun m c => m.set c (out.getD c (false, 0)).2 0) []
    enable := s.fioEnable, lane := s.wantLane }

/-- The hub sends one frame; nothing it shows of the link changes but the frames that are open. -/
theorem isoDown_sends (quiet : s.msgs = []) (open_ : ∀ f ∈ s.fio.hubSlots ++ s.fio.islSlots, s.nextSlot < f.start + 2200) :
    ∃ tm u d, s.isoDown = { s with
      time := tm, cmpUnits := u
      fio := { s.fio with dos := d, sent := some (frameAt { s with time := tm, cmpUnits := u } s.nextSlot), activeLane := s.wantLane
                          hubSlots := s.fio.hubSlots ++ [frameAt { s with time := tm, cmpUnits := u } s.nextSlot]
                          islSlots := s.fio.islSlots ++ [frameAt { s with time := tm, cmpUnits := u } s.nextSlot] } } := by
  obtain ⟨tm, later⟩ := until_time quiet s.nextSlot
  obtain ⟨u, started⟩ := startPulses_eq { s with time := tm } s.nextSlot
  obtain ⟨d, sent⟩ := forRange_dos { s with time := tm, cmpUnits := u } (f := fun t c =>
    let r := ((List.range 16).map fun c => doLevel { s with time := tm, cmpUnits := u } c s.nextSlot).getD c (false, 0)
    t.setDos c ((t.dos c).addSent (s.nextSlot + switchDelay + ofsTicks * r.2) r.1)) (fun _ _ => ⟨_, rfl⟩) 16
  refine ⟨tm, u, d, ?_⟩
  rw [isoDown, s.closeSlots_open open_]
  dsimp only
  rw [later, started]
  dsimp only at sent
  rw [sent]
  rfl

theorem frameAt_level {next c : Nat} (h : c < 16) : (s.frameAt next).level.testBit c = (s.doLevel c next).1 := by
  have out : ((List.range 16).map fun c => s.doLevel c next).getD c (false, 0) = s.doLevel c next := by simp [List.getD, h]
  exact (maskOf_testBit (fun c => (((List.range 16).map fun c => s.doLevel c next).getD c (false, 0)).1) h).trans (congrArg Prod.fst out)

theorem doLevel_disabled {c f : Nat} (h : s.fioEnable = false) : s.doLevel c f = (false, 0) := by
  rw [doLevel, h]
  rfl

theorem frameAt_disabled {next : Nat} (h : s.fioEnable = false) : (s.frameAt next).level = 0 := by
  have outs : ((List.range 16).map fun c => s.doLevel c next) = (List.range 16).map fun _ => (false, 0) :=
    List.map_congr_left fun c _ => s.doLevel_disabled h
  rw [frameAt, outs]
  exact (by decide : maskOf (fun c => (((List.range 16).map fun _ => (false, 0)).getD c (false, 0)).1) 16 = 0)

/-- The level the host, the lanes or HOLD give an output no compare unit names (Table 13.4). -/
theorem doLevel_commanded {c f : Nat} (enabled : s.fioEnable = true) (unnamed : s.cmpNaming c = []) :
    (s.doLevel c f).1 = if s.mode = .hold then s.nth F.FIO_DO_CFG_HOLD c
      else if s.nth F.FIO_DO_CFG_SRC c then s.nth F.FIO_DO_CMD_CMD c else (s.dos c).lane := by
  simp only [doLevel, enabled, unnamed, Bool.not_true, Bool.false_eq_true, if_false]
  by_cases hold : s.mode = .hold
  · rw [if_pos hold, if_pos (by rw [hold]; rfl)]
  · rw [if_neg hold, if_neg (by simpa using hold)]
    split <;> rfl

theorem nextSlot_follows {f : DownFrame} (sent : s.fio.sent = some f) (grid : f.start % slotTicks = 0) (inTime : s.now ≤ f.start + slotTicks) :
    s.nextSlot = f.start + slotTicks := by
  rw [nextSlot, sent]
  show max ((s.now + 2000 - 1) / 2000 * 2000) (f.start + 2000) = f.start + 2000
  have : f.start % 2000 = 0 ∧ s.now ≤ f.start + 2000 := ⟨grid, inTime⟩
  omega

theorem nextSlot_first (sent : s.fio.sent = none) : s.nextSlot % slotTicks = 0 ∧ s.now ≤ s.nextSlot ∧ s.nextSlot < s.now + slotTicks := by
  rw [nextSlot, sent]
  show (s.now + 2000 - 1) / 2000 * 2000 % 2000 = 0 ∧ s.now ≤ (s.now + 2000 - 1) / 2000 * 2000 ∧ (s.now + 2000 - 1) / 2000 * 2000 < s.now + 2000
  omega

theorem slotSeq_follows {f : DownFrame} {next : Nat} (sent : s.fio.sent = some f) :
    s.slotSeq next = (f.seq + (next - f.start) / slotTicks) % 2 ^ 16 := by
  rw [slotSeq, sent]

theorem slotSeq_first {next : Nat} (sent : s.fio.sent = none) : s.slotSeq next = 0 := by
  rw [slotSeq, sent]

/-- The frame the hub sends, and that nothing else of the link changes (R386, R388, R393, R394). -/
theorem isoDown_frame (quiet : s.msgs = []) (open_ : ∀ f ∈ s.fio.hubSlots ++ s.fio.islSlots, s.nextSlot < f.start + 2200) :
    ∃ fr, s.isoDown.fio.sent = some fr ∧ s.isoDown.fio.hubSlots = s.fio.hubSlots ++ [fr] ∧ s.isoDown.fio.islSlots = s.fio.islSlots ++ [fr] ∧
      fr.enable = s.fioEnable ∧ fr.lane = s.wantLane ∧
      (∀ f, s.fio.sent = some f → fr.seq = (f.seq + (fr.start - f.start) / slotTicks) % 2 ^ 16) ∧
      (∀ f, s.fio.sent = some f → f.start % slotTicks = 0 → s.now ≤ f.start + slotTicks → fr.start = f.start + slotTicks) ∧
      (s.fio.sent = none → fr.seq = 0 ∧ fr.start % slotTicks = 0 ∧ s.now ≤ fr.start ∧ fr.start < s.now + slotTicks) ∧
      (s.fioEnable = false → fr.level = 0) ∧
      (∀ c < 16, s.fioEnable = true → s.cmpNaming c = [] →
        fr.level.testBit c = if s.mode = .hold then s.nth F.FIO_DO_CFG_HOLD c
          else if s.nth F.FIO_DO_CFG_SRC c then s.nth F.FIO_DO_CMD_CMD c else (s.dos c).lane) := by
  obtain ⟨tm, u, d, sends⟩ := s.isoDown_sends quiet open_
  refine ⟨frameAt { s with time := tm, cmpUnits := u } s.nextSlot, ?_, ?_, ?_, rfl, rfl, fun f sent => ?_, fun f sent grid inTime => ?_,
    fun sent => ⟨?_, s.nextSlot_first sent⟩, fun off => ?_, fun c hc enabled unnamed => ?_⟩
  · rw [sends]
  · rw [sends]
  · rw [sends]
  · exact slotSeq_follows { s with time := tm, cmpUnits := u } sent
  · exact s.nextSlot_follows sent grid inTime
  · exact slotSeq_first { s with time := tm, cmpUnits := u } sent
  · exact frameAt_disabled { s with time := tm, cmpUnits := u } off
  · exact (frameAt_level { s with time := tm, cmpUnits := u } hc).trans (doLevel_commanded { s with time := tm, cmpUnits := u } enabled unnamed)

/-! ### The obligation -/

section
variable {fr : DownFrame} {r : List DownFrame} {h : UpHead} {x : Nat} {e0 e1 : Option (List Byte)} {di rb limit supply : Nat}

/-- What a good up frame leaves of the link (R393 to R395). -/
theorem isoUp_good_link (slot : s.fio.hubSlots = fr :: r) (answer : s.fio.ups.find? (·.1 == fr.start) = some (x, h))
    (inTime : s.now ≤ fr.start + 2200) :
    let frame := upBytes h di rb (limit ||| s.shutMask) supply
    let g0 := s.laneUsed 0 && (s.upCauses frame e0 e1).1 == 0
    let g1 := s.laneUsed 1 && (s.upCauses frame e0 e1).2 == 0
    let rx := usedCopy frame s.fio.activeLane g0 g1 e0 e1
    let t := s.isoUp e0 e1 di rb limit supply
    g0 = true ∨ g1 = true → t.fio.linkOk = true ∧ t.fio.upBad = 0 ∧ t.fio.hubSlots = r ∧
      t.fio.upSeq = rdNat rx 1 2 ∧ t.fio.rb = rdNat rx 25 2 % 2 ^ 16 ∧ t.fio.supply = rdNat rx 29 1 % 256 ∧
      ((rdNat rx 30 1).testBit 2 = true → t.fio.isoLost = true ∧ t.fio.upGood = 0) ∧
      ((rdNat rx 30 1).testBit 2 = false →
        t.fio.upGood = min 8 (s.fio.upGood + 1) ∧ (t.fio.upGood = 8 → t.fio.isoLost = false)) := by
  intro frame g0 g1 rx t good
  obtain ⟨u, b0, b1, same, taken⟩ := s.isoUp_good (di := di) (rb := rb) (limit := limit) (supply := supply) slot answer inTime good
  have link : t.link = { FioSt.slotGood { s.link.upGone fr.start with
      hubSlots := r, slotSeen := false, upSeq := rdNat rx 1 2, upWant := some ((rdNat rx 1 2 + 1) % 2 ^ 16) } ((rdNat rx 30 1).testBit 2) with
      rb := rdNat rx 25 2 % 2 ^ 16, supply := rdNat rx 29 1 % 256 } := by
    show (s.isoUp e0 e1 di rb limit supply).link = _
    rw [taken, laneSlot_link, laneSlot_link, upData_link, upSlotGood_link, upTaken_link, same]
  generalize t = t at link
  have field : ∀ {α : Type} (f : FioSt → α), f t.link = f _ := fun f => congrArg f link
  refine ⟨field FioSt.linkOk, field FioSt.upBad, field FioSt.hubSlots, field FioSt.upSeq, field FioSt.rb, field FioSt.supply,
    fun lost => ⟨(field FioSt.isoLost).trans ?_, (field FioSt.upGood).trans ?_⟩, fun kept => ⟨(field FioSt.upGood).trans ?_, fun full => (field FioSt.isoLost).trans ?_⟩⟩
  · simp only [FioSt.slotGood, lost, Bool.true_or]
  · simp only [FioSt.slotGood, lost, if_true]
  · simp only [FioSt.slotGood, kept, Bool.false_eq_true, if_false]
    rfl
  · have upGood := (field FioSt.upGood).symm.trans full
    simp only [FioSt.slotGood, kept, Bool.false_eq_true, if_false] at upGood ⊢
    have enough : 8 ≤ (s.link.upGone fr.start).upGood + 1 := by omega
    rw [decide_eq_true enough]
    simp
end

end State

theorem usedCopy_first {frame : List Byte} {active : Nat} {g0 g1 : Bool} {e0 e1 : Option (List Byte)} (clean : e0 = some []) (good : g0 = true)
    (pref : g1 = false ∨ active = 0) : usedCopy frame active g0 g1 e0 e1 = frame := by
  have first : (g0 && (active == 0 || !g1)) = true := by
    rcases pref with h | h <;> simp [good, h]
  rw [usedCopy, if_pos first, clean]
  exact onLane_undisturbed frame

/-- Settles O58: both frames read back from their bytes, and each end of a slot changes what `State.link` shows in one known way. -/
theorem isolationLinkHub : Obligations.IsolationLinkHub := by
  unfold Obligations.IsolationLinkHub
  refine ⟨fun fr h di rb ovl supply w => ⟨rfl, copyCause_down, copyCause_up di rb ovl supply⟩, fun s => ⟨fun idle => ?_,
    fun up running quiet open_ => ?_, fun e0 e1 di rb limit supply => ⟨fun none_ => ?_, fun fr r x h slot answer inTime => ⟨fun good => ?_,
      fun bad0 bad1 => ?_⟩⟩, fun none_ => ?_, fun fr r slot quiet => ?_⟩⟩
  · refine congrArg Host.Outcome.next (if_neg ?_)
    rcases idle with h | h <;> simp [h]
  · obtain ⟨fr, facts⟩ := s.isoDown_frame quiet open_
    exact ⟨_, fr, congrArg Host.Outcome.next (if_pos (by rw [up, running]; rfl)), facts⟩
  · exact congrArg Host.Outcome.next (by rw [State.isoUp, none_])
  · obtain ⟨linkOk, upBad, slots, seq, rb', supply', lost, kept⟩ := s.isoUp_good_link slot answer inTime good
    refine ⟨_, rfl, linkOk, upBad, slots, seq, rb', supply', lost, kept, fun clean g0 pref => ?_⟩
    rw [rb', supply', seq, usedCopy_first clean g0 pref]
    refine ⟨?_, ?_, fun small => ?_⟩
    · rw [rdNat_upBytes _ _ _ _ _ (by decide), upBody_rb, Nat.mod_mod]
      exact Nat.mod_eq_of_lt rb.isLt
    · rw [rdNat_upBytes _ _ _ _ _ (by decide), upBody_supply]
      exact (Nat.mod_mod _ _).trans (Nat.mod_eq_of_lt supply.isLt)
    · rw [rdNat_upBytes _ _ _ _ _ (by decide), upBody_seq, Nat.mod_eq_of_lt small]
  · have eq := s.isoUp_bad (di := di) (rb := rb.val) (limit := limit.val) (supply := supply.val) slot answer inTime bad0 bad1
    obtain ⟨count0, count1, dis, link⟩ := s.countBad_counts (s.upCauses (upBytes h di rb.val (limit.val ||| s.shutMask) supply.val) e0 e1)
    refine ⟨_, congrArg Host.Outcome.next eq, rfl, ?_, ?_, dis, ?_, count0, count1⟩
    · exact (congrArg FioSt.hubSlots link :)
    · exact (congrArg FioSt.linkOk link :)
    · exact (congrArg FioSt.rb link :)
  · exact congrArg Host.Outcome.next (by rw [State.isoUpTimeout, none_])
  · have link := s.isoUpTimeout_link slot quiet
    refine ⟨_, rfl, ?_⟩
    generalize s.isoUpTimeout = t at link
    by_cases third : 2 ≤ s.fio.upBad
    · rw [if_pos third] at link
      have field : ∀ {α : Type} (f : FioSt → α), f t.link = f _ := fun f => congrArg f link
      refine ⟨field FioSt.linkOk, field FioSt.upGood, field FioSt.upBad, field FioSt.rb, field FioSt.hubSlots,
        fun _ => ⟨field FioSt.isoLost, (field FioSt.upWant).trans (if_pos ?_)⟩, fun few => absurd third (by omega)⟩
      show min 3 (s.fio.upBad + 1) = 3
      omega
    · rw [if_neg third] at link
      have field : ∀ {α : Type} (f : FioSt → α), f t.link = f _ := fun f => congrArg f link
      exact ⟨field FioSt.linkOk, field FioSt.upGood, field FioSt.upBad, field FioSt.rb, field FioSt.hubSlots, fun h => absurd h third,
        fun _ => field FioSt.isoLost⟩
end Sys2Proof.Machine
end

section
/-! CAN channels (R98, R326, R327, R329 to R331). -/

set_option Elab.async false

namespace Sys2Proof.Machine

/-! ### A channel's own state -/

namespace State
variable (s : State) (c : Nat)

theorem cans_setCans (v : CanSt) : (s.setCans c v).cans c = v := SMap.get_set_same ..

/-- The bus state of a channel changes, and nothing else of it; no event is taken back. -/
theorem canState_sets (st : Nat) : (s.canState c st).cans c = { s.cans c with busState := st } ∧ (s.canState c st).objs = s.objs ∧
    (∀ m ∈ s.msgs, m ∈ (s.canState c st).msgs) ∧
    ((s.cans c).busState ≠ 2 → st = 2 → ∃ m ∈ (s.canState c st).msgs, m.source = sourceNo K.CAN_BUS_OFF c) := by
  have set : ∀ t : State, t.net = (s.setCans c { s.cans c with busState := st }).net → t.cans c = { s.cans c with busState := st } := by
    intro t ht
    rw [cans, ht]
    exact cans_setCans ..
  unfold canState
  dsimp only
  generalize first : (if (s.cans c).busState = 1 ∧ st ≠ 1 then (s.setCans c { s.cans c with busState := st }).clearLive K.CAN_ERR_PASSIVE c
    else if (s.cans c).busState ≠ 1 ∧ st = 1 then (s.setCans c { s.cans c with busState := st }).raise K.CAN_ERR_PASSIVE c
      (min 255 (s.cans c).tec + min 255 (s.cans c).recErr * 2 ^ 8) 1
    else s.setCans c { s.cans c with busState := st }) = t
  have step : t.net = (s.setCans c { s.cans c with busState := st }).net ∧ t.objs = s.objs ∧ ∀ m ∈ s.msgs, m ∈ t.msgs := by
    rw [← first]
    split
    · exact ⟨rfl, rfl, fun m hm => List.mem_append_left _ hm⟩
    · split
      · exact ⟨rfl, rfl, fun m hm => List.mem_append_left _ hm⟩
      · exact ⟨rfl, rfl, fun m hm => hm⟩
  obtain ⟨net, objs, kept⟩ := step
  split
  next leaves => exact ⟨set _ net, objs, fun m hm => List.mem_append_left _ (kept m hm), fun _ two => absurd two leaves.2⟩
  next =>
    split
    · exact ⟨set _ net, objs, fun m hm => List.mem_append_left _ (kept m hm), fun _ _ => ⟨_, List.mem_append_right _ (List.mem_singleton_self _), rfl⟩⟩
    next stays => exact ⟨set _ net, objs, kept, fun other two => absurd ⟨other, two⟩ stays⟩

/-- The error counters change, and the bus state with them. -/
theorem canErrors_sets (tec rec_ : Nat) : (∃ st, (s.canErrors c tec rec_).cans c = { s.cans c with tec := tec, recErr := rec_, busState := st }) ∧
    (s.canErrors c tec rec_).objs = s.objs ∧ ∀ m ∈ s.msgs, m ∈ (s.canErrors c tec rec_).msgs := by
  unfold canErrors
  dsimp only
  split
  · exact ⟨⟨(s.cans c).busState, cans_setCans ..⟩, rfl, fun m hm => hm⟩
  · obtain ⟨sets, objs, kept, -⟩ := (s.setCans c { s.cans c with tec := tec, recErr := rec_ }).canState_sets c (if 128 ≤ tec ∨ 128 ≤ rec_ then 1 else 0)
    rw [cans_setCans] at sets
    exact ⟨⟨_, sets⟩, objs, kept⟩

theorem canEnd_ends (p : CanPending) (o : Result) : (s.canEnd c p o).cans c = { s.cans c with pending := (s.cans c).pending.erase p } ∧
    (s.canEnd c p o).msgs = s.msgs := by
  unfold canEnd
  dsimp only
  split
  next r i ph _ =>
    have frame := ((s.setCans c { s.cans c with pending := (s.cans c).pending.erase p }).finishCmd_completedInto (r, i, ph) o
      ((s.setCans c { s.cans c with pending := (s.cans c).pending.erase p }).sealAt
        (s.setCans c { s.cans c with pending := (s.cans c).pending.erase p }).now)).2
    rw [cans, frame]
    exact ⟨cans_setCans .., rfl⟩
  next => exact ⟨cans_setCans .., rfl⟩

/-! ### Arbitration -/

end State

/-- The better of two pending frames in arbitration (R327). -/
def betterOf (b : Option CanPending) (p : CanPending) : Option CanPending :=
  match b with
  | none => some p
  | some x => if canKey p.frame < canKey x.frame then some p else some x

theorem bestPending_eq (ps : List CanPending) : bestPending ps = ps.foldl betterOf none := rfl

theorem foldl_betterOf (ps : List CanPending) (x : CanPending) : ∃ p, ps.foldl betterOf (some x) = some p ∧ (p = x ∨ p ∈ ps) ∧
    canKey p.frame ≤ canKey x.frame ∧ ∀ q ∈ ps, canKey p.frame ≤ canKey q.frame := by
  induction ps generalizing x with
  | nil => exact ⟨x, rfl, Or.inl rfl, le_rfl, fun q hq => absurd hq List.not_mem_nil⟩
  | cons a ps ih =>
    rw [List.foldl_cons]
    by_cases less : canKey a.frame < canKey x.frame
    · obtain ⟨p, best, mem, le, all⟩ := ih a
      refine ⟨p, (congrArg (List.foldl betterOf · ps) (if_pos less)).trans best, ?_, by omega, fun q hq => ?_⟩
      · rcases mem with rfl | mem
        · exact Or.inr (List.mem_cons_self ..)
        · exact Or.inr (List.mem_cons_of_mem _ mem)
      · rcases List.mem_cons.mp hq with rfl | hq
        · exact le
        · exact all q hq
    · obtain ⟨p, best, mem, le, all⟩ := ih x
      refine ⟨p, (congrArg (List.foldl betterOf · ps) (if_neg less)).trans best, mem.imp_right (List.mem_cons_of_mem _), le, fun q hq => ?_⟩
      rcases List.mem_cons.mp hq with rfl | hq
      · omega
      · exact all q hq

/-- Arbitration picks a pending frame with the least identifier (R327). -/
theorem bestPending_least {ps : List CanPending} (some_ : ps ≠ []) : ∃ p, bestPending ps = some p ∧ p ∈ ps ∧ ∀ q ∈ ps, canKey p.frame ≤ canKey q.frame := by
  obtain ⟨a, r, rfl⟩ := List.exists_cons_of_ne_nil some_
  obtain ⟨p, best, mem, le, all⟩ := foldl_betterOf r a
  refine ⟨p, best, List.mem_cons.mpr mem, fun q hq => ?_⟩
  rcases List.mem_cons.mp hq with rfl | hq
  · exact le
  · exact all q hq

namespace State
variable (s : State) (c : Nat)

/-- Start of frame takes the best pending frame that may be sent (R98, R327). -/
theorem canSof_starts (on : s.canOn c = true) (sends : s.bit F.CAN_CFG_LISTEN c = false) (idle : (s.cans c).pending.any (·.sof.isSome) = false)
    (may : (s.cans c).pending.filter (fun q => q.isHost || s.mode != .replay) ≠ []) : ∃ p, p ∈ (s.cans c).pending.filter (fun q => q.isHost || s.mode != .replay) ∧
      (∀ q ∈ (s.cans c).pending.filter (fun q => q.isHost || s.mode != .replay), canKey p.frame ≤ canKey q.frame) ∧
      s.canSof c = s.setCans c { s.cans c with pending := (s.cans c).pending.map fun q => if q = p then { q with sof := some s.now } else q } := by
  obtain ⟨p, best, mem, all⟩ := bestPending_least may
  refine ⟨p, mem, all, ?_⟩
  have best : bestPending ((s.cans c).pending.filter s.maySend) = some p := best
  simp only [canSof, on, sends, idle, best, Bool.not_true, Bool.or_self, Bool.false_eq_true, if_false]

theorem canSof_idle (h : s.canOn c = false ∨ (s.cans c).pending.filter (fun q => q.isHost || s.mode != .replay) = []) : s.canSof c = s := by
  rcases h with off | none_
  · simp only [canSof, off, Bool.not_false, Bool.true_or, if_true]
  · have none_ : (s.cans c).pending.filter s.maySend = [] := none_
    simp only [canSof, none_]
    split <;> rfl
end State

namespace State
variable (s : State) (c : Nat)

/-! ### Reception -/

theorem foldl_rxq {put : State → Nat → State} (h : ∀ (s : State) k, ∃ q, (put s k).cans c = { s.cans c with rxq := q }) (ks : List Nat) (s : State) :
    ∃ q, (ks.foldl put s).cans c = { s.cans c with rxq := q } := by
  induction ks generalizing s with
  | nil => exact ⟨(s.cans c).rxq, rfl⟩
  | cons k ks ih =>
    obtain ⟨q, first⟩ := h s k
    obtain ⟨q', rest⟩ := ih (put s k)
    rw [List.foldl_cons, rest, first]
    exact ⟨q', rfl⟩

theorem foldl_rxq_kept {put : State → Nat → State} (h : ∀ (s : State) k, ∃ q, (put s k).cans c = { s.cans c with rxq := q }) (ks : List Nat)
    (s : State) : ∃ q l b, (ks.foldl put s).cans c = { s.cans c with rxq := q, rxLost := l, lostSat := b } := by
  obtain ⟨q, sets⟩ := foldl_rxq c h ks s
  exact ⟨q, (s.cans c).rxLost, (s.cans c).lostSat, sets⟩

theorem cans_setFld (f : Fld) (v i e : Nat) : (s.setFld f v i e).cans c = s.cans c := rfl

theorem cans_setBit (f : Fld) (b : Bool) (i e : Nat) : (s.setBit f b i e).cans c = s.cans c := rfl

/-- A received frame changes the receive queue and what was lost of it. -/
theorem rxqPut_sets (f : CanFrame) (sof : Nat) : ∃ q l b, (s.rxqPut c f sof).cans c = { s.cans c with rxq := q, rxLost := l, lostSat := b } := by
  unfold rxqPut
  dsimp only
  split
  · exact ⟨_, _, _, cans_setCans ..⟩
  · rw [cans_setBit, cans_setFld]
    refine foldl_rxq_kept c ?_ _ s
    exact fun _ _ => ⟨_, cans_setCans ..⟩

/-- A receive slot after one more frame (R330). -/
def nextSlotOf (v : CanSt) (k : Nat) (f : CanFrame) : CanRxSlot :=
  { v.rxSlots.get k {} with frame := some f, count := min 63 ((v.rxSlots.get k {}).count + 1) }

theorem get_nextSlotOf (v : CanSt) (k : Nat) (f : CanFrame) : (v.rxSlots.set k (nextSlotOf v k f) {}).get k {} = nextSlotOf v k f :=
  SMap.get_set_same ..

theorem rxSlotPut_sets (k : Nat) (f : CanFrame) :
    (s.rxSlotPut c k f).cans c = { s.cans c with rxSlots := (s.cans c).rxSlots.set k (nextSlotOf (s.cans c) k f) {} } := cans_setCans ..

theorem canReceive_unmatched {f : CanFrame} {sof : Nat} (none_ : s.canFilter c f = none) : s.canReceive c f sof = s := by
  rw [canReceive, none_]

theorem canReceive_slot {f : CanFrame} {sof e : Nat} (filter : s.canFilter c f = some e) (queue : s.bit F.CAN_FILTER_HOST c e = false)
    (slot : s.bit F.CAN_FILTER_LANE c e = true) : s.canReceive c f sof = s.rxSlotPut c (s.fld F.CAN_FILTER_SLOT c e) f := by
  simp only [canReceive, filter, queue, slot, Bool.false_eq_true, if_false, if_true]

theorem canReceive_queue {f : CanFrame} {sof e : Nat} (filter : s.canFilter c f = some e) (queue : s.bit F.CAN_FILTER_HOST c e = true)
    (slot : s.bit F.CAN_FILTER_LANE c e = false) : s.canReceive c f sof = s.rxqPut c f sof := by
  simp only [canReceive, filter, queue, slot, Bool.false_eq_true, if_false, if_true]

theorem canReceive_sets (f : CanFrame) (sof : Nat) : ∃ q l b k, (s.canReceive c f sof).cans c =
    { s.cans c with rxq := q, rxLost := l, lostSat := b, rxSlots := k } := by
  unfold canReceive
  split
  · exact ⟨(s.cans c).rxq, (s.cans c).rxLost, (s.cans c).lostSat, (s.cans c).rxSlots, rfl⟩
  next e _ =>
    have queued : ∃ q l b, (if s.bit F.CAN_FILTER_HOST c e then s.rxqPut c f sof else s).cans c =
        { s.cans c with rxq := q, rxLost := l, lostSat := b } := by
      split
      · exact s.rxqPut_sets c f sof
      · exact ⟨(s.cans c).rxq, (s.cans c).rxLost, (s.cans c).lostSat, rfl⟩
    obtain ⟨q, l, b, queued⟩ := queued
    dsimp only
    generalize (if s.bit F.CAN_FILTER_HOST c e then s.rxqPut c f sof else s) = t at queued
    split
    · rw [rxSlotPut_sets, queued]
      exact ⟨q, l, b, _, rfl⟩
    · exact ⟨q, l, b, (s.cans c).rxSlots, queued⟩

/-! ### Ends of attempts -/

/-- An error frame is counted (R327). -/
def errCounted (s : State) (c : Nat) (err : Bool) : State :=
  if err then
    let q := satNat 0xFFFF (s.cans c).errFrames (s.cans c).errSat
    s.setCans c { s.cans c with errFrames := q.1, errSat := q.2 }
  else s

theorem errCounted_counts (err : Bool) : ∃ n b, (s.errCounted c err).cans c = { s.cans c with errFrames := n, errSat := b } ∧
    (err = true → (s.cans c).errFrames < 0xFFFF → n = (s.cans c).errFrames + 1) ∧ (err = false → n = (s.cans c).errFrames) := by
  cases err with
  | true => exact ⟨_, _, cans_setCans .., fun _ room => satNat_counts _ room, fun no => Bool.noConfusion no⟩
  | false => exact ⟨(s.cans c).errFrames, (s.cans c).errSat, rfl, fun yes => Bool.noConfusion yes, fun _ => rfl⟩

variable {s c} {p : CanPending}

/-- An attempt that takes its frame from the channel (R98, R327). -/
theorem canFrameEnd_takes {ok err : Bool} (started : (s.cans c).pending.find? (·.sof.isSome) = some p)
    (leaves : ok = true ∨ p.aborting = none ∧ canOneShot p.frame = true) :
    ((s.canFrameEnd c ok err).cans c).pending = (s.cans c).pending.erase p := by
  obtain ⟨n, b, counted, -, -⟩ := s.errCounted_counts c err
  have eq : ∃ (t : State) (o : Result), (t.cans c).pending = ((s.errCounted c err).cans c).pending ∧ s.canFrameEnd c ok err = t.canEnd c p o := by
    cases ok with
    | true =>
      refine ⟨if s.bit F.CAN_CFG_LOOPBACK c then (s.errCounted c err).canReceive c p.frame (p.sof.getD 0) else s.errCounted c err,
        done (result := p.sof.getD 0), ?_, by simp only [canFrameEnd, started, if_true]; rfl⟩
      split
      · obtain ⟨q, l, b, k, received⟩ := (s.errCounted c err).canReceive_sets c p.frame (p.sof.getD 0)
        rw [received]
      · rfl
    | false =>
      obtain ⟨kept, once⟩ := leaves.resolve_left (by decide)
      exact ⟨s.errCounted c err, stopped 0x1, rfl, by simp only [canFrameEnd, started, kept, once, Bool.false_eq_true, if_false, if_true]; rfl⟩
  obtain ⟨t, o, pending, eq⟩ := eq
  rw [eq, (t.canEnd_ends c p o).1, pending, counted]

/-- A failed attempt whose frame stays pending (R327). -/
theorem canFrameEnd_keeps {err : Bool} (started : (s.cans c).pending.find? (·.sof.isSome) = some p) (kept : p.aborting = none)
    (again : canOneShot p.frame = false) : ∃ n b, (s.canFrameEnd c false err).cans c = { s.cans c with
      errFrames := n, errSat := b, pending := (s.cans c).pending.map fun q => if q = p then { q with sof := none } else q } ∧
      (err = true → (s.cans c).errFrames < 0xFFFF → n = (s.cans c).errFrames + 1) ∧ (err = false → n = (s.cans c).errFrames) := by
  obtain ⟨n, b, counted, facts⟩ := s.errCounted_counts c err
  refine ⟨n, b, ?_, facts⟩
  have eq : s.canFrameEnd c false err = (s.errCounted c err).setCans c { (s.errCounted c err).cans c with
      pending := ((s.errCounted c err).cans c).pending.map fun q => if q = p then { q with sof := none } else q } := by
    simp only [canFrameEnd, started, kept, again, Bool.false_eq_true, if_false]
    rfl
  rw [eq, cans_setCans, counted]

end State


namespace State
variable (s : State) (c : Nat)

/-! ### The receive queue -/

/-- The first entry of a frame in the receive queue (R331). -/
def rxEntry (f : CanFrame) (sof : Nat) : Nat := canHeader f + sof % 2 ^ 64 * 2 ^ 128 + (1 - 1) * 2 ^ 192 + f.data % 2 ^ 512 * 2 ^ 256

theorem canHeader_lt (f : CanFrame) : canHeader f < 2 ^ 128 := by
  unfold canHeader
  have := Nat.mod_lt f.id (show 0 < 2 ^ 31 by decide)
  have := Nat.mod_lt f.format (show 0 < 2 ^ 8 by decide)
  have := Nat.mod_lt f.flags (show 0 < 2 ^ 4 by decide)
  have := Nat.mod_lt f.len (show 0 < 2 ^ 16 by decide)
  have := Nat.mod_lt f.sdt (show 0 < 2 ^ 8 by decide)
  have := Nat.mod_lt f.vcid (show 0 < 2 ^ 8 by decide)
  have := Nat.mod_lt f.af (show 0 < 2 ^ 32 by decide)
  omega

theorem rxEntry_parts (f : CanFrame) (sof : Nat) : rxEntry f sof % 2 ^ 192 = canHeader f + sof % 2 ^ 64 * 2 ^ 128 ∧
    rxEntry f sof / 2 ^ 256 = f.data % 2 ^ 512 := by
  have header := canHeader_lt f
  have stamp := Nat.mod_lt sof (show 0 < 2 ^ 64 by decide)
  generalize h : canHeader f = x at header
  generalize g : sof % 2 ^ 64 = y at stamp
  generalize d : f.data % 2 ^ 512 = z
  have eq : rxEntry f sof = (x + y * 2 ^ 128) + z * 2 ^ 256 := by
    rw [rxEntry, h, g, d]
    omega
  rw [eq]
  omega

section
variable {s c} {f : CanFrame} {sof : Nat}

/-- A frame of up to 64 bytes enters the receive queue at the producer position (R331). -/
theorem rxqPut_enters (short : f.len ≤ 64) (room : posDist 256 (s.fld F.CAN_RXCTL_CONS c, s.bit F.CAN_RXCTL_CONS_PHASE c)
      (s.fld F.CAN_RXCTL_PROD c, s.bit F.CAN_RXCTL_PROD_PHASE c) < 256) :
    s.rxqPut c f sof = ((s.setCans c { s.cans c with rxq := (s.cans c).rxq.set (s.fld F.CAN_RXCTL_PROD c % 256) (rxEntry f sof) 0 }).setFld
      F.CAN_RXCTL_PROD (posNext 256 (s.fld F.CAN_RXCTL_PROD c, s.bit F.CAN_RXCTL_PROD_PHASE c)).1 c).setBit F.CAN_RXCTL_PROD_PHASE
        (posNext 256 (s.fld F.CAN_RXCTL_PROD c, s.bit F.CAN_RXCTL_PROD_PHASE c)).2 c := by
  have one : rxEntries f.len = 1 := by rw [rxEntries]; omega
  have fits : ¬256 < posDist 256 (s.fld F.CAN_RXCTL_CONS c, s.bit F.CAN_RXCTL_CONS_PHASE c)
      (s.fld F.CAN_RXCTL_PROD c, s.bit F.CAN_RXCTL_PROD_PHASE c) + 1 := by omega
  simp only [rxqPut, one, if_neg fits, List.range_one, List.foldl_cons, List.foldl_nil, Nat.add_zero, if_true]
  rfl

/-- What a frame of up to 64 bytes leaves of the queue. -/
theorem rxqPut_shows (short : f.len ≤ 64) (room : posDist 256 (s.fld F.CAN_RXCTL_CONS c, s.bit F.CAN_RXCTL_CONS_PHASE c)
      (s.fld F.CAN_RXCTL_PROD c, s.bit F.CAN_RXCTL_PROD_PHASE c) < 256) :
    (s.rxqPut c f sof).fld F.CAN_RXCTL_PROD c = (s.fld F.CAN_RXCTL_PROD c + 1) % 256 ∧
      ((s.rxqPut c f sof).cans c).rxq.get (s.fld F.CAN_RXCTL_PROD c) 0 = rxEntry f sof := by
  have small : s.fld F.CAN_RXCTL_PROD c < 256 := s.fld_lt _ _ _
  rw [rxqPut_enters short room]
  refine ⟨?_, ?_⟩
  · rw [setBit, fld_setFld_bits (f := F.CAN_RXCTL_PROD_PHASE) (g := F.CAN_RXCTL_PROD) _ _ _ _ rfl (by decide), fld_setFld_same]
    show (posNext 256 (s.fld F.CAN_RXCTL_PROD c, s.bit F.CAN_RXCTL_PROD_PHASE c)).1 % 2 ^ 8 = _
    rw [posNext]
    split <;> dsimp only at * <;> omega
  · rw [cans_setBit, cans_setFld, cans_setCans, Nat.mod_eq_of_lt small]
    exact SMap.get_set_same ..

/-- A frame for which the receive queue has no room is lost and counted (R331). -/
theorem rxqPut_loses (full : 256 ≤ posDist 256 (s.fld F.CAN_RXCTL_CONS c, s.bit F.CAN_RXCTL_CONS_PHASE c)
      (s.fld F.CAN_RXCTL_PROD c, s.bit F.CAN_RXCTL_PROD_PHASE c)) : ∃ n b, (s.rxqPut c f sof).cans c = { s.cans c with rxLost := n, lostSat := b } ∧
    ((s.cans c).rxLost < 0xFFFF → n = (s.cans c).rxLost + 1) ∧ ∃ m ∈ (s.rxqPut c f sof).msgs, m.source = sourceNo K.CAN_RX_LOST c := by
  have over_ : 256 < posDist 256 (s.fld F.CAN_RXCTL_CONS c, s.bit F.CAN_RXCTL_CONS_PHASE c)
      (s.fld F.CAN_RXCTL_PROD c, s.bit F.CAN_RXCTL_PROD_PHASE c) + rxEntries f.len := by rw [rxEntries]; omega
  simp only [rxqPut, if_pos over_]
  exact ⟨_, _, cans_setCans .., satNat_counts _, _, List.mem_append_right _ (List.mem_singleton_self _), rfl⟩

end
end State


namespace State
variable {s : State} {c : Fin 4}

/-! ### Commands -/

theorem frameEnd_of_unmeasured (free : s.per.measured ≠ some s.now) (ok err : Bool) (tec rec_ : Fin 512) : exec (.canFrameEnd c ok err tec rec_) s =
    if (s.cans c.val).pending.any (·.sof.isSome) then .next ((s.canFrameEnd c.val ok err).canErrors c.val tec.val rec_.val) else .next s := by
  have eq : exec (.canFrameEnd c ok err tec rec_) s = if (s.inputTick.cans c.val).pending.any (·.sof.isSome) then
      .next ((s.inputTick.canFrameEnd c.val ok err).canErrors c.val tec.val rec_.val) else .next s := rfl
  rw [eq, inputTick_of_unmeasured free]

theorem frameRx_of_unmeasured (free : s.per.measured ≠ some s.now) (f : CanFrame) (dur : Nat) (rec_ : Fin 512) : exec (.canFrameRx c f dur rec_) s =
    if s.canOn c.val && !s.bit F.CAN_CFG_LOOPBACK c.val && s.canFormat c.val f.format && canLenOk f.format f.len then
      .next ((s.canReceive c.val f (s.now - dur)).canErrors c.val (s.cans c.val).tec rec_.val) else .next s := by
  have eq : exec (.canFrameRx c f dur rec_) s =
      if s.inputTick.canOn c.val && !s.inputTick.bit F.CAN_CFG_LOOPBACK c.val && s.inputTick.canFormat c.val f.format && canLenOk f.format f.len then
        .next ((s.inputTick.canReceive c.val f (s.inputTick.now - dur)).canErrors c.val (s.inputTick.cans c.val).tec rec_.val) else .next s := rfl
  rw [eq, inputTick_of_unmeasured free]

/-- A frame the channel hears is routed, and the error counters follow it (R329). -/
theorem frameRx_hears (free : s.per.measured ≠ some s.now) {f : CanFrame} (on : s.canOn c.val = true) (hears : s.bit F.CAN_CFG_LOOPBACK c.val = false)
    (format : s.canFormat c.val f.format = true) (length : canLenOk f.format f.len = true) (dur : Nat) (rec_ : Fin 512) :
    exec (.canFrameRx c f dur rec_) s = .next ((s.canReceive c.val f (s.now - dur)).canErrors c.val (s.cans c.val).tec rec_.val) := by
  rw [frameRx_of_unmeasured free, if_pos (by rw [on, hears, format, length]; rfl)]

theorem any_of_find {ps : List CanPending} {p : CanPending} (h : ps.find? (·.sof.isSome) = some p) : ps.any (·.sof.isSome) = true :=
  List.any_eq_true.mpr ⟨p, List.mem_of_find?_eq_some h, List.find?_some (p := fun q : CanPending => q.sof.isSome) h⟩

/-- What a failed attempt without an error frame leaves of the channel. -/
theorem canFrameEnd_fails (s : State) (c : Nat) : ∃ ps, (s.canFrameEnd c false false).cans c = { s.cans c with pending := ps } := by
  unfold canFrameEnd
  dsimp only
  split
  · exact ⟨(s.cans c).pending, rfl⟩
  next p _ =>
    simp only [Bool.false_eq_true, if_false]
    split
    · exact ⟨_, (s.canEnd_ends c p _).1⟩
    · split
      · exact ⟨_, (s.canEnd_ends c p _).1⟩
      · exact ⟨_, cans_setCans ..⟩

/-- Every pending frame of a channel ends. -/
theorem foldl_canEnd (c : Nat) (o : Result) (ps : List CanPending) (s : State) (pending : (s.cans c).pending = ps) :
    (ps.foldl (fun s p => s.canEnd c p o) s).cans c = { s.cans c with pending := [] } ∧ (ps.foldl (fun s p => s.canEnd c p o) s).msgs = s.msgs := by
  induction ps generalizing s with
  | nil => exact ⟨congrArg (fun ps => { s.cans c with pending := ps }) pending, rfl⟩
  | cons p ps ih =>
    obtain ⟨ends, kept⟩ := s.canEnd_ends c p o
    have rest : ((s.canEnd c p o).cans c).pending = ps := by
      rw [ends]
      show (s.cans c).pending.erase p = ps
      rw [pending, List.erase_cons_head]
    obtain ⟨all, msgs⟩ := ih _ rest
    rw [List.foldl_cons, all, msgs, ends, kept]
    exact ⟨rfl, rfl⟩

/-- Bus-off (R327). -/
theorem canBusOff_ends (on : s.canOn c.val = true) : ((s.canBusOff c.val).cans c.val).busState = 2 ∧
    (s.bit F.CAN_CFG_AUTO_REC c.val = false → ((s.canBusOff c.val).cans c.val).pending = []) ∧
    ∃ m ∈ (s.canBusOff c.val).msgs, m.source = sourceNo K.CAN_BUS_OFF c.val := by
  have active : (s.cans c.val).busState < 2 := by
    rw [canOn, Bool.and_eq_true, Bool.and_eq_true] at on
    exact of_decide_eq_true on.1.2
  obtain ⟨ps, failed⟩ := s.canFrameEnd_fails c.val
  obtain ⟨sets, -, -, raised⟩ := (s.canFrameEnd c.val false false).canState_sets c.val 2
  have bus := raised (by rw [failed]; exact Nat.ne_of_lt active) rfl
  rw [canBusOff]
  generalize (s.canFrameEnd c.val false false).canState c.val 2 = t at sets bus
  cases auto : s.bit F.CAN_CFG_AUTO_REC c.val with
  | true =>
    simp only [if_true]
    exact ⟨by rw [sets], fun no => Bool.noConfusion no, bus⟩
  | false =>
    simp only [Bool.false_eq_true, if_false]
    obtain ⟨ended, kept⟩ := foldl_canEnd c.val (stopped 0x2) _ t rfl
    rw [ended, kept]
    exact ⟨by rw [sets], fun _ => rfl, bus⟩

/-- Integration, or recovery from bus-off, completes (R327). -/
theorem canIntegrates (v : CanSt) : let t := (s.setCans c.val { v with tec := 0, recErr := 0 }).canState c.val 0
    (t.cans c.val).busState = 0 ∧ (t.cans c.val).tec = 0 ∧ (t.cans c.val).recErr = 0 ∧ (t.cans c.val).pending = v.pending := by
  obtain ⟨sets, -⟩ := (s.setCans c.val { v with tec := 0, recErr := 0 }).canState_sets c.val 0
  dsimp only
  rw [sets, cans_setCans]
  exact ⟨rfl, rfl, rfl, rfl⟩

end State

/-! ### CAN_TX -/

theorem canCfg_id (c : Fin 4) : objOf (0x9000 + 64 * c.val) = some .canCfg ∧ instOf? (0x9000 + 64 * c.val) .canCfg = some c.val := by
  decide +revert +kernel

/-- The descriptor of a CAN_TX. -/
def canDesc (src : Src) (c : Fin 4) (len data : Nat) : Desc := { srcDesc src 0x20 (0x9000 + 64 * c.val) with
  length := len, indirect := decide (32 < len), inline := if 32 < len then 0 else data % 2 ^ (8 * len) }

section
variable {s b : State} {src : Src}

theorem canDesc_held (c : Fin 4) (len data : Nat) : (s.held src (canDesc src c len data) data).desc = canDesc src c len data ∧
    (s.held src (canDesc src c len data) data).data = data % 2 ^ (8 * len) := by
  refine ⟨rfl, ?_⟩
  show (if decide (32 < len) = true then data else if 32 < len then 0 else data % 2 ^ (8 * len)) % 2 ^ (8 * len) = _
  by_cases long : 32 < len
  · rw [if_pos (decide_eq_true long)]
  · rw [if_neg (by simpa using long), if_neg long, Nat.mod_mod]

theorem State.effect_canTx (t : State) (c : Fin 4) (len data lands : Nat) :
    t.effect (s.held src (canDesc src c len data) data) lands = .ok (t.canTx c.val (data % 2 ^ (8 * len)) len (s.refOf src)) := by
  obtain ⟨named, inst⟩ := canCfg_id c
  obtain ⟨desc, bytes⟩ := canDesc_held (s := s) (src := src) c len data
  have op : (canDesc src c len data).opcode = 0x20 := rfl
  simp only [State.effect, desc, bytes, op]
  exact State.withObj_of named inst _
end


section
variable {s b : State} {src : Src} {c : Fin 4} {len data : Nat}

/-- CAN_TX of a well-formed frame joins the channel's pending frames (R326). -/
theorem Begun.canTx_joins (h : Begun s src (canDesc src c len data) data b) (loop : b.loopMode = true) (free : b.fenced (.can c.val) = false)
    (on : b.bit F.CAN_CFG_EN c.val = true) (sends : b.bit F.CAN_CFG_LISTEN c.val = false) (sound : canReserved (data % 2 ^ (8 * len)) = false)
    (format : b.canFormat c.val (canFrameOf (data % 2 ^ (8 * len))).format = true)
    (ok : canLenOk (canFrameOf (data % 2 ^ (8 * len))).format (canFrameOf (data % 2 ^ (8 * len))).len = true)
    (size : (canFrameOf (data % 2 ^ (8 * len))).len + 16 = len) (room : ((s.cans c.val).pending.filter CanPending.isHost).length < 16) :
    ∃ t p, outOf (s.runDesc src (canDesc src c len data) data 0) = .next t ∧ t.runsOn src ∧
      (t.cans c.val).pending = (s.cans c.val).pending ++ [p] ∧ p.frame = canFrameOf (data % 2 ^ (8 * len)) := by
  have same : b.cans c.val = s.cans c.val := by rw [State.cans, State.cans, h.net]
  have mode : (b.mode == .configure || b.mode == .commission || b.mode == .run || b.mode == .hold) = true := by
    rw [State.loopMode] at loop
    revert loop
    cases b.mode <;> decide
  obtain ⟨p, frame, joins⟩ : ∃ p : CanPending, p.frame = canFrameOf (data % 2 ^ (8 * len)) ∧ b.canTx c.val (data % 2 ^ (8 * len)) len (s.refOf src) =
      (b.setCans c.val { b.cans c.val with pending := (b.cans c.val).pending ++ [p] }, none) := by
    refine ⟨{ owner := .host (s.refOf src).1 (s.refOf src).2.1 (s.refOf src).2.2, frame := canFrameOf (data % 2 ^ (8 * len)) }, rfl, ?_⟩
    simp only [State.canTx, mode, free, on, sends, sound, format, ok, size, same, Nat.not_le.mpr room, Bool.not_true, Bool.or_self, bne_self_eq_false,
      Bool.false_eq_true, if_false]
  have effect : ∀ lands, b.effect (s.held src (canDesc src c len data) data) lands = _ := fun lands =>
    (State.effect_canTx b c len data lands).trans (congrArg Except.ok joins)
  obtain ⟨runs, on_⟩ := h.runs_on 0 (effect _) (State.carries_of_cmds h.carries rfl)
  refine ⟨_, p, by rw [runs]; rfl, on_, ?_, frame⟩
  show ((b.setCans c.val { b.cans c.val with pending := (b.cans c.val).pending ++ [p] }).cans c.val).pending = _
  rw [State.cans_setCans]
  exact congrArg (fun v : CanSt => v.pending ++ [p]) same

/-- CAN_TX on a disabled channel (R326). -/
theorem Begun.canTx_refused (h : Begun s src (canDesc src c len data) data b) (running : s.per.running = true) (loop : b.loopMode = true)
    (free : b.fenced (.can c.val) = false) (off : b.bit F.CAN_CFG_EN c.val = false) :
    ∃ t, outOf (s.runDesc src (canDesc src c len data) data 0) = .next t ∧ t.endedWith src 0x07 ∧ t.net = s.net := by
  have mode : (b.mode == .configure || b.mode == .commission || b.mode == .run || b.mode == .hold) = true := by
    rw [State.loopMode] at loop
    revert loop
    cases b.mode <;> decide
  have refuses : b.canTx c.val (data % 2 ^ (8 * len)) len (s.refOf src) = (b, some (refused 0x1)) := by
    simp only [State.canTx, mode, free, off, Bool.not_true, Bool.not_false, Bool.true_or, Bool.false_eq_true, if_false, if_true]
  obtain ⟨runs, ended⟩ := h.ends_at_once running 0 ((State.effect_canTx b c len data 0).trans (congrArg Except.ok refuses)) rfl rfl
  exact ⟨_, runs, ended, h.net⟩
end

theorem exec_canTx (src : Src) (c : Fin 4) (len : Fin 2065) (data : Nat) (s : State) :
    exec (.canTx src c len data) s = outOf (s.runDesc src (canDesc src c len.val data) data 0) := rfl

/-- Settles O57: every operation on a channel is known by what it does to `State.cans`; commands ended on the way touch no channel. -/
theorem canChannels : Obligations.CanChannels := by
  unfold Obligations.CanChannels
  refine ⟨fun src c len data s => ?_, fun c s free => ⟨fun idle => ?_, fun on sends idle some_ => ?_, fun ok err tec rec_ => ⟨fun none_ => ?_,
    fun p started => ⟨fun leaves => ?_, fun failed kept again => ?_⟩⟩, fun f dur rec_ => ⟨fun deaf => ?_, fun on hears format length => ⟨fun none_ => ?_,
      fun e filter queue slot => ?_, fun e filter queue slot short => ⟨fun room => ?_, fun full => ?_⟩⟩⟩, fun on => ?_, fun on => ⟨fun state => ?_, fun two off => ?_⟩⟩⟩
  · intro d b v f acts running loop free
    obtain ⟨b', h⟩ := begun_of acts
    rw [show b = b' from h.eq] at loop free ⊢
    rw [exec_canTx]
    exact ⟨fun on sends sound format ok size room => h.canTx_joins loop free on sends sound format ok size room,
      fun off => h.canTx_refused running loop free off⟩
  · exact congrArg Host.Outcome.next (s.canSof_idle c.val idle)
  · obtain ⟨p, mem, least, starts⟩ := s.canSof_starts c.val on sends idle some_
    refine ⟨_, p, congrArg Host.Outcome.next starts, mem, least, ?_, rfl⟩
    rw [State.cans_setCans]
  · rw [State.frameEnd_of_unmeasured free, if_neg (by rw [none_]; decide)]
  · rw [State.frameEnd_of_unmeasured free, if_pos (State.any_of_find started)]
    obtain ⟨⟨st, sets⟩, -⟩ := (s.canFrameEnd c.val ok err).canErrors_sets c.val tec.val rec_.val
    refine ⟨_, rfl, ?_, ?_, ?_⟩
    · rw [sets]
      exact State.canFrameEnd_takes started leaves
    · rw [sets]
    · rw [sets]
  · subst failed
    rw [State.frameEnd_of_unmeasured free, if_pos (State.any_of_find started)]
    obtain ⟨⟨st, sets⟩, -⟩ := (s.canFrameEnd c.val false err).canErrors_sets c.val tec.val rec_.val
    obtain ⟨n, b, keeps, more, same⟩ := State.canFrameEnd_keeps (err := err) started kept again
    refine ⟨_, rfl, ?_, fun bad room => ?_, fun good => ?_⟩
    · rw [sets, keeps]
    · rw [sets, keeps]
      exact more bad room
    · rw [sets, keeps]
      exact same good
  · rw [State.frameRx_of_unmeasured free, if_neg]
    rcases deaf with h | h <;> simp [h]
  · rw [State.frameRx_hears free on hears format length, State.canReceive_unmatched _ _ none_]
    obtain ⟨⟨st, sets⟩, objs, -⟩ := s.canErrors_sets c.val (s.cans c.val).tec rec_.val
    exact ⟨_, rfl, by rw [sets], by rw [sets], objs⟩
  · rw [State.frameRx_hears free on hears format length, State.canReceive_slot _ _ filter queue slot]
    intro k
    obtain ⟨⟨st, sets⟩, objs, -⟩ := (s.rxSlotPut c.val k f).canErrors_sets c.val (s.cans c.val).tec rec_.val
    rw [State.rxSlotPut_sets] at sets
    refine ⟨_, rfl, ?_, ?_, ?_, objs⟩
    · rw [sets]
      exact congrArg CanRxSlot.frame (State.get_nextSlotOf (s.cans c.val) k f)
    · rw [sets]
      exact congrArg CanRxSlot.count (State.get_nextSlotOf (s.cans c.val) k f)
    · rw [sets]
  · rw [State.frameRx_hears free on hears format length, State.canReceive_queue _ _ filter queue slot]
    obtain ⟨prod, entry⟩ := State.rxqPut_shows (f := f) (sof := s.now - dur) short room
    obtain ⟨header, bytes⟩ := State.rxEntry_parts f (s.now - dur)
    obtain ⟨⟨st, sets⟩, objs, -⟩ := (s.rxqPut c.val f (s.now - dur)).canErrors_sets c.val (s.cans c.val).tec rec_.val
    refine ⟨_, rfl, ?_, ?_, ?_⟩
    · rw [(SameObjs.of_objs objs []).fld (by decide) (by omega)]
      exact prod
    · rw [sets]
      exact (congrArg (· % 2 ^ 192) entry).trans header
    · rw [sets]
      exact (congrArg (· / 2 ^ 256) entry).trans bytes
  · rw [State.frameRx_hears free on hears format length, State.canReceive_queue _ _ filter queue slot]
    obtain ⟨n, b, loses, counts, m, mem, source⟩ := State.rxqPut_loses (f := f) (sof := s.now - dur) full
    obtain ⟨⟨st, sets⟩, -, kept⟩ := (s.rxqPut c.val f (s.now - dur)).canErrors_sets c.val (s.cans c.val).tec rec_.val
    refine ⟨_, rfl, ?_, fun few => ?_, m, kept m mem, source⟩
    · rw [sets, loses]
    · rw [sets, loses]
      exact counts few
  · exact ⟨_, if_pos on, State.canBusOff_ends on⟩
  · have ready : (s.bit F.CAN_CFG_EN c.val && ((s.cans c.val).busState == 3 || ((s.cans c.val).busState == 2 && s.bit F.CAN_CFG_AUTO_REC c.val))) = true := by
      rcases state with h | ⟨h, auto⟩
      · rw [on, h]
        rfl
      · rw [on, h, auto]
        rfl
    exact ⟨_, if_pos ready, State.canIntegrates _⟩
  · exact if_neg (by simp [on, two, off])

end Sys2Proof.Machine
end

section
/-! The module as a PTP instance: port states and the servo's states (R309, R312, R313). -/

set_option Elab.async false

namespace Sys2Proof.Machine

namespace State
variable (s : State) (p : Nat)

theorem eths_setEths_same (v : EthSt) : (s.setEths p v).eths p = v := SMap.get_set_same ..

theorem eths_setEths_ne {p q : Nat} (v : EthSt) (h : q ≠ p) : (s.setEths p v).eths q = s.eths q := by
  rw [eths, setEths, SMap.get_set_ne h, eths]

theorem eths_of_net {s t : State} (h : t.net = s.net) (q : Nat) : t.eths q = s.eths q := by rw [eths, h, eths]

end State

/-- `t` follows `s` by steps of the protocol: no foreign clock, link or speed of a port changes, no event is taken back, and a change of
grandmaster and an entry of HOLDOVER have raised their events (R309, Table 10.6). -/
structure State.ptpInto (s t : State) : Prop where
  foreign : ∀ q, (t.eths q).foreign = (s.eths q).foreign
  link : ∀ q, (t.eths q).link = (s.eths q).link ∧ (t.eths q).speed = (s.eths q).speed
  ptp : t.time.ptp = s.time.ptp
  msgs : ∀ m ∈ s.msgs, m ∈ t.msgs
  gm : t.time.gmId ≠ s.time.gmId → ∃ m ∈ t.msgs, m.source = sourceNo K.GM_CHANGE 0
  holdover : t.time.servo = 3 → s.time.servo ≠ 3 → ∃ m ∈ t.msgs, m.source = sourceNo K.HOLDOVER 0

namespace State.ptpInto

theorem refl (s : State) : s.ptpInto s :=
  ⟨fun _ => rfl, fun _ => ⟨rfl, rfl⟩, rfl, fun _ h => h, fun h => absurd rfl h, fun h h' => absurd h h'⟩

theorem trans {s t u : State} (h : s.ptpInto t) (h' : t.ptpInto u) : s.ptpInto u where
  foreign q := (h'.foreign q).trans (h.foreign q)
  link q := ⟨(h'.link q).1.trans (h.link q).1, (h'.link q).2.trans (h.link q).2⟩
  ptp := h'.ptp.trans h.ptp
  msgs m hm := h'.msgs m (h.msgs m hm)
  gm changed := by
    by_cases first : t.time.gmId = s.time.gmId
    · exact h'.gm (first ▸ changed)
    · obtain ⟨m, hm, source⟩ := h.gm first
      exact ⟨m, h'.msgs m hm, source⟩
  holdover three other := by
    by_cases first : t.time.servo = 3
    · obtain ⟨m, hm, source⟩ := h.holdover first other
      exact ⟨m, h'.msgs m hm, source⟩
    · exact h'.holdover three first

theorem foldl {α : Type} {f : State → α → State} (h : ∀ s a, State.ptpInto s (f s a)) (l : List α) (s : State) : s.ptpInto (l.foldl f s) := by
  induction l generalizing s with
  | nil => exact .refl s
  | cons a l ih => exact (h s a).trans (ih _)

end State.ptpInto

namespace State
variable (s : State) (p : Nat)

/-- A change of a port's own state that keeps its foreign clocks, its link and its speed. -/
theorem setEths_ptpInto {v : EthSt} (foreign : v.foreign = (s.eths p).foreign) (link : v.link = (s.eths p).link) (speed : v.speed = (s.eths p).speed) :
    s.ptpInto (s.setEths p v) := by
  refine ⟨fun q => ?_, fun q => ?_, rfl, fun _ h => h, fun h => absurd rfl h, fun h h' => absurd h h'⟩
  · by_cases here : q = p
    · rw [here, eths_setEths_same, foreign]
    · rw [eths_setEths_ne _ _ here]
  · by_cases here : q = p
    · rw [here, eths_setEths_same]
      exact ⟨link, speed⟩
    · rw [eths_setEths_ne _ _ here]
      exact ⟨rfl, rfl⟩

/-- A step that changes no port: what it must show of the clocks. -/
theorem ptpInto_of_net {s t : State} (net : t.net = s.net) (ptp : t.time.ptp = s.time.ptp) (msgs : ∀ m ∈ s.msgs, m ∈ t.msgs)
    (gm : t.time.gmId ≠ s.time.gmId → ∃ m ∈ t.msgs, m.source = sourceNo K.GM_CHANGE 0)
    (holdover : t.time.servo = 3 → s.time.servo ≠ 3 → ∃ m ∈ t.msgs, m.source = sourceNo K.HOLDOVER 0) : s.ptpInto t :=
  ⟨fun q => by rw [eths_of_net net], fun q => by rw [eths_of_net net]; exact ⟨rfl, rfl⟩, ptp, msgs, gm, holdover⟩

theorem enterHoldover_ptpInto : s.ptpInto s.enterHoldover :=
  ptpInto_of_net rfl rfl (fun _ h => List.mem_append_left _ h) (fun h => absurd rfl h)
    fun _ _ => ⟨_, List.mem_append_right _ (List.mem_singleton_self _), rfl⟩

theorem enterSlave_ptpInto : s.ptpInto (s.enterSlave p) := by
  rw [enterSlave]
  split
  · refine ptpInto_of_net rfl rfl (fun _ h => List.mem_append_left _ h) (fun h => absurd rfl h) fun three _ => ?_
    dsimp only at three
    split at three <;> contradiction
  · refine ptpInto_of_net rfl rfl (fun _ h => h) (fun h => absurd rfl h) fun three _ => ?_
    dsimp only at three
    split at three <;> contradiction

theorem enterFree_ptpInto : s.ptpInto s.enterFree := by
  rw [enterFree]
  split
  · exact ptpInto_of_net rfl rfl (fun _ h => List.mem_append_left _ h) (fun h => absurd rfl h) fun three _ => absurd (show 0 = 3 from three) (by decide)
  · exact ptpInto_of_net rfl rfl (fun _ h => h) (fun h => absurd rfl h) fun three _ => absurd (show 0 = 3 from three) (by decide)

theorem setPortState_ptpInto (st : Nat) (free : Bool) : s.ptpInto (s.setPortState p st free) := by
  simp only [setPortState]
  have first : ∀ {aw h ms}, s.ptpInto (s.setEths p { s.eths p with portState := st, awaited := aw, syncHalf := h, msDiff := ms }) :=
    fun {_ _ _} => setEths_ptpInto s p rfl rfl rfl
  split
  · split
    · exact first
    · exact first.trans (enterSlave_ptpInto _ p)
  · split
    · split
      · exact first.trans (enterFree_ptpInto _)
      · exact first.trans (enterHoldover_ptpInto _)
    · exact first

theorem follow1588_ptpInto (r : Recommend) : s.ptpInto (s.follow1588 p r) := by
  cases r with
  | listen => exact s.setPortState_ptpInto p psListening false
  | passive => exact s.setPortState_ptpInto p psPassive false
  | slave r => exact (s.setPortState_ptpInto p psSlave false).trans (setEths_ptpInto _ p rfl rfl rfl)
  | master w free =>
    simp only [follow1588]
    split
    · exact setPortState_ptpInto ..
    · split
      · exact .refl s
      · exact (s.setPortState_ptpInto p psPreMaster free).trans (setEths_ptpInto _ p rfl rfl rfl)

theorem setGm_ptpInto (gm : Nat) : s.ptpInto (s.setGm gm) := by
  rw [setGm]
  split
  · exact .refl s
  · exact ptpInto_of_net rfl rfl (fun _ h => List.mem_append_left _ h)
      (fun _ => ⟨_, List.mem_append_right _ (List.mem_singleton_self _), rfl⟩) fun three other => absurd three other

theorem noteGm_ptpInto : s.ptpInto s.noteGm := by
  simp only [noteGm]
  split
  · split
    · exact setGm_ptpInto ..
    · exact .refl s
  · split
    · exact setGm_ptpInto ..
    · exact .refl s

theorem decide1588_ptpInto : s.ptpInto s.decide1588 :=
  (ptpInto.foldl (f := fun s (x : Nat × Recommend) => s.follow1588 x.1 x.2) (fun s x => s.follow1588_ptpInto x.1 x.2) _ s).trans (noteGm_ptpInto _)

/-- The link of every port, and its speed, are the same. -/
def keepsLinks (s t : State) : Prop := ∀ q, (t.eths q).link = (s.eths q).link ∧ (t.eths q).speed = (s.eths q).speed

theorem keepsLinks.trans {s t u : State} (h : s.keepsLinks t) (h' : t.keepsLinks u) : s.keepsLinks u := fun q =>
  ⟨(h' q).1.trans (h q).1, (h' q).2.trans (h q).2⟩

theorem ptpInto.links {s t : State} (h : s.ptpInto t) : s.keepsLinks t := h.link

theorem setEths_keepsLinks {v : EthSt} (link : v.link = (s.eths p).link) (speed : v.speed = (s.eths p).speed) : s.keepsLinks (s.setEths p v) := by
  intro q
  by_cases here : q = p
  · rw [here, eths_setEths_same]
    exact ⟨link, speed⟩
  · rw [eths_setEths_ne _ _ here]
    exact ⟨rfl, rfl⟩

theorem portConfigured_keepsLinks : s.keepsLinks (s.portConfigured p) := by
  simp only [portConfigured]
  split
  · split
    · exact (s.setPortState_ptpInto p psListening false).links.trans (setEths_keepsLinks _ p rfl rfl)
    · exact fun _ => ⟨rfl, rfl⟩
  · split
    · exact fun _ => ⟨rfl, rfl⟩
    · refine (s.setPortState_ptpInto p psInitializing false).links.trans (.trans ?_ (decide1588_ptpInto _).links)
      exact setEths_keepsLinks _ p rfl rfl

/-! ### The announce receipt timeout without another master (R309) -/

/-- No port has heard of a foreign clock. -/
def unheard (s : State) : Prop := ∀ q, (s.eths q).foreign = []

section
variable {s : State}

theorem bestOfAll_of_unheard (h : s.unheard) : s.bestOfAll = none ∧ ∀ q, s.bestOn q = none := by
  have each : ∀ q, s.bestOn q = none := by
    intro q
    rw [bestOn, h q]
    split <;> rfl
  refine ⟨?_, each⟩
  rw [bestOfAll, List.filterMap_eq_nil_iff.mpr fun q _ => each q]
  rfl

/-- With no foreign clock heard a port listens or is master. -/
theorem recommend_of_unheard (h : s.unheard) (p : Nat) : s.recommend p none =
    if s.bit F.TIME_CFG_SLAVE_ONLY || (s.eths p).portState == psListening then .listen else .master 0 true := by
  have none_ := (bestOfAll_of_unheard h).2 p
  simp only [recommend, none_, ite_self, Option.isNone_none, Bool.true_and]

/-- A port that is not the slave takes another state than SLAVE: its own state changes, and no clock. -/
theorem setPortState_plain {p st : Nat} (idle : s.time.slavePort ≠ p) (other : st ≠ psSlave) (free : Bool) : ∃ v : EthSt, v.portState = st ∧
    v.foreign = (s.eths p).foreign ∧ s.setPortState p st free = s.setEths p v := by
  refine ⟨{ s.eths p with portState := st, awaited := if st = psMaster then (s.eths p).awaited else (s.eths p).awaited.filter (·.1 != mtSync)
                          syncHalf := none, msDiff := none }, rfl, rfl, ?_⟩
  simp only [setPortState, beq_eq_false_iff_ne.mpr idle, if_neg other, Bool.false_eq_true, if_false]

/-- What the state decision makes of a port without foreign clocks: its state, and nothing else of the module. -/
theorem follow1588_plain {p : Nat} (idle : s.time.slavePort ≠ p) {r : Recommend} (plain : r = .listen ∨ r = .master 0 true) : ∃ v : EthSt,
    v.portState = (if r = .listen then psListening else psMaster) ∧ v.foreign = (s.eths p).foreign ∧ s.follow1588 p r = s.setEths p v := by
  rcases plain with rfl | rfl
  · obtain ⟨v, st, foreign, eq⟩ := setPortState_plain (st := psListening) idle (by decide) false
    exact ⟨v, st, foreign, eq⟩
  · obtain ⟨v, st, foreign, eq⟩ := setPortState_plain (st := psMaster) idle (by decide) true
    exact ⟨v, st, foreign, (if_pos (Or.inr (Or.inl rfl))).trans eq⟩

theorem mem_filter_both {α : Type} {l : List α} {f : α → Bool} {x : α} : x ∈ l.filter f ++ l.filter (fun x => !f x) ↔ x ∈ l := by
  rw [List.mem_append, List.mem_filter, List.mem_filter]
  cases f x <;> simp

/-- The state a port without foreign clocks takes. -/
def plainState (r : Recommend) : Nat := if r = .listen then psListening else psMaster

/-- State decisions of ports without foreign clocks change the ports' states and nothing else. -/
theorem foldl_follow1588_plain {p st : Nat} (xs : List (Nat × Recommend)) (s : State) (unheard : s.unheard)
    (plain : ∀ x ∈ xs, s.time.slavePort ≠ x.1 ∧ (x.2 = .listen ∨ x.2 = .master 0 true) ∧ (x.1 = p → plainState x.2 = st)) :
    let t := xs.foldl (fun s x => s.follow1588 x.1 x.2) s
    t.time = s.time ∧ t.msgs = s.msgs ∧ t.unheard ∧ ((s.eths p).portState = st ∨ (∃ x ∈ xs, x.1 = p) → (t.eths p).portState = st) := by
  induction xs generalizing s with
  | nil => exact ⟨rfl, rfl, unheard, fun h => h.resolve_right (fun ⟨x, hx, _⟩ => absurd hx List.not_mem_nil)⟩
  | cons x xs ih =>
    obtain ⟨idle, kind, target⟩ := plain x (List.mem_cons_self ..)
    obtain ⟨v, state, foreign, eq⟩ := follow1588_plain idle kind
    have still : (s.setEths x.1 v).unheard := fun q => by
      by_cases here : q = x.1
      · rw [here, eths_setEths_same, foreign, unheard]
      · rw [eths_setEths_ne _ _ here, unheard]
    obtain ⟨time, msgs, none_, ports⟩ := ih (s.setEths x.1 v) still fun y hy => plain y (List.mem_cons_of_mem _ hy)
    dsimp only
    rw [List.foldl_cons, eq]
    refine ⟨time, msgs, none_, fun h => ports ?_⟩
    by_cases here : x.1 = p
    · left
      rw [← here, eths_setEths_same, state]
      exact target here
    · rw [eths_setEths_ne _ _ (Ne.symm here)]
      refine h.imp id fun ⟨y, hy, at_⟩ => ⟨y, (List.mem_cons.mp hy).resolve_left fun same => here (same ▸ at_), at_⟩

/-- The state decision while no port has heard a foreign clock and none is a slave. -/
theorem decide1588_of_unheard {p : Nat} (unheard : s.unheard) (idle : s.time.slavePort = 3) (port : p < 3) (on : s.ptpPort p = true) :
    (s.decide1588.eths p).portState =
      (if s.bit F.TIME_CFG_SLAVE_ONLY || (s.eths p).portState == psListening then psListening else psMaster) ∧
      s.decide1588.unheard ∧ s.decide1588.time.slavePort = 3 ∧ s.decide1588.time.servo = s.time.servo ∧ s.decide1588.time.freq = s.time.freq := by
  have noted : ∀ t : State, t.unheard → t.time = s.time → ∃ g, t.noteGm.net = t.net ∧ t.noteGm.time = { s.time with gmId := g } := by
    intro t none_ time
    have nobody : (t.eths t.time.slavePort).foreign.find? (·.src == (t.eths t.time.slavePort).parent) = none := by rw [none_]; rfl
    have set : ∀ gm, ∃ g, (t.setGm gm).net = t.net ∧ (t.setGm gm).time = { s.time with gmId := g } := by
      intro gm
      rw [setGm, ← time]
      split
      · exact ⟨t.time.gmId, rfl, rfl⟩
      · exact ⟨gm, rfl, rfl⟩
    simp only [noteGm, nobody]
    split
    · exact set _
    · exact ⟨t.time.gmId, rfl, by rw [← time]⟩
  have rec_ : ∀ q, s.recommend q none = .listen ∨ s.recommend q none = .master 0 true := by
    intro q
    rw [recommend_of_unheard unheard]
    split
    · exact Or.inl rfl
    · exact Or.inr rfl
  unfold decide1588
  dsimp only
  rw [(bestOfAll_of_unheard unheard).1]
  generalize members : (List.filter _ _ ++ List.filter _ _ : List (Nat × Recommend)) = order
  have mem : ∀ x, x ∈ order ↔ ∃ q < 3, s.ptpPort q = true ∧ x = (q, s.recommend q none) := by
    intro x
    rw [← members, mem_filter_both]
    simp only [List.mem_map, List.mem_filter, List.mem_range]
    exact ⟨fun ⟨q, ⟨small, on⟩, eq⟩ => ⟨q, small, on, eq.symm⟩, fun ⟨q, small, on, eq⟩ => ⟨q, ⟨small, on⟩, eq.symm⟩⟩
  obtain ⟨time, -, none_, state⟩ := foldl_follow1588_plain (p := p) (st := plainState (s.recommend p none)) order s unheard (by
    intro x hx
    obtain ⟨q, small, -, rfl⟩ := (mem x).mp hx
    exact ⟨by omega, rec_ q, fun here => by rw [← here]⟩)
  replace state := state (Or.inr ⟨_, (mem _).mpr ⟨p, port, on, rfl⟩, rfl⟩)
  generalize order.foldl (fun s x => s.follow1588 x.1 x.2) s = t at time none_ state
  obtain ⟨g, net, later⟩ := noted t none_ time
  refine ⟨?_, fun q => ?_, ?_, ?_, ?_⟩
  · rw [eths_of_net net, state, recommend_of_unheard unheard, plainState]
    split <;> rfl
  · rw [eths_of_net net, none_]
  · rw [later]
    exact idle
  · rw [later]
  · rw [later]

end
end State
end Sys2Proof.Machine
end

section
/-! PTP messages, links, and cyclic frames (R309, R312 to R323, R332). -/

set_option Elab.async false

namespace Sys2Proof.Machine

/-! ### The payload of a cyclic frame (Table 10.4) -/

theorem rdNat_past (a r : List Byte) {off k n : Nat} (h : off = a.length + k) : rdNat (a ++ r) off n = rdNat r k n := by
  rw [rdNat, h, ← List.drop_drop, List.drop_left, rdNat]

theorem rdNat_words (ws : List Word24) {w : Nat} (h : w < ws.length) : rdNat (ws.flatMap fun w => bytesOf 3 w.toNat) (3 * w) 3 = ws[w].toNat := by
  induction ws generalizing w with
  | nil => exact absurd h (Nat.not_lt_zero w)
  | cons a ws ih =>
    rw [List.flatMap_cons]
    cases w with
    | zero => rw [Nat.mul_zero, rdNat_first, List.getElem_cons_zero, Nat.mod_eq_of_lt a.isLt]
    | succ w =>
      rw [rdNat_past _ _ (k := 3 * w) (by rw [bytesOf_length]; omega), ih (Nat.lt_of_succ_lt_succ h), List.getElem_cons_succ]

/-- The first 24 bytes of a cyclic frame's payload. -/
def cycHead (f : CycFrame) : List Byte :=
  bytesOf 1 1 ++ bytesOf 1 1 ++ bytesOf 2 f.producer ++ bytesOf 1 f.channel ++ bytesOf 1 (f.stale.toNat + 2 * f.hold.toNat)
    ++ bytesOf 2 f.seq ++ bytesOf 8 f.mark ++ bytesOf 4 f.srcSeq ++ bytesOf 2 f.words.length ++ bytesOf 2 0

theorem cycPayload_eq (f : CycFrame) : cycPayload f = cycHead f ++ f.words.flatMap fun w => bytesOf 3 w.toNat := rfl

theorem cycHead_length (f : CycFrame) : (cycHead f).length = 24 := by
  simp only [cycHead, List.length_append, bytesOf_length]

theorem cycWords_length (ws : List Word24) : (ws.flatMap fun w => bytesOf 3 w.toNat).length = 3 * ws.length := by
  induction ws with
  | nil => rfl
  | cons a ws ih => rw [List.flatMap_cons, List.length_append, ih, bytesOf_length, List.length_cons]; omega

theorem cycPayload_head (f : CycFrame) {i n : Nat} (h : i + n ≤ 24) : leAt (cycPayload f) i n = rdNat (cycHead f) i n :=
  rdNat_append _ _ ((cycHead_length f).symm ▸ h)

theorem cycHead_fields (f : CycFrame) : rdNat (cycHead f) 0 1 = 1 ∧ rdNat (cycHead f) 1 1 = 1 ∧ rdNat (cycHead f) 2 2 = f.producer % 2 ^ 16 ∧
    rdNat (cycHead f) 4 1 = f.channel % 2 ^ 8 ∧ rdNat (cycHead f) 5 1 = (f.stale.toNat + 2 * f.hold.toNat) % 2 ^ 8 ∧
    rdNat (cycHead f) 6 2 = f.seq % 2 ^ 16 ∧ rdNat (cycHead f) 8 8 = f.mark % 2 ^ 64 ∧ rdNat (cycHead f) 16 4 = f.srcSeq % 2 ^ 32 ∧
    rdNat (cycHead f) 20 2 = f.words.length % 2 ^ 16 := by
  simp only [cycHead, List.append_assoc, rdNat_first]
  refine ⟨rfl, by simp (disch := decide) only [rdNat_skip, Nat.reduceSub, rdNat_first]; rfl, ?_, ?_, ?_, ?_, ?_, ?_, ?_⟩
  all_goals simp (disch := decide) only [rdNat_skip, Nat.reduceSub, rdNat_first]

theorem flags_bits (a b : Bool) : ((a.toNat + 2 * b.toNat) % 2 ^ 8).testBit 0 = a ∧ ((a.toNat + 2 * b.toNat) % 2 ^ 8).testBit 1 = b := by
  revert a b
  decide

/-- A payload reads back as it was formed. -/
theorem cycRead_cycPayload {f : CycFrame} (wf : f.wf = true) : cycRead (cycPayload f) = some f := by
  simp only [CycFrame.wf, Bool.and_eq_true, decide_eq_true_eq] at wf
  obtain ⟨⟨⟨⟨⟨channel, producer⟩, seq⟩, mark⟩, srcSeq⟩, words⟩ := wf
  obtain ⟨v, t, p, c, fl, q, m, x, n⟩ := cycHead_fields f
  have len : leAt (cycPayload f) 20 2 = f.words.length := (cycPayload_head f (by decide)).trans (n.trans (Nat.mod_eq_of_lt (by omega)))
  have total : (cycPayload f).length = 24 + 3 * f.words.length := by rw [cycPayload_eq, List.length_append, cycHead_length, cycWords_length]
  have read : ∀ w < f.words.length, leAt (cycPayload f) (24 + 3 * w) 3 = (f.words.getD w 0).toNat := by
    intro w hw
    rw [List.getD_eq_getElem _ _ hw, ← rdNat_words f.words hw]
    exact rdNat_past (cycHead f) _ (by rw [cycHead_length])
  have sound : ¬((cycPayload f).length < 24 + 3 * f.words.length ∨ 48 < f.words.length ∨ leAt (cycPayload f) 0 1 ≠ 1 ∨ leAt (cycPayload f) 1 1 ≠ 1) := by
    rw [total, cycPayload_head f (by decide), cycPayload_head f (by decide), v, t]
    omega
  simp only [cycRead, len, if_neg sound]
  rw [cycPayload_head f (by decide), cycPayload_head f (by decide), cycPayload_head f (by decide), cycPayload_head f (by decide),
    cycPayload_head f (by decide), cycPayload_head f (by decide), p, c, fl, q, m, x, (flags_bits _ _).1, (flags_bits _ _).2,
    Nat.mod_eq_of_lt producer, Nat.mod_eq_of_lt channel, Nat.mod_eq_of_lt seq, Nat.mod_eq_of_lt mark, Nat.mod_eq_of_lt srcSeq]
  have all : (List.range f.words.length).map (fun w => BitVec.ofNat 24 (leAt (cycPayload f) (24 + 3 * w) 3)) = f.words := by
    refine List.ext_getElem (by simp) fun i hi hi' => ?_
    rw [List.getElem_map, List.getElem_range, read i hi', List.getD_eq_getElem _ _ hi', BitVec.ofNat_toNat, BitVec.setWidth_eq]
  rw [all]

namespace State
variable {s : State} {p : Nat}

/-! ### Frames counted (R317) -/

theorem dropFrame_counts (s : State) (p : Nat) : s.dropFrame p = { s with net := (s.dropFrame p).net } ∧
    ((s.eths p).dropped < 0xFFFF → ((s.dropFrame p).eths p).dropped = (s.eths p).dropped + 1) := by
  refine ⟨rfl, fun few => ?_⟩
  rw [dropFrame, eths_setEths_same]
  exact satNat_counts (s.eths p).dropSat few

theorem fcsFrame_counts (s : State) (p : Nat) : s.fcsFrame p = { s with net := (s.fcsFrame p).net } ∧
    ((s.eths p).fcsErr < 0xFFFF → ((s.fcsFrame p).eths p).fcsErr = (s.eths p).fcsErr + 1) := by
  refine ⟨rfl, fun few => ?_⟩
  rw [fcsFrame, eths_setEths_same]
  exact satNat_counts (s.eths p).fcsSat few

/-! ### The servo (R309) -/

theorem adjLimit_nonneg (s : State) : -s.adjLimit ≤ s.adjLimit := by
  rw [adjLimit]
  have : (0 : Int) ≤ clampNat (s.fld F.TIME_CFG_ADJ_MAX) 1 1000 := Int.natCast_nonneg _
  omega

theorem clampInt_eq {v lo hi : Int} (h : lo ≤ hi) : clampInt v lo hi = max lo (min hi v) := by
  rw [clampInt]
  split
  · omega
  · split <;> omega

theorem align_keeps (s : State) : s.align.time.ptp = s.time.ptp ∧ s.align.time.offset = s.time.offset ∧ s.align.time.integ = s.time.integ ∧
    s.align.time.freq = s.time.freq ∧ (s.mode ≠ .configure → s.align = s) := by
  simp only [align]
  split
  next aligns =>
    refine ⟨rfl, rfl, rfl, rfl, fun other => ?_⟩
    simp only [Bool.and_eq_true, beq_iff_eq] at aligns
    exact absurd aligns.1.2 other
  next => exact ⟨rfl, rfl, rfl, rfl, fun _ => rfl⟩

/-- An update of the servo that makes no step moves its integral and f within ADJ_MAX (R309). -/
theorem servoTrim_trims (s : State) (o : Int) : let t := s.servoTrim o
    t.time.ptp = s.time.ptp ∧ t.time.offset = o ∧
      t.time.integ = max (-s.adjLimit) (min s.adjLimit (s.time.integ + sint 24 (s.fld F.TIME_CFG_KI) * o)) ∧
      t.time.freq = max (-s.adjLimit) (min s.adjLimit (sint 24 (s.fld F.TIME_CFG_KP) * o + t.time.integ)) ∧
      (s.mode ≠ .configure → t = { s with time := t.time }) := by
  simp only [servoTrim, clampInt_eq s.adjLimit_nonneg]
  generalize (if o.natAbs ≤ s.fld F.TIME_CFG_LOCK_NS then min (s.time.good + 1) 8 else 0) = good
  generalize (if good = 8 then 2 else if 4 * s.fld F.TIME_CFG_LOCK_NS < o.natAbs then 1 else s.time.servo) = servo
  split
  · obtain ⟨ptp, offset, integ, freq, stays⟩ := align_keeps _
    rw [ptp, offset, integ, freq]
    exact ⟨rfl, rfl, rfl, rfl, fun other => by rw [stays other]⟩
  · exact ⟨rfl, rfl, rfl, rfl, fun _ => rfl⟩

/-- A complete one-step Sync of the port's master gives one servo update from its offset (R309). -/
theorem syncRx_updates {m : PtpMsg} {sub : Nat} (domain : m.domain = s.fld F.TIME_CFG_DOMAIN) (slave : s.time.slavePort = p)
    (master : m.src = (s.eths p).parent) (oneStep : m.twoStep = false) : ∃ n : NetSt, s.syncRx p m sub = ({ s with net := n }).servoUpdate
      (wholeNs ((s.rcvdAt p sub : Int) - m.time * 2 ^ 16 - m.corr - s.asym p - (s.eths p).meanPathDelay)) := by
  obtain ⟨x, stamped⟩ : ∃ x, s.stampRx p sub m = s.setEths p { s.eths p with rxStamp := x } := ⟨_, rfl⟩
  have own : (s.setEths p { s.eths p with rxStamp := x }).ofDomain m = true := beq_iff_eq.mpr domain
  have from_ : (s.setEths p { s.eths p with rxStamp := x }).fromMaster p m = true := by
    rw [fromMaster, eths_setEths_same]
    show (s.time.slavePort == p && m.src == (s.eths p).parent) = true
    rw [slave, master, beq_self_eq_true, beq_self_eq_true]
    rfl
  simp only [syncRx, stamped, own, from_, oneStep, Bool.not_true, Bool.or_self, Bool.false_eq_true, if_false, completeSync, eths_setEths_same]
  refine ⟨_, congrArg (servoUpdate _) (congrArg wholeNs ?_)⟩
  push_cast
  rfl

theorem syncRx_waits {m : PtpMsg} {sub : Nat} (domain : m.domain = s.fld F.TIME_CFG_DOMAIN) (slave : s.time.slavePort = p)
    (master : m.src = (s.eths p).parent) (twoStep : m.twoStep = true) : ∃ n : NetSt, s.syncRx p m sub = { s with net := n } ∧
      ((s.syncRx p m sub).eths p).syncHalf = some ⟨m.seqId, m.src, s.rcvdAt p sub, 0, m.corr⟩ := by
  obtain ⟨x, stamped⟩ : ∃ x, s.stampRx p sub m = s.setEths p { s.eths p with rxStamp := x } := ⟨_, rfl⟩
  have own : (s.setEths p { s.eths p with rxStamp := x }).ofDomain m = true := beq_iff_eq.mpr domain
  have from_ : (s.setEths p { s.eths p with rxStamp := x }).fromMaster p m = true := by
    rw [fromMaster, eths_setEths_same]
    show (s.time.slavePort == p && m.src == (s.eths p).parent) = true
    rw [slave, master, beq_self_eq_true, beq_self_eq_true]
    rfl
  simp only [syncRx, stamped, own, from_, twoStep, Bool.not_true, Bool.or_self, Bool.false_eq_true, if_false, if_true]
  exact ⟨_, rfl, congrArg EthSt.syncHalf (eths_setEths_same _ p _)⟩

/-! ### Messages sent (R312, R313, R315) -/

theorem qualified_of_state (h : (s.eths p).portState ≠ psPreMaster) : s.qualified p = s := if_neg fun both => h both.1

theorem until_past (quiet : s.msgs = []) {x : Nat} (past : x ≤ s.now) : s.until x = s := by
  rw [State.until, drain_of_nil quiet, if_neg (Nat.not_lt.mpr past)]

/-- A message on its interval (R312, R313). -/
theorem ptpInterval_due {mtype : Nat} (state : (s.eths p).portState ≠ psPreMaster) (quiet : s.msgs = []) (due : (s.eths p).nextTx.get mtype 0 ≤ s.now) :
    s.ptpInterval p mtype = if s.sendsOnInterval p mtype then s.ptpSend p mtype else s := by
  simp only [ptpInterval, qualified_of_state state, until_past quiet due]

/-- The message sent takes the next sequenceId of its type, and the next one falls due an interval later. -/
theorem ptpSend_sends (s : State) (p mtype : Nat) : ∃ x, let t := s.ptpSend p mtype
    (t.eths p).nextSeqId.get mtype 0 = ((s.eths p).nextSeqId.get mtype 0 + 1) % 2 ^ 16 ∧
      (t.eths p).nextTx.get mtype 0 = s.now + s.ptpTicks p mtype ∧
      t.net.ptpSent = s.net.ptpSent ++ [x] ∧ x.port = p ∧ x.at_ = s.now ∧ x.msg.mtype = mtype ∧ x.msg.seqId = (s.eths p).nextSeqId.get mtype 0 ∧
      x.msg.domain = s.fld F.TIME_CFG_DOMAIN ∧ x.msg.src = s.portId p ∧
      x.head = s.ethHead p (s.ptpDst mtype) 0x88F7 ∧ t = { s with net := t.net } ∧ ∀ q, q ≠ p → t.eths q = s.eths q := by
  refine ⟨_, congrArg (fun v : EthSt => v.nextSeqId.get mtype 0) (eths_setEths_same s p _) |>.trans (SMap.get_set_same ..),
    congrArg (fun v : EthSt => v.nextTx.get mtype 0) (eths_setEths_same s p _) |>.trans (SMap.get_set_same ..), rfl, rfl, rfl, rfl, rfl, rfl, rfl,
    rfl, rfl, fun q hq => eths_setEths_ne s _ hq⟩

/-! ### Stamps taken (R315, R316) -/

/-- The stamp of an awaited message that stands first in the queue is taken. -/
theorem takeTx_first {mtype seqId : Nat} {y : TxStamp} {r : List TxStamp} (awaited : (s.eths p).awaited.contains (mtype, seqId) = true)
    (queue : (s.eths p).txq = y :: r) (type : y.mtype = mtype) (number : y.seqId = seqId) : s.takeTx p mtype seqId =
      (s.setEths p { s.eths p with txq := r, awaited := (s.eths p).awaited.filter (· != (mtype, seqId)) }, some y.stamp) := by
  have taken : takeStamp (s.eths p).awaited mtype seqId (s.eths p).txq = some (y, r) := by
    rw [queue, takeStamp, if_neg (not_not_intro type), if_pos number]
  simp only [takeTx, awaited, taken, Bool.not_true, Bool.false_eq_true, if_false]

theorem takeTx_unawaited {mtype seqId : Nat} (awaited : (s.eths p).awaited.contains (mtype, seqId) = false) : s.takeTx p mtype seqId = (s, none) := by
  simp only [takeTx, awaited, Bool.not_false, if_true]

theorem ns_and_fraction (x : Nat) : ((x / 2 ^ 16 : Nat) : Int) * 2 ^ 16 + ((x % 2 ^ 16 : Nat) : Int) = x := by
  have := Nat.div_add_mod x (2 ^ 16)
  omega

/-- A Follow_Up carries the stamp of its Sync (R315). -/
theorem sendFollowUp_carries {seqId : Nat} {y : TxStamp} {r : List TxStamp} (awaited : (s.eths p).awaited.contains (mtSync, seqId) = true)
    (queue : (s.eths p).txq = y :: r) (type : y.mtype = mtSync) (number : y.seqId = seqId) : ∃ x, let t := s.sendFollowUp p seqId
    (t.eths p).txq = r ∧ t.net.ptpSent = s.net.ptpSent ++ [x] ∧ x.port = p ∧ x.msg.mtype = mtFollowUp ∧ x.msg.seqId = seqId ∧
      (x.msg.time * 2 ^ 16 : Int) + x.msg.corr = y.stamp ∧ t = { s with net := t.net } := by
  simp only [sendFollowUp, takeTx_first awaited queue type number]
  exact ⟨_, congrArg EthSt.txq (eths_setEths_same s p _), rfl, rfl, rfl, rfl, ns_and_fraction y.stamp, rfl⟩
end State


namespace State
variable {s : State} {p : Nat}

/-- A one-step Sync carries its transmit stamp (R315). -/
theorem oneStepStamp_carries (s : State) (p seqId sub : Nat) : let t := s.oneStepStamp p seqId sub
    t = { s with net := { s.net with ptpSent := t.net.ptpSent } } ∧ t.net.ptpSent.length = s.net.ptpSent.length ∧
      ∀ x ∈ s.net.ptpSent, x.port = p → x.msg.mtype = mtSync → x.msg.seqId = seqId → x.msg.time = 0 →
        { x with msg := { x.msg with time := s.sentAt p sub / 2 ^ 16, corr := x.msg.corr + (s.sentAt p sub % 2 ^ 16 : Nat) } } ∈ t.net.ptpSent :=
  ⟨rfl, List.length_map .., fun x mem port type number fresh => List.mem_map.mpr ⟨x, mem, if_pos ⟨port, type, number, fresh⟩⟩⟩

theorem txStamp_enters {mtype seqId sub : Nat} (room : (s.eths p).txq.length < 16) : ((s.txStamp p mtype seqId sub).eths p).txq =
    (s.eths p).txq ++ [⟨seqId, mtype, s.sentAt p sub, s.mtAt sub⟩] ∧ s.txStamp p mtype seqId sub = { s with net := (s.txStamp p mtype seqId sub).net } := by
  simp only [txStamp, if_neg (Nat.not_le.mpr room), eths_setEths_same]
  exact ⟨trivial, rfl⟩

theorem txStamp_drops {mtype seqId sub : Nat} (full : 16 ≤ (s.eths p).txq.length) : ((s.txStamp p mtype seqId sub).eths p).txq = (s.eths p).txq ∧
    ((s.txStamp p mtype seqId sub).eths p).txqOvf = true ∧ ∃ x ∈ (s.txStamp p mtype seqId sub).msgs, x.source = sourceNo K.TXQ_OVERFLOW p := by
  have set := s.eths_setEths_same p { s.eths p with txqOvf := true, awaited := (s.eths p).awaited.filter (· != (mtype, seqId)) }
  simp only [txStamp, if_pos full]
  exact ⟨(congrArg EthSt.txq set :), (congrArg EthSt.txqOvf set :), _, List.mem_append_right _ (List.mem_singleton_self _), rfl⟩

/-! ### Messages received (R313, R315) -/

theorem stampRx_sets (s : State) (p sub : Nat) (m : PtpMsg) : ∃ x, s.stampRx p sub m = s.setEths p { s.eths p with rxStamp := x } := ⟨_, rfl⟩

/-- The message that answers a Delay_Req with its receive stamp `t` (R313). -/
def delayAnswer (m : PtpMsg) (t : Nat) : PtpMsg :=
  { mtype := mtDelayResp, seqId := m.seqId, req := m.src, corr := m.corr - (t % 2 ^ 16 : Nat), time := t / 2 ^ 16 }

theorem delayReqRx_answers {m : PtpMsg} {sub : Nat} (master : (s.eths p).portState = psMaster) (endToEnd : s.peerDelay p = false) :
    ∃ x, let t := (s.stampRx p sub m).delayReqRx p m sub
      t.net.ptpSent = s.net.ptpSent ++ [x] ∧ x.port = p ∧ x.msg.mtype = mtDelayResp ∧ x.msg.seqId = m.seqId ∧ x.msg.req = m.src ∧
        (x.msg.time * 2 ^ 16 : Int) - x.msg.corr = s.rcvdAt p sub - m.corr ∧ t = { s with net := t.net } := by
  obtain ⟨x, stamped⟩ := s.stampRx_sets p sub m
  have answers : ((s.setEths p { s.eths p with rxStamp := x }).eths p).portState = psMaster ∧
      (s.setEths p { s.eths p with rxStamp := x }).peerDelay p = false := ⟨by rw [eths_setEths_same]; exact master, endToEnd⟩
  rw [stamped]
  simp only [delayReqRx, if_pos answers]
  refine ⟨_, rfl, rfl, rfl, rfl, rfl, ?_, rfl⟩
  have := ns_and_fraction (s.rcvdAt p sub)
  show ((s.rcvdAt p sub / 2 ^ 16 : Nat) : Int) * 2 ^ 16 - (m.corr - ((s.rcvdAt p sub % 2 ^ 16 : Nat) : Int)) = _
  omega

theorem pdelayReqRx_answers {m : PtpMsg} {sub : Nat} (peer : s.peerDelay p = true) :
    ∃ x, let t := (s.stampRx p sub m).pdelayReqRx p m sub
      t.net.ptpSent = s.net.ptpSent ++ [x] ∧ x.port = p ∧ x.msg.mtype = mtPdelayResp ∧ x.msg.seqId = m.seqId ∧ x.msg.req = m.src ∧
        (x.msg.time * 2 ^ 16 : Int) - x.msg.corr = s.rcvdAt p sub ∧ t = { s with net := t.net } := by
  obtain ⟨x, stamped⟩ := s.stampRx_sets p sub m
  have asks : ¬(s.setEths p { s.eths p with rxStamp := x }).peerDelay p = false := fun no => absurd (peer.symm.trans no) (by decide)
  rw [stamped]
  simp only [pdelayReqRx, if_neg asks]
  refine ⟨_, rfl, rfl, rfl, rfl, rfl, ?_, rfl⟩
  have := ns_and_fraction (s.rcvdAt p sub)
  show ((s.rcvdAt p sub / 2 ^ 16 : Nat) : Int) * 2 ^ 16 - -((s.rcvdAt p sub % 2 ^ 16 : Nat) : Int) = _
  omega

theorem setDelay_sets (s : State) (p : Nat) (v : Int) : (s.setDelay p v).eths p = { s.eths p with meanPathDelay := v / 2 } :=
  eths_setEths_same ..

/-- The answer to the port's own Delay_Req gives the end-to-end path delay (R313, R315). -/
theorem delayRespRx_measures {m : PtpMsg} {y : TxStamp} {r : List TxStamp} {ms : Int} (endToEnd : s.peerDelay p = false) (mine : m.req = s.portId p)
    (slave : s.time.slavePort = p) (master : m.src = (s.eths p).parent) (awaited : (s.eths p).awaited.contains (mtDelayReq, m.seqId) = true)
    (queue : (s.eths p).txq = y :: r) (type : y.mtype = mtDelayReq) (number : y.seqId = m.seqId) (sync : (s.eths p).msDiff = some ms) :
    let t := s.delayRespRx p m
    (t.eths p).txq = r ∧ (t.eths p).meanPathDelay = (ms + (m.time * 2 ^ 16 - y.stamp - m.corr)) / 2 ∧ t = { s with net := t.net } := by
  have from_ : s.fromMaster p m = true := by
    rw [fromMaster, slave, master, beq_self_eq_true, beq_self_eq_true]
    rfl
  have mine_ : ¬(m.req ≠ s.portId p ∨ s.fromMaster p m = false ∨ s.peerDelay p = true) := by simp [mine, from_, endToEnd]
  simp only [delayRespRx, if_neg mine_, takeTx_first awaited queue type number, sync]
  refine ⟨?_, ?_, rfl⟩
  · rw [setDelay_sets, eths_setEths_same]
  · rw [setDelay_sets]
    push_cast
    rfl

/-- The follow-up of a Pdelay_Resp gives the peer-to-peer path delay (R313, R315). -/
theorem pdelayFuRx_measures {m : PtpMsg} {y : TxStamp} {r : List TxStamp} {h : PtpHalf} (half : (s.eths p).pdHalf = some h) (mine : m.req = s.portId p)
    (number : h.seqId = m.seqId) (sender : h.src = m.src) (awaited : (s.eths p).awaited.contains (mtPdelayReq, m.seqId) = true)
    (queue : (s.eths p).txq = y :: r) (type : y.mtype = mtPdelayReq) (numbered : y.seqId = m.seqId) :
    let t := s.pdelayFuRx p m
    (t.eths p).txq = r ∧ (t.eths p).meanPathDelay =
      ((h.stamp : Int) - y.stamp - ((m.time : Int) - h.time) * 2 ^ 16 - h.corr - m.corr - s.asym p) / 2 ∧ t = { s with net := t.net } := by
  have mine_ : ¬(m.req ≠ s.portId p ∨ h.seqId ≠ m.seqId ∨ h.src ≠ m.src) := by simp [mine, number, sender]
  have set := s.eths_setEths_same p { s.eths p with pdHalf := none }
  have taken := takeTx_first (s := s.setEths p { s.eths p with pdHalf := none }) (p := p) (by rw [set]; exact awaited) (by rw [set]; exact queue) type numbered
  simp only [pdelayFuRx, half, if_neg mine_, taken]
  refine ⟨?_, ?_, rfl⟩
  · rw [setDelay_sets, eths_setEths_same]
  · rw [setDelay_sets]

/-- An Announce of another clock enters the port's foreign clocks, and the state decision follows (R309, R313). -/
theorem announceRx_enters {m : PtpMsg} (other : m.src / 2 ^ 16 ≠ s.clockId) (near : m.clock.steps < 255) : let t := s.announceRx p m
    (∃ f ∈ (t.eths p).foreign, f.src = m.src ∧ f.clock = m.clock ∧ f.times.head? = some s.now) ∧
      (t.time.gmId ≠ s.time.gmId → ∃ x ∈ t.msgs, x.source = sourceNo K.GM_CHANGE 0) ∧
      (t.time.servo = 3 → s.time.servo ≠ 3 → ∃ x ∈ t.msgs, x.source = sourceNo K.HOLDOVER 0) ∧ t.time.ptp = s.time.ptp := by
  have considered : ¬(m.src / 2 ^ 16 = s.clockId ∨ 255 ≤ m.clock.steps) := by omega
  obtain ⟨times, at_, eq⟩ : ∃ times at_, s.announceRx p m = (s.setEths p { s.eths p with
      foreign := (s.eths p).foreign.filter (·.src != m.src) ++ [⟨m.src, m.clock, s.now :: times⟩], annAt := at_ }).decide1588 :=
    ⟨_, _, if_neg considered⟩
  have into := decide1588_ptpInto (s.setEths p { s.eths p with
    foreign := (s.eths p).foreign.filter (·.src != m.src) ++ [⟨m.src, m.clock, s.now :: times⟩], annAt := at_ })
  rw [eq]
  refine ⟨⟨⟨m.src, m.clock, s.now :: times⟩, ?_, rfl, rfl, rfl⟩, into.gm, into.holdover, into.ptp⟩
  rw [into.foreign, eths_setEths_same]
  exact List.mem_append_right _ (List.mem_singleton_self _)

theorem announceRx_own {m : PtpMsg} (own : m.src / 2 ^ 16 = s.clockId) : s.announceRx p m = s := if_pos (Or.inl own)
end State


namespace State
variable {s : State} {p : Nat}

/-! ### Which message is which (R313, R317) -/

section
variable {m : PtpMsg} {sub : Nat}

theorem ptpRx_discards (state : (s.eths p).portState ≠ psPreMaster) (kind : m.mtype = 0xC ∨ m.mtype = 0xD) : s.ptpRx p m sub = s.dropFrame p := by
  rcases kind with h | h <;> simp [ptpRx, qualified_of_state state, h]

variable (state : (s.eths p).portState ≠ psPreMaster) (domain : m.domain = s.fld F.TIME_CFG_DOMAIN)
include state domain

theorem ptpRx_announce (kind : m.mtype = mtAnnounce) : s.ptpRx p m sub = s.announceRx p m := by
  simp [ptpRx, qualified_of_state state, kind, ofDomain, domain]

theorem ptpRx_delayResp (kind : m.mtype = mtDelayResp) : s.ptpRx p m sub = s.delayRespRx p m := by
  simp [ptpRx, qualified_of_state state, kind, ofDomain, domain]

theorem ptpRx_pdelayFu (kind : m.mtype = mtPdelayRespFu) : s.ptpRx p m sub = s.pdelayFuRx p m := by
  simp [ptpRx, qualified_of_state state, kind, ofDomain, domain]

theorem ptpRx_delayReq (kind : m.mtype = mtDelayReq) : s.ptpRx p m sub = (s.stampRx p sub m).delayReqRx p m sub := by
  have own : (s.stampRx p sub m).ofDomain m = true := beq_iff_eq.mpr domain
  simp [ptpRx, qualified_of_state state, kind, own]

theorem ptpRx_pdelayReq (kind : m.mtype = mtPdelayReq) : s.ptpRx p m sub = (s.stampRx p sub m).pdelayReqRx p m sub := by
  have own : (s.stampRx p sub m).ofDomain m = true := beq_iff_eq.mpr domain
  simp [ptpRx, qualified_of_state state, kind, own]
end

/-! ### The announce receipt timeout (R309) -/

/-- The state decision after a port has given up its foreign clocks, where no other port has any. -/
theorem decided_alone {u : State} {p st : Nat} (port : p < 3) (on : u.ptpPort p = true) (unheard : u.unheard) (idle : u.time.slavePort = 3)
    (state : (u.eths p).portState = st) (listens : st = if u.bit F.TIME_CFG_SLAVE_ONLY then psListening else psMaster) :
    (u.decide1588.eths p).portState = st ∧ (u.decide1588.eths p).foreign = [] ∧ u.decide1588.time.slavePort = 3 ∧
      u.decide1588.time.servo = u.time.servo ∧ u.decide1588.time.freq = u.time.freq := by
  obtain ⟨ports, none_, slave, servo, freq⟩ := decide1588_of_unheard unheard idle port on
  refine ⟨ports.trans ?_, none_ p, slave, servo, freq⟩
  rw [state, listens]
  cases u.bit F.TIME_CFG_SLAVE_ONLY <;> rfl

theorem announceTimeout_past (quiet : s.msgs = []) (waits : (s.eths p).portState = psListening ∨ (s.eths p).portState = psSlave)
    (past : (s.eths p).annAt + clampNat (s.fld F.ETH_CFG_ANN_TO p) 2 15 * s.ptpTicks p mtAnnounce ≤ s.now) : s.announceTimeout p =
      ((s.setEths p { s.eths p with foreign := [], annAt := s.now }).setPortState p
        (if s.bit F.TIME_CFG_SLAVE_ONLY then psListening else psMaster)).decide1588 := by
  have heeds : (s.eths p).portState = psListening ∨ (s.eths p).portState = psSlave ∨ (s.eths p).portState = psUncalibrated ∨
      (s.eths p).portState = psPassive := waits.elim Or.inl fun h => Or.inr (Or.inl h)
  simp only [announceTimeout, if_pos heeds, until_past quiet past]

/-- A port's state set, its foreign clocks gone, where no other port has any. -/
theorem setEths_unheard {v : EthSt} (others : ∀ q, q ≠ p → (s.eths q).foreign = []) (foreign : v.foreign = []) : (s.setEths p v).unheard := fun q => by
  by_cases here : q = p
  · rw [here, eths_setEths_same, foreign]
  · rw [eths_setEths_ne _ _ here, others q here]

theorem ptpPort_setEths {v : EthSt} (tm : TimeSt) (ms : List Msg) (link : v.link = (s.eths p).link) :
    State.ptpPort { s.setEths p v with time := tm, msgs := ms } p = s.ptpPort p := by
  have same : (eths { s.setEths p v with time := tm, msgs := ms } p).link = (s.eths p).link := (congrArg EthSt.link (s.eths_setEths_same p v)).trans link
  rw [ptpPort, portUp, same]
  rfl

/-- The port's state as the timeout leaves it, before the state decision (R309). -/
def timedOut (s : State) (p st : Nat) : EthSt :=
  { s.eths p with foreign := [], annAt := s.now, portState := st
                  awaited := if st = psMaster then (s.eths p).awaited else (s.eths p).awaited.filter (·.1 != mtSync), syncHalf := none, msDiff := none }

theorem setPortState_timedOut (s : State) (p : Nat) {st : Nat} (other : st ≠ psSlave) :
    (s.setEths p { s.eths p with foreign := [], annAt := s.now }).setPortState p st =
      if s.time.slavePort == p then ((s.setEths p { s.eths p with foreign := [], annAt := s.now }).setEths p (s.timedOut p st)).enterHoldover
      else (s.setEths p { s.eths p with foreign := [], annAt := s.now }).setEths p (s.timedOut p st) := by
  simp only [setPortState, eths_setEths_same, if_neg other, Bool.false_eq_true, if_false]
  rfl

section
variable (port : p < 3) (on : s.ptpPort p = true) (others : ∀ q, q ≠ p → (s.eths q).foreign = []) (quiet : s.msgs = [])
  (past : (s.eths p).annAt + clampNat (s.fld F.ETH_CFG_ANN_TO p) 2 15 * s.ptpTicks p mtAnnounce ≤ s.now)
include port on others quiet past

omit quiet past in
/-- The state decision after a timeout, whatever became of the clocks. -/
theorem decided_timedOut (tm : TimeSt) (ms : List Msg) (idle : tm.slavePort = 3) :
    let st := if s.bit F.TIME_CFG_SLAVE_ONLY = true then psListening else psMaster
    let u : State := { (s.setEths p { s.eths p with foreign := [], annAt := s.now }).setEths p (s.timedOut p st) with time := tm, msgs := ms }
    (u.decide1588.eths p).portState = st ∧ (u.decide1588.eths p).foreign = [] ∧ u.decide1588.time.slavePort = 3 ∧
      u.decide1588.time.servo = tm.servo ∧ u.decide1588.time.freq = tm.freq := by
  intro st u
  have alone : (s.setEths p { s.eths p with foreign := [], annAt := s.now }).unheard := setEths_unheard others rfl
  have unheard : ((s.setEths p { s.eths p with foreign := [], annAt := s.now }).setEths p (s.timedOut p st)).unheard :=
    setEths_unheard (fun q _ => alone q) rfl
  have working : u.ptpPort p = true := by
    rw [ptpPort_setEths (s := s.setEths p { s.eths p with foreign := [], annAt := s.now }) tm ms (by rw [eths_setEths_same]; rfl)]
    exact (ptpPort_setEths (s := s) (v := { s.eths p with foreign := [], annAt := s.now }) s.time s.msgs rfl).trans on
  exact decided_alone port working unheard idle (congrArg EthSt.portState (eths_setEths_same _ p (s.timedOut p st))) rfl

/-- A slave port that times out leaves the servo in HOLDOVER (R309). -/
theorem announceTimeout_slave (slave : s.time.slavePort = p) (state : (s.eths p).portState = psSlave) : let t := s.announceTimeout p
    (t.eths p).portState = (if s.bit F.TIME_CFG_SLAVE_ONLY = true then psListening else psMaster) ∧ (t.eths p).foreign = [] ∧
      t.time.slavePort = 3 ∧ t.time.servo = 3 ∧ t.time.freq = s.time.freq ∧ ∃ x ∈ t.msgs, x.source = sourceNo K.HOLDOVER 0 := by
  dsimp only
  rw [announceTimeout_past quiet (Or.inr state) past, setPortState_timedOut s p (by split <;> decide), if_pos (beq_iff_eq.mpr slave)]
  obtain ⟨ports, none_, slave, servo, freq⟩ := decided_timedOut port on others { s.time with slavePort := 3, servo := 3 } (s.msgs ++ [{
    source := sourceNo K.HOLDOVER 0, kind := 0, addr := 0, data := uint 32 (clampInt s.time.offset (-(2 ^ 31)) (2 ^ 31 - 1)), dlen := 1, stamp := s.now }]) rfl
  exact ⟨ports, none_, slave, servo, freq, _, (decide1588_ptpInto _).msgs _ (List.mem_append_right _ (List.mem_singleton_self _)), rfl⟩

/-- A listening port that times out where no port is a slave (R309). -/
theorem announceTimeout_listening (idle : s.time.slavePort = 3) (state : (s.eths p).portState = psListening) : let t := s.announceTimeout p
    (t.eths p).portState = (if s.bit F.TIME_CFG_SLAVE_ONLY = true then psListening else psMaster) ∧ t.time.freq = s.time.freq := by
  dsimp only
  rw [announceTimeout_past quiet (Or.inl state) past, setPortState_timedOut s p (by split <;> decide),
    if_neg (by rw [idle, beq_iff_eq]; omega)]
  obtain ⟨ports, -, -, -, freq⟩ := decided_timedOut port on others s.time s.msgs idle
  exact ⟨ports, freq⟩
end

/-! ### Links (R317, R332) -/

theorem linkChange_up (s : State) (p speed : Nat) : ((s.linkChange p true speed).eths p).link = true ∧
    ((s.linkChange p true speed).eths p).speed = speed := by
  obtain ⟨link, rate⟩ := portConfigured_keepsLinks (s.setEths p { s.eths p with link := true, speed := speed }) p p
  rw [eths_setEths_same] at link rate
  simp only [linkChange, if_true]
  split
  · exact ⟨link, rate⟩
  · exact ⟨link, rate⟩

theorem linkChange_down (s : State) (p speed : Nat) : ((s.linkChange p false speed).eths p).link = false ∧
    ((s.linkChange p false speed).eths p).speed = 0 ∧ ((s.eths p).link = true → s.fld F.ETH_CFG_SPEED p ≠ 0 →
      ∃ x ∈ (s.linkChange p false speed).msgs, x.source = sourceNo K.LINK_DOWN p) := by
  obtain ⟨link, rate⟩ := portConfigured_keepsLinks (s.setEths p { s.eths p with link := false, speed := 0 }) p p
  rw [eths_setEths_same] at link rate
  simp only [linkChange, Bool.false_eq_true, if_false]
  split
  · exact ⟨link, rate, fun _ _ => ⟨_, List.mem_append_right _ (List.mem_singleton_self _), rfl⟩⟩
  next stays => exact ⟨link, rate, fun was on => absurd (by simp [was, on]) stays⟩

/-! ### Cyclic frames (R318 to R321) -/

theorem ctx_setCtx (s : State) (c : Nat) (v : CycTxSt) : (s.setCtx c v).ctx c = v := SMap.get_set_same ..

theorem crx_setCrx_same (s : State) (r : Nat) (v : CycRxSt) : (s.setCrx r v).crx r = v := SMap.get_set_same ..

theorem crx_setCrx_ne (s : State) {r k : Nat} (v : CycRxSt) (h : k ≠ r) : (s.setCrx r v).crx k = s.crx k := by
  rw [crx, setCrx, SMap.get_set_ne h, crx]

/-- The one frame that waits is sent at its instant (R319). -/
theorem cycSend_sends {c : Nat} {f : CycDue} (queue : (s.ctx c).queue = [f]) (quiet : s.msgs = []) (loop : s.loopMode = true)
    (enabled : s.bit F.CYC_TX_EN c = true) (due : f.due ≤ s.now) : let t := s.cycSend c
    (t.ctx c).queue = [] ∧ (t.ctx c).seq = ((s.ctx c).seq + 1) % 2 ^ 16 ∧ t = { s with net := t.net } ∧
      ∀ p < 3, s.nth F.CYC_TX_PORTS p c = true → s.portUp p = true → (p, s.ethFrame p (s.fld F.CYC_TX_DST c) 0x88B5
        (cycPayload ⟨s.fld F.CYC_TX_CHANNEL c, s.fld F.TIME_CFG_NODE, f.stale, f.hold, (s.ctx c).seq, f.mark, f.srcSeq, f.words⟩)) ∈ t.net.cycSent := by
  have ready : (s.ctx c).queue.filter (fun e => decide (e.due ≤ s.now)) = [f] := by simp [queue, due]
  have rest : (s.ctx c).queue.filter (fun e => decide (s.now < e.due)) = [] := by
    simp [queue, due]
  have set := s.ctx_setCtx c { s.ctx c with queue := [], seq := ((s.ctx c).seq + 1) % 2 ^ 16 }
  have eq : s.cycSend c = { s.setCtx c { s.ctx c with queue := [], seq := ((s.ctx c).seq + 1) % 2 ^ 16 } with
      net := { (s.setCtx c { s.ctx c with queue := [], seq := ((s.ctx c).seq + 1) % 2 ^ 16 }).net with
        cycSent := s.net.cycSent ++ ((List.range 3).filter fun p => s.nth F.CYC_TX_PORTS p c && s.portUp p).map fun p =>
          (p, s.ethFrame p (s.fld F.CYC_TX_DST c) 0x88B5 (cycPayload
            ⟨s.fld F.CYC_TX_CHANNEL c, s.fld F.TIME_CFG_NODE, f.stale, f.hold, (s.ctx c).seq, f.mark, f.srcSeq, f.words⟩)) } } := by
    unfold cycSend
    split
    next none_ => exact absurd (queue.symm.trans none_) (List.cons_ne_nil _ _)
    next g r first =>
      obtain ⟨rfl, -⟩ := List.cons.inj (queue.symm.trans first)
      simp only [until_past quiet due, ready, rest, List.getLast?_singleton, loop, enabled, Bool.not_true, Bool.or_self, Bool.false_eq_true, if_false]
      rfl
  rw [eq]
  refine ⟨(congrArg CycTxSt.queue set :), (congrArg CycTxSt.seq set :), rfl, fun p small port up => ?_⟩
  refine List.mem_append_right _ (List.mem_map.mpr ⟨p, List.mem_filter.mpr ⟨List.mem_range.mpr small, ?_⟩, rfl⟩)
  rw [port, up]
  rfl

/-- A late frame is counted on its channel. -/
theorem cycCount_late (s : State) (r : Nat) : (s.cycCount r F.CYC_RX_LATE_CNT 0).net = s.net ∧
    (s.cycCount r F.CYC_RX_LATE_CNT 0).fld F.CYC_RX_LATE_CNT r = min 0xFFFF (s.fld F.CYC_RX_LATE_CNT r + 1) := by
  have fits : min 0xFFFF (s.fld F.CYC_RX_LATE_CNT r + 1) % 2 ^ F.CYC_RX_LATE_CNT.width = min 0xFFFF (s.fld F.CYC_RX_LATE_CNT r + 1) :=
    Nat.mod_eq_of_lt (Nat.lt_of_le_of_lt (Nat.min_le_left ..) (by decide))
  have set := (s.fld_setFld_same F.CYC_RX_LATE_CNT (min 0xFFFF (s.fld F.CYC_RX_LATE_CNT r + 1)) r 0).trans fits
  unfold cycCount
  dsimp only
  split
  · rw [setNth_net, setFld_net, setNth, fld_setFld_bits (f := F.CYC_RX_SAT) (g := F.CYC_RX_LATE_CNT) _ _ _ _ rfl (by decide)]
    exact ⟨rfl, set⟩
  · rw [setFld_net]
    exact ⟨rfl, set⟩

/-- One frame more that is late on a receive channel (R321). -/
theorem cycAccept_late {r : Nat} {f : CycFrame} (fresh : (s.crx r).accepted.find? (·.1 == f.mark) = none) (late : s.cycLate f = true) :
    let t := s.cycAccept r f
    t.net = s.net ∧ t.fld F.CYC_RX_LATE_CNT r = min 0xFFFF (s.fld F.CYC_RX_LATE_CNT r + 1) ∧ ∃ m ∈ t.msgs, m.source = sourceNo K.CYC_LATE r := by
  obtain ⟨net, count⟩ := s.cycCount_late r
  simp only [cycAccept, fresh, late, if_true]
  generalize s.cycCount r F.CYC_RX_LATE_CNT 0 = t at net count
  exact ⟨net, count, _, List.mem_append_right _ (List.mem_singleton_self _), rfl⟩

theorem cycAccept_held {r : Nat} {f : CycFrame} (fresh : (s.crx r).accepted.find? (·.1 == f.mark) = none) (inTime : s.cycLate f = false) :
    let t := s.cycAccept r f
    (t.crx r).held = (s.crx r).held ++ [⟨f, s.now⟩] ∧ t = { s with net := t.net } ∧ ∀ k, k ≠ r → t.crx k = s.crx k := by
  simp only [cycAccept, fresh, inTime, Bool.false_eq_true, if_false, crx_setCrx_same]
  exact ⟨trivial, rfl, fun k hk => crx_setCrx_ne _ _ hk⟩

section
variable {bs : List Byte} (free : s.per.measured ≠ some s.now)
include free

theorem cycReceive_down (down : s.portUp p = false) (fcs : Bool) : s.cycReceive p fcs bs = s := by
  simp only [cycReceive, inputTick_of_unmeasured free, down, Bool.not_false, if_true]

variable (up : s.portUp p = true)
include up

theorem cycReceive_badCheck : s.cycReceive p false bs = s.fcsFrame p := by
  simp only [cycReceive, inputTick_of_unmeasured free, up, Bool.not_true, Bool.not_false, Bool.false_eq_true, if_false, if_true]

theorem cycReceive_unread (none_ : cycRead bs = none) : s.cycReceive p true bs = s.dropFrame p := by
  simp only [cycReceive, inputTick_of_unmeasured free, up, none_, Bool.not_true, Bool.false_eq_true, if_false]

theorem cycReceive_read {f : CycFrame} (read : cycRead bs = some f) : s.cycReceive p true bs =
    if (List.range 16).filter (fun k => s.cycMatches k p f) = [] then s.dropFrame p
    else ((List.range 16).filter fun k => s.cycMatches k p f).foldl (fun s r => s.cycAccept r f) s := by
  simp only [cycReceive, inputTick_of_unmeasured free, up, read, Bool.not_true, Bool.false_eq_true, if_false]

theorem cycReceive_one {f : CycFrame} {r : Nat} (read : cycRead bs = some f) (one : (List.range 16).filter (fun k => s.cycMatches k p f) = [r]) :
    s.cycReceive p true bs = s.cycAccept r f := by
  rw [cycReceive_read free up read, one]
  rfl
end

theorem ptpPort_up (h : s.ptpPort p = true) : s.portUp p = true := (Bool.and_eq_true_iff.mp h).1
end State

/-! ### The obligation, part by part -/

section
variable {s : State} {p : Fin 3}

theorem exec_ptpMessageRx (m : PtpMsg) (sub : Fin 16) (s : State) (p : Fin 3) :
    exec (.ptpMessageRx p m.mtype m.domain m.seqId m.src m.req m.toPtpBody sub) s =
      if !s.portUp p.val then .next s else if !s.ptpPort p.val then .next (s.dropFrame p.val) else .next (s.ptpRx p.val m sub.val) := rfl

theorem exec_syncReceived (m : PtpMsg) (sub : Fin 16) (s : State) (p : Fin 3) : exec (.syncReceived p ⟨m, sub⟩) s =
      if !s.portUp p.val then .next s else if !s.ptpPort p.val then .next (s.dropFrame p.val) else .next (s.syncRx p.val m sub.val) := rfl

theorem ptpMessageRx_heard (on : s.ptpPort p.val = true) (m : PtpMsg) (sub : Fin 16) :
    exec (.ptpMessageRx p m.mtype m.domain m.seqId m.src m.req m.toPtpBody sub) s = .next (s.ptpRx p.val m sub.val) := by
  rw [exec_ptpMessageRx, on, State.ptpPort_up on]
  rfl

theorem syncReceived_heard (on : s.ptpPort p.val = true) (m : PtpMsg) (sub : Fin 16) :
    exec (.syncReceived p ⟨m, sub⟩) s = .next (s.syncRx p.val m sub.val) := by
  rw [exec_syncReceived, on, State.ptpPort_up on]
  rfl

theorem heard_unused (up : s.portUp p.val = true) (out : s.bit F.ETH_CFG_PTP_EN p.val = false) (m : PtpMsg) (sub : Fin 16) :
    exec (.syncReceived p ⟨m, sub⟩) s = .next (s.dropFrame p.val) ∧
      exec (.ptpMessageRx p m.mtype m.domain m.seqId m.src m.req m.toPtpBody sub) s = .next (s.dropFrame p.val) := by
  have off : s.ptpPort p.val = false := by rw [State.ptpPort, up, out]; rfl
  rw [exec_syncReceived, exec_ptpMessageRx, up, off]
  exact ⟨rfl, rfl⟩

/-- The update of the servo by a one-step Sync (R309). -/
theorem sync_updates {m : PtpMsg} {sub : Fin 16} (on : s.ptpPort p.val = true) (oneStep : m.twoStep = false) (domain : m.domain = s.fld F.TIME_CFG_DOMAIN)
    (slave : s.time.slavePort = p.val) (master : m.src = (s.eths p.val).parent) :
    let o := wholeNs ((s.rcvdAt p.val sub.val : Int) - m.time * 2 ^ 16 - m.corr - s.asym p.val - (s.eths p.val).meanPathDelay)
    (s.bit F.TIME_CFG_STEP_EN = true → max (s.fld F.TIME_CFG_STEP_THR) 100 < o.natAbs →
      ∃ t, exec (.syncReceived p ⟨m, sub⟩) s = .next t ∧ t.time.ptp = ((s.time.ptp : Int) - o * 2 ^ 16).toNat ∧ t.time.integ = 0 ∧
        t.time.servo = 1 ∧ t.time.offset = o ∧ t.time.freq = s.time.freq ∧ t.time.mt = s.time.mt ∧
        ∃ x ∈ t.msgs, x.source = sourceNo K.TIME_STEP 0) ∧
    (s.bit F.TIME_CFG_STEP_EN = false →
      ∃ t, exec (.syncReceived p ⟨m, sub⟩) s = .next t ∧ t.time.ptp = s.time.ptp ∧ t.time.offset = o ∧
        t.time.integ = max (-s.adjLimit) (min s.adjLimit (s.time.integ + sint 24 (s.fld F.TIME_CFG_KI) * o)) ∧
        t.time.freq = max (-s.adjLimit) (min s.adjLimit (sint 24 (s.fld F.TIME_CFG_KP) * o + t.time.integ)) ∧
        (s.mode ≠ .configure → t = { s with time := t.time, net := t.net })) := by
  intro o
  obtain ⟨n, updates⟩ := State.syncRx_updates (p := p.val) (sub := sub.val) domain slave master oneStep
  have run := (syncReceived_heard on m sub).trans (congrArg Host.Outcome.next updates)
  refine ⟨fun steps far => ?_, fun trims => ?_⟩
  · have step : State.servoUpdate { s with net := n } o = State.ptpStep { s with net := n } o :=
      if_pos (Bool.and_eq_true_iff.mpr ⟨steps, decide_eq_true far⟩)
    exact ⟨_, run.trans (congrArg Host.Outcome.next step), rfl, rfl, rfl, rfl, rfl, rfl, _, List.mem_append_right _ (List.mem_singleton_self _), rfl⟩
  · have trim : State.servoUpdate { s with net := n } o = State.servoTrim { s with net := n } o :=
      if_neg fun both => absurd ((Bool.and_eq_true_iff.mp both).1.symm.trans trims) (by decide)
    obtain ⟨ptp, offset, integ, freq, frame⟩ := State.servoTrim_trims { s with net := n } o
    exact ⟨_, run.trans (congrArg Host.Outcome.next trim), ptp, offset, integ, freq, fun mode => by rw [frame mode]⟩

/-- A message on its interval, and the Follow_Up of a Sync (R312, R313, R315). -/
theorem messages_sent (mtype : Fin 16) (seqId : Fin 65536) :
    let e := s.eths p.val
    let fu := mtype.val = mtFollowUp ∨ mtype.val = mtPdelayRespFu
    (s.ptpPort p.val = false → exec (.ptpMessageTx p mtype seqId) s = .next s) ∧
    (s.ptpPort p.val = true → ¬fu → e.portState ≠ psPreMaster → s.msgs = [] → e.nextTx.get mtype.val 0 ≤ s.now →
      exec (.ptpMessageTx p mtype seqId) s = .next (if s.sendsOnInterval p.val mtype.val then s.ptpSend p.val mtype.val else s)) ∧
    (s.ptpPort p.val = true → mtype.val = mtFollowUp → exec (.ptpMessageTx p mtype seqId) s = .next (s.sendFollowUp p.val seqId.val)) := by
  have run : exec (.ptpMessageTx p mtype seqId) s =
      if !s.ptpPort p.val then .next s
      else if mtype.val = mtFollowUp then .next (s.sendFollowUp p.val seqId.val)
      else if mtype.val = mtPdelayRespFu then .next (s.sendPdelayFu p.val seqId.val)
      else .next (s.ptpInterval p.val mtype.val) := rfl
  refine ⟨fun off => ?_, fun on plain state quiet due => ?_, fun on follow => ?_⟩
  · rw [run, off]
    rfl
  · rw [run, on, if_neg (by decide), if_neg (plain ∘ Or.inl), if_neg (plain ∘ Or.inr), State.ptpInterval_due state quiet due]
  · rw [run, on, if_neg (by decide), if_pos follow]

theorem sendFollowUp_unawaited {p seqId : Nat} (awaited : (s.eths p).awaited.contains (mtSync, seqId) = false) : s.sendFollowUp p seqId = s := by
  simp only [State.sendFollowUp, State.takeTx_unawaited awaited]
end

/-- Settles O56: each message, stamp, link event and frame does what one lemma above says; a state decision is followed port by port. -/
theorem portsAndCyclicFrames : Obligations.PortsAndCyclicFrames := by
  unfold Obligations.PortsAndCyclicFrames
  refine ⟨fun f wf => cycRead_cycPayload wf, fun p s => ?_⟩
  intro e counted
  have drops : counted (s.dropFrame p.val) := s.dropFrame_counts p.val
  refine ⟨fun m sub => ⟨fun down => ?_, fun up out => ?_, fun on oneStep domain slave master => sync_updates on oneStep domain slave master,
      fun on domain slave master twoStep => ?_⟩,
    fun mtype seqId => ?_, fun mtype seqId sub => ?_, fun m sub on state => ⟨fun kind => ?_, fun domain => ⟨fun kind master endToEnd => ?_,
      fun kind peer => ?_, fun y r ms kind endToEnd mine slave master awaited queue type number sync => ?_,
      fun y r h kind half mine number sender awaited queue type numbered => ?_, fun kind => ⟨fun own => ?_, fun other near => ?_⟩⟩⟩,
    fun off => ?_, fun on others quiet past => ⟨fun slave state => ?_, fun idle state => ?_⟩, fun sp high => ⟨fun free ok => ?_, fun bad => ?_, ?_⟩,
    fun down fcs => ?_, fun up fcs => ?_, fun c => ⟨fun none_ => ?_, fun f queue quiet loop enabled due => ?_⟩,
    fun fcs version subtype rest free => ⟨fun down => ?_, fun up bad => ?_, fun up good unread => ?_, fun f up good read => ⟨fun none_ => ?_,
      fun r one fresh => ⟨fun inTime => ?_, fun late => ?_⟩⟩⟩⟩
  · rw [exec_syncReceived, exec_ptpMessageRx, down]
    exact ⟨rfl, rfl⟩
  · obtain ⟨sync, other⟩ := heard_unused up out m sub
    exact ⟨_, sync, other, drops⟩
  · obtain ⟨n, waits, half⟩ := State.syncRx_waits (p := p.val) (sub := sub.val) domain slave master twoStep
    exact ⟨_, syncReceived_heard on m sub, by rw [waits], half⟩
  · obtain ⟨off, interval, follow⟩ := messages_sent (s := s) (p := p) mtype seqId
    refine ⟨off, fun on plain state quiet due => ⟨fun no => ?_, fun yes => ?_⟩, fun on isFollow => ⟨fun unawaited => ?_,
      fun y r awaited queue type number => ?_⟩⟩
    · rw [interval on plain state quiet due, if_neg (by rw [no]; decide)]
    · obtain ⟨x, sends⟩ := s.ptpSend_sends p.val mtype.val
      exact ⟨_, x, (interval on plain state quiet due).trans (congrArg Host.Outcome.next (if_pos yes)), sends⟩
    · rw [follow on isFollow, sendFollowUp_unawaited unawaited]
    · obtain ⟨x, carries⟩ := State.sendFollowUp_carries awaited queue type number
      exact ⟨_, x, follow on isFollow, carries⟩
  · have run : exec (.txTimestamp p mtype ⟨seqId, sub⟩) s = if s.fenced (.eth p.val) || s.boot.resetLow then .next s
        else if mtype.val == mtSync && s.bit F.ETH_CFG_ONE_STEP p.val then .next (s.oneStepStamp p.val seqId.val sub.val)
        else .next (s.txStamp p.val mtype.val seqId.val sub.val) := rfl
    refine ⟨fun none_ => ?_, fun free high => ?_⟩
    · refine run.trans (if_pos ?_)
      rcases none_ with h | h <;> simp [h]
    · have open_ : (s.fenced (.eth p.val) || s.boot.resetLow) = false := by rw [free, high]; rfl
      rw [run, if_neg (by rw [open_]; decide)]
      refine ⟨fun ⟨sync, one⟩ => ?_, fun other => ?_⟩
      · exact ⟨_, if_pos (by rw [sync, one]; rfl), s.oneStepStamp_carries p.val seqId.val sub.val⟩
      · have queued : (mtype.val == mtSync && s.bit F.ETH_CFG_ONE_STEP p.val) = false := by
          rcases other with h | h <;> simp [h]
        rw [if_neg (by rw [queued]; decide)]
        exact ⟨fun room => ⟨_, rfl, State.txStamp_enters room⟩, fun full => ⟨_, rfl, State.txStamp_drops full⟩⟩
  · exact ⟨_, (ptpMessageRx_heard on m sub).trans (congrArg Host.Outcome.next (State.ptpRx_discards state kind)), drops⟩
  · obtain ⟨x, answers⟩ := State.delayReqRx_answers (m := m) (sub := sub.val) master endToEnd
    exact ⟨_, x, (ptpMessageRx_heard on m sub).trans (congrArg Host.Outcome.next (State.ptpRx_delayReq state domain kind)), answers⟩
  · obtain ⟨x, answers⟩ := State.pdelayReqRx_answers (m := m) (sub := sub.val) peer
    exact ⟨_, x, (ptpMessageRx_heard on m sub).trans (congrArg Host.Outcome.next (State.ptpRx_pdelayReq state domain kind)), answers⟩
  · exact ⟨_, (ptpMessageRx_heard on m sub).trans (congrArg Host.Outcome.next (State.ptpRx_delayResp state domain kind)),
      State.delayRespRx_measures endToEnd mine slave master awaited queue type number sync⟩
  · exact ⟨_, (ptpMessageRx_heard on m sub).trans (congrArg Host.Outcome.next (State.ptpRx_pdelayFu state domain kind)),
      State.pdelayFuRx_measures half mine number sender awaited queue type numbered⟩
  · rw [ptpMessageRx_heard on, State.ptpRx_announce state domain kind, State.announceRx_own own]
  · exact ⟨_, (ptpMessageRx_heard on m sub).trans (congrArg Host.Outcome.next (State.ptpRx_announce state domain kind)),
      State.announceRx_enters other near⟩
  · exact congrArg Host.Outcome.next (if_neg (by rw [off]; decide))
  · exact ⟨_, congrArg Host.Outcome.next (if_pos on), State.announceTimeout_slave p.isLt on others quiet past slave state⟩
  · exact ⟨_, congrArg Host.Outcome.next (if_pos on), State.announceTimeout_listening p.isLt on others quiet past idle state⟩
  · exact ⟨_, if_neg (by rw [high, free, ok]; decide), s.linkChange_up p.val sp.val⟩
  · exact if_pos (by rw [high, bad]; simp)
  · exact ⟨_, if_neg (by rw [high]; simp), s.linkChange_down p.val sp.val⟩
  · exact if_pos (by rw [down]; rfl)
  · have run : exec (.ethFrameRx p fcs) s = .next (if fcs then s.dropFrame p.val else s.fcsFrame p.val) := if_neg (by rw [up]; decide)
    cases fcs with
    | true => exact ⟨_, run, s.dropFrame_counts p.val⟩
    | false => exact ⟨_, run, s.fcsFrame_counts p.val⟩
  · refine congrArg Host.Outcome.next ?_
    rw [State.cycSend, none_]
  · obtain ⟨sent, seq, frame, frames⟩ := State.cycSend_sends queue quiet loop enabled due
    exact ⟨_, rfl, sent, seq, frame, frames p.val p.isLt⟩
  · exact congrArg Host.Outcome.next (State.cycReceive_down free down fcs)
  · subst bad
    exact ⟨_, congrArg Host.Outcome.next (State.cycReceive_badCheck free up), s.fcsFrame_counts p.val⟩
  · subst good
    exact ⟨_, congrArg Host.Outcome.next (State.cycReceive_unread free up unread), drops, rfl⟩
  · subst good
    exact ⟨_, congrArg Host.Outcome.next ((State.cycReceive_read free up read).trans (if_pos none_)), drops, rfl⟩
  · subst good
    exact ⟨_, congrArg Host.Outcome.next (State.cycReceive_one free up read one), State.cycAccept_held fresh inTime⟩
  · subst good
    exact ⟨_, congrArg Host.Outcome.next (State.cycReceive_one free up read one), State.cycAccept_late fresh late⟩

end Sys2Proof.Machine
end
